-- ==== Sys2Proof/Word.lean ====
section
/-! DEFINITION. Bytes, the sparse key and value store every register file and memory of the model is kept in,
and the plainest byte and integer helpers. -/

namespace Sys2Proof

/-- One byte of a frame, a BLOB or a memory. -/
abbrev Byte := BitVec 8

/-- A sparse store: key and value pairs, keys strictly rising, no pair equal to what an unlisted key reads as. -/
abbrev Store (α : Type) := List (Nat × α)

/-- What key `k` reads as; an unlisted key reads as `d k`. -/
def Store.get {α : Type} (d : Nat → α) : Store α → Nat → α
  | [], k => d k
  | (k', v) :: m, k => if k' = k then v else Store.get d m k

/-- Insert a pair into a store that does not list its key. -/
def Store.insert {α : Type} : Store α → Nat → α → Store α
  | [], k, v => [(k, v)]
  | (k', v') :: m, k, v => if k < k' then (k, v) :: (k', v') :: m else (k', v') :: Store.insert m k v

/-- Drop a key. -/
def Store.erase {α : Type} (m : Store α) (k : Nat) : Store α := m.filter (fun c => c.1 != k)

/-- Write a value; writing what an unlisted key reads as removes the pair, so equal stores are equal data. -/
def Store.put {α : Type} [DecidableEq α] (d : Nat → α) (m : Store α) (k : Nat) (v : α) : Store α :=
  if v = d k then m.erase k else (m.erase k).insert k v

/-- The canonical form: strictly rising keys, no listed default. -/
def Store.wf {α : Type} [DecidableEq α] (d : Nat → α) : Store α → Bool
  | [] => true
  | [(k, v)] => decide (v ≠ d k)
  | (k, v) :: (k', v') :: m => decide (k < k') && decide (v ≠ d k) && Store.wf d ((k', v') :: m)

/-- `n` bytes of a natural number, least significant first (R338). -/
def leBytes : Nat → Nat → List Byte
  | 0, _ => []
  | n + 1, v => BitVec.ofNat 8 v :: leBytes n (v / 256)

/-- The natural number that bytes spell, least significant first (R338). -/
def leNat : List Byte → Nat
  | [] => 0
  | b :: bs => b.toNat + 256 * leNat bs

/-- The natural number that bytes spell, most significant first. -/
def beNat (bs : List Byte) : Nat := leNat bs.reverse

/-- `n` bytes of a natural number, most significant first. -/
def beBytes (n v : Nat) : List Byte := (leBytes n v).reverse

/-- The two's complement reading of an `n`-byte value. -/
def toSigned (n v : Nat) : Int := if v < 2 ^ (8 * n - 1) then (v : Int) else (v : Int) - (2 ^ (8 * n) : Nat)

/-- `n` bytes of a two's complement integer, least significant first. -/
def leInt (n : Nat) (v : Int) : List Byte := leBytes n (v % (2 ^ (8 * n) : Nat)).toNat

/-- Bit `i` of a natural number. -/
def bitOf (v i : Nat) : Bool := v / 2 ^ i % 2 == 1

/-- Set or clear bit `i` of a natural number. -/
def withBit (v i : Nat) (b : Bool) : Nat :=
  match bitOf v i, b with
  | false, true => v + 2 ^ i
  | true, false => v - 2 ^ i
  | _, _ => v

/-- A truth value as the 0 or 1 a BOOL object holds. -/
def boolInt (b : Bool) : Int := if b then 1 else 0

/-- `x` limited to the range from `lo` to `hi`. -/
def clampInt (lo hi x : Int) : Int := if x < lo then lo else if hi < x then hi else x

/-- The nearest integer to `n / d`, a tie rounded up. -/
def roundDiv (n : Int) (d : Nat) : Int := (2 * n + d) / (2 * d)

/-- The least natural number at or above `n / d`. -/
def ceilDiv (n d : Nat) : Nat := (n + d - 1) / d

/-- The bits of a number, most significant first. -/
def msbBits : Nat → Nat → List Bool
  | 0, _ => []
  | n + 1, v => bitOf v n :: msbBits n v

/-- The bits of a number, least significant first. -/
def lsbBits : Nat → Nat → List Bool
  | 0, _ => []
  | n + 1, v => bitOf v 0 :: lsbBits n (v / 2)

/-- The number that bits spell, most significant first. -/
def bitsNat (bs : List Bool) : Nat := bs.foldl (fun a b => 2 * a + b.toNat) 0

end Sys2Proof
end

