-- ==== Sys2Proof/Syntax.lean ====
section
/-! DEFINITION. The commands: one constructor of `Instr` for each row of the opcode table, with its operands. -/

namespace Sys2Proof

/-- The paths a management request can arrive on (R341): the three local transports and a port's in-band channel. -/
inductive Path where
  | spi
  | i2c
  | mdio
  | inband (port : Fin 8)
  deriving DecidableEq, Repr

/-- The subindex of a path in the per-transport objects (R366): 1 to 3, then 4 to 11. -/
def Path.sub : Path → Nat
  | .spi => 1
  | .i2c => 2
  | .mdio => 3
  | .inband p => 4 + p.val

/-- The place of a path in the vectors kept for the eleven paths. -/
def Path.idx : Path → Fin 11
  | .spi => 0
  | .i2c => 1
  | .mdio => 2
  | .inband p => ⟨3 + p.val, by omega⟩

/-- Whether a path is a local transport (R341). -/
def Path.isLocal : Path → Bool
  | .inband _ => false
  | _ => true

/-- What a request frame carries beside its object and payload (R342, R343): the path it arrives on, its TAG, its
schema tag when SCH is set, and, in band, the LPL field of the frame that carried its SYNC byte (R357). -/
structure Req where
  path : Path
  tag : Byte
  schema : Option Nat := none
  lpl : Nat := 3
  deriving DecidableEq, Repr

/-- The opcodes of R343. -/
inductive Opcode where
  | read | write | readBlock | writeBlock | walk | exec
  deriving DecidableEq, Repr

/-- The code of an opcode (R343). -/
def Opcode.code : Opcode → Nat
  | .read => 1 | .write => 2 | .readBlock => 3 | .writeBlock => 4 | .walk => 5 | .exec => 6

/-- An opcode from its code; the other codes are undefined (R343). -/
def Opcode.ofCode : Nat → Option Opcode
  | 1 => some .read | 2 => some .write | 3 => some .readBlock | 4 => some .writeBlock | 5 => some .walk
  | 6 => some .exec | _ => none

/-- What gives a housekeeping trigger: the source selected in HK.TRIG_SOURCE, or the 500 ns grid of a fall-back
(R371, R372). -/
inductive HkTrig where
  | selected | fallback
  deriving DecidableEq, Repr


/-- What a foreground calibration measured on a lane (R96): the words of the 128 sub-ADCs and the skew in the units of
R92, whether a sub-ADC's coarse search ended at a limit shows in its word; the self-noise in units of 0.001 LSB, and
the full scale in mVppd. -/
structure FgResult where
  coarse : Vector Int 128
  fine : Vector Int 128
  gain : Vector Int 128
  skew : Int
  noise : Nat
  fullScale : Nat
  deriving DecidableEq, Repr

/-- What a background commit estimates (R100): the corrections that would match each sub-ADC to its lane, and the skew
trim, in the units of R92. -/
structure BgEstimate where
  fine : Vector Int 128 := Vector.replicate 128 0
  gain : Vector Int 128 := Vector.replicate 128 0
  skew : Int := 0
  deriving DecidableEq, Repr

/-- What the devices deliver at a read of a deep-store line (R230): the devices whose EDC mismatched, and the bits of each
slice that differ from what is stored. -/
structure DsRead where
  edc : List (Fin 5) := []
  flips : List (Fin 5 × List Byte) := []
  deriving DecidableEq, Repr

/-- The outcome of a deep-store training (R225): the devices that failed, with the earliest failing step; densities read
and temperatures reported. -/
structure DsTraining where
  failed : List (Fin 5) := []
  step : Nat := 0
  density : Vector Nat 5 := Vector.replicate 5 1
  temp : Vector Int 5 := Vector.replicate 5 0
  deriving DecidableEq, Repr

/-- What a HOST_PRESET_WRITE writes: HOST.PRESET_SEL or HOST.PRESET_TABLE (R274). -/
inductive PresetWrite where
  | sel (v : Nat)
  | table (bytes : List Byte)
  deriving DecidableEq, Repr

/-- A pattern checker (R323). -/
inductive Checker where
  | line (l : Fin 8)
  | host (h : Fin 16)
  deriving DecidableEq, Repr


/-- What an engine did in a task (R402, R403): steps; of their slots those RETIRED, WASTED and BACK_STARVED, the rest being
FRONT_STARVED; RUNNING and held cycles; of the WASTED slots those squashed, of the FRONT_STARVED ones those without an instruction, of
the BACK_STARVED ones those with a blocked output token; words corrected and mailbox messages; and the code word of the instruction
retired when a programmable counter overflowed. -/
structure EngWork where
  steps : Nat := 0
  retired : Nat := 0
  wasted : Nat := 0
  back : Nat := 0
  cycles : Nat := 0
  held : Nat := 0
  squashed : Nat := 0
  noInstr : Nat := 0
  blocked : Nat := 0
  corrected : Nat := 0
  mails : Nat := 0
  offset : Nat := 0
  deriving DecidableEq, Repr


/-- What a 10.24 µs fabric window of a line lane measured (R66, R69): peak and least fills in granules of the lane's line
buffers and of those of its host lanes, and the canary cycles counted in tiles: those of the lane, and of tiles that count towards
no lane. Tiles carry the numbers of R557. -/
structure FabricMeas where
  rxPeak : Nat := 0
  txMin : Nat := 16
  hInPeak : Vector Nat 2 := Vector.replicate 2 0
  hOutMin : Vector Nat 2 := Vector.replicate 2 512
  tiles : List (Nat × Nat) := []
  deriving DecidableEq, Repr

/-- What a tick measured: the readings of the 32 monitors in units of 0.1 °C before the common correction, none for a
stopped one (R411); the speed of the half's FEC tiles in units of 0.001 before pacing (R160); the regulator's output in
mV (R426); background estimates per line lane (R100); the received rate of each host lane in ppb and its slicer SNR in Q8.8 dB (R292). A parity
error found by the tick's scan is SELF_FAULT's own row (R466). -/
structure TickIn where
  monitors : Vector (Option Int) 32 := Vector.replicate 32 (some 450)
  pool : Vector Nat 2 := Vector.replicate 2 1000
  vdd : Nat := 650
  estimates : Vector BgEstimate 8 := Vector.replicate 8 {}
  hostFreq : Vector Int 16 := Vector.replicate 16 0
  hostSnr : Vector Int 16 := Vector.replicate 16 0
  deriving DecidableEq, Repr

/-- What a BIST island ends a wave with: the patterns applied and its MISR (R487). -/
structure BistRes where
  patterns : Nat := 16384
  sig : Nat := 0
  deriving DecidableEq, Repr

/-- A word in which sensing found an error, and whether it had two bits wrong (R468, R477). -/
structure FuseFlip where
  word : Nat
  two : Bool
  deriving DecidableEq, Repr

/-- Who read a memory word, beside the scrubber (R470). A retain or hold word belongs to a frame of a port, a staging or
HAMPER word to a codeword of a lane, given by its order and the word's place in it; an engine stands at a code word. -/
inductive MemUser where
  | scrub
  | frame (port : Fin 8) (seq : Nat)
  | codeword (lane : Fin 8) (order : Nat) (part : Nat)
  | engine (offset : Nat)
  | other
  deriving DecidableEq, Repr

/-- Which memory a read was of (R467, R471). -/
inductive MemPlace where
  | group (g : Fin 44)
  | rom
  | shadow
  deriving DecidableEq, Repr

/-- A read of a protected memory (R468 to R471): its word (the scrubber's own word for a scrub read), the bits wrong, two
standing for more, and for a word written back, whether the verify read corrects again. -/
structure MemRead where
  place : MemPlace
  word : Nat := 0
  user : MemUser := .scrub
  errs : Nat := 1
  again : Bool := false
  deriving DecidableEq, Repr

/-- What an analogue check measured (R483): the bit errors and the SNR in Q8.8 dB of a lane; the largest deviation in LSB and
the worst converter or channel of a housekeeping item. -/
structure AnalogMeas where
  errors : Nat := 0
  snr : Nat := 5120
  dev : Nat := 0
  worst : Nat := 0
  deriving DecidableEq, Repr

/-- What the test access port is made to do (R540): a reset by TRST_N; an instruction: IDCODE, BYPASS, boundary scan with the
pins sampled or driven, privileged debug, or any other; a capture of the pins; a shift of bits; an update. -/
inductive TapOp where
  | trst
  | idcode
  | bypass
  | sample
  | extest
  | debug
  | unknown
  | capture (pins : List Bool)
  | shift (bits : List Bool)
  | update
  deriving DecidableEq, Repr



/-- The commands of the opcode table. -/
inductive Instr where
  /-- MMP_READ (R345). A READ request returns the value of one object subindex after every earlier commit. -/
  | mmpRead (r : Req) (ix sub : Nat) (pl : List Byte)
  /-- MMP_WRITE (R349). A WRITE request to an object with no row of its own is checked in order and commits the new value. -/
  | mmpWrite (r : Req) (exec : Bool) (ix sub : Nat) (pl : List Byte)
  /-- MMP_READ_BLOCK (R345). A READ_BLOCK request returns COUNT bytes of a STR or BLOB value from OFFSET. -/
  | mmpReadBlock (r : Req) (ix sub : Nat) (pl : List Byte)
  /-- MMP_WRITE_BLOCK (R346). A WRITE_BLOCK request adds a block to a BLOB sequence, which commits when the last block arrives. -/
  | mmpWriteBlock (r : Req) (ix sub : Nat) (pl : List Byte)
  /-- BLOCK_SEQUENCE_TIMEOUT (R346). A BLOB block sequence that receives no block for 1 s is discarded. -/
  | blockSequenceTimeout (ix sub : Nat)
  /-- MMP_WALK (R347). A WALK request returns the descriptor of the first object at or above INDEX that the class can reach, or END. -/
  | mmpWalk (r : Req) (ix sub : Nat) (pl : List Byte)
  /-- MMP_FORWARD_REQUEST (R357). A local request with RMT set is forwarded on an in-band tag to the far end of the named port and a timer starts. -/
  | mmpForwardRequest (r : Req) (op : Opcode) (port : Nat) (ix sub : Nat) (pl : List Byte)
  /-- MMP_FAR_REPLY (R357). A reply from the far end is matched to its in-band tag and rebuilt as the reply to the host, or discarded as late. -/
  | mmpFarReply (p : Fin 8) (frame : List Byte)
  /-- MMP_FAR_TIMEOUT (R357). The forwarding timer expires and the request is resent, or after the last retry the host is answered PARTNER_TIMEOUT. -/
  | mmpFarTimeout (p : Fin 8) (tag : Byte)
  /-- SPI_PUSH (R353). An SPI PUSH transaction appends request bytes to the request FIFO, from which whole MMP frames are taken. -/
  | spiPush (bs : List Byte)
  /-- SPI_PULL (R353). An SPI PULL transaction shifts out the count of waiting reply bytes and then the reply bytes. -/
  | spiPull (n : Nat)
  /-- SPI_STATUS (R354). An SPI STATUS transaction returns the status byte. -/
  | spiStatus
  /-- I2C_STATUS_READ (R355). An I2C read with no preceding command returns the status byte. -/
  | i2cStatusRead
  /-- MDIO_MMP_PUSH (R356). A write to MMP_PUSH delivers two request bytes to the MMP request stream. -/
  | mdioMmpPush (w : BitVec 16)
  /-- MDIO_MMP_PULL (R356). A read of MMP_PULL returns and consumes two reply bytes. -/
  | mdioMmpPull
  /-- MDIO_MMP_STATUS_WRITE (R356). Writing bit 15 of MMP_STATUS discards any partial request and any unread reply bytes. -/
  | mdioMmpStatusWrite (w : BitVec 16)
  /-- MGT_STANDIN_WAKE (R435). While MGT is not ON, a transport transaction or an INT or TRAP record casts the HOST vote on MGT and its bytes are discarded. -/
  | mgtStandinWake (via : Option Path)
  /-- PRIV_CHALLENGE_READ (R358). A read of MMP.PRIV_CHALLENGE returns 32 fresh random bytes bound to the transport. -/
  | privChallengeRead (r : Req)
  /-- PRIV_OPEN (R358). MMP.PRIV_OPEN verifies a signature of the pending challenge and opens a privileged session, or fails with AUTH_FAIL. -/
  | privOpen (r : Req) (sig : List Byte)
  /-- PRIV_LOCKOUT_END (R358). The 10 s lockout of a transport ends. -/
  | privLockoutEnd (p : Path)
  /-- PRIV_CLOSE (R358). MMP.PRIV_CLOSE ends the privileged session of the transport. -/
  | privClose (r : Req)
  /-- PRIV_IDLE_TIMEOUT (R358). A privileged session ends after MMP.PRIV_IDLE_S without a request on its transport. -/
  | privIdleTimeout (p : Path)
  /-- DICT_SAVE (R514). DICT.SAVE writes every S object to a settings slot and replies when the save verifies, or refuses within 60 s of the last save. -/
  | dictSave (r : Req)
  /-- DICT_RESTORE_DEFAULTS (R340). DICT.RESTORE_DEFAULTS sets every S object to its default without saving. -/
  | dictRestoreDefaults (r : Req)
  /-- DICT_STATE_READ (R447). A class H or P read of DICT.STATE returning READY releases the start-up assertion of INT_N. -/
  | dictStateRead (r : Req)
  /-- TIME_SET (R60). TIME.SET loads the WAYMARK counter with its argument, stepping the epoch if it moves back. -/
  | timeSet (r : Req) (t : Nat)
  /-- TIME_NEXT_SECONDS_WRITE (R55). A write of TIME.NEXT_SECONDS arms the seconds value for the next accepted PPS edge. -/
  | timeNextSecondsWrite (r : Req) (v : Nat)
  /-- TIME_PPS_ENABLE_WRITE (R56). Setting TIME.PPS_ENABLE enters ACQUIRING and clearing it enters FREE. -/
  | timePpsEnableWrite (r : Req) (v : Nat)
  /-- TIME_RATE_ADJ_WRITE (R57). A write of TIME.RATE_ADJ in FREE changes the counter increment, and is refused while PPS is enabled. -/
  | timeRateAdjWrite (r : Req) (v : Int)
  /-- PPS_EDGE (R54). An edge accepted by the PPS filter is tagged, checked against the acceptance window and corrects the counter phase and rate. -/
  | ppsEdge (phase : Fin 8)
  /-- PPS_WINDOW_CLOSE (R53). An acceptance window closes without an edge and a missed edge is counted. -/
  | ppsWindowClose
  /-- PPS_SLEW_DONE (R54). The half-rate slew of the counter ends when the phase error has been given up. -/
  | ppsSlewDone
  /-- TICK (R74). The 1.024 ms tick runs the per-tick actions of every block, starting with the fabric supply and shed decisions. -/
  | tick (m : TickIn)
  /-- FABRIC_WINDOW (R66). At the end of a 10.24 µs window the fill figures and canary counts give fill alarms and tile margins. -/
  | fabricWindow (l : Fin 8) (m : FabricMeas)
  /-- FABRIC_CLEAR_MIN (R83). FABRIC.CLEAR_MIN sets every FABRIC.LANE_MARGIN_MIN to 0xFFFF. -/
  | fabricClearMin (r : Req)
  /-- LINE_RX_OVERRUN (R68). A line receive buffer overruns, discards to half fill, and the gap symbols give zero LLRs and forced codewords. -/
  | lineRxOverrun (l : Fin 8) (codes : List Int)
  /-- LINE_TX_UNDERRUN (R64). A line transmit buffer underruns and an all-zero TIC codeword is sent. -/
  | lineTxUnderrun (l : Fin 8)
  /-- HOST_INGRESS_OVERRUN (R67). A host ingress buffer overruns and the block is replaced by an error-marked block. -/
  | hostIngressOverrun (h : Fin 16)
  /-- HOST_EGRESS_UNDERRUN (R64). A host egress buffer underruns and an error-marked block is sent. -/
  | hostEgressUnderrun (h : Fin 16)
  /-- ADC_CAL_FG (R95). LINE.ADC_CAL_FG starts a foreground calibration of the lane's converter. -/
  | adcCalFg (r : Req) (sub : Nat)
  /-- ADC_FG_CAL_DONE (R96). A foreground calibration completes, applies its shadow set and records PASS or FAIL. -/
  | adcFgCalDone (l : Fin 8) (m : FgResult)
  /-- RXSYNTH_BAND_SELECT_DONE (R88). A receive sampling synthesiser completes band selection and lock. -/
  | rxsynthBandSelectDone (h : Fin 2)
  /-- RXSYNTH_UNLOCK (R89). A half's receive sampling synthesiser loses lock, its converters deliver zeros and relock starts. -/
  | rxsynthUnlock (h : Fin 2)
  /-- RXSYNTH_RELOCK (R89). The receive sampling synthesiser detects lock again. -/
  | rxsynthRelock (h : Fin 2)
  /-- RXSYNTH_ATTEMPT_TIMEOUT (R89). A relock attempt fails after 50 µs, and after three failures band selection repeats. -/
  | rxsynthAttemptTimeout (h : Fin 2)
  /-- ADC_WINDOW (R105). At the end of a 10.24 µs window the converter computes RMS, mean and clip rate and runs the loss-of-signal detector. -/
  | adcWindow (l : Fin 8) (codes : List Int)
  /-- ADC_RECAL_TIMER (R100). A lane's recalibration timer expires and a background commit falls due. -/
  | adcRecalTimer (l : Fin 8)
  /-- ADC_BG_ENABLE_WRITE (R104). Setting LINE.ADC_BG_ENABLE makes a background commit due at once. -/
  | adcBgEnableWrite (r : Req) (sub v : Nat)
  /-- ADC_CORRECTION_RAMP_STEP (R93). Every 64 µs each moving correction word steps one unit towards its target. -/
  | adcCorrectionRampStep (l : Fin 8)
  /-- SUBADC_STUCK (R112). A sub-ADC returning one code for 2^16 samples in light is marked failed. -/
  | subadcStuck (l : Fin 8) (k : Fin 128)
  /-- TL_RESTART (R123). LINE.TL_RESTART takes the timing loop to ACQUIRE with the DEFAULT seed. -/
  | tlRestart (r : Req) (sub : Nat)
  /-- TL_TRACK_ENTRY (R123). After 64 steady blocks the timing loop enters TRACK and the equaliser enters CONVERGE. -/
  | tlTrackEntry (l : Fin 8) (codes : List Int)
  /-- TL_ACQUIRE_RETRY (R123). At the rate-word limit or after 2,048 blocks without TRACK the loop retries ACQUIRE. -/
  | tlAcquireRetry (l : Fin 8) (codes : List Int)
  /-- TL_LOCK_LOSS (R123). A rate-word limit, jump or low SNR in TRACK returns the loop to ACQUIRE and resets the equaliser. -/
  | tlLockLoss (l : Fin 8) (codes : List Int)
  /-- ADAPT_CYCLE_END (R134). An adaptation cycle ends and the ADAPT task is triggered on the lane's engines. -/
  | adaptCycleEnd (l : Fin 8) (codes : List Int)
  /-- ADAPT_TASK_DONE (R134). The ADAPT task writes its update to the idle bank and a swap is requested. -/
  | adaptTaskDone (l : Fin 8)
  /-- EQ_CONVERGE_END (R134). After 32 cycles the equaliser leaves CONVERGE for TRACK. -/
  | eqConvergeEnd (l : Fin 8)
  /-- BANK_SWAP (R132). A requested swap takes effect at a block boundary, making the idle bank active and copying it back. -/
  | bankSwap (l : Fin 8) (codes : List Int)
  /-- ROLLBACK_CHECK (R136). Sixteen blocks after a TRACK swap the MSE is compared and the swap rolled back if it doubled. -/
  | rollbackCheck (l : Fin 8) (codes : List Int)
  /-- STRUCTURAL_CHANGE (R135). A mode write or shed level 4 crossing rebuilds the idle bank for the new structure and requests a swap. -/
  | structuralChange (l : Fin 8)
  /-- LINE_RX_INVERT_WRITE (R130). A write of LINE.RX_INVERT negates the received signal from the next block and marks 16 blocks unsettled. -/
  | lineRxInvertWrite (r : Req) (sub v : Nat)
  /-- EQ_FREEZE_WRITE (R134). Setting or clearing LINE.EQ_FREEZE holds or resumes adaptation. -/
  | eqFreezeWrite (r : Req) (sub v : Nat)
  /-- EYE_CAPTURE (R143). LINE.EYE_CAPTURE starts a histogram capture of the detector input. -/
  | eyeCapture (r : Req) (sub : Nat)
  /-- EYE_CAPTURE_DONE (R143). After LINE.EYE_SYMBOLS symbols the histogram freezes and the eye height is computed. -/
  | eyeCaptureDone (l : Fin 8) (codes : List Int)
  /-- CODEWORD_ARRIVAL (R166). A TIC codeword is stamped, staged and given a HAMPER slot, and a free unit may take it. -/
  | codewordArrival (l : Fin 8) (codes : List Int) (errs : List Nat)
  /-- DECODE_END (R156). A decode unit finishes a codeword as CONVERGED or CAP_FAIL and passes it to HAMPER. -/
  | decodeEnd (h : Fin 2) (u : Fin 48) (delivered : Option (List Bool))
  /-- RELEASE_DEADLINE (R168). A codeword's release deadline passes and it is released FORCED. -/
  | releaseDeadline (l : Fin 8) (i layers : Nat)
  /-- LAYER_WATCHDOG (R165). A layer not complete after 50 ns fails its unit and returns the codeword to the waiting set. -/
  | layerWatchdog (h : Fin 2) (u : Fin 48) (layers : Nat)
  /-- FRAME_RECEIVED (R190). A TLF is delineated and its fields used according to which checks pass. -/
  | frameReceived (p : Fin 8)
  /-- MARKER_RECEIVED (R183). An alignment marker is checked for validity and updates lane lock. -/
  | markerReceived (l : Fin 8) (codes : List Int) (lag : Nat)
  /-- SLOT_FILL (R201). The transmitter fills a frame slot with STATUS, replay, DATA, ECHO or IDLE in priority order. -/
  | slotFill (p : Fin 8) (take : Nat)
  /-- RETX_TIMER (R200). A frame's retransmission timer expires and a replay is queued or the frame written off. -/
  | retxTimer (p : Fin 8) (seq : Nat)
  /-- WINDOW_AGE_WRITEOFF (R202). A frame whose first send is RETRY.WINDOW_US old is written off. -/
  | windowAgeWriteoff (p : Fin 8) (seq : Nat)
  /-- GAP_AGE_RELEASE (R204). A gap whose age reaches the window is released as lost in error-marked blocks. -/
  | gapAgeRelease (p : Fin 8) (seq : Nat)
  /-- STATUS_REPEAT (R195). While a gap remains, a STATUS frame falls due every RETRY.STATUS_REPEAT_NS. -/
  | statusRepeat (p : Fin 8)
  /-- ECHO_REQ_TIMER (R197). An ECHO_REQ falls due 10 µs after ALIGNED and every 1 ms after. -/
  | echoReqTimer (p : Fin 8)
  /-- RETRY_WINDOW_WRITE (R214). A write of RETRY.WINDOW_US writes off older frames when lowered and applies to later frames when raised. -/
  | retryWindowWrite (r : Req) (sub v : Nat)
  /-- DS_TRAINING_DONE (R225). Deep-store training ends READY, DEGRADED or FAILED. -/
  | dsTrainingDone (t : DsTraining)
  /-- DS_RETRAIN (R226). DS.RETRAIN orders a full training while no deep port carries. -/
  | dsRetrain (r : Req)
  /-- DS_TRAINING_RETRY (R225). One second after FAILED the controller retrains, up to three times. -/
  | dsTrainingRetry
  /-- DS_CHANNEL_RETRAIN (R226). Every 60 s or on a 10 °C change one channel repeats WCK alignment and read training. -/
  | dsChannelRetrain (d : Fin 5) (c : Fin 4)
  /-- DS_LINE_READ (R230). A deep-store line is read and decoded by hint, syndrome or trial, or found uncorrectable. -/
  | dsLineRead (p : Fin 8) (seq : Nat) (held : Bool) (first again verify : DsRead)
  /-- DS_WRITE (R232). A deep-store burst write is retried up to three times on an EDC write error. -/
  | dsWrite (p : Fin 8) (seq : Nat) (held : Bool) (burst : Fin 17) (fails : Nat) (bad : Option (Fin 5 × List Byte))
  /-- DS_WRITE_DONE (R219). A frame's deep-store write completes, letting its on-chip retain entry be reused. -/
  | dsWriteDone (p : Fin 8) (seq : Nat) (held : Bool)
  /-- DS_REFRESH (R236). A refresh command is issued at the standard rate times the band multiplier. -/
  | dsRefresh
  /-- DS_TEMP_READ (R237). Every 16 ms a memory device temperature is read and DS_MEM_HOT raised above threshold. -/
  | dsTempRead (d : Fin 5) (temp : Int)
  /-- TX_SYNTH_BAND_DONE (R254). The transmit synthesiser completes band selection or fails with no band. -/
  | txSynthBandDone (l : Fin 8) (found : Bool)
  /-- TX_SYNTH_LOCK (R254). The transmit synthesiser detects lock and the DAC check starts. -/
  | txSynthLock (l : Fin 8)
  /-- TX_SYNTH_LOCK_TIMEOUT (R255). No lock within 50 µs of band selection fails calibration and returns the port to OFF. -/
  | txSynthLockTimeout (l : Fin 8)
  /-- DAC_CHECK_DONE (R254). The DAC check completes, TX.STATE becomes MUTED and a held transmit enable runs. -/
  | dacCheckDone (l : Fin 8) (mvppd : Nat)
  /-- TX_SYNTH_UNLOCK (R257). The transmit synthesiser loses lock, the output mutes and relock starts. -/
  | txSynthUnlock (l : Fin 8)
  /-- TX_RELOCK_TIMEOUT (R257). A transmit relock attempt fails after 50 µs, and after three band selection repeats. -/
  | txRelockTimeout (l : Fin 8)
  /-- TX_MUTE_LIFT (R257). After lock has held 10 µs the mute lifts at the next codeword boundary. -/
  | txMuteLift (l : Fin 8)
  /-- OPTICS_UP_STEP (R258). An up-sequence delay expires and the next pins switch, ending with the laser and TX.STATE ACTIVE. -/
  | opticsUpStep (l : Fin 8)
  /-- OPTICS_DOWN_STEP (R258). A down-sequence delay expires and the next pins switch off, ending with TX.STATE MUTED. -/
  | opticsDownStep (l : Fin 8)
  /-- BIAS_STEP_DONE (R258). Every mapped bias channel reaches its code and the sequence continues. -/
  | biasStepDone (l : Fin 8)
  /-- WAVE_RAMP_STEP (R251). Every 64 µs each moving waveform entry and tap steps one unit towards its target. -/
  | waveRampStep (l : Fin 8)
  /-- TX_MUTE_FORCE_WRITE (R262). A write of TX.MUTE_FORCE mutes or unmutes the output at the next codeword boundary. -/
  | txMuteForceWrite (r : Req) (sub v : Nat)
  /-- HOST_SIGNAL_LOCK (R277). Signal detect and CDR lock take a host lane from SIGNAL to LOCKED. -/
  | hostSignalLock (h : Fin 16)
  /-- HOST_ALIGNED (R277). Two valid markers on every lane within skew take the lane to ALIGNED. -/
  | hostAligned (i : Fin 8) (skewNs : Nat) (order : List Nat)
  /-- HOST_MARKER_LOSS (R277). Four missed markers return the lane from ALIGNED to LOCKED. -/
  | hostMarkerLoss (i : Fin 8)
  /-- HOST_SIGNAL_LOSS (R277). Signal loss or CDR unlock returns the lane to SIGNAL. -/
  | hostSignalLoss (h : Fin 16) (cdr : Bool)
  /-- HOST_INGRESS_CODEWORD (R280). A host RS codeword is decoded and its blocks delivered, replaced by ERR257 where uncorrectable. -/
  | hostIngressCodeword (i : Fin 8) (levels : List (List Nat))
  /-- HOST_EGRESS_CODEWORD (R286). The egress path encodes a host RS codeword, marking it uncorrectable if it holds ERR257. -/
  | hostEgressCodeword (i : Fin 8)
  /-- EGRESS_STALL (R287). A stall empties the egress FIFO and idles or an ERR257 break follow by mode. -/
  | egressStall (i : Fin 8)
  /-- HOST_PRESET_WRITE (R274). A write of HOST.PRESET_SEL or HOST.PRESET_TABLE applies at once on an OFF port or is stored. -/
  | hostPresetWrite (r : Req) (sub : Nat) (w : PresetWrite)
  /-- PORT_APPLY_BREAKOUT (R28). PORT.APPLY_BREAKOUT checks the breakout values and takes every port of affected halves to OFF. -/
  | portApplyBreakout (r : Req)
  /-- BREAKOUT_DONE (R28). Lanes, shares and engines are reassigned and the breakout command completes. -/
  | breakoutDone
  /-- PORT_CMD_OFF (R295). PORT.CMD OFF takes the port to OFF through the down sequence and withdraws its votes. -/
  | portCmdOff (r : Req) (sub : Nat)
  /-- PORT_CMD_STANDBY (R295). PORT.CMD STANDBY calibrates a port from OFF or takes a running port down to STANDBY. -/
  | portCmdStandby (r : Req) (sub : Nat)
  /-- PORT_CMD_UP (R295). PORT.CMD UP brings the port through STANDBY to SEARCH with a transmit enable. -/
  | portCmdUp (r : Req) (sub : Nat)
  /-- PORT_MODE_WRITE (R46). A write of PORT.MODE changes cap, deadline and equaliser structure without dropping traffic. -/
  | portModeWrite (r : Req) (sub v : Nat)
  /-- PORT_RATE_SET_WRITE (R313). A write of PORT.RATE_SET on a live port starts a rate change. -/
  | portRateSetWrite (r : Req) (sub v : Nat)
  /-- RATE_CHANGE_COMPLETE (R313). The receive path is reloaded for the new rate and the timing loop enters ACQUIRE. -/
  | rateChangeComplete (p : Fin 8)
  /-- RATE_DETECT (R301). The rate detector names the far end's rate class. -/
  | rateDetect (l : Fin 8) (cls : Fin 4)
  /-- CODEWORD_LOCK (R301). A candidate offset whose 8 codewords pass the syndrome test gives codeword lock. -/
  | codewordLock (l : Fin 8) (codes : List Int)
  /-- FALSE_LOCK_TIMEOUT (R301). No valid marker within 2 AP lengths makes the lock false and the sweep resumes. -/
  | falseLockTimeout (l : Fin 8)
  /-- SEARCH_STATUS_TIMEOUT (R304). PORT.NO_PARTNER_MS in SEARCH without light or alignment sets NO_PARTNER or NO_ALIGN. -/
  | searchStatusTimeout (p : Fin 8)
  /-- CARRY_DELAY_EXPIRY (R306). PORT.CARRY_DELAY_US after ALIGNED the port enters CARRYING. -/
  | carryDelayExpiry (p : Fin 8)
  /-- NO_FRAME_TIMEOUT (R307). No frame passing both checks for PORT.NO_FRAME_MS takes the port to DRAINING or SEARCH. -/
  | noFrameTimeout (p : Fin 8)
  /-- LOS_HOLDOFF_EXPIRY (R307). Loss of signal lasting longer than PORT.LOS_HOLDOFF_US takes the port to DRAINING or SEARCH. -/
  | losHoldoffExpiry (p : Fin 8)
  /-- DRAIN_LAST_SLOTS_DONE (R309). After 64 LAST slots the down sequence starts. -/
  | drainLastSlotsDone (p : Fin 8)
  /-- DRAIN_COMPLETE (R310). With the hold empty the port leaves DRAINING for SEARCH or the commanded state. -/
  | drainComplete (p : Fin 8)
  /-- TEST_LINE_PRBS (R321). PORT.TEST_START 1 runs the line pattern generator and checker. -/
  | testLinePrbs (r : Req) (sub : Nat)
  /-- TEST_HOST_PRBS (R321). PORT.TEST_START 2 runs the host pattern generator and checker. -/
  | testHostPrbs (r : Req) (sub : Nat)
  /-- TEST_LOOP_HOST_ANALOG (R324). PORT.TEST_START 3 runs the depth 1 host analogue loop-back. -/
  | testLoopHostAnalog (r : Req) (sub : Nat)
  /-- TEST_LOOP_HOST_DIGITAL (R324). PORT.TEST_START 4 runs the depth 2 host digital loop-back. -/
  | testLoopHostDigital (r : Req) (sub : Nat)
  /-- TEST_LOOP_LINE_LOCAL (R326). PORT.TEST_START 5 runs the depth 3 local line loop-back. -/
  | testLoopLineLocal (r : Req) (sub : Nat)
  /-- TEST_LOOP_LINE_TIC (R327). PORT.TEST_START 6 runs the depth 4 TIC loop-back to the far end. -/
  | testLoopLineTic (r : Req) (sub : Nat)
  /-- TEST_DURATION_EXPIRY (R311). After PORT.TEST_DURATION_MS the sequence ends DONE and the port goes to PORT.RETURN_STATE. -/
  | testDurationExpiry (p : Fin 8)
  /-- CHECKER_LOCK (R323). A pattern checker locks after its matching symbol run. -/
  | checkerLock (c : Checker) (codes : List Int)
  /-- CHECKER_LOCK_LOSS (R323). 128 errors in 256 symbols lose checker lock and it relocks. -/
  | checkerLockLoss (c : Checker) (codes : List Int)
  /-- TEST_FAR_LOOP_WRITE (R328). A write of TEST.FAR_LOOP sets or clears the depth 5 loop-back at the next packet start. -/
  | testFarLoopWrite (r : Req) (sub v : Nat)
  /-- INJ_FIRE (R329). TEST.INJ_FIRE applies the selected injection kind to the next units. -/
  | injFire (r : Req) (sub : Nat)
  /-- FORCED_LOS_END (R329). The duration of a FORCED_LOS injection expires. -/
  | forcedLosEnd (p : Fin 8)
  /-- CAP_ARM (R332). TEST.CAP_ARM starts recording the capture ring. -/
  | capArm (r : Req)
  /-- CAP_TRIGGER (R332). TEST.CAP_TRIGGER triggers the armed capture. -/
  | capTrigger (r : Req)
  /-- CAP_TIME_TRIGGER (R332). The counter passing TEST.CAP_TRIG_TIME triggers the capture. -/
  | capTimeTrigger
  /-- CAP_DONE (R332). Recording ends after the post-trigger share and the capture reads DONE. -/
  | capDone
  /-- HK_TRIGGER (R371). A timer, PWM or continuous trigger makes the four converters sample their next scan entries. -/
  | hkTrigger (by_ : HkTrig) (raw : Vector Nat 4)
  /-- HK_TRIG_FALLBACK (R372). No PWM trigger for HK.TRIG_TIMEOUT_US falls back to CONTINUOUS. -/
  | hkTrigFallback
  /-- HK_REF_READY (R374). The reference buffer becomes ready 2 ms after enable. -/
  | hkRefReady
  /-- HK_SELF_CAL (R374). HK.SELF_CAL starts a converter self-calibration. -/
  | hkSelfCal (r : Req)
  /-- HK_SELF_CAL_DONE (R375). Self-calibration writes new factors and ends PASS or FAIL. -/
  | hkSelfCalDone (off gain : Vector Int 4)
  /-- HK_ADC_RESULT_READ (R376). A read of HK.ADC_RESULT returns the result and clears OVERRUN. -/
  | hkAdcResultRead (r : Req) (sub : Nat)
  /-- HK_FILTER_OUTPUT (R378). The filter engine produces a channel output and updates its detectors. -/
  | hkFilterOutput (k : Fin 16)
  /-- HK_FIR_SWAP (R379). HK.FIR_SWAP makes the idle coefficient bank active at the next engine cycle. -/
  | hkFirSwap (r : Req)
  /-- HK_LOAD (R383). HK.LOAD strobes every pending auxiliary DAC code to its output. -/
  | hkLoad (r : Req)
  /-- HK_LOAD_TIMER (R383). The housekeeping timer gives a LOAD strobe every HK.LOAD_DIV periods. -/
  | hkLoadTimer
  /-- LDAC_N_ASSERT (R383). An assertion of LDAC_N gives a LOAD strobe. -/
  | ldacNAssert
  /-- ADAC_SLEW_STEP (R384). A channel moves one slew step towards its target. -/
  | adacSlewStep (k : Fin 16)
  /-- ADAC_SHORT (R385). A channel at its current or compliance limit for 10 µs sets SHORT or COMPLIANCE. -/
  | adacShort (k : Fin 16) (atLimit : Bool)
  /-- ENG_TASK_DONE (R394). An engine task ends and commits its results in one atomic write. -/
  | engTaskDone (e : Fin 128) (task : Nat) (w : EngWork)
  /-- ENG_TASK_MISS (R394). A task reaching its deadline is abandoned with its class outcome. -/
  | engTaskMiss (e : Fin 128) (task : Nat) (w : EngWork)
  /-- ENG_HALT (R399). An engine halts on a forbidden access or memory error and its restart begins. -/
  | engHalt (e : Fin 128) (memory : Bool) (offset : Nat)
  /-- ENG_RESTART_DONE (R399). The reloaded engine returns to IDLE, or stays HALTED after a third halt in 10 s. -/
  | engRestartDone (e : Fin 128)
  /-- ENG_RESTART (R399). ENG.RESTART restarts a HALTED engine. -/
  | engRestart (r : Req) (sub : Nat)
  /-- ENG_PMU_CLEAR (R404). ENG.PMU_CLEAR zeroes the counters of the named engines. -/
  | engPmuClear (r : Req) (which : Nat)
  /-- ENG_PMU_FREEZE_WRITE (R404). A write of ENG.PMU_FREEZE stops or restarts the counters of the named domains. -/
  | engPmuFreezeWrite (r : Req) (v : Nat)
  /-- PMU_OVERFLOW (R405). A programmable counter wraps, sets its status bit and may interrupt to write a sample. -/
  | pmuOverflow (e : Fin 128) (j : Fin 6) (task offset : Nat)
  /-- PMU_OVF_STATUS_WRITE (R408). A write of ENG.PMU_OVF_STATUS clears the bits written as 1. -/
  | pmuOvfStatusWrite (r : Req) (sub v : Nat)
  /-- PMU_SAMPLE_READ (R405). A read of ENG.PMU_SAMPLE returns the sample and clears LOST. -/
  | pmuSampleRead (r : Req) (sub : Nat)
  /-- DIODE_CONVERSION (R414). Every 100 µs the diode is converted and checked for failure. -/
  | diodeConversion (reading : Option Int)
  /-- MONITOR_MAPPING (R412). Every 10 s, or 1 ms after an AVS change, one common correction maps the monitors to the diode. -/
  | monitorMapping
  /-- THROTTLE_RISE (R417). At or above THROTTLE the step rises by one every 10 ms. -/
  | throttleRise
  /-- THROTTLE_FALL (R417). Below the THROTTLE clear level the step falls by one every 100 ms. -/
  | throttleFall
  /-- THERMAL_SHUTDOWN (R419). THERMAL.TJ reaching SHUTDOWN enters the safe state and turns off every domain but AON and MGT. -/
  | thermalShutdown (byDiode : Bool)
  /-- POWERED_HOUR_END (R423). At the end of each powered hour the host-lane baselines and hour counters are updated. -/
  | poweredHourEnd
  /-- PLAN_DUE (R424). 24 powered hours after the last plan a COMPASS plan falls due. -/
  | planDue
  /-- PLAN_COMMIT (R424). COMPASS computes and commits plan voltage, cold offset, recalibration intervals and outlook, then saves. -/
  | planCommit (speed : Nat) (bandgap : Int)
  /-- COMPASS_PLAN_NOW (R424). COMPASS.PLAN_NOW runs a plan at the next tick. -/
  | compassPlanNow (r : Req)
  /-- AVS_REQUEST_SEND (R426). A changed supply request is sent over AVSBus. -/
  | avsRequestSend
  /-- AVS_NO_ACK (R426). An unacknowledged or bad request is retried, and after the third retry COMPASS_AVS_FAIL is raised. -/
  | avsNoAck
  /-- THERMAL_CLEAR_PEAK (R429). THERMAL.CLEAR_PEAK sets THERMAL.TJ_PEAK to −32,768. -/
  | thermalClearPeak (r : Req)
  /-- VOTE_HOST_WRITE (R435). A write of POWER.VOTE_HOST casts or withdraws the HOST vote on a domain. -/
  | voteHostWrite (r : Req) (sub v : Nat)
  /-- VOTE_FAR_WRITE (R435). A write of POWER.VOTE_FAR casts or withdraws the FAR vote while granted. -/
  | voteFarWrite (r : Req) (sub v : Nat)
  /-- WAKE_PIN_EDGE (R436). An assertion edge on WAKE[p] casts the HOST vote on every mapped domain. -/
  | wakePinEdge (p : Fin 4) (high : Bool)
  /-- DOMAIN_ENTRY_DONE (R433). A domain completes quiesce, seal and isolate and reads RET or OFF. -/
  | domainEntryDone (d : Fin 36)
  /-- DOMAIN_RELEASE (R438). A waking domain is released to ON after its offset and retention check, and its follow-on work starts. -/
  | domainRelease (d : Fin 36) (lostBank : Option Nat)
  /-- RELEASE_TIMEOUT (R440). A domain not released within twice its release time goes OFF and raises PWR_SWITCH_FAIL. -/
  | releaseTimeout (d : Fin 36)
  /-- POWER_ON (R442). The supplies rising release power-on reset and start-up begins at step 1. -/
  | powerOn (strap : Fin 4)
  /-- RESET_N_ASSERT (R533). An assertion of RESET_N resets every domain and mutes the line outputs. -/
  | resetNAssert
  /-- RESET_N_RELEASE (R445). Release of RESET_N gives start-up step 2. -/
  | resetNRelease (strap : Fin 4)
  /-- UNDERVOLTAGE (R529). A supply below its monitor level for 1 µs asserts power-on reset. -/
  | undervoltage
  /-- CHIP_RESET (R442). A chip reset takes every domain but AON by its cold path and start-up resumes. -/
  | chipReset
  /-- POWER_CHIP_RESET (R442). POWER.CHIP_RESET replies and orders a chip reset 1 ms later. -/
  | powerChipReset (r : Req)
  /-- FUSE_SENSE_DONE (R445). Fuses are sensed, the life-cycle state read and DICT.STATE set STARTING at step 3. -/
  | fuseSenseDone (flips : List FuseFlip)
  /-- BIST_WAVE_DONE (R488). A logic BIST wave seals and compares its islands' signatures. -/
  | bistWaveDone (res : List BistRes)
  /-- BOOT_LOADED (R508). BOOT is verified and the journal decides copy, resume or nothing at step 5. -/
  | bootLoaded (ok : Bool)
  /-- COPY_BLOCK_DONE (R509). A 64 KiB block of an activation copy is written and a progress record follows. -/
  | copyBlockDone
  /-- COPY_VERIFY_DONE (R509). An activation copy is read back and checked, writing COMMITTED, repeating or ABANDONED. -/
  | copyVerifyDone (ok : Bool)
  /-- ACTIVE_LOADED (R510). The loaded image is verified at step 6, falling back to the other partition on failure. -/
  | activeLoaded
  /-- SETTINGS_LOADED (R513). At step 7 the newest readable settings slot is loaded and start-up votes cast. -/
  | settingsLoaded
  /-- STARTUP_READY (R445). At step 8 DICT.STATE becomes READY, INT_N asserts and the start commands are issued. -/
  | startupReady
  /-- LOOKOUT_RECORD_ACCEPT (R458). The collector accepts one record per cycle, logs it and applies its reactions. -/
  | lookoutRecordAccept
  /-- SAFE_STATE_ENTRY (R464). A FATAL record, self-fault, chip storm or thermal shutdown takes the device into the safe state. -/
  | safeStateEntry
  /-- SELF_FAULT (R466). A parity error in LOOKOUT storage takes the device straight into the safe state. -/
  | selfFault (cause : Fin 3)
  /-- INT_PENDING_WRITE (R460). Writing 1s to FAULT.INT_PENDING clears those bits and may release INT_N. -/
  | intPendingWrite (r : Req) (bs : List Byte)
  /-- ERR_PENDING_WRITE (R460). Writing 1s to FAULT.ERR_PENDING clears those bits and may release ERR_N. -/
  | errPendingWrite (r : Req) (bs : List Byte)
  /-- FAULT_LOG_CLEAR (R459). FAULT.LOG_CLEAR empties the log and sets FAULT.HIGHEST to 0xFF. -/
  | faultLogClear (r : Req)
  /-- FAULT_RAISE (R473). FAULT.RAISE raises HOST_TEST with the argument as detail word. -/
  | faultRaise (r : Req) (v : Nat)
  /-- MEM_SCRUB_READ (R472). Every 1 µs each ON group scrubs one word. -/
  | memScrubRead (reads : List MemRead)
  /-- FUSE_PROGRAM (R479). FUSE.PROGRAM blows and verifies one module-area fuse word. -/
  | fuseProgram (r : Req) (fail : Option Nat)
  /-- LC_ADVANCE (R491). LC.ADVANCE blows the bit for the next life-cycle state. -/
  | lcAdvance (r : Req) (v : Nat)
  /-- LC_CHALLENGE_READ (R492). A read of LC.CHALLENGE returns fresh bytes for the transport's RETURNED token. -/
  | lcChallengeRead (r : Req)
  /-- LC_RETURN (R492). LC.RETURN verifies a signed token and blows the RETURNED bit. -/
  | lcReturn (r : Req) (token : List Byte)
  /-- LC_RETIRE (R491). LC.RETIRE blows the RETIRED bit. -/
  | lcRetire (r : Req)
  /-- SELFTEST_ANALOG_RUN (R482). SELFTEST.ANALOG_RUN starts the analogue checks of the named items in waves. -/
  | selftestAnalogRun (r : Req) (v : Nat)
  /-- ANALOG_CHECK_DONE (R483). An analogue self-check of one item ends PASS, FAIL, SKIPPED or ABORTED. -/
  | analogCheckDone (item : Fin 26) (m : AnalogMeas)
  /-- SELFTEST_BIST_RUN (R489). SELFTEST.BIST_RUN replies and makes a chip reset that runs the FULL set on the named islands. -/
  | selftestBistRun (r : Req) (v : Nat)
  /-- UPDATE_OPEN (R502). UPDATE.OPEN opens a download session and erases STAGING. -/
  | updateOpen (r : Req) (len : Nat)
  /-- STAGING_ERASE_DONE (R502). STAGING is erased and the session reads RECEIVING. -/
  | stagingEraseDone
  /-- UPDATE_STAGING_WRITE (R503). A staging page block is checked and queued for programming. -/
  | updateStagingWrite (r : Req) (payload : List Byte)
  /-- PAGE_PROGRAM_DONE (R503). A queued page is programmed and read back into the page map. -/
  | pageProgramDone (ok : Bool)
  /-- UPDATE_VERIFY (R504). UPDATE.VERIFY starts verification of the staged image. -/
  | updateVerify (r : Req)
  /-- VERIFY_DONE (R504). Verification ends PASS, setting VERIFIED, or fails back to RECEIVING. -/
  | verifyDone
  /-- UPDATE_ACTIVATE_NEXT_START (R505). UPDATE.ACTIVATE 0 writes a PENDING record so the copy runs at the next start. -/
  | updateActivateNextStart (r : Req)
  /-- UPDATE_ACTIVATE_RESET (R505). UPDATE.ACTIVATE 1 writes a PENDING record and makes a chip reset 1 ms later. -/
  | updateActivateReset (r : Req)
  /-- UPDATE_CLOSE (R501). UPDATE.CLOSE ends the holder's session. -/
  | updateClose (r : Req)
  /-- UPDATE_ABORT (R501). UPDATE.ABORT ends any session. -/
  | updateAbort (r : Req)
  /-- UPDATE_CONFIRM (R511). UPDATE.CONFIRM in probation writes CONFIRMED and the confirm save. -/
  | updateConfirm (r : Req)
  /-- PROBATION_EXPIRY (R511). Probation running out without a confirm raises UPD_PROBATION_EXPIRED and makes a chip reset. -/
  | probationExpiry
  /-- CONVERSION_SAVE (R514). One second after step 8 in probation the device makes a conversion save if needed. -/
  | conversionSave
  /-- POR_DELAY_EXPIRY (R445). 100 µs after power-on reset is released, with RESET_N already released, the device's own timer gives start-up step 2. -/
  | porDelayExpiry
  /-- I2C_PUSH (R355). An I2C write transaction with a command byte appends PUSH data to the request FIFO. -/
  | i2cPush (bs : List Byte)
  /-- I2C_PULL (R355). An I2C write of 0x02 followed by a repeated-start read returns the reply count and reply bytes. -/
  | i2cPull (n : Nat)
  /-- PWM_PERIOD_START (R387). At the start of each PWM period a pending period or duty write takes effect and the output begins its active time. -/
  | pwmPeriodStart (i : Fin 4)
  /-- CODEWORD_CANDIDATE_FAIL (R301). A candidate symbol offset whose 8 codewords fail the syndrome test is dropped, and the sweep moves to the next candidate or interpretation. -/
  | codewordCandidateFail (l : Fin 8) (codes : List Int)
  /-- S1_AM_RECEIVED (R315). An inner-FEC alignment marker of the IEEE clause is checked, giving or losing S1 marker lock and ALIGNED on an S1 port. -/
  | s1AmReceived (l : Fin 8) (err lock : Bool)
  /-- S1_CODEWORD_DECODED (R316). An S1 inner-FEC codeword is decoded by the lane's fixed decoder and the S1 statistics are updated. -/
  | s1CodewordDecoded (l : Fin 8) (received corrected : Nat) (uncorrectable marked : Bool) (data : List Bool) (errs : Nat)
  /-- SETTINGS_SAVE_DONE (R514). A settings slot write is read back, and the save verifies or fails with UPD_FLASH and DICT.SAVE_PENDING set again. -/
  | settingsSaveDone (failSector : Option Nat)
  /-- TEST_ACCESS_PORT (R540). TCK-clocked TAP operations or a TRST_N assertion drive the IEEE 1149.1 port, giving BYPASS, IDCODE or, in FACTORY and RETURNED, boundary scan. -/
  | testAccessPort (op : TapOp)
  deriving DecidableEq, Repr

end Sys2Proof
end

