-- ==== Sys2Proof/Config.lean ====
section
/-! DEFINITION. What an implementation fixes and the spec leaves open: constants with no body (log entries 7 to 9 and 210). -/

namespace Sys2Proof

/-- The 32 fresh bytes the device's random source gives at its n-th use (R358, R492). -/
opaque Config.random : Nat → BitVec 256

/-- ECDSA P-384 verification of a signature over SHA-384 of a message (R358, R492, R499): the key's 49 bytes, the
message, the signature. -/
opaque Config.ecdsaVerify : List Byte → List Byte → List Byte → Bool

/-- SHA-384 of a byte string, as 48 bytes' worth of bits (R499, R506). -/
opaque Config.sha384 : List Byte → BitVec 384

/-- A coefficient of the housekeeping filter's resampler in Q1.15, which the spec does not give (R377): the phase of 64, the tap of 8. -/
opaque Config.hkRom : Nat → Nat → Int

/-- Tokens that one cycle of a tile's canary loop stands for (R69), by tile number. -/
opaque Config.tokensPerCycle : Nat → Nat

/-- Tokens that a 10.24 µs window requires of a tile (R69), by tile number, by the rate set and the mode of its lane: the tile
number stands for the lane's share of its work. -/
opaque Config.tokensRequired : Nat → Nat → Nat → Nat

/-- A coefficient of the resampler's ROM (R118): the set (0 for N1, 1 for N2 and S1), the phase of 64, the tap of 8. It turns samples in
units of 1/4 LSB into level units of 2^-16. -/
opaque Config.resampleRom : Nat → Nat → Nat → Int

/-- The proportional and the integral path of the timing loop (R121), at a damping factor of 0.9: the rate set, the bandwidth in kHz and
the timing error summed over 32 symbols give the move of the position in 2^-32 samples and of the rate word. -/
opaque Config.loopPhase : Nat → Nat → Int → Int
opaque Config.loopRate : Nat → Nat → Int → Int

/-- The alignment markers of the host PCS (R278, R285), by the number of lanes of the instance: how many 257-bit blocks a group takes,
how many codewords lie between the starts of two groups, and a bit of a group; and whether that bit is one of the degraded-SER
bits, which are sent as 0 (R268). -/
opaque Config.hostMarkerBlocks : Nat → Nat
opaque Config.hostMarkerPeriod : Nat → Nat
opaque Config.hostMarkerBit : Nat → Nat → Bool
opaque Config.hostDegradedBit : Nat → Nat → Bool

/-- The level index of SSPRQ at a place of its period of 65,535 symbols, which IEEE 802.3 defines (R322). -/
opaque Config.ssprqLevel : Nat → Nat

/-- A value the spec leaves open, fresh at its n-th use. -/
opaque Config.freeValue : Nat → Nat

/-- The 32 bytes of the n-th use of the random source. -/
def Config.randomBytes (n : Nat) : List Byte := beBytes 32 (Config.random n).toNat

/-- A SHA-384 digest as bytes, most significant first. -/
def Config.digest (m : List Byte) : List Byte := beBytes 48 (Config.sha384 m).toNat

end Sys2Proof
end

