-- ==== Sys2Proof/Machine/Inner.lean ====
section
/-! DEFINITION. The Trathibex Inner Code: parity checks, encoder, soft values and the layered min-sum decoder
(R149 to R156). -/

namespace Sys2Proof.Machine

/-- The block row that is zero in a payload block column (R150). -/
def zeroRow (j : Nat) : Nat := (j + j / 32) % 4

/-- The shift of block (r, j), where it is non-zero (R150). -/
def blockShift (r j : Nat) : Option Nat :=
  if j < 60 then (if r = zeroRow j then none else some (r * (j + 1) % 64))
  else if j < 63 then (if r = j - 60 ∨ r = j - 59 then some 0 else none)
  else if r = 3 then some 0 else none

/-- The codeword bits of check 64r + a (R150). -/
def checkBits (r a : Nat) : List Nat :=
  (List.range 64).filterMap (fun j => (blockShift r j).map (fun s => 64 * j + (a + s) % 64))

/-- The sum of a list of bits. -/
def xorAll (l : List Bool) : Bool := l.foldl (· != ·) false

/-- Whether every check is satisfied. -/
def syndromeZero (c : Array Bool) : Bool :=
  (List.range 4).all (fun r => (List.range 64).all (fun a => !xorAll ((checkBits r a).map (fun v => c.getD v false))))

/-- The number of unsatisfied checks. -/
def unsatisfied (c : Array Bool) : Nat :=
  ((List.range 4).map (fun r => ((List.range 64).filter (fun a => xorAll ((checkBits r a).map (fun v => c.getD v false)))).length)).sum

/-- The payload sum s[r][a] of the encoder (R151). -/
def rowSum (c : Array Bool) (r a : Nat) : Bool :=
  xorAll ((List.range 60).map (fun j => r != zeroRow j && c.getD (64 * j + (a + r * (j + 1)) % 64) false))

/-- The codeword of a payload of 3,840 bits (R151); bits the payload lacks count as 0. -/
def ticEncode (payload : List Bool) : List Bool :=
  let p := ((List.range 3840).map (fun i => payload.getD i false))
  let c := p.toArray
  let row (r : Nat) : List Bool := (List.range 64).map (rowSum c r)
  let add (x y : List Bool) : List Bool := List.zipWith (· != ·) x y
  let p0 := row 0
  let p1 := add (row 1) p0
  let p2 := add (row 2) p1
  let p3 := add (row 3) p2
  p ++ p0 ++ p1 ++ p2 ++ p3

/-- The level index of a Gray pair (R153). -/
def grayIndex (a b : Bool) : Nat := match a, b with | false, false => 0 | false, true => 1 | true, true => 2 | true, false => 3

/-- The level indices of a codeword's symbols, in sending order (R153). -/
def symbolsOf : List Bool → List Nat
  | a :: b :: rest => grayIndex a b :: symbolsOf rest
  | _ => []

/-- The bits of level indices (R153). -/
def bitsOfSymbols (l : List Nat) : List Bool :=
  (l.map (fun x => match x with | 0 => [false, false] | 1 => [false, true] | 2 => [true, true] | _ => [true, false])).flatten

/-- Precode and invert level indices (R245, R246, R271): the indices sent and the precoder's last index. -/
def precodeLevels (on inv : Bool) : Nat → List Nat → List Nat × Nat
  | p, [] => ([], p)
  | p, x :: xs =>
    let q := if on then (x + 4 - p) % 4 else x
    let (ys, pl) := precodeLevels on inv (if on then q else p) xs
    ((if inv then 3 - q else q) :: ys, pl)

/-- Level indices with the far side's precoding undone (R129, R268): the indices and the last one received. -/
def unprecodeLevels : Nat → List Nat → List Nat × Nat
  | p, [] => ([], p)
  | p, x :: xs =>
    let r := unprecodeLevels x xs
    ((x + p) % 4 :: r.1, r.2)

/-- TIC.LLR_STEP in units of 2^-8 nats for a mean squared error in units of 2^-16; 0 stands for the 0.25 before the first
window (R154). The value stops at the object's largest. -/
def llrStep (mse : Nat) : Nat :=
  let m := if mse = 0 then 16384 else mse
  min 32767 (max 128 (roundDiv ((4 * 65536 * 256 : Nat)) (10 * m)).toNat)

/-- The soft value of a bit, from d1 − d0 in units of 2^-16 squared level units (R154); none in a discard gap (R155). -/
def softValue (mse step : Nat) (d : Option Int) : Int :=
  match d with
  | none => 0
  | some d =>
    let m := if mse = 0 then 16384 else mse
    clampInt (-7) 7 (roundDiv (128 * d) (m * step))

/-- The input hard decision of a soft value (R155). -/
def signBit (q : Int) : Bool := decide (q < 0)

/-- The decoder's posteriors and check messages (R156). -/
structure MinSum where
  post : Array Int
  msgs : Array (List Int)

/-- The start of a decoding (R156). -/
def MinSum.start (q : List Int) : MinSum :=
  ⟨((List.range 4096).map (fun i => q.getD i 0)).toArray, (List.replicate 256 []).toArray⟩

/-- One check's new messages from the t of its bits (R156): offset 1, magnitudes up to 31. -/
def checkMessages (t : List Int) : List Int :=
  t.mapIdx (fun i _ =>
    let others := t.eraseIdx i
    let m := match others with
      | [] => 0
      | x :: xs => xs.foldl (fun a y => min a y.natAbs) x.natAbs
    let neg := xorAll (others.map (fun y => decide (y < 0)))
    let mag : Int := max 0 (min (m - 1) 31)
    if neg then -mag else mag)

/-- One check of a layer (R156). -/
def MinSum.check (d : MinSum) (r a : Nat) : MinSum :=
  let ck := 64 * r + a
  let vs := checkBits r a
  let old := d.msgs.getD ck []
  let t := vs.mapIdx (fun i v => d.post.getD v 0 - old.getD i 0)
  let new := checkMessages t
  let upd := List.zip vs (List.zipWith (· + ·) t new)
  ⟨upd.foldl (fun p u => p.setIfInBounds u.1 (clampInt (-127) 127 u.2)) d.post, d.msgs.setIfInBounds ck new⟩

/-- One layer (R156). -/
def MinSum.layer (d : MinSum) (r : Nat) : MinSum := (List.range 64).foldl (fun d a => d.check r a) d

/-- The decided bits. -/
def MinSum.hard (d : MinSum) : Array Bool := d.post.map signBit

/-- Run `n` layers, the first of them layer `k` of the count (R156). -/
def MinSum.layers (d : MinSum) (k : Nat) : Nat → MinSum
  | 0 => d
  | n + 1 => (d.layer (k % 4)).layers (k + 1) n

/-- Iterate up to a cap: the state, the iterations done, and whether the syndrome came to zero (R156). -/
def MinSum.iterate (d : MinSum) (done : Nat) : Nat → MinSum × Nat × Bool
  | 0 => (d, done, false)
  | n + 1 =>
    let d1 := d.layers 0 4
    if syndromeZero d1.hard then (d1, done + 1, true) else d1.iterate (done + 1) n

/-- What a unit makes of a codeword (R156): decided bits, iterations, and whether it converged. -/
def ticDecode (q : List Int) (cap : Nat) : List Bool × Nat × Bool :=
  let d := MinSum.start q
  if syndromeZero d.hard then (d.hard.toList, 0, true)
  else
    let (d1, its, ok) := d.iterate 0 cap
    (d1.hard.toList, its, ok)

/-- The decided bits after a number of completed layers (R168). -/
def ticPartial (q : List Int) (layers : Nat) : List Bool := ((MinSum.start q).layers 0 layers).hard.toList

end Sys2Proof.Machine
end

