-- ==== Sys2Proof/Machine/Dict.lean ====
section
/-! DEFINITION. The Milnaesk dictionary as chapter 22 lists it (R550): one row an object, the defaults of every
numeric and byte-string object, and the LOOKOUT source numbers of R455 with their default severities and reactions. -/

namespace Sys2Proof.Machine

/-- The value types of R338. -/
inductive Ty where
  | u8 | u16 | u32 | u64 | i16 | i32 | bool | enum8 | bits32 | q15 | q88 | time96 | str | blob
  deriving DecidableEq, Repr

/-- The type code of R338. -/
def Ty.code : Ty → Nat
  | .u8 => 1 | .u16 => 2 | .u32 => 3 | .u64 => 4 | .i16 => 5 | .i32 => 6 | .bool => 7 | .enum8 => 8
  | .bits32 => 9 | .q15 => 10 | .q88 => 11 | .time96 => 12 | .str => 13 | .blob => 14

/-- Whether a value travels in two's complement (R338). -/
def Ty.signed : Ty → Bool
  | .i16 | .i32 | .q15 | .q88 => true
  | _ => false

/-- Whether a value is a string of bytes. -/
def Ty.isBytes : Ty → Bool
  | .str | .blob => true
  | _ => false

/-- One row of the dictionary index (R337, R550): index, name, type, highest subindex (0 for a single object),
rights of the classes H, F and P (bit 0 read, bit 1 write, bit 2 execute), saved or volatile, numeric default, and
the length in bytes (the largest for STR and BLOB). -/
structure ObjRow where
  ix : Nat
  name : String
  ty : Ty
  hi : Nat
  accH : Nat
  accF : Nat
  accP : Nat
  saved : Bool
  dflt : Int
  len : Nat
  deriving DecidableEq, Repr

/-- Rows of the dictionary index (R550), indices 0x0000 to 0x001F. -/
def objRows00_0 : List ObjRow := [
  ⟨0x0000, "DICT.STATE", .enum8, 0, 1, 1, 1, false, 0, 1⟩,
  ⟨0x0001, "CAP.HEAD", .u16, 0, 1, 1, 1, false, 16, 2⟩,
  ⟨0x0002, "DICT.SCHEMA_VERSION", .u16, 0, 1, 1, 1, false, 258, 2⟩,
  ⟨0x0003, "DICT.SCHEMA_OLDEST", .u16, 0, 1, 1, 1, false, 256, 2⟩,
  ⟨0x0004, "DICT.OBJECT_COUNT", .u16, 0, 1, 1, 1, false, 0, 2⟩,
  ⟨0x0005, "DICT.SAVE", .enum8, 0, 4, 0, 4, false, 0, 1⟩,
  ⟨0x0006, "DICT.SAVE_PENDING", .bool, 0, 1, 0, 1, false, 0, 1⟩,
  ⟨0x0007, "DICT.RESTORE_DEFAULTS", .enum8, 0, 0, 0, 4, false, 0, 1⟩,
  ⟨0x0010, "CAP.ENTRY", .blob, 0, 1, 1, 1, false, 0, 8⟩,
  ⟨0x0011, "CAP.ENTRY", .blob, 0, 1, 1, 1, false, 0, 8⟩,
  ⟨0x0012, "CAP.ENTRY", .blob, 0, 1, 1, 1, false, 0, 8⟩,
  ⟨0x0013, "CAP.ENTRY", .blob, 0, 1, 1, 1, false, 0, 8⟩,
  ⟨0x0014, "CAP.ENTRY", .blob, 0, 1, 1, 1, false, 0, 8⟩,
  ⟨0x0015, "CAP.ENTRY", .blob, 0, 1, 1, 1, false, 0, 8⟩,
  ⟨0x0016, "CAP.ENTRY", .blob, 0, 1, 1, 1, false, 0, 8⟩,
  ⟨0x0017, "CAP.ENTRY", .blob, 0, 1, 1, 1, false, 0, 8⟩,
  ⟨0x0018, "CAP.ENTRY", .blob, 0, 1, 1, 1, false, 0, 8⟩,
  ⟨0x0019, "CAP.ENTRY", .blob, 0, 1, 1, 1, false, 0, 8⟩,
  ⟨0x001A, "CAP.ENTRY", .blob, 0, 1, 1, 1, false, 0, 8⟩,
  ⟨0x001B, "CAP.ENTRY", .blob, 0, 1, 1, 1, false, 0, 8⟩,
  ⟨0x001C, "CAP.ENTRY", .blob, 0, 1, 1, 1, false, 0, 8⟩,
  ⟨0x001D, "CAP.ENTRY", .blob, 0, 1, 1, 1, false, 0, 8⟩,
  ⟨0x001E, "CAP.ENTRY", .blob, 0, 1, 1, 1, false, 0, 8⟩,
  ⟨0x001F, "CAP.ENTRY", .blob, 0, 1, 1, 1, false, 0, 8⟩]

/-- Rows of the dictionary index (R550), indices 0x0020 to 0x0050. -/
def objRows00_1 : List ObjRow := [
  ⟨0x0020, "CAP.ENTRY", .blob, 0, 1, 1, 1, false, 0, 8⟩,
  ⟨0x0021, "CAP.ENTRY", .blob, 0, 1, 1, 1, false, 0, 8⟩,
  ⟨0x0022, "CAP.ENTRY", .blob, 0, 1, 1, 1, false, 0, 8⟩,
  ⟨0x0023, "CAP.ENTRY", .blob, 0, 1, 1, 1, false, 0, 8⟩,
  ⟨0x002F, "CAP.ENTRY_VENDOR", .blob, 0, 0, 0, 1, false, 0, 8⟩,
  ⟨0x0040, "MMP.I2C_ADDR", .u8, 0, 1, 0, 1, false, 0, 1⟩,
  ⟨0x0041, "MMP.MDIO_PRTAD", .u8, 0, 1, 0, 1, false, 0, 1⟩,
  ⟨0x0042, "MMP.INT_ON_REPLY", .bool, 0, 3, 0, 3, true, 0, 1⟩,
  ⟨0x0043, "MMP.RX_FRAMES", .u32, 11, 1, 0, 1, false, 0, 4⟩,
  ⟨0x0044, "MMP.FRAME_ERRORS", .u32, 11, 1, 0, 1, false, 0, 4⟩,
  ⟨0x0045, "MMP.FAR_SERVE", .bool, 8, 3, 1, 3, true, 1, 1⟩,
  ⟨0x0046, "MMP.FAR_TIMEOUT_MS", .u16, 8, 3, 0, 3, true, 50, 2⟩,
  ⟨0x0047, "MMP.FAR_RETRIES", .u8, 8, 3, 0, 3, true, 3, 1⟩,
  ⟨0x0048, "MMP.FAR_TIMEOUTS", .u32, 8, 1, 0, 1, false, 0, 4⟩,
  ⟨0x0049, "MMP.FAR_LATE", .u32, 8, 1, 0, 1, false, 0, 4⟩,
  ⟨0x004A, "MMP.PRIV_CHALLENGE", .blob, 0, 1, 0, 1, false, 0, 32⟩,
  ⟨0x004B, "MMP.PRIV_OPEN", .blob, 0, 4, 0, 4, false, 0, 96⟩,
  ⟨0x004C, "MMP.PRIV_CLOSE", .enum8, 0, 0, 0, 4, false, 0, 1⟩,
  ⟨0x004D, "MMP.PRIV_IDLE_S", .u16, 0, 1, 0, 3, true, 600, 2⟩,
  ⟨0x004E, "MMP.PRIV_STATE", .enum8, 3, 1, 0, 1, false, 0, 1⟩,
  ⟨0x004F, "MMP.PRIV_FAILS", .u32, 0, 1, 0, 1, false, 0, 4⟩,
  ⟨0x0050, "MMP.EVENTS", .u32, 11, 1, 0, 1, false, 0, 4⟩]

/-- Rows of the dictionary index (R550), indices 0x0100 to 0x0105. -/
def objRows01_0 : List ObjRow := [
  ⟨0x0100, "ID.ORDERING_CODE", .str, 0, 1, 1, 1, false, 0, 64⟩,
  ⟨0x0101, "ID.STEPPING", .str, 0, 1, 1, 1, false, 0, 64⟩,
  ⟨0x0102, "ID.SERIAL", .u64, 0, 1, 1, 1, false, 0, 8⟩,
  ⟨0x0103, "ID.LIFE_CYCLE", .enum8, 0, 1, 1, 1, false, 0, 1⟩,
  ⟨0x0104, "ID.ROM_VERSION", .u32, 0, 1, 1, 1, false, 33619968, 4⟩,
  ⟨0x0105, "ID.IMAGE_VERSION", .u32, 0, 1, 1, 1, false, 0, 4⟩]

/-- Rows of the dictionary index (R550), indices 0x0200 to 0x020E. -/
def objRows02_0 : List ObjRow := [
  ⟨0x0200, "TIME.NOW", .time96, 0, 1, 1, 1, false, 0, 12⟩,
  ⟨0x0201, "TIME.NEXT_SECONDS", .u64, 0, 3, 0, 3, false, 0, 8⟩,
  ⟨0x0202, "TIME.NEXT_ARMED", .bool, 0, 1, 0, 1, false, 0, 1⟩,
  ⟨0x0203, "TIME.PPS_ENABLE", .bool, 0, 3, 0, 3, true, 0, 1⟩,
  ⟨0x0204, "TIME.PPS_POLARITY", .enum8, 0, 3, 0, 3, true, 0, 1⟩,
  ⟨0x0205, "TIME.PPS_FILTER", .enum8, 0, 3, 0, 3, true, 0, 1⟩,
  ⟨0x0206, "TIME.PPS_DELAY_PS", .i32, 0, 3, 0, 3, true, 0, 4⟩,
  ⟨0x0207, "TIME.RATE_ADJ", .i32, 0, 3, 0, 3, false, 0, 4⟩,
  ⟨0x0208, "TIME.STATE", .enum8, 0, 1, 1, 1, false, 0, 1⟩,
  ⟨0x0209, "TIME.PHASE_ERR_PS", .i32, 0, 1, 0, 1, false, 0, 4⟩,
  ⟨0x020A, "TIME.EPOCH", .u16, 0, 1, 1, 1, false, 0, 2⟩,
  ⟨0x020B, "TIME.SET", .time96, 0, 4, 0, 4, false, 0, 12⟩,
  ⟨0x020C, "TIME.PPS_COUNT", .u32, 0, 1, 0, 1, false, 0, 4⟩,
  ⟨0x020D, "TIME.PPS_REJECT", .u32, 0, 1, 0, 1, false, 0, 4⟩,
  ⟨0x020E, "TIME.PPS_MISSED", .u32, 0, 1, 0, 1, false, 0, 4⟩]

/-- Rows of the dictionary index (R550), indices 0x0401 to 0x0418. -/
def objRows04_0 : List ObjRow := [
  ⟨0x0401, "PORT.BREAKOUT_EAST", .enum8, 0, 3, 1, 3, true, 1, 1⟩,
  ⟨0x0402, "PORT.BREAKOUT_WEST", .enum8, 0, 3, 1, 3, true, 1, 1⟩,
  ⟨0x0403, "PORT.APPLY_BREAKOUT", .enum8, 0, 4, 0, 4, false, 0, 1⟩,
  ⟨0x0404, "PORT.RATE_SET", .enum8, 8, 3, 1, 3, true, 0, 1⟩,
  ⟨0x0405, "PORT.MODE", .enum8, 8, 3, 1, 3, true, 1, 1⟩,
  ⟨0x0406, "PORT.OWNER", .u8, 8, 1, 1, 1, false, 0, 1⟩,
  ⟨0x0407, "PORT.STATE", .enum8, 8, 1, 1, 1, false, 0, 1⟩,
  ⟨0x0408, "PORT.CMD", .enum8, 8, 4, 0, 4, false, 0, 1⟩,
  ⟨0x0409, "PORT.START_STATE", .enum8, 8, 3, 0, 3, true, 0, 1⟩,
  ⟨0x040A, "PORT.SEARCH_STATUS", .enum8, 8, 1, 1, 1, false, 0, 1⟩,
  ⟨0x040B, "PORT.FORMAT_FOUND", .enum8, 8, 1, 1, 1, false, 0, 1⟩,
  ⟨0x040C, "PORT.PARTNER_WIDTH", .u8, 8, 1, 1, 1, false, 0, 1⟩,
  ⟨0x040D, "PORT.RATE_ACTIVE", .enum8, 8, 1, 1, 1, false, 0, 1⟩,
  ⟨0x040E, "PORT.RATE_FOLLOW", .bool, 8, 3, 0, 3, true, 0, 1⟩,
  ⟨0x040F, "PORT.RETURN_STATE", .enum8, 8, 3, 0, 3, false, 1, 1⟩,
  ⟨0x0410, "PORT.TEST_START", .enum8, 8, 4, 0, 4, false, 0, 1⟩,
  ⟨0x0411, "PORT.TEST_DURATION_MS", .u32, 8, 3, 0, 3, false, 1000, 4⟩,
  ⟨0x0412, "PORT.TEST_RESULT", .enum8, 8, 1, 1, 1, false, 0, 1⟩,
  ⟨0x0413, "PORT.CARRY_DELAY_US", .u32, 8, 3, 0, 3, true, 1000, 4⟩,
  ⟨0x0414, "PORT.NO_FRAME_MS", .u16, 8, 3, 0, 3, true, 4, 2⟩,
  ⟨0x0415, "PORT.NO_PARTNER_MS", .u16, 8, 3, 0, 3, true, 100, 2⟩,
  ⟨0x0416, "PORT.LOS_HOLDOFF_US", .u16, 8, 3, 0, 3, true, 0, 2⟩,
  ⟨0x0417, "PORT.STATE_TIME", .time96, 8, 1, 1, 1, false, 0, 12⟩,
  ⟨0x0418, "PORT.CARRY_ENTRIES", .u32, 8, 1, 1, 1, false, 0, 4⟩]

/-- Rows of the dictionary index (R550), indices 0x0419 to 0x0426. -/
def objRows04_1 : List ObjRow := [
  ⟨0x0419, "PORT.DRAIN_CAUSE", .enum8, 8, 1, 1, 1, false, 0, 1⟩,
  ⟨0x041A, "PORT.RATE_CHANGING", .bool, 8, 1, 1, 1, false, 0, 1⟩,
  ⟨0x041B, "PORT.EVENTS", .u32, 8, 1, 0, 1, false, 0, 4⟩,
  ⟨0x0420, "S1.ALIGN_STATE", .enum8, 8, 1, 1, 1, false, 0, 1⟩,
  ⟨0x0421, "S1.CW", .u64, 8, 1, 1, 1, false, 0, 8⟩,
  ⟨0x0422, "S1.CW_CORRECTED", .u64, 8, 1, 1, 1, false, 0, 8⟩,
  ⟨0x0423, "S1.BITS_CORRECTED", .u64, 8, 1, 0, 1, false, 0, 8⟩,
  ⟨0x0424, "S1.CW_UNCORRECTABLE", .u64, 8, 1, 1, 1, false, 0, 8⟩,
  ⟨0x0425, "S1.PRE_BER", .u32, 8, 1, 1, 1, false, 0, 4⟩,
  ⟨0x0426, "S1.AM_ERR", .u32, 8, 1, 0, 1, false, 0, 4⟩]

/-- Rows of the dictionary index (R550), indices 0x0800 to 0x0817. -/
def objRows08_0 : List ObjRow := [
  ⟨0x0800, "LINE.ADC_STATE", .enum8, 8, 1, 1, 1, false, 0, 1⟩,
  ⟨0x0801, "LINE.ADC_CAL_FG", .enum8, 8, 4, 0, 4, false, 0, 1⟩,
  ⟨0x0802, "LINE.ADC_CAL_RESULT", .enum8, 8, 1, 1, 1, false, 0, 1⟩,
  ⟨0x0803, "LINE.ADC_CAL_KIND", .enum8, 8, 1, 0, 1, false, 0, 1⟩,
  ⟨0x0804, "LINE.ADC_CAL_COUNT", .u32, 8, 1, 1, 1, false, 0, 4⟩,
  ⟨0x0805, "LINE.ADC_CAL_TIME", .time96, 8, 1, 1, 1, false, 0, 12⟩,
  ⟨0x0806, "LINE.ADC_RECAL_S", .u16, 4, 1, 0, 1, true, 0, 2⟩,
  ⟨0x0807, "LINE.ADC_RECAL_DUE_S", .u16, 8, 1, 0, 1, false, 0, 2⟩,
  ⟨0x0808, "LINE.ADC_BG_ENABLE", .bool, 8, 3, 0, 3, true, 1, 1⟩,
  ⟨0x0809, "LINE.ADC_SKEW_TRIM", .i16, 8, 1, 0, 1, false, 0, 2⟩,
  ⟨0x080A, "LINE.ADC_OFFSET_SPREAD", .u16, 8, 1, 0, 1, false, 0, 2⟩,
  ⟨0x080B, "LINE.ADC_GAIN_SPREAD", .u16, 8, 1, 0, 1, false, 0, 2⟩,
  ⟨0x080C, "LINE.ADC_FAILED_SUBADC", .u8, 8, 1, 1, 1, false, 0, 1⟩,
  ⟨0x080D, "LINE.ADC_SELF_NOISE_LSB", .u16, 8, 1, 0, 1, false, 65535, 2⟩,
  ⟨0x080E, "LINE.ADC_COUPLING", .enum8, 8, 3, 0, 3, true, 0, 1⟩,
  ⟨0x080F, "LINE.TIA_ZT_OHM", .u16, 8, 3, 0, 3, true, 0, 2⟩,
  ⟨0x0810, "LINE.SIGNAL_RMS", .u16, 8, 1, 1, 1, false, 0, 2⟩,
  ⟨0x0811, "LINE.SIGNAL_DC", .i16, 8, 1, 1, 1, false, 0, 2⟩,
  ⟨0x0812, "LINE.CLIP_RATE", .u32, 8, 1, 1, 1, false, 0, 4⟩,
  ⟨0x0813, "LINE.LOS_ASSERT", .u16, 8, 3, 0, 3, true, 4000, 2⟩,
  ⟨0x0814, "LINE.LOS_DEASSERT", .u16, 8, 3, 0, 3, true, 6000, 2⟩,
  ⟨0x0815, "LINE.LOS_RAW", .bool, 8, 1, 1, 1, false, 1, 1⟩,
  ⟨0x0816, "LINE.NOISE_FLOOR_LSB", .u16, 8, 1, 1, 1, false, 65535, 2⟩,
  ⟨0x0817, "LINE.NOISE_FLOOR_UA", .u16, 8, 1, 1, 1, false, 65535, 2⟩]

/-- Rows of the dictionary index (R550), indices 0x0818 to 0x082F. -/
def objRows08_1 : List ObjRow := [
  ⟨0x0818, "LINE.ADC_EVENTS", .u32, 8, 1, 0, 1, false, 0, 4⟩,
  ⟨0x0819, "LINE.TL_STATE", .enum8, 8, 1, 1, 1, false, 0, 1⟩,
  ⟨0x081A, "LINE.TL_FREQ_PPB", .i32, 8, 1, 1, 1, false, 0, 4⟩,
  ⟨0x081B, "LINE.TL_BW_KHZ", .u16, 8, 3, 0, 3, true, 4000, 2⟩,
  ⟨0x081C, "LINE.TL_RESTART", .enum8, 8, 4, 0, 4, false, 0, 1⟩,
  ⟨0x081D, "LINE.TL_RETRIES", .u32, 8, 1, 0, 1, false, 0, 4⟩,
  ⟨0x081E, "LINE.TL_LOCK_LOSS", .u32, 8, 1, 1, 1, false, 0, 4⟩,
  ⟨0x081F, "LINE.EQ_STATE", .enum8, 8, 1, 1, 1, false, 0, 1⟩,
  ⟨0x0820, "LINE.EQ_ACTIVE_BANK", .enum8, 8, 1, 0, 1, false, 0, 1⟩,
  ⟨0x0821, "LINE.EQ_STRUCTURE", .enum8, 8, 1, 1, 1, false, 1, 1⟩,
  ⟨0x0822, "LINE.EQ_SWAP_COUNT", .u32, 8, 1, 0, 1, false, 0, 4⟩,
  ⟨0x0823, "LINE.EQ_SWAP_CYCLES", .u16, 8, 3, 0, 3, true, 64, 2⟩,
  ⟨0x0824, "LINE.EQ_MU_SHIFT", .u8, 8, 3, 0, 3, true, 10, 1⟩,
  ⟨0x0825, "LINE.EQ_FREEZE", .bool, 8, 3, 0, 3, false, 0, 1⟩,
  ⟨0x0826, "LINE.EQ_FFE", .blob, 8, 1, 0, 1, false, 0, 82⟩,
  ⟨0x0827, "LINE.EQ_DFE", .blob, 8, 1, 0, 1, false, 0, 6⟩,
  ⟨0x0828, "LINE.EQ_LEVELS", .blob, 8, 1, 0, 1, false, 0, 8⟩,
  ⟨0x0829, "LINE.EQ_ROLLBACKS", .u32, 8, 1, 0, 1, false, 0, 4⟩,
  ⟨0x082A, "LINE.EQ_CLAMPS", .u32, 8, 1, 0, 1, false, 0, 4⟩,
  ⟨0x082B, "LINE.RX_PRECODE", .enum8, 8, 3, 0, 3, true, 0, 1⟩,
  ⟨0x082C, "LINE.RX_PRECODE_FOUND", .enum8, 8, 1, 1, 1, false, 0, 1⟩,
  ⟨0x082D, "LINE.RX_INVERT", .bool, 8, 3, 0, 3, true, 0, 1⟩,
  ⟨0x082E, "LINE.UNSETTLED", .bool, 8, 1, 1, 1, false, 1, 1⟩,
  ⟨0x082F, "LINE.UNSETTLED_BLOCKS", .u64, 8, 1, 0, 1, false, 0, 8⟩]

/-- Rows of the dictionary index (R550), indices 0x0830 to 0x0840. -/
def objRows08_2 : List ObjRow := [
  ⟨0x0830, "LINE.STATS_INCL_UNSETTLED", .bool, 8, 3, 0, 3, true, 0, 1⟩,
  ⟨0x0831, "LINE.MSE", .u32, 8, 1, 1, 1, false, 0, 4⟩,
  ⟨0x0832, "LINE.SNR_DB", .q88, 8, 1, 1, 1, false, 0, 2⟩,
  ⟨0x0833, "LINE.BER_EST", .u32, 8, 1, 1, 1, false, 0, 4⟩,
  ⟨0x0834, "LINE.EYE_CAPTURE", .enum8, 8, 4, 0, 4, false, 0, 1⟩,
  ⟨0x0835, "LINE.EYE_SYMBOLS", .u32, 8, 3, 0, 3, true, 1048576, 4⟩,
  ⟨0x0836, "LINE.EYE_HIST", .blob, 8, 1, 0, 1, false, 0, 512⟩,
  ⟨0x0837, "LINE.EYE_HEIGHT", .i16, 8, 1, 1, 1, false, 0, 2⟩,
  ⟨0x0838, "LINE.EQ_EVENTS", .u32, 8, 1, 0, 1, false, 0, 4⟩,
  ⟨0x0840, "LINE.SNR", .u8, 8, 1, 1, 1, false, 0, 1⟩]

/-- Rows of the dictionary index (R550), indices 0x0900 to 0x0917. -/
def objRows09_0 : List ObjRow := [
  ⟨0x0900, "TIC.CW_ARRIVED", .u64, 8, 1, 1, 1, false, 0, 8⟩,
  ⟨0x0901, "TIC.CW_CONVERGED", .u64, 8, 1, 1, 1, false, 0, 8⟩,
  ⟨0x0902, "TIC.CW_CAP_FAIL", .u64, 8, 1, 1, 1, false, 0, 8⟩,
  ⟨0x0903, "TIC.CW_FORCED", .u64, 8, 1, 1, 1, false, 0, 8⟩,
  ⟨0x0904, "TIC.CW_UNDECODED", .u64, 8, 1, 1, 1, false, 0, 8⟩,
  ⟨0x0905, "TIC.CW_UNSETTLED", .u64, 8, 1, 0, 1, false, 0, 8⟩,
  ⟨0x0906, "TIC.ITER_TOTAL", .u64, 8, 1, 0, 1, false, 0, 8⟩,
  ⟨0x0907, "TIC.ITER_MEAN", .u16, 8, 1, 1, 1, false, 0, 2⟩,
  ⟨0x0908, "TIC.ITER_HIST", .blob, 8, 1, 0, 1, false, 0, 68⟩,
  ⟨0x0909, "TIC.BITS_CORRECTED", .u64, 8, 1, 0, 1, false, 0, 8⟩,
  ⟨0x090A, "TIC.PRE_BER", .u32, 8, 1, 1, 1, false, 0, 4⟩,
  ⟨0x090B, "TIC.LLR_STEP", .q88, 8, 1, 0, 1, false, 410, 2⟩,
  ⟨0x090C, "TIC.CAP_EFFECTIVE", .u8, 8, 1, 1, 1, false, 10, 1⟩,
  ⟨0x090D, "TIC.DEADLINE_NS", .u16, 8, 1, 1, 1, false, 1000, 2⟩,
  ⟨0x090E, "TIC.FORCED_ALARM_PPB", .u32, 8, 3, 0, 3, true, 1000, 4⟩,
  ⟨0x090F, "TIC.POOL_SPEED", .u16, 2, 1, 1, 1, false, 1000, 2⟩,
  ⟨0x0910, "TIC.POOL_LOAD", .u16, 2, 1, 1, 1, false, 0, 2⟩,
  ⟨0x0911, "TIC.UNITS_AVAILABLE", .u8, 2, 1, 1, 1, false, 48, 1⟩,
  ⟨0x0912, "TIC.UNITS_RESERVED", .u8, 2, 1, 0, 1, false, 0, 1⟩,
  ⟨0x0913, "TIC.BORROWED", .u64, 2, 1, 0, 1, false, 0, 8⟩,
  ⟨0x0914, "TIC.STAGING_PEAK", .u16, 2, 1, 0, 1, false, 0, 2⟩,
  ⟨0x0915, "TIC.STAGING_FULL", .u64, 2, 1, 0, 1, false, 0, 8⟩,
  ⟨0x0916, "HAMPER.OCCUPANCY", .u16, 8, 1, 0, 1, false, 0, 2⟩,
  ⟨0x0917, "HAMPER.OCCUPANCY_PEAK", .u16, 8, 1, 0, 1, false, 0, 2⟩]

/-- Rows of the dictionary index (R550), indices 0x0918 to 0x091A. -/
def objRows09_1 : List ObjRow := [
  ⟨0x0918, "HAMPER.LATENCY_MAX_NS", .u32, 8, 1, 0, 1, false, 0, 4⟩,
  ⟨0x0919, "TIC.CLEAR_PEAKS", .enum8, 0, 4, 0, 4, false, 0, 1⟩,
  ⟨0x091A, "TIC.EVENTS", .u32, 8, 1, 0, 1, false, 0, 4⟩]

/-- Rows of the dictionary index (R550), indices 0x0A00 to 0x0A17. -/
def objRows0A_0 : List ObjRow := [
  ⟨0x0A00, "LINK.ALIGN_STATE", .enum8, 8, 1, 1, 1, false, 0, 1⟩,
  ⟨0x0A01, "LINK.SKEW_CW", .u8, 8, 1, 0, 1, false, 0, 1⟩,
  ⟨0x0A02, "LINK.MARKER_ERR", .u32, 8, 1, 0, 1, false, 0, 4⟩,
  ⟨0x0A03, "LINK.RS_CW", .u64, 8, 1, 1, 1, false, 0, 8⟩,
  ⟨0x0A04, "LINK.RS_SYM_CORRECTED", .u64, 8, 1, 1, 1, false, 0, 8⟩,
  ⟨0x0A05, "LINK.RS_UNCORRECTABLE", .u64, 8, 1, 1, 1, false, 0, 8⟩,
  ⟨0x0A06, "LINK.RS_HIST", .blob, 8, 1, 0, 1, false, 0, 64⟩,
  ⟨0x0A07, "LINK.FRAMES_OK", .u64, 8, 1, 1, 1, false, 0, 8⟩,
  ⟨0x0A08, "LINK.HDR_FAIL", .u64, 8, 1, 1, 1, false, 0, 8⟩,
  ⟨0x0A09, "LINK.CRC_FAIL", .u64, 8, 1, 1, 1, false, 0, 8⟩,
  ⟨0x0A0A, "LINK.FRAMES_RESCUED", .u64, 8, 1, 0, 1, false, 0, 8⟩,
  ⟨0x0A0B, "LINK.FRAMES_UNSETTLED", .u64, 8, 1, 0, 1, false, 0, 8⟩,
  ⟨0x0A0C, "LINK.PROTOCOL_ERR", .u32, 8, 1, 0, 1, false, 0, 4⟩,
  ⟨0x0A0D, "LINK.PARTNER_PORT", .u8, 8, 1, 1, 1, false, 255, 1⟩,
  ⟨0x0A0E, "LINK.LPL_MAX", .u8, 8, 3, 1, 3, true, 3, 1⟩,
  ⟨0x0A0F, "LINK.PARTNER_LPL_MAX", .u8, 8, 1, 1, 1, false, 0, 1⟩,
  ⟨0x0A10, "LINK.PARTNER_FEAT", .bits32, 8, 1, 1, 1, false, 0, 4⟩,
  ⟨0x0A11, "LINK.LPL_TX", .u8, 8, 1, 1, 1, false, 1, 1⟩,
  ⟨0x0A12, "LINK.LPL_RX", .u8, 8, 1, 1, 1, false, 1, 1⟩,
  ⟨0x0A13, "LINK.LPL_CHANGES", .u32, 8, 1, 0, 1, false, 0, 4⟩,
  ⟨0x0A14, "LINK.LPL_IMPL", .u8, 0, 1, 1, 1, false, 3, 1⟩,
  ⟨0x0A15, "LINK.MGMT_TX_WORDS", .u64, 8, 1, 0, 1, false, 0, 8⟩,
  ⟨0x0A16, "LINK.MGMT_RX_WORDS", .u64, 8, 1, 0, 1, false, 0, 8⟩,
  ⟨0x0A17, "RETRY.WINDOW_US", .u16, 8, 3, 1, 3, true, 70, 2⟩]

/-- Rows of the dictionary index (R550), indices 0x0A18 to 0x0A30. -/
def objRows0A_1 : List ObjRow := [
  ⟨0x0A18, "RETRY.REPLAY_MAX", .u8, 8, 3, 1, 3, true, 3, 1⟩,
  ⟨0x0A19, "RETRY.GUARD_NS", .u16, 8, 3, 0, 3, true, 2000, 2⟩,
  ⟨0x0A1A, "RETRY.STATUS_REPEAT_NS", .u16, 8, 3, 0, 3, true, 4000, 2⟩,
  ⟨0x0A1B, "RETRY.TX_BACKLOG_MAX", .u8, 8, 3, 0, 3, true, 16, 1⟩,
  ⟨0x0A1C, "RETRY.RTT_NS", .u32, 8, 1, 1, 1, false, 0, 4⟩,
  ⟨0x0A1D, "RETRY.REPLAY_EFFECTIVE", .u8, 8, 1, 1, 1, false, 3, 1⟩,
  ⟨0x0A1E, "RETRY.OUTSTANDING", .u32, 8, 1, 0, 1, false, 0, 4⟩,
  ⟨0x0A1F, "RETRY.OUTSTANDING_PEAK", .u32, 8, 1, 0, 1, false, 0, 4⟩,
  ⟨0x0A20, "RETRY.HOLD_OCCUPANCY", .u32, 8, 1, 0, 1, false, 0, 4⟩,
  ⟨0x0A21, "RETRY.HOLD_PEAK", .u32, 8, 1, 0, 1, false, 0, 4⟩,
  ⟨0x0A22, "RETRY.TX_DATA", .u64, 8, 1, 1, 1, false, 0, 8⟩,
  ⟨0x0A23, "RETRY.TX_REPLAYS", .u64, 8, 1, 1, 1, false, 0, 8⟩,
  ⟨0x0A24, "RETRY.TX_WRITEOFF", .u64, 8, 1, 1, 1, false, 0, 8⟩,
  ⟨0x0A25, "RETRY.TX_SOURCE_LOST", .u64, 8, 1, 0, 1, false, 0, 8⟩,
  ⟨0x0A26, "RETRY.RX_DELIVERED", .u64, 8, 1, 1, 1, false, 0, 8⟩,
  ⟨0x0A27, "RETRY.RX_LOST", .u64, 8, 1, 1, 1, false, 0, 8⟩,
  ⟨0x0A28, "RETRY.RX_DUPLICATE", .u64, 8, 1, 0, 1, false, 0, 8⟩,
  ⟨0x0A29, "RETRY.RX_OUT_OF_WINDOW", .u64, 8, 1, 0, 1, false, 0, 8⟩,
  ⟨0x0A2A, "RETRY.STATUS_SENT", .u64, 8, 1, 0, 1, false, 0, 8⟩,
  ⟨0x0A2B, "RETRY.CLEAR_PEAKS", .enum8, 0, 4, 0, 4, false, 0, 1⟩,
  ⟨0x0A2C, "RETRY.EVENTS", .u32, 8, 1, 0, 1, false, 0, 4⟩,
  ⟨0x0A30, "RETRY.WINDOW", .u8, 8, 3, 1, 3, true, 70, 1⟩]

/-- Rows of the dictionary index (R550), indices 0x0B00 to 0x0B17. -/
def objRows0B_0 : List ObjRow := [
  ⟨0x0B00, "DS.ENABLE", .bool, 0, 3, 0, 3, true, 0, 1⟩,
  ⟨0x0B01, "DS.STATE", .enum8, 0, 1, 1, 1, false, 0, 1⟩,
  ⟨0x0B02, "DS.PIN_RATE", .enum8, 0, 3, 0, 3, true, 3, 1⟩,
  ⟨0x0B03, "DS.DENSITY", .enum8, 5, 1, 0, 1, false, 0, 1⟩,
  ⟨0x0B04, "DS.DEVICE_STATE", .enum8, 5, 1, 1, 1, false, 0, 1⟩,
  ⟨0x0B05, "DS.MEM_TEMP_C", .i16, 5, 1, 1, 1, false, 0, 2⟩,
  ⟨0x0B06, "DS.MEM_HOT_C", .i16, 0, 3, 0, 3, true, 105, 2⟩,
  ⟨0x0B07, "DS.REFRESH_MULT", .u8, 0, 1, 0, 1, false, 1, 1⟩,
  ⟨0x0B08, "DS.TRAIN_TIME", .time96, 0, 1, 0, 1, false, 0, 12⟩,
  ⟨0x0B09, "DS.RETRAIN_COUNT", .u32, 0, 1, 0, 1, false, 0, 4⟩,
  ⟨0x0B0A, "DS.RETRAIN", .enum8, 0, 4, 0, 4, false, 0, 1⟩,
  ⟨0x0B0B, "DS.LINES_CORRECTED", .u64, 0, 1, 1, 1, false, 0, 8⟩,
  ⟨0x0B0C, "DS.CORRECTED_BY_DEVICE", .u64, 5, 1, 0, 1, false, 0, 8⟩,
  ⟨0x0B0D, "DS.TRIAL_CORRECTIONS", .u64, 0, 1, 0, 1, false, 0, 8⟩,
  ⟨0x0B0E, "DS.UNCORRECTABLE", .u64, 0, 1, 1, 1, false, 0, 8⟩,
  ⟨0x0B0F, "DS.STALE", .u64, 0, 1, 0, 1, false, 0, 8⟩,
  ⟨0x0B10, "DS.WRITE_RETRY", .u64, 0, 1, 0, 1, false, 0, 8⟩,
  ⟨0x0B11, "DS.REMAP_USED", .u8, 0, 1, 1, 1, false, 0, 1⟩,
  ⟨0x0B12, "DS.REMAP_ENTRY", .u32, 32, 1, 0, 1, false, 0, 4⟩,
  ⟨0x0B13, "DS.WRITE_LATE", .u64, 0, 1, 0, 1, false, 0, 8⟩,
  ⟨0x0B14, "DS.SPILL_FRAMES", .u64, 0, 1, 0, 1, false, 0, 8⟩,
  ⟨0x0B15, "DS.BW_ADMITTED_GBPS", .u16, 0, 1, 0, 1, false, 0, 2⟩,
  ⟨0x0B16, "DS.BW_USED_GBPS", .u16, 0, 1, 0, 1, false, 0, 2⟩,
  ⟨0x0B17, "DS.EVENTS", .u32, 0, 1, 0, 1, false, 0, 4⟩]

/-- Rows of the dictionary index (R550), indices 0x0C00 to 0x0C17. -/
def objRows0C_0 : List ObjRow := [
  ⟨0x0C00, "TX.STATE", .enum8, 8, 1, 1, 1, false, 0, 1⟩,
  ⟨0x0C01, "TX.SYNTH_STATE", .enum8, 8, 1, 1, 1, false, 0, 1⟩,
  ⟨0x0C02, "TX.SYNTH_CAL_TIME", .time96, 8, 1, 0, 1, false, 0, 12⟩,
  ⟨0x0C03, "TX.SYNTH_CAL_COUNT", .u32, 8, 1, 0, 1, false, 0, 4⟩,
  ⟨0x0C04, "TX.SYNTH_UNLOCKS", .u32, 8, 1, 1, 1, false, 0, 4⟩,
  ⟨0x0C05, "TX.PRECODE", .enum8, 8, 3, 0, 3, true, 0, 1⟩,
  ⟨0x0C06, "TX.INVERT", .bool, 8, 3, 0, 3, true, 0, 1⟩,
  ⟨0x0C07, "TX.MUTE_FORCE", .bool, 8, 3, 0, 3, false, 0, 1⟩,
  ⟨0x0C08, "TX.DAC_FS_MVPPD", .u16, 8, 3, 0, 3, true, 600, 2⟩,
  ⟨0x0C09, "TX.DAC_FS_MEAS", .u16, 8, 1, 0, 1, false, 0, 2⟩,
  ⟨0x0C0A, "TX.WAVE_COLD", .blob, 8, 3, 0, 3, true, 0, 148⟩,
  ⟨0x0C0B, "TX.WAVE_NORMAL", .blob, 8, 3, 0, 3, true, 0, 148⟩,
  ⟨0x0C0C, "TX.WAVE_WARM", .blob, 8, 3, 0, 3, true, 0, 148⟩,
  ⟨0x0C0D, "TX.WAVE_HOT", .blob, 8, 3, 0, 3, true, 0, 148⟩,
  ⟨0x0C0E, "TX.WAVE_ACTIVE_BAND", .enum8, 8, 1, 1, 1, false, 1, 1⟩,
  ⟨0x0C0F, "TX.WAVE_RAMPING", .bool, 8, 1, 0, 1, false, 0, 1⟩,
  ⟨0x0C10, "TX.CLIP_COUNT", .u64, 8, 1, 0, 1, false, 0, 8⟩,
  ⟨0x0C11, "OPTICS.PIN_ROLE_A", .enum8, 8, 3, 0, 3, true, 0, 1⟩,
  ⟨0x0C12, "OPTICS.PIN_ROLE_B", .enum8, 8, 3, 0, 3, true, 1, 1⟩,
  ⟨0x0C13, "OPTICS.PIN_ROLE_LAS", .enum8, 8, 3, 0, 3, true, 2, 1⟩,
  ⟨0x0C14, "OPTICS.PIN_POLARITY", .bits32, 8, 3, 0, 3, true, 0, 4⟩,
  ⟨0x0C15, "OPTICS.UP_T1_NS", .u32, 8, 3, 0, 3, true, 512, 4⟩,
  ⟨0x0C16, "OPTICS.UP_T2_NS", .u32, 8, 3, 0, 3, true, 512, 4⟩,
  ⟨0x0C17, "OPTICS.UP_T3_NS", .u32, 8, 3, 0, 3, true, 1024, 4⟩]

/-- Rows of the dictionary index (R550), indices 0x0C18 to 0x0C27. -/
def objRows0C_1 : List ObjRow := [
  ⟨0x0C18, "OPTICS.DN_T1_NS", .u32, 8, 3, 0, 3, true, 1024, 4⟩,
  ⟨0x0C19, "OPTICS.DN_T2_NS", .u32, 8, 3, 0, 3, true, 512, 4⟩,
  ⟨0x0C1A, "OPTICS.DN_T3_NS", .u32, 8, 3, 0, 3, true, 512, 4⟩,
  ⟨0x0C1B, "OPTICS.BIAS_MAP", .bits32, 8, 3, 0, 3, true, 0, 4⟩,
  ⟨0x0C1C, "OPTICS.SEQ_STATE", .enum8, 8, 1, 1, 1, false, 0, 1⟩,
  ⟨0x0C1D, "OPTICS.STATIC_LEVEL", .bits32, 8, 3, 0, 3, true, 0, 4⟩,
  ⟨0x0C1E, "OPTICS.APC_ENABLE", .bool, 8, 3, 0, 3, true, 0, 1⟩,
  ⟨0x0C1F, "OPTICS.APC_AMON", .u8, 8, 3, 0, 3, true, 0, 1⟩,
  ⟨0x0C20, "OPTICS.APC_ADAC", .u8, 8, 3, 0, 3, true, 0, 1⟩,
  ⟨0x0C21, "OPTICS.APC_SETPOINT", .u16, 8, 3, 0, 3, true, 0, 2⟩,
  ⟨0x0C22, "OPTICS.APC_MIN_CODE", .u16, 8, 3, 0, 3, true, 0, 2⟩,
  ⟨0x0C23, "OPTICS.APC_MAX_CODE", .u16, 8, 3, 0, 3, true, 4095, 2⟩,
  ⟨0x0C24, "OPTICS.APC_STEP", .u8, 8, 3, 0, 3, true, 4, 1⟩,
  ⟨0x0C25, "OPTICS.APC_GAIN", .q15, 8, 3, 0, 3, true, 2048, 2⟩,
  ⟨0x0C26, "OPTICS.APC_STATE", .enum8, 8, 1, 1, 1, false, 0, 1⟩,
  ⟨0x0C27, "TX.EVENTS", .u32, 8, 1, 0, 1, false, 0, 4⟩]

/-- Rows of the dictionary index (R550), indices 0x0D00 to 0x0D18. -/
def objRows0D_0 : List ObjRow := [
  ⟨0x0D00, "HOST.LANE_STATE", .enum8, 16, 1, 1, 1, false, 0, 1⟩,
  ⟨0x0D01, "HOST.PRESET_TABLE", .blob, 16, 3, 0, 3, true, 0, 520⟩,
  ⟨0x0D02, "HOST.PRESET_SEL", .u8, 16, 3, 0, 3, true, 0, 1⟩,
  ⟨0x0D03, "HOST.PRESET_APPLIED", .u8, 16, 1, 1, 1, false, 255, 1⟩,
  ⟨0x0D04, "HOST.HOST_TX_ADVICE", .blob, 16, 1, 1, 1, false, 0, 5⟩,
  ⟨0x0D05, "HOST.RX_INVERT", .bool, 16, 3, 0, 3, true, 0, 1⟩,
  ⟨0x0D06, "HOST.TX_INVERT", .bool, 16, 3, 0, 3, true, 0, 1⟩,
  ⟨0x0D07, "HOST.RX_PRECODE", .enum8, 16, 3, 0, 3, true, 0, 1⟩,
  ⟨0x0D08, "HOST.TX_PRECODE", .enum8, 16, 3, 0, 3, true, 0, 1⟩,
  ⟨0x0D09, "HOST.RX_FREQ_PPB", .i32, 16, 1, 1, 1, false, 0, 4⟩,
  ⟨0x0D0A, "HOST.TX_OFFSET_PPB", .i32, 16, 1, 0, 1, false, 0, 4⟩,
  ⟨0x0D0B, "HOST.RX_SNR_DB", .q88, 16, 1, 1, 1, false, 0, 2⟩,
  ⟨0x0D0C, "HOST.LOCK_LOSS", .u32, 16, 1, 1, 1, false, 0, 4⟩,
  ⟨0x0D0D, "HOST.EGRESS_MODE", .enum8, 8, 3, 0, 3, true, 0, 1⟩,
  ⟨0x0D0E, "HOST.SKEW_NS", .u16, 8, 1, 0, 1, false, 0, 2⟩,
  ⟨0x0D10, "HOST.RS_IN_CW", .u64, 8, 1, 1, 1, false, 0, 8⟩,
  ⟨0x0D11, "HOST.RS_IN_SYM_CORRECTED", .u64, 8, 1, 1, 1, false, 0, 8⟩,
  ⟨0x0D12, "HOST.RS_IN_UNCORRECTABLE", .u64, 8, 1, 1, 1, false, 0, 8⟩,
  ⟨0x0D13, "HOST.RS_IN_HIST", .blob, 8, 1, 0, 1, false, 0, 64⟩,
  ⟨0x0D14, "HOST.RS_OUT_CW", .u64, 8, 1, 1, 1, false, 0, 8⟩,
  ⟨0x0D15, "HOST.RS_OUT_MARKED", .u64, 8, 1, 1, 1, false, 0, 8⟩,
  ⟨0x0D16, "HOST.RS_OUT_SYM_SEEN", .u64, 8, 1, 0, 1, false, 0, 8⟩,
  ⟨0x0D17, "HOST.RS_OUT_UNCORRECTABLE", .u64, 8, 1, 0, 1, false, 0, 8⟩,
  ⟨0x0D18, "HOST.IDLE_DELETED", .u64, 8, 1, 0, 1, false, 0, 8⟩]

/-- Rows of the dictionary index (R550), indices 0x0D19 to 0x0D1D. -/
def objRows0D_1 : List ObjRow := [
  ⟨0x0D19, "HOST.IDLE_INSERTED", .u64, 8, 1, 0, 1, false, 0, 8⟩,
  ⟨0x0D1A, "HOST.ERR_BLOCKS_IN", .u64, 8, 1, 0, 1, false, 0, 8⟩,
  ⟨0x0D1B, "HOST.FAULT_FILL_BLOCKS", .u64, 8, 1, 0, 1, false, 0, 8⟩,
  ⟨0x0D1C, "HOST.STALL_BREAKS", .u64, 8, 1, 0, 1, false, 0, 8⟩,
  ⟨0x0D1D, "HOST.EVENTS", .u32, 8, 1, 0, 1, false, 0, 4⟩]

/-- Rows of the dictionary index (R550), indices 0x0E00 to 0x0E17. -/
def objRows0E_0 : List ObjRow := [
  ⟨0x0E00, "TEST.LINE_PATTERN", .enum8, 8, 3, 0, 3, false, 1, 1⟩,
  ⟨0x0E01, "TEST.HOST_PATTERN", .enum8, 16, 3, 0, 3, false, 1, 1⟩,
  ⟨0x0E02, "TEST.LINE_CHK_STATE", .enum8, 8, 1, 1, 1, false, 0, 1⟩,
  ⟨0x0E03, "TEST.LINE_BITS", .u64, 8, 1, 1, 1, false, 0, 8⟩,
  ⟨0x0E04, "TEST.LINE_ERRORS", .u64, 8, 1, 1, 1, false, 0, 8⟩,
  ⟨0x0E05, "TEST.LINE_LOCK_LOSS", .u32, 8, 1, 0, 1, false, 0, 4⟩,
  ⟨0x0E06, "TEST.HOST_CHK_STATE", .enum8, 16, 1, 1, 1, false, 0, 1⟩,
  ⟨0x0E07, "TEST.HOST_BITS", .u64, 16, 1, 1, 1, false, 0, 8⟩,
  ⟨0x0E08, "TEST.HOST_ERRORS", .u64, 16, 1, 1, 1, false, 0, 8⟩,
  ⟨0x0E09, "TEST.HOST_LOCK_LOSS", .u32, 16, 1, 0, 1, false, 0, 4⟩,
  ⟨0x0E0A, "TEST.FAR_LOOP", .bool, 8, 3, 3, 3, false, 0, 1⟩,
  ⟨0x0E0B, "TEST.FAR_LOOP_GRANT", .bool, 8, 3, 1, 3, true, 0, 1⟩,
  ⟨0x0E0C, "TEST.INJ_SYM_PROB", .u32, 8, 3, 0, 3, false, 0, 4⟩,
  ⟨0x0E0D, "TEST.INJ_KIND", .enum8, 8, 3, 0, 3, false, 1, 1⟩,
  ⟨0x0E0E, "TEST.INJ_COUNT", .u32, 8, 3, 0, 3, false, 1, 4⟩,
  ⟨0x0E0F, "TEST.INJ_LANES", .bits32, 8, 3, 0, 3, false, 255, 4⟩,
  ⟨0x0E10, "TEST.INJ_CW_BITS", .u16, 8, 3, 0, 3, false, 16, 2⟩,
  ⟨0x0E11, "TEST.INJ_FIRE", .enum8, 8, 4, 0, 4, false, 0, 1⟩,
  ⟨0x0E12, "TEST.INJ_ACTIVE", .bool, 8, 1, 1, 1, false, 0, 1⟩,
  ⟨0x0E13, "TEST.INJ_APPLIED", .u64, 8, 1, 0, 1, false, 0, 8⟩,
  ⟨0x0E14, "TEST.INJ_SYM_ERRORS", .u64, 8, 1, 0, 1, false, 0, 8⟩,
  ⟨0x0E15, "TEST.CAP_SOURCE", .enum8, 0, 3, 0, 3, false, 0, 1⟩,
  ⟨0x0E16, "TEST.CAP_LANE", .u8, 0, 3, 0, 3, false, 0, 1⟩,
  ⟨0x0E17, "TEST.CAP_TRIG", .enum8, 0, 3, 0, 3, false, 0, 1⟩]

/-- Rows of the dictionary index (R550), indices 0x0E18 to 0x0E22. -/
def objRows0E_1 : List ObjRow := [
  ⟨0x0E18, "TEST.CAP_TRIG_TIME", .time96, 0, 3, 0, 3, false, 0, 12⟩,
  ⟨0x0E19, "TEST.CAP_TRIG_FAULT", .u8, 0, 3, 0, 3, false, 0, 1⟩,
  ⟨0x0E1A, "TEST.CAP_PRE_PCT", .u8, 0, 3, 0, 3, false, 50, 1⟩,
  ⟨0x0E1B, "TEST.CAP_ARM", .enum8, 0, 4, 0, 4, false, 0, 1⟩,
  ⟨0x0E1C, "TEST.CAP_TRIGGER", .enum8, 0, 4, 0, 4, false, 0, 1⟩,
  ⟨0x0E1D, "TEST.CAP_STATE", .enum8, 0, 1, 1, 1, false, 0, 1⟩,
  ⟨0x0E1E, "TEST.CAP_START_TIME", .time96, 0, 1, 0, 1, false, 0, 12⟩,
  ⟨0x0E1F, "TEST.CAP_TRIG_STAMP", .time96, 0, 1, 0, 1, false, 0, 12⟩,
  ⟨0x0E20, "TEST.CAP_ENTRIES", .u32, 0, 1, 0, 1, false, 0, 4⟩,
  ⟨0x0E21, "TEST.CAP_DATA", .blob, 0, 1, 0, 1, false, 0, 2097152⟩,
  ⟨0x0E22, "TEST.EVENTS", .u32, 8, 1, 0, 1, false, 0, 4⟩]

/-- Rows of the dictionary index (R550), indices 0x1000 to 0x1017. -/
def objRows10_0 : List ObjRow := [
  ⟨0x1000, "HK.REF_ENABLE", .bool, 0, 3, 0, 3, true, 1, 1⟩,
  ⟨0x1001, "HK.REF_READY", .bool, 0, 1, 1, 1, false, 0, 1⟩,
  ⟨0x1002, "HK.SELF_CAL", .enum8, 0, 4, 0, 4, false, 0, 1⟩,
  ⟨0x1003, "HK.CAL_RESULT", .enum8, 4, 1, 1, 1, false, 0, 1⟩,
  ⟨0x1004, "HK.CAL_OFFSET", .i16, 4, 1, 0, 1, false, 0, 2⟩,
  ⟨0x1005, "HK.CAL_GAIN", .i16, 4, 1, 0, 1, false, 0, 2⟩,
  ⟨0x1006, "HK.CAL_COUNT", .u32, 0, 1, 0, 1, false, 0, 4⟩,
  ⟨0x1007, "HK.CAL_TIME", .time96, 0, 1, 0, 1, false, 0, 12⟩,
  ⟨0x1008, "HK.TRIG_SOURCE", .enum8, 0, 3, 0, 3, true, 0, 1⟩,
  ⟨0x1009, "HK.TRIG_EDGE", .enum8, 0, 3, 0, 3, true, 0, 1⟩,
  ⟨0x100A, "HK.TRIG_DELAY", .u16, 0, 3, 0, 3, true, 0, 2⟩,
  ⟨0x100B, "HK.TIMER_PERIOD", .u32, 0, 3, 0, 3, true, 50, 4⟩,
  ⟨0x100C, "HK.TRIG_TIMEOUT_US", .u16, 0, 3, 0, 3, true, 1000, 2⟩,
  ⟨0x100D, "HK.TRIG_STATE", .enum8, 0, 1, 1, 1, false, 0, 1⟩,
  ⟨0x100E, "HK.TRIG_MISSED", .u32, 0, 1, 0, 1, false, 0, 4⟩,
  ⟨0x100F, "HK.SCAN", .blob, 4, 3, 0, 3, true, 0, 17⟩,
  ⟨0x1010, "HK.PAIR_MODE", .bits32, 0, 3, 0, 3, true, 0, 4⟩,
  ⟨0x1011, "HK.PAIR_INPUT", .u8, 2, 3, 0, 3, true, 0, 1⟩,
  ⟨0x1012, "HK.ADC_RESULT", .bits32, 4, 1, 0, 1, false, 0, 4⟩,
  ⟨0x1013, "HK.FILT_ENABLE", .bool, 16, 3, 0, 3, true, 1, 1⟩,
  ⟨0x1014, "HK.FILT_CIC_R", .u16, 16, 3, 0, 3, true, 50, 2⟩,
  ⟨0x1015, "HK.FILT_FIR_D", .u8, 16, 3, 0, 3, true, 2, 1⟩,
  ⟨0x1016, "HK.FILT_SET", .u8, 16, 3, 0, 3, true, 0, 1⟩,
  ⟨0x1017, "HK.FILT_RATE_HZ", .u32, 16, 3, 0, 3, true, 1000, 4⟩]

/-- Rows of the dictionary index (R550), indices 0x1018 to 0x102F. -/
def objRows10_1 : List ObjRow := [
  ⟨0x1018, "HK.FILT_OUT", .u16, 16, 1, 1, 1, false, 65535, 2⟩,
  ⟨0x1019, "HK.FILT_TIME", .time96, 16, 1, 0, 1, false, 0, 12⟩,
  ⟨0x101A, "HK.FILT_UNSETTLED", .bool, 16, 1, 1, 1, false, 1, 1⟩,
  ⟨0x101B, "HK.FIR_IDLE", .blob, 0, 3, 0, 3, false, 0, 768⟩,
  ⟨0x101C, "HK.FIR_ACTIVE", .blob, 0, 1, 0, 1, true, 0, 768⟩,
  ⟨0x101D, "HK.FIR_SWAP", .enum8, 0, 4, 0, 4, false, 0, 1⟩,
  ⟨0x101E, "HK.DET_WINDOW", .u16, 16, 3, 0, 3, true, 1000, 2⟩,
  ⟨0x101F, "HK.PEAK_MAX", .u16, 16, 1, 1, 1, false, 65535, 2⟩,
  ⟨0x1020, "HK.PEAK_MIN", .u16, 16, 1, 1, 1, false, 65535, 2⟩,
  ⟨0x1021, "HK.RMS", .u16, 16, 1, 1, 1, false, 65535, 2⟩,
  ⟨0x1022, "HK.ENVELOPE", .u16, 16, 1, 1, 1, false, 65535, 2⟩,
  ⟨0x1023, "HK.ENV_DECAY", .u8, 16, 3, 0, 3, true, 8, 1⟩,
  ⟨0x1024, "HK.ADAC_CODE", .u16, 16, 3, 0, 3, true, 0, 2⟩,
  ⟨0x1025, "HK.ADAC_OUT", .u16, 16, 1, 1, 1, false, 0, 2⟩,
  ⟨0x1026, "HK.ADAC_MODE", .enum8, 16, 3, 0, 3, true, 0, 1⟩,
  ⟨0x1027, "HK.ADAC_SLEW_STEP", .u16, 16, 3, 0, 3, true, 4095, 2⟩,
  ⟨0x1028, "HK.ADAC_SLEW_US", .u16, 16, 3, 0, 3, true, 1, 2⟩,
  ⟨0x1029, "HK.ADAC_FLAGS", .bits32, 16, 1, 1, 1, false, 0, 4⟩,
  ⟨0x102A, "HK.ADAC_SHORT_COUNT", .u32, 16, 1, 0, 1, false, 0, 4⟩,
  ⟨0x102B, "HK.LOAD", .enum8, 0, 4, 0, 4, false, 0, 1⟩,
  ⟨0x102C, "HK.LOAD_SOURCE", .bits32, 0, 3, 0, 3, true, 0, 4⟩,
  ⟨0x102D, "HK.LOAD_DIV", .u16, 0, 3, 0, 3, true, 1, 2⟩,
  ⟨0x102E, "HK.LOAD_COUNT", .u32, 0, 1, 0, 1, false, 0, 4⟩,
  ⟨0x102F, "HK.PWM_ENABLE", .bool, 4, 3, 0, 3, true, 0, 1⟩]

/-- Rows of the dictionary index (R550), indices 0x1030 to 0x1033. -/
def objRows10_2 : List ObjRow := [
  ⟨0x1030, "HK.PWM_PERIOD", .u32, 4, 3, 0, 3, true, 100000, 4⟩,
  ⟨0x1031, "HK.PWM_DUTY", .u16, 4, 3, 0, 3, true, 0, 2⟩,
  ⟨0x1032, "HK.PWM_POLARITY", .enum8, 4, 3, 0, 3, true, 0, 1⟩,
  ⟨0x1033, "HK.EVENTS", .u32, 0, 1, 0, 1, false, 0, 4⟩]

/-- Rows of the dictionary index (R550), indices 0x1100 to 0x1113. -/
def objRows11_0 : List ObjRow := [
  ⟨0x1100, "ENG.IMAGE_VERSION", .u32, 4, 1, 1, 1, false, 0, 4⟩,
  ⟨0x1101, "ENG.STATE", .enum8, 128, 1, 0, 1, false, 0, 1⟩,
  ⟨0x1102, "ENG.ASSIGNMENT", .u8, 128, 1, 0, 1, false, 255, 1⟩,
  ⟨0x1103, "ENG.LOAD", .u16, 128, 1, 0, 1, false, 0, 2⟩,
  ⟨0x1104, "ENG.TASK_MISSES", .u32, 128, 1, 0, 1, false, 0, 4⟩,
  ⟨0x1105, "ENG.RESTARTS", .u32, 128, 1, 0, 1, false, 0, 4⟩,
  ⟨0x1106, "ENG.PACE", .u8, 8, 1, 0, 1, false, 8, 1⟩,
  ⟨0x1107, "ENG.RESTART", .enum8, 128, 0, 0, 4, false, 0, 1⟩,
  ⟨0x1108, "ENG.STEPS", .u64, 128, 1, 0, 1, false, 0, 8⟩,
  ⟨0x1109, "ENG.CYCLES", .u64, 128, 1, 0, 1, false, 0, 8⟩,
  ⟨0x110A, "ENG.SLOTS", .blob, 128, 1, 0, 1, false, 0, 32⟩,
  ⟨0x110B, "ENG.PMU_SEL", .blob, 128, 1, 0, 3, false, 0, 12⟩,
  ⟨0x110C, "ENG.PMU_COUNT", .blob, 128, 1, 0, 3, false, 0, 48⟩,
  ⟨0x110D, "ENG.PMU_OVF_EN", .bits32, 128, 1, 0, 3, false, 0, 4⟩,
  ⟨0x110E, "ENG.PMU_OVF_STATUS", .bits32, 128, 1, 0, 3, false, 0, 4⟩,
  ⟨0x110F, "ENG.PMU_SAMPLE", .bits32, 128, 1, 0, 1, false, 0, 4⟩,
  ⟨0x1110, "ENG.PMU_GRANT", .bool, 0, 1, 0, 3, false, 0, 1⟩,
  ⟨0x1111, "ENG.PMU_FREEZE", .bits32, 0, 1, 0, 3, false, 0, 4⟩,
  ⟨0x1112, "ENG.PMU_CLEAR", .enum8, 0, 0, 0, 4, false, 0, 1⟩,
  ⟨0x1113, "ENG.EVENTS", .u32, 128, 1, 0, 1, false, 0, 4⟩]

/-- Rows of the dictionary index (R550), indices 0x1200 to 0x1222. -/
def objRows12_0 : List ObjRow := [
  ⟨0x1200, "THERMAL.TJ", .i16, 0, 1, 1, 1, false, -32768, 2⟩,
  ⟨0x1201, "THERMAL.DIODE", .i16, 0, 1, 0, 1, false, -32768, 2⟩,
  ⟨0x1202, "THERMAL.MON", .i16, 32, 1, 0, 1, false, -32768, 2⟩,
  ⟨0x1203, "THERMAL.MON_FAIL", .bits32, 0, 1, 1, 1, false, 0, 4⟩,
  ⟨0x1204, "THERMAL.DIODE_FAIL", .bool, 0, 1, 1, 1, false, 0, 1⟩,
  ⟨0x1205, "THERMAL.MAP_TIME", .time96, 0, 1, 0, 1, false, 0, 12⟩,
  ⟨0x1206, "THERMAL.OFFSET_C", .i16, 0, 1, 1, 1, false, 0, 2⟩,
  ⟨0x1207, "THERMAL.WARN_C", .i16, 0, 3, 0, 3, true, 105, 2⟩,
  ⟨0x1208, "THERMAL.THROTTLE_C", .i16, 0, 3, 0, 3, true, 115, 2⟩,
  ⟨0x1209, "THERMAL.SHUTDOWN_C", .i16, 0, 1, 1, 1, false, 125, 2⟩,
  ⟨0x120A, "THERMAL.STATE", .enum8, 0, 1, 1, 1, false, 0, 1⟩,
  ⟨0x120B, "THERMAL.BAND", .enum8, 0, 1, 1, 1, false, 1, 1⟩,
  ⟨0x120C, "THERMAL.THROTTLE_STEP", .u8, 0, 1, 1, 1, false, 0, 1⟩,
  ⟨0x120D, "THERMAL.THROTTLE_MIN", .u8, 0, 3, 0, 3, false, 0, 1⟩,
  ⟨0x120E, "THERMAL.AUTOCLEAR", .bool, 0, 3, 0, 3, true, 0, 1⟩,
  ⟨0x120F, "THERMAL.SHUTDOWN_COUNT", .u32, 0, 1, 1, 1, false, 0, 4⟩,
  ⟨0x1210, "THERMAL.TJ_PEAK", .i16, 0, 1, 0, 1, false, -32768, 2⟩,
  ⟨0x1211, "THERMAL.BAND_HOURS", .u32, 4, 1, 1, 1, true, 0, 4⟩,
  ⟨0x1212, "THERMAL.THROTTLE_MS", .u64, 0, 1, 0, 1, false, 0, 8⟩,
  ⟨0x1213, "THERMAL.CLEAR_PEAK", .enum8, 0, 4, 0, 4, false, 0, 1⟩,
  ⟨0x1214, "THERMAL.EVENTS", .u32, 0, 1, 0, 1, false, 0, 4⟩,
  ⟨0x1220, "COMPASS.PLAN_MV", .u16, 0, 1, 0, 1, true, 0, 2⟩,
  ⟨0x1221, "COMPASS.AVS_REQUEST_MV", .u16, 0, 1, 1, 1, false, 0, 2⟩,
  ⟨0x1222, "COMPASS.AVS_READBACK_MV", .u16, 0, 1, 0, 1, false, 0, 2⟩]

/-- Rows of the dictionary index (R550), indices 0x1223 to 0x122E. -/
def objRows12_1 : List ObjRow := [
  ⟨0x1223, "COMPASS.AGE_INDEX", .u16, 5, 1, 1, 1, false, 0, 2⟩,
  ⟨0x1224, "COMPASS.FABRIC_LOSS", .u16, 0, 1, 0, 1, false, 0, 2⟩,
  ⟨0x1225, "COMPASS.MARGIN_LEFT", .u16, 0, 1, 1, 1, false, 1000, 2⟩,
  ⟨0x1226, "COMPASS.YEARS_TO_FLOOR", .u16, 0, 1, 1, 1, false, 65535, 2⟩,
  ⟨0x1227, "COMPASS.YEARS_ALARM", .u16, 0, 3, 0, 3, true, 400, 2⟩,
  ⟨0x1228, "COMPASS.POWERED_HOURS", .u32, 0, 1, 1, 1, true, 0, 4⟩,
  ⟨0x1229, "COMPASS.PLAN_TIME", .time96, 0, 1, 0, 1, false, 0, 12⟩,
  ⟨0x122A, "COMPASS.PLAN_COUNT", .u32, 0, 1, 0, 1, false, 0, 4⟩,
  ⟨0x122B, "COMPASS.PLAN_NOW", .enum8, 0, 4, 0, 4, false, 0, 1⟩,
  ⟨0x122C, "COMPASS.EVENTS", .u32, 0, 1, 0, 1, false, 0, 4⟩,
  ⟨0x122D, "COMPASS.HOST_BASE_DB", .q88, 16, 1, 0, 1, true, 0, 2⟩,
  ⟨0x122E, "COMPASS.HOST_BASE_HOURS", .u8, 16, 1, 0, 1, true, 0, 1⟩]

/-- Rows of the dictionary index (R550), indices 0x1300 to 0x1322. -/
def objRows13_0 : List ObjRow := [
  ⟨0x1300, "POWER.STATE", .enum8, 36, 1, 1, 1, false, 0, 1⟩,
  ⟨0x1301, "POWER.VOTES", .bits32, 36, 1, 1, 1, false, 0, 4⟩,
  ⟨0x1302, "POWER.VOTE_HOST", .bool, 36, 3, 0, 3, false, 0, 1⟩,
  ⟨0x1303, "POWER.VOTE_FAR", .bool, 36, 3, 3, 3, false, 0, 1⟩,
  ⟨0x1304, "POWER.FAR_GRANT", .bool, 0, 3, 1, 3, true, 0, 1⟩,
  ⟨0x1305, "POWER.REST_STATE", .enum8, 36, 3, 0, 3, true, 1, 1⟩,
  ⟨0x1306, "POWER.WAKE_POLARITY", .bits32, 0, 3, 0, 3, true, 0, 4⟩,
  ⟨0x1307, "POWER.WAKE_MAP", .bits32, 36, 3, 0, 3, true, 0, 4⟩,
  ⟨0x1308, "POWER.RES_ON_US", .u64, 36, 1, 0, 1, false, 0, 8⟩,
  ⟨0x1309, "POWER.RES_RET_US", .u64, 36, 1, 0, 1, false, 0, 8⟩,
  ⟨0x130A, "POWER.RES_OFF_US", .u64, 36, 1, 0, 1, false, 0, 8⟩,
  ⟨0x130B, "POWER.WAKES", .u32, 36, 1, 0, 1, false, 0, 4⟩,
  ⟨0x130C, "POWER.ENTRY_ABORTS", .u32, 36, 1, 0, 1, false, 0, 4⟩,
  ⟨0x130D, "POWER.RET_LOST", .u32, 36, 1, 0, 1, false, 0, 4⟩,
  ⟨0x130E, "POWER.STATE_TIME", .time96, 36, 1, 0, 1, false, 0, 12⟩,
  ⟨0x130F, "POWER.RESET_CAUSE", .enum8, 0, 1, 1, 1, false, 0, 1⟩,
  ⟨0x1310, "POWER.START_STEP", .u8, 0, 1, 1, 1, false, 0, 1⟩,
  ⟨0x1311, "POWER.READY_TIME", .time96, 0, 1, 1, 1, false, 0, 12⟩,
  ⟨0x1312, "POWER.START_COUNT", .u32, 0, 1, 0, 1, false, 0, 4⟩,
  ⟨0x1313, "POWER.CHIP_RESET", .enum8, 0, 4, 0, 4, false, 0, 1⟩,
  ⟨0x1314, "POWER.EVENTS", .u32, 0, 1, 0, 1, false, 0, 4⟩,
  ⟨0x1320, "CLOCK.MGT_SPREAD", .bool, 0, 3, 0, 3, true, 0, 1⟩,
  ⟨0x1321, "PAD.SLEW_MGT", .u8, 0, 3, 0, 3, true, 2, 1⟩,
  ⟨0x1322, "PAD.SLEW_FLASH", .u8, 0, 3, 0, 3, true, 2, 1⟩]

/-- Rows of the dictionary index (R550), indices 0x1400 to 0x1410. -/
def objRows14_0 : List ObjRow := [
  ⟨0x1400, "FAULT.LOG", .blob, 0, 1, 0, 1, false, 0, 1536⟩,
  ⟨0x1401, "FAULT.LOG_COUNT", .u8, 0, 1, 1, 1, false, 0, 1⟩,
  ⟨0x1402, "FAULT.LOG_SEQ", .u16, 0, 1, 0, 1, false, 0, 2⟩,
  ⟨0x1403, "FAULT.LOG_DROPPED", .u32, 0, 1, 0, 1, false, 0, 4⟩,
  ⟨0x1404, "FAULT.LOG_CLEAR", .enum8, 0, 4, 0, 4, false, 0, 1⟩,
  ⟨0x1405, "FAULT.SEVERITY", .enum8, 255, 3, 0, 3, true, 0, 1⟩,
  ⟨0x1406, "FAULT.REACTION", .bits32, 255, 3, 0, 3, true, 0, 4⟩,
  ⟨0x1407, "FAULT.SRC_COUNT", .u32, 255, 1, 0, 1, false, 0, 4⟩,
  ⟨0x1408, "FAULT.INT_PENDING", .blob, 0, 3, 0, 3, false, 0, 32⟩,
  ⟨0x1409, "FAULT.ERR_PENDING", .blob, 0, 3, 0, 3, false, 0, 32⟩,
  ⟨0x140A, "FAULT.HIGHEST", .enum8, 0, 1, 1, 1, false, 255, 1⟩,
  ⟨0x140B, "FAULT.TRAP_RECORD", .blob, 0, 1, 0, 1, false, 0, 24⟩,
  ⟨0x140C, "FAULT.SELF_FAULT", .enum8, 0, 1, 1, 1, false, 0, 1⟩,
  ⟨0x140D, "FAULT.SAFE_CAUSE", .enum8, 0, 1, 1, 1, false, 0, 1⟩,
  ⟨0x140E, "FAULT.SAFE_SOURCE", .u8, 0, 1, 1, 1, false, 0, 1⟩,
  ⟨0x140F, "FAULT.SAFE_TIME", .time96, 0, 1, 1, 1, false, 0, 12⟩,
  ⟨0x1410, "FAULT.RAISE", .u32, 0, 4, 0, 4, false, 0, 4⟩]

/-- Rows of the dictionary index (R550), indices 0x1500 to 0x150A. -/
def objRows15_0 : List ObjRow := [
  ⟨0x1500, "MEM.SCRUB_ENABLE", .bool, 0, 3, 0, 3, true, 1, 1⟩,
  ⟨0x1501, "MEM.CORRECTED", .u64, 44, 1, 1, 1, false, 0, 8⟩,
  ⟨0x1502, "MEM.UNCORRECTABLE", .u64, 44, 1, 1, 1, false, 0, 8⟩,
  ⟨0x1503, "MEM.HARD_FAULTS", .u32, 44, 1, 1, 1, false, 0, 4⟩,
  ⟨0x1504, "MEM.SPARES_USED", .u8, 44, 1, 1, 1, false, 0, 1⟩,
  ⟨0x1505, "MEM.SPARE_ADDR", .blob, 44, 1, 0, 1, false, 0, 32⟩,
  ⟨0x1506, "MEM.REPEAT_THRESH", .u8, 0, 3, 0, 3, true, 16, 1⟩,
  ⟨0x1507, "MEM.REPEAT_CORRECTED", .u64, 2, 1, 0, 1, false, 0, 8⟩,
  ⟨0x1508, "MEM.REPEAT_TABLE", .blob, 2, 1, 0, 1, false, 0, 96⟩,
  ⟨0x1509, "MEM.SCRUB_PASSES", .u32, 44, 1, 0, 1, false, 0, 4⟩,
  ⟨0x150A, "MEM.EVENTS", .u32, 0, 1, 0, 1, false, 0, 4⟩]

/-- Rows of the dictionary index (R550), indices 0x1600 to 0x1616. -/
def objRows16_0 : List ObjRow := [
  ⟨0x1600, "LC.STATE", .enum8, 0, 1, 1, 1, false, 0, 1⟩,
  ⟨0x1601, "LC.NEXT", .enum8, 0, 1, 0, 1, false, 0, 1⟩,
  ⟨0x1602, "LC.ADVANCE", .enum8, 0, 0, 0, 4, false, 0, 1⟩,
  ⟨0x1603, "LC.CHALLENGE", .blob, 0, 1, 0, 1, false, 0, 32⟩,
  ⟨0x1604, "LC.RETURN", .blob, 0, 4, 0, 4, false, 0, 96⟩,
  ⟨0x1605, "LC.RETIRE", .enum8, 0, 0, 0, 4, false, 0, 1⟩,
  ⟨0x1606, "FUSE.SHADOW", .blob, 0, 1, 0, 1, false, 0, 2048⟩,
  ⟨0x1607, "FUSE.PROG_WORD", .u8, 0, 0, 0, 3, false, 64, 1⟩,
  ⟨0x1608, "FUSE.PROG_DATA", .u64, 0, 0, 0, 3, false, 0, 8⟩,
  ⟨0x1609, "FUSE.PROGRAM", .enum8, 0, 0, 0, 4, false, 0, 1⟩,
  ⟨0x160A, "SELFTEST.BIST_RESULT", .enum8, 8, 1, 1, 1, false, 0, 1⟩,
  ⟨0x160B, "SELFTEST.BIST_DONE", .bits32, 0, 1, 1, 1, false, 0, 4⟩,
  ⟨0x160C, "SELFTEST.BIST_SIG", .u64, 8, 1, 0, 1, false, 0, 8⟩,
  ⟨0x160D, "SELFTEST.BIST_PATTERNS", .u32, 8, 1, 0, 1, false, 0, 4⟩,
  ⟨0x160E, "SELFTEST.BIST_SET", .enum8, 8, 1, 0, 1, false, 0, 1⟩,
  ⟨0x160F, "SELFTEST.BIST_TIME", .time96, 0, 1, 0, 1, false, 0, 12⟩,
  ⟨0x1610, "SELFTEST.BIST_RUN", .bits32, 0, 0, 0, 4, false, 0, 4⟩,
  ⟨0x1611, "SELFTEST.ANALOG_RUN", .bits32, 0, 4, 0, 4, false, 0, 4⟩,
  ⟨0x1612, "SELFTEST.ANALOG_RESULT", .enum8, 26, 1, 1, 1, false, 0, 1⟩,
  ⟨0x1613, "SELFTEST.ANALOG_DETAIL", .u32, 26, 1, 0, 1, false, 0, 4⟩,
  ⟨0x1614, "SELFTEST.ANALOG_TIME", .time96, 26, 1, 0, 1, false, 0, 12⟩,
  ⟨0x1615, "SELFTEST.ANALOG_COUNT", .u32, 26, 1, 0, 1, false, 0, 4⟩,
  ⟨0x1616, "SELFTEST.EVENTS", .u32, 0, 1, 0, 1, false, 0, 4⟩]

/-- Rows of the dictionary index (R550), indices 0x1700 to 0x1717. -/
def objRows17_0 : List ObjRow := [
  ⟨0x1700, "UPDATE.SESSION", .enum8, 0, 1, 1, 1, false, 0, 1⟩,
  ⟨0x1701, "UPDATE.SOURCE", .u8, 0, 1, 1, 1, false, 0, 1⟩,
  ⟨0x1702, "UPDATE.OPEN", .u32, 0, 4, 4, 4, false, 0, 4⟩,
  ⟨0x1703, "UPDATE.STAGING", .blob, 0, 2, 2, 2, false, 0, 65535⟩,
  ⟨0x1704, "UPDATE.PAGES_WRITTEN", .u32, 0, 1, 1, 1, false, 0, 4⟩,
  ⟨0x1705, "UPDATE.PAGE_FAILS", .u32, 0, 1, 1, 1, false, 0, 4⟩,
  ⟨0x1706, "UPDATE.VERIFY", .enum8, 0, 4, 4, 4, false, 0, 1⟩,
  ⟨0x1707, "UPDATE.VERIFY_RESULT", .enum8, 0, 1, 1, 1, false, 0, 1⟩,
  ⟨0x1708, "UPDATE.ACTIVATE", .enum8, 0, 4, 4, 4, false, 0, 1⟩,
  ⟨0x1709, "UPDATE.CLOSE", .enum8, 0, 4, 4, 4, false, 0, 1⟩,
  ⟨0x170A, "UPDATE.ABORT", .enum8, 0, 0, 0, 4, false, 0, 1⟩,
  ⟨0x170B, "UPDATE.CONFIRM", .enum8, 0, 4, 0, 4, false, 0, 1⟩,
  ⟨0x170C, "UPDATE.PROBATION_S", .u32, 0, 3, 0, 3, true, 900, 4⟩,
  ⟨0x170D, "UPDATE.PROBATION_LEFT_S", .u32, 0, 1, 1, 1, false, 0, 4⟩,
  ⟨0x170E, "UPDATE.FAR_GRANT", .bool, 0, 3, 1, 3, true, 0, 1⟩,
  ⟨0x170F, "UPDATE.IMAGE_VERSION", .u32, 3, 1, 1, 1, false, 0, 4⟩,
  ⟨0x1710, "UPDATE.IMAGE_STATE", .enum8, 0, 1, 1, 1, false, 0, 1⟩,
  ⟨0x1711, "UPDATE.LAST_RESULT", .enum8, 0, 1, 1, 1, false, 0, 1⟩,
  ⟨0x1712, "UPDATE.JOURNAL_SEQ", .u32, 0, 1, 0, 1, false, 0, 4⟩,
  ⟨0x1713, "UPDATE.JOURNAL_TIME", .time96, 0, 1, 0, 1, false, 0, 12⟩,
  ⟨0x1714, "SETTINGS.SLOT", .enum8, 0, 1, 1, 1, false, 2, 1⟩,
  ⟨0x1715, "SETTINGS.FORMAT", .u16, 0, 1, 0, 1, false, 0, 2⟩,
  ⟨0x1716, "SETTINGS.SAVE_SEQ", .u32, 0, 1, 1, 1, false, 0, 4⟩,
  ⟨0x1717, "SETTINGS.SAVE_TIME", .time96, 0, 1, 0, 1, false, 0, 12⟩]

/-- Rows of the dictionary index (R550), indices 0x1718 to 0x1718. -/
def objRows17_1 : List ObjRow := [
  ⟨0x1718, "UPDATE.EVENTS", .u32, 0, 1, 0, 1, false, 0, 4⟩]

/-- Rows of the dictionary index (R550), indices 0x1800 to 0x1811. -/
def objRows18_0 : List ObjRow := [
  ⟨0x1800, "FABRIC.MARGIN", .u16, 0, 1, 1, 1, false, 65535, 2⟩,
  ⟨0x1801, "FABRIC.LANE_MARGIN", .u16, 8, 1, 1, 1, false, 65535, 2⟩,
  ⟨0x1802, "FABRIC.LANE_MARGIN_MIN", .u16, 8, 1, 0, 1, false, 65535, 2⟩,
  ⟨0x1803, "FABRIC.AVS_THRESH", .u16, 0, 3, 0, 3, true, 1200, 2⟩,
  ⟨0x1804, "FABRIC.SHED_THRESH", .u16, 0, 3, 0, 3, true, 1100, 2⟩,
  ⟨0x1805, "FABRIC.RELEASE_HYST", .u16, 0, 3, 0, 3, true, 50, 2⟩,
  ⟨0x1806, "FABRIC.SHED_LEVEL", .u8, 8, 1, 1, 1, false, 0, 1⟩,
  ⟨0x1807, "FABRIC.LRX_FILL_PEAK", .u8, 8, 1, 0, 1, false, 0, 1⟩,
  ⟨0x1808, "FABRIC.LTX_FILL_MIN", .u8, 8, 1, 0, 1, false, 100, 1⟩,
  ⟨0x1809, "FABRIC.HIN_FILL_PEAK", .u8, 16, 1, 0, 1, false, 0, 1⟩,
  ⟨0x180A, "FABRIC.HOUT_FILL_MIN", .u8, 16, 1, 0, 1, false, 100, 1⟩,
  ⟨0x180B, "FABRIC.LINE_EB_EVENTS", .u32, 8, 1, 1, 1, false, 0, 4⟩,
  ⟨0x180C, "FABRIC.HOST_EB_EVENTS", .u32, 16, 1, 1, 1, false, 0, 4⟩,
  ⟨0x180D, "FABRIC.MARGIN_RAISE_MV", .u16, 0, 1, 0, 1, false, 0, 2⟩,
  ⟨0x180E, "FABRIC.BAND_OFFSET_MV", .i16, 4, 1, 0, 1, true, 0, 2⟩,
  ⟨0x180F, "FABRIC.CLEAR_MIN", .enum8, 0, 4, 0, 4, false, 0, 1⟩,
  ⟨0x1810, "FABRIC.DECODE_POWER_MW", .u32, 8, 1, 1, 1, false, 0, 4⟩,
  ⟨0x1811, "FABRIC.CANARY_FAIL", .u16, 0, 1, 0, 1, false, 0, 2⟩]

/-- The rows of the bank of 256 indices that holds an index (R550). -/
def objBank (ix : Nat) : List ObjRow :=
  match ix / 256 with
  | 0x00 => objRows00_0 ++ objRows00_1
  | 0x01 => objRows01_0
  | 0x02 => objRows02_0
  | 0x04 => objRows04_0 ++ objRows04_1
  | 0x08 => objRows08_0 ++ objRows08_1 ++ objRows08_2
  | 0x09 => objRows09_0 ++ objRows09_1
  | 0x0A => objRows0A_0 ++ objRows0A_1
  | 0x0B => objRows0B_0
  | 0x0C => objRows0C_0 ++ objRows0C_1
  | 0x0D => objRows0D_0 ++ objRows0D_1
  | 0x0E => objRows0E_0 ++ objRows0E_1
  | 0x10 => objRows10_0 ++ objRows10_1 ++ objRows10_2
  | 0x11 => objRows11_0
  | 0x12 => objRows12_0 ++ objRows12_1
  | 0x13 => objRows13_0
  | 0x14 => objRows14_0
  | 0x15 => objRows15_0
  | 0x16 => objRows16_0
  | 0x17 => objRows17_0 ++ objRows17_1
  | 0x18 => objRows18_0
  | _ => []

/-- Every row of the dictionary, in index order (R550). -/
def objTable : List ObjRow :=
  objBank 0x0000 ++
  objBank 0x0100 ++
  objBank 0x0200 ++
  objBank 0x0400 ++
  objBank 0x0800 ++
  objBank 0x0900 ++
  objBank 0x0A00 ++
  objBank 0x0B00 ++
  objBank 0x0C00 ++
  objBank 0x0D00 ++
  objBank 0x0E00 ++
  objBank 0x1000 ++
  objBank 0x1100 ++
  objBank 0x1200 ++
  objBank 0x1300 ++
  objBank 0x1400 ++
  objBank 0x1500 ++
  objBank 0x1600 ++
  objBank 0x1700 ++
  objBank 0x1800

/-! Object indices by name. -/
abbrev Ob.DICT_STATE : Nat := 0x0000
abbrev Ob.CAP_HEAD : Nat := 0x0001
abbrev Ob.DICT_SCHEMA_VERSION : Nat := 0x0002
abbrev Ob.DICT_SCHEMA_OLDEST : Nat := 0x0003
abbrev Ob.DICT_OBJECT_COUNT : Nat := 0x0004
abbrev Ob.DICT_SAVE : Nat := 0x0005
abbrev Ob.DICT_SAVE_PENDING : Nat := 0x0006
abbrev Ob.DICT_RESTORE_DEFAULTS : Nat := 0x0007
abbrev Ob.CAP_ENTRY : Nat := 0x0010
abbrev Ob.CAP_ENTRY_VENDOR : Nat := 0x002F
abbrev Ob.MMP_I2C_ADDR : Nat := 0x0040
abbrev Ob.MMP_MDIO_PRTAD : Nat := 0x0041
abbrev Ob.MMP_INT_ON_REPLY : Nat := 0x0042
abbrev Ob.MMP_RX_FRAMES : Nat := 0x0043
abbrev Ob.MMP_FRAME_ERRORS : Nat := 0x0044
abbrev Ob.MMP_FAR_SERVE : Nat := 0x0045
abbrev Ob.MMP_FAR_TIMEOUT_MS : Nat := 0x0046
abbrev Ob.MMP_FAR_RETRIES : Nat := 0x0047
abbrev Ob.MMP_FAR_TIMEOUTS : Nat := 0x0048
abbrev Ob.MMP_FAR_LATE : Nat := 0x0049
abbrev Ob.MMP_PRIV_CHALLENGE : Nat := 0x004A
abbrev Ob.MMP_PRIV_OPEN : Nat := 0x004B
abbrev Ob.MMP_PRIV_CLOSE : Nat := 0x004C
abbrev Ob.MMP_PRIV_IDLE_S : Nat := 0x004D
abbrev Ob.MMP_PRIV_STATE : Nat := 0x004E
abbrev Ob.MMP_PRIV_FAILS : Nat := 0x004F
abbrev Ob.MMP_EVENTS : Nat := 0x0050
abbrev Ob.ID_ORDERING_CODE : Nat := 0x0100
abbrev Ob.ID_STEPPING : Nat := 0x0101
abbrev Ob.ID_SERIAL : Nat := 0x0102
abbrev Ob.ID_LIFE_CYCLE : Nat := 0x0103
abbrev Ob.ID_ROM_VERSION : Nat := 0x0104
abbrev Ob.ID_IMAGE_VERSION : Nat := 0x0105
abbrev Ob.TIME_NOW : Nat := 0x0200
abbrev Ob.TIME_NEXT_SECONDS : Nat := 0x0201
abbrev Ob.TIME_NEXT_ARMED : Nat := 0x0202
abbrev Ob.TIME_PPS_ENABLE : Nat := 0x0203
abbrev Ob.TIME_PPS_POLARITY : Nat := 0x0204
abbrev Ob.TIME_PPS_FILTER : Nat := 0x0205
abbrev Ob.TIME_PPS_DELAY_PS : Nat := 0x0206
abbrev Ob.TIME_RATE_ADJ : Nat := 0x0207
abbrev Ob.TIME_STATE : Nat := 0x0208
abbrev Ob.TIME_PHASE_ERR_PS : Nat := 0x0209
abbrev Ob.TIME_EPOCH : Nat := 0x020A
abbrev Ob.TIME_SET : Nat := 0x020B
abbrev Ob.TIME_PPS_COUNT : Nat := 0x020C
abbrev Ob.TIME_PPS_REJECT : Nat := 0x020D
abbrev Ob.TIME_PPS_MISSED : Nat := 0x020E
abbrev Ob.PORT_BREAKOUT_EAST : Nat := 0x0401
abbrev Ob.PORT_BREAKOUT_WEST : Nat := 0x0402
abbrev Ob.PORT_APPLY_BREAKOUT : Nat := 0x0403
abbrev Ob.PORT_RATE_SET : Nat := 0x0404
abbrev Ob.PORT_MODE : Nat := 0x0405
abbrev Ob.PORT_OWNER : Nat := 0x0406
abbrev Ob.PORT_STATE : Nat := 0x0407
abbrev Ob.PORT_CMD : Nat := 0x0408
abbrev Ob.PORT_START_STATE : Nat := 0x0409
abbrev Ob.PORT_SEARCH_STATUS : Nat := 0x040A
abbrev Ob.PORT_FORMAT_FOUND : Nat := 0x040B
abbrev Ob.PORT_PARTNER_WIDTH : Nat := 0x040C
abbrev Ob.PORT_RATE_ACTIVE : Nat := 0x040D
abbrev Ob.PORT_RATE_FOLLOW : Nat := 0x040E
abbrev Ob.PORT_RETURN_STATE : Nat := 0x040F
abbrev Ob.PORT_TEST_START : Nat := 0x0410
abbrev Ob.PORT_TEST_DURATION_MS : Nat := 0x0411
abbrev Ob.PORT_TEST_RESULT : Nat := 0x0412
abbrev Ob.PORT_CARRY_DELAY_US : Nat := 0x0413
abbrev Ob.PORT_NO_FRAME_MS : Nat := 0x0414
abbrev Ob.PORT_NO_PARTNER_MS : Nat := 0x0415
abbrev Ob.PORT_LOS_HOLDOFF_US : Nat := 0x0416
abbrev Ob.PORT_STATE_TIME : Nat := 0x0417
abbrev Ob.PORT_CARRY_ENTRIES : Nat := 0x0418
abbrev Ob.PORT_DRAIN_CAUSE : Nat := 0x0419
abbrev Ob.PORT_RATE_CHANGING : Nat := 0x041A
abbrev Ob.PORT_EVENTS : Nat := 0x041B
abbrev Ob.S1_ALIGN_STATE : Nat := 0x0420
abbrev Ob.S1_CW : Nat := 0x0421
abbrev Ob.S1_CW_CORRECTED : Nat := 0x0422
abbrev Ob.S1_BITS_CORRECTED : Nat := 0x0423
abbrev Ob.S1_CW_UNCORRECTABLE : Nat := 0x0424
abbrev Ob.S1_PRE_BER : Nat := 0x0425
abbrev Ob.S1_AM_ERR : Nat := 0x0426
abbrev Ob.LINE_ADC_STATE : Nat := 0x0800
abbrev Ob.LINE_ADC_CAL_FG : Nat := 0x0801
abbrev Ob.LINE_ADC_CAL_RESULT : Nat := 0x0802
abbrev Ob.LINE_ADC_CAL_KIND : Nat := 0x0803
abbrev Ob.LINE_ADC_CAL_COUNT : Nat := 0x0804
abbrev Ob.LINE_ADC_CAL_TIME : Nat := 0x0805
abbrev Ob.LINE_ADC_RECAL_S : Nat := 0x0806
abbrev Ob.LINE_ADC_RECAL_DUE_S : Nat := 0x0807
abbrev Ob.LINE_ADC_BG_ENABLE : Nat := 0x0808
abbrev Ob.LINE_ADC_SKEW_TRIM : Nat := 0x0809
abbrev Ob.LINE_ADC_OFFSET_SPREAD : Nat := 0x080A
abbrev Ob.LINE_ADC_GAIN_SPREAD : Nat := 0x080B
abbrev Ob.LINE_ADC_FAILED_SUBADC : Nat := 0x080C
abbrev Ob.LINE_ADC_SELF_NOISE_LSB : Nat := 0x080D
abbrev Ob.LINE_ADC_COUPLING : Nat := 0x080E
abbrev Ob.LINE_TIA_ZT_OHM : Nat := 0x080F
abbrev Ob.LINE_SIGNAL_RMS : Nat := 0x0810
abbrev Ob.LINE_SIGNAL_DC : Nat := 0x0811
abbrev Ob.LINE_CLIP_RATE : Nat := 0x0812
abbrev Ob.LINE_LOS_ASSERT : Nat := 0x0813
abbrev Ob.LINE_LOS_DEASSERT : Nat := 0x0814
abbrev Ob.LINE_LOS_RAW : Nat := 0x0815
abbrev Ob.LINE_NOISE_FLOOR_LSB : Nat := 0x0816
abbrev Ob.LINE_NOISE_FLOOR_UA : Nat := 0x0817
abbrev Ob.LINE_ADC_EVENTS : Nat := 0x0818
abbrev Ob.LINE_TL_STATE : Nat := 0x0819
abbrev Ob.LINE_TL_FREQ_PPB : Nat := 0x081A
abbrev Ob.LINE_TL_BW_KHZ : Nat := 0x081B
abbrev Ob.LINE_TL_RESTART : Nat := 0x081C
abbrev Ob.LINE_TL_RETRIES : Nat := 0x081D
abbrev Ob.LINE_TL_LOCK_LOSS : Nat := 0x081E
abbrev Ob.LINE_EQ_STATE : Nat := 0x081F
abbrev Ob.LINE_EQ_ACTIVE_BANK : Nat := 0x0820
abbrev Ob.LINE_EQ_STRUCTURE : Nat := 0x0821
abbrev Ob.LINE_EQ_SWAP_COUNT : Nat := 0x0822
abbrev Ob.LINE_EQ_SWAP_CYCLES : Nat := 0x0823
abbrev Ob.LINE_EQ_MU_SHIFT : Nat := 0x0824
abbrev Ob.LINE_EQ_FREEZE : Nat := 0x0825
abbrev Ob.LINE_EQ_FFE : Nat := 0x0826
abbrev Ob.LINE_EQ_DFE : Nat := 0x0827
abbrev Ob.LINE_EQ_LEVELS : Nat := 0x0828
abbrev Ob.LINE_EQ_ROLLBACKS : Nat := 0x0829
abbrev Ob.LINE_EQ_CLAMPS : Nat := 0x082A
abbrev Ob.LINE_RX_PRECODE : Nat := 0x082B
abbrev Ob.LINE_RX_PRECODE_FOUND : Nat := 0x082C
abbrev Ob.LINE_RX_INVERT : Nat := 0x082D
abbrev Ob.LINE_UNSETTLED : Nat := 0x082E
abbrev Ob.LINE_UNSETTLED_BLOCKS : Nat := 0x082F
abbrev Ob.LINE_STATS_INCL_UNSETTLED : Nat := 0x0830
abbrev Ob.LINE_MSE : Nat := 0x0831
abbrev Ob.LINE_SNR_DB : Nat := 0x0832
abbrev Ob.LINE_BER_EST : Nat := 0x0833
abbrev Ob.LINE_EYE_CAPTURE : Nat := 0x0834
abbrev Ob.LINE_EYE_SYMBOLS : Nat := 0x0835
abbrev Ob.LINE_EYE_HIST : Nat := 0x0836
abbrev Ob.LINE_EYE_HEIGHT : Nat := 0x0837
abbrev Ob.LINE_EQ_EVENTS : Nat := 0x0838
abbrev Ob.LINE_SNR : Nat := 0x0840
abbrev Ob.TIC_CW_ARRIVED : Nat := 0x0900
abbrev Ob.TIC_CW_CONVERGED : Nat := 0x0901
abbrev Ob.TIC_CW_CAP_FAIL : Nat := 0x0902
abbrev Ob.TIC_CW_FORCED : Nat := 0x0903
abbrev Ob.TIC_CW_UNDECODED : Nat := 0x0904
abbrev Ob.TIC_CW_UNSETTLED : Nat := 0x0905
abbrev Ob.TIC_ITER_TOTAL : Nat := 0x0906
abbrev Ob.TIC_ITER_MEAN : Nat := 0x0907
abbrev Ob.TIC_ITER_HIST : Nat := 0x0908
abbrev Ob.TIC_BITS_CORRECTED : Nat := 0x0909
abbrev Ob.TIC_PRE_BER : Nat := 0x090A
abbrev Ob.TIC_LLR_STEP : Nat := 0x090B
abbrev Ob.TIC_CAP_EFFECTIVE : Nat := 0x090C
abbrev Ob.TIC_DEADLINE_NS : Nat := 0x090D
abbrev Ob.TIC_FORCED_ALARM_PPB : Nat := 0x090E
abbrev Ob.TIC_POOL_SPEED : Nat := 0x090F
abbrev Ob.TIC_POOL_LOAD : Nat := 0x0910
abbrev Ob.TIC_UNITS_AVAILABLE : Nat := 0x0911
abbrev Ob.TIC_UNITS_RESERVED : Nat := 0x0912
abbrev Ob.TIC_BORROWED : Nat := 0x0913
abbrev Ob.TIC_STAGING_PEAK : Nat := 0x0914
abbrev Ob.TIC_STAGING_FULL : Nat := 0x0915
abbrev Ob.HAMPER_OCCUPANCY : Nat := 0x0916
abbrev Ob.HAMPER_OCCUPANCY_PEAK : Nat := 0x0917
abbrev Ob.HAMPER_LATENCY_MAX_NS : Nat := 0x0918
abbrev Ob.TIC_CLEAR_PEAKS : Nat := 0x0919
abbrev Ob.TIC_EVENTS : Nat := 0x091A
abbrev Ob.LINK_ALIGN_STATE : Nat := 0x0A00
abbrev Ob.LINK_SKEW_CW : Nat := 0x0A01
abbrev Ob.LINK_MARKER_ERR : Nat := 0x0A02
abbrev Ob.LINK_RS_CW : Nat := 0x0A03
abbrev Ob.LINK_RS_SYM_CORRECTED : Nat := 0x0A04
abbrev Ob.LINK_RS_UNCORRECTABLE : Nat := 0x0A05
abbrev Ob.LINK_RS_HIST : Nat := 0x0A06
abbrev Ob.LINK_FRAMES_OK : Nat := 0x0A07
abbrev Ob.LINK_HDR_FAIL : Nat := 0x0A08
abbrev Ob.LINK_CRC_FAIL : Nat := 0x0A09
abbrev Ob.LINK_FRAMES_RESCUED : Nat := 0x0A0A
abbrev Ob.LINK_FRAMES_UNSETTLED : Nat := 0x0A0B
abbrev Ob.LINK_PROTOCOL_ERR : Nat := 0x0A0C
abbrev Ob.LINK_PARTNER_PORT : Nat := 0x0A0D
abbrev Ob.LINK_LPL_MAX : Nat := 0x0A0E
abbrev Ob.LINK_PARTNER_LPL_MAX : Nat := 0x0A0F
abbrev Ob.LINK_PARTNER_FEAT : Nat := 0x0A10
abbrev Ob.LINK_LPL_TX : Nat := 0x0A11
abbrev Ob.LINK_LPL_RX : Nat := 0x0A12
abbrev Ob.LINK_LPL_CHANGES : Nat := 0x0A13
abbrev Ob.LINK_LPL_IMPL : Nat := 0x0A14
abbrev Ob.LINK_MGMT_TX_WORDS : Nat := 0x0A15
abbrev Ob.LINK_MGMT_RX_WORDS : Nat := 0x0A16
abbrev Ob.RETRY_WINDOW_US : Nat := 0x0A17
abbrev Ob.RETRY_REPLAY_MAX : Nat := 0x0A18
abbrev Ob.RETRY_GUARD_NS : Nat := 0x0A19
abbrev Ob.RETRY_STATUS_REPEAT_NS : Nat := 0x0A1A
abbrev Ob.RETRY_TX_BACKLOG_MAX : Nat := 0x0A1B
abbrev Ob.RETRY_RTT_NS : Nat := 0x0A1C
abbrev Ob.RETRY_REPLAY_EFFECTIVE : Nat := 0x0A1D
abbrev Ob.RETRY_OUTSTANDING : Nat := 0x0A1E
abbrev Ob.RETRY_OUTSTANDING_PEAK : Nat := 0x0A1F
abbrev Ob.RETRY_HOLD_OCCUPANCY : Nat := 0x0A20
abbrev Ob.RETRY_HOLD_PEAK : Nat := 0x0A21
abbrev Ob.RETRY_TX_DATA : Nat := 0x0A22
abbrev Ob.RETRY_TX_REPLAYS : Nat := 0x0A23
abbrev Ob.RETRY_TX_WRITEOFF : Nat := 0x0A24
abbrev Ob.RETRY_TX_SOURCE_LOST : Nat := 0x0A25
abbrev Ob.RETRY_RX_DELIVERED : Nat := 0x0A26
abbrev Ob.RETRY_RX_LOST : Nat := 0x0A27
abbrev Ob.RETRY_RX_DUPLICATE : Nat := 0x0A28
abbrev Ob.RETRY_RX_OUT_OF_WINDOW : Nat := 0x0A29
abbrev Ob.RETRY_STATUS_SENT : Nat := 0x0A2A
abbrev Ob.RETRY_CLEAR_PEAKS : Nat := 0x0A2B
abbrev Ob.RETRY_EVENTS : Nat := 0x0A2C
abbrev Ob.RETRY_WINDOW : Nat := 0x0A30
abbrev Ob.DS_ENABLE : Nat := 0x0B00
abbrev Ob.DS_STATE : Nat := 0x0B01
abbrev Ob.DS_PIN_RATE : Nat := 0x0B02
abbrev Ob.DS_DENSITY : Nat := 0x0B03
abbrev Ob.DS_DEVICE_STATE : Nat := 0x0B04
abbrev Ob.DS_MEM_TEMP_C : Nat := 0x0B05
abbrev Ob.DS_MEM_HOT_C : Nat := 0x0B06
abbrev Ob.DS_REFRESH_MULT : Nat := 0x0B07
abbrev Ob.DS_TRAIN_TIME : Nat := 0x0B08
abbrev Ob.DS_RETRAIN_COUNT : Nat := 0x0B09
abbrev Ob.DS_RETRAIN : Nat := 0x0B0A
abbrev Ob.DS_LINES_CORRECTED : Nat := 0x0B0B
abbrev Ob.DS_CORRECTED_BY_DEVICE : Nat := 0x0B0C
abbrev Ob.DS_TRIAL_CORRECTIONS : Nat := 0x0B0D
abbrev Ob.DS_UNCORRECTABLE : Nat := 0x0B0E
abbrev Ob.DS_STALE : Nat := 0x0B0F
abbrev Ob.DS_WRITE_RETRY : Nat := 0x0B10
abbrev Ob.DS_REMAP_USED : Nat := 0x0B11
abbrev Ob.DS_REMAP_ENTRY : Nat := 0x0B12
abbrev Ob.DS_WRITE_LATE : Nat := 0x0B13
abbrev Ob.DS_SPILL_FRAMES : Nat := 0x0B14
abbrev Ob.DS_BW_ADMITTED_GBPS : Nat := 0x0B15
abbrev Ob.DS_BW_USED_GBPS : Nat := 0x0B16
abbrev Ob.DS_EVENTS : Nat := 0x0B17
abbrev Ob.TX_STATE : Nat := 0x0C00
abbrev Ob.TX_SYNTH_STATE : Nat := 0x0C01
abbrev Ob.TX_SYNTH_CAL_TIME : Nat := 0x0C02
abbrev Ob.TX_SYNTH_CAL_COUNT : Nat := 0x0C03
abbrev Ob.TX_SYNTH_UNLOCKS : Nat := 0x0C04
abbrev Ob.TX_PRECODE : Nat := 0x0C05
abbrev Ob.TX_INVERT : Nat := 0x0C06
abbrev Ob.TX_MUTE_FORCE : Nat := 0x0C07
abbrev Ob.TX_DAC_FS_MVPPD : Nat := 0x0C08
abbrev Ob.TX_DAC_FS_MEAS : Nat := 0x0C09
abbrev Ob.TX_WAVE_COLD : Nat := 0x0C0A
abbrev Ob.TX_WAVE_NORMAL : Nat := 0x0C0B
abbrev Ob.TX_WAVE_WARM : Nat := 0x0C0C
abbrev Ob.TX_WAVE_HOT : Nat := 0x0C0D
abbrev Ob.TX_WAVE_ACTIVE_BAND : Nat := 0x0C0E
abbrev Ob.TX_WAVE_RAMPING : Nat := 0x0C0F
abbrev Ob.TX_CLIP_COUNT : Nat := 0x0C10
abbrev Ob.OPTICS_PIN_ROLE_A : Nat := 0x0C11
abbrev Ob.OPTICS_PIN_ROLE_B : Nat := 0x0C12
abbrev Ob.OPTICS_PIN_ROLE_LAS : Nat := 0x0C13
abbrev Ob.OPTICS_PIN_POLARITY : Nat := 0x0C14
abbrev Ob.OPTICS_UP_T1_NS : Nat := 0x0C15
abbrev Ob.OPTICS_UP_T2_NS : Nat := 0x0C16
abbrev Ob.OPTICS_UP_T3_NS : Nat := 0x0C17
abbrev Ob.OPTICS_DN_T1_NS : Nat := 0x0C18
abbrev Ob.OPTICS_DN_T2_NS : Nat := 0x0C19
abbrev Ob.OPTICS_DN_T3_NS : Nat := 0x0C1A
abbrev Ob.OPTICS_BIAS_MAP : Nat := 0x0C1B
abbrev Ob.OPTICS_SEQ_STATE : Nat := 0x0C1C
abbrev Ob.OPTICS_STATIC_LEVEL : Nat := 0x0C1D
abbrev Ob.OPTICS_APC_ENABLE : Nat := 0x0C1E
abbrev Ob.OPTICS_APC_AMON : Nat := 0x0C1F
abbrev Ob.OPTICS_APC_ADAC : Nat := 0x0C20
abbrev Ob.OPTICS_APC_SETPOINT : Nat := 0x0C21
abbrev Ob.OPTICS_APC_MIN_CODE : Nat := 0x0C22
abbrev Ob.OPTICS_APC_MAX_CODE : Nat := 0x0C23
abbrev Ob.OPTICS_APC_STEP : Nat := 0x0C24
abbrev Ob.OPTICS_APC_GAIN : Nat := 0x0C25
abbrev Ob.OPTICS_APC_STATE : Nat := 0x0C26
abbrev Ob.TX_EVENTS : Nat := 0x0C27
abbrev Ob.HOST_LANE_STATE : Nat := 0x0D00
abbrev Ob.HOST_PRESET_TABLE : Nat := 0x0D01
abbrev Ob.HOST_PRESET_SEL : Nat := 0x0D02
abbrev Ob.HOST_PRESET_APPLIED : Nat := 0x0D03
abbrev Ob.HOST_HOST_TX_ADVICE : Nat := 0x0D04
abbrev Ob.HOST_RX_INVERT : Nat := 0x0D05
abbrev Ob.HOST_TX_INVERT : Nat := 0x0D06
abbrev Ob.HOST_RX_PRECODE : Nat := 0x0D07
abbrev Ob.HOST_TX_PRECODE : Nat := 0x0D08
abbrev Ob.HOST_RX_FREQ_PPB : Nat := 0x0D09
abbrev Ob.HOST_TX_OFFSET_PPB : Nat := 0x0D0A
abbrev Ob.HOST_RX_SNR_DB : Nat := 0x0D0B
abbrev Ob.HOST_LOCK_LOSS : Nat := 0x0D0C
abbrev Ob.HOST_EGRESS_MODE : Nat := 0x0D0D
abbrev Ob.HOST_SKEW_NS : Nat := 0x0D0E
abbrev Ob.HOST_RS_IN_CW : Nat := 0x0D10
abbrev Ob.HOST_RS_IN_SYM_CORRECTED : Nat := 0x0D11
abbrev Ob.HOST_RS_IN_UNCORRECTABLE : Nat := 0x0D12
abbrev Ob.HOST_RS_IN_HIST : Nat := 0x0D13
abbrev Ob.HOST_RS_OUT_CW : Nat := 0x0D14
abbrev Ob.HOST_RS_OUT_MARKED : Nat := 0x0D15
abbrev Ob.HOST_RS_OUT_SYM_SEEN : Nat := 0x0D16
abbrev Ob.HOST_RS_OUT_UNCORRECTABLE : Nat := 0x0D17
abbrev Ob.HOST_IDLE_DELETED : Nat := 0x0D18
abbrev Ob.HOST_IDLE_INSERTED : Nat := 0x0D19
abbrev Ob.HOST_ERR_BLOCKS_IN : Nat := 0x0D1A
abbrev Ob.HOST_FAULT_FILL_BLOCKS : Nat := 0x0D1B
abbrev Ob.HOST_STALL_BREAKS : Nat := 0x0D1C
abbrev Ob.HOST_EVENTS : Nat := 0x0D1D
abbrev Ob.TEST_LINE_PATTERN : Nat := 0x0E00
abbrev Ob.TEST_HOST_PATTERN : Nat := 0x0E01
abbrev Ob.TEST_LINE_CHK_STATE : Nat := 0x0E02
abbrev Ob.TEST_LINE_BITS : Nat := 0x0E03
abbrev Ob.TEST_LINE_ERRORS : Nat := 0x0E04
abbrev Ob.TEST_LINE_LOCK_LOSS : Nat := 0x0E05
abbrev Ob.TEST_HOST_CHK_STATE : Nat := 0x0E06
abbrev Ob.TEST_HOST_BITS : Nat := 0x0E07
abbrev Ob.TEST_HOST_ERRORS : Nat := 0x0E08
abbrev Ob.TEST_HOST_LOCK_LOSS : Nat := 0x0E09
abbrev Ob.TEST_FAR_LOOP : Nat := 0x0E0A
abbrev Ob.TEST_FAR_LOOP_GRANT : Nat := 0x0E0B
abbrev Ob.TEST_INJ_SYM_PROB : Nat := 0x0E0C
abbrev Ob.TEST_INJ_KIND : Nat := 0x0E0D
abbrev Ob.TEST_INJ_COUNT : Nat := 0x0E0E
abbrev Ob.TEST_INJ_LANES : Nat := 0x0E0F
abbrev Ob.TEST_INJ_CW_BITS : Nat := 0x0E10
abbrev Ob.TEST_INJ_FIRE : Nat := 0x0E11
abbrev Ob.TEST_INJ_ACTIVE : Nat := 0x0E12
abbrev Ob.TEST_INJ_APPLIED : Nat := 0x0E13
abbrev Ob.TEST_INJ_SYM_ERRORS : Nat := 0x0E14
abbrev Ob.TEST_CAP_SOURCE : Nat := 0x0E15
abbrev Ob.TEST_CAP_LANE : Nat := 0x0E16
abbrev Ob.TEST_CAP_TRIG : Nat := 0x0E17
abbrev Ob.TEST_CAP_TRIG_TIME : Nat := 0x0E18
abbrev Ob.TEST_CAP_TRIG_FAULT : Nat := 0x0E19
abbrev Ob.TEST_CAP_PRE_PCT : Nat := 0x0E1A
abbrev Ob.TEST_CAP_ARM : Nat := 0x0E1B
abbrev Ob.TEST_CAP_TRIGGER : Nat := 0x0E1C
abbrev Ob.TEST_CAP_STATE : Nat := 0x0E1D
abbrev Ob.TEST_CAP_START_TIME : Nat := 0x0E1E
abbrev Ob.TEST_CAP_TRIG_STAMP : Nat := 0x0E1F
abbrev Ob.TEST_CAP_ENTRIES : Nat := 0x0E20
abbrev Ob.TEST_CAP_DATA : Nat := 0x0E21
abbrev Ob.TEST_EVENTS : Nat := 0x0E22
abbrev Ob.HK_REF_ENABLE : Nat := 0x1000
abbrev Ob.HK_REF_READY : Nat := 0x1001
abbrev Ob.HK_SELF_CAL : Nat := 0x1002
abbrev Ob.HK_CAL_RESULT : Nat := 0x1003
abbrev Ob.HK_CAL_OFFSET : Nat := 0x1004
abbrev Ob.HK_CAL_GAIN : Nat := 0x1005
abbrev Ob.HK_CAL_COUNT : Nat := 0x1006
abbrev Ob.HK_CAL_TIME : Nat := 0x1007
abbrev Ob.HK_TRIG_SOURCE : Nat := 0x1008
abbrev Ob.HK_TRIG_EDGE : Nat := 0x1009
abbrev Ob.HK_TRIG_DELAY : Nat := 0x100A
abbrev Ob.HK_TIMER_PERIOD : Nat := 0x100B
abbrev Ob.HK_TRIG_TIMEOUT_US : Nat := 0x100C
abbrev Ob.HK_TRIG_STATE : Nat := 0x100D
abbrev Ob.HK_TRIG_MISSED : Nat := 0x100E
abbrev Ob.HK_SCAN : Nat := 0x100F
abbrev Ob.HK_PAIR_MODE : Nat := 0x1010
abbrev Ob.HK_PAIR_INPUT : Nat := 0x1011
abbrev Ob.HK_ADC_RESULT : Nat := 0x1012
abbrev Ob.HK_FILT_ENABLE : Nat := 0x1013
abbrev Ob.HK_FILT_CIC_R : Nat := 0x1014
abbrev Ob.HK_FILT_FIR_D : Nat := 0x1015
abbrev Ob.HK_FILT_SET : Nat := 0x1016
abbrev Ob.HK_FILT_RATE_HZ : Nat := 0x1017
abbrev Ob.HK_FILT_OUT : Nat := 0x1018
abbrev Ob.HK_FILT_TIME : Nat := 0x1019
abbrev Ob.HK_FILT_UNSETTLED : Nat := 0x101A
abbrev Ob.HK_FIR_IDLE : Nat := 0x101B
abbrev Ob.HK_FIR_ACTIVE : Nat := 0x101C
abbrev Ob.HK_FIR_SWAP : Nat := 0x101D
abbrev Ob.HK_DET_WINDOW : Nat := 0x101E
abbrev Ob.HK_PEAK_MAX : Nat := 0x101F
abbrev Ob.HK_PEAK_MIN : Nat := 0x1020
abbrev Ob.HK_RMS : Nat := 0x1021
abbrev Ob.HK_ENVELOPE : Nat := 0x1022
abbrev Ob.HK_ENV_DECAY : Nat := 0x1023
abbrev Ob.HK_ADAC_CODE : Nat := 0x1024
abbrev Ob.HK_ADAC_OUT : Nat := 0x1025
abbrev Ob.HK_ADAC_MODE : Nat := 0x1026
abbrev Ob.HK_ADAC_SLEW_STEP : Nat := 0x1027
abbrev Ob.HK_ADAC_SLEW_US : Nat := 0x1028
abbrev Ob.HK_ADAC_FLAGS : Nat := 0x1029
abbrev Ob.HK_ADAC_SHORT_COUNT : Nat := 0x102A
abbrev Ob.HK_LOAD : Nat := 0x102B
abbrev Ob.HK_LOAD_SOURCE : Nat := 0x102C
abbrev Ob.HK_LOAD_DIV : Nat := 0x102D
abbrev Ob.HK_LOAD_COUNT : Nat := 0x102E
abbrev Ob.HK_PWM_ENABLE : Nat := 0x102F
abbrev Ob.HK_PWM_PERIOD : Nat := 0x1030
abbrev Ob.HK_PWM_DUTY : Nat := 0x1031
abbrev Ob.HK_PWM_POLARITY : Nat := 0x1032
abbrev Ob.HK_EVENTS : Nat := 0x1033
abbrev Ob.ENG_IMAGE_VERSION : Nat := 0x1100
abbrev Ob.ENG_STATE : Nat := 0x1101
abbrev Ob.ENG_ASSIGNMENT : Nat := 0x1102
abbrev Ob.ENG_LOAD : Nat := 0x1103
abbrev Ob.ENG_TASK_MISSES : Nat := 0x1104
abbrev Ob.ENG_RESTARTS : Nat := 0x1105
abbrev Ob.ENG_PACE : Nat := 0x1106
abbrev Ob.ENG_RESTART : Nat := 0x1107
abbrev Ob.ENG_STEPS : Nat := 0x1108
abbrev Ob.ENG_CYCLES : Nat := 0x1109
abbrev Ob.ENG_SLOTS : Nat := 0x110A
abbrev Ob.ENG_PMU_SEL : Nat := 0x110B
abbrev Ob.ENG_PMU_COUNT : Nat := 0x110C
abbrev Ob.ENG_PMU_OVF_EN : Nat := 0x110D
abbrev Ob.ENG_PMU_OVF_STATUS : Nat := 0x110E
abbrev Ob.ENG_PMU_SAMPLE : Nat := 0x110F
abbrev Ob.ENG_PMU_GRANT : Nat := 0x1110
abbrev Ob.ENG_PMU_FREEZE : Nat := 0x1111
abbrev Ob.ENG_PMU_CLEAR : Nat := 0x1112
abbrev Ob.ENG_EVENTS : Nat := 0x1113
abbrev Ob.THERMAL_TJ : Nat := 0x1200
abbrev Ob.THERMAL_DIODE : Nat := 0x1201
abbrev Ob.THERMAL_MON : Nat := 0x1202
abbrev Ob.THERMAL_MON_FAIL : Nat := 0x1203
abbrev Ob.THERMAL_DIODE_FAIL : Nat := 0x1204
abbrev Ob.THERMAL_MAP_TIME : Nat := 0x1205
abbrev Ob.THERMAL_OFFSET_C : Nat := 0x1206
abbrev Ob.THERMAL_WARN_C : Nat := 0x1207
abbrev Ob.THERMAL_THROTTLE_C : Nat := 0x1208
abbrev Ob.THERMAL_SHUTDOWN_C : Nat := 0x1209
abbrev Ob.THERMAL_STATE : Nat := 0x120A
abbrev Ob.THERMAL_BAND : Nat := 0x120B
abbrev Ob.THERMAL_THROTTLE_STEP : Nat := 0x120C
abbrev Ob.THERMAL_THROTTLE_MIN : Nat := 0x120D
abbrev Ob.THERMAL_AUTOCLEAR : Nat := 0x120E
abbrev Ob.THERMAL_SHUTDOWN_COUNT : Nat := 0x120F
abbrev Ob.THERMAL_TJ_PEAK : Nat := 0x1210
abbrev Ob.THERMAL_BAND_HOURS : Nat := 0x1211
abbrev Ob.THERMAL_THROTTLE_MS : Nat := 0x1212
abbrev Ob.THERMAL_CLEAR_PEAK : Nat := 0x1213
abbrev Ob.THERMAL_EVENTS : Nat := 0x1214
abbrev Ob.COMPASS_PLAN_MV : Nat := 0x1220
abbrev Ob.COMPASS_AVS_REQUEST_MV : Nat := 0x1221
abbrev Ob.COMPASS_AVS_READBACK_MV : Nat := 0x1222
abbrev Ob.COMPASS_AGE_INDEX : Nat := 0x1223
abbrev Ob.COMPASS_FABRIC_LOSS : Nat := 0x1224
abbrev Ob.COMPASS_MARGIN_LEFT : Nat := 0x1225
abbrev Ob.COMPASS_YEARS_TO_FLOOR : Nat := 0x1226
abbrev Ob.COMPASS_YEARS_ALARM : Nat := 0x1227
abbrev Ob.COMPASS_POWERED_HOURS : Nat := 0x1228
abbrev Ob.COMPASS_PLAN_TIME : Nat := 0x1229
abbrev Ob.COMPASS_PLAN_COUNT : Nat := 0x122A
abbrev Ob.COMPASS_PLAN_NOW : Nat := 0x122B
abbrev Ob.COMPASS_EVENTS : Nat := 0x122C
abbrev Ob.COMPASS_HOST_BASE_DB : Nat := 0x122D
abbrev Ob.COMPASS_HOST_BASE_HOURS : Nat := 0x122E
abbrev Ob.POWER_STATE : Nat := 0x1300
abbrev Ob.POWER_VOTES : Nat := 0x1301
abbrev Ob.POWER_VOTE_HOST : Nat := 0x1302
abbrev Ob.POWER_VOTE_FAR : Nat := 0x1303
abbrev Ob.POWER_FAR_GRANT : Nat := 0x1304
abbrev Ob.POWER_REST_STATE : Nat := 0x1305
abbrev Ob.POWER_WAKE_POLARITY : Nat := 0x1306
abbrev Ob.POWER_WAKE_MAP : Nat := 0x1307
abbrev Ob.POWER_RES_ON_US : Nat := 0x1308
abbrev Ob.POWER_RES_RET_US : Nat := 0x1309
abbrev Ob.POWER_RES_OFF_US : Nat := 0x130A
abbrev Ob.POWER_WAKES : Nat := 0x130B
abbrev Ob.POWER_ENTRY_ABORTS : Nat := 0x130C
abbrev Ob.POWER_RET_LOST : Nat := 0x130D
abbrev Ob.POWER_STATE_TIME : Nat := 0x130E
abbrev Ob.POWER_RESET_CAUSE : Nat := 0x130F
abbrev Ob.POWER_START_STEP : Nat := 0x1310
abbrev Ob.POWER_READY_TIME : Nat := 0x1311
abbrev Ob.POWER_START_COUNT : Nat := 0x1312
abbrev Ob.POWER_CHIP_RESET : Nat := 0x1313
abbrev Ob.POWER_EVENTS : Nat := 0x1314
abbrev Ob.CLOCK_MGT_SPREAD : Nat := 0x1320
abbrev Ob.PAD_SLEW_MGT : Nat := 0x1321
abbrev Ob.PAD_SLEW_FLASH : Nat := 0x1322
abbrev Ob.FAULT_LOG : Nat := 0x1400
abbrev Ob.FAULT_LOG_COUNT : Nat := 0x1401
abbrev Ob.FAULT_LOG_SEQ : Nat := 0x1402
abbrev Ob.FAULT_LOG_DROPPED : Nat := 0x1403
abbrev Ob.FAULT_LOG_CLEAR : Nat := 0x1404
abbrev Ob.FAULT_SEVERITY : Nat := 0x1405
abbrev Ob.FAULT_REACTION : Nat := 0x1406
abbrev Ob.FAULT_SRC_COUNT : Nat := 0x1407
abbrev Ob.FAULT_INT_PENDING : Nat := 0x1408
abbrev Ob.FAULT_ERR_PENDING : Nat := 0x1409
abbrev Ob.FAULT_HIGHEST : Nat := 0x140A
abbrev Ob.FAULT_TRAP_RECORD : Nat := 0x140B
abbrev Ob.FAULT_SELF_FAULT : Nat := 0x140C
abbrev Ob.FAULT_SAFE_CAUSE : Nat := 0x140D
abbrev Ob.FAULT_SAFE_SOURCE : Nat := 0x140E
abbrev Ob.FAULT_SAFE_TIME : Nat := 0x140F
abbrev Ob.FAULT_RAISE : Nat := 0x1410
abbrev Ob.MEM_SCRUB_ENABLE : Nat := 0x1500
abbrev Ob.MEM_CORRECTED : Nat := 0x1501
abbrev Ob.MEM_UNCORRECTABLE : Nat := 0x1502
abbrev Ob.MEM_HARD_FAULTS : Nat := 0x1503
abbrev Ob.MEM_SPARES_USED : Nat := 0x1504
abbrev Ob.MEM_SPARE_ADDR : Nat := 0x1505
abbrev Ob.MEM_REPEAT_THRESH : Nat := 0x1506
abbrev Ob.MEM_REPEAT_CORRECTED : Nat := 0x1507
abbrev Ob.MEM_REPEAT_TABLE : Nat := 0x1508
abbrev Ob.MEM_SCRUB_PASSES : Nat := 0x1509
abbrev Ob.MEM_EVENTS : Nat := 0x150A
abbrev Ob.LC_STATE : Nat := 0x1600
abbrev Ob.LC_NEXT : Nat := 0x1601
abbrev Ob.LC_ADVANCE : Nat := 0x1602
abbrev Ob.LC_CHALLENGE : Nat := 0x1603
abbrev Ob.LC_RETURN : Nat := 0x1604
abbrev Ob.LC_RETIRE : Nat := 0x1605
abbrev Ob.FUSE_SHADOW : Nat := 0x1606
abbrev Ob.FUSE_PROG_WORD : Nat := 0x1607
abbrev Ob.FUSE_PROG_DATA : Nat := 0x1608
abbrev Ob.FUSE_PROGRAM : Nat := 0x1609
abbrev Ob.SELFTEST_BIST_RESULT : Nat := 0x160A
abbrev Ob.SELFTEST_BIST_DONE : Nat := 0x160B
abbrev Ob.SELFTEST_BIST_SIG : Nat := 0x160C
abbrev Ob.SELFTEST_BIST_PATTERNS : Nat := 0x160D
abbrev Ob.SELFTEST_BIST_SET : Nat := 0x160E
abbrev Ob.SELFTEST_BIST_TIME : Nat := 0x160F
abbrev Ob.SELFTEST_BIST_RUN : Nat := 0x1610
abbrev Ob.SELFTEST_ANALOG_RUN : Nat := 0x1611
abbrev Ob.SELFTEST_ANALOG_RESULT : Nat := 0x1612
abbrev Ob.SELFTEST_ANALOG_DETAIL : Nat := 0x1613
abbrev Ob.SELFTEST_ANALOG_TIME : Nat := 0x1614
abbrev Ob.SELFTEST_ANALOG_COUNT : Nat := 0x1615
abbrev Ob.SELFTEST_EVENTS : Nat := 0x1616
abbrev Ob.UPDATE_SESSION : Nat := 0x1700
abbrev Ob.UPDATE_SOURCE : Nat := 0x1701
abbrev Ob.UPDATE_OPEN : Nat := 0x1702
abbrev Ob.UPDATE_STAGING : Nat := 0x1703
abbrev Ob.UPDATE_PAGES_WRITTEN : Nat := 0x1704
abbrev Ob.UPDATE_PAGE_FAILS : Nat := 0x1705
abbrev Ob.UPDATE_VERIFY : Nat := 0x1706
abbrev Ob.UPDATE_VERIFY_RESULT : Nat := 0x1707
abbrev Ob.UPDATE_ACTIVATE : Nat := 0x1708
abbrev Ob.UPDATE_CLOSE : Nat := 0x1709
abbrev Ob.UPDATE_ABORT : Nat := 0x170A
abbrev Ob.UPDATE_CONFIRM : Nat := 0x170B
abbrev Ob.UPDATE_PROBATION_S : Nat := 0x170C
abbrev Ob.UPDATE_PROBATION_LEFT_S : Nat := 0x170D
abbrev Ob.UPDATE_FAR_GRANT : Nat := 0x170E
abbrev Ob.UPDATE_IMAGE_VERSION : Nat := 0x170F
abbrev Ob.UPDATE_IMAGE_STATE : Nat := 0x1710
abbrev Ob.UPDATE_LAST_RESULT : Nat := 0x1711
abbrev Ob.UPDATE_JOURNAL_SEQ : Nat := 0x1712
abbrev Ob.UPDATE_JOURNAL_TIME : Nat := 0x1713
abbrev Ob.SETTINGS_SLOT : Nat := 0x1714
abbrev Ob.SETTINGS_FORMAT : Nat := 0x1715
abbrev Ob.SETTINGS_SAVE_SEQ : Nat := 0x1716
abbrev Ob.SETTINGS_SAVE_TIME : Nat := 0x1717
abbrev Ob.UPDATE_EVENTS : Nat := 0x1718
abbrev Ob.FABRIC_MARGIN : Nat := 0x1800
abbrev Ob.FABRIC_LANE_MARGIN : Nat := 0x1801
abbrev Ob.FABRIC_LANE_MARGIN_MIN : Nat := 0x1802
abbrev Ob.FABRIC_AVS_THRESH : Nat := 0x1803
abbrev Ob.FABRIC_SHED_THRESH : Nat := 0x1804
abbrev Ob.FABRIC_RELEASE_HYST : Nat := 0x1805
abbrev Ob.FABRIC_SHED_LEVEL : Nat := 0x1806
abbrev Ob.FABRIC_LRX_FILL_PEAK : Nat := 0x1807
abbrev Ob.FABRIC_LTX_FILL_MIN : Nat := 0x1808
abbrev Ob.FABRIC_HIN_FILL_PEAK : Nat := 0x1809
abbrev Ob.FABRIC_HOUT_FILL_MIN : Nat := 0x180A
abbrev Ob.FABRIC_LINE_EB_EVENTS : Nat := 0x180B
abbrev Ob.FABRIC_HOST_EB_EVENTS : Nat := 0x180C
abbrev Ob.FABRIC_MARGIN_RAISE_MV : Nat := 0x180D
abbrev Ob.FABRIC_BAND_OFFSET_MV : Nat := 0x180E
abbrev Ob.FABRIC_CLEAR_MIN : Nat := 0x180F
abbrev Ob.FABRIC_DECODE_POWER_MW : Nat := 0x1810
abbrev Ob.FABRIC_CANARY_FAIL : Nat := 0x1811

/-- The row that holds an index. -/
def objRow? (ix : Nat) : Option ObjRow := (objBank ix).find? (fun r => r.ix == ix)

/-! LOOKOUT source numbers (R455). -/
abbrev Src.WAYMARK_PPS_LOST : Nat := 0x01
abbrev Src.FABRIC_LINE_EB_OVERRUN : Nat := 0x08
abbrev Src.FABRIC_HOST_EB_OVERRUN : Nat := 0x09
abbrev Src.FABRIC_MARGIN_LOW : Nat := 0x0A
abbrev Src.FABRIC_CANARY_FAIL : Nat := 0x0B
abbrev Src.ADC_CAL_FAIL : Nat := 0x10
abbrev Src.ADC_TRIM_LIMIT : Nat := 0x11
abbrev Src.ADC_DRIFT : Nat := 0x12
abbrev Src.ADC_SUBADC_FAIL : Nat := 0x13
abbrev Src.ADC_RXSYNTH_UNLOCK : Nat := 0x14
abbrev Src.TL_LOCK_LOSS : Nat := 0x18
abbrev Src.TL_ACQ_RETRY : Nat := 0x19
abbrev Src.EQ_ROLLBACK : Nat := 0x1A
abbrev Src.EQ_CLAMP : Nat := 0x1B
abbrev Src.TIC_FORCED_RATE : Nat := 0x20
abbrev Src.TIC_STAGING_FULL : Nat := 0x21
abbrev Src.TIC_UNIT_FAIL : Nat := 0x22
abbrev Src.LINK_ALIGN_LOSS : Nat := 0x28
abbrev Src.LINK_SKEW_LIMIT : Nat := 0x29
abbrev Src.LINK_PROTOCOL : Nat := 0x2A
abbrev Src.RETRY_FRAME_LOST : Nat := 0x2B
abbrev Src.RETRY_SOURCE_LOST : Nat := 0x2C
abbrev Src.RETRY_WINDOW_SHORT : Nat := 0x2D
abbrev Src.DS_TRAIN_FAIL : Nat := 0x30
abbrev Src.DS_DEVICE_FAILED : Nat := 0x31
abbrev Src.DS_UNCORRECTABLE : Nat := 0x32
abbrev Src.DS_REMAP : Nat := 0x33
abbrev Src.DS_REMAP_EXHAUSTED : Nat := 0x34
abbrev Src.DS_BANDWIDTH : Nat := 0x35
abbrev Src.DS_MEM_HOT : Nat := 0x36
abbrev Src.TX_SYNTH_CAL_FAIL : Nat := 0x38
abbrev Src.TX_SYNTH_UNLOCK : Nat := 0x39
abbrev Src.TX_DAC_FS : Nat := 0x3A
abbrev Src.TX_CLIP : Nat := 0x3B
abbrev Src.OPTICS_APC_LIMIT : Nat := 0x3C
abbrev Src.HOST_LOCK_LOSS : Nat := 0x40
abbrev Src.HOST_SKEW_LIMIT : Nat := 0x41
abbrev Src.HOST_RS_UNCORRECTABLE : Nat := 0x42
abbrev Src.HOST_RATE_MATCH : Nat := 0x43
abbrev Src.PORT_NO_PARTNER : Nat := 0x48
abbrev Src.PORT_NO_ALIGN : Nat := 0x49
abbrev Src.PORT_FORMAT_MISMATCH : Nat := 0x4A
abbrev Src.PORT_DRAIN : Nat := 0x4B
abbrev Src.TEST_INJECT : Nat := 0x50
abbrev Src.TEST_PRBS_LOCK_LOSS : Nat := 0x51
abbrev Src.TEST_CAPTURE : Nat := 0x52
abbrev Src.MMP_FRAME_ERROR : Nat := 0x58
abbrev Src.MMP_AUTH_FAIL : Nat := 0x59
abbrev Src.MMP_FAR_TIMEOUT : Nat := 0x5A
abbrev Src.HK_CAL_FAIL : Nat := 0x60
abbrev Src.HK_TRIG_FALLBACK : Nat := 0x61
abbrev Src.HK_ADAC_SHORT : Nat := 0x62
abbrev Src.ENG_DEADLINE : Nat := 0x68
abbrev Src.ENG_ACCESS : Nat := 0x69
abbrev Src.ENG_HALTED : Nat := 0x6A
abbrev Src.ENG_WORK_LOST : Nat := 0x6B
abbrev Src.ENG_PMU_OVERFLOW : Nat := 0x6C
abbrev Src.THERMAL_WARN : Nat := 0x70
abbrev Src.THERMAL_THROTTLE : Nat := 0x71
abbrev Src.THERMAL_SHUTDOWN : Nat := 0x72
abbrev Src.THERMAL_MON_FAIL : Nat := 0x73
abbrev Src.THERMAL_DIODE_FAIL : Nat := 0x74
abbrev Src.THERMAL_BLIND : Nat := 0x75
abbrev Src.COMPASS_AVS_FAIL : Nat := 0x76
abbrev Src.COMPASS_AGEING : Nat := 0x77
abbrev Src.PWR_RET_LOST : Nat := 0x78
abbrev Src.PWR_SWITCH_FAIL : Nat := 0x79
abbrev Src.TRAILHEAD_HOLD : Nat := 0x7A
abbrev Src.MEM_CORRECTED : Nat := 0x80
abbrev Src.MEM_HARD_FAULT : Nat := 0x81
abbrev Src.MEM_UNCORRECTABLE : Nat := 0x82
abbrev Src.MEM_UNCORRECTABLE_MGT : Nat := 0x83
abbrev Src.MEM_REPEAT_CORRECTED : Nat := 0x84
abbrev Src.MEM_ROM_UNCORRECTABLE : Nat := 0x85
abbrev Src.SELFTEST_ANALOG_FAIL : Nat := 0x90
abbrev Src.SELFTEST_BIST_FAIL : Nat := 0x91
abbrev Src.LC_TRANSITION : Nat := 0x92
abbrev Src.LC_TOKEN_FAIL : Nat := 0x93
abbrev Src.FUSE_PROG_FAIL : Nat := 0x94
abbrev Src.UPD_VERIFY_FAIL : Nat := 0xA0
abbrev Src.UPD_ACTIVATION_FAIL : Nat := 0xA1
abbrev Src.UPD_FELL_BACK : Nat := 0xA2
abbrev Src.UPD_PROBATION_EXPIRED : Nat := 0xA3
abbrev Src.UPD_JOURNAL : Nat := 0xA4
abbrev Src.UPD_SETTINGS_DEFAULTS : Nat := 0xA5
abbrev Src.UPD_FLASH : Nat := 0xA6
abbrev Src.UPD_SESSION_ABORT : Nat := 0xA7
abbrev Src.HOST_TEST : Nat := 0xFF

/-- A source's number, default severity and default reaction mask (R456). -/
structure SrcRow where
  num : Nat
  sev : Nat
  reac : Nat
  deriving DecidableEq, Repr

/-- The sources below 0x60 in number order, with the defaults of their chapters. -/
def srcRowsLow : List SrcRow := [
  ⟨0x01, 1, 1⟩, ⟨0x08, 2, 1⟩, ⟨0x09, 2, 1⟩, ⟨0x0A, 1, 1⟩, ⟨0x0B, 0, 0⟩, ⟨0x10, 2, 1⟩,
  ⟨0x11, 2, 1⟩, ⟨0x12, 0, 0⟩, ⟨0x13, 2, 1⟩, ⟨0x14, 2, 1⟩, ⟨0x18, 2, 1⟩, ⟨0x19, 1, 1⟩,
  ⟨0x1A, 0, 0⟩, ⟨0x1B, 0, 0⟩, ⟨0x20, 1, 1⟩, ⟨0x21, 2, 1⟩, ⟨0x22, 2, 1⟩, ⟨0x28, 2, 1⟩,
  ⟨0x29, 2, 1⟩, ⟨0x2A, 1, 1⟩, ⟨0x2B, 1, 1⟩, ⟨0x2C, 2, 1⟩, ⟨0x2D, 1, 1⟩, ⟨0x30, 2, 1⟩,
  ⟨0x31, 2, 1⟩, ⟨0x32, 2, 1⟩, ⟨0x33, 0, 0⟩, ⟨0x34, 2, 1⟩, ⟨0x35, 1, 1⟩, ⟨0x36, 1, 1⟩,
  ⟨0x38, 2, 1⟩, ⟨0x39, 2, 1⟩, ⟨0x3A, 2, 1⟩, ⟨0x3B, 0, 0⟩, ⟨0x3C, 1, 1⟩, ⟨0x40, 2, 1⟩,
  ⟨0x41, 2, 1⟩, ⟨0x42, 1, 1⟩, ⟨0x43, 2, 1⟩, ⟨0x48, 1, 1⟩, ⟨0x49, 1, 1⟩, ⟨0x4A, 2, 1⟩,
  ⟨0x4B, 2, 1⟩, ⟨0x50, 0, 0⟩, ⟨0x51, 0, 0⟩, ⟨0x52, 0, 1⟩, ⟨0x58, 0, 0⟩, ⟨0x59, 2, 1⟩,
  ⟨0x5A, 1, 1⟩]

/-- The sources from 0x60 on. -/
def srcRowsHigh : List SrcRow := [
  ⟨0x60, 2, 1⟩, ⟨0x61, 0, 0⟩, ⟨0x62, 2, 1⟩, ⟨0x68, 1, 1⟩, ⟨0x69, 2, 1⟩, ⟨0x6A, 2, 1⟩,
  ⟨0x6B, 3, 17⟩, ⟨0x6C, 0, 1⟩, ⟨0x70, 1, 1⟩, ⟨0x71, 2, 1⟩, ⟨0x72, 3, 17⟩, ⟨0x73, 0, 0⟩,
  ⟨0x74, 2, 1⟩, ⟨0x75, 3, 17⟩, ⟨0x76, 2, 1⟩, ⟨0x77, 1, 1⟩, ⟨0x78, 2, 1⟩, ⟨0x79, 3, 17⟩,
  ⟨0x7A, 3, 16⟩, ⟨0x80, 0, 0⟩, ⟨0x81, 1, 1⟩, ⟨0x82, 2, 1⟩, ⟨0x83, 3, 25⟩, ⟨0x84, 2, 1⟩,
  ⟨0x85, 4, 16⟩, ⟨0x90, 2, 1⟩, ⟨0x91, 2, 1⟩, ⟨0x92, 0, 1⟩, ⟨0x93, 2, 1⟩, ⟨0x94, 2, 1⟩,
  ⟨0xA0, 1, 1⟩, ⟨0xA1, 2, 1⟩, ⟨0xA2, 2, 1⟩, ⟨0xA3, 2, 1⟩, ⟨0xA4, 2, 1⟩, ⟨0xA5, 2, 1⟩,
  ⟨0xA6, 1, 1⟩, ⟨0xA7, 0, 0⟩, ⟨0xFF, 0, 0⟩]

/-- The row of a source; an unassigned number has none (R455). -/
def srcRow? (n : Nat) : Option SrcRow :=
  if n < 0x60 then srcRowsLow.find? (fun r => r.num == n) else srcRowsHigh.find? (fun r => r.num == n)

/-! ## Defaults -/

/-- The key an object's element is stored under. -/
def objKey (ix sub : Nat) : Nat := ix * 256 + sub

/-- The beginning-of-life plan voltage the model's part has in fuse word 51. DESIGN CHOICE (assumption 6). -/
def bolPlanMv : Int := 650

/-- Power-up value of a numeric object, element by element: the default of its row, or the value its own chapter
gives the element (R101, R74, R431, R455, R478). -/
def numDefault (ix sub : Nat) : Int :=
  if ix = Ob.LINE_ADC_RECAL_S then
    (match sub with | 3 => 120 | 4 => 30 | _ => 600)
  else if ix = Ob.FABRIC_BAND_OFFSET_MV then (if sub = 1 then 40 else 0)
  else if ix = Ob.FAULT_SEVERITY then (match srcRow? sub with | some r => (r.sev : Int) | none => 0)
  else if ix = Ob.FAULT_REACTION then (match srcRow? sub with | some r => (r.reac : Int) | none => 0)
  else if ix = Ob.POWER_STATE then (if sub = 1 then 2 else 0)
  else if ix = Ob.COMPASS_PLAN_MV then bolPlanMv
  else if ix = Ob.COMPASS_AVS_REQUEST_MV then bolPlanMv
  else match objRow? ix with
    | some r => r.dflt
    | none => 0

/-- What an unlisted numeric register reads as. -/
def regDefault (k : Nat) : Int := numDefault (k / 256) (k % 256)

/-- The default waveform table of every band (R248, R250). -/
def waveDefault : List Byte :=
  [1, 0, 0, 0] ++ [0, 0, 0, 0, 0, 4, 0, 0, 0, 0, 0, 0, 0, 0] ++
  ((List.range 64).map (fun k => leInt 2 (-1536 + 1024 * ((k / 4 % 4 : Nat) : Int)))).flatten ++ [0, 0]

/-- The default preset table (R272, R273), its TABLE_CRC the CRC-32C of R189 over bytes 0 to 515. -/
def presetDefault : List Byte :=
  [1, 0, 0, 0] ++ [1, 12, 0, 4, 0, 0, 0, 0, 0, 0, 64, 0, 0, 15, 0, 0, 64, 0, 0] ++ List.replicate 13 0 ++
  List.replicate 480 0 ++ leBytes 4 0x9F99620C

/-- The first 24 of the 48 symmetric taps every set of the default FIR bank holds (R379). -/
def firDefaultHalf : List Int := [
  -34, 0, 44, 35, -45, -96, 0, 161, 126, -159, -319, 0,
  479, 360, -437, -857, 0, 1278, 983, -1253, -2696, 0, 6556, 12258]

/-- The default FIR coefficient bank (R379): 8 sets of 48 taps, little-endian. -/
def firDefault : List Byte :=
  (List.replicate 8 (((firDefaultHalf ++ firDefaultHalf.reverse).map (leInt 2)).flatten)).flatten

/-- The default scan list of converter `c` (from 1): channels 4(c-1) to 4(c-1)+3 (R370). -/
def scanDefault (c : Nat) : List Byte :=
  [4] ++ (List.range 4).map (fun k => BitVec.ofNat 8 (4 * (c - 1) + k)) ++ List.replicate 12 0xFF

/-- Power-up value of a byte-string object. -/
def blobDefault (k : Nat) : List Byte :=
  let ix := k / 256
  let sub := k % 256
  if Ob.TX_WAVE_COLD ≤ ix ∧ ix ≤ Ob.TX_WAVE_HOT then waveDefault
  else if ix = Ob.HOST_PRESET_TABLE then presetDefault
  else if ix = Ob.HK_SCAN then scanDefault sub
  else if ix = Ob.HK_FIR_ACTIVE ∨ ix = Ob.HK_FIR_IDLE then firDefault
  else if ix = Ob.MEM_SPARE_ADDR then List.replicate 32 0xFF
  else if ix = Ob.TEST_CAP_DATA ∨ ix = Ob.UPDATE_STAGING then []
  else match objRow? ix with
    | some r => if r.ty = .blob then List.replicate r.len 0 else []
    | none => []

end Sys2Proof.Machine
end

