-- ==== Sys2Proof/Machine/State.lean ====
section
/-! DEFINITION. The state of the block as plain data, its value at reset, and the reasons a step can stop. -/

namespace Sys2Proof.Machine

/-- A fixed number of like things. -/
abbrev Lanes (α : Type) (n : Nat) := Vector α n

/-! ## WAYMARK (chapter 2) -/

/-- An internal stamp: a TIME96 value of the counter beside the low 8 bits of TIME.EPOCH (R14, R52). -/
structure Stamp where
  epoch : Nat := 0
  time : Nat := 0
  deriving DecidableEq, Repr

/-- The time base beside its dictionary objects (R49 to R56). -/
structure TimeBase where
  /-- The counter in units of 2^-80 s, below 2^128 (R49). -/
  acc : Nat := 0
  /-- REFCLK cycles since power-on: the model's own measure of intervals. -/
  now : Nat := 0
  /-- The phase error still to be given up in a slew, units of 2^-80 s (R54). -/
  slewLeft : Nat := 0
  /-- Whether a slew runs (R54). -/
  slewing : Bool := false
  /-- Edges accepted since enable, counted up to 2 (R56). -/
  edges : Nat := 0
  /-- The counter value of the last accepted edge (R53). -/
  lastEdge : Nat := 0
  /-- Windows closed since the last accepted edge (R53). -/
  window : Nat := 0
  /-- The run of missed edges (R56). -/
  missRun : Nat := 0
  /-- The run of edges with an error of at most 2 ns (R56). -/
  goodRun : Nat := 0
  /-- The cycle of the last TIME.NEXT_SECONDS write (R55). -/
  nextCycle : Option Nat := none
  /-- The seconds value that was armed before that write, if one was (R55). -/
  nextBefore : Option Nat := none
  deriving DecidableEq, Repr

/-! ## The management protocol (chapter 13) -/

/-- The last WRITE, WRITE_BLOCK or EXEC on a TAG: its CRC, its reply once given (R350), and the stamp of its commit (R59). -/
structure LastReq where
  tag : Byte
  crc : Nat
  reply : Option (List Byte)
  time : Option Stamp := none
  deriving DecidableEq, Repr

/-- A request frame that has passed its CRC check, and the counter latched in that cycle as a TIME96 value (R51, R353). -/
structure FrameIn where
  bytes : List Byte
  time : Nat := 0
  deriving DecidableEq, Repr

/-- Which key verified an open session's signature (R358). -/
inductive SessionKey where
  | vendor | module
  deriving DecidableEq, Repr

/-- One path's transport: FIFOs, requests taken from it, duplicates, session (R350, R353, R357, R358). -/
structure Transport where
  /-- Request bytes that do not yet make a whole frame (R353). -/
  rx : List Byte := []
  /-- Bytes still to drop of a frame that does not fit in the FIFO (R353). -/
  skip : Nat := 0
  /-- The LPL field of the frame that carried the partial frame's SYNC byte, in band (R357). -/
  rxLpl : Nat := 3
  /-- Bytes shifted out in the last transaction, or the word last read over MDIO (R353 to R356). -/
  out : List Byte := []
  /-- Whole frames accepted and not yet served (R353). -/
  accepted : List FrameIn := []
  /-- The counter as latched for the request last served: what its read of TIME.NOW returns (R51). -/
  latched : Nat := 0
  /-- Reply frames waiting to be collected, oldest first, or the byte strings waiting to be sent in band (R353, R357); the
  first may be part sent. -/
  replies : List (List Byte) := []
  /-- Requests other than EXEC whose reply cannot leave yet, in arrival order: the TAG, and the reply once given (R350). -/
  wait : List (Byte × Option (List Byte)) := []
  /-- The last state-changing request on each TAG (R350). -/
  last : List LastReq := []
  /-- The pending challenge (R358). -/
  challenge : Option (List Byte) := none
  /-- Consecutive failures of MMP.PRIV_OPEN (R358). -/
  fails : Nat := 0
  /-- Whether the 10 s lockout runs (R358). -/
  locked : Bool := false
  /-- The open session and the key that verified it (R358). -/
  session : Option SessionKey := none
  /-- The pending life-cycle challenge (R492). -/
  lcChallenge : Option (List Byte) := none
  deriving DecidableEq, Repr

/-- An EXEC, or a vote withdrawal, whose reply waits for its completion (R350). -/
structure PendingReply where
  req : Req
  op : Opcode
  ix : Nat
  sub : Nat
  deriving DecidableEq, Repr

/-- A forwarded request outstanding on an in-band tag (R357). -/
structure Forward where
  tag : Byte
  host : Req
  opByte : Nat
  ix : Nat
  sub : Nat
  bytes : List Byte
  left : Nat
  deriving DecidableEq, Repr

/-- An open BLOB block sequence (R346). -/
structure BlockSeq where
  ix : Nat
  sub : Nat
  path : Path
  bytes : List Byte
  deriving DecidableEq, Repr

/-- The dictionary server and its transports. -/
structure Mmp where
  ports : Lanes Transport 11 := Vector.replicate 11 {}
  pend : List PendingReply := []
  fwd : Lanes (List Forward) 8 := Vector.replicate 8 []
  /-- The last state-changing frame sent on each in-band tag: two that are alike in succession would pass for a retry (R350). -/
  fwdLast : Lanes (List (Byte × List Byte)) 8 := Vector.replicate 8 []
  seqs : List BlockSeq := []
  deriving DecidableEq, Repr

/-! ## LOOKOUT (chapter 18) -/

/-- A logged record (R459). -/
structure LogRec where
  src : Nat
  sev : Nat
  epoch : Nat
  flags : Nat
  seq : Nat
  reac : Nat
  time : Nat
  detail : Nat
  deriving DecidableEq, Repr

/-- A record waiting in the input queue (R458); `raised` is the severity step of R469. -/
structure QueuedRec where
  src : Nat
  detail : Nat
  raised : Bool
  /-- Severity when offered, and the cycle of the offer: same-cycle records are ordered by them. -/
  sev : Nat
  cycle : Nat
  deriving DecidableEq, Repr

/-- Why the safe state is due (R464). -/
inductive SafeCause where
  | fatal (src : Nat)
  | selfFault
  | thermal
  | chipStorm (src : Nat)
  deriving DecidableEq, Repr

/-- The collector beside its dictionary objects. -/
structure Lookout where
  /-- The 16-entry input queue, in order of acceptance (R458). -/
  queue : List QueuedRec := []
  /-- FATAL records that found the queue full and follow when there is room (R458). -/
  late : List QueuedRec := []
  /-- The log, newest first, at most 64 records (R459). -/
  log : List LogRec := []
  /-- Cycles at which reactions caused a chip reset (R463). -/
  storms : List Nat := []
  /-- A safe-state entry that is due (R458, R464). -/
  safeDue : Option SafeCause := none
  /-- Source and instance pairs that have given their record in this tick (the rate limits of the chapters). -/
  given : List (Nat × Nat) := []
  /-- A chip reset ordered and not yet taken, with its POWER.RESET_CAUSE (R442). -/
  chipDue : Option Nat := none
  deriving DecidableEq, Repr

/-! ## Power domains (chapter 17) -/

/-- A power domain beside POWER.STATE and POWER.VOTES. -/
structure Domain where
  /-- The rest state an entry or a wake left or goes to is OFF (R432, R446). -/
  toOff : Bool := false
  /-- A wake started from RET (R439). -/
  fromRet : Bool := false
  /-- Not released in time: no wake until every vote is withdrawn (R440). -/
  barred : Bool := false
  /-- Cycle up to which the residency counters are accounted, and quarter cycles left over (R441). -/
  since : Nat := 0
  quart : Nat := 0
  /-- The cycle of the last wake-pin edge that cast its HOST vote (R436). -/
  wakeAt : Option Nat := none
  deriving DecidableEq, Repr

/-! ## Breakout (chapter 1) -/

/-- A running PORT.APPLY_BREAKOUT: the halves it affects and the values it brings, East then West (R28). -/
structure BreakoutRun where
  east : Bool
  west : Bool
  newEast : Nat
  newWest : Nat
  deriving DecidableEq, Repr

/-! ## Housekeeping (chapter 14) -/

/-- A housekeeping converter (R369 to R376). -/
structure HkConv where
  /-- Place in the scan list (R370). -/
  pos : Nat := 0
  /-- The last result has not been read (R376). -/
  unread : Bool := false
  /-- Results written, modulo 64 (R376). -/
  seq : Nat := 0
  deriving DecidableEq, Repr

/-- A filter channel (R377 to R381). -/
structure HkChan where
  /-- Input samples in the span of the chain, newest first, their number, and the cycle of the newest (R377, R378). -/
  hist : List Nat := []
  count : Nat := 0
  at_ : Nat := 0
  /-- Inputs since the last change, up to the span (R380). -/
  inputs : Nat := 0
  /-- Settled outputs in the detector window, newest first (R381). -/
  outs : List Nat := []
  /-- The envelope (R381). -/
  env : Nat := 0
  deriving DecidableEq, Repr

/-- An auxiliary DAC channel (R383, R384). -/
structure Adac where
  /-- A code waiting for a LOAD strobe. -/
  pend : Option Nat := none
  /-- The target of the last LOAD. -/
  target : Nat := 0
  deriving DecidableEq, Repr

/-- A PWM output: the figures in force, whether it runs, and the cycle at which its period began (R387). -/
structure Pwm where
  period : Nat := 100000
  duty : Nat := 0
  active : Bool := false
  since : Nat := 0
  deriving DecidableEq, Repr

/-- The housekeeping blocks. -/
structure Hk where
  conv : Lanes HkConv 4 := Vector.replicate 4 {}
  chan : Lanes HkChan 16 := Vector.replicate 16 {}
  adac : Lanes Adac 16 := Vector.replicate 16 {}
  pwm : Lanes Pwm 4 := Vector.replicate 4 {}
  /-- A self-calibration runs, or waits for the reference (R374). -/
  calRun : Bool := false
  calHeld : Bool := false
  /-- The pair bits in force (R373, R389). -/
  pair : Nat := 0
  /-- HK.TRIG_SOURCE and HK.TIMER_PERIOD as the last trigger took them (R392). -/
  source : Nat := 0
  timer : Nat := 50
  /-- The cycle of the last conversion (R371). -/
  convAt : Option Nat := none
  /-- The cycle and source of the last LOAD strobe: 0 software, 1 timer, 2 LDAC_N (R389). -/
  loadAt : Option (Nat × Nat) := none
  deriving DecidableEq, Repr

/-! ## Line transmit and optics (chapter 9) -/

/-- A pattern generator (R322): the bits of a PRBS, newest first, or the place in SSPRQ. -/
structure PatGen where
  reg : List Bool := List.replicate 31 true
  place : Nat := 0
  deriving DecidableEq, Repr

/-- A pattern checker (R323): while it searches, the level indices it saw, newest first; once locked, the precoding interpretation, its
generator, the last level index, and which of the last 256 symbols were in error, newest first. -/
structure PatChk where
  seen : List Nat := []
  precoded : Bool := false
  gen : PatGen := {}
  prev : Nat := 0
  errs : List Bool := []
  deriving DecidableEq, Repr

/-- The line transmit lane beside its dictionary objects (R245 to R264). -/
structure TxLane where
  /-- The optics sequence has the DAC muted (R258). -/
  seqMute : Bool := true
  /-- A lost lock has the output muted (R257). -/
  lockMute : Bool := false
  /-- TX.MUTE_FORCE as it stands since the last codeword boundary (R262). -/
  forceMute : Bool := false
  /-- TX.INVERT as it stands since the last codeword boundary (R246). -/
  invert : Bool := false
  /-- TX.PRECODE as the last calibration took it (R245). -/
  precode : Bool := false
  /-- The last precoded index (R245). -/
  preState : Nat := 0
  /-- A transmit enable waits for the calibration (R256). -/
  held : Bool := false
  /-- A calibration is a rate change's, without the DAC check (R254). -/
  rateCal : Bool := false
  /-- Failed relock attempts, and whether band selection was repeated (R257). -/
  attempts : Nat := 0
  bandRep : Bool := false
  /-- The mute waits for lock to hold 10 µs (R257). -/
  relocked : Bool := false
  /-- Which roles are at their active level: DRV_SUPPLY, DRV_OUTPUT, LASER (R258). -/
  supply : Bool := false
  output : Bool := false
  laser : Bool := false
  /-- The three pins are high-impedance: settings are not yet loaded (R259). -/
  hiZ : Bool := true
  /-- A bias step runs (R258). -/
  biasRun : Bool := false
  /-- The working waveform table: 7 taps, then 64 amplitudes (R248, R251). -/
  wave : List Int := []
  /-- The last amplitudes and levels sent, newest first, that the waveform filter still needs (R249). -/
  sent : List Nat := []
  /-- The code the power loop last held, once it has run since it was enabled (R263). -/
  apcCode : Option Nat := none
  /-- OPTICS.APC_ENABLE and OPTICS.APC_ADAC as the last tick took them, and OPTICS.BIAS_MAP as the last sequence did (R267). -/
  apc : Bool := false
  apcDac : Nat := 0
  bias : Nat := 0
  /-- The full scale in force, in mVppd, as the last DAC check took it (R252, R267), and the output of the last codeword in units of
  1/512 mVppd (R252). -/
  fs : Nat := 600
  volts : List Int := []
  /-- Codes clamped in this tick (R265). -/
  clipTick : Nat := 0
  /-- The fractional offset of the synthesiser, in ppb (R289, R327). -/
  offset : Int := 0
  /-- The pattern generator (R322). -/
  gen : PatGen := {}
  deriving DecidableEq, Repr

/-! ## Line receive converters (chapter 4) -/

/-- What a window has measured so far (R105): samples in all, those of sub-ADCs in service, their sum of squares and sum in units of
1/4 LSB, and their clipped raw codes. -/
structure AdcWin where
  all : Nat := 0
  n : Nat := 0
  sq : Nat := 0
  sum : Int := 0
  clips : Nat := 0
  deriving DecidableEq, Repr

/-- A line receive converter beside its dictionary objects (R85 to R113). The applied skew is LINE.ADC_SKEW_TRIM. -/
structure AdcLane where
  /-- The applied corrections of the 128 sub-ADCs (R92). -/
  coarse : Lanes Int 128 := Vector.replicate 128 0
  fine : Lanes Int 128 := Vector.replicate 128 0
  gain : Lanes Int 128 := Vector.replicate 128 0
  /-- The targets the fine offsets, gains and skew move to (R93). -/
  fineT : Lanes Int 128 := Vector.replicate 128 0
  gainT : Lanes Int 128 := Vector.replicate 128 0
  skewT : Int := 0
  /-- The fuse seeds of the full-scale reference and the input termination (R94, R478). -/
  fsRef : Nat := 0
  term : Nat := 0
  /-- The sample count since the lane's LRX domain reached ON (R85). -/
  k : Nat := 0
  /-- The newest corrected sample, and the one before it; none inside for a failed sub-ADC's (R112). -/
  last : Option (Option Int) := none
  before : Option Int := none
  /-- The samples of the word in assembly, newest first (R64). -/
  word : List Int := []
  /-- The sums of the present window (R105). -/
  win : AdcWin := {}
  /-- The failed sub-ADCs (R112). -/
  failed : List Nat := []
  /-- A fine offset, a gain or the skew is clamped at its limit (R113). -/
  clampFine : Bool := false
  clampGain : Bool := false
  clampSkew : Bool := false
  /-- A foreground calibration runs; it belongs to the cold path or a reset; it waits for the synthesiser (R95, R97). -/
  fgRun : Bool := false
  fgCold : Bool := false
  fgWait : Bool := false
  /-- A background commit is due, and it follows a wake from RET (R100, R103). -/
  due : Bool := false
  postwake : Bool := false
  /-- The cycle at which the recalibration timer expires while it runs, and what is left of it, in cycles, while it is
  stopped (R100, R104). -/
  recalAt : Option Nat := none
  recalLeft : Nat := 0
  /-- Samples per sub-ADC in the offset and in the gain and skew accumulations (R99, R100). -/
  bgN : Nat := 0
  gsN : Nat := 0
  /-- Windows in the offset accumulation, and those of them with LINE.LOS_RAW set (R100). -/
  wins : Nat := 0
  darkWins : Nat := 0
  /-- Runs of windows below the assert level and at or above the clear level (R106). -/
  lowRun : Nat := 0
  highRun : Nat := 0
  /-- Samples and clipped codes of the last 100 windows, newest first (R105). -/
  clips : List (Nat × Nat) := []
  /-- Samples, sum of squares and sum of the dark windows counted so far, newest first, at most 100 (R110). -/
  dark : List (Nat × Nat × Int) := []
  /-- A correction has moved in this window (R110). -/
  ramped : Bool := false
  deriving DecidableEq, Repr

/-- A half's receive sampling synthesiser (R88, R89). -/
structure RxSynth where
  locked : Bool := false
  /-- A band is selected and held in the AON domain (R88). -/
  band : Bool := false
  /-- Band selection runs. -/
  selecting : Bool := false
  /-- Failed relock attempts of the present outage, and whether band selection was repeated in it (R89, R114). -/
  attempts : Nat := 0
  bandRep : Bool := false
  deriving DecidableEq, Repr

/-! ## Timing recovery and equalisation (chapter 5) -/

/-- A coefficient bank (R131). The taps have the cursor at place 10, as LINE.EQ_FFE has it. -/
structure EqBank where
  structureId : Nat := 1
  ffe : List Int := List.replicate 10 0 ++ [512] ++ List.replicate 30 0
  dfe : Int := 0
  sd1 : Int := 0
  sd2 : Int := 0
  levels : List Int := [-384, -128, 128, 384]
  /-- The adaptation cycle in which the bank was last written. -/
  cycle : Nat := 0
  deriving DecidableEq, Repr

/-- A requested swap, what it carries, and the block from whose first symbol on it may take effect (R132, R135 to R137). -/
structure EqSwap where
  block : Nat := 0
  adapt : Bool := false
  structural : Bool := false
  rollback : Bool := false
  deriving DecidableEq, Repr

/-- A survivor of the sequence detector (R128): its metric, and its symbols, newest first, each with the excess metric of the best path
through each level. -/
structure SdPath where
  metric : Nat := 0
  hist : List (Nat × List Nat) := []
  deriving DecidableEq, Repr

/-- A rollback check to come (R136): the coefficients before the swap, symbols and squared error of the blocks before and after it, and
blocks still to come. -/
structure Rollback where
  bank : EqBank
  before : Nat × Nat
  after : Nat × Nat := (0, 0)
  left : Nat := 16
  deriving DecidableEq, Repr

/-- A cycle's gradient that waits for the ADAPT task, with the figures in force in that cycle (R134, R147). -/
structure CycleGrad where
  sums : List Int
  blocks : Nat
  mu : Nat
  swapCycles : Nat
  deriving DecidableEq, Repr

/-- The receive signal path of a lane, symbol by symbol (R118 to R143). Sums of squared errors go with their number of symbols. -/
structure Dsp where
  /-- The newest samples, newest first, none where a gap discarded one, and their number (R118). -/
  samp : List (Option Int) := []
  top : Nat := 0
  /-- The position accumulator in units of 2^-32 samples, and the rate word in units of 2^-32 of the nominal step (R118, R122). -/
  pos : Nat := 0
  w : Int := 0
  /-- The symbol counter (R120). -/
  sym : Nat := 0
  /-- LINE.RX_INVERT as in force (R130). -/
  inv : Bool := false
  /-- The newest resampler outputs, newest first; the last two tentative decisions and the last detector input (R121, R128). -/
  ys : List (Option Int) := []
  d1 : Option Nat := none
  d2 : Option Nat := none
  u1 : Option Int := none
  /-- Detector inputs not yet handed to the capture buffer, newest first (R331). -/
  trace : List Int := []
  /-- The timing error summed since the last loop update (R121). -/
  mm : Int := 0
  /-- The rate word at the last block boundary, steady blocks in a row, blocks in this ACQUIRE attempt, rate words of the last blocks in
  TRACK, and blocks in a row with a low SNR once a figure has been measured (R123). -/
  blockW : Int := 0
  steady : Nat := 0
  acq : Nat := 0
  ws : List Int := []
  low : Nat := 0
  snrSeen : Bool := false
  /-- Words of a discard gap still to come, and whether the symbol under the cursor lies in it (R68). -/
  gapWords : Nat := 0
  inGap : Bool := false
  /-- Blocks below this number are out of the gradient after a gap (R134). -/
  gapUntil : Nat := 0
  /-- The run of marked blocks, and the blocks marked of late (R138, R139). -/
  markFrom : Nat := 0
  markTo : Nat := 0
  marks : List Nat := []
  /-- The present block: symbols and squared error, marked, unfit for the gradient, its gradient, its eye bins (R134 to R143). -/
  blkN : Nat := 0
  blkErr : Nat := 0
  blkMark : Bool := false
  blkBad : Bool := false
  blkGrad : List Int := []
  blkEye : List Nat := []
  /-- The last 16 blocks, and the settled and the marked ones of this window (R136, R141). -/
  errs : List (Nat × Nat) := []
  settled : Nat × Nat := (0, 0)
  marked : Nat × Nat := (0, 0)
  /-- Marked blocks not yet in LINE.UNSETTLED_BLOCKS (R140). -/
  newMarked : Nat := 0
  /-- The gradient of this cycle and its blocks; the cycle's first symbol, its length, and LINE.EQ_MU_SHIFT and LINE.EQ_SWAP_CYCLES
  as it took them (R120, R134, R147). -/
  grad : List Int := []
  gradBlocks : Nat := 0
  cycStart : Nat := 0
  cycLen : Nat := 4096
  mu : Nat := 10
  swapCycles : Nat := 64
  /-- The rollback check to come (R136). -/
  roll : Option Rollback := none
  /-- Symbols that the running eye capture still takes, and its counts, 128 bins for each level (R143). -/
  eyeLeft : Nat := 0
  eye : List Nat := []
  /-- The sequence detector's survivors, and for each symbol in them, newest first, whether it lies in a gap (R128). -/
  sd : List SdPath := []
  sdGap : List Bool := []
  /-- The symbols in LLR staging, newest first, each with its four metrics or none in a gap, and the number staged so far (R154,
  R155). -/
  out : List (Option (List Nat)) := []
  staged : Nat := 0
  /-- TIC.LLR_STEP before the last tick, and the number of the first symbol after it (R154). -/
  llrOld : Nat := 410
  llrFrom : Nat := 0
  deriving DecidableEq, Repr

/-- A line receive path beside its dictionary objects (R118 to R143). -/
structure RxLane where
  dsp : Dsp := {}
  /-- Consecutive ACQUIRE retries (R144). -/
  retryRun : Nat := 0
  /-- The line engines whose part of this cycle's update is lost (R394). -/
  lostParts : List Nat := []
  /-- LINE.RX_PRECODE as the present acquisition took it (R129). -/
  precode : Nat := 0
  bankA : EqBank := {}
  bankB : EqBank := {}
  /-- The requested swap (R132). -/
  swap : Option EqSwap := none
  /-- A structural change waits for the engine; it is built and waits for the end of the cycle (R135). -/
  structDue : Bool := false
  structReady : Bool := false
  /-- Cycles in CONVERGE, and since the last swap (R134). -/
  conv : Nat := 0
  sinceSwap : Nat := 0
  /-- A cycle's gradient that waits for the ADAPT task (R134). -/
  gradient : Option CycleGrad := none
  /-- The banks that last ran in TRACK since the cold path, one for each rate set and structure (R133). -/
  last : List (Nat × EqBank) := []
  /-- Adaptation is halted by shed level or throttle, as the present cycle took it; HELD returns to CONVERGE (R134, R137). -/
  halted : Bool := false
  heldConv : Bool := false
  /-- A histogram capture runs (R143). -/
  eyeRun : Bool := false
  /-- The pattern checker (R323). -/
  chk : PatChk := {}
  deriving DecidableEq, Repr

/-! ## Tuning engines (chapter 15) -/

/-- A triggered task and the cycle of its deadline (R394, R395). -/
structure EngJob where
  task : Nat
  deadline : Nat
  deriving DecidableEq, Repr

/-- What a task has written, as it stood before (R394): a numeric object, a byte-string object, the corrections of a converter, the offset
of a transmit synthesiser, the round trips of a port, its level announcement. -/
inductive Undo where
  | num (ix sub : Nat) (v : Int)
  | bytes (ix sub : Nat) (b : List Byte)
  | adc (l : Fin 8) (a : AdcLane)
  | offset (l : Fin 8) (v : Int)
  | rtts (p : Fin 8) (r : List Nat)
  | level (p : Fin 8)
  deriving DecidableEq, Repr

/-- An engine beside its dictionary objects (R394 to R399). -/
structure Engine where
  /-- Triggered tasks that have not ended; the one with the earliest deadline runs (R395). -/
  jobs : List EngJob := []
  /-- What the results of its tasks that have not ended replaced, by task: a miss puts it back (R394). -/
  undo : List (Nat × Undo) := []
  /-- Cycles of the halts in the last 10 s, newest first (R399). -/
  halts : List Nat := []
  /-- It stays HALTED until ENG.RESTART names it, or its domain's cold path (R399). -/
  stuck : Bool := false
  /-- RUNNING cycles and missed tasks in this tick (R401, R408). -/
  tickCycles : Nat := 0
  tickMisses : Nat := 0
  /-- ENG.PMU_SAMPLE has not been read since it was written (R405). -/
  unread : Bool := false
  deriving DecidableEq, Repr

/-! ## Outer code (chapter 7) -/

/-- A payload that HAMPER has released (R169): its number q in its AP, its bits, whether its status was not CONVERGED, and its UNSETTLED
bit. -/
structure Payload where
  q : Nat
  bits : List Bool
  rescued : Bool := false
  unsettled : Bool := false
  deriving DecidableEq, Repr

/-- A received bit with what is known of the codewords that carried it (R172, R186, R206): a TIC codeword not CONVERGED, one with the
UNSETTLED bit, an outer codeword that was uncorrectable. -/
structure RxBit where
  bit : Bool
  rescued : Bool := false
  unsettled : Bool := false
  bad : Bool := false
  deriving DecidableEq, Repr

/-- A received frame slot (R181): its 2,072 bytes, and the marks of the bits in it. -/
structure RxSlot where
  bytes : List Byte
  rescued : Bool := false
  unsettled : Bool := false
  bad : Bool := false
  deriving DecidableEq, Repr

/-- The receive side of a line lane at the outer decoder (R180 to R184). -/
structure OuterLane where
  /-- Payloads released and not yet merged, oldest first (R152, R184). -/
  queue : List Payload := []
  /-- The number of the next payload to be released; none before the lane's first valid marker. -/
  q : Option Nat := none
  /-- Valid markers in a row, up to 2, and missed ones in a row (R183). -/
  streak : Nat := 0
  missed : Nat := 0
  /-- The first symbol of the codeword whose place the search last took for a marker's, and the first 2,432 bits of the payload last
  released, until they have been looked at (R183, R301). -/
  mark : Option Nat := none
  head : Option (List Bool) := none
  deriving DecidableEq, Repr

/-- The receive side of a port at the outer decoder, the descrambler and delineation (R181, R184 to R186). -/
structure OuterPort where
  /-- Merged bits that do not yet make a codeword. -/
  bits : List RxBit := []
  /-- The number of the next payload to merge; none before merging has begun at a superblock. -/
  next : Option Nat := none
  /-- The place in the AP of the next message bit, and the descrambler. -/
  pos : Nat := 0
  scr : Nat := 2147483647
  /-- Frame-stream bits still to pass before the next slot begins, the slot in assembly, newest bit first, and the slots received and
  not yet taken. -/
  skip : Nat := 0
  slot : List RxBit := []
  slots : List RxSlot := []
  deriving DecidableEq, Repr

/-! ## Inner code and HAMPER (chapter 6) -/

/-- Where a codeword is (R162, R164, R167). -/
inductive CwPhase where
  | waiting
  /-- In a decode unit since a cycle. -/
  | decoding (half : Fin 2) (unit : Fin 48) (since : Nat)
  /-- Decoding has ended, or the deadline has passed. -/
  | ended
  deriving DecidableEq, Repr

/-- A codeword in flight: its HAMPER slot and, until it has ended, its staging slot (R164, R166). -/
structure Codeword where
  /-- Arrival order over the device, and the stamp (R59, R166). -/
  order : Nat
  stamp : Stamp
  /-- Deadline in ns and cap as fixed at the stamp, and whether the mode was SWIFT (R42, R46, R161). -/
  deadline : Nat
  cap : Nat
  swift : Bool
  unsettled : Bool
  q : List Int
  phase : CwPhase
  /-- Iterations that a unit did which failed under the watchdog (R165, R175), and whether it was stamped in the present tick. -/
  done : Nat := 0
  inTick : Bool := true
  /-- Status and iterations under R157, and the hard decision, once ended. -/
  status : Nat := 0
  iters : Nat := 0
  hard : List Bool := []
  deriving DecidableEq, Repr

/-- The inner code's receive side of a line lane (R166, R175). -/
structure TicLane where
  /-- Codewords in flight, in stamp order. -/
  cws : List Codeword := []
  /-- Level indices looped from the transmitter that have not yet come to LLR generation, oldest first (R326). -/
  looped : List Nat := []
  /-- The line symbol at which a burst of symbol errors starts: the block boundary after its injection was fired (R329). -/
  burstAt : Nat := 0
  /-- The last codeword was stamped under SWIFT (R161). -/
  swift : Bool := false
  /-- Codewords stamped in this tick, the iterations performed on them in it, and codewords forced in it but not by loss of signal (R175,
  R176). -/
  tickCw : Nat := 0
  tickIters : Nat := 0
  tickForced : Nat := 0
  /-- Bits corrected and CONVERGED codewords counted for TIC.PRE_BER in this tick, and in the last 100 ticks (R175). -/
  preNow : Nat × Nat := (0, 0)
  pre : List (Nat × Nat) := []
  deriving DecidableEq, Repr

/-- The decode units of a half (R159, R165, R174). -/
structure TicHalf where
  failed : List Nat := []
  /-- Busy cycles of the units in this tick, and the cycle of the last tick. -/
  busy : Nat := 0
  tickAt : Nat := 0
  deriving DecidableEq, Repr

/-! ## Link frames and retransmission (chapter 7) -/

/-- A frame's place in the deep store (R219, R227): whether its write is queued or done, the bursts written, and the
content bytes read back so far. -/
structure DeepCopy where
  queued : Bool := false
  done : Bool := false
  bursts : List Nat := []
  parts : List Byte := []
  deriving DecidableEq, Repr

/-- A DATA frame that the sender keeps, with its descriptor (R199, R202). -/
structure TxFrame where
  seq : Nat
  /-- Cycles of the first and the last send, replays so far, level, and the window in µs at first send. -/
  first : Nat
  last : Nat
  /-- The stamp of the last send (R59). -/
  stamp : Stamp := {}
  count : Nat := 0
  lpl : Nat := 1
  window : Nat := 70
  /-- Received by the partner under the second rule of R196; written off. -/
  got : Bool := false
  off : Bool := false
  /-- The 80 header bits of the first send, first bit sent most significant. -/
  head : Nat := 0
  /-- The on-chip copy of the body, first bit sent most significant; none once its entry is reused or freed. -/
  body : Option Nat := none
  deep : DeepCopy := {}
  deriving DecidableEq, Repr

/-- A frame in the receive hold, or a lost one that waits for its place (R204, R220). -/
structure HeldFrame where
  seq : Nat
  lost : Bool := false
  /-- The header bits and the body as received; none once they lie in the deep store alone. -/
  head : Nat := 0
  body : Option Nat := none
  /-- It lies in a deep-store hold slot. -/
  spill : Bool := false
  deep : DeepCopy := {}
  deriving DecidableEq, Repr

/-- A gap: a SEQ not received, the cycle it became a gap, and whether a STATUS has named it (R193, R195). -/
structure LinkGap where
  seq : Nat
  born : Nat
  named : Bool := false
  deriving DecidableEq, Repr

/-- A level announcement: the target, the SEQ field B at which it takes effect, and announcing frames sent (R211). -/
structure LplChange where
  target : Nat
  boundary : Nat
  sent : Nat
  deriving DecidableEq, Repr

/-- An ECHO_REQ that waits for its reply: T1 and EPOCH as received, T2, and the local epoch at T2 (R197). -/
structure EchoWait where
  t1 : Nat
  epoch : Nat
  t2 : Nat
  epoch2 : Nat
  deriving DecidableEq, Repr

/-- A port's outgoing stream (R180 to R186): the AP count, the next message bit of the AP, the scrambler, message bits
short of a codeword, coded bits short of a TIC payload, and the number of the next payload. -/
structure TxStream where
  ap : Nat := 0
  pos : Nat := 0
  scr : Nat := 2147483647
  msg : List Bool := []
  coded : List Bool := []
  q : Nat := 0
  deriving DecidableEq, Repr

/-- A port's link engine beside its dictionary objects. -/
structure LinkPort where
  /-- SEQ of the next new DATA frame, the partner's accepted ACK and the stamp of the frame that carried it (R59, R192). -/
  next : Nat := 0
  acked : Nat := 0
  ackStamp : Option Stamp := none
  /-- Frames without a descriptor that were sent of late: the SEQ and the cycle of the last send (R199). -/
  gone : List (Nat × Nat) := []
  /-- Frames with a descriptor, oldest first; queued replays in SEQ order (R199, R200). -/
  tx : List TxFrame := []
  replays : List Nat := []
  /-- Blocks of the body in assembly from each host instance, and complete bodies awaiting first send (R282, R201). -/
  asmA : List (List Bool) := []
  asmB : List (List Bool) := []
  ready : List Nat := []
  /-- A first send put behind its successor (R329). -/
  swapped : Option (Nat × Nat) := none
  /-- What is due (R195, R197). -/
  statusDue : Bool := false
  repeatDue : Bool := false
  echoDue : Bool := false
  echo : Option EchoWait := none
  /-- The level announcement in progress or waiting for its boundary (R211). -/
  change : Option LplChange := none
  /-- The partner's advertised level and how often in a row it came (R210). -/
  lplRun : Nat × Nat := (0, 0)
  /-- The last four valid round trips in ns, newest first (R197). -/
  rtts : List Nat := []
  /-- The cycle of the last management word (R213). -/
  wordAt : Option Nat := none
  /-- Next-expected SEQ and SEEN, the hold, and the gaps (R192 to R194). -/
  ack : Nat := 0
  seen : Nat := 0
  held : List HeldFrame := []
  gaps : List LinkGap := []
  /-- A DATA frame has come since entry to CARRYING; the run of R308. -/
  armed : Bool := false
  idleRun : Nat := 0
  /-- Frames released as lost in this tick, for the detail word (R215). -/
  lostTick : Nat := 0
  /-- The figures of R217 that take effect at the tick: REPLAY_MAX, GUARD_NS, STATUS_REPEAT_NS, TX_BACKLOG_MAX. -/
  replayMax : Nat := 3
  guardNs : Nat := 2000
  repeatNs : Nat := 4000
  backlog : Nat := 16
  /-- RETRY.REPLAY_EFFECTIVE is below RETRY.REPLAY_MAX (R208). -/
  short : Bool := false
  stream : TxStream := {}
  deriving DecidableEq, Repr

/-! ## Deep store (chapter 8) -/

/-- The deep store beside its dictionary objects. -/
structure DeepStore where
  /-- The five devices, by line address divided by 128: the 16-byte slices of devices 0 to 4, in that order. -/
  mem : Store (List Byte) := []
  /-- Trainings that followed a FAILED one (R225), and whether the training is that of a wake from RET (R224). -/
  retries : Nat := 0
  fromRet : Bool := false
  /-- A full training has completed since the domain's cold path, and the last one ended FAILED (R224, R225). -/
  trained : Bool := false
  failed : Bool := false
  /-- The memory reset is released (R224). -/
  released : Bool := false
  /-- Channels whose device's temperature calls for a repeat of steps 6 and 7, and the channel in a repeat with the cycle of its
  end (R226). -/
  due : List (Nat × Nat) := []
  busy : Option (Nat × Nat) := none
  /-- The run of corrections: the device they name and their number (R231). -/
  run : Nat × Nat := (0, 0)
  /-- Remap candidates of this tick: the burst and the device (R233). -/
  cands : List (Nat × Nat) := []
  /-- Bursts remapped, by entry (R234). -/
  remap : List Nat := []
  /-- Temperatures at which each device was last trained (R226), and the band of the greater temperature (R236). -/
  trainTemp : Lanes Int 5 := Vector.replicate 5 0
  band : Nat := 0
  /-- DS.PIN_RATE as the last full training took it, and DS.ENABLE as start-up took it (R218, R223). -/
  rate : Nat := 3
  enabled : Bool := false
  /-- Late frames, and bytes moved per device, in this tick (R240, R243). -/
  late : Nat := 0
  moved : Nat := 0
  /-- Refresh commands issued (R236). -/
  refreshes : Nat := 0
  deriving DecidableEq, Repr

/-! ## Host lanes (chapter 10) -/

/-- What a rate-matching FIFO holds (R283): a 66-bit block, control or data with its 64 bits, first bit lowest, or an
ERR257 block as one unit. -/
inductive HBlk where
  | blk (ctl : Bool) (bits : Nat)
  | err
  deriving DecidableEq, Repr

/-- The invert and precode selections a host lane took when it left IDLE (R271). -/
structure HostLane where
  rxInvert : Bool := false
  txInvert : Bool := false
  rxPrecode : Bool := false
  txPrecode : Bool := false
  /-- The AUI lane that the markers found on this lane (R269). -/
  phys : Nat := 0
  /-- The level indices before the next received and the next sent symbol, for precoding (R268). -/
  rxPrev : Nat := 0
  txPrev : Nat := 0
  /-- The level indices last sent, of one codeword. -/
  sent : List Nat := []
  /-- S1 (R288): the bits of the last codeword passed to the line lane, and the bits from the line lane not yet sent. -/
  passed : List Bool := []
  line : List Bool := []
  /-- The pattern checker and the pattern generator (R322, R323). -/
  chk : PatChk := {}
  gen : PatGen := {}
  deriving DecidableEq, Repr

/-- A host RS instance (R278 to R287), kept at the lowest line lane of its host lanes. -/
structure HostInst where
  /-- The last 58 received bits of the self-synchronising descrambler. -/
  descr : Nat := 0
  /-- The next block follows an uncorrectable codeword (R280). -/
  after : Bool := false
  /-- The ingress FIFO, oldest first, and whether its output stands inside a packet. -/
  fifoIn : List HBlk := []
  inPkt : Bool := false
  /-- Client blocks resume at the next packet start (R290). -/
  resync : Bool := false
  /-- ERR257 is due at the output ahead of the FIFO: the block in assembly when ALIGNED was left, or an insertion in a packet (R280, R284). -/
  errDue : Bool := false
  /-- Blocks that the boundary discarded and whose places ERR257 will take (R67). -/
  overrun : Nat := 0
  /-- Codewords until one that starts with alignment markers, received and sent. -/
  amIn : Nat := 0
  amOut : Nat := 0
  /-- Uncorrectable codewords of the port's instance in this tick (R291). -/
  uncTick : Nat := 0
  /-- Blocks that leave egress before its FIFO's, the egress FIFO, and whether its output stands inside a packet. -/
  outPre : List HBlk := []
  fifoOut : List HBlk := []
  outPkt : Bool := false
  /-- The egress FIFO waits to reach its target fill (R287). -/
  filling : Bool := true
  /-- The rest of a broken packet is discarded up to the next packet start (R287). -/
  broken : Bool := false
  /-- HOST.EGRESS_MODE in force is PACKET_SAFE (R290). -/
  safe : Bool := false
  /-- The last 58 sent bits of the scrambler, and the last codeword sent. -/
  scr : Nat := 0
  sent : List Nat := []
  deriving DecidableEq, Repr

/-! ## Ports (chapter 11) -/

/-- Where a port is bound for (R295, R311). -/
inductive PGoal where
  | none | off | standby | up
  | test (kind : Nat)
  deriving DecidableEq, Repr

/-- A port beside PORT.STATE (R294 to R313). -/
structure PortCtl where
  goal : PGoal := .none
  /-- Slots with LAST still to send (R309). -/
  lastLeft : Nat := 0
  /-- The hold is empty: DRAINING waits for nothing more of its own (R310). -/
  drained : Bool := false
  /-- The rate set a rate change goes to, and whether its steps 1 and 2 still run (R313). -/
  rateTo : Option Nat := Option.none
  rateDown : Bool := false
  /-- The port reads STANDBY in a rate change while its hold still empties (R310, R313). -/
  rateHold : Bool := false
  /-- RATE_ACTIVE follows the far end's S1 (R303). -/
  followed : Bool := false
  /-- Statuses already raised in this episode (R303, R304). -/
  epFormat : Bool := false
  epSkew : Bool := false
  epDark : Bool := false
  epAlign : Bool := false
  /-- A running PORT.APPLY_BREAKOUT takes the port to OFF (R28). -/
  breakout : Bool := false
  /-- Domains whose block reset took the port down: PORT.CMD with PORT.START_STATE follows when it ends (R317). -/
  restart : List Nat := []
  deriving DecidableEq, Repr

/-- The search on a line lane (R301). -/
structure SearchLane where
  /-- The class the rate detector names: 0 none, 1 N1, 2 N2, 3 S1. -/
  cls : Nat := 0
  /-- The candidate under test: the symbol offset, and from 2,048 on the second precoding interpretation. -/
  cand : Nat := 0
  lock : Bool := false
  /-- S1: bits corrected and received in this tick and in the last 100 ticks (R319). -/
  s1Now : Nat × Nat := (0, 0)
  s1Pre : List (Nat × Nat) := []
  deriving DecidableEq, Repr

/-! ## Test features (chapter 12) -/

/-- A capture while it records (R331, R332): its entries, newest first, each with its stamp, and after the trigger the entries still to
come. -/
structure Capture where
  ring : List (Nat × Nat) := []
  left : Option Nat := none
  deriving DecidableEq, Repr

/-- A port's test sequence and injection (R321 to R330). -/
structure TestPort where
  /-- The running sequence, 1 to 6; 0 while none runs. -/
  kind : Nat := 0
  /-- The kind of the active injection, its units still to apply, its lanes, and bits per codeword of kind 2 (R329). -/
  injKind : Nat := 0
  injLeft : Nat := 0
  injLanes : Nat := 0
  injBits : Nat := 16
  /-- The far loop in force: it follows TEST.FAR_LOOP at the next packet start (R328). -/
  farLoop : Bool := false
  /-- The patterns the running sequence took, per line lane and host lane of the port, lowest lane first (R322). -/
  pats : List Nat := []
  /-- PORT.RETURN_STATE and PORT.TEST_DURATION_MS as the running sequence took them (R320). -/
  ret : Int := 1
  dur : Nat := 1000
  /-- The cycle at which a FORCED_LOS injection started (R329). -/
  injAt : Nat := 0
  deriving DecidableEq, Repr

/-! ## Fabric (chapter 3) and temperature (chapter 16) -/

/-- The margin filter of a line lane (R70). -/
structure FabLane where
  /-- Lane margins of the last 100 windows, newest first. -/
  windows : List Nat := []
  /-- Windows for which a fill alarm still caps the filtered margin. -/
  cap : Nat := 0
  deriving DecidableEq, Repr

/-- The fabric beside its dictionary objects. -/
structure Fabric where
  lane : Lanes FabLane 8 := Vector.replicate 8 {}
  /-- Tiles whose canary is excluded (R72). -/
  failed : List Nat := []
  /-- Ticks since the last margin raise, up to 1,000 (R75); none before the first. -/
  raiseAgo : Option Nat := none
  /-- Ticks for which every lane of a port has held the release margin, up to 100 (R75). -/
  held : Lanes Nat 8 := Vector.replicate 8 0
  /-- FABRIC_MARGIN_LOW has been raised in this episode (R75). -/
  low : Lanes Bool 8 := Vector.replicate 8 false
  /-- FABRIC.SHED_THRESH and FABRIC.RELEASE_HYST as the last tick took them (R84). -/
  shedThr : Nat := 1100
  hyst : Nat := 50
  deriving DecidableEq, Repr

/-- The AVS request beside COMPASS.AVS_REQUEST_MV (R426, R427). -/
structure Avs where
  /-- A request has been sent since start-up, the one acknowledged before it, and its failed tries so far. -/
  sent : Bool := false
  prev : Nat := 0
  tries : Nat := 0
  /-- A sum whose request failed: it is not sent again. -/
  refused : Option Nat := none
  /-- The plan voltage in the request; a higher one waits while THROTTLE is asserted. -/
  plan : Nat := 0
  /-- Consecutive ticks with a readback mismatch, up to 10. -/
  off : Nat := 0
  deriving DecidableEq, Repr

/-- A running sum of one measurement, and how many it holds. -/
structure Tally where
  n : Nat := 0
  sum : Int := 0
  deriving DecidableEq, Repr

/-- The sums of a day's measurements that COMPASS plans on (R422): per line lane the offset and gain spreads, the skew trim and
the DAC full scale, per host lane the SNR. -/
structure AgeDay where
  offset : Lanes Tally 8 := Vector.replicate 8 {}
  gain : Lanes Tally 8 := Vector.replicate 8 {}
  skew : Lanes Tally 8 := Vector.replicate 8 {}
  dac : Lanes Tally 8 := Vector.replicate 8 {}
  snr : Lanes Tally 16 := Vector.replicate 16 {}
  deriving DecidableEq, Repr

/-- Sensing, thresholds and the plan beside their dictionary objects (R411 to R424). -/
structure Thermal where
  /-- The sums of the day's measurements since the last plan (R422), and per host lane those of the powered hour's ticks in which
  it was ALIGNED (R423). -/
  day : AgeDay := {}
  hour : Lanes Tally 16 := Vector.replicate 16 {}
  /-- The last completed diode conversion (R414). -/
  diode : Option Int := none
  /-- The common correction, in units of 0.05 °C, and the monitors' readings at the last tick before it, in units of
  0.1 °C (R412). -/
  corr : Int := 0
  raw : Lanes (Option Int) 32 := Vector.replicate 32 none
  /-- WARN and THROTTLE asserted, and THERMAL.TJ at or above THROTTLE at the last tick (R416, R417). -/
  warn : Bool := false
  throttling : Bool := false
  above : Bool := false
  /-- The throttle step through temperature (R417). -/
  step : Nat := 0
  /-- No reading is valid (R415). -/
  blind : Bool := false
  /-- Ticks with the step above 0. -/
  stepTicks : Nat := 0
  /-- Cycles of the autoclear exits of the last hour, and autoclear disabled (R420). -/
  exits : List Nat := []
  noAuto : Bool := false
  /-- A plan has fallen due, and the lowest device margin of the day (R424). -/
  planDue : Bool := false
  dayMin : Option Nat := none
  deriving DecidableEq, Repr

/-! ## Start-up (chapter 17) -/

/-- Start-up and resets beside their dictionary objects (R442 to R447). -/
structure Startup where
  /-- The supplies are good (R442); RESET_N stands asserted (R533). -/
  powered : Bool := false
  resetN : Bool := false
  /-- The kept 100 µs of step 2 have passed (R445). -/
  delayDone : Bool := false
  /-- PORTSM's vote of step 7 on LRX0 and LRX4 stands (R446). -/
  select : Lanes Bool 2 := Vector.replicate 2 false
  /-- INT_N is asserted since step 8 (R447). -/
  ready : Bool := false
  /-- The BIST waves still to run, the islands of the present start on the FULL set, and those of the next start (R488,
  R489). -/
  waves : List (List Nat) := []
  fullNow : Nat := 0
  full : Nat := 0
  /-- Step 4 has completed since power-on or RESET_N (R442). -/
  bistDone : Bool := false
  /-- ADDR[1:0] as sampled at the last release of power-on reset or RESET_N (R531). -/
  strap : Nat := 0
  deriving DecidableEq, Repr

/-! ## The test access port (chapter 21) -/

/-- The instruction that the test access port holds (R540). -/
inductive TapIns where
  | idcode | bypass | sample | extest
  deriving DecidableEq, Repr

/-- The test access port (R540): in reset while TRST_N is low, its instruction, its data register with the bit that shifts
out first first, the bits last shifted out, and the levels that a boundary scan drives. -/
structure Tap where
  reset : Bool := true
  ins : TapIns := .idcode
  dr : List Bool := []
  out : List Bool := []
  driven : Option (List Bool) := none
  deriving DecidableEq, Repr

/-! ## On-chip memory (chapter 18) -/

/-- A memory group beside its dictionary objects: the 8 most recently written-back words with their access counts, newest
first (R469), and the next word to scrub (R472). -/
structure MemGroup where
  watch : List (Nat × Nat) := []
  scrub : Nat := 0
  deriving DecidableEq, Repr

/-! ## Fuses, self-tests and the life cycle (chapter 19) -/

/-- The fuse array and its shadow (R477). Words are 64-bit; unlisted words are unblown. -/
structure Fuses where
  cells : Store Nat := []
  /-- Module words whose VALID cell is blown (R477). -/
  valid : List Nat := []
  /-- Module words that are closed for good (R479). -/
  closed : List Nat := []
  /-- The shadow as sensed at step 3 of start-up, and its words with two bits wrong. -/
  shadow : Store Nat := []
  bad : List Nat := []
  deriving DecidableEq, Repr

/-- A run of analogue self-checks (R482 to R485): the items still to start, in the order of R484, and those that run. Items
are numbered as the bits of SELFTEST.ANALOG_RUN. -/
structure AnalogRun where
  waiting : List Nat := []
  running : List Nat := []
  deriving DecidableEq, Repr

/-! ## Firmware update and settings (chapter 20) -/

/-- The activation copy at step 5 (R509): copy 1 or 2, the next block, whether it repeats, and whether it resumed one that a
reset had cut short. -/
structure CopyRun where
  second : Bool
  block : Nat
  repeated : Bool := false
  resumed : Bool := false
  deriving DecidableEq, Repr

/-- A settings save (R514): the slot it writes, the slot's bytes, whether it is DICT.SAVE's, and whether it is the confirm
save of R511. -/
structure SaveRun where
  slot : Nat
  bytes : List Byte
  dict : Bool := false
  confirm : Bool := false
  deriving DecidableEq, Repr

/-- Download sessions, activation and settings saves beside their dictionary objects. -/
structure Update where
  /-- The image length of the session and its page map (R502, R503). -/
  len : Nat := 0
  map : List Nat := []
  /-- Pages waiting to be programmed, oldest first: the page number and its bytes (R503). -/
  queue : List (Nat × List Byte) := []
  /-- UPDATE.VERIFY waits for the queue to empty (R504). -/
  verify : Bool := false
  /-- The partition to load at step 6, and the one loaded: 0 ACTIVE, 1 FALLBACK (R508, R510). -/
  load : Nat := 0
  loaded : Nat := 0
  copy : Option CopyRun := none
  /-- A record to be written after step 8: its KIND and RUN (R507, R510). -/
  deferred : Option (Nat × Nat) := none
  /-- UPDATE.LAST_RESULT and UPDATE.IMAGE_STATE as they read from step 8 on. -/
  result : Nat := 0
  state : Nat := 0
  /-- The cycle at which the probation count began, and its window in seconds (R511). -/
  probation : Option (Nat × Nat) := none
  /-- The slot read or written last, and the reference slot: 0 A, 1 B (R514). -/
  slotLast : Option Nat := none
  slotRef : Option Nat := none
  /-- The slot read at step 7 calls for a conversion save in probation (R514). -/
  convert : Bool := false
  save : Option SaveRun := none
  /-- Device saves that wait for the running save: true for the confirm save. -/
  saves : List Bool := []
  /-- The cycle at which the last save completed. -/
  savedAt : Option Nat := none
  /-- The last save failed: DICT.SAVE_PENDING reads 1 again (R340, R514). -/
  saveFailed : Bool := false
  /-- Slots whose last write was cut short or failed: their CRC fails (R514). -/
  torn : List Nat := []
  deriving DecidableEq, Repr


/-! ## The whole state -/

/-- Everything the spec gives the block. -/
structure State where
  /-- The numeric objects of the dictionary: keys `objKey index subindex`, unlisted keys at `regDefault`. -/
  regs : Store Int := []
  /-- The STR and BLOB objects, unlisted keys at `blobDefault`. -/
  blobs : Store (List Byte) := []
  time : TimeBase := {}
  mmp : Mmp := {}
  lookout : Lookout := {}
  doms : Lanes Domain 36 := Vector.replicate 36 {}
  /-- Whether the part is an EA part, and whether it is of the I grade (R1, R4 to R6). -/
  partEA : Bool := true
  /-- The part is of the I grade (R6). -/
  gradeI : Bool := true
  /-- The breakout values in force, East then West (R24, R28). -/
  breakout : Lanes Nat 2 := Vector.replicate 2 1
  /-- The running PORT.APPLY_BREAKOUT (R28). -/
  breakoutRun : Option BreakoutRun := none
  /-- The S values the last save captured, numeric and byte-string (R340). -/
  savedRegs : Store Int := []
  savedBlobs : Store (List Byte) := []
  hk : Hk := {}
  tx : Lanes TxLane 8 := Vector.replicate 8 {}
  adc : Lanes AdcLane 8 := Vector.replicate 8 {}
  rxsynth : Lanes RxSynth 2 := Vector.replicate 2 {}
  rx : Lanes RxLane 8 := Vector.replicate 8 {}
  eng : Lanes Engine 128 := Vector.replicate 128 {}
  outerLane : Lanes OuterLane 8 := Vector.replicate 8 {}
  outerPort : Lanes OuterPort 8 := Vector.replicate 8 {}
  tic : Lanes TicLane 8 := Vector.replicate 8 {}
  pool : Lanes TicHalf 2 := Vector.replicate 2 {}
  /-- Codewords stamped so far: the order of stamps. -/
  cwCount : Nat := 0
  link : Lanes LinkPort 8 := Vector.replicate 8 {}
  ds : DeepStore := {}
  hostLane : Lanes HostLane 16 := Vector.replicate 16 {}
  hostInst : Lanes HostInst 8 := Vector.replicate 8 {}
  /-- The skew last found in each instance, in ns (R269). -/
  hostSkew : Lanes Nat 8 := Vector.replicate 8 0
  port : Lanes PortCtl 8 := Vector.replicate 8 {}
  srch : Lanes SearchLane 8 := Vector.replicate 8 {}
  test : Lanes TestPort 8 := Vector.replicate 8 {}
  /-- The engine that serves each service task: THERMAL, AGEING, HOUSEKEEPING, DICT_ASSIST; none when none works (R393,
  R400). -/
  service : Lanes (Option (Fin 128)) 4 := #v[some 14, some 15, some 78, some 79]
  fabric : Fabric := {}
  avs : Avs := {}
  therm : Thermal := {}
  start : Startup := {}
  tap : Tap := {}
  mem : Lanes MemGroup 44 := Vector.replicate 44 {}
  /-- The capture buffer's contents are lost: the first index of their free values (R431, R331). -/
  capLost : Option Nat := none
  /-- The running capture (R332). -/
  cap : Capture := {}
  /-- Production has blown STAGE for DEPLOYED and a beginning-of-life voltage of 650 mV (R478, R490). -/
  fuse : Fuses := { cells := [(4, 7), (51, 2791728742400)] }
  analog : AnalogRun := {}
  /-- The boot flash (R498): an unlisted byte is erased and reads 0xFF. -/
  flash : Store Byte := []
  upd : Update := {}
  /-- Uses made of free values: the model's own counter, not the spec's. -/
  freeCount : Nat := 0
  /-- Commands waiting, first in, first out. -/
  pending : List Instr := []
  deriving DecidableEq, Repr

/-- Why a step faults: no command of the block has a fault in the spec, so there is none. -/
inductive Fault where
  deriving DecidableEq, Repr

/-- Why a command is refused. -/
inductive Refusal where
  /-- Raised by the dispatch for a command that has no meaning yet: safe, the machine stops. -/
  | notModelled (mnemonic : String)
  /-- Raised by TEST_ACCESS_PORT for the privileged debug that R540 offers in FACTORY and RETURNED and does not describe:
  safe, the machine stops. -/
  | privilegedDebug
  deriving DecidableEq, Repr

/-- The block with its supplies absent and every value at power-on reset: nothing in memory, no command waiting
(R442, R445). -/
def State.reset : State := {}

end Sys2Proof.Machine
end

