-- ==== Sys2Proof/Machine/Dsp.lean ====
section
/-! DEFINITION. The receive signal path of a line lane as pure functions: samples, resampler, equaliser, detectors, timing error,
blocks and soft metrics (R85 to R93, R105, R112, R118 to R129, R134, R138 to R143, R154). Fixed point throughout: level units in steps
of 2^-16 at the resampler's output and 2^-25 at the detector input. -/

namespace Sys2Proof.Machine

/-! ## The converter -/

/-- The sub-ADC that takes lane sample k (R85). -/
def subAdcOf (k : Nat) : Nat := 64 * (k % 2) + k / 2 % 64

/-- A raw code after its corrections, in units of 1/4 LSB, saturated (R86, R92): offset in units of 1/16 LSB, gain in
units of 2^-10. -/
def correctedSample (code fine gain : Int) : Int :=
  clampInt (-256) 255 (roundDiv ((16 * code - fine) * (1024 + gain)) 4096)

/-- The sample that stands for a failed sub-ADC's, from its two neighbours: their rounded mean, or 0 when one of them
is itself from a failed sub-ADC (R112). -/
def patchedSample (before after : Option Int) : Int :=
  match before, after with
  | some a, some b => roundDiv (a + b) 2
  | _, _ => 0

/-- A window's sums with one more sample of a sub-ADC in service (R105). -/
def AdcWin.add (w : AdcWin) (v code : Int) : AdcWin :=
  { w with n := w.n + 1, sq := w.sq + v.natAbs * v.natAbs, sum := w.sum + v, clips := w.clips + (code == -64 || code == 63).toNat }

/-- One raw code of the converter (R85, R86, R92, R105, R112): the sample before it is final now, and joins the word in
assembly. Without a clock the converter delivers zeros (R89). -/
def AdcLane.take (clocked : Bool) (a : AdcLane) (code : Int) : AdcLane :=
  let c := clampInt (-64) 63 code
  let e := subAdcOf a.k
  let x : Option Int :=
    if a.failed.contains e then none
    else some (if clocked then correctedSample c (a.fine.toList.getD e 0) (a.gain.toList.getD e 0) else 0)
  let word := match a.last with
    | none => a.word
    | some none => patchedSample a.before x :: a.word
    | some (some v) => v :: a.word
  let win := match x with
    | some v => a.win.add v (if clocked then c else 0)
    | none => a.win
  { a with k := a.k + 1, before := a.last.join, last := some x, word := word, win := { win with all := win.all + 1 } }

/-- Take the raw codes of a stretch of time: the lane after them, and the whole 64-sample words that they complete, each oldest
sample first (R64). -/
def AdcLane.takeAll (clocked : Bool) : AdcLane → List Int → AdcLane × List (List Int)
  | a, [] => (a, [])
  | a, c :: cs =>
    let b := a.take clocked c
    if b.word.length = 64 then
      let r := ({ b with word := [] } : AdcLane).takeAll clocked cs
      (r.1, b.word.reverse :: r.2)
    else b.takeAll clocked cs

/-! ## What holds for a stretch of samples -/

/-- What the lane's state and objects say while samples pass: the rate set, the timing loop's state, the equaliser in SEED or
CONVERGE, adapting, the active bank, LINE.RX_INVERT, the bandwidth in kHz, LINE.STATS_INCL_UNSETTLED, and an SNR figure
below 6.00 dB. -/
structure RxCtx where
  rate : Nat := 1
  tl : Nat := 0
  settling : Bool := false
  adapting : Bool := false
  bank : EqBank := {}
  invert : Bool := false
  bw : Nat := 4000
  incl : Bool := false
  lowSnr : Bool := false
  /-- The capture buffer records the detector's input (R331). -/
  trace : Bool := false
  deriving DecidableEq, Repr

/-- The limit of the rate word: 0.05 % (R122). -/
def wLimit : Int := 2147484

/-! ## The resampler -/

/-- The nominal step of a rate set in samples, units of 2^-32 (R119): 1, 2, or 230.4 GS/s over 113.4375 GBd. -/
def nominalStep (rate : Nat) : Nat :=
  if rate = 1 then 2 ^ 32 else if rate = 2 then 2 ^ 33 else (roundDiv (6144 * 2 ^ 32) 3025).toNat

/-- The step under a rate word (R118). DESIGN CHOICE (log entry 177): rounded to the accumulator's 2^-32. -/
def stepOf (rate : Nat) (w : Int) : Nat := (nominalStep rate + roundDiv (nominalStep rate * w) (2 ^ 32)).toNat

/-- The sample with a number; none before the samples kept, and for one that a gap discarded. -/
def Dsp.sampleAt (x : Dsp) (i : Nat) : Option Int := if i < x.top then (x.samp[x.top - 1 - i]?).join else none

/-- The resampler's output at the accumulator's position (R118): 8 taps over samples n - 3 to n + 4 at the fraction rounded to
6 bits. DESIGN CHOICE (log entry 178): none where sample n lies in a discard gap; another discarded sample counts as 0. -/
def Dsp.interpolate (x : Dsp) (rate : Nat) : Option Int :=
  let ph := (x.pos % 2 ^ 32 + 2 ^ 25) / 2 ^ 26
  let n := x.pos / 2 ^ 32 + ph / 64
  (x.sampleAt n).map (fun _ =>
    ((List.range 8).map (fun t =>
      Config.resampleRom (if rate = 1 then 0 else 1) (ph % 64) t *
        (if n + t < 3 then 0 else (x.sampleAt (n + t - 3)).getD 0))).sum)

/-! ## Slicer and detectors -/

/-- A target level of a bank by its index, units of 2^-7; 0 where there is no decision. -/
def levelOf (b : EqBank) (d : Option Nat) : Int := match d with | some k => b.levels.getD k 0 | none => 0

/-- The slicer: the thresholds are the midpoints of adjacent target levels (R127, R128). DESIGN CHOICE (log entry 179): a value on a
threshold is decided upwards. -/
def sliceLevel (b : EqBank) (u : Int) : Nat :=
  ((List.range 3).filter (fun i => decide ((b.levels.getD i 0 + b.levels.getD (i + 1) 0) * 2 ^ 17 ≤ u))).length

/-- The FFE's output for the symbol under the cursor, units of 2^-25 (R126, R127). -/
def ffeOut (b : EqBank) (ys : List (Option Int)) : Int := (List.zipWith (fun t y => t * y.getD 0) b.ffe ys).sum

/-- What the detector subtracts from the FFE's output: h1 of the DFE on the previous decision (R128). DEDUCED (log entry 180): for the
sequence detector's structure, its two taps on the tentative decisions, so that the error of a symbol is the same quantity in
every structure. -/
def feedback (b : EqBank) (d1 d2 : Option Nat) : Int :=
  (if b.structureId = 1 ∨ b.structureId = 2 ∨ b.structureId = 4 then b.dfe * levelOf b d1
   else if b.structureId = 0 then b.sd1 * levelOf b d1 + b.sd2 * levelOf b d2 else 0) * 2 ^ 9

/-- A squared distance in units of 2^-16 squared level units, from a distance in units of 2^-25. -/
def distSq (e : Int) : Nat := (roundDiv (e * e) (2 ^ 34)).toNat

/-- The squared distances from a detector input to the four target levels (R154). -/
def levelDists (b : EqBank) (u : Int) : List Nat := b.levels.map (fun l => distSq (u - l * 2 ^ 18))

/-- The metric of a level that no survivor holds. DESIGN CHOICE (log entry 211): 256 squared level units, beyond every soft value's
range. -/
def sdFar : Nat := 2 ^ 24

/-- The four survivors at the start. -/
def sdStart : List SdPath := List.replicate 4 {}

/-- The excess metrics of a path's symbols after it has won against another by `d` (R128, R154): the better of its own
alternatives and the loser's. -/
def sdMerge (win lose : List (Nat × List Nat)) (d : Nat) : List (Nat × List Nat) :=
  List.zipWith (fun a b => (a.1, List.zipWith (fun x y => min x (y + d)) a.2 b.2)) win lose

/-- One symbol of the 4-state sequence detector (R128): each state is the value of the previous symbol; a survivor takes the second
postcursor from its own history. A symbol of a gap weighs nothing. -/
def sdStep (b : EqBank) (f : Option Int) (ps : List SdPath) : List SdPath :=
  let far (i : Nat) (p : SdPath) (j : Nat) : Nat :=
    match f with
    | none => p.metric
    | some f => p.metric + distSq (f - (b.sd1 * levelOf b (some i) + b.sd2 * levelOf b ((p.hist[1]?).map (·.1))) * 2 ^ 9 -
        levelOf b (some j) * 2 ^ 18)
  let next := (List.range 4).map (fun j =>
    let cands := ps.mapIdx (fun i p => (far i p j, p.hist))
    let best := cands.foldl (fun a c => if c.1 < a.1 then c else a) (cands.headD (0, []))
    let merged := cands.foldl (fun h c => sdMerge h c.2 (c.1 - best.1)) best.2
    ({ metric := best.1, hist := (j, (List.range 4).map (fun k => if k = j then 0 else sdFar)) :: merged } : SdPath))
  let low := (next.map (·.metric)).foldl min ((next.headD {}).metric)
  next.map (fun p => { p with metric := p.metric - low })

/-- The path-metric differences of the oldest symbol that the survivors hold, by its level (R154). -/
def sdOldest (ps : List SdPath) : List Nat :=
  (List.range 4).map (fun k => (ps.map (fun p => p.metric + ((p.hist.getLast?).map (fun e => e.2.getD k sdFar)).getD 0)).foldl min sdFar)

/-- The survivors without their oldest symbol. -/
def sdDrop (ps : List SdPath) : List SdPath := ps.map (fun p => { p with hist := p.hist.dropLast })

/-- A symbol leaves the detector into LLR staging: its four metrics, or none in a gap (R155). -/
def Dsp.stage (x : Dsp) (m : Option (List Nat)) : Dsp := { x with out := m :: x.out, staged := x.staged + 1 }

/-- The oldest symbol of the sequence detector is decided. -/
def Dsp.sdOut (x : Dsp) : Dsp :=
  let gap := (x.sdGap.getLast?).getD false
  ({ x with sd := sdDrop x.sd, sdGap := x.sdGap.dropLast }).stage (if gap then none else some (sdOldest x.sd))

/-- All that the sequence detector still holds is decided, at most `n` symbols. -/
def Dsp.sdFlush (x : Dsp) : Nat → Dsp
  | 0 => { x with sd := [], sdGap := [] }
  | n + 1 => if x.sdGap = [] then { x with sd := [] } else x.sdOut.sdFlush n

/-- A symbol passes the detector (R128): the slicer's and the DFE's metrics at once, the sequence detector's after 48 symbols. -/
def Dsp.detect (x : Dsp) (b : EqBank) (f u : Option Int) : Dsp :=
  if b.structureId = 0 then
    let y : Dsp := { x with sd := sdStep b f (if x.sd = [] then sdStart else x.sd), sdGap := f.isNone :: x.sdGap }
    if 48 ≤ y.sdGap.length then y.sdOut else y
  else (x.sdFlush 48).stage (u.map (levelDists b))

/-! ## Blocks -/

/-- The number of symbols that have left the equaliser: the cursor is 10 symbols behind the resampler (R120, R146). -/
def Dsp.left (x : Dsp) : Nat := x.sym - 10

/-- The block that leaves the equaliser now, and the first boundary from now on (R120). -/
def Dsp.block (x : Dsp) : Nat := x.left / 256
def Dsp.nextBlock (x : Dsp) : Nat := (x.left + 255) / 256

/-- A cause of marks from block `a` on up to 16 blocks from block `b` on; during a run it restarts from the new cause (R138). -/
def Dsp.markFor (x : Dsp) (a b : Nat) : Dsp :=
  { x with markFrom := if x.block < x.markTo then x.markFrom else a, markTo := b + 16 }

/-- Whether a block lies in a run of marked blocks. -/
def Dsp.inRun (x : Dsp) (b : Nat) : Bool := decide (x.markFrom ≤ b) && decide (b < x.markTo)

/-- Sum two lists place by place. -/
def addSums (a b : List Int) : List Int := if a = [] then b else List.zipWith (· + ·) a b

/-- Count an eye bin (R143). -/
def addBin (e : List Nat) (k : Nat) : List Nat := e.set k (e.getD k 0 + 1)

/-- The histogram bin of a detector input, by the level it was decided as: 128 bins of 1/16 level unit over -4.0 to +4.0 (R143).
DESIGN CHOICE (log entry 181): a value beyond the span counts in the end bin. -/
def eyeKey (u : Int) (d : Nat) : Nat := 128 * d + (clampInt 0 127 ((u + 2 ^ 27) / 2 ^ 21)).toNat

/-- The end of a block (R120, R123, R134, R136, R138, R140, R141, R143). -/
def Dsp.blockEnd (x : Dsp) (c : RxCtx) (b : Nat) : Dsp :=
  let k := (x.blkN, x.blkErr)
  let good := c.adapting && !x.blkBad && decide (x.gapUntil ≤ b)
  let moved := (x.w - x.blockW).natAbs
  let counts := !x.blkMark || c.incl
  let bins := if counts then x.blkEye.reverse.take x.eyeLeft else []
  { x with
    errs := (k :: x.errs).take 16
    settled := if x.blkMark then x.settled else (x.settled.1 + k.1, x.settled.2 + k.2)
    marked := if x.blkMark then (x.marked.1 + k.1, x.marked.2 + k.2) else x.marked
    newMarked := x.newMarked + x.blkMark.toNat
    grad := if good then addSums x.grad x.blkGrad else x.grad
    gradBlocks := x.gradBlocks + good.toNat
    roll := x.roll.map (fun r => if r.left = 0 then r else { r with
      after := (r.after.1 + k.1, r.after.2 + k.2), left := r.left - 1 })
    steady := if c.tl = 1 ∧ moved ≤ 1073 then x.steady + 1 else 0
    acq := x.acq + 1
    ws := if c.tl = 2 then (x.w :: x.ws).take 1025 else []
    low := if c.tl = 2 ∧ c.lowSnr then x.low + 1 else 0
    blockW := x.w
    eye := bins.foldl addBin x.eye, eyeLeft := x.eyeLeft - bins.length
    blkN := 0, blkErr := 0, blkMark := false, blkBad := false, blkGrad := [], blkEye := [] }

/-! ## The timing loop -/

/-- The loop's update after 32 symbols (R121 to R123): the proportional path moves the position, the integral path the rate word, in
ACQUIRE by at most 1 ppm a block. -/
def Dsp.loopUpdate (x : Dsp) (c : RxCtx) : Dsp :=
  let bw := if c.tl = 1 then 8000 else c.bw
  let w := x.w + Config.loopRate c.rate bw x.mm
  let w := if c.tl = 1 then clampInt (x.blockW - 4294) (x.blockW + 4294) w else w
  { x with pos := ((x.pos : Int) + Config.loopPhase c.rate bw x.mm).toNat, w := clampInt (-wLimit) wLimit w, mm := 0 }

/-! ## One symbol -/

/-- The gradient of a symbol's squared error by coefficient, with the sign that reduces it (R134): 41 FFE places, the DFE tap, the
sequence detector's two, the four levels. -/
def symbolGrad (b : EqBank) (ys : List (Option Int)) (e : Int) (d : Nat) (d1 d2 : Option Nat) : List Int :=
  (List.range 41).map (fun j => -e * ((ys[j]?).join).getD 0) ++
    [e * levelOf b d1, e * levelOf b d1, e * levelOf b d2] ++ (List.range 4).map (fun k => if k = d then e else 0)

/-- The symbol under the cursor leaves the equaliser (R120, R121, R127, R128, R138 to R143). -/
def Dsp.equalise (x : Dsp) (c : RxCtx) : Dsp :=
  let i := x.sym - 11
  let b := i / 256
  let gap := ((x.ys[10]?).join).isNone
  -- the first symbol after a discard gap: 16 blocks from the next boundary on are marked and out of the gradient (R68, R134)
  let x := if !gap && x.inGap then
      { (x.markFor ((i + 255) / 256) ((i + 255) / 256)) with gapUntil := (i + 255) / 256 + 16 }
    else x
  let f : Option Int := if gap then none else some (ffeOut c.bank x.ys)
  let u : Option Int := f.map (fun f => f - feedback c.bank x.d1 x.d2)
  let d : Option Nat := u.map (sliceLevel c.bank)
  let e : Int := u.getD 0 - levelOf c.bank d * 2 ^ 18
  let mark := c.tl != 2 || c.settling || x.inRun b
  let x := { x with
    trace := if c.trace then u.getD 0 :: x.trace else x.trace
    inGap := gap
    mm := if gap then 0 else x.mm + u.getD 0 * levelOf c.bank x.d1 - x.u1.getD 0 * levelOf c.bank d
    blkN := x.blkN + (!gap).toNat, blkErr := x.blkErr + (if gap then 0 else distSq e)
    blkMark := x.blkMark || mark, blkBad := x.blkBad || gap || !c.adapting
    marks := if mark ∧ x.marks.head? ≠ some b then (b :: x.marks).take 100 else x.marks
    blkGrad := match d with
      | some k => if c.adapting then addSums x.blkGrad (symbolGrad c.bank x.ys e k x.d1 x.d2) else x.blkGrad
      | none => x.blkGrad
    blkEye := match d with
      | some k => if 0 < x.eyeLeft then eyeKey (u.getD 0) k :: x.blkEye else x.blkEye
      | none => x.blkEye
    d1 := d, d2 := x.d1, u1 := u }
  let x := x.detect c.bank f u
  let x := if (i + 1) % 32 = 0 ∧ (c.tl = 1 ∨ c.tl = 2) ∧ !gap then x.loopUpdate c else x
  if (i + 1) % 256 = 0 then x.blockEnd c b else x

/-- One symbol of the resampler (R118, R120, R130): the output, negated under LINE.RX_INVERT from a block boundary on, enters the
equaliser, and the position advances by the step. -/
def Dsp.symbol (c : RxCtx) (x : Dsp) : Dsp :=
  let inv := if x.sym % 256 = 0 then c.invert else x.inv
  let y := (x.interpolate c.rate).map (fun v => if inv then -v else v)
  let x : Dsp := { x with inv := inv, sym := x.sym + 1, pos := x.pos + stepOf c.rate x.w, ys := (y :: x.ys).take 41 }
  if x.sym < 11 then x else x.equalise c

/-- The symbols that the samples so far give, at most `fuel` of them. -/
def Dsp.emit (c : RxCtx) (x : Dsp) : Nat → Dsp
  | 0 => x
  | n + 1 => if x.pos / 2 ^ 32 + 5 < x.top then (x.symbol c).emit c n else x

/-- A 64-sample word reaches the resampler, or is discarded in an overrun's gap (R68, R118); an idle loop emits nothing. -/
def Dsp.word (c : RxCtx) (x : Dsp) (ws : List Int) : Dsp :=
  let vs : List (Option Int) := if 0 < x.gapWords then ws.map (fun _ => none) else ws.map some
  let x : Dsp := { x with samp := (vs.reverse ++ x.samp).take 96, top := x.top + ws.length, gapWords := x.gapWords - 1 }
  if c.tl = 0 then x
  else
    let y := x.emit c 80
    { y with out := y.out.take 20480 }

/-- The loop starts from IDLE (R120, R123): every symbol of the path is new, and the position is that of the next sample. -/
def Dsp.restart (x : Dsp) : Dsp :=
  { samp := x.samp, top := x.top, gapWords := x.gapWords, pos := x.top * 2 ^ 32, settled := x.settled, marked := x.marked
    newMarked := x.newMarked }

/-- The loop enters ACQUIRE, or tries again (R123): w = 0, and the counts of blocks start afresh. -/
def Dsp.acquire (x : Dsp) : Dsp := { x with w := 0, blockW := 0, steady := 0, acq := 0, ws := [], low := 0, snrSeen := false }

/-! ## Soft bit metrics -/

/-- The metrics of a symbol after the far end's precoding is undone, from those of it and its predecessor (R129): for each level index
the best of the pairs that give it. -/
def unprecode (now before : List Nat) : List Nat :=
  (List.range 4).map (fun a => ((List.range 4).map (fun p =>
    now.getD p sdFar + before.getD ((a + 4 - p) % 4) sdFar)).foldl min (2 * sdFar))

/-- A symbol's d1 - d0 for its first and its second Gray bit (R153, R154), in units of 2^-16 squared level units. -/
def softBits (m : List Nat) : Int × Int :=
  let d (k : Nat) : Int := (m.getD k sdFar : Nat)
  (min (d 2) (d 3) - min (d 0) (d 1), min (d 1) (d 2) - min (d 0) (d 3))

/-- The d1 - d0 of the bits of `n` staged symbols, oldest first, from the symbol numbered `from_` on; none in a gap (R155). -/
def Dsp.softFrom (x : Dsp) (precoded : Bool) (from_ n : Nat) : List (Option Int) :=
  let at_ (t : Nat) : Option (List Nat) := if t < x.staged then (x.out[x.staged - 1 - t]?).join else none
  ((List.range n).map (fun i =>
    let t := from_ + i
    let m : Option (List Nat) := match at_ t with
      | none => none
      | some now => some (if precoded then unprecode now (if t = 0 then [] else (at_ (t - 1)).getD []) else now)
    match m with
    | some m => [some (softBits m).1, some (softBits m).2]
    | none => [none, none])).flatten

/-- The hard decisions of soft metrics: 1 where the metric favours it (R155). -/
def hardBits (l : List (Option Int)) : List Bool := l.map (fun d => decide (d.getD 0 < 0))

/-- The level indices decided for the symbols staged from the one numbered `from_` on, oldest first, the level of the best metric each
(R331); 0 in a gap. -/
def Dsp.decisions (x : Dsp) (from_ : Nat) : List Nat :=
  ((x.out.take (x.staged - from_)).reverse).map (fun m =>
    match m with
    | some d => (List.range 4).foldl (fun a k => if d.getD k sdFar < d.getD a sdFar then k else a) 0
    | none => 0)

/-- Whether one of `n` symbols from the one numbered `from_` on lies in a marked block (R139). -/
def Dsp.anyMarked (x : Dsp) (from_ n : Nat) : Bool :=
  x.marks.any (fun b => decide (from_ < 256 * b + 256) && decide (256 * b < from_ + n))

end Sys2Proof.Machine
end

