-- ==== Sys2Proof/Machine/Codes.lean ====
section
/-! DEFINITION. The cyclic checks of the device: CRC-16 (R344, R189), CRC-32C (R189, R503), CRC-24 (R228) and the
retention CRC-32 (R433). -/

namespace Sys2Proof.Machine

/-- One bit through a cyclic check of width `w`, most significant bit first. -/
def crcStep (w poly r : Nat) (b : Bool) : Nat :=
  let r' := 2 * r % 2 ^ w
  if bitOf r (w - 1) != b then r' ^^^ poly else r'

/-- A cyclic check of width `w` over bits in sending order. -/
def crcBits (w poly init : Nat) (bs : List Bool) : Nat := bs.foldl (crcStep w poly) init

/-- The bits of bytes, each most significant bit first. -/
def bytesBits (bs : List Byte) : List Bool := (bs.map (fun b => msbBits 8 b.toNat)).flatten

/-- The CRC-16 of R344: polynomial 0x1021, initial value 0xFFFF, no reflection, no final XOR. -/
def crc16Bits (bs : List Bool) : Nat := crcBits 16 0x1021 0xFFFF bs

/-- The CRC-16 of R344 over bytes. -/
def crc16 (bs : List Byte) : Nat := crc16Bits (bytesBits bs)

/-- The CRC-32C of R189: polynomial 0x1EDC6F41, initial value and final XOR 0xFFFFFFFF, no reflection. -/
def crc32cBits (bs : List Bool) : Nat := crcBits 32 0x1EDC6F41 0xFFFFFFFF bs ^^^ 0xFFFFFFFF

/-- The CRC-32C of R189 over bytes, each most significant bit first. -/
def crc32c (bs : List Byte) : Nat := crc32cBits (bytesBits bs)

end Sys2Proof.Machine
end

