-- ==== Sys2Proof/Machine/Ops.lean ====
section
/-! DEFINITION. The named operations over the state: registers, stamps, raising an event, and giving a reply. -/

namespace Sys2Proof.Machine

/-- The outcomes of a command. -/
abbrev Out := Host.Outcome State Fault Refusal

/-! ## Registers -/

/-- The value of a numeric object. -/
def State.reg (s : State) (ix sub : Nat) : Int := s.regs.get regDefault (objKey ix sub)

/-- The value of a numeric object read as a natural number. -/
def State.nat (s : State) (ix sub : Nat) : Nat := (s.reg ix sub).toNat

/-- Whether a numeric object is not 0. -/
def State.flag (s : State) (ix sub : Nat) : Bool := s.reg ix sub != 0

/-- Write a numeric object. -/
def State.setReg (s : State) (ix sub : Nat) (v : Int) : State :=
  { s with regs := s.regs.put regDefault (objKey ix sub) v }

/-- The value of a STR or BLOB object. -/
def State.blob (s : State) (ix sub : Nat) : List Byte := s.blobs.get blobDefault (objKey ix sub)

/-- Write a STR or BLOB object. -/
def State.setBlob (s : State) (ix sub : Nat) (v : List Byte) : State :=
  { s with blobs := s.blobs.put blobDefault (objKey ix sub) v }

/-- Add to a counter that saturates at `max`. -/
def State.bumpTo (s : State) (max ix sub n : Nat) : State :=
  s.setReg ix sub ((min max (s.nat ix sub + n) : Nat) : Int)

/-- Add to a U32 counter, saturating (R61, R367 and the counter rule of every chapter). -/
def State.bump (s : State) (ix sub n : Nat) : State := s.bumpTo (2 ^ 32 - 1) ix sub n

/-- Add to a U64 counter, saturating. -/
def State.bump64 (s : State) (ix sub n : Nat) : State := s.bumpTo (2 ^ 64 - 1) ix sub n

/-- Add to a U8 counter, saturating. -/
def State.bump8 (s : State) (ix sub n : Nat) : State := s.bumpTo 255 ix sub n

/-- Write the same value to subindices `1` to `n` of an object. -/
def State.setAll (s : State) (ix : Nat) (v : Int) : Nat → State
  | 0 => s
  | n + 1 => (s.setReg ix (n + 1) v).setAll ix v n

/-- Return every listed numeric and byte-string object that a test names to its default. -/
def State.clearObjs (s : State) (p : Nat → Nat → Bool) : State :=
  { s with
    regs := s.regs.filter (fun c => !p (c.1 / 256) (c.1 % 256))
    blobs := s.blobs.filter (fun c => !p (c.1 / 256) (c.1 % 256)) }

/-- Apply a state change for each element of a list, in order. -/
def forEach {α : Type} (l : List α) (f : α → State → State) (s : State) : State := l.foldl (fun s a => f a s) s

/-- Add one to the `i`-th little-endian U32 of a byte string, saturating (the histograms). -/
def incU32At (bs : List Byte) (i : Nat) : List Byte :=
  bs.take (4 * i) ++ leBytes 4 (min (2 ^ 32 - 1) (leNat ((bs.drop (4 * i)).take 4) + 1)) ++ bs.drop (4 * i + 4)

/-- A use of a free value: its index. -/
def State.fresh (s : State) : State × Nat := ({ s with freeCount := s.freeCount + 1 }, s.freeCount)

/-! ## Time -/

/-- REFCLK cycles in a second (R36). -/
def refclkHz : Nat := 156250000

/-- The counter as a TIME96 value (R14): the accumulator without its low 32 bits. -/
def State.stamp (s : State) : Nat := s.time.acc / 2 ^ 32

/-- The increment of one REFCLK cycle in units of 2^-80 s for a TIME.RATE_ADJ value, a tie rounded up (R49). -/
def increment (adj : Int) : Nat := (roundDiv (2 ^ 40 * (2 ^ 40 + adj)) refclkHz).toNat

/-- The increment in force (R49). -/
def State.inc (s : State) : Nat := increment (s.reg Ob.TIME_RATE_ADJ 0)

/-- A stamp taken `n` of `d` equal parts after the start of the present REFCLK cycle: the counter is interpolated by the sample or
symbol count of the island that takes it (R52, R59). -/
def State.stampIn (s : State) (n d : Nat) : Stamp :=
  ⟨s.nat Ob.TIME_EPOCH 0 % 256, (s.time.acc + s.inc * n / d) % 2 ^ 128 / 2 ^ 32⟩

/-- A stamp to one REFCLK cycle (R59). -/
def State.stampNow (s : State) : Stamp := ⟨s.nat Ob.TIME_EPOCH 0 % 256, s.stamp⟩

/-- The interval between two stamps in units of 2^-48 s; between stamps of different epochs there is none (R52). -/
def Stamp.to (a b : Stamp) : Option Nat := if a.epoch = b.epoch then some ((b.time + 2 ^ 96 - a.time) % 2 ^ 96) else none

/-- The order of stamps: by epoch first, which counts on modulo 256 (R52). -/
def Stamp.before (a b : Stamp) : Bool :=
  if a.epoch = b.epoch then decide (a.time < b.time) else decide ((b.epoch + 256 - a.epoch) % 256 < 128)

/-- The whole seconds of the counter. -/
def State.seconds (s : State) : Nat := s.time.acc / 2 ^ 80

/-- Write the present stamp into a TIME96 object (R59). -/
def State.setStamp (s : State) (ix sub : Nat) : State := s.setReg ix sub (s.stamp : Int)

/-! ## Events, records and the safe state's cause -/

/-- The severity of a source (R456). -/
def State.severity (s : State) (src : Nat) : Nat := s.nat Ob.FAULT_SEVERITY src

/-- Entries that the capture buffer holds in a format (R331). -/
def capEntries (source : Int) : Nat := if source = 1 then 1048576 else if source = 3 then 8388608 else 2097152

/-- Entries still to record after the trigger: the post-trigger share of the buffer (R332). DESIGN CHOICE (log entry 202): rounded down, for
LLRs up to whole codewords, so that the first valid entry is a codeword's first symbol. -/
def capPost (source : Int) (pre : Nat) : Nat :=
  let n := capEntries source * (100 - pre) / 100
  if source = 2 then ceilDiv n 2048 * 2048 else n

/-- The trigger of the capture buffer: TRIGGERED with its stamp, and the post-trigger share begins (R332). -/
def State.capTrigger (s : State) : State :=
  { (s.setReg Ob.TEST_CAP_STATE 0 2).setStamp Ob.TEST_CAP_TRIG_STAMP 0 with
    cap := { s.cap with left := some (capPost (s.reg Ob.TEST_CAP_SOURCE 0) (s.nat Ob.TEST_CAP_PRE_PCT 0)) } }

/-- Whether the capture buffer records a source of a line lane (R331). -/
def State.capTakes (s : State) (l : Fin 8) (source : Int) : Bool :=
  (s.reg Ob.TEST_CAP_STATE 0 == 1 || s.reg Ob.TEST_CAP_STATE 0 == 2) && s.reg Ob.TEST_CAP_LANE 0 == (l.val : Int) &&
    s.reg Ob.TEST_CAP_SOURCE 0 == source

/-- Entries with their stamps, oldest first, go into the ring, as long as recording goes on (R332). -/
def Capture.record (size : Nat) (c : Capture) (es : List (Nat × Nat)) : Capture :=
  let new := match c.left with | some n => es.take n | none => es
  { ring := (new.reverse ++ c.ring).take size, left := c.left.map (· - new.length) }

/-- Record entries of a source of a line lane (R331, R332). -/
def State.capRecord (s : State) (l : Fin 8) (source : Int) (es : List (Nat × Nat)) : State :=
  if s.capTakes l source then { s with cap := s.cap.record (capEntries source) es } else s

/-- A fault trigger acts on the event at its source, before any record rate limit (R332). -/
def State.capFault (s : State) (src : Nat) : State :=
  if s.reg Ob.TEST_CAP_STATE 0 = 1 ∧ s.reg Ob.TEST_CAP_TRIG 0 = 2 ∧ s.reg Ob.TEST_CAP_TRIG_FAULT 0 = src then
    s.capTrigger
  else s

/-- Put a record behind the earlier ones, and among those of its own cycle by falling severity, then rising source
number (R458). -/
def insertRec (q : QueuedRec) : List QueuedRec → List QueuedRec
  | [] => [q]
  | r :: rs =>
    if r.cycle = q.cycle ∧ (r.sev < q.sev ∨ (r.sev = q.sev ∧ q.src < r.src)) then q :: r :: rs
    else r :: insertRec q rs

/-- Offer a record to the input queue; a FATAL one drives the safe-state entry and never is dropped (R458). -/
def State.offer (s : State) (src detail : Nat) (raised : Bool) : State :=
  let sev := min 4 (s.severity src + raised.toNat)
  let q : QueuedRec := ⟨src, detail, raised, sev, s.time.now⟩
  let s := if sev = 4 then
      { s with lookout := { s.lookout with safeDue := s.lookout.safeDue.or (some (.fatal src)) } } else s
  if s.lookout.queue.length < 16 then
    { s with lookout := { s.lookout with queue := insertRec q s.lookout.queue } }
  else if sev = 4 then { s with lookout := { s.lookout with late := s.lookout.late ++ [q] } }
  else s.bump Ob.FAULT_LOG_DROPPED 0 1

/-- A record under a rate limit of one per tick, source and instance; the event can trigger the capture whether or not
it gives a record (R332, R458). -/
def State.record (s : State) (src inst detail : Nat) : State :=
  let s := s.capFault src
  if (src, inst) ∈ s.lookout.given then s
  else ({ s with lookout := { s.lookout with given := (src, inst) :: s.lookout.given } }).offer src detail false

/-- An event of a source with a rate limit: it always counts in the chapter's event counter, and gives a record once
per tick (R458). -/
def State.raise (s : State) (src inst detail : Nat) (evIx evSub : Nat) : State :=
  (s.bump evIx evSub 1).record src inst detail

/-- An event of a source without a rate limit and without an event counter. -/
def State.raiseFree (s : State) (src detail : Nat) : State := (s.capFault src).offer src detail false

/-- Order a chip reset with its POWER.RESET_CAUSE (R442). -/
def State.orderChip (s : State) (cause : Nat) : State :=
  { s with lookout := { s.lookout with chipDue := some cause } }

/-- The capture of a line lane ends ABORTED: its LRX domain leaves ON, or a foreground calibration starts (R332). -/
def State.capAbort (s : State) (l : Fin 8) : State :=
  if (s.reg Ob.TEST_CAP_STATE 0 = 1 ∨ s.reg Ob.TEST_CAP_STATE 0 = 2) ∧ s.reg Ob.TEST_CAP_LANE 0 = l.val then
    (s.setReg Ob.TEST_CAP_STATE 0 4).raise Src.TEST_CAPTURE l.val (l.val + 256 + 4096 * s.nat Ob.TEST_CAP_TRIG 0)
      Ob.TEST_EVENTS (l.val + 1)
  else s

/-! ## Transports and replies -/

/-- The transport of a path. -/
def State.tp (s : State) (p : Path) : Transport := s.mmp.ports[p.idx]

/-- Change the transport of a path. -/
def State.modTp (s : State) (p : Path) (f : Transport → Transport) : State :=
  { s with mmp := { s.mmp with ports := s.mmp.ports.set p.idx (f (s.mmp.ports[p.idx])) } }

/-- The OPCODE byte of a request (R343). -/
def opByte (r : Req) (op : Opcode) : Nat := op.code + (if r.schema.isSome then 64 else 0)

/-- The optional schema prefix of a request (R343). -/
def schemaPrefix (r : Req) : List Byte :=
  match r.schema with
  | some t => leBytes 2 t
  | none => []

/-- A request frame without its CRC (R342): the header, the prefixes and the payload proper. -/
def frameBody (r : Req) (op : Opcode) (ix sub : Nat) (pl : List Byte) : List Byte :=
  let pay := schemaPrefix r ++ pl
  [0xA5, BitVec.ofNat 8 (opByte r op), r.tag] ++ leBytes 2 ix ++ [BitVec.ofNat 8 sub] ++ leBytes 2 pay.length ++ pay

/-- A frame closed by its CRC-16, most significant byte first (R344). -/
def closeFrame (body : List Byte) : List Byte := body ++ beBytes 2 (crc16 body)

/-- A reply frame (R342): the request's OPCODE with RSP set, its TAG, the object, the status and the payload. -/
def replyFrame (op : Nat) (tag : Byte) (ix sub st : Nat) (out : List Byte) : List Byte :=
  closeFrame ([0xA5, BitVec.ofNat 8 (128 + op), tag] ++ leBytes 2 ix ++ [BitVec.ofNat 8 sub] ++
    leBytes 2 out.length ++ [BitVec.ofNat 8 st] ++ out)

/-- Queue a reply on a path; over MDIO one of odd length is followed by a 0x00 byte (R356). -/
def State.pushReply (s : State) (p : Path) (bs : List Byte) : State :=
  let out := if p = .mdio ∧ bs.length % 2 = 1 then bs ++ [0] else bs
  s.modTp p (fun t => { t with replies := t.replies ++ [out] })

/-- Whether an opcode changes state, so that R350 keeps its reply for a duplicate. -/
def opChanges : Opcode → Bool
  | .write | .writeBlock | .exec => true
  | _ => false

/-- Keep the reply of the last state-changing request on its TAG (R350). -/
def keepReply (t : Transport) (tag : Byte) (f : List Byte) : Transport :=
  { t with last := t.last.map (fun l => if l.tag = tag then { l with reply := some f } else l) }

/-- Stamp the commit of a write on its TAG (R59). -/
def stampWrite (t : Transport) (tag : Byte) (m : Stamp) : Transport :=
  { t with last := t.last.map (fun l => if l.tag = tag then { l with time := l.time.or (some m) } else l) }

/-- The replies at the head of a waiting list that can leave, and the rest. -/
def leaving : List (Byte × Option (List Byte)) → List (List Byte) × List (Byte × Option (List Byte))
  | (_, some f) :: rest => (f :: (leaving rest).1, (leaving rest).2)
  | w => ([], w)

/-- Fill in the reply of the request on a TAG in a waiting list; a request that is not listed stands behind it. -/
def fillWait (tag : Byte) (f : List Byte) (w : List (Byte × Option (List Byte))) : List (Byte × Option (List Byte)) :=
  if w.any (fun x => x.1 == tag && x.2.isNone) then w.map (fun x => if x.1 = tag ∧ x.2 = none then (tag, some f) else x)
  else w ++ [(tag, some f)]

/-- Queue a reply in its order: an EXEC's at once, any other behind the earlier ones of its path (R350). -/
def State.pushOrdered (s : State) (p : Path) (isExec : Bool) (tag : Byte) (f : List Byte) : State :=
  if isExec || (s.tp p).wait == [] then s.pushReply p f
  else
    let (out, rest) := leaving (fillWait tag f (s.tp p).wait)
    forEach out (fun f s => s.pushReply p f) (s.modTp p (fun t => { t with wait := rest }))

/-- Queue a reply that the server gives without taking the request: in its order, behind the earlier ones of its path. -/
def State.pushBehind (s : State) (p : Path) (isExec : Bool) (tag : Byte) (f : List Byte) : State :=
  if isExec || (s.tp p).wait == [] then s.pushReply p f else s.modTp p (fun t => { t with wait := t.wait ++ [(tag, some f)] })

/-- Give a reply frame whose INDEX and SUBINDEX are given (R342, R348, R350). -/
def State.replyAt (s : State) (r : Req) (op : Opcode) (ix sub st : Nat) (out : List Byte) : State :=
  let f := replyFrame (opByte r op) r.tag ix sub st out
  (s.pushOrdered r.path (op == .exec) r.tag f).modTp r.path (fun t => if opChanges op then keepReply t r.tag f else t)

/-- Give the reply of a request (R342, R348, R350); a write that commits is stamped (R59). -/
def State.reply (s : State) (r : Req) (op : Opcode) (ix sub st : Nat) (out : List Byte) : State :=
  (if (op = .write ∨ op = .writeBlock) ∧ st = 0 then s.modTp r.path (fun t => stampWrite t r.tag s.stampNow) else s).replyAt r op ix
    sub st out

/-- Answer every request that waits on an object's element, and drop them from the waiting list (R350). -/
def State.finish (s : State) (ix sub st : Nat) : State :=
  let mine := s.mmp.pend.filter (fun q => q.ix == ix && q.sub == sub)
  let s := { s with mmp := { s.mmp with pend := s.mmp.pend.filter (fun q => !(q.ix == ix && q.sub == sub)) } }
  forEach mine (fun q s => s.reply q.req q.op q.ix q.sub st []) s

/-- Whether a request waits on an object's element. -/
def State.waiting (s : State) (ix sub : Nat) : Bool := s.mmp.pend.any (fun q => q.ix == ix && q.sub == sub)

/-! ## Status codes of R348 -/

abbrev St.OK : Nat := 0x00
abbrev St.BUSY : Nat := 0x01
abbrev St.RANGE : Nat := 0x02
abbrev St.ACCESS_REFUSED : Nat := 0x03
abbrev St.CONFIG_CONFLICT : Nat := 0x04
abbrev St.NO_OBJECT : Nat := 0x05
abbrev St.TYPE_LENGTH : Nat := 0x06
abbrev St.BAD_OPCODE : Nat := 0x07
abbrev St.TAG_IN_USE : Nat := 0x08
abbrev St.SCHEMA_UNKNOWN : Nat := 0x09
abbrev St.TOO_LONG : Nat := 0x0A
abbrev St.BLOCK_ORDER : Nat := 0x0B
abbrev St.END : Nat := 0x0C
abbrev St.NOT_READY : Nat := 0x0D
abbrev St.SAFE_STATE : Nat := 0x0E
abbrev St.AUTH_FAIL : Nat := 0x0F
abbrev St.PARTNER_TIMEOUT : Nat := 0x10
abbrev St.LINK_DOWN : Nat := 0x11
abbrev St.SYNTH_CAL_FAIL : Nat := 0x12
abbrev St.ABORTED_BY_WAKE : Nat := 0x13
abbrev St.BLOCK_CRC : Nat := 0x14
abbrev St.SIGNATURE : Nat := 0x15
abbrev St.LIFE_CYCLE : Nat := 0x16

end Sys2Proof.Machine
end

