-- ==== Sys2Proof/Machine/Operands.lean ====
section
/-! DEFINITION. Operands: which port owns a lane (R24 to R26), the reading of payload bytes as values (R338), the
checks every request passes in order (R349). -/

namespace Sys2Proof.Machine

/-! ## Ports and lanes -/

/-- The half of a line lane: 0 East, 1 West (R20). -/
def halfOf (l : Fin 8) : Fin 2 := ⟨l.val / 4, by omega⟩

/-- The breakout value in force for a half. -/
def State.halfValue (s : State) (h : Fin 2) : Nat := s.breakout[h]

/-- The port that owns a line lane under a breakout value (R24), as a number; none if the lane is unused. -/
def ownerUnder (value : Nat) (l : Nat) : Option Nat :=
  match value with
  | 1 | 5 => some l
  | 2 => some (l / 2 * 2)
  | 3 | 6 => some (l / 4 * 4)
  | 4 | 7 => some 0
  | _ => none

/-- The port that owns a line lane now (R24, R26). -/
def State.owner (s : State) (l : Fin 8) : Option Nat := ownerUnder (s.halfValue (halfOf l)) l.val

/-- Whether a port exists now: it owns its own line lane (R26). -/
def State.exists (s : State) (p : Fin 8) : Bool := s.owner p == some p.val

/-- All line lanes, or ports, in order. -/
def fins (n : Nat) : List (Fin n) := List.finRange n

/-- The line lanes a port owns (R24). -/
def State.lanesOf (s : State) (p : Fin 8) : List (Fin 8) := (fins 8).filter (fun l => s.owner l == some p.val)

/-- The port that owns a lane, as a port number. -/
def State.portOf (s : State) (l : Fin 8) : Option (Fin 8) :=
  match s.owner l with
  | some p => if h : p < 8 then some ⟨p, h⟩ else none
  | none => none

/-- Whether a half is of the 200G class (R24, R25). -/
def State.class200 (s : State) (h : Fin 2) : Bool := s.halfValue h == 5 || s.halfValue h == 6 || s.halfValue h == 7

/-- The host lanes of a line lane in use (R24, R25). -/
def State.hostLanesOfLane (s : State) (l : Fin 8) : List (Fin 16) :=
  if s.class200 (halfOf l) then [⟨2 * l.val, by omega⟩] else [⟨2 * l.val, by omega⟩, ⟨2 * l.val + 1, by omega⟩]

/-- The host lanes a port owns (R24). -/
def State.hostLanesOf (s : State) (p : Fin 8) : List (Fin 16) := ((s.lanesOf p).map s.hostLanesOfLane).flatten

/-- The port that owns a host lane. -/
def State.portOfHost (s : State) (h : Fin 16) : Option (Fin 8) :=
  let l : Fin 8 := ⟨h.val / 2, by omega⟩
  if h ∈ s.hostLanesOfLane l then s.portOf l else none

/-! Port states (R294) and rate classes (PORT.RATE_ACTIVE). -/

abbrev PS.OFF : Int := 0
abbrev PS.STANDBY : Int := 1
abbrev PS.SEARCH : Int := 2
abbrev PS.ALIGNED : Int := 3
abbrev PS.CARRYING : Int := 4
abbrev PS.DRAINING : Int := 5
abbrev PS.TEST : Int := 6
abbrev Rate.N1 : Nat := 1
abbrev Rate.N2 : Nat := 2
abbrev Rate.S1 : Nat := 3

/-- The state of a port (R294). -/
def State.pstate (s : State) (p : Fin 8) : Int := s.reg Ob.PORT_STATE (p.val + 1)

/-- The rate set a port is configured for: N1 in a 400G-class half, else N2 or S1 by PORT.RATE_SET (R30). -/
def State.rateConfigured (s : State) (p : Fin 8) : Nat :=
  if !s.class200 (halfOf p) then Rate.N1
  else if s.reg Ob.PORT_RATE_SET (p.val + 1) = 1 then Rate.S1 else Rate.N2

/-- The active rate set of a port. -/
def State.rateActive (s : State) (p : Fin 8) : Nat := s.nat Ob.PORT_RATE_ACTIVE (p.val + 1)

/-! ## Power domains by number (R431) -/

abbrev Dom.AON : Fin 36 := 0
abbrev Dom.MGT : Fin 36 := 1
abbrev Dom.DS : Fin 36 := 26
abbrev Dom.HK : Fin 36 := 35
/-- LRX of a line lane. -/
def Dom.lrx (l : Fin 8) : Fin 36 := ⟨2 + l.val, by omega⟩
/-- LTX of a line lane. -/
def Dom.ltx (l : Fin 8) : Fin 36 := ⟨10 + l.val, by omega⟩
/-- HQ of a host lane. -/
def Dom.hq (h : Fin 16) : Fin 36 := ⟨18 + h.val / 4, by omega⟩
/-- FEC of a half. -/
def Dom.fec (h : Fin 2) : Fin 36 := ⟨22 + h.val, by omega⟩
/-- LINK of a half. -/
def Dom.link (h : Fin 2) : Fin 36 := ⟨24 + h.val, by omega⟩
/-- ENG of a line lane. -/
def Dom.eng (l : Fin 8) : Fin 36 := ⟨27 + l.val, by omega⟩

/-- POWER.STATE of a domain (R453). -/
def State.pwr (s : State) (d : Fin 36) : Int := s.reg Ob.POWER_STATE (d.val + 1)

/-- Whether a domain is ON (R432). -/
def State.on (s : State) (d : Fin 36) : Bool := s.pwr d == 2

/-- Whether a domain still works: ON, or ENTERING (R433). -/
def State.alive (s : State) (d : Fin 36) : Bool := s.pwr d == 2 || s.pwr d == 3

/-! ## Values -/

/-- The value a payload of a numeric type spells (R338). -/
def decodeVal (ty : Ty) (pl : List Byte) : Int :=
  if ty.signed then toSigned pl.length (leNat pl) else (leNat pl : Int)

/-- The bytes of a value of a numeric type (R338). -/
def encodeVal (len : Nat) (v : Int) : List Byte := leInt len v

/-- The objects kept per port, to which R26 applies at an absorbed port's subindex. -/
def perPort (ix : Nat) : Bool :=
  (0x0404 ≤ ix && ix ≤ 0x041B && ix != Ob.PORT_OWNER) || (0x090C ≤ ix && ix ≤ 0x090E) ||
  (0x0A00 ≤ ix && ix ≤ 0x0A30 && ix != Ob.LINK_SKEW_CW && ix != Ob.LINK_MARKER_ERR) ||
  (0x0D0D ≤ ix && ix ≤ 0x0D1D) || (0x0E0A ≤ ix && ix ≤ 0x0E14) ||
  ix == Ob.FABRIC_SHED_LEVEL || ix == Ob.FABRIC_DECODE_POWER_MW || (0x0045 ≤ ix && ix ≤ 0x0049)

/-- The owner of an absorbed port at a per-port object's subindex (R26); none where the port is not absorbed. -/
def State.absorbedBy (s : State) (ix sub : Nat) : Option Nat :=
  if perPort ix then
    if h : 1 ≤ sub ∧ sub ≤ 8 then
      match s.owner ⟨sub - 1, by omega⟩ with
      | some p => if p = sub - 1 then none else some p
      | none => none
    else none
  else none

/-- Whether the deep store is in use (R218). -/
def State.dsInUse (s : State) : Bool :=
  s.partEA && s.ds.enabled && s.on Dom.DS && (s.reg Ob.DS_STATE 0 == 3 || s.reg Ob.DS_STATE 0 == 4)

/-! ## Stated ranges of writable numeric objects -/

/-- An inclusive range. -/
def inRange (lo hi v : Int) : Bool := decide (lo ≤ v) && decide (v ≤ hi)

/-- The values that an object accepts, apart from its type (the range each chapter's object table states). -/
def rangeOk (s : State) (ix sub : Nat) (v : Int) : Bool :=
  match ix / 256 with
  | 0x00 =>
    if ix = Ob.MMP_FAR_TIMEOUT_MS then inRange 10 1000 v
    else if ix = Ob.MMP_FAR_RETRIES then inRange 0 7 v
    else if ix = Ob.MMP_PRIV_IDLE_S then inRange 10 3600 v
    else if ix = Ob.DICT_SAVE ∨ ix = Ob.DICT_RESTORE_DEFAULTS ∨ ix = Ob.MMP_PRIV_CLOSE then v == 0
    else true
  | 0x02 =>
    if ix = Ob.TIME_NEXT_SECONDS then inRange 0 (2 ^ 48 - 1) v
    else if ix = Ob.TIME_PPS_POLARITY ∨ ix = Ob.TIME_PPS_FILTER then inRange 0 1 v
    else if ix = Ob.TIME_PPS_DELAY_PS then inRange (-100000) 100000 v
    else true
  | 0x04 =>
    if ix = Ob.PORT_BREAKOUT_EAST ∨ ix = Ob.PORT_BREAKOUT_WEST then inRange 0 7 v
    else if ix = Ob.PORT_APPLY_BREAKOUT then v == 0
    else if ix = Ob.PORT_RATE_SET then inRange 0 1 v
    else if ix = Ob.PORT_MODE then inRange 0 3 v
    else if ix = Ob.PORT_CMD ∨ ix = Ob.PORT_START_STATE ∨ ix = Ob.PORT_RETURN_STATE then inRange 0 2 v
    else if ix = Ob.PORT_TEST_START then inRange 1 6 v
    else if ix = Ob.PORT_TEST_DURATION_MS then inRange 1 86400000 v
    else if ix = Ob.PORT_CARRY_DELAY_US then inRange 50 100000 v
    else if ix = Ob.PORT_NO_FRAME_MS then inRange 1 100 v
    else if ix = Ob.PORT_NO_PARTNER_MS then inRange 10 10000 v
    else if ix = Ob.PORT_LOS_HOLDOFF_US then inRange 0 10000 v
    else true
  | 0x08 =>
    if ix = Ob.LINE_ADC_CAL_FG ∨ ix = Ob.LINE_TL_RESTART ∨ ix = Ob.LINE_EYE_CAPTURE then v == 0
    else if ix = Ob.LINE_ADC_COUPLING then inRange 0 1 v
    else if ix = Ob.LINE_LOS_ASSERT then inRange 1000 20000 v && decide (v + 1000 ≤ s.reg Ob.LINE_LOS_DEASSERT sub)
    else if ix = Ob.LINE_LOS_DEASSERT then decide (s.reg Ob.LINE_LOS_ASSERT sub + 1000 ≤ v) && decide (v ≤ 40000)
    else if ix = Ob.LINE_TL_BW_KHZ then inRange 500 8000 v
    else if ix = Ob.LINE_EQ_SWAP_CYCLES then inRange 4 1024 v
    else if ix = Ob.LINE_EQ_MU_SHIFT then inRange 6 16 v
    else if ix = Ob.LINE_RX_PRECODE then inRange 0 2 v
    else if ix = Ob.LINE_EYE_SYMBOLS then inRange 65536 (2 ^ 31) v
    else true
  | 0x09 =>
    if ix = Ob.TIC_FORCED_ALARM_PPB then inRange 0 1000000000 v
    else if ix = Ob.TIC_CLEAR_PEAKS then v == 0
    else true
  | 0x0A =>
    if ix = Ob.LINK_LPL_MAX then inRange 1 3 v
    else if ix = Ob.RETRY_WINDOW_US then inRange 4 (if s.partEA then 512 else 70) v
    else if ix = Ob.RETRY_REPLAY_MAX then inRange 0 7 v
    else if ix = Ob.RETRY_GUARD_NS then inRange 0 20000 v
    else if ix = Ob.RETRY_STATUS_REPEAT_NS then inRange 1000 50000 v
    else if ix = Ob.RETRY_TX_BACKLOG_MAX then inRange 4 32 v
    else if ix = Ob.RETRY_CLEAR_PEAKS then v == 0
    else true
  | 0x0B =>
    if ix = Ob.DS_PIN_RATE then inRange 0 3 v
    else if ix = Ob.DS_MEM_HOT_C then inRange 60 125 v
    else if ix = Ob.DS_RETRAIN then v == 0
    else true
  | 0x0C =>
    if ix = Ob.TX_PRECODE then inRange 0 1 v
    else if ix = Ob.TX_DAC_FS_MVPPD then inRange 400 800 v && v % 25 == 0
    else if ix = Ob.OPTICS_PIN_ROLE_A ∨ ix = Ob.OPTICS_PIN_ROLE_B ∨ ix = Ob.OPTICS_PIN_ROLE_LAS then inRange 0 3 v
    else if ix = Ob.OPTICS_PIN_POLARITY ∨ ix = Ob.OPTICS_STATIC_LEVEL then inRange 0 7 v
    else if ix = Ob.OPTICS_BIAS_MAP then inRange 0 65535 v
    else if ix = Ob.OPTICS_APC_AMON ∨ ix = Ob.OPTICS_APC_ADAC then inRange 0 15 v
    else if ix = Ob.OPTICS_APC_SETPOINT then inRange 0 16383 v
    else if ix = Ob.OPTICS_APC_MIN_CODE then inRange 0 4095 v
    else if ix = Ob.OPTICS_APC_MAX_CODE then inRange 0 4095 v
    else if ix = Ob.OPTICS_APC_STEP then inRange 1 64 v
    else if ix = Ob.OPTICS_APC_GAIN then inRange 0 32767 v
    else true
  | 0x0D =>
    if ix = Ob.HOST_PRESET_SEL then inRange 0 15 v
    else if ix = Ob.HOST_RX_PRECODE ∨ ix = Ob.HOST_TX_PRECODE ∨ ix = Ob.HOST_EGRESS_MODE then inRange 0 1 v
    else true
  | 0x0E =>
    if ix = Ob.TEST_LINE_PATTERN ∨ ix = Ob.TEST_HOST_PATTERN ∨ ix = Ob.TEST_CAP_TRIG then inRange 0 2 v
    else if ix = Ob.TEST_INJ_KIND then inRange 1 6 v
    else if ix = Ob.TEST_INJ_COUNT then inRange 1 10000000 v
    else if ix = Ob.TEST_INJ_LANES then inRange 0 255 v
    else if ix = Ob.TEST_INJ_CW_BITS then inRange 1 384 v
    else if ix = Ob.TEST_INJ_FIRE ∨ ix = Ob.TEST_CAP_ARM ∨ ix = Ob.TEST_CAP_TRIGGER then v == 0
    else if ix = Ob.TEST_CAP_SOURCE then inRange 0 3 v
    else if ix = Ob.TEST_CAP_LANE then inRange 0 7 v
    else if ix = Ob.TEST_CAP_PRE_PCT then inRange 0 100 v
    else true
  | 0x10 =>
    if ix = Ob.HK_TRIG_SOURCE then inRange 0 5 v
    else if ix = Ob.HK_TRIG_EDGE ∨ ix = Ob.HK_ADAC_MODE ∨ ix = Ob.HK_PWM_POLARITY then inRange 0 1 v
    else if ix = Ob.HK_TIMER_PERIOD then inRange 50 100000000 v
    else if ix = Ob.HK_TRIG_TIMEOUT_US then inRange 10 65535 v
    else if ix = Ob.HK_PAIR_MODE ∨ ix = Ob.HK_LOAD_SOURCE then inRange 0 3 v
    else if ix = Ob.HK_PAIR_INPUT then inRange 0 15 v
    else if ix = Ob.HK_FILT_CIC_R then inRange 1 256 v
    else if ix = Ob.HK_FILT_FIR_D then inRange 1 2 v
    else if ix = Ob.HK_FILT_SET then inRange 0 7 v
    else if ix = Ob.HK_FILT_RATE_HZ then inRange 1 4000000 v
    else if ix = Ob.HK_DET_WINDOW ∨ ix = Ob.HK_ADAC_SLEW_US ∨ ix = Ob.HK_LOAD_DIV then inRange 1 65535 v
    else if ix = Ob.HK_ENV_DECAY then inRange 1 16 v
    else if ix = Ob.HK_ADAC_CODE then inRange 0 4095 v
    else if ix = Ob.HK_ADAC_SLEW_STEP then inRange 1 4095 v
    else if ix = Ob.HK_PWM_PERIOD then inRange 10 10000000 v
    else if ix = Ob.HK_SELF_CAL ∨ ix = Ob.HK_FIR_SWAP ∨ ix = Ob.HK_LOAD then v == 0
    else true
  | 0x11 =>
    if ix = Ob.ENG_RESTART then v == 0
    else if ix = Ob.ENG_PMU_OVF_EN ∨ ix = Ob.ENG_PMU_OVF_STATUS then inRange 0 63 v
    else if ix = Ob.ENG_PMU_FREEZE then inRange 0 255 v
    else if ix = Ob.ENG_PMU_CLEAR then inRange 0 127 v || v == 255
    else true
  | 0x12 =>
    if ix = Ob.THERMAL_WARN_C then inRange 60 105 v && decide (v + 5 ≤ s.reg Ob.THERMAL_THROTTLE_C 0)
    else if ix = Ob.THERMAL_THROTTLE_C then inRange 70 115 v && decide (s.reg Ob.THERMAL_WARN_C 0 + 5 ≤ v)
    else if ix = Ob.THERMAL_THROTTLE_MIN then inRange 0 4 v
    else if ix = Ob.THERMAL_CLEAR_PEAK ∨ ix = Ob.COMPASS_PLAN_NOW then v == 0
    else true
  | 0x13 =>
    if ix = Ob.POWER_REST_STATE then inRange 0 1 v
    else if ix = Ob.POWER_WAKE_POLARITY ∨ ix = Ob.POWER_WAKE_MAP then inRange 0 15 v
    else if ix = Ob.POWER_CHIP_RESET then v == 0
    else if ix = Ob.PAD_SLEW_MGT ∨ ix = Ob.PAD_SLEW_FLASH then inRange 0 3 v
    else true
  | 0x14 =>
    if ix = Ob.FAULT_SEVERITY then inRange 0 4 v
    else if ix = Ob.FAULT_REACTION then inRange 0 31 v
    else if ix = Ob.FAULT_LOG_CLEAR then v == 0
    else true
  | 0x15 => if ix = Ob.MEM_REPEAT_THRESH then inRange 2 255 v else true
  | 0x16 =>
    if ix = Ob.LC_RETIRE ∨ ix = Ob.FUSE_PROGRAM then v == 0
    else if ix = Ob.FUSE_PROG_WORD then inRange 16 22 v || inRange 64 127 v
    else if ix = Ob.SELFTEST_BIST_RUN then inRange 0 255 v
    else if ix = Ob.SELFTEST_ANALOG_RUN then inRange 0 (2 ^ 26 - 1) v
    else true
  | 0x17 =>
    if ix = Ob.UPDATE_ACTIVATE then inRange 0 1 v
    else if ix = Ob.UPDATE_OPEN then inRange 8192 16777216 v
    else if ix = Ob.UPDATE_PROBATION_S then inRange 60 86400 v
    else if ix = Ob.UPDATE_VERIFY ∨ ix = Ob.UPDATE_CLOSE ∨ ix = Ob.UPDATE_ABORT ∨ ix = Ob.UPDATE_CONFIRM then v == 0
    else true
  | 0x18 =>
    if ix = Ob.FABRIC_AVS_THRESH then
      inRange 1050 1400 v && decide (s.reg Ob.FABRIC_SHED_THRESH 0 ≤ v - 20)
    else if ix = Ob.FABRIC_SHED_THRESH then
      decide (1010 ≤ v) && decide (v ≤ s.reg Ob.FABRIC_AVS_THRESH 0 - 20)
    else if ix = Ob.FABRIC_RELEASE_HYST then inRange 10 200 v
    else if ix = Ob.FABRIC_CLEAR_MIN then v == 0
    else true
  | _ => true

/-! ## The checks of R349 -/

/-- The requester classes of R13. -/
inductive Cls where
  | H | F | P
  deriving DecidableEq, Repr

/-- The class of a request on a path (R341). -/
def State.cls (s : State) (p : Path) : Cls :=
  match p with
  | .inband _ => .F
  | _ => if (s.tp p).session.isSome then .P else .H

/-- The rights of a class on an object. -/
def ObjRow.acc (r : ObjRow) : Cls → Nat
  | .H => r.accH | .F => r.accF | .P => r.accP

/-- The right an opcode needs (R13). -/
def opRight : Opcode → Nat
  | .read | .readBlock => 0
  | .write | .writeBlock => 1
  | .exec => 2
  | .walk => 0

/-- The life-cycle states in which VENDOR_DIAG is open (R493). -/
def vendorOpen (lc : Int) : Bool := lc == 0 || lc == 1 || lc == 4

/-- The schema an object first appeared in (R551). -/
def sinceOf (ix : Nat) : Nat :=
  if ix = Ob.LINE_SNR_DB then 0x0101 else if ix = Ob.RETRY_WINDOW_US then 0x0102 else 0x0100

/-- The schema view of a request (R361). -/
def viewOf (r : Req) : Nat :=
  match r.schema with
  | some t => if t = 0 then 0x0102 else t
  | none => 0x0102

/-- The row of an object in a requester's view: listed, not newer than the view, and not left off by R360. -/
def State.rowFor (s : State) (c : Cls) (view ix : Nat) : Option ObjRow :=
  match objRow? ix with
  | some r =>
    if view < sinceOf ix then none
    else if ix = 0x0017 ∧ s.partEA = false then none
    else if ix = Ob.CAP_ENTRY_VENDOR ∧ !(c == .P && vendorOpen (s.reg Ob.LC_STATE 0)) then none
    else some r
  | none => none

/-- The life-cycle states in which a command is accepted, as a mask (R479, R482, R489, R491, R493). -/
def lifeCycleMask (ix : Nat) : Nat :=
  if ix = Ob.FUSE_PROGRAM then 0b000010
  else if ix = Ob.SELFTEST_ANALOG_RUN then 0b011110
  else if ix = Ob.SELFTEST_BIST_RUN then 0b010010
  else if ix = Ob.LC_ADVANCE then 0b000111
  else if ix = Ob.LC_RETURN then 0b001000
  else if ix = Ob.LC_RETIRE then 0b011110
  else 0b111111

/-- Whether a request is answered in the present life-cycle state (R349, R493): WALK always is. -/
def lifeCycleServes (lc : Int) (op : Opcode) (ix : Nat) : Bool :=
  if op = .walk then true
  else if op = .exec ∧ !bitOf (lifeCycleMask ix) lc.toNat then false
  else if lc = 5 then (0x0100 ≤ ix && ix ≤ 0x0105) && (op == .read || op == .readBlock)
  else if lc = 0 then
    (0x0100 ≤ ix && ix ≤ 0x0105) || (0x1600 ≤ ix && ix ≤ 0x1609) || (0x004A ≤ ix && ix ≤ 0x004F)
  else true

/-- The objects that the safe state and SAFE_HOLD still answer (R352). -/
def safeServes (ix : Nat) : Bool :=
  ix == Ob.DICT_STATE || ix == Ob.TIME_NOW || (0x0100 ≤ ix && ix ≤ 0x01FF) || (0x1200 ≤ ix && ix ≤ 0x1214) ||
  (0x1400 ≤ ix && ix ≤ 0x14FF) || (0x1600 ≤ ix && ix ≤ 0x16FF)

/-- The availability check (R352): 0, NOT_READY or SAFE_STATE. -/
def State.availability (s : State) (op : Opcode) (ix : Nat) : Nat :=
  match s.reg Ob.DICT_STATE 0 with
  | 0 => if op = .read ∧ (ix = Ob.DICT_STATE ∨ (0x0100 ≤ ix ∧ ix ≤ 0x01FF)) then 0 else St.NOT_READY
  | 1 => 0
  | _ => if (op = .read ∨ op = .readBlock) ∧ safeServes ix then 0 else St.SAFE_STATE

/-- The length check of R349 (R345, R346). -/
def lengthCheck (row : ObjRow) (op : Opcode) (pl : List Byte) : Nat :=
  match op with
  | .read => if pl ≠ [] then St.TYPE_LENGTH else if row.ty.isBytes ∧ 4096 < row.len then St.TOO_LONG else 0
  | .readBlock => if row.ty.isBytes ∧ pl.length = 6 then 0 else St.TYPE_LENGTH
  | .write | .exec => if pl.length = row.len then 0 else St.TYPE_LENGTH
  | .writeBlock => if row.ty.isBytes ∧ 5 ≤ pl.length ∧ pl.length ≤ 4104 then 0 else St.TYPE_LENGTH
  | .walk => if pl = [] then 0 else St.TYPE_LENGTH

/-- The range check of R349 for a WRITE or EXEC of a numeric object. -/
def State.rangeCheck (s : State) (row : ObjRow) (op : Opcode) (ix sub : Nat) (pl : List Byte) : Nat :=
  match op with
  | .write | .exec =>
    if row.ty.isBytes then (if pl.length = row.len then 0 else St.RANGE)
    else
      let v := decodeVal row.ty pl
      if row.ty = .bool ∧ ¬(v = 0 ∨ v = 1) then St.RANGE
      -- a window above 70 µs needs the deep store in use (R217)
      else if ix = Ob.RETRY_WINDOW_US ∧ 70 < v ∧ !s.dsInUse then St.RANGE
      else if rangeOk s ix sub v then 0 else St.RANGE
  | .readBlock =>
    let cnt := leNat ((pl.drop 4).take 2)
    if 1 ≤ cnt ∧ cnt ≤ 4096 then 0 else St.RANGE
  | _ => 0

/-- Byte strings whose own rule answers a wrong length with RANGE: the waveform tables and the preset table (R248, R272). -/
def rangedLength (ix : Nat) : Bool := (decide (Ob.TX_WAVE_COLD ≤ ix) && decide (ix ≤ Ob.TX_WAVE_HOT)) || ix == Ob.HOST_PRESET_TABLE

/-- The checks of R349 from availability to range, and the refusal of R26; 0 when all pass. -/
def State.gate (s : State) (r : Req) (op : Opcode) (ix sub : Nat) (pl : List Byte) : Nat :=
  let c := s.cls r.path
  let inb : Option (Fin 8) := match r.path with | .inband p => some p | _ => none
  if (match inb with | some p => s.reg Ob.MMP_FAR_SERVE (p.val + 1) == 0 | none => false) then St.ACCESS_REFUSED
  else
    let av := s.availability op ix
    if av ≠ 0 then av
    else if !lifeCycleServes (s.reg Ob.LC_STATE 0) op ix then St.LIFE_CYCLE
    else if (match r.schema with | some t => t != 0 && (decide (t < 0x0100) || decide (0x0102 < t)) | none => false) then St.SCHEMA_UNKNOWN
    else if op = .walk then (if pl = [] then 0 else St.TYPE_LENGTH)
    else match s.rowFor c (viewOf r) ix with
      | none => St.NO_OBJECT
      | some row =>
        if row.hi < sub then St.NO_OBJECT
        -- the far end reaches the objects of chapter 20 only under their grant (R501)
        else if c = .F ∧ ix / 256 = 0x17 ∧ s.reg Ob.UPDATE_FAR_GRANT 0 = 0 then St.ACCESS_REFUSED
        -- the local host reads the engines' counters only under the grant (R406)
        else if c = .H ∧ 0x1108 ≤ ix ∧ ix ≤ 0x110F ∧ opRight op = 0 ∧ s.reg Ob.ENG_PMU_GRANT 0 = 0 then St.ACCESS_REFUSED
        else if sub = 0 ∧ row.hi ≠ 0 then
          if opRight op = 0 ∧ bitOf (row.acc c) 0 then (if op = .read ∧ pl = [] then 0 else St.TYPE_LENGTH) else St.ACCESS_REFUSED
        else if !bitOf (row.acc c) (opRight op) then St.ACCESS_REFUSED
        else
          let le := if op = .write ∧ rangedLength ix then 0 else lengthCheck row op pl
          if le ≠ 0 then le
          else
            let ra := s.rangeCheck row op ix sub pl
            if ra ≠ 0 then ra
            else if opChanges op ∧ (s.absorbedBy ix sub).isSome then St.CONFIG_CONFLICT
            else 0

end Sys2Proof.Machine
end

