-- ==== Sys2Proof/Machine/Power.lean ====
section
/-! DEFINITION. Votes and the states of the 36 power domains (R431 to R441). -/

namespace Sys2Proof.Machine

/-- The vote clients of R434. -/
abbrev Vote.HOST : Nat := 0
abbrev Vote.FAR : Nat := 1
abbrev Vote.ENG : Nat := 2
abbrev Vote.PORTSM : Nat := 3
abbrev Vote.THERMOS : Nat := 4
abbrev Vote.COMPASS : Nat := 5
abbrev Vote.TEST : Nat := 6
abbrev Vote.UPDATE : Nat := 7

/-- Change a domain's internal record. -/
def State.modDom (s : State) (d : Fin 36) (f : Domain → Domain) : State := { s with doms := s.doms.set d (f s.doms[d]) }

/-- Bring a domain's residency counter up to date: the time since the last accounting, in µs (R441). -/
def State.account (s : State) (d : Fin 36) : State :=
  let q := (s.time.now - s.doms[d].since) * 4 + s.doms[d].quart
  let ix := match s.pwr d with | 0 => Ob.POWER_RES_OFF_US | 1 => Ob.POWER_RES_RET_US | _ => Ob.POWER_RES_ON_US
  (s.bumpTo (2 ^ 48 - 1) ix (d.val + 1) (q / 625)).modDom d (fun m => { m with since := s.time.now, quart := q % 625 })

/-- Bring every residency counter up to date. -/
def State.accountAll (s : State) : State := forEach (fins 36) (fun d s => s.account d) s

/-- A domain reaches a new state, with its stamp (R59, R453). -/
def State.setPwr (s : State) (d : Fin 36) (v : Int) : State :=
  ((s.account d).setReg Ob.POWER_STATE (d.val + 1) v).setStamp Ob.POWER_STATE_TIME (d.val + 1)

/-- The votes of a domain as a mask (R434). -/
def State.votes (s : State) (d : Fin 36) : Nat := s.nat Ob.POWER_VOTES (d.val + 1)

/-- Record a vote in POWER.VOTES, and in POWER.VOTE_HOST or POWER.VOTE_FAR for those clients. -/
def State.noteVote (s : State) (d : Fin 36) (c : Nat) (on : Bool) : State :=
  let s1 := s.setReg Ob.POWER_VOTES (d.val + 1) (withBit (s.votes d) c on : Nat)
  if c = Vote.HOST then s1.setReg Ob.POWER_VOTE_HOST (d.val + 1) (boolInt on)
  else if c = Vote.FAR then s1.setReg Ob.POWER_VOTE_FAR (d.val + 1) (boolInt on) else s1

/-- Answer the withdrawals that wait on a domain's entry (R435, R437). -/
def State.answerVotes (s : State) (d : Fin 36) (st : Nat) : State :=
  (s.finish Ob.POWER_VOTE_HOST (d.val + 1) st).finish Ob.POWER_VOTE_FAR (d.val + 1) st

/-- Start a wake from the present rest state (R438). -/
def State.startWake (s : State) (d : Fin 36) : State :=
  let ret := s.pwr d == 1
  (s.modDom d (fun m => { m with fromRet := ret, toOff := false })).setPwr d 4

/-- Whether a domain stays at rest whatever votes stand: not released in time (R440), or DS of an SA part (R4). -/
def State.domBarred (s : State) (d : Fin 36) : Bool := s.doms[d].barred || (d == Dom.DS && !s.partEA)

/-- Cast a vote (R432, R437): a rest state is left for WAKING, an entry is abandoned. The isolate phase is one with the
entry's end, so a vote during it is a vote on the rest state. DEDUCED (log entry 214): a vote on DS is recorded on a part without a deep
store too. -/
def State.castVote (s : State) (d : Fin 36) (c : Nat) : State :=
  let s1 := s.noteVote d c true
  match s.pwr d with
  | 0 => if s.domBarred d then s1 else s1.startWake d
  | 1 => if s.domBarred d then s1 else s1.startWake d
  | 3 =>
    (((s1.modDom d (fun m => { m with toOff := false })).setPwr d 2).bump
      Ob.POWER_ENTRY_ABORTS (d.val + 1) 1).answerVotes d St.ABORTED_BY_WAKE
  | _ => s1

/-- Begin an entry to the rest state that POWER.REST_STATE names, or to OFF (R432, R446). -/
def State.startEntry (s : State) (d : Fin 36) (off : Bool) : State :=
  (s.modDom d (fun m => { m with
    toOff := off || (s.reg Ob.POWER_REST_STATE (d.val + 1) == 0) })).setPwr d 3

/-- Withdraw a vote; the last one begins the entry, and ends the bar of R440. AON never leaves ON (R431). -/
def State.withdraw (s : State) (d : Fin 36) (c : Nat) (off : Bool := false) : State :=
  let s1 := s.noteVote d c false
  if s1.votes d = 0 ∧ d ≠ Dom.AON then
    let s2 := s1.modDom d (fun m => { m with barred := false })
    if s2.pwr d = 2 then s2.startEntry d off else s2
  else s1

/-- Whether a HOST or FAR withdrawal would leave a domain without a vote. -/
def State.lastVote (s : State) (d : Fin 36) (c : Nat) : Bool := withBit (s.votes d) c false == 0

end Sys2Proof.Machine
end

