-- ==== Sys2Proof/Machine/Serve.lean ====
section
/-! DEFINITION. Serving a request: what its object's rules make of it, the checks around them, and its reply (R349 to R351). -/

namespace Sys2Proof.Machine

/-! ## Serving a request -/

/-- What an object's own rules make of a request: a status that changes nothing, a status beside the effect of a failed
attempt (R346, R358, R479, R492), a new state with the reply's payload, the same with the object that a WALK describes (R347),
or a new state whose reply comes later (R349, R350). -/
inductive Verdict where
  | deny (st : Nat)
  | fail (s : State) (st : Nat)
  | done (s : State) (out : List Byte)
  | names (s : State) (ix : Nat) (out : List Byte)
  | later (s : State)

/-- Count a frame that passed its CRC check, unless it was counted when a transport took it from its FIFO (R366), and the counter
as latched in the cycle of that check (R51). -/
def State.arrive (s : State) (p : Path) (frame : List Byte) : State :=
  match (s.tp p).accepted.find? (fun f => f.bytes == frame) with
  | some f => s.modTp p (fun t => { t with accepted := t.accepted.eraseP (fun g => g.bytes == frame), latched := f.time })
  | none => (s.bump Ob.MMP_RX_FRAMES p.sub 1).modTp p (fun t => { t with latched := s.stamp })

/-- The requests of a path still outstanding (R350). -/
def State.outstanding (s : State) (p : Path) : Nat :=
  (s.mmp.pend.filter (fun q => q.req.path == p && q.op == .exec)).length + (s.tp p).wait.length + (s.tp p).accepted.length +
    ((s.mmp.fwd.toList.map (fun fs => (fs.filter (fun f => f.host.path == p)).length))).sum

/-- Whether a TAG belongs to a request of a path that is still outstanding (R349). -/
def State.tagBusy (s : State) (p : Path) (tag : Byte) : Bool :=
  s.mmp.pend.any (fun q => q.req.path == p && q.req.tag == tag) || (s.tp p).wait.any (fun w => w.1 == tag) ||
  s.mmp.fwd.toList.any (fun fs => fs.any (fun f => f.host.path == p && f.host.tag == tag))

/-- Note a state-changing request as the last on its TAG, its reply to come (R350). -/
def noteReq (t : Transport) (tag : Byte) (crc : Nat) : Transport :=
  { t with last := ⟨tag, crc, none, none⟩ :: t.last.filter (fun l => l.tag != tag) }

/-- A transaction while MGT is not ON casts the HOST vote on it, its bytes discarded (R435); before step 3 of start-up, with MGT
OFF, it has no effect. -/
def State.mgtCall (s : State) : State := if s.pwr Dom.MGT = 0 then s else s.castVote Dom.MGT Vote.HOST

/-- A request with SCH set whose SYNC byte came in band in a frame of LPL below 3 (R357). -/
def badOpcode (r : Req) : Bool := !r.path.isLocal && r.schema.isSome && decide (r.lpl < 3)

/-- Subindex 0 of an object that spans subindices reads the highest one (R339). -/
def topSub (ix sub : Nat) : Option Nat :=
  match objRow? ix with
  | some row => if sub = 0 ∧ row.hi ≠ 0 then some row.hi else none
  | none => none

/-- Note a request whose reply comes later (R350). -/
def State.pendAdd (s : State) (q : PendingReply) : State := { s with mmp := { s.mmp with pend := s.mmp.pend ++ [q] } }

/-- A request whose reply comes later (R350); one other than an EXEC keeps its place among the replies, and a write has committed
now. -/
def State.defer (s : State) (r : Req) (op : Opcode) (ix sub : Nat) : State :=
  (if op = .exec then s
   else s.modTp r.path (fun t => stampWrite { t with wait := t.wait ++ [(r.tag, none)] } r.tag s.stampNow)).pendAdd ⟨r, op, ix, sub⟩

/-- Serve a request whose frame has arrived whole (R349 to R351): the duplicate rule, the TAG and the limit of eight,
the checks in their order, then the object's own rules. -/
def State.serve (s : State) (r : Req) (op : Opcode) (ix sub : Nat) (pl : List Byte) (own : State → Verdict) : State :=
  let body := frameBody r op ix sub pl
  let frame := closeFrame body
  -- a request past its CRC check as an entry of MGT begins still completes (R435)
  let taken := s.pwr Dom.MGT == 3 && (s.tp r.path).accepted.any (fun f => f.bytes == frame)
  if !s.on Dom.MGT && !taken then (if r.path.isLocal then s.mgtCall else s)
  else if badOpcode r then
    (s.arrive r.path frame).pushBehind r.path (op == .exec) r.tag (replyFrame (opByte r op) r.tag ix sub St.BAD_OPCODE [])
  else
    let s := s.arrive r.path frame
    let crc := crc16 body
    let dup := if opChanges op then (s.tp r.path).last.find? (fun l => l.tag == r.tag && l.crc == crc) else none
    match dup with
    | some l => (match l.reply with | some f => s.pushBehind r.path (op == .exec) r.tag f | none => s)
    | none =>
      if s.tagBusy r.path r.tag then
        s.pushBehind r.path (op == .exec) r.tag (replyFrame (opByte r op) r.tag ix sub St.TAG_IN_USE [])
      else
        let s := if opChanges op then s.modTp r.path (fun t => noteReq t r.tag crc) else s
        if 8 ≤ s.outstanding r.path then s.reply r op ix sub St.BUSY []
        else
          let g := s.gate r op ix sub pl
          if g ≠ 0 then s.reply r op ix sub g []
          else match (if op = .read then topSub ix sub else none) with
          | some hi => s.reply r op ix sub St.OK (leBytes 1 hi)
          | none =>
            match own s with
            | .deny st => s.reply r op ix sub st []
            | .fail s' st => s'.reply r op ix sub st []
            | .done s' out => s'.reply r op ix sub St.OK out
            | .names s' ix' out => s'.replyAt r op ix' 0 St.OK out
            | .later s' => s'.defer r op ix sub

/-- Store a numeric value as its own rule's whole effect. -/
def storeVal (ix sub : Nat) (v : Int) (s : State) : Verdict := .done (s.setReg ix sub v) []

end Sys2Proof.Machine
end

