-- ==== Sys2Proof/Machine/Votes.lean ====
section
/-! DEFINITION. The commands that vote (R435, R436). -/

namespace Sys2Proof.Machine

/-- Whether any port is not OFF. -/
def State.anyPortUp (s : State) : Bool := (fins 8).any (fun p => s.exists p && s.pstate p != PS.OFF)

/-- What keeps MGT from losing its last vote (R435). -/
def State.mgtHeld (s : State) : Bool :=
  s.anyPortUp || (s.tp .spi).session.isSome || (s.tp .i2c).session.isSome || (s.tp .mdio).session.isSome ||
  s.reg Ob.TEST_CAP_STATE 0 == 1 || s.reg Ob.TEST_CAP_STATE 0 == 2

/-- What keeps HK's HOST vote (R368). -/
def State.hkHeld (s : State) : Bool :=
  (fins 8).any (fun l =>
    (match s.portOf l with | some p => s.pstate p != PS.OFF | none => false) &&
    (s.reg Ob.OPTICS_BIAS_MAP (l.val + 1) != 0 || s.flag Ob.OPTICS_APC_ENABLE (l.val + 1)))

/-- WAKE_PIN_EDGE: an edge on WAKE[p] that passed its filter and goes to the level `high`. An assertion edge casts the
HOST vote on every mapped domain; before step 7 of start-up it is ignored (R436). -/
def execWakePinEdge (p : Fin 4) (high : Bool) (s : State) : Out :=
  let asserted := high != bitOf (s.nat Ob.POWER_WAKE_POLARITY 0) p.val
  if asserted ∧ 7 ≤ s.reg Ob.POWER_START_STEP 0 ∧ s.reg Ob.DICT_STATE 0 ≤ 1 then
    .next (forEach (fins 36) (fun d s =>
      if d ≠ Dom.AON ∧ bitOf (s.nat Ob.POWER_WAKE_MAP (d.val + 1)) p.val then
        (s.modDom d (fun m => { m with wakeAt := some s.time.now })).castVote d Vote.HOST
      else s) s)
  else .next s

end Sys2Proof.Machine
end

