-- ==== Sys2Proof/Machine/Modes.lean ====
section
/-! DEFINITION. What a port's mode, its shed level and the throttle step make of its receive figures (R41, R42, R75,
R76, R418), the tuning engines' tasks (R393 to R395), and the fuse shadow. -/

namespace Sys2Proof.Machine

/-! ## Modes and measures -/

/-- PORT.MODE of a port (R29): 0 REACH, 1 BALANCED, 2 SWIFT, 3 LEAN. -/
def State.modeOf (s : State) (p : Fin 8) : Nat := s.nat Ob.PORT_MODE (p.val + 1)

/-- The shed level of a port (R75) and the throttle step (R417). -/
def State.shed (s : State) (p : Fin 8) : Nat := s.nat Ob.FABRIC_SHED_LEVEL (p.val + 1)
def State.throttle (s : State) : Nat := s.nat Ob.THERMAL_THROTTLE_STEP 0

/-- LMS adaptation runs every 16,384 symbols (R75 level 1, R418 step 1). -/
def State.slowAdapt (s : State) (p : Fin 8) : Bool := decide (1 ≤ s.shed p) || decide (1 ≤ s.throttle)

/-- The sequence detector is off (R75 level 4, R418 step 3). -/
def State.seqOff (s : State) (p : Fin 8) : Bool := decide (4 ≤ s.shed p) || decide (3 ≤ s.throttle)

/-- Adaptation is halted (R75 level 5, R418 step 4). -/
def State.adaptHalted (s : State) (p : Fin 8) : Bool := decide (5 ≤ s.shed p) || decide (4 ≤ s.throttle)

/-- The iteration cap of a mode (R41). -/
def modeCap (m : Nat) : Nat := match m with | 0 => 16 | 1 => 10 | 2 => 4 | _ => 6

/-- The release deadline of a mode in ns (R41). -/
def modeDeadline (m : Nat) : Nat := match m with | 0 => 4000 | 1 => 1000 | 2 => 350 | _ => 1000

/-- A cap under the measures of a shed level (R75): × 3/4 from level 2, × 1/2 from level 3, floor 4. -/
def capUnder (two three : Bool) (c : Nat) : Nat :=
  if three then max 4 (c / 2) else if two then max 4 (c * 3 / 4) else c

/-- The effective iteration cap of a port (R42, R76): the lowest of the mode, shed and throttle caps. -/
def State.effCap (s : State) (p : Fin 8) : Nat :=
  let c := modeCap (s.modeOf p)
  min c (min (capUnder (decide (2 ≤ s.shed p)) (decide (3 ≤ s.shed p)) c)
    (capUnder (decide (2 ≤ s.throttle)) (decide (3 ≤ s.throttle)) c))

/-- The equaliser structure that a port's mode and measures select (R126): 0 R41, 1 B25, 2 S15D, 3 S15, 4 R41D. -/
def State.structureFor (s : State) (p : Fin 8) : Nat :=
  match s.modeOf p with
  | 0 => if s.seqOff p then 4 else 0
  | 1 => 1
  | 2 => 2
  | _ => 3

/-- The structure a line lane wants; 1 for a lane of no port (R146). -/
def State.laneStructure (s : State) (l : Fin 8) : Nat :=
  match s.portOf l with
  | some p => s.structureFor p
  | none => 1

/-- The mode of a lane: that of its port; BALANCED for a lane of no port, as its structure (R146). -/
def State.laneMode (s : State) (l : Fin 8) : Nat :=
  match s.portOf l with | some p => s.modeOf p | none => 1

/-- The active rate set of a lane: that of its port; 0 for a lane of no port. -/
def State.laneRate (s : State) (l : Fin 8) : Nat :=
  match s.portOf l with | some p => s.rateActive p | none => 0

/-- Whether a port runs a native rate set. -/
def State.native (s : State) (p : Fin 8) : Bool := s.rateActive p == Rate.N1 || s.rateActive p == Rate.N2

/-- The sequence a port's TEST runs: 0 outside TEST. -/
def State.testKind (s : State) (p : Fin 8) : Nat := if s.pstate p = PS.TEST then s.test[p].kind else 0

/-- Whether the link block runs as in CARRYING (R298, R326). -/
def State.carries (s : State) (p : Fin 8) : Bool := s.native p && (s.pstate p == PS.CARRYING || s.testKind p == 5)

/-! ## Engines -/

/-- Change an engine. -/
def State.modEng (s : State) (e : Fin 128) (f : Engine → Engine) : State := { s with eng := s.eng.set e (f s.eng[e]) }

/-- ENG.STATE (R408). -/
def State.engState (s : State) (e : Fin 128) : Int := s.reg Ob.ENG_STATE (e.val + 1)

/-- Whether an engine works: IDLE or RUNNING. -/
def State.engWorks (s : State) (e : Fin 128) : Bool := s.engState e == 1 || s.engState e == 2

/-- Engine `k` of domain ENGn (R393). -/
def engineOf (n : Fin 8) (k : Fin 16) : Fin 128 := ⟨16 * n.val + k.val, by omega⟩

/-- The line engines of a lane, the host engines of a host lane, the link engines of a port (R393). -/
def lineEngines (l : Fin 8) : List (Fin 128) := (fins 8).map (fun k => engineOf l ⟨k.val, by omega⟩)
def hostEngines (h : Fin 16) : List (Fin 128) :=
  (fins 2).map (fun k => engineOf ⟨h.val / 2, by omega⟩ ⟨8 + 2 * (h.val % 2) + k.val, by omega⟩)
def linkEngines (p : Fin 8) : List (Fin 128) := (fins 2).map (fun k => engineOf p ⟨12 + k.val, by omega⟩)

/-- Whether some engine of a group works. -/
def State.anyWorks (s : State) (es : List (Fin 128)) : Bool := es.any s.engWorks

/-- Whether the work of a port's link engines, or of a host lane's, goes on: not both have halted (R400). -/
def State.linkWork (s : State) (p : Fin 8) : Bool := !(linkEngines p).all (fun e => s.engState e == 3)
def State.hostWork (s : State) (h : Fin 16) : Bool := !(hostEngines h).all (fun e => s.engState e == 3)

/-- The task an engine runs: the earliest deadline, ties to the lower task number (R395). -/
def runningJob : List EngJob → Option EngJob
  | [] => none
  | j :: js =>
    match runningJob js with
    | none => some j
    | some k => if j.deadline < k.deadline ∨ (j.deadline = k.deadline ∧ j.task ≤ k.task) then some j else some k

/-- Trigger a task on an engine that works, with its deadline some cycles away (R394); a domain on its way out of ON takes none (R410). -/
def State.trigger (s : State) (e : Fin 128) (task within : Nat) : State :=
  if s.engWorks e && s.on (Dom.eng ⟨e.val / 16, by omega⟩) then
    (s.modEng e (fun x => { x with
      jobs := ⟨task, s.time.now + within⟩ :: x.jobs.filter (fun j => j.task != task) })).setReg Ob.ENG_STATE (e.val + 1) 2
  else s

/-- Note what the results of a task replaced, with the first engine of a group that works on it. -/
def State.noteUndo (s : State) (es : List (Fin 128)) (task : Nat) (undo : List Undo) : State :=
  match es.find? (fun e => s.eng[e].jobs.any (fun j => j.task == task)) with
  | some e => s.modEng e (fun x => { x with undo := undo.map (fun u => (task, u)) ++ x.undo.filter (fun u => u.1 != task) })
  | none => s

/-- Trigger a task on the first engine of a group that works. Its results stand at once; a miss puts back what they replaced (R394,
log entry 103). -/
def State.triggerFirst (s : State) (es : List (Fin 128)) (task within : Nat) (undo : List Undo) : State :=
  match es.find? s.engWorks with
  | some e => (s.trigger e task within).noteUndo [e] task undo
  | none => s

/-- A task of an engine has ended (R394). -/
def State.jobDone (s : State) (e : Fin 128) (task : Nat) : State :=
  let jobs := s.eng[e].jobs.filter (fun j => j.task != task)
  let s1 := s.modEng e (fun x => { x with jobs := jobs, undo := x.undo.filter (fun u => u.1 != task) })
  if s1.engState e = 2 ∧ jobs = [] then s1.setReg Ob.ENG_STATE (e.val + 1) 1 else s1

/-! ## The fuse shadow -/

/-- A word of the fuse shadow (R477). -/
def State.fuseWord (s : State) (w : Nat) : Nat := s.fuse.shadow.get (fun _ => 0) w

/-- Bits of a number: `n` of them from bit `lo` up. -/
def fieldOf (v lo n : Nat) : Nat := v / 2 ^ lo % 2 ^ n

end Sys2Proof.Machine
end

