-- ==== Sys2Proof/Machine/Adc.lean ====
section
/-! DEFINITION. The line receive converters and their sampling synthesisers (chapter 4). The commands whose effect
reaches the timing loop are in `Rx`. -/

namespace Sys2Proof.Machine

/-- Change a converter. -/
def State.modAdcLane (s : State) (l : Fin 8) (f : AdcLane → AdcLane) : State := { s with adc := s.adc.set l (f s.adc[l]) }

/-- Change a half's sampling synthesiser. -/
def State.modSynth (s : State) (h : Fin 2) (f : RxSynth → RxSynth) : State :=
  { s with rxsynth := s.rxsynth.set h (f s.rxsynth[h]) }

/-- The domain that holds a half's sampling synthesiser: LRX0 or LRX4 (R88). -/
def Dom.synth (h : Fin 2) : Fin 36 := Dom.lrx ⟨4 * h.val, by omega⟩

/-- The line lanes of a half. -/
def lanesOfHalf (h : Fin 2) : List (Fin 8) := (fins 8).filter (fun l => halfOf l == h)

/-- Whether a lane's converter is clocked: its half's synthesiser is locked (R89). -/
def State.clocked (s : State) (l : Fin 8) : Bool := s.rxsynth[halfOf l].locked

/-- The largest magnitude of a set of words. -/
def spread (v : Lanes Int 128) : Nat := v.toList.foldl (fun m x => max m x.natAbs) 0

/-- The spreads, the failed count and, where the converter runs, RUNNING or DEGRADED, from the lane's state (R102,
R112, R113). -/
def State.adcRefresh (s : State) (l : Fin 8) : State :=
  let n := l.val + 1
  let a := s.adc[l]
  let s1 := ((s.setReg Ob.LINE_ADC_OFFSET_SPREAD n (spread a.fine : Nat)).setReg Ob.LINE_ADC_GAIN_SPREAD n
    (spread a.gain : Nat)).setReg Ob.LINE_ADC_FAILED_SUBADC n (a.failed.length : Nat)
  if 2 ≤ s.reg Ob.LINE_ADC_STATE n then
    s1.setReg Ob.LINE_ADC_STATE n (if a.failed ≠ [] ∨ a.clampFine ∨ a.clampGain ∨ a.clampSkew then 3 else 2)
  else s1

/-- The noise floor becomes invalid (R110, R111). -/
def State.floorInvalid (s : State) (l : Fin 8) : State :=
  ((s.modAdcLane l (fun a => { a with dark := [] })).setReg Ob.LINE_NOISE_FLOOR_LSB (l.val + 1) 0xFFFF).setReg
    Ob.LINE_NOISE_FLOOR_UA (l.val + 1) 0xFFFF

/-! ## The recalibration timer -/

/-- The temperature band (R421): 1 to 4 in subindex order. -/
def State.bandSub (s : State) : Nat := s.nat Ob.THERMAL_BAND 0 + 1

/-- The recalibration interval of the present band, in REFCLK cycles (R101). -/
def State.recalCycles (s : State) : Nat := s.nat Ob.LINE_ADC_RECAL_S s.bandSub * refclkHz

/-- Restart a lane's timer; it stands while background commits are disabled (R100, R104). -/
def State.recalRestart (s : State) (l : Fin 8) : State :=
  let on := s.flag Ob.LINE_ADC_BG_ENABLE (l.val + 1)
  s.modAdcLane l (fun a => { a with
    due := false, postwake := false
    recalAt := if on then some (s.time.now + s.recalCycles) else none
    recalLeft := s.recalCycles })

/-- A change of band cuts every running timer that is longer than the new band's value (R101). -/
def State.recalBand (s : State) : State :=
  forEach (fins 8) (fun l s => s.modAdcLane l (fun a => { a with
    recalAt := a.recalAt.map (fun t => min t (s.time.now + s.recalCycles)) })) s

/-- LINE.ADC_RECAL_DUE_S: whole seconds until the next commit falls due, rounded up; 0 while due (R116). -/
def State.recalDueS (s : State) (l : Fin 8) : Nat :=
  let a := s.adc[l]
  if a.due then 0
  else match a.recalAt with
    | some t => ceilDiv (t - s.time.now) refclkHz
    | none => ceilDiv a.recalLeft refclkHz

/-! ## Foreground calibration -/

/-- A foreground calibration starts, or waits for the synthesiser to lock (R95 to R97). It makes the noise floor
invalid (R110) and ends a capture of the lane (R332). -/
def State.fgStart (s : State) (l : Fin 8) (cold : Bool) : State :=
  let go := s.clocked l
  let s1 := s.modAdcLane l (fun a => { a with fgRun := go, fgWait := !go, fgCold := cold || a.fgCold })
  let s2 := (s1.setReg Ob.LINE_ADC_STATE (l.val + 1) 1).floorInvalid l
  if go then s2.capAbort l else s2

/-- Whether a foreground calibration of a lane runs, or waits for the synthesiser (R95, R97). -/
def State.calibrating (s : State) (l : Fin 8) : Bool := s.adc[l].fgRun || s.adc[l].fgWait

/-- A foreground calibration is cut short: ABORTED, its shadow set discarded, the reply OK (R95, R97). -/
def State.fgAbort (s : State) (l : Fin 8) : State :=
  let n := l.val + 1
  if s.adc[l].fgRun ∨ s.adc[l].fgWait then
    let s1 := s.modAdcLane l (fun a => { a with fgRun := false, fgWait := false })
    let s2 := (s1.setReg Ob.LINE_ADC_CAL_RESULT n 3).setReg Ob.LINE_ADC_CAL_KIND n 0
    ((s2.setReg Ob.LINE_ADC_STATE n 2).adcRefresh l).finish Ob.LINE_ADC_CAL_FG n St.OK
  else s

/-- LINE.ADC_CAL_FG (R95). -/
def ownAdcCalFg (sub : Nat) (s : State) : Verdict :=
  if h : 1 ≤ sub ∧ sub ≤ 8 then
    let l : Fin 8 := ⟨sub - 1, by omega⟩
    let free := match s.portOf l with
      | some p => s.pstate p == PS.OFF || s.pstate p == PS.STANDBY
      | none => true
    if !s.on (Dom.lrx l) || !free then .deny St.CONFIG_CONFLICT
    else if s.adc[l].fgRun || s.adc[l].fgWait then .deny St.BUSY
    else .later (s.fgStart l false)
  else .deny St.NO_OBJECT

/-- Whether a foreground calibration fails a sub-ADC (R98). -/
def fgFails (m : FgResult) (k : Fin 128) : Bool :=
  decide (31 ≤ m.coarse[k].natAbs) || decide (128 < m.fine[k].natAbs) || decide (128 < m.gain[k].natAbs)

/-- The end of a foreground calibration (R96 step 7, R98): the shadow set applied but for failing sub-ADCs, whose words
stay, the skew clamped, the marks renewed, the timer restarted, the reply OK. -/
def State.fgEnd (s : State) (l : Fin 8) (m : FgResult) : State :=
  let n := l.val + 1
  let bad := (fins 128).filter (fgFails m)
  let skewBad := decide (64 < m.skew.natAbs)
  let noiseBad := decide (1000 < m.noise)
  let fsBad := decide (m.fullScale < 540) || decide (660 < m.fullScale)
  let skew := clampInt (-64) 64 m.skew
  let pick (new old : Lanes Int 128) : Lanes Int 128 := Vector.ofFn (fun k => if fgFails m k then old[k] else new[k])
  let s1 := s.modAdcLane l (fun a => { a with
    coarse := pick m.coarse a.coarse, fine := pick m.fine a.fine, gain := pick m.gain a.gain
    fineT := pick m.fine a.fine, gainT := pick m.gain a.gain, skewT := skew
    failed := bad.map (·.val), clampFine := false, clampGain := false, clampSkew := skewBad
    fgRun := false, fgCold := false })
  let fail := decide (bad ≠ []) || skewBad || noiseBad || fsBad
  let s2 := (((((s1.setReg Ob.LINE_ADC_SKEW_TRIM n skew).setReg Ob.LINE_ADC_SELF_NOISE_LSB n (m.noise : Nat)).setReg
    Ob.LINE_ADC_CAL_RESULT n (if fail then 2 else 1)).setReg Ob.LINE_ADC_CAL_KIND n 0).bump Ob.LINE_ADC_CAL_COUNT n 1).setStamp
    Ob.LINE_ADC_CAL_TIME n
  let s3 := ((s2.setReg Ob.LINE_ADC_STATE n 2).adcRefresh l).recalRestart l
  let s4 := forEach bad (fun k s => s.raise Src.ADC_SUBADC_FAIL l.val (l.val + 256 * k.val) Ob.LINE_ADC_EVENTS n) s3
  let s5 := if fail then
      s4.raise Src.ADC_CAL_FAIL l.val (l.val + 256 * bad.length + 65536 * skewBad.toNat + 131072 * noiseBad.toNat +
        262144 * fsBad.toNat) Ob.LINE_ADC_EVENTS n
    else s4
  s5.finish Ob.LINE_ADC_CAL_FG n St.OK

/-! ## Background calibration -/

/-- A number's low bits as a detail word's signed field of 14 bits (R114 ADC_DRIFT). -/
def signed14 (d : Int) : Nat := (d % 16384).toNat

/-- One word of a background commit (R102, R112): `kind` 0 fine offset, 1 gain, 2 skew, with its range, its drift limit
and its place; its events in order. -/
def State.bgWord (s : State) (l : Fin 8) (kind k : Nat) (range drift : Nat) (est old : Int) : State :=
  let n := l.val + 1
  let item := l.val + 256 * k + 65536 * kind
  let s1 := if kind ≠ 2 ∧ 2 * range < est.natAbs ∧ !(s.adc[l].failed.contains k) then
      (s.modAdcLane l (fun a => { a with failed := k :: a.failed })).raise Src.ADC_SUBADC_FAIL l.val
        (l.val + 256 * k + 65536) Ob.LINE_ADC_EVENTS n
    else s
  let s2 := if range < est.natAbs then s1.raise Src.ADC_TRIM_LIMIT l.val item Ob.LINE_ADC_EVENTS n else s1
  let move := clampInt (-range) range est - old
  if drift < move.natAbs then s2.raise Src.ADC_DRIFT l.val (item + 262144 * signed14 move) Ob.LINE_ADC_EVENTS n else s2

/-- A due background commit at a tick (R100, R102 to R104); during a self-check of the lane it waits (R494). -/
def State.bgCommit (s : State) (l : Fin 8) (e : BgEstimate) : State :=
  let n := l.val + 1
  let a := s.adc[l]
  if !a.due || s.analog.running.contains l.val || !s.flag Ob.LINE_ADC_BG_ENABLE n || !s.clocked l || decide (s.reg Ob.LINE_ADC_STATE n < 2) then s
  else if a.bgN < 2 ^ 24 then s.setReg Ob.LINE_ADC_CAL_RESULT n 4
  else
    let full := decide (2 ^ 24 ≤ a.gsN)
    let clamp128 (v : Lanes Int 128) : Lanes Int 128 := v.map (clampInt (-128) 128)
    let beyond (v : Lanes Int 128) : Bool := v.toList.any (fun x => decide (128 < x.natAbs))
    let s1 := forEach (fins 128) (fun k s => s.bgWord l 0 k.val 128 16 e.fine[k] a.fineT[k]) s
    let s2 := if full then
        (forEach (fins 128) (fun k s => s.bgWord l 1 k.val 128 10 e.gain[k] a.gainT[k]) s1).bgWord l 2 0 64 15 e.skew a.skewT
      else s1
    let s3 := s2.modAdcLane l (fun b => { b with
      fineT := clamp128 e.fine, clampFine := beyond e.fine, bgN := 0, wins := 0, darkWins := 0
      gainT := if full then clamp128 e.gain else b.gainT
      skewT := if full then clampInt (-64) 64 e.skew else b.skewT
      clampGain := if full then beyond e.gain else b.clampGain
      clampSkew := if full then decide (64 < e.skew.natAbs) else b.clampSkew
      gsN := if full then 0 else b.gsN })
    let result := if full then 1 else if a.wins < 2 * a.darkWins then 5 else 6
    ((((((s3.setReg Ob.LINE_ADC_CAL_RESULT n result).setReg Ob.LINE_ADC_CAL_KIND n (if a.postwake then 2 else 1)).bump
      Ob.LINE_ADC_CAL_COUNT n 1).setStamp Ob.LINE_ADC_CAL_TIME n)).recalRestart l).adcRefresh l

/-- A write of LINE.ADC_BG_ENABLE (R104): 1 makes a commit due at once; at 0 the timer stands. -/
def ownBgEnable (sub : Nat) (v : Int) (s : State) : Verdict :=
  let s1 := s.setReg Ob.LINE_ADC_BG_ENABLE sub v
  if h : 1 ≤ sub ∧ sub ≤ 8 then
    .done (s1.modAdcLane ⟨sub - 1, by omega⟩ (fun a =>
      if v = 1 then { a with due := true, recalAt := none }
      else { a with
        recalAt := none
        recalLeft := match a.recalAt with | some t => t - s.time.now | none => a.recalLeft })) []
  else .deny St.NO_OBJECT

/-- Whether a lane's corrections are moving (R93). -/
def State.ramping (s : State) (l : Fin 8) : Bool :=
  s.adc[l].fine != s.adc[l].fineT || s.adc[l].gain != s.adc[l].gainT ||
  s.reg Ob.LINE_ADC_SKEW_TRIM (l.val + 1) != s.adc[l].skewT

/-- One unit from a word towards its target. -/
def unitTo (v t : Int) : Int := if v < t then v + 1 else if t < v then v - 1 else v

/-- One step of every moving word of a lane (R93). -/
def State.rampStep (s : State) (l : Fin 8) : State :=
  let n := l.val + 1
  if s.ramping l then
    ((s.modAdcLane l (fun a => { a with
      fine := Vector.zipWith unitTo a.fine a.fineT, gain := Vector.zipWith unitTo a.gain a.gainT, ramped := true })).setReg
      Ob.LINE_ADC_SKEW_TRIM n (unitTo (s.reg Ob.LINE_ADC_SKEW_TRIM n) s.adc[l].skewT)).adcRefresh l
  else s

/-! ## The domain -/

/-- The skew seed of a lane's fuse word, units of 20 fs (R94, R478). -/
def State.skewSeed (s : State) (l : Fin 8) : Int := toSigned 1 (fieldOf (s.fuseWord (52 + l.val)) 16 8)

/-- A lane's fuse seeds are loaded: full-scale reference, input termination and skew (R94, R446, R478). -/
def State.adcSeed (s : State) (l : Fin 8) : State :=
  let n := l.val + 1
  let word := s.fuseWord (52 + l.val)
  let s1 := s.modAdcLane l (fun _ => { skewT := s.skewSeed l, fsRef := fieldOf word 0 8, term := fieldOf word 8 8 })
  (((s1.setReg Ob.LINE_ADC_SKEW_TRIM n (s.skewSeed l)).setReg Ob.LINE_ADC_SELF_NOISE_LSB n 0xFFFF).setReg
    Ob.LINE_ADC_STATE n 2).adcRefresh l

/-- The cold path of a lane's LRX domain: fuse seeds, then a foreground calibration (R94, R95). -/
def State.adcCold (s : State) (l : Fin 8) : State := (s.adcSeed l).fgStart l true

/-- A wake from RET that restores the corrections: a POSTWAKE commit is due, or the cold path's calibration that never
ended runs (R94, R97, R103). -/
def State.adcWarm (s : State) (l : Fin 8) : State :=
  let n := l.val + 1
  let s1 := (s.modAdcLane l (fun a => { a with
    due := true, postwake := true, recalAt := none, k := 0, last := none, before := none, word := [] })).setReg Ob.LINE_ADC_STATE n 2
  if s.adc[l].fgCold then s1.fgStart l true else s1.adcRefresh l

/-- A lane's LRX domain leaves ON (R94, R97, R332): a calibration ends ABORTED, ramps and accumulations are dropped, so that a
correction is clamped only where the applied value has reached its limit (R113); the level detector returns to its start. -/
def State.adcStop (s : State) (l : Fin 8) : State :=
  let n := l.val + 1
  let s1 := (s.fgAbort l).capAbort l
  let s2 := s1.modAdcLane l (fun a => { a with
    fineT := a.fine, gainT := a.gain, skewT := s1.reg Ob.LINE_ADC_SKEW_TRIM n
    clampFine := a.clampFine && decide (spread a.fine = 128), clampGain := a.clampGain && decide (spread a.gain = 128)
    clampSkew := a.clampSkew && decide ((s1.reg Ob.LINE_ADC_SKEW_TRIM n).natAbs = 64)
    win := {}
    due := false, postwake := false, recalAt := none, recalLeft := 0
    bgN := 0, gsN := 0, wins := 0, darkWins := 0, lowRun := 0, highRun := 0, clips := [], ramped := false })
  ((s2.floorInvalid l).setReg Ob.LINE_ADC_STATE n 0).setReg Ob.LINE_LOS_RAW n 1

/-- A half's synthesiser gets its lock: the outage and its attempts are over, calibrations that waited for it start (R89, R96,
R97). -/
def State.synthLocked (s : State) (h : Fin 2) : State :=
  let s1 := s.modSynth h (fun _ => { locked := true, band := true })
  forEach (lanesOfHalf h) (fun l s => if s.adc[l].fgWait then s.fgStart l false else s) s1

/-- A half's synthesiser stops with its domain, or loses lock: calibrations that run abort, those of the cold path wait to run
again beside those that wait already, noise floors are invalid (R89, R97, R110). -/
def State.synthLost (s : State) (h : Fin 2) : State :=
  let s1 := s.modSynth h (fun y => { y with locked := false, attempts := 0, bandRep := false })
  forEach (lanesOfHalf h) (fun l s =>
    let s2 := (if s.adc[l].fgRun then s.fgAbort l else s).floorInvalid l
    if s.adc[l].fgRun && s.adc[l].fgCold then s2.fgStart l true else s2) s1

/-! ## Writes -/

/-- A write of LINE.ADC_COUPLING: only with the port OFF, or the lane unused (R90). -/
def ownCoupling (sub : Nat) (v : Int) (s : State) : Verdict :=
  if h : 1 ≤ sub ∧ sub ≤ 8 then
    match s.portOf ⟨sub - 1, by omega⟩ with
    | some p => if s.pstate p = PS.OFF then storeVal Ob.LINE_ADC_COUPLING sub v s else .deny St.CONFIG_CONFLICT
    | none => storeVal Ob.LINE_ADC_COUPLING sub v s
  else .deny St.NO_OBJECT

/-! ## Meanings -/

/-- ADC_CAL_FG. -/
def execAdcCalFg (r : Req) (sub : Nat) (s : State) : Out :=
  .next (s.serve r .exec Ob.LINE_ADC_CAL_FG sub [0] (ownAdcCalFg sub))

/-- ADC_RECAL_TIMER: the timer of a lane expires and a commit is due (R100). -/
def execAdcRecalTimer (l : Fin 8) (s : State) : Out :=
  .next (if s.adc[l].recalAt.isSome then s.modAdcLane l (fun a => { a with due := true, recalAt := none }) else s)

/-- ADC_BG_ENABLE_WRITE. -/
def execAdcBgEnableWrite (r : Req) (sub v : Nat) (s : State) : Out :=
  .next (s.serve r .write Ob.LINE_ADC_BG_ENABLE sub (leBytes 1 v) (ownBgEnable sub (leNat (leBytes 1 v))))

/-- ADC_CORRECTION_RAMP_STEP: 64 µs have passed (R93). -/
def execAdcCorrectionRampStep (l : Fin 8) (s : State) : Out :=
  .next (if s.on (Dom.lrx l) then s.rampStep l else s)

/-- SUBADC_STUCK: one code for 2^16 samples in light marks a sub-ADC failed, once (R112). -/
def execSubadcStuck (l : Fin 8) (k : Fin 128) (s : State) : Out :=
  if s.on (Dom.lrx l) ∧ !s.flag Ob.LINE_LOS_RAW (l.val + 1) ∧ !(s.adc[l].failed.contains k.val) then
    .next (((s.modAdcLane l (fun a => { a with failed := k.val :: a.failed })).adcRefresh l).raise Src.ADC_SUBADC_FAIL
      l.val (l.val + 256 * k.val + 131072) Ob.LINE_ADC_EVENTS (l.val + 1))
  else .next s

/-- RXSYNTH_ATTEMPT_TIMEOUT: 50 µs without lock; the third failure repeats the band selection (R89). -/
def execRxsynthAttemptTimeout (h : Fin 2) (s : State) : Out :=
  let y := s.rxsynth[h]
  if s.on (Dom.synth h) ∧ !y.locked ∧ !y.selecting then
    .next (s.modSynth h (fun y => { y with
      attempts := min 15 (y.attempts + 1), selecting := decide (3 ≤ y.attempts + 1), bandRep := y.bandRep || decide (3 ≤ y.attempts + 1) }))
  else .next s

end Sys2Proof.Machine
end

