-- ==== Sys2Proof/Machine/Outer.lean ====
section
/-! DEFINITION. The port stream: the outer RS(544,514) code, the scrambler, the alignment marker and the frame layouts
(R180 to R191). -/

namespace Sys2Proof.Machine

/-! ## The field of 1,024 elements, by x^10 + x^3 + 1 (R186) -/

/-- Multiply by α. -/
def gfX (a : Nat) : Nat := if 512 ≤ a then (2 * a) ^^^ 0x409 else 2 * a

/-- Multiply, by the bits of the second factor from the top. -/
def gfMulBits (a : Nat) : Nat → Nat → Nat → Nat
  | 0, _, acc => acc
  | n + 1, b, acc => gfMulBits a n b (gfX acc ^^^ (if bitOf b n then a else 0))

/-- The product of two elements. -/
def gfMul (a b : Nat) : Nat := gfMulBits a 10 b 0

/-- A power. -/
def gfPow (a : Nat) : Nat → Nat
  | 0 => 1
  | n + 1 => gfMul a (gfPow a n)

/-- The inverse: the power 1,022. -/
def gfInv (a : Nat) : Nat :=
  let sq := fun x => gfMul x x
  -- 1022 = 2 + 4 + ... + 512
  (List.range 9).foldl (fun (p : Nat × Nat) _ => (gfMul p.1 (sq p.2), sq p.2)) (1, a) |>.1

/-- Evaluate a polynomial, highest coefficient first, by Horner. -/
def gfEval (p : List Nat) (x : Nat) : Nat := p.foldl (fun acc c => gfMul acc x ^^^ c) 0

/-- The generator's coefficients below its leading 1, highest first: the product of x + α^i for i from 0 to 29. -/
def rsGenerator : List Nat :=
  ((List.range 30).foldl (fun (g : List Nat × Nat) _ =>
    (List.zipWith (· ^^^ ·) (g.1 ++ [0]) (0 :: g.1.map (gfMul g.2)), gfX g.2)) ([1], 1)).1.drop 1

/-- The 30 parity symbols of 514 message symbols, in sending order (R186). -/
def rsParity (msg : List Nat) : List Nat :=
  msg.foldl (fun (r : List Nat) m =>
    let f := r.headD 0 ^^^ m
    List.zipWith (fun a g => a ^^^ gfMul f g) (r.drop 1 ++ [0]) rsGenerator) (List.replicate 30 0)

/-- The ten-bit symbols of bits, first bit lowest. -/
def tenBit : Nat → List Bool → List Nat
  | 0, _ => []
  | n + 1, bs => bitsNat (bs.take 10).reverse :: tenBit n (bs.drop 10)

/-- The bits of ten-bit symbols. -/
def tenBits (l : List Nat) : List Bool := (l.map (lsbBits 10)).flatten

/-- Encode a message part of 5,140 bits: itself and 300 parity bits (R186). -/
def outerEncode (msg : List Bool) : List Bool :=
  let m := (List.range 5140).map (fun i => msg.getD i false)
  m ++ tenBits (rsParity (tenBit 514 m))

/-- The 30 syndromes of a received codeword. -/
def rsSyndromes (c : List Nat) : List Nat := (List.range 30).map (fun i => gfEval c (gfPow 2 i))

/-- Add polynomials, lowest coefficient first. -/
def polyAdd : List Nat → List Nat → List Nat
  | [], b => b
  | a, [] => a
  | x :: a, y :: b => (x ^^^ y) :: polyAdd a b

/-- The state of the search for the error locator. -/
structure Locator where
  cur : List Nat := [1]
  prev : List Nat := [1]
  len : Nat := 0
  gap : Nat := 1
  last : Nat := 1

/-- One step of the Berlekamp and Massey search for the shortest recurrence of the syndromes. -/
def Locator.step (syn : List Nat) (z : Locator) (n : Nat) : Locator :=
  let d := (List.range (z.len + 1)).foldl (fun acc i => acc ^^^ gfMul (z.cur.getD i 0) (syn.getD (n - i) 0)) 0
  if d = 0 then { z with gap := z.gap + 1 }
  else
    let f := gfMul d (gfInv z.last)
    let new := polyAdd z.cur (List.replicate z.gap 0 ++ z.prev.map (gfMul f))
    if 2 * z.len ≤ n then { cur := new, prev := z.cur, len := n + 1 - z.len, gap := 1, last := d }
    else { z with cur := new, gap := z.gap + 1 }

/-- Evaluate a polynomial, lowest coefficient first. -/
def gfEvalLow (p : List Nat) (x : Nat) : Nat := gfEval p.reverse x

/-- Decode a codeword of 544 symbols (R186): the corrected codeword and the number of symbols corrected, or none where
it is uncorrectable. -/
def rsDecode (c : List Nat) : Option (List Nat × Nat) :=
  let syn := rsSyndromes c
  if syn.all (· == 0) then some (c, 0)
  else
    let z := (List.range 30).foldl (fun z n => z.step syn n) ({} : Locator)
    let deg := z.len
    if 15 < deg then none
    else
      let omega := (List.range 30).map (fun k =>
        (List.range (k + 1)).foldl (fun acc i => acc ^^^ gfMul (z.cur.getD i 0) (syn.getD (k - i) 0)) 0)
      -- position p from the end has locator α^p; its inverse is a root of the locator polynomial
      let fix := (List.range 544).filterMap (fun p =>
        let x := gfPow 2 p
        let xi := gfInv x
        if gfEvalLow z.cur xi = 0 then
          let der := gfEvalLow ((List.range z.cur.length).map (fun i =>
            if i % 2 = 0 then z.cur.getD (i + 1) 0 else 0)) xi
          some (p, gfMul x (gfMul (gfEvalLow (omega.take 30) xi) (gfInv der)))
        else none)
      if fix.length = deg then
        let c1 := fix.foldl (fun c e => c.set (543 - e.1) (c.getD (543 - e.1) 0 ^^^ e.2)) c
        if (rsSyndromes c1).all (· == 0) then some (c1, deg) else none
      else none

/-! ## The scrambler -/

/-- One step of the additive scrambler by x^31 + x^28 + 1: its output bit, register bit 30 as R182 has it for its
generator, and its next content (R185). -/
def scramStep (r : Nat) : Bool × Nat := (bitOf r 30, (2 * r + (bitOf r 30 != bitOf r 27).toNat) % 2 ^ 31)

/-- Scramble bits from a content (R185). -/
def scramble : Nat → List Bool → List Bool × Nat
  | r, [] => ([], r)
  | r, b :: bs =>
    let (o, r1) := scramStep r
    let (rest, r2) := scramble r1 bs
    ((b != o) :: rest, r2)

/-- The content at the first frame-stream bit of each AP: all ones (R185). -/
def scramInit : Nat := 2 ^ 31 - 1

/-! ## The alignment marker -/

/-- Bits of the Fibonacci generator of x^13 + x^12 + x^2 + x + 1; register bit 12 is the first output (R182). -/
def mkPattern : Nat → Nat → List Bool
  | 0, _ => []
  | n + 1, r =>
    bitOf r 12 :: mkPattern n ((2 * r + (bitOf r 12 != (bitOf r 11 != (bitOf r 1 != bitOf r 0))).toNat) % 2 ^ 13)

/-- MK_PATTERN of a lane position (R182). -/
def markerPattern (i : Nat) : List Bool := mkPattern 2048 (0x1FFF ^^^ i)

/-- The fields of a marker from MK_LANE to the reserved bits, in sending order (R182). -/
def markerFields (lane width port rate ap : Nat) : List Bool :=
  msbBits 4 lane ++ msbBits 4 width ++ msbBits 4 port ++ msbBits 4 rate ++ msbBits 32 ap ++ List.replicate 304 false

/-- A whole marker (R182). -/
def markerBits (lane width port rate ap : Nat) : List Bool :=
  let f := markerFields lane width port rate ap
  markerPattern lane ++ f ++ msbBits 32 (crc32cBits f)

/-! ## Frames -/

/-- A frame's header fields (R188). -/
structure FrameHead where
  type : Nat
  lpl : Nat
  port : Nat
  mv : Bool
  ann : Bool
  rpl : Bool
  last : Bool
  seq : Nat
  ack : Nat
  mgmt : Nat
  deriving DecidableEq, Repr

/-- The 80 header bits before HDR_CHK (R188). -/
def FrameHead.bits (h : FrameHead) : List Bool :=
  msbBits 4 h.type ++ msbBits 4 h.lpl ++ msbBits 4 h.port ++ [h.mv, h.ann, h.rpl, h.last] ++ msbBits 24 h.seq ++
  msbBits 24 h.ack ++ msbBits 16 h.mgmt

/-- A whole frame of 16,576 bits: header, HDR_CHK, a body of 16,448 bits and CRC-32C (R188, R189). -/
def frameBits (h : FrameHead) (body : List Bool) : List Bool :=
  let b := (List.range 16448).map (fun i => body.getD i false)
  let hb := h.bits ++ msbBits 16 (crc16Bits h.bits)
  hb ++ b ++ msbBits 32 (crc32cBits (hb ++ b))

/-- The header of a received frame (R188). -/
def headOf (bs : List Bool) : FrameHead :=
  let f (lo n : Nat) : Nat := bitsNat ((bs.drop lo).take n)
  { type := f 0 4, lpl := f 4 4, port := f 8 4, mv := bs.getD 12 false, ann := bs.getD 13 false, rpl := bs.getD 14 false,
    last := bs.getD 15 false, seq := f 16 24, ack := f 40 24, mgmt := f 64 16 }

/-- HDR_CHK and CRC-32C of a received frame (R189). -/
def hdrOk (bs : List Bool) : Bool := crc16Bits (bs.take 80) == bitsNat ((bs.drop 80).take 16)
def crcOk (bs : List Bool) : Bool := crc32cBits (bs.take 16544) == bitsNat ((bs.drop 16544).take 32)

/-- The body of a received frame. -/
def bodyOf (bs : List Bool) : List Bool := (bs.drop 96).take 16448

/-- A field of a body (R191). -/
def bodyField (body : List Bool) (lo n : Nat) : Nat := bitsNat ((body.drop lo).take n)

end Sys2Proof.Machine
end

