-- ==== Sys2Proof/Machine/Pattern.lean ====
section
/-! DEFINITION. Test patterns: the generators and the rule by which a checker locks and compares (R322, R323). -/

namespace Sys2Proof.Machine

/-! ## Patterns (R322) -/

/-- The next bit of a PRBS after the bits in its register, newest first: 0 PRBS13, x^13 + x^12 + x^2 + x + 1; else PRBS31, x^31 + x^28 + 1,
inverted. PRESUMED (log entry 203): the polynomials of IEEE 802.3. -/
def prbsNext (pat : Nat) (reg : List Bool) : Bool :=
  let b (k : Nat) : Bool := reg.getD (k - 1) false
  if pat = 0 then (b 1 != b 2) != (b 12 != b 13) else !(b 28 != b 31)

/-- The generator at the start of a sequence: a shift register of ones, whose output PRBS31 inverts. PRESUMED (log entry 203). -/
def PatGen.start (pat : Nat) : PatGen := { reg := List.replicate 31 (pat != 1) }

/-- The next level index of a pattern (R153, R322): two bits of a PRBS, or the next symbol of SSPRQ. -/
def PatGen.next (pat : Nat) (g : PatGen) : Nat × PatGen :=
  if pat = 2 then (Config.ssprqLevel (g.place % 65535), { g with place := (g.place + 1) % 65535 })
  else
    let a := prbsNext pat g.reg
    let r := (a :: g.reg).take 31
    let b := prbsNext pat r
    (grayIndex a b, { g with reg := (b :: r).take 31 })

/-- The next `n` level indices of a pattern. -/
def PatGen.run (pat : Nat) : Nat → PatGen → List Nat × PatGen
  | 0, g => ([], g)
  | n + 1, g =>
    let (v, g1) := g.next pat
    let (vs, g2) := PatGen.run pat n g1
    (v :: vs, g2)

/-! ## Checkers (R323) -/

/-- Level indices, newest first, with the far side's precoding undone where it is taken to be on (R129). -/
def undone (precoded : Bool) (seen : List Nat) : List Nat :=
  if precoded then List.zipWith (fun p q => (p + q) % 4) seen (seen.drop 1) else seen

/-- The bits of level indices, all newest first. -/
def newestBits (levels : List Nat) : List Bool := (levels.map (fun v => (bitsOfSymbols [v]).reverse)).flatten

/-- Lock on level indices, newest first (R323): a PRBS after 64 symbols in a row that the register loaded from the received bits predicts;
SSPRQ at the first offset at which 1,024 symbols hold at most 8 errors. The generator then goes on from there. -/
def lockGen (pat : Nat) (levels : List Nat) : Option PatGen :=
  if pat = 2 then
    if levels.length < 1024 then none
    else ((List.range 65535).find? (fun o =>
      decide (((levels.take 1024).zipIdx.filter (fun v => v.1 != Config.ssprqLevel ((o + 1023 - v.2) % 65535))).length ≤ 8))).map
        (fun o => { place := (o + 1024) % 65535 })
  else if levels.length < 80 then none
  else if (List.range 64).all (fun k =>
      (PatGen.next pat { reg := (newestBits ((levels.drop (k + 1)).take 16)).take 31 }).1 == levels.getD k 0) then
    some { reg := (newestBits (levels.take 16)).take 31 }
  else none

/-- Lock under one of the precoding interpretations allowed: the interpretation and the generator (R322). -/
def lockOn (pat : Nat) (allowed : List Bool) (seen : List Nat) : Option (Bool × PatGen) :=
  allowed.findSome? (fun pre => (lockGen pat (undone pre seen)).map (fun g => (pre, g)))

/-- The number of bits in which two level indices differ (R153). -/
def bitErrors (a b : Nat) : Nat := ((List.zipWith (· != ·) (bitsOfSymbols [a]) (bitsOfSymbols [b])).filter id).length

/-- A locked checker compares a symbol, or skips one of a marked block (R323): the checker, the bits compared, the errors. -/
def PatChk.compare (pat : Nat) (c : PatChk) (level : Nat) (skip : Bool) : PatChk × Nat × Nat :=
  let v := if c.precoded then (level + c.prev) % 4 else level
  let (want, g) := c.gen.next pat
  let c := { c with gen := g, prev := level }
  if skip then (c, 0, 0) else ({ c with errs := ((v != want) :: c.errs).take 256 }, 2, bitErrors v want)

/-- A searching checker takes a symbol. DEDUCED (log entry 205): one of a marked block, which it skips, breaks the run. -/
def PatChk.search (c : PatChk) (level : Nat) (skip : Bool) : PatChk :=
  { c with seen := if skip then [] else (level :: c.seen).take 1025 }

/-- A checker in a state (0 OFF, 1 SEARCH, 2 LOCKED) takes symbols, each with whether it is to be skipped: the checker, the bits
compared, the errors. -/
def PatChk.takeAll (pat : Nat) (state : Int) (c : PatChk) (ds : List (Nat × Bool)) : PatChk × Nat × Nat :=
  if state = 1 then (ds.foldl (fun c d => c.search d.1 d.2) c, 0, 0)
  else if state = 2 then
    ds.foldl (fun r d => let q := r.1.compare pat d.1 d.2; (q.1, r.2.1 + q.2.1, r.2.2 + q.2.2)) (c, 0, 0)
  else (c, 0, 0)

/-- The pattern that the sequence of a checker took: 0 PRBS13Q, 1 PRBS31Q, 2 SSPRQ (R322). -/
def State.patternOf (s : State) (c : Checker) : Nat :=
  match c with
  | .line l => (match s.portOf l with | some p => s.test[p].pats.getD ((s.lanesOf p).idxOf l) 1 | none => 1)
  | .host h => (match s.portOfHost h with | some p => s.test[p].pats.getD ((s.hostLanesOf p).idxOf h) 1 | none => 1)

/-- The symbols a line lane's detector decided pass its checker, which counts while it is locked (R322, R323). -/
def State.lineCheck (s : State) (l : Fin 8) (ds : List (Nat × Bool)) : State :=
  let n := l.val + 1
  let r := s.rx[l].chk.takeAll (s.patternOf (.line l)) (s.reg Ob.TEST_LINE_CHK_STATE n) ds
  let s1 : State := { s with rx := s.rx.set l { s.rx[l] with chk := r.1 } }
  (s1.bump64 Ob.TEST_LINE_BITS n r.2.1).bump64 Ob.TEST_LINE_ERRORS n r.2.2

/-- The CDR decisions of a host lane pass its checker (R322, R323). -/
def State.hostCheck (s : State) (h : Fin 16) (levels : List Nat) : State :=
  let n := h.val + 1
  let r := s.hostLane[h].chk.takeAll (s.patternOf (.host h)) (s.reg Ob.TEST_HOST_CHK_STATE n) (levels.map (fun v => (v, false)))
  let s1 : State := { s with hostLane := s.hostLane.set h { s.hostLane[h] with chk := r.1 } }
  (s1.bump64 Ob.TEST_HOST_BITS n r.2.1).bump64 Ob.TEST_HOST_ERRORS n r.2.2

end Sys2Proof.Machine
end

