-- ==== Sys2Proof/Machine/Host.lean ====
section
/-! DEFINITION. The host lanes: presets, lane states, the host RS code and rate matching in both directions
(chapter 10). -/

namespace Sys2Proof.Machine

/-- Change a host instance, or a host lane. -/
def State.modInst (s : State) (i : Fin 8) (f : HostInst → HostInst) : State :=
  { s with hostInst := s.hostInst.set i (f s.hostInst[i]) }
def State.modHostLane (s : State) (h : Fin 16) (f : HostLane → HostLane) : State :=
  { s with hostLane := s.hostLane.set h (f s.hostLane[h]) }

/-- HOST.LANE_STATE (R276): 0 OFF, 1 IDLE, 2 SIGNAL, 3 LOCKED, 4 ALIGNED. -/
def State.hostState (s : State) (h : Fin 16) : Int := s.reg Ob.HOST_LANE_STATE (h.val + 1)
def State.setHost (s : State) (h : Fin 16) (v : Int) : State := s.setReg Ob.HOST_LANE_STATE (h.val + 1) v

/-- The RS instances of a port (R27): a 3.2T port has two. -/
def State.instances (s : State) (p : Fin 8) : List (Fin 8) :=
  if (s.lanesOf p).length = 8 ∧ !s.class200 (halfOf p) then [0, 4] else [p]

/-- The port of an instance. -/
def State.instPort (s : State) (i : Fin 8) : Option (Fin 8) :=
  match s.portOf i with
  | some p => if i ∈ s.instances p then some p else none
  | none => none

/-- The host lanes of an instance. -/
def State.instLanes (s : State) (i : Fin 8) : List (Fin 16) :=
  match s.instPort i with
  | some p =>
    let ls := s.hostLanesOf p
    if (s.instances p).length = 2 then ls.filter (fun h => decide (h.val / 8 = i.val / 4)) else ls
  | none => []

/-- The instance a host lane belongs to. -/
def State.instOf (s : State) (h : Fin 16) : Option (Fin 8) := (fins 8).find? (fun i => (s.instLanes i).contains h)

/-- Whether every lane of an instance is ALIGNED. -/
def State.instAligned (s : State) (i : Fin 8) : Bool :=
  !(s.instLanes i).isEmpty && (s.instLanes i).all (fun h => s.hostState h == 4)

/-! ## Presets (R272 to R275) -/

/-- An entry of a preset table. -/
def presetEntry (t : List Byte) (e : Nat) : List Byte := (t.drop (4 + 32 * e)).take 32

/-- A signed byte. -/
def i8 (b : Byte) : Int := toSigned 1 b.toNat

/-- A transmit FIR (R272). -/
def firOk (f : List Byte) : Bool :=
  inRange 16 64 (i8 (f.getD 2 0)) && [0, 1, 3, 4].all (fun k => inRange (-32) 32 (i8 (f.getD k 0))) &&
  decide (((f.take 5).map (fun b => (i8 b).natAbs)).sum ≤ 64)

/-- An entry's form: ranges and reserved bytes; an invalid entry is all zero (R272). -/
def entryOk (e : List Byte) : Bool :=
  let u := fun k => (e.getD k 0).toNat
  if u 0 = 0 then e.all (· == 0)
  else
    u 0 == 1 && decide (u 1 ≤ 31) && decide (u 2 ≤ 7) && decide (u 3 ≤ 15) &&
    ((e.drop 4).take 4).all (fun b => inRange (-64) 63 (i8 b)) && firOk (e.drop 8) && decide (u 13 ≤ 25) &&
    firOk (e.drop 14) && (e.drop 19).all (· == 0)

/-- A preset table's form (R272). -/
def presetOk (t : List Byte) : Bool :=
  t.length == 520 && t.take 4 == [1, 0, 0, 0] && (List.range 16).all (fun e => entryOk (presetEntry t e)) &&
  leNat (t.drop 516) == crc32c (t.take 516)

/-- VALID of an entry. -/
def presetValid (t : List Byte) (e : Nat) : Bool := (presetEntry t e).getD 0 0 == 1

/-- The selected entry is in force on a lane (R274). -/
def State.presetSet (s : State) (h : Fin 16) : State :=
  let n := h.val + 1
  let e := presetEntry (s.blob Ob.HOST_PRESET_TABLE n) (s.nat Ob.HOST_PRESET_SEL n)
  (s.setReg Ob.HOST_PRESET_APPLIED n (s.reg Ob.HOST_PRESET_SEL n)).setBlob Ob.HOST_HOST_TX_ADVICE n ((e.drop 14).take 5)

/-- Apply the selected entry to a lane (R274), by the PRESET task of a host engine (R394); with no host engine left the preset in force
stays (R400). -/
def State.presetApply (s : State) (h : Fin 16) : State :=
  let n := h.val + 1
  if !s.hostWork h then s
  else (s.presetSet h).triggerFirst (hostEngines h) 0 1563
    [.num Ob.HOST_PRESET_APPLIED n (s.reg Ob.HOST_PRESET_APPLIED n), .bytes Ob.HOST_HOST_TX_ADVICE n (s.blob Ob.HOST_HOST_TX_ADVICE n)]

/-- Whether a preset write applies at once: the lane is unused, or its port is OFF (R274). -/
def State.presetNow (s : State) (h : Fin 16) : Bool :=
  match s.portOfHost h with | some p => s.pstate p == PS.OFF | none => true

/-- A write of HOST.PRESET_SEL or HOST.PRESET_TABLE (R274, R275, R423). -/
def ownPreset (sub : Nat) (w : PresetWrite) (s : State) : Verdict :=
  if hs : 1 ≤ sub ∧ sub ≤ 16 then
    let h : Fin 16 := ⟨sub - 1, by omega⟩
    let commit (s1 : State) : Verdict :=
      -- the lane's baseline builds again under the new preset (R423)
      let s2 := (s1.setReg Ob.COMPASS_HOST_BASE_DB sub 0).setReg Ob.COMPASS_HOST_BASE_HOURS sub 0
      .done (if s2.presetNow h then s2.presetApply h else s2) []
    match w with
    | .sel v =>
      if presetValid (s.blob Ob.HOST_PRESET_TABLE sub) v then commit (s.setReg Ob.HOST_PRESET_SEL sub v)
      else .deny St.CONFIG_CONFLICT
    | .table b =>
      if !presetOk b then .deny St.RANGE
      else if presetValid (s.blob Ob.HOST_PRESET_TABLE sub) (s.nat Ob.HOST_PRESET_SEL sub) &&
          !presetValid b (s.nat Ob.HOST_PRESET_SEL sub) then .deny St.CONFIG_CONFLICT
      else commit (s.setBlob Ob.HOST_PRESET_TABLE sub b)
  else .deny St.NO_OBJECT

/-! ## 257-bit blocks and their four 66-bit blocks -/

/-- The block types, by their low nibble, of the PCS whose 256b/257b transcoding the AUI uses. -/
def blockType (low : Nat) : Option Nat :=
  [0x1E, 0x2D, 0x33, 0x4B, 0x55, 0x66, 0x78, 0x87, 0x99, 0xAA, 0xB4, 0xCC, 0xD2, 0xE1, 0xFF].find? (fun t => t % 16 == low)

/-- The idle control block, and a Local Fault ordered set. -/
def idleBlk : HBlk := .blk true 0x1E
def faultBlk : HBlk := .blk true (0x4B + 2 ^ 24)

/-- Whether a block is an idle, a packet start, or a terminate. -/
def HBlk.isIdle (b : HBlk) : Bool := b == idleBlk
def HBlk.isStart : HBlk → Bool
  | .blk true v => v % 256 == 0x78
  | _ => false
def HBlk.isTerm : HBlk → Bool
  | .blk true v => [0x87, 0x99, 0xAA, 0xB4, 0xCC, 0xD2, 0xE1, 0xFF].contains (v % 256)
  | _ => false

/-- Whether a packet is open after a block. -/
def HBlk.opens (b : HBlk) (before : Bool) : Bool :=
  match b with
  | .blk true _ => b.isStart
  | _ => before

/-- The weight of a block in a FIFO (R283). -/
def HBlk.weight : HBlk → Nat
  | .err => 4
  | _ => 1
def fill (f : List HBlk) : Nat := (f.map HBlk.weight).sum

/-- ERR257 (R279). -/
def err257 : List Bool := false :: List.replicate 4 true ++ List.replicate 252 false

/-- The four blocks of a 257-bit block whose first block of control is not yet found: flags, then the payload bits. -/
def untranscode : Bool → List Bool → List Bool → Option (List HBlk)
  | _, [], _ => some []
  | found, isData :: fs, bits =>
    if isData then
      (untranscode found fs (bits.drop 64)).map (fun r => .blk false (bitsNat (bits.take 64).reverse) :: r)
    else if found then
      (untranscode found fs (bits.drop 64)).map (fun r => .blk true (bitsNat (bits.take 64).reverse) :: r)
    else
      match blockType (bitsNat (bits.take 4).reverse) with
      | none => none
      | some t =>
        (untranscode true fs (bits.drop 60)).map (fun r => .blk true (t + 256 * bitsNat ((bits.drop 4).take 56).reverse) :: r)

/-- The blocks of a 257-bit block; none where its transcode header is invalid (R280), as that of ERR257 is. -/
def blocksOf (b : List Bool) : Option (List HBlk) :=
  match b with
  | true :: rest => some ((List.range 4).map (fun i => .blk false (bitsNat ((rest.drop (64 * i)).take 64).reverse)))
  | false :: rest => if (rest.take 4).all id then none else untranscode false (rest.take 4) (rest.drop 4)
  | [] => none

/-- The payload bits of blocks, the first control block without the high nibble of its type. -/
def transPayload : Bool → List HBlk → List Bool
  | _, [] => []
  | found, .blk true v :: r =>
    (if found then lsbBits 64 v else lsbBits 4 v ++ lsbBits 56 (v / 256)) ++ transPayload true r
  | found, .blk false v :: r => lsbBits 64 v ++ transPayload found r
  | found, .err :: r => transPayload found r

/-- The 257-bit block of four 66-bit blocks, or ERR257. -/
def transcode (l : List HBlk) : List Bool :=
  if l.any (· == .err) then err257
  else if l.all (fun b => match b with | .blk c _ => !c | .err => false) then true :: transPayload true l
  else false :: l.map (fun b => match b with | .blk c _ => !c | .err => true) ++ transPayload false l

/-! ## The scrambler of the PCS: x^58 + x^39 + 1, self-synchronising -/

/-- Descramble bits after the last 58 received ones, the latest in bit 0. -/
def descrambleBits : Nat → List Bool → List Bool × Nat
  | r, [] => ([], r)
  | r, b :: bs =>
    let (rest, r1) := descrambleBits ((2 * r + b.toNat) % 2 ^ 58) bs
    ((b != (bitOf r 38 != bitOf r 57)) :: rest, r1)

/-- Scramble bits after the last 58 sent ones. -/
def scrambleBits : Nat → List Bool → List Bool × Nat
  | r, [] => ([], r)
  | r, b :: bs =>
    let o := b != (bitOf r 38 != bitOf r 57)
    let (rest, r1) := scrambleBits ((2 * r + o.toNat) % 2 ^ 58) bs
    (o :: rest, r1)

/-- Cut bits into 257-bit blocks. -/
def cut257 : Nat → List Bool → List (List Bool)
  | 0, _ => []
  | n + 1, bs => bs.take 257 :: cut257 n (bs.drop 257)

/-! ## Rate matching -/

/-- Push blocks into a FIFO, deleting idle blocks above a level (R283): the FIFO and the idles deleted. -/
def pushDel (level : Nat) : List HBlk → List HBlk → List HBlk × Nat
  | f, [] => (f, 0)
  | f, b :: bs =>
    if b.isIdle ∧ level < fill f then
      let (g, n) := pushDel level f bs
      (g, n + 1)
    else pushDel level (f ++ [b]) bs

/-- Take the last 257-bit block off a FIFO: an ERR257 unit or up to four blocks; the list is newest first. -/
def dropLast257 : Nat → List HBlk → List HBlk
  | 0, f => f
  | _, [] => []
  | _ + 1, .err :: f => f
  | n + 1, _ :: f => if f.head? = some .err then f else dropLast257 n f

/-- A full FIFO: ERR257 over the block ahead of the one discarded (R284). -/
def overwriteLast (f : List HBlk) : List HBlk := (dropLast257 4 f.reverse).reverse ++ [.err]

/-- Whether blocks of a port are framed: outside CARRYING, and depth 3 of TEST, ingress discards them (R298). -/
def State.frames (s : State) (p : Fin 8) : Bool := s.pstate p == PS.CARRYING || (s.pstate p == PS.TEST && s.test[p].kind == 5)

/-- A 257-bit block into an instance's ingress FIFO (R283, R284). -/
def State.ingressPush (s : State) (p i : Fin 8) (bs : List HBlk) : State :=
  let f := s.hostInst[i].fifoIn
  let (g, n) := pushDel 160 f bs
  let s1 := if !s.frames p then s else s.bump64 Ob.HOST_IDLE_DELETED (p.val + 1) n
  if !s.frames p then s1
  else if 256 < fill g then
    (s1.modInst i (fun x => { x with fifoIn := overwriteLast f })).raise Src.HOST_RATE_MATCH p.val (p.val + 256)
      Ob.HOST_EVENTS (p.val + 1)
  else s1.modInst i (fun x => { x with fifoIn := g })

/-- A block in error at ingress (R280). -/
def State.ingressErr (s : State) (p i : Fin 8) : State :=
  (s.bump64 Ob.HOST_ERR_BLOCKS_IN (p.val + 1) 1).ingressPush p i [.err]

/-- A block goes into an instance's ingress FIFO: ERR257 in its place where the boundary discarded one (R67). -/
def State.ingressTakeIn (s : State) (p i : Fin 8) (b : Option (List HBlk)) : State :=
  if 0 < s.hostInst[i].overrun then
    (s.modInst i (fun x => { x with overrun := x.overrun - 1 })).ingressPush p i [.err]
  else match b with
    | some bs => s.ingressPush p i bs
    | none => s.ingressErr p i

/-- The far loop comes into force, or ends, at the next packet start in the ingress stream (R328). DEDUCED (log entry
215): before that packet is queued. -/
def State.farSwitch (s : State) (p : Fin 8) (bs : List HBlk) : State :=
  let want := s.flag Ob.TEST_FAR_LOOP (p.val + 1)
  if s.test[p].farLoop = want ∨ !bs.any HBlk.isStart then s
  else { s with test := s.test.set p { s.test[p] with farLoop := want } }

/-- Whether an instance's blocks come from the host: not while the far loop holds its place (R328). -/
def State.takesHost (s : State) (p : Fin 8) : Bool := !s.test[p].farLoop

/-- The next block at an instance's ingress output (R283, R284): the block, the instance after it, the idles inserted, and
whether an insertion fell in a packet. -/
def HostInst.inNext (x : HostInst) : HBlk × HostInst × Nat × Bool :=
  if x.errDue then (.err, { x with errDue := false }, 0, false)
  else match (if x.resync then x.fifoIn.dropWhile (fun b => !b.isStart) else x.fifoIn) with
  | [] =>
    if x.resync then (idleBlk, { x with fifoIn := [] }, 1, false)
    else if x.inPkt then (.err, x, 0, true) else (idleBlk, x, 1, false)
  | b :: f =>
    if !x.inPkt ∧ !x.resync ∧ fill x.fifoIn < 96 then (idleBlk, x, 1, false)
    else (b, { x with fifoIn := f, inPkt := b.opens x.inPkt, resync := false }, 0, false)

/-- Up to `n` more blocks for a 257-bit block; ERR257 stands alone. DESIGN CHOICE (log entry 195): idles fill up the block before it. -/
def HostInst.inGroup : Nat → List HBlk → HostInst → List HBlk × HostInst × Nat × Bool
  | 0, acc, x => (acc, x, 0, false)
  | n + 1, acc, x =>
    let (b, y, k, e) := x.inNext
    if b = .err then
      if acc = [] then ([.err], y, k, e) else (acc ++ List.replicate (n + 1) idleBlk, { x with errDue := x.errDue || e }, n + 1, e)
    else
      let (r, z, m, e2) := HostInst.inGroup n (acc ++ [b]) y
      (r, z, k + m, e || e2)

/-- A fault block (R281). -/
def faultBits : List Bool := transcode [faultBlk, faultBlk, faultBlk, faultBlk]

/-- The next 257-bit block of an instance for the line (R281 to R284). -/
def State.ingressTake (s : State) (p i : Fin 8) : List Bool × State :=
  let n := p.val + 1
  if s.takesHost p ∧ !s.instAligned i then
    (if s.hostInst[i].errDue then (err257, s.modInst i (fun x => { x with errDue := false }))
     else (faultBits, s.bump64 Ob.HOST_FAULT_FILL_BLOCKS n 1))
  else
    let (bs, x, ins, bad) := HostInst.inGroup 4 [] s.hostInst[i]
    let s1 := (s.modInst i (fun _ => x)).bump64 Ob.HOST_IDLE_INSERTED n ins
    (transcode bs, if bad then s1.raise Src.HOST_RATE_MATCH p.val p.val Ob.HOST_EVENTS n else s1)

/-- A 257-bit block from the link into an instance's egress FIFO (R283, R287); a full FIFO takes ERR257 over its last
block. -/
def State.egressPush (s : State) (p i : Fin 8) (bits : List Bool) : State :=
  let bs := (blocksOf bits).getD [.err]
  let x := s.hostInst[i]
  let (g, n) := pushDel (if x.safe then 1984 else 192) x.fifoOut bs
  let f := if 2048 < fill g then overwriteLast x.fifoOut else g
  (s.modInst i (fun x => { x with fifoOut := f })).bump64 Ob.HOST_IDLE_DELETED (p.val + 1) n

/-- A stall empties the egress FIFO inside a packet: one ERR257, then idles, and the rest of the packet is discarded
(R287). -/
def HostInst.stallBreak (x : HostInst) : HostInst :=
  { x with outPre := x.outPre ++ [.err], broken := true, outPkt := false, filling := true }

/-- The next block at an instance's egress output (R283, R287): the block, the instance after it, the idles inserted and
the packets broken. A mode `want` other than the one in force is taken between packets (R290). -/
def HostInst.outNext (want : Bool) (x0 : HostInst) : HBlk × HostInst × Nat × Nat :=
  match x0.outPre with
  | b :: r => (b, { x0 with outPre := r }, 0, 0)
  | [] =>
    let safe := if x0.outPkt then x0.safe else want
    let f := if x0.broken then x0.fifoOut.dropWhile (fun b => !b.isStart) else x0.fifoOut
    let x := { x0 with fifoOut := f, broken := x0.broken && f.isEmpty, safe := safe }
    match f with
    | [] =>
      if x.outPkt then (.err, { x with broken := true, outPkt := false, filling := true }, 0, 1)
      else (idleBlk, { x with filling := true }, 1, 0)
    | b :: r =>
      let low := if x.filling then decide (fill f < 128) else !x.outPkt && decide (fill f < 64)
      let wait := if safe then !x.outPkt && b.isStart && decide (fill f < 1920) &&
          !(r.any (fun c => c.isTerm || c == .err)) else low
      if wait then (idleBlk, x, 1, 0)
      else (b, { x with fifoOut := r, outPkt := b.opens x.outPkt, filling := false }, 0, 0)

/-- Up to `n` more blocks for a 257-bit block towards the host. -/
def HostInst.outGroup (want : Bool) : Nat → List HBlk → HostInst → List HBlk × HostInst × Nat × Nat
  | 0, acc, x => (acc, x, 0, 0)
  | n + 1, acc, x =>
    let (b, y, k, e) := x.outNext want
    if b = .err then
      if acc = [] then ([.err], y, k, e)
      else (acc ++ List.replicate (n + 1) idleBlk, { y with outPre := .err :: y.outPre }, k + n + 1, e)
    else
      let (r, z, m, e2) := HostInst.outGroup want n (acc ++ [b]) y
      (r, z, k + m, e + e2)

/-- `n` 257-bit blocks towards the host: their bits, whether any is ERR257, the idles inserted and packets broken. -/
def HostInst.outBlocks (want : Bool) : Nat → HostInst → List Bool × Bool × HostInst × Nat × Nat
  | 0, x => ([], false, x, 0, 0)
  | n + 1, x =>
    let (bs, y, k, e) := HostInst.outGroup want 4 [] x
    let (bits, bad, z, k2, e2) := HostInst.outBlocks want n y
    (transcode bs ++ bits, bs.any (· == .err) || bad, z, k + k2, e + e2)

/-! ## Lane states (R276, R277) -/

/-- An HQ domain reaches ON, for one of its lanes (R274, R277). -/
def State.hostOn (s : State) (h : Fin 16) : State := (s.setHost h 1).presetApply h

/-- An HQ domain leaves ON, for one of its lanes. -/
def State.hostStop (s : State) (h : Fin 16) : State := (s.setHost h 0).modHostLane h (fun _ => {})

/-- A lane's port enters STANDBY from OFF (R271, R274, R277). -/
def State.hostSignal (s : State) (h : Fin 16) : State :=
  if s.hostState h = 1 then
    let n := h.val + 1
    ((s.presetApply h).modHostLane h (fun _ => {
      rxInvert := s.flag Ob.HOST_RX_INVERT n, txInvert := s.flag Ob.HOST_TX_INVERT n
      rxPrecode := s.flag Ob.HOST_RX_PRECODE n, txPrecode := s.flag Ob.HOST_TX_PRECODE n })).setHost h 2
  else s

/-- A lane's port enters OFF (R277). -/
def State.hostIdle (s : State) (h : Fin 16) : State :=
  if s.hostState h = 0 then s else s.setHost h 1

/-- An instance leaves ALIGNED: ERR257 for the block in assembly, and client blocks resume at a packet start (R280,
R290). DESIGN CHOICE (log entry 196): the blocks in its FIFO are lost with it, since fault blocks follow at once (R281). -/
def State.instLost (s : State) (p i : Fin 8) : State :=
  if s.rateActive p = Rate.S1 ∨ s.pstate p = PS.OFF then s
  else
    let taken := s.takesHost p
    let s1 := if taken then s.bump64 Ob.HOST_ERR_BLOCKS_IN (p.val + 1) 1 else s
    s1.modInst i (fun x =>
      if taken then { x with resync := true, inPkt := false, fifoIn := [], errDue := s.frames p } else { x with resync := true })

/-- A lane leaves ALIGNED (R277, R291). -/
def State.hostLost (s : State) (h : Fin 16) (next : Int) (cdr : Bool) : State :=
  let s1 := (s.setHost h next).bump Ob.HOST_LOCK_LOSS (h.val + 1) 1
  match s.portOfHost h with
  | some p =>
    if s.pstate p = PS.OFF then s1
    else s1.raise Src.HOST_LOCK_LOSS p.val (h.val + if cdr then 256 else 0) Ob.HOST_EVENTS (p.val + 1)
  | none => s1

/-! ## Meanings -/

/-- HOST_SIGNAL_LOCK: signal detected and the CDR locked (R277). -/
def execHostSignalLock (h : Fin 16) (s : State) : Out :=
  if s.hostState h = 2 then .next (s.setHost h 3) else .next s

/-- Whether a list is an assignment of `n` AUI lanes to the host lanes of an instance (R269). -/
def laneOrder (n : Nat) (order : List Nat) : Bool := order.length == n && (List.range n).all order.contains

/-- HOST_ALIGNED: every lane of an instance has two valid markers, with a skew; `order` names the AUI lane found on each host lane
(R269, R277, R291). DESIGN CHOICE (log entry 197): the next codeword is one that starts with markers. -/
def execHostAligned (i : Fin 8) (skewNs : Nat) (order : List Nat) (s : State) : Out :=
  match s.instPort i with
  | none => .next s
  | some p =>
    let ls := s.instLanes i
    if ls.all (fun h => s.hostState h == 3 || s.hostState h == 4) && !s.instAligned i && laneOrder ls.length order then
      let s1 := { s with hostSkew := s.hostSkew.set i skewNs }
      let worst := ((s.instances p).map (fun j => s1.hostSkew[j])).foldl max 0
      let s2 := s1.setReg Ob.HOST_SKEW_NS (p.val + 1) (min 65535 worst : Nat)
      if 180 < skewNs then
        .next (s2.raise Src.HOST_SKEW_LIMIT p.val (p.val + 65536 * min 65535 skewNs) Ob.HOST_EVENTS (p.val + 1))
      else
        let s3 := forEach ls.zipIdx (fun x s => (s.modHostLane x.1 (fun y => { y with phys := order.getD x.2 0 })).setHost x.1 4) s2
        .next (s3.modInst i (fun x => { x with amIn := 0, resync := true }))
    else .next s

/-- HOST_MARKER_LOSS: four consecutive markers missed on a lane of an instance (R277). -/
def execHostMarkerLoss (i : Fin 8) (s : State) : Out :=
  match s.instPort i with
  | none => .next s
  | some p =>
    let ls := (s.instLanes i).filter (fun h => s.hostState h == 4)
    if ls = [] then .next s
    else
      let s1 := if s.instAligned i then s.instLost p i else s
      .next (forEach ls (fun h s => s.hostLost h 3 false) s1)

/-- HOST_SIGNAL_LOSS: signal lost, or the CDR unlocked (R277). -/
def execHostSignalLoss (h : Fin 16) (cdr : Bool) (s : State) : Out :=
  if s.hostState h = 3 then .next (s.setHost h 2)
  else if s.hostState h = 4 then
    match s.instOf h with
    | some i =>
      match s.instPort i with
      | some p => .next (((if s.instAligned i then s.instLost p i else s)).hostLost h 2 cdr)
      | none => .next (s.hostLost h 2 cdr)
    | none => .next (s.hostLost h 2 cdr)
  else .next s

/-- The statistics of a codeword from the host (R278, R280, R288, R292). -/
def State.hostRsStats (s : State) (p i : Fin 8) (d : Option (List Nat × Nat)) (record : Bool) : State :=
  let n := p.val + 1
  let s1 := s.bump64 Ob.HOST_RS_IN_CW n 1
  match d with
  | some (_, k) =>
    (s1.bump64 Ob.HOST_RS_IN_SYM_CORRECTED n k).setBlob Ob.HOST_RS_IN_HIST n (incU32At (s1.blob Ob.HOST_RS_IN_HIST n) k)
  | none =>
    let s2 := s1.bump64 Ob.HOST_RS_IN_UNCORRECTABLE n 1
    if record then
      let s3 := s2.modInst i (fun x => { x with uncTick := x.uncTick + 1 })
      let count := ((s3.instances p).map (fun j => s3.hostInst[j].uncTick)).sum
      s3.raise Src.HOST_RS_UNCORRECTABLE p.val (p.val + 256 * min (2 ^ 24 - 1) count) Ob.HOST_EVENTS n
    else s2

/-- The 257-bit blocks of a received codeword on their way into an instance (R278 to R280): in error throughout after an
uncorrectable codeword, and at the first block that follows it. -/
def State.ingressBlocks (s : State) (p i : Fin 8) (loop bad : Bool) (blocks : List (List Bool)) : State :=
  forEach blocks (fun b s =>
    let after := s.hostInst[i].after
    let s1 := s.modInst i (fun x => { x with after := bad })
    match (if bad || after then none else blocksOf b) with
    | some bs =>
      if loop then s1.egressPush p i b
      else
        let s2 := s1.farSwitch p bs
        if s2.takesHost p then s2.ingressTakeIn p i (some bs) else s2
    | none =>
      if loop then (s1.bump64 Ob.HOST_ERR_BLOCKS_IN (p.val + 1) 1).egressPush p i err257 else s1.ingressTakeIn p i none) s

/-- The bits that a host lane receives as level indices, and the lane after them (R268, R271): inverted levels are turned back, and the
host's precoding is undone. -/
def HostLane.receive (x : HostLane) (levels : List Nat) : List Bool × HostLane :=
  let ls := levels.map (fun v => if x.rxInvert then 3 - v % 4 else v % 4)
  if x.rxPrecode then
    let (us, p) := unprecodeLevels x.rxPrev ls
    (bitsOfSymbols us, { x with rxPrev := p })
  else (bitsOfSymbols ls, x)

/-- The lane after it has sent bits as level indices (R268, R271). -/
def HostLane.send (x : HostLane) (bits : List Bool) : HostLane :=
  let (ls, p) := precodeLevels x.txPrecode x.txInvert x.txPrev (symbolsOf bits)
  { x with txPrev := p, sent := ls }

/-- The host lanes of an instance take in a codeword's level indices: the bits of each lane, and the state. -/
def State.hostReceive (s : State) (ls : List (Fin 16)) (levels : List (List Nat)) : List (List Bool) × State :=
  (ls.zipIdx.map (fun x => (s.hostLane[x.1].receive ((levels.getD x.2 []).take (2720 / ls.length))).1),
   forEach ls.zipIdx (fun x s => s.modHostLane x.1 (fun y => (y.receive ((levels.getD x.2 []).take (2720 / ls.length))).2)) s)

/-- The codeword whose ten-bit symbols lie on AUI lanes in turn (R269). PRESUMED (log entry 198): the order in which the AUI distributes
symbols, and the order of a symbol's bits, are its standard's. -/
def gatherLanes (n : Nat) (phys : List Nat) (bits : List (List Bool)) : List Nat :=
  let syms := bits.map (tenBit (544 / n))
  (List.range 544).map (fun k => (syms.getD (phys.idxOf (k % n)) []).getD (k / n) 0)

/-- The bits of AUI lane `j` of `n` in a codeword (R285, log entry 198). -/
def spreadLane (n : Nat) (cw : List Nat) (j : Nat) : List Bool :=
  tenBits ((List.range (544 / n)).map (fun i => cw.getD (n * i + j) 0))

/-- Whether an instance's port passes host codewords to the line and back (R288, R315); depth 2 of TEST loops the native path in every
rate set (R324). -/
def State.hostS1 (s : State) (p : Fin 8) : Bool := s.rateActive p == Rate.S1 && s.testKind p != 4

/-- The CDR decisions of a host lane in a sequence of kind 2 or 3 (R322 to R325): at depth 1 they drive the lane's transmitter; its checker
compares them, inversion and precoding undone. -/
def State.hostDecide (s : State) (h : Fin 16) (levels : List Nat) : State :=
  let k := match s.portOfHost h with | some p => s.testKind p | none => 0
  if levels = [] ∨ s.hostState h < 3 ∨ (k ≠ 2 ∧ k ≠ 3) then s
  else
    let (bits, x) := s.hostLane[h].receive levels
    (s.modHostLane h (fun _ => if k = 3 then { x with sent := levels } else x)).hostCheck h (symbolsOf bits)

/-- HOST_INGRESS_CODEWORD: a codeword of 5,440 bits arrives as the level indices of the instance's host lanes, in lane order (R268 to
R271, R278 to R284). In S1 it is decoded for statistics and passed on bit for bit (R288); at loop-back depth 1 its levels go back to
the host, at depth 2 its blocks to egress, at depth 3 of S1 its bits (R324, R326); under the far loop it is discarded (R328). -/
def execHostIngressCodeword (i : Fin 8) (levels : List (List Nat)) (s : State) : Out :=
  match s.instPort i with
  | none => .next s
  | some p =>
    let ls := s.instLanes i
    let n := ls.length
    if s.testKind p = 2 ∨ s.testKind p = 3 then .next (forEach ls.zipIdx (fun x s => s.hostDecide x.1 (levels.getD x.2 [])) s)
    else if !s.instAligned i then .next s
    else
      let (bits, s0) := s.hostReceive ls levels
      let cw := gatherLanes n (ls.map (fun h => s.hostLane[h].phys)) bits
      let d := rsDecode cw
      if s.hostS1 p then
        let s1 := forEach ls.zipIdx (fun x s => s.modHostLane x.1 (fun y => { y with
          passed := bits.getD x.2 [], line := if s.testKind p = 5 then y.line ++ bits.getD x.2 [] else y.line })) s0
        .next (s1.hostRsStats p i d false)
      else
        let s1 := s0.hostRsStats p i d true
        let am := s1.hostInst[i].amIn
        let markers := if am = 0 then min 20 (Config.hostMarkerBlocks n) else 0
        let msg := tenBits (((match d with | some (c, _) => c | none => cw)).take 514)
        let (out, r) := descrambleBits s1.hostInst[i].descr (msg.drop (257 * markers))
        let s2 := s1.modInst i (fun x => { x with descr := r, amIn := (if am = 0 then Config.hostMarkerPeriod n else am) - 1 })
        let loop := s.testKind p == 4
        if !loop && !s.takesHost p then .next (s2.modInst i (fun x => { x with after := d.isNone }))
        else .next (s2.ingressBlocks p i loop d.isNone (cut257 (20 - markers) out))

/-- Whether the link delivers blocks to a port's egress (R205, R285, R298): in CARRYING but under the far loop, while DRAINING holds
frames, and in the loops of depth 2 and 3. -/
def State.delivers (s : State) (p : Fin 8) : Bool :=
  (s.carries p && !s.test[p].farLoop) || ((s.pstate p == PS.DRAINING || s.port[p].rateHold) && s.reg Ob.RETRY_HOLD_OCCUPANCY (p.val + 1) != 0) || s.testKind p == 4

/-- Where the link delivers nothing, the egress FIFO is fed idle blocks, enough for one codeword above its target fill (R285). -/
def State.egressFeed (s : State) (p i : Fin 8) : State :=
  if s.delivers p then s
  else s.modInst i (fun x => { x with fifoOut := x.fifoOut ++ List.replicate (208 - fill x.fifoOut) idleBlk })

/-- The bits of a group of alignment markers for `n` lanes, the degraded-SER bits 0 (R268, R285). -/
def markerGroup (n blocks : Nat) : List Bool :=
  (List.range (257 * blocks)).map (fun k => Config.hostMarkerBit n k && !Config.hostDegradedBit n k)

/-- A codeword of 20 blocks' bits, markers ahead of them where they are due, leaves an instance on its host lanes (R269, R285, R286). -/
def State.hostEncode (s : State) (i : Fin 8) (markers : Nat) (bits : List Bool) (bad : Bool) : State :=
  let ls := s.instLanes i
  let n := ls.length
  let x := s.hostInst[i]
  let (sb, r) := scrambleBits x.scr bits
  let msg := tenBit 514 (markerGroup n markers ++ sb)
  let cw := msg ++ (rsParity msg).map (fun v => if bad then 1023 - v else v)
  let s1 := s.modInst i (fun x => { x with
    scr := r, sent := cw, amOut := (if x.amOut = 0 then Config.hostMarkerPeriod n else x.amOut) - 1 })
  forEach ls.zipIdx (fun y s => s.modHostLane y.1 (fun z => z.send (spreadLane n cw y.2))) s1

/-- A codeword towards the host in S1 (R288, R315): from CARRYING on the line's bits as they came, once enough have come; before it a
device-generated codeword of Local Fault blocks. DEDUCED (log entry 199): DRAINING still passes the line's bits, the bits of CARRYING start at a
codeword, and the generated codewords count in HOST.RS_OUT_CW. -/
def State.egressS1 (s : State) (p i : Fin 8) : State :=
  let m := p.val + 1
  let ls := s.instLanes i
  let n := ls.length
  if s.pstate p = PS.CARRYING ∨ s.pstate p = PS.DRAINING ∨ s.testKind p = 5 then
    let size := 5440 / n
    if ls.any (fun h => decide (s.hostLane[h].line.length < size)) then s
    else
      let bits := ls.map (fun h => s.hostLane[h].line.take size)
      let cw := gatherLanes n (List.range n) bits
      let s1 := forEach ls.zipIdx (fun y s => s.modHostLane y.1 (fun z => { z.send (bits.getD y.2 []) with line := z.line.drop size })) s
      let s2 := (s1.bump64 Ob.HOST_RS_OUT_CW m 1).modInst i (fun x => { x with sent := cw })
      match rsDecode cw with
      | some (_, k) => s2.bump64 Ob.HOST_RS_OUT_SYM_SEEN m k
      | none => s2.bump64 Ob.HOST_RS_OUT_UNCORRECTABLE m 1
  else
    let markers := if s.hostInst[i].amOut = 0 then min 20 (Config.hostMarkerBlocks n) else 0
    let s1 := forEach ls (fun h s => s.modHostLane h (fun z => { z with line := [] })) s
    (s1.hostEncode i markers ((List.replicate (20 - markers) faultBits).flatten) false).bump64 Ob.HOST_RS_OUT_CW m 1

/-- A host lane sends the next `n` symbols of its pattern in place of the RS encoder's output (R322). -/
def State.hostPattern (s : State) (h : Fin 16) (n : Nat) : State :=
  let (vs, g) := s.hostLane[h].gen.run (s.patternOf (.host h)) n
  s.modHostLane h (fun x => { (x.send (bitsOfSymbols vs)) with gen := g })

/-- HOST_EGRESS_CODEWORD: an instance sends a codeword (R285 to R288). -/
def execHostEgressCodeword (i : Fin 8) (s : State) : Out :=
  match s.instPort i with
  | none => .next s
  | some p =>
    let m := p.val + 1
    if (s.instLanes i).isEmpty || !(s.instLanes i).all (fun h => decide (2 ≤ s.hostState h)) then .next s
    -- the generator, or the loop of depth 1, stands in place of the RS encoder's output (R322, R324)
    else if s.testKind p = 2 then .next (forEach (s.instLanes i) (fun h s => s.hostPattern h (2720 / (s.instLanes i).length)) s)
    else if s.testKind p = 3 then .next s
    else if s.hostS1 p then .next (s.egressS1 p i)
    else
      let s1 := s.egressFeed p i
      let markers := if s1.hostInst[i].amOut = 0 then min 20 (Config.hostMarkerBlocks (s.instLanes i).length) else 0
      let (bits, bad, x, ins, brk) :=
        HostInst.outBlocks (s.flag Ob.HOST_EGRESS_MODE m && s.testKind p != 4) (20 - markers) s1.hostInst[i]
      let s2 := (s1.modInst i (fun _ => x)).hostEncode i markers bits bad
      let s3 := ((s2.bump64 Ob.HOST_IDLE_INSERTED m ins).bump64 Ob.HOST_STALL_BREAKS m brk).bump64 Ob.HOST_RS_OUT_CW m 1
      .next (if bad then s3.bump64 Ob.HOST_RS_OUT_MARKED m 1 else s3)

/-- EGRESS_STALL: a stall has emptied an instance's egress FIFO (R287, R290): between packets idles follow, inside one it
is broken. -/
def execEgressStall (i : Fin 8) (s : State) : Out :=
  match s.instPort i with
  | none => .next s
  | some p =>
    let x := s.hostInst[i]
    if x.fifoOut ≠ [] then .next s
    else if x.outPkt then .next ((s.modInst i HostInst.stallBreak).bump64 Ob.HOST_STALL_BREAKS (p.val + 1) 1)
    else .next (s.modInst i (fun x => { x with filling := true }))

/-- HOST_PRESET_WRITE (R274, R275). -/
def execHostPresetWrite (r : Req) (sub : Nat) (w : PresetWrite) (s : State) : Out :=
  match w with
  | .sel v => .next (s.serve r .write Ob.HOST_PRESET_SEL sub (leBytes 1 v) (ownPreset sub (.sel (leNat (leBytes 1 v)))))
  | .table b => .next (s.serve r .write Ob.HOST_PRESET_TABLE sub b (ownPreset sub (.table b)))

end Sys2Proof.Machine
end

