-- ==== Sys2Proof/Machine/Quality.lean ====
section
/-! DEFINITION. The receive quality figures as exact integers: SNR from the mean squared error (R141), the bit error
estimate from the SNR (R142), the far-end rate from the rate word (R122), and the eye height (R143). -/

namespace Sys2Proof.Machine

/-- LINE.TL_FREQ_PPB of a rate word (R122). -/
def freqPpb (w : Int) : Int := roundDiv (-(w * 1000000000)) (2 ^ 32 + w).toNat

/-- The largest `n` below `2 ^ bits` above `acc` at which `p` still holds, for `p` true up to a point. -/
def searchUp (p : Nat → Bool) : Nat → Nat → Nat
  | 0, acc => acc
  | b + 1, acc => searchUp p b (if p (acc + 2 ^ b) then acc + 2 ^ b else acc)

/-- LINE.SNR_DB in units of 2^-8 dB (R141): 10 log10(5 / MSE) to the nearest unit, from 0 to 40 dB, with the MSE in
units of 2^-16. Unit n is reached from 10^((2n - 1) / 5120) on. -/
def snrUnits (mse : Nat) : Nat :=
  if mse = 0 then 10240
  else if 327680 ≤ mse then 0
  else min 10240 (searchUp (fun n => decide (10 ^ (2 * n - 1) * mse ^ 5120 ≤ 327680 ^ 5120)) 14 0)

/-- The scale of the fixed-point numbers below. -/
def fixOne : Nat := 10 ^ 40

/-- Ten to the power n / 2560 in fixed point. -/
def tenPow (n : Nat) : Nat := searchUp (fun r => decide (r ^ 2560 ≤ 10 ^ n * fixOne ^ 2560)) 150 0

/-- Σ t_k with t_(k+1) = t_k · y / (a·k + b), fixed point. -/
def fixSeries (y a b : Nat) : Nat → Nat → Nat → Nat
  | 0, _, _ => 0
  | n + 1, k, t => t + fixSeries y a b n (k + 1) (t * y / (fixOne * (a * k + b)))

/-- π in units of 10^-20. -/
def pi20 : Nat := 314159265358979323846

/-- The square root of a fixed-point number. -/
def fixSqrt (n : Nat) : Nat := searchUp (fun r => decide (r * r ≤ n * fixOne)) 140 0

/-- LINE.BER_EST of an SNR in units of 2^-8 dB, parts per 10^10 (R142): 0.75 q(√(snr / 5)), by
q(√y) = 1/2 − √(y / 2π) · (Σ y^k / (2k + 1)!!) / e^(y / 2). From y = 45 on it is 0. -/
def berEst (snr : Nat) : Nat :=
  let y := tenPow snr / 5
  if 45 * fixOne ≤ y then 0
  else
    let a := fixSeries y 2 3 220 0 fixOne
    let e := fixSeries (y / 2) 1 1 220 0 fixOne
    let root := fixSqrt (y * 10 ^ 20 / (2 * pi20))
    let q := fixOne / 2 - root * a / e
    (roundDiv ((3 * 10 ^ 10 * q : Nat)) (4 * fixOne)).toNat

/-- The lowest and highest place of a histogram with a count. -/
def lowBin (h : List Nat) : Option Nat := (List.range h.length).find? (fun i => h.getD i 0 != 0)
def highBin (h : List Nat) : Option Nat := (List.range h.length).reverse.find? (fun i => h.getD i 0 != 0)

/-- The opening between two levels' bins, in units of 0.001 level unit: a bin is 1/16 unit wide, and the opening is
measured between the bins' facing edges (R143). -/
def opening (lower upper : List Nat) : Option Int :=
  match highBin lower, lowBin upper with
  | some a, some b => some (roundDiv (1000 * ((b : Int) - a - 1)) 16)
  | _, _ => none

/-- LINE.EYE_HEIGHT: the smallest of the three openings; 0 where no eye has an opening (R143). -/
def eyeHeight (h : Vector (List Nat) 4) : Int :=
  match [opening h[0] h[1], opening h[1] h[2], opening h[2] h[3]].filterMap id with
  | [] => 0
  | o :: os => os.foldl min o

end Sys2Proof.Machine
end

