-- ==== Sys2Proof/Machine/Eq.lean ====
section
/-! DEFINITION. The timing loop, the equaliser with its two coefficient banks, and the marks (chapter 5). -/

namespace Sys2Proof.Machine

/-- Change a receive lane. -/
def State.modRx (s : State) (l : Fin 8) (f : RxLane → RxLane) : State := { s with rx := s.rx.set l (f s.rx[l]) }

/-- LINE.TL_STATE: 0 IDLE, 1 ACQUIRE, 2 TRACK, 3 HOLD. -/
def State.tl (s : State) (l : Fin 8) : Int := s.reg Ob.LINE_TL_STATE (l.val + 1)

/-- LINE.EQ_STATE: 0 OFF, 1 SEED, 2 CONVERGE, 3 TRACK, 4 HELD. -/
def State.eqState (s : State) (l : Fin 8) : Int := s.reg Ob.LINE_EQ_STATE (l.val + 1)

/-- Set the timing loop's state. -/
def State.setTl (s : State) (l : Fin 8) (v : Int) : State := s.setReg Ob.LINE_TL_STATE (l.val + 1) v

/-- Set the equaliser's state. -/
def State.setEq (s : State) (l : Fin 8) (v : Int) : State := s.setReg Ob.LINE_EQ_STATE (l.val + 1) v

/-- Change a lane's signal path. -/
def State.modDsp (s : State) (l : Fin 8) (f : Dsp → Dsp) : State := s.modRx l (fun x => { x with dsp := f x.dsp })

/-- LINE.TL_FREQ_PPB follows the rate word (R122). -/
def State.showW (s : State) (l : Fin 8) : State := s.setReg Ob.LINE_TL_FREQ_PPB (l.val + 1) (freqPpb s.rx[l].dsp.w)

/-! ## Marks -/

/-- REFCLK cycles that 16 blocks of 256 symbols take at a rate set, rounded up (R119, R134). -/
def cycleRefclk (rate : Nat) : Nat := if rate = Rate.N1 then 3 else 6

/-- A cause of a run of 16 marked blocks that acts now: the present block, and 16 from the next boundary on (R138). -/
def State.markRun (s : State) (l : Fin 8) : State := s.modDsp l (fun x => x.markFor x.block x.nextBlock)

/-- Whether the block that leaves the equaliser now is marked unsettled (R138). -/
def State.marked (s : State) (l : Fin 8) : Bool :=
  s.tl l != 2 || s.eqState l == 1 || s.eqState l == 2 || s.rx[l].dsp.inRun s.rx[l].dsp.block || s.rx[l].dsp.blkMark

/-! ## Banks -/

/-- The active bank (R131). -/
def State.bank (s : State) (l : Fin 8) : EqBank :=
  if s.reg Ob.LINE_EQ_ACTIVE_BANK (l.val + 1) = 0 then s.rx[l].bankA else s.rx[l].bankB

/-- The idle bank (R131). -/
def State.idleBank (s : State) (l : Fin 8) : EqBank :=
  if s.reg Ob.LINE_EQ_ACTIVE_BANK (l.val + 1) = 0 then s.rx[l].bankB else s.rx[l].bankA

/-- Write the idle bank. -/
def State.setIdle (s : State) (l : Fin 8) (b : EqBank) : State :=
  if s.reg Ob.LINE_EQ_ACTIVE_BANK (l.val + 1) = 0 then s.modRx l (fun x => { x with bankB := b })
  else s.modRx l (fun x => { x with bankA := b })

/-- Precursor and postcursor taps of a structure (R126). -/
def tapsOf (st : Nat) : Nat × Nat := match st with | 0 | 4 => (10, 30) | 1 => (6, 18) | _ => (4, 10)

/-- Whether a structure has a DFE tap, or the sequence detector (R126). -/
def hasDfe (st : Nat) : Bool := st == 1 || st == 2 || st == 4
def hasSeq (st : Nat) : Bool := st == 0

/-- A bank rebuilt for another structure (R135). -/
def rebuild (b : EqBank) (st : Nat) : EqBank :=
  let (pre, post) := tapsOf st
  { b with
    structureId := st
    ffe := (List.range 41).map (fun i => if 10 - pre ≤ i ∧ i ≤ 10 + post then b.ffe.getD i 0 else 0)
    dfe := if hasDfe st then (if b.structureId = 0 ∧ st = 4 then b.sd1 else b.dfe) else 0
    sd1 := if hasSeq st then (if b.structureId = 4 then b.dfe else b.sd1) else 0
    sd2 := if hasSeq st then (if b.structureId = 0 then b.sd2 else 0) else 0 }

/-- The DEFAULT seed for a structure (R133). -/
def defaultSeed (st : Nat) : EqBank := { structureId := st }

/-- The bank as LINE.EQ_FFE, LINE.EQ_DFE and LINE.EQ_LEVELS read it (R146). -/
def i16s (l : List Int) : List Byte := (l.map (leInt 2)).flatten
def State.eqFfe (s : State) (l : Fin 8) : List Byte := i16s (s.bank l).ffe
def State.eqDfe (s : State) (l : Fin 8) : List Byte := i16s [(s.bank l).dfe, (s.bank l).sd1, (s.bank l).sd2]
def State.eqLevels (s : State) (l : Fin 8) : List Byte := i16s (s.bank l).levels

/-- LINE.EQ_STRUCTURE: that of the active bank; while OFF, the one that mode and shed level select (R146). -/
def State.eqStructure (s : State) (l : Fin 8) : Nat :=
  if s.eqState l = 0 then s.laneStructure l else (s.bank l).structureId

/-! ## The loop's states -/

/-- The adaptation cycle of the present symbol (R120). -/
def State.cycleNo (s : State) (l : Fin 8) : Nat := s.rx[l].dsp.left / 4096

/-- Adaptation is halted by the shed level or the throttle step of a lane's port. -/
def State.laneHalted (s : State) (l : Fin 8) : Bool := match s.portOf l with | some p => s.adaptHalted p | none => false

/-- The cause of HELD: LINE.EQ_FREEZE at once, or adaptation halted by shed or throttle as the present cycle took it (R75, R134). -/
def State.eqHeldCause (s : State) (l : Fin 8) : Bool := s.flag Ob.LINE_EQ_FREEZE (l.val + 1) || s.rx[l].halted

/-- The bank that runs in TRACK is the LAST seed of its rate set and structure (R133). DEDUCED (log entry 183): TRACK of the equaliser,
and HELD that returns to it. -/
def State.noteLast (s : State) (l : Fin 8) : State :=
  if s.eqState l = 3 ∨ (s.eqState l = 4 ∧ !s.rx[l].heldConv) then
    let b := s.bank l
    s.modRx l (fun x => { x with last := (s.laneRate l, b) :: x.last.filter (fun e =>
      !(e.1 == s.laneRate l && e.2.structureId == b.structureId)) })
  else s

/-- Enter or leave HELD as its cause comes or goes (R134, R137): from CONVERGE only LINE.EQ_FREEZE is left to CONVERGE again. -/
def State.eqHold (s : State) (l : Fin 8) : State :=
  if s.eqHeldCause l then
    (if s.eqState l = 2 ∨ s.eqState l = 3 then
      (s.modRx l (fun x => { x with
        heldConv := s.eqState l == 2 && s.flag Ob.LINE_EQ_FREEZE (l.val + 1) && !s.rx[l].halted })).setEq l 4
    else s)
  else if s.eqState l = 4 then (s.setEq l (if s.rx[l].heldConv then 2 else 3)).noteLast l
  else s

/-- A cycle starts: its length, LINE.EQ_MU_SHIFT and LINE.EQ_SWAP_CYCLES, and whether adaptation is halted, are taken (R75, R134,
R147). -/
def State.cycleStart (s : State) (l : Fin 8) : State :=
  let n := l.val + 1
  let slow := match s.portOf l with | some p => s.slowAdapt p | none => false
  (s.modRx l (fun x => { x with halted := s.laneHalted l })).modDsp l (fun x => { x with
    cycStart := x.left, cycLen := if slow then 16384 else 4096, grad := [], gradBlocks := 0
    mu := s.nat Ob.LINE_EQ_MU_SHIFT n, swapCycles := s.nat Ob.LINE_EQ_SWAP_CYCLES n })

/-- Load the active bank from a seed, the idle bank with it, written in the present cycle, and drop every pending swap (R131,
R133). -/
def State.loadSeed (s : State) (l : Fin 8) (useDefault : Bool) : State :=
  let st := s.laneStructure l
  let found := s.rx[l].last.find? (fun e => e.1 == s.laneRate l && e.2.structureId == st)
  let seed := match found with
    | some e => if useDefault then defaultSeed st else e.2
    | none => defaultSeed st
  let seed := { seed with cycle := s.cycleNo l }
  (s.modRx l (fun x => { x with
    bankA := seed, bankB := seed, swap := none, structDue := false, structReady := false, conv := 0, sinceSwap := 0
    gradient := none, heldConv := false })).modDsp l (fun x => { x with roll := none })

/-- The loop enters ACQUIRE (R123, R133): w = 0, the seed loaded; from IDLE the symbol counter starts at 0 (R120). -/
def State.tlAcquire (s : State) (l : Fin 8) (useDefault : Bool) : State :=
  let s0 := if s.tl l = 0 then s.modDsp l Dsp.restart else s
  let s1 := ((s0.loadSeed l useDefault).modRx l (fun x => { x with
    retryRun := 0, precode := s.nat Ob.LINE_RX_PRECODE (l.val + 1) })).modDsp l Dsp.acquire
  ((((s1.cycleStart l).showW l).setTl l 1).setEq l 1)

/-- The loop leaves IDLE where its LRX domain is ON and its synthesiser locked (R123); never during a foreground calibration
(R93). -/
def State.tlStart (s : State) (l : Fin 8) : State :=
  if s.tl l = 0 ∧ s.on (Dom.lrx l) ∧ s.clocked l ∧ !s.calibrating l then s.tlAcquire l false else s

/-- The loop goes to IDLE: pending swaps and adaptation are discarded (R123, R137). -/
def State.tlIdle (s : State) (l : Fin 8) : State :=
  (((s.modRx l (fun x => { x with
    swap := none, structDue := false, structReady := false, gradient := none, conv := 0, sinceSwap := 0, eyeRun := false })).modDsp l
    (fun x => { x.restart with w := x.w })).setTl l 0).setEq l 0

/-- Whether a lane's light and clock hold the loop (R123). -/
def State.tlDark (s : State) (l : Fin 8) : Bool := s.flag Ob.LINE_LOS_RAW (l.val + 1) || !s.clocked l

/-- HOLD is entered or left as the light and the clock say (R123); leaving it marks a run (R138). -/
def State.tlLight (s : State) (l : Fin 8) : State :=
  if s.tl l = 2 ∧ s.tlDark l then s.setTl l 3
  else if s.tl l = 3 ∧ !s.tlDark l then (s.setTl l 2).markRun l
  else s

/-- LINE.TL_RESTART: only while the loop is not IDLE (R147). -/
def ownTlRestart (sub : Nat) (s : State) : Verdict :=
  if h : 1 ≤ sub ∧ sub ≤ 8 then
    let l : Fin 8 := ⟨sub - 1, by omega⟩
    if s.tl l = 0 then .deny St.CONFIG_CONFLICT else .done (s.tlAcquire l true) []
  else .deny St.NO_OBJECT

/-! ## Swaps -/

/-- Request a swap: it may take effect from the first boundary on that lies at least 2 blocks away; a request while one is pending is
merged (R132). -/
def State.requestSwap (s : State) (l : Fin 8) (q : EqSwap) : State :=
  s.modRx l (fun x => { x with swap := some (match x.swap with
    | some p => { p with adapt := p.adapt || q.adapt, structural := p.structural || q.structural, rollback := p.rollback || q.rollback }
    | none => { q with block := x.dsp.nextBlock + 2 }) })

/-- Whether a rebuilt idle bank waits for its swap (R135). -/
def State.structPending (s : State) (l : Fin 8) : Bool :=
  s.rx[l].structReady || (match s.rx[l].swap with | some q => q.structural | none => false)

/-- A change of mode, shed level or throttle step may want another structure (R135): it waits for the engine, and
replaces one that waits. -/
def State.structWant (s : State) (l : Fin 8) : State :=
  if s.tl l = 0 then s
  else
    let want := s.laneStructure l
    let coming := if s.structPending l then (s.idleBank l).structureId else (s.bank l).structureId
    if want = coming then s.modRx l (fun x => { x with structDue := false })
    else
      forEach (lineEngines l) (fun e s => s.trigger e 1 (cycleRefclk (s.laneRate l)))
        (s.modRx l (fun x => { x with structDue := true }))

/-- A requested swap takes effect (R132, R136, R138): the gradient of the cycle starts afresh on the new bank (R134). -/
def State.swapNow (s : State) (l : Fin 8) (q : EqSwap) : State :=
  let n := l.val + 1
  let old := s.bank l
  let new := s.idleBank l
  let checks := s.eqState l == 3 && q.adapt && !q.structural && !q.rollback
  let s1 := (s.modRx l (fun x => { x with bankA := new, bankB := new, swap := none, sinceSwap := 0 })).modDsp l (fun x => { x with
    grad := [], gradBlocks := 0
    roll := if checks then some {
      bank := old, before := ((x.errs.map (·.1)).sum, (x.errs.map (·.2)).sum) } else none })
  (((s1.setReg Ob.LINE_EQ_ACTIVE_BANK n (1 - s.reg Ob.LINE_EQ_ACTIVE_BANK n)).bump Ob.LINE_EQ_SWAP_COUNT n 1).markRun l).noteLast l

/-! ## Adaptation -/

/-- A coefficient: its number in the order of R144, its place in a gradient, its value, its range. -/
structure Coeff where
  num : Nat
  place : Nat
  val : Int
  lo : Int
  hi : Int

/-- The coefficients of a bank's structure (R127, R144). -/
def coeffs (b : EqBank) : List Coeff :=
  let (pre, post) := tapsOf b.structureId
  ((List.range (pre + post + 1)).map (fun i => ⟨i, 10 - pre + i, b.ffe.getD (10 - pre + i) 0, -2048, 2047⟩)) ++
  (if hasDfe b.structureId then [⟨41, 41, b.dfe, -512, 511⟩] else []) ++
  (if hasSeq b.structureId then [⟨42, 42, b.sd1, -512, 511⟩, ⟨43, 43, b.sd2, -512, 511⟩] else []) ++
  ((List.range 4).map (fun i => ⟨44 + i, 44 + i, b.levels.getD i 0, -512, 511⟩))

/-- What one unit of a coefficient is in the units of its gradient (R127). -/
def gradUnit (place : Nat) : Nat := if place ≤ 40 then 2 ^ 32 else if place ≤ 43 then 2 ^ 23 else 2 ^ 18

/-- A bank with one coefficient replaced, by its number (R144). -/
def setCoeff (b : EqBank) (k : Nat) (v : Int) : EqBank :=
  if k ≤ 40 then { b with ffe := b.ffe.set (10 - (tapsOf b.structureId).1 + k) v }
  else if k = 41 then { b with dfe := v }
  else if k = 42 then { b with sd1 := v }
  else if k = 43 then { b with sd2 := v }
  else { b with levels := b.levels.set (k - 44) v }

/-- The line engines of a lane that share its coefficients: those not halted for good, by number (R395). -/
def State.lineWorkers (s : State) (l : Fin 8) : List Nat :=
  (fins 8).filterMap (fun k => if s.eng[engineOf l ⟨k.val, by omega⟩].stuck then none else some k.val)

/-- The LMS update of the idle bank (R134): every coefficient of its structure moves by 2^-mu times its gradient over the blocks used,
clamped to its range with EQ_CLAMP (R127). DESIGN CHOICE (log entry 184): the move is rounded to a unit of the coefficient. -/
def State.adapt (s : State) (l : Fin 8) (g : CycleGrad) : State :=
  let n := l.val + 1
  if g.blocks = 0 then s
  else
    let ws := s.lineWorkers l
    forEach ((coeffs (s.idleBank l)).zipIdx) (fun c s =>
      let (k, j) := c
      -- the coefficient's engine, in counted order among the working ones (R395)
      let x := if ws.getD (j % max 1 ws.length) 8 ∈ s.rx[l].lostParts then k.val
        else k.val + roundDiv (g.sums.getD k.place 0) (g.blocks * 2 ^ g.mu * gradUnit k.place)
      let y := clampInt k.lo k.hi x
      let s1 := s.setIdle l { setCoeff (s.idleBank l) k.num y with cycle := s.cycleNo l }
      if x = y then s1
      else (s1.bump Ob.LINE_EQ_CLAMPS n 1).raise Src.EQ_CLAMP l.val (l.val + 256 * k.num) Ob.LINE_EQ_EVENTS n) s

/-! ## Samples -/

/-- What holds for a lane while samples pass. -/
def State.rxCtx (s : State) (l : Fin 8) : RxCtx :=
  let n := l.val + 1
  { rate := s.laneRate l, tl := (s.tl l).toNat, settling := s.eqState l == 1 || s.eqState l == 2
    adapting := s.tl l == 2 && (s.eqState l == 2 || s.eqState l == 3), bank := s.bank l, invert := s.flag Ob.LINE_RX_INVERT n
    bw := s.nat Ob.LINE_TL_BW_KHZ n, incl := s.flag Ob.LINE_STATS_INCL_UNSETTLED n
    lowSnr := s.rx[l].dsp.snrSeen && decide (s.reg Ob.LINE_SNR_DB n < 1536), trace := s.capTakes l 1 }

/-- The stamp of a lane's converter sample by its number: 1,474.56 samples to a REFCLK cycle (R59, R88). DEDUCED (log entry 186):
the lane's sample count, taken from the start of a cycle, is the count that the stamp is interpolated by. -/
def State.sampleStampAt (s : State) (k : Nat) : Stamp := s.stampIn (25 * k % 36864) 36864

/-- The capture buffer takes what it records of a stretch of samples (R331): raw codes from sample `k` on, detector inputs, decisions. -/
def State.capSamples (s : State) (l : Fin 8) (k : Nat) (codes : List Int) (inputs : List Int) (decided : List Nat) : State :=
  let at_ := (s.sampleStampAt s.adc[l].k).time
  let s1 := s.capRecord l 0 (codes.zipIdx.map (fun c => (leNat (leInt 1 (clampInt (-64) 63 c.1)), (s.sampleStampAt (k + c.2)).time)))
  let s2 := s1.capRecord l 1 (inputs.map (fun u => (leNat (leInt 2 (clampInt (-32768) 32767 (roundDiv u (2 ^ 17)))), at_)))
  s2.capRecord l 3 (decided.map (fun d => (d, at_)))

/-- The raw codes that a lane's converter took since its last command pass the lane's receive path (R64, R85, R118); UNSETTLED_BLOCKS
counts the marked blocks among them (R140). -/
def State.rxSamples (s : State) (l : Fin 8) (codes : List Int) : State :=
  if codes = [] ∨ !s.on (Dom.lrx l) then s
  else
    let n := l.val + 1
    let r := s.adc[l].takeAll (s.clocked l) codes
    let checks := s.reg Ob.TEST_LINE_CHK_STATE n != 0
    let (x, decided) := r.2.foldl (fun (a : Dsp × List Nat) w =>
      let y := a.1.word (s.rxCtx l) w
      (y, if s.capTakes l 3 || checks then a.2 ++ y.decisions a.1.staged else a.2)) (s.rx[l].dsp, [])
    let s1 := ((s.modAdcLane l (fun _ => r.1)).modDsp l (fun _ => { x with newMarked := 0, trace := [] })).bump64
      Ob.LINE_UNSETTLED_BLOCKS n x.newMarked
    -- the 32 blocks of a rollback check are complete: its task starts (R136, R394)
    let ready (y : Dsp) : Bool := y.roll.any (fun r => r.left == 0)
    let s1 := if ready x && !ready s.rx[l].dsp then
        forEach (lineEngines l) (fun e s => s.trigger e 2 (s.rx[l].dsp.swapCycles * cycleRefclk (s.laneRate l))) s1 else s1
    let s2 := s1.capSamples l s.adc[l].k codes x.trace.reverse decided
    let first := x.staged - decided.length
    let s3 := if checks then s2.lineCheck l (decided.zipIdx.map (fun d =>
        (d.1, !s.flag Ob.LINE_STATS_INCL_UNSETTLED n && x.anyMarked (first + d.2) 1))) else s2
    if s.tl l = 0 then s3 else s3.showW l

/-! ## Meanings -/

/-- TL_RESTART. -/
def execTlRestart (r : Req) (sub : Nat) (s : State) : Out :=
  .next (s.serve r .exec Ob.LINE_TL_RESTART sub [0] (ownTlRestart sub))

/-- TL_TRACK_ENTRY: after 64 consecutive blocks in ACQUIRE in which w changed by no more than 0.25 ppm, TRACK and CONVERGE are
entered, then HOLD or HELD where their causes stand (R123, R134). -/
def execTlTrackEntry (l : Fin 8) (codes : List Int) (s : State) : Out :=
  let s := s.rxSamples l codes
  if s.tl l = 1 ∧ 64 ≤ s.rx[l].dsp.steady then
    let s1 := (((s.modRx l (fun x => { x with retryRun := 0, conv := 0, sinceSwap := 0, halted := s.laneHalted l })).modDsp l (fun x => { x with
      ws := [x.w], low := 0, snrSeen := false })).setTl l 2).setEq l 2
    .next ((s1.eqHold l).tlLight l)
  else .next s

/-- TL_ACQUIRE_RETRY: w at its limit, or 2,048 blocks without TRACK: w = 0 and the count; the eighth consecutive retry raises
TL_ACQ_RETRY (R123, R144). -/
def execTlAcquireRetry (l : Fin 8) (codes : List Int) (s : State) : Out :=
  let n := l.val + 1
  let s := s.rxSamples l codes
  if s.tl l = 1 ∧ (s.rx[l].dsp.w.natAbs = wLimit.natAbs ∨ 2048 ≤ s.rx[l].dsp.acq) then
    let k := s.rx[l].retryRun + 1
    let s1 := (((s.modRx l (fun x => { x with retryRun := k })).modDsp l Dsp.acquire).showW l).bump Ob.LINE_TL_RETRIES n 1
    .next (if k = 8 then s1.raise Src.TL_ACQ_RETRY l.val (l.val + 256 * 8) Ob.LINE_EQ_EVENTS n else s1)
  else .next s

/-- Why a loop in TRACK loses its lock now (R123, R144): 0 w at its limit, 1 w moved by more than 20 ppm within 1,024 blocks, 2 a low
SNR for 1,024 blocks; none where it does not. DEDUCED (log entry 185): the SNR counts from the first figure measured in TRACK. -/
def State.lockLoss (s : State) (l : Fin 8) : Option Nat :=
  let x := s.rx[l].dsp
  if s.tl l ≠ 2 then none
  else if x.w.natAbs = wLimit.natAbs then some 0
  else if x.ws ≠ [] ∧ 85899 < x.ws.foldl max x.w - x.ws.foldl min x.w then some 1
  else if 1024 ≤ x.low then some 2
  else none

/-- TL_LOCK_LOSS: from TRACK back to ACQUIRE with the DEFAULT seed (R123, R144); the detail holds the rate at the loss. -/
def execTlLockLoss (l : Fin 8) (codes : List Int) (s : State) : Out :=
  let n := l.val + 1
  let s := s.rxSamples l codes
  match s.lockLoss l with
  | some code =>
    let khz := (s.reg Ob.LINE_TL_FREQ_PPB n).tdiv 1000 % 65536
    let s2 := (s.bump Ob.LINE_TL_LOCK_LOSS n 1).raise Src.TL_LOCK_LOSS l.val
      (l.val + 256 * code + 65536 * khz.toNat) Ob.LINE_EQ_EVENTS n
    .next (s2.tlAcquire l true)
  | none => .next s

/-- ADAPT_CYCLE_END: a cycle of 4,096 or 16,384 symbols ends (R120, R134): where the equaliser adapts, its gradient is ready and the
ADAPT task is triggered on the lane's engines (R394); a rebuilt bank's swap is requested (R135); the next cycle takes its
figures, and HELD begins or ends with it (R75, R147). -/
def execAdaptCycleEnd (l : Fin 8) (codes : List Int) (s : State) : Out :=
  let s := s.rxSamples l codes
  let x := s.rx[l].dsp
  if s.tl l ≠ 0 ∧ x.left % 256 = 0 ∧ x.cycStart + x.cycLen ≤ x.left then
    let adapting := s.tl l == 2 && (s.eqState l == 2 || s.eqState l == 3)
    let s1 := s.modRx l (fun r => { r with
      gradient := if adapting then some ⟨x.grad, x.gradBlocks, x.mu, x.swapCycles⟩ else none, lostParts := []
      conv := if adapting && s.eqState l == 2 then r.conv + 1 else r.conv
      sinceSwap := if adapting then r.sinceSwap + 1 else r.sinceSwap })
    let len := cycleRefclk (s.laneRate l) * (x.cycLen / 4096)
    let s2 := if adapting then forEach (lineEngines l) (fun e s => s.trigger e 0 len) s1 else s1
    let s3 := if s2.rx[l].structReady then
        (s2.modRx l (fun r => { r with structReady := false })).requestSwap l { structural := true } else s2
    .next ((s3.cycleStart l).eqHold l)
  else .next s

/-- ADAPT_TASK_DONE: the engines write the update to the idle bank; a swap is requested after each cycle in CONVERGE,
and in TRACK after LINE.EQ_SWAP_CYCLES cycles; in HELD none (R134). -/
def execAdaptTaskDone (l : Fin 8) (s : State) : Out :=
  if s.anyWorks (lineEngines l) then
    let s1 := (forEach (lineEngines l) (fun e s => s.jobDone e 0) s).modRx l (fun x => { x with gradient := none, lostParts := [] })
    match s.rx[l].gradient with
    | some g =>
      if s.tl l = 2 then
        let s2 := (s.adapt l g).modRx l (fun x => { x with gradient := none, lostParts := [] })
        let s3 := forEach (lineEngines l) (fun e s => s.jobDone e 0) s2
        .next (if s.eqState l = 2 ∨ (s.eqState l = 3 ∧ g.swapCycles ≤ s.rx[l].sinceSwap) then s3.requestSwap l { adapt := true } else s3)
      else .next s1
    | none => .next s1
  else .next s

/-- EQ_CONVERGE_END: after 32 cycles the equaliser is in TRACK (R134). -/
def execEqConvergeEnd (l : Fin 8) (s : State) : Out :=
  if s.eqState l = 2 ∧ 32 ≤ s.rx[l].conv then
    .next (((s.setEq l 3).modRx l (fun x => { x with sinceSwap := 0 })).noteLast l)
  else .next s

/-- BANK_SWAP: at a block boundary at least 2 blocks after its request a swap takes effect; during HOLD and across a discard gap it is
deferred (R132, R137), and a bank that a later structural change has overtaken is not put into service (R46). -/
def execBankSwap (l : Fin 8) (codes : List Int) (s : State) : Out :=
  let s := s.rxSamples l codes
  let x := s.rx[l].dsp
  match s.rx[l].swap with
  | some q =>
    if (s.tl l = 1 ∨ s.tl l = 2) ∧ x.left % 256 = 0 ∧ q.block ≤ x.block ∧ x.gapWords = 0 ∧ !x.inGap ∧
        !(s.rx[l].structDue ∧ q.structural) then .next (s.swapNow l q)
    else .next s
  | none => .next s

/-- ROLLBACK_CHECK: the mean squared errors of the 16 blocks before and after a TRACK swap; more than doubled, the previous
coefficients are restored, unless a structural change is pending or the equaliser is HELD (R134, R136, R137). -/
def execRollbackCheck (l : Fin 8) (codes : List Int) (s : State) : Out :=
  let n := l.val + 1
  let s := s.rxSamples l codes
  match s.rx[l].dsp.roll with
  | some r =>
    if r.left ≠ 0 then .next s
    else
      let s1 := s.modDsp l (fun x => { x with roll := none })
      let (n0, e0) := r.before
      let (n1, e1) := r.after
      if 2 * e0 * n1 < e1 * n0 ∧ !(s.structPending l || s.rx[l].structDue) ∧ s.tl l = 2 ∧ s.eqState l = 3 then
        let ratio := if e0 * n1 = 0 then 65535 else min 65535 (e1 * n0 * 16 / (e0 * n1))
        .next ((((s1.setIdle l { r.bank with cycle := s.cycleNo l }).requestSwap l { rollback := true }).bump Ob.LINE_EQ_ROLLBACKS n 1).raise
          Src.EQ_ROLLBACK l.val (l.val + 65536 * ratio) Ob.LINE_EQ_EVENTS n)
      else .next s1
  | none => .next s

/-- STRUCTURAL_CHANGE: the engine builds the wanted structure in the idle bank, from the adapted idle bank where an adaptation swap is
due, else from the active bank; the swap is requested at the end of the cycle (R135, R137). -/
def execStructuralChange (l : Fin 8) (s : State) : Out :=
  if s.rx[l].structDue ∧ s.tl l ≠ 0 ∧ s.anyWorks (lineEngines l) then
    let adapted := !s.structPending l && (match s.rx[l].swap with | some q => q.adapt | none => false)
    let b := if adapted then s.idleBank l else s.bank l
    let s1 := s.setIdle l { rebuild b (s.laneStructure l) with cycle := s.cycleNo l }
    let s2 := forEach (lineEngines l) (fun e s => s.jobDone e 1) s1
    let already := match s.rx[l].swap with | some q => q.structural | none => false
    .next (s2.modRx l (fun x => { x with structDue := false, structReady := !already }))
  else .next s

/-- A write of LINE.RX_INVERT: from the next block of the resampler on, whose first 16 blocks are marked (R130). -/
def ownRxInvert (sub : Nat) (v : Int) (s : State) : Verdict :=
  let s1 := s.setReg Ob.LINE_RX_INVERT sub v
  if h : 1 ≤ sub ∧ sub ≤ 8 then
    .done (s1.modDsp ⟨sub - 1, by omega⟩ (fun x => x.markFor ((x.sym + 255) / 256) ((x.sym + 255) / 256))) []
  else .deny St.NO_OBJECT

/-- LINE_RX_INVERT_WRITE. -/
def execLineRxInvertWrite (r : Req) (sub v : Nat) (s : State) : Out :=
  .next (s.serve r .write Ob.LINE_RX_INVERT sub (leBytes 1 v) (ownRxInvert sub (leNat (leBytes 1 v))))

/-- A write of LINE.EQ_FREEZE (R134, R137): set, adaptation stops with the bank last installed. -/
def ownEqFreeze (sub : Nat) (v : Int) (s : State) : Verdict :=
  let s1 := s.setReg Ob.LINE_EQ_FREEZE sub v
  if h : 1 ≤ sub ∧ sub ≤ 8 then
    let l : Fin 8 := ⟨sub - 1, by omega⟩
    .done ((if v = 1 then s1.modRx l (fun x => { x with gradient := none }) else s1).eqHold l) []
  else .deny St.NO_OBJECT

/-- EQ_FREEZE_WRITE. -/
def execEqFreezeWrite (r : Req) (sub v : Nat) (s : State) : Out :=
  .next (s.serve r .write Ob.LINE_EQ_FREEZE sub (leBytes 1 v) (ownEqFreeze sub (leNat (leBytes 1 v))))

/-- LINE.EYE_CAPTURE: starts, or restarts, a histogram capture of LINE.EYE_SYMBOLS symbols (R143, R147). -/
def ownEyeCapture (sub : Nat) (s : State) : Verdict :=
  if h : 1 ≤ sub ∧ sub ≤ 8 then
    .done ((s.modRx ⟨sub - 1, by omega⟩ (fun x => { x with eyeRun := true })).modDsp ⟨sub - 1, by omega⟩ (fun x => { x with
      eyeLeft := s.nat Ob.LINE_EYE_SYMBOLS sub, eye := List.replicate 512 0, blkEye := [] })) []
  else .deny St.NO_OBJECT

/-- EYE_CAPTURE. -/
def execEyeCapture (r : Req) (sub : Nat) (s : State) : Out :=
  .next (s.serve r .exec Ob.LINE_EYE_CAPTURE sub [0] (ownEyeCapture sub))

/-- EYE_CAPTURE_DONE: with LINE.EYE_SYMBOLS symbols counted, the histogram freezes and the eye height follows (R143). -/
def execEyeCaptureDone (l : Fin 8) (codes : List Int) (s : State) : Out :=
  let n := l.val + 1
  let s := s.rxSamples l codes
  if s.rx[l].eyeRun ∧ s.rx[l].dsp.eyeLeft = 0 then
    let e := s.rx[l].dsp.eye
    let of (k : Nat) : List Nat := (List.range 128).map (fun i => e.getD (128 * k + i) 0)
    let bins := (List.range 128).map (fun i => ((List.range 4).map (fun k => e.getD (128 * k + i) 0)).sum)
    .next ((((s.modRx l (fun x => { x with eyeRun := false })).modDsp l (fun x => { x with eye := [] })).setBlob Ob.LINE_EYE_HIST n
      ((bins.map (fun c => leBytes 4 (min c (2 ^ 32 - 1)))).flatten)).setReg Ob.LINE_EYE_HEIGHT n
      (clampInt (-32768) 32767 (eyeHeight #v[of 0, of 1, of 2, of 3])))
  else .next s

end Sys2Proof.Machine
end

