-- ==== Sys2Proof/Machine/Rx.lean ====
section
/-! DEFINITION. The converter's commands that reach the timing loop: windows, the loss-of-signal detector, the sampling
synthesiser's lock and the end of a foreground calibration (chapters 4 and 5). -/

namespace Sys2Proof.Machine

/-- A root mean square in units of 0.001 LSB from a sum of squares in units of 2^-4 LSB² over `n` samples. -/
def rmsMilli (sumSq n : Nat) : Nat := if n = 0 then 0 else min 65535 (sqrtRoundDiv (sumSq * 1000000) (16 * n))
where
  /-- The square root of a quotient, rounded to the nearest integer. -/
  sqrtRoundDiv (a b : Nat) : Nat := searchUp (fun r => r == 0 || decide ((2 * r - 1) * (2 * r - 1) * b ≤ 4 * a)) 32 0

/-- The level, mean and clip rate of a window, and of the last 100 (R105). -/
def State.levels (s : State) (l : Fin 8) (m : AdcWin) : State :=
  let k := l.val + 1
  let hist := ((m.n, m.clips) :: s.adc[l].clips).take 100
  let total := (hist.map (·.1)).sum
  let rate := if total = 0 then 0 else roundDiv (((hist.map (·.2)).sum * 1000000000 : Nat)) total
  ((((s.modAdcLane l (fun a => { a with clips := hist })).setReg Ob.LINE_SIGNAL_RMS k (rmsMilli m.sq m.n : Nat)).setReg
    Ob.LINE_SIGNAL_DC k (if m.n = 0 then 0 else clampInt (-32768) 32767 (roundDiv (1000 * m.sum) (4 * m.n)))).setReg
    Ob.LINE_CLIP_RATE k rate)

/-- The loss-of-signal detector (R106). -/
def State.losDetect (s : State) (l : Fin 8) : State :=
  let k := l.val + 1
  let rms := s.reg Ob.LINE_SIGNAL_RMS k
  let low := if rms < s.reg Ob.LINE_LOS_ASSERT k then s.adc[l].lowRun + 1 else 0
  let high := if s.reg Ob.LINE_LOS_DEASSERT k ≤ rms then s.adc[l].highRun + 1 else 0
  let s1 := s.modAdcLane l (fun a => { a with lowRun := min low 2, highRun := min high 4 })
  if 2 ≤ low ∧ !s.flag Ob.LINE_LOS_RAW k then
    ((s1.modAdcLane l (fun a => { a with dark := [] })).setReg Ob.LINE_LOS_RAW k 1)
  else if 4 ≤ high ∧ s.flag Ob.LINE_LOS_RAW k then (s1.setReg Ob.LINE_LOS_RAW k 0).floorInvalid l
  else s1

/-- The background accumulations of a window (R99, R100): offset from every sample, gain and skew from windows in light
with a clip fraction of at most 10^-3. One sample in 128 is a sub-ADC's. -/
def State.accumulate (s : State) (l : Fin 8) (m : AdcWin) (dark : Bool) : State :=
  if s.clocked l ∧ 2 ≤ s.reg Ob.LINE_ADC_STATE (l.val + 1) then
    let good := !dark && decide (m.clips * 1000 ≤ m.n)
    s.modAdcLane l (fun a => { a with
      bgN := min (2 ^ 24) (a.bgN + m.all / 128), gsN := if good then min (2 ^ 24) (a.gsN + m.all / 128) else a.gsN
      wins := a.wins + 1, darkWins := a.darkWins + dark.toNat })
  else s

/-- LINE.NOISE_FLOOR_UA (R111): the TIA's part of the floor, input-referred, in units of 0.001 µA. -/
def noiseUa (floor self zt : Nat) : Nat :=
  if zt = 0 then 0xFFFF
  else if floor ≤ self then 0
  else min 65534 (searchUp (fun r => r == 0 || decide ((2 * r - 1) * (2 * r - 1) * (zt * zt * 100) ≤
    4 * ((floor * floor - self * self) * (46875 * 46875)))) 32 0)

/-- LINE.NOISE_FLOOR_UA of a window, from the floor as it stands and LINE.TIA_ZT_OHM (R111, R117). -/
def State.noiseUaNow (s : State) (l : Fin 8) : State :=
  let k := l.val + 1
  let f := s.nat Ob.LINE_NOISE_FLOOR_LSB k
  s.setReg Ob.LINE_NOISE_FLOOR_UA k
    (if f = 0xFFFF then 0xFFFF else (noiseUa f (s.nat Ob.LINE_ADC_SELF_NOISE_LSB k) (s.nat Ob.LINE_TIA_ZT_OHM k) : Nat))

/-- The noise floor of a window wholly in the dark (R110). DESIGN CHOICE (log entry 182): a ramp restarts the count of 100 windows, and
until it is full again a valid LINE.NOISE_FLOOR_LSB keeps its last value. -/
def State.noiseFloor (s : State) (l : Fin 8) (m : AdcWin) : State :=
  let moving := s.adc[l].ramped || s.ramping l
  let dark := if moving then [] else ((m.n, m.sq, m.sum) :: s.adc[l].dark).take 100
  let s1 := s.modAdcLane l (fun a => { a with dark := dark })
  if dark.length < 100 then s1.noiseUaNow l
  else
    let n : Nat := (dark.map (·.1)).sum
    let sq : Nat := (dark.map (·.2.1)).sum
    let sm : Int := (dark.map (·.2.2)).sum
    -- n² times the variance is n · Σx² − (Σx)²
    let f := min 65534 (rmsMilli ((n : Int) * sq - sm * sm).toNat (n * n))
    (s1.setReg Ob.LINE_NOISE_FLOOR_LSB (l.val + 1) (f : Int)).noiseUaNow l

/-- The quality figures of a window's blocks (R140 to R142); a window without a qualifying symbol leaves them. -/
def State.quality (s : State) (l : Fin 8) : State :=
  let k := l.val + 1
  let x := s.rx[l].dsp
  let incl := s.flag Ob.LINE_STATS_INCL_UNSETTLED k
  let n := x.settled.1 + (if incl then x.marked.1 else 0)
  let err := x.settled.2 + (if incl then x.marked.2 else 0)
  let s1 := s.modDsp l (fun x => { x with settled := (0, 0), marked := (0, 0), snrSeen := x.snrSeen || decide (n ≠ 0) })
  if n = 0 then s1
  else
    let mse := min (2 ^ 32 - 1) (roundDiv (err : Int) n).toNat
    let snr := snrUnits mse
    ((s1.setReg Ob.LINE_MSE k (mse : Int)).setReg Ob.LINE_SNR_DB k (snr : Int)).setReg Ob.LINE_BER_EST k
      (min (2 ^ 32 - 1) (berEst snr) : Nat)

/-- ADC_WINDOW: the end of a window (R99, R105, R106, R110, R123, R141). The noise floor counts windows wholly within the set state
of LINE.LOS_RAW. -/
def execAdcWindow (l : Fin 8) (codes : List Int) (s : State) : Out :=
  let k := l.val + 1
  if s.on (Dom.lrx l) then
    let s := s.rxSamples l codes
    let m := s.adc[l].win
    let was := s.flag Ob.LINE_LOS_RAW k
    let s1 := ((s.levels l m).accumulate l m was)
    let s2 := if was ∧ s.clocked l ∧ 2 ≤ s.reg Ob.LINE_ADC_STATE k then s1.noiseFloor l m else s1
    let s3 := (s2.losDetect l).modAdcLane l (fun a => { a with ramped := false, win := {} })
    .next ((s3.quality l).tlLight l)
  else .next s

/-- Whether a lane's receiver is wanted: its port is in SEARCH, ALIGNED, CARRYING or DRAINING with no rate change running,
or in a TEST sequence that uses the line receiver (R123, R321). -/
def State.rxWanted (s : State) (l : Fin 8) : Bool :=
  match s.portOf l with
  | some p =>
    let st := s.pstate p
    (decide (2 ≤ st) && decide (st ≤ 5) && !s.flag Ob.PORT_RATE_CHANGING (p.val + 1)) ||
      (st == PS.TEST && (s.test[p].kind == 1 || s.test[p].kind == 6))
  | none => false

/-- A half's receive lanes after its synthesiser's lock: waiting loops start, held ones resume (R123). -/
def State.relocked (s : State) (h : Fin 2) : State :=
  forEach (lanesOfHalf h) (fun l s => (if s.rxWanted l then s.tlStart l else s).tlLight l) (s.synthLocked h)

/-- RXSYNTH_RELOCK: lock is detected on the selected band (R89). -/
def execRxsynthRelock (h : Fin 2) (s : State) : Out :=
  let y := s.rxsynth[h]
  .next (if s.on (Dom.synth h) ∧ !y.locked ∧ !y.selecting ∧ y.band then s.relocked h else s)

end Sys2Proof.Machine
end

