-- ==== Sys2Proof/Machine/Hk.lean ====
section
/-! DEFINITION. The housekeeping converters, filters, auxiliary DACs and PWM outputs (chapter 14). -/

namespace Sys2Proof.Machine

/-! ## Accessors -/

/-- Whether the housekeeping blocks work: HK is ON, outside the safe state (R388). -/
def State.hkLive (s : State) : Bool := s.on Dom.HK && s.reg Ob.DICT_STATE 0 != 3

/-- Change a converter. -/
def State.modConv (s : State) (c : Fin 4) (f : HkConv → HkConv) : State :=
  { s with hk := { s.hk with conv := s.hk.conv.set c (f s.hk.conv[c]) } }

/-- Change a filter channel. -/
def State.modChan (s : State) (k : Fin 16) (f : HkChan → HkChan) : State :=
  { s with hk := { s.hk with chan := s.hk.chan.set k (f s.hk.chan[k]) } }

/-- Change an auxiliary DAC channel. -/
def State.modAdac (s : State) (k : Fin 16) (f : Adac → Adac) : State :=
  { s with hk := { s.hk with adac := s.hk.adac.set k (f s.hk.adac[k]) } }

/-- Change a PWM output. -/
def State.modPwm (s : State) (i : Fin 4) (f : Pwm → Pwm) : State :=
  { s with hk := { s.hk with pwm := s.hk.pwm.set i (f s.hk.pwm[i]) } }

/-! ## Auxiliary DACs -/

/-- Give a channel a code that waits for a LOAD (R383). -/
def State.adacPut (s : State) (k : Fin 16) (code : Nat) : State := s.modAdac k (fun a => { a with pend := some code })

/-- A LOAD strobe from a source: every pending code becomes its channel's target (R383). Two different sources in one
microsecond count as one LOAD (R389). -/
def State.adacLoad (s : State) (src : Nat) : State :=
  let merged : Bool := match s.hk.loadAt with
    | some (t, o) => o != src && decide ((s.time.now - t) * 4 < 625)
    | none => false
  let s1 := { s with hk := { s.hk with
    loadAt := some (s.time.now, src)
    adac := s.hk.adac.map (fun (a : Adac) => match a.pend with | some c => { pend := none, target := c } | none => a) } }
  if merged then s1 else s1.bump Ob.HK_LOAD_COUNT 0 1

/-- One slew step of a channel towards its target (R384). -/
def State.adacStep (s : State) (k : Fin 16) : State :=
  let out := s.nat Ob.HK_ADAC_OUT (k.val + 1)
  let t := s.hk.adac[k].target
  let step := s.nat Ob.HK_ADAC_SLEW_STEP (k.val + 1)
  let out' := if out < t then min t (out + step) else max t (out - step)
  s.setReg Ob.HK_ADAC_OUT (k.val + 1) (out' : Int)

/-- Whether a channel is in a lane's OPTICS.BIAS_MAP as it stands (R260). -/
def State.mapped (s : State) (l : Fin 8) (k : Fin 16) : Bool := bitOf (s.nat Ob.OPTICS_BIAS_MAP (l.val + 1)) k.val

/-- The lane whose bias map holds a channel. -/
def State.mapLane (s : State) (k : Fin 16) : Option (Fin 8) := (fins 8).find? (fun l => s.mapped l k)

/-- The mapped channels of a lane. -/
def State.biasChans (s : State) (l : Fin 8) : List (Fin 16) := (fins 16).filter (fun k => bitOf s.tx[l].bias k.val)

/-- The code an up bias step gives a channel: the one programmed, or for the power loop's channel the last the loop held
(R258, R263). -/
def State.upCode (s : State) (l : Fin 8) (k : Fin 16) : Nat :=
  match s.tx[l].apcCode with
  | some c => if s.tx[l].apc ∧ s.tx[l].apcDac = k.val then c
    else s.nat Ob.HK_ADAC_CODE (k.val + 1)
  | none => s.nat Ob.HK_ADAC_CODE (k.val + 1)

/-- A bias step's start: the up codes, or code 0, to the mapped channels, then a software LOAD (R258, R386). -/
def State.biasStart (s : State) (l : Fin 8) (up : Bool) : State :=
  let chans := s.biasChans l
  if chans = [] then s else (forEach chans (fun k s => s.adacPut k (if up then s.upCode l k else 0)) s).adacLoad 0

/-! ## Filter changes -/

/-- Inputs in the span of a channel's chain (R380). -/
def State.span (s : State) (k : Fin 16) : Nat :=
  s.nat Ob.HK_FILT_CIC_R (k.val + 1) * (51 + 8 * s.nat Ob.HK_FILT_FIR_D (k.val + 1))

/-- A change for a channel: its outputs are unsettled and its detectors empty (R380, R381). -/
def State.chanChange (s : State) (k : Fin 16) : State :=
  let n := k.val + 1
  (((((s.modChan k (fun c => { c with inputs := 0, outs := [], env := 0 })).setReg Ob.HK_FILT_UNSETTLED n 1).setReg
    Ob.HK_PEAK_MAX n 0xFFFF).setReg Ob.HK_PEAK_MIN n 0xFFFF).setReg Ob.HK_RMS n 0xFFFF).setReg Ob.HK_ENVELOPE n 0xFFFF

/-- A change for every channel (R380). -/
def State.chanChangeAll (s : State) : State := forEach (fins 16) (fun k s => s.chanChange k) s

/-! ## Converters -/

/-- The channels of a scan list (R370). -/
def scanChans (b : List Byte) : List Nat :=
  match b with
  | n :: rest => (rest.take n.toNat).map (·.toNat)
  | [] => []

/-- The scan list of a converter. -/
def State.scan (s : State) (c : Fin 4) : List Nat := scanChans (s.blob Ob.HK_SCAN (c.val + 1))

/-- Whether a converter is in a joined pair (R373). -/
def State.paired (s : State) (c : Fin 4) : Bool := bitOf s.hk.pair (c.val / 2)

/-- The channel a converter samples next (R370, R373). -/
def State.nextChannel (s : State) (c : Fin 4) : Nat :=
  if s.paired c then s.nat Ob.HK_PAIR_INPUT (c.val / 2 + 1)
  else (s.scan c).getD s.hk.conv[c].pos 0

/-- The corrected code of a raw code: the converter's factors, rounded and clamped (R374). -/
def correctedCode (off gain : Int) (r : Nat) : Nat :=
  (clampInt 0 16383 (roundDiv ((16 * (r : Int) - off) * (65536 + gain)) (16 * 65536))).toNat

/-- Build a result word (R376). -/
def resultWord (overrun valid : Bool) (seq ch code : Nat) : Nat :=
  overrun.toNat * 2 ^ 31 + valid.toNat * 2 ^ 30 + seq % 64 * 2 ^ 24 + ch % 16 * 2 ^ 16 + code

/-- Feed a sample into a channel's chain (R377, R380). -/
def State.feed (s : State) (ch code : Nat) : State :=
  if h : ch < 16 then
    let k : Fin 16 := ⟨ch, h⟩
    if s.flag Ob.HK_FILT_ENABLE (ch + 1) then
      let n := s.span k
      -- the span of the chain, and the inputs that may have followed its last decimated output
      let keep := n + s.nat Ob.HK_FILT_CIC_R (ch + 1) * s.nat Ob.HK_FILT_FIR_D (ch + 1)
      s.modChan k (fun c => { c with
        hist := (code :: c.hist).take keep, count := c.count + 1, at_ := s.time.now, inputs := min n (c.inputs + 1) })
    else s
  else s

/-- One converter's conversion: its result object, its place in the list, and the channel's input. -/
def State.convert (s : State) (raw : Vector Nat 4) (c : Fin 4) : State :=
  let ch := s.nextChannel c
  let code := correctedCode (s.reg Ob.HK_CAL_OFFSET (c.val + 1)) (s.reg Ob.HK_CAL_GAIN (c.val + 1)) raw[c]
  let v := s.hk.conv[c]
  let old := s.nat Ob.HK_ADC_RESULT (c.val + 1)
  let seq := (v.seq + 1) % 64
  let len := (s.scan c).length
  let pos := if s.paired c ∨ len = 0 then v.pos else (v.pos + 1) % len
  ((s.setReg Ob.HK_ADC_RESULT (c.val + 1) (resultWord (v.unread || bitOf old 31) true seq ch code : Nat)).modConv c
    (fun _ => { pos := pos, unread := true, seq := seq })).feed ch code

/-- The trigger period in force, in units of 10 ns (R371, R372, R392). -/
def State.trigPeriod (s : State) : Nat :=
  if s.reg Ob.HK_TRIG_STATE 0 = 3 ∨ s.hk.source = 5 then 50
  else if s.hk.source = 0 then s.hk.timer
  else (s.hk.pwm.toList.getD (s.hk.source - 1) {}).period

/-- Input samples of a channel for each trigger, as a fraction: numerator and denominator (R370, R373). -/
def State.inputsPerTrigger (s : State) (ch : Nat) : Option (Nat × Nat) :=
  let pairHit := (fins 2).find? (fun i => bitOf s.hk.pair i.val && s.nat Ob.HK_PAIR_INPUT (i.val + 1) == ch)
  match pairHit with
  | some _ => some (2, 1)
  | none =>
    match (fins 4).find? (fun c => !s.paired c && (s.scan c).contains ch) with
    | some c => some (1, (s.scan c).length)
    | none => none

/-- Whether an output rate fits a channel's input rate (R377). -/
def State.rateFits (s : State) (k : Fin 16) (rate r d : Nat) : Bool :=
  match s.inputsPerTrigger k.val with
  | some (n, l) => decide (rate * r * d * l * s.trigPeriod ≤ 100000000 * n)
  | none => true

/-- Whether a channel gives outputs: enabled, in a list, and with rates that agree (R377). -/
def State.chanRuns (s : State) (k : Fin 16) : Bool :=
  s.flag Ob.HK_FILT_ENABLE (k.val + 1) && (s.inputsPerTrigger k.val).isSome &&
  s.rateFits k (s.nat Ob.HK_FILT_RATE_HZ (k.val + 1)) (s.nat Ob.HK_FILT_CIC_R (k.val + 1))
    (s.nat Ob.HK_FILT_FIR_D (k.val + 1))

/-! ## The filter chain (R377) -/

/-- The impulse response of three running sums over `r` inputs, at place `i`. -/
def boxCoef (r i : Nat) : Int :=
  let c (k : Int) : Int := if k < 0 then 0 else (k + 2) * (k + 1) / 2
  c i - 3 * c (i - r) + 3 * c (i - 2 * r)

/-- The CIC's output at the newest of the inputs, newest first, times its gain of R^3. -/
def cicAt (r : Nat) (h : List Nat) : Int := ((h.take (3 * r - 2)).zipIdx.map (fun x => boxCoef r x.2 * (x.1 : Nat))).sum

/-- The FIR's output over CIC outputs `r` inputs apart, in units of 2^-15. -/
def firAt (taps : List Int) (r : Nat) (h : List Nat) : Int := (taps.zipIdx.map (fun t => t.1 * cicAt r (h.drop (r * t.2)))).sum

/-- An output of the chain: the resampler's 8 taps at a phase over FIR outputs `r * d` inputs apart (R377, R378). DESIGN CHOICE (log entry
206): exact inside, rounded once. -/
def chainOut (taps : List Int) (r d phase : Nat) (h : List Nat) : Nat :=
  (clampInt 0 16383 (roundDiv (((List.range 8).map (fun j => Config.hkRom phase j * firAt taps r (h.drop (r * d * j)))).sum)
    (r ^ 3 * 2 ^ 30))).toNat

/-- The coefficients of a channel's set in the active bank (R379). -/
def State.firSet (s : State) (k : Fin 16) : List Byte :=
  ((s.blob Ob.HK_FIR_ACTIVE 0).drop (96 * s.nat Ob.HK_FILT_SET (k.val + 1))).take 96

/-- Taps in Q1.15 from their bytes (R379). -/
def tapsOfBytes (b : List Byte) : List Int := (List.range 48).map (fun i => toSigned 2 (leNat ((b.drop (2 * i)).take 2)))

/-- The output of a channel now (R377, R378): its decimators count from the first input, and the resampler's phase is the time since the
newest FIR output in 64ths of the time between two of them. -/
def State.chanOut (s : State) (k : Fin 16) : Nat :=
  let c := s.hk.chan[k]
  let r := s.nat Ob.HK_FILT_CIC_R (k.val + 1)
  let d := s.nat Ob.HK_FILT_FIR_D (k.val + 1)
  let (n, l) := (s.inputsPerTrigger k.val).getD (1, 1)
  let late := c.count % (r * d)
  let num := (s.time.now - c.at_) * 64 * n + late * s.trigPeriod * l * 100
  let den := r * d * s.trigPeriod * l * 100
  chainOut (tapsOfBytes (s.firSet k)) r d (min 63 (64 * num / den)) (c.hist.drop late)

/-- The integer square root by trial of bits from `b` down. -/
def isqrtFrom (n : Nat) : Nat → Nat → Nat
  | 0, acc => acc
  | b + 1, acc => isqrtFrom n b (if (acc + 2 ^ b) * (acc + 2 ^ b) ≤ n then acc + 2 ^ b else acc)

/-- The square root of `a / b`, rounded to the nearest integer, for quotients below 2^80. -/
def sqrtRatio (a b : Nat) : Nat :=
  let r := isqrtFrom (a / b) 41 0
  if (2 * r + 1) * (2 * r + 1) * b ≤ 4 * a then r + 1 else r

/-- Whether the trigger selected can come: a PWM source's output runs (R371, R389). -/
def State.trigArmed (s : State) : Bool :=
  let src := s.nat Ob.HK_TRIG_SOURCE 0
  src == 0 || src == 5 || s.flag Ob.HK_PWM_ENABLE src

/-- A trigger takes the trigger objects as they stand (R392): where its rate has changed, or a fall-back ends, every channel has a change
(R380). -/
def State.trigTake (s : State) : State :=
  let s1 := { s with hk := { s.hk with source := s.nat Ob.HK_TRIG_SOURCE 0, timer := s.nat Ob.HK_TIMER_PERIOD 0 } }
  let s2 := s1.setReg Ob.HK_TRIG_STATE 0 (if s1.hk.source = 5 then 2 else 1)
  if s2.trigPeriod = s.trigPeriod ∧ s.reg Ob.HK_TRIG_STATE 0 ≠ 3 then s2 else s2.chanChangeAll

/-! ## Meanings -/

/-- HK_TRIGGER: a trigger makes the converters sample, with the raw codes the environment gives (R371 to R376). DEDUCED (log entry
217): HK.TRIG_EDGE and HK.TRIG_DELAY say when it comes. -/
def execHkTrigger (by_ : HkTrig) (raw : Vector Nat 4) (s : State) : Out :=
  let src := s.nat Ob.HK_TRIG_SOURCE 0
  if !s.hkLive || s.hk.calRun || !s.flag Ob.HK_REF_READY 0 then .next s
  else if (by_ = .fallback ∧ s.reg Ob.HK_TRIG_STATE 0 ≠ 3) ∨ (by_ = .selected ∧ !s.trigArmed) then .next s
  else
    let late : Bool := match s.hk.convAt with
      | some t => decide ((s.time.now - t + 1) * 64 < 5000)
      | none => false
    let s2 := if by_ = .selected then s.trigTake else s
    if late ∧ by_ = .selected ∧ src ≠ 5 then .next (s2.bump Ob.HK_TRIG_MISSED 0 1)
    else
      let s3 := { s2 with hk := { s2.hk with convAt := some s2.time.now } }
      .next (forEach (fins 4) (fun c s => s.convert raw c) s3)

/-- HK_TRIG_FALLBACK: no PWM trigger for HK.TRIG_TIMEOUT_US (R372). -/
def execHkTrigFallback (s : State) : Out :=
  let src := s.nat Ob.HK_TRIG_SOURCE 0
  if s.hkLive ∧ 1 ≤ src ∧ src ≤ 4 ∧ s.reg Ob.HK_TRIG_STATE 0 ≠ 3 then
    .next (((s.setReg Ob.HK_TRIG_STATE 0 3).chanChangeAll).raise Src.HK_TRIG_FALLBACK 0 src Ob.HK_EVENTS 0)
  else .next s

/-- HK_REF_READY: 2 ms after the buffer is enabled; a held calibration starts (R374). -/
def execHkRefReady (s : State) : Out :=
  if s.hkLive ∧ s.flag Ob.HK_REF_ENABLE 0 then
    let s1 := s.setReg Ob.HK_REF_READY 0 1
    .next { s1 with hk := { s1.hk with calRun := s1.hk.calRun || s1.hk.calHeld, calHeld := false } }
  else .next s

/-- HK.SELF_CAL: starts, or waits for the reference; BUSY while one runs (R374, R389). -/
def ownHkSelfCal (s : State) : Verdict :=
  if s.hk.calRun || s.hk.calHeld then .deny St.BUSY
  else if s.flag Ob.HK_REF_READY 0 then .later { s with hk := { s.hk with calRun := true } }
  else .later { s with hk := { s.hk with calHeld := true } }

/-- HK_SELF_CAL. -/
def execHkSelfCal (r : Req) (s : State) : Out := .next (s.serve r .exec Ob.HK_SELF_CAL 0 [0] ownHkSelfCal)

/-- Whether measured factors lie beyond 256 LSB or 2 % (R375). -/
def hkCalFails (off gain : Int) : Bool := decide (4096 < off.natAbs) || decide (131072 < gain.natAbs * 100)

/-- HK_SELF_CAL_DONE: new factors, PASS or FAIL by converter, and the record of a failure (R374, R375). -/
def execHkSelfCalDone (off gain : Vector Int 4) (s : State) : Out :=
  if s.hk.calRun then
    let mask := ((fins 4).map (fun c => if hkCalFails off[c] gain[c] then 2 ^ c.val else 0)).sum
    let s1 := forEach (fins 4) (fun c s =>
      let s := s.setReg Ob.HK_ADC_RESULT (c.val + 1) (withBit (s.nat Ob.HK_ADC_RESULT (c.val + 1)) 30 false : Nat)
      if hkCalFails off[c] gain[c] then s.setReg Ob.HK_CAL_RESULT (c.val + 1) 2
      else ((s.setReg Ob.HK_CAL_OFFSET (c.val + 1) off[c]).setReg Ob.HK_CAL_GAIN (c.val + 1) gain[c]).setReg
        Ob.HK_CAL_RESULT (c.val + 1) 1) s
    let s2 := ((s1.bump Ob.HK_CAL_COUNT 0 1).setStamp Ob.HK_CAL_TIME 0)
    let s3 := { s2 with hk := { s2.hk with calRun := false, pair := s2.nat Ob.HK_PAIR_MODE 0 } }
    let s4 := s3.chanChangeAll.finish Ob.HK_SELF_CAL 0 St.OK
    .next (if mask = 0 then s4 else s4.raise Src.HK_CAL_FAIL 0 mask Ob.HK_EVENTS 0)
  else .next s

/-- A calibration that is cut short ends ABORTED with every factor kept (R375). -/
def State.hkCalAbort (s : State) (st : Nat) : State :=
  if s.hk.calRun || s.hk.calHeld then
    let s1 := if s.hk.calRun then s.setAll Ob.HK_CAL_RESULT 3 4 else s
    ({ s1 with hk := { s1.hk with calRun := false, calHeld := false } }).finish Ob.HK_SELF_CAL 0 st
  else s

/-- A read of HK.ADC_RESULT: the value, and OVERRUN clears (R376). -/
def ownAdcResult (sub : Nat) (s : State) : Verdict :=
  let v := s.nat Ob.HK_ADC_RESULT sub
  let s1 := s.setReg Ob.HK_ADC_RESULT sub (withBit v 31 false : Nat)
  let s2 := if h : 1 ≤ sub ∧ sub ≤ 4 then s1.modConv ⟨sub - 1, by omega⟩ (fun c => { c with unread := false }) else s1
  .done s2 (leBytes 4 v)

/-- HK_ADC_RESULT_READ. -/
def execHkAdcResultRead (r : Req) (sub : Nat) (s : State) : Out :=
  .next (s.serve r .read Ob.HK_ADC_RESULT sub []
    (if sub = 0 then (fun s => .done s [4]) else ownAdcResult sub))

/-- The detectors after a settled output (R381). -/
def State.detect (s : State) (k : Fin 16) (x : Nat) : State :=
  let n := k.val + 1
  let w := s.nat Ob.HK_DET_WINDOW n
  let c := s.hk.chan[k]
  let outs := (x :: c.outs).take w
  let env := max x (c.env - c.env / 2 ^ s.nat Ob.HK_ENV_DECAY n)
  let s1 := s.modChan k (fun c => { c with outs := outs, env := env })
  if outs.length < w then s1
  else
    (((s1.setReg Ob.HK_PEAK_MAX n (outs.foldl max 0 : Nat)).setReg Ob.HK_PEAK_MIN n (outs.foldl min x : Nat)).setReg
      Ob.HK_RMS n (sqrtRatio ((outs.map (fun v => v * v)).sum) w : Nat)).setReg Ob.HK_ENVELOPE n (env : Int)

/-- HK_FILTER_OUTPUT: an output of a channel and its detectors; a channel that cannot run reads 0xFFFF (R377, R378,
R380, R381). -/
def execHkFilterOutput (k : Fin 16) (s : State) : Out :=
  let n := k.val + 1
  if !s.hkLive then .next s
  else if s.chanRuns k then
    let c := s.hk.chan[k]
    let x := s.chanOut k
    let settled := decide (s.span k ≤ c.inputs)
    let s1 := ((s.setReg Ob.HK_FILT_OUT n (x : Int)).setStamp Ob.HK_FILT_TIME n).setReg
      Ob.HK_FILT_UNSETTLED n (boolInt (!settled))
    .next (if settled then s1.detect k x else s1)
  else .next (s.setReg Ob.HK_FILT_OUT n 0xFFFF)

/-- HK.FIR_SWAP: the idle bank becomes active, and the new idle bank is a copy of it (R379). -/
def ownFirSwap (s : State) : Verdict :=
  .done ((s.setBlob Ob.HK_FIR_ACTIVE 0 (s.blob Ob.HK_FIR_IDLE 0)).chanChangeAll) []

/-- HK_FIR_SWAP. -/
def execHkFirSwap (r : Req) (s : State) : Out := .next (s.serve r .exec Ob.HK_FIR_SWAP 0 [0] ownFirSwap)

/-- HK.LOAD (R383). -/
def ownHkLoad (s : State) : Verdict := .done (if s.hkLive then s.adacLoad 0 else s) []

/-- HK_LOAD. -/
def execHkLoad (r : Req) (s : State) : Out := .next (s.serve r .exec Ob.HK_LOAD 0 [0] ownHkLoad)

/-- HK_LOAD_TIMER: the housekeeping timer has counted HK.LOAD_DIV periods (R383). -/
def execHkLoadTimer (s : State) : Out :=
  if s.hkLive ∧ bitOf (s.nat Ob.HK_LOAD_SOURCE 0) 0 then .next (s.adacLoad 1) else .next s

/-- LDAC_N_ASSERT: an assertion that passed the pin's filter (R383). -/
def execLdacNAssert (s : State) : Out :=
  if s.hkLive ∧ bitOf (s.nat Ob.HK_LOAD_SOURCE 0) 1 then .next (s.adacLoad 2) else .next s

/-- ADAC_SLEW_STEP: HK.ADAC_SLEW_US have passed (R384). -/
def execAdacSlewStep (k : Fin 16) (s : State) : Out := if s.on Dom.HK then .next (s.adacStep k) else .next s

/-- ADAC_SHORT: a channel has been at its limit for 10 µs, or has left it; nothing but the flag, the count and the
record follows (R385). -/
def execAdacShort (k : Fin 16) (atLimit : Bool) (s : State) : Out :=
  let n := k.val + 1
  let bit := if s.reg Ob.HK_ADAC_MODE n = 0 then 0 else 1
  if !s.on Dom.HK then .next s
  else if atLimit && bitOf (s.nat Ob.HK_ADAC_FLAGS n) bit then .next s
  else if atLimit then
    let s1 := (s.setReg Ob.HK_ADAC_FLAGS n (withBit (s.nat Ob.HK_ADAC_FLAGS n) bit true : Nat)).bump
      Ob.HK_ADAC_SHORT_COUNT n 1
    .next (s1.raise Src.HK_ADAC_SHORT k.val (k.val + 256 * bit + 65536 * s.nat Ob.HK_ADAC_OUT n) Ob.HK_EVENTS 0)
  else .next (s.setReg Ob.HK_ADAC_FLAGS n (withBit (s.nat Ob.HK_ADAC_FLAGS n) bit false : Nat))

/-- PWM_PERIOD_START: period and duty written take effect and the output begins its active time (R387); a new period of the trigger's
output changes the trigger rate (R380). -/
def execPwmPeriodStart (i : Fin 4) (s : State) : Out :=
  if s.hkLive ∧ s.flag Ob.HK_PWM_ENABLE (i.val + 1) then
    let duty := s.nat Ob.HK_PWM_DUTY (i.val + 1)
    let s1 := s.modPwm i (fun _ => {
      period := s.nat Ob.HK_PWM_PERIOD (i.val + 1), duty := duty, active := duty != 0, since := s.time.now })
    .next (if s1.trigPeriod = s.trigPeriod then s1 else s1.chanChangeAll)
  else .next s

/-- Whether a PWM output is in its active time now (R387): the period's fraction, rounded to 1.25 ns. -/
def State.pwmActive (s : State) (i : Fin 4) : Bool :=
  let p := s.hk.pwm[i]
  p.active && decide ((s.time.now - p.since) * 512 < 100 * (roundDiv (8 * p.period * p.duty : Nat) 65536).toNat)

/-- The level of a PWM pin (R387). -/
def State.pwmPin (s : State) (i : Fin 4) : Bool := s.pwmActive i != (s.reg Ob.HK_PWM_POLARITY (i.val + 1) == 1)

/-! ## The domain's conditions (R388) -/

/-- HK in RET or OFF: outputs high-impedance, triggers stopped, a calibration cut short (R375, R388). -/
def State.hkStop (s : State) : State :=
  let s1 := (s.hkCalAbort St.CONFIG_CONFLICT).setReg Ob.HK_TRIG_STATE 0 0
  let s2 := s1.setReg Ob.HK_REF_READY 0 0
  let s3 := s2.setAll Ob.HK_ADAC_OUT 0 16
  { s3 with hk := { s3.hk with pwm := s3.hk.pwm.map (fun p => { p with active := false }), convAt := none } }

/-- Wake from RET: targets kept, filter state restarted with a change for each channel (R388). -/
def State.hkWake (s : State) : State :=
  ({ s with hk := { s.hk with chan := Vector.replicate 16 {}, pair := s.nat Ob.HK_PAIR_MODE 0 } }).chanChangeAll

/-- The cold path: codes from settings wait for a LOAD, outputs 0, and a self-calibration follows the reference
(R374, R388). -/
def State.hkCold (s : State) : State :=
  let s1 := { s with hk := ({} : Hk) }
  let s2 := { s1 with hk := { s1.hk with
    adac := Vector.ofFn (fun k => { pend := some (s.nat Ob.HK_ADAC_CODE (k.val + 1)), target := 0 })
    pair := s.nat Ob.HK_PAIR_MODE 0, source := s.nat Ob.HK_TRIG_SOURCE 0, timer := s.nat Ob.HK_TIMER_PERIOD 0
    calHeld := s.flag Ob.HK_REF_ENABLE 0 } }
  s2.chanChangeAll

/-- The safe state: mapped channels to code 0, PWM outputs inactive, converters stopped (R388). -/
def State.hkSafe (s : State) : State :=
  let s1 := forEach (fins 16) (fun k s =>
    if (s.mapLane k).isSome then
      (s.modAdac k (fun _ => { pend := none, target := 0 })).setReg Ob.HK_ADAC_OUT (k.val + 1) 0
    else s.modAdac k (fun _ => { pend := none, target := s.nat Ob.HK_ADAC_OUT (k.val + 1) })) s
  let s2 := (s1.hkCalAbort St.SAFE_STATE).setReg Ob.HK_TRIG_STATE 0 0
  { s2 with hk := { s2.hk with pwm := s2.hk.pwm.map (fun p => { p with active := false }) } }

/-! ## Writes of the domain's objects -/

/-- A scan list's layout (R370): length 1 to 16, that many channels from 0 to 15, then 0xFF. -/
def scanLayout (b : List Byte) : Bool :=
  match b with
  | n :: rest => b.length == 17 && decide (1 ≤ n.toNat) && decide (n.toNat ≤ 16) &&
      (rest.take n.toNat).all (fun c => decide (c.toNat ≤ 15)) && (rest.drop n.toNat).all (· == 0xFF)
  | [] => false

/-- Whether no element of a list repeats. -/
def noRepeat : List Nat → Bool
  | [] => true
  | a :: l => !l.contains a && noRepeat l

/-- A write of HK.SCAN (R370): the layout, and each channel at most once across the four lists and the pair inputs. -/
def ownScan (sub : Nat) (b : List Byte) (s : State) : Verdict :=
  if !scanLayout b then .deny St.RANGE
  else
    let others := ((fins 4).map (fun c => if c.val + 1 = sub then scanChans b else s.scan c)).flatten
    if !noRepeat others then .deny St.CONFIG_CONFLICT
    else
      let old := scanChans (s.blob Ob.HK_SCAN sub)
      let s1 := s.setBlob Ob.HK_SCAN sub b
      let s2 := if h : 1 ≤ sub ∧ sub ≤ 4 then s1.modConv ⟨sub - 1, by omega⟩ (fun c => { c with pos := 0 }) else s1
      .done (forEach (fins 16) (fun k s => if k.val ∈ old ∨ k.val ∈ scanChans b then s.chanChange k else s) s2) []

/-- A write of HK.PAIR_MODE (R373, R389). -/
def ownPairMode (v : Int) (s : State) : Verdict :=
  let new := v.toNat
  let old := s.nat Ob.HK_PAIR_MODE 0
  let rateOk := s.nat Ob.HK_TRIG_SOURCE 0 = 5 ∨ (s.nat Ob.HK_TRIG_SOURCE 0 = 0 ∧ s.nat Ob.HK_TIMER_PERIOD 0 = 50)
  let bad := (fins 2).any (fun i => bitOf new i.val && !bitOf old i.val &&
    (!decide rateOk || (fins 4).any (fun c => c.val / 2 != i.val && (s.scan c).contains (s.nat Ob.HK_PAIR_INPUT (i.val + 1)))))
  if bad then .deny St.CONFIG_CONFLICT
  else
    let s1 := s.setReg Ob.HK_PAIR_MODE 0 v
    let s2 := if s1.hk.calRun then s1 else { s1 with hk := { s1.hk with pair := new } }
    let hit (i : Fin 2) (k : Fin 16) : Bool := bitOf new i.val != bitOf old i.val &&
      (s.nat Ob.HK_PAIR_INPUT (i.val + 1) == k.val || (fins 4).any (fun c => c.val / 2 == i.val && (s.scan c).contains k.val))
    .done (forEach ((fins 16).filter (fun k => (fins 2).any (fun i => hit i k))) (fun k s => s.chanChange k) s2) []

/-- A write of HK.PAIR_INPUT: the input of a joined pair changes (R373, R380). -/
def ownPairInput (sub : Nat) (v : Int) (s : State) : Verdict :=
  let old := s.reg Ob.HK_PAIR_INPUT sub
  let s1 := s.setReg Ob.HK_PAIR_INPUT sub v
  if old = v ∨ !bitOf s.hk.pair (sub - 1) then .done s1 []
  else .done (forEach ((fins 16).filter (fun k => (k.val : Int) = old ∨ (k.val : Int) = v)) (fun k s => s.chanChange k) s1) []

/-- A write of HK.FILT_RATE_HZ, HK.FILT_CIC_R or HK.FILT_FIR_D: the rate rule of R377, then a change (R380). -/
def ownFiltRate (ix sub : Nat) (v : Int) (s : State) : Verdict :=
  if h : 1 ≤ sub ∧ sub ≤ 16 then
    let k : Fin 16 := ⟨sub - 1, by omega⟩
    let s1 := s.setReg ix sub v
    if s1.rateFits k (s1.nat Ob.HK_FILT_RATE_HZ sub) (s1.nat Ob.HK_FILT_CIC_R sub) (s1.nat Ob.HK_FILT_FIR_D sub) then
      .done (s1.chanChange k) []
    else .deny St.CONFIG_CONFLICT
  else .deny St.NO_OBJECT

/-- A write of HK.FILT_ENABLE or HK.FILT_SET: stored, and a change of the channel (R380). -/
def ownFiltOther (ix sub : Nat) (v : Int) (s : State) : Verdict :=
  if h : 1 ≤ sub ∧ sub ≤ 16 then .done ((s.setReg ix sub v).chanChange ⟨sub - 1, by omega⟩) [] else .deny St.NO_OBJECT

/-- A write of HK.REF_ENABLE: clearing it clears HK.REF_READY and cuts a calibration short (R374, R375). -/
def ownRefEnable (v : Int) (s : State) : Verdict :=
  let s1 := s.setReg Ob.HK_REF_ENABLE 0 v
  if v = 0 then .done ((s1.setReg Ob.HK_REF_READY 0 0).hkCalAbort St.CONFIG_CONFLICT) [] else .done s1 []

/-- Whether the power loop of a lane runs (R263). -/
def State.apcRuns (s : State) (l : Fin 8) : Bool :=
  s.tx[l].apc && s.reg Ob.OPTICS_SEQ_STATE (l.val + 1) == 4

/-- A write of HK.ADAC_CODE (R263, R383, R386). -/
def ownAdacCode (sub : Nat) (v : Int) (s : State) : Verdict :=
  if h : 1 ≤ sub ∧ sub ≤ 16 then
    let k : Fin 16 := ⟨sub - 1, by omega⟩
    if (fins 8).any (fun l => s.apcRuns l && s.tx[l].apcDac == k.val) then .deny St.CONFIG_CONFLICT
    else
      let s1 := s.setReg Ob.HK_ADAC_CODE sub v
      match s.mapLane k with
      | some l => .done (if s.reg Ob.OPTICS_SEQ_STATE (l.val + 1) = 4 then s1.adacPut k v.toNat else s1) []
      | none => .done (s1.adacPut k v.toNat) []
  else .deny St.NO_OBJECT

/-- A write of HK.ADAC_MODE: only while the output code is 0 (R382). -/
def ownAdacMode (sub : Nat) (v : Int) (s : State) : Verdict :=
  if s.reg Ob.HK_ADAC_OUT sub = 0 then .done (s.setReg Ob.HK_ADAC_MODE sub v) [] else .deny St.CONFIG_CONFLICT

/-- A write of HK.PWM_ENABLE: disabled, the output holds its inactive level (R387). -/
def ownPwmEnable (sub : Nat) (v : Int) (s : State) : Verdict :=
  let s1 := s.setReg Ob.HK_PWM_ENABLE sub v
  if h : 1 ≤ sub ∧ sub ≤ 4 then
    .done (if v = 0 then s1.modPwm ⟨sub - 1, by omega⟩ (fun p => { p with active := false }) else s1) []
  else .deny St.NO_OBJECT

/-- The writes of chapter 14's numeric objects, by object. -/
def ownHkWrite (ix sub : Nat) (v : Int) (s : State) : Verdict :=
  if ix = Ob.HK_REF_ENABLE then ownRefEnable v s
  else if ix = Ob.HK_PAIR_MODE then ownPairMode v s
  else if ix = Ob.HK_FILT_RATE_HZ ∨ ix = Ob.HK_FILT_CIC_R ∨ ix = Ob.HK_FILT_FIR_D then ownFiltRate ix sub v s
  else if ix = Ob.HK_FILT_ENABLE ∨ ix = Ob.HK_FILT_SET then ownFiltOther ix sub v s
  else if ix = Ob.HK_PAIR_INPUT then ownPairInput sub v s
  else if ix = Ob.HK_ADAC_CODE then ownAdacCode sub v s
  else if ix = Ob.HK_ADAC_MODE then ownAdacMode sub v s
  else if ix = Ob.HK_PWM_ENABLE then ownPwmEnable sub v s
  else storeVal ix sub v s

end Sys2Proof.Machine
end

