-- ==== Sys2Proof/Machine/Tx.lean ====
section
/-! DEFINITION. A line transmit lane: waveform, synthesiser calibration, optics sequencing and muting (chapter 9). What
a port makes of a lane's progress is in `Optics`. -/

namespace Sys2Proof.Machine

/-- Change a transmit lane. -/
def State.modTx (s : State) (l : Fin 8) (f : TxLane → TxLane) : State := { s with tx := s.tx.set l (f s.tx[l]) }

/-- TX.STATE (R266). -/
def State.txState (s : State) (l : Fin 8) : Int := s.reg Ob.TX_STATE (l.val + 1)

/-- TX.SYNTH_STATE (R266). -/
def State.txSynth (s : State) (l : Fin 8) : Int := s.reg Ob.TX_SYNTH_STATE (l.val + 1)

/-- OPTICS.SEQ_STATE (R266). -/
def State.seq (s : State) (l : Fin 8) : Int := s.reg Ob.OPTICS_SEQ_STATE (l.val + 1)

/-- Whether the lane's output is muted, by any cause of R262. -/
def State.txMuted (s : State) (l : Fin 8) : Bool :=
  s.tx[l].seqMute || s.tx[l].lockMute || s.tx[l].forceMute || s.txState l == 0 || s.txState l == 1

/-! ## Waveform tables -/

/-- The taps and amplitudes of a waveform table (R248). -/
def waveOf (b : List Byte) : List Int :=
  ((List.range 7).map (fun j => toSigned 2 (leNat ((b.drop (4 + 2 * j)).take 2)))) ++
  ((List.range 64).map (fun j => toSigned 2 (leNat ((b.drop (18 + 2 * j)).take 2))))

/-- The form of a waveform table (R248): length, FORMAT, reserved fields, ranges. -/
def waveOk (b : List Byte) : Bool :=
  b.length == 148 && b.take 4 == [1, 0, 0, 0] && b.drop 146 == [0, 0] &&
  ((waveOf b).take 7).all (inRange (-2048) 2047) && ((waveOf b).drop 7).all (inRange (-2047) 2047)

/-- The table of a lane's target band (R251). -/
def State.waveTarget (s : State) (l : Fin 8) : List Int :=
  waveOf (s.blob (Ob.TX_WAVE_COLD + s.nat Ob.TX_WAVE_ACTIVE_BAND (l.val + 1)) (l.val + 1))

/-- Give the working table a new target: at once while muted, by a ramp while active (R251). -/
def State.waveRetarget (s : State) (l : Fin 8) : State :=
  let t := s.waveTarget l
  if s.txMuted l ∨ s.tx[l].wave = t then
    (s.modTx l (fun x => { x with wave := t })).setReg Ob.TX_WAVE_RAMPING (l.val + 1) 0
  else s.setReg Ob.TX_WAVE_RAMPING (l.val + 1) 1

/-- One unit from a value towards another. -/
def stepTo (v t : Int) : Int := if v < t then v + 1 else if t < v then v - 1 else v

/-- The DAC code of a symbol from the amplitudes at offsets 2 down to −4 from it, rounded then clamped (R249): the
code and whether it clamped. Taps count from TAP[0], which acts on offset −2. -/
def dacCode (taps amps : List Int) : Int × Bool :=
  let y := roundDiv ((List.zipWith (· * ·) taps amps).sum) (16 * 1024)
  (clampInt (-128) 127 y, decide (y < -128) || decide (127 < y))

/-- The waveform codes of a run of level indices `ls` that follow the levels `prev`, oldest first: amplitude lookup on
each symbol and its neighbours, then the 7-tap filter (R249). Symbols near the run's ends, whose neighbours are not yet
known, wait for the next run. -/
def waveCodes (wave : List Int) (ls : List Nat) : List (Int × Bool) :=
  let taps := wave.take 7
  let lut := wave.drop 7
  let amps := (List.zipWith (fun (a : Nat) (bc : Nat × Nat) => lut.getD (16 * a + 4 * bc.1 + bc.2) 0) ls
    (List.zip (ls.drop 1) (ls.drop 2)))
  -- amps[i] belongs to symbol i + 1; the code of symbol k takes a[k+2] down to a[k-4]
  ((List.range (amps.length - 6)).map (fun i => dacCode taps (((amps.drop i).take 7).reverse)))

/-- The differential output of a code in units of 1/512 mVppd under a full scale in mVppd (R252). -/
def dacVolts (fs : Nat) (code : Int) : Int := (2 * code + 1) * fs

/-- Send a codeword's Gray level indices: precoding, inversion, waveform, output, and the count of clamped codes (R245 to R249, R252); a
lane that is off or calibrates sends nothing (R247). TX.MUTE_FORCE and TX.INVERT take effect at this codeword boundary. -/
def State.txSend (s : State) (l : Fin 8) (levels : List Nat) : State :=
  let n := l.val + 1
  if s.txState l < 2 then s
  else
  let inv := s.flag Ob.TX_INVERT n
  let (out, p) := precodeLevels s.tx[l].precode inv s.tx[l].preState levels
  let run := s.tx[l].sent ++ out
  let s0 := (s.modTx l (fun x => { x with
    preState := p, invert := inv, forceMute := s.flag Ob.TX_MUTE_FORCE n, sent := run.drop (run.length - 8) })).waveRetarget l
  let codes := waveCodes s0.tx[l].wave run
  let muted := s0.txMuted l
  let clips := if muted then 0 else (codes.filter (·.2)).length
  let s1 := s0.modTx l (fun x => { x with
    volts := codes.map (fun c => if muted then 0 else dacVolts x.fs c.1), clipTick := x.clipTick + clips })
  if clips = 0 then s1
  else ((s1.bump64 Ob.TX_CLIP_COUNT n clips).bump Ob.TX_EVENTS n clips).record Src.TX_CLIP l.val
    (l.val + 65536 * min 65535 s1.tx[l].clipTick)

/-! ## Calibration -/

/-- Start the synthesiser's calibration with band selection (R253, R254). -/
def State.txCalibrate (s : State) (l : Fin 8) (rateChange : Bool) : State :=
  ((s.modTx l (fun x => { x with rateCal := rateChange, attempts := 0, bandRep := false, lockMute := false, relocked := false })).setReg
    Ob.TX_STATE (l.val + 1) 1).setReg Ob.TX_SYNTH_STATE (l.val + 1) 1

/-- The precoder starts, and TX.PRECODE and the working table are taken, as TX.STATE leaves CALIBRATING (R245). -/
def State.txCalibrated (s : State) (l : Fin 8) : State :=
  let n := l.val + 1
  let s1 := (s.modTx l (fun x => { x with preState := 0, precode := s.flag Ob.TX_PRECODE n, sent := [] })).setReg Ob.TX_STATE n 2
  ((s1.setStamp Ob.TX_SYNTH_CAL_TIME n).bump Ob.TX_SYNTH_CAL_COUNT n 1).waveRetarget l

/-! ## Optics sequences -/

/-- The ENG vote for HK stands while a power loop runs (R434). -/
def State.apcVote (s : State) : State :=
  let want := (fins 8).any s.apcRuns
  if want = bitOf (s.votes Dom.HK) Vote.ENG then s
  else if want then s.castVote Dom.HK Vote.ENG else s.withdraw Dom.HK Vote.ENG

/-- The power loop holds its code outside UP (R263). -/
def State.apcHold (s : State) (l : Fin 8) : State :=
  (if s.tx[l].apc then s.setReg Ob.OPTICS_APC_STATE (l.val + 1) 1 else s).apcVote

/-- The up sequence's first step: DRV_SUPPLY pins active (R258); the sequence takes OPTICS.BIAS_MAP (R267). -/
def State.upStart (s : State) (l : Fin 8) : State :=
  ((s.modTx l (fun x => { x with supply := true, held := false, bias := s.nat Ob.OPTICS_BIAS_MAP (l.val + 1) })).setReg Ob.TX_STATE (l.val + 1) 3).setReg
    Ob.OPTICS_SEQ_STATE (l.val + 1) 1

/-- A transmit enable: held while calibrating or while a down sequence runs, else the up sequence starts (R256). -/
def State.txEnable (s : State) (l : Fin 8) : State :=
  if 1 ≤ s.seq l ∧ s.seq l ≤ 4 then s
  else if s.txState l = 2 ∧ s.seq l = 0 then s.upStart l
  else s.modTx l (fun x => { x with held := true })

/-- The down bias step starts: code 0 to the mapped channels (R258). -/
def State.downBias (s : State) (l : Fin 8) : State :=
  let run := !(s.biasChans l).isEmpty
  ((s.biasStart l false).modTx l (fun x => { x with biasRun := run })).setReg Ob.OPTICS_SEQ_STATE (l.val + 1) 7

/-- The last down step: DRV_SUPPLY off, TX.STATE MUTED (R258). -/
def State.downEnd (s : State) (l : Fin 8) : State :=
  let s1 := (s.modTx l (fun x => { x with supply := false, seqMute := true })).setReg Ob.OPTICS_SEQ_STATE (l.val + 1) 0
  if s1.txState l = 3 ∨ s1.txState l = 4 then s1.setReg Ob.TX_STATE (l.val + 1) 2 else s1

/-- The step at which DRV_OUTPUT goes off and the DAC mutes (R258). -/
def State.downOutput (s : State) (l : Fin 8) : State :=
  ((s.modTx l (fun x => { x with output := false, seqMute := true })).waveRetarget l).setReg Ob.OPTICS_SEQ_STATE (l.val + 1) 6

/-- Order a down sequence: it starts at once from the up step reached and switches only pins that are active (R258).
A held enable is cancelled. -/
def State.txDown (s : State) (l : Fin 8) : State :=
  let s := (s.modTx l (fun x => { x with
    held := false, bias := if 1 ≤ s.seq l ∧ s.seq l ≤ 4 then s.nat Ob.OPTICS_BIAS_MAP (l.val + 1) else x.bias })).apcHold l
  match s.seq l with
  | 1 => s.downEnd l
  | 2 => (s.setReg Ob.TX_STATE (l.val + 1) 3).downBias l
  | 3 => (s.setReg Ob.TX_STATE (l.val + 1) 3).downOutput l
  | 4 => (((s.modTx l (fun x => { x with laser := false })).setReg Ob.TX_STATE (l.val + 1) 3).setReg Ob.OPTICS_SEQ_STATE
      (l.val + 1) 5).apcVote
  | _ => s

/-- Whether a lane's optics are down. -/
def State.isDown (s : State) (l : Fin 8) : Bool := s.seq l == 0 || s.seq l == 8

/-- The fixed down path, run by AON without firmware: output muted, every role off, code 0 to the mapped bias
channels (R261). The 200 ns and 400 ns between its steps are not split. -/
def State.fixedDown (s : State) (l : Fin 8) : State :=
  let n := l.val + 1
  let s1 := s.modTx l (fun x => { x with
    seqMute := true, supply := false, output := false, laser := false, held := false, biasRun := false
    bias := s.nat Ob.OPTICS_BIAS_MAP n })
  let s2 := forEach (s1.biasChans l) (fun k s =>
    (s.modAdac k (fun _ => { pend := none, target := 0 })).setReg Ob.HK_ADAC_OUT (k.val + 1) 0) s1
  ((((s2.setReg Ob.TX_STATE n 0).setReg Ob.TX_SYNTH_STATE n 0).setReg Ob.OPTICS_SEQ_STATE n 8).waveRetarget l).apcHold l

/-- The level of a lane's pin: none while high-impedance; the off level while its domain is not ON, else by its role (R258, R259). -/
def State.pinLevel (s : State) (l : Fin 8) (pin : Fin 3) : Option Bool :=
  let n := l.val + 1
  if s.tx[l].hiZ then none
  else
    let role := s.nat (match pin with | 0 => Ob.OPTICS_PIN_ROLE_A | 1 => Ob.OPTICS_PIN_ROLE_B | _ => Ob.OPTICS_PIN_ROLE_LAS) n
    let act := match role with
      | 0 => s.tx[l].supply
      | 1 => s.tx[l].output
      | 2 => s.tx[l].laser
      | _ => bitOf (s.nat Ob.OPTICS_STATIC_LEVEL n) pin.val
    some ((s.on (Dom.ltx l) && act) != bitOf (s.nat Ob.OPTICS_PIN_POLARITY n) pin.val)

/-- The LTX domain leaves ON: calibration or sequence dropped, pins held at their off level by AON (R259, R433). -/
def State.txStop (s : State) (l : Fin 8) : State :=
  let n := l.val + 1
  ((((s.modTx l (fun x => { x with
    seqMute := true, supply := false, output := false, laser := false, held := false, biasRun := false, lockMute := false,
    relocked := false, preState := 0, sent := [] })).setReg Ob.TX_STATE n 0).setReg Ob.TX_SYNTH_STATE n 0).setReg
    Ob.OPTICS_SEQ_STATE n 0).setReg Ob.TX_WAVE_RAMPING n 0 |>.apcHold l

/-! ## Writes of chapter 9's objects -/

/-- A delay in ns rounded up to a multiple of 6.4 ns, read back in whole ns, rounded up (R258). -/
def roundDelay (v : Nat) : Nat := ceilDiv (ceilDiv (v * 10) 64 * 64) 10

/-- A write of a waveform table (R248, R251). -/
def ownWave (ix sub : Nat) (b : List Byte) (s : State) : Verdict :=
  if !waveOk b then .deny St.RANGE
  else
    let s1 := s.setBlob ix sub b
    if h : 1 ≤ sub ∧ sub ≤ 8 then
      if ix = Ob.TX_WAVE_COLD + s.nat Ob.TX_WAVE_ACTIVE_BAND sub then .done (s1.waveRetarget ⟨sub - 1, by omega⟩) []
      else .done s1 []
    else .deny St.NO_OBJECT

/-- The writes of chapter 9's numeric objects (R258 to R260, R266, R267). -/
def ownTxWrite (ix sub : Nat) (v : Int) (s : State) : Verdict :=
  if ix = Ob.OPTICS_PIN_ROLE_A ∨ ix = Ob.OPTICS_PIN_ROLE_B ∨ ix = Ob.OPTICS_PIN_ROLE_LAS ∨ ix = Ob.OPTICS_PIN_POLARITY ∨
      ix = Ob.OPTICS_STATIC_LEVEL then
    (if s.reg Ob.OPTICS_SEQ_STATE sub = 0 then storeVal ix sub v s else .deny St.CONFIG_CONFLICT)
  else if Ob.OPTICS_UP_T1_NS ≤ ix ∧ ix ≤ Ob.OPTICS_DN_T3_NS then
    (if inRange 0 10000000 v then storeVal ix sub (roundDelay v.toNat : Nat) s else .deny St.RANGE)
  else if ix = Ob.OPTICS_BIAS_MAP then
    (if (fins 8).any (fun l => l.val + 1 != sub && (s.nat Ob.OPTICS_BIAS_MAP (l.val + 1) &&& v.toNat) != 0) then
      .deny St.CONFIG_CONFLICT else storeVal ix sub v s)
  else if ix = Ob.OPTICS_APC_MAX_CODE then
    (if v < s.reg Ob.OPTICS_APC_MIN_CODE sub then .deny St.RANGE else storeVal ix sub v s)
  else if ix = Ob.OPTICS_APC_ENABLE then
    storeVal ix sub v s
  else storeVal ix sub v s

/-- Whether a lane sends TIC codewords: its port runs a native rate set and no line pattern (R247, R322). -/
def State.sendsTic (s : State) (l : Fin 8) : Bool :=
  match s.portOf l with | some p => s.native p && s.testKind p != 1 | none => false

/-- A write of TX.MUTE_FORCE: it takes effect at the next codeword boundary (R262). DEDUCED (log entry 201): at once on a lane that sends no
TIC codewords. -/
def ownMuteForce (sub : Nat) (v : Int) (s : State) : Verdict :=
  let s1 := s.setReg Ob.TX_MUTE_FORCE sub v
  if h : 1 ≤ sub ∧ sub ≤ 8 then
    let l : Fin 8 := ⟨sub - 1, by omega⟩
    if s.sendsTic l then .done s1 [] else .done ((s1.modTx l (fun x => { x with forceMute := v == 1 })).waveRetarget l) []
  else .deny St.NO_OBJECT

end Sys2Proof.Machine
end

