-- ==== Sys2Proof/Machine/Tic.lean ====
section
/-! DEFINITION. The decode pool, HAMPER release and the outer decoder (chapter 6; R184, R186). -/

namespace Sys2Proof.Machine

/-- Change the inner code's side of a lane. -/
def State.modTic (s : State) (l : Fin 8) (f : TicLane → TicLane) : State := { s with tic := s.tic.set l (f s.tic[l]) }

/-- Change a half's pool. -/
def State.modPool (s : State) (h : Fin 2) (f : TicHalf → TicHalf) : State := { s with pool := s.pool.set h (f s.pool[h]) }

/-! ## Injections (R329, R330) -/

/-- Change a port's test record. -/
def State.modTest (s : State) (p : Fin 8) (f : TestPort → TestPort) : State := { s with test := s.test.set p (f s.test[p]) }

/-- Units of an injection kind still to apply on a port, where a lane is among its lanes. -/
def State.injects (s : State) (p : Fin 8) (kind : Nat) (l : Option (Fin 8)) : Nat :=
  let t := s.test[p]
  let chosen : Bool := match l with | some l => bitOf t.injLanes l.val | none => true
  if t.injKind = kind ∧ chosen then t.injLeft else 0

/-- Apply units of a port's active injection (R329). -/
def State.injUse (s : State) (p : Fin 8) (n : Nat) : State :=
  if n = 0 then s
  else
    let left := s.test[p].injLeft - n
    let s1 := (s.modTest p (fun t => { t with injLeft := left, injKind := if left = 0 then 0 else t.injKind })).bump64
      Ob.TEST_INJ_APPLIED (p.val + 1) n
    if left = 0 then s1.setReg Ob.TEST_INJ_ACTIVE (p.val + 1) 0 else s1

/-- A symbol error on the soft values of a symbol (R330): the sign of the Gray bit that differs is inverted. -/
def symbolError (a b : Int) : Int × Int :=
  match grayIndex (signBit a) (signBit b) with
  | 0 | 3 => (a, -b)
  | _ => (-a, b)

/-- Symbol errors at places of a codeword. -/
def symbolErrors (at_ : List Nat) : Nat → List Int → List Int
  | t, a :: b :: rest =>
    if t ∈ at_ then
      let e := symbolError a b
      e.1 :: e.2 :: symbolErrors at_ (t + 1) rest
    else a :: b :: symbolErrors at_ (t + 1) rest
  | _, r => r

/-! ## The pool -/

/-- The decode units of a half. -/
def unitsOf : List (Fin 48) := fins 48

/-- Whether a unit decodes a codeword now. -/
def State.unitBusy (s : State) (h : Fin 2) (u : Fin 48) : Bool :=
  s.tic.toList.any (fun t => t.cws.any (fun c => match c.phase with | .decoding h' u' _ => h' == h && u' == u | _ => false))

/-- Units a lane reserves (R161): 6 at N1 and 3 at N2 while its port is in SWIFT, until the last codeword stamped under
SWIFT has left. -/
def State.reserves (s : State) (l : Fin 8) : Nat :=
  if s.tic[l].swift || s.tic[l].cws.any (·.swift) then
    (if s.laneRate l = Rate.N1 then 6 else if s.laneRate l = Rate.N2 then 3 else 0)
  else 0

/-- TIC.UNITS_RESERVED of a half (R161). -/
def State.unitsReserved (s : State) (h : Fin 2) : Nat := ((lanesOfHalf h).map s.reserves).sum

/-- The lane a unit is reserved for: the working units in number order serve the half's reserving lanes in lane order. -/
def State.reservedFor (s : State) (h : Fin 2) (u : Fin 48) : Option (Fin 8) :=
  let rank := ((List.range u.val).filter (fun v => !s.pool[h].failed.contains v)).length
  let owners := ((lanesOfHalf h).map (fun l => List.replicate (s.reserves l) l)).flatten
  owners[rank]?

/-- A codeword's release deadline on the counter of its epoch, in units of 2^-48 s times 10^9 (R167). -/
def Codeword.due (c : Codeword) : Nat := c.stamp.time * 1000000000 + c.deadline * 2 ^ 48

/-- TIC.POOL_SPEED of a half (R160), units of 0.001. -/
def State.poolSpeed (s : State) (h : Fin 2) : Nat := s.nat Ob.TIC_POOL_SPEED (h.val + 1)

/-- Whether a codeword's deadline leaves a unit of a half time for its fixed part of 8.0 ns at the pool's speed (R159,
R162). A difference across epochs is not used (R52). -/
def State.timeFor (s : State) (h : Fin 2) (c : Codeword) : Bool :=
  c.stamp.epoch != s.nat Ob.TIME_EPOCH 0 % 256 ||
    decide (s.stamp * 1000000000 * s.poolSpeed h + 8000 * 2 ^ 48 ≤ c.due * s.poolSpeed h)

/-- Whether a codeword is past its deadline; a difference across epochs is not used (R52). -/
def State.past (s : State) (c : Codeword) : Bool :=
  c.stamp.epoch == s.nat Ob.TIME_EPOCH 0 % 256 && decide (c.due ≤ s.stamp * 1000000000)

/-- The waiting codewords of lanes, each with its lane. -/
def State.waitingIn (s : State) (ls : List (Fin 8)) : List (Fin 8 × Codeword) :=
  (ls.map (fun l => (s.tic[l].cws.filter (fun c => c.phase == .waiting)).map (fun c => (l, c)))).flatten

/-- The first of two candidates: the earlier deadline, then the earlier stamp, then the lower lane (R162); stamps of different epochs are
ordered by epoch first (R52). -/
def firstDue (a b : Fin 8 × Codeword) : Fin 8 × Codeword :=
  if a.2.stamp.epoch ≠ b.2.stamp.epoch then (if b.2.stamp.before a.2.stamp then b else a)
  else if b.2.due < a.2.due ∨ (b.2.due = a.2.due ∧ (b.2.stamp.time < a.2.stamp.time ∨
    (b.2.stamp.time = a.2.stamp.time ∧ b.1.val < a.1.val))) then b else a

/-- The best of candidates by an order. -/
def pickBy (f : Fin 8 × Codeword → Fin 8 × Codeword → Fin 8 × Codeword) : List (Fin 8 × Codeword) → Option (Fin 8 × Codeword)
  | [] => none
  | x :: xs => some (xs.foldl f x)

/-- What a free unit takes (R162): a codeword of its own half; one of the other half only where none waits in its own and the other
half's FEC domain is ON. -/
def State.unitChoice (s : State) (h : Fin 2) (u : Fin 48) (borrow : Bool) : Option (Fin 8 × Codeword) :=
  let fit (ls : List (Fin 8)) : List (Fin 8 × Codeword) := (s.waitingIn ls).filter (fun x => s.timeFor h x.2)
  match s.reservedFor h u with
  | some l => if borrow then none else pickBy (fun a b => if b.2.order < a.2.order then b else a) (fit [l])
  | none =>
    if !borrow then pickBy firstDue (fit (lanesOfHalf h))
    else if (s.waitingIn (lanesOfHalf h)).isEmpty && s.on (Dom.fec (1 - h)) then pickBy firstDue (fit (lanesOfHalf (1 - h)))
    else none

/-- Change one codeword of a lane, by its order. -/
def State.modCw (s : State) (l : Fin 8) (order : Nat) (f : Codeword → Codeword) : State :=
  s.modTic l (fun t => { t with cws := t.cws.map (fun c => if c.order = order then f c else c) })

/-- A unit looks for work (R162, R163). -/
def State.dispatchUnit (s : State) (h : Fin 2) (u : Fin 48) (borrow : Bool) : State :=
  if !s.on (Dom.fec h) || s.pool[h].failed.contains u.val || s.unitBusy h u then s
  else match s.unitChoice h u borrow with
    | some (l, c) =>
      let s1 := s.modCw l c.order (fun c => { c with phase := .decoding h u s.time.now })
      if halfOf l = h then s1 else s1.bump64 Ob.TIC_BORROWED ((halfOf l).val + 1) 1
    | none => s

/-- Every free unit looks for work (R21, R162): each half's own work first. -/
def State.dispatch (s : State) : State :=
  if (s.waitingIn (fins 8)).isEmpty then s
  else forEach [false, true] (fun borrow s =>
    forEach (fins 2) (fun h s => forEach unitsOf (fun u s => s.dispatchUnit h u borrow) s) s) s

/-- A unit is marked failed, with its event on the lane of the codeword involved (R165, R177). -/
def State.failUnit (s : State) (h : Fin 2) (u : Fin 48) (l : Fin 8) (cause : Nat) : State :=
  let s1 := s.modPool h (fun p => { p with failed := u.val :: p.failed.erase u.val })
  (s1.setReg Ob.TIC_UNITS_AVAILABLE (h.val + 1) (48 - s1.pool[h].failed.length : Nat)).raise Src.TIC_UNIT_FAIL (8 + h.val)
    (h.val + 256 * u.val + 65536 * cause) Ob.TIC_EVENTS (l.val + 1)

/-- A unit's time on a codeword goes into its half's busy time (R174). -/
def State.unitTime (s : State) (h : Fin 2) (since : Nat) : State :=
  s.modPool h (fun p => { p with busy := p.busy + (s.time.now - max since p.tickAt) })

/-! ## The outer decoder -/

/-- Change the outer decoder's record of a lane, or of a port. -/
def State.modOuterLane (s : State) (l : Fin 8) (f : OuterLane → OuterLane) : State :=
  { s with outerLane := s.outerLane.set l (f s.outerLane[l]) }
def State.modOuterPort (s : State) (p : Fin 8) (f : OuterPort → OuterPort) : State :=
  { s with outerPort := s.outerPort.set p (f s.outerPort[p]) }

/-- Whole bytes of bits, first bit most significant. -/
def packBytes : Nat → List Bool → List Byte
  | 0, _ => []
  | n + 1, bs => BitVec.ofNat 8 (bitsNat (bs.take 8)) :: packBytes n (bs.drop 8)

/-- A whole slot of received bits, first bit first (R181). -/
def slotOf (bs : List RxBit) : RxSlot :=
  { bytes := packBytes 2072 (bs.map (·.bit)), rescued := bs.any (·.rescued), unsettled := bs.any (·.unsettled), bad := bs.any (·.bad) }

/-- One message bit of an AP of `w` lanes (R180, R181, R185): marker bits are left out, every other bit is descrambled and joins its
slot; the descrambler starts afresh with the AP. -/
def OuterPort.bitIn (w : Nat) (o : OuterPort) (b : RxBit) : OuterPort :=
  let pos := (o.pos + 1) % (64 * w * 61680)
  let o := if o.pos = 0 then { o with scr := scramInit, skip := 0, slot := [] } else o
  if o.pos / 61680 < w ∧ o.pos % 61680 < 2432 then { o with pos := pos }
  else
    let (x, r) := scramStep o.scr
    let o := { o with pos := pos, scr := r }
    if 0 < o.skip then { o with skip := o.skip - 1 }
    else
      let slot := { b with bit := b.bit != x } :: o.slot
      if slot.length = 16576 then { o with slot := [], slots := o.slots ++ [slotOf slot.reverse] } else { o with slot := slot }

/-- Run the scrambler through a number of bits. -/
def scramSkip : Nat → Nat → Nat
  | 0, r => r
  | n + 1, r => scramSkip n (scramStep r).2

/-- The receive side of a port as merging begins at a superblock (R181, R185): the descrambler as the frame-stream bits before it leave
it, and the bits up to the next slot passed over. -/
def OuterPort.begin (w sb : Nat) (slots : List RxSlot) : OuterPort :=
  let before := 61680 * sb - 2432 * min sb w
  { next := some (17 * sb), pos := 61680 * sb, scr := scramSkip before scramInit
    skip := (16576 - before % 16576) % 16576, slots := slots }

/-- An outer codeword is decoded and counted (R186, R216); its message part, corrected or passed on unchanged and flagged, goes to the
descrambler and delineation. -/
def State.outerCodeword (s : State) (p : Fin 8) (cw : List RxBit) : State :=
  let n := p.val + 1
  let w := (s.lanesOf p).length
  let s1 := s.bump64 Ob.LINK_RS_CW n 1
  match rsDecode (tenBit 544 (cw.map (·.bit))) with
  | some (c, k) =>
    let msg := List.zipWith (fun b x => ({ b with bit := x } : RxBit)) (cw.take 5140) (tenBits (c.take 514))
    ((s1.bump64 Ob.LINK_RS_SYM_CORRECTED n k).setBlob Ob.LINK_RS_HIST n (incU32At (s1.blob Ob.LINK_RS_HIST n) k)).modOuterPort p
      (fun o => msg.foldl (OuterPort.bitIn w) o)
  | none =>
    (s1.bump64 Ob.LINK_RS_UNCORRECTABLE n 1).modOuterPort p (fun o =>
      ((cw.take 5140).map (fun b => { b with bad := true })).foldl (OuterPort.bitIn w) o)

/-- Decode the whole outer codewords that merged bits hold, at most `fuel` of them. -/
def State.outerDrain (s : State) (p : Fin 8) : Nat → State
  | 0 => s
  | fuel + 1 =>
    let bits := s.outerPort[p].bits
    if bits.length < 5440 then s
    else
      let s1 := s.modOuterPort p (fun o => { o with bits := bits.drop 5440 })
      (s1.outerCodeword p (bits.take 5440)).outerDrain p fuel

/-- The bits of a payload with its marks (R169, R206). -/
def Payload.rxBits (x : Payload) : List RxBit := x.bits.map (fun b => { bit := b, rescued := x.rescued, unsettled := x.unsettled })

/-- Merge payloads in order of q (R184), at most `fuel` of them; merging begins at the first superblock that every lane
still has. -/
def State.outerMerge (s : State) (p : Fin 8) : Nat → State
  | 0 => s
  | fuel + 1 =>
    let lanes := s.lanesOf p
    let count := lanes.length
    match s.outerPort[p].next with
    | none =>
      if lanes.all (fun l => !s.outerLane[l].queue.isEmpty) ∧ lanes ≠ [] then
        let top := (lanes.map (fun l => match s.outerLane[l].queue with | x :: _ => x.q | [] => 0)).foldl max 0
        let start := ceilDiv top 17 * 17
        let from_ := if 1088 * count ≤ start then 0 else start
        let s1 := forEach lanes (fun l s => s.modOuterLane l (fun o => { o with
          queue := o.queue.filter (fun x => decide (from_ ≤ x.q) && decide (start < 1088 * count)) })) s
        (s1.modOuterPort p (fun o => OuterPort.begin count (from_ / 17) o.slots)).outerMerge p fuel
      else s
    | some q =>
      match lanes[q % max 1 count]? with
      | some l =>
        match s.outerLane[l].queue with
        | x :: rest =>
          let s1 := s.modOuterLane l (fun o => { o with queue := rest })
          if x.q = q then
            let s2 := s1.modOuterPort p (fun o => { o with bits := o.bits ++ x.rxBits, next := some ((q + 1) % (1088 * count)) })
            (s2.outerDrain p 2).outerMerge p fuel
          else (s1.modOuterPort p (fun o => { slots := o.slots })).outerMerge p fuel
        | [] => s
      | none => s

/-- Pass a released payload to its port's outer decoder, with its status and its UNSETTLED bit (R169). -/
def State.outerFeed (s : State) (l : Fin 8) (payload : List Bool) (rescued unsettled : Bool) : State :=
  let s := s.modOuterLane l (fun o => { o with head := some (payload.take 2432) })
  match s.portOf l, s.outerLane[l].q with
  | some p, some q =>
    let count := (s.lanesOf p).length
    let s1 := s.modOuterLane l (fun o => { o with
      queue := o.queue ++ [⟨q, payload, rescued, unsettled⟩], q := some ((q + count) % (1088 * count)) })
    if s.reg Ob.LINK_ALIGN_STATE (p.val + 1) = 1 then s1.outerMerge p 64
    else s1.modOuterLane l (fun o => { o with queue := o.queue.drop (o.queue.length - 128) })
  | _, _ => s

/-! ## HAMPER -/

/-- The bit positions that CW_CORRUPT inverts (R329). -/
def corruptBits (m : Nat) (payload : List Bool) : List Bool :=
  let at_ := (List.range m).map (fun j => 3840 / m * j)
  payload.mapIdx (fun i b => if at_.contains i then !b else b)

/-- A codeword leaves HAMPER (R157, R167, R169): its counters, its latency, an injection of kind 2, the outer decoder,
and at loop-back depth 4 the line (R324, R327). -/
def State.releaseCw (s : State) (l : Fin 8) (c : Codeword) : State :=
  let n := l.val + 1
  let ctr := match c.status with | 0 => Ob.TIC_CW_CONVERGED | 1 => Ob.TIC_CW_CAP_FAIL | 2 => Ob.TIC_CW_FORCED | _ => Ob.TIC_CW_UNDECODED
  let lat := match c.stamp.to s.stampNow with | some d => d * 1000000000 / 2 ^ 48 | none => 0
  let s1 := s.bump64 ctr n 1
  let s2 := if c.unsettled then s1.bump64 Ob.TIC_CW_UNSETTLED n 1 else s1
  let s3 := s2.setReg Ob.HAMPER_LATENCY_MAX_NS n (max (s2.nat Ob.HAMPER_LATENCY_MAX_NS n) (min (2 ^ 32 - 1) lat) : Nat)
  let payload := c.hard.take 3840
  match s3.portOf l with
  | some p =>
    let hit := decide (0 < s3.injects p 2 (some l))
    let out := if hit then corruptBits s3.test[p].injBits payload else payload
    let s4 := if hit then s3.injUse p 1 else s3
    if s4.pstate p = PS.TEST ∧ s4.test[p].kind = 6 then s4.txSend l (symbolsOf (ticEncode out))
    else s4.outerFeed l out (c.status != 0) c.unsettled
  | none => s3

/-- Release, in stamp order, the codewords of a lane that may leave (R167), at most `fuel` of them. -/
def State.hamper (s : State) (l : Fin 8) : Nat → State
  | 0 => s
  | fuel + 1 =>
    match s.tic[l].cws with
    | c :: rest =>
      if c.phase = .ended then
        let s1 := (s.modTic l (fun t => { t with cws := rest })).setReg Ob.HAMPER_OCCUPANCY (l.val + 1) (rest.length : Int)
        (s1.releaseCw l c).hamper l fuel
      else s
    | [] => s

/-- Count every iteration performed on a codeword (R175); the tick's mean takes those of codewords stamped in the tick. -/
def State.iterStats (s : State) (l : Fin 8) (c : Codeword) (iters : Nat) : State :=
  let n := l.val + 1
  let k := c.done + iters
  ((s.bump64 Ob.TIC_ITER_TOTAL n k).setBlob Ob.TIC_ITER_HIST n (incU32At (s.blob Ob.TIC_ITER_HIST n) (min 16 k))).modTic l
    (fun t => { t with tickIters := t.tickIters + if c.inTick then k else 0 })

/-- The statistics of a CONVERGED codeword (R175). -/
def State.convergedStats (s : State) (l : Fin 8) (c : Codeword) (hard : List Bool) : State :=
  if c.unsettled ∧ !s.flag Ob.LINE_STATS_INCL_UNSETTLED (l.val + 1) then s
  else
    let k := ((List.zipWith (· != ·) hard (c.q.map signBit)).filter id).length
    (s.bump64 Ob.TIC_BITS_CORRECTED (l.val + 1) k).modTic l (fun t => { t with preNow := (t.preNow.1 + k, t.preNow.2 + 1) })

/-- A codeword's decoding or waiting ends with a status (R157); what may leave then leaves. -/
def State.endCw (s : State) (l : Fin 8) (c : Codeword) (status iters : Nat) (hard : List Bool) : State :=
  let s1 := (s.iterStats l c iters).modCw l c.order (fun c => { c with phase := .ended, status := status, iters := iters, hard := hard })
  s1.hamper l s1.tic[l].cws.length

/-- A forced codeword counts for TIC_FORCED_RATE unless loss of signal caused it (R176). -/
def State.countForced (s : State) (l : Fin 8) : State := s.modTic l (fun t => { t with tickForced := t.tickForced + 1 })

/-- The codeword a unit decodes. -/
def State.unitCw (s : State) (h : Fin 2) (u : Fin 48) : Option (Fin 8 × Codeword × Nat) :=
  (fins 8).findSome? (fun l => s.tic[l].cws.findSome? (fun c =>
    match c.phase with
    | .decoding h' u' since => if h' = h ∧ u' = u then some (l, c, since) else none
    | _ => none))

/-- The time that units have spent on a lane's codewords goes into their halves' busy time (R174). -/
def State.unitsTime (s : State) (cs : List Codeword) : State :=
  forEach cs (fun c s => match c.phase with | .decoding h _ since => s.unitTime h since | _ => s) s

/-- Every in-flight codeword of a lane is discarded without release (R171). -/
def State.ticDiscard (s : State) (l : Fin 8) : State :=
  ((s.unitsTime s.tic[l].cws).modTic l (fun t => { t with cws := [], swift := false, looped := [] })).setReg Ob.HAMPER_OCCUPANCY
    (l.val + 1) 0

/-- The receive chain of a lane goes to IDLE (R123, R171). -/
def State.rxIdle (s : State) (l : Fin 8) : State := (s.tlIdle l).ticDiscard l

/-- Whether a half's units hold codewords of the other half (R163). -/
def State.holdsBorrowed (s : State) (h : Fin 2) : Bool :=
  (lanesOfHalf (1 - h)).any (fun l => s.tic[l].cws.any (fun c => match c.phase with | .decoding h' _ _ => h' == h | _ => false))

/-- A half's FEC domain leaves ON or is reset (R171): its lanes' codewords are discarded, and codewords of the other
half that its units decode are released FORCED with input signs. How many iterations those had is a free value up to their cap. -/
def State.fecStop (s : State) (h : Fin 2) : State :=
  let s1 := forEach (lanesOfHalf h) (fun l s => s.ticDiscard l) s
  forEach (lanesOfHalf (1 - h)) (fun l s => forEach s.tic[l].cws (fun c s =>
    match c.phase with
    | .decoding h' _ since =>
      if h' = h then
        let (s2, k) := (s.unitTime h since).fresh
        (s2.countForced l).endCw l c 2 (Config.freeValue k % (c.cap + 1)) (c.q.map signBit)
      else s
    | _ => s) s) s1

/-- The cold path of a FEC domain returns failed units to service (R165). -/
def State.fecCold (s : State) (h : Fin 2) : State :=
  (s.modPool h (fun p => { p with failed := [] })).setReg Ob.TIC_UNITS_AVAILABLE (h.val + 1) 48

/-- Whether a port delivers codewords to the pool (R158). -/
def State.ticUsed (s : State) (p : Fin 8) : Bool :=
  let st := s.pstate p
  (s.rateActive p == Rate.N1 || s.rateActive p == Rate.N2) &&
  (st == PS.ALIGNED || st == PS.CARRYING || st == PS.DRAINING || (st == PS.TEST && (s.test[p].kind == 5 || s.test[p].kind == 6)))

/-- Staging slots in use in a half (R164). -/
def State.staged (s : State) (h : Fin 2) : Nat :=
  ((lanesOfHalf h).map (fun l => (s.tic[l].cws.filter (fun c => c.phase != .ended)).length)).sum

/-- Whether the far end's precoding is to be undone on a lane (R129): as LINE.RX_PRECODE says, or as the candidate under test has it
where the search tries both. -/
def State.precoded (s : State) (l : Fin 8) : Bool :=
  if s.rx[l].precode = 0 then decide (2048 ≤ s.srch[l].cand) else s.rx[l].precode == 2

/-- The number of the first symbol of the codeword whose last symbol has just left the detector, at a lane's symbol offset (R59,
R301). -/
def State.cwStart (s : State) (l : Fin 8) : Option Nat :=
  let x := s.rx[l].dsp
  let c := s.srch[l].cand % 2048
  if c + 2048 ≤ x.staged ∧ (x.staged - c) % 2048 = 0 then some (x.staged - 2048) else none

/-- A codeword at LLR generation: d1 - d0 of its 4,096 bits, whether it is unsettled, and its LLR step. -/
structure CwSoft where
  soft : List (Option Int)
  unsettled : Bool
  step : Nat

/-- The codeword that arrives (R139, R154, R155), with the step of its first symbol. -/
def State.softIn (s : State) (l : Fin 8) (first : Nat) : CwSoft :=
  let x := s.rx[l].dsp
  { soft := x.softFrom (s.precoded l) first 2048, unsettled := x.anyMarked first 2048
    step := if first < x.llrFrom then x.llrOld else s.nat Ob.TIC_LLR_STEP (l.val + 1) }

/-- The soft values of a looped codeword: +7 for a bit of value 0, -7 for one of value 1 (R326). -/
def loopSoft (levels : List Nat) : List Int := (bitsOfSymbols levels).map (fun b => if b then -7 else 7)

/-- The injections of symbol errors into the soft values of a codeword whose first symbol has a number, and the state after they are
counted (R329, R330): a burst starts at its block boundary. -/
def State.softErrors (s : State) (p l : Fin 8) (first : Nat) (q : List Int) (errs : List Nat) : List Int × State :=
  let skip := s.tic[l].burstAt - first
  let burst := min (2048 - skip) (s.injects p 1 (some l))
  let errs := if 0 < s.nat Ob.TEST_INJ_SYM_PROB (p.val + 1) ∧ bitOf (s.nat Ob.TEST_INJ_LANES (p.val + 1)) l.val then
      (errs.filter (· < 2048)).eraseDups else []
  let s1 := (s.injUse p burst).bump64 Ob.TEST_INJ_SYM_ERRORS (p.val + 1) errs.length
  (if burst = 0 ∧ errs = [] then q else symbolErrors ((List.range burst).map (skip + ·) ++ errs) 0 q, s1)

/-- The stamp of the sample that a lane's converter takes now (R59). -/
def State.sampleStamp (s : State) (l : Fin 8) : Stamp := s.sampleStampAt s.adc[l].k

/-- One entry of an LLR capture for each symbol: the first bit's q in bits [3:0], the second's in bits [7:4], as four-bit two's complement
(R331). -/
def llrEntries : List Int → List Nat
  | a :: b :: rest => ((a % 16).toNat + 16 * (b % 16).toNat) :: llrEntries rest
  | _ => []

/-! ## Meanings -/

/-- A codeword is stamped, staged and given its HAMPER slot, and a free unit may take it (R158, R162, R164, R166): `dark` under loss of
signal, `gap` wholly inside a discard gap. -/
def State.cwArrive (s : State) (p l : Fin 8) (q : List Int) (stamp : Stamp) (unsettled dark gap : Bool) : State :=
  let n := l.val + 1
  let full := !dark && !gap && decide (1536 ≤ s.staged (halfOf l))
  let swift := decide (s.modeOf p = 2)
  let cw : Codeword := {
    order := s.cwCount, stamp := stamp, deadline := modeDeadline (s.modeOf p), cap := s.effCap p, swift := swift
    unsettled := unsettled, q := q, phase := .waiting }
  let s := s.capRecord l 2 ((llrEntries q).map (fun e => (e, stamp.time)))
  let s1 := ({ s with cwCount := s.cwCount + 1 }).modTic l (fun t => { t with
    cws := t.cws ++ [cw], swift := swift, tickCw := t.tickCw + 1 })
  let occ := s1.tic[l].cws.length
  let s2 := ((s1.bump64 Ob.TIC_CW_ARRIVED n 1).setReg Ob.HAMPER_OCCUPANCY n (occ : Int)).setReg Ob.HAMPER_OCCUPANCY_PEAK n
    (max (s1.nat Ob.HAMPER_OCCUPANCY_PEAK n) occ : Nat)
  let h := halfOf l
  let s3 := s2.setReg Ob.TIC_STAGING_PEAK (h.val + 1) (max (s2.nat Ob.TIC_STAGING_PEAK (h.val + 1)) (min 1536 (s2.staged h)) : Nat)
  let s4 := if full then
      (s3.bump64 Ob.TIC_STAGING_FULL (h.val + 1) 1).raise Src.TIC_STAGING_FULL h.val (h.val + 256 * l.val) Ob.TIC_EVENTS n
    else s3
  if dark then s4.endCw l cw 3 0 (q.map signBit)
  else if gap || full then (s4.countForced l).endCw l cw 3 0 (q.map signBit)
  else s4.dispatch

/-- CODEWORD_ARRIVAL: the last symbol of a codeword leaves the detector (R59, R158, R166); in loop-back of depth 3 a looped codeword
comes in its place (R326). -/
def execCodewordArrival (l : Fin 8) (codes : List Int) (errs : List Nat) (s : State) : Out :=
  let s := s.rxSamples l codes
  match s.portOf l with
  | none => .next s
  | some p =>
    let n := l.val + 1
    if !s.ticUsed p || !s.on (Dom.fec (halfOf l)) then .next s
    else if s.pstate p = PS.TEST ∧ s.test[p].kind = 5 then
      if s.tic[l].looped.length < 2048 then .next s
      else
        let (q, s0) := s.softErrors p l s.tic[l].burstAt (loopSoft (s.tic[l].looped.take 2048)) errs
        let s1 := s0.modTic l (fun t => { t with looped := t.looped.drop 2048 })
        .next (s1.cwArrive p l q s.stampNow false (s.flag Ob.LINE_LOS_RAW n) false)
    else match s.cwStart l with
      | none => .next s
      | some first =>
        let c := s.softIn l first
        let (q, s0) := s.softErrors p l first (c.soft.map (softValue (s.nat Ob.LINE_MSE n) c.step)) errs
        .next (s0.cwArrive p l q (s.sampleStamp l) c.unsettled (s.flag Ob.LINE_LOS_RAW n) (c.soft.all (·.isNone)))

/-- A unit's decoding of a codeword comes to its end with what it decided, its iterations and whether it converged (R156, R165):
confirmed, CONVERGED; else CAP_FAIL. `delivered` is none where the unit worked, or the bits that a faulty unit hands over as
CONVERGED. -/
def State.decodeWith (s : State) (h : Fin 2) (u : Fin 48) (l : Fin 8) (c : Codeword) (since : Nat) (delivered : Option (List Bool))
    (d : List Bool × Nat × Bool) : State :=
  let bits := delivered.getD d.1
  let claimed := d.2.2 || delivered.isSome
  let confirmed := claimed && syndromeZero bits.toArray
  let s1 := s.unitTime h since
  let s2 := if claimed ∧ !confirmed then s1.failUnit h u l 1 else s1
  let s3 := if confirmed then s2.convergedStats l c bits else s2
  (s3.endCw l c (if confirmed then 0 else 1) d.2.1 bits).dispatch

/-- The same with what the min-sum decoder makes of the codeword (R156). -/
def State.decodeEnd (s : State) (h : Fin 2) (u : Fin 48) (l : Fin 8) (c : Codeword) (since : Nat) (delivered : Option (List Bool)) : State :=
  s.decodeWith h u l c since delivered (ticDecode c.q c.cap)

/-- DECODE_END: a unit ends its codeword. -/
def execDecodeEnd (h : Fin 2) (u : Fin 48) (delivered : Option (List Bool)) (s : State) : Out :=
  match s.unitCw h u with
  | none => .next s
  | some (l, c, since) => .next (s.decodeEnd h u l c since delivered)

/-- RELEASE_DEADLINE: the deadline of the lane's `i`-th codeword in flight passes. Decoding, it keeps the decision after the layers
completed, unless these complete it, where completion stands; waiting, its input signs (R168, R171). -/
def execReleaseDeadline (l : Fin 8) (i layers : Nat) (s : State) : Out :=
  match s.tic[l].cws[i]? with
  | none => .next s
  | some c =>
    match c.phase with
    | .ended => .next s
    | .waiting => .next (((s.countForced l).endCw l c 2 0 (c.q.map signBit)).dispatch)
    | .decoding h u since =>
      let n := min layers (4 * c.cap)
      if 4 * (ticDecode c.q c.cap).2.1 ≤ n then .next (s.decodeEnd h u l c since none)
      else .next ((((s.unitTime h since).countForced l).endCw l c 2 (n / 4) (ticPartial c.q n)).dispatch)

/-- LAYER_WATCHDOG: a layer has not completed in 50 ns (R165): the unit fails, and its codeword waits again from its
staged soft values, or is released FORCED where its deadline has passed (R171). The iterations done count (R175). -/
def execLayerWatchdog (h : Fin 2) (u : Fin 48) (layers : Nat) (s : State) : Out :=
  match s.unitCw h u with
  | none => .next s
  | some (l, c, since) =>
    let k := min layers (4 * c.cap) / 4
    let s1 := (s.unitTime h since).failUnit h u l 0
    if s.past c then .next (((s1.countForced l).endCw l c 2 k (c.q.map signBit)).dispatch)
    else .next ((s1.modCw l c.order (fun c => { c with phase := .waiting, done := c.done + k })).dispatch)

/-- TIC.CLEAR_PEAKS (R178). -/
def ownTicClearPeaks (s : State) : Verdict :=
  .done (((s.setAll Ob.TIC_STAGING_PEAK 0 2).setAll Ob.HAMPER_OCCUPANCY_PEAK 0 8).setAll Ob.HAMPER_LATENCY_MAX_NS 0 8) []

/-! ## The tick -/

/-- The tick's part of a lane: ITER_MEAN, PRE_BER and the LLR step (R154, R175, R394). -/
def State.ticTickLane (s : State) (l : Fin 8) : State :=
  let n := l.val + 1
  let t := s.tic[l]
  let mean := if t.tickCw = 0 then 0 else roundDiv (1000 * t.tickIters : Nat) t.tickCw
  let hist := (t.preNow :: t.pre).take 100
  let bits := (hist.map (·.1)).sum
  let cws := (hist.map (·.2)).sum
  let ber := if cws = 0 then 0 else roundDiv (bits * 10000000000 : Nat) (4096 * cws)
  let s1 := s.modTic l (fun t => { t with
    tickCw := 0, tickIters := 0, tickForced := 0, preNow := (0, 0), pre := hist, cws := t.cws.map (fun c => { c with inTick := false }) })
  let s2 := (s1.setReg Ob.TIC_ITER_MEAN n (clampInt 0 65535 mean)).setReg Ob.TIC_PRE_BER n (clampInt 0 (2 ^ 32 - 1) ber)
  if s.on (Dom.lrx l) then
    (s2.modDsp l (fun x => { x with llrOld := s.nat Ob.TIC_LLR_STEP n, llrFrom := x.staged })).setReg Ob.TIC_LLR_STEP n
      (llrStep (s.nat Ob.LINE_MSE n) : Nat)
  else s2

/-- TIC_FORCED_RATE of a port at the tick (R176). -/
def State.forcedRate (s : State) (p : Fin 8) : State :=
  let n := p.val + 1
  let lanes := s.lanesOf p
  let forced := (lanes.map (fun l => s.tic[l].tickForced)).sum
  let arrived := (lanes.map (fun l => s.tic[l].tickCw)).sum
  let limit := s.nat Ob.TIC_FORCED_ALARM_PPB n
  if 0 < limit ∧ limit * arrived < forced * 1000000000 then
    s.raise Src.TIC_FORCED_RATE p.val (p.val + 256 * min (2 ^ 24 - 1) forced) Ob.TIC_EVENTS n
  else s

/-- TIC.POOL_LOAD of a half at the tick (R174). -/
def State.poolLoad (s : State) (h : Fin 2) : State :=
  let inFlight := ((fins 8).map (fun l => (s.tic[l].cws.map (fun c =>
    match c.phase with
    | .decoding h' _ since => if h' = h then s.time.now - max since s.pool[h].tickAt else 0
    | _ => 0)).sum)).sum
  let span := s.time.now - s.pool[h].tickAt
  let units := s.nat Ob.TIC_UNITS_AVAILABLE (h.val + 1)
  let load := if span * units = 0 then 0 else roundDiv (1000 * (s.pool[h].busy + inFlight) : Nat) (span * units)
  (s.modPool h (fun p => { p with busy := 0, tickAt := s.time.now })).setReg Ob.TIC_POOL_LOAD (h.val + 1) (clampInt 0 65535 load)

/-- The tick's part of the inner code. -/
def State.ticTick (s : State) : State :=
  let s1 := forEach (fins 8) (fun p s => if s.exists p then s.forcedRate p else s) s
  let s2 := forEach (fins 8) (fun l s => s.ticTickLane l) s1
  forEach (fins 2) (fun h s => s.poolLoad h) s2

end Sys2Proof.Machine
end

