-- ==== Sys2Proof/Machine/Transport.lean ====
section
/-! DEFINITION. The transports of the management protocol: request bytes into frames, reply bytes out, and what a
forwarded request is answered with (R341 to R344, R353 to R357). -/

namespace Sys2Proof.Machine

/-! ## Requests from bytes -/

/-- The length of a whole frame from its first eight bytes (R342): a reply, on the in-band channel, has STATUS. -/
def frameLength (p : Path) (b : List Byte) : Nat :=
  let isReply := !p.isLocal && bitOf (b.getD 1 0).toNat 7
  10 + isReply.toNat + leNat ((b.drop 6).take 2)

/-- A frame discarded by its CRC, its LENGTH or the FIFO (R349, R353, R365). -/
def State.frameError (s : State) (p : Path) (overflow : Bool) : State :=
  (s.bump Ob.MMP_FRAME_ERRORS p.sub 1).raise Src.MMP_FRAME_ERROR p.sub (p.sub + if overflow then 256 else 0) Ob.MMP_EVENTS p.sub

/-- Bytes of a path's request FIFO in use (R353). -/
def Transport.used (t : Transport) : Nat := t.rx.length + (t.accepted.map (fun f => f.bytes.length)).sum

/-- Whether the CRC of a whole frame holds (R344). -/
def crcHolds (f : List Byte) : Bool := decide (2 ≤ f.length) && f.drop (f.length - 2) == beBytes 2 (crc16 (f.take (f.length - 2)))

/-- Whether an OPCODE byte is one the server takes on a path (R343, R357): no reserved bit, a defined code, no RSP but in
a reply on the in-band channel, no RMT there. -/
def opcodeOk (p : Path) (op : Nat) : Bool :=
  !bitOf op 4 && !bitOf op 7 && (Opcode.ofCode (op % 16)).isSome && (p.isLocal || !bitOf op 5)

/-- A reply that the server gives a frame by its header alone. -/
def State.headReply (s : State) (p : Path) (f : List Byte) (st : Nat) : State :=
  s.pushBehind p ((f.getD 1 0).toNat % 16 == 6) (f.getD 2 0) (replyFrame ((f.getD 1 0).toNat % 128) (f.getD 2 0) (leNat ((f.drop 3).take 2)) (f.getD 5 0).toNat st [])

/-- Whether a frame on a path repeats the last state-changing request on its TAG (R350). -/
def State.duplicateOf (s : State) (p : Path) (f : List Byte) : Option LastReq :=
  let op := (f.getD 1 0).toNat % 16
  if op = 2 ∨ op = 4 ∨ op = 6 then
    (s.tp p).last.find? (fun l => l.tag == f.getD 2 0 && l.crc == beNat (f.drop (f.length - 2)))
  else none

/-- A whole frame has come (R349, R350): discarded by its CRC, answered BAD_OPCODE, answered or dropped as a duplicate,
or accepted to be served with the counter latched in this cycle (R51). In band a reply is accepted too, for its forwarded request. -/
def State.takeFrame (s : State) (p : Path) (lpl : Nat) (f : List Byte) : State :=
  if !crcHolds f then s.frameError p false
  else
    let s1 := s.bump Ob.MMP_RX_FRAMES p.sub 1
    let op := (f.getD 1 0).toNat
    if !p.isLocal ∧ bitOf op 7 then s1.modTp p (fun t => { t with accepted := t.accepted ++ [⟨f, s.stamp⟩] })
    else if !opcodeOk p op ∨ (!p.isLocal ∧ bitOf op 6 ∧ lpl < 3) then s1.headReply p f St.BAD_OPCODE
    else
      match (if (s1.tp p).accepted.any (fun g => g.bytes.getD 2 0 == f.getD 2 0) then none else s1.duplicateOf p f) with
      | some l => (match l.reply with | some out => s1.pushBehind p (op % 16 == 6) (f.getD 2 0) out | none => s1)
      | none => s1.modTp p (fun t => { t with accepted := t.accepted ++ [⟨f, s.stamp⟩] })

/-- One byte into a path's request FIFO (R353): bytes between frames that are not SYNC are discarded; a LENGTH above
4,112 or a frame that does not fit discards the frame. -/
def State.pushByte (s : State) (p : Path) (lpl : Nat) (b : Byte) : State :=
  let t := s.tp p
  if 0 < t.skip then s.modTp p (fun t => { t with skip := t.skip - 1 })
  else if t.rx = [] then
    if b = 0xA5 then s.modTp p (fun t => { t with rx := [b], rxLpl := lpl }) else s
  else
    let rx := t.rx ++ [b]
    if rx.length < 8 then s.modTp p (fun t => { t with rx := rx })
    else
      let n := frameLength p rx
      if rx.length = 8 ∧ 4112 < leNat ((rx.drop 6).take 2) then
        (s.modTp p (fun t => { t with rx := [] })).frameError p false
      else if rx.length = 8 ∧ 8192 < t.used - 7 + n then
        (s.modTp p (fun t => { t with rx := [], skip := n - 8 })).frameError p true
      else if rx.length = n then (s.modTp p (fun t => { t with rx := [] })).takeFrame p t.rxLpl rx
      else s.modTp p (fun t => { t with rx := rx })

/-- Bytes into a path's request FIFO. -/
def State.pushBytes (s : State) (p : Path) (lpl : Nat) (bs : List Byte) : State := forEach bs (fun b s => s.pushByte p lpl b) s

/-! ## Replies out -/

/-- The count of a PULL: bytes of whole reply frames, up to 8,192 (R353). -/
def pullCount : Nat → List (List Byte) → Nat
  | _, [] => 0
  | room, f :: fs => if f.length ≤ room then f.length + pullCount (room - f.length) fs else 0

/-- Take bytes off waiting replies. -/
def takeReply : Nat → List (List Byte) → List Byte × List (List Byte)
  | 0, fs => ([], fs)
  | _ + 1, [] => ([], [])
  | n + 1, f :: fs =>
    if f.length ≤ n + 1 then
      let (bs, rest) := takeReply (n + 1 - f.length) fs
      (f ++ bs, rest)
    else (f.take (n + 1), f.drop (n + 1) :: fs)
  termination_by structural _ fs => fs

/-- The status byte (R354), or 0x01 of the stand-in while MGT is not ON (R435). -/
def State.statusByte (s : State) (p : Path) : Nat :=
  if !s.on Dom.MGT then 1
  else
    let d := s.reg Ob.DICT_STATE 0
    128 * (decide (d = 1)).toNat + 64 * (decide ((s.tp p).replies ≠ [])).toNat +
      32 * (decide ((s.tp p).used + 4122 ≤ 8192)).toNat + 16 * (decide (d = 2) || decide (d = 3)).toNat + 1

/-- What a transport transaction shifts out. -/
def State.shiftOut (s : State) (p : Path) (bs : List Byte) : State := s.modTp p (fun t => { t with out := bs })

/-- A transaction while MGT is not ON: the stand-in answers, its bytes are discarded, and the HOST vote is cast (R435).
Before step 3 of start-up nothing answers. -/
def State.standIn (s : State) (p : Path) : State :=
  if s.pwr Dom.MGT = 0 then s.shiftOut p [] else (s.shiftOut p [BitVec.ofNat 8 (s.statusByte p)]).mgtCall

/-- A PULL that clocks `n` bytes (R353). -/
def State.pull (s : State) (p : Path) (n : Nat) (head : List Byte) : State :=
  let fs := (s.tp p).replies
  let count := pullCount 8192 fs
  let (bs, rest) := takeReply (min (n - 2) count) fs
  s.modTp p (fun t => { t with
    replies := rest, out := head ++ (leBytes 2 count ++ bs ++ List.replicate (n - 2 - bs.length) 0).take n })

/-! ## The in-band channel -/

/-- Answer a forwarded request itself (R357): INDEX and SUBINDEX echo the host's request. -/
def State.answerForward (s : State) (f : Forward) (st : Nat) (body : List Byte := []) (ix sub : Nat := 0) : State :=
  let out := replyFrame f.opByte f.host.tag ix sub st body
  let op := f.opByte % 16
  (s.pushReply f.host.path out).modTp f.host.path (fun t => if op = 2 ∨ op = 4 ∨ op = 6 then keepReply t f.host.tag out else t)

/-- Change a port's forwarded requests. -/
def State.modFwd (s : State) (p : Fin 8) (f : List Forward → List Forward) : State :=
  { s with mmp := { s.mmp with fwd := s.mmp.fwd.set p (f s.mmp.fwd[p]) } }

/-- The port leaves ALIGNED and CARRYING: every forwarded request is answered LINK_DOWN, and the bytes of the in-band
channel are lost (R357). -/
def State.linkDown (s : State) (p : Fin 8) : State :=
  let s1 := forEach s.mmp.fwd[p] (fun f s => s.answerForward f St.LINK_DOWN [] f.ix f.sub) s
  (s1.modFwd p (fun _ => [])).modTp (.inband p) (fun t => { t with
    rx := [], skip := 0, replies := [], wait := t.wait.filter (fun w => w.2.isNone) })

/-- The next management word of a port (R213): the earlier byte in the high byte, a lone last byte padded with 0x00. -/
def State.takeWord (s : State) (p : Fin 8) : Option (Nat × State) :=
  match (s.tp (.inband p)).replies with
  | [] => none
  | fs =>
    let (bs, rest) := takeReply 2 fs
    some (beNat ((bs ++ [0]).take 2), s.modTp (.inband p) (fun t => { t with replies := rest.filter (· ≠ []) }))

/-! ## Meanings -/

/-- SPI_PUSH: the bytes after the command byte 0x01 (R353). -/
def execSpiPush (bs : List Byte) (s : State) : Out :=
  if !s.on Dom.MGT then .next (s.standIn .spi)
  else .next ((s.shiftOut .spi [BitVec.ofNat 8 (s.statusByte .spi)]).pushBytes .spi 3 bs)

/-- SPI_PULL: `n` bytes are clocked after the command byte 0x02 (R353). -/
def execSpiPull (n : Nat) (s : State) : Out :=
  if !s.on Dom.MGT then .next (s.standIn .spi)
  else .next (s.pull .spi n [BitVec.ofNat 8 (s.statusByte .spi)])

/-- SPI_STATUS: the command byte 0x03 (R353, R354). -/
def execSpiStatus (s : State) : Out :=
  if !s.on Dom.MGT then .next (s.standIn .spi) else .next (s.shiftOut .spi [BitVec.ofNat 8 (s.statusByte .spi)])

/-- I2C_PUSH: a write transaction of 0x01 and bytes (R355). -/
def execI2cPush (bs : List Byte) (s : State) : Out :=
  if !s.on Dom.MGT then .next (s.standIn .i2c) else .next ((s.shiftOut .i2c []).pushBytes .i2c 3 bs)

/-- I2C_PULL: a write of 0x02, then a repeated start with a read of `n` bytes (R355). -/
def execI2cPull (n : Nat) (s : State) : Out :=
  if !s.on Dom.MGT then .next (s.standIn .i2c) else .next (s.pull .i2c n [])

/-- I2C_STATUS_READ: a read with no preceding command (R355). -/
def execI2cStatusRead (s : State) : Out :=
  if !s.on Dom.MGT then .next (s.standIn .i2c) else .next (s.shiftOut .i2c [BitVec.ofNat 8 (s.statusByte .i2c)])

/-- MDIO_MMP_PUSH: a write of MMP_PUSH, the byte in bits [15:8] first (R356). -/
def execMdioMmpPush (w : BitVec 16) (s : State) : Out :=
  if !s.on Dom.MGT then .next (s.standIn .mdio) else .next (s.pushBytes .mdio 3 (beBytes 2 w.toNat))

/-- MDIO_MMP_PULL: a read of MMP_PULL; 0x0000 where nothing waits (R356). -/
def execMdioMmpPull (s : State) : Out :=
  if !s.on Dom.MGT then .next (s.standIn .mdio)
  else
    let (bs, rest) := takeReply (min 2 (pullCount 8192 (s.tp .mdio).replies)) (s.tp .mdio).replies
    .next (s.modTp .mdio (fun t => { t with replies := rest, out := (bs ++ [0, 0]).take 2 }))

/-- MDIO_MMP_STATUS_WRITE: bit 15 discards a partial request and unread reply bytes (R356). -/
def execMdioMmpStatusWrite (w : BitVec 16) (s : State) : Out :=
  if !s.on Dom.MGT then .next (s.standIn .mdio)
  else if bitOf w.toNat 15 then .next (s.modTp .mdio (fun t => { t with rx := [], skip := 0, replies := [] }))
  else .next s

/-- MGT_STANDIN_WAKE: a transaction on a local transport, or a record with an INT or TRAP reaction, while MGT is not ON
(R435). -/
def execMgtStandinWake (via : Option Path) (s : State) : Out :=
  if s.on Dom.MGT then .next s
  else match via with
    | some p => if p.isLocal then .next (s.standIn p) else .next s
    | none => .next s.mgtCall

end Sys2Proof.Machine
end

