-- ==== Sys2Proof/Machine/PortBase.lean ====
section
/-! DEFINITION. Operations on ports that every part of the link shares: the state with its stamp, votes, the record of a
port's aim, and going down (chapter 11). -/

namespace Sys2Proof.Machine

/-- Change a port's record, a port's link engine, a lane's search. -/
def State.modPort (s : State) (p : Fin 8) (f : PortCtl → PortCtl) : State := { s with port := s.port.set p (f s.port[p]) }
def State.modLink (s : State) (p : Fin 8) (f : LinkPort → LinkPort) : State := { s with link := s.link.set p (f s.link[p]) }
def State.modSrch (s : State) (l : Fin 8) (f : SearchLane → SearchLane) : State := { s with srch := s.srch.set l (f s.srch[l]) }

/-- A deep port (R219): RETRY.WINDOW_US above 70. -/
def State.deepPort (s : State) (p : Fin 8) : Bool := decide (70 < s.nat Ob.RETRY_WINDOW_US (p.val + 1))

/-- Whether the link block sends and checks frames (R298). -/
def State.linkRuns (s : State) (p : Fin 8) : Bool :=
  s.native p && (s.pstate p == PS.SEARCH || s.pstate p == PS.ALIGNED || s.pstate p == PS.CARRYING || s.pstate p == PS.DRAINING ||
    s.testKind p == 5)

/-- A codeword's level indices go to a lane's transmitter; in loop-back of depth 3 they enter its LLR generation too (R324, R326).
DEDUCED (log entry 187): as the codeword has them, before precoding and inversion. -/
def State.lineSend (s : State) (l : Fin 8) (levels : List Nat) : State :=
  let s1 := s.txSend l levels
  match s.portOf l with
  | some p => if s.testKind p = 5 then s1.modTic l (fun t => { t with looped := t.looped ++ levels }) else s1
  | none => s1

/-! ## Stamps of frames (R59) -/

/-- The stamp of a line symbol of a lane by its number: 1,474.56 symbols to a REFCLK cycle at N1, half as many at N2 (R59, log
entry 186). -/
def State.symbolStamp (s : State) (l : Fin 8) (y : Nat) : Stamp :=
  s.stampIn (25 * (y * (if s.laneRate l = Rate.N2 then 2 else 1)) % 36864) 36864

/-- The number of the line symbol of a port's lanes at which the next frame's first header bit enters the outer encoder (R59, R180):
1,088 payloads of 2,048 symbols on each lane to an AP, a marker passed over. -/
def TxStream.symbol (w : Nat) (x : TxStream) : Nat :=
  let pos := if x.pos / 61680 < w ∧ x.pos % 61680 = 0 then x.pos + 2432 else x.pos
  (1088 * 2048) * x.ap + (1088 * 2048) * pos / (64 * max 1 w * 61680)

/-- The send stamp of a frame (R59). -/
def State.sendStamp (s : State) (p : Fin 8) : Stamp := s.symbolStamp p ((s.link[p].stream).symbol (s.lanesOf p).length)

/-- The stamp of the point where a received frame passes HDR_CHK (R59): by the symbols received on the port's lowest lane. -/
def State.recvStamp (s : State) (p : Fin 8) : Stamp := s.symbolStamp p s.rx[p].dsp.sym

/-! ## Votes (R297) -/

/-- Whether a port needs its domains: it is not OFF, or on its way out of OFF, or a calibration that it started still
runs (R264, R297). -/
def State.portActive (s : State) (p : Fin 8) : Bool :=
  s.exists p && (s.pstate p != PS.OFF || s.port[p].goal != .none || (s.lanesOf p).any (fun l => s.txState l == 1 && !s.analog.running.contains l.val))

/-- Whether a lane of a port is being checked (R485). -/
def State.portChecked (s : State) (p : Fin 8) : Bool :=
  (s.lanesOf p).any (fun l => s.analog.running.contains l.val) || (s.hostLanesOf p).any (fun h => s.analog.running.contains (8 + h.val))

/-- Whether a port needs a domain (R88, R221, R297). -/
def State.portNeeds (s : State) (p : Fin 8) (d : Fin 36) : Bool :=
  let ls := s.lanesOf p
  ls.any (fun l => d == Dom.lrx l || d == Dom.synth (halfOf l) || d == Dom.ltx l || d == Dom.fec (halfOf l) || d == Dom.link (halfOf l) || d == Dom.eng l) ||
  (s.hostLanesOf p).any (fun h => d == Dom.hq h) || (d == Dom.DS && s.deepPort p)

/-- Whether a domain holds the sampling synthesiser of a half of which another LRX domain is ON (R88). -/
def State.synthNeeded (s : State) (d : Fin 36) : Bool :=
  (fins 8).any (fun l => d == Dom.synth (halfOf l) && d != Dom.lrx l && s.on (Dom.lrx l))

/-- Bring PORTSM's votes in line with the ports (R88, R297), and with the start-up selection of R446. -/
def State.portVotes (s : State) : State :=
  forEach (fins 36) (fun d s =>
    let want := (fins 8).any (fun p => s.portActive p && s.portNeeds p d) || s.synthNeeded d ||
      (fins 2).any (fun h => s.start.select[h] && d == Dom.synth h)
    if want = bitOf (s.votes d) Vote.PORTSM then s
    else if want then s.castVote d Vote.PORTSM
    else s.withdraw d Vote.PORTSM) s

/-! ## States -/

/-- A port reaches a state, with its stamp; PORT.SEARCH_STATUS is NONE outside SEARCH (R59, R304, R319). -/
def State.setPort (s : State) (p : Fin 8) (st : Int) : State :=
  let n := p.val + 1
  let s1 := if s.pstate p = st then s else (s.setReg Ob.PORT_STATE n st).setStamp Ob.PORT_STATE_TIME n
  s1.setReg Ob.PORT_SEARCH_STATUS n (if st = PS.SEARCH then 1 else 0)

/-- The search of a lane starts afresh, at step 1 of R301; a lock of the S1 markers is given up. -/
def State.searchLane (s : State) (l : Fin 8) : State :=
  let s1 := (s.modSrch l (fun x => { s1Now := x.s1Now, s1Pre := x.s1Pre })).modOuterLane l (fun _ => {})
  if s1.reg Ob.S1_ALIGN_STATE (l.val + 1) = 1 then s1.setReg Ob.S1_ALIGN_STATE (l.val + 1) 0 else s1

/-- The link engine at rest: the outgoing stream and the figures in force stay. -/
def restLink (x : LinkPort) : LinkPort :=
  { stream := x.stream, lostTick := x.lostTick, replayMax := x.replayMax, guardNs := x.guardNs, repeatNs := x.repeatNs
    backlog := x.backlog, wordAt := x.wordAt, rtts := x.rtts, short := x.short }

/-- A port enters SEARCH (R301, R304, R305): the search starts at its first step, the loops start where they are IDLE; in a
rate change they wait for its end (R313). -/
def State.enterSearch (s : State) (p : Fin 8) : State :=
  let s1 := (s.setPort p PS.SEARCH).modPort p (fun x => { x with
    goal := if x.goal = .up then .none else x.goal, drained := false, epFormat := false, epSkew := false, epDark := false
    epAlign := false })
  let s2 := forEach (s1.lanesOf p) (fun l s => let s' := s.searchLane l; if s.rxWanted l then s'.tlStart l else s') s1
  let s3 := if s2.reg Ob.LINK_ALIGN_STATE (p.val + 1) = 1 then s2.setReg Ob.LINK_ALIGN_STATE (p.val + 1) 0 else s2
  ((s3.modOuterPort p (fun _ => {})).modLink p restLink).setReg Ob.LINK_PARTNER_LPL_MAX (p.val + 1) 0

/-- Lanes of a port that calibrate or move. -/
def State.portCalibrating (s : State) (p : Fin 8) : Bool := (s.lanesOf p).any (fun l => s.txState l == 1)
def State.portDownDone (s : State) (p : Fin 8) : Bool := (s.lanesOf p).all s.isDown
def State.portUpDone (s : State) (p : Fin 8) : Bool := !(s.lanesOf p).isEmpty && (s.lanesOf p).all (fun l => s.seq l == 4)

/-- Every lane of a port is calibrated: transmit synthesiser and DAC check done, foreground calibration complete (R254,
R299). -/
def State.portReady (s : State) (p : Fin 8) : Bool :=
  !(s.lanesOf p).isEmpty && (s.lanesOf p).all (fun l =>
    s.txState l == 2 && decide (2 ≤ s.reg Ob.LINE_ADC_STATE (l.val + 1)) && !s.calibrating l && s.on (Dom.lrx l))

/-- Whether a foreground calibration of one of its lanes holds a port in STANDBY (R93, R96, R97). -/
def State.portHeld (s : State) (p : Fin 8) : Bool := (s.lanesOf p).any s.calibrating

/-- Start the down sequence on every lane of a port; a held enable is cancelled (R258, R264). -/
def State.portDown (s : State) (p : Fin 8) : State := forEach (s.lanesOf p) (fun l s => s.txDown l) s

/-- Issue a transmit enable on every lane of a port (R256). -/
def State.portEnable (s : State) (p : Fin 8) : State := forEach (s.lanesOf p) (fun l s => s.txEnable l) s

/-- The receive chains of a port go to IDLE (R123). -/
def State.portRxIdle (s : State) (p : Fin 8) : State :=
  let s1 := forEach (s.lanesOf p) (fun l s => (s.rxIdle l).searchLane l) s
  s1.modOuterPort p (fun _ => {})

/-- The link block of a port is at rest: nothing kept, nothing held (R192, R298). -/
def State.linkRest (s : State) (p : Fin 8) : State :=
  let n := p.val + 1
  (((s.modLink p restLink).setReg Ob.RETRY_OUTSTANDING n 0).setReg Ob.RETRY_HOLD_OCCUPANCY n 0).setReg Ob.LINK_ALIGN_STATE n 0

/-- Active injections of a port end, and the far loop with its object (R328, R333); a forced loss keeps the microseconds
it has lasted. -/
def State.testQuiet (s : State) (p : Fin 8) : State :=
  let t := s.test[p]
  let s := if t.injKind = 6 then s.bump64 Ob.TEST_INJ_APPLIED (p.val + 1) (min t.injLeft ((s.time.now - t.injAt) * 4 / 625)) else s
  ((s.modTest p (fun t => { t with injKind := 0, injLeft := 0, farLoop := false })).setReg Ob.TEST_INJ_ACTIVE (p.val + 1) 0).setReg
    Ob.TEST_FAR_LOOP (p.val + 1) 0

/-- The running sequence of a port ends, with its result (R311, R312). -/
def State.testEnd (s : State) (p : Fin 8) (result : Int) : State :=
  (s.modTest p (fun t => { t with kind := 0, injKind := 0, injLeft := 0 })).setReg Ob.PORT_TEST_RESULT (p.val + 1) result
    |>.setReg Ob.TEST_INJ_ACTIVE (p.val + 1) 0

/-- A port reaches STANDBY (R271, R277, R298): its host lanes leave IDLE where it came from OFF. -/
def State.portStandby (s : State) (p : Fin 8) : State :=
  let fromOff := s.pstate p == PS.OFF
  let s1 := (((s.setPort p PS.STANDBY).testQuiet p).linkDown p).portRxIdle p
  let s2 := (s1.linkRest p).modPort p (fun x => { x with drained := false, lastLeft := 0, rateHold := false })
  if fromOff then forEach (s2.hostLanesOf p) (fun h s => s.hostSignal h) s2 else s2

/-- A port leaves OFF (R253, R254, R295): its rate set is taken, its domains are voted on, and lanes whose domain is ON
calibrate at once; the others do as their domain is released. -/
def State.portLeave (s : State) (p : Fin 8) (goal : PGoal) : State :=
  let s1 := ((s.modPort p (fun x => { x with goal := goal, drained := false, lastLeft := 0 })).setReg Ob.PORT_RATE_ACTIVE (p.val + 1)
    (s.rateConfigured p : Int)).portVotes
  forEach (s1.lanesOf p) (fun l s => if s.on (Dom.ltx l) ∧ s.txState l ≠ 1 then s.txCalibrate l false else s) s1

/-- A drain's record and counters (R318): PORT_DRAIN is raised but for a command or a rate change. -/
def State.noteDrain (s : State) (p : Fin 8) (cause : Nat) : State :=
  let s1 := s.setReg Ob.PORT_DRAIN_CAUSE (p.val + 1) (cause : Int)
  if cause = 6 ∨ cause = 7 then s1
  else s1.raise Src.PORT_DRAIN p.val (p.val + 256 * cause) Ob.PORT_EVENTS (p.val + 1)

end Sys2Proof.Machine
end

