-- ==== Sys2Proof/Machine/Link.lean ====
section
/-! DEFINITION. The retransmission engine: sequence numbers, gaps and delivery, write-off, the outgoing stream, and
entry to CARRYING and DRAINING (chapter 7; R306 to R310). -/

namespace Sys2Proof.Machine

/-! ## Sequence numbers (R192) -/

/-- a − b modulo 2^24. -/
def sub24 (a b : Nat) : Nat := (a + 2 ^ 24 - b % 2 ^ 24) % 2 ^ 24

/-- The next SEQ. -/
def next24 (a : Nat) : Nat := (a + 1) % 2 ^ 24

/-- Whether a precedes b. -/
def precedes (a b : Nat) : Bool := decide (1 ≤ sub24 b a) && decide (sub24 b a < 2 ^ 23)

/-- The number of lanes of a port. -/
def State.width (s : State) (p : Fin 8) : Nat := (s.lanesOf p).length

/-- The lane of a port whose share keeps a SEQ: descriptors are dealt to the lanes in turn. -/
def State.seqLane (s : State) (p : Fin 8) (seq : Nat) : Nat := p.val + seq % max 1 (s.width p)

/-- The descriptor index of a SEQ within its lane's 16,384 (R227). -/
def State.seqIndex (s : State) (p : Fin 8) (seq : Nat) : Nat := seq / max 1 (s.width p) % 16384

/-- RETRY.WINDOW_US as R202, R204, R207 and R208 read it (R221). -/
def State.window (s : State) (p : Fin 8) : Nat :=
  if s.deepPort p ∧ !s.dsInUse then 70 else s.nat Ob.RETRY_WINDOW_US (p.val + 1)

/-- Cycles in a number of ns or µs, rounded up. -/
def nsCycles (n : Nat) : Nat := ceilDiv (n * 10) 64
def usCycles (n : Nat) : Nat := ceilDiv (n * 10000) 64

/-- RETRY.RTT_NS plus the guard, in ns (R198). -/
def State.timerNs (s : State) (p : Fin 8) : Nat := s.nat Ob.RETRY_RTT_NS (p.val + 1) + s.link[p].guardNs

/-- Publish the counts of descriptors and held frames, with their peaks (R216). -/
def State.linkCounts (s : State) (p : Fin 8) : State :=
  let n := p.val + 1
  let out := s.link[p].tx.length
  let held := (s.link[p].held.filter (fun h => !h.lost)).length
  let s1 := (s.setReg Ob.RETRY_OUTSTANDING n (out : Int)).setReg Ob.RETRY_HOLD_OCCUPANCY n (held : Int)
  (s1.setReg Ob.RETRY_OUTSTANDING_PEAK n (max (s1.nat Ob.RETRY_OUTSTANDING_PEAK n) out : Nat)).setReg Ob.RETRY_HOLD_PEAK n
    (max (s1.nat Ob.RETRY_HOLD_PEAK n) held : Nat)

/-! ## The deep store's bandwidth (R236, R238, R240) -/

/-- The usable traffic per device in a tick of 1.024 ms at a pin rate and in a band, in bytes (R236, R238). -/
def usableBytes (rate band : Nat) : Nat :=
  (896 + 128 * rate) * 1280 * (match band with | 2 => 92 | 3 => 90 | _ => 93)

/-- Whether traffic exceeds the usable bandwidth (R240). DESIGN CHOICE (log entry 190): it is measured over the present tick. -/
def State.dsFull (s : State) : Bool := decide (usableBytes s.ds.rate s.ds.band ≤ s.ds.moved)

/-! ## Delivery (R204) -/

/-- Deliver the 64 blocks of a body to egress, or under the far loop to ingress (R282, R328). -/
def State.deliver (s : State) (p : Fin 8) (blocks : List (List Bool)) : State :=
  let is := s.instances p
  let give (i : Fin 8) (b : List Bool) (s : State) : State :=
    let bs := (blocksOf b).getD [.err]
    let s1 := if s.test[p].farLoop then s.farSwitch p bs else s
    if s1.test[p].farLoop then s1.ingressPush p i bs else s1.egressPush p i b
  match is with
  | [a, b] => forEach (blocks.drop 32) (give b) (forEach (blocks.take 32) (give a) s)
  | i :: _ => forEach blocks (give i) s
  | [] => s

/-- The bits of a body kept as a number. -/
def bodyBits (b : Nat) : List Bool := msbBits 16448 b

/-- The content bytes of an entry (R228): the frame bits, then SEQ[15:0]. -/
def contentBody (bytes : List Byte) : Nat := bitsNat (((bytesBits (bytes.take 2072)).drop 96).take 16448)

/-- The body of a held frame, where it can be read: on chip, or read back whole (R220). -/
def HeldFrame.readable (h : HeldFrame) : Option Nat :=
  match h.body with
  | some b => some b
  | none => if h.spill ∧ h.deep.parts.length = 2074 then some (contentBody h.deep.parts) else none

/-- Deliver held frames in SEQ order, as far as they reach, at most `fuel` of them (R204). -/
def State.deliverHeld (s : State) (p : Fin 8) : Nat → State
  | 0 => s
  | fuel + 1 =>
    let x := s.link[p]
    match x.held.find? (fun h => h.seq == x.ack) with
    | none => s
    | some h =>
      let s1 := s.modLink p (fun x => { x with held := x.held.filter (fun g => g.seq != h.seq), ack := next24 x.ack })
      if h.lost then (s1.deliver p (List.replicate 64 err257)).deliverHeld p fuel
      else match h.readable with
        | some b =>
          ((s1.deliver p (cut257 64 (bodyBits b))).bump64 Ob.RETRY_RX_DELIVERED (p.val + 1) 1).deliverHeld p fuel
        | none => s

/-- Deliver what can be delivered, and publish the counts. -/
def State.advance (s : State) (p : Fin 8) : State := (s.deliverHeld p s.link[p].held.length).linkCounts p

/-- A frame is lost in its place (R204, R235): RETRY.RX_LOST, and RETRY_FRAME_LOST with its cause. -/
def State.loseFrame (s : State) (p : Fin 8) (seq cause : Nat) : State :=
  let s1 := s.modLink p (fun x => { x with
    held := ({ seq := seq, lost := true } : HeldFrame) :: x.held.filter (fun h => h.seq != seq)
    gaps := x.gaps.filter (fun g => g.seq != seq), lostTick := x.lostTick + 1 })
  (s1.bump64 Ob.RETRY_RX_LOST (p.val + 1) 1).raise Src.RETRY_FRAME_LOST p.val
    (p.val + 256 * cause + 65536 * min 65535 s1.link[p].lostTick) Ob.RETRY_EVENTS (p.val + 1)

/-- Release gaps as lost, oldest first, then deliver (R204). -/
def State.releaseGaps (s : State) (p : Fin 8) (sel : LinkGap → Bool) (cause : Nat) : State :=
  (forEach (s.link[p].gaps.filter sel) (fun g s => s.loseFrame p g.seq cause) s).advance p

/-- Raise SEEN; every SEQ passed that is not received becomes a gap, and a STATUS falls due at the first slot after one appears (R193,
R195). `got` is a SEQ received now. -/
def State.raiseSeen (s : State) (p : Fin 8) (top : Nat) (got : Option Nat := none) : State :=
  let x := s.link[p]
  if precedes x.seen top then
    let fresh := ((List.range (sub24 top x.seen)).map (fun k => (x.seen + k) % 2 ^ 24)).filter
      (fun q => some q != got && !x.held.any (fun h => h.seq == q))
    s.modLink p (fun x => { x with
      seen := top, gaps := x.gaps ++ fresh.map (fun q => ⟨q, s.time.now, false⟩), statusDue := x.statusDue || !fresh.isEmpty })
  else s

/-- A STATUS that is due lapses where no gap is left that none has named, and a repeat where no gap is left (R195). -/
def State.gapStatus (s : State) (p : Fin 8) : State :=
  s.modLink p (fun x => { x with
    statusDue := x.statusDue && x.gaps.any (fun g => !g.named), repeatDue := x.repeatDue && !x.gaps.isEmpty })

/-- On-chip hold entries of a lane in use, and its deep-store hold slots (R207, R220). -/
def State.holdUsed (s : State) (p : Fin 8) (lane : Nat) (spill : Bool) : Nat :=
  (s.link[p].held.filter (fun h => !h.lost && h.spill == spill && s.seqLane p h.seq == lane)).length

/-- Hold a received frame, releasing the oldest gap where no entry is free (R204, R220), at most `fuel` times. -/
def State.hold (s : State) (p : Fin 8) (seq head body : Nat) : Nat → State
  | 0 => s
  | fuel + 1 =>
    let lane := s.seqLane p seq
    let put (spill : Bool) (s : State) : State := s.modLink p (fun x => { x with
      held := ({ seq := seq, head := head, body := some body, spill := spill, deep := { queued := spill } } : HeldFrame) :: x.held })
    if s.link[p].ack = seq ∨ s.holdUsed p lane false < 1750 then put false s
    else if s.deepPort p ∧ s.dsInUse ∧ s.holdUsed p lane true < 16384 ∧ !s.dsFull then (put true s).bump64 Ob.DS_SPILL_FRAMES 0 1
    else match s.link[p].gaps with
      | g :: _ => ((s.loseFrame p g.seq 2).advance p).hold p seq head body fuel
      | [] => s

/-- A DATA frame that passes both checks (R193, R194): delivered, held behind a gap, or discarded. -/
def State.dataReceived (s : State) (p : Fin 8) (seq head body : Nat) : State :=
  let n := p.val + 1
  let x := s.link[p]
  if precedes seq x.ack then s.bump64 Ob.RETRY_RX_DUPLICATE n 1
  else if 131072 ≤ sub24 seq x.ack then s.bump64 Ob.RETRY_RX_OUT_OF_WINDOW n 1
  else if x.held.any (fun h => h.seq == seq) then s.bump64 Ob.RETRY_RX_DUPLICATE n 1
  else
    let s1 := (s.raiseSeen p (next24 seq) (some seq)).modLink p (fun x => { x with gaps := x.gaps.filter (fun g => g.seq != seq) })
    ((s1.hold p seq head body (s1.link[p].gaps.length + 1)).advance p).gapStatus p

/-! ## Sending: what the sender keeps (R199 to R202) -/

/-- Change one frame of the sender by its SEQ. -/
def State.modTxFrame (s : State) (p : Fin 8) (seq : Nat) (f : TxFrame → TxFrame) : State :=
  s.modLink p (fun x => { x with tx := x.tx.map (fun t => if t.seq = seq then f t else t) })

/-- Write a frame off (R202); `source` is the third case, with its deep-store bit. -/
def State.writeOff (s : State) (p : Fin 8) (seq : Nat) (source : Option Bool) : State :=
  let n := p.val + 1
  let s1 := (s.modTxFrame p seq (fun t => { t with off := true, body := none, deep := {} })).modLink p (fun x => { x with
    replays := x.replays.filter (· != seq) })
  let s2 := s1.bump64 Ob.RETRY_TX_WRITEOFF n 1
  match source with
  | some deep => (s2.bump64 Ob.RETRY_TX_SOURCE_LOST n 1).raise Src.RETRY_SOURCE_LOST p.val (p.val + if deep then 256 else 0) Ob.RETRY_EVENTS n
  | none => s2

/-- Longer than the greatest RETRY.RTT_NS and RETRY.GUARD_NS together, in cycles. -/
def goneCycles : Nat := nsCycles (2 ^ 32 + 20000)

/-- Frames of the sender give up their descriptors; those sent of late are remembered by SEQ and last send (R199). -/
def State.dropFrames (s : State) (p : Fin 8) (sel : TxFrame → Bool) : State :=
  s.modLink p (fun x => { x with
    tx := x.tx.filter (fun t => !sel t)
    gone := x.gone.filter (fun g => decide (s.time.now < g.2 + goneCycles)) ++ (x.tx.filter sel).map (fun t => (t.seq, t.last)) })

/-- Accept an ACK (R59, R192, R196): frames it passes are done; their replays are cancelled. -/
def State.takeAck (s : State) (p : Fin 8) (ack : Nat) : State :=
  let x := s.link[p]
  if precedes x.acked ack ∧ sub24 ack x.acked ≤ sub24 x.next x.acked then
    ((s.dropFrames p (fun t => precedes t.seq ack)).modLink p (fun x => { x with
      acked := ack, ackStamp := some (s.recvStamp p), replays := x.replays.filter (fun q => !precedes q ack) })).linkCounts p
  else s

/-- Queue a replay, in SEQ order; at RETRY.REPLAY_MAX the frame is written off instead (R200). -/
def State.queueReplay (s : State) (p : Fin 8) (t : TxFrame) : State :=
  if t.off ∨ t.got then s
  else if s.link[p].replayMax ≤ t.count then s.writeOff p t.seq none
  else s.modLink p (fun x => if x.replays.contains t.seq then x else { x with
    replays := x.replays.filter (fun q => decide (sub24 q x.acked < sub24 t.seq x.acked)) ++ [t.seq] ++
      x.replays.filter (fun q => decide (sub24 t.seq x.acked < sub24 q x.acked)) })

/-- The sender's BASE (R199): the lowest SEQ that is retained and not written off, or was last sent less than RETRY.RTT_NS and
RETRY.GUARD_NS ago. -/
def State.txBase (s : State) (p : Fin 8) : Nat :=
  let x := s.link[p]
  let late (c : Nat) : Bool := decide (s.time.now < c + nsCycles (s.timerNs p))
  let qs := (x.gone.filter (fun g => late g.2)).map (·.1) ++ (x.tx.filter (fun t => !t.off || late t.last)).map (·.seq)
  qs.foldl (fun a q => if precedes q a then q else a) x.next

/-- Put a number into a rising list. -/
def putRising (a : Nat) : List Nat → List Nat
  | [] => [a]
  | b :: l => if a ≤ b then a :: b :: l else b :: putRising a l

/-- Gap ranges in ascending order: a start and up to 256 SEQ values (R191). -/
def gapRanges (base : Nat) (gaps : List LinkGap) : List (Nat × Nat) :=
  let offs := (gaps.map (fun g => sub24 g.seq base)).foldr putRising []
  (offs.foldl (fun (acc : List (Nat × Nat)) o =>
    match acc with
    | (st, n) :: r => if st + n = o ∧ n < 256 then (st, n + 1) :: r else (o, 1) :: acc
    | [] => [(o, 1)]) []).reverse.map (fun r => ((base + r.1) % 2 ^ 24, r.2))

/-- The first 511 ranges of a STATUS frame, and the SEEN it carries (R195). -/
def State.statusRanges (s : State) (p : Fin 8) : List (Nat × Nat) × Nat :=
  let x := s.link[p]
  let rs := gapRanges x.ack x.gaps
  match rs[511]? with
  | some r => (rs.take 511, r.1)
  | none => (rs, x.seen)

/-- FEAT of a port (R191). -/
def State.feat (s : State) (p : Fin 8) : Nat :=
  (s.dsInUse).toNat + 2 * (s.flag Ob.MMP_FAR_SERVE (p.val + 1)).toNat + 4 * (s.flag Ob.UPDATE_FAR_GRANT 0).toNat

/-! ## The outgoing stream (R180 to R186) -/

/-- Feed frame bits to a port's stream: markers at the first superblocks, the scrambler, the AP count. -/
def TxStream.feed (w port rate : Nat) : Nat → List Bool → TxStream → TxStream
  | 0, _, x => x
  | fuel + 1, bits, x =>
    let sb := x.pos / 61680
    let off := x.pos % 61680
    if bits = [] then x
    else if off = 0 ∧ sb < w then
      TxStream.feed w port rate fuel bits { x with pos := x.pos + 2432, msg := x.msg ++ markerBits sb (Nat.log2 w) port rate x.ap }
    else
      let k := min bits.length (61680 - off)
      let (out, r) := scramble x.scr (bits.take k)
      let x1 := { x with pos := x.pos + k, msg := x.msg ++ out, scr := r }
      let x2 := if x1.pos = 64 * w * 61680 then { x1 with pos := 0, ap := (x1.ap + 1) % 2 ^ 32, scr := scramInit } else x1
      TxStream.feed w port rate fuel (bits.drop k) x2

/-- Encode whole outer codewords of the stream (R186). -/
def TxStream.encode : Nat → TxStream → TxStream
  | 0, x => x
  | fuel + 1, x =>
    if x.msg.length < 5140 then x
    else TxStream.encode fuel { x with msg := x.msg.drop 5140, coded := x.coded ++ outerEncode (x.msg.take 5140) }

/-- Send whole TIC payloads of a port's stream on its lanes in turn (R151, R152). -/
def State.streamSend (s : State) (p : Fin 8) : Nat → State
  | 0 => s
  | fuel + 1 =>
    let x := s.link[p].stream
    let ls := s.lanesOf p
    if x.coded.length < 3840 then s
    else
      let s1 := s.modLink p (fun y => { y with stream := { x with coded := x.coded.drop 3840, q := (x.q + 1) % (1088 * max 1 ls.length) } })
      match ls[x.q % max 1 ls.length]? with
      | some l => (s1.lineSend l (symbolsOf (ticEncode (x.coded.take 3840)))).streamSend p fuel
      | none => s1.streamSend p fuel

/-- Put a frame into a port's stream. -/
def State.emit (s : State) (p : Fin 8) (frame : List Bool) : State :=
  (s.modLink p (fun y => { y with stream := TxStream.encode 5 (TxStream.feed (s.width p) p.val (s.rateActive p) 20 frame y.stream) })).streamSend p 6

/-! ## CARRYING and DRAINING -/

/-- The level a port would run at (R210): the lower of its own maximum and the partner's accepted one, else 1. -/
def State.lplTarget (s : State) (p : Fin 8) : Nat :=
  let partner := s.nat Ob.LINK_PARTNER_LPL_MAX (p.val + 1)
  if partner = 0 then 1 else min (s.nat Ob.LINK_LPL_MAX (p.val + 1)) partner

/-- A port enters CARRYING (R192, R210, R306): both directions start at SEQ 0. -/
def State.enterCarrying (s : State) (p : Fin 8) : State :=
  let n := p.val + 1
  let s1 := ((s.setPort p PS.CARRYING).bump Ob.PORT_CARRY_ENTRIES n 1).modLink p (fun x =>
    { restLink x with lplRun := x.lplRun, echoDue := x.echoDue, echo := x.echo })
  (s1.setReg Ob.LINK_LPL_TX n (s.lplTarget p : Int)).linkCounts p

/-- A port enters DRAINING (R202, R205, R309, R310, R328, R357): outstanding frames are written off, gaps between held
frames are released, what is queued is discarded. -/
def State.drain (s : State) (p : Fin 8) (cause : Nat) : State :=
  let s1 := ((s.noteDrain p cause).setPort p PS.DRAINING).modPort p (fun x => { x with
    drained := false, lastLeft := if (cause = 6 ∨ cause = 7) ∧ s.native p then 64 else 0 })
  let s2 := forEach (s1.link[p].tx.filter (fun t => !t.off)) (fun t s => s.writeOff p t.seq none) s1
  let x := s2.link[p]
  let inside (g : LinkGap) : Bool := x.held.any (fun h => precedes g.seq h.seq)
  let s3 := (s2.modLink p (fun x => { x with
    replays := [], statusDue := false, repeatDue := false, echoDue := false, echo := none, ready := [], asmA := [], asmB := []
    swapped := none, change := none })).releaseGaps p inside 3
  ((s3.modLink p (fun x => { x with gaps := [] })).testQuiet p).linkDown p

end Sys2Proof.Machine
end

