-- ==== Sys2Proof/Machine/Ds.lean ====
section
/-! DEFINITION. The GDDR7 deep store: training, where a frame lies, reading and writing lines, remapping, refresh and
admission (chapter 8). -/

namespace Sys2Proof.Machine

/-! ## Lines (R227 to R229) -/

/-- A line address without its seven zero bits (R227). -/
def lineKey (area lane idx line : Nat) : Nat := ((area * 8 + lane % 8) * 16384 + idx % 16384) * 64 + line % 64

/-- The CRC-24 of a line: over its address, then line bytes 0 to 60 (R228). -/
def lineCrc (key : Nat) (content : List Byte) : Nat := crcBits 24 0x864CFB 0xB704CE (msbBits 32 (key * 128) ++ bytesBits content)

/-- XOR of byte lists. -/
def xorBytes (a b : List Byte) : List Byte := List.zipWith (· ^^^ ·) a b

/-- The slices of a line: four data devices and the check device (R229). -/
def slicesOf (line : List Byte) : List (List Byte) :=
  let d := (List.range 4).map (fun i => ((line.drop (16 * i)).take 16))
  d ++ [d.foldl xorBytes (List.replicate 16 0)]

/-- The 64 bytes of a line with 61 content bytes. -/
def lineBytes (key : Nat) (content : List Byte) : List Byte := content ++ beBytes 3 (lineCrc key content)

/-- The line that slices hold. -/
def lineOf (d : List (List Byte)) : List Byte := (d.take 4).flatten

/-- Whether a line passes its CRC. -/
def linePasses (key : Nat) (d : List (List Byte)) : Bool :=
  let b := lineOf d
  b.drop 61 == beBytes 3 (lineCrc key (b.take 61))

/-- Rebuild a device: the XOR of the other four slices (R230). -/
def rebuildSlice (d : List (List Byte)) (i : Nat) : List (List Byte) :=
  d.set i ((d.eraseIdx i).foldl xorBytes (List.replicate 16 0))

/-! ## Reading a line (R230) -/

/-- What the decoding of a line finds. -/
inductive LineRead where
  | good (d : List (List Byte))
  | fixed (d : List (List Byte)) (dev : Nat) (trial : Bool)
  | reread
  | bad
  deriving DecidableEq, Repr

/-- The five trials of R230. -/
def lineTrials (key : Nat) (d : List (List Byte)) : LineRead :=
  match (List.range 5).filter (fun i => linePasses key (rebuildSlice d i)) with
  | [i] => .fixed (rebuildSlice d i) i true
  | _ => .bad

/-- Decode a line from its slices, with the devices whose EDC failed and those marked failed (R230). -/
def lineDecode (key : Nat) (d : List (List Byte)) (edc failed : List Nat) (again : Bool) : LineRead :=
  match (List.range 5).filter (fun i => edc.contains i || failed.contains i) with
  | [] =>
    if d.foldl xorBytes (List.replicate 16 0) == List.replicate 16 0 then (if linePasses key d then .good d else .bad)
    else lineTrials key d
  | [h] =>
    let r := rebuildSlice d h
    if linePasses key r then (if r.getD h [] == d.getD h [] then .good d else .fixed r h false)
    else if failed.contains h then .bad
    else lineTrials key d
  | _ => if again then .bad else .reread

/-- What a line that nothing has written reads as: zeros. -/
def lineDefault : Nat → List Byte := fun _ => List.replicate 80 0

/-- Where an access goes: the spare burst of a remapped one (R234). -/
def State.lineAt (s : State) (key : Nat) : Nat :=
  match s.ds.remap.findIdx? (fun b => b == key - key % 2) with
  | some e => lineKey 2 0 e (key % 2)
  | none => key

/-- The stored slices of a line. -/
def State.lineStored (s : State) (key : Nat) : List (List Byte) :=
  let b := s.ds.mem.get lineDefault (s.lineAt key)
  (List.range 5).map (fun i => (b.drop (16 * i)).take 16)

/-- Store the slices of a line. -/
def State.lineStore (s : State) (key : Nat) (d : List (List Byte)) : State :=
  { s with ds := { s.ds with mem := s.ds.mem.put lineDefault (s.lineAt key) d.flatten } }

/-- The devices marked failed (R225, R231). -/
def State.dsFailed (s : State) : List Nat := (List.range 5).filter (fun d => s.reg Ob.DS_DEVICE_STATE (d + 1) != 0)

/-- A read of a line as the devices deliver it. -/
def State.lineRead (s : State) (key : Nat) (r : DsRead) (again : Bool) : LineRead :=
  let d := r.flips.foldl (fun d f => d.set f.1.val (xorBytes (d.getD f.1.val []) (f.2 ++ List.replicate 16 0))) (s.lineStored key)
  lineDecode key d (r.edc.map Fin.val) s.dsFailed again

/-- Change the deep store's record. -/
def State.modDs (s : State) (f : DeepStore → DeepStore) : State := { s with ds := f s.ds }

/-- Traffic per device (R243). -/
def State.dsMoved (s : State) (n : Nat) : State := s.modDs (fun d => { d with moved := d.moved + n })

/-! ## Use and leaving use (R218, R221) -/

/-- The deep store leaves use: frames held only there are written off or released as lost (R221). -/
def State.dsLeave (s : State) : State :=
  forEach (fins 8) (fun p s =>
    let s1 := forEach (s.link[p].tx.filter (fun t => !t.off && t.body.isNone)) (fun t s => s.writeOff p t.seq (some true)) s
    let s2 := s1.modLink p (fun x => { x with tx := x.tx.map (fun t => { t with deep := {} }) })
    (forEach (s2.link[p].held.filter (fun h => h.spill && !h.lost)) (fun h s => s.loseFrame p h.seq 2) s2).advance p) s

/-- DS.STATE changes; leaving READY or DEGRADED takes the deep store out of use (R221). -/
def State.dsState (s : State) (v : Int) : State :=
  let was := s.reg Ob.DS_STATE 0
  let s1 := s.setReg Ob.DS_STATE 0 v
  if (was = 3 ∨ was = 4) ∧ v ≠ 3 ∧ v ≠ 4 then s1.dsLeave else s1

/-- A change of votes or windows that takes the DS domain out of ON takes the deep store out of use at once (R221). -/
def State.dsCheck (s after : State) : State := if s.dsInUse && !after.dsInUse then after.dsLeave else after

/-- PORTSM's votes are brought in line with the ports (R221, R297). -/
def State.votesDs (s : State) : State := s.dsCheck s.portVotes

/-- Start a training (R224): full, or of a wake from RET. A full one empties the remap table and takes DS.PIN_RATE. -/
def State.dsTrain (s : State) (full : Bool) : State :=
  let s1 := s.dsState 2
  if full then
    (((s1.modDs (fun d => { d with
      fromRet := false, trained := false, failed := false, released := false, due := [], busy := none, remap := [], cands := [], run := (0, 0), rate := s.nat Ob.DS_PIN_RATE 0 })).setAll Ob.DS_DEVICE_STATE 0 5).setReg
      Ob.DS_REMAP_USED 0 0).setAll Ob.DS_REMAP_ENTRY 0 32
  else s1.modDs (fun d => { d with fromRet := true })

/-- The DS domain reaches ON (R218, R224, R225): an enabled deep store trains, in part on a wake from RET. DEDUCED (log entry 191): one
that was FAILED before RET is so again, and one whose full training had not completed trains in full. -/
def State.dsOn (s : State) (cold : Bool) : State :=
  if !s.partEA then s
  else if !s.ds.enabled then s.dsState 1
  else if cold then (s.modDs (fun d => { d with retries := 0 })).dsTrain true
  else if s.ds.failed then s.dsState 5
  else s.dsTrain (!s.ds.trained)

/-- The level of DS_RST_N (R4, R224, R532): low until a training releases the memory reset, in SAFE_HOLD and in the safe state. DEDUCED (log entry
192): the model's training is one step, at whose end the reset stands released. -/
def State.dsRstN (s : State) : Bool :=
  s.partEA && s.start.powered && s.ds.released && s.pwr Dom.DS != 0 && s.reg Ob.DICT_STATE 0 != 2 && s.reg Ob.DICT_STATE 0 != 3

/-- The DS domain leaves ON (R221, R226). -/
def State.dsStop (s : State) : State := if s.partEA then (s.dsState 1).finish Ob.DS_RETRAIN 0 St.CONFIG_CONFLICT else s

/-! ## Admission (R238) -/

/-- The admitted load of one lane per device, units of 0.01 Gb/s, and the Hot usable bandwidth of a pin rate. -/
def laneLoad (rate : Nat) : Nat := if rate = Rate.N1 then 10710 else if rate = Rate.N2 then 5355 else 0
def hotUsable (rate : Nat) : Nat := match rate with | 0 => 80640 | 1 => 92160 | 2 => 103680 | _ => 115200

/-- The admitted load of all deep lanes, a port's window taken as `w` where one is given. -/
def State.dsLoad (s : State) (instead : Option (Fin 8 × Nat)) : Nat :=
  ((fins 8).map (fun p =>
    let w := match instead with | some (q, w) => if q = p then w else s.nat Ob.RETRY_WINDOW_US (p.val + 1) | none => s.nat Ob.RETRY_WINDOW_US (p.val + 1)
    let rate := if s.rateActive p = 0 then s.rateConfigured p else s.rateActive p
    if s.exists p ∧ 70 < w then s.width p * laneLoad rate else 0)).sum

/-- Publish DS.BW_ADMITTED_GBPS. -/
def State.dsAdmit (s : State) : State := s.setReg Ob.DS_BW_ADMITTED_GBPS 0 ((s.dsLoad none + 50) / 100 : Nat)

/-! ## Bands (R236, R421) -/

/-- The band after a temperature in 0.1 °C: up at an edge plus 2 °C, down below an edge (R421). -/
def bandFrom (old : Nat) (t : Int) : Nat :=
  let up := if 1070 ≤ t then 3 else if 870 ≤ t then 2 else if 20 ≤ t then 1 else 0
  let down := if t < 0 then 0 else if t < 850 then 1 else if t < 1050 then 2 else 3
  min (max old up) down

/-- The refresh multiplier of a band (R236). -/
def refreshMult (band : Nat) : Nat := match band with | 2 => 2 | 3 => 4 | _ => 1

/-- The greater of the junction temperature and the memory temperatures, 0.1 °C (R236). -/
def State.dsTemp (s : State) : Int :=
  (List.range 5).foldl (fun m d => max m (10 * s.reg Ob.DS_MEM_TEMP_C (d + 1))) (s.reg Ob.THERMAL_TJ 0)

/-! ## Frames in the deep store -/

/-- The content bytes of an entry (R228). -/
def entryBytes (head body seq : Nat) : List Byte :=
  let hb := msbBits 80 head
  let fb := hb ++ msbBits 16 (crc16Bits hb) ++ bodyBits body
  let bits := fb ++ msbBits 32 (crc32cBits fb)
  ((List.range 2072).map (fun k => BitVec.ofNat 8 (bitsNat ((bits.drop (8 * k)).take 8)))) ++ beBytes 2 (seq % 65536)

/-- The line key of a frame: its area, lane and index (R227). -/
def State.frameKey (s : State) (p : Fin 8) (seq : Nat) (held : Bool) (line : Nat) : Nat :=
  lineKey (if held then 1 else 0) (s.seqLane p seq) (s.seqIndex p seq) line

/-- The deep-store side of a frame, with its header and its on-chip body. -/
def State.deepOf (s : State) (p : Fin 8) (seq : Nat) (held : Bool) : Option (DeepCopy × Nat × Option Nat) :=
  if held then (s.link[p].held.find? (fun h => h.seq == seq && h.spill && !h.lost)).map (fun h => (h.deep, h.head, h.body))
  else (s.link[p].tx.find? (fun t => t.seq == seq && !t.off)).map (fun t => (t.deep, t.head, t.body))

/-- Change the deep-store side of a frame. -/
def State.modDeep (s : State) (p : Fin 8) (seq : Nat) (held : Bool) (f : DeepCopy → DeepCopy) : State :=
  if held then s.modLink p (fun x => { x with held := x.held.map (fun h => if h.seq = seq then { h with deep := f h.deep } else h) })
  else s.modTxFrame p seq (fun t => { t with deep := f t.deep })

/-- A held frame whose read is a bus error is delivered in its place as error-marked blocks; RETRY_FRAME_LOST is not raised
(R232, R470). -/
def State.heldError (s : State) (p : Fin 8) (seq : Nat) : State :=
  let s1 := s.modLink p (fun x => { x with held := x.held.map (fun h =>
    if h.seq = seq then { h with lost := true, body := none, deep := {} } else h) })
  (s1.bump64 Ob.RETRY_RX_LOST (p.val + 1) 1).advance p

/-- A bus error to the engine that asked (R235): a retained frame is written off, a held one delivered as lost. -/
def State.busError (s : State) (p : Fin 8) (seq : Nat) (held stale : Bool) (key : Nat) : State :=
  let s1 := (s.bump64 Ob.DS_UNCORRECTABLE 0 1).raise Src.DS_UNCORRECTABLE 0 (key % 2 ^ 25 + if stale then 2 ^ 31 else 0) Ob.DS_EVENTS 0
  let s2 := if stale then s1.bump64 Ob.DS_STALE 0 1 else s1
  if held then s2.heldError p seq
  else (s2.writeOff p seq (some true)).linkCounts p

/-- A held frame of a lane that is next to be read back (R220): on its lane none before it in SEQ order is still to be read, and it
is at most 64 frames ahead of delivery. DEDUCED (log entry 189): the lane's frames are counted from the ACK on. -/
def State.holdNext (s : State) (p : Fin 8) (seq : Nat) : Bool :=
  let x := s.link[p]
  decide (sub24 seq x.ack < 64 * s.width p) &&
  !x.held.any (fun h => precedes h.seq seq && s.seqLane p h.seq == s.seqLane p seq && h.spill && !h.lost && h.body.isNone &&
    decide (h.deep.parts.length < 2074))

/-- A frame's read is queued at the controller (R219, R220): a replay whose copy is in the deep store alone, or a held frame that is read
back. -/
def State.readsQueued (s : State) (p : Fin 8) : List (Nat × Bool) :=
  let x := s.link[p]
  (x.tx.filter (fun t => x.replays.contains t.seq && t.body.isNone && t.deep.done && decide (t.deep.parts.length < 2074))).map
    (fun t => (t.seq, false)) ++
  (x.held.filter (fun h => h.spill && !h.lost && h.body.isNone && h.deep.done && s.holdNext p h.seq)).map (fun h => (h.seq, true))

/-- A device is marked failed (R225, R231): DEGRADED; as the second one FAILED, and reads that are queued end as uncorrectable
(R241). -/
def State.dsDeviceFailed (s : State) (dev : Nat) (training : Bool) : State :=
  let other := (s.dsFailed.filter (· != dev)) != []
  let s1 := (s.setReg Ob.DS_DEVICE_STATE (dev + 1) (if training then 1 else 2)).raise Src.DS_DEVICE_FAILED 0
    (dev + if training then 256 else 0) Ob.DS_EVENTS 0
  if other then
    (forEach (fins 8) (fun p s => forEach (s.readsQueued p) (fun q s => s.busError p q.1 q.2 false (s.frameKey p q.1 q.2 0)) s) s1).dsState 5
  else s1.dsState 4

/-- A corrected line (R231, R233): counted, written back and verified unless its device is marked failed; sixteen in a row, but for
those found on a re-read, name a failed device. -/
def State.lineFixed (s : State) (key dev : Nat) (trial reread : Bool) (d : List (List Byte)) (verify : DsRead) : State :=
  let s1 := (s.bump64 Ob.DS_LINES_CORRECTED 0 1).bump64 Ob.DS_CORRECTED_BY_DEVICE (dev + 1) 1
  let s2 := if trial then s1.bump64 Ob.DS_TRIAL_CORRECTIONS 0 1 else s1
  if s2.dsFailed.contains dev then s2
  else
    let s3 := (s2.lineStore key d).dsMoved 32
    let burst := key - key % 2
    let again : Bool := match s3.lineRead key verify true with | .fixed _ v _ => v == dev | _ => false
    let s4 := if again ∧ !s3.ds.cands.any (fun c => c.1 == burst) then s3.modDs (fun x => { x with cands := x.cands ++ [(burst, dev)] }) else s3
    if reread then s4
    else
      let run := if s4.ds.run.1 = dev then s4.ds.run.2 + 1 else 1
      let s5 := s4.modDs (fun x => { x with run := (dev, run) })
      if 16 ≤ run then s5.dsDeviceFailed dev false else s5

/-- The content of a line read for a frame: appended, and at the last line the SEQ tag compared (R230). -/
def State.lineTaken (s : State) (p : Fin 8) (seq : Nat) (held : Bool) (key : Nat) (d : List (List Byte)) : State :=
  match s.deepOf p seq held with
  | none => s
  | some (c, _, _) =>
    let parts := c.parts ++ (lineOf d).take 61
    let s1 := s.modDeep p seq held (fun c => { c with parts := parts })
    if parts.length < 2074 then s1
    else if parts.drop 2072 ≠ beBytes 2 (seq % 65536) then s1.busError p seq held true key
    else if held then s1.advance p else s1

/-- Whether traffic that goes before waits at the controller (R240): retain writes go before replay reads, both before spill. -/
def State.dsBehind (s : State) (rank : Nat) : Bool :=
  (fins 8).any (fun p => s.link[p].tx.any (fun t => t.deep.queued && !t.off)) ||
  (rank == 2 && (fins 8).any (fun p => (s.readsQueued p).any (fun q => !q.2)))

/-! ## Meanings -/

/-- DS_TRAINING_DONE (R225, R226). -/
def execDsTrainingDone (t : DsTraining) (s : State) : Out :=
  if s.reg Ob.DS_STATE 0 ≠ 2 then .next s
  else
    let ret := s.ds.fromRet
    let s1 := forEach (fins 5) (fun d s =>
      let s1 := if ret then s
        else (s.setReg Ob.DS_DENSITY (d.val + 1) (t.density[d] : Int)).setReg Ob.DS_MEM_TEMP_C (d.val + 1) t.temp[d]
      s1.modDs (fun x => { x with trainTemp := x.trainTemp.set d (s1.reg Ob.DS_MEM_TEMP_C (d.val + 1)) })) s
    let bad := t.failed.eraseDups
    let before := s1.dsFailed
    let fails := decide (2 ≤ bad.length) || decide (2 ≤ (before ++ bad.map Fin.val).eraseDups.length)
    let s2 := s1.modDs (fun x => { x with
      trained := x.trained || !ret, failed := fails, released := true, retries := if fails then x.retries else 0 })
    let s2 := if ret ∨ fails then s2 else s2.setStamp Ob.DS_TRAIN_TIME 0
    let out := match bad with
      | [] => s2.dsState (if before = [] then 3 else if before.length = 1 then 4 else 5)
      | [d] => s2.dsDeviceFailed d.val true
      | _ =>
        let s3 := forEach bad (fun d s => s.setReg Ob.DS_DEVICE_STATE (d.val + 1) 1) s2
        (s3.dsState 5).raise Src.DS_TRAIN_FAIL 0 ((bad.map (fun (d : Fin 5) => 2 ^ d.val)).sum + 256 * t.step) Ob.DS_EVENTS 0
    .next (out.finish Ob.DS_RETRAIN 0 St.OK)

/-- DS.RETRAIN (R226): a full training while no deep port carries. -/
def ownDsRetrain (s : State) : Verdict :=
  if !s.partEA || !s.ds.enabled || !s.on Dom.DS then .deny St.CONFIG_CONFLICT
  else if (fins 8).any (fun p => s.exists p && s.deepPort p && s.pstate p == PS.CARRYING) then .deny St.CONFIG_CONFLICT
  else if s.reg Ob.DS_STATE 0 = 2 then .deny St.BUSY
  else .later ((s.modDs (fun d => { d with retries := 0 })).dsTrain true)

/-- DS_RETRAIN. -/
def execDsRetrain (r : Req) (s : State) : Out := .next (s.serve r .exec Ob.DS_RETRAIN 0 [0] ownDsRetrain)

/-- DS_TRAINING_RETRY: 1 s after FAILED, up to three times (R225). -/
def execDsTrainingRetry (s : State) : Out :=
  if s.reg Ob.DS_STATE 0 = 5 ∧ s.on Dom.DS ∧ s.ds.retries < 3 then
    .next ((s.modDs (fun d => { d with retries := d.retries + 1 })).dsTrain true)
  else .next s

/-- The channel of a line's burst m: (m + slot number) mod 4, the slot number being lane × 16,384 + index (R227). -/
def lineChannel (key : Nat) : Nat := (key % 64 / 2 + key / 64 % 131072) % 4

/-- Whether an access waits for the repeat of steps 6 and 7 on its channel (R226, R241). -/
def State.dsWaits (s : State) (key : Nat) : Bool :=
  match s.ds.busy with | some (c, t) => lineChannel key == c && decide (s.time.now < t) | none => false

/-- DS_CHANNEL_RETRAIN: steps 6 and 7 on one channel of a device, in its turn every 60 s or as the device's temperature calls for it
(R226). DESIGN CHOICE (log entry 193): the repeat takes the 1.5 µs that it may take at most, and a device is trained anew with its
last channel. -/
def execDsChannelRetrain (d : Fin 5) (c : Fin 4) (s : State) : Out :=
  if s.reg Ob.DS_STATE 0 = 3 ∨ s.reg Ob.DS_STATE 0 = 4 then
    let due := s.ds.due.filter (· != (d.val, c.val))
    let last := if s.ds.due.contains (d.val, c.val) then !due.any (fun x => x.1 == d.val) else c == 3
    .next ((s.bump Ob.DS_RETRAIN_COUNT 0 1).modDs (fun x => { x with
      due := due, busy := some (c.val, s.time.now + 235)
      trainTemp := if last then x.trainTemp.set d (s.reg Ob.DS_MEM_TEMP_C (d.val + 1)) else x.trainTemp }))
  else .next s

/-- DS_LINE_READ: the next line of a frame that is wanted back (R219, R220, R230 to R235): as first read, as re-read where
two hints ask for it, and as the verify read finds it after a write-back. -/
def execDsLineRead (p : Fin 8) (seq : Nat) (held : Bool) (first again verify : DsRead) (s : State) : Out :=
  match s.deepOf p seq held with
  | some (c, _, none) =>
    let key := s.frameKey p seq held (c.parts.length / 61)
    if !s.dsInUse || !c.done || decide (2074 ≤ c.parts.length) || s.dsWaits key || (held && !s.holdNext p seq) ||
        (s.dsFull && s.dsBehind (if held then 2 else 1)) then .next s
    else
      let s1 := s.dsMoved 16
      let out := match s1.lineRead key first false with
        | .reread => s1.lineRead key again true
        | r => r
      match out with
      | .good d => .next (s1.lineTaken p seq held key d)
      | .fixed d dev trial => .next ((s1.lineFixed key dev trial (s1.lineRead key first false == .reread) d verify).lineTaken p seq held key d)
      | _ => .next (s1.busError p seq held false key)
  | _ => .next s

/-- DS_WRITE: a burst of a frame, two lines, with the EDC write errors it met (R227, R228, R232). After the third retry has
failed the write stands, and the slices of the device that reports are as `bad` gives them. -/
def execDsWrite (p : Fin 8) (seq : Nat) (held : Bool) (burst : Fin 17) (fails : Nat) (bad : Option (Fin 5 × List Byte))
    (s : State) : Out :=
  match s.deepOf p seq held with
  | some (c, head, some body) =>
    if !s.dsInUse || !c.queued || s.dsWaits (s.frameKey p seq held (2 * burst.val)) || (held && s.dsFull && s.dsBehind 2) then .next s
    else
      let content := entryBytes head body seq
      let s1 := (s.bump64 Ob.DS_WRITE_RETRY 0 (min 3 fails)).dsMoved (32 * (1 + min 3 fails))
      let put (j : Nat) (s : State) : State :=
        let key := s.frameKey p seq held (2 * burst.val + j)
        let d := slicesOf (lineBytes key ((content.drop (61 * (2 * burst.val + j))).take 61))
        s.lineStore key (match bad with
          | some (dev, b) => if 3 < fails then d.set dev.val (((b.drop (16 * j)) ++ List.replicate 16 0).take 16) else d
          | none => d)
      .next ((put 1 (put 0 s1)).modDeep p seq held (fun c => { c with bursts := burst.val :: c.bursts.filter (· != burst.val) }))
  | _ => .next s

/-- DS_WRITE_DONE: the seventeen bursts of a frame are written (R219, R220): a retained frame's on-chip entry may be
reused, a spilled one lies in its hold slot alone. -/
def execDsWriteDone (p : Fin 8) (seq : Nat) (held : Bool) (s : State) : Out :=
  match s.deepOf p seq held with
  | some (c, _, _) =>
    if c.queued ∧ c.bursts.length = 17 then
      let s1 := s.modDeep p seq held (fun c => { c with queued := false, done := true, parts := [] })
      .next (if held then s1.modLink p (fun x => { x with held := x.held.map (fun h => if h.seq = seq then { h with body := none } else h) })
        else s1)
    else .next s
  | none => .next s

/-- DS_REFRESH: a refresh command is issued, with the multiplier of the present band (R236). -/
def execDsRefresh (s : State) : Out :=
  if s.reg Ob.DS_STATE 0 = 3 ∨ s.reg Ob.DS_STATE 0 = 4 then
    .next ((s.modDs (fun d => { d with refreshes := d.refreshes + 1 })).setReg Ob.DS_REFRESH_MULT 0 (refreshMult s.ds.band : Nat))
  else .next s

/-- DS_TEMP_READ: a device reports its temperature (R236, R237). -/
def execDsTempRead (d : Fin 5) (temp : Int) (s : State) : Out :=
  if 2 ≤ s.reg Ob.DS_STATE 0 ∧ s.on Dom.DS then
    let s1 := s.setReg Ob.DS_MEM_TEMP_C (d.val + 1) (clampInt (-32768) 32767 temp)
    -- steps 6 and 7 are repeated on a device whose temperature has moved by 10 °C since it was last trained (R226)
    let moved := decide (10 ≤ (s1.reg Ob.DS_MEM_TEMP_C (d.val + 1) - s.ds.trainTemp[d]).natAbs) &&
      (s.reg Ob.DS_STATE 0 == 3 || s.reg Ob.DS_STATE 0 == 4)
    let s2 := s1.modDs (fun x => { x with
      band := bandFrom x.band s1.dsTemp
      due := if moved then x.due.filter (fun q => q.1 != d.val) ++ (List.range 4).map (fun c => (d.val, c)) else x.due })
    .next (if s2.reg Ob.DS_MEM_HOT_C 0 ≤ temp then
      s2.raise Src.DS_MEM_HOT 0 (d.val + 65536 * (temp % 65536).toNat) Ob.DS_EVENTS 0 else s2)
  else .next s

/-! ## The tick -/

/-- Remap candidates are committed (R233, R234). -/
def State.remapCommit (s : State) : State :=
  let cands := s.ds.cands
  forEach cands (fun c s =>
    if s.dsFailed.contains c.2 ∨ s.ds.remap.contains c.1 then s
    else if s.ds.remap.length < 32 then
      let e := s.ds.remap.length
      let old := (s.lineStored c.1, s.lineStored (c.1 + 1))
      let s1 := s.modDs (fun d => { d with remap := d.remap ++ [c.1] })
      let s2 := ((s1.lineStore c.1 old.1).lineStore (c.1 + 1) old.2).setReg Ob.DS_REMAP_ENTRY (e + 1) (c.1 * 128 : Nat)
      (s2.setReg Ob.DS_REMAP_USED 0 (e + 1 : Nat)).raise Src.DS_REMAP 0 (e + 256 * c.2) Ob.DS_EVENTS 0
    else s.raise Src.DS_REMAP_EXHAUSTED 0 c.2 Ob.DS_EVENTS 0) (s.modDs (fun d => { d with cands := [] }))

/-- The tick's part of the deep store: remapping, the band, the traffic figure. -/
def State.dsTick (s : State) : State :=
  let s1 := s.remapCommit
  let s2 := if 3 ≤ s1.reg Ob.DS_STATE 0 ∧ s1.reg Ob.DS_STATE 0 ≤ 4 then
      s1.modDs (fun x => { x with band := bandFrom x.band s1.dsTemp }) else s1
  let gbps := (s2.ds.moved * 8 + 512000) / 1024000
  ((s2.setReg Ob.DS_BW_USED_GBPS 0 (min 65535 gbps : Nat)).modDs (fun x => { x with moved := 0, late := 0 })).dsAdmit

/-- A write of DS.PIN_RATE (R223), DS.ENABLE (R218). -/
def ownDsWrite (ix : Nat) (v : Int) (s : State) : Verdict :=
  if ix = Ob.DS_PIN_RATE ∧ hotUsable v.toNat < s.dsLoad none then .deny St.CONFIG_CONFLICT
  else if ix = Ob.DS_ENABLE ∧ v = 1 ∧ !s.partEA then .deny St.CONFIG_CONFLICT
  else storeVal ix 0 v s

end Sys2Proof.Machine
end

