-- ==== Sys2Proof/Machine/Frames.lean ====
section
/-! DEFINITION. Filling frame slots, receiving frames and markers, and the timers of retransmission (R183, R184, R190 to
R214, R302). -/

namespace Sys2Proof.Machine

/-! ## Frame types (R188) -/

abbrev TData : Nat := 1
abbrev TIdle : Nat := 2
abbrev TStatus : Nat := 3
abbrev TEchoReq : Nat := 4
abbrev TEchoRsp : Nat := 5

/-- The head of every body but DATA and STATUS (R191). -/
def State.idleBody (s : State) (p : Fin 8) (lpl : Nat) : List Bool :=
  msbBits 24 (if 2 ≤ lpl then s.txBase p else 0) ++ msbBits 4 (s.nat Ob.LINK_LPL_MAX (p.val + 1)) ++ msbBits 4 0 ++
  msbBits 32 (s.feat p)

/-- A STATUS body (R191, R195). -/
def State.statusBody (s : State) (p : Fin 8) (lpl : Nat) : List Bool :=
  let (rs, seen) := s.statusRanges p
  msbBits 24 s.link[p].ack ++ msbBits 24 seen ++ msbBits 24 (if 2 ≤ lpl then s.txBase p else 0) ++ msbBits 16 rs.length ++
  msbBits 8 0 ++ (rs.map (fun r => msbBits 24 r.1 ++ msbBits 8 (r.2 - 1))).flatten

/-! ## Level changes (R211) -/

/-- A change whose boundary the next new DATA frame has reached takes effect. -/
def State.lplApply (s : State) (p : Fin 8) : State :=
  match s.link[p].change with
  | some c =>
    if 3 ≤ c.sent ∧ !precedes s.link[p].next c.boundary ∧ s.linkWork p then
      ((s.modLink p (fun x => { x with change := none })).setReg Ob.LINK_LPL_TX (p.val + 1) (c.target : Int)).bump
        Ob.LINK_LPL_CHANGES (p.val + 1) 1
    else s
  | none => s

/-- The announcement that a frame with this SEQ field carries, if one is to be sent, and the state after it. -/
def State.announce (s : State) (p : Fin 8) (seq : Nat) : Option Nat × State :=
  let start : Option LplChange :=
    match s.link[p].change with
    | some c => if c.sent < 3 then some c else none
    | none =>
      if s.carries p ∧ s.linkWork p ∧ s.lplTarget p ≠ s.nat Ob.LINK_LPL_TX (p.val + 1) then some ⟨s.lplTarget p, (seq + 64) % 2 ^ 24, 0⟩ else none
  match start with
  | some c =>
    let s1 := s.modLink p (fun x => { x with change := some { c with sent := c.sent + 1 } })
    (some (4096 * c.target + 256 * (c.sent + 1) + sub24 c.boundary seq % 256),
      if c.sent = 0 then s1.triggerFirst (linkEngines p) 1 1563 [.level p] else s1)
  | none => (none, s)

/-- Whether a port's in-band channel runs (R212). -/
def State.inbandRuns (s : State) (p : Fin 8) : Bool :=
  s.native p && (s.pstate p == PS.ALIGNED || s.pstate p == PS.CARRYING || s.testKind p == 5)

/-- The management word a frame carries, if one is ready and 320 ns have passed since the last (R213). -/
def State.mgmtWord (s : State) (p : Fin 8) : Option Nat × State :=
  let late := match s.link[p].wordAt with | some t => decide (t + 50 ≤ s.time.now) | none => true
  if s.inbandRuns p && late then
    match s.takeWord p with
    | some (w, s1) =>
      (some w, (s1.modLink p (fun x => { x with wordAt := some s.time.now })).bump64 Ob.LINK_MGMT_TX_WORDS (p.val + 1) 1)
    | none => (none, s)
  else (none, s)

/-- Send a frame (R188, R200, R203, R211, R213): ACK, MGMT and the flags but RPL are current. The result is the header. -/
def State.sendFrame (s : State) (p : Fin 8) (type lpl seq : Nat) (rpl : Bool) (body : List Bool) : State × FrameHead :=
  let (ann, s1) := s.announce p seq
  let (word, s2) := match ann with | some _ => (none, s1) | none => s1.mgmtWord p
  let st := s.pstate p
  let live := st == PS.CARRYING || st == PS.DRAINING || s.testKind p == 5
  let cmd := s.reg Ob.PORT_DRAIN_CAUSE (p.val + 1) == 6 || s.reg Ob.PORT_DRAIN_CAUSE (p.val + 1) == 7
  let h : FrameHead := {
    type := type, lpl := lpl, port := p.val, mv := word.isSome, ann := ann.isSome, rpl := rpl
    last := st == PS.DRAINING && cmd, seq := seq, ack := if live then s.link[p].ack else 0
    mgmt := (ann.or word).getD 0 }
  (s2.emit p (frameBits h body), h)

/-- The SEQ field of a frame other than DATA (R188, R192). -/
def State.idleSeq (s : State) (p : Fin 8) : Nat :=
  if s.pstate p = PS.CARRYING ∨ s.pstate p = PS.DRAINING ∨ s.testKind p = 5 then s.link[p].next else 0

/-- The level of frames sent now. -/
def State.lplTx (s : State) (p : Fin 8) : Nat := s.nat Ob.LINK_LPL_TX (p.val + 1)

/-- Send an IDLE frame. -/
def State.sendIdle (s : State) (p : Fin 8) : State := (s.sendFrame p TIdle (s.lplTx p) (s.idleSeq p) false (s.idleBody p (s.lplTx p))).1

/-- Send a STATUS frame: it names the gaps it lists (R195). -/
def State.sendStatus (s : State) (p : Fin 8) : State :=
  let (rs, seen) := s.statusRanges p
  let s1 := (s.sendFrame p TStatus (s.lplTx p) (s.idleSeq p) false (s.statusBody p (s.lplTx p))).1
  let s2 := s1.modLink p (fun x => { x with
    statusDue := false, repeatDue := false
    gaps := if rs.length < 511 then x.gaps.map (fun g => { g with named := true })
      else x.gaps.map (fun g => if precedes g.seq seen then { g with named := true } else g) })
  (s2.bump64 Ob.RETRY_STATUS_SENT (p.val + 1) 1).gapStatus p

/-- Send an ECHO_RSP or an ECHO_REQ that is due (R191, R197). -/
def State.sendEcho (s : State) (p : Fin 8) : State :=
  let lpl := s.lplTx p
  let t3 := s.sendStamp p
  match s.link[p].echo with
  | some e =>
    let dwell := (t3.time + 2 ^ 96 - e.t2) % 2 ^ 96 % 2 ^ 64
    let body := s.idleBody p lpl ++ msbBits 96 e.t1 ++ msbBits 8 e.epoch ++ msbBits 64 dwell ++ [e.epoch2 == t3.epoch]
    ((s.sendFrame p TEchoRsp lpl (s.idleSeq p) false body).1).modLink p (fun x => { x with echo := none })
  | none =>
    let body := s.idleBody p lpl ++ msbBits 96 t3.time ++ msbBits 8 t3.epoch
    ((s.sendFrame p TEchoReq lpl (s.idleSeq p) false body).1).modLink p (fun x => { x with echoDue := false })

/-! ## DATA and replays -/

/-- A frame whose deep-store write has not completed when its entry must be reused (R240). -/
def State.writeLate (s : State) (p : Fin 8) (seq : Nat) : State :=
  let s1 := (s.bump64 Ob.DS_WRITE_LATE 0 1).modDs (fun d => { d with late := d.late + 1 })
  (s1.raise Src.DS_BANDWIDTH 0 (p.val + 65536 * min 65535 s1.ds.late) Ob.DS_EVENTS 0).writeOff p seq (some true)

/-- Make room for a new frame on a lane: an on-chip retain entry and a descriptor (R202, R207, R219, R240). -/
def State.makeRoom (s : State) (p : Fin 8) (lane : Nat) : State :=
  let mine (t : TxFrame) : Bool := s.seqLane p t.seq == lane
  let chip := s.link[p].tx.filter (fun t => mine t && t.body.isSome)
  let s1 := if chip.length < 1750 then s
    else match chip with
      | t :: _ =>
        if t.deep.done then s.modTxFrame p t.seq (fun t => { t with body := none })
        else if t.deep.queued then s.writeLate p t.seq
        else s.writeOff p t.seq none
      | [] => s
  let all := s1.link[p].tx.filter mine
  if all.length < (if s1.dsInUse then 16384 else 2048) then s1
  else match (all.filter (·.off)) ++ all with
    | t :: _ =>
      let s2 := if t.off then s1 else s1.writeOff p t.seq none
      s2.dropFrames p (fun u => u.seq == t.seq)
    | [] => s1

/-- First send of a DATA frame (R188, R198, R199, R219); `drop` puts an IDLE frame in its slot (R329). -/
def State.sendNew (s : State) (p : Fin 8) (seq body : Nat) (drop : Bool) : State :=
  let s0 := s.makeRoom p (s.seqLane p seq)
  let lpl := s0.lplTx p
  let (s1, h) := if drop then (s0.sendIdle p, { type := TData, lpl := lpl, port := p.val, mv := false, ann := false, rpl := false
                                                last := false, seq := seq, ack := s0.link[p].ack, mgmt := 0 })
    else s0.sendFrame p TData lpl seq false (bodyBits body)
  let t : TxFrame := {
    seq := seq, first := s.time.now, last := s.time.now, stamp := s0.sendStamp p, lpl := lpl, window := s.window p, head := bitsNat h.bits, body := some body
    deep := { queued := s.deepPort p && s.dsInUse } }
  let s2 := (s1.modLink p (fun x => { x with
    tx := x.tx.filter (fun u => precedes u.seq seq) ++ [t] ++ x.tx.filter (fun u => precedes seq u.seq) })).linkCounts p
  if drop then s2.injUse p 1 else s2.bump64 Ob.RETRY_TX_DATA (p.val + 1) 1

/-- The next new DATA frame that can be sent, with the state that sends it (R201, R329). -/
def State.newData (s : State) (p : Fin 8) : Option State :=
  let x := s.link[p]
  match x.swapped with
  | some (seq, body) => some ((s.modLink p (fun x => { x with swapped := none })).sendNew p seq body false)
  | none =>
    match x.ready with
    | [] => none
    | b :: rest =>
      let swap := decide (0 < s.injects p 4 none)
      if swap then
        match rest with
        | c :: rest2 =>
          let s1 := s.modLink p (fun x => { x with ready := rest2, swapped := some (x.next, b), next := next24 (next24 x.next) })
          some ((s1.sendNew p (next24 x.next) c false).injUse p 1)
        | [] => none
      else
        let s1 := s.modLink p (fun x => { x with ready := rest, next := next24 x.next })
        some (s1.sendNew p x.next b (decide (0 < s.injects p 3 none)))

/-- The body of a queued replay that can be read (R219): on chip, or read back from the deep store. -/
def TxFrame.source (t : TxFrame) : Option Nat :=
  match t.body with
  | some b => some b
  | none => if t.deep.parts.length = 2074 then some (contentBody t.deep.parts) else none

/-- The first queued replay, sent (R200). -/
def State.sendReplay (s : State) (p : Fin 8) : Option State :=
  match s.link[p].replays with
  | [] => none
  | q :: rest =>
    match s.link[p].tx.find? (fun t => t.seq == q) with
    | none => none
    | some t =>
      match t.source with
      | none => none
      | some b =>
        let s1 := (s.modLink p (fun x => { x with replays := rest })).modTxFrame p q (fun t => { t with
          count := t.count + 1, last := s.time.now, stamp := s.sendStamp p, deep := { t.deep with parts := [] } })
        some ((s1.sendFrame p TData t.lpl q true (bodyBits b)).1.bump64 Ob.RETRY_TX_REPLAYS (p.val + 1) 1)

/-- Client blocks of the instances come together in frame bodies (R282). -/
def State.assemble (s : State) (p : Fin 8) : Nat → State
  | 0 => s
  | n + 1 =>
    let s2 := match s.instances p with
      | [a, b] =>
        let (x, s1) := s.ingressTake p a
        let (y, s2) := s1.ingressTake p b
        s2.modLink p (fun k => { k with asmA := k.asmA ++ [x], asmB := k.asmB ++ [y] })
      | i :: _ =>
        let (x, s1) := s.ingressTake p i
        s1.modLink p (fun k => { k with asmA := k.asmA ++ [x] })
      | [] => s
    let k := s2.link[p]
    let whole : List (List Bool) := k.asmA ++ k.asmB
    let s3 := if whole.length = 64 then
        s2.modLink p (fun k => { k with asmA := [], asmB := [], ready := k.ready ++ [bitsNat whole.flatten] })
      else s2
    s3.assemble p n

/-- The frame of a slot in CARRYING (R201). -/
def State.carrySlot (s : State) (p : Fin 8) : State :=
  let x := s.link[p]
  let waiting := x.ready.length + x.swapped.toList.length
  if x.statusDue then s.sendStatus p
  else match (if waiting ≤ x.backlog * s.width p then s.sendReplay p else none) with
    | some t => t
    | none =>
      match s.newData p with
      | some t => t
      | none =>
        if x.echo.isSome || x.echoDue then s.sendEcho p
        else if x.repeatDue then s.sendStatus p
        else s.sendIdle p

/-! ## Alignment and loss -/

/-- A port's alignment is declared (R183, R302): SEARCH becomes ALIGNED. -/
def State.declareAligned (s : State) (p : Fin 8) : State :=
  let s1 := (s.setReg Ob.LINK_ALIGN_STATE (p.val + 1) 1).setPort p PS.ALIGNED
  forEach (s.lanesOf p) (fun l s =>
    let both := s.rx[l].precode == 0
    let on := if both then decide (2048 ≤ s.srch[l].cand) else s.rx[l].precode == 2
    s.setReg Ob.LINE_RX_PRECODE_FOUND (l.val + 1) (if on then 2 else 1)) s1

/-- A loss cause of R307: CARRYING becomes DRAINING, ALIGNED becomes SEARCH. -/
def State.linkLost (s : State) (p : Fin 8) (cause : Nat) : State :=
  if s.pstate p = PS.CARRYING then s.drain p cause
  else if s.pstate p = PS.ALIGNED then
    let s1 := (s.setReg Ob.PORT_DRAIN_CAUSE (p.val + 1) (cause : Int)).linkDown p
    (if s1.test[p].injKind = 1 then s1 else s1.testQuiet p).enterSearch p
  else s

/-- A far end whose format differs (R303): the status and PORT_FORMAT_MISMATCH, once per episode. -/
def State.formatMismatch (s : State) (p : Fin 8) : State :=
  let n := p.val + 1
  if s.pstate p ≠ PS.SEARCH then s
  else
    let s1 := s.setReg Ob.PORT_SEARCH_STATUS n 4
    if s.port[p].epFormat then s1
    else (s1.modPort p (fun x => { x with epFormat := true })).raise Src.PORT_FORMAT_MISMATCH p.val
      (p.val + 256 * s.nat Ob.PORT_FORMAT_FOUND n + 65536 * s.nat Ob.PORT_PARTNER_WIDTH n) Ob.PORT_EVENTS n

/-- Skew beyond R184 (R304): SKEW_LIMIT with LINK_SKEW_LIMIT, once per episode. -/
def State.skewLimit (s : State) (p : Fin 8) (skew : Nat) : State :=
  let s1 := if s.pstate p = PS.SEARCH then s.setReg Ob.PORT_SEARCH_STATUS (p.val + 1) 5 else s
  if s.port[p].epSkew then s1
  else (s1.modPort p (fun x => { x with epSkew := true })).raise Src.LINK_SKEW_LIMIT p.val (p.val + 256 * min 255 skew)
    Ob.RETRY_EVENTS (p.val + 1)

/-- Four consecutive missed markers on a lane (R183, R307). -/
def State.alignLoss (s : State) (p l : Fin 8) : State :=
  if s.reg Ob.LINK_ALIGN_STATE (p.val + 1) = 1 then
    let s1 := (s.setReg Ob.LINK_ALIGN_STATE (p.val + 1) 2).raise Src.LINK_ALIGN_LOSS p.val (p.val + 256 * l.val) Ob.RETRY_EVENTS (p.val + 1)
    let s2 := forEach (s1.lanesOf p) (fun k s => s.modOuterLane k (fun _ => {})) s1
    (s2.modOuterPort p (fun _ => {})).linkLost p 3
  else s

/-! ## Receiving -/

/-- LPL_MAX of an IDLE or ECHO frame: accepted after three in a row (R210). -/
def State.lplSeen (s : State) (p : Fin 8) (v : Nat) : State :=
  let run := if s.link[p].lplRun.1 = v then min 3 (s.link[p].lplRun.2 + 1) else 1
  let s1 := s.modLink p (fun x => { x with lplRun := (v, run) })
  if run = 3 then s1.setReg Ob.LINK_PARTNER_LPL_MAX (p.val + 1) (v : Int) else s1

/-- A received STATUS (R196, R200). -/
def State.statusReceived (s : State) (p : Fin 8) (body : List Bool) : State :=
  let ack := bodyField body 0 24
  let seen := bodyField body 24 24
  let rs := (List.range (min 511 (bodyField body 72 16))).map (fun j => (bodyField body (96 + 32 * j) 24, bodyField body (120 + 32 * j) 8 + 1))
  let named (q : Nat) : Bool := rs.any (fun r => decide (sub24 q r.1 < r.2))
  let inside (q : Nat) : Bool := !precedes q ack && precedes q seen
  let s1 := s.takeAck p ack
  let rtt := s.nat Ob.RETRY_RTT_NS (p.val + 1)
  forEach s1.link[p].tx (fun t s =>
    if !inside t.seq then s
    else if !named t.seq then
      (s.modTxFrame p t.seq (fun t => { t with got := true })).modLink p (fun x => { x with replays := x.replays.filter (· != t.seq) })
    else if t.last + nsCycles rtt ≤ s.time.now then s.queueReplay p t else s) s1

/-- A received ECHO_RSP gives a round trip (R197). DEDUCED (log entry 188): one that comes out negative is discarded. -/
def State.echoReceived (s : State) (p : Fin 8) (body : List Bool) : State :=
  let dwell := bodyField body 168 64
  let trip := (Stamp.mk (bodyField body 160 8) (bodyField body 64 96)).to (s.recvStamp p)
  if !body.getD 232 false || !s.linkWork p then s
  else match trip with
  | none => s
  | some d =>
    if d < dwell then s
    else
    let ns := min (2 ^ 32 - 1) (roundDiv (((d - dwell) * 1000000000 : Nat) : Int) (2 ^ 48)).toNat
    let rtts := (ns :: s.link[p].rtts).take 4
    ((s.modLink p (fun x => { x with rtts := rtts })).setReg Ob.RETRY_RTT_NS (p.val + 1) (rtts.foldl max 0 : Nat)).triggerFirst
      (linkEngines p) 0 15625 [.num Ob.RETRY_RTT_NS (p.val + 1) (s.reg Ob.RETRY_RTT_NS (p.val + 1)), .rtts p s.link[p].rtts]

/-- A frame that passes both checks and is well formed, not with LAST in CARRYING (R190 to R206, R210, R306, R308, R329). -/
def State.takeFrameBody (s : State) (p : Fin 8) (h : FrameHead) (body : List Bool) (rescued unsettled : Bool) : State :=
  let n := p.val + 1
  let s1 := if h.type = TData ∧ s.pstate p = PS.ALIGNED then s.enterCarrying p else s
  let live := s1.carries p
  let deaf := live && decide (0 < s1.injects p 5 none)
  let s2 := if deaf then s1.injUse p 1 else s1
  let s3 := if live ∧ !deaf then s2.takeAck p h.ack else s2
  if h.type = TData then
    let s4 := (s3.setReg Ob.LINK_LPL_RX n (h.lpl : Int)).modLink p (fun x => { x with armed := true, idleRun := 0 })
    let s5 := if rescued then s4.bump64 Ob.LINK_FRAMES_RESCUED n 1 else s4
    let s6 := if unsettled then s5.bump64 Ob.LINK_FRAMES_UNSETTLED n 1 else s5
    if live then s6.dataReceived p h.seq (bitsNat h.bits) (bitsNat body) else s6
  else
    let s4 := if h.type = TStatus then s3
      else ((s3.lplSeen p (bodyField body 24 4)).setReg Ob.LINK_PARTNER_FEAT n (bodyField body 32 32 : Nat))
    let s5 := if live then (s4.raiseSeen p h.seq).gapStatus p else s4
    let base := if h.type = TStatus then bodyField body 48 24 else bodyField body 0 24
    let s6 := if live ∧ 2 ≤ h.lpl then (s5.releaseGaps p (fun g => precedes g.seq base) 0).gapStatus p else s5
    let s7 := if live ∧ h.type = TStatus ∧ !deaf then s6.statusReceived p body else s6
    let s8 := if h.type = TEchoReq ∧ s7.inbandRuns p then
        s7.modLink p (fun x => { x with
          echo := some ⟨bodyField body 64 96, bodyField body 160 8, (s.recvStamp p).time, (s.recvStamp p).epoch⟩ })
      else if h.type = TEchoRsp then s7.echoReceived p body
      else s7
    let run := if h.seq = 0 ∧ h.ack = 0 then s8.link[p].idleRun + 1 else 0
    let s9 := s8.modLink p (fun x => { x with idleRun := run })
    if s9.pstate p = PS.CARRYING ∧ s9.link[p].armed ∧ 8 ≤ run then s9.drain p 5 else s9

/-! ## Meanings -/

/-- A delineated slot is checked and its fields are used (R190 to R206); one that overlaps an uncorrectable outer codeword fails its
checks (R186). -/
def State.takeSlot (s : State) (p : Fin 8) (slot : RxSlot) : State :=
  let n := p.val + 1
  let bits := bytesBits slot.bytes
  if slot.bad || !hdrOk bits then s.bump64 Ob.LINK_HDR_FAIL n 1
  else
      let h := headOf bits
      let s1 := if h.mv ∧ s.inbandRuns p then
          (s.bump64 Ob.LINK_MGMT_RX_WORDS n 1).pushBytes (.inband p) h.lpl (beBytes 2 h.mgmt)
        else s
      if !crcOk bits then
        let s2 := s1.bump64 Ob.LINK_CRC_FAIL n 1
        if s2.carries p ∧ sub24 h.seq s2.link[p].seen < 64 then (s2.raiseSeen p (next24 h.seq)).gapStatus p else s2
      else
        let s2 := s1.bump64 Ob.LINK_FRAMES_OK n 1
        if h.type = 0 || decide (5 < h.type) || h.lpl == 0 || decide (s.nat Ob.LINK_LPL_IMPL 0 < h.lpl) then
          (s2.bump Ob.LINK_PROTOCOL_ERR n 1).raise Src.LINK_PROTOCOL p.val (p.val + 256 * h.type + 4096 * h.lpl) Ob.RETRY_EVENTS n
        else
          let s3 := s2.setReg Ob.LINK_PARTNER_PORT n (h.port : Int)
          if h.last ∧ s3.pstate p = PS.CARRYING then s3.drain p 4
          else s3.takeFrameBody p h (bodyOf bits) slot.rescued slot.unsettled

/-- FRAME_RECEIVED: the oldest slot that delineation has cut from the port's received stream (R181, R190); none where none waits. -/
def execFrameReceived (p : Fin 8) (s : State) : Out :=
  if !s.linkRuns p || s.pstate p == PS.SEARCH then .next s
  else match s.outerPort[p].slots with
    | slot :: rest => .next ((s.modOuterPort p (fun o => { o with slots := rest })).takeSlot p slot)
    | [] => .next s

/-- What stands at the start of the payload that a lane received last, and whether a marker is due there (R183, R301): the hard decisions
of the codeword in the search, later the payload that HAMPER released. -/
def State.markerPlace (s : State) (p l : Fin 8) : Option (List Bool × Bool) :=
  let o := s.outerLane[l]
  let ls := s.lanesOf p
  if s.pstate p = PS.SEARCH then
    match s.cwStart l with
    | some first =>
      if o.mark = some first then none
      else some (hardBits (s.rx[l].dsp.softFrom (s.precoded l) first 1216), o.mark.any (fun m => m + 1088 * 2048 == first))
    | none => none
  else o.head.map (fun b => (b, o.q == some ((17 * (l.val - p.val) + ls.length) % (1088 * ls.length))))

/-- The place just looked at has been looked at. -/
def State.markerTaken (s : State) (p l : Fin 8) : State :=
  s.modOuterLane l (fun o => { o with mark := if s.pstate p = PS.SEARCH then s.cwStart l else o.mark, head := none })

/-- MARKER_RECEIVED: a lane looks for its marker at the start of the payload it received last; `lag` is the lane's lag behind the earliest
lane of its port in TIC codewords (R182 to R184, R301, R302, R303). A place where no marker is due and none stands is an ordinary
payload. -/
def execMarkerReceived (l : Fin 8) (codes : List Int) (lag : Nat) (s : State) : Out :=
  let s := s.rxSamples l codes
  match s.portOf l with
  | none => .next s
  | some p =>
    let st := s.pstate p
    if !s.linkRuns p || (st == PS.SEARCH && !s.srch[l].lock) then .next s
    else match s.markerPlace p l with
    | none => .next s
    | some (bits, due) =>
      let n := p.val + 1
      let ls := s.lanesOf p
      let pos := l.val - p.val
      let hits := ((List.zipWith (· == ·) bits (markerPattern pos)).filter id).length
      let f (lo k : Nat) : Nat := bitsNat ((bits.drop lo).take k)
      let chk := decide (2000 ≤ hits) && f 2400 32 == crc32cBits ((bits.drop 2048).take 352)
      let width := f 2052 4
      let rate := f 2060 4
      let mine := width == Nat.log2 ls.length && rate == s.rateActive p
      let s0 := s.markerTaken p l
      let s1 := if chk then s0.setReg Ob.PORT_PARTNER_WIDTH n (min 255 (2 ^ width) : Nat) else s0
      let s2 := if chk ∧ (rate = 1 ∨ rate = 2) then s1.setReg Ob.PORT_FORMAT_FOUND n (rate : Int) else s1
      if chk && mine && f 2048 4 == pos then
        let s3 := (s2.modOuterLane l (fun o => { o with
          streak := if due then min 2 (o.streak + 1) else 1, missed := 0
          q := some ((17 * pos + ls.length) % (1088 * ls.length)) })).setReg Ob.LINK_SKEW_CW (l.val + 1) (min 255 lag : Nat)
        if ls.all (fun k => s3.outerLane[k].streak == 2) then
          let skew := (ls.map (fun k => s3.nat Ob.LINK_SKEW_CW (k.val + 1))).foldl max 0
          if 64 < skew then .next (s3.skewLimit p (max skew lag))
          else if st = PS.SEARCH then .next (s3.declareAligned p)
          else .next (s3.setReg Ob.LINK_ALIGN_STATE n 1)
        else .next s3
      else if due || chk then
        let s3 := (s2.bump Ob.LINK_MARKER_ERR (l.val + 1) 1).modOuterLane l (fun o => { o with streak := 0, missed := o.missed + 1 })
        let s4 := if chk && !mine then s3.formatMismatch p else s3
        if s4.outerLane[l].missed = 4 then .next (s4.alignLoss p l) else .next s4
      else .next (if st = PS.SEARCH then s2.modOuterLane l (fun o => { o with mark := s.outerLane[l].mark }) else s2)

/-- A line lane sends a codeword's length of its pattern in place of the mapper's input (R322). -/
def State.linePattern (s : State) (l : Fin 8) : State :=
  let (vs, g) := s.tx[l].gen.run (s.patternOf (.line l)) 2048
  (s.txSend l vs).modTx l (fun x => { x with gen := g })

/-- SLOT_FILL: a port fills a frame slot; since the last one each of its host instances has given `take` blocks (R192,
R201, R282, R298, R309). -/
def execSlotFill (p : Fin 8) (take : Nat) (s : State) : Out :=
  if s.testKind p = 1 then .next (forEach (s.lanesOf p) (fun l s => s.linePattern l) s)
  else if !s.linkRuns p then .next s
  else if s.carries p then .next (((s.assemble p take).lplApply p).carrySlot p)
  else if s.pstate p = PS.ALIGNED ∧ (s.link[p].echo.isSome ∨ s.link[p].echoDue) then .next (s.sendEcho p)
  else .next ((s.sendIdle p).modPort p (fun x => { x with lastLeft := x.lastLeft - 1 }))

/-- RETX_TIMER: a frame's timer expires (R197, R198, R200, R202): a replay, or at RETRY.REPLAY_MAX the write-off. While RETRY.RTT_NS
reads 0 no timer replay is made. -/
def execRetxTimer (p : Fin 8) (seq : Nat) (s : State) : Out :=
  if !s.carries p then .next s
  else match s.link[p].tx.find? (fun t => t.seq == seq) with
    | some t =>
      .next (if s.nat Ob.RETRY_RTT_NS (p.val + 1) = 0 ∧ t.count < s.link[p].replayMax then s else (s.queueReplay p t).linkCounts p)
    | none => .next s

/-- WINDOW_AGE_WRITEOFF: a frame's first send is a window old (R202). -/
def execWindowAgeWriteoff (p : Fin 8) (seq : Nat) (s : State) : Out :=
  match s.link[p].tx.find? (fun t => t.seq == seq) with
  | some t => .next (if t.off then s else (s.writeOff p seq none).linkCounts p)
  | none => .next s

/-- GAP_AGE_RELEASE: a gap's age reaches the window (R204). -/
def execGapAgeRelease (p : Fin 8) (seq : Nat) (s : State) : Out :=
  if s.link[p].gaps.any (fun g => g.seq == seq) then .next ((s.releaseGaps p (fun g => g.seq == seq) 1).gapStatus p) else .next s

/-- STATUS_REPEAT: RETRY.STATUS_REPEAT_NS has passed while a gap remains (R195). -/
def execStatusRepeat (p : Fin 8) (s : State) : Out :=
  .next (if s.carries p ∧ s.link[p].gaps ≠ [] then s.modLink p (fun x => { x with repeatDue := true }) else s)

/-- ECHO_REQ_TIMER: 10 µs after ALIGNED, and every 1 ms (R197). -/
def execEchoReqTimer (p : Fin 8) (s : State) : Out :=
  .next (if s.inbandRuns p then s.modLink p (fun x => { x with echoDue := true }) else s)

/-- A write of RETRY.WINDOW_US (R4, R214, R217, R221, R238). -/
def ownRetryWindow (sub v : Nat) (s : State) : Verdict :=
  if h : 1 ≤ sub ∧ sub ≤ 8 then
    let p : Fin 8 := ⟨sub - 1, by omega⟩
    if 70 < v ∧ !s.deepPort p ∧ hotUsable (s.nat Ob.DS_PIN_RATE 0) < s.dsLoad (some (p, v)) then .deny St.CONFIG_CONFLICT
    else
      let s1 := s.setReg Ob.RETRY_WINDOW_US sub (v : Int)
      let old := s1.link[p].tx.filter (fun t => !t.off && decide (t.first + usCycles v ≤ s.time.now))
      let s2 := (forEach old (fun t s => s.writeOff p t.seq none) s1).modLink p (fun x => { x with
        tx := x.tx.map (fun t => { t with window := min t.window v }) })
      .done ((s2.linkCounts p).votesDs.dsAdmit) []
  else .deny St.NO_OBJECT

/-- RETRY_WINDOW_WRITE. -/
def execRetryWindowWrite (r : Req) (sub v : Nat) (s : State) : Out :=
  .next (s.serve r .write Ob.RETRY_WINDOW_US sub (leBytes 2 v) (ownRetryWindow sub (leNat (leBytes 2 v))))

/-- RETRY.CLEAR_PEAKS (R216): the peaks restart at the present figures. -/
def ownRetryClearPeaks (s : State) : Verdict :=
  .done (forEach (fins 8) (fun p s =>
    ((s.setReg Ob.RETRY_OUTSTANDING_PEAK (p.val + 1) 0).setReg Ob.RETRY_HOLD_PEAK (p.val + 1) 0)) s) []

/-! ## The tick -/

/-- The tick's part of a port's link engine (R208, R217). -/
def State.linkTick (s : State) (p : Fin 8) : State :=
  let n := p.val + 1
  let s1 := s.modLink p (fun x => { x with
    lostTick := 0, replayMax := s.nat Ob.RETRY_REPLAY_MAX n, guardNs := s.nat Ob.RETRY_GUARD_NS n
    repeatNs := s.nat Ob.RETRY_STATUS_REPEAT_NS n, backlog := s.nat Ob.RETRY_TX_BACKLOG_MAX n })
  if !s.linkWork p then s1
  else
  let top := s.nat Ob.RETRY_REPLAY_MAX n
  let eff := if s.nat Ob.RETRY_RTT_NS n = 0 then top else min top (s.window p * 1000 / max 1 (s1.timerNs p))
  let s2 := (s1.modLink p (fun x => { x with short := decide (eff < top) })).setReg Ob.RETRY_REPLAY_EFFECTIVE n (eff : Int)
  if eff < top ∧ !s.link[p].short then s2.raise Src.RETRY_WINDOW_SHORT p.val (p.val + 256 * min 15 eff) Ob.RETRY_EVENTS n else s2

end Sys2Proof.Machine
end

