-- ==== Sys2Proof/Machine/PortGo.lean ====
section
/-! DEFINITION. How a port moves: what brings it from state to state once its optics, calibrations and drains have got
there (R294 to R317), its TEST sequences (R311, R312, R321) and its rate changes (R313). -/

namespace Sys2Proof.Machine

/-- A port reaches OFF (R295, R297, R303): its votes are withdrawn and its command is answered. -/
def State.portOff (s : State) (p : Fin 8) (st : Nat := St.OK) : State :=
  let n := p.val + 1
  let s1 := ((s.setPort p PS.OFF).testQuiet p).linkDown p
  let s2 := ((s1.portRxIdle p).linkRest p).modPort p (fun x => { restart := x.restart, breakout := x.breakout })
  let s3 := forEach (s2.hostLanesOf p) (fun h s => s.hostIdle h) s2
  let s4 := forEach (s3.instances p) (fun i s => s.modInst i (fun x => { sent := x.sent })) s3
  let s4 := (forEach (s4.lanesOf p) (fun l s => s.setReg Ob.S1_ALIGN_STATE (l.val + 1) 0) s4).modLink p (fun x => { x with stream := {} })
  let s5 := (s4.setReg Ob.PORT_RATE_ACTIVE n 0).setReg Ob.PORT_RATE_CHANGING n 0
  -- the round trip, the partner's level and the sender's level lapse with the link
  let s6 := (((s5.modLink p (fun x => { x with rtts := [] })).setReg Ob.RETRY_RTT_NS n 0).setReg Ob.LINK_PARTNER_LPL_MAX n 0).setReg
    Ob.LINK_LPL_TX n 1
  (s6.votesDs).finish Ob.PORT_CMD n st

/-- Change the record of a port's goal. -/
def State.setGoal (s : State) (p : Fin 8) (g : PGoal) : State := s.modPort p (fun x => { x with goal := g })

/-- Whether a port is bound for a TEST sequence. -/
def PGoal.isTest : PGoal → Bool
  | .test _ => true
  | _ => false

/-! ## TEST sequences -/

/-- Whether a sequence transmits, and whether it uses the line receiver (R311, R321). -/
def testSends (k : Nat) : Bool := k == 1 || k == 5 || k == 6
def testReceives (k : Nat) : Bool := k == 1 || k == 6

/-- The checkers of a port's sequence start or stop (R323): at a start their counters clear. -/
def State.checkers (s : State) (p : Fin 8) (k : Nat) (start : Bool) : State :=
  let v := boolInt start
  let line := forEach (s.lanesOf p) (fun l s =>
    let n := l.val + 1
    let s1 := (s.setReg Ob.TEST_LINE_CHK_STATE n v).modRx l (fun x => { x with chk := {} })
    if start then ((s1.setReg Ob.TEST_LINE_BITS n 0).setReg Ob.TEST_LINE_ERRORS n 0).setReg Ob.TEST_LINE_LOCK_LOSS n 0 else s1)
  let host := forEach (s.hostLanesOf p) (fun h s =>
    let n := h.val + 1
    let s1 := (s.setReg Ob.TEST_HOST_CHK_STATE n v).modHostLane h (fun x =>
      { x with chk := {}, gen := .start (s.patternOf (.host h)) })
    if start then ((s1.setReg Ob.TEST_HOST_BITS n 0).setReg Ob.TEST_HOST_ERRORS n 0).setReg Ob.TEST_HOST_LOCK_LOSS n 0 else s1)
  if k = 1 then line s else if k = 2 ∨ k = 3 then host s else s

/-- A sequence starts in TEST (R311, R321, R326): its patterns are taken, checkers cleared, the receivers start or go to
IDLE, the link block starts afresh, and the optics go up or down. -/
def State.testBegin (s : State) (p : Fin 8) (k : Nat) : State :=
  let pats := if k = 1 then (s.lanesOf p).map (fun l => s.nat Ob.TEST_LINE_PATTERN (l.val + 1))
    else (s.hostLanesOf p).map (fun h => s.nat Ob.TEST_HOST_PATTERN (h.val + 1))
  let s1 := ((s.setPort p PS.TEST).linkDown p).linkRest p
  let s2 := (s1.modTest p (fun t => { t with kind := k, pats := pats, farLoop := false })).modPort p (fun x => { x with
    goal := .none, drained := false, lastLeft := 0 })
  let s3 := (forEach (s2.lanesOf p) (fun l s => s.modTx l (fun x => { x with gen := .start (s.patternOf (.line l)) })) s2).checkers p k true
  let s4 := if testReceives k then forEach (s3.lanesOf p) (fun l s => s.tlStart l) s3 else s3.portRxIdle p
  let s5 := if testSends k then s4.portEnable p else s4.portDown p
  if testSends k ∧ !s5.portUpDone p then s5 else s5.finish Ob.PORT_TEST_START (p.val + 1) St.OK

/-- The running sequence ends with a result; a start that still waits fails (R264, R311, R312). -/
def State.testOver (s : State) (p : Fin 8) (result : Int) : State :=
  if s.reg Ob.PORT_TEST_RESULT (p.val + 1) = 1 then
    ((s.checkers p s.test[p].kind false).testEnd p result).finish Ob.PORT_TEST_START (p.val + 1) St.CONFIG_CONFLICT
  else s

/-! ## Rate changes (R313) -/

/-- Step 2: the synthesisers calibrate for the new rate, without the DAC check. -/
def State.rateCalibrate (s : State) (p : Fin 8) : State :=
  forEach (s.lanesOf p) (fun l s => if s.on (Dom.ltx l) then s.txCalibrate l true else s)
    (s.modPort p (fun x => { x with rateDown := false }))

/-- Step 3: the port reads STANDBY, link block and host path are set for the new rate, and where the port is to go up its
transmit enable is issued and held. -/
def State.rateSwitch (s : State) (p : Fin 8) (rate : Nat) : State :=
  let s1 := if s.pstate p = PS.STANDBY ∧ !s.port[p].rateHold then s else s.portStandby p
  let s2 := s1.setReg Ob.PORT_RATE_ACTIVE (p.val + 1) (rate : Int)
  let s3 := (s2.modLink p (fun x => { x with stream := {}, rtts := [] })).setReg Ob.RETRY_RTT_NS (p.val + 1) 0
  -- the host lanes keep CDR lock, and the instances align again (R290)
  let s4 := forEach ((s3.hostLanesOf p).filter (fun h => s3.hostState h == 4)) (fun h s => s.hostLost h 3 false) s3
  let s4 := forEach (s4.hostLanesOf p) (fun h s => s.modHostLane h (fun x => { x with passed := [], line := [] })) s4
  let s5 := forEach (s4.instances p) (fun i s => s.modInst i (fun x => { sent := x.sent, resync := true })) s4
  if s5.port[p].goal = .up then s5.portEnable p else s5

/-- The change is over. -/
def State.rateEnd (s : State) (p : Fin 8) : State :=
  (s.modPort p (fun x => { x with rateTo := none, rateDown := false })).setReg Ob.PORT_RATE_CHANGING (p.val + 1) 0

/-! ## Settling -/

/-- Whether a port going down has got there: optics down on every lane, no LAST slot left, the hold empty. -/
def State.portDownHere (s : State) (p : Fin 8) : Bool :=
  s.portDownDone p && s.port[p].lastLeft == 0 && ((s.pstate p != PS.DRAINING && !s.port[p].rateHold) || s.port[p].drained)

/-- A port in OFF that a command has bound upwards: calibrated, it reaches STANDBY (R254, R295, R299). -/
def State.settleOff (s : State) (p : Fin 8) : State :=
  match s.port[p].goal with
  | .standby => if s.portReady p then ((s.portStandby p).setGoal p .none).finish Ob.PORT_CMD (p.val + 1) St.OK else s
  | .up => if s.portReady p then (s.portStandby p).portEnable p else s
  | .off => s.portOff p
  | .none => if (s.lanesOf p).any (fun l => s.txState l == 1) then s else s.votesDs
  | .test _ => s

/-- A port in STANDBY: the laser step of the last lane takes it to SEARCH (R256, R299); a foreground calibration that runs on one of
its lanes holds it (R96). -/
def State.settleStandby (s : State) (p : Fin 8) : State :=
  match s.port[p].goal with
  | .up =>
    if s.portHeld p then s
    else if s.portUpDone p then
      let s1 := if s.flag Ob.PORT_RATE_CHANGING (p.val + 1) then s else s.rateEnd p
      (s1.enterSearch p).finish Ob.PORT_CMD (p.val + 1) St.OK
    else s.portEnable p
  | .off => if s.portDownHere p then s.portOff p else s
  | .test k => if s.portDownHere p ∧ !s.portHeld p then s.testBegin p k else s
  | .standby => s.setGoal p .none
  | .none => s

/-- A port in a later state that is bound down (R295, R310). -/
def State.settleRunning (s : State) (p : Fin 8) : State :=
  match s.port[p].goal with
  | .off => if s.portDownHere p then s.portOff p else s
  | .standby =>
    let s1 := if s.portDownDone p ∧ s.port[p].lastLeft = 0 then s.finish Ob.PORT_CMD (p.val + 1) St.OK else s
    if s1.portDownHere p then (s1.portStandby p).setGoal p .none else s1
  | .up => if s.pstate p = PS.DRAINING ∧ s.portDownHere p then (s.portStandby p).portEnable p else s
  | .test k => if s.portDownHere p then (s.portStandby p).testBegin p k else s
  | .none =>
    if s.pstate p = PS.TEST ∧ s.portUpDone p then s.finish Ob.PORT_TEST_START (p.val + 1) St.OK else s

/-- A port in a rate change (R313): steps 2 (the port reads STANDBY, though its hold may still empty), 3 and 5, or the end of a change that leaves the port in STANDBY or OFF. -/
def State.settleRate (s : State) (p : Fin 8) (rate : Nat) : State :=
  if s.port[p].rateDown then
    if s.portDownDone p ∧ s.port[p].lastLeft = 0 then
      let s0 := if s.port[p].goal = .standby then s.finish Ob.PORT_CMD (p.val + 1) St.OK else s
      let s1 := s0.rateCalibrate p
      if s1.pstate p = PS.DRAINING ∧ !s1.port[p].drained then (s1.setPort p PS.STANDBY).modPort p (fun x => { x with rateHold := true })
      else s1.rateSwitch p rate
    else s
  else if s.port[p].rateHold then (if s.port[p].drained then s.rateSwitch p rate else s)
  else if s.pstate p = PS.STANDBY then
    if s.port[p].goal = .up then s.settleStandby p
    else if s.portCalibrating p then s
    else (s.rateEnd p).settleStandby p
  else s.settleRunning p

/-- The goal that a value of PORT.CMD, PORT.START_STATE or PORT.RETURN_STATE names. -/
def goalOf (v : Int) : PGoal := if v = 0 then .off else if v = 1 then .standby else .up

/-- A port that a block reset took to OFF gets PORT.CMD with PORT.START_STATE once the reset has ended: the domains reset are
no longer WAKING (R317). -/
def State.portRestart (s : State) (p : Fin 8) : State :=
  let x := s.port[p]
  if x.restart ≠ [] ∧ s.pstate p = PS.OFF ∧ x.goal = .none ∧
      (fins 36).all (fun d => !(x.restart.contains d.val && s.pwr d == 4)) then
    let s1 := s.modPort p (fun x => { x with restart := [] })
    let v := s.reg Ob.PORT_START_STATE (p.val + 1)
    if v = 0 then s1 else s1.portLeave p (goalOf v)
  else s

/-- Bring a port as far as its lanes allow. -/
def State.portSettle (s : State) (p : Fin 8) : State :=
  if !s.exists p then s
  else
    match s.port[p].rateTo with
    | some rate => s.settleRate p rate
    | none =>
      (if s.pstate p = PS.OFF then s.settleOff p
      else if s.pstate p = PS.STANDBY then s.settleStandby p
      else s.settleRunning p).portRestart p

/-- The port of a lane settles. -/
def State.laneSettle (s : State) (l : Fin 8) : State :=
  match s.portOf l with
  | some p => s.portSettle p
  | none => s

/-- A calibration of a lane fails (R255): the port returns to OFF, and what waits on it fails. -/
def State.portCalFail (s : State) (l : Fin 8) : State :=
  match s.portOf l with
  | none => s
  | some p =>
    if s.pstate p = PS.OFF ∧ s.port[p].goal = .none then s.votesDs
    else
      let s1 := if s.reg Ob.PORT_TEST_RESULT (p.val + 1) = 1 then (s.checkers p s.test[p].kind false).testEnd p 3 else s
      let s2 := forEach ((s1.lanesOf p).filter (fun k => k ≠ l)) (fun k s => s.txDown k) s1
      (s2.portOff p St.SYNTH_CAL_FAIL).finish Ob.PORT_TEST_START (p.val + 1) St.SYNTH_CAL_FAIL

/-! ## Ways a port is sent -/

/-- Send a running port down (R295, R309): from CARRYING through DRAINING with its LAST slots, else by the down sequence
at once. -/
def State.portLower (s : State) (p : Fin 8) (cause : Nat) : State :=
  let s1 := if s.pstate p = PS.CARRYING then s.drain p cause else s
  if s1.port[p].lastLeft = 0 then s1.portDown p else s1

/-- Leave a TEST sequence for a state (R295, R299, R311): by the path of a port whose optics stand as they do. -/
def State.testLeave (s : State) (p : Fin 8) (goal : PGoal) : State :=
  match goal with
  | .up =>
    if s.portUpDone p then s.enterSearch p
    else ((s.portStandby p).portEnable p).setGoal p .up
  | g => ((s.setGoal p g).portDown p).portSettle p

/-- A rate change or a recalibration of a port that is not OFF starts (R312, R313). -/
def State.rateStart (s : State) (p : Fin 8) (rate : Nat) : State :=
  let n := p.val + 1
  let x := s.port[p]
  let testing := s.pstate p == PS.TEST || x.goal.isTest
  let stay := s.pstate p == PS.STANDBY && !testing
  let s1 := if testing then
      ((s.testOver p 3).setGoal p (goalOf s.test[p].ret))
    else if stay then s
    else if x.goal = .none then s.setGoal p .up else s
  let s2 := (s1.modPort p (fun x => { x with rateTo := some rate, rateDown := true })).setReg Ob.PORT_RATE_CHANGING n (boolInt (!stay))
  -- a rate change starts: the timing loops go to IDLE, and codewords in flight are discarded (R123, R171)
  let s3 := forEach (s2.lanesOf p) (fun l s => s.rxIdle l) s2
  ((s3.portLower p 7)).portSettle p

/-! ## PORT.CMD (R295) -/

/-- PORT.CMD OFF: an earlier command fails, a rate change or a test ends, and the port takes the down path (R264, R295,
R312, R313). -/
def State.cmdOff (s : State) (p : Fin 8) : State :=
  let n := p.val + 1
  let s1 := s.finish Ob.PORT_CMD n St.CONFIG_CONFLICT
  let s2 := if s1.pstate p = PS.TEST ∨ s1.port[p].goal.isTest then s1.testOver p 3 else s1
  let s3 := (s2.rateEnd p).setGoal p .off
  if s3.pstate p = PS.OFF then (forEach (s3.lanesOf p) (fun l s => s.modTx l (fun t => { t with held := false })) s3)
  else s3.portLower p 6

/-- PORT.CMD STANDBY (R295). -/
def State.cmdStandby (s : State) (p : Fin 8) : State :=
  if s.pstate p = PS.OFF then s.portLeave p .standby
  else if s.pstate p = PS.TEST then ((s.testOver p 3).setGoal p .standby).portDown p
  else
    let s1 := if s.port[p].goal.isTest then s.testOver p 3 else s
    let s2 := if s1.pstate p = PS.SEARCH ∧ !s1.port[p].rateDown then s1.rateEnd p else s1
    (s2.setGoal p .standby).portLower p 6

/-- PORT.CMD UP (R295). -/
def State.cmdUp (s : State) (p : Fin 8) : State :=
  if s.pstate p = PS.OFF then s.portLeave p .up
  else if s.pstate p = PS.TEST then (s.testOver p 3).testLeave p .up
  else if s.pstate p = PS.STANDBY then
    (if s.port[p].rateHold ∨ s.portHeld p then s.setGoal p .up else (s.setGoal p .up).portEnable p)
  else
    match s.port[p].goal with
    | .none => s
    | .test _ => (s.testOver p 3).setGoal p .up
    | _ => if s.pstate p = PS.DRAINING then s.setGoal p .up else s

/-- Whether a PORT.CMD that was accepted has got where it was sent: UP from a running state at once, else by its goal. -/
def State.cmdArrived (s : State) (p : Fin 8) (arg : Nat) (before : Int) : Bool :=
  match arg with
  | 0 => s.pstate p == PS.OFF && s.port[p].goal == .none
  | 1 => s.pstate p == PS.STANDBY && s.port[p].goal == .none
  | _ => (decide (2 ≤ before) && decide (before ≤ 5)) || s.pstate p == PS.SEARCH

/-- Take an accepted command as far as it goes at once: the port after it, and whether it has arrived. -/
def State.portCommand (s : State) (p : Fin 8) (arg : Nat) : State × Bool :=
  let before := s.pstate p
  let s1 := match arg with
    | 0 => s.cmdOff p
    | 1 => if before = PS.STANDBY then (s.setGoal p .none).portDown p else s.cmdStandby p
    | _ => s.cmdUp p
  let s2 := s1.portSettle p
  (s2, s2.cmdArrived p arg before)

/-- Whether a port is on its way to OFF for PORT.APPLY_BREAKOUT or a block reset. -/
def State.portTaken (s : State) (p : Fin 8) : Bool := s.port[p].breakout || s.port[p].restart != []

/-- PORT.CMD (R295): BUSY while an earlier command waits, and while a held enable has not run (R256). -/
def ownPortCmd (sub : Nat) (v : Int) (s : State) : Verdict :=
  if h : 1 ≤ sub ∧ sub ≤ 8 then
    let p : Fin 8 := ⟨sub - 1, by omega⟩
    let held := (s.lanesOf p).any (fun l => s.tx[l].held)
    if !s.exists p then .deny St.CONFIG_CONFLICT
    -- a needed domain that was not released in time is not tried again yet (R440)
    else if v ≠ 0 ∧ s.pstate p = PS.OFF ∧ (fins 36).any (fun d => s.doms[d].barred && s.portNeeds p d) then .deny St.CONFIG_CONFLICT
    else if v ≠ 0 ∧ (s.waiting Ob.PORT_CMD sub ∨ s.portTaken p ∨ s.portChecked p ∨
        (s.pstate p = PS.STANDBY ∧ v = 2 ∧ held)) then .deny St.BUSY
    else
      let (s1, here) := s.portCommand p v.toNat
      if here then .done s1 [] else .later s1
  else .deny St.NO_OBJECT

/-! ## PORT.TEST_START (R311) -/

/-- PORT.TEST_START (R311, R321): from OFF, DRAINING or TEST, or in a rate set outside the sequence's row,
CONFIG_CONFLICT; during a rate change or before an earlier command has replied, BUSY. A sequence that transmits replies when
its laser step completes (R256). -/
def ownTestStart (sub : Nat) (v : Int) (s : State) : Verdict :=
  if h : 1 ≤ sub ∧ sub ≤ 8 then
    let p : Fin 8 := ⟨sub - 1, by omega⟩
    let k := v.toNat
    let st := s.pstate p
    if !s.exists p || st == PS.OFF then .deny St.CONFIG_CONFLICT
    else if s.port[p].rateTo.isSome || s.waiting Ob.PORT_CMD sub || s.portTaken p then .deny St.BUSY
    else if st = PS.DRAINING ∨ st = PS.TEST then .deny St.CONFIG_CONFLICT
    else if k = 6 ∧ !s.native p then .deny St.CONFIG_CONFLICT
    else
      let s1 := (s.setReg Ob.PORT_TEST_RESULT sub 1).modTest p (fun t => { t with
        ret := s.reg Ob.PORT_RETURN_STATE sub, dur := s.nat Ob.PORT_TEST_DURATION_MS sub })
      let s2 := if st = PS.CARRYING then ((s1.drain p 6).setGoal p (.test k))
        else if s1.portHeld p then s1.setGoal p (.test k) else s1.testBegin p k
      let s3 := if s2.port[p].goal = .test k ∧ s2.port[p].lastLeft = 0 then s2.portDown p else s2
      let s4 := s3.portSettle p
      if testSends k ∧ !(s4.pstate p = PS.TEST ∧ s4.portUpDone p) then .later s4 else .done s4 []
  else .deny St.NO_OBJECT

end Sys2Proof.Machine
end

