-- ==== Sys2Proof/Machine/Optics.lean ====
section
/-! DEFINITION. The commands and events of the line transmit lanes: calibration, loss of lock, optics sequences, waveform
ramps and muting (chapter 9). -/

namespace Sys2Proof.Machine

/-! ## Calibration (R253 to R255) -/

/-- The rate set a lane calibrates for. -/
def State.calRate (s : State) (l : Fin 8) : Nat :=
  match s.portOf l with
  | some p => (s.port[p].rateTo).getD (s.rateActive p)
  | none => 0

/-- A calibration fails: 0 no band, 1 no lock (R255). -/
def State.txCalFail (s : State) (l : Fin 8) (why : Nat) : State :=
  let n := l.val + 1
  let s1 := ((s.setReg Ob.TX_SYNTH_STATE n 5).setReg Ob.TX_STATE n 0).modTx l (fun x => { x with held := false })
  (s1.raise Src.TX_SYNTH_CAL_FAIL l.val (l.val + 256 * why + 4096 * s.calRate l) Ob.TX_EVENTS n).portCalFail l

/-- A calibration ends: TX.STATE MUTED, a held enable runs, the port goes on (R254, R256). -/
def State.txCalEnd (s : State) (l : Fin 8) : State :=
  let s1 := s.txCalibrated l
  (if s1.tx[l].held ∧ s1.seq l = 0 then s1.upStart l else s1).laneSettle l

/-- TX_SYNTH_BAND_DONE: band selection ends, in a calibration or in a relock (R254, R255, R257). -/
def execTxSynthBandDone (l : Fin 8) (found : Bool) (s : State) : Out :=
  let n := l.val + 1
  if s.txSynth l ≠ 1 then .next s
  else if found then .next (s.setReg Ob.TX_SYNTH_STATE n 2)
  else if s.txState l = 1 ∧ !s.tx[l].lockMute then .next (s.txCalFail l 0)
  else .next (s.setReg Ob.TX_SYNTH_STATE n 4)

/-- TX_SYNTH_LOCK: lock is detected. A calibration goes on to its DAC check, or ends where a rate change calibrates; a
relock, also one during the DAC check, starts the 10 µs that end the mute (R254, R257). -/
def execTxSynthLock (l : Fin 8) (s : State) : Out :=
  if s.txSynth l ≠ 2 ∧ s.txSynth l ≠ 4 then .next s
  else
    let s1 := s.setReg Ob.TX_SYNTH_STATE (l.val + 1) 3
    if s1.txState l = 1 ∧ s1.tx[l].rateCal then .next (s1.txCalEnd l)
    else if s1.txState l = 1 ∧ !s1.tx[l].lockMute then .next s1
    else .next (s1.modTx l (fun x => { x with relocked := true }))

/-- TX_SYNTH_LOCK_TIMEOUT: no lock within 50 µs of band selection in a calibration (R255). -/
def execTxSynthLockTimeout (l : Fin 8) (s : State) : Out :=
  if s.txState l = 1 ∧ s.txSynth l = 2 ∧ !s.tx[l].lockMute then .next (s.txCalFail l 1) else .next s

/-- DAC_CHECK_DONE: the DAC check measured a full scale of `mvppd` (R254), and TX.DAC_FS_MVPPD is in force (R267). -/
def execDacCheckDone (l : Fin 8) (mvppd : Nat) (s : State) : Out :=
  let n := l.val + 1
  if s.txState l = 1 ∧ s.txSynth l = 3 ∧ !s.tx[l].rateCal then
    let set := s.nat Ob.TX_DAC_FS_MVPPD n
    let s1 := (s.setReg Ob.TX_DAC_FS_MEAS n (min 65535 mvppd : Nat)).modTx l (fun x => { x with fs := set })
    let off := 10 * (max mvppd set - min mvppd set)
    let s2 := if set < off then s1.raise Src.TX_DAC_FS l.val (l.val + 65536 * min 65535 mvppd) Ob.TX_EVENTS n else s1
    .next (s2.txCalEnd l)
  else .next s

/-! ## Loss of lock (R257) -/

/-- TX_SYNTH_UNLOCK: the lock detector declares loss of lock. -/
def execTxSynthUnlock (l : Fin 8) (s : State) : Out :=
  let n := l.val + 1
  if s.txSynth l = 3 then
    let x := s.tx[l]
    let s1 := (((s.setReg Ob.TX_SYNTH_STATE n 4).modTx l (fun x => { x with lockMute := true, relocked := false })).waveRetarget l).bump
      Ob.TX_SYNTH_UNLOCKS n 1
    .next (s1.raise Src.TX_SYNTH_UNLOCK l.val (l.val + 256 * min 15 x.attempts + 4096 * x.bandRep.toNat) Ob.TX_EVENTS n)
  else .next s

/-- TX_RELOCK_TIMEOUT: a relock attempt fails; after three, band selection is repeated. -/
def execTxRelockTimeout (l : Fin 8) (s : State) : Out :=
  let n := l.val + 1
  if (s.txState l ≠ 1 ∨ s.tx[l].lockMute) ∧ (s.txSynth l = 4 ∨ s.txSynth l = 2) then
    let a := s.tx[l].attempts + 1
    if a % 3 = 0 then .next ((s.modTx l (fun x => { x with attempts := a, bandRep := true })).setReg Ob.TX_SYNTH_STATE n 1)
    else .next ((s.modTx l (fun x => { x with attempts := a })).setReg Ob.TX_SYNTH_STATE n 4)
  else .next s

/-- TX_MUTE_LIFT: lock has held for 10 µs, and a codeword boundary comes. -/
def execTxMuteLift (l : Fin 8) (s : State) : Out :=
  if s.txSynth l = 3 ∧ s.tx[l].relocked then
    .next (s.modTx l (fun x => { x with lockMute := false, relocked := false, attempts := 0, bandRep := false }))
  else .next s

/-! ## Optics sequences (R258) -/

/-- OPTICS_UP_STEP: a delay of the up sequence expires. -/
def execOpticsUpStep (l : Fin 8) (s : State) : Out :=
  let n := l.val + 1
  if s.seq l = 1 then
    let run := !(s.biasChans l).isEmpty
    .next (((s.biasStart l true).modTx l (fun x => { x with biasRun := run })).setReg Ob.OPTICS_SEQ_STATE n 2)
  else if s.seq l = 2 ∧ !s.tx[l].biasRun then
    .next ((s.modTx l (fun x => { x with output := true, seqMute := false })).setReg Ob.OPTICS_SEQ_STATE n 3)
  else if s.seq l = 3 then
    let s1 := ((s.modTx l (fun x => { x with laser := true })).setReg Ob.OPTICS_SEQ_STATE n 4).setReg Ob.TX_STATE n 4
    let s2 := if s1.tx[l].apc then s1.setReg Ob.OPTICS_APC_STATE n 2 else s1
    .next (s2.apcVote.laneSettle l)
  else .next s

/-- OPTICS_DOWN_STEP: a delay of the down sequence expires. At its end a held enable runs, and the port goes on. -/
def execOpticsDownStep (l : Fin 8) (s : State) : Out :=
  if s.seq l = 5 then .next (s.downOutput l)
  else if s.seq l = 6 then .next (s.downBias l)
  else if s.seq l = 7 ∧ !s.tx[l].biasRun then
    let s1 := s.downEnd l
    .next ((if s1.tx[l].held ∧ s1.txState l = 2 then s1.upStart l else s1).laneSettle l)
  else .next s

/-- BIAS_STEP_DONE: every mapped channel has reached its code under the slew limiter. -/
def execBiasStepDone (l : Fin 8) (s : State) : Out :=
  if s.tx[l].biasRun ∧ (s.biasChans l).all (fun k => s.nat Ob.HK_ADAC_OUT (k.val + 1) == s.hk.adac[k].target) then
    .next (s.modTx l (fun x => { x with biasRun := false }))
  else .next s

/-! ## Waveform and muting -/

/-- WAVE_RAMP_STEP: every moving entry and tap goes one unit towards its target (R251). -/
def execWaveRampStep (l : Fin 8) (s : State) : Out :=
  if s.flag Ob.TX_WAVE_RAMPING (l.val + 1) then
    let t := s.waveTarget l
    let w := List.zipWith stepTo s.tx[l].wave t
    .next ((s.modTx l (fun x => { x with wave := w })).setReg Ob.TX_WAVE_RAMPING (l.val + 1) (boolInt (w != t)))
  else .next s

/-- TX_MUTE_FORCE_WRITE (R262). -/
def execTxMuteForceWrite (r : Req) (sub v : Nat) (s : State) : Out :=
  .next (s.serve r .write Ob.TX_MUTE_FORCE sub (leBytes 1 v) (ownMuteForce sub (leNat (leBytes 1 v) : Nat)))

end Sys2Proof.Machine
end

