-- ==== Sys2Proof/Machine/Port.lean ====
section
/-! DEFINITION. The commands and events of breakout and of the port state machine (chapters 1 and 11). -/

namespace Sys2Proof.Machine

/-! ## Breakout (R28) -/

/-- Whether two breakout values may stand together (R24, R28). -/
def breakoutPair (e w : Nat) : Bool :=
  let span (v : Nat) := v == 4 || v == 7
  if span e || span w then e == w else true

/-- Whether a breakout value is of the 400G class (R24). -/
def class400 (v : Nat) : Bool := decide (1 ≤ v) && decide (v ≤ 4)

/-- Whether a port that would exist in a 400G-class half is set INTEROP (R28). -/
def State.interopClash (s : State) (e w : Nat) : Bool :=
  (fins 8).any (fun p =>
    let v := if p.val < 4 then e else w
    class400 v && ownerUnder v p.val == some p.val && s.reg Ob.PORT_RATE_SET (p.val + 1) == 1)

/-- Take a port to OFF for a breakout (R28, R312). -/
def State.breakoutOff (s : State) (p : Fin 8) : State :=
  ((s.cmdOff p).modPort p (fun x => { x with breakout := true })).portSettle p

/-- PORT.APPLY_BREAKOUT (R28). -/
def ownApplyBreakout (s : State) : Verdict :=
  let e := s.nat Ob.PORT_BREAKOUT_EAST 0
  let w := s.nat Ob.PORT_BREAKOUT_WEST 0
  let e0 := s.halfValue 0
  let w0 := s.halfValue 1
  if s.breakoutRun.isSome || s.analog.running.any (fun i => decide (i < 24)) then .deny St.BUSY
  else if !breakoutPair e w || s.interopClash e w then .deny St.CONFIG_CONFLICT
  else
    let span := [e, w, e0, w0].any (fun v => v == 4 || v == 7)
    let b : BreakoutRun := ⟨span || e != e0, span || w != w0, e, w⟩
    if !b.east && !b.west then .done s []
    else
      let mine := (fins 8).filter (fun p => s.exists p && (if p.val < 4 then b.east else b.west))
      .later (forEach mine (fun p s => s.breakoutOff p) { s with breakoutRun := some b })

/-- PORT_APPLY_BREAKOUT. -/
def execPortApplyBreakout (r : Req) (s : State) : Out := .next (s.serve r .exec Ob.PORT_APPLY_BREAKOUT 0 [0] ownApplyBreakout)

/-- BREAKOUT_DONE: with every port of the affected halves in OFF, lanes, shares and engines are reassigned and the command
completes (R24, R25, R28, R38). -/
def execBreakoutDone (s : State) : Out :=
  match s.breakoutRun with
  | none => .next s
  | some b =>
    let mine := (fins 8).filter (fun p => s.exists p && (if p.val < 4 then b.east else b.west))
    if !mine.all (fun p => s.pstate p == PS.OFF) then .next s
    else
      let s1 := { s with
        breakout := (s.breakout.set 0 (if b.east then b.newEast else s.breakout[0])).set 1 (if b.west then b.newWest else s.breakout[1])
        breakoutRun := none }
      let s2 := forEach (fins 8) (fun p s => s.modPort p (fun x => { x with breakout := false })) s1
      .next ((s2.portVotes.dsAdmit).finish Ob.PORT_APPLY_BREAKOUT 0 St.OK)

/-! ## PORT.CMD, PORT.MODE, PORT.RATE_SET -/

/-- PORT_CMD_OFF. -/
def execPortCmdOff (r : Req) (sub : Nat) (s : State) : Out := .next (s.serve r .exec Ob.PORT_CMD sub [0] (ownPortCmd sub 0))

/-- PORT_CMD_STANDBY. -/
def execPortCmdStandby (r : Req) (sub : Nat) (s : State) : Out := .next (s.serve r .exec Ob.PORT_CMD sub [1] (ownPortCmd sub 1))

/-- PORT_CMD_UP. -/
def execPortCmdUp (r : Req) (sub : Nat) (s : State) : Out := .next (s.serve r .exec Ob.PORT_CMD sub [2] (ownPortCmd sub 2))

/-- The lanes of a port want the structure that its mode and measures now select (R46, R126, R135); adaptation follows with its next
cycle (R75). -/
def State.laneMeasures (s : State) (p : Fin 8) : State := forEach (s.lanesOf p) (fun l s => s.structWant l) s

/-- PORT.MODE (R46): cap and deadline hold for codewords stamped from now on, the structure follows by a bank swap. -/
def ownPortMode (sub : Nat) (v : Int) (s : State) : Verdict :=
  if h : 1 ≤ sub ∧ sub ≤ 8 then .done ((s.setReg Ob.PORT_MODE sub v).laneMeasures ⟨sub - 1, by omega⟩) []
  else .deny St.NO_OBJECT

/-- PORT_MODE_WRITE. -/
def execPortModeWrite (r : Req) (sub v : Nat) (s : State) : Out :=
  .next (s.serve r .write Ob.PORT_MODE sub (leBytes 1 v) (ownPortMode sub (leNat (leBytes 1 v) : Nat)))

/-- PORT.RATE_SET (R30, R303, R312, R313). DEDUCED (log entry 88): a write of the active rate set starts a change only where it ends a TEST
sequence. -/
def ownRateSet (sub : Nat) (v : Int) (s : State) : Verdict :=
  if h : 1 ≤ sub ∧ sub ≤ 8 then
    let p : Fin 8 := ⟨sub - 1, by omega⟩
    if v = 1 ∧ class400 (s.halfValue (halfOf p)) then .deny St.CONFIG_CONFLICT
    else if s.flag Ob.PORT_RATE_CHANGING sub then .deny St.BUSY
    else
      let s1 := (s.setReg Ob.PORT_RATE_SET sub v).modPort p (fun x => { x with followed := false })
      if !s1.exists p || s1.pstate p == PS.OFF || s1.port[p].goal == .off ||
          (s1.rateConfigured p == s1.rateActive p && s1.pstate p != PS.TEST && !s1.port[p].goal.isTest) then .done s1 []
      else .done (s1.rateStart p (s1.rateConfigured p)) []
  else .deny St.NO_OBJECT

/-- PORT_RATE_SET_WRITE. -/
def execPortRateSetWrite (r : Req) (sub v : Nat) (s : State) : Out :=
  .next (s.serve r .write Ob.PORT_RATE_SET sub (leBytes 1 v) (ownRateSet sub (leNat (leBytes 1 v) : Nat)))

/-- RATE_CHANGE_COMPLETE: step 7 of R313, on a port in SEARCH. -/
def execRateChangeComplete (p : Fin 8) (s : State) : Out :=
  if s.pstate p = PS.SEARCH ∧ s.port[p].rateTo.isSome then
    .next (forEach (s.lanesOf p) (fun l s => s.tlStart l) (s.rateEnd p))
  else .next s

/-! ## The search (R301 to R305) -/

/-- Whether a port follows the far end to S1 (R303). -/
def State.follows (s : State) (p : Fin 8) : Bool :=
  s.class200 (halfOf p) && s.reg Ob.PORT_RATE_SET (p.val + 1) == 0 && s.flag Ob.PORT_RATE_FOLLOW (p.val + 1) &&
  s.native p && s.port[p].rateTo.isNone && s.port[p].goal == .none

/-- RATE_DETECT: the rate detector of a lane names a class, 0 for none (R301, R303). DEDUCED (log entry 194): the class that matches ends
a format mismatch, and no other status. -/
def execRateDetect (l : Fin 8) (cls : Fin 4) (s : State) : Out :=
  match s.portOf l with
  | none => .next s
  | some p =>
    if s.pstate p ≠ PS.SEARCH ∨ cls.val = 0 then .next s
    else
      let n := p.val + 1
      let s1 := (s.modSrch l (fun x => { x with cls := cls.val })).setReg Ob.PORT_FORMAT_FOUND n (cls.val : Int)
      if cls.val = s1.rateActive p then
        let st := s1.reg Ob.PORT_SEARCH_STATUS n
        .next (if st = 4 then
          (s1.setReg Ob.PORT_SEARCH_STATUS n 1).modPort p (fun x => { x with epFormat := false }) else s1)
      else if cls.val = Rate.S1 ∧ s1.follows p then
        .next ((s1.rateStart p Rate.S1).modPort p (fun x => { x with followed := true }))
      else .next (s1.formatMismatch p)

/-- Whether a lane sweeps: its native port searches, the class matches, the loop tracks (R301). DEDUCED (log entry 200): the lanes of loop-back
depth 4 find their codewords so, without the class. -/
def State.sweeps (s : State) (l : Fin 8) : Option (Fin 8) :=
  match s.portOf l with
  | some p =>
    if s.native p ∧ s.tl l = 2 ∧ ((s.pstate p = PS.SEARCH ∧ s.srch[l].cls = s.rateActive p) ∨ s.testKind p = 6) then some p else none
  | none => none

/-- The candidate after this one: both precoding interpretations under AUTO, else one (R129, R301). -/
def State.nextCandidate (s : State) (l : Fin 8) : Nat := (s.srch[l].cand + 1) % (if s.rx[l].precode = 0 then 4096 else 2048)

/-- The test of the candidate of a lane (R301): its last 8 codewords, where so many have come, each with at most 64 of the 256 checks
unsatisfied on hard decisions. -/
def State.candidate (s : State) (l : Fin 8) : Option Bool :=
  let x := s.rx[l].dsp
  let c := s.srch[l].cand % 2048
  let n := (x.staged - c) / 2048
  if n < 8 then none
  else some ((List.range 8).all (fun k =>
    decide (unsatisfied (hardBits (x.softFrom (s.precoded l) (c + 2048 * (n - 8 + k)) 2048)).toArray ≤ 64)))

/-- CODEWORD_LOCK: the candidate under test passes the syndrome test (R301). -/
def execCodewordLock (l : Fin 8) (codes : List Int) (s : State) : Out :=
  let s := s.rxSamples l codes
  match s.sweeps l with
  | some _ => .next (if s.candidate l = some true then s.modSrch l (fun x => { x with lock := true }) else s)
  | none => .next s

/-- CODEWORD_CANDIDATE_FAIL: the candidate under test fails it (R301). -/
def execCodewordCandidateFail (l : Fin 8) (codes : List Int) (s : State) : Out :=
  let s := s.rxSamples l codes
  match s.sweeps l with
  | some _ =>
    .next (if !s.srch[l].lock ∧ s.candidate l = some false then s.modSrch l (fun x => { x with cand := s.nextCandidate l }) else s)
  | none => .next s

/-- FALSE_LOCK_TIMEOUT: no valid marker came within 2 AP lengths of codeword lock (R301). -/
def execFalseLockTimeout (l : Fin 8) (s : State) : Out :=
  match s.sweeps l with
  | some p =>
    if s.pstate p = PS.SEARCH ∧ s.srch[l].lock ∧ s.outerLane[l].streak = 0 then
      .next ((s.modSrch l (fun x => { x with lock := false, cand := s.nextCandidate l })).modOuterLane l (fun _ => {}))
    else .next s
  | none => .next s

/-- SEARCH_STATUS_TIMEOUT: PORT.NO_PARTNER_MS have passed without light on any lane, or with light on some lane and without
alignment (R304). A status of a mismatch or of skew stays while there is light. An episode is a stay in SEARCH (log entry 94). -/
def execSearchStatusTimeout (p : Fin 8) (s : State) : Out :=
  if s.exists p ∧ s.pstate p = PS.SEARCH then
    let n := p.val + 1
    let lit := (s.lanesOf p).filter (fun l => !s.flag Ob.LINE_LOS_RAW (l.val + 1))
    let st := s.reg Ob.PORT_SEARCH_STATUS n
    if lit.isEmpty then
      (if st = 2 then .next s
       else
        let s1 := s.setReg Ob.PORT_SEARCH_STATUS n 2
        .next (if s.port[p].epDark then s1
          else (s1.modPort p (fun x => { x with epDark := true })).raise Src.PORT_NO_PARTNER p.val p.val Ob.PORT_EVENTS n))
    else if st = 1 ∨ st = 2 then
      let s1 := s.setReg Ob.PORT_SEARCH_STATUS n 3
      .next (if s.port[p].epAlign then s1
        else (s1.modPort p (fun x => { x with epAlign := true })).raise Src.PORT_NO_ALIGN p.val
          (p.val + 256 * (lit.map (fun l => 2 ^ l.val)).sum) Ob.PORT_EVENTS n)
    else .next s
  else .next s

/-! ## Carrying and losing the link -/

/-- Whether a lane of a port is in loss of signal, or forced into it by an injection of kind 6 (R307, R329). -/
def State.portDark (s : State) (p : Fin 8) : Bool :=
  (s.lanesOf p).any (fun l => s.flag Ob.LINE_LOS_RAW (l.val + 1) || decide (0 < s.injects p 6 (some l)))

/-- CARRY_DELAY_EXPIRY: an ALIGNED port enters CARRYING (R306, R315); a loss of signal without hold-off wins (R317). -/
def execCarryDelayExpiry (p : Fin 8) (s : State) : Out :=
  if s.exists p ∧ s.pstate p = PS.ALIGNED then
    if s.portDark p ∧ s.reg Ob.PORT_LOS_HOLDOFF_US (p.val + 1) = 0 then .next (s.linkLost p 1) else .next (s.enterCarrying p)
  else .next s

/-- NO_FRAME_TIMEOUT: no frame, or since entry to CARRYING no DATA frame, has passed both checks for PORT.NO_FRAME_MS (R307,
R308). R299 leaves an ALIGNED port where it is. -/
def execNoFrameTimeout (p : Fin 8) (s : State) : Out :=
  if s.exists p ∧ s.pstate p = PS.CARRYING ∧ s.native p then .next (s.drain p 2) else .next s

/-- LOS_HOLDOFF_EXPIRY: loss of signal has lasted longer than PORT.LOS_HOLDOFF_US (R307). -/
def execLosHoldoffExpiry (p : Fin 8) (s : State) : Out :=
  if s.exists p ∧ s.portDark p then .next (s.linkLost p 1) else .next s

/-- DRAIN_LAST_SLOTS_DONE: the 64 slots with LAST have been sent, and the down sequence starts (R309). -/
def execDrainLastSlotsDone (p : Fin 8) (s : State) : Out :=
  if s.pstate p = PS.DRAINING ∧ s.port[p].lastLeft = 0 ∧ (s.port[p].goal ≠ .none ∨ s.port[p].rateTo.isSome) then
    .next ((s.portDown p).portSettle p)
  else .next s

/-- DRAIN_COMPLETE: the hold is empty (R310). -/
def execDrainComplete (p : Fin 8) (s : State) : Out :=
  if (s.pstate p = PS.DRAINING ∨ s.port[p].rateHold) ∧ (s.link[p].held = [] ∨ !s.native p) then
    if s.port[p].goal = .none ∧ s.port[p].rateTo = none then .next (s.enterSearch p)
    else .next ((s.modPort p (fun x => { x with drained := true })).portSettle p)
  else .next s

/-- ADC_FG_CAL_DONE: a foreground calibration ends (R96); a port that waits for it goes on (R299). -/
def execAdcFgCalDone (l : Fin 8) (m : FgResult) (s : State) : Out :=
  .next (if s.adc[l].fgRun then (s.fgEnd l m).laneSettle l else s)

/-! ## S1 (R315, R316) -/

/-- S1_AM_RECEIVED: an alignment marker of the clause, whether it was in error, and what the clause's marker lock reports
after it (R315, R319). -/
def execS1AmReceived (l : Fin 8) (err lock : Bool) (s : State) : Out :=
  match s.portOf l with
  | none => .next s
  | some p =>
    let st := s.pstate p
    if s.rateActive p ≠ Rate.S1 ∨ st < PS.SEARCH ∨ PS.DRAINING < st ∨ s.srch[l].cls ≠ Rate.S1 then .next s
    else
      let n := l.val + 1
      let s1 := if err then s.bump Ob.S1_AM_ERR n 1 else s
      let was := s1.reg Ob.S1_ALIGN_STATE n
      if lock then
        let s2 := s1.setReg Ob.S1_ALIGN_STATE n 1
        if st = PS.SEARCH ∧ (s2.lanesOf p).all (fun k => s2.reg Ob.S1_ALIGN_STATE (k.val + 1) == 1) then .next (s2.setPort p PS.ALIGNED)
        else .next s2
      else if was = 1 then .next ((s1.setReg Ob.S1_ALIGN_STATE n 2).linkLost p 3)
      else .next s1

/-- S1_CODEWORD_DECODED: an inner-FEC codeword of `received` bits, those corrected in it, whether it ended with a non-zero
syndrome, and whether it carries the unsettled mark (R139, R316); `data` goes to the host in CARRYING (R288), and `errs` of its symbols
were hit by TEST.INJ_SYM_PROB (R330). DEDUCED (log entry 216): a BURST takes half as many symbols as bits. -/
def execS1CodewordDecoded (l : Fin 8) (received corrected : Nat) (uncorrectable marked : Bool) (data : List Bool) (errs : Nat)
    (s : State) : Out :=
  match s.portOf l with
  | none => .next s
  | some p =>
    if s.rateActive p ≠ Rate.S1 ∨ (s.tl l = 0 ∧ s.testKind p ≠ 5) then .next s
    else
      let n := l.val + 1
      let s := s.injUse p (min (received / 2) (s.injects p 1 (some l)))
      let s := if 0 < s.nat Ob.TEST_INJ_SYM_PROB (p.val + 1) ∧ bitOf (s.nat Ob.TEST_INJ_LANES (p.val + 1)) l.val then
          s.bump64 Ob.TEST_INJ_SYM_ERRORS (p.val + 1) errs else s
      let s := if s.pstate p = PS.CARRYING ∨ s.pstate p = PS.DRAINING then
          s.modHostLane ⟨2 * l.val, by omega⟩ (fun x => { x with line := x.line ++ data }) else s
      let s1 := (s.bump64 Ob.S1_CW n 1).bump64 Ob.S1_BITS_CORRECTED n corrected
      let s2 := if corrected = 0 then s1 else s1.bump64 Ob.S1_CW_CORRECTED n 1
      let s3 := if uncorrectable then s2.bump64 Ob.S1_CW_UNCORRECTABLE n 1 else s2
      if (marked || s.marked l) && !s.flag Ob.LINE_STATS_INCL_UNSETTLED n then .next s3
      else .next (s3.modSrch l (fun x => { x with s1Now := (x.s1Now.1 + corrected, x.s1Now.2 + received) }))

end Sys2Proof.Machine
end

