-- ==== Sys2Proof/Machine/Test.lean ====
section
/-! DEFINITION. TEST sequences, checkers, the far loop, injections and the capture buffer (chapter 12). -/

namespace Sys2Proof.Machine

/-! ## Sequences -/

/-- TEST_LINE_PRBS. -/
def execTestLinePrbs (r : Req) (sub : Nat) (s : State) : Out := .next (s.serve r .exec Ob.PORT_TEST_START sub [1] (ownTestStart sub 1))
/-- TEST_HOST_PRBS. -/
def execTestHostPrbs (r : Req) (sub : Nat) (s : State) : Out := .next (s.serve r .exec Ob.PORT_TEST_START sub [2] (ownTestStart sub 2))
/-- TEST_LOOP_HOST_ANALOG. -/
def execTestLoopHostAnalog (r : Req) (sub : Nat) (s : State) : Out :=
  .next (s.serve r .exec Ob.PORT_TEST_START sub [3] (ownTestStart sub 3))
/-- TEST_LOOP_HOST_DIGITAL. -/
def execTestLoopHostDigital (r : Req) (sub : Nat) (s : State) : Out :=
  .next (s.serve r .exec Ob.PORT_TEST_START sub [4] (ownTestStart sub 4))
/-- TEST_LOOP_LINE_LOCAL. -/
def execTestLoopLineLocal (r : Req) (sub : Nat) (s : State) : Out :=
  .next (s.serve r .exec Ob.PORT_TEST_START sub [5] (ownTestStart sub 5))
/-- TEST_LOOP_LINE_TIC. -/
def execTestLoopLineTic (r : Req) (sub : Nat) (s : State) : Out :=
  .next (s.serve r .exec Ob.PORT_TEST_START sub [6] (ownTestStart sub 6))

/-- TEST_DURATION_EXPIRY: the sequence ends DONE and the port goes to PORT.RETURN_STATE (R311). -/
def execTestDurationExpiry (p : Fin 8) (s : State) : Out :=
  if s.exists p ∧ s.pstate p = PS.TEST ∧ s.test[p].kind ≠ 0 then
    .next (((s.testOver p 2).testLeave p (goalOf s.test[p].ret)).portSettle p)
  else .next s

/-- The precoding interpretations that a line checker tries (R322): those that LINE.RX_PRECODE allows. -/
def State.interpretations (s : State) (l : Fin 8) : List Bool :=
  if s.rx[l].precode = 0 then [false, true] else [s.rx[l].precode == 2]

/-- CHECKER_LOCK: what a searching checker has seen gives lock (R323); a line checker under AUTO says which precoding
interpretation it took (R322). `codes` are the raw codes, or the host CDR's decisions, since the last command. -/
def execCheckerLock (c : Checker) (codes : List Int) (s : State) : Out :=
  match c with
  | .line l =>
    let s := s.rxSamples l codes
    let n := l.val + 1
    if s.reg Ob.TEST_LINE_CHK_STATE n ≠ 1 then .next s
    else match lockOn (s.patternOf c) (s.interpretations l) s.rx[l].chk.seen with
      | none => .next s
      | some (pre, g) =>
        let s1 := (s.modRx l (fun x => { x with chk := { precoded := pre, gen := g, prev := x.chk.seen.headD 0 } })).setReg
          Ob.TEST_LINE_CHK_STATE n 2
        .next (if s.rx[l].precode = 0 then s1.setReg Ob.LINE_RX_PRECODE_FOUND n (if pre then 2 else 1) else s1)
  | .host h =>
    let s := s.hostDecide h (codes.map Int.toNat)
    let n := h.val + 1
    if s.reg Ob.TEST_HOST_CHK_STATE n ≠ 1 then .next s
    else match lockOn (s.patternOf c) [false] s.hostLane[h].chk.seen with
      | none => .next s
      | some (_, g) => .next ((s.modHostLane h (fun x => { x with chk := { gen := g } })).setReg Ob.TEST_HOST_CHK_STATE n 2)

/-- Whether a locked checker has lost lock: 128 or more of its last 256 symbols were in error (R323). -/
def PatChk.lost (c : PatChk) : Bool := c.errs.length == 256 && decide (128 ≤ (c.errs.filter id).length)

/-- CHECKER_LOCK_LOSS (R323): a checker that has lost lock counts it, and searches again. -/
def execCheckerLockLoss (c : Checker) (codes : List Int) (s : State) : Out :=
  match c with
  | .line l =>
    let s := s.rxSamples l codes
    let n := l.val + 1
    if s.reg Ob.TEST_LINE_CHK_STATE n = 2 ∧ s.rx[l].chk.lost then
      .next ((((s.modRx l (fun x => { x with chk := {} })).setReg Ob.TEST_LINE_CHK_STATE n 1).bump Ob.TEST_LINE_LOCK_LOSS n 1).raise
        Src.TEST_PRBS_LOCK_LOSS l.val l.val Ob.TEST_EVENTS n)
    else .next s
  | .host h =>
    let s := s.hostDecide h (codes.map Int.toNat)
    let n := h.val + 1
    if s.reg Ob.TEST_HOST_CHK_STATE n = 2 ∧ s.hostLane[h].chk.lost then
      .next ((((s.modHostLane h (fun x => { x with chk := {} })).setReg Ob.TEST_HOST_CHK_STATE n 1).bump Ob.TEST_HOST_LOCK_LOSS n 1).raise
        Src.TEST_PRBS_LOCK_LOSS (16 + h.val) (h.val + 256) Ob.TEST_EVENTS (h.val / 2 + 1))
    else .next s

/-! ## The far loop (R328) -/

/-- A write of TEST.FAR_LOOP: the loop follows at the next packet start. -/
def ownFarLoop (path : Path) (sub : Nat) (v : Int) (s : State) : Verdict :=
  if h : 1 ≤ sub ∧ sub ≤ 8 then
    let p : Fin 8 := ⟨sub - 1, by omega⟩
    if !path.isLocal && !s.flag Ob.TEST_FAR_LOOP_GRANT sub then .deny St.ACCESS_REFUSED
    else if v = 1 ∧ !(s.exists p ∧ s.pstate p = PS.CARRYING ∧ s.native p) then .deny St.CONFIG_CONFLICT
    else .done (s.setReg Ob.TEST_FAR_LOOP sub v) []
  else .deny St.NO_OBJECT

/-- TEST_FAR_LOOP_WRITE. -/
def execTestFarLoopWrite (r : Req) (sub v : Nat) (s : State) : Out :=
  .next (s.serve r .write Ob.TEST_FAR_LOOP sub (leBytes 1 v) (ownFarLoop r.path sub (leNat (leBytes 1 v) : Nat)))

/-! ## Injections (R329) -/

/-- The largest count of an injection kind. -/
def injMax (k : Nat) : Nat := match k with | 1 | 2 => 65536 | 3 | 4 | 5 => 4096 | _ => 10000000

/-- Whether a port's state and rate set admit an injection kind. -/
def State.injAdmits (s : State) (p : Fin 8) (k : Nat) : Bool :=
  let st := s.pstate p
  let t := s.testKind p
  match k with
  | 1 => (s.lanesOf p).any (fun l => s.tl l != 0) || t == 5 || t == 6
  | 2 => s.native p && (st == PS.ALIGNED || st == PS.CARRYING || st == PS.DRAINING || t == 5 || t == 6)
  | 3 | 4 | 5 => s.native p && (st == PS.CARRYING || t == 5)
  | _ => st == PS.ALIGNED || st == PS.CARRYING

/-- TEST.INJ_FIRE (R329, R336). -/
def ownInjFire (sub : Nat) (s : State) : Verdict :=
  if h : 1 ≤ sub ∧ sub ≤ 8 then
    let p : Fin 8 := ⟨sub - 1, by omega⟩
    let k := s.nat Ob.TEST_INJ_KIND sub
    let n := s.nat Ob.TEST_INJ_COUNT sub
    if injMax k < n then .deny St.RANGE
    else if s.flag Ob.TEST_INJ_ACTIVE sub then .deny St.BUSY
    else if !s.exists p || !s.injAdmits p k then .deny St.CONFIG_CONFLICT
    else
      let s1 := s.modTest p (fun t => { t with
        injKind := k, injLeft := n, injLanes := s.nat Ob.TEST_INJ_LANES sub, injBits := s.nat Ob.TEST_INJ_CW_BITS sub
        injAt := s.time.now })
      let s2 := ((s1.setReg Ob.TEST_INJ_ACTIVE sub 1).setReg Ob.TEST_INJ_APPLIED sub 0).setReg Ob.TEST_INJ_SYM_ERRORS sub 0
      -- a burst starts at the next block boundary of each lane
      let s2 := forEach (s2.lanesOf p) (fun l s => s.modTic l (fun t => { t with burstAt := 256 * s.rx[l].dsp.nextBlock })) s2
      .done (s2.raise Src.TEST_INJECT p.val (p.val + 256 * k + 65536 * min 65535 n) Ob.TEST_EVENTS sub) []
  else .deny St.NO_OBJECT

/-- INJ_FIRE. -/
def execInjFire (r : Req) (sub : Nat) (s : State) : Out := .next (s.serve r .exec Ob.TEST_INJ_FIRE sub [0] (ownInjFire sub))

/-- FORCED_LOS_END: the duration of a FORCED_LOS has passed (R329). -/
def execForcedLosEnd (p : Fin 8) (s : State) : Out :=
  if s.test[p].injKind = 6 then .next (s.injUse p s.test[p].injLeft) else .next s

/-! ## Capture (R331, R332) -/

/-- Whether a capture records. -/
def State.capBusy (s : State) : Bool := s.reg Ob.TEST_CAP_STATE 0 == 1 || s.reg Ob.TEST_CAP_STATE 0 == 2

/-- Writes of the capture's settings (R336). -/
def ownCapSetting (ix : Nat) (v : Int) (s : State) : Verdict := if s.capBusy then .deny St.CONFIG_CONFLICT else storeVal ix 0 v s

/-- TEST.CAP_ARM: the ring records; while ARMED or TRIGGERED it restarts. -/
def ownCapArm (s : State) : Verdict := .done { s.setReg Ob.TEST_CAP_STATE 0 1 with cap := {} } []

/-- CAP_ARM. -/
def execCapArm (r : Req) (s : State) : Out := .next (s.serve r .exec Ob.TEST_CAP_ARM 0 [0] ownCapArm)

/-- TEST.CAP_TRIGGER: the trigger of an armed capture whose trigger is COMMAND. -/
def ownCapTrigger (s : State) : Verdict :=
  if s.reg Ob.TEST_CAP_STATE 0 = 1 ∧ s.reg Ob.TEST_CAP_TRIG 0 = 0 then .done s.capTrigger [] else .deny St.CONFIG_CONFLICT

/-- CAP_TRIGGER. -/
def execCapTrigger (r : Req) (s : State) : Out := .next (s.serve r .exec Ob.TEST_CAP_TRIGGER 0 [0] ownCapTrigger)

/-- CAP_TIME_TRIGGER: the counter has passed TEST.CAP_TRIG_TIME. -/
def execCapTimeTrigger (s : State) : Out :=
  if s.reg Ob.TEST_CAP_STATE 0 = 1 ∧ s.reg Ob.TEST_CAP_TRIG 0 = 1 ∧ s.nat Ob.TEST_CAP_TRIG_TIME 0 ≤ s.stamp then .next s.capTrigger else .next s

/-- Entries of a source packed little-endian from byte 0 (R331). -/
def capPack (source : Int) (es : List Nat) : List Byte :=
  if source = 1 then (es.map (leBytes 2)).flatten
  else if source = 3 then (List.range (ceilDiv es.length 4)).map (fun i =>
    BitVec.ofNat 8 (((es.drop (4 * i)).take 4).foldr (fun d a => d % 4 + 4 * a) 0))
  else es.map (BitVec.ofNat 8)

/-- CAP_DONE: recording ends with the post-trigger share (R332): the ring's entries from its oldest on, and that one's stamp. -/
def execCapDone (s : State) : Out :=
  if s.reg Ob.TEST_CAP_STATE 0 = 2 ∧ s.cap.left = some 0 then
    let l := s.nat Ob.TEST_CAP_LANE 0
    let es := s.cap.ring.reverse
    let data := capPack (s.reg Ob.TEST_CAP_SOURCE 0) (es.map (·.1))
    let old := s.blob Ob.TEST_CAP_DATA 0
    let s1 := (({ s with capLost := none, cap := {} }).setBlob Ob.TEST_CAP_DATA 0 ((data ++ old.drop data.length).take 2097152)).setReg
      Ob.TEST_CAP_STATE 0 3
    let s2 := (s1.setReg Ob.TEST_CAP_START_TIME 0 ((es.head?.map (·.2)).getD 0 : Nat)).setReg Ob.TEST_CAP_ENTRIES 0 (es.length : Nat)
    .next (s2.raise Src.TEST_CAPTURE l (l + 4096 * s.nat Ob.TEST_CAP_TRIG 0) Ob.TEST_EVENTS (l + 1))
  else .next s

/-! ## Other writes of chapter 12 -/

/-- The writes of chapter 12's numeric objects that no row of its own names (R323, R329, R336). -/
def ownTestWrite (ix sub : Nat) (v : Int) (s : State) : Verdict :=
  if Ob.TEST_CAP_SOURCE ≤ ix ∧ ix ≤ Ob.TEST_CAP_PRE_PCT then ownCapSetting ix v s else storeVal ix sub v s

end Sys2Proof.Machine
end

