-- ==== Sys2Proof/Machine/Analog.lean ====
section
/-! DEFINITION. The analogue self-checks as they run (R482 to R485): their waves, their votes and how they abort. -/

namespace Sys2Proof.Machine

/-- The line lane, and the host lane, that an item names. -/
def itemLane (i : Nat) : Option (Fin 8) := if h : i < 8 then some ⟨i, h⟩ else none
def itemHost (i : Nat) : Option (Fin 16) := if h : 8 ≤ i ∧ i < 24 then some ⟨i - 8, by omega⟩ else none

/-- The half that an item's wave belongs to (R484): 0 East, 1 West, 2 the housekeeping items. -/
def itemHalf (i : Nat) : Nat := if i < 8 then i / 4 else if i < 24 then (i - 8) / 8 else 2

/-- The domains a check needs (R482). -/
def itemNeeds (i : Nat) (d : Fin 36) : Bool :=
  match itemLane i, itemHost i with
  | some l, _ => d == Dom.lrx l || d == Dom.synth (halfOf l) || d == Dom.ltx l || d == Dom.eng l
  | none, some h => d == Dom.hq h
  | none, none => d == Dom.HK

/-- Bring the TEST client's votes in line with the running checks (R434, R482). -/
def State.analogVotes (s : State) : State :=
  forEach (fins 36) (fun d s =>
    let want := s.analog.running.any (fun i => itemNeeds i d)
    if want = bitOf (s.votes d) Vote.TEST then s
    else if want then s.castVote d Vote.TEST else s.withdraw d Vote.TEST) s

/-- An item gets a result, with its stamp (R485, R496). -/
def State.analogSet (s : State) (i : Nat) (res : Int) : State :=
  (s.setReg Ob.SELFTEST_ANALOG_RESULT (i + 1) res).setStamp Ob.SELFTEST_ANALOG_TIME (i + 1)

/-- Whether a port, or a lane's owner, leaves an item free to be checked (R482): the port OFF or the lane unused. -/
def State.itemFree (s : State) (i : Nat) : Bool :=
  let port : Option (Fin 8) := match itemLane i, itemHost i with
    | some l, _ => s.portOf l
    | none, some h => s.portOfHost h
    | none, none => none
  if 24 ≤ i then s.flag Ob.HK_REF_READY 0
  else match port with
    | some p => s.pstate p == PS.OFF && s.port[p].goal == .none
    | none => true

/-- Change the run's record. -/
def State.modAnalog (s : State) (f : AnalogRun → AnalogRun) : State := { s with analog := f s.analog }

/-- The calibrations of a line lane's check start where its domains are ON (R483). -/
def State.analogCal (s : State) (l : Fin 8) : State :=
  let go := s.on (Dom.lrx l) && !s.adc[l].fgRun && !s.adc[l].fgWait
  let s1 := if go then s.fgStart l false else s
  if s1.on (Dom.ltx l) then s1.txCalibrate l false else s1

/-- Start a check: its domains are voted on; a line lane's calibrations start where its domains are ON, and as they are
released where not (R483). -/
def State.analogStart (s : State) (i : Nat) : State :=
  let s1 := (s.modAnalog (fun a => { a with running := a.running ++ [i] })).setReg Ob.SELFTEST_ANALOG_RESULT (i + 1) 1
  match itemLane i with
  | some l => s1.analogVotes.analogCal l
  | none => s1.analogVotes

/-- Begin the next wave of a half, or the next housekeeping item, when none of it runs: up to two lanes of one kind, in
ascending order; an item that is not free reads SKIPPED (R482, R484). -/
def State.analogWave (s : State) (half : Nat) : State :=
  if s.analog.running.any (fun i => itemHalf i == half) then s
  else
    let mine := s.analog.waiting.filter (fun i => itemHalf i == half)
    let room := if half = 2 then 1 else 2
    let (picked, passed) := mine.foldl (fun (acc : List Nat × List Nat) i =>
      let sameKind := match acc.1 with | j :: _ => decide (j < 8) == decide (i < 8) | [] => true
      let open_ := decide (acc.1.length < room) && sameKind
      if !open_ then acc
      else if s.itemFree i then (acc.1 ++ [i], acc.2) else (acc.1, acc.2 ++ [i])) ([], [])
    let gone := picked ++ passed
    let s1 := s.modAnalog (fun a => { a with waiting := a.waiting.filter (fun i => !gone.contains i) })
    forEach picked (fun i s => s.analogStart i) (forEach passed (fun i s => s.analogSet i 4) s1)

/-- Begin what can begin, withdraw the votes of checks that ended, and answer when every named item has a result (R482). -/
def State.analogNext (s : State) : State :=
  let s1 := (((s.analogWave 0).analogWave 1).analogWave 2).analogVotes
  if s1.analog.running = [] ∧ s1.analog.waiting = [] then s1.finish Ob.SELFTEST_ANALOG_RUN 0 St.OK else s1

/-- Running checks that a test hits end ABORTED, and items not yet started with them (R485). -/
def State.analogAbort (s : State) (hit : Nat → Bool) : State :=
  if s.analog.running.any hit then
    let gone := s.analog.running.filter hit ++ s.analog.waiting
    let s1 := s.modAnalog (fun a => { waiting := [], running := a.running.filter (fun i => !hit i) })
    (forEach gone (fun i s => s.analogSet i 5) s1).analogNext
  else s

end Sys2Proof.Machine
end

