-- ==== Sys2Proof/Machine/Eng.lean ====
section
/-! DEFINITION. The tuning engines: ends and misses of tasks, halts and restarts, counters (chapter 15). -/

namespace Sys2Proof.Machine

/-! ## Assignments (R393) -/

/-- The class of an engine: 0 LINE, 1 HOST, 2 LINK, 3 SERVICE. -/
def engClass (e : Fin 128) : Nat :=
  let k := e.val % 16
  if k < 8 then 0 else if k < 12 then 1 else if k < 14 then 2 else 3

/-- The ENG domain of an engine. -/
def engDom (e : Fin 128) : Fin 8 := ⟨e.val / 16, by omega⟩

/-- The host lane that a HOST engine serves. -/
def engHost (e : Fin 128) : Fin 16 := ⟨2 * (e.val / 16) + e.val % 16 / 2 % 2, by omega⟩

/-- ENG.ASSIGNMENT: lane, host lane, port or service task, 0xFF for an idle engine (R393, R408). -/
def State.engAssignment (s : State) (e : Fin 128) : Nat :=
  let n := engDom e
  match engClass e with
  | 0 => if (s.portOf n).isSome then n.val else 255
  | 1 => if (s.portOfHost (engHost e)).isSome then (engHost e).val else 255
  | 2 => if s.exists n then n.val else 255
  | _ => ((fins 4).find? (fun t => s.service[t] == some e)).elim 255 (fun t => t.val)

/-! ## Counters (R402 to R405) -/

/-- Whether an engine's counters are frozen (R404). -/
def State.engFrozen (s : State) (e : Fin 128) : Bool := bitOf (s.nat Ob.ENG_PMU_FREEZE 0) (engDom e).val

/-- A U64 of a little-endian byte string, and a byte string with one replaced. -/
def u64At (b : List Byte) (i : Nat) : Nat := leNat ((b.drop (8 * i)).take 8)
def setU64 (b : List Byte) (i v : Nat) : List Byte := b.take (8 * i) ++ leBytes 8 v ++ b.drop (8 * i + 8)

/-- A programmable counter has passed 2^48 − 1 (R405): its status bit is set, and where it may interrupt the sample is
written and ENG_PMU_OVERFLOW raised. -/
def State.pmuWrap (s : State) (e : Fin 128) (j task offset : Nat) : State :=
  let n := e.val + 1
  let s1 := s.setReg Ob.ENG_PMU_OVF_STATUS n (withBit (s.nat Ob.ENG_PMU_OVF_STATUS n) j true : Nat)
  if bitOf (s.nat Ob.ENG_PMU_OVF_EN n) j then
    let word : Nat := 2 ^ 28 * (task % 16) + 2 ^ 27 * (s.eng[e].unread.toNat) + 2 ^ 24 * j + offset % 8192
    ((s1.setReg Ob.ENG_PMU_SAMPLE n (word : Nat)).modEng e (fun x => { x with unread := true })).raise Src.ENG_PMU_OVERFLOW e.val
      (e.val + 256 * j) Ob.ENG_EVENTS n
  else s1

/-- Count events on the programmable counters (R403, R405): each takes its event's number where its task filter agrees.
Counters that wrap in one task give one interrupt, which names the lowest. -/
def State.pmuCount (s : State) (e : Fin 128) (task offset : Nat) (events : Nat → Nat) : State :=
  let n := e.val + 1
  let sel := s.blob Ob.ENG_PMU_SEL n
  let cnt := s.blob Ob.ENG_PMU_COUNT n
  let add (j : Nat) : Nat :=
    let f := (sel.getD (2 * j + 1) 0).toNat
    if f = 255 ∨ f = task then events (sel.getD (2 * j) 0).toNat else 0
  let total (j : Nat) : Nat := u64At cnt j + add j
  let s1 := s.setBlob Ob.ENG_PMU_COUNT n (((List.range 6).map (fun j => leBytes 8 (total j % 2 ^ 48))).flatten)
  let wrapped := (List.range 6).filter (fun j => decide (2 ^ 48 ≤ total j))
  let first := (wrapped.filter (bitOf (s.nat Ob.ENG_PMU_OVF_EN n))).head?
  forEach wrapped (fun j s =>
    if some j = first ∨ !bitOf (s.nat Ob.ENG_PMU_OVF_EN n) j then s.pmuWrap e j task offset
    else s.setReg Ob.ENG_PMU_OVF_STATUS n (withBit (s.nat Ob.ENG_PMU_OVF_STATUS n) j true : Nat)) s1

/-- The number of an event code in a piece of work (R403). -/
def engEvent (w : EngWork) (missed : Bool) (code : Nat) : Nat :=
  let slots := 2 * w.steps
  let r := min slots w.retired
  let wa := min (slots - r) w.wasted
  let b := min (slots - r - wa) w.back
  match code with
  | 1 => w.steps
  | 2 => r
  | 3 => wa
  | 4 => slots - r - wa - b
  | 5 => b
  | 6 => min w.squashed wa
  | 7 => wa - min w.squashed wa
  | 8 => min w.noInstr (slots - r - wa - b)
  | 9 => slots - r - wa - b - min w.noInstr (slots - r - wa - b)
  | 10 => min w.blocked b
  | 11 => b - min w.blocked b
  | 12 => w.cycles
  | 13 => w.held
  | 14 => 1
  | 15 => missed.toNat
  | 16 => w.corrected
  | 17 => w.mails
  | _ => 0

/-- Count what an engine did in a task (R402): the four slot counts sum to twice the steps. -/
def State.engCount (s : State) (e : Fin 128) (task : Nat) (missed : Bool) (w : EngWork) : State :=
  let n := e.val + 1
  if s.engFrozen e then s
  else
    let slots := s.blob Ob.ENG_SLOTS n
    let add (i code : Nat) : List Byte := leBytes 8 (min (2 ^ 64 - 1) (u64At slots i + engEvent w missed code))
    let s1 := (s.bump64 Ob.ENG_STEPS n w.steps).bump64 Ob.ENG_CYCLES n w.cycles
    let s2 := (s1.setBlob Ob.ENG_SLOTS n (add 0 2 ++ add 1 3 ++ add 2 5 ++ add 3 4)).modEng e (fun x => { x with
      tickCycles := x.tickCycles + w.cycles })
    s2.pmuCount e task w.offset (engEvent w missed)

/-! ## Ends and misses of tasks (R394) -/

/-- ENG_TASK_DONE: a task ends, with what the engine did in it; a PRESET task that ran again applies its lane's preset (R274, R394). -/
def execEngTaskDone (e : Fin 128) (task : Nat) (w : EngWork) (s : State) : Out :=
  if s.engWorks e then
    let rerun := s.eng[e].jobs.any (fun j => j.task == task) && !s.eng[e].undo.any (fun u => u.1 == task)
    let s1 := (s.engCount e task false w).jobDone e task
    .next (if engClass e = 1 ∧ task = 0 ∧ rerun then s1.presetSet (engHost e) else s1)
  else .next s

/-- Put back what a result replaced (R394). A converter's commit falls due again; the samples and the estimates since go on. -/
def State.putBack (s : State) (u : Undo) : State :=
  match u with
  | .num ix sub v => s.setReg ix sub v
  | .bytes ix sub b => s.setBlob ix sub b
  | .adc l a => s.modAdcLane l (fun b => { b with
      fineT := a.fineT, gainT := a.gainT, skewT := a.skewT, clampFine := a.clampFine, clampGain := a.clampGain, clampSkew := a.clampSkew
      bgN := a.bgN + b.bgN, gsN := a.gsN + b.gsN, wins := a.wins + b.wins, darkWins := a.darkWins + b.darkWins
      due := a.due, postwake := a.postwake, recalAt := a.recalAt, recalLeft := a.recalLeft })
  | .offset l v => s.modTx l (fun x => { x with offset := v })
  | .rtts p r => s.modLink p (fun x => { x with rtts := r })
  | .level p => s.modLink p (fun x => { x with change := none })

/-- What a missed task leaves (R394): an ADAPT update's part is lost, a REBUILD or PRESET reruns, no rollback is considered; else what its
results replaced is put back, and an announcement starts again with the next frame. -/
def State.missOutcome (s : State) (e : Fin 128) (task : Nat) (halted : Bool) : State :=
  let l := engDom e
  match engClass e, task with
  | 0, 0 => s.modRx l (fun x => { x with lostParts := e.val % 16 :: x.lostParts })
  | 0, 1 => if halted then s else s.trigger e 1 (cycleRefclk (s.laneRate l))
  | 0, 2 => s.modDsp l (fun x => { x with roll := none })
  | 1, 0 => if halted then s else s.trigger e 0 1563
  | 2, 1 => if halted then s else s.trigger e 1 1563
  | _, _ => s

/-- One missed task: it is abandoned and counted. -/
def State.taskMissed (s : State) (e : Fin 128) (task : Nat) (halted : Bool) : State :=
  let s := forEach (s.eng[e].undo.filter (fun u => u.1 == task)) (fun u s => s.putBack u.2) s
  (((s.jobDone e task).modEng e (fun x => { x with tickMisses := x.tickMisses + 1 })).bump Ob.ENG_TASK_MISSES (e.val + 1) 1).missOutcome
    e task halted

/-- ENG_TASK_MISS: a triggered task reaches its deadline. -/
def execEngTaskMiss (e : Fin 128) (task : Nat) (w : EngWork) (s : State) : Out :=
  if s.engWorks e ∧ s.eng[e].jobs.any (fun j => j.task == task) then
    let s1 := (s.engCount e task true w).taskMissed e task false
    .next (s1.raise Src.ENG_DEADLINE e.val (e.val + 256 * (task % 16) + 65536 * min 65535 s1.eng[e].tickMisses) Ob.ENG_EVENTS (e.val + 1))
  else .next s

/-! ## Halts (R399, R400) -/

/-- Halt an engine: running and waiting tasks count as missed. -/
def State.engHaltNow (s : State) (e : Fin 128) : State :=
  let s1 := forEach s.eng[e].jobs (fun j s => s.taskMissed e j.task true) s
  s1.setReg Ob.ENG_STATE (e.val + 1) 3

/-- The service engines in the order in which a lost task looks for one (R400). -/
def serviceOrder (home : Nat) : List (Fin 128) :=
  let pair : List (Fin 128) := match home with | 0 => [15] | 1 => [14] | 2 => [79] | _ => [78]
  pair ++ [78, 79, 14, 15, 30, 31, 46, 47, 62, 63, 94, 95, 110, 111, 126, 127]

/-- A service task finds a working engine in an ON domain, or none (R400). -/
def State.serviceMove (s : State) (t : Fin 4) : State :=
  let e := (serviceOrder t.val).find? (fun e => s.engWorks e && s.on (Dom.eng (engDom e)))
  { s with service := s.service.set t e }

/-- The ENG vote on an ENG domain stands while it carries a service task moved there (R434). -/
def State.serviceVotes (s : State) : State :=
  forEach (fins 8) (fun n s =>
    let want := (fins 4).any (fun t =>
      match s.service[t] with
      | some e => engDom e == n && e.val != [14, 15, 78, 79].getD t.val 0
      | none => false)
    if want = bitOf (s.votes (Dom.eng n)) Vote.ENG then s
    else if want then s.castVote (Dom.eng n) Vote.ENG else s.withdraw (Dom.eng n) Vote.ENG) s

/-- The engines of an engine's assignment. -/
def engPeers (e : Fin 128) : List (Fin 128) :=
  match engClass e with
  | 0 => lineEngines (engDom e)
  | 1 => hostEngines (engHost e)
  | 2 => linkEngines (engDom e)
  | _ => []

/-- Raise ENG_WORK_LOST for a class and an assignment. -/
def State.workLost (s : State) (e : Fin 128) (cls who : Nat) : State :=
  s.raise Src.ENG_WORK_LOST e.val (cls + 256 * (who % 16)) Ob.ENG_EVENTS (e.val + 1)

/-- An engine has halted for good: its work passes on, or is lost (R395, R400). -/
def State.engGone (s : State) (e : Fin 128) : State :=
  if engClass e = 3 then
    (forEach ((fins 4).filter (fun t => s.service[t] == some e)) (fun t s => (s.workLost e 3 t.val).serviceMove t) s).serviceVotes
  else if (engPeers e).all (fun k => s.eng[k].stuck) then
    s.workLost e (engClass e) (match engClass e with | 1 => (engHost e).val | _ => (engDom e).val)
  else s

/-- A service task's own engine works again and takes it back. -/
def State.serviceHome (s : State) (e : Fin 128) : State :=
  let home : Option (Fin 4) := match e.val with | 14 => some 0 | 15 => some 1 | 78 => some 2 | 79 => some 3 | _ => none
  match home with
  | some t => ({ s with service := s.service.set t (some e) }).serviceVotes
  | none => (forEach ((fins 4).filter (fun t => s.service[t] == none)) (fun t s => s.serviceMove t) s).serviceVotes

/-- A working engine halts under R399, at a code word; the third halt within 10 s is for good. -/
def State.engAccess (s : State) (e : Fin 128) (memory : Bool) (offset : Nat) : State :=
  if s.engWorks e then
    let n := e.val + 1
    let halts := s.time.now :: s.eng[e].halts.filter (fun t => decide (s.time.now < t + 10 * refclkHz))
    let s1 := ((s.engHaltNow e).modEng e (fun x => { x with halts := halts })).raise Src.ENG_ACCESS e.val
      (e.val + 256 * memory.toNat + 65536 * (offset % 8192)) Ob.ENG_EVENTS n
    if 3 ≤ halts.length then
      ((s1.modEng e (fun x => { x with stuck := true })).raise Src.ENG_HALTED e.val (e.val + 256 * engClass e) Ob.ENG_EVENTS n).engGone e
    else s1
  else s

/-- ENG_HALT: an access outside R398, or an uncorrectable memory error, at a code word (R397 to R401). -/
def execEngHalt (e : Fin 128) (memory : Bool) (offset : Nat) (s : State) : Out := .next (s.engAccess e memory offset)

/-- ENG_RESTART_DONE: a reloaded engine goes to IDLE; one that has halted for good stays HALTED until ENG.RESTART names it (R399). -/
def execEngRestartDone (e : Fin 128) (s : State) : Out :=
  let n := e.val + 1
  if s.engState e = 4 ∨ (s.engState e = 3 ∧ !s.eng[e].stuck) then
    .next ((((s.setReg Ob.ENG_STATE n 1).modEng e (fun x => { x with stuck := false })).bump Ob.ENG_RESTARTS n 1).serviceHome e)
  else .next s

/-- ENG.RESTART (R399, R409). -/
def ownEngRestart (sub : Nat) (s : State) : Verdict :=
  if s.reg Ob.ENG_STATE sub = 3 then .done (s.setReg Ob.ENG_STATE sub 4) [] else .deny St.CONFIG_CONFLICT

/-- ENG_RESTART. -/
def execEngRestart (r : Req) (sub : Nat) (s : State) : Out := .next (s.serve r .exec Ob.ENG_RESTART sub [0] (ownEngRestart sub))

/-! ## Commands and writes of the counters -/

/-- Zero every counter of an engine (R404). -/
def State.pmuZero (s : State) (e : Fin 128) : State :=
  let n := e.val + 1
  (((s.setReg Ob.ENG_STEPS n 0).setReg Ob.ENG_CYCLES n 0).setBlob Ob.ENG_SLOTS n (List.replicate 32 0)).setBlob Ob.ENG_PMU_COUNT n
    (List.replicate 48 0)

/-- ENG.PMU_CLEAR: 0 to 127 one engine, 255 all. -/
def ownPmuClear (v : Int) (s : State) : Verdict :=
  if v = 255 then .done (forEach (fins 128) (fun e s => s.pmuZero e) s) []
  else if h : v.toNat < 128 then .done (s.pmuZero ⟨v.toNat, h⟩) [] else .deny St.RANGE

/-- ENG_PMU_CLEAR. -/
def execEngPmuClear (r : Req) (which : Nat) (s : State) : Out :=
  .next (s.serve r .exec Ob.ENG_PMU_CLEAR 0 (leBytes 1 which) (ownPmuClear (leNat (leBytes 1 which) : Nat)))

/-- ENG.PMU_FREEZE (R404). -/
def ownPmuFreeze (v : Int) (s : State) : Verdict := storeVal Ob.ENG_PMU_FREEZE 0 v s

/-- ENG_PMU_FREEZE_WRITE. -/
def execEngPmuFreezeWrite (r : Req) (v : Nat) (s : State) : Out :=
  .next (s.serve r .write Ob.ENG_PMU_FREEZE 0 (leBytes 4 v) (ownPmuFreeze (leNat (leBytes 4 v) : Nat)))

/-- PMU_OVERFLOW: a programmable counter of a working engine wraps to 0 (R405). -/
def execPmuOverflow (e : Fin 128) (j : Fin 6) (task offset : Nat) (s : State) : Out :=
  let n := e.val + 1
  let code := ((s.blob Ob.ENG_PMU_SEL n).getD (2 * j.val) 0).toNat
  if s.engWorks e ∧ !s.engFrozen e ∧ code ≠ 0 then
    .next ((s.setBlob Ob.ENG_PMU_COUNT n (setU64 (s.blob Ob.ENG_PMU_COUNT n) j.val 0)).pmuWrap e j.val task offset)
  else .next s

/-- ENG.PMU_OVF_STATUS: a write clears the bits written as 1 (R408). -/
def ownOvfStatus (sub : Nat) (v : Int) (s : State) : Verdict :=
  storeVal Ob.ENG_PMU_OVF_STATUS sub (s.nat Ob.ENG_PMU_OVF_STATUS sub &&& (63 - v.toNat % 64) : Nat) s

/-- PMU_OVF_STATUS_WRITE. -/
def execPmuOvfStatusWrite (r : Req) (sub v : Nat) (s : State) : Out :=
  .next (s.serve r .write Ob.ENG_PMU_OVF_STATUS sub (leBytes 4 v) (ownOvfStatus sub (leNat (leBytes 4 v) : Nat)))

/-- A read of ENG.PMU_SAMPLE clears LOST (R405). -/
def ownPmuSample (sub : Nat) (s : State) : Verdict :=
  if h : 1 ≤ sub ∧ sub ≤ 128 then
    let w := s.nat Ob.ENG_PMU_SAMPLE sub
    .done ((s.setReg Ob.ENG_PMU_SAMPLE sub (withBit w 27 false : Nat)).modEng ⟨sub - 1, by omega⟩ (fun x => { x with unread := false }))
      (leBytes 4 w)
  else .deny St.NO_OBJECT

/-- PMU_SAMPLE_READ. -/
def execPmuSampleRead (r : Req) (sub : Nat) (s : State) : Out :=
  .next (s.serve r .read Ob.ENG_PMU_SAMPLE sub [] (ownPmuSample sub))

/-- A write of ENG.PMU_SEL: six event codes with their task filters (R403). -/
def ownPmuSel (sub : Nat) (b : List Byte) (s : State) : Verdict :=
  if b.length = 12 ∧ (List.range 6).all (fun j => decide ((b.getD (2 * j) 0).toNat ≤ 17)) then .done (s.setBlob Ob.ENG_PMU_SEL sub b) []
  else .deny St.RANGE

/-- A write of ENG.PMU_COUNT: six values below 2^48 (R405, R408). -/
def ownPmuCount (sub : Nat) (b : List Byte) (s : State) : Verdict :=
  if b.length = 48 ∧ (List.range 6).all (fun j => decide (u64At b j < 2 ^ 48)) then .done (s.setBlob Ob.ENG_PMU_COUNT sub b) []
  else .deny St.RANGE

/-! ## Domains -/

/-- An ENG domain leaves ON: tasks still running count as missed (R410). -/
def State.engStop (s : State) (n : Fin 8) : State :=
  forEach (fins 16) (fun k s =>
    let e := engineOf n k
    let s1 := forEach s.eng[e].jobs (fun j s => s.taskMissed e j.task true) s
    s1.setReg Ob.ENG_STATE (e.val + 1) 0) s

/-- An ENG domain reaches ON: by its cold path every engine is reloaded and its counters clear (R397, R399, R409). -/
def State.engOn (s : State) (n : Fin 8) (cold : Bool) : State :=
  let mine (ix sub : Nat) : Bool :=
    (ix == Ob.ENG_TASK_MISSES || ix == Ob.ENG_RESTARTS || ix == Ob.ENG_EVENTS || ix == Ob.ENG_STEPS || ix == Ob.ENG_CYCLES ||
      ix == Ob.ENG_SLOTS || ix == Ob.ENG_PMU_COUNT) && decide (16 * n.val < sub) && decide (sub ≤ 16 * n.val + 16)
  let s1 := if cold then s.clearObjs mine else s
  forEach (fins 16) (fun k s =>
    let e := engineOf n k
    let s2 := if cold then s.modEng e (fun _ => {}) else s
    if s2.eng[e].stuck then s2.setReg Ob.ENG_STATE (e.val + 1) 3 else (s2.setReg Ob.ENG_STATE (e.val + 1) 1).serviceHome e) s1

/-- The tick's part of the engines (R394, R408): the load of the last tick, and TICK tasks on engines with an assignment. -/
def State.engTick (s : State) : State :=
  forEach (fins 128) (fun e s =>
    let n := e.val + 1
    let s1 := (s.setReg Ob.ENG_LOAD n (min 1000 (s.eng[e].tickCycles * 1000 / 819200) : Nat)).modEng e (fun x => { x with
      tickCycles := 0, tickMisses := 0 })
    let task : Option Nat := match engClass e with | 0 => some 3 | 1 => some 1 | 2 => some 2 | _ => none
    match task with
    | some t => if s1.engAssignment e = 255 then s1 else s1.trigger e t 160000
    | none => s1) s

/-- Note what the TICK tasks of the lanes, host lanes and ports replaced since `old` (R394). -/
def State.tickUndo (s old : State) : State :=
  let keep (ix sub : Nat) : Undo := .num ix sub (old.reg ix sub)
  let s1 := forEach (fins 8) (fun l s =>
    let n := l.val + 1
    let figures := [keep Ob.TIC_LLR_STEP n, keep Ob.TIC_ITER_MEAN n, keep Ob.TIC_PRE_BER n]
    let commit := if old.reg Ob.LINE_ADC_CAL_COUNT n = s.reg Ob.LINE_ADC_CAL_COUNT n then [] else
      [.adc l old.adc[l], keep Ob.LINE_ADC_CAL_RESULT n, keep Ob.LINE_ADC_CAL_KIND n, keep Ob.LINE_ADC_CAL_COUNT n,
        keep Ob.LINE_ADC_CAL_TIME n, keep Ob.LINE_ADC_STATE n]
    s.noteUndo (lineEngines l) 3 (figures ++ commit)) s
  let s2 := forEach (fins 16) (fun h s =>
    let n := h.val + 1
    let line : List Undo := if h.val % 2 = 0 then [.offset ⟨h.val / 2, by omega⟩ old.tx[(⟨h.val / 2, by omega⟩ : Fin 8)].offset] else []
    s.noteUndo (hostEngines h) 1 ([keep Ob.HOST_RX_FREQ_PPB n, keep Ob.HOST_RX_SNR_DB n, keep Ob.HOST_TX_OFFSET_PPB n] ++ line)) s1
  forEach (fins 8) (fun p s => s.noteUndo (linkEngines p) 2 [keep Ob.RETRY_REPLAY_EFFECTIVE (p.val + 1)]) s2

end Sys2Proof.Machine
end

