-- ==== Sys2Proof/Machine/Fabric.lean ====
section
/-! DEFINITION. The fabric: tiles and their margins, elastic boundaries, supply raises and shed levels (chapter 3). -/

namespace Sys2Proof.Machine

/-! ## Tiles (R63, R557) -/

/-- The domain of a tile. -/
def tileDom (t : Nat) : Option (Fin 36) :=
  let at8 (k : Nat) (f : Fin 8 → Fin 36) : Option (Fin 36) := if h : k < 8 then some (f ⟨k, h⟩) else none
  if t < 192 then at8 (t / 24) Dom.lrx
  else if t < 256 then at8 ((t - 192) / 8) Dom.ltx
  else if t < 320 then (if h : (t - 256) / 4 < 16 then some (Dom.hq ⟨(t - 256) / 4, h⟩) else none)
  else if t < 384 then at8 ((t - 320) / 8) (fun l => Dom.link (halfOf l))
  else if t < 496 then (if h : (t - 384) / 56 < 2 then some (Dom.fec ⟨(t - 384) / 56, h⟩) else none)
  else if t < 624 then at8 ((t - 496) / 16) Dom.eng
  else none

/-- The host lanes whose tiles count towards a line lane: those its port owns and uses (R63). -/
def State.tileHosts (s : State) (l : Fin 8) : List (Fin 16) := if (s.portOf l).isSome then s.hostLanesOfLane l else []

/-- Whether a tile counts towards a line lane; the link-block share is unused in S1 (R63, R557). -/
def State.tileCounts (s : State) (l : Fin 8) (t : Nat) : Bool :=
  decide (t / 24 = l.val ∧ t < 192) || decide (192 ≤ t ∧ t < 256 ∧ (t - 192) / 8 = l.val) ||
  (decide (256 ≤ t ∧ t < 320) && (s.tileHosts l).any (fun h => (t - 256) / 4 == h.val)) ||
  (decide (320 ≤ t ∧ t < 384 ∧ (t - 320) / 8 = l.val) && s.laneRate l != Rate.S1)

/-- Whether a tile counts towards no line lane (R63): those of the FEC clusters and engines, of host lanes that no port uses, and
of link-block shares in S1. -/
def State.tileFree (s : State) (t : Nat) : Bool := (fins 8).all (fun l => !s.tileCounts l t)

/-- The margin of a tile in a window, in units of 0.001 (R69): what its canary could have carried over what the lane's rate set and
mode require. DESIGN CHOICE (log entry 173): rounded down. -/
def State.tileMargin (s : State) (l : Fin 8) (t : Nat × Nat) : Nat × Nat :=
  (t.1, 1000 * (t.2 * Config.tokensPerCycle t.1) / Config.tokensRequired t.1 (s.laneRate l) (s.laneMode l))

/-- Whether a tile's domain is ON. -/
def State.tileOn (s : State) (t : Nat) : Bool := match tileDom t with | some d => s.on d | none => false

/-- Change a lane's margin filter; change the fabric. -/
def State.modFab (s : State) (f : Fabric → Fabric) : State := { s with fabric := f s.fabric }
def State.modFabLane (s : State) (l : Fin 8) (f : FabLane → FabLane) : State :=
  s.modFab (fun x => { x with lane := x.lane.set l (f x.lane[l]) })

/-! ## Margins (R70 to R72) -/

/-- Twice the median of a list. -/
def median2 (v : List Nat) : Nat :=
  let v := v.mergeSort (· ≤ ·)
  v.getD ((v.length - 1) / 2) 0 + v.getD (v.length / 2) 0

/-- Whether a turning tile's margin departs from the median of the other turning tiles of its lane by more than 0.25 (R72). -/
def canaryFails (margins : List (Nat × Nat)) (t : Nat × Nat) : Bool :=
  let others := (margins.filter (fun u => u.1 != t.1)).map (·.2)
  others != [] && decide (500 < ((2 * t.2 : Nat) - (median2 others : Nat) : Int).natAbs)

/-- The filtered lane margin (R70), 0xFFFF before the first window. DESIGN CHOICE (log entry 174): a mean of 0xFFFF or more is held to
0xFFFE. -/
def FabLane.margin (x : FabLane) (alarm : Bool) : Nat :=
  if x.windows = [] then 0xFFFF
  else
    let mean := min 65534 (x.windows.sum / x.windows.length)
    if alarm || x.cap != 0 then min 1000 mean else mean

/-- FABRIC.LANE_MARGIN of a lane. -/
def State.laneMargin (s : State) (l : Fin 8) : Nat := s.nat Ob.FABRIC_LANE_MARGIN (l.val + 1)

/-- FABRIC.MARGIN: the lowest over the lanes whose port exists and is not OFF (R71). -/
def State.fabricMargin (s : State) : Nat :=
  (fins 8).foldl (fun m l =>
    match s.portOf l with
    | some p => if s.pstate p ≠ PS.OFF then min m (s.laneMargin l) else m
    | none => m) 0xFFFF

/-- The fill figures of a window, and whether they alarm (R66). -/
def State.fillFigures (s : State) (l : Fin 8) (m : FabricMeas) : State × Bool :=
  let n := l.val + 1
  let pct (v d : Nat) : Int := clampInt 0 100 (roundDiv (100 * v : Nat) d)
  let s1 := (s.setReg Ob.FABRIC_LRX_FILL_PEAK n (pct m.rxPeak 4096)).setReg Ob.FABRIC_LTX_FILL_MIN n (pct m.txMin 16)
  let s2 := forEach (fins 2) (fun k s =>
    (s.setReg Ob.FABRIC_HIN_FILL_PEAK (2 * l.val + k.val + 1) (pct m.hInPeak[k] 512)).setReg Ob.FABRIC_HOUT_FILL_MIN
      (2 * l.val + k.val + 1) (pct m.hOutMin[k] 512)) s1
  let host := (s.tileHosts l).any (fun h =>
    let k : Fin 2 := ⟨h.val % 2, by omega⟩
    s.on (Dom.hq h) && (decide (384 < m.hInPeak[k]) || decide (m.hOutMin[k] < 128)))
  (s2, decide (3072 < m.rxPeak) || (s.on (Dom.ltx l) && decide (m.txMin < 4)) || host)

/-- The tiles of a window that take part: the lane's, and those that count towards no lane, in domains that are ON and not yet
excluded (R63, R72). -/
def State.windowTiles (s : State) (l : Fin 8) (m : FabricMeas) : List (Nat × Nat) :=
  m.tiles.filter (fun t => (s.tileCounts l t.1 || s.tileFree t.1) && s.tileOn t.1 && !s.fabric.failed.contains t.1)

/-- The margins of the lane's tiles whose canaries turned (R69). -/
def State.windowMargins (s : State) (l : Fin 8) (m : FabricMeas) : List (Nat × Nat) :=
  ((s.windowTiles l m).filter (fun t => s.tileCounts l t.1 && t.2 != 0)).map (s.tileMargin l)

/-- The canaries that fail in a window (R72): those that completed no cycle, and those of the lane that depart from its median. -/
def State.windowBad (s : State) (l : Fin 8) (m : FabricMeas) : List Nat :=
  ((s.windowTiles l m).filter (fun t => t.2 == 0)).map (·.1) ++
    ((s.windowMargins l m).filter (canaryFails (s.windowMargins l m))).map (·.1)

/-- Canaries that fail in a window are excluded (R72). -/
def State.canaries (s : State) (l : Fin 8) (bad : List Nat) : State :=
  let s1 := s.modFab (fun x => { x with failed := x.failed ++ bad })
  let s2 := s1.setReg Ob.FABRIC_CANARY_FAIL 0 (s1.fabric.failed.length : Nat)
  forEach bad (fun t s => s.record Src.FABRIC_CANARY_FAIL l.val t) s2

/-- FABRIC_WINDOW (R66 to R72). -/
def execFabricWindow (l : Fin 8) (m : FabricMeas) (s : State) : Out :=
  if s.on (Dom.lrx l) then
    let (s1, alarm) := s.fillFigures l m
    let bad := s.windowBad l m
    let s2 := s1.canaries l bad
    let good := ((s.windowMargins l m).filter (fun t => !bad.contains t.1)).map (·.2)
    let margin := match good with
      | [] => if alarm then 1000 else s.fabric.shedThr + s.fabric.hyst
      | t :: ts => ts.foldl min t
    let s3 := s2.modFabLane l (fun x => { x with windows := (margin :: x.windows).take 100 })
    let f := s3.fabric.lane[l].margin alarm
    let s4 := s3.modFabLane l (fun x => { x with cap := if alarm then 100 else x.cap - 1 })
    let s5 := (s4.setReg Ob.FABRIC_LANE_MARGIN (l.val + 1) (f : Nat)).setReg Ob.FABRIC_LANE_MARGIN_MIN (l.val + 1)
      (min f (s.nat Ob.FABRIC_LANE_MARGIN_MIN (l.val + 1)) : Nat)
    let d := s5.fabricMargin
    .next { s5 with therm := { s5.therm with
      dayMin := if d = 0xFFFF then s5.therm.dayMin else some (min d (s5.therm.dayMin.getD d)) } }
  else .next s

/-- A lane's margin filter restarts (R70). DESIGN CHOICE (log entry 92): a fill alarm still caps its next windows. -/
def State.filterRestart (s : State) (l : Fin 8) : State :=
  (s.modFabLane l (fun x => { x with windows := [] })).setReg Ob.FABRIC_LANE_MARGIN (l.val + 1) 0xFFFF

/-- The line lanes whose tiles lie in a domain, its host lanes' among them (R63, R70). -/
def State.lanesIn (s : State) (d : Fin 36) : List (Fin 8) :=
  (fins 8).filter (fun l => d == Dom.lrx l || d == Dom.ltx l || d == Dom.link (halfOf l) || (s.tileHosts l).any (fun h => d == Dom.hq h))

/-- A domain reaches ON: the margin filters of its lanes restart (R70, R78). -/
def State.fabricWake (s : State) (d : Fin 36) : State := forEach (s.lanesIn d) (fun l s => s.filterRestart l) s

/-- A domain leaves ON (R72, R78): its tiles leave the measurement, a port whose last line lane has left is at shed level
0, and a domain that goes OFF gives its canaries a new trial. -/
def State.fabricLeave (s : State) (d : Fin 36) (off : Bool) : State :=
  let s1 := forEach ((fins 8).filter (fun l => d == Dom.lrx l)) (fun l s =>
    let s1 := s.filterRestart l
    match s.portOf l with
    | some p =>
      if (s.lanesOf p).any (fun k => k != l && s.on (Dom.lrx k)) then s1
      else
        let s2 := s1.modFab (fun x => { x with held := x.held.set p 0, low := x.low.set p false })
        (s2.setReg Ob.FABRIC_SHED_LEVEL (p.val + 1) 0).laneMeasures p
    | none => s1) s
  if off then
    let s2 := s1.modFab (fun x => { x with failed := x.failed.filter (fun t => tileDom t != some d) })
    s2.setReg Ob.FABRIC_CANARY_FAIL 0 (s2.fabric.failed.length : Nat)
  else s1

/-! ## Exhausted boundaries (R64, R67, R68) -/

/-- LINE_RX_OVERRUN: the next 2,048 words are discarded (R68); the timing loop, the detector and the marks see them as a gap. -/
def execLineRxOverrun (l : Fin 8) (codes : List Int) (s : State) : Out :=
  if s.on (Dom.lrx l) then
    .next ((((s.rxSamples l codes).modDsp l (fun x => { x with gapWords := 2048 })).bump Ob.FABRIC_LINE_EB_EVENTS (l.val + 1) 1).record
      Src.FABRIC_LINE_EB_OVERRUN l.val l.val)
  else .next s

/-- LINE_TX_UNDERRUN: an all-zero TIC codeword of 2,048 symbols is sent (R64, R264). -/
def execLineTxUnderrun (l : Fin 8) (s : State) : Out :=
  if s.on (Dom.ltx l) ∧ 2 ≤ s.txState l then
    .next (((s.bump Ob.FABRIC_LINE_EB_EVENTS (l.val + 1) 1).lineSend l (List.replicate 2048 0)).record Src.FABRIC_LINE_EB_OVERRUN l.val
      (l.val + 256))
  else .next s

/-- HOST_INGRESS_OVERRUN: an error-marked block will take the place of the discarded one (R67), where blocks are framed. -/
def execHostIngressOverrun (h : Fin 16) (s : State) : Out :=
  match s.portOfHost h with
  | some _ =>
    if s.on (Dom.hq h) then
      let s1 := (s.bump Ob.FABRIC_HOST_EB_EVENTS (h.val + 1) 1).record Src.FABRIC_HOST_EB_OVERRUN h.val h.val
      match s.instOf h with
      | some i =>
        match s.instPort i with
        | some p =>
          .next (if s.instAligned i ∧ s.frames p ∧ s.takesHost p ∧ !s.hostS1 p then s1.modInst i (fun x => { x with overrun := x.overrun + 1 })
            else s1)
        | none => .next s1
      | none => .next s1
    else .next s
  | none => .next s

/-- HOST_EGRESS_UNDERRUN: an error-marked block is sent (R64). -/
def execHostEgressUnderrun (h : Fin 16) (s : State) : Out :=
  match s.portOfHost h with
  | some _ =>
    if s.on (Dom.hq h) then
      let s1 := (s.bump Ob.FABRIC_HOST_EB_EVENTS (h.val + 1) 1).record Src.FABRIC_HOST_EB_OVERRUN h.val (h.val + 256)
      match s.instOf h with
      | some i =>
        .next (match s.instPort i with
          | some p =>
            if (s.instLanes i).all (fun h => decide (2 ≤ s.hostState h)) ∧ !s.hostS1 p then
              s1.modInst i (fun x => { x with outPre := x.outPre ++ [.err] }) else s1
          | none => s1)
      | none => .next s1
    else .next s
  | none => .next s

/-! ## Commands -/

/-- FABRIC.CLEAR_MIN (R83). -/
def ownFabricClearMin (s : State) : Verdict := .done (s.setAll Ob.FABRIC_LANE_MARGIN_MIN 0xFFFF 8) []

/-- FABRIC_CLEAR_MIN. -/
def execFabricClearMin (r : Req) (s : State) : Out := .next (s.serve r .exec Ob.FABRIC_CLEAR_MIN 0 [0] ownFabricClearMin)

/-! ## The supply request (R74, R426, R427) -/

/-- The sum of R74 on the plan voltage in use, clamped. -/
def State.supplySum (s : State) (plan : Nat) : Nat :=
  (clampInt 550 780 ((plan : Int) + s.reg Ob.FABRIC_BAND_OFFSET_MV s.bandSub + s.reg Ob.FABRIC_MARGIN_RAISE_MV 0)).toNat

/-- The plan voltage that the request uses: a raise of the plan waits while THROTTLE is asserted (R427). -/
def State.planInUse (s : State) : Nat :=
  let plan := s.nat Ob.COMPASS_PLAN_MV 0
  if s.therm.throttling ∧ s.avs.plan < plan then s.avs.plan else plan

/-- The sum that is still to be sent: it differs from the request now sent, and has not failed (R426). Before step 7 of
start-up there is none. -/
def State.avsDue (s : State) : Option Nat :=
  let sum := s.supplySum s.planInUse
  if 6 ≤ s.reg Ob.POWER_START_STEP 0 ∧ (!s.avs.sent ∨ sum ≠ s.nat Ob.COMPASS_AVS_REQUEST_MV 0) ∧ s.avs.refused ≠ some sum then some sum
  else none

/-- Take the plan voltage into use, and bring COMPASS's vote for MGT in line: it stands while a request is to be sent
(R434). -/
def State.avsUpdate (s : State) : State :=
  let s1 := { s with avs := { s.avs with plan := s.planInUse } }
  let due := s1.avsDue.isSome
  if due = bitOf (s1.votes Dom.MGT) Vote.COMPASS then s1
  else if due then s1.castVote Dom.MGT Vote.COMPASS else s1.withdraw Dom.MGT Vote.COMPASS

/-- AVS_REQUEST_SEND: a changed sum is sent (R74, R426). It stands as acknowledged unless AVS_NO_ACK follows. -/
def execAvsRequestSend (s : State) : Out :=
  match s.avsUpdate.avsDue with
  | none => .next s
  | some sum =>
    let s1 := s.avsUpdate
    let s2 := { s1 with avs := { s1.avs with
      sent := true, prev := s1.nat Ob.COMPASS_AVS_REQUEST_MV 0, tries := 0, refused := none, off := 0 } }
    .next (s2.setReg Ob.COMPASS_AVS_REQUEST_MV 0 (sum : Nat)).avsUpdate

/-- AVS_NO_ACK: no acknowledgement, or a bad CRC. After the third retry the last acknowledged request is kept (R426). -/
def execAvsNoAck (s : State) : Out :=
  let x := s.avs
  if x.sent = false ∨ 4 ≤ x.tries then .next s
  else if x.tries < 3 then .next { s with avs := { x with tries := x.tries + 1 } }
  else
    let sum := s.nat Ob.COMPASS_AVS_REQUEST_MV 0
    let s1 := { s with avs := { x with tries := 4, refused := some sum } }
    .next (((s1.setReg Ob.COMPASS_AVS_REQUEST_MV 0 (x.prev : Nat)).avsUpdate).raise Src.COMPASS_AVS_FAIL 0 (65536 * sum)
      Ob.COMPASS_EVENTS 0)

/-! ## The tick (R74, R75, R80, R160) -/

/-- The margin raise of a tick (R74). -/
def State.marginRaise (s : State) : State :=
  let s0 := s.modFab (fun x => { x with raiseAgo := x.raiseAgo.map (fun n => min 1000 (n + 1)) })
  if s.fabricMargin < s.nat Ob.FABRIC_AVS_THRESH 0 ∧ s.supplySum s.planInUse < 780 ∧ s.therm.throttling = false then
    ((s0.modFab (fun x => { x with raiseAgo := some 0 })).setReg Ob.FABRIC_MARGIN_RAISE_MV 0
      (s.reg Ob.FABRIC_MARGIN_RAISE_MV 0 + 5)).avsUpdate
  else s0

/-- Whether a supply raise was tried within the last 1,000 ticks, or is barred (R75). DESIGN CHOICE (log entry 175): the tick of the raise
is the first of the 1,000. -/
def State.raiseTried (s : State) : Bool :=
  (match s.fabric.raiseAgo with | some n => decide (n < 1000) | none => false) ||
  decide (780 ≤ s.supplySum s.planInUse) || s.therm.throttling

/-- The shed level of a port at a tick (R75), and FABRIC_MARGIN_LOW at its last level. -/
def State.shedTick (s : State) (p : Fin 8) : State :=
  let margins := ((s.lanesOf p).filter (fun l => s.fabric.lane[l].windows != [])).map s.laneMargin
  match margins with
  | [] => s
  | m :: ms =>
    let low := ms.foldl min m
    let thr := s.nat Ob.FABRIC_SHED_THRESH 0
    let good := decide (thr + s.nat Ob.FABRIC_RELEASE_HYST 0 ≤ low)
    let held := if good then min 100 (s.fabric.held[p] + 1) else 0
    let was := s.shed p
    let now := if low < thr ∧ s.raiseTried then min 5 (was + 1) else if held = 100 then was - 1 else was
    let s1 := s.modFab (fun x => { x with held := x.held.set p held })
    let s2 := if now = was then s1 else (s1.setReg Ob.FABRIC_SHED_LEVEL (p.val + 1) (now : Nat)).laneMeasures p
    let alarm := decide (now = 5) && decide (low < thr)
    let s3 := s2.modFab (fun x => { x with low := x.low.set p alarm })
    if alarm ∧ s.fabric.low[p] = false then s3.record Src.FABRIC_MARGIN_LOW p.val (p.val + 65536 * low) else s3

/-- FABRIC.DECODE_POWER_MW of a port over the tick (R80): 135 mW per iteration at N1, half of it at N2, by the square of the
supply over 0.65 V. DESIGN CHOICE (log entry 176): rounded to the nearest mW. -/
def State.decodePower (s : State) (p : Fin 8) : State :=
  let ls := s.lanesOf p
  let cws := (ls.map (fun l => s.tic[l].tickCw)).sum
  let iters := (ls.map (fun l => s.tic[l].tickIters)).sum
  let each := match s.rateActive p with | 1 => 270 | 2 => 135 | _ => 0
  let vdd := if s.nat Ob.COMPASS_AVS_READBACK_MV 0 = 0 then s.nat Ob.COMPASS_AVS_REQUEST_MV 0 else s.nat Ob.COMPASS_AVS_READBACK_MV 0
  let mw := if cws = 0 then 0 else roundDiv (iters * each * ls.length * vdd * vdd : Nat) (2 * cws * 422500)
  s.setReg Ob.FABRIC_DECODE_POWER_MW (p.val + 1) (clampInt 0 (2 ^ 32 - 1) mw)

/-- The tick's part of the fabric. -/
def State.fabricTick (s : State) : State :=
  let s0 := s.modFab (fun x => { x with shedThr := s.nat Ob.FABRIC_SHED_THRESH 0, hyst := s.nat Ob.FABRIC_RELEASE_HYST 0 })
  let s1 := s0.marginRaise
  let s2 := forEach (fins 8) (fun p s => if s.exists p ∧ s.pstate p ≠ PS.OFF then s.shedTick p else s) s1
  forEach (fins 8) (fun p s => if s.exists p then s.decodePower p else s.setReg Ob.FABRIC_DECODE_POWER_MW (p.val + 1) 0) s2

/-- TIC.POOL_SPEED of a half: the measured speed by the pool's pace, 6/8 at throttle step 4 (R160, R418). -/
def State.poolPace (s : State) (h : Fin 2) (speed : Nat) : State :=
  s.setReg Ob.TIC_POOL_SPEED (h.val + 1) (min 65535 (if 4 ≤ s.throttle then speed * 6 / 8 else speed) : Nat)

end Sys2Proof.Machine
end

