-- ==== Sys2Proof/Machine/Thermal.lean ====
section
/-! DEFINITION. Temperature: the diode and the monitors, thresholds, throttling and bands (R411 to R421). Thermal shutdown
is in `Safe`, ageing in `Compass`. -/

namespace Sys2Proof.Machine

/-- Change the thermal record. -/
def State.modTherm (s : State) (f : Thermal → Thermal) : State := { s with therm := f s.therm }

/-! ## The measurements that COMPASS keeps (R422, R423) -/

/-- One more measurement, where there is one. -/
def Tally.add (t : Tally) (v : Option Int) : Tally := match v with | some x => ⟨t.n + 1, t.sum + x⟩ | none => t

/-- The mean in units of 0.001; none without a measurement. -/
def Tally.milliMean (t : Tally) : Option Int := if t.n = 0 then none else some (roundDiv (1000 * t.sum) t.n)

/-- The tick's measurements: of a line lane while its LRX domain is ON, of its DAC once that has been measured with LTX ON, of a
host lane while it is ALIGNED. DESIGN CHOICE (log entry 208). -/
def State.ageTake (s : State) : State :=
  let rx (ix : Nat) (l : Fin 8) : Option Int := if s.on (Dom.lrx l) then some (s.reg ix (l.val + 1)) else none
  let dac (l : Fin 8) : Option Int :=
    if s.on (Dom.ltx l) && s.reg Ob.TX_DAC_FS_MEAS (l.val + 1) != 0 then some (s.reg Ob.TX_DAC_FS_MEAS (l.val + 1)) else none
  let snr (h : Fin 16) : Option Int :=
    if s.on (Dom.hq h) && s.hostState h == 4 then some (s.reg Ob.HOST_RX_SNR_DB (h.val + 1)) else none
  s.modTherm (fun t => { t with
    day := {
      offset := Vector.ofFn (fun l => t.day.offset[l].add (rx Ob.LINE_ADC_OFFSET_SPREAD l))
      gain := Vector.ofFn (fun l => t.day.gain[l].add (rx Ob.LINE_ADC_GAIN_SPREAD l))
      skew := Vector.ofFn (fun l => t.day.skew[l].add (rx Ob.LINE_ADC_SKEW_TRIM l))
      dac := Vector.ofFn (fun l => t.day.dac[l].add (dac l))
      snr := Vector.ofFn (fun h => t.day.snr[h].add (snr h)) }
    hour := Vector.ofFn (fun h => t.hour[h].add (snr h)) })

/-! ## Monitors (R411 to R413) -/

/-- The domain of a monitor (R411): under a line lane that is its receive domain. -/
def monitorDom (m : Fin 32) : Fin 36 :=
  let h : Fin 2 := ⟨m.val / 16, by omega⟩
  let b := m.val % 16
  if b < 4 then Dom.lrx ⟨4 * h.val + b % 4, by omega⟩
  else if b < 6 then Dom.hq ⟨8 * h.val + 4 * ((b - 4) % 2), by omega⟩
  else if b < 9 then Dom.fec h
  else if b < 11 then Dom.link h
  else if b < 15 then Dom.eng ⟨4 * h.val + (b - 11) % 4, by omega⟩
  else Dom.AON

/-- The monitors one below and one above within the half (R413). -/
def neighbours (m : Fin 32) : List (Fin 32) :=
  let h := 16 * (m.val / 16)
  [⟨h + (m.val + 15) % 16, by omega⟩, ⟨h + (m.val + 1) % 16, by omega⟩]

/-- Whether a monitor has failed (R413), and whether it is read. -/
def State.monFailed (s : State) (m : Fin 32) : Bool := bitOf (s.nat Ob.THERMAL_MON_FAIL 0) m.val
def State.monRead (s : State) (m : Fin 32) : Bool := s.on (monitorDom m)

/-- How a monitor's tick judges it (R413): none for sound, else whether its oscillator stopped. -/
def State.monJudge (s : State) (raw : Vector (Option Int) 32) (m : Fin 32) : Option Bool :=
  if s.monFailed m || !s.monRead m then none
  else
    match raw[m] with
    | none => some true
    | some r =>
      let near := (neighbours m).filterMap (fun k => if s.monFailed k || !s.monRead k then none else raw[k])
      let n : Nat := near.length
      if n ≠ 0 ∧ 80 * n < (r * n - near.sum).natAbs then some false else none

/-- A monitor's reading under the common correction, in units of 0.1 °C (R412). -/
def State.monReading (s : State) (raw : Int) : Int := clampInt (-32767) 32767 (roundDiv (2 * raw + s.therm.corr) 2)

/-- The tick's readings: failures first, all judged on the same readings, then the values (R411, R413). -/
def State.monTick (s : State) (raw : Vector (Option Int) 32) : State :=
  let bad := (fins 32).filterMap (fun m => (s.monJudge raw m).map (fun st => (m, st)))
  let s1 := forEach bad (fun b s =>
    (s.setReg Ob.THERMAL_MON_FAIL 0 (withBit (s.nat Ob.THERMAL_MON_FAIL 0) b.1.val true : Nat)).raise Src.THERMAL_MON_FAIL 0
      (b.1.val + 256 * b.2.toNat) Ob.THERMAL_EVENTS 0) s
  let s2 := s1.modTherm (fun t => { t with raw := Vector.ofFn (fun m => if s.monRead m then raw[m] else none) })
  forEach (fins 32) (fun m s =>
    s.setReg Ob.THERMAL_MON (m.val + 1)
      (if s.monFailed m || !s.monRead m then -32768 else match raw[m] with | some r => s.monReading r | none => -32768)) s2

/-- Whether the device is in thermal shutdown (R419). -/
def State.inShutdown (s : State) : Bool := s.reg Ob.DICT_STATE 0 == 3 && s.reg Ob.FAULT_SAFE_CAUSE 0 == 3

/-- THERMAL.TJ (R415): the highest of the diode, unless failed, and every valid monitor; the diode alone in shutdown. -/
def State.tjNow (s : State) : Int :=
  let d := if s.flag Ob.THERMAL_DIODE_FAIL 0 then -32768 else s.reg Ob.THERMAL_DIODE 0
  if s.inShutdown then d else (fins 32).foldl (fun t m => max t (s.reg Ob.THERMAL_MON (m.val + 1))) d

/-- DIODE_CONVERSION: a conversion in units of 0.1 °C, or none within 1 ms; it is checked for failure (R411, R414). -/
def execDiodeConversion (reading : Option Int) (s : State) : Out :=
  if s.start.powered = false then .next s
  else
    let cause : Option Nat := match reading with
      | none => some 2
      | some v =>
        if v < -600 ∨ 1600 < v then some 0
        else match s.therm.diode with
          | some u => if 100 < (v - u).natAbs then some 1 else none
          | none => none
    let s1 := match reading with
      | some v => (s.modTherm (fun t => { t with diode := some v })).setReg Ob.THERMAL_DIODE 0 (clampInt (-32767) 32767 v)
      | none => s
    match cause with
    | none => .next s1
    | some c =>
      if s.flag Ob.THERMAL_DIODE_FAIL 0 then .next s1
      else .next (((s1.setReg Ob.THERMAL_DIODE_FAIL 0 1).setReg Ob.THERMAL_OFFSET_C 0 (-5)).raise Src.THERMAL_DIODE_FAIL 0 c
        Ob.THERMAL_EVENTS 0)

/-- MONITOR_MAPPING: the common correction that makes the mean of the reference pair the diode; skipped while one of the pair
is failed or not read, and once the diode has failed (R412, R414). -/
def execMonitorMapping (s : State) : Out :=
  match s.therm.diode, s.therm.raw[15], s.therm.raw[31] with
  | some d, some a, some b =>
    if s.flag Ob.THERMAL_DIODE_FAIL 0 || s.monFailed 15 || s.monFailed 31 then .next s
    else .next ((s.modTherm (fun t => { t with corr := 2 * d - a - b })).setStamp Ob.THERMAL_MAP_TIME 0)
  | _, _, _ => .next s

/-! ## Throttling (R416 to R418) -/

/-- A threshold in units of 0.1 °C: its setting with the offset (R416). -/
def State.threshold (s : State) (ix : Nat) : Int := 10 * (s.reg ix 0 + s.reg Ob.THERMAL_OFFSET_C 0)

/-- The throttle step in force (R415, R417, R418). -/
def State.stepWanted (s : State) : Nat :=
  if s.therm.blind || s.service[(0 : Fin 4)] == none then 4 else max s.therm.step (s.nat Ob.THERMAL_THROTTLE_MIN 0)

/-- ENG.PACE of a step, in eighths (R418). -/
def paceOf (step : Nat) : Nat := match step with | 0 => 8 | 1 => 6 | 2 | 3 => 4 | _ => 2

/-- The step takes its value, with its measures (R418). -/
def State.stepApply (s : State) : State :=
  let n := s.stepWanted
  if n = s.throttle then s
  else
    let s1 := (s.setReg Ob.THERMAL_THROTTLE_STEP 0 (n : Nat)).setAll Ob.ENG_PACE (paceOf n) 8
    forEach (fins 8) (fun p s => if s.exists p then s.laneMeasures p else s) s1

/-- The step through temperature changes; THERMAL_THROTTLE is raised as it takes THERMAL.THROTTLE_STEP from 0 (R417, R428). -/
def State.tempStep (s : State) (n : Nat) : State :=
  let rises := s.throttle == 0 && s.therm.step == 0 && n != 0
  let s1 := (s.modTherm (fun t => { t with step := n })).stepApply
  if rises then
    s1.raise Src.THERMAL_THROTTLE 0 ((s.reg Ob.THERMAL_TJ 0 % 65536).toNat + 65536 * s1.throttle) Ob.THERMAL_EVENTS 0
  else s1

/-- WARN and THROTTLE at a tick whose THERMAL.TJ is valid (R416, R417). -/
def State.thresholds (s : State) (tj : Int) : State :=
  let w := s.threshold Ob.THERMAL_WARN_C
  let t := s.threshold Ob.THERMAL_THROTTLE_C
  let warn := if s.therm.warn then decide (w - 30 ≤ tj) else decide (w ≤ tj)
  let thr := if s.therm.throttling then decide (t - 50 ≤ tj) else decide (t ≤ tj)
  let above := decide (t ≤ tj)
  let s1 := s.modTherm (fun x => { x with warn := warn, throttling := thr, above := above })
  let s2 := if warn ∧ s.therm.warn = false then s1.raise Src.THERMAL_WARN 0 (tj % 65536).toNat Ob.THERMAL_EVENTS 0 else s1
  if above ∧ s.therm.above = false ∧ s.therm.step = 0 then s2.tempStep 1 else s2

/-- THROTTLE_RISE: every 10 ms at or above THROTTLE (R417). -/
def execThrottleRise (s : State) : Out :=
  if s.therm.above ∧ s.therm.step < 4 then .next (s.tempStep (s.therm.step + 1)) else .next s

/-- THROTTLE_FALL: every 100 ms below the clear level (R417). -/
def execThrottleFall (s : State) : Out :=
  if s.therm.throttling = false ∧ s.therm.blind = false ∧ 0 < s.therm.step then .next (s.tempStep (s.therm.step - 1)) else .next s

/-! ## Bands (R421) -/

/-- THERMAL.BAND changes: the supply offset, the waveform tables and the recalibration timers follow (R74, R101, R251). -/
def State.setBand (s : State) (b : Nat) : State :=
  if b = s.nat Ob.THERMAL_BAND 0 then s
  else
    let s1 := s.setReg Ob.THERMAL_BAND 0 (b : Nat)
    let s2 := forEach (fins 8) (fun l s => (s.setReg Ob.TX_WAVE_ACTIVE_BAND (l.val + 1) (b : Nat)).waveRetarget l) s1
    s2.recalBand.avsUpdate

/-! ## The tick -/

/-- The tick's part of temperature (R411 to R421): readings, THERMAL.TJ, thresholds, step, state and band. -/
def State.thermalTick (s : State) (raw : Vector (Option Int) 32) : State :=
  let s1 := s.monTick raw
  let tj := s1.tjNow
  let s2 := s1.setReg Ob.THERMAL_TJ 0 tj
  let s3 := if s.reg Ob.THERMAL_TJ_PEAK 0 < tj then s2.setReg Ob.THERMAL_TJ_PEAK 0 tj else s2
  let blind := tj == -32768
  let failed := ((fins 32).filter s3.monFailed).length
  let s4 := s3.modTherm (fun t => { t with blind := blind })
  let s5 := if blind ∧ s.therm.blind = false then s4.raise Src.THERMAL_BLIND 0 (min 63 failed) Ob.THERMAL_EVENTS 0 else s4
  let s6 := if blind || s.inShutdown then s5 else s5.thresholds tj
  let s7 := s6.stepApply
  let s8 := s7.setBand (if blind then 3 else bandFrom (s7.nat Ob.THERMAL_BAND 0) tj)
  let s9 := if s8.throttle = 0 then s8 else s8.modTherm (fun t => { t with stepTicks := t.stepTicks + 1 })
  let s10 := s9.setReg Ob.THERMAL_THROTTLE_MS 0 (min (2 ^ 64 - 1) (s9.therm.stepTicks * 128 / 125) : Nat)
  (s10.setReg Ob.THERMAL_STATE 0 (if s.inShutdown then 3 else if s10.therm.throttling then 2 else if s10.therm.warn then 1 else 0)).avsUpdate

/-- The tick's part of the supply request (R426): the readback, and its mismatch over 10 ticks. -/
def State.avsTick (s : State) (vdd : Nat) : State :=
  let s1 := s.setReg Ob.COMPASS_AVS_READBACK_MV 0 (min 65535 vdd : Nat)
  let req := s.nat Ob.COMPASS_AVS_REQUEST_MV 0
  if s.avs.sent ∧ 10 < ((vdd : Int) - req).natAbs then
    let s2 := { s1 with avs := { s1.avs with off := min 11 (s1.avs.off + 1) } }
    if s.avs.off = 9 then s2.raise Src.COMPASS_AVS_FAIL 0 (1 + 65536 * req) Ob.COMPASS_EVENTS 0 else s2
  else { s1 with avs := { s1.avs with off := 0 } }

/-- THERMAL.CLEAR_PEAK (R429). -/
def ownClearPeak (s : State) : Verdict := .done (s.setReg Ob.THERMAL_TJ_PEAK 0 (-32768)) []

/-- THERMAL_CLEAR_PEAK. -/
def execThermalClearPeak (r : Req) (s : State) : Out := .next (s.serve r .exec Ob.THERMAL_CLEAR_PEAK 0 [0] ownClearPeak)

end Sys2Proof.Machine
end

