-- ==== Sys2Proof/Machine/Domain.lean ====
section
/-! DEFINITION. What a power domain loses and takes up as it leaves ON and reaches it again (R431 to R446), and the
commands DOMAIN_ENTRY_DONE, DOMAIN_RELEASE, RELEASE_TIMEOUT and RXSYNTH_BAND_SELECT_DONE. -/

namespace Sys2Proof.Machine

/-! ## The objects of a domain -/

/-- The domain of a memory group (R467). -/
def memDom (g : Nat) : Fin 36 :=
  if g ≤ 13 then Dom.link 0
  else if g ≤ 27 then Dom.link 1
  else if g ≤ 29 ∨ g = 32 then Dom.fec 0
  else if g ≤ 33 then Dom.fec 1
  else if g ≤ 41 then Dom.eng ⟨(g - 34) % 8, by omega⟩
  else Dom.MGT

/-- A volatile object that the host cannot write: a status object or a counter (R432). -/
def statusObject (ix : Nat) : Bool :=
  match objRow? ix with
  | some r => !r.saved && !bitOf r.accH 1 && !bitOf r.accF 1 && !bitOf r.accP 1
  | none => false

/-- The domain whose cold path returns an object's element to its default (R432 and the counter rule of each chapter); none
for what AON holds, for settings, and for what only firmware's own rules change. -/
def objDom (ix sub : Nat) : Option (Fin 36) :=
  let lane : Fin 8 := ⟨(sub - 1) % 8, by omega⟩
  let host : Fin 16 := ⟨(sub - 1) % 16, by omega⟩
  let half : Fin 2 := ⟨(sub - 1) % 2, by omega⟩
  if !statusObject ix then none
  else match ix / 256 with
    | 0x00 => if ix = Ob.MMP_PRIV_CHALLENGE ∨ ix = Ob.MMP_PRIV_STATE then some Dom.MGT else none
    | 0x04 =>
      if ix = Ob.PORT_CARRY_ENTRIES ∨ ix = Ob.PORT_EVENTS then some (Dom.link (halfOf lane))
      else if Ob.S1_ALIGN_STATE ≤ ix then some (Dom.lrx lane) else none
    | 0x08 => some (Dom.lrx lane)
    | 0x09 => if Ob.TIC_POOL_SPEED ≤ ix ∧ ix ≤ Ob.TIC_STAGING_FULL then some (Dom.fec half) else some (Dom.fec (halfOf lane))
    | 0x0A => if ix = Ob.LINK_LPL_IMPL then none else some (Dom.link (halfOf lane))
    | 0x0B => some Dom.DS
    | 0x0C => some (Dom.ltx lane)
    | 0x0D => if ix ≤ Ob.HOST_LOCK_LOSS then some (Dom.hq host) else some (Dom.link (halfOf lane))
    | 0x0E =>
      if Ob.TEST_CAP_STATE ≤ ix ∧ ix ≤ Ob.TEST_CAP_DATA then some Dom.MGT
      else if Ob.TEST_INJ_ACTIVE ≤ ix ∧ ix ≤ Ob.TEST_INJ_SYM_ERRORS then some (Dom.link (halfOf lane))
      else if Ob.TEST_HOST_CHK_STATE ≤ ix ∧ ix ≤ Ob.TEST_HOST_LOCK_LOSS then some (Dom.hq host)
      else some (Dom.lrx lane)
    | 0x10 => some Dom.HK
    | 0x11 => if Ob.ENG_STATE ≤ ix ∧ ix ≠ Ob.ENG_PACE then some (Dom.eng ⟨(sub - 1) / 16 % 8, by omega⟩) else none
    | 0x15 =>
      if ix = Ob.MEM_EVENTS ∨ ix = Ob.MEM_REPEAT_CORRECTED ∨ ix = Ob.MEM_REPEAT_TABLE then none else some (memDom (sub - 1))
    | 0x16 => if Ob.SELFTEST_ANALOG_RESULT ≤ ix ∧ ix ≤ Ob.SELFTEST_ANALOG_COUNT then some Dom.MGT else none
    | 0x17 => if ix = Ob.UPDATE_EVENTS then none else some Dom.MGT
    | 0x18 =>
      if ix = Ob.FABRIC_LANE_MARGIN ∨ ix = Ob.FABRIC_LANE_MARGIN_MIN ∨ ix = Ob.FABRIC_LRX_FILL_PEAK ∨
          ix = Ob.FABRIC_LINE_EB_EVENTS then some (Dom.lrx lane)
      else if ix = Ob.FABRIC_LTX_FILL_MIN then some (Dom.ltx lane)
      else if ix = Ob.FABRIC_HIN_FILL_PEAK ∨ ix = Ob.FABRIC_HOUT_FILL_MIN ∨ ix = Ob.FABRIC_HOST_EB_EVENTS then some (Dom.hq host)
      else if ix = Ob.FABRIC_MARGIN_RAISE_MV ∨ ix = Ob.FABRIC_DECODE_POWER_MW then some Dom.MGT
      else none
    | _ => none

/-! ## Votes -/

/-- A write of POWER.VOTE_HOST or POWER.VOTE_FAR (R435, R436). -/
def ownVote (c : Nat) (path : Path) (sub : Nat) (v : Int) (s : State) : Verdict :=
  if h : 1 ≤ sub ∧ sub ≤ 36 then
    let d : Fin 36 := ⟨sub - 1, by omega⟩
    if d = Dom.AON then .deny St.CONFIG_CONFLICT
    else if !path.isLocal && !s.flag Ob.POWER_FAR_GRANT 0 then .deny St.ACCESS_REFUSED
    else if !path.isLocal ∧ d = Dom.MGT then .deny St.CONFIG_CONFLICT
    else if v = 1 then .done (s.castVote d c) []
    else if bitOf (s.votes d) c = false then .done s []
    else if d = Dom.HK ∧ c = Vote.HOST ∧ s.hkHeld then .deny St.CONFIG_CONFLICT
    else if d = Dom.MGT ∧ s.lastVote d c ∧ s.mgtHeld then .deny St.CONFIG_CONFLICT
    else if c = Vote.HOST ∧ s.doms[d].wakeAt = some s.time.now then .deny St.ABORTED_BY_WAKE
    else if s.lastVote d c ∧ s.pwr d ≠ 0 ∧ s.pwr d ≠ 1 then .later (s.dsCheck (s.withdraw d c))
    else .done (s.dsCheck (s.withdraw d c)) []
  else .deny St.NO_OBJECT

/-- VOTE_HOST_WRITE. -/
def execVoteHostWrite (r : Req) (sub v : Nat) (s : State) : Out :=
  .next (s.serve r .write Ob.POWER_VOTE_HOST sub (leBytes 1 v) (ownVote Vote.HOST r.path sub (leNat (leBytes 1 v))))

/-- VOTE_FAR_WRITE. -/
def execVoteFarWrite (r : Req) (sub v : Nat) (s : State) : Out :=
  .next (s.serve r .write Ob.POWER_VOTE_FAR sub (leBytes 1 v) (ownVote Vote.FAR r.path sub (leNat (leBytes 1 v))))

/-! ## Leaving ON -/

/-- The line lanes, host lanes and ports with hardware in a domain. -/
def domLrx (d : Fin 36) : List (Fin 8) := (fins 8).filter (fun l => d == Dom.lrx l)
def domLtx (d : Fin 36) : List (Fin 8) := (fins 8).filter (fun l => d == Dom.ltx l)
def domHosts (d : Fin 36) : List (Fin 16) := (fins 16).filter (fun h => d == Dom.hq h)
def domFec (d : Fin 36) : List (Fin 2) := (fins 2).filter (fun h => d == Dom.fec h)
def domLink (d : Fin 36) : List (Fin 2) := (fins 2).filter (fun h => d == Dom.link h)
def domEng (d : Fin 36) : List (Fin 8) := (fins 8).filter (fun n => d == Dom.eng n)
def domSynth (d : Fin 36) : List (Fin 2) := (fins 2).filter (fun h => d == Dom.synth h)

/-- The sampling synthesiser of a half stops with its domain (R88, R89). -/
def State.synthStop (s : State) (h : Fin 2) : State :=
  let s1 := (s.synthLost h).modSynth h (fun y => { y with selecting := false })
  forEach (lanesOfHalf h) (fun l s => s.tlLight l) s1

/-- The link blocks of a half stop: their frames, descriptors and rate-matching FIFOs are lost (R431). -/
def State.linkStop (s : State) (h : Fin 2) : State :=
  let s1 := forEach ((fins 8).filter (fun p => s.exists p && (s.lanesOf p).any (fun l => halfOf l == h))) (fun p s =>
    (s.linkRest p).modLink p (fun x => { x with stream := {} })) s
  -- an instance's FIFOs lie with its port's lowest line lane (R283)
  forEach ((fins 8).filter (fun i => halfOf ((s.instPort i).getD i) == h)) (fun i s => s.modInst i (fun x => { sent := x.sent })) s1

/-- The capture buffer's contents are lost (R431): they read as free values. -/
def State.capLose (s : State) : State :=
  if s.reg Ob.TEST_CAP_STATE 0 = 3 then { s with capLost := some s.freeCount, freeCount := s.freeCount + 2097152 } else s

/-- A domain's work ends as it leaves ON: it finishes or abandons what it does (R433), and what its rest state does not keep
is gone (R431). -/
def State.domStop (s : State) (d : Fin 36) : State :=
  let s1 := forEach (domLrx d) (fun l s => (s.adcStop l).rxIdle l) s
  let s2 := forEach (domSynth d) (fun h s => s.synthStop h) s1
  let s3 := forEach (domLtx d) (fun l s => s.txStop l) s2
  let s4 := forEach (domHosts d) (fun h s => s.hostStop h) s3
  let s5 := forEach (domFec d) (fun h s => s.fecStop h) s4
  let s6 := forEach (domLink d) (fun h s => s.linkStop h) s5
  let s7 := forEach (domEng d) (fun n s => s.engStop n) s6
  if d = Dom.DS then s7.dsStop else if d = Dom.HK then s7.hkStop else if d = Dom.MGT then s7.capLose else s7

/-- DOMAIN_ENTRY_DONE: quiesce, seal and isolate complete; the domain reads RET or OFF, and the withdrawal that waited is
answered OK (R433, R435, R441). A FEC domain does not complete while its units hold codewords of the other half (R163). -/
def execDomainEntryDone (d : Fin 36) (s : State) : Out :=
  if s.pwr d = 3 ∧ !(domFec d).any s.holdsBorrowed then
    let off := s.doms[d].toOff
    let s1 := (((s.domStop d).fabricLeave d off).setPwr d (if off then 0 else 1)).votesDs
    .next (s1.answerVotes d St.OK)
  else .next s

/-! ## Reaching ON -/

/-- A domain's objects, memories and kept registers take their defaults (R432, R469). -/
def State.domClear (s : State) (d : Fin 36) : State :=
  let s1 := s.clearObjs (fun ix sub => objDom ix sub == some d)
  { s1 with mem := Vector.ofFn (fun g => if memDom g.val = d then {} else s1.mem[g]) }

/-- The optics pins and the transmit lane after the cold path of LTX: pins held at their off level, the muted output, the
working table of the present band (R250, R259). -/
def State.txCold (s : State) (l : Fin 8) : State :=
  (((s.modTx l (fun x => { hiZ := x.hiZ, wave := [] })).setReg Ob.TX_WAVE_ACTIVE_BAND (l.val + 1) (s.reg Ob.THERMAL_BAND 0)).modTx l
    (fun x => { x with wave := s.waveTarget l })).apcHold l

/-- The management core's transports after a lost bank: what they held is gone. -/
def State.mgtCold (s : State) : State := { s with mmp := {}, capLost := none }

/-- A sampling synthesiser starts with its domain: it locks, or first selects its band where AON holds none (R88). -/
def State.synthStart (s : State) (h : Fin 2) : State :=
  s.modSynth h (fun y => { band := y.band, selecting := !y.band })

/-- The cold path's work of a domain (R432, R438). The start-up wake for band selection runs no calibration (R446). -/
def State.domCold (s : State) (d : Fin 36) : State :=
  let s0 := s.domClear d
  let s1 := forEach (domSynth d) (fun h s => s.synthStart h) s0
  let s2 := forEach (domLrx d) (fun l s =>
    let s' := s.modRx l (fun _ => {})
    if s.start.select[halfOf l] ∧ d = Dom.synth (halfOf l) ∧ s.votes d = 2 ^ Vote.PORTSM then s'.adcSeed l else s'.adcCold l) s1
  let s3 := forEach (domLtx d) (fun l s => s.txCold l) s2
  let s4 := forEach (domHosts d) (fun h s => s.hostOn h) s3
  let s5 := forEach (domFec d) (fun h s => s.fecCold h) s4
  let s6 := forEach (domEng d) (fun n s => s.engOn n true) s5
  if d = Dom.DS then s6.dsOn true else if d = Dom.HK then s6.hkCold else if d = Dom.MGT then s6.mgtCold else s6

/-- The work after a wake that kept everything (R431, R438). -/
def State.domWarm (s : State) (d : Fin 36) : State :=
  let s1 := forEach (domSynth d) (fun h s => s.synthStart h) s
  let s2 := forEach (domLrx d) (fun l s => s.adcWarm l) s1
  let s3 := forEach (domHosts d) (fun h s => s.hostOn h) s2
  let s4 := forEach (domEng d) (fun n s => s.engOn n false) s3
  if d = Dom.DS then s4.dsOn false else if d = Dom.HK then s4.hkWake else s4

/-- Every existing port settles. -/
def State.portsSettle (s : State) : State := forEach (fins 8) (fun p s => s.portSettle p) s

/-- A retention check that failed: PWR_RET_LOST with the first lost bank (R439, R452). -/
def State.retLost (s : State) (d : Fin 36) (bank : Nat) : State :=
  (s.bump Ob.POWER_RET_LOST (d.val + 1) 1).raise Src.PWR_RET_LOST d.val (d.val + 256 * (bank % 256)) Ob.POWER_EVENTS 0

/-- DOMAIN_RELEASE: a waking domain is released to ON, with the first bank whose retention check failed, if one did; its
follow-on work starts, and a domain that no vote holds any longer enters its rest state again (R432, R438, R439). -/
def execDomainRelease (d : Fin 36) (lostBank : Option Nat) (s : State) : Out :=
  if s.pwr d = 4 then
    let ret := s.doms[d].fromRet
    let s1 := match lostBank with | some b => if ret then s.retLost d b else s | none => s
    let s2 := ((s1.setPwr d 2).bump Ob.POWER_WAKES (d.val + 1) 1).fabricWake d
    let s3 := if !ret || lostBank.isSome then s2.domCold d else s2.domWarm d
    let s4 := forEach (domLrx d) (fun l s => if s.rxWanted l then s.tlStart l else s) s3
    let s5 := forEach (domLtx d) (fun l s =>
      match s.portOf l with
      | some p => if s.pstate p = PS.OFF ∧ s.port[p].goal ≠ .none ∧ s.port[p].goal ≠ .off then s.txCalibrate l false else s
      | none => s) s4
    let s5 := forEach (s5.analog.running.filter (fun i => itemNeeds i d)) (fun i s =>
      match itemLane i with
      | some l =>
        let s' := if d = Dom.lrx l ∧ !s.adc[l].fgRun ∧ !s.adc[l].fgWait then s.fgStart l false else s
        if d = Dom.ltx l then s'.txCalibrate l false else s'
      | none => s) s5
    let s6 := (s5.modDom d (fun m => { m with fromRet := false })).portVotes
    let s7 := if s6.pwr d = 2 ∧ s6.votes d = 0 ∧ d ≠ Dom.AON then s6.startEntry d false else s6
    .next s7.portsSettle
  else .next s

/-- RELEASE_TIMEOUT: a domain not released within twice its release time goes OFF, with PWR_SWITCH_FAIL; its votes stay,
and until they have all been withdrawn it is not tried again; ports that wait on it return to OFF (R440, R452). DEDUCED (log entry 220). -/
def execReleaseTimeout (d : Fin 36) (s : State) : Out :=
  if s.pwr d = 4 then
    let ret := s.doms[d].fromRet
    let s1 := ((s.setPwr d 0).modDom d (fun m => { m with barred := s.votes d != 0, fromRet := false })).fabricLeave d true
    let s2 := s1.raise Src.PWR_SWITCH_FAIL d.val (d.val + 256 * ret.toNat) Ob.POWER_EVENTS 0
    let waits (p : Fin 8) : Bool := s.exists p && s.pstate p == PS.OFF && s.port[p].goal != .none && s.portNeeds p d
    let s3 := forEach ((fins 8).filter waits) (fun p s => s.portOff p St.CONFIG_CONFLICT) s2
    .next (forEach (fins 2) (fun h s =>
      if d = Dom.synth h then { s with start := { s.start with select := s.start.select.set h false } } else s) s3).portsSettle
  else .next s

/-- RXSYNTH_BAND_SELECT_DONE: band selection and lock complete (R88, R89). At start-up PORTSM's vote of step 7 is then
withdrawn, and a domain with no other vote enters OFF (R446). -/
def execRxsynthBandSelectDone (h : Fin 2) (s : State) : Out :=
  let y := s.rxsynth[h]
  if s.on (Dom.synth h) ∧ !y.locked ∧ (y.selecting ∨ !y.band) then
    let s1 := s.relocked h
    if s1.start.select[h] then
      let s2 := { s1 with start := { s1.start with select := s1.start.select.set h false } }
      if (fins 8).any (fun p => s2.portActive p && s2.portNeeds p (Dom.synth h)) || s2.synthNeeded (Dom.synth h) then .next s2
      else .next (s2.withdraw (Dom.synth h) Vote.PORTSM true)
    else .next s1
  else .next s

/-- RXSYNTH_UNLOCK: a held lock is lost; ADC_RXSYNTH_UNLOCK counts on each lane of the half that is ON, calibrations
abort, timing loops hold, self-checks of the half's lanes abort (R89, R97, R115, R123, R485). -/
def execRxsynthUnlock (h : Fin 2) (s : State) : Out :=
  let y := s.rxsynth[h]
  if y.locked then
    let s1 := forEach (lanesOfHalf h) (fun l s => if s.on (Dom.lrx l) then s.bump Ob.LINE_ADC_EVENTS (l.val + 1) 1 else s) s
    let s2 := (s1.record Src.ADC_RXSYNTH_UNLOCK h.val (h.val + 256 * y.attempts + 4096 * y.bandRep.toNat)).synthLost h
    let s3 := forEach (lanesOfHalf h) (fun l s => s.tlLight l) s2
    let s4 := s3.analogAbort (fun i => decide (i < 8) && itemHalf i == h.val)
    .next (forEach (lanesOfHalf h) (fun l s => s.laneSettle l) s4)
  else .next s

end Sys2Proof.Machine
end

