-- ==== Sys2Proof/Machine/Flash.lean ====
section
/-! DEFINITION. The boot flash: its bytes and partitions (R498), the checks of an image (R499, R500, R504), and the journal
(R506, R507). -/

namespace Sys2Proof.Machine

/-! ## Bytes -/

/-- What an unlisted byte of the flash reads: erased. -/
def flashDefault : Nat → Byte := fun _ => 0xFF

/-- Read, program and erase bytes. Programming follows an erase of the bytes. -/
def State.flashRead (s : State) (a n : Nat) : List Byte := (List.range n).map (fun i => s.flash.get flashDefault (a + i))
def State.flashErase (s : State) (a n : Nat) : State := { s with flash := s.flash.filter (fun c => decide (c.1 < a) || decide (a + n ≤ c.1)) }
def State.flashWrite (s : State) (a : Nat) (bs : List Byte) : State :=
  { s with flash := (bs.foldl (fun (x : Store Byte × Nat) b => (x.1.put flashDefault x.2 b, x.2 + 1)) (s.flash, a)).1 }

/-- Whether a range is wholly erased. -/
def State.flashErased (s : State) (a n : Nat) : Bool := s.flash.all (fun c => decide (c.1 < a) || decide (a + n ≤ c.1))

/-- `n` bytes that the spec leaves open: fresh free values. -/
def State.freshBytes (s : State) (n : Nat) : State × List Byte :=
  ({ s with freeCount := s.freeCount + n }, (List.range n).map (fun i => BitVec.ofNat 8 (Config.freeValue (s.freeCount + i))))

/-! Partitions (R498): offsets and sizes. -/

abbrev Part.JOURNAL : Nat := 0x00100000
abbrev Part.SETTINGS_A : Nat := 0x00140000
abbrev Part.SETTINGS_B : Nat := 0x001A0000
abbrev Part.ACTIVE : Nat := 0x00200000
abbrev Part.FALLBACK : Nat := 0x01200000
abbrev Part.STAGING : Nat := 0x02200000
abbrev partSize : Nat := 0x01000000
abbrev slotSize : Nat := 0x00060000

/-- A partition by the number that the journal's RUN gives it: 0 ACTIVE, 1 FALLBACK. -/
def runBase (run : Nat) : Nat := if run = 0 then Part.ACTIVE else Part.FALLBACK

/-- A settings slot by number: 0 A, 1 B. -/
def slotBase (slot : Nat) : Nat := if slot = 0 then Part.SETTINGS_A else Part.SETTINGS_B

/-- UPD_FLASH (R517): the partition in the order of R498 and the 4 KiB sector of the flash. -/
def State.flashFail (s : State) (part a : Nat) : State :=
  s.raise Src.UPD_FLASH 0 (part + 65536 * (a / 4096 % 65536)) Ob.UPDATE_EVENTS 0

/-! ## Images (R499, R500) -/

/-- Little-endian fields of a byte string. -/
def u16At (b : List Byte) (o : Nat) : Nat := leNat ((b.drop o).take 2)
def u32At (b : List Byte) (o : Nat) : Nat := leNat ((b.drop o).take 4)
def u8At (b : List Byte) (o : Nat) : Nat := (b.getD o 0).toNat

/-- The fields of PART[j] of a manifest: type, instance, offset and length (R499). -/
def partFields (m : List Byte) (j : Nat) : Nat × Nat × Nat × Nat :=
  let o := 32 + 64 * j
  (u8At m o, u8At m (o + 1), u32At m (o + 4), u32At m (o + 8))

/-- The eight parts that an image holds (R500). -/
def partKinds : List (Nat × Nat) := [(1, 0), (2, 1), (2, 2), (2, 3), (2, 4), (3, 0), (4, 0), (5, 0)]

/-- Whether a part keeps to R500: its place, its reserved bytes, and no overlap with another part. -/
def partOk (m : List Byte) (j : Nat) : Bool :=
  let (_, _, off, len) := partFields m j
  let o := 32 + 64 * j
  u16At m (o + 2) == 0 && u32At m (o + 12) == 0 && off % 4096 == 0 && decide (4096 ≤ off) && decide (off + len ≤ u32At m 20) &&
  (List.range 8).all (fun k => k == j ||
    (let (_, _, off', len') := partFields m k
     decide (off + len ≤ off') || decide (off' + len' ≤ off)))

/-- The first part of a manifest that fails R500, or 0 for the manifest's own fields; none where the form holds (R504). -/
def formFault (m : List Byte) : Option Nat :=
  let kinds := (List.range 8).map (fun j => let (t, i, _, _) := partFields m j; (t, i))
  let len := u32At m 20
  let head := u32At m 0 == 0x4D584254 && u16At m 4 == 1 && u16At m 6 == 8 && u32At m 8 != 0 &&
    ((m.drop 17).take 3 ++ (m.drop 24).take 8).all (fun b => b == 0) && decide (8192 ≤ len) && decide (len ≤ partSize) &&
    partKinds.all (fun k => kinds.contains k)
  if !head then some 0 else (List.range 8).find? (fun j => !partOk m j)

/-- The 49 bytes of the vendor key and of the module key (R478). -/
def State.keyBytes (s : State) (first : Nat) : List Byte :=
  (((List.range 7).map (fun i => leBytes 8 (s.fuseWord (first + i)))).flatten).take 49
def State.vendorKey (s : State) : List Byte := s.keyBytes 8
def State.moduleKey (s : State) : List Byte := s.keyBytes 16

/-- The manifest of the image at an address. -/
def State.manifest (s : State) (base : Nat) : List Byte := s.flashRead base 640

/-- Whether part `j` of the image at an address matches its digest (R499). -/
def State.partDigest (s : State) (base : Nat) (m : List Byte) (j : Nat) : Bool :=
  let (_, _, off, len) := partFields m j
  Config.digest (s.flashRead (base + off) len) == (m.drop (32 + 64 * j + 16)).take 48

/-- Checks 2 to 4 of R504 on the image at an address, with the length it must have if one is given: the UPDATE.VERIFY_RESULT
value and the first failing part. -/
def State.imageCheck (s : State) (base : Nat) (len : Option Nat) : Nat × Nat :=
  let m := s.manifest base
  match formFault m with
  | some j => (3, j)
  | none =>
    if (match len with | some n => n != u32At m 20 | none => false) then (3, 0)
    else if !Config.ecdsaVerify s.vendorKey (m.take 544) (m.drop 544) then (4, 0)
    else match (List.range 8).find? (fun j => !s.partDigest base m j) with
      | some j => (5, j)
      | none => (1, 0)

/-- Whether the image at an address passes. -/
def State.imageGood (s : State) (base : Nat) : Bool := (s.imageCheck base none).1 == 1

/-- The version of the image at an address; 0 where none exists (R518). -/
def State.imageVersion (s : State) (base : Nat) : Nat :=
  let m := s.manifest base
  if formFault m = none then u32At m 8 else 0

/-! ## The journal (R506) -/

/-- The places of the ring that are not erased, in rising order. -/
def State.journalUsed (s : State) : List Nat :=
  (s.flash.filter (fun c => decide (Part.JOURNAL ≤ c.1) && decide (c.1 < Part.JOURNAL + 0x40000))).foldl (fun acc c =>
    let i := (c.1 - Part.JOURNAL) / 64
    if acc.getLast? = some i then acc else acc ++ [i]) []

/-- A record of the ring, and whether its CRC passes. -/
def State.journalAt (s : State) (i : Nat) : List Byte := s.flashRead (Part.JOURNAL + 64 * i) 64
def recordOk (b : List Byte) : Bool := u16At b 0 == 0x4A5A && u32At b 60 == crc32c (b.take 60)

/-- The latest record, with its place: the highest JSEQ among those whose CRC passes. -/
def State.journalLatest (s : State) : Option (Nat × List Byte) :=
  (s.journalUsed.map (fun i => (i, s.journalAt i))).foldl (fun acc r =>
    if recordOk r.2 then
      match acc with
      | some a => if u32At a.2 4 < u32At r.2 4 then some r else acc
      | none => some r
    else acc) none

/-- The records that fail their CRC. -/
def State.journalBad (s : State) : Nat := (s.journalUsed.filter (fun i => !recordOk (s.journalAt i))).length

/-- Show the latest record in UPDATE.JOURNAL_SEQ and UPDATE.JOURNAL_TIME. -/
def State.journalShow (s : State) : State :=
  match s.journalLatest with
  | some (_, b) => (s.setReg Ob.UPDATE_JOURNAL_SEQ 0 (u32At b 4 : Nat)).setReg Ob.UPDATE_JOURNAL_TIME 0 (leNat ((b.drop 48).take 12) : Nat)
  | none => s

/-- Write a record after the latest; the sector that it enters is erased first (R506). The first record of an empty journal
stands at place 0 with JSEQ 1. -/
def State.journalWrite (s : State) (kind run block version : Nat) (id : List Byte) : State :=
  let (place, seq) := match s.journalLatest with
    | some (i, b) => ((i + 1) % 4096, u32At b 4 + 1)
    | none => (0, 1)
  let body := leBytes 2 0x4A5A ++ leBytes 1 kind ++ leBytes 1 run ++ leBytes 4 seq ++ leBytes 4 block ++ leBytes 4 version ++
    (id ++ List.replicate 32 0).take 32 ++ leBytes 12 s.stamp
  let a := Part.JOURNAL + 64 * place
  let s1 := if place % 64 = 0 then s.flashErase a 4096 else s
  (s1.flashWrite a (body ++ leBytes 4 (crc32c body))).journalShow

/-- A record about the image that the latest record names (R506). -/
def State.journalFollow (s : State) (kind run block : Nat) : State :=
  match s.journalLatest with
  | some (_, b) => s.journalWrite kind run block (u32At b 12) ((b.drop 16).take 32)
  | none => s.journalWrite kind run block 0 []

/-! ## Sessions -/

/-- Change the update record. -/
def State.modUpd (s : State) (f : Update → Update) : State := { s with upd := f s.upd }

/-- Bring the UPDATE client's vote on MGT in line: an open session or a running copy (R434). -/
def State.updateVotes (s : State) : State :=
  let want := s.reg Ob.UPDATE_SESSION 0 != 0 || s.upd.copy.isSome
  if want = bitOf (s.votes Dom.MGT) Vote.UPDATE then s
  else if want then s.castVote Dom.MGT Vote.UPDATE else s.withdraw Dom.MGT Vote.UPDATE

/-- The open session ends; its record of the pages in STAGING is gone (R501). An erase cut short has erased at least the
first block. -/
def State.sessionEnd (s : State) : State :=
  let s0 := if s.reg Ob.UPDATE_SESSION 0 = 1 then s.flashErase Part.STAGING 65536 else s
  (((s0.modUpd (fun u => { u with len := 0, map := [], queue := [], verify := false })).setReg Ob.UPDATE_SESSION 0 0).setReg
    Ob.UPDATE_SOURCE 0 0).updateVotes

end Sys2Proof.Machine
end

