-- ==== Sys2Proof/Machine/Safe.lean ====
section
/-! DEFINITION. Block and chip resets, power-on and RESET_N (R442 to R444, R533), the safe state (R464 to R466), thermal
shutdown (R419, R420), and the LOOKOUT collector (R455 to R463). -/

namespace Sys2Proof.Machine

/-! ## Block resets (R443, R462) -/

/-- The domain that a source's BLOCK reaction resets (R462): none where it is carried out as a chip reset. The lane, port,
half, engine or group stands in the low bits of the detail word. -/
def State.blockDomain (s : State) (src detail : Nat) : Option (Fin 36) :=
  let lane : Fin 8 := ⟨detail % 8, by omega⟩
  let port : Fin 8 := match (s.lanesOf lane).head? with | some l => l | none => lane
  if src = Src.ADC_RXSYNTH_UNLOCK then some (Dom.synth ⟨detail % 2, by omega⟩)
  else if src = Src.FABRIC_LINE_EB_OVERRUN then some (if bitOf detail 8 then Dom.ltx lane else Dom.lrx lane)
  else if Src.ADC_CAL_FAIL ≤ src ∧ src ≤ Src.EQ_CLAMP then some (Dom.lrx lane)
  else if Src.TX_SYNTH_CAL_FAIL ≤ src ∧ src ≤ Src.OPTICS_APC_LIMIT then some (Dom.ltx lane)
  else if src = Src.HOST_LOCK_LOSS ∨ src = Src.FABRIC_HOST_EB_OVERRUN then some (Dom.hq ⟨detail % 16, by omega⟩)
  else if src = Src.TIC_STAGING_FULL ∨ src = Src.TIC_UNIT_FAIL then some (Dom.fec ⟨detail % 2, by omega⟩)
  else if (Src.LINK_ALIGN_LOSS ≤ src ∧ src ≤ Src.RETRY_WINDOW_SHORT) ∨ (Src.PORT_NO_PARTNER ≤ src ∧ src ≤ Src.PORT_DRAIN) ∨
      (Src.HOST_SKEW_LIMIT ≤ src ∧ src ≤ Src.HOST_RATE_MATCH) ∨ src = Src.TIC_FORCED_RATE then some (Dom.link (halfOf port))
  else if Src.DS_TRAIN_FAIL ≤ src ∧ src ≤ Src.DS_MEM_HOT then some Dom.DS
  else if src = Src.ENG_DEADLINE ∨ src = Src.ENG_ACCESS ∨ src = Src.ENG_HALTED ∨ src = Src.ENG_PMU_OVERFLOW then
    some (Dom.eng ⟨detail / 16 % 8, by omega⟩)
  else if Src.HK_CAL_FAIL ≤ src ∧ src ≤ Src.HK_ADAC_SHORT then some Dom.HK
  else if Src.MEM_CORRECTED ≤ src ∧ src ≤ Src.MEM_UNCORRECTABLE then some (memDom (detail % 64))
  else none

/-- A port with a domain in a block reset goes to OFF: its command fails, a test ends INCOMPLETE, a rate change and the
injected symbol errors end, and its optics go down (R312, R317, R333). -/
def State.portBlocked (s : State) (p : Fin 8) (d : Fin 36) : State :=
  let n := p.val + 1
  let s1 := (s.finish Ob.PORT_CMD n St.CONFIG_CONFLICT).testOver p 3
  let s2 := ((s1.rateEnd p).testQuiet p).setReg Ob.TEST_INJ_SYM_PROB n 0
  let s3 := s2.modPort p (fun x => { x with goal := .off, lastLeft := 0, drained := true, restart := d.val :: x.restart })
  if s3.pstate p = PS.OFF then (s3.portOff p).portRestart p else (s3.portDown p).portSettle p

/-- A block reset of a domain (R443): isolated at once; woken by its cold path where a vote remains. A transmit domain's
optics follow the fixed down path (R261), and self-checks in the domain abort (R485). -/
def State.blockReset (s : State) (d : Fin 36) : State :=
  let ports := (fins 8).filter (fun p => s.exists p && s.portNeeds p d && (s.pstate p != PS.OFF || s.port[p].goal != .none))
  let s1 := (s.domStop d).fabricLeave d true
  let s2 := forEach (domLtx d) (fun l s => s.fixedDown l) s1
  let s3 := (((s2.answerVotes d St.OK).setPwr d 0).modDom d (fun m => { m with toOff := false, fromRet := false })).analogAbort
    (fun i => itemNeeds i d)
  let s4 := if s3.pwr d = 0 ∧ s3.votes d ≠ 0 ∧ !s3.doms[d].barred then s3.startWake d else s3
  forEach ports (fun p s => s.portBlocked p d) s4

/-! ## Resets of the whole device -/

/-- What AON keeps of the volatile objects through a chip reset (R442): WAYMARK, the fault objects, the objects of chapter 17,
and those that their chapter clears only at RESET_N or power-on; the identity and the life cycle stand as sensed. -/
def aonKept (ix : Nat) : Bool :=
  ix / 256 == 0x02 || ix / 256 == 0x12 || ix / 256 == 0x13 || ix / 256 == 0x14 ||
  (ix / 256 == 0x01 && ix != Ob.ID_IMAGE_VERSION) ||
  (ix / 256 == 0x00 && ix != Ob.DICT_STATE && ix != Ob.MMP_PRIV_CHALLENGE && ix != Ob.MMP_PRIV_STATE) ||
  ix == Ob.LC_STATE || ix == Ob.LC_NEXT || (decide (Ob.SELFTEST_BIST_RESULT ≤ ix) && decide (ix ≤ Ob.SELFTEST_BIST_TIME)) ||
  ix == Ob.SELFTEST_EVENTS || ix == Ob.UPDATE_EVENTS || ix == Ob.MEM_EVENTS || ix == Ob.MEM_REPEAT_CORRECTED || ix == Ob.MEM_REPEAT_TABLE

/-- The objects that a chip reset returns to their defaults: volatile ones outside AON, and the source settings, which act
with their defaults until step 7 (R457). Other settings stay live until step 7 loads them. -/
def chipClears (ix : Nat) : Bool :=
  ix == Ob.FAULT_SEVERITY || ix == Ob.FAULT_REACTION ||
  (!aonKept ix && match objRow? ix with | some r => !r.saved | none => false)

/-- Slots whose save is cut short (R514). -/
def State.tornSlots (s : State) : List Nat :=
  match s.upd.save with
  | some v => v.slot :: s.upd.torn.filter (fun i => i != v.slot)
  | none => s.upd.torn

/-- Every domain but AON and MGT reads OFF, those two ON, with no vote cast (R442, R464). -/
def State.domsOff (s : State) : State :=
  forEach (fins 36) (fun d s =>
    let v : Int := if d = Dom.AON ∨ d = Dom.MGT then 2 else 0
    let s1 := if s.pwr d = v then s.account d else s.setPwr d v
    ((s1.modDom d (fun m => { since := m.since, quart := m.quart })).setReg Ob.POWER_VOTES (d.val + 1) 0).setReg
      Ob.POWER_VOTE_HOST (d.val + 1) 0 |>.setReg Ob.POWER_VOTE_FAR (d.val + 1) 0) s

/-- A chip reset (R442): every domain but AON by its cold path; start-up resumes at step 5, or at step 3 where step 4 had not
completed or a FULL run is pending. It ends a thermal shutdown (R420), every session and every waiting request. -/
def State.chipReset (s : State) (cause : Int) : State :=
  let s0 := if s.reg Ob.UPDATE_SESSION 0 = 1 then s.flashErase Part.STAGING 65536 else s
  let s1 := (s0.clearObjs (fun ix _ => chipClears ix)).domsOff
  let t := s.therm
  let s2 : State := {
    regs := s1.regs, blobs := s1.blobs, time := s1.time, lookout := { s1.lookout with chipDue := none }, doms := s1.doms
    partEA := s.partEA, gradeI := s.gradeI, savedRegs := s.savedRegs, savedBlobs := s.savedBlobs
    rxsynth := s.rxsynth.map (fun y => { band := y.band })
    therm := { diode := t.diode, corr := t.corr, raw := t.raw, exits := t.exits, noAuto := t.noAuto,
               planDue := t.planDue || s.waiting Ob.COMPASS_PLAN_NOW 0,
               dayMin := t.dayMin, day := t.day, hour := t.hour }
    start := { powered := true, resetN := s.start.resetN, delayDone := true, full := s.start.full, bistDone := s.start.bistDone,
               strap := s.start.strap }
    tap := s.tap, fuse := s.fuse, flash := s1.flash, upd := { torn := s.tornSlots }, cwCount := s.cwCount
    freeCount := s.freeCount, pending := s.pending }
  let s3 := ((s2.setReg Ob.DICT_STATE 0 0).setReg Ob.POWER_RESET_CAUSE 0 cause).bump Ob.POWER_START_COUNT 0 1
  let s4 := (s3.setReg Ob.THERMAL_THROTTLE_STEP 0 0).setReg Ob.THERMAL_STATE 0 0
  s4.setReg Ob.POWER_START_STEP 0 (if s.start.bistDone ∧ s.start.full = 0 then 4 else 2)

/-- Everything at its power-on value but the part itself, its fuses and its flash (R442). -/
def State.fresh0 (s : State) : State :=
  let f := if s.reg Ob.UPDATE_SESSION 0 = 1 then (s.flashErase Part.STAGING 65536).flash else s.flash
  { time := { now := s.time.now }, partEA := s.partEA, gradeI := s.gradeI, flash := f, upd := { torn := s.tornSlots }
    fuse := { cells := s.fuse.cells, valid := s.fuse.valid, closed := s.fuse.closed }
    doms := Vector.replicate 36 { since := s.time.now }
    freeCount := s.freeCount, pending := s.pending }

/-- Start-up reaches step 2 (R445): a start is counted. -/
def State.stepTwo (s : State) : State := (s.setReg Ob.POWER_START_STEP 0 2).bump Ob.POWER_START_COUNT 0 1

/-- POWER_ON: the supplies rise and power-on reset is released, sampling ADDR[1:0]: start-up step 1 (R442, R445, R528, R531). -/
def execPowerOn (strap : Fin 4) (s : State) : Out :=
  if s.start.powered then .next s
  else
    let s1 := s.fresh0
    .next ({ s1 with start := { powered := true, resetN := s.start.resetN, strap := strap.val } }.setReg Ob.POWER_START_STEP 0 1)

/-- POR_DELAY_EXPIRY: the device's own 100 µs; with RESET_N released they give step 2 (R445). -/
def execPorDelayExpiry (s : State) : Out :=
  if s.start.powered ∧ s.reg Ob.POWER_START_STEP 0 = 1 ∧ !s.start.delayDone then
    let s1 := { s with start := { s.start with delayDone := true } }
    .next (if s.start.resetN then s1 else s1.stepTwo)
  else .next s

/-- UNDERVOLTAGE: a supply below its monitor level asserts power-on reset; start-up waits for POWER_ON (R442, R529). -/
def execUndervoltage (s : State) : Out :=
  .next (if s.start.powered then { s.fresh0 with start := { resetN := s.start.resetN } } else s)

/-- The limit below which a thermal shutdown can end, in units of 0.1 °C (R420). -/
def State.exitLimit (s : State) : Int := s.threshold Ob.THERMAL_SHUTDOWN_C - 100

/-- RESET_N_ASSERT: an assertion that passed its filter (R442, R444, R533). In a safe state it is ignored, but below the exit
limit of a thermal shutdown with a diode that works it makes the chip reset of R420. -/
def execResetNAssert (s : State) : Out :=
  let pin := { s with start := { s.start with resetN := true } }
  if !s.start.powered then .next pin
  else if s.reg Ob.DICT_STATE 0 = 3 then
    if s.inShutdown ∧ s.reg Ob.THERMAL_TJ 0 < s.exitLimit ∧ !s.flag Ob.THERMAL_DIODE_FAIL 0 ∧ s.reg Ob.THERMAL_TJ 0 ≠ -32768 then
      .next (pin.chipReset 3)
    else .next pin
  else
    let s1 := s.fresh0
    let s2 := { s1 with
      start := { powered := true, resetN := true, delayDone := s.start.delayDone, strap := s.start.strap }
      therm := { noAuto := s.therm.noAuto } }
    let s3 := ((s2.setReg Ob.THERMAL_DIODE_FAIL 0 (s.reg Ob.THERMAL_DIODE_FAIL 0)).setReg Ob.THERMAL_OFFSET_C 0
      (s.reg Ob.THERMAL_OFFSET_C 0)).setReg Ob.THERMAL_SHUTDOWN_COUNT 0 (s.reg Ob.THERMAL_SHUTDOWN_COUNT 0)
    .next (((s3.setReg Ob.POWER_RESET_CAUSE 0 1)).setReg Ob.POWER_START_STEP 0 (if s.start.delayDone then 0 else 1))

/-- RESET_N_RELEASE: ADDR[1:0] are sampled, and once the 100 µs have passed start-up is at step 2 (R445, R531, R533). An
assertion that a safe state ignored, or that made a chip reset, releases nothing. -/
def execResetNRelease (strap : Fin 4) (s : State) : Out :=
  if s.start.resetN then
    let s1 := { s with start := { s.start with resetN := false } }
    if !s.start.powered then .next s1
    else if s.reg Ob.POWER_START_STEP 0 ≤ 1 ∧ s.reg Ob.DICT_STATE 0 = 0 then
      let s2 := { s1 with start := { s1.start with strap := strap.val } }
      .next (if s.start.delayDone then s2.stepTwo else s2)
    else .next s1
  else .next s

/-- CHIP_RESET: the chip reset that a reaction, a command, a probation or an activation has ordered (R442). A safe state
ignores it (R444). -/
def execChipReset (s : State) : Out :=
  match s.lookout.chipDue with
  | none => .next s
  | some cause =>
    if s.reg Ob.DICT_STATE 0 = 3 then .next { s with lookout := { s.lookout with chipDue := none } }
    else .next (s.chipReset cause)

/-- POWER.CHIP_RESET: the reply is placed at once and the reset ordered 1 ms later (R442). -/
def ownChipReset (s : State) : Verdict := .done (s.orderChip 4) []

/-- POWER_CHIP_RESET. -/
def execPowerChipReset (r : Req) (s : State) : Out := .next (s.serve r .exec Ob.POWER_CHIP_RESET 0 [0] ownChipReset)

/-! ## The safe state (R464) -/

/-- FAULT.SAFE_CAUSE and FAULT.SAFE_SOURCE of a cause (R475). -/
def SafeCause.code : SafeCause → Int
  | .fatal _ => 1 | .selfFault => 2 | .thermal => 3 | .chipStorm _ => 4
def SafeCause.src : SafeCause → Int
  | .fatal n => n | .chipStorm n => n | _ => 0

/-- A port in the safe state: OFF, its waiting commands answered SAFE_STATE, tests and injections over (R312, R317, R333). -/
def State.portSafe (s : State) (p : Fin 8) : State :=
  let n := p.val + 1
  let s1 := ((s.finish Ob.PORT_CMD n St.SAFE_STATE).finish Ob.PORT_TEST_START n St.SAFE_STATE).testOver p 3
  let s2 := (s1.rateEnd p).setReg Ob.TEST_INJ_SYM_PROB n 0
  (s2.portOff p St.SAFE_STATE).modPort p (fun _ => {})

/-- Answer every waiting request SAFE_STATE (R364). -/
def State.answerAll (s : State) (st : Nat) : State :=
  let all := s.mmp.pend
  forEach all (fun q s => s.reply q.req q.op q.ix q.sub st []) { s with mmp := { s.mmp with pend := [] } }

/-- Every privileged session ends (R358). -/
def State.sessionsEnd (s : State) : State :=
  { s with mmp := { s.mmp with ports := s.mmp.ports.map (fun t => { t with session := none }) } }

/-- A domain goes OFF without quiesce or seal (R464); the auxiliary outputs keep what R388 gives them. -/
def State.domCut (s : State) (d : Fin 36) : State :=
  if d = Dom.AON ∨ d = Dom.MGT ∨ d = Dom.HK then s else if s.alive d then (s.domStop d).fabricLeave d true else s

/-- The device enters the safe state (R261, R358, R364, R388, R464, R485, R501). -/
def State.safeEnter (s : State) (cause : SafeCause) : State :=
  if s.reg Ob.DICT_STATE 0 = 3 then s
  else
    let s1 := forEach ((fins 8).filter s.exists) (fun p s => s.portSafe p) s
    let s2 := forEach (fins 36) (fun d s => s.domCut d) s1
    let s3 := forEach (fins 8) (fun l s => s.fixedDown l) s2
    let s4 := (forEach (fins 16) (fun h s => s.hostStop h) s3).hkSafe
    let s5 := (s4.sessionEnd.analogAbort (fun _ => true)).answerAll St.SAFE_STATE
    let s6 := s5.domsOff.sessionsEnd
    let s7 := { s6 with
      lookout := { s6.lookout with safeDue := none, chipDue := none }, breakoutRun := none
      start := { s6.start with select := Vector.replicate 2 false } }
    (((s7.setReg Ob.DICT_STATE 0 3).setReg Ob.FAULT_SAFE_CAUSE 0 cause.code).setReg Ob.FAULT_SAFE_SOURCE 0 cause.src).setStamp
      Ob.FAULT_SAFE_TIME 0

/-- SAFE_STATE_ENTRY: the cause that drives it takes the device into the safe state (R464). -/
def execSafeStateEntry (s : State) : Out :=
  match s.lookout.safeDue with
  | some cause => .next (if s.reg Ob.DICT_STATE 0 = 3 then { s with lookout := { s.lookout with safeDue := none } } else s.safeEnter cause)
  | none => .next s

/-- SELF_FAULT: a parity error in LOOKOUT's storage: 1 configuration, 2 log, 3 pending bits or counters; straight into the
safe state, with no record, and FAULT.SAFE_CAUSE reads SELF_FAULT (R466, R474). -/
def execSelfFault (cause : Fin 3) (s : State) : Out :=
  if s.start.powered then
    let s1 := (s.setReg Ob.FAULT_SELF_FAULT 0 (cause.val + 1 : Nat)).safeEnter .selfFault
    .next ((s1.setReg Ob.FAULT_SAFE_CAUSE 0 2).setReg Ob.FAULT_SAFE_SOURCE 0 0)
  else .next s

/-- THERMAL_SHUTDOWN: the tick's THERMAL.TJ, or the diode conversion, shows the SHUTDOWN threshold (R416, R419). -/
def execThermalShutdown (byDiode : Bool) (s : State) : Out :=
  let tj := if byDiode then s.reg Ob.THERMAL_DIODE 0 else s.reg Ob.THERMAL_TJ 0
  if s.start.powered ∧ s.reg Ob.DICT_STATE 0 ≠ 3 ∧ s.threshold Ob.THERMAL_SHUTDOWN_C ≤ tj then
    let s1 := (s.safeEnter .thermal).setReg Ob.THERMAL_STATE 0 3
    .next ((s1.bump Ob.THERMAL_SHUTDOWN_COUNT 0 1).raise Src.THERMAL_SHUTDOWN 0 ((tj % 65536).toNat + 65536 * byDiode.toNat)
      Ob.THERMAL_EVENTS 0)
  else .next s

/-! ## Acceptance of records (R458 to R463, R465) -/

/-- A record's 24 bytes (R459). -/
def LogRec.bytes (r : LogRec) : List Byte :=
  leBytes 1 r.src ++ leBytes 1 r.sev ++ leBytes 1 r.epoch ++ leBytes 1 r.flags ++ leBytes 2 r.seq ++ leBytes 2 r.reac ++
    leBytes 12 r.time ++ leBytes 4 r.detail

/-- Drop the oldest record whose severity is at or below a new one's, from a log that stands newest first; none where every
record outranks it (R459). -/
def dropOldest (sev : Nat) (log : List LogRec) : Option (List LogRec) :=
  let oldest := (List.range log.length).reverse.find? (fun i => match log[i]? with | some r => decide (r.sev ≤ sev) | none => false)
  oldest.map (fun i => log.take i ++ log.drop (i + 1))

/-- Write a record to the log (R459); one that finds no place counts in FAULT.LOG_DROPPED. Returns the record as it stands. -/
def State.logWrite (s : State) (src sev flags reac detail : Nat) : State × LogRec :=
  let log := s.lookout.log
  let kept := if log.length < 64 then some log else dropOldest sev log
  let seq := s.nat Ob.FAULT_LOG_SEQ 0
  let mk (q : Nat) : LogRec := ⟨src, sev, s.nat Ob.TIME_EPOCH 0 % 256, flags, q, reac, s.stamp, detail⟩
  match kept with
  | some rest =>
    let q := (seq + 1) % 65536
    let s1 := { s with lookout := { s.lookout with log := mk q :: rest } }
    ((s1.setReg Ob.FAULT_LOG_SEQ 0 (q : Int)).setReg Ob.FAULT_LOG_COUNT 0 (rest.length + 1 : Nat), mk q)
  | none => (s.bump Ob.FAULT_LOG_DROPPED 0 1, mk seq)

/-- Set a source's bit in a pending object (R456, R475). -/
def State.setPending (s : State) (ix src : Nat) : State :=
  let b := s.blob ix 0
  s.setBlob ix 0 (b.set (src / 8) (BitVec.ofNat 8 (withBit (b.getD (src / 8) 0).toNat (src % 8) true)))

/-- Count a chip reset that a reaction causes (R463): false for the fifth within 60 s. -/
def State.stormCount (s : State) : State × Bool :=
  let recent := s.lookout.storms.filter (fun t => decide (s.time.now - t < 60 * refclkHz))
  if 4 ≤ recent.length then ({ s with lookout := { s.lookout with storms := recent } }, false)
  else ({ s with lookout := { s.lookout with storms := s.time.now :: recent } }, true)

/-- What a record's BLOCK and CHIP reactions come to: nothing, a block reset, or a chip reset (R443, R458, R462, R474). -/
inductive ResetKind where
  | nothing | block (d : Fin 36) | chip
  deriving DecidableEq, Repr

/-- The reset that a mask asks for. -/
def State.resetOf (s : State) (mask src detail : Nat) : ResetKind :=
  if bitOf mask 3 then .chip
  else if bitOf mask 2 then
    match s.blockDomain src detail with
    | some d => if d = Dom.AON ∨ d = Dom.MGT then .chip else if s.pwr d = 0 ∨ s.pwr d = 1 then .nothing else .block d
    | none => .chip
  else .nothing

/-- Keep the reactions of a mask that are applied: a CHIP reset is taken alone, a BLOCK of a domain at rest is none. -/
def appliedMask (mask : Nat) (kind : ResetKind) : Nat :=
  match kind with
  | .nothing => withBit mask 2 false
  | .block _ => mask
  | .chip => if bitOf mask 3 then withBit mask 2 false else mask

/-- Accept a record (R458): the log, the counts, INT and EPIN, TRAP, then BLOCK or CHIP. In the safe state only INT and EPIN
act (R465); a FATAL record takes the device there (R456). -/
def State.acceptRec (s : State) (q : QueuedRec) : State :=
  let sev := min 4 (s.severity q.src + q.raised.toNat)
  let s0 := if sev = 4 then s.safeEnter (.fatal q.src) else s
  let safe := s0.reg Ob.DICT_STATE 0 == 3
  let mask0 := s0.nat Ob.FAULT_REACTION q.src
  let mask := if safe then mask0 &&& 17 else mask0
  let kind := s0.resetOf mask q.src q.detail
  let (s1, go) := if kind = .chip then s0.stormCount else (s0, true)
  let applied := if go then appliedMask mask kind else withBit (withBit mask 2 false) 3 false
  let flags := safe.toNat + 2 * q.raised.toNat + 4 * (!go).toNat
  let (s2, rec) := s1.logWrite q.src sev flags applied q.detail
  let s3 := s2.bump Ob.FAULT_SRC_COUNT q.src 1
  let hi := s3.reg Ob.FAULT_HIGHEST 0
  let s4 := if hi = 255 ∨ hi < sev then s3.setReg Ob.FAULT_HIGHEST 0 (sev : Int) else s3
  let s5 := if bitOf applied 0 then s4.setPending Ob.FAULT_INT_PENDING q.src else s4
  let s6 := if bitOf applied 4 then s5.setPending Ob.FAULT_ERR_PENDING q.src else s5
  let s7 := if (bitOf applied 0 || bitOf applied 1) ∧ s6.pwr Dom.MGT ≠ 2 then s6.mgtCall else s6
  let s8 := if bitOf applied 1 then s7.setBlob Ob.FAULT_TRAP_RECORD 0 rec.bytes else s7
  match kind with
  | .nothing => s8
  | .block d => s8.blockReset d
  | .chip => if go then s8.orderChip 2 else s8.safeEnter (.chipStorm q.src)

/-- LOOKOUT_RECORD_ACCEPT: the collector takes the first record of its input queue (R458); a FATAL one that found the queue
full then follows into it. -/
def execLookoutRecordAccept (s : State) : Out :=
  match s.lookout.queue with
  | [] => .next s
  | q :: rest =>
    let (rest', late') := match s.lookout.late with | f :: fs => (rest ++ [f], fs) | [] => (rest, [])
    .next ({ s with lookout := { s.lookout with queue := rest', late := late' } }.acceptRec q)

/-! ## The fault objects' own rules -/

/-- A write of 1s to FAULT.INT_PENDING or FAULT.ERR_PENDING clears those bits (R460). -/
def ownPending (ix : Nat) (bs : List Byte) (s : State) : Verdict :=
  .done (s.setBlob ix 0 (List.zipWith (fun o n => o &&& ~~~n) (s.blob ix 0) bs)) []

/-- INT_PENDING_WRITE. -/
def execIntPendingWrite (r : Req) (bs : List Byte) (s : State) : Out :=
  .next (s.serve r .write Ob.FAULT_INT_PENDING 0 bs (ownPending Ob.FAULT_INT_PENDING bs))

/-- ERR_PENDING_WRITE. -/
def execErrPendingWrite (r : Req) (bs : List Byte) (s : State) : Out :=
  .next (s.serve r .write Ob.FAULT_ERR_PENDING 0 bs (ownPending Ob.FAULT_ERR_PENDING bs))

/-- FAULT.LOG_CLEAR: the log empties and FAULT.HIGHEST reads 0xFF (R459). -/
def ownLogClear (s : State) : Verdict :=
  .done (({ s with lookout := { s.lookout with log := [] } }.setReg Ob.FAULT_LOG_COUNT 0 0).setReg Ob.FAULT_HIGHEST 0 255) []

/-- FAULT_LOG_CLEAR. -/
def execFaultLogClear (r : Req) (s : State) : Out := .next (s.serve r .exec Ob.FAULT_LOG_CLEAR 0 [0] ownLogClear)

/-- FAULT.RAISE: HOST_TEST with the argument as its detail word (R473). -/
def ownFaultRaise (v : Nat) (s : State) : Verdict := .done (s.raiseFree Src.HOST_TEST v) []

/-- FAULT_RAISE. -/
def execFaultRaise (r : Req) (v : Nat) (s : State) : Out :=
  .next (s.serve r .exec Ob.FAULT_RAISE 0 (leBytes 4 v) (ownFaultRaise (leNat (leBytes 4 v))))

/-- A write of FAULT.SEVERITY or FAULT.REACTION: not at an unassigned number nor at TRAILHEAD_HOLD (R457). -/
def ownFaultSetting (ix sub : Nat) (v : Int) (s : State) : Verdict :=
  if (srcRow? sub).isNone ∨ sub = Src.TRAILHEAD_HOLD then .deny St.CONFIG_CONFLICT else storeVal ix sub v s

end Sys2Proof.Machine
end

