-- ==== Sys2Proof/Machine/Life.lean ====
section
/-! DEFINITION. Fuses, analogue self-checks, the request for a logic BIST, and the life cycle (chapter 19). -/

namespace Sys2Proof.Machine

/-! ## The fuse array (R477 to R479) -/

/-- A word of the array as its cells stand: a module word whose VALID cell is intact reads 0 (R477). -/
def State.fuseCell (s : State) (w : Nat) : Nat := s.fuse.cells.get (fun _ => 0) w
def moduleWord (w : Nat) : Bool := (decide (16 ≤ w) && decide (w ≤ 22)) || (decide (64 ≤ w) && decide (w ≤ 127))
def State.fuseSensed (s : State) (w : Nat) : Nat := if moduleWord w ∧ !s.fuse.valid.contains w then 0 else s.fuseCell w

/-- FUSE.PROGRAM (R479): the word's data and check cells and last its VALID cell are blown and verified; a cell that fails
after its retries leaves VALID intact and closes the word for good. -/
def ownFuseProgram (fail : Option Nat) (s : State) : Verdict :=
  let w := s.nat Ob.FUSE_PROG_WORD 0
  if !moduleWord w then .deny St.RANGE
  else if s.fuseCell w ≠ 0 ∨ s.fuse.valid.contains w ∨ s.fuse.closed.contains w then .deny St.CONFIG_CONFLICT
  else match fail with
    | none =>
      .done { s with fuse := { s.fuse with
        cells := s.fuse.cells.put (fun _ => 0) w (s.nat Ob.FUSE_PROG_DATA 0), valid := w :: s.fuse.valid } } []
    | some cell =>
      let s1 := { s with fuse := { s.fuse with closed := w :: s.fuse.closed } }
      .fail (s1.raise Src.FUSE_PROG_FAIL 0 (w + 256 * (cell % 128)) Ob.SELFTEST_EVENTS 0) St.CONFIG_CONFLICT

/-- FUSE_PROGRAM: with the cell that still fails after its retries, if one does. -/
def execFuseProgram (r : Req) (fail : Option Nat) (s : State) : Out :=
  .next (s.serve r .exec Ob.FUSE_PROGRAM 0 [0] (ownFuseProgram fail))

/-! ## The life cycle (R490 to R493) -/

/-- The life-cycle state that word 4 spells (R490); none for an invalid STAGE. -/
def lifeCycleOf (w : Nat) : Option Nat :=
  if bitOf w 4 then some 5
  else match w % 16 with
    | 0 => some 0 | 1 => some 1 | 3 => some 2 | 7 => some 3 | 15 => some 4 | _ => none

/-- Blow a bit of word 4; the new state applies from step 3 of the next start, and LC_TRANSITION is raised (R490, R491). -/
def State.lcBlow (s : State) (bit new : Nat) : State :=
  let w := withBit (s.fuseCell 4) bit true
  let s1 := { s with fuse := { s.fuse with cells := s.fuse.cells.put (fun _ => 0) 4 w } }
  (s1.setReg Ob.LC_NEXT 0 (new : Int)).raise Src.LC_TRANSITION 0 (s.nat Ob.LC_STATE 0 + 256 * new) Ob.SELFTEST_EVENTS 0

/-- Whether each MODULE_KEY word has its VALID cell blown and read well (R477, R491). -/
def State.moduleKeyGood (s : State) : Bool :=
  (List.range 7).all (fun i => s.fuse.valid.contains (16 + i) && !s.fuse.bad.contains (16 + i))

/-- LC.ADVANCE (R491). -/
def ownLcAdvance (path : Path) (v : Int) (s : State) : Verdict :=
  let lc := s.nat Ob.LC_STATE 0
  if lc = 0 ∧ (s.tp path).session ≠ some .vendor then .deny St.ACCESS_REFUSED
  else if v ≠ (lc + 1 : Nat) then .deny St.RANGE
  else if s.reg Ob.LC_NEXT 0 ≠ s.reg Ob.LC_STATE 0 then .deny St.CONFIG_CONFLICT
  else if lc = 1 ∧ !s.moduleKeyGood then .deny St.CONFIG_CONFLICT
  else .done (s.lcBlow lc (lc + 1)) []

/-- LC_ADVANCE. -/
def execLcAdvance (r : Req) (v : Nat) (s : State) : Out :=
  .next (s.serve r .exec Ob.LC_ADVANCE 0 (leBytes 1 v) (ownLcAdvance r.path (leNat (leBytes 1 v) : Nat)))

/-- LC.RETIRE (R491): also while another transition is pending. -/
def ownLcRetire (s : State) : Verdict := .done (s.lcBlow 4 5) []

/-- LC_RETIRE. -/
def execLcRetire (r : Req) (s : State) : Out := .next (s.serve r .exec Ob.LC_RETIRE 0 [0] ownLcRetire)

/-- A read of LC.CHALLENGE: fresh bytes, pending for its own transport alone (R492). -/
def ownLcChallenge (path : Path) (s : State) : Verdict :=
  let (s1, n) := s.fresh
  let c := Config.randomBytes n
  .done (s1.modTp path (fun t => { t with lcChallenge := some c })) c

/-- LC_CHALLENGE_READ. -/
def execLcChallengeRead (r : Req) (s : State) : Out :=
  .next (s.serve r .read Ob.LC_CHALLENGE 0 [] (ownLcChallenge r.path))

/-- LC.RETURN (R492): the token is verified against VENDOR_KEY over the serial number, 0x04 and the transport's pending
challenge, which serves this one attempt. -/
def ownLcReturn (path : Path) (token : List Byte) (s : State) : Verdict :=
  if s.reg Ob.LC_NEXT 0 ≠ s.reg Ob.LC_STATE 0 then .deny St.CONFIG_CONFLICT
  else
    let s1 := s.modTp path (fun t => { t with lcChallenge := none })
    let good : Bool := match (s.tp path).lcChallenge with
      | some c => Config.ecdsaVerify s.vendorKey (beBytes 8 (s.fuseWord 2) ++ [0x04] ++ c) token
      | none => false
    if good then .done (s1.lcBlow 3 4) []
    else .fail (s1.raise Src.LC_TOKEN_FAIL 0 path.sub Ob.SELFTEST_EVENTS 0) St.AUTH_FAIL

/-- LC_RETURN. -/
def execLcReturn (r : Req) (token : List Byte) (s : State) : Out :=
  .next (s.serve r .exec Ob.LC_RETURN 0 token (ownLcReturn r.path token))

/-! ## Analogue self-checks (R482 to R485) -/

/-- SELFTEST.ANALOG_RUN (R482). -/
def ownAnalogRun (v : Nat) (s : State) : Verdict :=
  if s.analog.running ≠ [] ∨ s.analog.waiting ≠ [] then .deny St.BUSY
  else
    let s1 := (s.modAnalog (fun _ => { waiting := (List.range 26).filter (bitOf v) })).analogNext
    if s1.analog.running = [] ∧ s1.analog.waiting = [] then .done s1 [] else .later s1

/-- SELFTEST_ANALOG_RUN. -/
def execSelftestAnalogRun (r : Req) (v : Nat) (s : State) : Out :=
  .next (s.serve r .exec Ob.SELFTEST_ANALOG_RUN 0 (leBytes 4 v) (ownAnalogRun (leNat (leBytes 4 v))))

/-- Whether a check passes (R483). -/
def State.analogPass (s : State) (i : Nat) (m : AnalogMeas) : Bool :=
  match itemLane i with
  | some l =>
    s.reg Ob.LINE_ADC_CAL_RESULT (l.val + 1) == 1 && s.txSynth l != 5 && m.errors == 0 && decide (18 * 256 ≤ m.snr)
  | none =>
    if i < 24 then m.errors == 0 && decide (16 * 256 ≤ m.snr)
    else if i = 24 then decide (m.dev ≤ 4) else decide (m.dev ≤ 8)

/-- SELFTEST.ANALOG_DETAIL of an item (R483). -/
def analogDetail (i : Nat) (m : AnalogMeas) : Nat :=
  if i < 24 then min 65535 m.snr + 65536 * min 65535 m.errors else min 65535 m.dev + 65536 * (m.worst % 256)

/-- Whether a lane's calibrations in its check still run. -/
def State.analogCalibrates (s : State) (i : Nat) : Bool :=
  match itemLane i with
  | some l => s.adc[l].fgRun || s.adc[l].fgWait || s.txState l == 1
  | none => false

/-- ANALOG_CHECK_DONE: a running check of an item ends with what it measured, PASS or FAIL, and the next wave begins when its
own has ended (R483, R484, R495). -/
def execAnalogCheckDone (item : Fin 26) (m : AnalogMeas) (s : State) : Out :=
  let i := item.val
  if s.analog.running.contains i ∧ !s.analogCalibrates i then
    let pass := s.analogPass i m
    let d := analogDetail i m
    let s1 := (s.modAnalog (fun a => { a with running := a.running.filter (fun j => j != i) })).analogSet i (if pass then 2 else 3)
    let s2 := (s1.setReg Ob.SELFTEST_ANALOG_DETAIL (i + 1) (d : Int)).bump Ob.SELFTEST_ANALOG_COUNT (i + 1) 1
    let s3 := if pass then s2 else s2.raise Src.SELFTEST_ANALOG_FAIL i (i + 65536 * (d % 65536)) Ob.SELFTEST_EVENTS 0
    .next s3.analogNext
  else .next s

/-! ## Logic BIST on request (R489) -/

/-- SELFTEST.BIST_RUN (R489): the reply first, then a chip reset whose start runs the FULL set on the named islands. -/
def ownBistRun (v : Nat) (s : State) : Verdict :=
  if s.anyPortUp then .deny St.CONFIG_CONFLICT
  else .done (({ s with start := { s.start with full := v % 256 } }).orderChip 4) []

/-- SELFTEST_BIST_RUN. -/
def execSelftestBistRun (r : Req) (v : Nat) (s : State) : Out :=
  .next (s.serve r .exec Ob.SELFTEST_BIST_RUN 0 (leBytes 4 v) (ownBistRun (leNat (leBytes 4 v))))

end Sys2Proof.Machine
end

