-- ==== Sys2Proof/Machine/Mem.lean ====
section
/-! DEFINITION. The protection of the on-chip memories (R467 to R474): corrections, hard faults and spares, uncorrectable
words and what their requesters do, the ROM and the fuse shadow, and scrubbing. -/

namespace Sys2Proof.Machine

/-- Words of 64 bits in a group (R467). -/
def groupWords (g : Nat) : Nat :=
  if g = 29 ∨ g = 31 ∨ g = 43 then 131072
  else if g = 32 ∨ g = 33 then 196608
  else if 34 ≤ g ∧ g ≤ 41 then 65536
  else 262144

/-- Change a group's record. -/
def State.modMem (s : State) (g : Fin 44) (f : MemGroup → MemGroup) : State := { s with mem := s.mem.set g (f s.mem[g]) }

/-- The detail word of a memory source (R473): group, word, and bit 24 for a scrub read. -/
def memDetail (g word : Nat) (scrub : Bool) : Nat := g + 64 * (word % 262144) + if scrub then 16777216 else 0

/-- An access to a word counts where the word is watched (R469). -/
def MemGroup.access (m : MemGroup) (word : Nat) : MemGroup :=
  { m with watch := m.watch.map (fun w => if w.1 = word then (w.1, w.2 + 1) else w) }

/-- A written-back word is watched, its verify read the first access; a ninth displaces the one with the most accesses
(R469). -/
def MemGroup.watchWord (m : MemGroup) (word : Nat) : MemGroup :=
  let others := m.watch.filter (fun w => w.1 != word)
  let most := others.foldl (fun n w => max n w.2) 0
  let kept := if others.length < 8 then others else match others.reverse.find? (fun w => w.2 == most) with
    | some w => others.erase w
    | none => others
  { m with watch := (word, 1) :: kept }

/-- The place of the first free spare of a group (R469, R475). -/
def State.freeSpare (s : State) (g : Fin 44) : Option Nat :=
  let b := s.blob Ob.MEM_SPARE_ADDR (g.val + 1)
  (List.range 8).find? (fun k => u32At b (4 * k) == 0xFFFFFFFF)

/-- A hard fault (R469): the word moves to a free spare; where none is left it stays, and its record carries its severity one
step up. -/
def State.hardFault (s : State) (g : Fin 44) (word : Nat) : State :=
  let n := g.val + 1
  let s1 := s.bump Ob.MEM_HARD_FAULTS n 1
  match s.freeSpare g with
  | some k =>
    let b := s.blob Ob.MEM_SPARE_ADDR n
    let s2 := (s1.setBlob Ob.MEM_SPARE_ADDR n (b.take (4 * k) ++ leBytes 4 word ++ b.drop (4 * k + 4))).bump8 Ob.MEM_SPARES_USED n 1
    (s2.modMem g (fun m => { m with watch := m.watch.filter (fun w => w.1 != word) })).raise Src.MEM_HARD_FAULT g.val
      (memDetail g.val word false) Ob.MEM_EVENTS 0
  | none =>
    let s2 := (s1.bump Ob.MEM_EVENTS 0 1).capFault Src.MEM_HARD_FAULT
    if (Src.MEM_HARD_FAULT, g.val) ∈ s2.lookout.given then s2
    else ({ s2 with lookout := { s2.lookout with given := (Src.MEM_HARD_FAULT, g.val) :: s2.lookout.given } }).offer
      Src.MEM_HARD_FAULT (memDetail g.val word false + 33554432) true

/-- A correction in a group (R468). -/
def State.memCorrected (s : State) (g : Fin 44) (word : Nat) (scrub : Bool) : State :=
  (s.bump64 Ob.MEM_CORRECTED (g.val + 1) 1).raise Src.MEM_CORRECTED g.val (memDetail g.val word scrub) Ob.MEM_EVENTS 0

/-- A word with one bit in error (R468, R469): corrected, written back and verified; a hard fault where a watched word corrects
again within its first 64 accesses, the verify read the first of them. -/
def State.memOneBit (s : State) (g : Fin 44) (word : Nat) (scrub again : Bool) : State :=
  let s1 := s.memCorrected g word scrub
  let early := s1.mem[g].watch.any (fun w => w.1 == word && decide (w.2 ≤ 64))
  let s2 := s1.modMem g (fun m => m.watchWord word)
  let s3 := if again then s2.memCorrected g word scrub else s2
  if early || again then s3.hardFault g word else s3

/-- The places of the two bits of a word that are in error: free values. -/
def State.badBits (s : State) : State × Nat × Nat :=
  let (s1, a) := s.fresh
  let (s2, b) := s1.fresh
  let i := Config.freeValue a % 64
  (s2, i, (i + 1 + Config.freeValue b % 63) % 64)

/-- The bits of a codeword, and the bytes of the capture buffer, as read with two bits of a word in error (R470). -/
def flipBits (bits : List Bool) (part i j : Nat) : List Bool := (bits.modify (64 * part + i) not).modify (64 * part + j) not
def flipBytes (bs : List Byte) (word i j : Nat) : List Byte :=
  let flip (k : Nat) (b : List Byte) : List Byte := b.modify (8 * word + k / 8) (fun x => x ^^^ BitVec.ofNat 8 (2 ^ (k % 8)))
  flip j (flip i bs)

/-- LLRs with the 16 of a word taken as 0 (R470). -/
def zeroLlrs (q : List Int) (part : Nat) : List Int :=
  q.take (16 * part) ++ List.replicate (min 16 (q.length - 16 * part)) 0 ++ q.drop (16 * part + 16)

/-- What the requester of an uncorrectable word does (R470). -/
def State.memRequester (s : State) (g : Fin 44) (word : Nat) (user : MemUser) : State :=
  match user with
  | .frame p seq =>
    if g.val ≤ 6 ∨ (14 ≤ g.val ∧ g.val ≤ 20) then (s.writeOff p seq (some false)).linkCounts p
    else if g.val ≤ 27 then s.heldError p seq else s
  | .codeword l order part =>
    if 28 ≤ g.val ∧ g.val ≤ 31 then
      s.modCw l order (fun c => { c with q := zeroLlrs c.q part })
    else if g.val = 32 ∨ g.val = 33 then
      let (s1, i, j) := s.badBits
      s1.modCw l order (fun c => { c with status := if c.status = 0 then 1 else c.status, hard := flipBits c.hard part i j })
    else s
  | .engine offset =>
    if h : 34 ≤ g.val ∧ g.val ≤ 41 then
      s.engAccess (engineOf ⟨g.val - 34, by omega⟩ ⟨word / 4096 % 16, by omega⟩) true offset
    else s
  | .other =>
    if g.val = 42 then
      let (s1, i, j) := s.badBits
      s1.setBlob Ob.TEST_CAP_DATA 0 (flipBytes (s.blob Ob.TEST_CAP_DATA 0) word i j)
    else s
  | .scrub => s

/-- An uncorrectable word (R470): not written back; its record, and what its requester does. -/
def State.memTwoBits (s : State) (g : Fin 44) (word : Nat) (user : MemUser) : State :=
  let s1 := s.bump64 Ob.MEM_UNCORRECTABLE (g.val + 1) 1
  let s2 := if g.val = 43 then s1.raise Src.MEM_UNCORRECTABLE_MGT g.val (memDetail g.val word false) Ob.MEM_EVENTS 0
    else s1.raise Src.MEM_UNCORRECTABLE g.val (memDetail g.val word (decide (user = .scrub))) Ob.MEM_EVENTS 0
  s2.memRequester g word user

/-- The addresses and counts of a repeat table (R475), and back to bytes. -/
def repeatTable (b : List Byte) : List (Nat × Nat) := (List.range 16).map (fun i => (u32At b (6 * i), u16At b (6 * i + 4)))
def repeatBytes (t : List (Nat × Nat)) : List Byte := (t.map (fun e => leBytes 4 e.1 ++ leBytes 2 e.2)).flatten

/-- A correction in the ROM (1) or the fuse shadow (2) (R471): the address counts in the table of 16, a new one in place of the
entry with the lowest count; reaching the threshold raises MEM_REPEAT_CORRECTED once. -/
def State.repeatCorrected (s : State) (which word : Nat) : State :=
  let t := repeatTable (s.blob Ob.MEM_REPEAT_TABLE which)
  let known := t.any (fun e => e.1 == word && e.2 != 0)
  let low := t.foldl (fun n e => min n e.2) 65535
  let place := (t.findIdx (fun e => if known then e.1 == word && e.2 != 0 else e.2 == low))
  let count := if known then min 65535 ((t.getD place (0, 0)).2 + 1) else 1
  let s1 := (s.setBlob Ob.MEM_REPEAT_TABLE which (repeatBytes (t.set place (word, count)))).bump64 Ob.MEM_REPEAT_CORRECTED which 1
  if count = s.nat Ob.MEM_REPEAT_THRESH 0 then
    s1.raise Src.MEM_REPEAT_CORRECTED (60 + which) (memDetail (61 + which) word false) Ob.MEM_EVENTS 0
  else s1

/-- A read of the ROM or the fuse shadow that found an error (R471). -/
def State.fixedRead (s : State) (which word errs : Nat) : State :=
  if errs = 0 then s
  else if errs = 1 then s.repeatCorrected which word
  else s.raise Src.MEM_ROM_UNCORRECTABLE (60 + which) (memDetail (61 + which) word false) Ob.MEM_EVENTS 0

/-- One read (R468 to R471). A scrub read is of the word the group has just scrubbed. -/
def State.memRead (s : State) (r : MemRead) (scrubbed : Fin 44 → Option Nat) : State :=
  match r.place with
  | .rom => s.fixedRead 1 r.word r.errs
  | .shadow => s.fixedRead 2 r.word r.errs
  | .group g =>
    let scrub := decide (r.user = .scrub)
    let word : Option Nat := if scrub then scrubbed g else if s.alive (memDom g.val) then some (r.word % groupWords g.val) else none
    match word with
    | none => s
    | some w =>
      let s1 := if scrub then s else s.modMem g (fun m => m.access w)
      if r.errs = 0 then s1 else if r.errs = 1 then s1.memOneBit g w scrub r.again else s1.memTwoBits g w r.user

/-- The word after another in a group, wrapping at the end (R472). -/
def nextWord (g w : Nat) : Nat := if w + 1 < groupWords g then w + 1 else 0

/-- The word that a group scrubs in a microsecond with these reads: the next in order, or the one after it where a requester reads
that word (R472, R474). DEDUCED (log entry 209). -/
def State.scrubWord (s : State) (g : Fin 44) (reads : List MemRead) : Nat :=
  let w := s.mem[g].scrub
  let taken := reads.any (fun r => decide (r.place = .group g) && decide (r.user ≠ .scrub) && r.word % groupWords g.val == w)
  if taken then nextWord g.val w else w

/-- A group scrubs a word; a pass is complete with the last word in order (R472). -/
def State.scrubNext (s : State) (g : Fin 44) (w : Nat) : State :=
  let s1 := s.modMem g (fun m => { (m.access w) with scrub := nextWord g.val w })
  if w < s.mem[g].scrub ∨ nextWord g.val w = 0 then s1.bump Ob.MEM_SCRUB_PASSES (g.val + 1) 1 else s1

/-- MEM_SCRUB_READ: every 1 µs each group whose domain is ON scrubs one word (R472); with the reads of that microsecond that
found errors, the scrubber's and the requesters' (R468 to R471). -/
def execMemScrubRead (reads : List MemRead) (s : State) : Out :=
  let runs (g : Fin 44) : Bool := s.flag Ob.MEM_SCRUB_ENABLE 0 && s.on (memDom g.val)
  if s.start.powered then
    let s1 := forEach ((fins 44).filter runs) (fun g t => t.scrubNext g (s.scrubWord g reads)) s
    .next (forEach reads (fun r t => t.memRead r (fun g => if runs g then some (s.scrubWord g reads) else none)) s1)
  else .next s

end Sys2Proof.Machine
end

