-- ==== Sys2Proof/Machine/Settings.lean ====
section
/-! DEFINITION. The settings slots of the boot flash: their layout (R512), which slot start-up reads and how its entries are
applied (R513), and which slot a save writes (R514). -/

namespace Sys2Proof.Machine

/-! ## What is saved (R340, R512) -/

/-- Whether an object's value is saved. An alias has no value of its own. -/
def savedObj (ix : Nat) : Bool :=
  match objRow? ix with
  | some r => r.saved && ix != Ob.RETRY_WINDOW
  | none => false

/-- The subindices at which an object holds a value. -/
def elements (r : ObjRow) : List Nat := if r.hi = 0 then [0] else (List.range r.hi).map (· + 1)

/-- The saved objects in index order. -/
def savedRows : List ObjRow := objTable.filter (fun r => r.saved && r.ix != Ob.RETRY_WINDOW)

/-- The present values of the saved objects, as the stores hold them. -/
def State.liveRegs (s : State) : Store Int := s.regs.filter (fun c => savedObj (c.1 / 256))
def State.liveBlobs (s : State) : Store (List Byte) := s.blobs.filter (fun c => savedObj (c.1 / 256))

/-- Take the present values as those that the last save holds. -/
def State.captureSaved (s : State) : State := { s with savedRegs := s.liveRegs, savedBlobs := s.liveBlobs }

/-- DICT.SAVE_PENDING (R340): a saved object differs from the last save, or the last save failed. -/
def State.savePending (s : State) : Bool :=
  s.upd.saveFailed || decide (s.liveRegs ≠ s.savedRegs) || decide (s.liveBlobs ≠ s.savedBlobs)

/-! ## The slot's bytes (R512) -/

/-- One entry of a slot's body. -/
def State.slotEntry (s : State) (r : ObjRow) (sub : Nat) : List Byte :=
  let v := if r.ty.isBytes then s.blob r.ix sub else leInt r.len (s.reg r.ix sub)
  leBytes 2 r.ix ++ leBytes 1 sub ++ leBytes 1 r.ty.code ++ leBytes 2 v.length ++ v

/-- The body: every saved object in ascending order of index, then subindex. -/
def State.slotBody (s : State) : List Byte :=
  (savedRows.map (fun r => ((elements r).map (s.slotEntry r)).flatten)).flatten

/-- A slot's header and body; `seq` is its SAVE_SEQ. -/
def State.slotImage (s : State) (seq : Nat) (probation : Bool) : List Byte :=
  let body := s.slotBody
  let head := leBytes 2 0x5E77 ++ leBytes 2 (s.nat Ob.DICT_SCHEMA_VERSION 0) ++ leBytes 4 seq ++
    leBytes 4 (s.nat Ob.ID_IMAGE_VERSION 0) ++ leBytes 1 probation.toNat ++ leBytes 3 0 ++ leBytes 4 body.length ++
    leBytes 12 s.stamp ++ List.replicate 28 0
  head ++ leBytes 4 (crc32c (head ++ body)) ++ body

/-- A slot's header. -/
def State.slotHead (s : State) (slot : Nat) : List Byte := s.flashRead (slotBase slot) 64

/-- Whether a slot is valid: its last write was not cut short, and its MAGIC, its length and its CRC pass. -/
def State.slotValid (s : State) (slot : Nat) : Bool :=
  let h := s.slotHead slot
  let len := u32At h 16
  !s.upd.torn.contains slot && u16At h 0 == 0x5E77 && decide (len ≤ 393152) &&
    u32At h 60 == crc32c (h.take 60 ++ s.flashRead (slotBase slot + 64) len)

/-- Whether a slot is readable by the running image (R513). -/
def State.slotReadable (s : State) (slot : Nat) : Bool :=
  let h := s.slotHead slot
  let m := s.manifest (runBase s.upd.loaded)
  s.slotValid slot && decide (u16At m 14 ≤ u16At h 2) && decide (u16At h 2 ≤ u16At m 12) &&
    (!bitOf (u8At h 12) 0 || u32At h 8 == s.nat Ob.ID_IMAGE_VERSION 0)

/-- The SAVE_SEQ of a slot. -/
def State.slotSeq (s : State) (slot : Nat) : Nat := u32At (s.slotHead slot) 4

/-- The newest of the slots that a test admits. -/
def State.newestSlot (s : State) (ok : Nat → Bool) : Option Nat :=
  match ok 0, ok 1 with
  | true, true => if s.slotSeq 0 < s.slotSeq 1 then some 1 else some 0
  | true, false => some 0
  | false, true => some 1
  | false, false => none

/-- Whether both slots are wholly erased (R513). -/
def State.slotsErased (s : State) : Bool := s.upd.torn.isEmpty && s.flashErased Part.SETTINGS_A (2 * slotSize)

/-! ## Reading a slot (R513) -/

/-- The entries of a body: index, subindex and value bytes. The first argument bounds their number. -/
def slotEntries : Nat → List Byte → List (Nat × Nat × List Byte)
  | 0, _ => []
  | n + 1, b =>
    if b.length < 6 then []
    else (u16At b 0, u8At b 2, (b.drop 6).take (u16At b 4)) :: slotEntries n (b.drop (6 + u16At b 4))

/-- What an entry sets: an alias's entry is applied to its target; one that the running schema does not hold is dropped. -/
def entryTarget (e : Nat × Nat × List Byte) : Option (ObjRow × Nat × List Byte) :=
  let e' := if e.1 = Ob.RETRY_WINDOW then (Ob.RETRY_WINDOW_US, e.2.1, leBytes 2 (leNat e.2.2)) else e
  match objRow? e'.1 with
  | some r => if savedObj r.ix ∧ (elements r).contains e'.2.1 ∧ e'.2.2.length = r.len then some (r, e'.2) else none
  | none => none

/-- Store an entry's value. -/
def State.takeEntry (s : State) (t : ObjRow × Nat × List Byte) : State :=
  if t.1.ty.isBytes then s.setBlob t.1.ix t.2.1 t.2.2 else s.setReg t.1.ix t.2.1 (decodeVal t.1.ty t.2.2)

/-- Whether the bytes of a saved object keep to its layout: a waveform table (R248), a preset table (R272), a scan list (R370). -/
def layoutOk (ix : Nat) (b : List Byte) : Bool :=
  if Ob.TX_WAVE_COLD ≤ ix ∧ ix ≤ Ob.TX_WAVE_HOT then waveOk b
  else if ix = Ob.HOST_PRESET_TABLE then presetOk b
  else if ix = Ob.HK_SCAN then scanLayout b
  else true

/-- An entry outside its object's type, range or layout takes the default. DEDUCED (log entry 219). -/
def State.checkEntry (s : State) (t : ObjRow × Nat × List Byte) : State :=
  let v := s.reg t.1.ix t.2.1
  if t.1.ty.isBytes then (if layoutOk t.1.ix t.2.2 then s else s.setBlob t.1.ix t.2.1 (blobDefault (objKey t.1.ix t.2.1)))
  else if (t.1.ty = .bool ∧ ¬(v = 0 ∨ v = 1)) ∨ rangeOk s t.1.ix t.2.1 v = false then
    s.setReg t.1.ix t.2.1 (numDefault t.1.ix t.2.1)
  else s

/-- The values that a slot's body sets: stored, then checked against their ranges as they stand together. -/
def State.takeEntries (s : State) (body : List Byte) : State :=
  let ts := (slotEntries body.length body).filterMap entryTarget
  forEach ts (fun t s => s.checkEntry t) (forEach ts (fun t s => s.takeEntry t) s)

/-- Every saved object takes its default; the plan voltage's is the fused one (R424, R478). -/
def State.settingsDefault (s : State) : State :=
  (s.clearObjs (fun ix _ => savedObj ix)).setReg Ob.COMPASS_PLAN_MV 0 (fieldOf (s.fuseWord 51) 32 16 : Nat)

/-- The saved objects as step 7 loads them (R513): the newest readable slot over the defaults. -/
def State.settingsRead (s : State) : State :=
  match s.newestSlot s.slotReadable with
  | some slot =>
    let h := s.slotHead slot
    let s1 := s.settingsDefault.takeEntries (s.flashRead (slotBase slot + 64) (u32At h 16))
    let s2 := ((s1.setReg Ob.SETTINGS_SLOT 0 (slot : Int)).setReg Ob.SETTINGS_FORMAT 0 (u16At h 2 : Nat)).setReg
      Ob.SETTINGS_SAVE_SEQ 0 (u32At h 4 : Nat)
    (s2.setReg Ob.SETTINGS_SAVE_TIME 0 (leNat ((h.drop 20).take 12) : Nat)).modUpd (fun u => { u with
      slotLast := some slot
      convert := u16At h 2 != s.nat Ob.DICT_SCHEMA_VERSION 0 || u32At h 8 != s.nat Ob.ID_IMAGE_VERSION 0 })
  | none =>
    let s1 := (s.settingsDefault.setReg Ob.SETTINGS_SLOT 0 2).modUpd (fun u => { u with slotLast := none, convert := true })
    if s.slotsErased then s1
    else s1.raise Src.UPD_SETTINGS_DEFAULTS 0 ((s.slotValid 0).toNat + 2 * (s.slotValid 1).toNat) Ob.UPDATE_EVENTS 0

/-! ## Saves (R514) -/

/-- Whether the device runs in probation (R511). -/
def State.inProbation (s : State) : Bool := s.reg Ob.UPDATE_IMAGE_STATE 0 == 2

/-- The slot that a save writes (R514): the confirm save the reference slot; in probation the slot that is not the reference
slot; otherwise the slot not read or written last. -/
def State.slotToWrite (s : State) (confirm : Bool) : Nat :=
  let other (o : Option Nat) : Nat := match o with | some i => 1 - i | none => 0
  if confirm then (match s.upd.slotRef with | some i => i | none => other s.upd.slotLast)
  else if s.inProbation then (match s.upd.slotRef with | some i => 1 - i | none => other s.upd.slotLast)
  else other s.upd.slotLast

/-- The SAVE_SEQ of the next save. -/
def State.nextSaveSeq (s : State) : Nat :=
  1 + ([0, 1].map (fun i => if s.slotValid i then s.slotSeq i else 0)).foldl max 0

/-- Start a save: every saved value is captured as it stands, and DICT.SAVE_PENDING clears (R340, R514). -/
def State.saveStart (s : State) (dict confirm : Bool) : State :=
  let bytes := s.slotImage s.nextSaveSeq (s.inProbation && !confirm)
  s.captureSaved.modUpd (fun u => { u with
    save := some { slot := s.slotToWrite confirm, bytes := bytes, dict := dict, confirm := confirm }, saveFailed := false })

/-- A save that the device itself makes: at once, or behind the running one (R514). -/
def State.deviceSave (s : State) (confirm : Bool) : State :=
  if s.upd.save.isSome then s.modUpd (fun u => { u with saves := u.saves ++ [confirm] }) else s.saveStart false confirm

end Sys2Proof.Machine
end

