-- ==== Sys2Proof/Machine/Time.lean ====
section
/-! DEFINITION. WAYMARK: the counter, its PPS discipline and its commands (chapter 2). -/

namespace Sys2Proof.Machine

/-- Units of 2^-80 s in `n` nanoseconds, times 10^9, so that comparisons stay exact. -/
def nsScaled (n : Nat) : Nat := n * 2 ^ 80

/-- Whether an absolute phase error, in units of 2^-80 s, is at most `n` nanoseconds. -/
def withinNs (e n : Nat) : Bool := decide (e * 1000000000 ≤ nsScaled n)

/-- One REFCLK cycle: the counter advances by its increment, at half of it while a slew runs (R49, R54). -/
def State.refclk (s : State) : State :=
  let inc := s.inc
  let give := min s.time.slewLeft (inc / 2)
  { s with time := { s.time with
      acc := (s.time.acc + inc - give) % 2 ^ 128
      now := s.time.now + 1
      slewLeft := s.time.slewLeft - give
      slewing := s.time.slewing && decide (give < s.time.slewLeft) } }

/-- What the block does with no command waiting: one REFCLK cycle passes, while the supplies stand. -/
def State.idle (s : State) : State := if s.start.powered then s.refclk else s

/-- Load the counter, clearing the 32 bits below 2^-48 s; a move back counts in TIME.EPOCH (R52, R60). DESIGN CHOICE (log entry
168): the load also ends a slew in progress, and clearing the low bits alone is a move back. -/
def State.loadCounter (s : State) (t : Nat) : State :=
  let acc := t * 2 ^ 32 % 2 ^ 128
  let s' := { s with time := { s.time with acc := acc, slewLeft := 0, slewing := false } }
  if acc < s.time.acc then s'.setReg Ob.TIME_EPOCH 0 ((s.nat Ob.TIME_EPOCH 0 + 1) % 65536 : Nat) else s'

/-- TIME.SET (R60). -/
def ownTimeSet (t : Int) (s : State) : Verdict :=
  if s.flag Ob.TIME_PPS_ENABLE 0 then .deny St.CONFIG_CONFLICT else .done (s.loadCounter t.toNat) []

/-- A write of TIME.NEXT_SECONDS (R55). -/
def ownNextSeconds (v : Int) (s : State) : Verdict :=
  let before := if s.flag Ob.TIME_NEXT_ARMED 0 then some (s.nat Ob.TIME_NEXT_SECONDS 0) else none
  let tm := { s.time with
    nextBefore := if s.time.nextCycle = some s.time.now then s.time.nextBefore else before
    nextCycle := some s.time.now }
  .done ((({ s with time := tm }).setReg Ob.TIME_NEXT_SECONDS 0 v).setReg Ob.TIME_NEXT_ARMED 0 1) []

/-- Set or clear TIME.PPS_ENABLE: FREE is left for ACQUIRING at once, and clearing enters FREE (R56). DESIGN CHOICE (log entry
169): a slew in progress goes on after clearing. -/
def State.ppsEnable (s : State) (v : Int) : State :=
  let s' := s.setReg Ob.TIME_PPS_ENABLE 0 v
  if v = 0 then
    ({ s' with time := { s'.time with edges := 0, missRun := 0, goodRun := 0, window := 0 } }).setReg Ob.TIME_STATE 0 0
  else if s.reg Ob.TIME_STATE 0 = 0 then
    ({ s' with time := { s'.time with edges := 0, missRun := 0, goodRun := 0, window := 0 } }).setReg Ob.TIME_STATE 0 1
  else s'

/-- A write of TIME.PPS_ENABLE. -/
def ownPpsEnable (v : Int) (s : State) : Verdict := .done (s.ppsEnable v) []

/-- A write of TIME.RATE_ADJ (R57). -/
def ownRateAdj (v : Int) (s : State) : Verdict :=
  if s.flag Ob.TIME_PPS_ENABLE 0 then .deny St.CONFIG_CONFLICT else .done (s.setReg Ob.TIME_RATE_ADJ 0 v) []

/-- The counter value at the pin edge, from the eighth of the cycle that tags it (R53 steps 2 and 3). -/
def State.edgeValue (s : State) (phase : Nat) : Int :=
  let filterPs : Int := if s.reg Ob.TIME_PPS_FILTER 0 = 0 then 50000 else 20000
  (s.time.acc : Int) + (s.inc * phase / 8 : Nat) -
    roundDiv ((filterPs + s.reg Ob.TIME_PPS_DELAY_PS 0) * 2 ^ 80) 1000000000000

/-- A difference of two counter values, whose seconds field wraps (R49): the representative from -2^127 up to 2^127. -/
def wrapDiff (d : Int) : Int := (d + 2 ^ 127) % 2 ^ 128 - 2 ^ 127

/-- Whether an edge falls in an acceptance window of the last accepted edge: window `n` is `n` s within 100 µs, measured on the
counter as it wraps, for any `n` from 1 (R49, R53 step 4). -/
def State.inWindow (s : State) (v : Int) : Bool :=
  let d := wrapDiff (v - s.time.lastEdge)
  let n := roundDiv d (2 ^ 80)
  decide (1 ≤ n) && decide ((d - n * 2 ^ 80).natAbs * 10000 ≤ 2 ^ 80)

/-- The counter's correction at an accepted edge (R54): forward step, slew, or step back. -/
def State.correct (s : State) (e : Int) : State :=
  if e ≤ 0 then
    { s with time := { s.time with acc := ((s.time.acc + e.natAbs) / 2 ^ 32 * 2 ^ 32) % 2 ^ 128, slewLeft := 0, slewing := false } }
  else if e.natAbs * 1000000 ≤ 2 ^ 80 then
    { s with time := { s.time with slewLeft := e.natAbs, slewing := true } }
  else
    ({ s with time := { s.time with acc := (((s.time.acc : Int) - e) / 2 ^ 32 * 2 ^ 32 % 2 ^ 128).toNat, slewLeft := 0, slewing := false } }).setReg
      Ob.TIME_EPOCH 0 ((s.nat Ob.TIME_EPOCH 0 + 1) % 65536 : Nat)

/-- The change of TIME.RATE_ADJ at an edge: full from 100 ns on, a quarter below (R56). -/
def rateChange (e : Int) : Int :=
  if withinNs e.natAbs 100 && e.natAbs * 1000000000 != nsScaled 100 then roundDiv (-e) (2 ^ 42) else roundDiv (-e) (2 ^ 40)

/-- The run of edges within 2 ns, with an edge of error `e` (R56): every edge since enable counts, the first one and the one that
leaves HOLDOVER too. DESIGN CHOICE (log entry 172): missed edges leave the run as it is, and HOLDOVER ends it. -/
def State.goodEdges (s : State) (e : Int) : Nat :=
  if withinNs e.natAbs 2 then (if s.reg Ob.TIME_STATE 0 = 3 then 0 else s.time.goodRun) + 1 else 0

/-- TIME.STATE and TIME.RATE_ADJ at an accepted edge that is not the first since enable (R56): in ACQUIRING and LOCKED the rate
changes; the edge that is accepted in HOLDOVER leaves it for ACQUIRING. -/
def State.discipline (s : State) (e : Int) : State :=
  if s.reg Ob.TIME_STATE 0 = 3 then s.setReg Ob.TIME_STATE 0 1
  else
    let st := s.reg Ob.TIME_STATE 0
    let s1 := s.setReg Ob.TIME_RATE_ADJ 0
      (clampInt (-(2 ^ 31)) (2 ^ 31 - 1) (s.reg Ob.TIME_RATE_ADJ 0 + rateChange e))
    s1.setReg Ob.TIME_STATE 0
      (if st = 1 ∧ 4 ≤ s.goodEdges e then 2 else if st = 2 ∧ withinNs e.natAbs 50 = false then 1 else st)

/-- The seconds target of an edge, and whether it consumes the armed value (R54, R55). DESIGN CHOICE (log entry 170): the nearest
second of a counter value exactly between two is the later one. -/
def State.edgeTarget (s : State) (v : Int) : Int × Bool :=
  if s.time.nextCycle = some s.time.now then
    match s.time.nextBefore with
    | some n => (n, false)
    | none => (roundDiv v (2 ^ 80), false)
  else if s.flag Ob.TIME_NEXT_ARMED 0 then (s.reg Ob.TIME_NEXT_SECONDS 0, true)
  else (roundDiv v (2 ^ 80), false)

/-- An accepted edge (R54, R56). DESIGN CHOICE (log entry 171): TIME.PHASE_ERR_PS is e rounded to the nearest ps, a tie up. -/
def State.takeEdge (s : State) (v : Int) : State :=
  let (sec, consumed) := s.edgeTarget v
  let e := v - sec * 2 ^ 80
  let s1 := s.correct e
  let s2 := if s.time.edges = 0 then s1 else s1.discipline e
  let s3 := { s2 with time := { s2.time with
    edges := min 2 (s.time.edges + 1), lastEdge := (sec * 2 ^ 80).toNat, window := 0, missRun := 0, goodRun := s.goodEdges e } }
  let s4 := (s3.setReg Ob.TIME_PHASE_ERR_PS 0 (clampInt (-(2 ^ 31)) (2 ^ 31 - 1) (roundDiv (e * 1000000000000) (2 ^ 80)))).bump
    Ob.TIME_PPS_COUNT 0 1
  if consumed then s4.setReg Ob.TIME_NEXT_ARMED 0 0 else s4

/-- TIME_SET. -/
def execTimeSet (r : Req) (t : Nat) (s : State) : Out :=
  .next (s.serve r .exec Ob.TIME_SET 0 (leBytes 12 t) (ownTimeSet (leNat (leBytes 12 t))))

/-- TIME_NEXT_SECONDS_WRITE. -/
def execTimeNextSecondsWrite (r : Req) (v : Nat) (s : State) : Out :=
  .next (s.serve r .write Ob.TIME_NEXT_SECONDS 0 (leBytes 8 v) (ownNextSeconds (leNat (leBytes 8 v))))

/-- TIME_PPS_ENABLE_WRITE. -/
def execTimePpsEnableWrite (r : Req) (v : Nat) (s : State) : Out :=
  .next (s.serve r .write Ob.TIME_PPS_ENABLE 0 (leBytes 1 v) (ownPpsEnable (leNat (leBytes 1 v))))

/-- TIME_RATE_ADJ_WRITE. -/
def execTimeRateAdjWrite (r : Req) (v : Int) (s : State) : Out :=
  .next (s.serve r .write Ob.TIME_RATE_ADJ 0 (leInt 4 v) (ownRateAdj (toSigned 4 (leNat (leInt 4 v)))))

/-- PPS_EDGE: an edge the filter accepts, tagged in eighth `phase` of the cycle. The first since enable is always
taken; a later one outside every window counts in TIME.PPS_REJECT (R53, R54). -/
def execPpsEdge (phase : Fin 8) (s : State) : Out :=
  if s.flag Ob.TIME_PPS_ENABLE 0 then
    let v := s.edgeValue phase.val
    if s.time.edges = 0 ∨ s.inWindow v then .next (s.takeEdge v) else .next (s.bump Ob.TIME_PPS_REJECT 0 1)
  else .next s

/-- PPS_WINDOW_CLOSE: a window closes without an edge; the third in a row enters HOLDOVER (R53 step 5, R56). DESIGN CHOICE (log
entry 172): the run of edges within 2 ns goes on across one or two missed edges. -/
def execPpsWindowClose (s : State) : Out :=
  if s.flag Ob.TIME_PPS_ENABLE 0 ∧ s.time.edges ≠ 0 then
    let s1 := ({ s with time := { s.time with missRun := s.time.missRun + 1, window := s.time.window + 1 } }).bump
      Ob.TIME_PPS_MISSED 0 1
    if 3 ≤ s.time.missRun + 1 ∧ s.reg Ob.TIME_STATE 0 ≠ 3 then
      .next ((s1.setReg Ob.TIME_STATE 0 3).raiseFree Src.WAYMARK_PPS_LOST 0)
    else .next s1
  else .next s

/-- PPS_SLEW_DONE: the half-rate cycles that were left have passed and the error is given up (R54). -/
def execPpsSlewDone (s : State) : Out :=
  if s.time.slewing then
    let inc := s.inc
    let n := ceilDiv s.time.slewLeft (inc / 2)
    .next { s with time := { s.time with
      acc := (s.time.acc + n * inc - s.time.slewLeft) % 2 ^ 128, now := s.time.now + n, slewLeft := 0, slewing := false } }
  else .next s

end Sys2Proof.Machine
end

