-- ==== Sys2Proof/Machine/Startup.lean ====
section
/-! DEFINITION. TRAILHEAD's steps 3 to 8 (R445 to R449): fuse sensing, the logic BIST (R486 to R489), the journal's decision and
the activation copy (R507 to R509), the image and the settings, and READY. -/

namespace Sys2Proof.Machine

/-- Whether start-up runs and stands at a step. -/
def State.startAt (s : State) (step : Int) : Bool :=
  s.start.powered && s.reg Ob.DICT_STATE 0 == 0 && s.reg Ob.POWER_START_STEP 0 == step

/-- Start-up reaches a step. -/
def State.setStep (s : State) (step : Int) : State := s.setReg Ob.POWER_START_STEP 0 step

/-- SAFE_HOLD (R449): ERR_N follows DICT.STATE; no domain but AON and MGT is ON; TRAILHEAD_HOLD records step and cause. -/
def State.safeHold (s : State) (step cause : Nat) : State :=
  let s1 := (s.domsOff.sessionsEnd).setReg Ob.DICT_STATE 0 2
  s1.raise Src.TRAILHEAD_HOLD 0 (step + 256 * cause) Ob.POWER_EVENTS 0

/-! ## Step 3 (R445, R448, R477, R490) -/

/-- Whether a word of the array carries check fuses that sensing examines (R477). -/
def State.fuseChecked (s : State) (w : Nat) : Bool := w != 4 && decide (w < 256) && (!moduleWord w || s.fuse.valid.contains w)

/-- The words of the array that do not read 0. -/
def State.sensedWords (s : State) : Store Nat :=
  s.fuse.cells.filter (fun c => s.fuseSensed c.1 != 0)

/-- Every word is sensed into the shadow; one bit wrong is corrected and recorded (R471, R477), and a word with two bits wrong
reads what it may. -/
def State.fuseSense (s : State) (flips : List FuseFlip) : State :=
  let seen := flips.filter (fun f => s.fuseChecked f.word)
  let bad := (seen.filter (fun f => f.two)).map (fun f => f.word)
  let s1 : State := { s with fuse := { s.fuse with shadow := s.sensedWords, bad := bad } }
  let s2 := forEach bad (fun w (s : State) =>
    let (s', n) := s.fresh
    { s' with fuse := { s'.fuse with shadow := s'.fuse.shadow.put (fun _ => 0) w (Config.freeValue n % 2 ^ 64) } }) s1
  forEach (seen.filter (fun f => !f.two)) (fun f s => s.repeatCorrected 2 f.word) s2

/-- The ordering code of a part (R1, R3). -/
def orderingCode (ea gradeI : Bool) : List Byte :=
  let txt : List Nat := [0x54, 0x42, 0x58, 0x2D, 0x33, 0x32, 0x30, 0x38, 0x2D] ++ [if ea then 0x45 else 0x53, 0x41, 0x2D] ++
    [if gradeI then 0x49 else 0x43]
  txt.map (BitVec.ofNat 8)

/-- The identity and the life cycle as the fuses give them (R3, R490, R556); an invalid STAGE names no state. -/
def State.identify (s : State) : State :=
  let (s1, lc) := match lifeCycleOf (s.fuseSensed 4) with
    | some n => (s, n)
    | none => (let (s', k) := s.fresh; (s', Config.freeValue k % 6))
  let s2 := ((s1.setReg Ob.LC_STATE 0 (lc : Int)).setReg Ob.LC_NEXT 0 (lc : Int)).setReg Ob.ID_LIFE_CYCLE 0 (lc : Int)
  ((s2.setReg Ob.ID_SERIAL 0 (s.fuseWord 2 : Nat)).setBlob Ob.ID_ORDERING_CODE 0 (orderingCode s.partEA s.gradeI)).setBlob
    Ob.ID_STEPPING 0 [0x42, 0x31]

/-- The waves of step 4 (R488, R489): the named islands on the FULL set, at most four at a time in ascending order, then the
others on the QUICK set, islands 4 to 7 before 0 to 3. Islands 6 and 7 of an SA part are fused off (R486). -/
def bistWaves (ea : Bool) (full : Nat) : List (List Nat) :=
  let present (i : Nat) : Bool := ea || decide (i < 6)
  let named := (List.range 8).filter (fun i => bitOf full i && present i)
  let quick (l : List Nat) := l.filter (fun i => !bitOf full i && present i)
  ([named.take 4, named.drop 4, quick [4, 5, 6, 7], quick [0, 1, 2, 3]]).filter (fun w => w != [])

/-- Whether a wave of an EA part tests the controller islands 6 and 7, for which the DS domain is powered (R5, R488). -/
def State.bistDs (s : State) (w : List Nat) : Bool := s.partEA && w.any (fun i => decide (6 ≤ i))

/-- The islands of the next wave read RUNNING, on their set (R487); the DS domain is powered for the wave that tests its islands
(R488). -/
def State.bistStart (s : State) : State :=
  match s.start.waves with
  | w :: _ =>
    let s := if s.bistDs w then s.setPwr Dom.DS 2 else s
    forEach w (fun i s => (s.setReg Ob.SELFTEST_BIST_RESULT (i + 1) 1).setReg Ob.SELFTEST_BIST_SET (i + 1)
      (boolInt (bitOf s.start.fullNow i))) s
  | [] => s

/-- Step 4 begins: every island reads NONE until its wave runs, or SKIPPED where it is fused off (R486, R488). -/
def State.bistBegin (s : State) : State :=
  let s1 : State := { s with start := { s.start with
    fullNow := s.start.full, full := 0, waves := bistWaves s.partEA s.start.full } }
  let s2 := ((s1.setAll Ob.SELFTEST_BIST_RESULT 0 8).setReg Ob.SELFTEST_BIST_DONE 0 0)
  let s3 := if s.partEA then s2 else (s2.setReg Ob.SELFTEST_BIST_RESULT 7 5).setReg Ob.SELFTEST_BIST_RESULT 8 5
  s3.bistStart

/-- FUSE_SENSE_DONE: step 3, the management core running from ROM (R445, R448, R449, R477, R490). With the words in which sensing found an error. -/
def execFuseSenseDone (flips : List FuseFlip) (s : State) : Out :=
  if s.startAt 2 then
    let s0 := if s.pwr Dom.MGT = 2 then s else s.setPwr Dom.MGT 2
    let s1 := (s0.fuseSense flips).identify
    let lc := lifeCycleOf (s.fuseSensed 4)
    if s1.fuse.bad ≠ [] then .next (s1.safeHold 3 0)
    else if lc = none then .next (s1.safeHold 3 1)
    else
      let s2 := s1.setStep 3
      if lc = some 0 ∨ lc = some 5 then .next (s2.setReg Ob.DICT_STATE 0 1) else .next s2.bistBegin
  else .next s

/-! ## Step 4 (R486 to R489) -/

/-- The patterns of an island's set (R486). -/
def bistTarget (full : Bool) : Nat := if full then 262144 else 16384

/-- The result of an island (R487): 2 PASS, 3 FAIL, 4 INCOMPLETE. -/
def State.bistResult (s : State) (i : Nat) (r : BistRes) : Nat :=
  let full := bitOf s.start.fullNow i
  if r.patterns < bistTarget full then 4 else if r.sig = s.fuseWord (24 + 2 * i + full.toNat) then 2 else 3

/-- An island ends its wave: its record, and the fault of a FULL set that does not pass (R487, R489). -/
def State.bistEnd (s : State) (i : Nat) (r : BistRes) : State :=
  let full := bitOf s.start.fullNow i
  let res := s.bistResult i r
  let n := min r.patterns (bistTarget full)
  let s1 := (((s.setReg Ob.SELFTEST_BIST_RESULT (i + 1) (res : Int)).setReg Ob.SELFTEST_BIST_PATTERNS (i + 1) (n : Int)).setReg
    Ob.SELFTEST_BIST_SIG (i + 1) (r.sig % 2 ^ 64 : Nat)).setReg Ob.SELFTEST_BIST_DONE 0
      (withBit (s.nat Ob.SELFTEST_BIST_DONE 0) i (res != 4) : Nat)
  if full ∧ res ≠ 2 then s1.raise Src.SELFTEST_BIST_FAIL i (i + 256 * (decide (res = 4)).toNat) Ob.SELFTEST_EVENTS 0 else s1

/-- BIST_WAVE_DONE: the running wave ends with what each of its islands, in order, applied and holds (R487 to R489). An
island of the QUICK set that does not pass holds the device; after the last wave step 4 is complete. -/
def execBistWaveDone (res : List BistRes) (s : State) : Out :=
  match s.start.waves with
  | [] => .next s
  | w :: rest =>
    if s.startAt 3 then
      let at_ (i : Nat) : BistRes := res.getD (w.idxOf i) {}
      let s := if s.bistDs w then s.setPwr Dom.DS 0 else s
      let s1 := (forEach w (fun i s => s.bistEnd i (at_ i)) s).setStamp Ob.SELFTEST_BIST_TIME 0
      let s2 : State := { s1 with start := { s1.start with waves := rest } }
      if w.any (fun i => !bitOf s.start.fullNow i && s.bistResult i (at_ i) != 2) then
        .next ({ s2 with start := { s2.start with waves := [] } }.safeHold 4 2)
      else if rest = [] then .next ({ s2 with start := { s2.start with bistDone := true } }.setStep 4)
      else .next s2.bistStart
    else .next s

/-! ## Step 5 (R506 to R509) -/

/-- What the latest record decides (R508): nothing, with the partition to load; a start or a resumption of the copy; or an
abandoned activation, when STAGING no longer passes. -/
inductive JournalPlan where
  | load (run : Nat)
  | fellBack
  | copy (c : CopyRun) (fail : Nat) (done : Bool)
  deriving DecidableEq, Repr

/-- The plan of a record of a KIND, with its RUN and BLOCK (R508): for a copy, the partition to load if STAGING fails, and
whether FALLBACK_DONE is written first. -/
def journalPlan (kind run block : Nat) : JournalPlan :=
  match kind with
  | 1 => if run = 0 then .copy { second := false, block := 0 } 0 false else .copy { second := true, block := 0 } 1 true
  | 2 => .copy { second := false, block := block + 1, resumed := true } 0 false
  | 3 => .copy { second := true, block := 0, resumed := true } 1 false
  | 4 => .copy { second := true, block := block + 1, resumed := true } 1 false
  | 5 => .fellBack
  | _ => .load (if run = 0 then 0 else 1)

/-- Step 5 acts on the journal (R508). -/
def State.journalAct (s : State) : State :=
  match s.journalLatest with
  | none =>
    if s.flashErased Part.JOURNAL 0x40000 then s
    else s.raise Src.UPD_JOURNAL 0 (min 65535 s.journalBad) Ob.UPDATE_EVENTS 0
  | some (_, b) =>
    match journalPlan (u8At b 2) (u8At b 3) (u32At b 8) with
    | .load run => s.modUpd (fun u => { u with load := run })
    | .fellBack =>
      (s.modUpd (fun u => { u with load := 1, deferred := some (7, 1), result := 4 })).raise Src.UPD_FELL_BACK 0 0 Ob.UPDATE_EVENTS 0
    | .copy c fail done =>
      if s.imageGood Part.STAGING then
        let s1 := if done then s.journalFollow 3 1 0 else s
        (s1.modUpd (fun u => { u with copy := some c, load := 0 })).updateVotes
      else
        (s.modUpd (fun u => { u with load := fail, deferred := some (8, fail), result := 3 })).raise Src.UPD_ACTIVATION_FAIL 0 0
          Ob.UPDATE_EVENTS 0

/-- BOOT_LOADED: BOOT is loaded, and verifies or not; the journal is read and decides (R445, R449, R508). -/
def execBootLoaded (ok : Bool) (s : State) : Out :=
  if s.startAt 4 ∧ s.upd.copy = none then
    if !ok then .next (s.safeHold 5 3)
    else
      let s1 := s.journalShow.journalAct
      .next (if s1.upd.copy.isSome then s1 else s1.setStep 5)
  else .next s

/-- The source and the destination of a copy, and its blocks (R509). -/
def copyFrom (c : CopyRun) : Nat := if c.second then Part.STAGING else Part.ACTIVE
def copyTo (c : CopyRun) : Nat := if c.second then Part.ACTIVE else Part.FALLBACK
def State.copyBlocks (s : State) (c : CopyRun) : Nat := ceilDiv (min partSize (u32At (s.manifest (copyFrom c)) 20)) 65536

/-- COPY_BLOCK_DONE: the next block is erased and programmed from the source, and its progress record written (R509). -/
def execCopyBlockDone (s : State) : Out :=
  match s.upd.copy with
  | some c =>
    if s.startAt 4 ∧ c.block < s.copyBlocks c then
      let o := 65536 * c.block
      let bytes := s.flashRead (copyFrom c + o) 65536
      let s1 := (s.flashErase (copyTo c + o) 65536).flashWrite (copyTo c + o) bytes
      let s2 := s1.journalFollow (if c.second then 4 else 2) (if c.second then 1 else 0) c.block
      .next (s2.modUpd (fun u => { u with copy := some { c with block := c.block + 1 } }))
    else .next s
  | none => .next s

/-- The copy ends, with its vote; MGT stays ON as start-up goes on: step 5 is complete (R434, R445). -/
def State.copyEnd (s : State) (f : Update → Update) : State :=
  ((s.modUpd (fun u => { f u with copy := none })).noteVote Dom.MGT Vote.UPDATE false).setStep 5

/-- COPY_VERIFY_DONE: the destination is read back and every digest checked; `ok` is false where its flash holds something else
than was programmed. Copy 1 leads to copy 2, copy 2 to COMMITTED; a mismatch repeats the copy once, a second one abandons the
activation (R507, R509). -/
def execCopyVerifyDone (ok : Bool) (s : State) : Out :=
  match s.upd.copy with
  | some c =>
    if s.startAt 4 ∧ s.copyBlocks c ≤ c.block then
      let base := copyTo c
      let (s0, noise) := if ok then (s, []) else s.freshBytes 256
      let s1 := if ok then s else (s0.flashErase base 256).flashWrite base noise
      let m := s1.manifest base
      let run := c.second.toNat
      if ok && (List.range 8).all (fun j => s1.partDigest base m j) then
        if c.second then
          .next ((s1.journalFollow 5 0 0).copyEnd (fun u => { u with load := 0, result := if c.resumed then 2 else 1 }))
        else
          .next ((s1.journalFollow 3 1 0).modUpd (fun u => { u with copy := some { second := true, block := 0, resumed := c.resumed } }))
      else if !c.repeated then
        .next (s1.modUpd (fun u => { u with copy := some { c with block := 0, repeated := true } }))
      else
        .next ((s1.copyEnd (fun u => { u with load := run, deferred := some (8, run), result := 3 })).raise Src.UPD_ACTIVATION_FAIL 0
          (1 + run) Ob.UPDATE_EVENTS 0)
    else .next s
  | none => .next s

/-! ## Step 6 (R510) -/

/-- Whether the latest record is COMMITTED. -/
def State.committed (s : State) : Bool :=
  match s.journalLatest with
  | some (_, b) => u8At b 2 == 5
  | none => false

/-- An image takes its place: the versions that it shows, and its link level (R408, R499, R518, R556). -/
def State.imageRuns (s : State) (run : Nat) : State :=
  let v := s.imageVersion (runBase run)
  let s1 := (s.setReg Ob.ID_IMAGE_VERSION 0 (v : Int)).setAll Ob.ENG_IMAGE_VERSION (v : Int) 4
  let s2 := s1.setReg Ob.LINK_LPL_IMPL 0 (u8At (s.manifest (runBase run)) 16 : Nat)
  ((s2.setReg Ob.UPDATE_IMAGE_VERSION 1 (s.imageVersion Part.ACTIVE : Nat)).setReg Ob.UPDATE_IMAGE_VERSION 2
    (s.imageVersion Part.FALLBACK : Nat)).modUpd (fun u => { u with loaded := run })

/-- ACTIVE_LOADED: the image that step 5 named is loaded and checked; if it fails, the other partition is, and if both fail the
device holds (R449, R510, R511). -/
def execActiveLoaded (s : State) : Out :=
  if s.startAt 5 then
    let run := s.upd.load
    if s.imageGood (runBase run) then
      let state := if run = 1 then 3 else if s.committed then 2 else 0
      .next (((s.imageRuns run).modUpd (fun u => { u with state := state })).setStep 6)
    else
      let s1 := s.raise Src.UPD_FELL_BACK 0 1 Ob.UPDATE_EVENTS 0
      if s.imageGood (runBase (1 - run)) then
        let note : Nat × Nat := if run = 0 then (7, 1) else (8, 0)
        .next (((s1.imageRuns (1 - run)).modUpd (fun u => { u with state := 3, result := 4, deferred := some note })).setStep 6)
      else .next (s1.safeHold 6 4)
  else .next s

/-! ## Step 7 (R445, R446, R513) -/

/-- The breakout values in force from step 7 on (R24): the saved ones, or each one's default where the saved pair may not
stand. -/
def State.breakoutLoad (s : State) : State :=
  let e := s.nat Ob.PORT_BREAKOUT_EAST 0
  let w := s.nat Ob.PORT_BREAKOUT_WEST 0
  if breakoutPair e w && !s.interopClash e w then { s with breakout := #v[e, w] }
  else { s with breakout := #v[(numDefault Ob.PORT_BREAKOUT_EAST 0).toNat, (numDefault Ob.PORT_BREAKOUT_WEST 0).toNat] }

/-- The start-up votes of R431, and PORTSM's for band selection (R39, R88, R446). -/
def State.startVotes (s : State) : State :=
  let s1 := (s.castVote Dom.MGT Vote.HOST).castVote Dom.HK Vote.HOST
  let s2 := if s1.ds.enabled then s1.castVote Dom.DS Vote.HOST else s1
  let s3 := (s2.castVote (Dom.eng 0) Vote.THERMOS).castVote (Dom.eng 4) Vote.THERMOS
  let s4 : State := { s3 with
    start := { s3.start with select := Vector.replicate 2 true }
    rxsynth := s3.rxsynth.map (fun y => { y with band := false }) }
  s4.portVotes

/-- SETTINGS_LOADED: step 7. The newest readable slot is loaded, the settings act, the optics pins leave high impedance and the
start-up votes are cast (R24, R56, R218, R259, R420, R445, R446, R513). -/
def execSettingsLoaded (s : State) : Out :=
  if s.startAt 6 then
    let auto := s.reg Ob.THERMAL_AUTOCLEAR 0
    let s1 := s.settingsRead
    let s2 := s1.captureSaved
    let s3 := if s.reg Ob.POWER_RESET_CAUSE 0 = 3 then s2.setReg Ob.THERMAL_AUTOCLEAR 0 auto else s2
    let ref := s3.newestSlot (fun i => s3.slotValid i && !bitOf (u8At (s3.slotHead i) 12) 0)
    let s4 := (s3.modUpd (fun u => { u with slotRef := ref })).breakoutLoad.ppsEnable (s3.reg Ob.TIME_PPS_ENABLE 0)
    let s5 : State := { s4 with
      tx := s4.tx.map (fun x => { x with hiZ := false })
      ds := { s4.ds with enabled := s4.partEA && s4.flag Ob.DS_ENABLE 0 } }
    let s6 := (s5.setReg Ob.DS_STATE 0 (if s5.partEA then 1 else 0)).setStep 7
    .next s6.startVotes.avsUpdate
  else .next s

/-! ## Step 8 (R445 to R447, R507, R510, R511) -/

/-- Whether step 7 has ended: no domain still wakes, and both bands are selected or their domains not released. -/
def State.stepSevenDone (s : State) : Bool :=
  (fins 36).all (fun d => s.pwr d != 4) && (fins 2).all (fun h => !s.start.select[h])

/-- The record that waited for step 8 is written (R507, R510). -/
def State.deferredWrite (s : State) : State :=
  match s.upd.deferred with
  | some (kind, run) => (s.journalFollow kind run 0).modUpd (fun u => { u with deferred := none })
  | none => s

/-- STARTUP_READY: step 8. DICT.STATE reads READY, INT_N is asserted, the decision on the image can be read, a record that
waited is written, a probation begins, and PORT.CMD is issued to each existing port (R296, R445, R447, R507, R510, R511). -/
def execStartupReady (s : State) : Out :=
  if s.startAt 7 ∧ s.stepSevenDone then
    let s1 := ((s.setReg Ob.DICT_STATE 0 1).setStep 8).setStamp Ob.POWER_READY_TIME 0
    let s2 : State := { s1 with start := { s1.start with ready := true } }
    let s3 := (s2.setReg Ob.UPDATE_LAST_RESULT 0 (s2.upd.result : Int)).setReg Ob.UPDATE_IMAGE_STATE 0 (s2.upd.state : Int)
    let window := s3.nat Ob.UPDATE_PROBATION_S 0
    let s4 := if s3.inProbation then s3.modUpd (fun u => { u with probation := some (s3.time.now, window) }) else s3
    let s5 := s4.deferredWrite
    .next (forEach ((fins 8).filter s5.exists) (fun p s => (s.portCommand p (s.nat Ob.PORT_START_STATE (p.val + 1))).1) s5)
  else .next s

end Sys2Proof.Machine
end

