-- ==== Sys2Proof/Machine/Update.lean ====
section
/-! DEFINITION. Download sessions, activation, probation and settings saves (R501 to R519). -/

namespace Sys2Proof.Machine

/-! ## Sessions (R501 to R503) -/

/-- UPDATE.SOURCE of a path (R501): 1 LOCAL, 0x10 + p FAR_p. -/
def sourceOf (p : Path) : Int :=
  match p with
  | .inband q => 16 + (q.val : Int)
  | _ => 1

/-- Whether another source holds the open session (R501). -/
def State.otherHolds (s : State) (p : Path) : Bool :=
  s.reg Ob.UPDATE_SESSION 0 != 0 && s.reg Ob.UPDATE_SOURCE 0 != sourceOf p

/-- The session returns to RECEIVING and the last result to NONE (R503, R516). -/
def State.receiveAgain (s : State) : State :=
  ((s.setReg Ob.UPDATE_SESSION 0 2).setReg Ob.UPDATE_VERIFY_RESULT 0 0).setReg Ob.UPDATE_IMAGE_VERSION 3 0

/-- UPDATE.OPEN (R501, R502): a session opens, or the holder's restarts, and STAGING is erased. -/
def ownUpdateOpen (path : Path) (len : Nat) (s : State) : Verdict :=
  if s.otherHolds path then .deny St.BUSY
  else
    let s1 := s.receiveAgain.modUpd (fun u => { u with len := len, map := [], queue := [], verify := false })
    let s2 := ((s1.setReg Ob.UPDATE_SESSION 0 1).setReg Ob.UPDATE_SOURCE 0 (sourceOf path)).setReg Ob.UPDATE_PAGES_WRITTEN 0 0
    .done (s2.setReg Ob.UPDATE_PAGE_FAILS 0 0).updateVotes []

/-- UPDATE_OPEN. -/
def execUpdateOpen (r : Req) (len : Nat) (s : State) : Out :=
  .next (s.serve r .exec Ob.UPDATE_OPEN 0 (leBytes 4 len) (ownUpdateOpen r.path (leNat (leBytes 4 len))))

/-- STAGING_ERASE_DONE: the 64 KiB blocks that the length covers are erased, and the session reads RECEIVING (R502). -/
def execStagingEraseDone (s : State) : Out :=
  if s.reg Ob.UPDATE_SESSION 0 = 1 then
    .next ((s.flashErase Part.STAGING (65536 * ceilDiv s.upd.len 65536)).setReg Ob.UPDATE_SESSION 0 2)
  else .next s

/-- The checks of a staging block beyond its holder (R503): 0, or the status. -/
def State.stagingCheck (s : State) (off : Nat) (pl : List Byte) : Nat :=
  let ses := s.reg Ob.UPDATE_SESSION 0
  let data := (pl.drop 4).take (pl.length - 8)
  if ses = 1 then St.BUSY
  else if ses = 0 then St.CONFIG_CONFLICT
  else if off % 4096 ≠ 0 ∨ s.upd.len ≤ off then St.RANGE
  else if pl.length < 8 ∨ data.length ≠ min 4096 (s.upd.len - off) then St.TYPE_LENGTH
  else if crc32c (pl.take 4 ++ data) ≠ leNat (pl.drop (pl.length - 4)) then St.BLOCK_CRC
  else if 16 ≤ s.upd.queue.length then St.BUSY
  else 0

/-- A WRITE_BLOCK to UPDATE.STAGING (R503). A page that comes while the session is VERIFIED or VERIFYING returns it to
RECEIVING (R516). -/
def ownStaging (path : Path) (pl : List Byte) (s : State) : Verdict :=
  let off := leNat (pl.take 4)
  let st := s.stagingCheck off pl
  if s.otherHolds path then .deny St.BUSY
  else if st ≠ 0 then .deny st
  else
    let s1 := if s.reg Ob.UPDATE_SESSION 0 = 2 then s else s.receiveAgain
    .done (s1.modUpd (fun u => { u with queue := u.queue ++ [(off / 4096, (pl.drop 4).take (pl.length - 8))] })) []

/-- UPDATE_STAGING_WRITE. -/
def execUpdateStagingWrite (r : Req) (payload : List Byte) (s : State) : Out :=
  .next (s.serve r .writeBlock Ob.UPDATE_STAGING 0 payload (ownStaging r.path payload))

/-- A verification that waits begins once the program queue is empty (R504). -/
def State.verifyBegin (s : State) : State :=
  if s.upd.verify && s.upd.queue.isEmpty then (s.modUpd (fun u => { u with verify := false })).setReg Ob.UPDATE_SESSION 0 3 else s

/-- The page map's size is what UPDATE.PAGES_WRITTEN reads. -/
def State.mapSet (s : State) (map : List Nat) : State :=
  (s.modUpd (fun u => { u with map := map })).setReg Ob.UPDATE_PAGES_WRITTEN 0 (map.length : Int)

/-- PAGE_PROGRAM_DONE: the oldest queued page is programmed, after an erase of its sector where it was written before, and read
back; a mismatch leaves it out of the map (R503). -/
def execPageProgramDone (ok : Bool) (s : State) : Out :=
  match s.upd.queue with
  | [] => .next s
  | (page, data) :: rest =>
    let a := Part.STAGING + 4096 * page
    let s0 := (s.modUpd (fun u => { u with queue := rest })).flashErase a 4096
    let map := s.upd.map.filter (fun p => p != page)
    if ok then .next ((s0.flashWrite a data).mapSet (map ++ [page])).verifyBegin
    else
      let (s1, noise) := s0.freshBytes data.length
      let s2 := ((s1.flashWrite a noise).mapSet map).bump Ob.UPDATE_PAGE_FAILS 0 1
      .next (s2.flashFail 6 a).verifyBegin

/-! ## Verification (R504) -/

/-- UPDATE.VERIFY (R504): VERIFYING once the program queue is empty. -/
def ownUpdateVerify (path : Path) (s : State) : Verdict :=
  let ses := s.reg Ob.UPDATE_SESSION 0
  if s.otherHolds path then .deny St.BUSY
  else if ses = 0 then .deny St.CONFIG_CONFLICT
  else if ses = 1 ∨ ses = 3 then .deny St.BUSY
  else .done (s.modUpd (fun u => { u with verify := true })).verifyBegin []

/-- UPDATE_VERIFY. -/
def execUpdateVerify (r : Req) (s : State) : Out :=
  .next (s.serve r .exec Ob.UPDATE_VERIFY 0 [0] (ownUpdateVerify r.path))

/-- What the four checks of R504 find: UPDATE.VERIFY_RESULT and the first failing page or part. -/
def State.stagingVerdict (s : State) : Nat × Nat :=
  match (List.range (ceilDiv s.upd.len 4096)).find? (fun p => !s.upd.map.contains p) with
  | some p => (2, p)
  | none => s.imageCheck Part.STAGING (some s.upd.len)

/-- VERIFY_DONE: the verification ends with PASS, or returns the session to RECEIVING with UPD_VERIFY_FAIL (R504, R517). -/
def execVerifyDone (s : State) : Out :=
  if s.reg Ob.UPDATE_SESSION 0 = 3 then
    let (res, at_) := s.stagingVerdict
    let s1 := s.setReg Ob.UPDATE_VERIFY_RESULT 0 (res : Int)
    if res = 1 then
      .next ((s1.setReg Ob.UPDATE_SESSION 0 4).setReg Ob.UPDATE_IMAGE_VERSION 3 (s.imageVersion Part.STAGING : Nat))
    else
      .next (((s1.setReg Ob.UPDATE_SESSION 0 2).setReg Ob.UPDATE_IMAGE_VERSION 3 0).raise Src.UPD_VERIFY_FAIL 0 (res + 65536 * at_)
        Ob.UPDATE_EVENTS 0)
  else .next s

/-! ## Activation, CLOSE and ABORT (R501, R505) -/

/-- UPDATE.ACTIVATE (R505): a PENDING record, the session's end, and with argument 1 a chip reset 1 ms later. -/
def ownUpdateActivate (path : Path) (arg : Int) (s : State) : Verdict :=
  let last := s.reg Ob.UPDATE_VERIFY_RESULT 0
  if s.otherHolds path then .deny St.BUSY
  else if s.reg Ob.UPDATE_SESSION 0 ≠ 4 then .deny (if last = 4 ∨ last = 5 then St.SIGNATURE else St.CONFIG_CONFLICT)
  else
    let s1 := s.journalWrite 1 s.upd.loaded 0 (s.nat Ob.UPDATE_IMAGE_VERSION 3) ((Config.digest (s.manifest Part.STAGING)).take 32)
    let s2 := (s1.sessionEnd.setReg Ob.UPDATE_IMAGE_STATE 0 1).modUpd (fun u => { u with probation := none })
    .done (if arg = 1 then s2.orderChip 4 else s2) []

/-- UPDATE_ACTIVATE_NEXT_START. -/
def execUpdateActivateNextStart (r : Req) (s : State) : Out :=
  .next (s.serve r .exec Ob.UPDATE_ACTIVATE 0 [0] (ownUpdateActivate r.path 0))

/-- UPDATE_ACTIVATE_RESET. -/
def execUpdateActivateReset (r : Req) (s : State) : Out :=
  .next (s.serve r .exec Ob.UPDATE_ACTIVATE 0 [1] (ownUpdateActivate r.path 1))

/-- UPDATE.CLOSE from the holder (R501). -/
def ownUpdateClose (path : Path) (s : State) : Verdict :=
  if s.otherHolds path then .deny St.BUSY
  else if s.reg Ob.UPDATE_SESSION 0 = 0 then .deny St.CONFIG_CONFLICT
  else .done s.sessionEnd []

/-- UPDATE_CLOSE. -/
def execUpdateClose (r : Req) (s : State) : Out := .next (s.serve r .exec Ob.UPDATE_CLOSE 0 [0] (ownUpdateClose r.path))

/-- UPDATE.ABORT ends any session, whoever holds it (R501, R516, R517). -/
def ownUpdateAbort (s : State) : Verdict :=
  if s.reg Ob.UPDATE_SESSION 0 = 0 then .deny St.CONFIG_CONFLICT
  else .done (s.sessionEnd.raise Src.UPD_SESSION_ABORT 0 (s.nat Ob.UPDATE_SOURCE 0) Ob.UPDATE_EVENTS 0) []

/-- UPDATE_ABORT. -/
def execUpdateAbort (r : Req) (s : State) : Out := .next (s.serve r .exec Ob.UPDATE_ABORT 0 [0] ownUpdateAbort)

/-! ## Probation (R511) -/

/-- UPDATE.CONFIRM (R511): CONFIRMED is written and the confirm save made; the reply leaves when it has verified. -/
def ownUpdateConfirm (s : State) : Verdict :=
  if !s.inProbation then .deny St.CONFIG_CONFLICT
  else
    let s1 := (s.journalFollow 6 s.upd.loaded 0).setReg Ob.UPDATE_IMAGE_STATE 0 0
    .later ((s1.modUpd (fun u => { u with probation := none, convert := false })).deviceSave true)

/-- UPDATE_CONFIRM. -/
def execUpdateConfirm (r : Req) (s : State) : Out := .next (s.serve r .exec Ob.UPDATE_CONFIRM 0 [0] ownUpdateConfirm)

/-- UPDATE.PROBATION_LEFT_S (R511, R518). -/
def State.probationLeft (s : State) : Nat :=
  match s.upd.probation with
  | some (t, w) => if s.inProbation then w - (s.time.now - t) / refclkHz else 0
  | none => 0

/-- PROBATION_EXPIRY: the count has reached 0 without a confirm: UPD_PROBATION_EXPIRED, and a chip reset 1 ms later (R511). -/
def execProbationExpiry (s : State) : Out :=
  if s.inProbation ∧ s.upd.probation.isSome then
    let s1 := s.raise Src.UPD_PROBATION_EXPIRED 0 (s.nat Ob.ID_IMAGE_VERSION 0 % 65536) Ob.UPDATE_EVENTS 0
    .next ((s1.modUpd (fun u => { u with probation := none })).orderChip 4)
  else .next s

/-- CONVERSION_SAVE: 1 s after step 8 in probation, when the slot read was not the running image's (R514). -/
def execConversionSave (s : State) : Out :=
  if s.inProbation ∧ s.upd.convert ∧ s.reg Ob.DICT_STATE 0 = 1 then
    .next ((s.modUpd (fun u => { u with convert := false })).deviceSave false)
  else .next s

/-! ## Settings saves (R340, R514) -/

/-- DICT.SAVE (R340, R514, R516): BUSY in a save of the device's own; with nothing pending OK without writing; BUSY within 60 s
of the last completed save, or while one runs. -/
def ownDictSave (s : State) : Verdict :=
  let own := match s.upd.save with | some v => !v.dict | none => false
  let near := match s.upd.savedAt with | some t => decide (s.time.now - t < 60 * refclkHz) | none => false
  if own then .deny St.BUSY
  else if !s.savePending then .done s []
  else if near || s.upd.save.isSome then .deny St.BUSY
  else .later (s.saveStart true false)

/-- DICT_SAVE. -/
def execDictSave (r : Req) (s : State) : Out := .next (s.serve r .exec Ob.DICT_SAVE 0 [0] ownDictSave)

/-- Answer the command that a save belongs to. -/
def State.saveAnswer (s : State) (v : SaveRun) (st : Nat) : State :=
  let s1 := if v.dict then s.finish Ob.DICT_SAVE 0 st else s
  if v.confirm then s1.finish Ob.UPDATE_CONFIRM 0 st else s1

/-- A save that verified: the slot holds it (R512, R514). -/
def State.saveWritten (s : State) (v : SaveRun) : State :=
  let a := slotBase v.slot
  let s1 := (s.flashErase a (4096 * ceilDiv v.bytes.length 4096)).flashWrite a v.bytes
  let s2 := s1.modUpd (fun u => { u with
    save := none, slotLast := some v.slot, savedAt := some s.time.now, torn := u.torn.filter (fun i => i != v.slot) })
  (s2.setReg Ob.SETTINGS_SAVE_SEQ 0 (u32At v.bytes 4 : Nat)).setReg Ob.SETTINGS_SAVE_TIME 0 (leNat ((v.bytes.drop 20).take 12) : Nat)

/-- A save that failed: its slot's CRC fails, the other slot stays current, and DICT.SAVE_PENDING reads 1 again (R340, R514). -/
def State.saveFails (s : State) (v : SaveRun) (sector : Nat) : State :=
  let s1 := s.modUpd (fun u => { u with
    save := none, saveFailed := true, torn := v.slot :: u.torn.filter (fun i => i != v.slot) })
  s1.flashFail (2 + v.slot) (slotBase v.slot + 4096 * (sector % 96))

/-- SETTINGS_SAVE_DONE: the slot is read back: the save verifies, or fails at a sector. A device save that waited follows. -/
def execSettingsSaveDone (failSector : Option Nat) (s : State) : Out :=
  match s.upd.save with
  | none => .next s
  | some v =>
    let s1 := match failSector with
      | none => (s.saveWritten v).saveAnswer v St.OK
      | some n => (s.saveFails v n).saveAnswer v St.CONFIG_CONFLICT
    match s1.upd.saves with
    | c :: rest => .next ((s1.modUpd (fun u => { u with saves := rest })).saveStart false c)
    | [] => .next s1

end Sys2Proof.Machine
end

