-- ==== Sys2Proof/Machine/Compass.lean ====
section
/-! DEFINITION. COMPASS: ageing indices, host baselines and the daily plan (R422 to R425). -/

namespace Sys2Proof.Machine

/-! ## Ageing indices (R422) -/

/-- The means of a day that COMPASS plans on (R422): the fabric speed in units of 0.000001; per line lane the offset and gain
spreads and the skew trim, in units of 0.001 of those objects, and the DAC full scale in µVppd; per host lane the SNR in units
of 0.001 of Q8.8 dB; and the change of the bandgap difference in µV. -/
structure PlanDay where
  speed : Nat := 1000000
  offset : Vector Nat 8 := Vector.replicate 8 0
  gain : Vector Nat 8 := Vector.replicate 8 0
  skew : Vector Int 8 := Vector.replicate 8 0
  dac : Vector (Option Nat) 8 := Vector.replicate 8 none
  snr : Vector (Option Int) 16 := Vector.replicate 16 none
  bandgap : Int := 0
  deriving DecidableEq, Repr

/-- The means of the day that the ticks have summed, with the two figures measured outside the objects: the fabric speed,
normalised with the fused slopes, and the bandgap difference. -/
def State.planDay (s : State) (speed : Nat) (bandgap : Int) : PlanDay :=
  let d := s.therm.day
  { speed := speed, bandgap := bandgap
    offset := d.offset.map (fun t => (t.milliMean.getD 0).toNat)
    gain := d.gain.map (fun t => (t.milliMean.getD 0).toNat)
    skew := d.skew.map (fun t => t.milliMean.getD 0)
    dac := d.dac.map (fun t => t.milliMean.map Int.toNat)
    snr := d.snr.map Tally.milliMean }

/-- A fraction of a budget: numerator and denominator. -/
abbrev Ratio := Nat × Nat

/-- The greater of two fractions; the first where they are equal. -/
def Ratio.most (a b : Ratio) : Ratio := if a.1 * b.2 < b.1 * a.2 then b else a

/-- The greatest of fractions. -/
def mostOf (rs : List Ratio) : Ratio := rs.foldl Ratio.most (0, 1)

/-- A fraction in units of 0.001, to the nearest. -/
def Ratio.milli (r : Ratio) : Nat := (roundDiv (1000 * r.1 : Nat) r.2).toNat

/-- The fabric loss of a day, in units of 10^-8 of margin: 1.33 times the fall of the fabric speed (R422). -/
def lossOf (d : PlanDay) : Nat := 133 * (1000000 - d.speed)

/-- The index of each domain class, FABRIC to REFERENCE (R422). -/
def State.ageIndices (s : State) (d : PlanDay) : List Ratio :=
  let rx := (fins 8).map (fun l => Ratio.most (d.offset[l], 128000) (Ratio.most (d.gain[l], 128000) (d.skew[l].natAbs, 64000)))
  let tx := (fins 8).filterMap (fun l =>
    let set := s.nat Ob.TX_DAC_FS_MVPPD (l.val + 1)
    d.dac[l].map (fun m => (10 * ((m : Int) - 1000 * set).natAbs, 1000 * set)))
  let host := (fins 16).filterMap (fun h =>
    if s.nat Ob.COMPASS_HOST_BASE_HOURS (h.val + 1) < 168 then none
    else d.snr[h].map (fun v => ((1000 * s.reg Ob.COMPASS_HOST_BASE_DB (h.val + 1) - v).toNat, 768000)))
  [(lossOf d, 12000000), mostOf rx, mostOf tx, mostOf host, (d.bandgap.natAbs, 6000)]

/-- The subindex of the class with the highest index, the lowest such. -/
def highestClass (ix : List Ratio) : Nat :=
  let hi := mostOf ix
  1 + ix.findIdx (fun r => r.1 * hi.2 == hi.1 * r.2)

/-- COMPASS.YEARS_TO_FLOOR, in units of 0.1 year, for an index and the powered hours (R424). -/
def yearsToFloor (i : Ratio) (hours : Nat) : Nat :=
  if i.1 = 0 then 65535
  else if i.2 ≤ i.1 then 0
  else min 65535 (roundDiv (10 * hours * (i.2 ^ 4 - i.1 ^ 4) : Nat) (8766 * i.1 ^ 4)).toNat

/-! ## The plan (R424, R425) -/

/-- The fused beginning-of-life plan voltage (R478). -/
def State.bolMv (s : State) : Nat := fieldOf (s.fuseWord 51) 32 16

/-- The new plan voltage (R424 step 1). -/
def State.planVoltage (s : State) : Int :=
  let plan := s.reg Ob.COMPASS_PLAN_MV 0
  let raise := s.reg Ob.FABRIC_MARGIN_RAISE_MV 0
  let calm := match s.therm.dayMin with | some m => decide (s.nat Ob.FABRIC_AVS_THRESH 0 + 100 ≤ m) | none => false
  let v := if raise ≠ 0 then plan + raise else if calm then plan - 5 else plan
  max (s.bolMv : Int) v

/-- The Cold offset for a plan voltage and a loss (R424 step 2). -/
def coldOffset (plan : Int) (loss : Nat) : Int :=
  max 0 (min (min 100 (40 + 10 * (loss / 3000000 : Nat))) (780 - plan))

/-- A recalibration interval under the LINE_RX index (R424 step 3). -/
def recalPlan (dflt : Int) (rx : Ratio) : Int := max 10 (roundDiv dflt (2 ^ (4 * rx.1 / rx.2)))

/-- The values the plan saves (R425), as the live and the saved stores hold them. -/
def compassSaves (ix : Nat) : Bool :=
  (decide (Ob.COMPASS_PLAN_MV ≤ ix) && decide (ix ≤ Ob.COMPASS_HOST_BASE_HOURS)) || ix == Ob.THERMAL_BAND_HOURS ||
  ix == Ob.FABRIC_BAND_OFFSET_MV || ix == Ob.LINE_ADC_RECAL_S

/-- Whether a value that COMPASS saves has changed since the last save. -/
def State.compassChanged (s : State) : Bool :=
  let mine (m : Store Int) := m.filter (fun c => compassSaves (c.1 / 256))
  decide (mine s.liveRegs ≠ mine s.savedRegs)

/-- Steps 1 to 3 of the plan. -/
def State.planSupply (s : State) (d : PlanDay) : State :=
  let plan := s.planVoltage
  let loss := lossOf d
  let rx := (s.ageIndices d).getD 1 (0, 1)
  let s1 := ((s.setReg Ob.COMPASS_PLAN_MV 0 plan).setReg Ob.FABRIC_MARGIN_RAISE_MV 0 0).setReg Ob.COMPASS_FABRIC_LOSS 0
    (min 65535 (roundDiv (loss : Int) 100000).toNat : Nat)
  let s2 := (s1.setAll Ob.FABRIC_BAND_OFFSET_MV 0 4).setReg Ob.FABRIC_BAND_OFFSET_MV 1 (coldOffset plan loss)
  forEach [1, 2, 3, 4] (fun b s =>
    s.setReg Ob.LINE_ADC_RECAL_S b (recalPlan (numDefault Ob.LINE_ADC_RECAL_S b) rx)) s2

/-- Steps 4 and 5: the outlook and its alarm. -/
def State.planOutlook (s : State) (ix : List Ratio) : State :=
  let hi := mostOf ix
  let years := yearsToFloor hi (s.nat Ob.COMPASS_POWERED_HOURS 0)
  let s1 := forEach (List.range 5) (fun k s => s.setReg Ob.COMPASS_AGE_INDEX (k + 1) (min 65535 (ix.getD k (0, 1)).milli : Nat)) s
  let s2 := (s1.setReg Ob.COMPASS_MARGIN_LEFT 0 ((roundDiv (1000 * (hi.2 - hi.1) : Nat) hi.2).toNat : Nat)).setReg
    Ob.COMPASS_YEARS_TO_FLOOR 0 (years : Int)
  if years < s.nat Ob.COMPASS_YEARS_ALARM 0 ∨ ix.any (fun r => decide (8 * r.2 ≤ 10 * r.1)) then
    s2.raise Src.COMPASS_AGEING 0 (highestClass ix + 65536 * years) Ob.COMPASS_EVENTS 0
  else s2

/-- PLAN_DUE: 24 powered hours have passed since the last plan (R424). -/
def execPlanDue (s : State) : Out :=
  if s.start.powered then .next (s.modTherm (fun t => { t with planDue := true })) else .next s

/-- PLAN_COMMIT: at the first tick after a due plan may run it is computed from the day's means and committed; COMPASS.PLAN_NOW
is answered, a changed value makes a settings save, and a new day begins (R422, R424, R425). -/
def execPlanCommit (speed : Nat) (bandgap : Int) (s : State) : Out :=
  if s.reg Ob.DICT_STATE 0 = 1 ∧ (s.therm.planDue ∨ s.waiting Ob.COMPASS_PLAN_NOW 0) then
    let day := s.planDay speed bandgap
    let ix := s.ageIndices day
    let s1 := (s.planSupply day).planOutlook ix
    let s2 := (s1.setStamp Ob.COMPASS_PLAN_TIME 0).bump Ob.COMPASS_PLAN_COUNT 0 1
    let s3 := (s2.modTherm (fun t => { t with planDue := false, dayMin := none, day := {} })).avsUpdate
    let s4 := s3.finish Ob.COMPASS_PLAN_NOW 0 St.OK
    .next (if s4.compassChanged then s4.deviceSave false else s4)
  else .next s

/-- COMPASS.PLAN_NOW (R424, R430). -/
def ownPlanNow (s : State) : Verdict := if s.waiting Ob.COMPASS_PLAN_NOW 0 then .deny St.BUSY else .later s

/-- COMPASS_PLAN_NOW. -/
def execCompassPlanNow (r : Req) (s : State) : Out := .next (s.serve r .exec Ob.COMPASS_PLAN_NOW 0 [0] ownPlanNow)

/-! ## Powered hours (R421, R423) -/

/-- The mean SNR of the hour of a host lane that was ALIGNED for at least 30 minutes of it, in ticks of 1.024 ms (R423). -/
def hourMean (t : Tally) : Option Int := if 225000000 ≤ 128 * t.n then some (roundDiv t.sum t.n) else none

/-- A host lane's baseline takes an hour's mean (R423). -/
def State.baseline (s : State) (h : Fin 16) (snr : Int) : State :=
  let n := s.nat Ob.COMPASS_HOST_BASE_HOURS (h.val + 1)
  if n < 168 then
    let mean := roundDiv (s.reg Ob.COMPASS_HOST_BASE_DB (h.val + 1) * n + snr) (n + 1)
    (s.setReg Ob.COMPASS_HOST_BASE_DB (h.val + 1) (clampInt (-32768) 32767 mean)).setReg Ob.COMPASS_HOST_BASE_HOURS (h.val + 1) (n + 1 : Nat)
  else s

/-- POWERED_HOUR_END: the hour counters, and the baseline of each lane with a mean for the hour; a new hour begins (R421, R423). -/
def execPoweredHourEnd (s : State) : Out :=
  if s.start.powered then
    let s1 := (s.bump Ob.COMPASS_POWERED_HOURS 0 1).bump Ob.THERMAL_BAND_HOURS (s.nat Ob.THERMAL_BAND 0 + 1) 1
    let s2 := forEach (fins 16) (fun h t => match hourMean s.therm.hour[h] with | some v => t.baseline h v | none => t) s1
    .next (s2.modTherm (fun t => { t with hour := Vector.replicate 16 {} }))
  else .next s

end Sys2Proof.Machine
end

