-- ==== Sys2Proof/Machine/Tick.lean ====
section
/-! DEFINITION. The 1.024 ms tick: the per-tick actions of every block, in one order (R74). -/

namespace Sys2Proof.Machine

/-! ## The power loop (R263) -/

/-- The tick takes OPTICS.APC_ENABLE and OPTICS.APC_ADAC (R263, R267): the loop starts, holds or is off. -/
def State.apcTake (s : State) (l : Fin 8) : State :=
  let n := l.val + 1
  let on := s.flag Ob.OPTICS_APC_ENABLE n
  let dac := s.nat Ob.OPTICS_APC_ADAC n
  let was := s.tx[l]
  let s1 := s.modTx l (fun x => { x with
    apc := on, apcDac := dac, clipTick := 0, apcCode := if on ∧ (dac = x.apcDac ∨ !x.apc) then x.apcCode else none })
  (if on = was.apc then s1
   else s1.setReg Ob.OPTICS_APC_STATE n (if !on then 0 else if s.seq l = 4 then 2 else 1)).apcVote

/-- The power loop of a lane at a tick. It runs on the engine of the housekeeping service; a monitor channel without an output
(0xFFFF, R377) leaves the code where it is. -/
def State.apcTick (s : State) (l : Fin 8) : State :=
  let n := l.val + 1
  let mon := s.nat Ob.HK_FILT_OUT (s.nat Ob.OPTICS_APC_AMON n % 16 + 1)
  if !s.apcRuns l || s.service[(2 : Fin 4)] == none || mon == 65535 then s
  else
    let k : Fin 16 := ⟨s.nat Ob.OPTICS_APC_ADAC n % 16, by omega⟩
    let step := s.reg Ob.OPTICS_APC_STEP n
    let lo := s.reg Ob.OPTICS_APC_MIN_CODE n
    let hi := s.reg Ob.OPTICS_APC_MAX_CODE n
    let delta := clampInt (-step) step (roundDiv (s.reg Ob.OPTICS_APC_GAIN n * (s.reg Ob.OPTICS_APC_SETPOINT n - mon)) 32768)
    let code := (clampInt lo hi (((s.tx[l].apcCode.getD (s.nat Ob.HK_ADAC_CODE (k.val + 1)) : Nat) : Int) + delta)).toNat
    let s1 := (s.modTx l (fun x => { x with apcCode := some code })).setReg Ob.HK_ADAC_CODE (k.val + 1) (code : Nat)
    let s2 := s1.adacPut k code
    if (code : Int) = lo ∨ (code : Int) = hi then
      (s2.setReg Ob.OPTICS_APC_STATE n 3).raise Src.OPTICS_APC_LIMIT l.val
        (l.val + 256 * (decide ((code : Int) = hi)).toNat + 65536 * code) Ob.TX_EVENTS n
    else s2.setReg Ob.OPTICS_APC_STATE n 2

/-! ## Host lane statistics and the offsets of S1 (R289, R292) -/

/-- The received rate and SNR of a host lane whose receiver is locked; both hold while its host engines have halted (R400). -/
def State.hostTick (s : State) (h : Fin 16) (freq snr : Int) : State :=
  if s.on (Dom.hq h) && decide (3 ≤ s.hostState h) && s.hostWork h then
    (s.setReg Ob.HOST_RX_FREQ_PPB (h.val + 1) (clampInt (-(2 ^ 31)) (2 ^ 31 - 1) freq)).setReg Ob.HOST_RX_SNR_DB (h.val + 1)
      (clampInt (-32768) 32767 snr)
  else s

/-- One step of at most 1 ppm towards a rate held within a limit: ±100 ppm for a line synthesiser (R125), ±200 ppm for a host transmitter
(R270). -/
def offsetStep (limit now rate : Int) : Int := now + clampInt (-1000) 1000 (clampInt (-limit) limit rate - now)

/-- The offsets of a lane and of its host lane 2p: clock transparency in S1 (R289), and the transmit synthesiser behind the
receive rate at loop depth 4 (R327). In S1 both hold while the host engines have halted (R400). -/
def State.offsetTick (s : State) (l : Fin 8) : State :=
  let n := l.val + 1
  let h : Fin 16 := ⟨2 * l.val, by omega⟩
  match s.portOf l with
  | some p =>
    let line := s.reg Ob.LINE_TL_FREQ_PPB n
    if s.rateActive p = Rate.S1 ∧ s.testKind p ≠ 6 then
      if s.hostWork h then
        (s.modTx l (fun x => { x with offset := offsetStep 100000 x.offset (s.reg Ob.HOST_RX_FREQ_PPB (h.val + 1)) })).setReg
          Ob.HOST_TX_OFFSET_PPB (h.val + 1) (offsetStep 200000 (s.reg Ob.HOST_TX_OFFSET_PPB (h.val + 1)) line)
      else s
    else if s.testKind p = 6 then
      (s.modTx l (fun x => { x with offset := offsetStep 100000 x.offset line })).setReg Ob.HOST_TX_OFFSET_PPB (h.val + 1) 0
    else (s.modTx l (fun x => { x with offset := 0 })).setReg Ob.HOST_TX_OFFSET_PPB (h.val + 1) 0
  | none => (s.modTx l (fun x => { x with offset := 0 })).setReg Ob.HOST_TX_OFFSET_PPB (h.val + 1) 0

/-- S1.PRE_BER of a lane over its last 100 ticks (R316). -/
def State.s1Tick (s : State) (l : Fin 8) : State :=
  let x := s.srch[l]
  let hist := (x.s1Now :: x.s1Pre).take 100
  let fixed := (hist.map (·.1)).sum
  let bits := (hist.map (·.2)).sum
  let ber := if bits = 0 then 0 else roundDiv (fixed * 10000000000 : Nat) bits
  (s.modSrch l (fun x => { x with s1Now := (0, 0), s1Pre := hist })).setReg Ob.S1_PRE_BER (l.val + 1) (clampInt 0 (2 ^ 32 - 1) ber)

/-- The tick figures of lanes all of whose line engines have halted hold their values (R400). -/
def State.figuresHold (s old : State) : State :=
  forEach ((fins 8).filter (fun l => (lineEngines l).all (fun e => old.engState e == 3))) (fun l s =>
    let n := l.val + 1
    ((s.setReg Ob.TIC_ITER_MEAN n (old.reg Ob.TIC_ITER_MEAN n)).setReg Ob.TIC_PRE_BER n (old.reg Ob.TIC_PRE_BER n)).setReg
      Ob.TIC_LLR_STEP n (old.reg Ob.TIC_LLR_STEP n)) s

/-! ## The end of a thermal shutdown (R420) -/

/-- The first tick below the limit of a thermal shutdown, with THERMAL.AUTOCLEAR set and the diode working, makes a chip reset;
after three within an hour autoclear stays off until power-on. -/
def State.autoclear (s : State) : State :=
  let tj := s.reg Ob.THERMAL_TJ 0
  if s.inShutdown ∧ s.flag Ob.THERMAL_AUTOCLEAR 0 ∧ s.therm.noAuto = false ∧ !s.flag Ob.THERMAL_DIODE_FAIL 0 ∧ tj ≠ -32768 ∧
      tj < s.exitLimit then
    let recent := s.time.now :: s.therm.exits.filter (fun t => decide (s.time.now - t < 3600 * refclkHz))
    (s.modTherm (fun t => { t with exits := recent, noAuto := decide (3 ≤ recent.length) })).chipReset 3
  else s

/-! ## The whole tick -/

/-- The tick of AON, which goes on in every state: the rate limits of the records begin anew, and temperature (R411, R458). -/
def State.tickAon (s : State) (m : TickIn) : State :=
  ({ s with lookout := { s.lookout with given := [] } }).thermalTick m.monitors

/-- The tick of the blocks outside AON. -/
def State.tickBlocks (s : State) (m : TickIn) : State :=
  let s1 := (s.avsTick m.vdd).fabricTick
  let s2 := forEach (fins 2) (fun h s => s.poolPace h m.pool[h]) s1
  let s4 := forEach (fins 8) (fun l s => s.bgCommit l m.estimates[l]) s2
  let s5 := s4.ticTick.figuresHold s4
  let s6 := forEach (fins 8) (fun p s => if s.exists p then s.linkTick p else s) s5.dsTick
  let s7 := forEach (fins 16) (fun h s => s.hostTick h m.hostFreq[h] m.hostSnr[h]) s6.engTick
  let s7 := forEach (fins 8) (fun i s => s.modInst i (fun x => { x with uncTick := 0 })) s7
  ((forEach (fins 8) (fun l s => (((s.offsetTick l).s1Tick l).apcTake l).apcTick l) s7).tickUndo s).ageTake

/-- TICK (R74): thresholds are compared before the fabric decides (R427). Without supplies there is no tick; in a safe state only
AON's part goes on, and may end a thermal shutdown (R420). -/
def execTick (m : TickIn) (s : State) : Out :=
  if s.start.powered = false then .next s
  else
    let s1 := s.tickAon m
    if s1.reg Ob.DICT_STATE 0 = 3 then .next s1.autoclear else .next (s1.tickBlocks m)

end Sys2Proof.Machine
end

