-- ==== Sys2Proof/Machine/Access.lean ====
section
/-! DEFINITION. What a read of any object of the dictionary answers and what a write or an EXEC of any object does: the rules of
every chapter's object table, gathered by index (R337 to R346, R359 to R363). -/

namespace Sys2Proof.Machine

/-! ## Capabilities (R359, R360, R555) -/

/-- BASE of a capability. -/
def capBase (id : Nat) : Nat :=
  [0x0000, 0x0000, 0x0100, 0x0200, 0x0400, 0x0800, 0x0900, 0x0A00, 0x0B00, 0x0C00, 0x0D00, 0x0E00, 0x1000, 0x1100, 0x1200, 0x1300,
    0x1400, 0x1500, 0x1600, 0x1700, 0x1800].getD id 0x2000

/-- The entry after one on the chain of a class. -/
def State.capNext (s : State) (c : Cls) (ix : Nat) : Nat :=
  if ix = 0x16 ∧ s.partEA = false then 0x18
  else if ix < 0x23 then ix + 1
  else if ix = 0x23 ∧ c = .P ∧ vendorOpen (s.reg Ob.LC_STATE 0) then Ob.CAP_ENTRY_VENDOR
  else 0

/-- The 8 bytes of a capability entry. -/
def State.capEntry (s : State) (c : Cls) (ix : Nat) : List Byte :=
  let id := if ix = Ob.CAP_ENTRY_VENDOR then 0x20 else ix - 0x0F
  leBytes 2 id ++ [1, 0] ++ leBytes 2 (capBase id) ++ leBytes 2 (s.capNext c ix)

/-! ## WALK (R347, R361) -/

/-- Whether WALK describes an object to a class: it has some right on it, the view holds it, and the life-cycle state serves it
(R349). -/
def State.walks (s : State) (c : Cls) (view : Nat) (row : ObjRow) : Bool :=
  (s.rowFor c view row.ix).isSome && row.acc c != 0 &&
    (lifeCycleServes (s.reg Ob.LC_STATE 0) .read row.ix || (s.reg Ob.LC_STATE 0 != 5 && s.reg Ob.LC_STATE 0 != 0))

/-- The first object at or above an index that WALK describes. -/
def State.walkFrom (s : State) (c : Cls) (view ix : Nat) : Option ObjRow :=
  objTable.find? (fun row => decide (ix ≤ row.ix) && s.walks c view row)

/-- Whether an object is another name of an object (R363). -/
def isAlias (ix : Nat) : Bool := ix == Ob.LINE_SNR || ix == Ob.RETRY_WINDOW
def aliasTarget (ix : Nat) : Nat :=
  if ix = Ob.LINE_SNR then Ob.LINE_SNR_DB else if ix = Ob.RETRY_WINDOW then Ob.RETRY_WINDOW_US else 0

/-- Objects whose value comes from the device at run time, so that they have no default (R550). -/
def noDefault (ix : Nat) : Bool :=
  [Ob.DICT_OBJECT_COUNT, Ob.MMP_I2C_ADDR, Ob.MMP_MDIO_PRTAD, Ob.ID_SERIAL, Ob.ID_LIFE_CYCLE, Ob.ID_ROM_VERSION, Ob.ID_IMAGE_VERSION,
    Ob.TIME_NOW, Ob.PORT_OWNER, Ob.ENG_ASSIGNMENT, Ob.POWER_VOTES, Ob.LC_STATE, Ob.LC_NEXT].contains ix

/-- An object's descriptor (R347): 15 bytes, the name and, for a numeric object that is no command, a default of LENGTH bytes: the
one of its first element, and an open value where R550 gives none. -/
def State.descriptor (s : State) (c : Cls) (view : Nat) (row : ObjRow) : State × List Byte :=
  let next := match s.walkFrom c view (row.ix + 1) with | some r => r.ix | none => 0xFFFF
  let head := leBytes 1 row.hi ++ leBytes 1 row.ty.code ++ leBytes 2 (row.accH + 8 * row.accF + 64 * row.accP) ++
    leBytes 1 (row.saved.toNat + 2 * (isAlias row.ix).toNat) ++ leBytes 2 (sinceOf row.ix) ++ leBytes 2 (min 65535 row.len) ++
    leBytes 2 (aliasTarget row.ix) ++ leBytes 1 (isAlias row.ix).toNat ++ leBytes 2 next ++ leBytes 1 row.name.length ++
    row.name.toList.map (fun ch => BitVec.ofNat 8 ch.toNat)
  if row.ty.isBytes ∨ bitOf row.accP 2 then (s, head)
  else if noDefault row.ix then
    let (s1, n) := s.fresh
    (s1, head ++ leBytes row.len (Config.freeValue n))
  else if row.ix = Ob.COMPASS_PLAN_MV then (s, head ++ leBytes row.len (fieldOf (s.fuseWord 51) 32 16))
  else (s, head ++ leInt row.len (numDefault row.ix (if row.hi = 0 then 0 else 1)))

/-- DICT.OBJECT_COUNT (R366). -/
def State.objectCount (s : State) (c : Cls) (view : Nat) : Nat :=
  (objTable.filter (fun row => (s.rowFor c view row.ix).isSome && row.acc c != 0)).length

/-! ## Reads -/

/-- A line lane, port or host lane of a subindex. -/
def laneAt (sub : Nat) : Fin 8 := ⟨(sub - 1) % 8, by omega⟩

/-- The value of a byte-string object; none where its state forbids the read (R332). -/
def State.bytesOf (s : State) (c : Cls) (ix sub : Nat) : Option (List Byte) :=
  if (0x10 ≤ ix ∧ ix ≤ 0x23) ∨ ix = Ob.CAP_ENTRY_VENDOR then some (s.capEntry c ix)
  else if ix = Ob.LINE_EQ_FFE then some (s.eqFfe (laneAt sub))
  else if ix = Ob.LINE_EQ_DFE then some (s.eqDfe (laneAt sub))
  else if ix = Ob.LINE_EQ_LEVELS then some (s.eqLevels (laneAt sub))
  else if ix = Ob.FAULT_LOG then
    let log := (s.lookout.log.map LogRec.bytes).flatten
    some (log ++ List.replicate (1536 - log.length) 0)
  else if ix = Ob.FUSE_SHADOW then some (((List.range 256).map (fun w => leBytes 8 (s.fuseWord w))).flatten)
  else if ix = Ob.TEST_CAP_DATA then
    if s.reg Ob.TEST_CAP_STATE 0 ≠ 3 then none
    else match s.capLost with
      | some n => some ((List.range 2097152).map (fun i => BitVec.ofNat 8 (Config.freeValue (n + i))))
      | none =>
        let d := s.blob Ob.TEST_CAP_DATA 0
        some (d ++ List.replicate (2097152 - d.length) 0)
  else some (s.blob ix sub)

/-- The value of a numeric object: the computed ones, then what the store holds. -/
def State.numOf (s : State) (c : Cls) (view ix sub : Nat) : Int :=
  let l := laneAt sub
  if ix = Ob.DICT_OBJECT_COUNT then (s.objectCount c view : Nat)
  else if ix = Ob.DICT_SAVE_PENDING then boolInt s.savePending
  else if ix = Ob.MMP_I2C_ADDR then (0x58 + s.start.strap : Nat)
  else if ix = Ob.MMP_MDIO_PRTAD then (0x1C + s.start.strap : Nat)
  else if ix = Ob.MMP_PRIV_STATE then
    let p : Path := match sub with | 1 => .spi | 2 => .i2c | _ => .mdio
    (if (s.tp p).session.isSome then 1 else if (s.tp p).locked then 2 else 0)
  else if ix = Ob.PORT_OWNER then (match s.owner l with | some p => (p : Int) | none => 255)
  else if ix = Ob.LINE_ADC_RECAL_DUE_S then (min 4294967295 (s.recalDueS l) : Nat)
  else if ix = Ob.LINE_EQ_STRUCTURE then (if s.eqState l = 0 then s.laneStructure l else (s.bank l).structureId : Nat)
  else if ix = Ob.LINE_UNSETTLED then boolInt (s.marked l)
  else if ix = Ob.LINE_SNR then roundDiv (s.reg Ob.LINE_SNR_DB sub) 64
  else if ix = Ob.RETRY_WINDOW then s.reg Ob.RETRY_WINDOW_US sub
  else if ix = Ob.TIC_CAP_EFFECTIVE then (s.effCap l : Nat)
  else if ix = Ob.TIC_DEADLINE_NS then (modeDeadline (s.modeOf l) : Nat)
  else if ix = Ob.TIC_UNITS_RESERVED then (s.unitsReserved ⟨(sub - 1) % 2, by omega⟩ : Nat)
  else if ix = Ob.ENG_ASSIGNMENT then (s.engAssignment ⟨(sub - 1) % 128, by omega⟩ : Nat)
  else if ix = Ob.UPDATE_PROBATION_LEFT_S then (s.probationLeft : Nat)
  else if ix = Ob.FABRIC_MARGIN then (s.fabricMargin : Nat)
  else s.reg ix sub

/-- The largest value that a type holds. -/
def tyTop (ty : Ty) (len : Nat) : Int := if ty.signed then 2 ^ (8 * len - 1) - 1 else 2 ^ (8 * len) - 1

/-- A read of DICT.STATE that returns READY releases the start-up assertion of INT_N, for classes H and P (R447). -/
def ownStateRead (c : Cls) (s : State) : Verdict :=
  let v := s.reg Ob.DICT_STATE 0
  .done (if v = 1 ∧ c ≠ .F then { s with start := { s.start with ready := false } } else s) (leInt 1 v)

/-- A read of MMP.PRIV_CHALLENGE: fresh bytes, bound to the transport (R358). -/
def ownChallenge (path : Path) (s : State) : Verdict :=
  let (s1, n) := s.fresh
  let b := Config.randomBytes n
  .done (s1.modTp path (fun t => { t with challenge := some b })) b

/-- The value that a READ returns, with the effect that a read has (R26, R345, R362); TIME.NOW is the value latched as the request's
CRC check completed (R51). -/
def ownRead (c : Cls) (view : Nat) (path : Path) (ix sub : Nat) (s : State) : Verdict :=
  let n := match s.absorbedBy ix sub with | some p => p + 1 | none => sub
  if ix = Ob.DICT_STATE then ownStateRead c s
  else if ix = Ob.MMP_PRIV_CHALLENGE then ownChallenge path s
  else if ix = Ob.LC_CHALLENGE then ownLcChallenge path s
  else if ix = Ob.HK_ADC_RESULT then ownAdcResult sub s
  else if ix = Ob.ENG_PMU_SAMPLE then ownPmuSample sub s
  else match objRow? ix with
    | none => .deny St.NO_OBJECT
    | some row =>
      if row.ty.isBytes then (match s.bytesOf c ix n with | some b => .done s b | none => .deny St.CONFIG_CONFLICT)
      else
        let s1 := if ix = Ob.POWER_RES_ON_US ∨ ix = Ob.POWER_RES_RET_US ∨ ix = Ob.POWER_RES_OFF_US then s.accountAll else s
        let v := if ix = Ob.TIME_NOW then ((s.tp path).latched : Int) else s1.numOf c view ix n
        if isAlias ix ∧ (v < 0 ∨ tyTop row.ty row.len < v) then .deny St.RANGE else .done s1 (encodeVal row.len v)

/-- READ_BLOCK: COUNT bytes from OFFSET; RANGE past the end of the value (R345). -/
def ownReadBlock (c : Cls) (view : Nat) (path : Path) (ix sub : Nat) (pl : List Byte) (s : State) : Verdict :=
  let off := leNat (pl.take 4)
  let cnt := leNat ((pl.drop 4).take 2)
  if ix = Ob.TEST_CAP_DATA ∧ 2097152 < off + cnt then .deny St.RANGE
  else match ownRead c view path ix sub s with
    | .done s1 b => if b.length < off + cnt then .deny St.RANGE else .done s1 ((b.drop off).take cnt)
    | v => v

/-! ## Writes -/

/-- A write of POWER.REST_STATE: AON and MGT keep theirs (R454). -/
def ownRestState (sub : Nat) (v : Int) (s : State) : Verdict :=
  if v = 0 ∧ sub ≤ 2 then .deny St.CONFIG_CONFLICT else storeVal Ob.POWER_REST_STATE sub v s

/-- A write of a numeric object, by the rules of its chapter; what no rule says more of is stored (R349). -/
def ownNum (path : Path) (ix sub : Nat) (v : Int) (s : State) : Verdict :=
  match ix / 256 with
  | 0x02 =>
    if ix = Ob.TIME_NEXT_SECONDS then ownNextSeconds v s
    else if ix = Ob.TIME_PPS_ENABLE then ownPpsEnable v s
    else if ix = Ob.TIME_RATE_ADJ then ownRateAdj v s
    else storeVal ix sub v s
  | 0x04 =>
    if ix = Ob.PORT_RATE_SET then ownRateSet sub v s
    else if ix = Ob.PORT_MODE then ownPortMode sub v s
    else storeVal ix sub v s
  | 0x08 =>
    if ix = Ob.LINE_ADC_BG_ENABLE then ownBgEnable sub v s
    else if ix = Ob.LINE_ADC_COUPLING then ownCoupling sub v s
    else if ix = Ob.LINE_EQ_FREEZE then ownEqFreeze sub v s
    else if ix = Ob.LINE_RX_INVERT then ownRxInvert sub v s
    else storeVal ix sub v s
  | 0x0A => if ix = Ob.RETRY_WINDOW_US ∨ ix = Ob.RETRY_WINDOW then ownRetryWindow sub v.toNat s else storeVal ix sub v s
  | 0x0B => ownDsWrite ix v s
  | 0x0C => if ix = Ob.TX_MUTE_FORCE then ownMuteForce sub v s else ownTxWrite ix sub v s
  | 0x0D => if ix = Ob.HOST_PRESET_SEL then ownPreset sub (.sel v.toNat) s else storeVal ix sub v s
  | 0x0E => if ix = Ob.TEST_FAR_LOOP then ownFarLoop path sub v s else ownTestWrite ix sub v s
  | 0x10 => ownHkWrite ix sub v s
  | 0x11 =>
    if ix = Ob.ENG_PMU_FREEZE then ownPmuFreeze v s
    else if ix = Ob.ENG_PMU_OVF_STATUS then ownOvfStatus sub v s
    else storeVal ix sub v s
  | 0x13 =>
    if ix = Ob.POWER_VOTE_HOST then ownVote Vote.HOST path sub v s
    else if ix = Ob.POWER_VOTE_FAR then ownVote Vote.FAR path sub v s
    else if ix = Ob.POWER_REST_STATE then ownRestState sub v s
    else storeVal ix sub v s
  | 0x14 => if ix = Ob.FAULT_SEVERITY ∨ ix = Ob.FAULT_REACTION then ownFaultSetting ix sub v s else storeVal ix sub v s
  | _ => storeVal ix sub v s

/-- A write of a whole byte-string object. -/
def ownBytes (ix sub : Nat) (b : List Byte) (s : State) : Verdict :=
  if Ob.TX_WAVE_COLD ≤ ix ∧ ix ≤ Ob.TX_WAVE_HOT then ownWave ix sub b s
  else if ix = Ob.HOST_PRESET_TABLE then ownPreset sub (.table b) s
  else if ix = Ob.HK_SCAN then ownScan sub b s
  else if ix = Ob.ENG_PMU_SEL then ownPmuSel sub b s
  else if ix = Ob.ENG_PMU_COUNT then ownPmuCount sub b s
  else if ix = Ob.FAULT_INT_PENDING ∨ ix = Ob.FAULT_ERR_PENDING then ownPending ix b s
  else .done (s.setBlob ix sub b) []

/-- Drop the block sequence of an object. -/
def State.dropSeq (s : State) (ix sub : Nat) : State :=
  { s with mmp := { s.mmp with seqs := s.mmp.seqs.filter (fun q => !(q.ix == ix && q.sub == sub)) } }

/-- A whole new value, from a WRITE or from the last block of a sequence; a BLOB's commit ends its sequence (R346, R364). -/
def ownWrite (path : Path) (ix sub : Nat) (pl : List Byte) (s : State) : Verdict :=
  match objRow? ix with
  | none => .deny St.NO_OBJECT
  | some row =>
    if row.ty.isBytes then
      (match ownBytes ix sub pl s with
       | .done s1 out => .done (s1.dropSeq ix sub) out
       | v => v)
    else ownNum path ix sub (decodeVal row.ty pl) s

/-- Add a block to the sequence of its object (R346). -/
def ownWriteBlock (path : Path) (ix sub : Nat) (pl : List Byte) (s : State) : Verdict :=
  let off := leNat (pl.take 4)
  let data := pl.drop 4
  let total := match objRow? ix with | some row => row.len | none => 0
  let seq := s.mmp.seqs.find? (fun q => q.ix == ix && q.sub == sub)
  let have_ := match seq with | some q => q.bytes | none => []
  if ix = Ob.UPDATE_STAGING then ownStaging path pl s
  else if 4096 < data.length then .deny St.TYPE_LENGTH
  else if (match seq with | some q => q.path != path | none => false) then .deny St.BUSY
  else if off ≠ have_.length then .fail (s.dropSeq ix sub) St.BLOCK_ORDER
  else if total < off + data.length then .deny St.RANGE
  else
    let s1 := s.dropSeq ix sub
    if off + data.length = total then
      (match ownWrite path ix sub (have_ ++ data) s1 with
       | .deny st => .fail s1 st
       | v => v)
    else .done { s1 with mmp := { s1.mmp with seqs := ⟨ix, sub, path, have_ ++ data⟩ :: s1.mmp.seqs } } []

/-! ## Privileged sessions (R358) -/

/-- The keys that a life-cycle state admits for MMP.PRIV_OPEN (R493). -/
def keysFor (lc : Nat) : List SessionKey :=
  match lc with | 0 | 4 => [.vendor] | 1 => [.vendor, .module] | 2 | 3 => [.module] | _ => []

/-- The bytes of a key. -/
def State.keyOf (s : State) : SessionKey → List Byte
  | .vendor => s.vendorKey
  | .module => s.moduleKey

/-- The key that verifies a signature over a transport's pending challenge. -/
def State.keyThatOpens (s : State) (path : Path) (sig : List Byte) : Option SessionKey :=
  match (s.tp path).challenge with
  | some c => (keysFor (s.nat Ob.LC_STATE 0)).find? (fun k => Config.ecdsaVerify (s.keyOf k) (c ++ leBytes 1 path.sub) sig)
  | none => none

/-- A failed MMP.PRIV_OPEN: counted, raised, and after the third in a row the transport is locked out. -/
def State.authFail (s : State) (path : Path) : State :=
  let was := (s.tp path).locked
  let s1 := s.modTp path (fun t => if was then t else { t with fails := t.fails + 1, locked := decide (3 ≤ t.fails + 1) })
  (s1.bump Ob.MMP_PRIV_FAILS 0 1).raise Src.MMP_AUTH_FAIL path.sub (path.sub + 256 * was.toNat) Ob.MMP_EVENTS path.sub

/-- MMP.PRIV_OPEN: one attempt on the pending challenge; none is checked during a lockout. -/
def ownPrivOpen (path : Path) (sig : List Byte) (s : State) : Verdict :=
  let s1 := s.modTp path (fun t => { t with challenge := none })
  if (s.tp path).locked then .fail (s1.authFail path) St.AUTH_FAIL
  else match s.keyThatOpens path sig with
    | some k => .done (s1.modTp path (fun t => { t with session := some k, fails := 0 })) []
    | none => .fail (s1.authFail path) St.AUTH_FAIL

/-- MMP.PRIV_CLOSE. -/
def ownPrivClose (path : Path) (s : State) : Verdict := .done (s.modTp path (fun t => { t with session := none })) []

/-! ## DICT.RESTORE_DEFAULTS (R340) -/

/-- A verdict's state, where it has an effect. -/
def Verdict.state (v : Verdict) (s : State) : State :=
  match v with
  | .done s1 _ => s1
  | .later s1 => s1
  | .fail s1 _ => s1
  | .names s1 _ _ => s1
  | .deny _ => s

/-- One element takes its default as a write would, and holds it in any case. -/
def State.restoreOne (s : State) (row : ObjRow) (sub : Nat) : State :=
  if row.ty.isBytes then
    let d := blobDefault (objKey row.ix sub)
    if s.blob row.ix sub = d then s
    else if row.ix = Ob.HK_FIR_ACTIVE then (s.setBlob row.ix sub d).chanChangeAll
    else ((ownBytes row.ix sub d s).state s).setBlob row.ix sub d
  else
    let d : Int := if row.ix = Ob.COMPASS_PLAN_MV then (fieldOf (s.fuseWord 51) 32 16 : Nat) else numDefault row.ix sub
    if s.reg row.ix sub = d then s else ((ownNum .spi row.ix sub d s).state s).setReg row.ix sub d

/-- Every saved object takes its default, unsaved (R340). -/
def ownRestoreDefaults (s : State) : Verdict :=
  .done (forEach savedRows (fun row s => forEach (elements row) (fun sub s => s.restoreOne row sub) s) s).avsUpdate []

/-! ## EXEC -/

/-- An EXEC of any command, with its argument (R345). FUSE.PROGRAM stands here for a word whose cells all verify. -/
def ownExec (path : Path) (ix sub : Nat) (pl : List Byte) (s : State) : Verdict :=
  let v : Int := match objRow? ix with | some row => decodeVal row.ty pl | none => 0
  if ix = Ob.DICT_SAVE then ownDictSave s
  else if ix = Ob.DICT_RESTORE_DEFAULTS then ownRestoreDefaults s
  else if ix = Ob.MMP_PRIV_OPEN then ownPrivOpen path pl s
  else if ix = Ob.MMP_PRIV_CLOSE then ownPrivClose path s
  else if ix = Ob.TIME_SET then ownTimeSet v s
  else if ix = Ob.PORT_APPLY_BREAKOUT then ownApplyBreakout s
  else if ix = Ob.PORT_CMD then ownPortCmd sub v s
  else if ix = Ob.PORT_TEST_START then ownTestStart sub v s
  else if ix = Ob.LINE_ADC_CAL_FG then ownAdcCalFg sub s
  else if ix = Ob.LINE_TL_RESTART then ownTlRestart sub s
  else if ix = Ob.LINE_EYE_CAPTURE then ownEyeCapture sub s
  else if ix = Ob.TIC_CLEAR_PEAKS then ownTicClearPeaks s
  else if ix = Ob.RETRY_CLEAR_PEAKS then ownRetryClearPeaks s
  else if ix = Ob.DS_RETRAIN then ownDsRetrain s
  else if ix = Ob.TEST_INJ_FIRE then ownInjFire sub s
  else if ix = Ob.TEST_CAP_ARM then ownCapArm s
  else if ix = Ob.TEST_CAP_TRIGGER then ownCapTrigger s
  else if ix = Ob.HK_SELF_CAL then ownHkSelfCal s
  else if ix = Ob.HK_FIR_SWAP then ownFirSwap s
  else if ix = Ob.HK_LOAD then ownHkLoad s
  else if ix = Ob.ENG_RESTART then ownEngRestart sub s
  else if ix = Ob.ENG_PMU_CLEAR then ownPmuClear v s
  else if ix = Ob.THERMAL_CLEAR_PEAK then ownClearPeak s
  else if ix = Ob.COMPASS_PLAN_NOW then ownPlanNow s
  else if ix = Ob.POWER_CHIP_RESET then ownChipReset s
  else if ix = Ob.FAULT_LOG_CLEAR then ownLogClear s
  else if ix = Ob.FAULT_RAISE then ownFaultRaise v.toNat s
  else if ix = Ob.LC_ADVANCE then ownLcAdvance path v s
  else if ix = Ob.LC_RETURN then ownLcReturn path pl s
  else if ix = Ob.LC_RETIRE then ownLcRetire s
  else if ix = Ob.FUSE_PROGRAM then ownFuseProgram none s
  else if ix = Ob.SELFTEST_BIST_RUN then ownBistRun v.toNat s
  else if ix = Ob.SELFTEST_ANALOG_RUN then ownAnalogRun v.toNat s
  else if ix = Ob.UPDATE_OPEN then ownUpdateOpen path v.toNat s
  else if ix = Ob.UPDATE_VERIFY then ownUpdateVerify path s
  else if ix = Ob.UPDATE_ACTIVATE then ownUpdateActivate path v s
  else if ix = Ob.UPDATE_CLOSE then ownUpdateClose path s
  else if ix = Ob.UPDATE_ABORT then ownUpdateAbort s
  else if ix = Ob.UPDATE_CONFIRM then ownUpdateConfirm s
  else if ix = Ob.FABRIC_CLEAR_MIN then ownFabricClearMin s
  else .deny St.ACCESS_REFUSED

end Sys2Proof.Machine
end

