-- ==== Sys2Proof/Machine/Mmp.lean ====
section
/-! DEFINITION. The commands of the management protocol: reads, writes, blocks, WALK, forwarding, privileged sessions and the
dictionary's own commands (chapter 13). -/

namespace Sys2Proof.Machine

/-! ## Requests on objects -/

/-- MMP_READ (R345, R351): the value as it stands after every earlier commit. -/
def execMmpRead (r : Req) (ix sub : Nat) (pl : List Byte) (s : State) : Out :=
  .next (s.serve r .read ix sub pl (ownRead (s.cls r.path) (viewOf r) r.path ix sub))

/-- MMP_WRITE: a WRITE, or an EXEC of a command that has no row of its own (R349, R351). -/
def execMmpWrite (r : Req) (exec : Bool) (ix sub : Nat) (pl : List Byte) (s : State) : Out :=
  if exec then .next (s.serve r .exec ix sub pl (ownExec r.path ix sub pl))
  else .next (s.serve r .write ix sub pl (ownWrite r.path ix sub pl))

/-- MMP_READ_BLOCK (R345). -/
def execMmpReadBlock (r : Req) (ix sub : Nat) (pl : List Byte) (s : State) : Out :=
  .next (s.serve r .readBlock ix sub pl (ownReadBlock (s.cls r.path) (viewOf r) r.path ix sub pl))

/-- MMP_WRITE_BLOCK (R346). -/
def execMmpWriteBlock (r : Req) (ix sub : Nat) (pl : List Byte) (s : State) : Out :=
  .next (s.serve r .writeBlock ix sub pl (ownWriteBlock r.path ix sub pl))

/-- BLOCK_SEQUENCE_TIMEOUT: a sequence without a block for 1 s is discarded (R346). -/
def execBlockSequenceTimeout (ix sub : Nat) (s : State) : Out := .next (s.dropSeq ix sub)

/-- What a WALK answers (R347). -/
def ownWalk (c : Cls) (view ix : Nat) (s : State) : Verdict :=
  match s.walkFrom c view ix with
  | none => .deny St.END
  | some row =>
    let (s1, d) := s.descriptor c view row
    .names s1 row.ix d

/-- MMP_WALK. -/
def execMmpWalk (r : Req) (ix sub : Nat) (pl : List Byte) (s : State) : Out :=
  .next (s.serve r .walk ix sub pl (ownWalk (s.cls r.path) (viewOf r) ix))

/-! ## Forwarding (R357) -/

/-- The frame of a request as the host sends it with RMT set: the port byte opens its payload (R343). -/
def forwardBody (r : Req) (op : Opcode) (port ix sub : Nat) (pl : List Byte) : List Byte :=
  let pay := leBytes 1 port ++ schemaPrefix r ++ pl
  [0xA5, BitVec.ofNat 8 (opByte r op + 32), r.tag] ++ leBytes 2 ix ++ [BitVec.ofNat 8 sub] ++ leBytes 2 pay.length ++ pay

/-- The frame that goes to the far end on an in-band tag. -/
def forwardFrame (r : Req) (op : Opcode) (tag : Byte) (ix sub : Nat) (pl : List Byte) : List Byte :=
  closeFrame (frameBody { r with tag := tag } op ix sub pl)

/-- Whether a port forwards a request. -/
def State.forwards (s : State) (r : Req) (port : Nat) : Option (Fin 8) :=
  if h : port < 8 then
    let p : Fin 8 := ⟨port, h⟩
    if s.exists p && (s.pstate p == PS.ALIGNED || s.pstate p == PS.CARRYING) && s.native p &&
        bitOf (s.nat Ob.LINK_PARTNER_FEAT (port + 1)) 1 && !(r.schema.isSome && decide (s.nat Ob.LINK_LPL_TX (port + 1) < 3)) then
      some p else none
  else none

/-- The in-band tag for a request: a free one of the port's eight, and one on which it would not pass for a retry of the last
request where there is one (R350). -/
def State.inbandTag (s : State) (p : Fin 8) (r : Req) (op : Opcode) (ix sub : Nat) (pl : List Byte) : Option Byte :=
  let free := ((List.range 8).map (BitVec.ofNat 8)).filter (fun t => !s.mmp.fwd[p].any (fun f => f.tag == t))
  let alike (t : Byte) : Bool := s.mmp.fwdLast[p].any (fun x => x.1 == t && x.2 == forwardFrame r op t ix sub pl)
  match free.find? (fun t => !alike t) with
  | some t => some t
  | none => free.head?

/-- Send a request to the far end on an in-band tag. -/
def State.forwardOn (s : State) (p : Fin 8) (r : Req) (op : Opcode) (tag : Byte) (ix sub : Nat) (pl : List Byte) : State :=
  let bytes := forwardFrame r op tag ix sub pl
  let f : Forward := ⟨tag, r, opByte r op + 32, ix, sub, bytes, s.nat Ob.MMP_FAR_RETRIES (p.val + 1)⟩
  let s1 := (s.modFwd p (fun fs => fs ++ [f])).pushReply (.inband p) bytes
  if opChanges op then
    { s1 with mmp := { s1.mmp with
      fwdLast := s1.mmp.fwdLast.set p ((tag, bytes) :: s1.mmp.fwdLast[p].filter (fun x => x.1 != tag)) } }
  else s1

/-- Answer a request to be forwarded oneself. -/
def State.forwardReply (s : State) (r : Req) (op : Opcode) (ix sub st : Nat) : State :=
  s.answerForward ⟨r.tag, r, opByte r op + 32, ix, sub, [], 0⟩ st [] ix sub

/-- The checks of R349 that a request to be forwarded meets here: availability and the life cycle. -/
def State.forwardGate (s : State) : Nat :=
  let d := s.reg Ob.DICT_STATE 0
  if d = 0 then St.NOT_READY
  else if d ≠ 1 then St.SAFE_STATE
  else if s.reg Ob.LC_STATE 0 = 0 ∨ s.reg Ob.LC_STATE 0 = 5 then St.LIFE_CYCLE
  else 0

/-- MMP_FORWARD_REQUEST: a local request with RMT set. A request that arrives in band is never forwarded (R343, R349, R350,
R357). -/
def execMmpForwardRequest (r : Req) (op : Opcode) (port ix sub : Nat) (pl : List Byte) (s : State) : Out :=
  let body := forwardBody r op port ix sub pl
  let frame := closeFrame body
  let crc := crc16 body
  if !s.on Dom.MGT then .next (if r.path.isLocal then s.mgtCall else s)
  else
    let s1 := s.arrive r.path frame
    if !r.path.isLocal then
      .next (s1.pushBehind r.path (op == .exec) r.tag (replyFrame (opByte r op + 32) r.tag ix sub St.BAD_OPCODE []))
    else
      match (if opChanges op then (s1.tp r.path).last.find? (fun l => l.tag == r.tag && l.crc == crc) else none) with
      | some l => .next (match l.reply with | some f => s1.pushReply r.path f | none => s1)
      | none =>
        if s1.tagBusy r.path r.tag then
          .next (s1.pushReply r.path (replyFrame (opByte r op + 32) r.tag ix sub St.TAG_IN_USE []))
        else
          let s2 := if opChanges op then s1.modTp r.path (fun t => noteReq t r.tag crc) else s1
          if 8 ≤ s2.outstanding r.path then .next (s2.forwardReply r op ix sub St.BUSY)
          else if s2.forwardGate ≠ 0 then .next (s2.forwardReply r op ix sub s2.forwardGate)
          else match s2.forwards r port with
            | none => .next (s2.forwardReply r op ix sub St.CONFIG_CONFLICT)
            | some p =>
              match s2.inbandTag p r op ix sub pl with
              | some tag => .next (s2.forwardOn p r op tag ix sub pl)
              | none => .next (s2.forwardReply r op ix sub St.BUSY)

/-- MMP_FAR_REPLY: a reply frame from the far end. It is matched to its in-band tag and rebuilt for the host; one that matches
none is late (R349, R357). -/
def execMmpFarReply (p : Fin 8) (frame : List Byte) (s : State) : Out :=
  if !s.on Dom.MGT || !bitOf (frame.getD 1 0).toNat 7 then .next s
  else if !crcHolds frame then .next (s.frameError (.inband p) false)
  else
    let s1 := s.arrive (.inband p) frame
    let tag := frame.getD 2 0
    match s1.mmp.fwd[p].find? (fun f => f.tag == tag) with
    | none => .next (s1.bump Ob.MMP_FAR_LATE (p.val + 1) 1)
    | some f =>
      let n := leNat ((frame.drop 6).take 2)
      .next ((s1.modFwd p (fun fs => fs.filter (fun g => g.tag != tag))).answerForward f (frame.getD 8 0).toNat
        ((frame.drop 9).take n) (leNat ((frame.drop 3).take 2)) (frame.getD 5 0).toNat)

/-- MMP_FAR_TIMEOUT: the timer of a forwarded request expires: the same bytes again, or after the last retry PARTNER_TIMEOUT
(R357, R365). -/
def execMmpFarTimeout (p : Fin 8) (tag : Byte) (s : State) : Out :=
  match s.mmp.fwd[p].find? (fun f => f.tag == tag) with
  | none => .next s
  | some f =>
    if 0 < f.left then
      .next ((s.modFwd p (fun fs => fs.map (fun g => if g.tag = tag then { g with left := g.left - 1 } else g))).pushReply (.inband p)
        f.bytes)
    else
      let s1 := (s.modFwd p (fun fs => fs.filter (fun g => g.tag != tag))).bump Ob.MMP_FAR_TIMEOUTS (p.val + 1) 1
      .next ((s1.raise Src.MMP_FAR_TIMEOUT (4 + p.val) (p.val + 65536 * (f.ix % 65536)) Ob.MMP_EVENTS (4 + p.val)).answerForward f
        St.PARTNER_TIMEOUT [] f.ix f.sub)

/-! ## Privileged sessions (R358) -/

/-- PRIV_CHALLENGE_READ. -/
def execPrivChallengeRead (r : Req) (s : State) : Out :=
  .next (s.serve r .read Ob.MMP_PRIV_CHALLENGE 0 [] (ownChallenge r.path))

/-- PRIV_OPEN: the argument is the signature's 96 bytes. -/
def execPrivOpen (r : Req) (sig : List Byte) (s : State) : Out :=
  .next (s.serve r .exec Ob.MMP_PRIV_OPEN 0 sig (ownPrivOpen r.path sig))

/-- PRIV_LOCKOUT_END: the 10 s of a transport's lockout have passed. -/
def execPrivLockoutEnd (p : Path) (s : State) : Out :=
  if (s.tp p).locked then .next (s.modTp p (fun t => { t with locked := false, fails := 0 })) else .next s

/-- PRIV_CLOSE. -/
def execPrivClose (r : Req) (s : State) : Out := .next (s.serve r .exec Ob.MMP_PRIV_CLOSE 0 [0] (ownPrivClose r.path))

/-- PRIV_IDLE_TIMEOUT: MMP.PRIV_IDLE_S have passed without a request on the transport. -/
def execPrivIdleTimeout (p : Path) (s : State) : Out :=
  if (s.tp p).session.isSome then .next (s.modTp p (fun t => { t with session := none })) else .next s

/-! ## The dictionary's own commands -/

/-- DICT_RESTORE_DEFAULTS. -/
def execDictRestoreDefaults (r : Req) (s : State) : Out :=
  .next (s.serve r .exec Ob.DICT_RESTORE_DEFAULTS 0 [0] ownRestoreDefaults)

/-- DICT_STATE_READ (R447). -/
def execDictStateRead (r : Req) (s : State) : Out :=
  .next (s.serve r .read Ob.DICT_STATE 0 [] (ownStateRead (s.cls r.path)))

end Sys2Proof.Machine
end

