-- ==== Sys2Proof/Machine/Pins.lean ====
section
/-! DEFINITION. The test access port (R540). -/

namespace Sys2Proof.Machine

/-- Change the test access port. -/
def State.modTap (s : State) (f : Tap → Tap) : State := { s with tap := f s.tap }

/-- Whether the life cycle offers boundary scan and privileged debug (R540): FACTORY and RETURNED. -/
def State.tapOpen (s : State) : Bool := s.reg Ob.LC_STATE 0 == 1 || s.reg Ob.LC_STATE 0 == 4

/-- Load an instruction: boundary scan acts as BYPASS where the life cycle does not offer it, and one that does not drive the
pins lets them go. -/
def State.tapLoad (s : State) (i : TapIns) : State :=
  let i' : TapIns := match i with
    | .sample => if s.tapOpen then .sample else .bypass
    | .extest => if s.tapOpen then .extest else .bypass
    | other => other
  s.modTap (fun t => { t with reset := false, ins := i', driven := if i' = .extest then t.driven else none })

/-- What the selected data register captures: IDCODE, one 0 for BYPASS, or the pins. -/
def tapCapture (i : TapIns) (pins : List Bool) : List Bool :=
  match i with
  | .idcode => lsbBits 32 0x32081A6F
  | .bypass => [false]
  | _ => pins

/-- TEST_ACCESS_PORT (R540). TRST_N puts the port in reset, with IDCODE selected; every other operation finds it released.
Privileged debug, which the spec does not describe, is refused by name where the life cycle offers it. -/
def execTestAccessPort (op : TapOp) (s : State) : Out :=
  if !s.start.powered then .next s
  else match op with
    | .trst => .next { s with tap := {} }
    | .idcode => .next (s.tapLoad .idcode)
    | .bypass => .next (s.tapLoad .bypass)
    | .unknown => .next (s.tapLoad .bypass)
    | .sample => .next (s.tapLoad .sample)
    | .extest => .next (s.tapLoad .extest)
    | .debug => if s.tapOpen then .refused .privilegedDebug else .next (s.tapLoad .bypass)
    | .capture pins => .next (s.modTap (fun t => { t with reset := false, dr := tapCapture t.ins pins, out := [] }))
    | .shift bits => .next (s.modTap (fun t => { t with
        reset := false, out := (t.dr ++ bits).take bits.length, dr := (t.dr ++ bits).drop bits.length }))
    | .update => .next (s.modTap (fun t => { t with reset := false, driven := if t.ins = .extest then some t.dr else t.driven }))

end Sys2Proof.Machine
end

