-- ==== Sys2Proof/Machine/Dispatch.lean ====
section
/-! DEFINITION. The dispatch: one arm per command, each a direct call of that command's meaning. -/

namespace Sys2Proof.Machine

/-- The effect of a command on everything but the queue. -/
def exec (i : Instr) (s : State) : Host.Outcome State Fault Refusal :=
  match i with
  | .mmpRead r ix sub pl => Sys2Proof.Machine.execMmpRead r ix sub pl s
  | .mmpWrite r isExec ix sub pl => Sys2Proof.Machine.execMmpWrite r isExec ix sub pl s
  | .mmpReadBlock r ix sub pl => Sys2Proof.Machine.execMmpReadBlock r ix sub pl s
  | .mmpWriteBlock r ix sub pl => Sys2Proof.Machine.execMmpWriteBlock r ix sub pl s
  | .blockSequenceTimeout ix sub => Sys2Proof.Machine.execBlockSequenceTimeout ix sub s
  | .mmpWalk r ix sub pl => Sys2Proof.Machine.execMmpWalk r ix sub pl s
  | .mmpForwardRequest r op port ix sub pl => Sys2Proof.Machine.execMmpForwardRequest r op port ix sub pl s
  | .mmpFarReply p frame => Sys2Proof.Machine.execMmpFarReply p frame s
  | .mmpFarTimeout p tag => Sys2Proof.Machine.execMmpFarTimeout p tag s
  | .spiPush bs => Sys2Proof.Machine.execSpiPush bs s
  | .spiPull n => Sys2Proof.Machine.execSpiPull n s
  | .spiStatus => Sys2Proof.Machine.execSpiStatus s
  | .i2cStatusRead => Sys2Proof.Machine.execI2cStatusRead s
  | .mdioMmpPush w => Sys2Proof.Machine.execMdioMmpPush w s
  | .mdioMmpPull => Sys2Proof.Machine.execMdioMmpPull s
  | .mdioMmpStatusWrite w => Sys2Proof.Machine.execMdioMmpStatusWrite w s
  | .mgtStandinWake via => Sys2Proof.Machine.execMgtStandinWake via s
  | .privChallengeRead r => Sys2Proof.Machine.execPrivChallengeRead r s
  | .privOpen r sig => Sys2Proof.Machine.execPrivOpen r sig s
  | .privLockoutEnd p => Sys2Proof.Machine.execPrivLockoutEnd p s
  | .privClose r => Sys2Proof.Machine.execPrivClose r s
  | .privIdleTimeout p => Sys2Proof.Machine.execPrivIdleTimeout p s
  | .dictSave r => Sys2Proof.Machine.execDictSave r s
  | .dictRestoreDefaults r => Sys2Proof.Machine.execDictRestoreDefaults r s
  | .dictStateRead r => Sys2Proof.Machine.execDictStateRead r s
  | .timeSet r t => Sys2Proof.Machine.execTimeSet r t s
  | .timeNextSecondsWrite r v => Sys2Proof.Machine.execTimeNextSecondsWrite r v s
  | .timePpsEnableWrite r v => Sys2Proof.Machine.execTimePpsEnableWrite r v s
  | .timeRateAdjWrite r v => Sys2Proof.Machine.execTimeRateAdjWrite r v s
  | .ppsEdge phase => Sys2Proof.Machine.execPpsEdge phase s
  | .ppsWindowClose => Sys2Proof.Machine.execPpsWindowClose s
  | .ppsSlewDone => Sys2Proof.Machine.execPpsSlewDone s
  | .tick m => Sys2Proof.Machine.execTick m s
  | .fabricWindow l m => Sys2Proof.Machine.execFabricWindow l m s
  | .fabricClearMin r => Sys2Proof.Machine.execFabricClearMin r s
  | .lineRxOverrun l codes => Sys2Proof.Machine.execLineRxOverrun l codes s
  | .lineTxUnderrun l => Sys2Proof.Machine.execLineTxUnderrun l s
  | .hostIngressOverrun h => Sys2Proof.Machine.execHostIngressOverrun h s
  | .hostEgressUnderrun h => Sys2Proof.Machine.execHostEgressUnderrun h s
  | .adcCalFg r sub => Sys2Proof.Machine.execAdcCalFg r sub s
  | .adcFgCalDone l m => Sys2Proof.Machine.execAdcFgCalDone l m s
  | .rxsynthBandSelectDone h => Sys2Proof.Machine.execRxsynthBandSelectDone h s
  | .rxsynthUnlock h => Sys2Proof.Machine.execRxsynthUnlock h s
  | .rxsynthRelock h => Sys2Proof.Machine.execRxsynthRelock h s
  | .rxsynthAttemptTimeout h => Sys2Proof.Machine.execRxsynthAttemptTimeout h s
  | .adcWindow l codes => Sys2Proof.Machine.execAdcWindow l codes s
  | .adcRecalTimer l => Sys2Proof.Machine.execAdcRecalTimer l s
  | .adcBgEnableWrite r sub v => Sys2Proof.Machine.execAdcBgEnableWrite r sub v s
  | .adcCorrectionRampStep l => Sys2Proof.Machine.execAdcCorrectionRampStep l s
  | .subadcStuck l k => Sys2Proof.Machine.execSubadcStuck l k s
  | .tlRestart r sub => Sys2Proof.Machine.execTlRestart r sub s
  | .tlTrackEntry l codes => Sys2Proof.Machine.execTlTrackEntry l codes s
  | .tlAcquireRetry l codes => Sys2Proof.Machine.execTlAcquireRetry l codes s
  | .tlLockLoss l codes => Sys2Proof.Machine.execTlLockLoss l codes s
  | .adaptCycleEnd l codes => Sys2Proof.Machine.execAdaptCycleEnd l codes s
  | .adaptTaskDone l => Sys2Proof.Machine.execAdaptTaskDone l s
  | .eqConvergeEnd l => Sys2Proof.Machine.execEqConvergeEnd l s
  | .bankSwap l codes => Sys2Proof.Machine.execBankSwap l codes s
  | .rollbackCheck l codes => Sys2Proof.Machine.execRollbackCheck l codes s
  | .structuralChange l => Sys2Proof.Machine.execStructuralChange l s
  | .lineRxInvertWrite r sub v => Sys2Proof.Machine.execLineRxInvertWrite r sub v s
  | .eqFreezeWrite r sub v => Sys2Proof.Machine.execEqFreezeWrite r sub v s
  | .eyeCapture r sub => Sys2Proof.Machine.execEyeCapture r sub s
  | .eyeCaptureDone l codes => Sys2Proof.Machine.execEyeCaptureDone l codes s
  | .codewordArrival l codes errs => Sys2Proof.Machine.execCodewordArrival l codes errs s
  | .decodeEnd h u delivered => Sys2Proof.Machine.execDecodeEnd h u delivered s
  | .releaseDeadline l inst layers => Sys2Proof.Machine.execReleaseDeadline l inst layers s
  | .layerWatchdog h u layers => Sys2Proof.Machine.execLayerWatchdog h u layers s
  | .frameReceived p => Sys2Proof.Machine.execFrameReceived p s
  | .markerReceived l codes lag => Sys2Proof.Machine.execMarkerReceived l codes lag s
  | .slotFill p take => Sys2Proof.Machine.execSlotFill p take s
  | .retxTimer p seq => Sys2Proof.Machine.execRetxTimer p seq s
  | .windowAgeWriteoff p seq => Sys2Proof.Machine.execWindowAgeWriteoff p seq s
  | .gapAgeRelease p seq => Sys2Proof.Machine.execGapAgeRelease p seq s
  | .statusRepeat p => Sys2Proof.Machine.execStatusRepeat p s
  | .echoReqTimer p => Sys2Proof.Machine.execEchoReqTimer p s
  | .retryWindowWrite r sub v => Sys2Proof.Machine.execRetryWindowWrite r sub v s
  | .dsTrainingDone t => Sys2Proof.Machine.execDsTrainingDone t s
  | .dsRetrain r => Sys2Proof.Machine.execDsRetrain r s
  | .dsTrainingRetry => Sys2Proof.Machine.execDsTrainingRetry s
  | .dsChannelRetrain d c => Sys2Proof.Machine.execDsChannelRetrain d c s
  | .dsLineRead p seq held first again verify => Sys2Proof.Machine.execDsLineRead p seq held first again verify s
  | .dsWrite p seq held burst fails bad => Sys2Proof.Machine.execDsWrite p seq held burst fails bad s
  | .dsWriteDone p seq held => Sys2Proof.Machine.execDsWriteDone p seq held s
  | .dsRefresh => Sys2Proof.Machine.execDsRefresh s
  | .dsTempRead d temp => Sys2Proof.Machine.execDsTempRead d temp s
  | .txSynthBandDone l found => Sys2Proof.Machine.execTxSynthBandDone l found s
  | .txSynthLock l => Sys2Proof.Machine.execTxSynthLock l s
  | .txSynthLockTimeout l => Sys2Proof.Machine.execTxSynthLockTimeout l s
  | .dacCheckDone l mvppd => Sys2Proof.Machine.execDacCheckDone l mvppd s
  | .txSynthUnlock l => Sys2Proof.Machine.execTxSynthUnlock l s
  | .txRelockTimeout l => Sys2Proof.Machine.execTxRelockTimeout l s
  | .txMuteLift l => Sys2Proof.Machine.execTxMuteLift l s
  | .opticsUpStep l => Sys2Proof.Machine.execOpticsUpStep l s
  | .opticsDownStep l => Sys2Proof.Machine.execOpticsDownStep l s
  | .biasStepDone l => Sys2Proof.Machine.execBiasStepDone l s
  | .waveRampStep l => Sys2Proof.Machine.execWaveRampStep l s
  | .txMuteForceWrite r sub v => Sys2Proof.Machine.execTxMuteForceWrite r sub v s
  | .hostSignalLock h => Sys2Proof.Machine.execHostSignalLock h s
  | .hostAligned inst skewNs order => Sys2Proof.Machine.execHostAligned inst skewNs order s
  | .hostMarkerLoss inst => Sys2Proof.Machine.execHostMarkerLoss inst s
  | .hostSignalLoss h cdr => Sys2Proof.Machine.execHostSignalLoss h cdr s
  | .hostIngressCodeword inst levels => Sys2Proof.Machine.execHostIngressCodeword inst levels s
  | .hostEgressCodeword inst => Sys2Proof.Machine.execHostEgressCodeword inst s
  | .egressStall inst => Sys2Proof.Machine.execEgressStall inst s
  | .hostPresetWrite r sub w => Sys2Proof.Machine.execHostPresetWrite r sub w s
  | .portApplyBreakout r => Sys2Proof.Machine.execPortApplyBreakout r s
  | .breakoutDone => Sys2Proof.Machine.execBreakoutDone s
  | .portCmdOff r sub => Sys2Proof.Machine.execPortCmdOff r sub s
  | .portCmdStandby r sub => Sys2Proof.Machine.execPortCmdStandby r sub s
  | .portCmdUp r sub => Sys2Proof.Machine.execPortCmdUp r sub s
  | .portModeWrite r sub v => Sys2Proof.Machine.execPortModeWrite r sub v s
  | .portRateSetWrite r sub v => Sys2Proof.Machine.execPortRateSetWrite r sub v s
  | .rateChangeComplete p => Sys2Proof.Machine.execRateChangeComplete p s
  | .rateDetect l cls => Sys2Proof.Machine.execRateDetect l cls s
  | .codewordLock l codes => Sys2Proof.Machine.execCodewordLock l codes s
  | .falseLockTimeout l => Sys2Proof.Machine.execFalseLockTimeout l s
  | .searchStatusTimeout p => Sys2Proof.Machine.execSearchStatusTimeout p s
  | .carryDelayExpiry p => Sys2Proof.Machine.execCarryDelayExpiry p s
  | .noFrameTimeout p => Sys2Proof.Machine.execNoFrameTimeout p s
  | .losHoldoffExpiry p => Sys2Proof.Machine.execLosHoldoffExpiry p s
  | .drainLastSlotsDone p => Sys2Proof.Machine.execDrainLastSlotsDone p s
  | .drainComplete p => Sys2Proof.Machine.execDrainComplete p s
  | .testLinePrbs r sub => Sys2Proof.Machine.execTestLinePrbs r sub s
  | .testHostPrbs r sub => Sys2Proof.Machine.execTestHostPrbs r sub s
  | .testLoopHostAnalog r sub => Sys2Proof.Machine.execTestLoopHostAnalog r sub s
  | .testLoopHostDigital r sub => Sys2Proof.Machine.execTestLoopHostDigital r sub s
  | .testLoopLineLocal r sub => Sys2Proof.Machine.execTestLoopLineLocal r sub s
  | .testLoopLineTic r sub => Sys2Proof.Machine.execTestLoopLineTic r sub s
  | .testDurationExpiry p => Sys2Proof.Machine.execTestDurationExpiry p s
  | .checkerLock c codes => Sys2Proof.Machine.execCheckerLock c codes s
  | .checkerLockLoss c codes => Sys2Proof.Machine.execCheckerLockLoss c codes s
  | .testFarLoopWrite r sub v => Sys2Proof.Machine.execTestFarLoopWrite r sub v s
  | .injFire r sub => Sys2Proof.Machine.execInjFire r sub s
  | .forcedLosEnd p => Sys2Proof.Machine.execForcedLosEnd p s
  | .capArm r => Sys2Proof.Machine.execCapArm r s
  | .capTrigger r => Sys2Proof.Machine.execCapTrigger r s
  | .capTimeTrigger => Sys2Proof.Machine.execCapTimeTrigger s
  | .capDone => Sys2Proof.Machine.execCapDone s
  | .hkTrigger by_ raw => Sys2Proof.Machine.execHkTrigger by_ raw s
  | .hkTrigFallback => Sys2Proof.Machine.execHkTrigFallback s
  | .hkRefReady => Sys2Proof.Machine.execHkRefReady s
  | .hkSelfCal r => Sys2Proof.Machine.execHkSelfCal r s
  | .hkSelfCalDone off gain => Sys2Proof.Machine.execHkSelfCalDone off gain s
  | .hkAdcResultRead r sub => Sys2Proof.Machine.execHkAdcResultRead r sub s
  | .hkFilterOutput k => Sys2Proof.Machine.execHkFilterOutput k s
  | .hkFirSwap r => Sys2Proof.Machine.execHkFirSwap r s
  | .hkLoad r => Sys2Proof.Machine.execHkLoad r s
  | .hkLoadTimer => Sys2Proof.Machine.execHkLoadTimer s
  | .ldacNAssert => Sys2Proof.Machine.execLdacNAssert s
  | .adacSlewStep k => Sys2Proof.Machine.execAdacSlewStep k s
  | .adacShort k atLimit => Sys2Proof.Machine.execAdacShort k atLimit s
  | .engTaskDone e task w => Sys2Proof.Machine.execEngTaskDone e task w s
  | .engTaskMiss e task w => Sys2Proof.Machine.execEngTaskMiss e task w s
  | .engHalt e memory offset => Sys2Proof.Machine.execEngHalt e memory offset s
  | .engRestartDone e => Sys2Proof.Machine.execEngRestartDone e s
  | .engRestart r sub => Sys2Proof.Machine.execEngRestart r sub s
  | .engPmuClear r which => Sys2Proof.Machine.execEngPmuClear r which s
  | .engPmuFreezeWrite r v => Sys2Proof.Machine.execEngPmuFreezeWrite r v s
  | .pmuOverflow e j task offset => Sys2Proof.Machine.execPmuOverflow e j task offset s
  | .pmuOvfStatusWrite r sub v => Sys2Proof.Machine.execPmuOvfStatusWrite r sub v s
  | .pmuSampleRead r sub => Sys2Proof.Machine.execPmuSampleRead r sub s
  | .diodeConversion reading => Sys2Proof.Machine.execDiodeConversion reading s
  | .monitorMapping => Sys2Proof.Machine.execMonitorMapping s
  | .throttleRise => Sys2Proof.Machine.execThrottleRise s
  | .throttleFall => Sys2Proof.Machine.execThrottleFall s
  | .thermalShutdown byDiode => Sys2Proof.Machine.execThermalShutdown byDiode s
  | .poweredHourEnd => Sys2Proof.Machine.execPoweredHourEnd s
  | .planDue => Sys2Proof.Machine.execPlanDue s
  | .planCommit speed bandgap => Sys2Proof.Machine.execPlanCommit speed bandgap s
  | .compassPlanNow r => Sys2Proof.Machine.execCompassPlanNow r s
  | .avsRequestSend => Sys2Proof.Machine.execAvsRequestSend s
  | .avsNoAck => Sys2Proof.Machine.execAvsNoAck s
  | .thermalClearPeak r => Sys2Proof.Machine.execThermalClearPeak r s
  | .voteHostWrite r sub v => Sys2Proof.Machine.execVoteHostWrite r sub v s
  | .voteFarWrite r sub v => Sys2Proof.Machine.execVoteFarWrite r sub v s
  | .wakePinEdge p high => Sys2Proof.Machine.execWakePinEdge p high s
  | .domainEntryDone d => Sys2Proof.Machine.execDomainEntryDone d s
  | .domainRelease d lostBank => Sys2Proof.Machine.execDomainRelease d lostBank s
  | .releaseTimeout d => Sys2Proof.Machine.execReleaseTimeout d s
  | .powerOn strap => Sys2Proof.Machine.execPowerOn strap s
  | .resetNAssert => Sys2Proof.Machine.execResetNAssert s
  | .resetNRelease strap => Sys2Proof.Machine.execResetNRelease strap s
  | .undervoltage => Sys2Proof.Machine.execUndervoltage s
  | .chipReset => Sys2Proof.Machine.execChipReset s
  | .powerChipReset r => Sys2Proof.Machine.execPowerChipReset r s
  | .fuseSenseDone flips => Sys2Proof.Machine.execFuseSenseDone flips s
  | .bistWaveDone res => Sys2Proof.Machine.execBistWaveDone res s
  | .bootLoaded ok => Sys2Proof.Machine.execBootLoaded ok s
  | .copyBlockDone => Sys2Proof.Machine.execCopyBlockDone s
  | .copyVerifyDone ok => Sys2Proof.Machine.execCopyVerifyDone ok s
  | .activeLoaded => Sys2Proof.Machine.execActiveLoaded s
  | .settingsLoaded => Sys2Proof.Machine.execSettingsLoaded s
  | .startupReady => Sys2Proof.Machine.execStartupReady s
  | .lookoutRecordAccept => Sys2Proof.Machine.execLookoutRecordAccept s
  | .safeStateEntry => Sys2Proof.Machine.execSafeStateEntry s
  | .selfFault cause => Sys2Proof.Machine.execSelfFault cause s
  | .intPendingWrite r bs => Sys2Proof.Machine.execIntPendingWrite r bs s
  | .errPendingWrite r bs => Sys2Proof.Machine.execErrPendingWrite r bs s
  | .faultLogClear r => Sys2Proof.Machine.execFaultLogClear r s
  | .faultRaise r v => Sys2Proof.Machine.execFaultRaise r v s
  | .memScrubRead reads => Sys2Proof.Machine.execMemScrubRead reads s
  | .fuseProgram r fail => Sys2Proof.Machine.execFuseProgram r fail s
  | .lcAdvance r v => Sys2Proof.Machine.execLcAdvance r v s
  | .lcChallengeRead r => Sys2Proof.Machine.execLcChallengeRead r s
  | .lcReturn r token => Sys2Proof.Machine.execLcReturn r token s
  | .lcRetire r => Sys2Proof.Machine.execLcRetire r s
  | .selftestAnalogRun r v => Sys2Proof.Machine.execSelftestAnalogRun r v s
  | .analogCheckDone item m => Sys2Proof.Machine.execAnalogCheckDone item m s
  | .selftestBistRun r v => Sys2Proof.Machine.execSelftestBistRun r v s
  | .updateOpen r len => Sys2Proof.Machine.execUpdateOpen r len s
  | .stagingEraseDone => Sys2Proof.Machine.execStagingEraseDone s
  | .updateStagingWrite r payload => Sys2Proof.Machine.execUpdateStagingWrite r payload s
  | .pageProgramDone ok => Sys2Proof.Machine.execPageProgramDone ok s
  | .updateVerify r => Sys2Proof.Machine.execUpdateVerify r s
  | .verifyDone => Sys2Proof.Machine.execVerifyDone s
  | .updateActivateNextStart r => Sys2Proof.Machine.execUpdateActivateNextStart r s
  | .updateActivateReset r => Sys2Proof.Machine.execUpdateActivateReset r s
  | .updateClose r => Sys2Proof.Machine.execUpdateClose r s
  | .updateAbort r => Sys2Proof.Machine.execUpdateAbort r s
  | .updateConfirm r => Sys2Proof.Machine.execUpdateConfirm r s
  | .probationExpiry => Sys2Proof.Machine.execProbationExpiry s
  | .conversionSave => Sys2Proof.Machine.execConversionSave s
  | .porDelayExpiry => Sys2Proof.Machine.execPorDelayExpiry s
  | .i2cPush bs => Sys2Proof.Machine.execI2cPush bs s
  | .i2cPull n => Sys2Proof.Machine.execI2cPull n s
  | .pwmPeriodStart inst => Sys2Proof.Machine.execPwmPeriodStart inst s
  | .codewordCandidateFail l codes => Sys2Proof.Machine.execCodewordCandidateFail l codes s
  | .s1AmReceived l err lock => Sys2Proof.Machine.execS1AmReceived l err lock s
  | .s1CodewordDecoded l received corrected uncorrectable marked data errs => Sys2Proof.Machine.execS1CodewordDecoded l received corrected uncorrectable marked data errs s
  | .settingsSaveDone failSector => Sys2Proof.Machine.execSettingsSaveDone failSector s
  | .testAccessPort op => Sys2Proof.Machine.execTestAccessPort op s

end Sys2Proof.Machine
end

