-- ==== Sys2Proof/Machine/Flags.lean ====
section
/-! DEFINITION. The two attention pins, as they follow from the state (R354, R447, R449, R460, R464, R532). -/

namespace Sys2Proof.Machine

/-- Power-on reset or RESET_N holds the device: both pins are released (R532). A safe state ignores RESET_N (R444). -/
def State.inReset (s : State) : Bool :=
  !s.start.powered || (s.start.resetN && decide (s.reg Ob.POWER_START_STEP 0 ≤ 1) && s.reg Ob.DICT_STATE 0 == 0)

/-- Whether any bit of a pending mask is set (R460). -/
def anyBit (bs : List Byte) : Bool := bs.any (· != 0)

/-- Reply bytes wait on a path (R354). -/
def State.replyWaits (s : State) (p : Path) : Bool := (s.tp p).replies != []

/-- INT_N is asserted: a pending bit (R460), the assertion of step 8 (R447), or a waiting reply with MMP.INT_ON_REPLY (R354). -/
def State.intAsserted (s : State) : Bool :=
  !s.inReset &&
    (anyBit (s.blob Ob.FAULT_INT_PENDING 0) || s.start.ready ||
      (s.flag Ob.MMP_INT_ON_REPLY 0 && (s.replyWaits .spi || s.replyWaits .i2c || s.replyWaits .mdio)))

/-- ERR_N is asserted: a pending bit (R460), SAFE_HOLD (R449) or the safe state (R464). -/
def State.errAsserted (s : State) : Bool :=
  !s.inReset &&
    (anyBit (s.blob Ob.FAULT_ERR_PENDING 0) || s.reg Ob.DICT_STATE 0 == 2 || s.reg Ob.DICT_STATE 0 == 3)

end Sys2Proof.Machine
end

