-- ==== Sys2Proof/Safety.lean ====
section
/-! DEFINITION. What counts as a sound state, and the terms in which the statements speak of requests, registers and replies. -/

namespace Sys2Proof.Machine

/-! ## Sound states -/

/-- A sound state: every store is in its canonical form, and the WAYMARK accumulator is below 2^128 (R49). -/
structure State.Inv (s : State) : Prop where
  regs : s.regs.wf regDefault = true
  blobs : s.blobs.wf blobDefault = true
  savedRegs : s.savedRegs.wf regDefault = true
  savedBlobs : s.savedBlobs.wf blobDefault = true
  flash : s.flash.wf flashDefault = true
  acc : s.time.acc < 2 ^ 128

/-! ## Frames -/

/-- Every numeric object reads in `t` as in `s`, but for those that `touched` names. -/
def KeepsRegs (touched : Nat → Nat → Prop) (s t : State) : Prop :=
  ∀ ix sub, sub < 256 → ¬ touched ix sub → t.reg ix sub = s.reg ix sub

/-- The objects that a raised event can write beside its own counter (R332, R458). -/
def EventObj (ix sub : Nat) : Prop :=
  (sub = 0 ∧ (ix = Ob.TEST_CAP_STATE ∨ ix = Ob.TEST_CAP_TRIG_STAMP ∨ ix = Ob.FAULT_LOG_DROPPED))

/-- The objects that a codeword's release can write: its counters and latency, the outer decoder's, an injection's, and the
transmitter's at loop-back depth 4 (R157, R167, R169, R186, R249, R329). -/
def releaseObjs : List Nat :=
  [Ob.TIC_CW_CONVERGED, Ob.TIC_CW_CAP_FAIL, Ob.TIC_CW_FORCED, Ob.TIC_CW_UNDECODED, Ob.TIC_CW_UNSETTLED, Ob.TIC_ITER_TOTAL,
   Ob.HAMPER_LATENCY_MAX_NS, Ob.HAMPER_OCCUPANCY, Ob.LINK_RS_CW, Ob.LINK_RS_SYM_CORRECTED, Ob.LINK_RS_UNCORRECTABLE,
   Ob.TEST_INJ_ACTIVE, Ob.TEST_INJ_APPLIED, Ob.TIC_BORROWED, Ob.TX_CLIP_COUNT, Ob.TX_EVENTS]

/-! ## Kinds of objects -/

/-- The numeric objects whose reads compute their value, or have an effect, beside what the store holds. -/
def computedObjs : List Nat :=
  [Ob.DICT_STATE, Ob.HK_ADC_RESULT, Ob.ENG_PMU_SAMPLE, Ob.TIME_NOW, Ob.DICT_OBJECT_COUNT, Ob.DICT_SAVE_PENDING, Ob.MMP_I2C_ADDR,
   Ob.MMP_MDIO_PRTAD, Ob.MMP_PRIV_STATE, Ob.PORT_OWNER, Ob.LINE_ADC_RECAL_DUE_S, Ob.LINE_EQ_STRUCTURE, Ob.LINE_UNSETTLED,
   Ob.LINE_SNR, Ob.RETRY_WINDOW, Ob.TIC_CAP_EFFECTIVE, Ob.TIC_DEADLINE_NS, Ob.TIC_UNITS_RESERVED, Ob.ENG_ASSIGNMENT,
   Ob.UPDATE_PROBATION_LEFT_S, Ob.FABRIC_MARGIN, Ob.POWER_RES_ON_US, Ob.POWER_RES_RET_US, Ob.POWER_RES_OFF_US]

/-- The chapters whose object tables give a write of some numeric object a rule of its own beside storing the value. -/
def ruledChapters : List Nat := [0x02, 0x04, 0x08, 0x0A, 0x0B, 0x0C, 0x0D, 0x0E, 0x10, 0x11, 0x13, 0x14]

/-- The byte-string objects whose write has a rule of its own. -/
def ruledBytes : List Nat :=
  [Ob.TX_WAVE_COLD, Ob.TX_WAVE_COLD + 1, Ob.TX_WAVE_COLD + 2, Ob.TX_WAVE_COLD + 3, Ob.HOST_PRESET_TABLE, Ob.HK_SCAN, Ob.ENG_PMU_SEL,
   Ob.ENG_PMU_COUNT, Ob.FAULT_INT_PENDING, Ob.FAULT_ERR_PENDING]

/-- The objects whose read has an effect of its own. -/
def readEffects : List Nat := [Ob.DICT_STATE, Ob.MMP_PRIV_CHALLENGE, Ob.LC_CHALLENGE, Ob.HK_ADC_RESULT, Ob.ENG_PMU_SAMPLE]

/-! ## Requests -/

/-- The state in which an object's own rule sees a request: its frame counted, and noted on its TAG (R349, R350, R366). -/
def State.taken (s : State) (r : Req) (op : Opcode) (ix sub : Nat) (pl : List Byte) : State :=
  let body := frameBody r op ix sub pl
  let s1 := s.arrive r.path (closeFrame body)
  if opChanges op then s1.modTp r.path (fun t => noteReq t r.tag (crc16 body)) else s1

/-- A request that is new, has its TAG free and room, and passes the checks of R349 up to its object's own rule. -/
structure State.Accepts (s : State) (r : Req) (op : Opcode) (ix sub : Nat) (pl : List Byte) : Prop where
  mgt : s.on Dom.MGT = true
  schema : badOpcode r = false
  new : opChanges op = true → ∀ l ∈ (s.tp r.path).last, l.tag = r.tag → l.crc ≠ crc16 (frameBody r op ix sub pl)
  tag : s.tagBusy r.path r.tag = false
  room : (s.taken r op ix sub pl).outstanding r.path < 8
  gate : (s.taken r op ix sub pl).gate r op ix sub pl = 0
  single : op = .read → topSub ix sub = none

end Sys2Proof.Machine
end

