-- ==== Sys2Proof/Certificates/Slice0/Obligations.lean ====
section
/-! DEFINITION. The statements put to the provers. -/

open Sys2Proof Sys2Proof.Machine

/-! ## The step -/

/-- A step of a state with a command at the front of its queue runs exactly that command, on the state with the queue's rest. -/
def Obligations.StepRunsFrontCommand : Prop :=
  (∀ (c : Instr) (s : State), step { s with pending := c :: s.pending } = exec c s) ∧
  (∀ (c : Instr) (rest : List Instr) (s : State), s.pending = c :: rest → step s = exec c { s with pending := rest })

/-- With no command waiting one REFCLK cycle passes: the counter advances by the increment of R49, the nominal cycle times
(1 + TIME.RATE_ADJ × 2^-40) to the nearest unit of 2^-80 s, a tie up, and at half of it while a slew runs (R54). That a step on an
empty queue is a cycle is the model's choice (log entry 1). -/
def Obligations.IdleStepIsOneCycle : Prop :=
  ∀ s : State, s.pending = [] → s.start.powered = true →
    ∃ t, step s = .next t ∧ t = { s with time := t.time } ∧ t.time.now = s.time.now + 1 ∧
      (s.time.slewLeft = 0 → (t.time.acc : Int) = ((s.time.acc : Int) +
        (((2 * (2 ^ 40 * (2 ^ 40 + s.reg Ob.TIME_RATE_ADJ 0)) + 156250000) / (2 * 156250000)).toNat : Int)) % 2 ^ 128) ∧
      t.time.slewLeft ≤ s.time.slewLeft ∧ (s.time.slewing = false → t.time.slewing = false)

/-- The reset state is sound. -/
def Obligations.ResetIsSound : Prop := State.reset.Inv

/-- Every step from a sound state leads to a sound state: every store keeps its canonical form and the WAYMARK accumulator stays
below 2^128. -/
def Obligations.EveryStepKeepsSoundness : Prop :=
  ∀ s t : State, s.Inv → step s = .next t → t.Inv

/-! ## Requests -/

/-- R350: a state-changing request that repeats the last one on its TAG is answered with that one's reply, where it was given, and
is dropped where it was not; it has no effect of its own. -/
def Obligations.DuplicateRequestRepeatsItsReply : Prop :=
  ∀ (s : State) (r : Req) (op : Opcode) (ix sub : Nat) (pl : List Byte) (own : State → Verdict) (l : LastReq),
    s.on Dom.MGT = true → badOpcode r = false → opChanges op = true →
    (s.tp r.path).last.find? (fun m => m.tag == r.tag && m.crc == crc16 (frameBody r op ix sub pl)) = some l →
      s.serve r op ix sub pl own =
        (match l.reply with
         | some f => (s.arrive r.path (closeFrame (frameBody r op ix sub pl))).pushBehind r.path (op == .exec) r.tag f
         | none => s.arrive r.path (closeFrame (frameBody r op ix sub pl)))

/-- A request on a TAG that is still outstanding is answered TAG_IN_USE, and a ninth one BUSY, with no effect of their own (R349,
R350). A refusal by the checks of R349 has none either. -/
def Obligations.RefusedRequestsHaveNoEffect : Prop :=
  ∀ (s : State) (r : Req) (op : Opcode) (ix sub : Nat) (pl : List Byte) (own : State → Verdict),
    s.on Dom.MGT = true → badOpcode r = false →
    (opChanges op = true → ∀ l ∈ (s.tp r.path).last, l.tag = r.tag → l.crc ≠ crc16 (frameBody r op ix sub pl)) →
      (s.tagBusy r.path r.tag = true →
        s.serve r op ix sub pl own = (s.arrive r.path (closeFrame (frameBody r op ix sub pl))).pushBehind r.path (op == .exec) r.tag
          (replyFrame (opByte r op) r.tag ix sub St.TAG_IN_USE [])) ∧
      (s.tagBusy r.path r.tag = false → 8 ≤ (s.taken r op ix sub pl).outstanding r.path →
        s.serve r op ix sub pl own = (s.taken r op ix sub pl).reply r op ix sub St.BUSY []) ∧
      (s.tagBusy r.path r.tag = false → (s.taken r op ix sub pl).outstanding r.path < 8 →
        (s.taken r op ix sub pl).gate r op ix sub pl ≠ 0 →
        s.serve r op ix sub pl own =
          (s.taken r op ix sub pl).reply r op ix sub ((s.taken r op ix sub pl).gate r op ix sub pl) [])

/-- What an accepted request and its reply leave as they were: its arrival counts its frame (R366) and touches the transports,
and the reply touches the transports alone. -/
def Obligations.RequestsTouchOnlyTransports : Prop :=
  ∀ (s : State) (r : Req) (op : Opcode) (ix sub st : Nat) (pl out : List Byte),
    s.taken r op ix sub pl = { s with regs := (s.taken r op ix sub pl).regs, mmp := (s.taken r op ix sub pl).mmp } ∧
    KeepsRegs (fun jx _ => jx = Ob.MMP_RX_FRAMES) s (s.taken r op ix sub pl) ∧
    s.reply r op ix sub st out = { s with mmp := (s.reply r op ix sub st out).mmp }

/-- R458: a raised event always counts in its chapter's event counter, which saturates; it writes no object beside that counter but
the capture's trigger (R332) and the count of dropped records; and a second event of the same source and instance within the
tick gives no record. -/
def Obligations.EventsCountAndRecordOncePerTick : Prop :=
  ∀ (s : State) (src inst detail ix sub : Nat), sub < 256 → ¬ EventObj ix sub →
    (s.raise src inst detail ix sub).reg ix sub = (min (2 ^ 32 - 1) (s.nat ix sub + 1) : Nat) ∧
    KeepsRegs (fun jx js => EventObj jx js ∨ (jx = ix ∧ js = sub)) s (s.raise src inst detail ix sub) ∧
    s.raise src inst detail ix sub =
      { s with
        regs := (s.raise src inst detail ix sub).regs, lookout := (s.raise src inst detail ix sub).lookout, cap := (s.raise src inst detail ix sub).cap } ∧
    ((src, inst) ∈ s.lookout.given → (s.raise src inst detail ix sub).lookout = s.lookout) ∧
    ((src, inst) ∉ s.lookout.given → (src, inst) ∈ (s.raise src inst detail ix sub).lookout.given ∧
      (s.lookout.queue.length < 16 →
        (s.raise src inst detail ix sub).lookout.queue.length = s.lookout.queue.length + 1))

/-! ## WAYMARK (chapter 2) -/

/-- R60: TIME.SET loads the counter with its argument, the 32 accumulator bits below 2^-48 s cleared, and counts a move back in TIME.EPOCH
(R52); a counter step under R54 clears those bits in the same way; and TIME.SET fails with CONFIG_CONFLICT while
TIME.PPS_ENABLE is set. Nothing else changes. -/
def Obligations.TimeSetLoadsTheCounter : Prop :=
  (∀ (s : State) (r : Req) (t : Nat), t < 2 ^ 96 → s.Accepts r .exec Ob.TIME_SET 0 (leBytes 12 t) →
    s.reg Ob.TIME_PPS_ENABLE 0 = 0 →
    ∃ u : State, exec (.timeSet r t) s = .next (u.reply r .exec Ob.TIME_SET 0 St.OK []) ∧
      u = { s.taken r .exec Ob.TIME_SET 0 (leBytes 12 t) with regs := u.regs, time := u.time } ∧
      u.time.acc = t * 2 ^ 32 ∧
      (t * 2 ^ 32 + 2 ^ 32 ≤ s.time.acc → u.reg Ob.TIME_EPOCH 0 = ((s.nat Ob.TIME_EPOCH 0 + 1) % 65536 : Nat)) ∧
      (s.time.acc ≤ t * 2 ^ 32 → u.reg Ob.TIME_EPOCH 0 = s.reg Ob.TIME_EPOCH 0) ∧
      KeepsRegs (fun ix _ => ix = Ob.MMP_RX_FRAMES ∨ ix = Ob.TIME_EPOCH) s u) ∧
  (∀ (s : State) (ph : Fin 8), s.reg Ob.TIME_PPS_ENABLE 0 ≠ 0 →
    (s.time.edges = 0 ∨ s.inWindow (s.edgeValue ph.val) = true) →
    (let e := s.edgeValue ph.val - (s.edgeTarget (s.edgeValue ph.val)).1 * 2 ^ 80
     (e ≤ 0 ∨ 2 ^ 80 < e * 1000000) →
       ∃ t : State, exec (.ppsEdge ph) s = .next t ∧ t.time.acc % 2 ^ 32 = 0)) ∧
  (∀ (s : State) (r : Req) (t : Nat), t < 2 ^ 96 → s.Accepts r .exec Ob.TIME_SET 0 (leBytes 12 t) →
    s.reg Ob.TIME_PPS_ENABLE 0 ≠ 0 →
    exec (.timeSet r t) s = .next ((s.taken r .exec Ob.TIME_SET 0 (leBytes 12 t)).reply r .exec Ob.TIME_SET 0 St.CONFIG_CONFLICT []))

/-- R55 to R57: the other time writes store what they are given: TIME.NEXT_SECONDS arms its value, TIME.PPS_ENABLE enters ACQUIRING from FREE and
FREE from any state, and TIME.RATE_ADJ changes while PPS is off and fails with CONFIG_CONFLICT while it is on. Nothing else
changes. -/
def Obligations.TimeWritesTakeEffect : Prop :=
  (∀ (s : State) (r : Req) (v : Nat), v < 2 ^ 64 → s.Accepts r .write Ob.TIME_NEXT_SECONDS 0 (leBytes 8 v) →
    ∃ u : State, exec (.timeNextSecondsWrite r v) s = .next (u.reply r .write Ob.TIME_NEXT_SECONDS 0 St.OK []) ∧
      u = { s.taken r .write Ob.TIME_NEXT_SECONDS 0 (leBytes 8 v) with regs := u.regs, time := u.time } ∧
      u.reg Ob.TIME_NEXT_SECONDS 0 = (v : Int) ∧ u.reg Ob.TIME_NEXT_ARMED 0 = 1 ∧ u.time.acc = s.time.acc ∧
      KeepsRegs (fun ix _ => ix = Ob.MMP_RX_FRAMES ∨ ix = Ob.TIME_NEXT_SECONDS ∨ ix = Ob.TIME_NEXT_ARMED) s u) ∧
  (∀ (s : State) (r : Req) (v : Nat), v ≤ 1 → s.Accepts r .write Ob.TIME_PPS_ENABLE 0 (leBytes 1 v) →
    ∃ u : State, exec (.timePpsEnableWrite r v) s = .next (u.reply r .write Ob.TIME_PPS_ENABLE 0 St.OK []) ∧
      u = { s.taken r .write Ob.TIME_PPS_ENABLE 0 (leBytes 1 v) with regs := u.regs, time := u.time } ∧
      u.reg Ob.TIME_PPS_ENABLE 0 = (v : Int) ∧ u.time.acc = s.time.acc ∧
      u.reg Ob.TIME_STATE 0 = (if v = 0 then 0 else if s.reg Ob.TIME_STATE 0 = 0 then 1 else s.reg Ob.TIME_STATE 0) ∧
      KeepsRegs (fun ix _ => ix = Ob.MMP_RX_FRAMES ∨ ix = Ob.TIME_PPS_ENABLE ∨ ix = Ob.TIME_STATE) s u) ∧
  (∀ (s : State) (r : Req) (v : Int), -(2 ^ 31) ≤ v → v < 2 ^ 31 → s.Accepts r .write Ob.TIME_RATE_ADJ 0 (leInt 4 v) →
    s.reg Ob.TIME_PPS_ENABLE 0 = 0 →
    ∃ u : State, exec (.timeRateAdjWrite r v) s = .next (u.reply r .write Ob.TIME_RATE_ADJ 0 St.OK []) ∧
      u = { s.taken r .write Ob.TIME_RATE_ADJ 0 (leInt 4 v) with regs := u.regs } ∧ u.reg Ob.TIME_RATE_ADJ 0 = v ∧
      KeepsRegs (fun ix _ => ix = Ob.MMP_RX_FRAMES ∨ ix = Ob.TIME_RATE_ADJ) s u) ∧
  (∀ (s : State) (r : Req) (v : Int), -(2 ^ 31) ≤ v → v < 2 ^ 31 → s.Accepts r .write Ob.TIME_RATE_ADJ 0 (leInt 4 v) →
    s.reg Ob.TIME_PPS_ENABLE 0 ≠ 0 →
    exec (.timeRateAdjWrite r v) s =
      .next ((s.taken r .write Ob.TIME_RATE_ADJ 0 (leInt 4 v)).reply r .write Ob.TIME_RATE_ADJ 0 St.CONFIG_CONFLICT []))

/-- A PPS edge: accepted as the first since enable or inside a window, it counts, records its error against the target of R54 and
steps forward, slews or steps back by the size of that error; from the second one on it changes the rate in ACQUIRING and LOCKED,
and in HOLDOVER it leaves for ACQUIRING; outside every window it counts as rejected, and while PPS is off it does nothing; a window
that closes empty counts as missed, and the third in a row enters HOLDOVER; the end of a slew gives up its error (R53, R54, R56).
The model's choices in it: the target of an edge halfway between two seconds (log entry 170) and that windows close by a command (log
entry 2). -/
def Obligations.PpsDisciplinesTheCounter : Prop :=
  (∀ (s : State) (ph : Fin 8), s.reg Ob.TIME_PPS_ENABLE 0 ≠ 0 →
    (s.time.edges = 0 ∨ s.inWindow (s.edgeValue ph.val) = true) →
    ∃ t : State, exec (.ppsEdge ph) s = .next t ∧ t = { s with regs := t.regs, time := t.time } ∧
      t.reg Ob.TIME_PPS_COUNT 0 = (min (2 ^ 32 - 1) (s.nat Ob.TIME_PPS_COUNT 0 + 1) : Nat) ∧
      t.time.edges = min 2 (s.time.edges + 1) ∧ t.time.missRun = 0 ∧
      (let e := s.edgeValue ph.val - (s.edgeTarget (s.edgeValue ph.val)).1 * 2 ^ 80
       (e ≤ 0 → t.time.acc = ((s.time.acc + e.natAbs) / 2 ^ 32 * 2 ^ 32) % 2 ^ 128 ∧ t.time.slewLeft = 0) ∧
       (0 < e → e * 1000000 ≤ 2 ^ 80 → t.time.acc = s.time.acc ∧ t.time.slewLeft = e.natAbs ∧ t.time.slewing = true) ∧
       (2 ^ 80 < e * 1000000 → (t.time.acc : Int) = ((s.time.acc : Int) - e) / 2 ^ 32 * 2 ^ 32 % 2 ^ 128 ∧
         t.reg Ob.TIME_EPOCH 0 = ((s.nat Ob.TIME_EPOCH 0 + 1) % 65536 : Nat)) ∧
       (s.time.edges ≠ 0 → s.reg Ob.TIME_STATE 0 ≠ 3 → t.reg Ob.TIME_RATE_ADJ 0 =
         clampInt (-(2 ^ 31)) (2 ^ 31 - 1) (s.reg Ob.TIME_RATE_ADJ 0 + rateChange e))) ∧
      (s.time.edges = 0 ∨ s.reg Ob.TIME_STATE 0 = 3 → t.reg Ob.TIME_RATE_ADJ 0 = s.reg Ob.TIME_RATE_ADJ 0) ∧
      (s.time.edges ≠ 0 → s.reg Ob.TIME_STATE 0 = 3 → t.reg Ob.TIME_STATE 0 = 1) ∧
      KeepsRegs (fun ix sub => ix ∈ [Ob.TIME_PPS_COUNT, Ob.TIME_PHASE_ERR_PS, Ob.TIME_RATE_ADJ, Ob.TIME_STATE, Ob.TIME_EPOCH,
        Ob.TIME_NEXT_ARMED] ∧ sub = 0) s t) ∧
  (∀ (s : State) (ph : Fin 8), s.reg Ob.TIME_PPS_ENABLE 0 = 0 → exec (.ppsEdge ph) s = .next s) ∧
  (∀ (s : State) (ph : Fin 8), s.reg Ob.TIME_PPS_ENABLE 0 ≠ 0 → s.time.edges ≠ 0 → s.inWindow (s.edgeValue ph.val) = false →
    ∃ t : State, exec (.ppsEdge ph) s = .next t ∧ t = { s with regs := t.regs } ∧
      t.reg Ob.TIME_PPS_REJECT 0 = (min (2 ^ 32 - 1) (s.nat Ob.TIME_PPS_REJECT 0 + 1) : Nat) ∧
      KeepsRegs (fun ix _ => ix = Ob.TIME_PPS_REJECT) s t) ∧
  (∀ s : State, s.reg Ob.TIME_PPS_ENABLE 0 ≠ 0 → s.time.edges ≠ 0 →
    ∃ t : State, exec .ppsWindowClose s = .next t ∧ t = { s with regs := t.regs, time := t.time, lookout := t.lookout, cap := t.cap } ∧
      t.reg Ob.TIME_PPS_MISSED 0 = (min (2 ^ 32 - 1) (s.nat Ob.TIME_PPS_MISSED 0 + 1) : Nat) ∧
      t.reg Ob.TIME_STATE 0 = (if 3 ≤ s.time.missRun + 1 then 3 else s.reg Ob.TIME_STATE 0) ∧
      KeepsRegs (fun ix sub => ix = Ob.TIME_PPS_MISSED ∨ ix = Ob.TIME_STATE ∨ EventObj ix sub) s t ∧
      (s.time.missRun + 1 < 3 → t.lookout = s.lookout)) ∧
  (∀ s : State, s.time.slewing = true →
    ∃ t : State, exec .ppsSlewDone s = .next t ∧ t = { s with time := t.time } ∧ t.time.slewing = false ∧ t.time.slewLeft = 0 ∧
      t.time.acc = (s.time.acc + ceilDiv s.time.slewLeft (s.inc / 2) * s.inc - s.time.slewLeft) % 2 ^ 128)

/-! ## The fabric (chapter 3) -/

/-- R66 and R69 to R72: a window of a lane whose domain is ON sets the lane's fill figures, in percent of the buffer, takes the lowest
margin of its turning tiles into the filter, and sets the filtered margin, capped at 1,000 when a fill alarms, and the least margin
seen. It touches nothing else but the excluded canaries and their count. Elsewhere the event is void. The model's choices in it: percent
rounded to nearest (log entry 30), a tile's margin rounded down (173), a mean held below 0xFFFF (174). -/
def Obligations.FabricWindowSetsMargins : Prop :=
  (∀ (s : State) (l : Fin 8) (m : FabricMeas), s.on (Dom.lrx l) = true →
    ∃ t : State, exec (.fabricWindow l m) s = .next t ∧
      t = { s with regs := t.regs, fabric := t.fabric, therm := t.therm, lookout := t.lookout, cap := t.cap } ∧
      t.reg Ob.FABRIC_LRX_FILL_PEAK (l.val + 1) = clampInt 0 100 (roundDiv (100 * m.rxPeak : Nat) 4096) ∧
      t.reg Ob.FABRIC_LTX_FILL_MIN (l.val + 1) = clampInt 0 100 (roundDiv (100 * m.txMin : Nat) 16) ∧
      (let mean := min 65534 (t.fabric.lane[l].windows.sum / t.fabric.lane[l].windows.length)
       t.laneMargin l = (if (s.fillFigures l m).2 = true ∨ s.fabric.lane[l].cap ≠ 0 then min 1000 mean else mean)) ∧
      (let good := ((s.windowMargins l m).filter (fun x => !(s.windowBad l m).contains x.1)).map (·.2)
       good ≠ [] → ∃ g ∈ good, (∀ x ∈ good, g ≤ x) ∧ t.fabric.lane[l].windows.head? = some g) ∧
      t.fabric.lane[l].windows.length = min 100 (s.fabric.lane[l].windows.length + 1) ∧
      (3072 < m.rxPeak → t.laneMargin l ≤ 1000 ∧ t.fabric.lane[l].cap = 100) ∧
      t.nat Ob.FABRIC_LANE_MARGIN_MIN (l.val + 1) = min (t.laneMargin l) (s.nat Ob.FABRIC_LANE_MARGIN_MIN (l.val + 1)) ∧
      t.reg Ob.FABRIC_CANARY_FAIL 0 = (t.fabric.failed.length : Nat) ∧ (∀ c ∈ s.fabric.failed, c ∈ t.fabric.failed) ∧
      KeepsRegs (fun ix sub => (ix ∈ [Ob.FABRIC_LRX_FILL_PEAK, Ob.FABRIC_LTX_FILL_MIN, Ob.FABRIC_LANE_MARGIN,
          Ob.FABRIC_LANE_MARGIN_MIN] ∧ sub = l.val + 1) ∨
        (ix ∈ [Ob.FABRIC_HIN_FILL_PEAK, Ob.FABRIC_HOUT_FILL_MIN] ∧ (sub = 2 * l.val + 1 ∨ sub = 2 * l.val + 2)) ∨
        (ix = Ob.FABRIC_CANARY_FAIL ∧ sub = 0) ∨ EventObj ix sub) s t) ∧
  (∀ (s : State) (l : Fin 8) (m : FabricMeas), s.on (Dom.lrx l) = false → exec (.fabricWindow l m) s = .next s)

/-- R64, R67 and R68: an exhausted boundary counts one event of its lane; a line overrun discards the next 2,048 words of 64 samples,
after the samples that came before it; a line underrun sends 2,048 symbols of level index 0; a host overrun leaves one error-marked
block to come, where the port frames blocks, and a host underrun sends one. Where the lane's domain is not ON (and for a transmit
boundary the lane does not send) the event is void. R83: FABRIC.CLEAR_MIN sets the least margin of every line lane to 0xFFFF, and
nothing else. -/
def Obligations.ExhaustedBoundariesCountAndMark : Prop :=
  (∀ (s : State) (l : Fin 8) (codes : List Int), s.on (Dom.lrx l) = true →
    let s1 := s.rxSamples l codes
    ∃ t : State, exec (.lineRxOverrun l codes) s = .next t ∧
      t = { s1 with regs := t.regs, rx := t.rx, lookout := t.lookout, cap := t.cap } ∧
      t.reg Ob.FABRIC_LINE_EB_EVENTS (l.val + 1) = (min (2 ^ 32 - 1) (s1.nat Ob.FABRIC_LINE_EB_EVENTS (l.val + 1) + 1) : Nat) ∧
      t.rx[l] = { s1.rx[l] with dsp := { s1.rx[l].dsp with gapWords := 2048 } } ∧ (∀ k : Fin 8, k ≠ l → t.rx[k] = s1.rx[k]) ∧
      KeepsRegs (fun ix sub => (ix = Ob.FABRIC_LINE_EB_EVENTS ∧ sub = l.val + 1) ∨ EventObj ix sub) s1 t) ∧
  (∀ (s : State) (l : Fin 8), s.on (Dom.ltx l) = true → 2 ≤ s.txState l →
    ∃ t : State, exec (.lineTxUnderrun l) s = .next t ∧ 
      t = { s with regs := t.regs, tx := t.tx, tic := t.tic, lookout := t.lookout, cap := t.cap } ∧
      t.reg Ob.FABRIC_LINE_EB_EVENTS (l.val + 1) = (min (2 ^ 32 - 1) (s.nat Ob.FABRIC_LINE_EB_EVENTS (l.val + 1) + 1) : Nat) ∧
      t.tx = (s.lineSend l (List.replicate 2048 0)).tx ∧ t.tic = (s.lineSend l (List.replicate 2048 0)).tic ∧
      (∀ k : Fin 8, k ≠ l → t.tx[k] = s.tx[k]) ∧
      KeepsRegs (fun ix sub => (ix ∈ [Ob.FABRIC_LINE_EB_EVENTS, Ob.TX_CLIP_COUNT, Ob.TX_EVENTS] ∧ sub = l.val + 1) ∨
        EventObj ix sub) s t) ∧
  (∀ (s : State) (h : Fin 16) (p : Fin 8), s.portOfHost h = some p → s.on (Dom.hq h) = true →
    (∃ t : State, exec (.hostIngressOverrun h) s = .next t ∧
      t = { s with regs := t.regs, hostInst := t.hostInst, lookout := t.lookout, cap := t.cap } ∧
      t.reg Ob.FABRIC_HOST_EB_EVENTS (h.val + 1) = (min (2 ^ 32 - 1) (s.nat Ob.FABRIC_HOST_EB_EVENTS (h.val + 1) + 1) : Nat) ∧
      (∀ i q : Fin 8, s.instOf h = some i → s.instPort i = some q → t.hostInst[i] =
        (if s.instAligned i = true ∧ s.frames q = true ∧ s.takesHost q = true ∧ s.hostS1 q = false then
          { s.hostInst[i] with overrun := s.hostInst[i].overrun + 1 } else s.hostInst[i])) ∧
      (∀ i : Fin 8, s.instOf h ≠ some i → t.hostInst[i] = s.hostInst[i]) ∧
      KeepsRegs (fun ix sub => (ix = Ob.FABRIC_HOST_EB_EVENTS ∧ sub = h.val + 1) ∨ EventObj ix sub) s t) ∧
    (∃ t : State, exec (.hostEgressUnderrun h) s = .next t ∧
      t = { s with regs := t.regs, hostInst := t.hostInst, lookout := t.lookout, cap := t.cap } ∧
      t.reg Ob.FABRIC_HOST_EB_EVENTS (h.val + 1) = (min (2 ^ 32 - 1) (s.nat Ob.FABRIC_HOST_EB_EVENTS (h.val + 1) + 1) : Nat) ∧
      (∀ i q : Fin 8, s.instOf h = some i → s.instPort i = some q → t.hostInst[i] =
        (if (∀ k ∈ s.instLanes i, 2 ≤ s.hostState k) ∧ s.hostS1 q = false then
          { s.hostInst[i] with outPre := s.hostInst[i].outPre ++ [.err] } else s.hostInst[i])) ∧
      (∀ i : Fin 8, s.instOf h ≠ some i → t.hostInst[i] = s.hostInst[i]) ∧
      KeepsRegs (fun ix sub => (ix = Ob.FABRIC_HOST_EB_EVENTS ∧ sub = h.val + 1) ∨ EventObj ix sub) s t)) ∧
  (∀ (s : State) (l : Fin 8) (h : Fin 16) (codes : List Int), (s.on (Dom.lrx l) = false → exec (.lineRxOverrun l codes) s = .next s) ∧
    ((s.on (Dom.ltx l) = false ∨ s.txState l < 2) → exec (.lineTxUnderrun l) s = .next s) ∧
    ((s.portOfHost h = none ∨ s.on (Dom.hq h) = false) →
      exec (.hostIngressOverrun h) s = .next s ∧ exec (.hostEgressUnderrun h) s = .next s)) ∧
  (∀ (s : State) (r : Req), s.Accepts r .exec Ob.FABRIC_CLEAR_MIN 0 [0] →
    ∃ u : State, exec (.fabricClearMin r) s = .next (u.reply r .exec Ob.FABRIC_CLEAR_MIN 0 St.OK []) ∧
      u = { s.taken r .exec Ob.FABRIC_CLEAR_MIN 0 [0] with regs := u.regs } ∧
      (∀ l : Fin 8, u.reg Ob.FABRIC_LANE_MARGIN_MIN (l.val + 1) = 0xFFFF) ∧
      KeepsRegs (fun ix sub => ix = Ob.MMP_RX_FRAMES ∨ (ix = Ob.FABRIC_LANE_MARGIN_MIN ∧ 1 ≤ sub ∧ sub ≤ 8)) s u)

/-! ## The line converters (chapter 4) -/

/-- R95 and R97: LINE.ADC_CAL_FG is taken while the lane's LRX domain is ON and its port is OFF or STANDBY, or the lane is unused: the
lane's state is FG_CAL, the noise floor invalid, and the calibration runs, or waits where the synthesiser is unlocked; the reply
comes at its end. Without those it fails with CONFIG_CONFLICT, and while one runs it returns BUSY, changing nothing. R96 and R98:
the end of a foreground calibration applies the words measured but for those of failing sub-ADCs, which keep theirs and are marked
failed; clamps the skew to ±64; counts and stamps; and its result is FAIL (2) where a sub-ADC fails, the skew is clamped, the
self-noise exceeds 1.000 LSB or the full scale leaves 540 to 660 mVppd, else PASS (1). Without a running one the event is void.
The other lanes' converters stay. -/
def Obligations.ForegroundCalibrationRuns : Prop :=
  (∀ (s : State) (r : Req) (l : Fin 8), s.Accepts r .exec Ob.LINE_ADC_CAL_FG (l.val + 1) [0] → s.on (Dom.lrx l) = true →
    (∀ p, s.portOf l = some p → s.pstate p = PS.OFF ∨ s.pstate p = PS.STANDBY) →
    s.adc[l].fgRun = false → s.adc[l].fgWait = false →
    ∃ u : State, exec (.adcCalFg r (l.val + 1)) s = .next (u.pendAdd ⟨r, .exec, Ob.LINE_ADC_CAL_FG, l.val + 1⟩) ∧
      u = { s.taken r .exec Ob.LINE_ADC_CAL_FG (l.val + 1) [0] with regs := u.regs, adc := u.adc, lookout := u.lookout, cap := u.cap } ∧
      u.reg Ob.LINE_ADC_STATE (l.val + 1) = 1 ∧ u.reg Ob.LINE_NOISE_FLOOR_LSB (l.val + 1) = 0xFFFF ∧
      u.adc[l].fgRun = s.clocked l ∧ u.adc[l].fgWait = !s.clocked l ∧ (∀ k : Fin 8, k ≠ l → u.adc[k] = s.adc[k]) ∧
      KeepsRegs (fun ix sub => ix = Ob.MMP_RX_FRAMES ∨ (ix ∈ [Ob.LINE_ADC_STATE, Ob.LINE_NOISE_FLOOR_LSB,
        Ob.LINE_NOISE_FLOOR_UA, Ob.TEST_EVENTS] ∧ sub = l.val + 1) ∨ EventObj ix sub) s u) ∧
  (∀ (s : State) (r : Req) (l : Fin 8), s.Accepts r .exec Ob.LINE_ADC_CAL_FG (l.val + 1) [0] →
    (s.on (Dom.lrx l) = false ∨ ∃ p, s.portOf l = some p ∧ s.pstate p ≠ PS.OFF ∧ s.pstate p ≠ PS.STANDBY) →
    exec (.adcCalFg r (l.val + 1)) s = .next ((s.taken r .exec Ob.LINE_ADC_CAL_FG (l.val + 1) [0]).reply r .exec
      Ob.LINE_ADC_CAL_FG (l.val + 1) St.CONFIG_CONFLICT [])) ∧
  (∀ (s : State) (r : Req) (l : Fin 8), s.Accepts r .exec Ob.LINE_ADC_CAL_FG (l.val + 1) [0] → s.on (Dom.lrx l) = true →
    (∀ p, s.portOf l = some p → s.pstate p = PS.OFF ∨ s.pstate p = PS.STANDBY) →
    (s.adc[l].fgRun = true ∨ s.adc[l].fgWait = true) →
    exec (.adcCalFg r (l.val + 1)) s = .next ((s.taken r .exec Ob.LINE_ADC_CAL_FG (l.val + 1) [0]).reply r .exec
      Ob.LINE_ADC_CAL_FG (l.val + 1) St.BUSY [])) ∧
  (∀ (s : State) (l : Fin 8) (m : FgResult), s.adc[l].fgRun = true →
    ∃ t : State, exec (.adcFgCalDone l m) s = .next t ∧
      t.reg Ob.LINE_ADC_CAL_RESULT (l.val + 1) =
        (if (∃ k : Fin 128, 31 ≤ m.coarse[k].natAbs ∨ 128 < m.fine[k].natAbs ∨ 128 < m.gain[k].natAbs) ∨ 64 < m.skew.natAbs ∨
          1000 < m.noise ∨ m.fullScale < 540 ∨ 660 < m.fullScale then 2 else 1) ∧
      t.reg Ob.LINE_ADC_CAL_KIND (l.val + 1) = 0 ∧ t.reg Ob.LINE_ADC_SELF_NOISE_LSB (l.val + 1) = (m.noise : Int) ∧
      t.reg Ob.LINE_ADC_CAL_COUNT (l.val + 1) = (min (2 ^ 32 - 1) (s.nat Ob.LINE_ADC_CAL_COUNT (l.val + 1) + 1) : Nat) ∧
      t.reg Ob.LINE_ADC_CAL_TIME (l.val + 1) = (s.stamp : Int) ∧
      t.reg Ob.LINE_ADC_SKEW_TRIM (l.val + 1) = clampInt (-64) 64 m.skew ∧
      (∀ k : Fin 128, t.adc[l].fine[k] = (if fgFails m k then s.adc[l].fine[k] else m.fine[k]) ∧
        t.adc[l].gain[k] = (if fgFails m k then s.adc[l].gain[k] else m.gain[k]) ∧
        t.adc[l].coarse[k] = (if fgFails m k then s.adc[l].coarse[k] else m.coarse[k]) ∧
        (k.val ∈ t.adc[l].failed ↔ fgFails m k = true)) ∧
      t.adc[l].fgRun = false ∧ (∀ k : Fin 8, k ≠ l → t.adc[k] = s.adc[k]) ∧ t.time = s.time ∧ t.fuse = s.fuse ∧
      t.flash = s.flash) ∧
  (∀ (s : State) (l : Fin 8) (m : FgResult), s.adc[l].fgRun = false → exec (.adcFgCalDone l m) s = .next s)


/-- R93, R100, R104 and R112: a write of 1 to LINE.ADC_BG_ENABLE makes a commit due at once, a write of 0 stops the timer; the timer's
expiry makes a commit due; a ramp step moves every fine offset and gain word and the skew one unit towards its target; a stuck
code in light marks its sub-ADC failed, counts an event and leaves the lane DEGRADED. R105 and R106: a window of a clocked lane
sets the level figure, and LINE.LOS_RAW is set by the second window in a row below LINE.LOS_ASSERT and cleared by the fourth in a
row at or above LINE.LOS_DEASSERT; a window between the two ends both runs. Nothing outside the lane's converter and receive path
changes. The samples of a command pass the converter, the resampler, the equaliser and the detector first (R64, R85, R86): they count
marked blocks, follow the rate word, feed the lane's checker, the capture and a rollback task, and touch nothing else. Outside ON the
event is void and no sample passes. The model's choice in it: the RMS rounded to nearest (log entry 207). -/
def Obligations.BackgroundCalibrationAndLossOfSignal : Prop :=
  (∀ (s : State) (r : Req) (l : Fin 8) (v : Nat), v ≤ 1 → s.Accepts r .write Ob.LINE_ADC_BG_ENABLE (l.val + 1) (leBytes 1 v) →
    ∃ u : State, exec (.adcBgEnableWrite r (l.val + 1) v) s = .next (u.reply r .write Ob.LINE_ADC_BG_ENABLE (l.val + 1) St.OK []) ∧
      u = { s.taken r .write Ob.LINE_ADC_BG_ENABLE (l.val + 1) (leBytes 1 v) with regs := u.regs, adc := u.adc } ∧
      u.reg Ob.LINE_ADC_BG_ENABLE (l.val + 1) = (v : Int) ∧ u.adc[l].recalAt = none ∧
      (v = 1 → u.adc[l].due = true) ∧ (v = 0 → u.adc[l].due = s.adc[l].due) ∧ (∀ k : Fin 8, k ≠ l → u.adc[k] = s.adc[k]) ∧
      KeepsRegs (fun ix sub => ix = Ob.MMP_RX_FRAMES ∨ (ix = Ob.LINE_ADC_BG_ENABLE ∧ sub = l.val + 1)) s u) ∧
  (∀ (s : State) (l : Fin 8), s.adc[l].recalAt.isSome = true →
    ∃ t : State, exec (.adcRecalTimer l) s = .next t ∧ t = { s with adc := t.adc } ∧
      t.adc[l] = { s.adc[l] with due := true, recalAt := none } ∧ (∀ k : Fin 8, k ≠ l → t.adc[k] = s.adc[k])) ∧
  (∀ (s : State) (l : Fin 8), s.on (Dom.lrx l) = true →
    ∃ t : State, exec (.adcCorrectionRampStep l) s = .next t ∧ t = { s with regs := t.regs, adc := t.adc } ∧
      (∀ k : Fin 128, t.adc[l].fine[k] = unitTo s.adc[l].fine[k] s.adc[l].fineT[k] ∧
        t.adc[l].gain[k] = unitTo s.adc[l].gain[k] s.adc[l].gainT[k]) ∧
      t.reg Ob.LINE_ADC_SKEW_TRIM (l.val + 1) = unitTo (s.reg Ob.LINE_ADC_SKEW_TRIM (l.val + 1)) s.adc[l].skewT ∧
      (∀ k : Fin 8, k ≠ l → t.adc[k] = s.adc[k]) ∧
      KeepsRegs (fun ix sub => ix ∈ [Ob.LINE_ADC_SKEW_TRIM, Ob.LINE_ADC_OFFSET_SPREAD, Ob.LINE_ADC_GAIN_SPREAD,
        Ob.LINE_ADC_FAILED_SUBADC, Ob.LINE_ADC_STATE] ∧ sub = l.val + 1) s t) ∧
  (∀ (s : State) (l : Fin 8) (k : Fin 128), s.on (Dom.lrx l) = true → s.reg Ob.LINE_LOS_RAW (l.val + 1) = 0 →
    k.val ∉ s.adc[l].failed →
    ∃ t : State, exec (.subadcStuck l k) s = .next t ∧ 
      t = { s with regs := t.regs, adc := t.adc, lookout := t.lookout, cap := t.cap } ∧
      t.adc[l] = { s.adc[l] with failed := k.val :: s.adc[l].failed } ∧ (∀ j : Fin 8, j ≠ l → t.adc[j] = s.adc[j]) ∧
      t.reg Ob.LINE_ADC_FAILED_SUBADC (l.val + 1) = (s.adc[l].failed.length + 1 : Nat) ∧
      t.reg Ob.LINE_ADC_EVENTS (l.val + 1) = (min (2 ^ 32 - 1) (s.nat Ob.LINE_ADC_EVENTS (l.val + 1) + 1) : Nat) ∧
      (2 ≤ s.reg Ob.LINE_ADC_STATE (l.val + 1) → t.reg Ob.LINE_ADC_STATE (l.val + 1) = 3) ∧
      KeepsRegs (fun ix sub => (ix ∈ [Ob.LINE_ADC_OFFSET_SPREAD, Ob.LINE_ADC_GAIN_SPREAD, Ob.LINE_ADC_FAILED_SUBADC,
        Ob.LINE_ADC_STATE, Ob.LINE_ADC_EVENTS] ∧ sub = l.val + 1) ∨ EventObj ix sub) s t) ∧
  (∀ (s : State) (l : Fin 8) (codes : List Int), s.on (Dom.lrx l) = true →
    let s1 := s.rxSamples l codes
    ∃ t : State, exec (.adcWindow l codes) s = .next t ∧ t = { s1 with regs := t.regs, adc := t.adc, rx := t.rx } ∧
      (let rms : Int := (rmsMilli s1.adc[l].win.sq s1.adc[l].win.n : Nat)
       let low := if rms < s.reg Ob.LINE_LOS_ASSERT (l.val + 1) then s.adc[l].lowRun + 1 else 0
       let high := if s.reg Ob.LINE_LOS_DEASSERT (l.val + 1) ≤ rms then s.adc[l].highRun + 1 else 0
       t.reg Ob.LINE_SIGNAL_RMS (l.val + 1) = rms ∧ t.adc[l].lowRun = min low 2 ∧ t.adc[l].highRun = min high 4 ∧
       t.reg Ob.LINE_LOS_RAW (l.val + 1) =
         (if s.reg Ob.LINE_LOS_RAW (l.val + 1) = 0 then (if 2 ≤ low then 1 else 0)
          else if 4 ≤ high then 0 else s.reg Ob.LINE_LOS_RAW (l.val + 1))) ∧
      t.adc[l].win = {} ∧ (∀ k : Fin 8, k ≠ l → t.adc[k] = s.adc[k] ∧ t.rx[k] = s.rx[k]) ∧
      KeepsRegs (fun ix sub => ix ∈ [Ob.LINE_BER_EST, Ob.LINE_CLIP_RATE, Ob.LINE_LOS_RAW, Ob.LINE_MSE, Ob.LINE_NOISE_FLOOR_LSB,
        Ob.LINE_NOISE_FLOOR_UA, Ob.LINE_SIGNAL_DC, Ob.LINE_SIGNAL_RMS, Ob.LINE_SNR_DB, Ob.LINE_TL_STATE] ∧
        sub = l.val + 1) s1 t) ∧
  (∀ (s : State) (l : Fin 8) (codes : List Int), s.on (Dom.lrx l) = true →
    let u := s.rxSamples l codes
    u = { s with regs := u.regs, adc := u.adc, rx := u.rx, eng := u.eng, cap := u.cap } ∧
      u.adc[l] = (s.adc[l].takeAll (s.clocked l) codes).1 ∧ (∀ k : Fin 8, k ≠ l → u.adc[k] = s.adc[k] ∧ u.rx[k] = s.rx[k]) ∧
      KeepsRegs (fun ix sub => (ix ∈ [Ob.LINE_TL_FREQ_PPB, Ob.LINE_UNSETTLED_BLOCKS, Ob.TEST_LINE_BITS,
        Ob.TEST_LINE_ERRORS] ∧ sub = l.val + 1) ∨ ix = Ob.ENG_STATE) s u) ∧
  (∀ (s : State) (l : Fin 8) (codes : List Int), s.on (Dom.lrx l) = false →
    s.rxSamples l codes = s ∧ exec (.adcWindow l codes) s = .next s)

/-- R88, R89 and R97: band selection and a relock give the half's synthesiser its lock; the third attempt of 50 µs without lock repeats the
band selection; and the loss of lock counts an event on every lane whose LRX domain is ON, aborts running calibrations with
result ABORTED and takes a lane's loop in TRACK to HOLD. -/
def Obligations.SamplingSynthesiserLocks : Prop :=
  (∀ (s : State) (h : Fin 2), s.on (Dom.synth h) = true → s.rxsynth[h].locked = false →
    (s.rxsynth[h].selecting = true ∨ s.rxsynth[h].band = false) →
    ∃ t : State, exec (.rxsynthBandSelectDone h) s = .next t ∧
      t.rxsynth[h] = { locked := true, selecting := false, band := true, attempts := 0, bandRep := false } ∧
      (∀ k : Fin 2, k ≠ h → t.rxsynth[k] = s.rxsynth[k]) ∧ t.start.select[h] = false ∧
      t = { s with regs := t.regs, rxsynth := t.rxsynth, adc := t.adc, rx := t.rx, lookout := t.lookout, cap := t.cap, doms := t.doms,
                   start := t.start }) ∧
  (∀ (s : State) (h : Fin 2), s.on (Dom.synth h) = true → s.rxsynth[h].locked = false → s.rxsynth[h].selecting = false →
    s.rxsynth[h].band = true →
    ∃ t : State, exec (.rxsynthRelock h) s = .next t ∧
      t.rxsynth[h] = { locked := true, selecting := false, band := true, attempts := 0, bandRep := false } ∧
      (∀ k : Fin 2, k ≠ h → t.rxsynth[k] = s.rxsynth[k]) ∧ (∀ l : Fin 8, halfOf l = h → t.adc[l].fgWait = false) ∧
      t = { s with regs := t.regs, rxsynth := t.rxsynth, adc := t.adc, rx := t.rx, lookout := t.lookout, cap := t.cap }) ∧
  (∀ (s : State) (h : Fin 2), s.on (Dom.synth h) = true → s.rxsynth[h].locked = false → s.rxsynth[h].selecting = false →
    ∃ t : State, exec (.rxsynthAttemptTimeout h) s = .next t ∧ t = { s with rxsynth := t.rxsynth } ∧
      t.rxsynth[h].attempts = min 15 (s.rxsynth[h].attempts + 1) ∧
      (t.rxsynth[h].selecting = true ↔ 3 ≤ s.rxsynth[h].attempts + 1) ∧ t.rxsynth[h].locked = false ∧
      (∀ k : Fin 2, k ≠ h → t.rxsynth[k] = s.rxsynth[k])) ∧
  (∀ (s : State) (h : Fin 2), s.rxsynth[h].locked = true →
    ∃ t : State, exec (.rxsynthUnlock h) s = .next t ∧ t.rxsynth[h].locked = false ∧
      (∀ k : Fin 2, k ≠ h → t.rxsynth[k] = s.rxsynth[k]) ∧
      (∀ l : Fin 8, halfOf l = h → s.on (Dom.lrx l) = true → t.reg Ob.LINE_ADC_EVENTS (l.val + 1) =
        (min (2 ^ 32 - 1) (s.nat Ob.LINE_ADC_EVENTS (l.val + 1) + 1) : Nat)) ∧
      (∀ l : Fin 8, halfOf l = h → s.adc[l].fgRun = true → t.reg Ob.LINE_ADC_CAL_RESULT (l.val + 1) = 3) ∧
      (∀ l : Fin 8, halfOf l = h → s.tl l = 2 → t.tl l = 3) ∧ t.time = s.time ∧ t.link = s.link ∧ t.port = s.port ∧
      t.fuse = s.fuse ∧ t.flash = s.flash) ∧
  (∀ (s : State) (h : Fin 2), s.on (Dom.synth h) = false →
    exec (.rxsynthBandSelectDone h) s = .next s ∧ exec (.rxsynthRelock h) s = .next s ∧ exec (.rxsynthAttemptTimeout h) s = .next s)

/-! ## Timing recovery and equalisation (chapter 5) -/

/-- R123, R129, R133, R144 and R147: the loop enters ACQUIRE with w = 0 and a seed in both banks, on LINE.TL_RESTART and on a loss of
lock in TRACK, with the DEFAULT seed; it leaves ACQUIRE for TRACK at 64 steady blocks, and TRACK for HOLD where light or clock is
missing; and a retry, at the limit of w or after 2,048 blocks, counts, the eighth in a row an event too. LINE.TL_RESTART in IDLE fails
with CONFIG_CONFLICT. Where an event's condition does not hold, only the samples that came before it pass. The model's choices in it:
the fixed point of w and of the position (log entry 177), the SNR counted from the first figure in TRACK (185). -/
def Obligations.TimingLoopChangesState : Prop :=
  (∀ (s : State) (r : Req) (l : Fin 8), s.Accepts r .exec Ob.LINE_TL_RESTART (l.val + 1) [0] → s.tl l ≠ 0 →
    ∃ u : State, exec (.tlRestart r (l.val + 1)) s = .next (u.reply r .exec Ob.LINE_TL_RESTART (l.val + 1) St.OK []) ∧
      u = { s.taken r .exec Ob.LINE_TL_RESTART (l.val + 1) [0] with regs := u.regs, rx := u.rx } ∧
      u.tl l = 1 ∧ u.eqState l = 1 ∧ u.rx[l].dsp.w = 0 ∧ u.reg Ob.LINE_TL_FREQ_PPB (l.val + 1) = 0 ∧
      u.rx[l].bankA = { defaultSeed (s.laneStructure l) with cycle := s.cycleNo l } ∧
      u.rx[l].bankB = { defaultSeed (s.laneStructure l) with cycle := s.cycleNo l } ∧
      u.rx[l].swap = none ∧ (∀ k : Fin 8, k ≠ l → u.rx[k] = s.rx[k]) ∧
      KeepsRegs (fun ix sub => ix = Ob.MMP_RX_FRAMES ∨
        (ix ∈ [Ob.LINE_TL_STATE, Ob.LINE_EQ_STATE, Ob.LINE_TL_FREQ_PPB] ∧ sub = l.val + 1)) s u) ∧
  (∀ (s : State) (r : Req) (l : Fin 8), s.Accepts r .exec Ob.LINE_TL_RESTART (l.val + 1) [0] → s.tl l = 0 →
    exec (.tlRestart r (l.val + 1)) s = .next ((s.taken r .exec Ob.LINE_TL_RESTART (l.val + 1) [0]).reply r .exec
      Ob.LINE_TL_RESTART (l.val + 1) St.CONFIG_CONFLICT [])) ∧
  (∀ (s : State) (l : Fin 8) (codes : List Int), let s1 := s.rxSamples l codes
    s.tl l = 1 → 64 ≤ s1.rx[l].dsp.steady →
    ∃ t : State, exec (.tlTrackEntry l codes) s = .next t ∧ t = { s1 with regs := t.regs, rx := t.rx } ∧
      t.tl l = (if s.tlDark l = true then 3 else 2) ∧
      t.eqState l = (if s.reg Ob.LINE_EQ_FREEZE (l.val + 1) ≠ 0 ∨ s.laneHalted l = true then 4 else 2) ∧
      t.rx[l].dsp.w = s1.rx[l].dsp.w ∧ t.rx[l].conv = 0 ∧ t.rx[l].retryRun = 0 ∧ (∀ k : Fin 8, k ≠ l → t.rx[k] = s.rx[k]) ∧
      KeepsRegs (fun ix sub => ix ∈ [Ob.LINE_TL_STATE, Ob.LINE_EQ_STATE] ∧ sub = l.val + 1) s1 t) ∧
  (∀ (s : State) (l : Fin 8) (codes : List Int), let s1 := s.rxSamples l codes
    s.tl l = 1 → (s1.rx[l].dsp.w = 2147484 ∨ s1.rx[l].dsp.w = -2147484 ∨ 2048 ≤ s1.rx[l].dsp.acq) →
    ∃ t : State, exec (.tlAcquireRetry l codes) s = .next t ∧
      t = { s1 with regs := t.regs, rx := t.rx, lookout := t.lookout, cap := t.cap } ∧
      t.reg Ob.LINE_TL_RETRIES (l.val + 1) = (min (2 ^ 32 - 1) (s.nat Ob.LINE_TL_RETRIES (l.val + 1) + 1) : Nat) ∧
      t.rx[l].dsp.w = 0 ∧ t.rx[l].retryRun = s.rx[l].retryRun + 1 ∧ (∀ k : Fin 8, k ≠ l → t.rx[k] = s.rx[k]) ∧
      t.reg Ob.LINE_EQ_EVENTS (l.val + 1) = (if s.rx[l].retryRun = 7 then
        ((min (2 ^ 32 - 1) (s.nat Ob.LINE_EQ_EVENTS (l.val + 1) + 1) : Nat) : Int) else s.reg Ob.LINE_EQ_EVENTS (l.val + 1)) ∧
      KeepsRegs (fun ix sub => (ix ∈ [Ob.LINE_TL_RETRIES, Ob.LINE_TL_FREQ_PPB, Ob.LINE_EQ_EVENTS] ∧ sub = l.val + 1) ∨
        EventObj ix sub) s1 t) ∧
  (∀ (s : State) (l : Fin 8) (codes : List Int) (c : Nat), let s1 := s.rxSamples l codes
    s1.lockLoss l = some c →
    ∃ t : State, exec (.tlLockLoss l codes) s = .next t ∧
      t = { s1 with regs := t.regs, rx := t.rx, lookout := t.lookout, cap := t.cap } ∧
      t.tl l = 1 ∧ t.eqState l = 1 ∧ t.rx[l].dsp.w = 0 ∧
      t.rx[l].bankA = { defaultSeed (s.laneStructure l) with cycle := s1.cycleNo l } ∧
      t.reg Ob.LINE_TL_LOCK_LOSS (l.val + 1) = (min (2 ^ 32 - 1) (s.nat Ob.LINE_TL_LOCK_LOSS (l.val + 1) + 1) : Nat) ∧
      t.reg Ob.LINE_EQ_EVENTS (l.val + 1) = (min (2 ^ 32 - 1) (s.nat Ob.LINE_EQ_EVENTS (l.val + 1) + 1) : Nat) ∧
      (∀ k : Fin 8, k ≠ l → t.rx[k] = s.rx[k]) ∧
      KeepsRegs (fun ix sub => (ix ∈ [Ob.LINE_TL_STATE, Ob.LINE_EQ_STATE, Ob.LINE_TL_FREQ_PPB, Ob.LINE_TL_LOCK_LOSS,
        Ob.LINE_EQ_EVENTS] ∧ sub = l.val + 1) ∨ EventObj ix sub) s1 t) ∧
  (∀ (s : State) (l : Fin 8), (s.rx[l].dsp.w = 2147484 ∨ s.rx[l].dsp.w = -2147484 ∨ 1024 ≤ s.rx[l].dsp.low) → s.tl l = 2 →
    (s.lockLoss l).isSome = true) ∧
  (∀ (s : State) (l : Fin 8) (codes : List Int), let s1 := s.rxSamples l codes
    (s.tl l ≠ 1 ∨ s1.rx[l].dsp.steady < 64 → exec (.tlTrackEntry l codes) s = .next s1) ∧
    (s.tl l ≠ 1 ∨ (s1.rx[l].dsp.w.natAbs ≠ 2147484 ∧ s1.rx[l].dsp.acq < 2048) → exec (.tlAcquireRetry l codes) s = .next s1) ∧
    (s1.lockLoss l = none → exec (.tlLockLoss l codes) s = .next s1) ∧ (s.tl l ≠ 2 → s1.lockLoss l = none))

/-- R120, R127, R134 and R394: a cycle's end readies its gradient where the equaliser adapts, counts the cycle and takes the figures of
the next one; the ADAPT task writes the idle bank, never the active one, keeps every coefficient in its range, and requests a swap
after each cycle in CONVERGE and after LINE.EQ_SWAP_CYCLES cycles in TRACK; after 32 cycles CONVERGE gives way to TRACK. The model's
choice in it: the move of a coefficient rounded to its unit (log entry 184), which no clause here rests on. -/
def Obligations.EqualiserAdaptsTheIdleBank : Prop :=
  (∀ (s : State) (l : Fin 8) (codes : List Int), let s1 := s.rxSamples l codes
    let x := s1.rx[l].dsp
    let adapting := s.tl l = 2 ∧ (s.eqState l = 2 ∨ s.eqState l = 3)
    s.tl l ≠ 0 → x.left % 256 = 0 → x.cycStart + x.cycLen ≤ x.left →
    ∃ t : State, exec (.adaptCycleEnd l codes) s = .next t ∧ t = { s1 with regs := t.regs, rx := t.rx, eng := t.eng } ∧
      (adapting → t.rx[l].gradient = some ⟨x.grad, x.gradBlocks, x.mu, x.swapCycles⟩ ∧
        t.rx[l].sinceSwap = s1.rx[l].sinceSwap + 1) ∧
      (¬ adapting → t.rx[l].gradient = none ∧ t.rx[l].sinceSwap = s1.rx[l].sinceSwap) ∧
      t.rx[l].conv = s1.rx[l].conv + (if s.tl l = 2 ∧ s.eqState l = 2 then 1 else 0) ∧ t.rx[l].dsp.cycStart = x.left ∧
      t.rx[l].dsp.mu = s.nat Ob.LINE_EQ_MU_SHIFT (l.val + 1) ∧ t.rx[l].halted = s.laneHalted l ∧
      t.rx[l].bankA = s1.rx[l].bankA ∧ t.rx[l].bankB = s1.rx[l].bankB ∧ (∀ k : Fin 8, k ≠ l → t.rx[k] = s.rx[k]) ∧
      KeepsRegs (fun ix sub => (ix = Ob.ENG_STATE ∧ 16 * l.val < sub ∧ sub ≤ 16 * l.val + 8) ∨
        (ix = Ob.LINE_EQ_STATE ∧ sub = l.val + 1)) s1 t) ∧
  (∀ (s : State) (l : Fin 8) (g : CycleGrad), s.rx[l].gradient = some g → s.tl l = 2 →
    (s.eqState l = 2 ∨ s.eqState l = 3) → s.anyWorks (lineEngines l) = true →
    ∃ t : State, exec (.adaptTaskDone l) s = .next t ∧
      t = { s with regs := t.regs, rx := t.rx, eng := t.eng, lookout := t.lookout, cap := t.cap } ∧
      t.bank l = s.bank l ∧ (g.blocks = 0 → t.idleBank l = s.idleBank l) ∧ t.rx[l].gradient = none ∧
      (g.blocks ≠ 0 → ∀ c ∈ coeffs (t.idleBank l), c.lo ≤ c.val ∧ c.val ≤ c.hi) ∧
      (t.idleBank l).structureId = (s.idleBank l).structureId ∧
      ((s.eqState l = 2 ∨ g.swapCycles ≤ s.rx[l].sinceSwap) → ∃ q, t.rx[l].swap = some q ∧ q.adapt = true) ∧
      (s.eqState l = 3 → s.rx[l].sinceSwap < g.swapCycles → t.rx[l].swap = s.rx[l].swap) ∧
      (∀ k : Fin 8, k ≠ l → t.rx[k] = s.rx[k]) ∧
      KeepsRegs (fun ix sub => (ix ∈ [Ob.LINE_EQ_CLAMPS, Ob.LINE_EQ_EVENTS] ∧ sub = l.val + 1) ∨
        (ix = Ob.ENG_STATE ∧ 16 * l.val < sub ∧ sub ≤ 16 * l.val + 8) ∨ EventObj ix sub) s t) ∧
  (∀ (s : State) (l : Fin 8), s.eqState l = 2 → 32 ≤ s.rx[l].conv →
    ∃ t : State, exec (.eqConvergeEnd l) s = .next t ∧ t = { s with regs := t.regs, rx := t.rx } ∧ t.eqState l = 3 ∧
      t.rx[l].sinceSwap = 0 ∧ t.rx[l].last.head? = some (s.laneRate l, s.bank l) ∧ (∀ k : Fin 8, k ≠ l → t.rx[k] = s.rx[k]) ∧
      KeepsRegs (fun ix sub => ix = Ob.LINE_EQ_STATE ∧ sub = l.val + 1) s t) ∧
  (∀ (s : State) (l : Fin 8) (codes : List Int), let s1 := s.rxSamples l codes
    ((s.tl l = 0 ∨ s1.rx[l].dsp.left % 256 ≠ 0 ∨ s1.rx[l].dsp.left < s1.rx[l].dsp.cycStart + s1.rx[l].dsp.cycLen) →
      exec (.adaptCycleEnd l codes) s = .next s1) ∧
    (s.eqState l ≠ 2 ∨ s.rx[l].conv < 32 → exec (.eqConvergeEnd l) s = .next s))

/-- R132, R135, R136 and R138: at a block boundary at least two blocks after its request a swap makes the idle bank the active one,
copies it to the other, counts, and marks 16 blocks from the next boundary; a TRACK swap whose mean squared error more than doubles
over 16 blocks is rolled back to the coefficients before it; a structural change builds the wanted structure in the idle bank, its
swap to be requested at the end of the cycle. During HOLD, in IDLE, in a discard gap and before its block a swap is deferred. -/
def Obligations.BankSwapsAndRollbacks : Prop :=
  (∀ (s : State) (l : Fin 8) (q : EqSwap) (codes : List Int), let s1 := s.rxSamples l codes
    let x := s1.rx[l].dsp
    s1.rx[l].swap = some q → (s.tl l = 1 ∨ s.tl l = 2) → x.left % 256 = 0 → q.block ≤ x.block → x.gapWords = 0 → x.inGap = false →
    (s1.rx[l].structDue = false ∨ q.structural = false) →
    ∃ t : State, exec (.bankSwap l codes) s = .next t ∧ t = { s1 with regs := t.regs, rx := t.rx } ∧
      t.bank l = s1.idleBank l ∧ t.idleBank l = s1.idleBank l ∧ t.rx[l].swap = none ∧ t.rx[l].sinceSwap = 0 ∧
      t.rx[l].dsp.markTo = x.nextBlock + 16 ∧
      t.reg Ob.LINE_EQ_ACTIVE_BANK (l.val + 1) = 1 - s.reg Ob.LINE_EQ_ACTIVE_BANK (l.val + 1) ∧
      t.reg Ob.LINE_EQ_SWAP_COUNT (l.val + 1) = (min (2 ^ 32 - 1) (s.nat Ob.LINE_EQ_SWAP_COUNT (l.val + 1) + 1) : Nat) ∧
      (s.eqState l = 3 → q.adapt = true → q.structural = false → q.rollback = false →
        ∃ r, t.rx[l].dsp.roll = some r ∧ r.bank = s1.bank l ∧ r.before = ((x.errs.map (·.1)).sum, (x.errs.map (·.2)).sum)) ∧
      (s.eqState l ≠ 3 ∨ q.adapt = false ∨ q.structural = true ∨ q.rollback = true → t.rx[l].dsp.roll = none) ∧
      (∀ k : Fin 8, k ≠ l → t.rx[k] = s.rx[k]) ∧
      KeepsRegs (fun ix sub => ix ∈ [Ob.LINE_EQ_ACTIVE_BANK, Ob.LINE_EQ_SWAP_COUNT] ∧ sub = l.val + 1) s1 t) ∧
  (∀ (s : State) (l : Fin 8) (codes : List Int), let s1 := s.rxSamples l codes
    (s1.rx[l].swap = none ∨ s.tl l = 0 ∨ s.tl l = 3 ∨ s1.rx[l].dsp.gapWords ≠ 0 ∨ s1.rx[l].dsp.inGap = true ∨
      s1.rx[l].dsp.left % 256 ≠ 0 ∨ (∃ q, s1.rx[l].swap = some q ∧ (s1.rx[l].dsp.block < q.block ∨
        (s1.rx[l].structDue = true ∧ q.structural = true)))) → exec (.bankSwap l codes) s = .next s1) ∧
  (∀ (s : State) (l : Fin 8) (r : Rollback) (codes : List Int), let s1 := s.rxSamples l codes
    s1.rx[l].dsp.roll = some r → r.left = 0 →
    ∃ t : State, exec (.rollbackCheck l codes) s = .next t ∧
      t = { s1 with regs := t.regs, rx := t.rx, lookout := t.lookout, cap := t.cap } ∧
      t.rx[l].dsp.roll = none ∧ t.bank l = s1.bank l ∧
      (2 * r.before.2 * r.after.1 < r.after.2 * r.before.1 → s.tl l = 2 → s.eqState l = 3 → s1.rx[l].structDue = false →
        s1.structPending l = false →
        t.idleBank l = { r.bank with cycle := s1.cycleNo l } ∧ (∃ q, t.rx[l].swap = some q ∧ q.rollback = true) ∧
        t.reg Ob.LINE_EQ_ROLLBACKS (l.val + 1) = (min (2 ^ 32 - 1) (s.nat Ob.LINE_EQ_ROLLBACKS (l.val + 1) + 1) : Nat)) ∧
      (r.after.2 * r.before.1 ≤ 2 * r.before.2 * r.after.1 →
        t = { s1 with rx := t.rx } ∧ t.idleBank l = s1.idleBank l ∧ t.rx[l].swap = s1.rx[l].swap) ∧
      (∀ k : Fin 8, k ≠ l → t.rx[k] = s.rx[k]) ∧
      KeepsRegs (fun ix sub => (ix ∈ [Ob.LINE_EQ_ROLLBACKS, Ob.LINE_EQ_EVENTS] ∧ sub = l.val + 1) ∨ EventObj ix sub) s1 t) ∧
  (∀ (s : State) (l : Fin 8), s.rx[l].structDue = true → s.tl l ≠ 0 → s.anyWorks (lineEngines l) = true →
    ∃ t : State, exec (.structuralChange l) s = .next t ∧ t = { s with regs := t.regs, rx := t.rx, eng := t.eng } ∧
      t.bank l = s.bank l ∧ (t.idleBank l).structureId = s.laneStructure l ∧ (t.idleBank l).ffe.length = 41 ∧
      (s.structPending l = true ∨ s.rx[l].swap = none →
        t.idleBank l = { rebuild (s.bank l) (s.laneStructure l) with cycle := s.cycleNo l }) ∧
      (hasDfe (s.laneStructure l) = false → (t.idleBank l).dfe = 0) ∧ t.rx[l].structDue = false ∧ t.structPending l = true ∧
      t.rx[l].swap = s.rx[l].swap ∧ (∀ k : Fin 8, k ≠ l → t.rx[k] = s.rx[k]) ∧
      KeepsRegs (fun ix sub => ix = Ob.ENG_STATE ∧ 16 * l.val < sub ∧ sub ≤ 16 * l.val + 8) s t)

/-- R130, R134, R137 and R143: a write of LINE.RX_INVERT marks 16 blocks from the resampler's next block on; a write of LINE.EQ_FREEZE
takes CONVERGE or TRACK to HELD where its cause stands, and HELD back where none does; LINE.EYE_CAPTURE starts a capture of
LINE.EYE_SYMBOLS symbols, and its end writes the histogram of 128 bins and the least of the three openings. -/
def Obligations.EqualiserControlsAndEye : Prop :=
  (∀ (s : State) (r : Req) (l : Fin 8) (v : Nat), v ≤ 1 → s.Accepts r .write Ob.LINE_RX_INVERT (l.val + 1) (leBytes 1 v) →
    ∃ u : State, exec (.lineRxInvertWrite r (l.val + 1) v) s = .next (u.reply r .write Ob.LINE_RX_INVERT (l.val + 1) St.OK []) ∧
      u = { s.taken r .write Ob.LINE_RX_INVERT (l.val + 1) (leBytes 1 v) with regs := u.regs, rx := u.rx } ∧
      u.reg Ob.LINE_RX_INVERT (l.val + 1) = (v : Int) ∧ u.rx[l] = { s.rx[l] with dsp := u.rx[l].dsp } ∧
      (let x := s.rx[l].dsp
       u.rx[l].dsp = x.markFor ((x.sym + 255) / 256) ((x.sym + 255) / 256) ∧
         u.rx[l].dsp.markTo = (x.sym + 255) / 256 + 16) ∧
      (∀ k : Fin 8, k ≠ l → u.rx[k] = s.rx[k]) ∧
      KeepsRegs (fun ix sub => ix = Ob.MMP_RX_FRAMES ∨ (ix = Ob.LINE_RX_INVERT ∧ sub = l.val + 1)) s u) ∧
  (∀ (s : State) (r : Req) (l : Fin 8) (v : Nat), v ≤ 1 → s.Accepts r .write Ob.LINE_EQ_FREEZE (l.val + 1) (leBytes 1 v) →
    ∃ u : State, exec (.eqFreezeWrite r (l.val + 1) v) s = .next (u.reply r .write Ob.LINE_EQ_FREEZE (l.val + 1) St.OK []) ∧
      u = { s.taken r .write Ob.LINE_EQ_FREEZE (l.val + 1) (leBytes 1 v) with regs := u.regs, rx := u.rx } ∧
      u.reg Ob.LINE_EQ_FREEZE (l.val + 1) = (v : Int) ∧
      (v = 1 → (s.eqState l = 2 ∨ s.eqState l = 3 ∨ s.eqState l = 4) → u.eqState l = 4) ∧
      (v = 0 → s.rx[l].halted = false → s.eqState l = 4 → u.eqState l = (if s.rx[l].heldConv = true then 2 else 3)) ∧
      (v = 0 → s.rx[l].halted = true → s.eqState l = 4 → u.eqState l = 4) ∧
      ((s.eqState l = 0 ∨ s.eqState l = 1) → u.eqState l = s.eqState l) ∧
      u.rx[l].bankA = s.rx[l].bankA ∧ u.rx[l].bankB = s.rx[l].bankB ∧ (∀ k : Fin 8, k ≠ l → u.rx[k] = s.rx[k]) ∧
      KeepsRegs (fun ix sub => ix = Ob.MMP_RX_FRAMES ∨ (ix ∈ [Ob.LINE_EQ_FREEZE, Ob.LINE_EQ_STATE] ∧ sub = l.val + 1)) s u) ∧
  (∀ (s : State) (r : Req) (l : Fin 8), s.Accepts r .exec Ob.LINE_EYE_CAPTURE (l.val + 1) [0] →
    ∃ u : State, exec (.eyeCapture r (l.val + 1)) s = .next (u.reply r .exec Ob.LINE_EYE_CAPTURE (l.val + 1) St.OK []) ∧
      u = { s.taken r .exec Ob.LINE_EYE_CAPTURE (l.val + 1) [0] with rx := u.rx } ∧
      u.rx[l] = { s.rx[l] with eyeRun := true, dsp := { s.rx[l].dsp with
        eyeLeft := s.nat Ob.LINE_EYE_SYMBOLS (l.val + 1), eye := List.replicate 512 0, blkEye := [] } } ∧
      (∀ k : Fin 8, k ≠ l → u.rx[k] = s.rx[k])) ∧
  (∀ (s : State) (l : Fin 8) (codes : List Int), let s1 := s.rxSamples l codes
    s1.rx[l].eyeRun = true → s1.rx[l].dsp.eyeLeft = 0 →
    ∃ t : State, exec (.eyeCaptureDone l codes) s = .next t ∧ t = { s1 with regs := t.regs, blobs := t.blobs, rx := t.rx } ∧
      t.rx[l].eyeRun = false ∧ (∀ k : Fin 8, k ≠ l → t.rx[k] = s.rx[k]) ∧
      (t.blob Ob.LINE_EYE_HIST (l.val + 1)).length = 512 ∧
      (∀ i : Fin 128, leNat (((t.blob Ob.LINE_EYE_HIST (l.val + 1)).drop (4 * i.val)).take 4) =
        min (2 ^ 32 - 1) (((List.range 4).map (fun k => s1.rx[l].dsp.eye.getD (128 * k + i.val) 0)).sum)) ∧
      KeepsRegs (fun ix sub => ix = Ob.LINE_EYE_HEIGHT ∧ sub = l.val + 1) s1 t) ∧
  (∀ (s : State) (l : Fin 8) (codes : List Int), let s1 := s.rxSamples l codes
    (s1.rx[l].eyeRun = false ∨ s1.rx[l].dsp.eyeLeft ≠ 0) → exec (.eyeCaptureDone l codes) s = .next s1)

/-! ## The inner code (chapter 6) -/

/-- R59, R154, R158, R164 and R166: a codeword of a port that delivers to the pool is counted, stamped by the converter's sample and takes
the last place of its lane, with the soft values of its 2,048 symbols and the mode's deadline and cap; in loop-back of depth 3 the
looped levels give them. In the dark it goes through UNDECODED: with nothing before it in its lane it has left at once. R156, R157,
R165, R168, R171 and R175: a codeword in a unit ends CONVERGED where the decoder's syndrome is zero within the cap, else CAP_FAIL, with
its iterations counted; at its deadline it ends FORCED, unless the layers completed by then have completed it; a unit whose layer never
completes, or whose word fails the check, is failed and its half has one unit less. The events are void where no codeword is concerned.
The model's choices in it: the sample count of a stamp (log entry 186), the looped levels' stamp (187). -/
def Obligations.CodewordsAreStampedAndEnd : Prop :=
  (∀ (s : State) (l p : Fin 8) (codes : List Int) (errs : List Nat) (first : Nat), let s1 := s.rxSamples l codes
    s.portOf l = some p → s.ticUsed p = true → s.on (Dom.fec (halfOf l)) = true → s.testKind p ≠ 5 → s1.cwStart l = some first →
    ∃ t : State, exec (.codewordArrival l codes errs) s = .next t ∧
      t = { s1 with regs := t.regs, blobs := t.blobs, tic := t.tic, cwCount := t.cwCount, test := t.test, tx := t.tx,
                    outerLane := t.outerLane, outerPort := t.outerPort, lookout := t.lookout, cap := t.cap } ∧
      t.cwCount = s.cwCount + 1 ∧
      t.reg Ob.TIC_CW_ARRIVED (l.val + 1) = (min (2 ^ 64 - 1) (s.nat Ob.TIC_CW_ARRIVED (l.val + 1) + 1) : Nat) ∧
      t.tic[l].tickCw = s.tic[l].tickCw + 1 ∧
      (∀ x ∈ t.tic[l].cws, (∀ y ∈ s.tic[l].cws, x.order ≠ y.order) →
        x.order = s.cwCount ∧ x.stamp = s1.sampleStamp l ∧ x.cap = s.effCap p ∧ x.deadline = modeDeadline (s.modeOf p) ∧
        x.q = (s1.softErrors p l first ((s1.softIn l first).soft.map
          (softValue (s.nat Ob.LINE_MSE (l.val + 1)) (s1.softIn l first).step)) errs).1 ∧
        x.unsettled = s1.rx[l].dsp.anyMarked first 2048) ∧
      (s.reg Ob.LINE_LOS_RAW (l.val + 1) ≠ 0 → s.tic[l].cws = [] → t.tic[l].cws = [] ∧
        t.reg Ob.TIC_CW_UNDECODED (l.val + 1) = (min (2 ^ 64 - 1) (s.nat Ob.TIC_CW_UNDECODED (l.val + 1) + 1) : Nat)) ∧
      KeepsRegs (fun ix sub => ix ∈ releaseObjs ++ [Ob.TIC_CW_ARRIVED, Ob.HAMPER_OCCUPANCY_PEAK, Ob.TIC_STAGING_PEAK,
        Ob.TIC_STAGING_FULL, Ob.TIC_EVENTS, Ob.TEST_INJ_SYM_ERRORS] ∨ EventObj ix sub) s1 t) ∧
  (∀ (s : State) (l p : Fin 8) (codes : List Int) (errs : List Nat), let s1 := s.rxSamples l codes
    s.portOf l = some p → s.ticUsed p = true → s.on (Dom.fec (halfOf l)) = true → s.testKind p = 5 → 2048 ≤ s.tic[l].looped.length →
    ∃ t : State, exec (.codewordArrival l codes errs) s = .next t ∧
      t = { s1 with regs := t.regs, blobs := t.blobs, tic := t.tic, cwCount := t.cwCount, test := t.test, tx := t.tx,
                    outerLane := t.outerLane, outerPort := t.outerPort, lookout := t.lookout, cap := t.cap } ∧
      t.cwCount = s.cwCount + 1 ∧ t.tic[l].looped = s.tic[l].looped.drop 2048 ∧
      t.reg Ob.TIC_CW_ARRIVED (l.val + 1) = (min (2 ^ 64 - 1) (s.nat Ob.TIC_CW_ARRIVED (l.val + 1) + 1) : Nat) ∧
      (∀ x ∈ t.tic[l].cws, (∀ y ∈ s.tic[l].cws, x.order ≠ y.order) → x.order = s.cwCount ∧ x.cap = s.effCap p ∧
        x.q = (s1.softErrors p l s.tic[l].burstAt (loopSoft (s.tic[l].looped.take 2048)) errs).1) ∧
      KeepsRegs (fun ix sub => ix ∈ releaseObjs ++ [Ob.TIC_CW_ARRIVED, Ob.HAMPER_OCCUPANCY_PEAK, Ob.TIC_STAGING_PEAK,
        Ob.TIC_STAGING_FULL, Ob.TIC_EVENTS, Ob.TEST_INJ_SYM_ERRORS] ∨ EventObj ix sub) s1 t) ∧
  (∀ (s : State) (l : Fin 8) (codes : List Int) (errs : List Nat), let s1 := s.rxSamples l codes
    ((∀ p, s.portOf l = some p → s.ticUsed p = false ∨ s.on (Dom.fec (halfOf l)) = false ∨
      (s.testKind p = 5 ∧ s.tic[l].looped.length < 2048) ∨ (s.testKind p ≠ 5 ∧ s1.cwStart l = none)) →
      exec (.codewordArrival l codes errs) s = .next s1)) ∧
  (∀ (s : State) (h : Fin 2) (u : Fin 48) (l : Fin 8) (c : Codeword) (since : Nat), s.unitCw h u = some (l, c, since) →
    ∃ t : State, exec (.decodeEnd h u none) s = .next t ∧
      t = { s with regs := t.regs, blobs := t.blobs, tic := t.tic, pool := t.pool, test := t.test, tx := t.tx,
                   outerLane := t.outerLane, outerPort := t.outerPort, lookout := t.lookout, cap := t.cap } ∧
      (∀ x ∈ t.tic[l].cws, x.order = c.order → x.phase = .ended ∧
        x.status = (if (ticDecode c.q c.cap).2.2 = true ∧ syndromeZero (ticDecode c.q c.cap).1.toArray = true then 0 else 1)) ∧
      t.reg Ob.TIC_ITER_TOTAL (l.val + 1) =
        (min (2 ^ 64 - 1) (s.nat Ob.TIC_ITER_TOTAL (l.val + 1) + (c.done + (ticDecode c.q c.cap).2.1)) : Nat) ∧
      KeepsRegs (fun ix sub => ix ∈ releaseObjs ++ [Ob.TIC_BITS_CORRECTED, Ob.TIC_EVENTS, Ob.TIC_UNITS_AVAILABLE] ∨
        EventObj ix sub) s t) ∧
  (∀ (s : State) (h : Fin 2) (u : Fin 48) (bits : List Bool) (l : Fin 8) (c : Codeword) (since : Nat),
    s.unitCw h u = some (l, c, since) → syndromeZero bits.toArray = false →
    ∃ t : State, exec (.decodeEnd h u (some bits)) s = .next t ∧ u.val ∈ t.pool[h].failed ∧
      t.reg Ob.TIC_UNITS_AVAILABLE (h.val + 1) = (48 - t.pool[h].failed.length : Nat) ∧
      t.reg Ob.TIC_EVENTS (l.val + 1) = (min (2 ^ 32 - 1) (s.nat Ob.TIC_EVENTS (l.val + 1) + 1) : Nat)) ∧
  (∀ (s : State) (l : Fin 8) (i layers : Nat) (c : Codeword) (h : Fin 2) (u : Fin 48) (since : Nat), s.tic[l].cws[i]? = some c →
    (c.phase = .waiting ∨ (c.phase = .decoding h u since ∧ min layers (4 * c.cap) < 4 * (ticDecode c.q c.cap).2.1)) →
    ∃ t : State, exec (.releaseDeadline l i layers) s = .next t ∧
      t = { s with regs := t.regs, blobs := t.blobs, tic := t.tic, pool := t.pool, test := t.test, tx := t.tx,
                   outerLane := t.outerLane, outerPort := t.outerPort, lookout := t.lookout, cap := t.cap } ∧
      t.tic[l].tickForced = s.tic[l].tickForced + 1 ∧
      (∀ x ∈ t.tic[l].cws, x.order = c.order → x.phase = .ended ∧ x.status = 2) ∧
      KeepsRegs (fun ix sub => ix ∈ releaseObjs ∨ EventObj ix sub) s t) ∧
  (∀ (s : State) (l : Fin 8) (i layers : Nat) (c : Codeword) (h : Fin 2) (u : Fin 48) (since : Nat),
    s.tic[l].cws[i]? = some c → c.phase = .decoding h u since → 4 * (ticDecode c.q c.cap).2.1 ≤ min layers (4 * c.cap) →
    s.unitCw h u = some (l, c, since) →
    ∃ t : State, exec (.releaseDeadline l i layers) s = .next t ∧ exec (.decodeEnd h u none) s = .next t) ∧
  (∀ (s : State) (h : Fin 2) (u : Fin 48) (layers : Nat) (l : Fin 8) (c : Codeword) (since : Nat), s.unitCw h u = some (l, c, since) →
    ∃ t : State, exec (.layerWatchdog h u layers) s = .next t ∧
      t = { s with regs := t.regs, blobs := t.blobs, tic := t.tic, pool := t.pool, test := t.test, tx := t.tx,
                   outerLane := t.outerLane, outerPort := t.outerPort, lookout := t.lookout, cap := t.cap } ∧
      u.val ∈ t.pool[h].failed ∧
      (∀ x ∈ t.tic[l].cws, x.order = c.order → ∀ n, x.phase ≠ .decoding h u n) ∧
      (∀ x ∈ t.tic[l].cws, x.order = c.order → s.past c = true → x.phase = .ended ∧ x.status = 2) ∧
      t.reg Ob.TIC_UNITS_AVAILABLE (h.val + 1) = (48 - t.pool[h].failed.length : Nat) ∧
      t.reg Ob.TIC_EVENTS (l.val + 1) = (min (2 ^ 32 - 1) (s.nat Ob.TIC_EVENTS (l.val + 1) + 1) : Nat) ∧
      KeepsRegs (fun ix sub => ix ∈ releaseObjs ++ [Ob.TIC_EVENTS, Ob.TIC_UNITS_AVAILABLE] ∨ EventObj ix sub) s t) ∧
  (∀ (s : State) (h : Fin 2) (u : Fin 48) (d : Option (List Bool)) (n i : Nat) (l : Fin 8),
    (s.unitCw h u = none → exec (.decodeEnd h u d) s = .next s ∧ exec (.layerWatchdog h u n) s = .next s) ∧
    (s.tic[l].cws[i]? = none → exec (.releaseDeadline l i n) s = .next s) ∧
    (∀ c, s.tic[l].cws[i]? = some c → c.phase = .ended → exec (.releaseDeadline l i n) s = .next s))

/-! ## Frames and retransmission (chapter 7) -/

/-- R186, R189, R190, R193, R204 and R206: the oldest slot that delineation has cut from the port's stream is taken and checked: one
whose header check fails, or that overlaps an uncorrectable outer codeword, counts and is dropped; one whose body check fails counts in
LINK.CRC_FAIL; one of an undefined type or level counts as a protocol error; and a DATA frame that is the next expected one,
with nothing held, is delivered and moves ACK on by one. In a state where the link does not run, in SEARCH, or with no slot waiting, the
event is void. -/
def Obligations.ReceivedFramesAreCheckedAndDelivered : Prop :=
  (∀ (s : State) (p : Fin 8) (slot : RxSlot) (rest : List RxSlot), s.linkRuns p = true → s.pstate p ≠ PS.SEARCH →
    s.outerPort[p].slots = slot :: rest →
    (let bits := bytesBits slot.bytes
     ∃ t : State, exec (.frameReceived p) s = .next t ∧
      t = { s with regs := t.regs, link := t.link, port := t.port, mmp := t.mmp, test := t.test, hostInst := t.hostInst,
                   outerPort := t.outerPort, outerLane := t.outerLane, eng := t.eng, lookout := t.lookout, cap := t.cap } ∧
      (slot.bad = true ∨ hdrOk bits = false →
        t = { s with regs := t.regs, outerPort := s.outerPort.set p { s.outerPort[p] with slots := rest } } ∧
        t.reg Ob.LINK_HDR_FAIL (p.val + 1) = (min (2 ^ 64 - 1) (s.nat Ob.LINK_HDR_FAIL (p.val + 1) + 1) : Nat) ∧
        KeepsRegs (fun ix sub => ix = Ob.LINK_HDR_FAIL ∧ sub = p.val + 1) s t) ∧
      (slot.bad = false → hdrOk bits = true → crcOk bits = false →
        t.reg Ob.LINK_CRC_FAIL (p.val + 1) = (min (2 ^ 64 - 1) (s.nat Ob.LINK_CRC_FAIL (p.val + 1) + 1) : Nat) ∧
        t.reg Ob.LINK_FRAMES_OK (p.val + 1) = s.reg Ob.LINK_FRAMES_OK (p.val + 1) ∧ t.link[p].ack = s.link[p].ack) ∧
      (slot.bad = false → hdrOk bits = true → crcOk bits = true →
        t.reg Ob.LINK_FRAMES_OK (p.val + 1) = (min (2 ^ 64 - 1) (s.nat Ob.LINK_FRAMES_OK (p.val + 1) + 1) : Nat) ∧
        ((headOf bits).type = 0 ∨ 5 < (headOf bits).type →
          t.reg Ob.LINK_PROTOCOL_ERR (p.val + 1) = (min (2 ^ 32 - 1) (s.nat Ob.LINK_PROTOCOL_ERR (p.val + 1) + 1) : Nat))) ∧
      (∀ q : Fin 8, q ≠ p → t.link[q] = s.link[q]))) ∧
  (∀ (s : State) (p : Fin 8) (slot : RxSlot) (rest : List RxSlot), s.native p = true → s.pstate p = PS.CARRYING →
    s.outerPort[p].slots = slot :: rest → slot.bad = false → hdrOk (bytesBits slot.bytes) = true → crcOk (bytesBits slot.bytes) = true →
    (let h := headOf (bytesBits slot.bytes)
     h.type = TData ∧ h.last = false ∧ 1 ≤ h.lpl ∧ h.lpl ≤ s.nat Ob.LINK_LPL_IMPL 0 ∧ h.seq = s.link[p].ack ∧
       s.link[p].seen = s.link[p].ack ∧ s.link[p].ack < 2 ^ 24 ∧ s.link[p].held = [] ∧ s.link[p].gaps = []) →
    ∃ t : State, exec (.frameReceived p) s = .next t ∧ t.outerPort[p].slots = rest ∧ t.link[p].ack = next24 s.link[p].ack ∧
      t.link[p].seen = t.link[p].ack ∧ t.link[p].held = [] ∧ t.link[p].gaps = [] ∧ t.pstate p = PS.CARRYING ∧
      t.reg Ob.RETRY_RX_DELIVERED (p.val + 1) = (min (2 ^ 64 - 1) (s.nat Ob.RETRY_RX_DELIVERED (p.val + 1) + 1) : Nat)) ∧
  (∀ (s : State) (p : Fin 8), (s.linkRuns p = false ∨ s.pstate p = PS.SEARCH ∨ s.outerPort[p].slots = []) →
    exec (.frameReceived p) s = .next s)

/-- R182, R183, R301 and R303: a lane looks for its marker at the start of the payload it received last. A marker of this port and place
renews the lane's streak and gives its lag; what stands where a marker is due and is none counts one marker error and ends the lane's
streak; the fourth miss in a row of an aligned port in CARRYING is a loss of alignment and takes the port to DRAINING; what stands where
none is due, and is none, is an ordinary payload. A lane of no port, or of one whose link does not run, or not locked in SEARCH, takes
none. -/
def Obligations.MarkersAlignTheLanes : Prop :=
  (∀ (s : State) (l p : Fin 8) (codes : List Int) (lag : Nat) (bits : List Bool) (due : Bool), let s1 := s.rxSamples l codes
    let o := s.outerLane[l]
    let hits := ((List.zipWith (· == ·) bits (markerPattern (l.val - p.val))).filter id).length
    let field (lo k : Nat) : Nat := bitsNat ((bits.drop lo).take k)
    let good := 2000 ≤ hits ∧ field 2400 32 = crc32cBits ((bits.drop 2048).take 352)
    s.portOf l = some p → s.linkRuns p = true → (s.pstate p = PS.SEARCH → s.srch[l].lock = true) →
    s1.markerPlace p l = some (bits, due) →
    ∃ t : State, exec (.markerReceived l codes lag) s = .next t ∧
      t = { s1 with regs := t.regs, link := t.link, port := t.port, mmp := t.mmp, test := t.test, hostInst := t.hostInst, rx := t.rx,
                    srch := t.srch, outerLane := t.outerLane, outerPort := t.outerPort, tic := t.tic, pool := t.pool,
                    lookout := t.lookout, cap := t.cap } ∧
      (¬ good → due = true → t.reg Ob.LINK_MARKER_ERR (l.val + 1) =
          (min (2 ^ 32 - 1) (s.nat Ob.LINK_MARKER_ERR (l.val + 1) + 1) : Nat) ∧
        (o.missed < 3 → t.outerLane[l].streak = 0 ∧ t.outerLane[l].missed = o.missed + 1) ∧
        (o.missed = 3 → s.reg Ob.LINK_ALIGN_STATE (p.val + 1) = 1 → s.pstate p = PS.CARRYING →
          t.pstate p = PS.DRAINING ∧ t.reg Ob.PORT_DRAIN_CAUSE (p.val + 1) = 3 ∧ t.reg Ob.LINK_ALIGN_STATE (p.val + 1) = 2 ∧
          ∀ f ∈ t.link[p].tx, f.off = true)) ∧
      (¬ good → due = false → t = { s1 with outerLane := t.outerLane } ∧ t.outerLane[l].streak = o.streak ∧
        t.outerLane[l].missed = o.missed) ∧
      (good → field 2052 4 = Nat.log2 (s.lanesOf p).length → (field 2060 4 : Int) = s.rateActive p → field 2048 4 = l.val - p.val →
        t.outerLane[l].missed = 0 ∧ t.outerLane[l].streak = (if due = true then min 2 (o.streak + 1) else 1) ∧
        t.reg Ob.LINK_SKEW_CW (l.val + 1) = (min 255 lag : Nat) ∧
        t.reg Ob.LINK_MARKER_ERR (l.val + 1) = s.reg Ob.LINK_MARKER_ERR (l.val + 1)) ∧
      (∀ q : Fin 8, q ≠ p → t.link[q] = s.link[q])) ∧
  (∀ (s : State) (l : Fin 8) (codes : List Int) (lag : Nat), let s1 := s.rxSamples l codes
    (∀ p, s.portOf l = some p → s.linkRuns p = false ∨ (s.pstate p = PS.SEARCH ∧ s.srch[l].lock = false) ∨
      s1.markerPlace p l = none) → exec (.markerReceived l codes lag) s = .next s1)

/-- R192, R195, R199 and R201: a slot of a carrying port sends a STATUS that is due first; else, with no replay queued, the next new
DATA frame, whose SEQ is the sender's next and which is retained with the cycle of its first send; a port that does not carry
sends IDLE frames, or an ECHO that is due; in the line pattern test every lane of the port sends 2,048 symbols of its pattern instead
(R322; that the command stands for them there is the model's choice, log entry 204). -/
def Obligations.SlotsSendInOrder : Prop :=
  (∀ (s : State) (p : Fin 8) (take : Nat), s.linkRuns p = true →
    ∃ t : State, exec (.slotFill p take) s = .next t ∧
      t = { s with regs := t.regs, link := t.link, port := t.port, mmp := t.mmp, test := t.test, hostInst := t.hostInst, tx := t.tx,
                   tic := t.tic, eng := t.eng, ds := t.ds, lookout := t.lookout, cap := t.cap } ∧
      (∀ q : Fin 8, q ≠ p → t.link[q] = s.link[q]) ∧
      (s.carries p = true → s.link[p].statusDue = true →
        t.reg Ob.RETRY_STATUS_SENT (p.val + 1) = (min (2 ^ 64 - 1) (s.nat Ob.RETRY_STATUS_SENT (p.val + 1) + 1) : Nat) ∧
        (s.link[p].gaps.length < 511 → t.link[p].statusDue = false) ∧ t.link[p].next = s.link[p].next) ∧
      (∀ b rest, s.carries p = true → s.link[p].statusDue = false → s.link[p].replays = [] → s.link[p].swapped = none →
        s.link[p].ready = b :: rest → s.test[p].injKind ≠ 3 → s.test[p].injKind ≠ 4 →
        t.link[p].next = next24 s.link[p].next ∧
        t.reg Ob.RETRY_TX_DATA (p.val + 1) = (min (2 ^ 64 - 1) (s.nat Ob.RETRY_TX_DATA (p.val + 1) + 1) : Nat) ∧
        ∃ f ∈ t.link[p].tx, f.seq = s.link[p].next ∧ f.body = some b ∧ f.first = s.time.now ∧ f.last = s.time.now ∧ f.off = false) ∧
      (s.carries p = false → t.link[p].next = s.link[p].next ∧ t.link[p].tx = s.link[p].tx)) ∧
  (∀ (s : State) (p : Fin 8) (take : Nat), s.testKind p = 1 →
    ∃ t : State, exec (.slotFill p take) s = .next t ∧ t = { s with regs := t.regs, tx := t.tx, lookout := t.lookout, cap := t.cap } ∧
      (∀ l : Fin 8, t.tx[l].gen = if l ∈ s.lanesOf p then (s.tx[l].gen.run (s.patternOf (.line l)) 2048).2 else s.tx[l].gen)) ∧
  (∀ (s : State) (p : Fin 8) (take : Nat), s.linkRuns p = false → s.testKind p ≠ 1 → exec (.slotFill p take) s = .next s)

/-- R195, R197, R200, R202 and R204: a frame's timer queues its replay, or writes it off once it has been replayed RETRY.REPLAY_MAX times; a window's age
writes a frame off; a gap whose age reaches the window is released as lost, counted with its event; a repeat of STATUS and an
ECHO fall due on their timers. -/
def Obligations.RetransmissionTimers : Prop :=
  (∀ (s : State) (p : Fin 8) (f : TxFrame), s.carries p = true →
    (0 < s.reg Ob.RETRY_RTT_NS (p.val + 1) ∨ s.link[p].replayMax ≤ f.count) →
    s.link[p].tx.find? (fun t => t.seq == f.seq) = some f → f.off = false → f.got = false →
    ∃ t : State, exec (.retxTimer p f.seq) s = .next t ∧ t = { s with regs := t.regs, link := t.link, lookout := t.lookout, cap := t.cap } ∧
      (f.count < s.link[p].replayMax → f.seq ∉ s.link[p].replays →
        (s.link[p].replays = [] → t.link[p].replays = [f.seq]) ∧ t.link[p].tx = s.link[p].tx ∧ f.seq ∈ t.link[p].replays) ∧
      (s.link[p].replayMax ≤ f.count → (∀ g ∈ t.link[p].tx, g.seq = f.seq → g.off = true ∧ g.body = none) ∧
        f.seq ∉ t.link[p].replays ∧
        t.reg Ob.RETRY_TX_WRITEOFF (p.val + 1) = (min (2 ^ 64 - 1) (s.nat Ob.RETRY_TX_WRITEOFF (p.val + 1) + 1) : Nat)) ∧
      (∀ q : Fin 8, q ≠ p → t.link[q] = s.link[q]) ∧
      KeepsRegs (fun ix sub => ix ∈ [Ob.RETRY_TX_WRITEOFF, Ob.RETRY_OUTSTANDING, Ob.RETRY_HOLD_OCCUPANCY, Ob.RETRY_OUTSTANDING_PEAK,
        Ob.RETRY_HOLD_PEAK] ∧ sub = p.val + 1) s t) ∧
  (∀ (s : State) (p : Fin 8) (f : TxFrame), s.link[p].tx.find? (fun t => t.seq == f.seq) = some f → f.off = false →
    ∃ t : State, exec (.windowAgeWriteoff p f.seq) s = .next t ∧ t = { s with regs := t.regs, link := t.link } ∧
      (∀ g ∈ t.link[p].tx, g.seq = f.seq → g.off = true ∧ g.body = none) ∧ f.seq ∉ t.link[p].replays ∧
      (t.link[p].tx.map (·.seq)) = (s.link[p].tx.map (·.seq)) ∧ (∀ q : Fin 8, q ≠ p → t.link[q] = s.link[q]) ∧
      t.reg Ob.RETRY_TX_WRITEOFF (p.val + 1) = (min (2 ^ 64 - 1) (s.nat Ob.RETRY_TX_WRITEOFF (p.val + 1) + 1) : Nat) ∧
      KeepsRegs (fun ix sub => ix ∈ [Ob.RETRY_TX_WRITEOFF, Ob.RETRY_OUTSTANDING, Ob.RETRY_HOLD_OCCUPANCY, Ob.RETRY_OUTSTANDING_PEAK,
        Ob.RETRY_HOLD_PEAK] ∧ sub = p.val + 1) s t) ∧
  (∀ (s : State) (p : Fin 8) (g : LinkGap), s.link[p].gaps = [g] →
    ∃ t : State, exec (.gapAgeRelease p g.seq) s = .next t ∧
      t = { s with regs := t.regs, link := t.link, hostInst := t.hostInst, test := t.test, lookout := t.lookout, cap := t.cap } ∧
      t.link[p].gaps = [] ∧ t.link[p].statusDue = false ∧
      (s.link[p].held = [] → g.seq = s.link[p].ack → t.link[p].ack = next24 s.link[p].ack) ∧
      t.reg Ob.RETRY_RX_LOST (p.val + 1) = (min (2 ^ 64 - 1) (s.nat Ob.RETRY_RX_LOST (p.val + 1) + 1) : Nat) ∧
      t.reg Ob.RETRY_EVENTS (p.val + 1) = (min (2 ^ 32 - 1) (s.nat Ob.RETRY_EVENTS (p.val + 1) + 1) : Nat) ∧
      (∀ q : Fin 8, q ≠ p → t.link[q] = s.link[q])) ∧
  (∀ (s : State) (p : Fin 8), (s.carries p = true → s.link[p].gaps ≠ [] →
      ∃ t : State, exec (.statusRepeat p) s = .next t ∧ t = { s with link := s.link.set p { s.link[p] with repeatDue := true } }) ∧
    (s.inbandRuns p = true →
      ∃ t : State, exec (.echoReqTimer p) s = .next t ∧ t = { s with link := s.link.set p { s.link[p] with echoDue := true } }) ∧
    (s.inbandRuns p = false → exec (.echoReqTimer p) s = .next s) ∧ (s.link[p].gaps = [] → exec (.statusRepeat p) s = .next s))

/-- R4, R214, R217, R221 and R238: RETRY.WINDOW_US takes 4 to 70, or to 512 on a part with a deep store; a value outside is refused, with
RANGE where no earlier check fails, and changes nothing; one inside is stored with every retained frame older than it written off; a
window beyond 70 that the store's hot rate could not carry is a conflict. -/
def Obligations.RetryWindowIsRanged : Prop :=
  (∀ (s : State) (r : Req) (p : Fin 8) (v : Nat), v < 65536 → (v < 4 ∨ (if s.partEA = true then 512 else 70) < v) →
    let s1 := s.taken r .write Ob.RETRY_WINDOW_US (p.val + 1) (leBytes 2 v)
    let g := s1.gate r .write Ob.RETRY_WINDOW_US (p.val + 1) (leBytes 2 v)
    s.on Dom.MGT = true → badOpcode r = false →
    (∀ l ∈ (s.tp r.path).last, l.tag = r.tag → l.crc ≠ crc16 (frameBody r .write Ob.RETRY_WINDOW_US (p.val + 1) (leBytes 2 v))) →
    s.tagBusy r.path r.tag = false → s1.outstanding r.path < 8 →
      g ≠ 0 ∧ (s1.gate r .write Ob.RETRY_WINDOW_US (p.val + 1) (leBytes 2 70) = 0 → g = St.RANGE) ∧
      exec (.retryWindowWrite r (p.val + 1) v) s = .next (s1.reply r .write Ob.RETRY_WINDOW_US (p.val + 1) g [])) ∧
  (∀ (s : State) (r : Req) (p : Fin 8) (v : Nat), v < 65536 → s.Accepts r .write Ob.RETRY_WINDOW_US (p.val + 1) (leBytes 2 v) →
    (v ≤ 70 ∨ s.deepPort p = true ∨ s.dsLoad (some (p, v)) ≤ hotUsable (s.nat Ob.DS_PIN_RATE 0)) →
    ∃ u : State, exec (.retryWindowWrite r (p.val + 1) v) s = .next (u.reply r .write Ob.RETRY_WINDOW_US (p.val + 1) St.OK []) ∧
      u = { s.taken r .write Ob.RETRY_WINDOW_US (p.val + 1) (leBytes 2 v) with
        regs := u.regs, link := u.link, doms := u.doms, mmp := u.mmp, ds := u.ds } ∧
      u.reg Ob.RETRY_WINDOW_US (p.val + 1) = (v : Int) ∧ 4 ≤ v ∧ v ≤ 512 ∧
      (∀ f ∈ u.link[p].tx, f.off = true ∨ s.time.now < f.first + usCycles v) ∧ (∀ f ∈ u.link[p].tx, f.window ≤ v) ∧
      (∀ q : Fin 8, q ≠ p → u.link[q] = s.link[q])) ∧
  (∀ (s : State) (r : Req) (p : Fin 8) (v : Nat), v < 65536 → s.Accepts r .write Ob.RETRY_WINDOW_US (p.val + 1) (leBytes 2 v) →
    70 < v → s.deepPort p = false → hotUsable (s.nat Ob.DS_PIN_RATE 0) < s.dsLoad (some (p, v)) →
    exec (.retryWindowWrite r (p.val + 1) v) s = .next ((s.taken r .write Ob.RETRY_WINDOW_US (p.val + 1) (leBytes 2 v)).reply r .write
      Ob.RETRY_WINDOW_US (p.val + 1) St.CONFIG_CONFLICT []))

/-! ## The deep store (chapter 8) -/

/-- R224 to R226: a training ends READY (3), DEGRADED (4) with one device failed or FAILED (5) with more, after a full one with densities
and temperatures taken, and with the stamp where it did not fail, and answers DS.RETRAIN. DS.RETRAIN starts a full one while the deep store is enabled,
its domain is ON and no deep port carries, and fails with CONFIG_CONFLICT otherwise; after FAILED up to three more follow; and a
channel's retraining counts. R236, R237 and R421: a refresh command goes out with the multiplier of the band, 1, 1, 2 or 4; a
device's reported temperature is stored, moves the band with 2 °C of hysteresis, raises DS_MEM_HOT at or above DS.MEM_HOT_C, and 10 °C or
more from where the device was last trained makes its four channels due. The model's choices in it: a channel is busy for 235 cycles, and
a device counts as trained anew with its last channel (log entry 193). -/
def Obligations.DeepStoreTrainsAndRefreshes : Prop :=
  (∀ (s : State) (m : DsTraining), s.reg Ob.DS_STATE 0 = 2 →
    ∃ v : State, exec (.dsTrainingDone m) s = .next (v.finish Ob.DS_RETRAIN 0 St.OK) ∧
      v.reg Ob.DS_STATE 0 = (match m.failed.eraseDups with
        | [] => if s.dsFailed = [] then 3 else if s.dsFailed.length = 1 then 4 else 5
        | [d] => if s.dsFailed.filter (· != d.val) = [] then 4 else 5
        | _ => 5) ∧
      (∀ d : Fin 5, d ∈ m.failed → v.reg Ob.DS_DEVICE_STATE (d.val + 1) = 1) ∧
      (s.ds.fromRet = false → ∀ d : Fin 5, v.reg Ob.DS_MEM_TEMP_C (d.val + 1) = m.temp[d] ∧
        v.reg Ob.DS_DENSITY (d.val + 1) = (m.density[d] : Int)) ∧
      v.reg Ob.DS_TRAIN_TIME 0 =
        (if s.ds.fromRet = false ∧ v.reg Ob.DS_STATE 0 ≠ 5 then (s.stamp : Int) else s.reg Ob.DS_TRAIN_TIME 0) ∧
      (s.dsFailed = [] ∨ m.failed = [] →
        v = { s with regs := v.regs, ds := v.ds, lookout := v.lookout, cap := v.cap } ∧
        KeepsRegs (fun ix sub => ix ∈ [Ob.DS_STATE, Ob.DS_DENSITY, Ob.DS_MEM_TEMP_C, Ob.DS_TRAIN_TIME, Ob.DS_DEVICE_STATE,
          Ob.DS_EVENTS] ∨ EventObj ix sub) s v)) ∧
  (∀ (s : State) (m : DsTraining), s.reg Ob.DS_STATE 0 ≠ 2 → exec (.dsTrainingDone m) s = .next s) ∧
  (∀ (s : State) (r : Req), s.Accepts r .exec Ob.DS_RETRAIN 0 [0] → s.partEA = true → s.ds.enabled = true → s.on Dom.DS = true →
    (∀ p : Fin 8, s.exists p = true → s.deepPort p = true → s.pstate p ≠ PS.CARRYING) →
    (s.reg Ob.DS_STATE 0 ≠ 2 →
      ∃ u : State, exec (.dsRetrain r) s = .next (u.pendAdd ⟨r, .exec, Ob.DS_RETRAIN, 0⟩) ∧
        u = { s.taken r .exec Ob.DS_RETRAIN 0 [0] with
          regs := u.regs, ds := u.ds, link := u.link, hostInst := u.hostInst, test := u.test, lookout := u.lookout, cap := u.cap } ∧
        u.reg Ob.DS_STATE 0 = 2 ∧ u.ds.remap = [] ∧ u.ds.retries = 0 ∧ u.ds.rate = s.nat Ob.DS_PIN_RATE 0 ∧ u.dsFailed = []) ∧
    (s.reg Ob.DS_STATE 0 = 2 →
      exec (.dsRetrain r) s = .next ((s.taken r .exec Ob.DS_RETRAIN 0 [0]).reply r .exec Ob.DS_RETRAIN 0 St.BUSY []))) ∧
  (∀ (s : State) (r : Req), s.Accepts r .exec Ob.DS_RETRAIN 0 [0] → (s.partEA = false ∨ s.ds.enabled = false ∨ s.on Dom.DS = false ∨
      ∃ p : Fin 8, s.exists p = true ∧ s.deepPort p = true ∧ s.pstate p = PS.CARRYING) →
    exec (.dsRetrain r) s = .next ((s.taken r .exec Ob.DS_RETRAIN 0 [0]).reply r .exec Ob.DS_RETRAIN 0 St.CONFIG_CONFLICT [])) ∧
  (∀ s : State, s.reg Ob.DS_STATE 0 = 5 → s.on Dom.DS = true → s.ds.retries < 3 →
    ∃ t : State, exec .dsTrainingRetry s = .next t ∧ t = { s with regs := t.regs, ds := t.ds } ∧ t.reg Ob.DS_STATE 0 = 2 ∧
      t.ds.retries = s.ds.retries + 1 ∧ t.ds.remap = [] ∧
      KeepsRegs (fun ix _ => ix ∈ [Ob.DS_STATE, Ob.DS_DEVICE_STATE, Ob.DS_REMAP_USED, Ob.DS_REMAP_ENTRY]) s t) ∧
  (∀ s : State, (s.reg Ob.DS_STATE 0 ≠ 5 ∨ 3 ≤ s.ds.retries) → exec .dsTrainingRetry s = .next s) ∧
  (∀ (s : State) (d : Fin 5) (c : Fin 4), (s.reg Ob.DS_STATE 0 = 3 ∨ s.reg Ob.DS_STATE 0 = 4) →
    ∃ t : State, exec (.dsChannelRetrain d c) s = .next t ∧ t = { s with regs := t.regs, ds := t.ds } ∧
      t.reg Ob.DS_RETRAIN_COUNT 0 = (min (2 ^ 32 - 1) (s.nat Ob.DS_RETRAIN_COUNT 0 + 1) : Nat) ∧
      t.ds = { s.ds with
        due := s.ds.due.filter (· != (d.val, c.val)), busy := some (c.val, s.time.now + 235), trainTemp := t.ds.trainTemp } ∧
      (c = 3 → (d.val, c.val) ∉ s.ds.due → t.ds.trainTemp[d] = s.reg Ob.DS_MEM_TEMP_C (d.val + 1)) ∧
      (s.ds.due = [(d.val, c.val)] → t.ds.trainTemp[d] = s.reg Ob.DS_MEM_TEMP_C (d.val + 1)) ∧
      (∀ e : Fin 5, e ≠ d → t.ds.trainTemp[e] = s.ds.trainTemp[e]) ∧ KeepsRegs (fun ix _ => ix = Ob.DS_RETRAIN_COUNT) s t) ∧
  (∀ s : State, (s.reg Ob.DS_STATE 0 = 3 ∨ s.reg Ob.DS_STATE 0 = 4) →
    ∃ t : State, exec .dsRefresh s = .next t ∧ t = { s with regs := t.regs, ds := t.ds } ∧
      t.ds = { s.ds with refreshes := s.ds.refreshes + 1 } ∧
      t.reg Ob.DS_REFRESH_MULT 0 = (if s.ds.band = 3 then 4 else if s.ds.band = 2 then 2 else 1) ∧
      KeepsRegs (fun ix _ => ix = Ob.DS_REFRESH_MULT) s t) ∧
  (∀ (s : State) (d : Fin 5) (c : Int), 2 ≤ s.reg Ob.DS_STATE 0 → s.on Dom.DS = true →
    ∃ t : State, exec (.dsTempRead d c) s = .next t ∧ t = { s with regs := t.regs, ds := t.ds, lookout := t.lookout, cap := t.cap } ∧
      t.reg Ob.DS_MEM_TEMP_C (d.val + 1) = clampInt (-32768) 32767 c ∧
      t.ds = { s.ds with band := bandFrom s.ds.band t.dsTemp, due := t.ds.due } ∧
      (10 ≤ (clampInt (-32768) 32767 c - s.ds.trainTemp[d]).natAbs → (s.reg Ob.DS_STATE 0 = 3 ∨ s.reg Ob.DS_STATE 0 = 4) →
        ∀ k : Fin 4, (d.val, k.val) ∈ t.ds.due) ∧
      ((clampInt (-32768) 32767 c - s.ds.trainTemp[d]).natAbs < 10 → t.ds.due = s.ds.due) ∧
      t.reg Ob.DS_EVENTS 0 = (if s.reg Ob.DS_MEM_HOT_C 0 ≤ c then ((min (2 ^ 32 - 1) (s.nat Ob.DS_EVENTS 0 + 1) : Nat) : Int)
        else s.reg Ob.DS_EVENTS 0) ∧
      KeepsRegs (fun ix sub => (ix = Ob.DS_MEM_TEMP_C ∧ sub = d.val + 1) ∨ (ix = Ob.DS_EVENTS ∧ sub = 0) ∨ EventObj ix sub) s t) ∧
  (∀ (s : State) (d : Fin 5) (c : Int), (s.reg Ob.DS_STATE 0 < 2 ∨ s.on Dom.DS = false) → exec (.dsTempRead d c) s = .next s) ∧
  (∀ (b : Nat) (t : Int), b ≤ 3 → bandFrom b t ≤ 3 ∧
    (1070 ≤ t → bandFrom b t = 3) ∧ (t < 0 → bandFrom b t = 0) ∧ (850 ≤ t → t < 870 → bandFrom b t = if b ≤ 1 then 1 else 2))

/-- R220, R226 to R230, R232, R234, R235 and R240: the two lines of a burst that is written read back from the devices as the frame's
bytes closed by the line's CRC, and decode as good; a good read adds its 61 bytes to the frame that is wanted, and one beyond correction
is a bus error that counts; the last burst makes the frame's deep copy done. A line on a channel that is being trained waits, a held
frame's read waits its turn, and at full bandwidth traffic that goes before goes first. The model's choice in it: what fills the
bandwidth is measured over the tick (log entry 190). -/
def Obligations.DeepStoreLinesRoundTrip : Prop :=
  (∀ (s : State) (p : Fin 8) (seq : Nat) (held : Bool) (b : Fin 17) (c : DeepCopy) (head body : Nat),
    s.deepOf p seq held = some (c, head, some body) → s.dsInUse = true → c.queued = true →
    s.dsWaits (s.frameKey p seq held (2 * b.val)) = false → (held = false ∨ s.dsFull = false ∨ s.dsBehind 2 = false) →
    ∃ t : State, exec (.dsWrite p seq held b 0 none) s = .next t ∧ t = { s with regs := t.regs, ds := t.ds, link := t.link } ∧
      (∀ j : Fin 2, t.lineStored (s.frameKey p seq held (2 * b.val + j.val)) =
          slicesOf (lineBytes (s.frameKey p seq held (2 * b.val + j.val))
            (((entryBytes head body seq).drop (61 * (2 * b.val + j.val))).take 61)) ∧
        (s.dsFailed = [] → t.lineRead (s.frameKey p seq held (2 * b.val + j.val)) {} false =
          .good (t.lineStored (s.frameKey p seq held (2 * b.val + j.val))))) ∧
      (∃ d, (t.deepOf p seq held).map (·.1) = some d ∧ b.val ∈ d.bursts) ∧ t.ds.moved = s.ds.moved + 32 ∧
      (∀ q : Fin 8, q ≠ p → t.link[q] = s.link[q]) ∧ KeepsRegs (fun ix _ => ix = Ob.DS_WRITE_RETRY) s t) ∧
  (∀ (s : State) (p : Fin 8) (seq : Nat) (held : Bool) (f a v : DsRead) (c : DeepCopy) (head : Nat),
    s.deepOf p seq held = some (c, head, none) → s.dsInUse = true → c.done = true → c.parts.length < 2074 →
    s.dsWaits (s.frameKey p seq held (c.parts.length / 61)) = false → (held = false ∨ s.holdNext p seq = true) →
    (s.dsFull = false ∨ s.dsBehind (if held = true then 2 else 1) = false) →
    ∃ t : State, exec (.dsLineRead p seq held f a v) s = .next t ∧
      t = { s with regs := t.regs, ds := t.ds, link := t.link, hostInst := t.hostInst, test := t.test, lookout := t.lookout,
                   cap := t.cap } ∧
      (∀ d, s.lineRead (s.frameKey p seq held (c.parts.length / 61)) f false = .good d → c.parts.length + 61 < 2074 →
        (lineOf d).length = 64 →
        (t.deepOf p seq held).map (fun x => x.1.parts) = some (c.parts ++ (lineOf d).take 61) ∧ t.ds.moved = s.ds.moved + 16 ∧
        t.regs = s.regs) ∧
      (s.lineRead (s.frameKey p seq held (c.parts.length / 61)) f false = .bad →
        t.reg Ob.DS_UNCORRECTABLE 0 = (min (2 ^ 64 - 1) (s.nat Ob.DS_UNCORRECTABLE 0 + 1) : Nat) ∧
        t.reg Ob.DS_EVENTS 0 = (min (2 ^ 32 - 1) (s.nat Ob.DS_EVENTS 0 + 1) : Nat))) ∧
  (∀ (s : State) (p : Fin 8) (seq : Nat) (held : Bool) (c : DeepCopy) (head : Nat) (body : Option Nat),
    s.deepOf p seq held = some (c, head, body) → c.queued = true → c.bursts.length = 17 →
    ∃ t : State, exec (.dsWriteDone p seq held) s = .next t ∧ t = { s with link := t.link } ∧
      (t.deepOf p seq held).map (fun x => x.1) = some { c with queued := false, done := true, parts := [] } ∧
      (held = true → (t.deepOf p seq held).map (fun x => x.2.2) = some none) ∧ (∀ q : Fin 8, q ≠ p → t.link[q] = s.link[q])) ∧
  (∀ (s : State) (p : Fin 8) (seq : Nat) (held : Bool) (b : Fin 17) (n : Nat) (f a v : DsRead), s.dsInUse = false →
    exec (.dsWrite p seq held b n none) s = .next s ∧ exec (.dsLineRead p seq held f a v) s = .next s) ∧
  (∀ (s : State) (p : Fin 8) (seq : Nat) (held : Bool) (b : Fin 17) (n : Nat) (f a v : DsRead), s.deepOf p seq held = none →
    exec (.dsWrite p seq held b n none) s = .next s ∧ exec (.dsLineRead p seq held f a v) s = .next s ∧
      exec (.dsWriteDone p seq held) s = .next s)

/-! ## Line transmit and optics (chapter 9) -/

/-- R253 to R256: band selection leads to locking, or fails the calibration; lock leads to the DAC check, or, in a rate change and
after a relock, past it; a lock that takes 50 µs fails; the DAC check measures the full scale, raises TX_DAC_FS beyond 10 %, and
ends the calibration: TX.STATE is MUTED (2), or the held enable runs, with the count and the stamp. What the lane's port then does
is laneSettle's; a failure leaves the lane in SYNTH_CAL_FAIL (5) and is portCalFail's. R257: a loss of lock mutes the lane, counts
and raises its event; a failed relock attempt counts, and every third repeats band selection; a lock that has held lifts the mute
and ends the outage; in the DAC check too. -/
def Obligations.TransmitCalibrationAndRelock : Prop :=
  (∀ (s : State) (l : Fin 8), s.txSynth l = 1 →
    (∃ t : State, exec (.txSynthBandDone l true) s = .next t ∧ t = { s with regs := t.regs } ∧ t.txSynth l = 2 ∧
      KeepsRegs (fun ix sub => ix = Ob.TX_SYNTH_STATE ∧ sub = l.val + 1) s t) ∧
    (s.txState l = 1 → s.tx[l].lockMute = false → ∃ v : State, exec (.txSynthBandDone l false) s = .next (v.portCalFail l) ∧
      v = { s with regs := v.regs, tx := v.tx, lookout := v.lookout, cap := v.cap } ∧ v.txSynth l = 5 ∧ v.txState l = 0 ∧
      v.tx[l].held = false ∧
      v.reg Ob.TX_EVENTS (l.val + 1) = (min (2 ^ 32 - 1) (s.nat Ob.TX_EVENTS (l.val + 1) + 1) : Nat) ∧
      (∀ k : Fin 8, k ≠ l → v.tx[k] = s.tx[k]) ∧
      KeepsRegs (fun ix sub => (ix ∈ [Ob.TX_SYNTH_STATE, Ob.TX_STATE, Ob.TX_EVENTS] ∧ sub = l.val + 1) ∨ EventObj ix sub) s v) ∧
    (s.txState l ≠ 1 ∨ s.tx[l].lockMute = true →
      ∃ t : State, exec (.txSynthBandDone l false) s = .next t ∧ t = { s with regs := t.regs } ∧ t.txSynth l = 4)) ∧
  (∀ (s : State) (l : Fin 8), (s.txSynth l = 2 ∨ s.txSynth l = 4) →
    (s.txState l = 1 → s.tx[l].rateCal = false → s.tx[l].lockMute = false →
      ∃ t : State, exec (.txSynthLock l) s = .next t ∧ t = { s with regs := t.regs } ∧ t.txSynth l = 3 ∧
      KeepsRegs (fun ix sub => ix = Ob.TX_SYNTH_STATE ∧ sub = l.val + 1) s t) ∧
    (s.txState l = 1 → s.tx[l].rateCal = true → ∃ v : State, exec (.txSynthLock l) s = .next (v.laneSettle l) ∧
      v = { s with regs := v.regs, tx := v.tx } ∧ v.txSynth l = 3 ∧
      v.txState l = (if s.tx[l].held = true ∧ s.seq l = 0 then 3 else 2) ∧
      v.reg Ob.TX_SYNTH_CAL_COUNT (l.val + 1) = (min (2 ^ 32 - 1) (s.nat Ob.TX_SYNTH_CAL_COUNT (l.val + 1) + 1) : Nat)) ∧
    (s.txState l ≠ 1 ∨ (s.tx[l].rateCal = false ∧ s.tx[l].lockMute = true) →
      ∃ t : State, exec (.txSynthLock l) s = .next t ∧ t = { s with regs := t.regs, tx := t.tx } ∧ t.txSynth l = 3 ∧
      t.tx[l] = { s.tx[l] with relocked := true } ∧ (∀ k : Fin 8, k ≠ l → t.tx[k] = s.tx[k]))) ∧
  (∀ (s : State) (l : Fin 8), s.txState l = 1 → s.txSynth l = 2 → s.tx[l].lockMute = false →
    ∃ v : State, exec (.txSynthLockTimeout l) s = .next (v.portCalFail l) ∧
      v = { s with regs := v.regs, tx := v.tx, lookout := v.lookout, cap := v.cap } ∧
      v.txSynth l = 5 ∧ v.txState l = 0 ∧
      v.reg Ob.TX_EVENTS (l.val + 1) = (min (2 ^ 32 - 1) (s.nat Ob.TX_EVENTS (l.val + 1) + 1) : Nat)) ∧
  (∀ (s : State) (l : Fin 8) (mv : Nat), s.txState l = 1 → s.txSynth l = 3 → s.tx[l].rateCal = false →
    ∃ v : State, exec (.dacCheckDone l mv) s = .next (v.laneSettle l) ∧
      v = { s with regs := v.regs, tx := v.tx, lookout := v.lookout, cap := v.cap } ∧
      v.reg Ob.TX_DAC_FS_MEAS (l.val + 1) = (min 65535 mv : Nat) ∧
      v.txState l = (if s.tx[l].held = true ∧ s.seq l = 0 then 3 else 2) ∧ v.tx[l].preState = 0 ∧
      v.tx[l].fs = s.nat Ob.TX_DAC_FS_MVPPD (l.val + 1) ∧
      v.reg Ob.TX_SYNTH_CAL_COUNT (l.val + 1) = (min (2 ^ 32 - 1) (s.nat Ob.TX_SYNTH_CAL_COUNT (l.val + 1) + 1) : Nat) ∧
      v.reg Ob.TX_SYNTH_CAL_TIME (l.val + 1) = (s.stamp : Int) ∧
      v.reg Ob.TX_EVENTS (l.val + 1) =
        (if s.nat Ob.TX_DAC_FS_MVPPD (l.val + 1) < 10 * ((mv : Int) - s.nat Ob.TX_DAC_FS_MVPPD (l.val + 1)).natAbs then ((min (2 ^ 32 - 1) (s.nat Ob.TX_EVENTS (l.val + 1) + 1) : Nat) : Int) else s.reg Ob.TX_EVENTS (l.val + 1)) ∧
      (∀ k : Fin 8, k ≠ l → v.tx[k] = s.tx[k])) ∧
  (∀ (s : State) (l : Fin 8) (b : Bool) (mv : Nat), (s.txSynth l ≠ 1 → exec (.txSynthBandDone l b) s = .next s) ∧
    (s.txState l ≠ 1 → exec (.txSynthLockTimeout l) s = .next s ∧ exec (.dacCheckDone l mv) s = .next s) ∧
    (s.txSynth l ≠ 2 → s.txSynth l ≠ 4 → exec (.txSynthLock l) s = .next s)) ∧
  (∀ (s : State) (l : Fin 8), s.txSynth l = 3 →
    ∃ t : State, exec (.txSynthUnlock l) s = .next t ∧ 
      t = { s with regs := t.regs, tx := t.tx, lookout := t.lookout, cap := t.cap } ∧ t.txSynth l = 4 ∧ t.txMuted l = true ∧
      t.tx[l] = { s.tx[l] with lockMute := true, relocked := false, wave := t.tx[l].wave } ∧
      t.reg Ob.TX_SYNTH_UNLOCKS (l.val + 1) = (min (2 ^ 32 - 1) (s.nat Ob.TX_SYNTH_UNLOCKS (l.val + 1) + 1) : Nat) ∧
      t.reg Ob.TX_EVENTS (l.val + 1) = (min (2 ^ 32 - 1) (s.nat Ob.TX_EVENTS (l.val + 1) + 1) : Nat) ∧
      (∀ k : Fin 8, k ≠ l → t.tx[k] = s.tx[k]) ∧
      KeepsRegs (fun ix sub => (ix ∈ [Ob.TX_SYNTH_STATE, Ob.TX_SYNTH_UNLOCKS, Ob.TX_EVENTS, Ob.TX_WAVE_RAMPING] ∧ sub = l.val + 1) ∨
        EventObj ix sub) s t) ∧
  (∀ (s : State) (l : Fin 8), (s.txState l ≠ 1 ∨ s.tx[l].lockMute = true) → (s.txSynth l = 4 ∨ s.txSynth l = 2) →
    ∃ t : State, exec (.txRelockTimeout l) s = .next t ∧ t = { s with regs := t.regs, tx := t.tx } ∧
      t.txSynth l = (if (s.tx[l].attempts + 1) % 3 = 0 then 1 else 4) ∧
      t.tx[l] = { s.tx[l] with
        attempts := s.tx[l].attempts + 1, bandRep := s.tx[l].bandRep || decide ((s.tx[l].attempts + 1) % 3 = 0) } ∧
      (∀ k : Fin 8, k ≠ l → t.tx[k] = s.tx[k]) ∧ KeepsRegs (fun ix sub => ix = Ob.TX_SYNTH_STATE ∧ sub = l.val + 1) s t) ∧
  (∀ (s : State) (l : Fin 8), s.txSynth l = 3 → s.tx[l].relocked = true →
    ∃ t : State, exec (.txMuteLift l) s = .next t ∧ t = { s with tx := t.tx } ∧
      t.tx[l] = { s.tx[l] with lockMute := false, relocked := false, attempts := 0, bandRep := false } ∧
      (∀ k : Fin 8, k ≠ l → t.tx[k] = s.tx[k])) ∧
  (∀ (s : State) (l : Fin 8), (s.txSynth l ≠ 3 → exec (.txSynthUnlock l) s = .next s ∧ exec (.txMuteLift l) s = .next s) ∧
    (s.tx[l].relocked = false → exec (.txMuteLift l) s = .next s) ∧ 
    (s.txState l = 1 → s.tx[l].lockMute = false → exec (.txRelockTimeout l) s = .next s))


/-- R258, R261 and R263: the up sequence goes from supply (1) to bias (2), output (3) and laser (4), the down sequence from laser off (5) to
output off (6), bias (7) and supply off (0); DAC muting ends at the output step up and begins at the output step down; a bias step
holds the next one until every mapped channel has reached its code. -/
def Obligations.OpticsSequences : Prop :=
  (∀ (s : State) (l : Fin 8), s.seq l = 1 →
    ∃ t : State, exec (.opticsUpStep l) s = .next t ∧ t = { s with regs := t.regs, tx := t.tx, hk := t.hk } ∧ t.seq l = 2 ∧
      t.tx[l] = { s.tx[l] with biasRun := !(s.biasChans l).isEmpty } ∧ (∀ k : Fin 8, k ≠ l → t.tx[k] = s.tx[k])) ∧
  (∀ (s : State) (l : Fin 8), s.seq l = 2 → s.tx[l].biasRun = false →
    ∃ t : State, exec (.opticsUpStep l) s = .next t ∧ t = { s with regs := t.regs, tx := t.tx } ∧ t.seq l = 3 ∧
      t.tx[l] = { s.tx[l] with output := true, seqMute := false } ∧ (∀ k : Fin 8, k ≠ l → t.tx[k] = s.tx[k]) ∧
      KeepsRegs (fun ix sub => ix = Ob.OPTICS_SEQ_STATE ∧ sub = l.val + 1) s t) ∧
  (∀ (s : State) (l : Fin 8), s.seq l = 3 →
    ∃ v : State, exec (.opticsUpStep l) s = .next (v.laneSettle l) ∧
      v = { s with regs := v.regs, tx := v.tx, doms := v.doms, mmp := v.mmp } ∧
      v.seq l = 4 ∧ v.txState l = 4 ∧ v.tx[l] = { s.tx[l] with laser := true } ∧ (∀ k : Fin 8, k ≠ l → v.tx[k] = s.tx[k]) ∧
      (s.tx[l].apc = true → v.reg Ob.OPTICS_APC_STATE (l.val + 1) = 2)) ∧
  (∀ (s : State) (l : Fin 8), s.seq l = 5 →
    ∃ t : State, exec (.opticsDownStep l) s = .next t ∧ t = { s with regs := t.regs, tx := t.tx } ∧ t.seq l = 6 ∧
      t.tx[l] = { s.tx[l] with output := false, seqMute := true, wave := t.tx[l].wave } ∧ t.txMuted l = true ∧
      (∀ k : Fin 8, k ≠ l → t.tx[k] = s.tx[k]) ∧
      KeepsRegs (fun ix sub => ix ∈ [Ob.OPTICS_SEQ_STATE, Ob.TX_WAVE_RAMPING] ∧ sub = l.val + 1) s t) ∧
  (∀ (s : State) (l : Fin 8), s.seq l = 6 →
    ∃ t : State, exec (.opticsDownStep l) s = .next t ∧ t = { s with regs := t.regs, tx := t.tx, hk := t.hk } ∧ t.seq l = 7 ∧
      t.tx[l] = { s.tx[l] with biasRun := !(s.biasChans l).isEmpty } ∧ (∀ k : Fin 8, k ≠ l → t.tx[k] = s.tx[k])) ∧
  (∀ (s : State) (l : Fin 8), s.seq l = 7 → s.tx[l].biasRun = false →
    ∃ v : State, exec (.opticsDownStep l) s = .next (v.laneSettle l) ∧ v = { s with regs := v.regs, tx := v.tx } ∧
      (s.tx[l].held = false → v.seq l = 0 ∧ v.tx[l].supply = false ∧
        v.txState l = (if s.txState l = 3 ∨ s.txState l = 4 then 2 else s.txState l)) ∧
      (s.tx[l].held = true → s.txState l = 3 → v.seq l = 1 ∧ v.tx[l].supply = true ∧ v.tx[l].held = false ∧ v.txState l = 3) ∧
      v.tx[l].seqMute = true ∧ (∀ k : Fin 8, k ≠ l → v.tx[k] = s.tx[k])) ∧
  (∀ (s : State) (l : Fin 8), s.tx[l].biasRun = true →
    ((s.biasChans l).all (fun k => s.nat Ob.HK_ADAC_OUT (k.val + 1) == s.hk.adac[k].target) = true →
      ∃ t : State, exec (.biasStepDone l) s = .next t ∧ t = { s with tx := t.tx } ∧ t.tx[l] = { s.tx[l] with biasRun := false } ∧
        (∀ k : Fin 8, k ≠ l → t.tx[k] = s.tx[k])) ∧
    (s.seq l = 2 → exec (.opticsUpStep l) s = .next s) ∧ (s.seq l = 7 → exec (.opticsDownStep l) s = .next s)) ∧
  (∀ (s : State) (l : Fin 8), (s.seq l = 0 ∨ 4 ≤ s.seq l → exec (.opticsUpStep l) s = .next s) ∧
    (s.seq l ≤ 4 ∨ 8 ≤ s.seq l → exec (.opticsDownStep l) s = .next s))

/-- R251 and R262: a ramp step takes every entry and tap one unit towards the band's table and ends the ramp when all are there; a
write of TX.MUTE_FORCE stores its value, which acts at the next codeword boundary only, where the lane sends TIC codewords; that it acts at
once elsewhere is the model's choice (log entry 201). -/
def Obligations.WaveformRampsAndForcedMute : Prop :=
  (∀ (s : State) (l : Fin 8), s.reg Ob.TX_WAVE_RAMPING (l.val + 1) ≠ 0 →
    ∃ t : State, exec (.waveRampStep l) s = .next t ∧ t = { s with regs := t.regs, tx := t.tx } ∧
      t.tx[l] = { s.tx[l] with wave := t.tx[l].wave } ∧ t.tx[l].wave.length = min s.tx[l].wave.length 71 ∧
      (∀ i, i < t.tx[l].wave.length → t.tx[l].wave.getD i 0 = stepTo (s.tx[l].wave.getD i 0) ((s.waveTarget l).getD i 0)) ∧
      t.reg Ob.TX_WAVE_RAMPING (l.val + 1) = (if t.tx[l].wave = s.waveTarget l then 0 else 1) ∧
      (∀ k : Fin 8, k ≠ l → t.tx[k] = s.tx[k]) ∧ KeepsRegs (fun ix sub => ix = Ob.TX_WAVE_RAMPING ∧ sub = l.val + 1) s t) ∧
  (∀ (s : State) (l : Fin 8), s.reg Ob.TX_WAVE_RAMPING (l.val + 1) = 0 → exec (.waveRampStep l) s = .next s) ∧
  (∀ (s : State) (r : Req) (l : Fin 8) (v : Nat), v ≤ 1 → s.Accepts r .write Ob.TX_MUTE_FORCE (l.val + 1) (leBytes 1 v) →
    ∃ u : State, exec (.txMuteForceWrite r (l.val + 1) v) s = .next (u.reply r .write Ob.TX_MUTE_FORCE (l.val + 1) St.OK []) ∧
      u = { s.taken r .write Ob.TX_MUTE_FORCE (l.val + 1) (leBytes 1 v) with regs := u.regs, tx := u.tx } ∧
      u.reg Ob.TX_MUTE_FORCE (l.val + 1) = (v : Int) ∧ (s.sendsTic l = true → u.tx = s.tx) ∧
      (s.sendsTic l = false → u.tx[l] = { s.tx[l] with forceMute := v == 1, wave := u.tx[l].wave }) ∧
      (∀ k : Fin 8, k ≠ l → u.tx[k] = s.tx[k]) ∧
      KeepsRegs (fun ix sub => ix = Ob.MMP_RX_FRAMES ∨ (ix = Ob.TX_MUTE_FORCE ∧ sub = l.val + 1) ∨
        (ix = Ob.TX_WAVE_RAMPING ∧ sub = l.val + 1 ∧ s.sendsTic l = false)) s u)

/-! ## Host lanes (chapter 10) -/

/-- R276, R277, R291 and R292: a lane's signal locks; the markers of every lane of an instance align it where its skew is at most 180
ns, and raise HOST_SKEW_LIMIT else; losing markers takes ALIGNED lanes to LOCKED, losing the signal takes a LOCKED or ALIGNED lane
to SIGNAL, with the loss counted for a lane that was ALIGNED. R278, R280, R285, R287 and R288: a codeword of an ALIGNED instance
from the host, gathered from the levels of its lanes, counts, as corrected symbols or as uncorrectable; outside S1 a codeword sent to
the host counts and is a message of 514 symbols with its 30 parity symbols, complemented where a block is in error; an empty egress FIFO makes the instance wait for its fill, inside a packet with the packet broken by
an error block. An instance of no port takes none. R272, R274 and R423: HOST.PRESET_SEL takes only an entry that the table marks
valid, and a table only one of its form that keeps a valid selected entry valid; the write restarts the lane's baseline, and applies
at once where the port is OFF or the lane unused. How a codeword's symbols lie on the host lanes is the model's presumption (log entry 198). -/
def Obligations.HostLanesPresetsAndCodewords : Prop :=
  (∀ (s : State) (h : Fin 16), (s.hostState h = 2 → ∃ t : State, exec (.hostSignalLock h) s = .next t ∧ t = { s with regs := t.regs } ∧
      t.hostState h = 3 ∧ KeepsRegs (fun ix sub => ix = Ob.HOST_LANE_STATE ∧ sub = h.val + 1) s t) ∧
    (s.hostState h ≠ 2 → exec (.hostSignalLock h) s = .next s)) ∧
  (∀ (s : State) (i p : Fin 8) (ns : Nat) (order : List Nat), s.instPort i = some p →
    (∀ h ∈ s.instLanes i, s.hostState h = 3 ∨ s.hostState h = 4) → s.instAligned i = false → laneOrder (s.instLanes i).length order = true →
    ∃ t : State, exec (.hostAligned i ns order) s = .next t ∧
      t = { s with regs := t.regs, hostSkew := t.hostSkew, hostLane := t.hostLane, hostInst := t.hostInst, lookout := t.lookout, cap := t.cap } ∧
      t.hostSkew[i] = ns ∧ (∀ k : Fin 8, k ≠ i → t.hostSkew[k] = s.hostSkew[k]) ∧
      (∀ k : Fin 8, k ≠ i → t.hostInst[k] = s.hostInst[k]) ∧ (∀ h : Fin 16, t.hostLane[h] = { s.hostLane[h] with phys := t.hostLane[h].phys }) ∧
      (ns ≤ 180 → (∀ h ∈ s.instLanes i, t.hostState h = 4 ∧ (h, t.hostLane[h].phys) ∈ (s.instLanes i).zip order) ∧
        t.hostInst[i] = { s.hostInst[i] with amIn := 0, resync := true } ∧ t.reg Ob.HOST_EVENTS (p.val + 1) = s.reg Ob.HOST_EVENTS (p.val + 1)) ∧
      (180 < ns → t.hostInst = s.hostInst ∧ t.hostLane = s.hostLane ∧ (∀ h : Fin 16, t.hostState h = s.hostState h) ∧
        t.reg Ob.HOST_EVENTS (p.val + 1) = (min (2 ^ 32 - 1) (s.nat Ob.HOST_EVENTS (p.val + 1) + 1) : Nat)) ∧
      (∀ h : Fin 16, h ∉ s.instLanes i → t.hostState h = s.hostState h ∧ t.hostLane[h] = s.hostLane[h]) ∧
      KeepsRegs (fun ix sub => ix = Ob.HOST_LANE_STATE ∨ (ix ∈ [Ob.HOST_SKEW_NS, Ob.HOST_EVENTS] ∧ sub = p.val + 1) ∨ EventObj ix sub) s t) ∧
  (∀ (s : State) (i p : Fin 8), s.instPort i = some p → (∃ h ∈ s.instLanes i, s.hostState h = 4) →
    ∃ t : State, exec (.hostMarkerLoss i) s = .next t ∧ t = { s with regs := t.regs, hostInst := t.hostInst, lookout := t.lookout, cap := t.cap } ∧
      (∀ h ∈ s.instLanes i, s.hostState h = 4 → t.hostState h = 3 ∧
        t.reg Ob.HOST_LOCK_LOSS (h.val + 1) = (min (2 ^ 32 - 1) (s.nat Ob.HOST_LOCK_LOSS (h.val + 1) + 1) : Nat)) ∧
      (∀ h : Fin 16, (h ∉ s.instLanes i ∨ s.hostState h ≠ 4) → t.hostState h = s.hostState h ∧
        t.reg Ob.HOST_LOCK_LOSS (h.val + 1) = s.reg Ob.HOST_LOCK_LOSS (h.val + 1)) ∧
      (∀ k : Fin 8, k ≠ i → t.hostInst[k] = s.hostInst[k]) ∧
      KeepsRegs (fun ix sub => ix ∈ [Ob.HOST_LANE_STATE, Ob.HOST_LOCK_LOSS, Ob.HOST_EVENTS, Ob.HOST_ERR_BLOCKS_IN, Ob.HOST_IDLE_DELETED] ∨
        EventObj ix sub) s t) ∧
  (∀ (s : State) (h : Fin 16) (cdr : Bool), (s.hostState h = 3 → ∃ t : State, exec (.hostSignalLoss h cdr) s = .next t ∧
      t = { s with regs := t.regs } ∧ t.hostState h = 2 ∧ KeepsRegs (fun ix sub => ix = Ob.HOST_LANE_STATE ∧ sub = h.val + 1) s t) ∧
    (s.hostState h = 4 → ∃ t : State, exec (.hostSignalLoss h cdr) s = .next t ∧
      t = { s with regs := t.regs, hostInst := t.hostInst, lookout := t.lookout, cap := t.cap } ∧ t.hostState h = 2 ∧
      t.reg Ob.HOST_LOCK_LOSS (h.val + 1) = (min (2 ^ 32 - 1) (s.nat Ob.HOST_LOCK_LOSS (h.val + 1) + 1) : Nat) ∧
      (∀ k : Fin 16, k ≠ h → t.hostState k = s.hostState k) ∧
      KeepsRegs (fun ix sub => ix ∈ [Ob.HOST_LANE_STATE, Ob.HOST_LOCK_LOSS, Ob.HOST_EVENTS, Ob.HOST_ERR_BLOCKS_IN, Ob.HOST_IDLE_DELETED] ∨
        EventObj ix sub) s t) ∧
    (s.hostState h ≤ 2 → exec (.hostSignalLoss h cdr) s = .next s)) ∧
  (∀ (s : State) (i : Fin 8) (ns : Nat) (order : List Nat), s.instPort i = none → exec (.hostAligned i ns order) s = .next s ∧ exec (.hostMarkerLoss i) s = .next s) ∧
  (∀ (s : State) (i p : Fin 8) (levels : List (List Nat)), s.instPort i = some p → s.instAligned i = true → s.testKind p ≠ 2 → s.testKind p ≠ 3 →
    ∃ t : State, exec (.hostIngressCodeword i levels) s = .next t ∧
      t = { s with
        regs := t.regs, blobs := t.blobs, hostInst := t.hostInst, hostLane := t.hostLane, test := t.test, lookout := t.lookout, cap := t.cap } ∧
      t.reg Ob.HOST_RS_IN_CW (p.val + 1) = (min (2 ^ 64 - 1) (s.nat Ob.HOST_RS_IN_CW (p.val + 1) + 1) : Nat) ∧
      (match rsDecode (gatherLanes (s.instLanes i).length ((s.instLanes i).map (fun h => s.hostLane[h].phys))
          (s.hostReceive (s.instLanes i) levels).1) with
       | some (_, k) => t.reg Ob.HOST_RS_IN_SYM_CORRECTED (p.val + 1) =
            (min (2 ^ 64 - 1) (s.nat Ob.HOST_RS_IN_SYM_CORRECTED (p.val + 1) + k) : Nat) ∧
          t.reg Ob.HOST_RS_IN_UNCORRECTABLE (p.val + 1) = s.reg Ob.HOST_RS_IN_UNCORRECTABLE (p.val + 1) ∧
          t.blob Ob.HOST_RS_IN_HIST (p.val + 1) = incU32At (s.blob Ob.HOST_RS_IN_HIST (p.val + 1)) k
       | none => t.reg Ob.HOST_RS_IN_UNCORRECTABLE (p.val + 1) =
            (min (2 ^ 64 - 1) (s.nat Ob.HOST_RS_IN_UNCORRECTABLE (p.val + 1) + 1) : Nat)) ∧
      (s.hostS1 p = true → t.hostInst = s.hostInst ∧ t.lookout = s.lookout ∧ t.cap = s.cap ∧ t.test = s.test) ∧
      (s.hostS1 p = false → t.hostLane = (s.hostReceive (s.instLanes i) levels).2.hostLane) ∧
      (∀ k : Fin 8, k ≠ i → t.hostInst[k] = s.hostInst[k]) ∧ (∀ h : Fin 16, h ∉ s.instLanes i → t.hostLane[h] = s.hostLane[h]) ∧
      KeepsRegs (fun ix sub => ix ∈ [Ob.HOST_RS_IN_CW, Ob.HOST_RS_IN_SYM_CORRECTED, Ob.HOST_RS_IN_UNCORRECTABLE, Ob.HOST_ERR_BLOCKS_IN,
        Ob.HOST_IDLE_DELETED, Ob.HOST_EVENTS] ∨ EventObj ix sub) s t) ∧
  (∀ (s : State) (i p : Fin 8), s.instPort i = some p → s.instLanes i ≠ [] →
    (∀ h ∈ s.instLanes i, 2 ≤ s.hostState h) → s.testKind p ≠ 2 → s.testKind p ≠ 3 →
    ∃ t : State, exec (.hostEgressCodeword i) s = .next t ∧ t = { s with regs := t.regs, hostInst := t.hostInst, hostLane := t.hostLane } ∧
      (s.hostS1 p = false → t.hostInst[i].sent.length = 544 ∧
        t.reg Ob.HOST_RS_OUT_CW (p.val + 1) = (min (2 ^ 64 - 1) (s.nat Ob.HOST_RS_OUT_CW (p.val + 1) + 1) : Nat) ∧
        ((t.hostInst[i].sent.drop 514 = rsParity (t.hostInst[i].sent.take 514) ∧
            t.reg Ob.HOST_RS_OUT_MARKED (p.val + 1) = s.reg Ob.HOST_RS_OUT_MARKED (p.val + 1)) ∨
          (t.hostInst[i].sent.drop 514 = (rsParity (t.hostInst[i].sent.take 514)).map (fun v => 1023 - v) ∧
            t.reg Ob.HOST_RS_OUT_MARKED (p.val + 1) = (min (2 ^ 64 - 1) (s.nat Ob.HOST_RS_OUT_MARKED (p.val + 1) + 1) : Nat)))) ∧
      (s.hostS1 p = true → t = s.egressS1 p i) ∧
      (∀ k : Fin 8, k ≠ i → t.hostInst[k] = s.hostInst[k]) ∧ (∀ h : Fin 16, h ∉ s.instLanes i → t.hostLane[h] = s.hostLane[h]) ∧
      KeepsRegs (fun ix sub => ix ∈ [Ob.HOST_RS_OUT_CW, Ob.HOST_RS_OUT_SYM_SEEN, Ob.HOST_RS_OUT_UNCORRECTABLE, Ob.HOST_RS_OUT_MARKED,
        Ob.HOST_IDLE_INSERTED, Ob.HOST_STALL_BREAKS] ∧ sub = p.val + 1) s t) ∧
  (∀ (s : State) (i p : Fin 8), s.instPort i = some p → s.hostInst[i].fifoOut = [] →
    ∃ t : State, exec (.egressStall i) s = .next t ∧ t = { s with regs := t.regs, hostInst := t.hostInst } ∧ t.hostInst[i].filling = true ∧
      (s.hostInst[i].outPkt = true → t.hostInst[i].outPre = s.hostInst[i].outPre ++ [.err] ∧ t.hostInst[i].broken = true ∧
        t.reg Ob.HOST_STALL_BREAKS (p.val + 1) = (min (2 ^ 64 - 1) (s.nat Ob.HOST_STALL_BREAKS (p.val + 1) + 1) : Nat)) ∧
      (s.hostInst[i].outPkt = false → t = { s with hostInst := t.hostInst }) ∧
      (∀ k : Fin 8, k ≠ i → t.hostInst[k] = s.hostInst[k]) ∧
      KeepsRegs (fun ix sub => ix = Ob.HOST_STALL_BREAKS ∧ sub = p.val + 1) s t) ∧
  (∀ (s : State) (i : Fin 8) (a : List (List Nat)), s.instPort i = none →
    exec (.hostIngressCodeword i a) s = .next s ∧ exec (.hostEgressCodeword i) s = .next s ∧ exec (.egressStall i) s = .next s) ∧
  (∀ (s : State) (r : Req) (h : Fin 16) (v : Nat), v < 256 → s.Accepts r .write Ob.HOST_PRESET_SEL (h.val + 1) (leBytes 1 v) →
    (presetValid (s.blob Ob.HOST_PRESET_TABLE (h.val + 1)) v = true →
      ∃ u : State, exec (.hostPresetWrite r (h.val + 1) (.sel v)) s = .next (u.reply r .write Ob.HOST_PRESET_SEL (h.val + 1) St.OK []) ∧
        u = { s.taken r .write Ob.HOST_PRESET_SEL (h.val + 1) (leBytes 1 v) with regs := u.regs, blobs := u.blobs, eng := u.eng } ∧
        u.reg Ob.HOST_PRESET_SEL (h.val + 1) = (v : Int) ∧ u.reg Ob.COMPASS_HOST_BASE_HOURS (h.val + 1) = 0 ∧
        u.reg Ob.HOST_PRESET_APPLIED (h.val + 1) =
          (if s.presetNow h = true ∧ s.hostWork h = true then (v : Int) else s.reg Ob.HOST_PRESET_APPLIED (h.val + 1)) ∧
        (s.presetNow h = true → s.hostWork h = true → u.blob Ob.HOST_HOST_TX_ADVICE (h.val + 1) =
          ((presetEntry (s.blob Ob.HOST_PRESET_TABLE (h.val + 1)) v).drop 14).take 5) ∧
        (∀ e : Fin 128, e ∉ hostEngines h → u.eng[e] = s.eng[e]) ∧
        KeepsRegs (fun ix sub => ix = Ob.MMP_RX_FRAMES ∨ (ix ∈ [Ob.HOST_PRESET_SEL, Ob.HOST_PRESET_APPLIED, Ob.COMPASS_HOST_BASE_DB,
          Ob.COMPASS_HOST_BASE_HOURS] ∧ sub = h.val + 1) ∨ (ix = Ob.ENG_STATE ∧ ∃ e ∈ hostEngines h, sub = e.val + 1)) s u)) ∧
  (∀ (s : State) (r : Req) (h : Fin 16) (b : List Byte), s.Accepts r .write Ob.HOST_PRESET_TABLE (h.val + 1) b →
    (presetOk b = false → exec (.hostPresetWrite r (h.val + 1) (.table b)) s =
      .next ((s.taken r .write Ob.HOST_PRESET_TABLE (h.val + 1) b).reply r .write Ob.HOST_PRESET_TABLE (h.val + 1) St.RANGE [])) ∧
    (presetOk b = true → (presetValid b (s.nat Ob.HOST_PRESET_SEL (h.val + 1)) = true ∨
        presetValid (s.blob Ob.HOST_PRESET_TABLE (h.val + 1)) (s.nat Ob.HOST_PRESET_SEL (h.val + 1)) = false) →
      ∃ u : State, exec (.hostPresetWrite r (h.val + 1) (.table b)) s = .next (u.reply r .write Ob.HOST_PRESET_TABLE (h.val + 1) St.OK []) ∧
        u.blob Ob.HOST_PRESET_TABLE (h.val + 1) = b ∧
        u = { s.taken r .write Ob.HOST_PRESET_TABLE (h.val + 1) b with regs := u.regs, blobs := u.blobs, eng := u.eng } ∧
        u.reg Ob.COMPASS_HOST_BASE_HOURS (h.val + 1) = 0 ∧
        u.reg Ob.HOST_PRESET_APPLIED (h.val + 1) =
          (if s.presetNow h = true ∧ s.hostWork h = true then s.reg Ob.HOST_PRESET_SEL (h.val + 1) else s.reg Ob.HOST_PRESET_APPLIED (h.val + 1)) ∧
        (∀ e : Fin 128, e ∉ hostEngines h → u.eng[e] = s.eng[e]) ∧
        KeepsRegs (fun ix sub => ix = Ob.MMP_RX_FRAMES ∨ (ix ∈ [Ob.HOST_PRESET_APPLIED, Ob.COMPASS_HOST_BASE_DB,
          Ob.COMPASS_HOST_BASE_HOURS] ∧ sub = h.val + 1) ∨ (ix = Ob.ENG_STATE ∧ ∃ e ∈ hostEngines h, sub = e.val + 1)) s u))

/-- R275: a write of HOST.PRESET_SEL that names an entry with VALID clear fails with CONFIG_CONFLICT, and so does a table write that would
clear VALID in the entry that HOST.PRESET_SEL names; either leaves the object unchanged. A table that breaks its own form is
refused as R272 says. -/
def Obligations.PresetsStayValid : Prop :=
  (∀ (s : State) (r : Req) (h : Fin 16) (v : Nat), v < 256 → s.Accepts r .write Ob.HOST_PRESET_SEL (h.val + 1) (leBytes 1 v) →
    presetValid (s.blob Ob.HOST_PRESET_TABLE (h.val + 1)) v = false →
    ∃ t : State, exec (.hostPresetWrite r (h.val + 1) (.sel v)) s = .next t ∧
      t = (s.taken r .write Ob.HOST_PRESET_SEL (h.val + 1) (leBytes 1 v)).reply r .write Ob.HOST_PRESET_SEL (h.val + 1) St.CONFIG_CONFLICT [] ∧
      t.reg Ob.HOST_PRESET_SEL (h.val + 1) = s.reg Ob.HOST_PRESET_SEL (h.val + 1)) ∧
  (∀ (s : State) (r : Req) (h : Fin 16) (b : List Byte), s.Accepts r .write Ob.HOST_PRESET_TABLE (h.val + 1) b →
    presetValid (s.blob Ob.HOST_PRESET_TABLE (h.val + 1)) (s.nat Ob.HOST_PRESET_SEL (h.val + 1)) = true →
    presetValid b (s.nat Ob.HOST_PRESET_SEL (h.val + 1)) = false →
    ∃ t : State, exec (.hostPresetWrite r (h.val + 1) (.table b)) s = .next t ∧
      t = (s.taken r .write Ob.HOST_PRESET_TABLE (h.val + 1) b).reply r .write Ob.HOST_PRESET_TABLE (h.val + 1)
        (if presetOk b = true then St.CONFIG_CONFLICT else St.RANGE) [] ∧
      t.blob Ob.HOST_PRESET_TABLE (h.val + 1) = s.blob Ob.HOST_PRESET_TABLE (h.val + 1))

/-! ## Ports (chapters 1 and 11) -/

/-- R295, R297, R299 and R309: PORT.CMD UP in OFF takes the configured rate set and casts PORTSM's votes, and is answered when the port gets there; UP in STANDBY
starts the up sequence on every lane that is ready; OFF in OFF is answered at once; OFF and STANDBY in CARRYING enter DRAINING
with cause COMMAND (6) and 64 slots with LAST still to send. While an earlier command waits STANDBY and UP return BUSY. -/
def Obligations.PortCommandsMoveThePort : Prop :=
  (∀ (s : State) (r : Req) (p : Fin 8), s.Accepts r .exec Ob.PORT_CMD (p.val + 1) [2] → s.exists p = true → s.pstate p = PS.OFF →
    s.port[p].rateTo = none → s.portTaken p = false → s.portChecked p = false → s.waiting Ob.PORT_CMD (p.val + 1) = false →
    (∀ d : Fin 36, s.doms[d].barred = false) → s.txState p ≠ 2 →
    ∃ u : State, exec (.portCmdUp r (p.val + 1)) s = .next (u.pendAdd ⟨r, .exec, Ob.PORT_CMD, p.val + 1⟩) ∧
      u = { s.taken r .exec Ob.PORT_CMD (p.val + 1) [2] with regs := u.regs, port := u.port, doms := u.doms, mmp := u.mmp, tx := u.tx } ∧
      u.pstate p = PS.OFF ∧ u.port[p].goal = .up ∧ u.rateActive p = s.rateConfigured p ∧
      (∀ d : Fin 36, s.portNeeds p d = true → bitOf (u.votes d) Vote.PORTSM = true) ∧
      (∀ q : Fin 8, q ≠ p → u.port[q] = s.port[q] ∧ u.pstate q = s.pstate q)) ∧
  (∀ (s : State) (r : Req) (p : Fin 8), s.Accepts r .exec Ob.PORT_CMD (p.val + 1) [2] → s.exists p = true → s.pstate p = PS.STANDBY →
    s.port[p].rateTo = none → s.portTaken p = false → s.portChecked p = false → s.waiting Ob.PORT_CMD (p.val + 1) = false →
    (∀ l ∈ s.lanesOf p, s.tx[l].held = false ∧ s.txState l = 2 ∧ s.seq l = 0) →
    ∃ u : State, exec (.portCmdUp r (p.val + 1)) s = .next (u.pendAdd ⟨r, .exec, Ob.PORT_CMD, p.val + 1⟩) ∧
      u = { s.taken r .exec Ob.PORT_CMD (p.val + 1) [2] with regs := u.regs, port := u.port, tx := u.tx } ∧
      u.pstate p = PS.STANDBY ∧ u.port[p].goal = .up ∧
      (∀ l ∈ s.lanesOf p, u.seq l = 1 ∧ u.txState l = 3 ∧ u.tx[l].supply = true) ∧
      KeepsRegs (fun ix _ => ix ∈ [Ob.MMP_RX_FRAMES, Ob.TX_STATE, Ob.OPTICS_SEQ_STATE]) s u) ∧
  (∀ (s : State) (r : Req) (p : Fin 8), s.Accepts r .exec Ob.PORT_CMD (p.val + 1) [0] → s.exists p = true → s.pstate p = PS.OFF →
    s.port[p].restart = [] → s.waiting Ob.PORT_CMD (p.val + 1) = false →
    ∃ u : State, exec (.portCmdOff r (p.val + 1)) s = .next (u.reply r .exec Ob.PORT_CMD (p.val + 1) St.OK []) ∧
      u.pstate p = PS.OFF ∧ u.port[p].goal = .none ∧ u.rateActive p = 0 ∧ u.time = s.time ∧ u.fuse = s.fuse ∧ u.flash = s.flash ∧
      u.adc = s.adc ∧ (∀ q : Fin 8, q ≠ p → u.pstate q = s.pstate q ∧ u.link[q] = s.link[q])) ∧
  (∀ (s : State) (r : Req) (p : Fin 8), s.exists p = true → s.pstate p = PS.CARRYING → s.native p = true →
    s.port[p].rateTo = none → s.portTaken p = false → s.portChecked p = false → s.waiting Ob.PORT_CMD (p.val + 1) = false →
    (s.Accepts r .exec Ob.PORT_CMD (p.val + 1) [0] →
      ∃ u : State, exec (.portCmdOff r (p.val + 1)) s = .next (u.pendAdd ⟨r, .exec, Ob.PORT_CMD, p.val + 1⟩) ∧
        u.pstate p = PS.DRAINING ∧ u.reg Ob.PORT_DRAIN_CAUSE (p.val + 1) = 6 ∧ u.port[p].lastLeft = 64 ∧ u.port[p].goal = .off ∧
        (∀ f ∈ u.link[p].tx, f.off = true) ∧ u.link[p].replays = [] ∧ (∀ q : Fin 8, q ≠ p → u.link[q] = s.link[q] ∧ u.pstate q = s.pstate q)) ∧
    (s.Accepts r .exec Ob.PORT_CMD (p.val + 1) [1] → s.port[p].goal = .none →
      ∃ u : State, exec (.portCmdStandby r (p.val + 1)) s = .next (u.pendAdd ⟨r, .exec, Ob.PORT_CMD, p.val + 1⟩) ∧
        u.pstate p = PS.DRAINING ∧ u.reg Ob.PORT_DRAIN_CAUSE (p.val + 1) = 6 ∧ u.port[p].lastLeft = 64 ∧ u.port[p].goal = .standby ∧
        (∀ f ∈ u.link[p].tx, f.off = true) ∧ (∀ q : Fin 8, q ≠ p → u.link[q] = s.link[q] ∧ u.pstate q = s.pstate q))) ∧
  (∀ (s : State) (r : Req) (p : Fin 8), s.exists p = true → s.pstate p ≠ PS.OFF → s.waiting Ob.PORT_CMD (p.val + 1) = true →
    (s.Accepts r .exec Ob.PORT_CMD (p.val + 1) [1] → exec (.portCmdStandby r (p.val + 1)) s =
      .next ((s.taken r .exec Ob.PORT_CMD (p.val + 1) [1]).reply r .exec Ob.PORT_CMD (p.val + 1) St.BUSY [])) ∧
    (s.Accepts r .exec Ob.PORT_CMD (p.val + 1) [2] → exec (.portCmdUp r (p.val + 1)) s =
      .next ((s.taken r .exec Ob.PORT_CMD (p.val + 1) [2]).reply r .exec Ob.PORT_CMD (p.val + 1) St.BUSY [])))

/-- R30, R41, R46 and R313: a write of PORT.MODE sets the mode and with it the cap and the deadline of codewords stamped from then on; a write
of PORT.RATE_SET is refused for S1 in a 400G-class half and during a change, is stored alone on a port that is OFF, and on a
carrying port starts a rate change by draining it with cause 7; the change ends in SEARCH with its loops started. -/
def Obligations.PortModeAndRateSet : Prop :=
  (∀ (s : State) (r : Req) (p : Fin 8) (v : Nat), v ≤ 3 → s.Accepts r .write Ob.PORT_MODE (p.val + 1) (leBytes 1 v) →
    ∃ u : State, exec (.portModeWrite r (p.val + 1) v) s = .next (u.reply r .write Ob.PORT_MODE (p.val + 1) St.OK []) ∧
      u = { s.taken r .write Ob.PORT_MODE (p.val + 1) (leBytes 1 v) with regs := u.regs, rx := u.rx, eng := u.eng } ∧ u.modeOf p = v ∧
      (s.shed p = 0 → s.throttle = 0 → u.effCap p = (if v = 0 then 16 else if v = 1 then 10 else if v = 2 then 4 else 6)) ∧
      (∀ l : Fin 8, l ∉ s.lanesOf p → u.rx[l] = s.rx[l]) ∧
      KeepsRegs (fun ix sub => ix ∈ [Ob.MMP_RX_FRAMES, Ob.LINE_EQ_STATE, Ob.ENG_STATE] ∨ (ix = Ob.PORT_MODE ∧ sub = p.val + 1)) s u) ∧
  (∀ (s : State) (r : Req) (p : Fin 8) (v : Nat), v ≤ 1 → s.Accepts r .write Ob.PORT_RATE_SET (p.val + 1) (leBytes 1 v) →
    (v = 1 → class400 (s.halfValue (halfOf p)) = true → exec (.portRateSetWrite r (p.val + 1) v) s =
      .next ((s.taken r .write Ob.PORT_RATE_SET (p.val + 1) (leBytes 1 v)).reply r .write Ob.PORT_RATE_SET (p.val + 1) St.CONFIG_CONFLICT [])) ∧
    (v = 0 → s.reg Ob.PORT_RATE_CHANGING (p.val + 1) ≠ 0 → exec (.portRateSetWrite r (p.val + 1) v) s =
      .next ((s.taken r .write Ob.PORT_RATE_SET (p.val + 1) (leBytes 1 v)).reply r .write Ob.PORT_RATE_SET (p.val + 1) St.BUSY [])) ∧
    (v = 0 ∨ class400 (s.halfValue (halfOf p)) = false → s.reg Ob.PORT_RATE_CHANGING (p.val + 1) = 0 → s.pstate p = PS.OFF →
      ∃ u : State, exec (.portRateSetWrite r (p.val + 1) v) s = .next (u.reply r .write Ob.PORT_RATE_SET (p.val + 1) St.OK []) ∧
        u = { s.taken r .write Ob.PORT_RATE_SET (p.val + 1) (leBytes 1 v) with regs := u.regs, port := u.port } ∧
        u.port = s.port.set p { s.port[p] with followed := false } ∧ u.reg Ob.PORT_RATE_SET (p.val + 1) = (v : Int) ∧
        KeepsRegs (fun ix sub => ix = Ob.MMP_RX_FRAMES ∨ (ix = Ob.PORT_RATE_SET ∧ sub = p.val + 1)) s u) ∧
    (v = 1 → s.reg Ob.PORT_RATE_CHANGING (p.val + 1) = 0 → s.class200 (halfOf p) = true → s.exists p = true → s.pstate p = PS.CARRYING →
      s.rateActive p = Rate.N2 → s.port[p].goal = .none → s.port[p].rateTo = none →
      ∃ u : State, exec (.portRateSetWrite r (p.val + 1) v) s = .next (u.reply r .write Ob.PORT_RATE_SET (p.val + 1) St.OK []) ∧
        u.pstate p = PS.DRAINING ∧ u.reg Ob.PORT_DRAIN_CAUSE (p.val + 1) = 7 ∧ u.reg Ob.PORT_RATE_CHANGING (p.val + 1) = 1 ∧
        u.rateActive p = Rate.N2 ∧ u.port[p].rateTo = some Rate.S1 ∧ u.port[p].goal = .up ∧ u.port[p].lastLeft = 64 ∧
        (∀ l ∈ s.lanesOf p, u.tl l = 0) ∧ (∀ q : Fin 8, q ≠ p → u.link[q] = s.link[q] ∧ u.pstate q = s.pstate q))) ∧
  (∀ (s : State) (p : Fin 8), s.pstate p = PS.SEARCH → s.port[p].rateTo.isSome = true →
    ∃ t : State, exec (.rateChangeComplete p) s = .next t ∧ t = { s with regs := t.regs, port := t.port, rx := t.rx } ∧
      t.port = s.port.set p { s.port[p] with rateTo := none, rateDown := false } ∧ t.reg Ob.PORT_RATE_CHANGING (p.val + 1) = 0 ∧
      (∀ l ∈ s.lanesOf p, s.tl l = 0 → s.on (Dom.lrx l) = true → s.clocked l = true → t.tl l = 1) ∧
      KeepsRegs (fun ix sub => ix ∈ [Ob.LINE_TL_STATE, Ob.LINE_EQ_STATE, Ob.LINE_TL_FREQ_PPB] ∨
        (ix = Ob.PORT_RATE_CHANGING ∧ sub = p.val + 1)) s t) ∧
  (∀ (s : State) (p : Fin 8), s.pstate p ≠ PS.SEARCH → exec (.rateChangeComplete p) s = .next s)

/-- R301, R303 and R304: in SEARCH the rate detector's class is kept and read in PORT.FORMAT_FOUND; the samples that come with the test of a
candidate run through the receiver; a candidate whose last eight codewords each leave at most 64 of R150's 256 checks unsatisfied locks,
and one that fails gives way to the next; a lock without a marker in two AP lengths is given up; and the search reports no light or no
alignment, each with an event when it begins, once an episode. Outside SEARCH these are void but for the samples. -/
def Obligations.SearchProgress : Prop :=
  (∀ (s : State) (l p : Fin 8) (c : Fin 4), s.portOf l = some p → s.pstate p = PS.SEARCH → c.val ≠ 0 →
    (c.val = s.rateActive p ∨ s.follows p = false ∨ c.val ≠ Rate.S1) →
    ∃ t : State, exec (.rateDetect l c) s = .next t ∧ t = { s with regs := t.regs, srch := t.srch, port := t.port, lookout := t.lookout, cap := t.cap } ∧
      t.srch[l].cls = c.val ∧ t.reg Ob.PORT_FORMAT_FOUND (p.val + 1) = (c.val : Int) ∧ (∀ k : Fin 8, k ≠ l → t.srch[k] = s.srch[k]) ∧
      (c.val = s.rateActive p → s.reg Ob.PORT_SEARCH_STATUS (p.val + 1) = 4 → t.reg Ob.PORT_SEARCH_STATUS (p.val + 1) = 1) ∧
      (c.val ≠ s.rateActive p → t.reg Ob.PORT_SEARCH_STATUS (p.val + 1) = 4 ∧ t.port[p].epFormat = true) ∧
      KeepsRegs (fun ix sub => (ix ∈ [Ob.PORT_FORMAT_FOUND, Ob.PORT_SEARCH_STATUS, Ob.PORT_EVENTS] ∧ sub = p.val + 1) ∨ EventObj ix sub) s t) ∧
  (∀ (s : State) (l : Fin 8) (codes : List Int), let s1 := s.rxSamples l codes
    (s1.candidate l = some true ↔ 8 ≤ (s1.rx[l].dsp.staged - s1.srch[l].cand % 2048) / 2048 ∧
      ∀ k < 8, unsatisfied (hardBits (s1.rx[l].dsp.softFrom (s1.precoded l) (s1.srch[l].cand % 2048 +
        2048 * ((s1.rx[l].dsp.staged - s1.srch[l].cand % 2048) / 2048 - 8 + k)) 2048)).toArray ≤ 64) ∧
    ((s1.sweeps l).isSome = true → s1.candidate l = some true →
      ∃ t : State, exec (.codewordLock l codes) s = .next t ∧ t = { s1 with srch := t.srch } ∧ t.srch[l] = { s1.srch[l] with lock := true } ∧
        (∀ k : Fin 8, k ≠ l → t.srch[k] = s.srch[k])) ∧
    ((s1.sweeps l).isSome = true → s1.candidate l = some false → s1.srch[l].lock = false →
      ∃ t : State, exec (.codewordCandidateFail l codes) s = .next t ∧ t = { s1 with srch := t.srch } ∧
        t.srch[l] = { s1.srch[l] with cand := (s1.srch[l].cand + 1) % (if s1.rx[l].precode = 0 then 4096 else 2048) } ∧
        (∀ k : Fin 8, k ≠ l → t.srch[k] = s.srch[k])) ∧
    (s1.sweeps l = none ∨ s1.candidate l ≠ some true → exec (.codewordLock l codes) s = .next s1) ∧
    (s1.sweeps l = none ∨ s1.candidate l ≠ some false ∨ s1.srch[l].lock = true → exec (.codewordCandidateFail l codes) s = .next s1)) ∧
  (∀ (s : State) (l p : Fin 8), s.sweeps l = some p → s.pstate p = PS.SEARCH → s.srch[l].lock = true → s.outerLane[l].streak = 0 →
    ∃ t : State, exec (.falseLockTimeout l) s = .next t ∧
      t = { s with srch := t.srch, outerLane := t.outerLane } ∧ t.srch[l].lock = false ∧ t.srch[l].cand = s.nextCandidate l ∧
      (∀ k : Fin 8, k ≠ l → t.srch[k] = s.srch[k] ∧ t.outerLane[k] = s.outerLane[k])) ∧
  (∀ (s : State) (l : Fin 8), (s.sweeps l = none ∨ s.srch[l].lock = false ∨ s.outerLane[l].streak ≠ 0) →
    exec (.falseLockTimeout l) s = .next s) ∧
  (∀ (s : State) (p : Fin 8), s.exists p = true → s.pstate p = PS.SEARCH →
    ((∀ l ∈ s.lanesOf p, s.reg Ob.LINE_LOS_RAW (l.val + 1) ≠ 0) → s.reg Ob.PORT_SEARCH_STATUS (p.val + 1) ≠ 2 →
      ∃ t : State, exec (.searchStatusTimeout p) s = .next t ∧ t = { s with regs := t.regs, port := t.port, lookout := t.lookout, cap := t.cap } ∧
        t.reg Ob.PORT_SEARCH_STATUS (p.val + 1) = 2 ∧ t.port[p] = { s.port[p] with epDark := true } ∧
        (∀ q : Fin 8, q ≠ p → t.port[q] = s.port[q]) ∧
        t.reg Ob.PORT_EVENTS (p.val + 1) = (if s.port[p].epDark = true then s.reg Ob.PORT_EVENTS (p.val + 1)
          else ((min (2 ^ 32 - 1) (s.nat Ob.PORT_EVENTS (p.val + 1) + 1) : Nat) : Int))) ∧
    ((∃ l ∈ s.lanesOf p, s.reg Ob.LINE_LOS_RAW (l.val + 1) = 0) →
      (s.reg Ob.PORT_SEARCH_STATUS (p.val + 1) = 1 ∨ s.reg Ob.PORT_SEARCH_STATUS (p.val + 1) = 2) →
      ∃ t : State, exec (.searchStatusTimeout p) s = .next t ∧ t = { s with regs := t.regs, port := t.port, lookout := t.lookout, cap := t.cap } ∧
        t.reg Ob.PORT_SEARCH_STATUS (p.val + 1) = 3 ∧ t.port[p] = { s.port[p] with epAlign := true } ∧
        (∀ q : Fin 8, q ≠ p → t.port[q] = s.port[q]) ∧
        t.reg Ob.PORT_EVENTS (p.val + 1) = (if s.port[p].epAlign = true then s.reg Ob.PORT_EVENTS (p.val + 1)
          else ((min (2 ^ 32 - 1) (s.nat Ob.PORT_EVENTS (p.val + 1) + 1) : Nat) : Int))))

/-- R192, R306 to R310: an ALIGNED port with light enters CARRYING with both directions at SEQ 0; a CARRYING port without frames, or in the dark, enters
DRAINING with cause 2 or 1, writes every retained frame off and raises PORT_DRAIN; an ALIGNED port in the dark returns to
SEARCH, and a drained one that is bound nowhere goes on to SEARCH. -/
def Obligations.CarryingAndDraining : Prop :=
  (∀ (s : State) (p : Fin 8), s.exists p = true → s.pstate p = PS.ALIGNED → s.portDark p = false →
    ∃ t : State, exec (.carryDelayExpiry p) s = .next t ∧ t = { s with regs := t.regs, link := t.link } ∧ t.pstate p = PS.CARRYING ∧
      t.link[p].next = 0 ∧ t.link[p].acked = 0 ∧ t.link[p].ack = 0 ∧ t.link[p].seen = 0 ∧ t.link[p].tx = [] ∧ t.link[p].held = [] ∧
      t.reg Ob.PORT_CARRY_ENTRIES (p.val + 1) = (min (2 ^ 32 - 1) (s.nat Ob.PORT_CARRY_ENTRIES (p.val + 1) + 1) : Nat) ∧
      t.reg Ob.PORT_STATE_TIME (p.val + 1) = (s.stamp : Int) ∧ (∀ q : Fin 8, q ≠ p → t.link[q] = s.link[q]) ∧
      KeepsRegs (fun ix sub => ix ∈ [Ob.PORT_STATE, Ob.PORT_STATE_TIME, Ob.PORT_SEARCH_STATUS, Ob.PORT_CARRY_ENTRIES, Ob.LINK_LPL_TX,
        Ob.RETRY_OUTSTANDING, Ob.RETRY_HOLD_OCCUPANCY, Ob.RETRY_OUTSTANDING_PEAK, Ob.RETRY_HOLD_PEAK] ∧ sub = p.val + 1) s t) ∧
  (∀ (s : State) (p : Fin 8), s.exists p = true → s.pstate p = PS.CARRYING →
    (s.native p = true → ∃ t : State, exec (.noFrameTimeout p) s = .next t ∧ t.pstate p = PS.DRAINING ∧
      t.reg Ob.PORT_DRAIN_CAUSE (p.val + 1) = 2 ∧ t.port[p].lastLeft = 0 ∧ (∀ f ∈ t.link[p].tx, f.off = true) ∧
      t.reg Ob.PORT_EVENTS (p.val + 1) = (min (2 ^ 32 - 1) (s.nat Ob.PORT_EVENTS (p.val + 1) + 1) : Nat) ∧
      t = { s with regs := t.regs, link := t.link, port := t.port, mmp := t.mmp, hostInst := t.hostInst, test := t.test, lookout := t.lookout, cap := t.cap } ∧
      (∀ q : Fin 8, q ≠ p → t.link[q] = s.link[q] ∧ t.pstate q = s.pstate q)) ∧
    (s.portDark p = true → ∃ t : State, exec (.losHoldoffExpiry p) s = .next t ∧ t.pstate p = PS.DRAINING ∧
      t.reg Ob.PORT_DRAIN_CAUSE (p.val + 1) = 1 ∧ (∀ f ∈ t.link[p].tx, f.off = true) ∧
      t.reg Ob.PORT_EVENTS (p.val + 1) = (min (2 ^ 32 - 1) (s.nat Ob.PORT_EVENTS (p.val + 1) + 1) : Nat) ∧
      t = { s with regs := t.regs, link := t.link, port := t.port, mmp := t.mmp, hostInst := t.hostInst, test := t.test, lookout := t.lookout, cap := t.cap } ∧
      (∀ q : Fin 8, q ≠ p → t.link[q] = s.link[q] ∧ t.pstate q = s.pstate q))) ∧
  (∀ (s : State) (p : Fin 8), s.exists p = true → s.pstate p = PS.ALIGNED → s.portDark p = true →
    ∃ t : State, exec (.losHoldoffExpiry p) s = .next t ∧ t.pstate p = PS.SEARCH ∧ t.reg Ob.PORT_DRAIN_CAUSE (p.val + 1) = 1 ∧
      t.reg Ob.PORT_SEARCH_STATUS (p.val + 1) = 1 ∧ (∀ q : Fin 8, q ≠ p → t.link[q] = s.link[q] ∧ t.pstate q = s.pstate q)) ∧
  (∀ (s : State) (p : Fin 8), s.pstate p = PS.DRAINING → s.link[p].held = [] → s.port[p].goal = .none → s.port[p].rateTo = none →
    ∃ t : State, exec (.drainComplete p) s = .next t ∧ t.pstate p = PS.SEARCH ∧ t.reg Ob.PORT_SEARCH_STATUS (p.val + 1) = 1 ∧
      t.reg Ob.PORT_STATE_TIME (p.val + 1) = (s.stamp : Int) ∧
      t = { s with regs := t.regs, link := t.link, port := t.port, rx := t.rx, srch := t.srch, outerLane := t.outerLane,
                   outerPort := t.outerPort }) ∧
  (∀ (s : State) (p : Fin 8), s.pstate p = PS.DRAINING → s.port[p].lastLeft = 0 → (s.port[p].goal ≠ .none ∨ s.port[p].rateTo.isSome = true) →
    ∃ v : State, exec (.drainLastSlotsDone p) s = .next (v.portSettle p) ∧
      v = { s with regs := v.regs, tx := v.tx, hk := v.hk, doms := v.doms, mmp := v.mmp } ∧ v.pstate p = PS.DRAINING ∧
      (∀ l ∈ s.lanesOf p, v.tx[l].held = false ∧ (s.seq l = 4 → v.seq l = 5 ∧ v.tx[l].laser = false))) ∧
  (∀ (s : State) (p : Fin 8), (s.pstate p ≠ PS.ALIGNED → exec (.carryDelayExpiry p) s = .next s) ∧
    (s.pstate p ≠ PS.CARRYING → exec (.noFrameTimeout p) s = .next s) ∧ (s.portDark p = false → exec (.losHoldoffExpiry p) s = .next s) ∧
    (s.pstate p ≠ PS.DRAINING → exec (.drainComplete p) s = .next s ∧ exec (.drainLastSlotsDone p) s = .next s))

/-- R315 and R316: a marker of the clause in error counts, a lock of every lane takes a searching S1 port to ALIGNED, and a lock lost in
CARRYING drains it; a decoded inner codeword counts with its corrected bits, and in CARRYING its bits pass to host lane 2l. -/
def Obligations.S1MarkersAndCodewords : Prop :=
  (∀ (s : State) (l p : Fin 8) (err lock : Bool), s.portOf l = some p → s.rateActive p = Rate.S1 → PS.SEARCH ≤ s.pstate p →
    s.pstate p ≤ PS.DRAINING → s.srch[l].cls = Rate.S1 →
    ∃ t : State, exec (.s1AmReceived l err lock) s = .next t ∧
      t.reg Ob.S1_AM_ERR (l.val + 1) = (if err = true then ((min (2 ^ 32 - 1) (s.nat Ob.S1_AM_ERR (l.val + 1) + 1) : Nat) : Int)
        else s.reg Ob.S1_AM_ERR (l.val + 1)) ∧
      (lock = true → t = { s with regs := t.regs } ∧ t.reg Ob.S1_ALIGN_STATE (l.val + 1) = 1 ∧
        (s.pstate p = PS.SEARCH → (∀ k ∈ s.lanesOf p, k ≠ l → s.reg Ob.S1_ALIGN_STATE (k.val + 1) = 1) → t.pstate p = PS.ALIGNED)) ∧
      (lock = false → s.reg Ob.S1_ALIGN_STATE (l.val + 1) = 1 → s.pstate p = PS.CARRYING →
        t.pstate p = PS.DRAINING ∧ t.reg Ob.PORT_DRAIN_CAUSE (p.val + 1) = 3 ∧ t.reg Ob.S1_ALIGN_STATE (l.val + 1) = 2) ∧
      t.time = s.time ∧ t.tic = s.tic ∧ t.adc = s.adc ∧ t.fuse = s.fuse ∧ t.flash = s.flash) ∧
  (∀ (s : State) (l p : Fin 8) (n k e : Nat) (u m : Bool) (data : List Bool), s.portOf l = some p → s.rateActive p = Rate.S1 →
    (s.tl l ≠ 0 ∨ s.testKind p = 5) →
    ∃ t : State, exec (.s1CodewordDecoded l n k u m data e) s = .next t ∧
      t = { s with regs := t.regs, srch := t.srch, test := t.test, hostLane := t.hostLane } ∧
      (∀ h : Fin 16, t.hostLane[h] = (if h.val = 2 * l.val ∧ (s.pstate p = PS.CARRYING ∨ s.pstate p = PS.DRAINING) then
        { s.hostLane[h] with line := s.hostLane[h].line ++ data } else s.hostLane[h])) ∧
      (s.test[p].injKind ≠ 1 → t.test = s.test) ∧
      t.reg Ob.S1_CW (l.val + 1) = (min (2 ^ 64 - 1) (s.nat Ob.S1_CW (l.val + 1) + 1) : Nat) ∧
      t.reg Ob.S1_BITS_CORRECTED (l.val + 1) = (min (2 ^ 64 - 1) (s.nat Ob.S1_BITS_CORRECTED (l.val + 1) + k) : Nat) ∧
      (u = true → t.reg Ob.S1_CW_UNCORRECTABLE (l.val + 1) = (min (2 ^ 64 - 1) (s.nat Ob.S1_CW_UNCORRECTABLE (l.val + 1) + 1) : Nat)) ∧
      (m = true → s.reg Ob.LINE_STATS_INCL_UNSETTLED (l.val + 1) = 0 → t.srch = s.srch) ∧
      KeepsRegs (fun ix sub => (ix ∈ [Ob.S1_CW, Ob.S1_BITS_CORRECTED, Ob.S1_CW_CORRECTED, Ob.S1_CW_UNCORRECTABLE] ∧ sub = l.val + 1) ∨
        (ix ∈ [Ob.TEST_INJ_APPLIED, Ob.TEST_INJ_ACTIVE, Ob.TEST_INJ_SYM_ERRORS] ∧ sub = p.val + 1)) s t) ∧
  (∀ (s : State) (l : Fin 8) (a b : Bool) (n k e : Nat) (data : List Bool), s.portOf l = none →
    exec (.s1AmReceived l a b) s = .next s ∧ exec (.s1CodewordDecoded l n k a b data e) s = .next s)

/-- R24, R25 and R28: PORT.APPLY_BREAKOUT refuses a pair that cannot stand together, is done at once where nothing changes, and otherwise sends
every port of the halves concerned to OFF; when they are there the new values hold and the command is answered. -/
def Obligations.BreakoutApplies : Prop :=
  (∀ (s : State) (r : Req), s.Accepts r .exec Ob.PORT_APPLY_BREAKOUT 0 [0] → s.breakoutRun = none →
    (∀ i ∈ s.analog.running, 24 ≤ i) →
    (breakoutPair (s.nat Ob.PORT_BREAKOUT_EAST 0) (s.nat Ob.PORT_BREAKOUT_WEST 0) = false →
      exec (.portApplyBreakout r) s = .next ((s.taken r .exec Ob.PORT_APPLY_BREAKOUT 0 [0]).reply r .exec Ob.PORT_APPLY_BREAKOUT 0
        St.CONFIG_CONFLICT [])) ∧
    (s.nat Ob.PORT_BREAKOUT_EAST 0 = s.breakout[0] → s.nat Ob.PORT_BREAKOUT_WEST 0 = s.breakout[1] →
      s.breakout[0] ∉ [4, 7] → s.breakout[1] ∉ [4, 7] → s.interopClash s.breakout[0] s.breakout[1] = false →
      exec (.portApplyBreakout r) s = .next ((s.taken r .exec Ob.PORT_APPLY_BREAKOUT 0 [0]).reply r .exec Ob.PORT_APPLY_BREAKOUT 0 St.OK [])) ∧
    (breakoutPair (s.nat Ob.PORT_BREAKOUT_EAST 0) (s.nat Ob.PORT_BREAKOUT_WEST 0) = true →
      s.interopClash (s.nat Ob.PORT_BREAKOUT_EAST 0) (s.nat Ob.PORT_BREAKOUT_WEST 0) = false →
      s.nat Ob.PORT_BREAKOUT_EAST 0 ≠ s.breakout[0] →
      ∃ u : State, exec (.portApplyBreakout r) s = .next (u.pendAdd ⟨r, .exec, Ob.PORT_APPLY_BREAKOUT, 0⟩) ∧
        (∃ b, u.breakoutRun = some b ∧ b.east = true ∧ b.newEast = s.nat Ob.PORT_BREAKOUT_EAST 0 ∧ b.newWest = s.nat Ob.PORT_BREAKOUT_WEST 0) ∧
        u.breakout = s.breakout ∧ u.fuse = s.fuse ∧ u.flash = s.flash ∧ u.time = s.time)) ∧
  (∀ (s : State) (r : Req), s.Accepts r .exec Ob.PORT_APPLY_BREAKOUT 0 [0] → s.breakoutRun.isSome = true →
    exec (.portApplyBreakout r) s = .next ((s.taken r .exec Ob.PORT_APPLY_BREAKOUT 0 [0]).reply r .exec Ob.PORT_APPLY_BREAKOUT 0 St.BUSY [])) ∧
  (∀ (s : State) (b : BreakoutRun), s.breakoutRun = some b → (∀ p : Fin 8, s.pstate p = PS.OFF) →
    ∃ v : State, exec .breakoutDone s = .next (v.finish Ob.PORT_APPLY_BREAKOUT 0 St.OK) ∧
      v = { s with regs := v.regs, doms := v.doms, mmp := v.mmp, port := v.port, breakout := v.breakout, breakoutRun := none } ∧
      v.breakout[0] = (if b.east = true then b.newEast else s.breakout[0]) ∧ v.breakout[1] = (if b.west = true then b.newWest else s.breakout[1]) ∧
      (∀ p : Fin 8, v.port[p] = { s.port[p] with breakout := false })) ∧
  (∀ s : State, s.breakoutRun = none → exec .breakoutDone s = .next s)

/-! ## Tests, injections and capture (chapter 12) -/

/-- R311, R320 to R324: from STANDBY, PORT.TEST_START of a sequence that only receives or loops at the host enters TEST and answers at once; one that
transmits enters TEST and answers when its lasers are on; either has result RUNNING (1), its duration and return state taken and
its checkers searching with cleared counters. A port that is OFF, and one in DRAINING or TEST, has CONFIG_CONFLICT.
At its duration a sequence ends DONE (2) and, with the optics down, the port returns to STANDBY where that is its return state. -/
def Obligations.TestSequencesStartAndEnd : Prop :=
  (∀ (s : State) (r : Req) (p : Fin 8) (k : Nat) (c : Instr),
    (k, c) ∈ [(2, Instr.testHostPrbs r (p.val + 1)), (3, Instr.testLoopHostAnalog r (p.val + 1)), (4, Instr.testLoopHostDigital r (p.val + 1))] →
    s.Accepts r .exec Ob.PORT_TEST_START (p.val + 1) [BitVec.ofNat 8 k] → s.exists p = true → s.pstate p = PS.STANDBY →
    s.port[p].rateTo = none → s.port[p].goal = .none → s.portTaken p = false → s.waiting Ob.PORT_CMD (p.val + 1) = false →
    s.waiting Ob.PORT_TEST_START (p.val + 1) = false →
    ∃ u : State, exec c s = .next (u.reply r .exec Ob.PORT_TEST_START (p.val + 1) St.OK []) ∧ u.pstate p = PS.TEST ∧ u.test[p].kind = k ∧
      u.reg Ob.PORT_TEST_RESULT (p.val + 1) = 1 ∧ u.test[p].dur = s.nat Ob.PORT_TEST_DURATION_MS (p.val + 1) ∧
      u.test[p].ret = s.reg Ob.PORT_RETURN_STATE (p.val + 1) ∧
      (k ≠ 4 → ∀ h ∈ s.hostLanesOf p, u.reg Ob.TEST_HOST_CHK_STATE (h.val + 1) = 1 ∧ u.reg Ob.TEST_HOST_BITS (h.val + 1) = 0) ∧
      (∀ q : Fin 8, q ≠ p → u.test[q] = s.test[q] ∧ u.pstate q = s.pstate q ∧ u.link[q] = s.link[q]) ∧ u.time = s.time ∧ u.flash = s.flash) ∧
  (∀ (s : State) (r : Req) (p : Fin 8) (k : Nat) (c : Instr),
    (k, c) ∈ [(1, Instr.testLinePrbs r (p.val + 1)), (5, Instr.testLoopLineLocal r (p.val + 1)), (6, Instr.testLoopLineTic r (p.val + 1))] →
    s.Accepts r .exec Ob.PORT_TEST_START (p.val + 1) [BitVec.ofNat 8 k] → s.exists p = true → s.pstate p = PS.STANDBY → s.native p = true →
    s.port[p].rateTo = none → s.port[p].goal = .none → s.portTaken p = false → s.waiting Ob.PORT_CMD (p.val + 1) = false →
    s.waiting Ob.PORT_TEST_START (p.val + 1) = false → (∀ l ∈ s.lanesOf p, s.txState l = 2 ∧ s.seq l = 0) →
    ∃ u : State, exec c s = .next (u.pendAdd ⟨r, .exec, Ob.PORT_TEST_START, p.val + 1⟩) ∧ u.pstate p = PS.TEST ∧ u.test[p].kind = k ∧
      u.reg Ob.PORT_TEST_RESULT (p.val + 1) = 1 ∧ u.test[p].dur = s.nat Ob.PORT_TEST_DURATION_MS (p.val + 1) ∧
      (∀ l ∈ s.lanesOf p, u.seq l = 1 ∧ u.txState l = 3 ∧
        (k = 1 → u.reg Ob.TEST_LINE_CHK_STATE (l.val + 1) = 1 ∧ u.reg Ob.TEST_LINE_BITS (l.val + 1) = 0)) ∧
      (∀ q : Fin 8, q ≠ p → u.test[q] = s.test[q] ∧ u.pstate q = s.pstate q ∧ u.link[q] = s.link[q]) ∧ u.time = s.time ∧ u.flash = s.flash) ∧
  (∀ (s : State) (r : Req) (p : Fin 8) (k : Nat) (c : Instr),
    (k, c) ∈ [(1, Instr.testLinePrbs r (p.val + 1)), (2, Instr.testHostPrbs r (p.val + 1)), (3, Instr.testLoopHostAnalog r (p.val + 1)),
      (4, Instr.testLoopHostDigital r (p.val + 1)), (5, Instr.testLoopLineLocal r (p.val + 1)), (6, Instr.testLoopLineTic r (p.val + 1))] →
    s.Accepts r .exec Ob.PORT_TEST_START (p.val + 1) [BitVec.ofNat 8 k] →
    (s.pstate p = PS.OFF ∨ ((s.pstate p = PS.DRAINING ∨ s.pstate p = PS.TEST) ∧ s.port[p].rateTo = none ∧
      s.portTaken p = false ∧ s.waiting Ob.PORT_CMD (p.val + 1) = false)) →
    exec c s = .next ((s.taken r .exec Ob.PORT_TEST_START (p.val + 1) [BitVec.ofNat 8 k]).reply r .exec Ob.PORT_TEST_START (p.val + 1)
      St.CONFIG_CONFLICT [])) ∧
  (∀ (s : State) (p : Fin 8), s.exists p = true → s.pstate p = PS.TEST → s.test[p].kind ≠ 0 →
    s.reg Ob.PORT_TEST_RESULT (p.val + 1) = 1 → s.test[p].ret = 1 → s.portDownDone p = true → s.port[p].lastLeft = 0 →
    s.port[p].rateTo = none →
    ∃ t : State, exec (.testDurationExpiry p) s = .next t ∧ t.reg Ob.PORT_TEST_RESULT (p.val + 1) = 2 ∧ t.test[p].kind = 0 ∧
      t.pstate p = PS.STANDBY ∧ t.reg Ob.TEST_INJ_ACTIVE (p.val + 1) = 0 ∧ t.time = s.time ∧ t.flash = s.flash ∧ t.adc = s.adc ∧
      (∀ q : Fin 8, q ≠ p → t.test[q] = s.test[q] ∧ t.pstate q = s.pstate q ∧ t.link[q] = s.link[q])) ∧
  (∀ (s : State) (p : Fin 8), s.pstate p ≠ PS.TEST → exec (.testDurationExpiry p) s = .next s)

/-- R323: a checker takes in the symbols that its lane has decided since the last command; a searching one locks after 64 matching symbols
in a row, or, on SSPRQ, at most 8 errors in 1,024 at some offset, and goes on from there; a line checker under AUTO says which precoding
interpretation it took (R322); a locked one whose last 256 symbols hold 128 or more in error loses lock, with its count and its event, and
searches again; else it stays as it is. -/
def Obligations.CheckersLockAndLose : Prop :=
  (∀ (s : State) (l : Fin 8) (codes : List Int), let s1 := s.rxSamples l codes
    (∀ (pre : Bool) (g : PatGen), s1.reg Ob.TEST_LINE_CHK_STATE (l.val + 1) = 1 →
      lockOn (s1.patternOf (.line l)) (s1.interpretations l) s1.rx[l].chk.seen = some (pre, g) →
      ∃ t : State, exec (.checkerLock (.line l) codes) s = .next t ∧ t = { s1 with regs := t.regs, rx := t.rx } ∧
        t.reg Ob.TEST_LINE_CHK_STATE (l.val + 1) = 2 ∧
        t.rx[l] = { s1.rx[l] with chk := { precoded := pre, gen := g, prev := s1.rx[l].chk.seen.headD 0 } } ∧
        (∀ k : Fin 8, k ≠ l → t.rx[k] = s1.rx[k]) ∧
        (s1.rx[l].precode = 0 → t.reg Ob.LINE_RX_PRECODE_FOUND (l.val + 1) = (if pre = true then 2 else 1)) ∧
        KeepsRegs (fun ix sub => ix ∈ [Ob.TEST_LINE_CHK_STATE, Ob.LINE_RX_PRECODE_FOUND] ∧ sub = l.val + 1) s1 t) ∧
    ((s1.reg Ob.TEST_LINE_CHK_STATE (l.val + 1) ≠ 1 ∨
        lockOn (s1.patternOf (.line l)) (s1.interpretations l) s1.rx[l].chk.seen = none) →
      exec (.checkerLock (.line l) codes) s = .next s1)) ∧
  (∀ (s : State) (h : Fin 16) (codes : List Int), let s1 := s.hostDecide h (codes.map Int.toNat)
    (∀ (pre : Bool) (g : PatGen), s1.reg Ob.TEST_HOST_CHK_STATE (h.val + 1) = 1 →
      lockOn (s1.patternOf (.host h)) [false] s1.hostLane[h].chk.seen = some (pre, g) →
      ∃ t : State, exec (.checkerLock (.host h) codes) s = .next t ∧ t = { s1 with regs := t.regs, hostLane := t.hostLane } ∧
        t.reg Ob.TEST_HOST_CHK_STATE (h.val + 1) = 2 ∧ t.hostLane[h] = { s1.hostLane[h] with chk := { gen := g } } ∧
        (∀ k : Fin 16, k ≠ h → t.hostLane[k] = s1.hostLane[k]) ∧
        KeepsRegs (fun ix sub => ix = Ob.TEST_HOST_CHK_STATE ∧ sub = h.val + 1) s1 t) ∧
    ((s1.reg Ob.TEST_HOST_CHK_STATE (h.val + 1) ≠ 1 ∨ lockOn (s1.patternOf (.host h)) [false] s1.hostLane[h].chk.seen = none) →
      exec (.checkerLock (.host h) codes) s = .next s1)) ∧
  (∀ (pat : Nat) (pre : Bool) (seen : List Nat), (lockOn pat [pre] seen).isSome = true ↔
    (let v := undone pre seen
     if pat = 2 then 1024 ≤ v.length ∧ ∃ o < 65535,
         ((v.take 1024).zipIdx.filter (fun x => x.1 != Config.ssprqLevel ((o + 1023 - x.2) % 65535))).length ≤ 8
       else 80 ≤ v.length ∧
         ∀ k < 64, (PatGen.next pat { reg := (newestBits ((v.drop (k + 1)).take 16)).take 31 }).1 = v.getD k 0)) ∧
  (∀ (s : State) (l : Fin 8) (codes : List Int), let s1 := s.rxSamples l codes
    (s1.reg Ob.TEST_LINE_CHK_STATE (l.val + 1) = 2 → s1.rx[l].chk.errs.length = 256 → 128 ≤ s1.rx[l].chk.errs.count true →
      ∃ t : State, exec (.checkerLockLoss (.line l) codes) s = .next t ∧
        t = { s1 with regs := t.regs, rx := t.rx, lookout := t.lookout, cap := t.cap } ∧
        t.rx[l] = { s1.rx[l] with chk := {} } ∧ (∀ k : Fin 8, k ≠ l → t.rx[k] = s1.rx[k]) ∧
        t.reg Ob.TEST_LINE_CHK_STATE (l.val + 1) = 1 ∧
        t.reg Ob.TEST_LINE_LOCK_LOSS (l.val + 1) = (min (2 ^ 32 - 1) (s1.nat Ob.TEST_LINE_LOCK_LOSS (l.val + 1) + 1) : Nat) ∧
        t.reg Ob.TEST_EVENTS (l.val + 1) = (min (2 ^ 32 - 1) (s1.nat Ob.TEST_EVENTS (l.val + 1) + 1) : Nat) ∧
        KeepsRegs (fun ix sub => (ix ∈ [Ob.TEST_LINE_CHK_STATE, Ob.TEST_LINE_LOCK_LOSS, Ob.TEST_EVENTS] ∧ sub = l.val + 1) ∨
          EventObj ix sub) s1 t) ∧
    ((s1.reg Ob.TEST_LINE_CHK_STATE (l.val + 1) ≠ 2 ∨ s1.rx[l].chk.errs.length ≠ 256 ∨ s1.rx[l].chk.errs.count true < 128) →
      exec (.checkerLockLoss (.line l) codes) s = .next s1)) ∧
  (∀ (s : State) (h : Fin 16) (codes : List Int), let s1 := s.hostDecide h (codes.map Int.toNat)
    (s1.reg Ob.TEST_HOST_CHK_STATE (h.val + 1) = 2 → s1.hostLane[h].chk.errs.length = 256 → 128 ≤ s1.hostLane[h].chk.errs.count true →
      ∃ t : State, exec (.checkerLockLoss (.host h) codes) s = .next t ∧
        t = { s1 with regs := t.regs, hostLane := t.hostLane, lookout := t.lookout, cap := t.cap } ∧
        t.hostLane[h] = { s1.hostLane[h] with chk := {} } ∧ (∀ k : Fin 16, k ≠ h → t.hostLane[k] = s1.hostLane[k]) ∧
        t.reg Ob.TEST_HOST_CHK_STATE (h.val + 1) = 1 ∧
        t.reg Ob.TEST_HOST_LOCK_LOSS (h.val + 1) = (min (2 ^ 32 - 1) (s1.nat Ob.TEST_HOST_LOCK_LOSS (h.val + 1) + 1) : Nat) ∧
        t.reg Ob.TEST_EVENTS (h.val / 2 + 1) = (min (2 ^ 32 - 1) (s1.nat Ob.TEST_EVENTS (h.val / 2 + 1) + 1) : Nat)) ∧
    ((s1.reg Ob.TEST_HOST_CHK_STATE (h.val + 1) ≠ 2 ∨ s1.hostLane[h].chk.errs.length ≠ 256 ∨ s1.hostLane[h].chk.errs.count true < 128) →
      exec (.checkerLockLoss (.host h) codes) s = .next s1))

/-- R328 and R329: the far loop is granted in CARRYING on a native port alone, and in band only with its grant; TEST.INJ_FIRE arms an
injection in a state that admits it, with its counts cleared and its event, and is refused out of range, while one is active, or
in another state; a forced loss of signal ends with what was left of it applied. R331 and R332: TEST.CAP_ARM arms the capture; a
command, or the time that its trigger names, triggers an armed one with a stamp; once the post-trigger share has
been recorded the buffer holds the ring's entries, oldest first,
with the first entry's stamp, the entries and an event, in state DONE (3). -/
def Obligations.FarLoopInjectionsAndCapture : Prop :=
  (∀ (s : State) (r : Req) (p : Fin 8) (v : Nat), v ≤ 1 → s.Accepts r .write Ob.TEST_FAR_LOOP (p.val + 1) (leBytes 1 v) →
    ((r.path.isLocal = true ∨ s.reg Ob.TEST_FAR_LOOP_GRANT (p.val + 1) ≠ 0) →
      (v = 0 ∨ (s.exists p = true ∧ s.pstate p = PS.CARRYING ∧ s.native p = true)) →
      ∃ u : State, exec (.testFarLoopWrite r (p.val + 1) v) s = .next (u.reply r .write Ob.TEST_FAR_LOOP (p.val + 1) St.OK []) ∧
        u = { s.taken r .write Ob.TEST_FAR_LOOP (p.val + 1) (leBytes 1 v) with regs := u.regs } ∧
        u.reg Ob.TEST_FAR_LOOP (p.val + 1) = (v : Int) ∧ u.test[p].farLoop = s.test[p].farLoop ∧
        KeepsRegs (fun ix sub => ix = Ob.MMP_RX_FRAMES ∨ (ix = Ob.TEST_FAR_LOOP ∧ sub = p.val + 1)) s u) ∧
    (r.path.isLocal = false → s.reg Ob.TEST_FAR_LOOP_GRANT (p.val + 1) = 0 → exec (.testFarLoopWrite r (p.val + 1) v) s =
      .next ((s.taken r .write Ob.TEST_FAR_LOOP (p.val + 1) (leBytes 1 v)).reply r .write Ob.TEST_FAR_LOOP (p.val + 1) St.ACCESS_REFUSED [])) ∧
    (r.path.isLocal = true → v = 1 → s.pstate p ≠ PS.CARRYING → exec (.testFarLoopWrite r (p.val + 1) v) s =
      .next ((s.taken r .write Ob.TEST_FAR_LOOP (p.val + 1) (leBytes 1 v)).reply r .write Ob.TEST_FAR_LOOP (p.val + 1) St.CONFIG_CONFLICT []))) ∧
  (∀ (s : State) (r : Req) (p : Fin 8), s.Accepts r .exec Ob.TEST_INJ_FIRE (p.val + 1) [0] →
    (s.nat Ob.TEST_INJ_COUNT (p.val + 1) ≤ injMax (s.nat Ob.TEST_INJ_KIND (p.val + 1)) → s.reg Ob.TEST_INJ_ACTIVE (p.val + 1) = 0 →
      s.exists p = true → s.injAdmits p (s.nat Ob.TEST_INJ_KIND (p.val + 1)) = true →
      ∃ u : State, exec (.injFire r (p.val + 1)) s = .next (u.reply r .exec Ob.TEST_INJ_FIRE (p.val + 1) St.OK []) ∧
        u = { s.taken r .exec Ob.TEST_INJ_FIRE (p.val + 1) [0] with regs := u.regs, test := u.test, tic := u.tic, lookout := u.lookout, cap := u.cap } ∧
        (∀ l : Fin 8, u.tic[l] = (if l ∈ s.lanesOf p then { s.tic[l] with burstAt := 256 * s.rx[l].dsp.nextBlock } else s.tic[l])) ∧
        u.test[p].injKind = s.nat Ob.TEST_INJ_KIND (p.val + 1) ∧ u.test[p].injLeft = s.nat Ob.TEST_INJ_COUNT (p.val + 1) ∧
        u.test[p].injAt = s.time.now ∧ u.reg Ob.TEST_INJ_ACTIVE (p.val + 1) = 1 ∧ u.reg Ob.TEST_INJ_APPLIED (p.val + 1) = 0 ∧
        u.reg Ob.TEST_EVENTS (p.val + 1) = (min (2 ^ 32 - 1) (s.nat Ob.TEST_EVENTS (p.val + 1) + 1) : Nat) ∧
        (∀ q : Fin 8, q ≠ p → u.test[q] = s.test[q]) ∧
        KeepsRegs (fun ix sub => ix = Ob.MMP_RX_FRAMES ∨ (ix ∈ [Ob.TEST_INJ_ACTIVE, Ob.TEST_INJ_APPLIED, Ob.TEST_INJ_SYM_ERRORS,
          Ob.TEST_EVENTS] ∧ sub = p.val + 1) ∨ EventObj ix sub) s u) ∧
    (injMax (s.nat Ob.TEST_INJ_KIND (p.val + 1)) < s.nat Ob.TEST_INJ_COUNT (p.val + 1) → exec (.injFire r (p.val + 1)) s =
      .next ((s.taken r .exec Ob.TEST_INJ_FIRE (p.val + 1) [0]).reply r .exec Ob.TEST_INJ_FIRE (p.val + 1) St.RANGE [])) ∧
    (s.nat Ob.TEST_INJ_COUNT (p.val + 1) ≤ injMax (s.nat Ob.TEST_INJ_KIND (p.val + 1)) → s.reg Ob.TEST_INJ_ACTIVE (p.val + 1) ≠ 0 →
      exec (.injFire r (p.val + 1)) s =
        .next ((s.taken r .exec Ob.TEST_INJ_FIRE (p.val + 1) [0]).reply r .exec Ob.TEST_INJ_FIRE (p.val + 1) St.BUSY []))) ∧
  (∀ (s : State) (p : Fin 8), s.test[p].injKind = 6 → 0 < s.test[p].injLeft →
    ∃ t : State, exec (.forcedLosEnd p) s = .next t ∧ t = { s with regs := t.regs, test := t.test } ∧
      t.test[p] = { s.test[p] with injKind := 0, injLeft := 0 } ∧ t.reg Ob.TEST_INJ_ACTIVE (p.val + 1) = 0 ∧
      t.reg Ob.TEST_INJ_APPLIED (p.val + 1) = (min (2 ^ 64 - 1) (s.nat Ob.TEST_INJ_APPLIED (p.val + 1) + s.test[p].injLeft) : Nat) ∧
      (∀ q : Fin 8, q ≠ p → t.test[q] = s.test[q]) ∧
      KeepsRegs (fun ix sub => ix ∈ [Ob.TEST_INJ_ACTIVE, Ob.TEST_INJ_APPLIED] ∧ sub = p.val + 1) s t) ∧
  (∀ (s : State) (p : Fin 8), s.test[p].injKind ≠ 6 → exec (.forcedLosEnd p) s = .next s) ∧
  (∀ (s : State) (r : Req), s.Accepts r .exec Ob.TEST_CAP_ARM 0 [0] →
    ∃ u : State, exec (.capArm r) s = .next (u.reply r .exec Ob.TEST_CAP_ARM 0 St.OK []) ∧
      u = { s.taken r .exec Ob.TEST_CAP_ARM 0 [0] with regs := u.regs, cap := {} } ∧ u.reg Ob.TEST_CAP_STATE 0 = 1 ∧
      KeepsRegs (fun ix _ => ix = Ob.MMP_RX_FRAMES ∨ ix = Ob.TEST_CAP_STATE) s u) ∧
  (∀ (s : State) (r : Req), s.Accepts r .exec Ob.TEST_CAP_TRIGGER 0 [0] →
    (s.reg Ob.TEST_CAP_STATE 0 = 1 → s.reg Ob.TEST_CAP_TRIG 0 = 0 →
      ∃ u : State, exec (.capTrigger r) s = .next (u.reply r .exec Ob.TEST_CAP_TRIGGER 0 St.OK []) ∧
        u = { s.taken r .exec Ob.TEST_CAP_TRIGGER 0 [0] with regs := u.regs, cap := u.cap } ∧ u.reg Ob.TEST_CAP_STATE 0 = 2 ∧
        u.cap.left.isSome = true ∧ u.cap.ring = s.cap.ring ∧
        u.reg Ob.TEST_CAP_TRIG_STAMP 0 = (s.stamp : Int) ∧
        KeepsRegs (fun ix _ => ix = Ob.MMP_RX_FRAMES ∨ ix = Ob.TEST_CAP_STATE ∨ ix = Ob.TEST_CAP_TRIG_STAMP) s u) ∧
    ((s.reg Ob.TEST_CAP_STATE 0 ≠ 1 ∨ s.reg Ob.TEST_CAP_TRIG 0 ≠ 0) → exec (.capTrigger r) s =
      .next ((s.taken r .exec Ob.TEST_CAP_TRIGGER 0 [0]).reply r .exec Ob.TEST_CAP_TRIGGER 0 St.CONFIG_CONFLICT []))) ∧
  (∀ s : State, (s.reg Ob.TEST_CAP_STATE 0 = 1 → s.reg Ob.TEST_CAP_TRIG 0 = 1 → s.nat Ob.TEST_CAP_TRIG_TIME 0 ≤ s.stamp →
      ∃ t : State, exec .capTimeTrigger s = .next t ∧ t = { s with regs := t.regs, cap := t.cap } ∧ t.reg Ob.TEST_CAP_STATE 0 = 2 ∧
        t.reg Ob.TEST_CAP_TRIG_STAMP 0 = (s.stamp : Int) ∧
        KeepsRegs (fun ix _ => ix = Ob.TEST_CAP_STATE ∨ ix = Ob.TEST_CAP_TRIG_STAMP) s t) ∧
    ((s.reg Ob.TEST_CAP_STATE 0 ≠ 1 ∨ s.reg Ob.TEST_CAP_TRIG 0 ≠ 1 ∨ s.stamp < s.nat Ob.TEST_CAP_TRIG_TIME 0) →
      exec .capTimeTrigger s = .next s)) ∧
  (∀ s : State, s.reg Ob.TEST_CAP_STATE 0 = 2 → s.cap.left = some 0 →
    (let data := capPack (s.reg Ob.TEST_CAP_SOURCE 0) (s.cap.ring.reverse.map (·.1))
     data.length ≤ 2097152 →
    ∃ t : State, exec .capDone s = .next t ∧
      t = { s with regs := t.regs, blobs := t.blobs, lookout := t.lookout, capLost := none, cap := t.cap } ∧ t.reg Ob.TEST_CAP_STATE 0 = 3 ∧
      (t.blob Ob.TEST_CAP_DATA 0).take data.length = data ∧
      (∀ e : Nat × Nat, s.cap.ring.getLast? = some e → t.reg Ob.TEST_CAP_START_TIME 0 = (e.2 : Int)) ∧
      t.reg Ob.TEST_CAP_ENTRIES 0 = (s.cap.ring.length : Int) ∧
      t.reg Ob.TEST_EVENTS (s.nat Ob.TEST_CAP_LANE 0 + 1) =
        (min (2 ^ 32 - 1) (s.nat Ob.TEST_EVENTS (s.nat Ob.TEST_CAP_LANE 0 + 1) + 1) : Nat))) ∧
  (∀ s : State, (s.reg Ob.TEST_CAP_STATE 0 ≠ 2 ∨ s.cap.left ≠ some 0) → exec .capDone s = .next s)

/-! ## The dictionary and its protocol (chapter 13) -/

/-- R26, R345 to R347: a READ answers an element's value; a WRITE of an element whose chapter says no more of it stores its value, and an EXEC
of the peak-clearing commands clears the peaks; READ_BLOCK answers the bytes asked for, or RANGE past the value's end; the
blocks of WRITE_BLOCK gather in order, the last one commits the value, one out of order gives up the sequence, and so does its
timeout; WALK describes the first object at or above the index that the requester can reach, or answers END. -/
def Obligations.ObjectsReadWriteAndWalk : Prop :=
  (∀ (s : State) (r : Req) (ix sub : Nat) (row : ObjRow), objRow? ix = some row → row.ty.isBytes = false → ix ∉ computedObjs →
    s.Accepts r .read ix sub [] →
    exec (.mmpRead r ix sub []) s = .next ((s.taken r .read ix sub []).reply r .read ix sub St.OK
      (leInt row.len ((s.taken r .read ix sub []).reg ix
        (match (s.taken r .read ix sub []).absorbedBy ix sub with | some q => q + 1 | none => sub))))) ∧
  (∀ (s : State) (r : Req), s.Accepts r .read Ob.TIME_NOW 0 [] →
    exec (.mmpRead r Ob.TIME_NOW 0 []) s = .next ((s.taken r .read Ob.TIME_NOW 0 []).reply r .read Ob.TIME_NOW 0 St.OK
      (leInt 12 (s.stamp : Int)))) ∧
  (∀ (s : State) (r : Req) (ix sub : Nat) (pl : List Byte) (row : ObjRow), objRow? ix = some row → sub < 256 →
    s.Accepts r .write ix sub pl →
    (row.ty.isBytes = false → ix / 256 ∉ ruledChapters →
      ∃ u : State, exec (.mmpWrite r false ix sub pl) s = .next (u.reply r .write ix sub St.OK []) ∧
        u = { s.taken r .write ix sub pl with regs := u.regs } ∧ u.reg ix sub = decodeVal row.ty pl ∧
        KeepsRegs (fun jx js => jx = Ob.MMP_RX_FRAMES ∨ (jx = ix ∧ js = sub)) s u) ∧
    (row.ty.isBytes = true → ix ∉ ruledBytes →
      ∃ u : State, exec (.mmpWrite r false ix sub pl) s = .next (u.reply r .write ix sub St.OK []) ∧
        u = { s.taken r .write ix sub pl with blobs := u.blobs, mmp := u.mmp } ∧ u.blob ix sub = pl ∧
        (∀ q ∈ u.mmp.seqs, ¬(q.ix = ix ∧ q.sub = sub)) ∧
        (∀ jx js, js < 256 → ¬(jx = ix ∧ js = sub) → u.blob jx js = s.blob jx js))) ∧
  (∀ (s : State) (r : Req), s.Accepts r .exec Ob.RETRY_CLEAR_PEAKS 0 [0] →
    ∃ u : State, exec (.mmpWrite r true Ob.RETRY_CLEAR_PEAKS 0 [0]) s = .next (u.reply r .exec Ob.RETRY_CLEAR_PEAKS 0 St.OK []) ∧
      u = { s.taken r .exec Ob.RETRY_CLEAR_PEAKS 0 [0] with regs := u.regs } ∧
      (∀ p : Fin 8, u.reg Ob.RETRY_OUTSTANDING_PEAK (p.val + 1) = 0 ∧ u.reg Ob.RETRY_HOLD_PEAK (p.val + 1) = 0) ∧
      KeepsRegs (fun ix _ => ix ∈ [Ob.MMP_RX_FRAMES, Ob.RETRY_OUTSTANDING_PEAK, Ob.RETRY_HOLD_PEAK]) s u) ∧
  (∀ (s : State) (r : Req) (ix sub off cnt : Nat) (b : List Byte), off < 2 ^ 32 → cnt < 2 ^ 16 →
    s.Accepts r .readBlock ix sub (leBytes 4 off ++ leBytes 2 cnt) → ix ∉ readEffects → s.absorbedBy ix sub = none →
    (s.taken r .readBlock ix sub (leBytes 4 off ++ leBytes 2 cnt)).bytesOf (s.cls r.path) ix sub = some b →
    (off + cnt ≤ b.length → (ix = Ob.TEST_CAP_DATA → b.length = 2097152) →
      exec (.mmpReadBlock r ix sub (leBytes 4 off ++ leBytes 2 cnt)) s =
        .next ((s.taken r .readBlock ix sub (leBytes 4 off ++ leBytes 2 cnt)).reply r .readBlock ix sub St.OK ((b.drop off).take cnt))) ∧
    (b.length < off + cnt → exec (.mmpReadBlock r ix sub (leBytes 4 off ++ leBytes 2 cnt)) s =
      .next ((s.taken r .readBlock ix sub (leBytes 4 off ++ leBytes 2 cnt)).reply r .readBlock ix sub St.RANGE []))) ∧
  (∀ (s : State) (r : Req) (ix sub off : Nat) (data have_ : List Byte) (row : ObjRow), off < 2 ^ 32 → objRow? ix = some row →
    ix ≠ Ob.UPDATE_STAGING → data.length ≤ 4096 → s.Accepts r .writeBlock ix sub (leBytes 4 off ++ data) →
    ((s.mmp.seqs.find? (fun q => q.ix == ix && q.sub == sub) = none ∧ have_ = []) ∨
      s.mmp.seqs.find? (fun q => q.ix == ix && q.sub == sub) = some ⟨ix, sub, r.path, have_⟩) →
    (off = have_.length → off + data.length < row.len →
      ∃ u : State, exec (.mmpWriteBlock r ix sub (leBytes 4 off ++ data)) s = .next (u.reply r .writeBlock ix sub St.OK []) ∧
        u = { s.taken r .writeBlock ix sub (leBytes 4 off ++ data) with mmp := u.mmp } ∧
        u.mmp.seqs.find? (fun q => q.ix == ix && q.sub == sub) = some ⟨ix, sub, r.path, have_ ++ data⟩) ∧
    (off = have_.length → off + data.length = row.len → ix ∉ ruledBytes →
      ∃ u : State, exec (.mmpWriteBlock r ix sub (leBytes 4 off ++ data)) s = .next (u.reply r .writeBlock ix sub St.OK []) ∧
        u = { s.taken r .writeBlock ix sub (leBytes 4 off ++ data) with blobs := u.blobs, mmp := u.mmp } ∧
        u.blob ix sub = have_ ++ data ∧ u.mmp.seqs.find? (fun q => q.ix == ix && q.sub == sub) = none) ∧
    (off = have_.length → row.len < off + data.length →
      exec (.mmpWriteBlock r ix sub (leBytes 4 off ++ data)) s =
        .next ((s.taken r .writeBlock ix sub (leBytes 4 off ++ data)).reply r .writeBlock ix sub St.RANGE [])) ∧
    (off ≠ have_.length →
      ∃ u : State, exec (.mmpWriteBlock r ix sub (leBytes 4 off ++ data)) s = .next (u.reply r .writeBlock ix sub St.BLOCK_ORDER []) ∧
        u = { s.taken r .writeBlock ix sub (leBytes 4 off ++ data) with mmp := u.mmp } ∧
        u.mmp.seqs.find? (fun q => q.ix == ix && q.sub == sub) = none)) ∧
  (∀ (s : State) (ix sub : Nat), ∃ t : State, exec (.blockSequenceTimeout ix sub) s = .next t ∧ t = { s with mmp := t.mmp } ∧
    t.mmp = { s.mmp with seqs := t.mmp.seqs } ∧
    (∀ q : BlockSeq, q ∈ t.mmp.seqs ↔ q ∈ s.mmp.seqs ∧ ¬(q.ix = ix ∧ q.sub = sub))) ∧
  (∀ (s : State) (r : Req) (ix sub : Nat), s.Accepts r .walk ix sub [] →
    ((∀ row ∈ objTable, ix ≤ row.ix → s.walks (s.cls r.path) (viewOf r) row = false) →
      exec (.mmpWalk r ix sub []) s = .next ((s.taken r .walk ix sub []).reply r .walk ix sub St.END [])) ∧
    (∀ row ∈ objTable, ix ≤ row.ix → s.walks (s.cls r.path) (viewOf r) row = true →
      (∀ k ∈ objTable, ix ≤ k.ix → s.walks (s.cls r.path) (viewOf r) k = true → row.ix ≤ k.ix) →
      ∃ (u : State) (out : List Byte), exec (.mmpWalk r ix sub []) s = .next (u.replyAt r .walk row.ix 0 St.OK out) ∧
        u = { s.taken r .walk ix sub [] with freeCount := u.freeCount } ∧
        out.take 2 = leBytes 1 row.hi ++ leBytes 1 row.ty.code ∧
        (out.drop 15).take row.name.length = row.name.toList.map (fun ch => BitVec.ofNat 8 ch.toNat)))

/-- R343, R349, R350 and R357: a request with RMT set goes to the far end of an ALIGNED or CARRYING native port whose partner serves it, on a
free in-band tag; no such port answers CONFIG_CONFLICT. The far reply goes to the host with the host's TAG; one that matches no
request counts as late, and one with a wrong CRC as a frame error. A request without a reply is sent again while retries are
left, and is then answered PARTNER_TIMEOUT with its count and event. -/
def Obligations.ForwardedRequestsAreAnswered : Prop :=
  (∀ (s : State) (r : Req) (op : Opcode) (p : Fin 8) (ix sub : Nat) (pl : List Byte), r.path.isLocal = true → s.on Dom.MGT = true →
    (opChanges op = true → ∀ l ∈ (s.tp r.path).last, l.tag = r.tag → l.crc ≠ crc16 (forwardBody r op p.val ix sub pl)) →
    s.tagBusy r.path r.tag = false → (s.arrive r.path (closeFrame (forwardBody r op p.val ix sub pl))).outstanding r.path < 8 →
    s.reg Ob.DICT_STATE 0 = 1 → s.reg Ob.LC_STATE 0 ≠ 0 → s.reg Ob.LC_STATE 0 ≠ 5 →
    (s.forwards r p.val = some p → (∃ k < 8, ∀ f ∈ s.mmp.fwd[p], f.tag ≠ BitVec.ofNat 8 k) →
      ∃ (t : State) (tag : Byte), exec (.mmpForwardRequest r op p.val ix sub pl) s = .next t ∧ tag.toNat < 8 ∧
        (∀ f ∈ s.mmp.fwd[p], f.tag ≠ tag) ∧ t = { s with regs := t.regs, mmp := t.mmp } ∧
        t.mmp.fwd[p] = s.mmp.fwd[p] ++ [⟨tag, r, opByte r op + 32, ix, sub, forwardFrame r op tag ix sub pl,
          s.nat Ob.MMP_FAR_RETRIES (p.val + 1)⟩] ∧
        (t.tp (.inband p)).replies = (s.tp (.inband p)).replies ++ [forwardFrame r op tag ix sub pl] ∧
        (∀ q : Fin 8, q ≠ p → t.mmp.fwd[q] = s.mmp.fwd[q]) ∧ KeepsRegs (fun ix _ => ix = Ob.MMP_RX_FRAMES) s t) ∧
    (s.forwards r p.val = none →
      ∃ t : State, exec (.mmpForwardRequest r op p.val ix sub pl) s = .next t ∧ t = { s with regs := t.regs, mmp := t.mmp } ∧
        (let out := replyFrame (opByte r op + 32) r.tag ix sub St.CONFIG_CONFLICT []
         (t.tp r.path).replies = (s.tp r.path).replies ++ [if r.path = .mdio ∧ out.length % 2 = 1 then out ++ [0] else out]) ∧
        t.mmp.fwd = s.mmp.fwd ∧ KeepsRegs (fun ix _ => ix = Ob.MMP_RX_FRAMES) s t)) ∧
  (∀ (s : State) (p : Fin 8) (frame : List Byte), s.on Dom.MGT = true → bitOf (frame.getD 1 0).toNat 7 = true → crcHolds frame = true →
    (∀ f, s.mmp.fwd[p].find? (fun g => g.tag == frame.getD 2 0) = some f →
      ∃ t : State, exec (.mmpFarReply p frame) s = .next t ∧ t = { s with regs := t.regs, mmp := t.mmp } ∧
        (∀ g, g ∈ t.mmp.fwd[p] ↔ g ∈ s.mmp.fwd[p] ∧ g.tag ≠ f.tag) ∧ (∀ q : Fin 8, q ≠ p → t.mmp.fwd[q] = s.mmp.fwd[q]) ∧
        (let out := replyFrame f.opByte f.host.tag (leNat ((frame.drop 3).take 2)) (frame.getD 5 0).toNat (frame.getD 8 0).toNat
           ((frame.drop 9).take (leNat ((frame.drop 6).take 2)))
         (t.tp f.host.path).replies = (s.tp f.host.path).replies ++ [if f.host.path = .mdio ∧ out.length % 2 = 1 then out ++ [0] else out]) ∧
        KeepsRegs (fun ix _ => ix = Ob.MMP_RX_FRAMES) s t) ∧
    (s.mmp.fwd[p].find? (fun g => g.tag == frame.getD 2 0) = none →
      ∃ t : State, exec (.mmpFarReply p frame) s = .next t ∧ t = { s with regs := t.regs, mmp := t.mmp } ∧ t.mmp.fwd = s.mmp.fwd ∧
        t.reg Ob.MMP_FAR_LATE (p.val + 1) = (min (2 ^ 32 - 1) (s.nat Ob.MMP_FAR_LATE (p.val + 1) + 1) : Nat) ∧
        KeepsRegs (fun ix sub => ix = Ob.MMP_RX_FRAMES ∨ (ix = Ob.MMP_FAR_LATE ∧ sub = p.val + 1)) s t)) ∧
  (∀ (s : State) (p : Fin 8) (frame : List Byte), s.on Dom.MGT = true → bitOf (frame.getD 1 0).toNat 7 = true → crcHolds frame = false →
    ∃ t : State, exec (.mmpFarReply p frame) s = .next t ∧ t = { s with regs := t.regs, lookout := t.lookout, cap := t.cap } ∧
      t.reg Ob.MMP_FRAME_ERRORS (4 + p.val) = (min (2 ^ 32 - 1) (s.nat Ob.MMP_FRAME_ERRORS (4 + p.val) + 1) : Nat) ∧
      t.reg Ob.MMP_EVENTS (4 + p.val) = (min (2 ^ 32 - 1) (s.nat Ob.MMP_EVENTS (4 + p.val) + 1) : Nat) ∧
      KeepsRegs (fun ix sub => (ix ∈ [Ob.MMP_FRAME_ERRORS, Ob.MMP_EVENTS] ∧ sub = 4 + p.val) ∨ EventObj ix sub) s t) ∧
  (∀ (s : State) (p : Fin 8) (tag : Byte) (f : Forward), s.mmp.fwd[p].find? (fun g => g.tag == tag) = some f →
    (0 < f.left → ∃ t : State, exec (.mmpFarTimeout p tag) s = .next t ∧ t = { s with mmp := t.mmp } ∧
      t.mmp.fwd[p] = s.mmp.fwd[p].map (fun g => if g.tag = tag then { g with left := g.left - 1 } else g) ∧
      (∀ q : Fin 8, q ≠ p → t.mmp.fwd[q] = s.mmp.fwd[q]) ∧
      (t.tp (.inband p)).replies = (s.tp (.inband p)).replies ++ [f.bytes]) ∧
    (f.left = 0 → ∃ t : State, exec (.mmpFarTimeout p tag) s = .next t ∧ t = { s with regs := t.regs, mmp := t.mmp, lookout := t.lookout, cap := t.cap } ∧
      (∀ g, g ∈ t.mmp.fwd[p] ↔ g ∈ s.mmp.fwd[p] ∧ g.tag ≠ tag) ∧ (∀ q : Fin 8, q ≠ p → t.mmp.fwd[q] = s.mmp.fwd[q]) ∧
      (let out := replyFrame f.opByte f.host.tag f.ix f.sub St.PARTNER_TIMEOUT []
       (t.tp f.host.path).replies = (s.tp f.host.path).replies ++ [if f.host.path = .mdio ∧ out.length % 2 = 1 then out ++ [0] else out]) ∧
      t.reg Ob.MMP_FAR_TIMEOUTS (p.val + 1) = (min (2 ^ 32 - 1) (s.nat Ob.MMP_FAR_TIMEOUTS (p.val + 1) + 1) : Nat) ∧
      t.reg Ob.MMP_EVENTS (4 + p.val) = (min (2 ^ 32 - 1) (s.nat Ob.MMP_EVENTS (4 + p.val) + 1) : Nat) ∧
      KeepsRegs (fun ix sub => (ix = Ob.MMP_FAR_TIMEOUTS ∧ sub = p.val + 1) ∨ (ix = Ob.MMP_EVENTS ∧ sub = 4 + p.val) ∨
        EventObj ix sub) s t)) ∧
  (∀ (s : State) (p : Fin 8) (tag : Byte), s.mmp.fwd[p].find? (fun g => g.tag == tag) = none → exec (.mmpFarTimeout p tag) s = .next s)

/-- R353 to R356 and R435: the request bytes of a whole frame with a good CRC make one accepted request, which latches the counter (R51); a PULL of one reply clocks
out its count and its bytes, and nothing where none waits; the status byte shows READY, a waiting reply, room and the hold;
MDIO moves the same bytes a word at a time, and bit 15 of its status discards both sides; while MGT rests a transaction is
answered by the stand-in and wakes it. -/
def Obligations.TransportsCarryFrames : Prop :=
  (∀ (s : State) (r : Req) (op : Opcode) (ix sub : Nat) (pl frame : List Byte), frame = closeFrame (frameBody r op ix sub pl) →
    s.on Dom.MGT = true → (s.tp r.path).rx = [] → (s.tp r.path).skip = 0 → (schemaPrefix r ++ pl).length ≤ 4112 →
    ((s.tp r.path).accepted.map (fun f => f.bytes.length)).sum + frame.length ≤ 8192 →
    (opChanges op = true → ∀ l ∈ (s.tp r.path).last, l.tag = r.tag → l.crc ≠ crc16 (frameBody r op ix sub pl)) →
    (r.path = .spi → ∃ t : State, exec (.spiPush frame) s = .next t ∧ t = { s with regs := t.regs, mmp := t.mmp } ∧
      t.tp .spi = { s.tp .spi with
        rxLpl := 3, out := [BitVec.ofNat 8 (s.statusByte .spi)], accepted := (s.tp .spi).accepted ++ [⟨frame, s.stamp⟩] } ∧
      t.reg Ob.MMP_RX_FRAMES 1 = (min (2 ^ 32 - 1) (s.nat Ob.MMP_RX_FRAMES 1 + 1) : Nat) ∧
      KeepsRegs (fun jx js => jx = Ob.MMP_RX_FRAMES ∧ js = 1) s t) ∧
    (r.path = .i2c → ∃ t : State, exec (.i2cPush frame) s = .next t ∧ t = { s with regs := t.regs, mmp := t.mmp } ∧
      t.tp .i2c = { s.tp .i2c with rxLpl := 3, out := [], accepted := (s.tp .i2c).accepted ++ [⟨frame, s.stamp⟩] } ∧
      t.reg Ob.MMP_RX_FRAMES 2 = (min (2 ^ 32 - 1) (s.nat Ob.MMP_RX_FRAMES 2 + 1) : Nat) ∧
      KeepsRegs (fun jx js => jx = Ob.MMP_RX_FRAMES ∧ js = 2) s t)) ∧
  (∀ (s : State) (bs : List Byte), s.on Dom.MGT = true → (s.tp .spi).rx = [] → (s.tp .spi).skip = 0 → (∀ b ∈ bs, b ≠ 0xA5) →
    ∃ t : State, exec (.spiPush bs) s = .next t ∧ t = { s with mmp := t.mmp } ∧
      t.tp .spi = { s.tp .spi with out := [BitVec.ofNat 8 (s.statusByte .spi)] }) ∧
  (∀ (s : State) (w : BitVec 16), s.on Dom.MGT = true → (s.tp .mdio).skip = 0 → 1 ≤ (s.tp .mdio).rx.length →
    (s.tp .mdio).rx.length ≤ 5 →
    ∃ t : State, exec (.mdioMmpPush w) s = .next t ∧ t = { s with mmp := t.mmp } ∧
      t.tp .mdio = { s.tp .mdio with rx := (s.tp .mdio).rx ++ beBytes 2 w.toNat }) ∧
  (∀ (s : State) (f : List Byte) (fs : List (List Byte)), s.on Dom.MGT = true → 2 ≤ f.length → f.length ≤ 8192 →
    ((s.tp .spi).replies = f :: fs →
      ∃ t : State, exec (.spiPull (2 + f.length)) s = .next t ∧ t = { s with mmp := t.mmp } ∧
        t.tp .spi = { s.tp .spi with
          replies := fs, out := BitVec.ofNat 8 (s.statusByte .spi) :: (leBytes 2 (pullCount 8192 (f :: fs)) ++ f) }) ∧
    ((s.tp .i2c).replies = f :: fs →
      ∃ t : State, exec (.i2cPull (2 + f.length)) s = .next t ∧ t = { s with mmp := t.mmp } ∧
        t.tp .i2c = { s.tp .i2c with replies := fs, out := leBytes 2 (pullCount 8192 (f :: fs)) ++ f }) ∧
    ((s.tp .mdio).replies = f :: fs →
      ∃ t : State, exec .mdioMmpPull s = .next t ∧ t = { s with mmp := t.mmp } ∧
        t.tp .mdio = { s.tp .mdio with replies := (if f.length = 2 then fs else f.drop 2 :: fs), out := f.take 2 })) ∧
  (∀ (s : State) (n : Nat), s.on Dom.MGT = true →
    ((s.tp .spi).replies = [] → ∃ t : State, exec (.spiPull (2 + n)) s = .next t ∧ t = { s with mmp := t.mmp } ∧
      t.tp .spi = { s.tp .spi with out := BitVec.ofNat 8 (s.statusByte .spi) :: List.replicate (2 + n) 0 }) ∧
    ((s.tp .mdio).replies = [] → ∃ t : State, exec .mdioMmpPull s = .next t ∧ t = { s with mmp := t.mmp } ∧
      t.tp .mdio = { s.tp .mdio with out := [0, 0] })) ∧
  (∀ s : State, s.on Dom.MGT = true →
    (∃ t : State, exec .spiStatus s = .next t ∧ t = { s with mmp := t.mmp } ∧ t.tp .spi = { s.tp .spi with
      out := [BitVec.ofNat 8 ((if s.reg Ob.DICT_STATE 0 = 1 then 128 else 0) + (if (s.tp .spi).replies = [] then 0 else 64) +
        (if (s.tp .spi).used + 4122 ≤ 8192 then 32 else 0) +
        (if s.reg Ob.DICT_STATE 0 = 2 ∨ s.reg Ob.DICT_STATE 0 = 3 then 16 else 0) + 1)] }) ∧
    (∃ t : State, exec .i2cStatusRead s = .next t ∧ t = { s with mmp := t.mmp } ∧
      t.tp .i2c = { s.tp .i2c with out := [BitVec.ofNat 8 (s.statusByte .i2c)] }) ∧
    (∀ w : BitVec 16, (bitOf w.toNat 15 = true → ∃ t : State, exec (.mdioMmpStatusWrite w) s = .next t ∧ t = { s with mmp := t.mmp } ∧
        t.tp .mdio = { s.tp .mdio with rx := [], skip := 0, replies := [] }) ∧
      (bitOf w.toNat 15 = false → exec (.mdioMmpStatusWrite w) s = .next s)) ∧
    (∀ via : Option Path, exec (.mgtStandinWake via) s = .next s)) ∧
  (∀ (s : State) (bs : List Byte) (n : Nat) (w : BitVec 16) (q : Path) (c : Instr), s.pwr Dom.MGT = 1 → s.doms[Dom.MGT].barred = false →
    (q, c) ∈ [(Path.spi, Instr.spiPush bs), (Path.spi, Instr.spiPull n), (Path.spi, Instr.spiStatus), (Path.i2c, Instr.i2cPush bs),
      (Path.i2c, Instr.i2cPull n), (Path.i2c, Instr.i2cStatusRead), (Path.mdio, Instr.mdioMmpPush w), (Path.mdio, Instr.mdioMmpPull),
      (Path.mdio, Instr.mdioMmpStatusWrite w), (q, Instr.mgtStandinWake (some q))] → q.isLocal = true →
    ∃ t : State, exec c s = .next t ∧ t.tp q = { s.tp q with out := [1] } ∧ t.pwr Dom.MGT = 4 ∧ bitOf (t.votes Dom.MGT) Vote.HOST = true ∧
      t = { s with regs := t.regs, doms := t.doms, mmp := t.mmp } ∧
      KeepsRegs (fun ix sub => ix ∈ [Ob.POWER_VOTES, Ob.POWER_VOTE_HOST, Ob.POWER_RES_RET_US, Ob.POWER_STATE, Ob.POWER_STATE_TIME] ∧
        sub = Dom.MGT.val + 1) s t)

/-- R340, R358 and R447: a read of MMP.PRIV_CHALLENGE gives fresh bytes that its transport holds; MMP.PRIV_OPEN opens a session where the signature
verifies under a key of the life-cycle state, and else fails with AUTH_FAIL, its count and event, the third failure in a row
locking the transport out; the lockout, a close and the idle time end what they end. DICT.SAVE starts a save of what is
pending, has nothing to do where nothing is, and is BUSY in a device's save or within 60 s of the last; RESTORE_DEFAULTS gives
an element its default without saving it; a read of DICT.STATE that returns READY, but not from the far end, releases INT_N. -/
def Obligations.SessionsAndSettingsCommands : Prop :=
  (∀ (s : State) (r : Req), s.Accepts r .read Ob.MMP_PRIV_CHALLENGE 0 [] →
    ∃ u : State, exec (.privChallengeRead r) s = .next (u.reply r .read Ob.MMP_PRIV_CHALLENGE 0 St.OK (Config.randomBytes s.freeCount)) ∧
      u = { s.taken r .read Ob.MMP_PRIV_CHALLENGE 0 [] with mmp := u.mmp, freeCount := s.freeCount + 1 } ∧
      (u.tp r.path).challenge = some (Config.randomBytes s.freeCount)) ∧
  (∀ (s : State) (r : Req) (sig : List Byte), s.Accepts r .exec Ob.MMP_PRIV_OPEN 0 sig →
    (∀ k, (s.tp r.path).locked = false → s.keyThatOpens r.path sig = some k →
      ∃ u : State, exec (.privOpen r sig) s = .next (u.reply r .exec Ob.MMP_PRIV_OPEN 0 St.OK []) ∧
        u = { s.taken r .exec Ob.MMP_PRIV_OPEN 0 sig with mmp := u.mmp } ∧ (u.tp r.path).session = some k ∧ (u.tp r.path).fails = 0 ∧
        (u.tp r.path).challenge = none) ∧
    (((s.tp r.path).locked = true ∨ s.keyThatOpens r.path sig = none) →
      ∃ u : State, exec (.privOpen r sig) s = .next (u.reply r .exec Ob.MMP_PRIV_OPEN 0 St.AUTH_FAIL []) ∧
        u = { s.taken r .exec Ob.MMP_PRIV_OPEN 0 sig with regs := u.regs, mmp := u.mmp, lookout := u.lookout, cap := u.cap } ∧
        (u.tp r.path).session = (s.tp r.path).session ∧ (u.tp r.path).challenge = none ∧
        ((s.tp r.path).locked = false → (u.tp r.path).fails = (s.tp r.path).fails + 1 ∧
          (u.tp r.path).locked = decide (2 ≤ (s.tp r.path).fails)) ∧
        ((s.tp r.path).locked = true → (u.tp r.path).locked = true ∧ (u.tp r.path).fails = (s.tp r.path).fails) ∧
        u.reg Ob.MMP_PRIV_FAILS 0 = (min (2 ^ 32 - 1) (s.nat Ob.MMP_PRIV_FAILS 0 + 1) : Nat) ∧
        u.reg Ob.MMP_EVENTS r.path.sub = (min (2 ^ 32 - 1) (s.nat Ob.MMP_EVENTS r.path.sub + 1) : Nat) ∧
        KeepsRegs (fun ix sub => ix = Ob.MMP_RX_FRAMES ∨ ix = Ob.MMP_PRIV_FAILS ∨ (ix = Ob.MMP_EVENTS ∧ sub = r.path.sub) ∨
          EventObj ix sub) s u)) ∧
  (∀ (s : State) (r : Req), s.Accepts r .exec Ob.MMP_PRIV_CLOSE 0 [0] →
    ∃ u : State, exec (.privClose r) s = .next (u.reply r .exec Ob.MMP_PRIV_CLOSE 0 St.OK []) ∧
      u = { s.taken r .exec Ob.MMP_PRIV_CLOSE 0 [0] with mmp := u.mmp } ∧ (u.tp r.path).session = none) ∧
  (∀ (s : State) (q : Path),
    ((s.tp q).locked = true → ∃ t : State, exec (.privLockoutEnd q) s = .next t ∧ t = { s with mmp := t.mmp } ∧
      t.tp q = { s.tp q with locked := false, fails := 0 }) ∧
    ((s.tp q).locked = false → exec (.privLockoutEnd q) s = .next s) ∧
    ((s.tp q).session ≠ none → ∃ t : State, exec (.privIdleTimeout q) s = .next t ∧ t = { s with mmp := t.mmp } ∧
      t.tp q = { s.tp q with session := none }) ∧
    ((s.tp q).session = none → exec (.privIdleTimeout q) s = .next s)) ∧
  (∀ (s : State) (r : Req), s.Accepts r .exec Ob.DICT_SAVE 0 [0] →
    (s.upd.save = none → (s.taken r .exec Ob.DICT_SAVE 0 [0]).savePending = false →
      exec (.dictSave r) s = .next ((s.taken r .exec Ob.DICT_SAVE 0 [0]).reply r .exec Ob.DICT_SAVE 0 St.OK [])) ∧
    (s.upd.save = none → (s.taken r .exec Ob.DICT_SAVE 0 [0]).savePending = true →
      (∀ t, s.upd.savedAt = some t → 60 * refclkHz ≤ s.time.now - t) →
      ∃ u : State, exec (.dictSave r) s = .next (u.pendAdd ⟨r, .exec, Ob.DICT_SAVE, 0⟩) ∧
        u = { s.taken r .exec Ob.DICT_SAVE 0 [0] with savedRegs := u.savedRegs, savedBlobs := u.savedBlobs, upd := u.upd } ∧
        u.savePending = false ∧ (∃ v, u.upd.save = some v ∧ v.dict = true ∧ v.confirm = false)) ∧
    (∀ t, s.upd.save = none → (s.taken r .exec Ob.DICT_SAVE 0 [0]).savePending = true → s.upd.savedAt = some t →
      s.time.now - t < 60 * refclkHz →
      exec (.dictSave r) s = .next ((s.taken r .exec Ob.DICT_SAVE 0 [0]).reply r .exec Ob.DICT_SAVE 0 St.BUSY [])) ∧
    (∀ v, s.upd.save = some v → v.dict = false →
      exec (.dictSave r) s = .next ((s.taken r .exec Ob.DICT_SAVE 0 [0]).reply r .exec Ob.DICT_SAVE 0 St.BUSY []))) ∧
  (∀ (s : State) (r : Req) (row : ObjRow) (sub : Nat), s.Accepts r .exec Ob.DICT_RESTORE_DEFAULTS 0 [0] → row ∈ savedRows →
    sub ∈ elements row → row.ty.isBytes = false → row.ix / 256 ∉ ruledChapters → row.ix ≠ Ob.COMPASS_PLAN_MV →
    (∀ k ∈ savedRows, ∀ m ∈ elements k, ¬(k.ix = row.ix ∧ m = sub) →
      if k.ty.isBytes then s.blob k.ix m = blobDefault (objKey k.ix m)
      else s.reg k.ix m = (if k.ix = Ob.COMPASS_PLAN_MV then ((fieldOf (s.fuseWord 51) 32 16 : Nat) : Int) else numDefault k.ix m)) →
    ∃ u : State, exec (.dictRestoreDefaults r) s = .next (u.reply r .exec Ob.DICT_RESTORE_DEFAULTS 0 St.OK []) ∧
      u.reg row.ix sub = numDefault row.ix sub ∧ u.flash = s.flash ∧ u.savedRegs = s.savedRegs ∧ u.savedBlobs = s.savedBlobs ∧
      u.time = s.time) ∧
  (∀ (s : State) (r : Req), s.Accepts r .read Ob.DICT_STATE 0 [] →
    ∃ u : State, exec (.dictStateRead r) s = .next (u.reply r .read Ob.DICT_STATE 0 St.OK (leInt 1 (s.reg Ob.DICT_STATE 0))) ∧
      u = { s.taken r .read Ob.DICT_STATE 0 [] with start := u.start } ∧
      u.start = { s.start with ready := if s.reg Ob.DICT_STATE 0 = 1 ∧ r.path.isLocal = true then false else s.start.ready })

/-! ## Housekeeping (chapter 14) -/

/-- R376: a conversion writes each converter's result word: its corrected code in bits 13:0, its channel in 19:16, the results written modulo 64
in 29:24, VALID, and OVERRUN where the result before stood unread; the other bits read 0. A calibration clears VALID. A read
returns the word and clears OVERRUN. -/
def Obligations.AdcResultWords : Prop :=
  (∀ (s : State) (raw : Vector Nat 4), s.hkLive = true → s.hk.calRun = false → s.reg Ob.HK_REF_READY 0 ≠ 0 →
    s.trigArmed = true → (∀ t0, s.hk.convAt = some t0 → 5000 ≤ (s.time.now - t0 + 1) * 64) →
    ∃ t : State, exec (.hkTrigger .selected raw) s = .next t ∧
      ∀ c : Fin 4,
        let w := t.nat Ob.HK_ADC_RESULT (c.val + 1)
        w % 2 ^ 14 = correctedCode (s.reg Ob.HK_CAL_OFFSET (c.val + 1)) (s.reg Ob.HK_CAL_GAIN (c.val + 1)) raw[c] ∧
        w / 2 ^ 14 % 4 = 0 ∧ w / 2 ^ 16 % 16 = s.nextChannel c % 16 ∧ w / 2 ^ 20 % 16 = 0 ∧
        w / 2 ^ 24 % 64 = (s.hk.conv[c].seq + 1) % 64 ∧ t.hk.conv[c].seq = (s.hk.conv[c].seq + 1) % 64 ∧ bitOf w 30 = true ∧
        bitOf w 31 = (s.hk.conv[c].unread || bitOf (s.nat Ob.HK_ADC_RESULT (c.val + 1)) 31) ∧ t.hk.conv[c].unread = true ∧ w < 2 ^ 32) ∧
  (∀ (s : State) (off gain : Vector Int 4) (c : Fin 4), s.hk.calRun = true →
    ∃ t : State, exec (.hkSelfCalDone off gain) s = .next t ∧ bitOf (t.nat Ob.HK_ADC_RESULT (c.val + 1)) 30 = false) ∧
  (∀ (s : State) (r : Req) (c : Fin 4), s.Accepts r .read Ob.HK_ADC_RESULT (c.val + 1) [] →
    ∃ u : State, exec (.hkAdcResultRead r (c.val + 1)) s =
        .next (u.reply r .read Ob.HK_ADC_RESULT (c.val + 1) St.OK (leBytes 4 (s.nat Ob.HK_ADC_RESULT (c.val + 1)))) ∧
      u = { s.taken r .read Ob.HK_ADC_RESULT (c.val + 1) [] with regs := u.regs, hk := u.hk } ∧ u.hk.conv[c].unread = false ∧
      u.reg Ob.HK_ADC_RESULT (c.val + 1) = (withBit (s.nat Ob.HK_ADC_RESULT (c.val + 1)) 31 false : Nat) ∧
      (∀ k : Fin 4, k ≠ c → u.hk.conv[k] = s.hk.conv[k]) ∧
      KeepsRegs (fun ix sub => ix = Ob.MMP_RX_FRAMES ∨ (ix = Ob.HK_ADC_RESULT ∧ sub = c.val + 1)) s u)

/-- R370 to R389: a trigger converts one channel of each converter into its result word, with the last one's unread mark as OVERRUN, and one that
comes too soon counts as missed; a trigger takes the source and the timer as written, with a change for each channel where the rate
changes; the trigger falls back on its timeout; the reference and a self-calibration run and end; a
filter output is the chain's (the resampler's table is free: log entry 9; its rounding and phase the model's: log entry 206) and feeds the
detectors; a LOAD moves every waiting code to its target, a slew step moves an output
towards it, and a short or a PWM period has its effect. Without HK ON, or in the safe state, none of these
has one but the slew steps and the shorts, which need HK alone. -/
def Obligations.HousekeepingConvertsAndDrives : Prop :=
  (∀ (s : State) (raw : Vector Nat 4), s.hkLive = true → s.hk.calRun = false → s.reg Ob.HK_REF_READY 0 ≠ 0 → s.trigArmed = true →
    ((∀ t0, s.hk.convAt = some t0 → 5000 ≤ (s.time.now - t0 + 1) * 64) →
      ∃ t : State, exec (.hkTrigger .selected raw) s = .next t ∧ t = { s with regs := t.regs, hk := t.hk } ∧
        t.hk.convAt = some s.time.now ∧ t.reg Ob.HK_TRIG_STATE 0 = (if s.nat Ob.HK_TRIG_SOURCE 0 = 5 then 2 else 1) ∧
        (∀ c : Fin 4, t.hk.conv[c].unread = true ∧ t.hk.conv[c].seq = (s.hk.conv[c].seq + 1) % 64 ∧
          t.reg Ob.HK_ADC_RESULT (c.val + 1) =
            (resultWord (s.hk.conv[c].unread || bitOf (s.nat Ob.HK_ADC_RESULT (c.val + 1)) 31) true ((s.hk.conv[c].seq + 1) % 64)
              (s.nextChannel c) (correctedCode (s.reg Ob.HK_CAL_OFFSET (c.val + 1)) (s.reg Ob.HK_CAL_GAIN (c.val + 1)) raw[c]) : Nat)) ∧
        t.hk.source = s.nat Ob.HK_TRIG_SOURCE 0 ∧ t.hk.timer = s.nat Ob.HK_TIMER_PERIOD 0 ∧
        KeepsRegs (fun ix _ => ix = Ob.HK_TRIG_STATE ∨ ix = Ob.HK_ADC_RESULT ∨ ix ∈ [Ob.HK_FILT_UNSETTLED, Ob.HK_PEAK_MAX, Ob.HK_PEAK_MIN,
          Ob.HK_RMS, Ob.HK_ENVELOPE]) s t ∧
        (s.trigTake.trigPeriod = s.trigPeriod → s.reg Ob.HK_TRIG_STATE 0 ≠ 3 →
          KeepsRegs (fun ix _ => ix = Ob.HK_TRIG_STATE ∨ ix = Ob.HK_ADC_RESULT) s t)) ∧
    (∀ t0, s.hk.convAt = some t0 → (s.time.now - t0 + 1) * 64 < 5000 → s.nat Ob.HK_TRIG_SOURCE 0 ≠ 5 →
      ∃ t : State, exec (.hkTrigger .selected raw) s = .next t ∧ t = { s with regs := t.regs, hk := t.hk } ∧
        t.hk = { s.hk with source := t.hk.source, timer := t.hk.timer, chan := t.hk.chan } ∧
        t.reg Ob.HK_TRIG_MISSED 0 = (min (2 ^ 32 - 1) (s.nat Ob.HK_TRIG_MISSED 0 + 1) : Nat) ∧
        KeepsRegs (fun ix _ => ix = Ob.HK_TRIG_STATE ∨ ix = Ob.HK_TRIG_MISSED ∨ ix ∈ [Ob.HK_FILT_UNSETTLED, Ob.HK_PEAK_MAX, Ob.HK_PEAK_MIN,
          Ob.HK_RMS, Ob.HK_ENVELOPE]) s t)) ∧
  (∀ (s : State), s.hkLive = true → 1 ≤ s.nat Ob.HK_TRIG_SOURCE 0 → s.nat Ob.HK_TRIG_SOURCE 0 ≤ 4 → s.reg Ob.HK_TRIG_STATE 0 ≠ 3 →
    ∃ t : State, exec .hkTrigFallback s = .next t ∧ t = { s with regs := t.regs, hk := t.hk, lookout := t.lookout, cap := t.cap } ∧
      t.hk = { s.hk with chan := t.hk.chan } ∧ t.reg Ob.HK_TRIG_STATE 0 = 3 ∧
      t.reg Ob.HK_EVENTS 0 = (min (2 ^ 32 - 1) (s.nat Ob.HK_EVENTS 0 + 1) : Nat) ∧
      (∀ k : Fin 16, t.reg Ob.HK_FILT_UNSETTLED (k.val + 1) = 1 ∧ t.hk.chan[k].inputs = 0)) ∧
  (∀ (s : State), s.hkLive = true → s.reg Ob.HK_REF_ENABLE 0 ≠ 0 →
    ∃ t : State, exec .hkRefReady s = .next t ∧ t = { s with regs := t.regs, hk := t.hk } ∧ t.reg Ob.HK_REF_READY 0 = 1 ∧
      t.hk = { s.hk with calRun := s.hk.calRun || s.hk.calHeld, calHeld := false } ∧
      KeepsRegs (fun ix sub => ix = Ob.HK_REF_READY ∧ sub = 0) s t) ∧
  (∀ (s : State) (r : Req), s.Accepts r .exec Ob.HK_SELF_CAL 0 [0] →
    (s.hk.calRun = false → s.hk.calHeld = false →
      ∃ u : State, exec (.hkSelfCal r) s = .next (u.pendAdd ⟨r, .exec, Ob.HK_SELF_CAL, 0⟩) ∧
        u = { s.taken r .exec Ob.HK_SELF_CAL 0 [0] with hk := u.hk } ∧
        u.hk = { s.hk with calRun := decide (s.reg Ob.HK_REF_READY 0 ≠ 0), calHeld := decide (s.reg Ob.HK_REF_READY 0 = 0) }) ∧
    ((s.hk.calRun = true ∨ s.hk.calHeld = true) → exec (.hkSelfCal r) s =
      .next ((s.taken r .exec Ob.HK_SELF_CAL 0 [0]).reply r .exec Ob.HK_SELF_CAL 0 St.BUSY []))) ∧
  (∀ (s : State) (off gain : Vector Int 4), s.hk.calRun = true →
    ∃ t : State, exec (.hkSelfCalDone off gain) s = .next t ∧
      t = { s with regs := t.regs, hk := t.hk, mmp := t.mmp, lookout := t.lookout, cap := t.cap } ∧ t.hk.calRun = false ∧
      t.waiting Ob.HK_SELF_CAL 0 = false ∧ t.reg Ob.HK_CAL_COUNT 0 = (min (2 ^ 32 - 1) (s.nat Ob.HK_CAL_COUNT 0 + 1) : Nat) ∧
      t.reg Ob.HK_CAL_TIME 0 = (s.stamp : Int) ∧
      (∀ c : Fin 4, (4096 < off[c].natAbs ∨ 131072 < gain[c].natAbs * 100) → t.reg Ob.HK_CAL_RESULT (c.val + 1) = 2 ∧
        t.reg Ob.HK_CAL_OFFSET (c.val + 1) = s.reg Ob.HK_CAL_OFFSET (c.val + 1) ∧
        t.reg Ob.HK_CAL_GAIN (c.val + 1) = s.reg Ob.HK_CAL_GAIN (c.val + 1)) ∧
      (∀ c : Fin 4, off[c].natAbs ≤ 4096 → gain[c].natAbs * 100 ≤ 131072 → t.reg Ob.HK_CAL_RESULT (c.val + 1) = 1 ∧
        t.reg Ob.HK_CAL_OFFSET (c.val + 1) = off[c] ∧ t.reg Ob.HK_CAL_GAIN (c.val + 1) = gain[c]) ∧
      ((∃ c : Fin 4, 4096 < off[c].natAbs ∨ 131072 < gain[c].natAbs * 100) →
        t.reg Ob.HK_EVENTS 0 = (min (2 ^ 32 - 1) (s.nat Ob.HK_EVENTS 0 + 1) : Nat))) ∧
  (∀ (s : State) (k : Fin 16), s.hkLive = true →
    (s.chanRuns k = true → ∃ (t : State) (x : Nat), exec (.hkFilterOutput k) s = .next t ∧ t = { s with regs := t.regs, hk := t.hk } ∧
      x = s.chanOut k ∧ x < 16384 ∧
      t.reg Ob.HK_FILT_OUT (k.val + 1) = (x : Int) ∧ t.reg Ob.HK_FILT_TIME (k.val + 1) = (s.stamp : Int) ∧
      t.reg Ob.HK_FILT_UNSETTLED (k.val + 1) = (if s.span k ≤ s.hk.chan[k].inputs then 0 else 1) ∧
      (s.hk.chan[k].inputs < s.span k → t.hk = s.hk ∧ t.reg Ob.HK_PEAK_MAX (k.val + 1) = s.reg Ob.HK_PEAK_MAX (k.val + 1)) ∧
      (s.span k ≤ s.hk.chan[k].inputs → s.nat Ob.HK_DET_WINDOW (k.val + 1) ≤ s.hk.chan[k].outs.length →
        1 ≤ s.nat Ob.HK_DET_WINDOW (k.val + 1) →
        t.reg Ob.HK_PEAK_MAX (k.val + 1) =
          ((((x :: s.hk.chan[k].outs).take (s.nat Ob.HK_DET_WINDOW (k.val + 1))).foldl max 0 : Nat) : Int) ∧
        t.reg Ob.HK_ENVELOPE (k.val + 1) = (max x (s.hk.chan[k].env - s.hk.chan[k].env / 2 ^ s.nat Ob.HK_ENV_DECAY (k.val + 1)) : Nat)) ∧
      KeepsRegs (fun ix sub => ix ∈ [Ob.HK_FILT_OUT, Ob.HK_FILT_TIME, Ob.HK_FILT_UNSETTLED, Ob.HK_PEAK_MAX, Ob.HK_PEAK_MIN, Ob.HK_RMS,
        Ob.HK_ENVELOPE] ∧ sub = k.val + 1) s t) ∧
    (s.chanRuns k = false → ∃ t : State, exec (.hkFilterOutput k) s = .next t ∧ t = { s with regs := t.regs } ∧
      t.reg Ob.HK_FILT_OUT (k.val + 1) = 0xFFFF ∧ KeepsRegs (fun ix sub => ix = Ob.HK_FILT_OUT ∧ sub = k.val + 1) s t)) ∧
  (∀ (s : State) (r : Req), s.Accepts r .exec Ob.HK_FIR_SWAP 0 [0] →
    ∃ u : State, exec (.hkFirSwap r) s = .next (u.reply r .exec Ob.HK_FIR_SWAP 0 St.OK []) ∧
      u = { s.taken r .exec Ob.HK_FIR_SWAP 0 [0] with regs := u.regs, blobs := u.blobs, hk := u.hk } ∧
      u.blob Ob.HK_FIR_ACTIVE 0 = s.blob Ob.HK_FIR_IDLE 0 ∧ u.blob Ob.HK_FIR_IDLE 0 = s.blob Ob.HK_FIR_IDLE 0 ∧
      (∀ k : Fin 16, u.reg Ob.HK_FILT_UNSETTLED (k.val + 1) = 1)) ∧
  (∀ (s : State) (r : Req), s.Accepts r .exec Ob.HK_LOAD 0 [0] → s.hkLive = true → s.hk.loadAt = none →
    ∃ u : State, exec (.hkLoad r) s = .next (u.reply r .exec Ob.HK_LOAD 0 St.OK []) ∧
      u = { s.taken r .exec Ob.HK_LOAD 0 [0] with regs := u.regs, hk := u.hk } ∧
      (∀ (k : Fin 16), (∀ c, s.hk.adac[k].pend = some c → u.hk.adac[k] = { pend := none, target := c }) ∧
        (s.hk.adac[k].pend = none → u.hk.adac[k] = s.hk.adac[k])) ∧
      u.reg Ob.HK_LOAD_COUNT 0 = (min (2 ^ 32 - 1) (s.nat Ob.HK_LOAD_COUNT 0 + 1) : Nat) ∧
      KeepsRegs (fun ix _ => ix = Ob.MMP_RX_FRAMES ∨ ix = Ob.HK_LOAD_COUNT) s u) ∧
  (∀ (s : State) (c : Instr) (bit : Nat), (c, bit) ∈ [(Instr.hkLoadTimer, 0), (Instr.ldacNAssert, 1)] →
    (s.hkLive = true → bitOf (s.nat Ob.HK_LOAD_SOURCE 0) bit = true →
      ∃ t : State, exec c s = .next t ∧ t = { s with regs := t.regs, hk := t.hk } ∧
        (∀ (k : Fin 16), (∀ c, s.hk.adac[k].pend = some c → t.hk.adac[k] = { pend := none, target := c }) ∧
          (s.hk.adac[k].pend = none → t.hk.adac[k] = s.hk.adac[k])) ∧ KeepsRegs (fun ix _ => ix = Ob.HK_LOAD_COUNT) s t) ∧
    (bitOf (s.nat Ob.HK_LOAD_SOURCE 0) bit = false → exec c s = .next s)) ∧
  (∀ (s : State) (k : Fin 16) (lim : Bool), s.on Dom.HK = true →
    (∃ t : State, exec (.adacSlewStep k) s = .next t ∧ t = { s with regs := t.regs } ∧
      (s.nat Ob.HK_ADAC_OUT (k.val + 1) < s.hk.adac[k].target → t.reg Ob.HK_ADAC_OUT (k.val + 1) =
        (min s.hk.adac[k].target (s.nat Ob.HK_ADAC_OUT (k.val + 1) + s.nat Ob.HK_ADAC_SLEW_STEP (k.val + 1)) : Nat)) ∧
      (s.hk.adac[k].target ≤ s.nat Ob.HK_ADAC_OUT (k.val + 1) → t.reg Ob.HK_ADAC_OUT (k.val + 1) =
        (max s.hk.adac[k].target (s.nat Ob.HK_ADAC_OUT (k.val + 1) - s.nat Ob.HK_ADAC_SLEW_STEP (k.val + 1)) : Nat)) ∧
      KeepsRegs (fun ix sub => ix = Ob.HK_ADAC_OUT ∧ sub = k.val + 1) s t) ∧
    (∃ t : State, exec (.adacShort k lim) s = .next t ∧ t = { s with regs := t.regs, lookout := t.lookout, cap := t.cap } ∧
      t.reg Ob.HK_ADAC_FLAGS (k.val + 1) = (withBit (s.nat Ob.HK_ADAC_FLAGS (k.val + 1))
        (if s.reg Ob.HK_ADAC_MODE (k.val + 1) = 0 then 0 else 1) lim : Nat) ∧
      t.reg Ob.HK_ADAC_SHORT_COUNT (k.val + 1) =
        (if lim = true ∧ bitOf (s.nat Ob.HK_ADAC_FLAGS (k.val + 1)) (if s.reg Ob.HK_ADAC_MODE (k.val + 1) = 0 then 0 else 1) = false then
           ((min (2 ^ 32 - 1) (s.nat Ob.HK_ADAC_SHORT_COUNT (k.val + 1) + 1) : Nat) : Int)
         else s.reg Ob.HK_ADAC_SHORT_COUNT (k.val + 1)) ∧
      (lim = false → t.lookout = s.lookout) ∧
      KeepsRegs (fun ix sub => (ix ∈ [Ob.HK_ADAC_FLAGS, Ob.HK_ADAC_SHORT_COUNT] ∧ sub = k.val + 1) ∨ (ix = Ob.HK_EVENTS ∧ sub = 0) ∨
        EventObj ix sub) s t)) ∧
  (∀ (s : State) (i : Fin 4), s.hkLive = true → s.reg Ob.HK_PWM_ENABLE (i.val + 1) ≠ 0 →
    ∃ t : State, exec (.pwmPeriodStart i) s = .next t ∧ t = { s with regs := t.regs, hk := t.hk } ∧
      t.hk = { s.hk with chan := t.hk.chan, pwm := s.hk.pwm.set i { period := s.nat Ob.HK_PWM_PERIOD (i.val + 1), duty := s.nat Ob.HK_PWM_DUTY (i.val + 1), active := decide (s.nat Ob.HK_PWM_DUTY (i.val + 1) ≠ 0), since := s.time.now } } ∧
      (t.trigPeriod = s.trigPeriod → t.regs = s.regs ∧ t.hk.chan = s.hk.chan) ∧
      KeepsRegs (fun ix _ => ix ∈ [Ob.HK_FILT_UNSETTLED, Ob.HK_PEAK_MAX, Ob.HK_PEAK_MIN, Ob.HK_RMS, Ob.HK_ENVELOPE]) s t) ∧
  (∀ (s : State) (b : HkTrig) (raw : Vector Nat 4) (k : Fin 16) (i : Fin 4) (lim : Bool), s.hkLive = false →
    exec (.hkTrigger b raw) s = .next s ∧ exec .hkTrigFallback s = .next s ∧ exec .hkRefReady s = .next s ∧
    exec (.hkFilterOutput k) s = .next s ∧ exec .hkLoadTimer s = .next s ∧ exec .ldacNAssert s = .next s ∧
    (s.on Dom.HK = false → exec (.adacSlewStep k) s = .next s ∧ exec (.adacShort k lim) s = .next s) ∧
    exec (.pwmPeriodStart i) s = .next s)

/-! ## Tuning engines (chapter 15) -/

/-- R394, R399, R400 and R402 to R409: a task's end clears it and counts its engine's work, the four slot counts summing to twice its steps, unless
the counters are frozen; a miss counts and puts back what the task's results replaced (log entry 103); an access outside the rules halts
the engine with its tasks missed, at the third halt within 10 s for good; a restart returns an engine to IDLE; the counters clear, freeze, wrap and give their sample as
commanded. -/
def Obligations.EnginesCountHaltAndRestart : Prop :=
  (∀ (s : State) (e : Fin 128) (task : Nat) (w : EngWork), s.engWorks e = true → (engClass e ≠ 1 ∨ task ≠ 0) →
    ∃ t : State, exec (.engTaskDone e task w) s = .next t ∧ t = { s with regs := t.regs, blobs := t.blobs, eng := t.eng, lookout := t.lookout, cap := t.cap } ∧
      t.eng[e].jobs = s.eng[e].jobs.filter (fun j => j.task != task) ∧ (∀ k : Fin 128, k ≠ e → t.eng[k] = s.eng[k]) ∧
      (s.engFrozen e = false →
        t.reg Ob.ENG_STEPS (e.val + 1) = (min (2 ^ 64 - 1) (s.nat Ob.ENG_STEPS (e.val + 1) + w.steps) : Nat) ∧
        t.reg Ob.ENG_CYCLES (e.val + 1) = (min (2 ^ 64 - 1) (s.nat Ob.ENG_CYCLES (e.val + 1) + w.cycles) : Nat) ∧
        (∀ i : Fin 4, u64At (t.blob Ob.ENG_SLOTS (e.val + 1)) i.val =
          min (2 ^ 64 - 1) (u64At (s.blob Ob.ENG_SLOTS (e.val + 1)) i.val + engEvent w false ([2, 3, 5, 4].getD i.val 0)))) ∧
      engEvent w false 2 + engEvent w false 3 + engEvent w false 4 + engEvent w false 5 = 2 * w.steps ∧
      (s.engFrozen e = true → t = { s with regs := t.regs, eng := t.eng } ∧ KeepsRegs (fun ix sub => ix = Ob.ENG_STATE ∧ sub = e.val + 1) s t) ∧
      KeepsRegs (fun ix sub => (ix ∈ [Ob.ENG_STEPS, Ob.ENG_CYCLES, Ob.ENG_STATE, Ob.ENG_PMU_OVF_STATUS, Ob.ENG_PMU_SAMPLE, Ob.ENG_EVENTS] ∧
        sub = e.val + 1) ∨ EventObj ix sub) s t) ∧
  (∀ (s : State) (e : Fin 128) (w : EngWork), s.engWorks e = true → engClass e = 1 →
    ∃ t : State, exec (.engTaskDone e 0 w) s = .next t ∧
      t = { s with regs := t.regs, blobs := t.blobs, eng := t.eng, lookout := t.lookout, cap := t.cap } ∧
      t.eng[e].jobs = s.eng[e].jobs.filter (fun j => j.task != 0) ∧ (∀ k : Fin 128, k ≠ e → t.eng[k] = s.eng[k]) ∧
      t.reg Ob.HOST_PRESET_APPLIED ((engHost e).val + 1) =
        (if s.eng[e].jobs.any (fun j => j.task == 0) = true ∧ s.eng[e].undo.all (fun u => u.1 != 0) = true then s.reg Ob.HOST_PRESET_SEL ((engHost e).val + 1)
         else s.reg Ob.HOST_PRESET_APPLIED ((engHost e).val + 1))) ∧
  (∀ (s : State) (e : Fin 128) (task : Nat) (w : EngWork), s.engWorks e = true → (∃ j ∈ s.eng[e].jobs, j.task = task) →
    (∃ t : State, exec (.engTaskMiss e task w) s = .next t ∧
      t = { s with
        regs := t.regs, blobs := t.blobs, eng := t.eng, rx := t.rx, adc := t.adc, tx := t.tx, link := t.link, lookout := t.lookout, cap := t.cap } ∧
      (∀ k : Fin 128, k ≠ e → t.eng[k] = s.eng[k])) ∧
    (∀ (ix sub : Nat) (v : Int), s.engFrozen e = true → ix / 256 ≠ 0x11 → ix / 256 ≠ 0x14 →
      s.eng[e].undo.filter (fun u => u.1 == task) = [(task, .num ix sub v)] →
      ∃ t : State, exec (.engTaskMiss e task w) s = .next t ∧ t.reg ix sub = v) ∧
    ((∀ u ∈ s.eng[e].undo, u.1 ≠ task) → ∃ t : State, exec (.engTaskMiss e task w) s = .next t ∧
      t = { s with regs := t.regs, blobs := t.blobs, eng := t.eng, rx := t.rx, lookout := t.lookout, cap := t.cap } ∧
      t.reg Ob.ENG_TASK_MISSES (e.val + 1) = (min (2 ^ 32 - 1) (s.nat Ob.ENG_TASK_MISSES (e.val + 1) + 1) : Nat) ∧
      (engClass e = 0 → task = 0 → t.rx[engDom e].lostParts = e.val % 16 :: s.rx[engDom e].lostParts) ∧
      (engClass e = 0 → task = 2 → t.rx[engDom e].dsp.roll = none) ∧
      ((engClass e ≠ 0 ∨ (task ≠ 0 ∧ task ≠ 2)) → t.rx = s.rx) ∧
      (s.engFrozen e = true → t.reg Ob.ENG_EVENTS (e.val + 1) = (min (2 ^ 32 - 1) (s.nat Ob.ENG_EVENTS (e.val + 1) + 1) : Nat)) ∧
      KeepsRegs (fun ix sub => (ix ∈ [Ob.ENG_STEPS, Ob.ENG_CYCLES, Ob.ENG_STATE, Ob.ENG_PMU_OVF_STATUS, Ob.ENG_PMU_SAMPLE, Ob.ENG_EVENTS,
        Ob.ENG_TASK_MISSES] ∧ sub = e.val + 1) ∨ EventObj ix sub) s t)) ∧
  (∀ (s : State) (e : Fin 128) (memory : Bool) (offset : Nat), s.engWorks e = true →
    (let recent := (s.eng[e].halts.filter (fun t => decide (s.time.now < t + 10 * refclkHz))).length
     (∃ t : State, exec (.engHalt e memory offset) s = .next t ∧ t.engState e = 3 ∧ t.eng[e].jobs = [] ∧
       t.eng[e].stuck = (decide (2 ≤ recent) || s.eng[e].stuck) ∧ t.fuse = s.fuse ∧ t.flash = s.flash ∧ t.time = s.time ∧ t.hk = s.hk ∧
       t.tic = s.tic ∧ t.hostInst = s.hostInst ∧ t.port = s.port) ∧
     (s.eng[e].undo = [] → recent < 2 → ∃ t : State, exec (.engHalt e memory offset) s = .next t ∧
       t = { s with regs := t.regs, eng := t.eng, rx := t.rx, lookout := t.lookout, cap := t.cap } ∧
       (s.eng[e].jobs ≠ [] → t.reg Ob.ENG_TASK_MISSES (e.val + 1) =
         (min (2 ^ 32 - 1) (s.nat Ob.ENG_TASK_MISSES (e.val + 1) + s.eng[e].jobs.length) : Nat)) ∧
       (s.eng[e].jobs = [] → t.reg Ob.ENG_TASK_MISSES (e.val + 1) = s.reg Ob.ENG_TASK_MISSES (e.val + 1)) ∧
       t.reg Ob.ENG_EVENTS (e.val + 1) = (min (2 ^ 32 - 1) (s.nat Ob.ENG_EVENTS (e.val + 1) + 1) : Nat) ∧
       (∀ k : Fin 128, k ≠ e → t.eng[k] = s.eng[k] ∧ t.engState k = s.engState k) ∧
       KeepsRegs (fun ix sub => (ix ∈ [Ob.ENG_STATE, Ob.ENG_EVENTS, Ob.ENG_TASK_MISSES] ∧ sub = e.val + 1) ∨ EventObj ix sub) s t))) ∧
  (∀ (s : State) (e : Fin 128),
    (s.engState e = 4 ∨ (s.engState e = 3 ∧ s.eng[e].stuck = false) →
      ∃ t : State, exec (.engRestartDone e) s = .next t ∧ t.engState e = 1 ∧ t.eng[e].stuck = false ∧
        t.reg Ob.ENG_RESTARTS (e.val + 1) = (min (2 ^ 32 - 1) (s.nat Ob.ENG_RESTARTS (e.val + 1) + 1) : Nat) ∧
        t = { s with regs := t.regs, doms := t.doms, eng := t.eng, mmp := t.mmp, service := t.service } ∧
        KeepsRegs (fun ix sub => (ix ∈ [Ob.ENG_STATE, Ob.ENG_RESTARTS] ∧ sub = e.val + 1) ∨ ix / 256 = 0x13) s t) ∧
    (s.engState e ≠ 4 → (s.engState e ≠ 3 ∨ s.eng[e].stuck = true) → exec (.engRestartDone e) s = .next s)) ∧
  (∀ (s : State) (r : Req) (e : Fin 128), s.Accepts r .exec Ob.ENG_RESTART (e.val + 1) [0] →
    (s.engState e = 3 → ∃ u : State, exec (.engRestart r (e.val + 1)) s = .next (u.reply r .exec Ob.ENG_RESTART (e.val + 1) St.OK []) ∧
      u = { s.taken r .exec Ob.ENG_RESTART (e.val + 1) [0] with regs := u.regs } ∧ u.engState e = 4 ∧
      KeepsRegs (fun ix sub => ix = Ob.MMP_RX_FRAMES ∨ (ix = Ob.ENG_STATE ∧ sub = e.val + 1)) s u) ∧
    (s.engState e ≠ 3 → exec (.engRestart r (e.val + 1)) s =
      .next ((s.taken r .exec Ob.ENG_RESTART (e.val + 1) [0]).reply r .exec Ob.ENG_RESTART (e.val + 1) St.CONFIG_CONFLICT []))) ∧
  (∀ (s : State) (r : Req) (which : Nat), s.Accepts r .exec Ob.ENG_PMU_CLEAR 0 (leBytes 1 which) → (which < 128 ∨ which = 255) →
    ∃ u : State, exec (.engPmuClear r which) s = .next (u.reply r .exec Ob.ENG_PMU_CLEAR 0 St.OK []) ∧
      u = { s.taken r .exec Ob.ENG_PMU_CLEAR 0 (leBytes 1 which) with regs := u.regs, blobs := u.blobs } ∧
      (∀ e : Fin 128, (which = e.val ∨ which = 255) → u.reg Ob.ENG_STEPS (e.val + 1) = 0 ∧ u.reg Ob.ENG_CYCLES (e.val + 1) = 0 ∧
        u.blob Ob.ENG_SLOTS (e.val + 1) = List.replicate 32 0 ∧ u.blob Ob.ENG_PMU_COUNT (e.val + 1) = List.replicate 48 0) ∧
      KeepsRegs (fun ix sub => ix = Ob.MMP_RX_FRAMES ∨ (ix ∈ [Ob.ENG_STEPS, Ob.ENG_CYCLES] ∧ (which = 255 ∨ sub = which + 1))) s u) ∧
  (∀ (s : State) (r : Req) (v : Nat), v < 2 ^ 32 → s.Accepts r .write Ob.ENG_PMU_FREEZE 0 (leBytes 4 v) →
    ∃ u : State, exec (.engPmuFreezeWrite r v) s = .next (u.reply r .write Ob.ENG_PMU_FREEZE 0 St.OK []) ∧
      u = { s.taken r .write Ob.ENG_PMU_FREEZE 0 (leBytes 4 v) with regs := u.regs } ∧ u.reg Ob.ENG_PMU_FREEZE 0 = (v : Int) ∧
      (∀ e : Fin 128, u.engFrozen e = bitOf v (e.val / 16)) ∧
      KeepsRegs (fun ix _ => ix = Ob.MMP_RX_FRAMES ∨ ix = Ob.ENG_PMU_FREEZE) s u) ∧
  (∀ (s : State) (e : Fin 128) (j : Fin 6) (task offset : Nat), s.engWorks e = true → s.engFrozen e = false →
    ((s.blob Ob.ENG_PMU_SEL (e.val + 1)).getD (2 * j.val) 0).toNat ≠ 0 →
    ∃ t : State, exec (.pmuOverflow e j task offset) s = .next t ∧
      t = { s with regs := t.regs, blobs := t.blobs, eng := t.eng, lookout := t.lookout, cap := t.cap } ∧
      u64At (t.blob Ob.ENG_PMU_COUNT (e.val + 1)) j.val = 0 ∧
      t.reg Ob.ENG_PMU_OVF_STATUS (e.val + 1) = (withBit (s.nat Ob.ENG_PMU_OVF_STATUS (e.val + 1)) j.val true : Nat) ∧
      (bitOf (s.nat Ob.ENG_PMU_OVF_EN (e.val + 1)) j.val = true → t.eng[e].unread = true ∧
        t.reg Ob.ENG_PMU_SAMPLE (e.val + 1) = (2 ^ 28 * (task % 16) + 2 ^ 27 * s.eng[e].unread.toNat + 2 ^ 24 * j.val + offset % 8192 : Nat) ∧
        t.reg Ob.ENG_EVENTS (e.val + 1) = (min (2 ^ 32 - 1) (s.nat Ob.ENG_EVENTS (e.val + 1) + 1) : Nat)) ∧
      (bitOf (s.nat Ob.ENG_PMU_OVF_EN (e.val + 1)) j.val = false → t = { s with regs := t.regs, blobs := t.blobs } ∧
        t.reg Ob.ENG_PMU_SAMPLE (e.val + 1) = s.reg Ob.ENG_PMU_SAMPLE (e.val + 1)) ∧
      KeepsRegs (fun ix sub => (ix ∈ [Ob.ENG_PMU_OVF_STATUS, Ob.ENG_PMU_SAMPLE, Ob.ENG_EVENTS] ∧ sub = e.val + 1) ∨ EventObj ix sub) s t) ∧
  (∀ (s : State) (r : Req) (e : Fin 128) (v : Nat), v < 2 ^ 32 → s.Accepts r .write Ob.ENG_PMU_OVF_STATUS (e.val + 1) (leBytes 4 v) →
    ∃ u : State, exec (.pmuOvfStatusWrite r (e.val + 1) v) s = .next (u.reply r .write Ob.ENG_PMU_OVF_STATUS (e.val + 1) St.OK []) ∧
      u = { s.taken r .write Ob.ENG_PMU_OVF_STATUS (e.val + 1) (leBytes 4 v) with regs := u.regs } ∧
      u.reg Ob.ENG_PMU_OVF_STATUS (e.val + 1) = (s.nat Ob.ENG_PMU_OVF_STATUS (e.val + 1) &&& (63 - v % 64) : Nat) ∧
      KeepsRegs (fun ix sub => ix = Ob.MMP_RX_FRAMES ∨ (ix = Ob.ENG_PMU_OVF_STATUS ∧ sub = e.val + 1)) s u) ∧
  (∀ (s : State) (r : Req) (e : Fin 128), s.Accepts r .read Ob.ENG_PMU_SAMPLE (e.val + 1) [] →
    ∃ u : State, exec (.pmuSampleRead r (e.val + 1)) s =
        .next (u.reply r .read Ob.ENG_PMU_SAMPLE (e.val + 1) St.OK (leBytes 4 (s.nat Ob.ENG_PMU_SAMPLE (e.val + 1)))) ∧
      u = { s.taken r .read Ob.ENG_PMU_SAMPLE (e.val + 1) [] with regs := u.regs, eng := u.eng } ∧
      u.reg Ob.ENG_PMU_SAMPLE (e.val + 1) = (withBit (s.nat Ob.ENG_PMU_SAMPLE (e.val + 1)) 27 false : Nat) ∧
      u.eng[e] = { s.eng[e] with unread := false } ∧ (∀ k : Fin 128, k ≠ e → u.eng[k] = s.eng[k])) ∧
  (∀ (s : State) (e : Fin 128) (j : Fin 6) (task offset : Nat) (w : EngWork) (memory : Bool), s.engWorks e = false →
    exec (.engTaskDone e task w) s = .next s ∧ exec (.engTaskMiss e task w) s = .next s ∧ exec (.engHalt e memory offset) s = .next s ∧
    exec (.pmuOverflow e j task offset) s = .next s)

/-! ## Temperature, ageing and the supply (chapter 16) -/

/-- R411 to R418, R421 to R427 and R429: a sound diode conversion is taken and a failed one marks the diode with its offset and event; the mapping
makes the reference pair's mean the diode; the throttle step rises and falls by one; a powered hour counts and builds the host
baselines from the hour's means (taken as log entry 208 says); a plan falls due, is asked for, and commits its voltage, offsets and intervals; a changed sum is sent, and after
the fourth try without an acknowledgement the last one stands again. -/
def Obligations.TemperatureAgeingAndSupply : Prop :=
  (∀ (s : State), s.start.powered = true →
    (∀ v : Int, -600 ≤ v → v ≤ 1600 → (∀ u, s.therm.diode = some u → (v - u).natAbs ≤ 100) →
      ∃ t : State, exec (.diodeConversion (some v)) s = .next t ∧ t = { s with regs := t.regs, therm := t.therm } ∧
        t.therm = { s.therm with diode := some v } ∧ t.reg Ob.THERMAL_DIODE 0 = v ∧
        KeepsRegs (fun ix sub => ix = Ob.THERMAL_DIODE ∧ sub = 0) s t) ∧
    (∀ reading : Option Int, (∀ v, reading = some v → v < -600 ∨ 1600 < v) → s.reg Ob.THERMAL_DIODE_FAIL 0 = 0 →
      ∃ t : State, exec (.diodeConversion reading) s = .next t ∧ t = { s with regs := t.regs, therm := t.therm, lookout := t.lookout, cap := t.cap } ∧
        t.reg Ob.THERMAL_DIODE_FAIL 0 = 1 ∧ t.reg Ob.THERMAL_OFFSET_C 0 = -5 ∧
        t.reg Ob.THERMAL_EVENTS 0 = (min (2 ^ 32 - 1) (s.nat Ob.THERMAL_EVENTS 0 + 1) : Nat) ∧
        KeepsRegs (fun ix sub => (ix ∈ [Ob.THERMAL_DIODE, Ob.THERMAL_DIODE_FAIL, Ob.THERMAL_OFFSET_C, Ob.THERMAL_EVENTS] ∧ sub = 0) ∨
          EventObj ix sub) s t)) ∧
  (∀ (s : State) (d a b : Int), s.therm.diode = some d → s.therm.raw[15] = some a → s.therm.raw[31] = some b →
    s.reg Ob.THERMAL_DIODE_FAIL 0 = 0 → s.monFailed 15 = false → s.monFailed 31 = false →
    ∃ t : State, exec .monitorMapping s = .next t ∧ t = { s with regs := t.regs, therm := t.therm } ∧
      t.therm = { s.therm with corr := 2 * d - a - b } ∧ t.reg Ob.THERMAL_MAP_TIME 0 = (s.stamp : Int) ∧
      KeepsRegs (fun ix sub => ix = Ob.THERMAL_MAP_TIME ∧ sub = 0) s t) ∧
  (∀ (s : State) (c : Instr) (n : Nat),
    ((c = .throttleRise ∧ s.therm.above = true ∧ s.therm.step < 4 ∧ n = s.therm.step + 1) ∨
      (c = .throttleFall ∧ s.therm.throttling = false ∧ s.therm.blind = false ∧ 0 < s.therm.step ∧ n = s.therm.step - 1)) →
    ∃ t : State, exec c s = .next t ∧ t = { s with regs := t.regs, therm := t.therm, eng := t.eng, rx := t.rx, lookout := t.lookout, cap := t.cap } ∧
      t.therm = { s.therm with step := n } ∧
      (s.therm.blind = false → s.service[(0 : Fin 4)] ≠ none → t.throttle = max n (s.nat Ob.THERMAL_THROTTLE_MIN 0)) ∧
      (t.throttle ≠ s.throttle → ∀ k : Fin 8, t.reg Ob.ENG_PACE (k.val + 1) = (paceOf t.throttle : Nat)) ∧
      KeepsRegs (fun ix sub => ix ∈ [Ob.THERMAL_THROTTLE_STEP, Ob.ENG_PACE, Ob.ENG_STATE, Ob.LINE_EQ_STATE, Ob.THERMAL_EVENTS] ∨
        EventObj ix sub) s t) ∧
  (∀ s : State, (s.therm.above = false → exec .throttleRise s = .next s) ∧ (s.therm.step = 0 → exec .throttleFall s = .next s)) ∧
  (∀ s : State, s.start.powered = true → s.nat Ob.THERMAL_BAND 0 ≤ 3 →
    ∃ t : State, exec .poweredHourEnd s = .next t ∧ t = { s with regs := t.regs, therm := t.therm } ∧
      t.therm = { s.therm with hour := Vector.replicate 16 {} } ∧
      t.reg Ob.COMPASS_POWERED_HOURS 0 = (min (2 ^ 32 - 1) (s.nat Ob.COMPASS_POWERED_HOURS 0 + 1) : Nat) ∧
      t.reg Ob.THERMAL_BAND_HOURS (s.nat Ob.THERMAL_BAND 0 + 1) =
        (min (2 ^ 32 - 1) (s.nat Ob.THERMAL_BAND_HOURS (s.nat Ob.THERMAL_BAND 0 + 1) + 1) : Nat) ∧
      (∀ h : Fin 16, 225000000 ≤ 128 * s.therm.hour[h].n → s.nat Ob.COMPASS_HOST_BASE_HOURS (h.val + 1) < 168 →
        t.reg Ob.COMPASS_HOST_BASE_HOURS (h.val + 1) = (s.nat Ob.COMPASS_HOST_BASE_HOURS (h.val + 1) + 1 : Nat) ∧
        (let n := s.nat Ob.COMPASS_HOST_BASE_HOURS (h.val + 1)
         t.reg Ob.COMPASS_HOST_BASE_DB (h.val + 1) = clampInt (-32768) 32767
           (roundDiv (s.reg Ob.COMPASS_HOST_BASE_DB (h.val + 1) * n + roundDiv s.therm.hour[h].sum s.therm.hour[h].n) (n + 1)))) ∧
      (∀ h : Fin 16, (128 * s.therm.hour[h].n < 225000000 ∨ 168 ≤ s.nat Ob.COMPASS_HOST_BASE_HOURS (h.val + 1)) →
        t.reg Ob.COMPASS_HOST_BASE_HOURS (h.val + 1) = s.reg Ob.COMPASS_HOST_BASE_HOURS (h.val + 1) ∧
        t.reg Ob.COMPASS_HOST_BASE_DB (h.val + 1) = s.reg Ob.COMPASS_HOST_BASE_DB (h.val + 1)) ∧
      KeepsRegs (fun ix _ => ix ∈ [Ob.COMPASS_POWERED_HOURS, Ob.THERMAL_BAND_HOURS, Ob.COMPASS_HOST_BASE_HOURS, Ob.COMPASS_HOST_BASE_DB]) s t) ∧
  (∀ s : State, s.start.powered = true →
    ∃ t : State, exec .planDue s = .next t ∧ t = { s with therm := { s.therm with planDue := true } }) ∧
  (∀ (s : State) (r : Req), s.Accepts r .exec Ob.COMPASS_PLAN_NOW 0 [0] →
    (s.waiting Ob.COMPASS_PLAN_NOW 0 = false → exec (.compassPlanNow r) s =
      .next ((s.taken r .exec Ob.COMPASS_PLAN_NOW 0 [0]).pendAdd ⟨r, .exec, Ob.COMPASS_PLAN_NOW, 0⟩)) ∧
    (s.waiting Ob.COMPASS_PLAN_NOW 0 = true → exec (.compassPlanNow r) s =
      .next ((s.taken r .exec Ob.COMPASS_PLAN_NOW 0 [0]).reply r .exec Ob.COMPASS_PLAN_NOW 0 St.BUSY []))) ∧
  (∀ (s : State) (speed : Nat) (bandgap : Int), s.reg Ob.DICT_STATE 0 = 1 →
    (s.therm.planDue = true ∨ s.waiting Ob.COMPASS_PLAN_NOW 0 = true) →
    ∃ t : State, exec (.planCommit speed bandgap) s = .next t ∧
      t.reg Ob.COMPASS_PLAN_MV 0 = max (s.bolMv : Int)
        (if s.reg Ob.FABRIC_MARGIN_RAISE_MV 0 ≠ 0 then s.reg Ob.COMPASS_PLAN_MV 0 + s.reg Ob.FABRIC_MARGIN_RAISE_MV 0
         else if (∃ m, s.therm.dayMin = some m ∧ s.nat Ob.FABRIC_AVS_THRESH 0 + 100 ≤ m) then s.reg Ob.COMPASS_PLAN_MV 0 - 5
         else s.reg Ob.COMPASS_PLAN_MV 0) ∧
      t.reg Ob.FABRIC_MARGIN_RAISE_MV 0 = 0 ∧ t.reg Ob.FABRIC_BAND_OFFSET_MV 1 = coldOffset (t.reg Ob.COMPASS_PLAN_MV 0) (133 * (1000000 - speed)) ∧
      (∀ b : Fin 3, t.reg Ob.FABRIC_BAND_OFFSET_MV (b.val + 2) = 0) ∧
      t.reg Ob.COMPASS_YEARS_TO_FLOOR 0 = (yearsToFloor (mostOf (s.ageIndices (s.planDay speed bandgap))) (s.nat Ob.COMPASS_POWERED_HOURS 0) : Nat) ∧
      t.reg Ob.COMPASS_PLAN_TIME 0 = (s.stamp : Int) ∧
      t.reg Ob.COMPASS_PLAN_COUNT 0 = (min (2 ^ 32 - 1) (s.nat Ob.COMPASS_PLAN_COUNT 0 + 1) : Nat) ∧
      t.therm = { s.therm with planDue := false, dayMin := none, day := {} } ∧ t.waiting Ob.COMPASS_PLAN_NOW 0 = false ∧
      t.time = s.time ∧ t.flash = s.flash) ∧
  (∀ (s : State) (speed : Nat) (bandgap : Int), s.therm.planDue = false → s.waiting Ob.COMPASS_PLAN_NOW 0 = false →
    exec (.planCommit speed bandgap) s = .next s) ∧
  (∀ s : State, (∀ sum, s.avsUpdate.avsDue = some sum →
      ∃ t : State, exec .avsRequestSend s = .next t ∧ t = { s with regs := t.regs, doms := t.doms, avs := t.avs, mmp := t.mmp } ∧
        t.reg Ob.COMPASS_AVS_REQUEST_MV 0 = (sum : Int) ∧ t.avs.sent = true ∧ t.avs.tries = 0 ∧ t.avs.refused = none ∧
        t.avs.prev = s.nat Ob.COMPASS_AVS_REQUEST_MV 0 ∧
        KeepsRegs (fun ix _ => ix = Ob.COMPASS_AVS_REQUEST_MV ∨ ix / 256 = 0x13) s t) ∧
    (s.avsUpdate.avsDue = none → exec .avsRequestSend s = .next s)) ∧
  (∀ s : State, (s.avs.sent = true → s.avs.tries < 3 →
      exec .avsNoAck s = .next { s with avs := { s.avs with tries := s.avs.tries + 1 } }) ∧
    (s.avs.sent = true → s.avs.tries = 3 →
      ∃ t : State, exec .avsNoAck s = .next t ∧
        t = { s with regs := t.regs, doms := t.doms, avs := t.avs, mmp := t.mmp, lookout := t.lookout, cap := t.cap } ∧
        t.reg Ob.COMPASS_AVS_REQUEST_MV 0 = (s.avs.prev : Int) ∧ t.avs.tries = 4 ∧
        t.avs.refused = some (s.nat Ob.COMPASS_AVS_REQUEST_MV 0) ∧
        t.reg Ob.COMPASS_EVENTS 0 = (min (2 ^ 32 - 1) (s.nat Ob.COMPASS_EVENTS 0 + 1) : Nat)) ∧
    (s.avs.sent = false → exec .avsNoAck s = .next s)) ∧
  (∀ (s : State) (r : Req), s.Accepts r .exec Ob.THERMAL_CLEAR_PEAK 0 [0] →
    ∃ u : State, exec (.thermalClearPeak r) s = .next (u.reply r .exec Ob.THERMAL_CLEAR_PEAK 0 St.OK []) ∧
      u = { s.taken r .exec Ob.THERMAL_CLEAR_PEAK 0 [0] with regs := u.regs } ∧ u.reg Ob.THERMAL_TJ_PEAK 0 = -32768 ∧
      KeepsRegs (fun ix _ => ix = Ob.MMP_RX_FRAMES ∨ ix = Ob.THERMAL_TJ_PEAK) s u)

/-- R74, R160, R411 to R413, R415 and R426: a tick reads every sound monitor of an ON domain under the common correction, makes THERMAL.TJ the highest
of the diode and the monitors, and takes the pool's speed and the readback; the time, the fuses and the flash stay. In a
safe state only AON's part goes on, and without supplies there is no tick. -/
def Obligations.TickReadsTemperatureAndSupply : Prop :=
  (∀ (s : State) (m : TickIn), s.start.powered = true → s.reg Ob.DICT_STATE 0 ≠ 3 →
    ∃ t : State, exec (.tick m) s = .next t ∧
      (∀ (k : Fin 32) (v : Int), s.monFailed k = false → s.monRead k = true → s.monJudge m.monitors k = none → m.monitors[k] = some v →
        t.reg Ob.THERMAL_MON (k.val + 1) = clampInt (-32767) 32767 (roundDiv (2 * v + s.therm.corr) 2)) ∧
      (∀ k : Fin 32, (s.monFailed k = true ∨ s.monRead k = false) → t.reg Ob.THERMAL_MON (k.val + 1) = -32768) ∧
      t.reg Ob.THERMAL_TJ 0 = (fins 32).foldl (fun x k => max x (t.reg Ob.THERMAL_MON (k.val + 1)))
        (if s.reg Ob.THERMAL_DIODE_FAIL 0 ≠ 0 then -32768 else s.reg Ob.THERMAL_DIODE 0) ∧
      t.reg Ob.THERMAL_TJ_PEAK 0 = max (s.reg Ob.THERMAL_TJ_PEAK 0) (t.reg Ob.THERMAL_TJ 0) ∧
      t.reg Ob.COMPASS_AVS_READBACK_MV 0 = (min 65535 m.vdd : Nat) ∧
      (∀ h : Fin 2, t.reg Ob.TIC_POOL_SPEED (h.val + 1) =
        (min 65535 (if 4 ≤ t.throttle then m.pool[h] * 6 / 8 else m.pool[h]) : Nat)) ∧
      t.time = s.time ∧ t.fuse = s.fuse ∧ t.flash = s.flash) ∧
  (∀ (s : State) (m : TickIn), s.start.powered = true → s.reg Ob.DICT_STATE 0 = 3 → s.reg Ob.THERMAL_AUTOCLEAR 0 = 0 →
    ∃ t : State, exec (.tick m) s = .next t ∧ t.reg Ob.DICT_STATE 0 = 3 ∧
      (s.reg Ob.FAULT_SAFE_CAUSE 0 = 3 → t.reg Ob.THERMAL_TJ 0 =
        (if s.reg Ob.THERMAL_DIODE_FAIL 0 ≠ 0 then -32768 else s.reg Ob.THERMAL_DIODE 0) ∧ t.reg Ob.THERMAL_STATE 0 = 3) ∧
      t.reg Ob.COMPASS_AVS_READBACK_MV 0 = s.reg Ob.COMPASS_AVS_READBACK_MV 0 ∧ t.time = s.time ∧ t.fuse = s.fuse ∧ t.flash = s.flash) ∧
  (∀ (s : State) (m : TickIn), s.start.powered = false → exec (.tick m) s = .next s)

/-! ## Power domains, resets and start-up (chapter 17) -/

/-- R431 to R441: a vote wakes a resting domain, abandons an entry and is otherwise noted; a withdrawal that leaves votes is answered at
once, and the last one begins the entry and waits for it; AON takes no vote, and the far end none without its grant. An edge
on a wake pin votes for the mapped domains; an entry ends in the rest state and answers who waits; a release ends the wake
with its count, and one that fails leaves the domain barred and OFF. -/
def Obligations.VotesMoveDomains : Prop :=
  (∀ (s : State) (r : Req) (d : Fin 36) (v c ob : Nat) (i : Instr),
    (c, ob, i) ∈ [(Vote.HOST, Ob.POWER_VOTE_HOST, Instr.voteHostWrite r (d.val + 1) v), (Vote.FAR, Ob.POWER_VOTE_FAR, Instr.voteFarWrite r (d.val + 1) v)] →
    v ≤ 1 → s.Accepts r .write ob (d.val + 1) (leBytes 1 v) →
    (d = Dom.AON → exec i s = .next ((s.taken r .write ob (d.val + 1) (leBytes 1 v)).reply r .write ob (d.val + 1) St.CONFIG_CONFLICT [])) ∧
    (d ≠ Dom.AON → r.path.isLocal = false → s.reg Ob.POWER_FAR_GRANT 0 = 0 →
      exec i s = .next ((s.taken r .write ob (d.val + 1) (leBytes 1 v)).reply r .write ob (d.val + 1) St.ACCESS_REFUSED [])) ∧
    (d ≠ Dom.AON → (r.path.isLocal = true ∨ (s.reg Ob.POWER_FAR_GRANT 0 ≠ 0 ∧ d ≠ Dom.MGT)) →
      (v = 1 → ∃ u : State, exec i s = .next (u.reply r .write ob (d.val + 1) St.OK []) ∧ bitOf (u.votes d) c = true ∧
        u = { s.taken r .write ob (d.val + 1) (leBytes 1 v) with regs := u.regs, doms := u.doms, mmp := u.mmp } ∧
        ((s.pwr d = 0 ∨ s.pwr d = 1) → s.doms[d].barred = false → u.pwr d = 4) ∧
        (s.pwr d = 3 → u.pwr d = 2 ∧
          u.reg Ob.POWER_ENTRY_ABORTS (d.val + 1) = (min (2 ^ 32 - 1) (s.nat Ob.POWER_ENTRY_ABORTS (d.val + 1) + 1) : Nat)) ∧
        ((s.pwr d = 2 ∨ s.pwr d = 4) → u.pwr d = s.pwr d) ∧
        KeepsRegs (fun ix sub => ix = Ob.MMP_RX_FRAMES ∨ (ix / 256 = 0x13 ∧ sub = d.val + 1)) s u) ∧
      (v = 0 → bitOf (s.votes d) c = true → withBit (s.votes d) c false ≠ 0 → ¬(d = Dom.HK ∧ c = Vote.HOST ∧ s.hkHeld = true) →
        s.doms[d].wakeAt ≠ some s.time.now →
        ∃ u : State, exec i s = .next (u.reply r .write ob (d.val + 1) St.OK []) ∧ u.votes d = withBit (s.votes d) c false ∧ u.pwr d = s.pwr d ∧
          u = { s.taken r .write ob (d.val + 1) (leBytes 1 v) with regs := u.regs }) ∧
      (v = 0 → bitOf (s.votes d) c = true → withBit (s.votes d) c false = 0 → s.pwr d = 2 → d ≠ Dom.MGT → d ≠ Dom.HK →
        s.doms[d].wakeAt ≠ some s.time.now →
        ∃ t : State, exec i s = .next t ∧ t.pwr d = 3 ∧ t.votes d = 0 ∧
          t = ({ s.taken r .write ob (d.val + 1) (leBytes 1 v) with regs := t.regs, doms := t.doms }).defer r .write ob (d.val + 1) ∧
          (⟨r, .write, ob, d.val + 1⟩ : PendingReply) ∈ t.mmp.pend))) ∧
  (∀ (s : State) (p : Fin 4) (high : Bool),
    (high ≠ bitOf (s.nat Ob.POWER_WAKE_POLARITY 0) p.val → 7 ≤ s.reg Ob.POWER_START_STEP 0 → s.reg Ob.DICT_STATE 0 ≤ 1 →
      ∃ t : State, exec (.wakePinEdge p high) s = .next t ∧ t = { s with regs := t.regs, doms := t.doms, mmp := t.mmp } ∧
        (∀ d : Fin 36, d ≠ Dom.AON → bitOf (s.nat Ob.POWER_WAKE_MAP (d.val + 1)) p.val = true → bitOf (t.votes d) Vote.HOST = true ∧
          ((s.pwr d = 0 ∨ s.pwr d = 1) → s.doms[d].barred = false → t.pwr d = 4)) ∧
        (∀ d : Fin 36, (d = Dom.AON ∨ bitOf (s.nat Ob.POWER_WAKE_MAP (d.val + 1)) p.val = false) → t.votes d = s.votes d ∧ t.pwr d = s.pwr d) ∧
        KeepsRegs (fun ix _ => ix / 256 = 0x13) s t) ∧
    (high = bitOf (s.nat Ob.POWER_WAKE_POLARITY 0) p.val → exec (.wakePinEdge p high) s = .next s)) ∧
  (∀ (s : State) (d : Fin 36), (s.pwr d = 3 →
      ∃ t : State, exec (.domainEntryDone d) s = .next t ∧ t.pwr d = (if s.doms[d].toOff = true then 0 else 1) ∧
        t.waiting Ob.POWER_VOTE_HOST (d.val + 1) = false ∧ t.waiting Ob.POWER_VOTE_FAR (d.val + 1) = false ∧
        t.reg Ob.POWER_STATE_TIME (d.val + 1) = (s.stamp : Int) ∧ t.time = s.time ∧ t.fuse = s.fuse ∧ t.flash = s.flash) ∧
    (s.pwr d ≠ 3 → exec (.domainEntryDone d) s = .next s)) ∧
  (∀ (s : State) (d : Fin 36) (lost : Option Nat), (s.pwr d = 4 →
      ∃ t : State, exec (.domainRelease d lost) s = .next t ∧
        t.reg Ob.POWER_WAKES (d.val + 1) = (min (2 ^ 32 - 1) (s.nat Ob.POWER_WAKES (d.val + 1) + 1) : Nat) ∧
        (bitOf (s.votes d) Vote.HOST = true → t.pwr d = 2) ∧
        (lost ≠ none → s.doms[d].fromRet = true →
          t.reg Ob.POWER_RET_LOST (d.val + 1) = (min (2 ^ 32 - 1) (s.nat Ob.POWER_RET_LOST (d.val + 1) + 1) : Nat)) ∧
        t.time = s.time ∧ t.fuse = s.fuse ∧ t.flash = s.flash) ∧
    (s.pwr d ≠ 4 → exec (.domainRelease d lost) s = .next s)) ∧
  (∀ (s : State) (d : Fin 36), (s.pwr d = 4 →
      ∃ t : State, exec (.releaseTimeout d) s = .next t ∧
        t.reg Ob.POWER_EVENTS 0 = (min (2 ^ 32 - 1) (s.nat Ob.POWER_EVENTS 0 + 1) : Nat) ∧
        ((∀ h : Fin 2, d ≠ Dom.synth h) → (∀ p : Fin 8, s.exists p = true → s.pstate p = PS.OFF ∧ s.port[p].goal = .none ∧
            s.port[p].rateTo = none ∧ s.port[p].restart = []) → t.pwr d = 0) ∧
        t.time = s.time ∧ t.fuse = s.fuse ∧ t.flash = s.flash) ∧
    (s.pwr d ≠ 4 → exec (.releaseTimeout d) s = .next s))

/-- R50, R442, R444, R445 and R533: the supplies' rise, their loss and RESET_N clear the counter, its epoch and its rate, and every object but
those that the reset itself sets; a safe state outside a thermal shutdown ignores RESET_N. Start-up reaches step 2 once the
device's own delay has passed and RESET_N is released, and counts. A chip reset keeps the counter and all that WAYMARK holds,
leaves AON and MGT alone ON, without votes, and begins again at step 5, or at step 3 where the logic BIST is not complete or
is ordered; the command orders it. -/
def Obligations.ResetsClearAndKeep : Prop :=
  (∀ (s : State) (strap : Fin 4), (s.start.powered = false →
      ∃ t : State, exec (.powerOn strap) s = .next t ∧ t.start = { powered := true, resetN := s.start.resetN, strap := strap.val } ∧
        t.time.acc = 0 ∧ t.reg Ob.POWER_START_STEP 0 = 1 ∧ t.fuse.cells = s.fuse.cells ∧ t.pending = s.pending ∧
        (∀ ix sub, sub < 256 → ¬(ix = Ob.POWER_START_STEP ∧ sub = 0) → t.reg ix sub = regDefault (objKey ix sub))) ∧
    (s.start.powered = true → exec (.powerOn strap) s = .next s)) ∧
  (∀ s : State, (s.start.powered = true →
      ∃ t : State, exec .undervoltage s = .next t ∧ t.start = { resetN := s.start.resetN } ∧ t.time.acc = 0 ∧ t.fuse.cells = s.fuse.cells ∧
        t.pending = s.pending ∧ (∀ ix sub, sub < 256 → t.reg ix sub = regDefault (objKey ix sub))) ∧
    (s.start.powered = false → exec .undervoltage s = .next s)) ∧
  (∀ s : State, (s.start.powered = true → s.reg Ob.POWER_START_STEP 0 = 1 → s.start.delayDone = false →
      ∃ t : State, exec .porDelayExpiry s = .next t ∧ t = { s with regs := t.regs, start := t.start } ∧
        t.start = { s.start with delayDone := true } ∧
        (s.start.resetN = true → t.regs = s.regs) ∧
        (s.start.resetN = false → t.reg Ob.POWER_START_STEP 0 = 2 ∧
          t.reg Ob.POWER_START_COUNT 0 = (min (2 ^ 32 - 1) (s.nat Ob.POWER_START_COUNT 0 + 1) : Nat)) ∧
        KeepsRegs (fun ix _ => ix = Ob.POWER_START_STEP ∨ ix = Ob.POWER_START_COUNT) s t) ∧
    ((s.start.powered = false ∨ s.start.delayDone = true) → exec .porDelayExpiry s = .next s)) ∧
  (∀ s : State, (s.start.powered = true → s.reg Ob.DICT_STATE 0 ≠ 3 →
      ∃ t : State, exec .resetNAssert s = .next t ∧
        t.start = { powered := true, resetN := true, delayDone := s.start.delayDone, strap := s.start.strap } ∧ t.time.acc = 0 ∧
        t.reg Ob.TIME_EPOCH 0 = 0 ∧ t.reg Ob.TIME_RATE_ADJ 0 = 0 ∧ t.reg Ob.POWER_RESET_CAUSE 0 = 1 ∧
        t.reg Ob.POWER_START_STEP 0 = (if s.start.delayDone = true then 0 else 1) ∧ t.fuse.cells = s.fuse.cells ∧ t.pending = s.pending ∧
        (∀ ix sub, sub < 256 → ix ∉ [Ob.POWER_RESET_CAUSE, Ob.POWER_START_STEP, Ob.THERMAL_DIODE_FAIL, Ob.THERMAL_OFFSET_C,
          Ob.THERMAL_SHUTDOWN_COUNT] → t.reg ix sub = regDefault (objKey ix sub))) ∧
    ((s.start.powered = false ∨ (s.reg Ob.DICT_STATE 0 = 3 ∧ s.reg Ob.FAULT_SAFE_CAUSE 0 ≠ 3)) →
      exec .resetNAssert s = .next { s with start := { s.start with resetN := true } })) ∧
  (∀ (s : State) (strap : Fin 4),
    (s.start.resetN = true → s.start.powered = true → s.reg Ob.POWER_START_STEP 0 ≤ 1 → s.reg Ob.DICT_STATE 0 = 0 →
      s.start.delayDone = true →
      ∃ t : State, exec (.resetNRelease strap) s = .next t ∧ t = { s with regs := t.regs, start := t.start } ∧
        t.start = { s.start with resetN := false, strap := strap.val } ∧ t.reg Ob.POWER_START_STEP 0 = 2 ∧
        t.reg Ob.POWER_START_COUNT 0 = (min (2 ^ 32 - 1) (s.nat Ob.POWER_START_COUNT 0 + 1) : Nat) ∧
        KeepsRegs (fun ix _ => ix = Ob.POWER_START_STEP ∨ ix = Ob.POWER_START_COUNT) s t) ∧
    (s.start.resetN = false → exec (.resetNRelease strap) s = .next s)) ∧
  (∀ (s : State), (∀ cause, s.lookout.chipDue = some cause → s.reg Ob.DICT_STATE 0 ≠ 3 →
      ∃ t : State, exec .chipReset s = .next t ∧ t.time = s.time ∧ t.reg Ob.TIME_EPOCH 0 = s.reg Ob.TIME_EPOCH 0 ∧
        t.reg Ob.TIME_RATE_ADJ 0 = s.reg Ob.TIME_RATE_ADJ 0 ∧ t.reg Ob.DICT_STATE 0 = 0 ∧ t.reg Ob.POWER_RESET_CAUSE 0 = (cause : Int) ∧
        t.reg Ob.POWER_START_COUNT 0 = (min (2 ^ 32 - 1) (s.nat Ob.POWER_START_COUNT 0 + 1) : Nat) ∧
        t.reg Ob.POWER_START_STEP 0 = (if s.start.bistDone = true ∧ s.start.full = 0 then 4 else 2) ∧
        (∀ d : Fin 36, t.pwr d = (if d = Dom.AON ∨ d = Dom.MGT then 2 else 0) ∧ t.votes d = 0) ∧
        t.lookout = { s.lookout with chipDue := none } ∧ t.mmp = {} ∧ t.fuse = s.fuse ∧ t.pending = s.pending ∧
        t.savedRegs = s.savedRegs ∧ (s.reg Ob.UPDATE_SESSION 0 ≠ 1 → t.flash = s.flash)) ∧
    (s.lookout.chipDue = none → exec .chipReset s = .next s) ∧
    (s.reg Ob.DICT_STATE 0 = 3 → ∃ t : State, exec .chipReset s = .next t ∧ t = { s with lookout := { s.lookout with chipDue := none } })) ∧
  (∀ (s : State) (r : Req), s.Accepts r .exec Ob.POWER_CHIP_RESET 0 [0] →
    ∃ u : State, exec (.powerChipReset r) s = .next (u.reply r .exec Ob.POWER_CHIP_RESET 0 St.OK []) ∧
      u = { s.taken r .exec Ob.POWER_CHIP_RESET 0 [0] with lookout := { s.lookout with chipDue := some 4 } })

/-- R445 to R449 and R486 to R513: each step of start-up runs only at its place and leads to the next, or to SAFE_HOLD: sensing takes the life
cycle, the waves of the logic BIST run in order and a QUICK island that does not pass holds, BOOT verifies and the journal
decides, a copied block holds its source's bytes, a copy that does not verify runs once more, the other partition stands in
for one that fails, the settings and the start-up votes act, and READY is read with INT_N asserted. -/
def Obligations.StartupStepsInOrder : Prop :=
  (∀ (s : State) (flips : List FuseFlip), s.startAt 2 = true → (∀ f ∈ flips, f.two = true → s.fuseChecked f.word = false) →
    (∀ lc, lifeCycleOf (s.fuseSensed 4) = some lc →
      ∃ t : State, exec (.fuseSenseDone flips) s = .next t ∧ t.reg Ob.POWER_START_STEP 0 = 3 ∧ t.reg Ob.LC_STATE 0 = (lc : Int) ∧
        t.reg Ob.LC_NEXT 0 = (lc : Int) ∧ t.reg Ob.DICT_STATE 0 = (if lc = 0 ∨ lc = 5 then 1 else 0) ∧ t.pwr Dom.MGT = 2 ∧ t.fuse.bad = [] ∧
        (lc ≠ 0 → lc ≠ 5 → t.start.waves = bistWaves s.partEA s.start.full) ∧ t.time = s.time ∧ t.flash = s.flash) ∧
    (lifeCycleOf (s.fuseSensed 4) = none →
      ∃ t : State, exec (.fuseSenseDone flips) s = .next t ∧ t.reg Ob.DICT_STATE 0 = 2 ∧
        t.reg Ob.POWER_EVENTS 0 = (min (2 ^ 32 - 1) (s.nat Ob.POWER_EVENTS 0 + 1) : Nat) ∧ t.time = s.time ∧ t.flash = s.flash)) ∧
  (∀ (s : State) (res : List BistRes) (w : List Nat) (rest : List (List Nat)), s.start.waves = w :: rest → s.startAt 3 = true →
    (∀ x ∈ w :: rest, ∀ i ∈ x, i < 8) →
    ((∀ i ∈ w, bitOf s.start.fullNow i = false → s.bistResult i (res.getD (w.idxOf i) {}) = 2) →
      ∃ t : State, exec (.bistWaveDone res) s = .next t ∧ t.reg Ob.SELFTEST_BIST_TIME 0 = (s.stamp : Int) ∧ t.start.waves = rest ∧
        (rest = [] → t.reg Ob.POWER_START_STEP 0 = 4 ∧ t.start.bistDone = true ∧
          ∀ i ∈ w, t.reg Ob.SELFTEST_BIST_RESULT (i + 1) = (s.bistResult i (res.getD (w.idxOf i) {}) : Nat)) ∧
        (rest ≠ [] → t.reg Ob.POWER_START_STEP 0 = 3 ∧ ∀ i ∈ rest.headD [], t.reg Ob.SELFTEST_BIST_RESULT (i + 1) = 1)) ∧
    ((∃ i ∈ w, bitOf s.start.fullNow i = false ∧ s.bistResult i (res.getD (w.idxOf i) {}) ≠ 2) →
      ∃ t : State, exec (.bistWaveDone res) s = .next t ∧ t.reg Ob.DICT_STATE 0 = 2 ∧ t.start.waves = [])) ∧
  (∀ (s : State), s.startAt 4 = true → s.upd.copy = none →
    (∃ t : State, exec (.bootLoaded true) s = .next t ∧ t.reg Ob.DICT_STATE 0 = 0 ∧
      (t.upd.copy = none → t.reg Ob.POWER_START_STEP 0 = 5) ∧ (t.upd.copy ≠ none → t.reg Ob.POWER_START_STEP 0 = 4) ∧ t.time = s.time) ∧
    (∃ t : State, exec (.bootLoaded false) s = .next t ∧ t.reg Ob.DICT_STATE 0 = 2 ∧ t.flash = s.flash ∧ t.time = s.time)) ∧
  (∀ (s : State) (c : CopyRun), s.upd.copy = some c → s.startAt 4 = true →
    (c.block < s.copyBlocks c → ∃ t : State, exec .copyBlockDone s = .next t ∧ t.upd = { s.upd with copy := some { c with block := c.block + 1 } } ∧
      (∀ i < 65536, t.flash.get flashDefault (copyTo c + 65536 * c.block + i) = s.flash.get flashDefault (copyFrom c + 65536 * c.block + i)) ∧
      t = { s with regs := t.regs, flash := t.flash, upd := t.upd }) ∧
    (s.copyBlocks c ≤ c.block → (List.range 8).all (fun j => s.partDigest (copyTo c) (s.manifest (copyTo c)) j) = true →
      ∃ t : State, exec (.copyVerifyDone true) s = .next t ∧
        (c.second = true → t.upd.copy = none ∧ t.upd.load = 0 ∧ t.upd.result = (if c.resumed = true then 2 else 1) ∧
          t.reg Ob.POWER_START_STEP 0 = 5) ∧
        (c.second = false → t.upd.copy = some { second := true, block := 0, resumed := c.resumed })) ∧
    (s.copyBlocks c ≤ c.block →
      ∃ t : State, exec (.copyVerifyDone false) s = .next t ∧
        (c.repeated = false → t.upd.copy = some { c with block := 0, repeated := true } ∧
          t.reg Ob.POWER_START_STEP 0 = s.reg Ob.POWER_START_STEP 0) ∧
        (c.repeated = true → t.upd.copy = none ∧ t.upd.load = c.second.toNat ∧ t.upd.result = 3 ∧ t.reg Ob.POWER_START_STEP 0 = 5 ∧
          t.reg Ob.UPDATE_EVENTS 0 = (min (2 ^ 32 - 1) (s.nat Ob.UPDATE_EVENTS 0 + 1) : Nat)))) ∧
  (∀ (s : State), s.startAt 5 = true → s.upd.load ≤ 1 →
    (s.imageGood (runBase s.upd.load) = true →
      ∃ t : State, exec .activeLoaded s = .next t ∧ t.reg Ob.POWER_START_STEP 0 = 6 ∧ t.upd.loaded = s.upd.load ∧ t.flash = s.flash ∧
        t.lookout = s.lookout) ∧
    (s.imageGood (runBase s.upd.load) = false → s.imageGood (runBase (1 - s.upd.load)) = true →
      ∃ t : State, exec .activeLoaded s = .next t ∧ t.reg Ob.POWER_START_STEP 0 = 6 ∧ t.upd.loaded = 1 - s.upd.load ∧ t.upd.result = 4 ∧
        t.reg Ob.UPDATE_EVENTS 0 = (min (2 ^ 32 - 1) (s.nat Ob.UPDATE_EVENTS 0 + 1) : Nat) ∧ t.flash = s.flash) ∧
    (s.imageGood (runBase s.upd.load) = false → s.imageGood (runBase (1 - s.upd.load)) = false →
      ∃ t : State, exec .activeLoaded s = .next t ∧ t.reg Ob.DICT_STATE 0 = 2 ∧ t.flash = s.flash)) ∧
  (∀ (s : State), s.startAt 6 = true →
    ∃ t : State, exec .settingsLoaded s = .next t ∧ t.reg Ob.POWER_START_STEP 0 = 7 ∧ t.start.select = Vector.replicate 2 true ∧
      (∀ d ∈ [Dom.MGT, Dom.HK], bitOf (t.votes d) Vote.HOST = true) ∧
      (∀ d ∈ [Dom.eng 0, Dom.eng 4], bitOf (t.votes d) Vote.THERMOS = true) ∧
      (s.pwr Dom.HK = 0 → s.doms[Dom.HK].barred = false → t.pwr Dom.HK = 4) ∧ t.flash = s.flash) ∧
  (∀ (s : State), s.startAt 7 = true → s.stepSevenDone = true →
    ∃ t : State, exec .startupReady s = .next t ∧ t.reg Ob.DICT_STATE 0 = 1 ∧ t.reg Ob.POWER_START_STEP 0 = 8 ∧
      t.reg Ob.POWER_READY_TIME 0 = (s.stamp : Int) ∧ t.start.ready = true ∧ t.intAsserted = true ∧ t.time = s.time) ∧
  (∀ (s : State) (flips : List FuseFlip) (res : List BistRes) (ok : Bool), s.start.powered = false →
    exec (.fuseSenseDone flips) s = .next s ∧ exec (.bistWaveDone res) s = .next s ∧ exec (.bootLoaded ok) s = .next s ∧
    exec .copyBlockDone s = .next s ∧ exec (.copyVerifyDone ok) s = .next s ∧ exec .activeLoaded s = .next s ∧
    exec .settingsLoaded s = .next s ∧ exec .startupReady s = .next s)

/-! ## Faults and protected memories (chapter 18) -/

/-- R456 to R475: LOOKOUT takes the first record of its queue: it logs it, counts it and applies its reactions, a full log giving way to a record
of the same or a higher severity alone; a FATAL record takes the device to the safe state, a CHIP reaction orders a chip
reset, the fifth within 60 s the safe state in its place, and a BLOCK reaction resets its domain. A cause that is due, the
SHUTDOWN threshold and a fault of LOOKOUT's own storage enter the safe state: ports OFF, every waiting command answered, only AON and MGT ON. Writes
of 1s clear pending bits, the log clears, and a raise queues HOST_TEST. -/
def Obligations.FaultsAreCollected : Prop :=
  (∀ (s : State) (q : QueuedRec) (rest : List QueuedRec), s.lookout.queue = q :: rest → s.lookout.late = [] → q.src < 256 →
    min 4 (s.severity q.src + q.raised.toNat) < 4 → s.reg Ob.DICT_STATE 0 ≠ 3 →
    (let sev := min 4 (s.severity q.src + q.raised.toNat)
     let mask := s.nat Ob.FAULT_REACTION q.src
     (bitOf mask 2 = false → bitOf mask 3 = false → s.pwr Dom.MGT = 2 →
        ∃ t : State, exec .lookoutRecordAccept s = .next t ∧
          t = { s with regs := t.regs, blobs := t.blobs, lookout := { s.lookout with queue := rest, log := t.lookout.log } } ∧
          t.reg Ob.FAULT_SRC_COUNT q.src = (min (2 ^ 32 - 1) (s.nat Ob.FAULT_SRC_COUNT q.src + 1) : Nat) ∧
          t.reg Ob.FAULT_HIGHEST 0 =
            (if s.reg Ob.FAULT_HIGHEST 0 = 255 ∨ s.reg Ob.FAULT_HIGHEST 0 < (sev : Int) then (sev : Int) else s.reg Ob.FAULT_HIGHEST 0) ∧
          (s.lookout.log.length < 64 →
            t.lookout.log = ⟨q.src, sev, s.nat Ob.TIME_EPOCH 0 % 256, 2 * q.raised.toNat, (s.nat Ob.FAULT_LOG_SEQ 0 + 1) % 65536, mask,
              s.stamp, q.detail⟩ :: s.lookout.log ∧
            t.reg Ob.FAULT_LOG_SEQ 0 = ((s.nat Ob.FAULT_LOG_SEQ 0 + 1) % 65536 : Nat) ∧
            t.reg Ob.FAULT_LOG_COUNT 0 = (s.lookout.log.length + 1 : Nat)) ∧
          (64 ≤ s.lookout.log.length → (∀ r ∈ s.lookout.log, sev < r.sev) → t.lookout.log = s.lookout.log ∧
            t.reg Ob.FAULT_LOG_DROPPED 0 = (min (2 ^ 32 - 1) (s.nat Ob.FAULT_LOG_DROPPED 0 + 1) : Nat)) ∧
          (64 ≤ s.lookout.log.length → (∃ r ∈ s.lookout.log, r.sev ≤ sev) → t.lookout.log.length = s.lookout.log.length ∧
            t.reg Ob.FAULT_LOG_DROPPED 0 = s.reg Ob.FAULT_LOG_DROPPED 0) ∧
          (∀ ix bit, (ix, bit) ∈ [(Ob.FAULT_INT_PENDING, 0), (Ob.FAULT_ERR_PENDING, 4)] →
            (bitOf mask bit = true → q.src / 8 < (s.blob ix 0).length →
              bitOf ((t.blob ix 0).getD (q.src / 8) 0).toNat (q.src % 8) = true) ∧
            (bitOf mask bit = false → t.blob ix 0 = s.blob ix 0)) ∧
          (∀ ix sub, sub < 256 → ix ∉ [Ob.FAULT_INT_PENDING, Ob.FAULT_ERR_PENDING, Ob.FAULT_TRAP_RECORD] → t.blob ix sub = s.blob ix sub) ∧
          (bitOf mask 1 = true → s.lookout.log.length < 64 → ∃ r, t.lookout.log.head? = some r ∧ t.blob Ob.FAULT_TRAP_RECORD 0 = r.bytes) ∧
          KeepsRegs (fun ix sub => (ix = Ob.FAULT_SRC_COUNT ∧ sub = q.src) ∨ (sub = 0 ∧ ix ∈ [Ob.FAULT_HIGHEST, Ob.FAULT_LOG_SEQ,
            Ob.FAULT_LOG_COUNT, Ob.FAULT_LOG_DROPPED])) s t) ∧
     (bitOf mask 3 = true →
        ∃ t : State, exec .lookoutRecordAccept s = .next t ∧
          ((s.lookout.storms.filter (fun c => decide (s.time.now - c < 60 * refclkHz))).length < 4 →
            t.lookout.chipDue = some 2 ∧ t.reg Ob.DICT_STATE 0 = s.reg Ob.DICT_STATE 0) ∧
          (4 ≤ (s.lookout.storms.filter (fun c => decide (s.time.now - c < 60 * refclkHz))).length →
            t.reg Ob.DICT_STATE 0 = 3 ∧ t.reg Ob.FAULT_SAFE_CAUSE 0 = 4 ∧ t.reg Ob.FAULT_SAFE_SOURCE 0 = (q.src : Int) ∧
            t.lookout.chipDue = none) ∧
          t.reg Ob.FAULT_SRC_COUNT q.src = (min (2 ^ 32 - 1) (s.nat Ob.FAULT_SRC_COUNT q.src + 1) : Nat) ∧ t.time = s.time ∧
          t.fuse = s.fuse) ∧
     (∀ d, bitOf mask 2 = true → bitOf mask 3 = false → s.blockDomain q.src q.detail = some d → d ≠ Dom.AON → d ≠ Dom.MGT →
        s.pwr d ≠ 0 → s.pwr d ≠ 1 →
        (∀ p : Fin 8, s.exists p = true → s.pstate p = PS.OFF ∧ s.port[p].goal = .none) →
        ∃ t : State, exec .lookoutRecordAccept s = .next t ∧ (t.pwr d = 0 ∨ t.pwr d = 4) ∧ t.time = s.time ∧ t.fuse = s.fuse ∧
          t.reg Ob.FAULT_SRC_COUNT q.src = (min (2 ^ 32 - 1) (s.nat Ob.FAULT_SRC_COUNT q.src + 1) : Nat)))) ∧
  (∀ (s : State) (q : QueuedRec) (rest : List QueuedRec), s.lookout.queue = q :: rest → q.src < 256 →
    min 4 (s.severity q.src + q.raised.toNat) = 4 → s.reg Ob.DICT_STATE 0 ≠ 3 →
    ∃ t : State, exec .lookoutRecordAccept s = .next t ∧ t.reg Ob.DICT_STATE 0 = 3 ∧ t.reg Ob.FAULT_SAFE_CAUSE 0 = 1 ∧
      t.reg Ob.FAULT_SAFE_SOURCE 0 = (q.src : Int) ∧ t.lookout.chipDue = none ∧
      t.reg Ob.FAULT_SRC_COUNT q.src = (min (2 ^ 32 - 1) (s.nat Ob.FAULT_SRC_COUNT q.src + 1) : Nat) ∧ t.time = s.time ∧ t.fuse = s.fuse) ∧
  (∀ s : State, s.lookout.queue = [] → exec .lookoutRecordAccept s = .next s) ∧
  (∀ s : State,
    (∀ cause, s.lookout.safeDue = some cause → s.reg Ob.DICT_STATE 0 ≠ 3 →
      ∃ t : State, exec .safeStateEntry s = .next t ∧ t.reg Ob.DICT_STATE 0 = 3 ∧ t.reg Ob.FAULT_SAFE_CAUSE 0 = cause.code ∧
        t.reg Ob.FAULT_SAFE_SOURCE 0 = cause.src ∧ t.reg Ob.FAULT_SAFE_TIME 0 = (s.stamp : Int) ∧
        (∀ p : Fin 8, s.exists p = true → t.pstate p = PS.OFF) ∧
        (∀ d : Fin 36, t.pwr d = (if d = Dom.AON ∨ d = Dom.MGT then 2 else 0) ∧ t.votes d = 0) ∧
        t.mmp.pend = [] ∧ (∀ p : Path, (t.tp p).session = none) ∧ t.lookout.safeDue = none ∧ t.lookout.chipDue = none ∧
        t.lookout.log = s.lookout.log ∧ t.reg Ob.UPDATE_SESSION 0 = 0 ∧ t.time = s.time ∧ t.fuse = s.fuse ∧ t.pending = s.pending) ∧
    (∀ cause, s.lookout.safeDue = some cause → s.reg Ob.DICT_STATE 0 = 3 →
      exec .safeStateEntry s = .next { s with lookout := { s.lookout with safeDue := none } }) ∧
    (s.lookout.safeDue = none → exec .safeStateEntry s = .next s)) ∧
  (∀ (s : State) (byDiode : Bool),
    let tj := if byDiode = true then s.reg Ob.THERMAL_DIODE 0 else s.reg Ob.THERMAL_TJ 0
    (s.start.powered = true → s.reg Ob.DICT_STATE 0 ≠ 3 → s.threshold Ob.THERMAL_SHUTDOWN_C ≤ tj →
      ∃ t : State, exec (.thermalShutdown byDiode) s = .next t ∧ t.reg Ob.DICT_STATE 0 = 3 ∧ t.reg Ob.FAULT_SAFE_CAUSE 0 = 3 ∧
        t.reg Ob.FAULT_SAFE_SOURCE 0 = 0 ∧ t.reg Ob.THERMAL_STATE 0 = 3 ∧
        t.reg Ob.THERMAL_SHUTDOWN_COUNT 0 = (min (2 ^ 32 - 1) (s.nat Ob.THERMAL_SHUTDOWN_COUNT 0 + 1) : Nat) ∧
        t.reg Ob.THERMAL_EVENTS 0 = (min (2 ^ 32 - 1) (s.nat Ob.THERMAL_EVENTS 0 + 1) : Nat) ∧ t.time = s.time ∧ t.fuse = s.fuse) ∧
    ((s.start.powered = false ∨ s.reg Ob.DICT_STATE 0 = 3 ∨ tj < s.threshold Ob.THERMAL_SHUTDOWN_C) →
      exec (.thermalShutdown byDiode) s = .next s)) ∧
  (∀ (s : State) (cause : Fin 3), (s.start.powered = true →
      ∃ t : State, exec (.selfFault cause) s = .next t ∧ t.reg Ob.FAULT_SELF_FAULT 0 = (cause.val + 1 : Nat) ∧ t.reg Ob.DICT_STATE 0 = 3 ∧
        t.reg Ob.FAULT_SAFE_CAUSE 0 = 2 ∧ t.reg Ob.FAULT_SAFE_SOURCE 0 = 0 ∧ t.lookout.log = s.lookout.log ∧ t.time = s.time ∧
        t.fuse = s.fuse) ∧
    (s.start.powered = false → exec (.selfFault cause) s = .next s)) ∧
  (∀ (s : State) (r : Req) (bs : List Byte) (ob : Nat) (c : Instr),
    (ob, c) ∈ [(Ob.FAULT_INT_PENDING, Instr.intPendingWrite r bs), (Ob.FAULT_ERR_PENDING, Instr.errPendingWrite r bs)] →
    s.Accepts r .write ob 0 bs →
    ∃ u : State, exec c s = .next (u.reply r .write ob 0 St.OK []) ∧ u = { s.taken r .write ob 0 bs with blobs := u.blobs } ∧
      (∀ n, n / 8 < bs.length → n / 8 < (s.blob ob 0).length → bitOf ((u.blob ob 0).getD (n / 8) 0).toNat (n % 8) =
        (bitOf ((s.blob ob 0).getD (n / 8) 0).toNat (n % 8) && !bitOf (bs.getD (n / 8) 0).toNat (n % 8))) ∧
      (∀ ix sub, sub < 256 → ¬(ix = ob ∧ sub = 0) → u.blob ix sub = s.blob ix sub)) ∧
  (∀ (s : State) (r : Req), s.Accepts r .exec Ob.FAULT_LOG_CLEAR 0 [0] →
    ∃ u : State, exec (.faultLogClear r) s = .next (u.reply r .exec Ob.FAULT_LOG_CLEAR 0 St.OK []) ∧
      u = { s.taken r .exec Ob.FAULT_LOG_CLEAR 0 [0] with regs := u.regs, lookout := { s.lookout with log := [] } } ∧
      u.reg Ob.FAULT_LOG_COUNT 0 = 0 ∧ u.reg Ob.FAULT_HIGHEST 0 = 255 ∧
      KeepsRegs (fun ix _ => ix = Ob.MMP_RX_FRAMES ∨ ix = Ob.FAULT_LOG_COUNT ∨ ix = Ob.FAULT_HIGHEST) s u) ∧
  (∀ (s : State) (r : Req) (v : Nat), v < 2 ^ 32 → s.Accepts r .exec Ob.FAULT_RAISE 0 (leBytes 4 v) →
    ∃ u : State, exec (.faultRaise r v) s = .next (u.reply r .exec Ob.FAULT_RAISE 0 St.OK []) ∧
      u = { s.taken r .exec Ob.FAULT_RAISE 0 (leBytes 4 v) with regs := u.regs, lookout := u.lookout, cap := u.cap } ∧
      (s.lookout.queue.length < 16 → u.lookout.queue.length = s.lookout.queue.length + 1 ∧
        (⟨Src.HOST_TEST, v, false, min 4 (s.severity Src.HOST_TEST), s.time.now⟩ : QueuedRec) ∈ u.lookout.queue) ∧
      KeepsRegs (fun ix sub => ix = Ob.MMP_RX_FRAMES ∨ EventObj ix sub) s u)

/-- R467 to R472: each microsecond every group whose domain is ON scrubs its next word and counts a pass at the last one. A word with one bit
in error counts as corrected, twice and as a hard fault where its verify read corrects again; one with two counts as
uncorrectable and not as corrected; the ROM and the fuse shadow count corrections by address. -/
def Obligations.MemoriesScrubAndCorrect : Prop :=
  (∀ (s : State), s.start.powered = true →
    ∃ t : State, exec (.memScrubRead []) s = .next t ∧ t = { s with regs := t.regs, mem := t.mem } ∧
      (∀ g : Fin 44, s.reg Ob.MEM_SCRUB_ENABLE 0 ≠ 0 → s.on (memDom g.val) = true →
        t.mem[g].scrub = (if s.mem[g].scrub + 1 < groupWords g.val then s.mem[g].scrub + 1 else 0) ∧
        t.reg Ob.MEM_SCRUB_PASSES (g.val + 1) = (if s.mem[g].scrub + 1 < groupWords g.val then s.reg Ob.MEM_SCRUB_PASSES (g.val + 1)
          else (min (2 ^ 32 - 1) (s.nat Ob.MEM_SCRUB_PASSES (g.val + 1) + 1) : Nat))) ∧
      (∀ g : Fin 44, (s.reg Ob.MEM_SCRUB_ENABLE 0 = 0 ∨ s.on (memDom g.val) = false) → t.mem[g] = s.mem[g] ∧
        t.reg Ob.MEM_SCRUB_PASSES (g.val + 1) = s.reg Ob.MEM_SCRUB_PASSES (g.val + 1)) ∧
      KeepsRegs (fun ix _ => ix = Ob.MEM_SCRUB_PASSES) s t) ∧
  (∀ (s : State) (g : Fin 44) (w n : Nat) (user : MemUser) (again : Bool), s.start.powered = true → s.alive (memDom g.val) = true →
    user ≠ .scrub →
    ∃ t : State, exec (.memScrubRead [⟨.group g, w, user, n, again⟩]) s = .next t ∧ t.time = s.time ∧ t.fuse = s.fuse ∧
      t.reg Ob.MEM_CORRECTED (g.val + 1) = (if n = 1 then ((min (2 ^ 64 - 1) (s.nat Ob.MEM_CORRECTED (g.val + 1) + 1 + again.toNat) : Nat) : Int)
        else s.reg Ob.MEM_CORRECTED (g.val + 1)) ∧
      t.reg Ob.MEM_UNCORRECTABLE (g.val + 1) = (if 2 ≤ n then ((min (2 ^ 64 - 1) (s.nat Ob.MEM_UNCORRECTABLE (g.val + 1) + 1) : Nat) : Int)
        else s.reg Ob.MEM_UNCORRECTABLE (g.val + 1)) ∧
      (n = 1 → again = true → t.reg Ob.MEM_HARD_FAULTS (g.val + 1) =
        (min (2 ^ 32 - 1) (s.nat Ob.MEM_HARD_FAULTS (g.val + 1) + 1) : Nat)) ∧
      (n = 1 → again = false → s.mem[g].watch = [] → t.mem[g].watch = [(w % groupWords g.val, 1)] ∧
        t.reg Ob.MEM_HARD_FAULTS (g.val + 1) = s.reg Ob.MEM_HARD_FAULTS (g.val + 1))) ∧
  (∀ (s : State) (which : Fin 2) (w : Nat) (user : MemUser) (again : Bool), s.start.powered = true →
    ∃ t : State, exec (.memScrubRead [⟨if which = 0 then .rom else .shadow, w, user, 1, again⟩]) s = .next t ∧
      t.reg Ob.MEM_REPEAT_CORRECTED (which.val + 1) = (min (2 ^ 64 - 1) (s.nat Ob.MEM_REPEAT_CORRECTED (which.val + 1) + 1) : Nat) ∧
      t.time = s.time ∧ t.fuse = s.fuse) ∧
  (∀ (s : State) (reads : List MemRead), s.start.powered = false → exec (.memScrubRead reads) s = .next s)

/-! ## Fuses, self-checks, the life cycle and the test access port (chapters 19 and 21) -/

/-- R477 to R479 and R490 to R493: FUSE.PROGRAM blows an unused module word, refuses any other, and closes one whose cell fails for good; a
life-cycle command blows its bit of word 4 for the next start, one step at a time, and refuses while another transition is
pending, but for LC.RETIRE; the challenge serves one token, which LC.RETURN verifies against the vendor key. -/
def Obligations.FusesAndLifeCycleMove : Prop :=
  (∀ (s : State) (r : Req) (fail : Option Nat), s.Accepts r .exec Ob.FUSE_PROGRAM 0 [0] →
    (let w := s.nat Ob.FUSE_PROG_WORD 0
     (moduleWord w = false →
       exec (.fuseProgram r fail) s = .next ((s.taken r .exec Ob.FUSE_PROGRAM 0 [0]).reply r .exec Ob.FUSE_PROGRAM 0 St.RANGE [])) ∧
     (moduleWord w = true → (s.fuseCell w ≠ 0 ∨ w ∈ s.fuse.valid ∨ w ∈ s.fuse.closed) →
       exec (.fuseProgram r fail) s = .next ((s.taken r .exec Ob.FUSE_PROGRAM 0 [0]).reply r .exec Ob.FUSE_PROGRAM 0 St.CONFIG_CONFLICT [])) ∧
     (moduleWord w = true → s.fuseCell w = 0 → w ∉ s.fuse.valid → w ∉ s.fuse.closed →
       (fail = none → ∃ u : State, exec (.fuseProgram r fail) s = .next (u.reply r .exec Ob.FUSE_PROGRAM 0 St.OK []) ∧
          u = { s.taken r .exec Ob.FUSE_PROGRAM 0 [0] with fuse := { s.fuse with cells := u.fuse.cells, valid := w :: s.fuse.valid } } ∧
          u.fuseSensed w = s.nat Ob.FUSE_PROG_DATA 0 ∧ (∀ x, x ≠ w → u.fuseSensed x = s.fuseSensed x)) ∧
       (∀ cell, fail = some cell →
          ∃ u : State, exec (.fuseProgram r fail) s = .next (u.reply r .exec Ob.FUSE_PROGRAM 0 St.CONFIG_CONFLICT []) ∧
          u = { s.taken r .exec Ob.FUSE_PROGRAM 0 [0] with
                regs := u.regs, lookout := u.lookout, cap := u.cap, fuse := { s.fuse with closed := w :: s.fuse.closed } } ∧
          u.reg Ob.SELFTEST_EVENTS 0 = (min (2 ^ 32 - 1) (s.nat Ob.SELFTEST_EVENTS 0 + 1) : Nat) ∧
          KeepsRegs (fun ix sub => ix = Ob.MMP_RX_FRAMES ∨ ix = Ob.SELFTEST_EVENTS ∨ EventObj ix sub) s u)))) ∧
  (∀ (s : State) (r : Req) (v : Nat), v < 256 → s.Accepts r .exec Ob.LC_ADVANCE 0 (leBytes 1 v) →
    (let lc := s.nat Ob.LC_STATE 0
     let no (st : Nat) := exec (.lcAdvance r v) s =
       .next ((s.taken r .exec Ob.LC_ADVANCE 0 (leBytes 1 v)).reply r .exec Ob.LC_ADVANCE 0 st [])
     (lc = 0 → (s.tp r.path).session ≠ some .vendor → no St.ACCESS_REFUSED) ∧
     ((lc ≠ 0 ∨ (s.tp r.path).session = some .vendor) →
       (v ≠ lc + 1 → no St.RANGE) ∧
       (v = lc + 1 → s.reg Ob.LC_NEXT 0 ≠ s.reg Ob.LC_STATE 0 → no St.CONFIG_CONFLICT) ∧
       (v = lc + 1 → lc = 1 → s.moduleKeyGood = false → no St.CONFIG_CONFLICT) ∧
       (v = lc + 1 → s.reg Ob.LC_NEXT 0 = s.reg Ob.LC_STATE 0 → (lc = 1 → s.moduleKeyGood = true) →
         ∃ u : State, exec (.lcAdvance r v) s = .next (u.reply r .exec Ob.LC_ADVANCE 0 St.OK []) ∧
           u = { s.taken r .exec Ob.LC_ADVANCE 0 (leBytes 1 v) with regs := u.regs, lookout := u.lookout, cap := u.cap, fuse := { s.fuse with cells := u.fuse.cells } } ∧
           u.reg Ob.LC_NEXT 0 = (v : Int) ∧ u.fuseCell 4 = withBit (s.fuseCell 4) lc true ∧
           (∀ x, x ≠ 4 → u.fuseCell x = s.fuseCell x) ∧
           u.reg Ob.SELFTEST_EVENTS 0 = (min (2 ^ 32 - 1) (s.nat Ob.SELFTEST_EVENTS 0 + 1) : Nat) ∧
           KeepsRegs (fun ix sub => ix = Ob.MMP_RX_FRAMES ∨ ix = Ob.LC_NEXT ∨ ix = Ob.SELFTEST_EVENTS ∨ EventObj ix sub) s u)))) ∧
  (∀ (s : State) (r : Req), s.Accepts r .exec Ob.LC_RETIRE 0 [0] →
    ∃ u : State, exec (.lcRetire r) s = .next (u.reply r .exec Ob.LC_RETIRE 0 St.OK []) ∧
      u = { s.taken r .exec Ob.LC_RETIRE 0 [0] with regs := u.regs, lookout := u.lookout, cap := u.cap, fuse := { s.fuse with cells := u.fuse.cells } } ∧
      u.reg Ob.LC_NEXT 0 = 5 ∧ u.fuseCell 4 = withBit (s.fuseCell 4) 4 true ∧ (∀ x, x ≠ 4 → u.fuseCell x = s.fuseCell x) ∧
      u.reg Ob.SELFTEST_EVENTS 0 = (min (2 ^ 32 - 1) (s.nat Ob.SELFTEST_EVENTS 0 + 1) : Nat) ∧
      KeepsRegs (fun ix sub => ix = Ob.MMP_RX_FRAMES ∨ ix = Ob.LC_NEXT ∨ ix = Ob.SELFTEST_EVENTS ∨ EventObj ix sub) s u) ∧
  (∀ (s : State) (r : Req), s.Accepts r .read Ob.LC_CHALLENGE 0 [] →
    ∃ (u : State) (c : List Byte), exec (.lcChallengeRead r) s = .next (u.reply r .read Ob.LC_CHALLENGE 0 St.OK c) ∧
      c = Config.randomBytes s.freeCount ∧ (u.tp r.path).lcChallenge = some c ∧
      (∀ p : Path, p ≠ r.path → u.tp p = s.tp p) ∧
      u = { s.taken r .read Ob.LC_CHALLENGE 0 [] with mmp := u.mmp, freeCount := s.freeCount + 1 }) ∧
  (∀ (s : State) (r : Req) (token : List Byte), s.Accepts r .exec Ob.LC_RETURN 0 token →
    (s.reg Ob.LC_NEXT 0 ≠ s.reg Ob.LC_STATE 0 → exec (.lcReturn r token) s =
      .next ((s.taken r .exec Ob.LC_RETURN 0 token).reply r .exec Ob.LC_RETURN 0 St.CONFIG_CONFLICT [])) ∧
    (∀ c, s.reg Ob.LC_NEXT 0 = s.reg Ob.LC_STATE 0 → (s.tp r.path).lcChallenge = some c →
      Config.ecdsaVerify s.vendorKey (beBytes 8 (s.fuseWord 2) ++ [0x04] ++ c) token = true →
      ∃ u : State, exec (.lcReturn r token) s = .next (u.reply r .exec Ob.LC_RETURN 0 St.OK []) ∧ u.reg Ob.LC_NEXT 0 = 4 ∧
        u = { s.taken r .exec Ob.LC_RETURN 0 token with
              regs := u.regs, mmp := u.mmp, lookout := u.lookout, cap := u.cap, fuse := { s.fuse with cells := u.fuse.cells } } ∧
        u.fuseCell 4 = withBit (s.fuseCell 4) 3 true ∧ (∀ x, x ≠ 4 → u.fuseCell x = s.fuseCell x) ∧ (u.tp r.path).lcChallenge = none ∧
        KeepsRegs (fun ix sub => ix = Ob.MMP_RX_FRAMES ∨ ix = Ob.LC_NEXT ∨ ix = Ob.SELFTEST_EVENTS ∨ EventObj ix sub) s u) ∧
    (s.reg Ob.LC_NEXT 0 = s.reg Ob.LC_STATE 0 →
      (∀ c, (s.tp r.path).lcChallenge = some c →
        Config.ecdsaVerify s.vendorKey (beBytes 8 (s.fuseWord 2) ++ [0x04] ++ c) token = false) →
      ∃ u : State, exec (.lcReturn r token) s = .next (u.reply r .exec Ob.LC_RETURN 0 St.AUTH_FAIL []) ∧
        u = { s.taken r .exec Ob.LC_RETURN 0 token with regs := u.regs, mmp := u.mmp, lookout := u.lookout, cap := u.cap } ∧
        (u.tp r.path).lcChallenge = none ∧
        u.reg Ob.SELFTEST_EVENTS 0 = (min (2 ^ 32 - 1) (s.nat Ob.SELFTEST_EVENTS 0 + 1) : Nat) ∧
        KeepsRegs (fun ix sub => ix = Ob.MMP_RX_FRAMES ∨ ix = Ob.SELFTEST_EVENTS ∨ EventObj ix sub) s u))

/-- R482 to R489, R495 and R540: SELFTEST.ANALOG_RUN takes up every named item, starting, holding back or skipping each, and answers once none
is left; a check that ends writes its result, its detail and its count, and starts what its end lets start; SELFTEST.BIST_RUN
needs every port OFF and orders the reset that runs the named islands. The test access port selects, captures, shifts and
drives; boundary scan and debug act as BYPASS outside FACTORY and RETURNED, where debug, undescribed, is refused by name. -/
def Obligations.SelfTestsAndTestPort : Prop :=
  (∀ (s : State) (r : Req) (v : Nat), v < 2 ^ 32 → s.Accepts r .exec Ob.SELFTEST_ANALOG_RUN 0 (leBytes 4 v) →
    ((s.analog.running ≠ [] ∨ s.analog.waiting ≠ []) → exec (.selftestAnalogRun r v) s =
      .next ((s.taken r .exec Ob.SELFTEST_ANALOG_RUN 0 (leBytes 4 v)).reply r .exec Ob.SELFTEST_ANALOG_RUN 0 St.BUSY [])) ∧
    (s.analog.running = [] → s.analog.waiting = [] →
      ∃ u : State,
        exec (.selftestAnalogRun r v) s = .next (if u.analog.running = [] ∧ u.analog.waiting = [] then
          u.reply r .exec Ob.SELFTEST_ANALOG_RUN 0 St.OK [] else u.pendAdd ⟨r, .exec, Ob.SELFTEST_ANALOG_RUN, 0⟩) ∧
        (∀ i < 26, bitOf v i = true → i ∈ u.analog.waiting ∨ (i ∈ u.analog.running ∧ u.reg Ob.SELFTEST_ANALOG_RESULT (i + 1) = 1) ∨
          u.reg Ob.SELFTEST_ANALOG_RESULT (i + 1) = 4) ∧
        (∀ i < 26, bitOf v i = false → i ∉ u.analog.waiting ∧ i ∉ u.analog.running ∧
          u.reg Ob.SELFTEST_ANALOG_RESULT (i + 1) = s.reg Ob.SELFTEST_ANALOG_RESULT (i + 1)) ∧
        u.time = s.time ∧ u.fuse = s.fuse)) ∧
  (∀ (s : State) (item : Fin 26) (m : AnalogMeas),
    (item.val ∈ s.analog.running → item.val ∉ s.analog.waiting → s.analogCalibrates item.val = false →
      ∃ t : State, exec (.analogCheckDone item m) s = .next t ∧ item.val ∉ t.analog.running ∧
        t.reg Ob.SELFTEST_ANALOG_RESULT (item.val + 1) = (if s.analogPass item.val m = true then 2 else 3) ∧
        t.reg Ob.SELFTEST_ANALOG_TIME (item.val + 1) = (s.stamp : Int) ∧
        t.reg Ob.SELFTEST_ANALOG_DETAIL (item.val + 1) = (analogDetail item.val m : Int) ∧
        t.reg Ob.SELFTEST_ANALOG_COUNT (item.val + 1) = (min (2 ^ 32 - 1) (s.nat Ob.SELFTEST_ANALOG_COUNT (item.val + 1) + 1) : Nat) ∧
        t.reg Ob.SELFTEST_EVENTS 0 = (if s.analogPass item.val m = true then s.reg Ob.SELFTEST_EVENTS 0
          else (min (2 ^ 32 - 1) (s.nat Ob.SELFTEST_EVENTS 0 + 1) : Nat)) ∧
        (t.analog.running = [] → t.analog.waiting = [] → t.waiting Ob.SELFTEST_ANALOG_RUN 0 = false) ∧
        t.time = s.time ∧ t.fuse = s.fuse) ∧
    ((item.val ∉ s.analog.running ∨ s.analogCalibrates item.val = true) → exec (.analogCheckDone item m) s = .next s)) ∧
  (∀ (s : State) (r : Req) (v : Nat), v < 256 → s.Accepts r .exec Ob.SELFTEST_BIST_RUN 0 (leBytes 4 v) →
    (s.anyPortUp = true → exec (.selftestBistRun r v) s =
      .next ((s.taken r .exec Ob.SELFTEST_BIST_RUN 0 (leBytes 4 v)).reply r .exec Ob.SELFTEST_BIST_RUN 0 St.CONFIG_CONFLICT [])) ∧
    (s.anyPortUp = false →
      ∃ u : State, exec (.selftestBistRun r v) s = .next (u.reply r .exec Ob.SELFTEST_BIST_RUN 0 St.OK []) ∧
        u = { s.taken r .exec Ob.SELFTEST_BIST_RUN 0 (leBytes 4 v) with
              start := { s.start with full := v }, lookout := { s.lookout with chipDue := some 4 } })) ∧
  (∀ (s : State), s.start.powered = true →
    exec (.testAccessPort .trst) s = .next { s with tap := {} } ∧
    (∀ op ins, (op, ins) ∈ [(TapOp.idcode, TapIns.idcode), (TapOp.bypass, TapIns.bypass), (TapOp.unknown, TapIns.bypass),
        (TapOp.sample, if s.reg Ob.LC_STATE 0 = 1 ∨ s.reg Ob.LC_STATE 0 = 4 then TapIns.sample else TapIns.bypass)] →
      exec (.testAccessPort op) s = .next { s with tap := { s.tap with reset := false, ins := ins, driven := none } }) ∧
    ((s.reg Ob.LC_STATE 0 = 1 ∨ s.reg Ob.LC_STATE 0 = 4) →
      exec (.testAccessPort .extest) s = .next { s with tap := { s.tap with reset := false, ins := .extest } } ∧
      exec (.testAccessPort .debug) s = .refused .privilegedDebug) ∧
    (s.reg Ob.LC_STATE 0 ≠ 1 → s.reg Ob.LC_STATE 0 ≠ 4 → ∀ op ∈ [TapOp.extest, TapOp.debug],
      exec (.testAccessPort op) s = .next { s with tap := { s.tap with reset := false, ins := .bypass, driven := none } }) ∧
    (∀ pins, ∃ t : State, exec (.testAccessPort (.capture pins)) s = .next t ∧ t = { s with tap := { s.tap with reset := false, dr := t.tap.dr, out := [] } } ∧
      (s.tap.ins = .idcode → t.tap.dr.length = 32 ∧ ∀ i < 32, t.tap.dr[i]? = some (bitOf 0x32081A6F i)) ∧
      (s.tap.ins = .bypass → t.tap.dr = [false]) ∧
      ((s.tap.ins = .sample ∨ s.tap.ins = .extest) → t.tap.dr = pins)) ∧
    (∀ bits, ∃ t : State, exec (.testAccessPort (.shift bits)) s = .next t ∧
      t = { s with tap := { s.tap with reset := false, dr := t.tap.dr, out := t.tap.out } } ∧
      t.tap.out ++ t.tap.dr = s.tap.dr ++ bits ∧ t.tap.dr.length = s.tap.dr.length) ∧
    exec (.testAccessPort .update) s =
      .next { s with tap := { s.tap with reset := false, driven := if s.tap.ins = .extest then some s.tap.dr else s.tap.driven } }) ∧
  (∀ (s : State) (op : TapOp), s.start.powered = false → exec (.testAccessPort op) s = .next s)

/-! ## Update and settings saves (chapter 20) -/

/-- R501 to R504: UPDATE.OPEN opens or restarts a session of its source and erases what the length covers; a page in place and with its CRC is
queued and programmed over its erased sector, and counts in the map when it reads back; UPDATE.VERIFY waits for the queue and
ends VERIFIED, or back in RECEIVING with the result that fails. Another source's session makes each of them BUSY, and one that
is closed CONFIG_CONFLICT. -/
def Obligations.DownloadsFillStaging : Prop :=
  (∀ (s : State) (r : Req) (len : Nat), len < 2 ^ 32 → s.Accepts r .exec Ob.UPDATE_OPEN 0 (leBytes 4 len) →
    (s.otherHolds r.path = true → exec (.updateOpen r len) s =
      .next ((s.taken r .exec Ob.UPDATE_OPEN 0 (leBytes 4 len)).reply r .exec Ob.UPDATE_OPEN 0 St.BUSY [])) ∧
    (s.otherHolds r.path = false →
      ∃ u : State, exec (.updateOpen r len) s = .next (u.reply r .exec Ob.UPDATE_OPEN 0 St.OK []) ∧
        u = { s.taken r .exec Ob.UPDATE_OPEN 0 (leBytes 4 len) with
              regs := u.regs, upd := { s.upd with len := len, map := [], queue := [], verify := false } } ∧
        u.reg Ob.UPDATE_SESSION 0 = 1 ∧ u.reg Ob.UPDATE_SOURCE 0 = sourceOf r.path ∧ u.reg Ob.UPDATE_PAGES_WRITTEN 0 = 0 ∧
        u.reg Ob.UPDATE_PAGE_FAILS 0 = 0 ∧ u.reg Ob.UPDATE_VERIFY_RESULT 0 = 0 ∧ bitOf (u.votes Dom.MGT) Vote.UPDATE = true ∧
        KeepsRegs (fun ix sub => ix = Ob.MMP_RX_FRAMES ∨ (sub = 0 ∧ ix ∈ [Ob.UPDATE_SESSION, Ob.UPDATE_SOURCE, Ob.UPDATE_PAGES_WRITTEN,
          Ob.UPDATE_PAGE_FAILS, Ob.UPDATE_VERIFY_RESULT]) ∨ (ix = Ob.UPDATE_IMAGE_VERSION ∧ sub = 3) ∨
          (ix = Ob.POWER_VOTES ∧ sub = Dom.MGT.val + 1)) s u)) ∧
  (∀ (s : State), (s.reg Ob.UPDATE_SESSION 0 = 1 →
      ∃ t : State, exec .stagingEraseDone s = .next t ∧ t = { s with regs := t.regs, flash := t.flash } ∧ t.reg Ob.UPDATE_SESSION 0 = 2 ∧
        (∀ a, t.flash.get flashDefault a = (if Part.STAGING ≤ a ∧ a < Part.STAGING + 65536 * ceilDiv s.upd.len 65536 then 0xFF
          else s.flash.get flashDefault a)) ∧
        KeepsRegs (fun ix sub => ix = Ob.UPDATE_SESSION ∧ sub = 0) s t) ∧
    (s.reg Ob.UPDATE_SESSION 0 ≠ 1 → exec .stagingEraseDone s = .next s)) ∧
  (∀ (s : State) (r : Req) (off crc : Nat) (data : List Byte), off < 2 ^ 32 → crc < 2 ^ 32 →
    s.Accepts r .writeBlock Ob.UPDATE_STAGING 0 (leBytes 4 off ++ data ++ leBytes 4 crc) →
    (let pl := leBytes 4 off ++ data ++ leBytes 4 crc
     let ses := s.reg Ob.UPDATE_SESSION 0
     let no (st : Nat) := exec (.updateStagingWrite r pl) s =
       .next ((s.taken r .writeBlock Ob.UPDATE_STAGING 0 pl).reply r .writeBlock Ob.UPDATE_STAGING 0 st [])
     (s.otherHolds r.path = true → no St.BUSY) ∧ (ses = 1 → no St.BUSY) ∧ (ses = 0 → no St.CONFIG_CONFLICT) ∧
     (s.otherHolds r.path = false → ses ≠ 0 → ses ≠ 1 →
       ((off % 4096 ≠ 0 ∨ s.upd.len ≤ off) → no St.RANGE) ∧
       (off % 4096 = 0 → off < s.upd.len →
         (data.length ≠ min 4096 (s.upd.len - off) → no St.TYPE_LENGTH) ∧
         (data.length = min 4096 (s.upd.len - off) →
           (crc ≠ crc32c (leBytes 4 off ++ data) → no St.BLOCK_CRC) ∧
           (crc = crc32c (leBytes 4 off ++ data) → 16 ≤ s.upd.queue.length → no St.BUSY) ∧
           (crc = crc32c (leBytes 4 off ++ data) → s.upd.queue.length < 16 →
             ∃ u : State, exec (.updateStagingWrite r pl) s = .next (u.reply r .writeBlock Ob.UPDATE_STAGING 0 St.OK []) ∧
               u = { s.taken r .writeBlock Ob.UPDATE_STAGING 0 pl with
                     regs := u.regs, upd := { s.upd with queue := s.upd.queue ++ [(off / 4096, data)] } } ∧
               u.reg Ob.UPDATE_SESSION 0 = 2 ∧
               (ses ≠ 2 → u.reg Ob.UPDATE_VERIFY_RESULT 0 = 0) ∧
               KeepsRegs (fun ix sub => ix = Ob.MMP_RX_FRAMES ∨ (ses ≠ 2 ∧ ((sub = 0 ∧ ix ∈ [Ob.UPDATE_SESSION, Ob.UPDATE_VERIFY_RESULT]) ∨
                 (ix = Ob.UPDATE_IMAGE_VERSION ∧ sub = 3)))) s u)))))) ∧
  (∀ (s : State) (ok : Bool) (page : Nat) (data : List Byte) (rest : List (Nat × List Byte)), s.upd.queue = (page, data) :: rest →
    data.length ≤ 4096 →
    ∃ t : State, exec (.pageProgramDone ok) s = .next t ∧
      t = { s with regs := t.regs, lookout := t.lookout, cap := t.cap, flash := t.flash, freeCount := t.freeCount, upd := { s.upd with
              map := t.upd.map, queue := rest, verify := t.upd.verify } } ∧
      (∀ a, (a < Part.STAGING + 4096 * page ∨ Part.STAGING + 4096 * page + 4096 ≤ a) →
        t.flash.get flashDefault a = s.flash.get flashDefault a) ∧
      t.reg Ob.UPDATE_PAGES_WRITTEN 0 = (t.upd.map.length : Int) ∧
      (∀ p, p ≠ page → (p ∈ t.upd.map ↔ p ∈ s.upd.map)) ∧ (page ∈ t.upd.map ↔ ok = true) ∧
      t.reg Ob.UPDATE_SESSION 0 = (if s.upd.verify = true ∧ rest = [] then 3 else s.reg Ob.UPDATE_SESSION 0) ∧
      (ok = true → t.lookout = s.lookout ∧ t.freeCount = s.freeCount ∧
        (∀ i < 4096, t.flash.get flashDefault (Part.STAGING + 4096 * page + i) = data.getD i 0xFF)) ∧
      (ok = false → t.reg Ob.UPDATE_PAGE_FAILS 0 = (min (2 ^ 32 - 1) (s.nat Ob.UPDATE_PAGE_FAILS 0 + 1) : Nat) ∧
        t.reg Ob.UPDATE_EVENTS 0 = (min (2 ^ 32 - 1) (s.nat Ob.UPDATE_EVENTS 0 + 1) : Nat)) ∧
      KeepsRegs (fun ix sub => (sub = 0 ∧ ix ∈ [Ob.UPDATE_PAGES_WRITTEN, Ob.UPDATE_SESSION]) ∨ (ok = false ∧
        ((sub = 0 ∧ ix ∈ [Ob.UPDATE_PAGE_FAILS, Ob.UPDATE_EVENTS]) ∨ EventObj ix sub))) s t) ∧
  (∀ (s : State) (ok : Bool), s.upd.queue = [] → exec (.pageProgramDone ok) s = .next s) ∧
  (∀ (s : State) (r : Req), s.Accepts r .exec Ob.UPDATE_VERIFY 0 [0] →
    (let no (st : Nat) := exec (.updateVerify r) s = .next ((s.taken r .exec Ob.UPDATE_VERIFY 0 [0]).reply r .exec Ob.UPDATE_VERIFY 0 st [])
     let ses := s.reg Ob.UPDATE_SESSION 0
     (s.otherHolds r.path = true → no St.BUSY) ∧ (ses = 0 → no St.CONFIG_CONFLICT) ∧ ((ses = 1 ∨ ses = 3) → no St.BUSY) ∧
     (s.otherHolds r.path = false → ses ≠ 0 → ses ≠ 1 → ses ≠ 3 →
       ∃ u : State, exec (.updateVerify r) s = .next (u.reply r .exec Ob.UPDATE_VERIFY 0 St.OK []) ∧
         u = { s.taken r .exec Ob.UPDATE_VERIFY 0 [0] with regs := u.regs, upd := { s.upd with verify := decide (s.upd.queue ≠ []) } } ∧
         u.reg Ob.UPDATE_SESSION 0 = (if s.upd.queue = [] then 3 else ses) ∧
         KeepsRegs (fun ix sub => ix = Ob.MMP_RX_FRAMES ∨ (ix = Ob.UPDATE_SESSION ∧ sub = 0)) s u))) ∧
  (∀ (s : State), (s.reg Ob.UPDATE_SESSION 0 = 3 →
      ∃ t : State, exec .verifyDone s = .next t ∧ t = { s with regs := t.regs, lookout := t.lookout, cap := t.cap } ∧
        (t.reg Ob.UPDATE_VERIFY_RESULT 0 = 1 → t.reg Ob.UPDATE_SESSION 0 = 4 ∧ t.lookout = s.lookout ∧
          t.reg Ob.UPDATE_IMAGE_VERSION 3 = (s.imageVersion Part.STAGING : Int)) ∧
        (t.reg Ob.UPDATE_VERIFY_RESULT 0 ≠ 1 → t.reg Ob.UPDATE_SESSION 0 = 2 ∧ t.reg Ob.UPDATE_IMAGE_VERSION 3 = 0 ∧
          t.reg Ob.UPDATE_EVENTS 0 = (min (2 ^ 32 - 1) (s.nat Ob.UPDATE_EVENTS 0 + 1) : Nat)) ∧
        ((∃ p < ceilDiv s.upd.len 4096, p ∉ s.upd.map) → t.reg Ob.UPDATE_VERIFY_RESULT 0 = 2) ∧
        ((∀ p < ceilDiv s.upd.len 4096, p ∈ s.upd.map) →
          (formFault (s.manifest Part.STAGING) ≠ none → t.reg Ob.UPDATE_VERIFY_RESULT 0 = 3) ∧
          (formFault (s.manifest Part.STAGING) = none → s.upd.len ≠ u32At (s.manifest Part.STAGING) 20 →
            t.reg Ob.UPDATE_VERIFY_RESULT 0 = 3) ∧
          (formFault (s.manifest Part.STAGING) = none → s.upd.len = u32At (s.manifest Part.STAGING) 20 →
            t.reg Ob.UPDATE_VERIFY_RESULT 0 =
              (if Config.ecdsaVerify s.vendorKey ((s.manifest Part.STAGING).take 544) ((s.manifest Part.STAGING).drop 544) = false then 4
               else if (List.range 8).all (fun j => s.partDigest Part.STAGING (s.manifest Part.STAGING) j) = false then 5 else 1))) ∧
        KeepsRegs (fun ix sub => (sub = 0 ∧ ix ∈ [Ob.UPDATE_VERIFY_RESULT, Ob.UPDATE_SESSION, Ob.UPDATE_EVENTS]) ∨
          (ix = Ob.UPDATE_IMAGE_VERSION ∧ sub = 3) ∨ EventObj ix sub) s t) ∧
    (s.reg Ob.UPDATE_SESSION 0 ≠ 3 → exec .verifyDone s = .next s))

/-- R501, R505, R506, R511 and R514: UPDATE.ACTIVATE of a verified session writes a PENDING record and ends the session, with argument 1 ordering
the reset too; CLOSE and ABORT end one; UPDATE.CONFIRM ends the probation and waits for its save, and a probation that runs
out orders a chip reset. A save that verifies stands in its slot, one that fails leaves the slot torn, and both answer the
command that waits. -/
def Obligations.ActivationsAndSavesEnd : Prop :=
  (∀ (s : State) (r : Req) (arg : Nat) (c : Instr), (arg, c) ∈ [(0, Instr.updateActivateNextStart r), (1, Instr.updateActivateReset r)] →
    s.Accepts r .exec Ob.UPDATE_ACTIVATE 0 (leBytes 1 arg) →
    (let no (st : Nat) := exec c s =
       .next ((s.taken r .exec Ob.UPDATE_ACTIVATE 0 (leBytes 1 arg)).reply r .exec Ob.UPDATE_ACTIVATE 0 st [])
     (s.otherHolds r.path = true → no St.BUSY) ∧
     (s.otherHolds r.path = false → s.reg Ob.UPDATE_SESSION 0 ≠ 4 →
       ((s.reg Ob.UPDATE_VERIFY_RESULT 0 = 4 ∨ s.reg Ob.UPDATE_VERIFY_RESULT 0 = 5) → no St.SIGNATURE) ∧
       (s.reg Ob.UPDATE_VERIFY_RESULT 0 ≠ 4 → s.reg Ob.UPDATE_VERIFY_RESULT 0 ≠ 5 → no St.CONFIG_CONFLICT)) ∧
     (s.otherHolds r.path = false → s.reg Ob.UPDATE_SESSION 0 = 4 →
       ∃ (u : State) (place : Nat), exec c s = .next (u.reply r .exec Ob.UPDATE_ACTIVATE 0 St.OK []) ∧
         u.reg Ob.UPDATE_SESSION 0 = 0 ∧ u.reg Ob.UPDATE_SOURCE 0 = 0 ∧ u.reg Ob.UPDATE_IMAGE_STATE 0 = 1 ∧ u.upd.probation = none ∧
         u.upd.map = [] ∧ u.upd.queue = [] ∧ bitOf (u.votes Dom.MGT) Vote.UPDATE = u.upd.copy.isSome ∧
         place = (match s.journalLatest with | some (i, _) => (i + 1) % 4096 | none => 0) ∧
         recordOk (u.journalAt place) = true ∧ u8At (u.journalAt place) 2 = 1 ∧ u8At (u.journalAt place) 3 = s.upd.loaded % 256 ∧
         u32At (u.journalAt place) 12 = s.nat Ob.UPDATE_IMAGE_VERSION 3 % 2 ^ 32 ∧
         (∀ a, (a < Part.JOURNAL ∨ Part.JOURNAL + 0x40000 ≤ a) → u.flash.get flashDefault a = s.flash.get flashDefault a) ∧
         u.lookout = (if arg = 1 then { s.lookout with chipDue := some 4 } else s.lookout) ∧ u.time = s.time ∧ u.fuse = s.fuse))) ∧
  (∀ (s : State) (r : Req) (ob : Nat) (c : Instr), (ob, c) ∈ [(Ob.UPDATE_CLOSE, Instr.updateClose r), (Ob.UPDATE_ABORT, Instr.updateAbort r)] →
    s.Accepts r .exec ob 0 [0] →
    (ob = Ob.UPDATE_CLOSE → s.otherHolds r.path = true → exec c s = .next ((s.taken r .exec ob 0 [0]).reply r .exec ob 0 St.BUSY [])) ∧
    (s.reg Ob.UPDATE_SESSION 0 = 0 → exec c s = .next ((s.taken r .exec ob 0 [0]).reply r .exec ob 0 St.CONFIG_CONFLICT [])) ∧
    (s.reg Ob.UPDATE_SESSION 0 ≠ 0 → (ob = Ob.UPDATE_ABORT ∨ s.otherHolds r.path = false) →
      ∃ u : State, exec c s = .next (u.reply r .exec ob 0 St.OK []) ∧ u.reg Ob.UPDATE_SESSION 0 = 0 ∧ u.reg Ob.UPDATE_SOURCE 0 = 0 ∧
        u.upd = { s.upd with len := 0, map := [], queue := [], verify := false } ∧ (s.reg Ob.UPDATE_SESSION 0 ≠ 1 → u.flash = s.flash) ∧
        u.reg Ob.UPDATE_EVENTS 0 = (if ob = Ob.UPDATE_ABORT then ((min (2 ^ 32 - 1) (s.nat Ob.UPDATE_EVENTS 0 + 1) : Nat) : Int)
          else s.reg Ob.UPDATE_EVENTS 0) ∧ u.time = s.time ∧ u.fuse = s.fuse)) ∧
  (∀ (s : State) (r : Req), s.Accepts r .exec Ob.UPDATE_CONFIRM 0 [0] →
    (s.inProbation = false → exec (.updateConfirm r) s =
      .next ((s.taken r .exec Ob.UPDATE_CONFIRM 0 [0]).reply r .exec Ob.UPDATE_CONFIRM 0 St.CONFIG_CONFLICT [])) ∧
    (s.inProbation = true →
      ∃ u : State, exec (.updateConfirm r) s = .next (u.pendAdd ⟨r, .exec, Ob.UPDATE_CONFIRM, 0⟩) ∧ u.reg Ob.UPDATE_IMAGE_STATE 0 = 0 ∧
        u = { s.taken r .exec Ob.UPDATE_CONFIRM 0 [0] with
              regs := u.regs, flash := u.flash, savedRegs := u.savedRegs, savedBlobs := u.savedBlobs, upd := u.upd } ∧
        u.upd.probation = none ∧ u.upd.convert = false ∧
        (s.upd.save = none → ∃ v, u.upd.save = some v ∧ v.confirm = true ∧ v.dict = false ∧ u.upd.saves = s.upd.saves) ∧
        (s.upd.save ≠ none → u.upd.save = s.upd.save ∧ u.upd.saves = s.upd.saves ++ [true]) ∧
        KeepsRegs (fun ix sub => ix = Ob.MMP_RX_FRAMES ∨ (sub = 0 ∧ ix ∈ [Ob.UPDATE_IMAGE_STATE, Ob.UPDATE_JOURNAL_SEQ,
          Ob.UPDATE_JOURNAL_TIME])) s u)) ∧
  (∀ (s : State), (s.inProbation = true → s.upd.probation ≠ none →
      ∃ t : State, exec .probationExpiry s = .next t ∧ t = { s with regs := t.regs, lookout := t.lookout, cap := t.cap, upd := { s.upd with probation := none } } ∧
        t.lookout.chipDue = some 4 ∧ t.reg Ob.UPDATE_EVENTS 0 = (min (2 ^ 32 - 1) (s.nat Ob.UPDATE_EVENTS 0 + 1) : Nat) ∧
        KeepsRegs (fun ix sub => (ix = Ob.UPDATE_EVENTS ∧ sub = 0) ∨ EventObj ix sub) s t) ∧
    ((s.inProbation = false ∨ s.upd.probation = none) → exec .probationExpiry s = .next s)) ∧
  (∀ (s : State), (s.inProbation = true → s.upd.convert = true → s.reg Ob.DICT_STATE 0 = 1 →
      ∃ t : State, exec .conversionSave s = .next t ∧
        t = { s with savedRegs := t.savedRegs, savedBlobs := t.savedBlobs, upd := t.upd } ∧ t.upd.convert = false ∧
        (s.upd.save = none → ∃ v, t.upd.save = some v ∧ v.confirm = false ∧ v.dict = false) ∧
        (s.upd.save ≠ none → t.upd.save = s.upd.save ∧ t.upd.saves = s.upd.saves ++ [false])) ∧
    ((s.inProbation = false ∨ s.upd.convert = false ∨ s.reg Ob.DICT_STATE 0 ≠ 1) → exec .conversionSave s = .next s)) ∧
  (∀ (s : State) (v : SaveRun), s.upd.save = some v → s.upd.saves = [] → v.bytes.length ≤ slotSize →
    (∃ t : State, exec (.settingsSaveDone none) s = .next t ∧
      t = { s with regs := t.regs, mmp := t.mmp, flash := t.flash, upd := { s.upd with
              save := none, slotLast := some v.slot, savedAt := some s.time.now, torn := s.upd.torn.filter (fun i => i != v.slot) } } ∧
      (∀ i < v.bytes.length, t.flash.get flashDefault (slotBase v.slot + i) = v.bytes.getD i 0xFF) ∧
      (∀ a, (a < slotBase v.slot ∨ slotBase v.slot + slotSize ≤ a) → t.flash.get flashDefault a = s.flash.get flashDefault a) ∧
      t.reg Ob.SETTINGS_SAVE_SEQ 0 = (u32At v.bytes 4 : Int) ∧ t.reg Ob.SETTINGS_SAVE_TIME 0 = (leNat ((v.bytes.drop 20).take 12) : Int) ∧
      (v.dict = true → t.waiting Ob.DICT_SAVE 0 = false) ∧ (v.confirm = true → t.waiting Ob.UPDATE_CONFIRM 0 = false) ∧
      KeepsRegs (fun ix sub => sub = 0 ∧ ix ∈ [Ob.SETTINGS_SAVE_SEQ, Ob.SETTINGS_SAVE_TIME]) s t) ∧
    (∀ sector, ∃ t : State, exec (.settingsSaveDone (some sector)) s = .next t ∧
      t = { s with regs := t.regs, mmp := t.mmp, lookout := t.lookout, cap := t.cap, upd := { s.upd with
              save := none, saveFailed := true, torn := v.slot :: s.upd.torn.filter (fun i => i != v.slot) } } ∧
      t.reg Ob.UPDATE_EVENTS 0 = (min (2 ^ 32 - 1) (s.nat Ob.UPDATE_EVENTS 0 + 1) : Nat) ∧ t.savePending = true ∧
      (v.dict = true → t.waiting Ob.DICT_SAVE 0 = false) ∧ (v.confirm = true → t.waiting Ob.UPDATE_CONFIRM 0 = false))) ∧
  (∀ (s : State) (f : Option Nat), s.upd.save = none → exec (.settingsSaveDone f) s = .next s)
end

