-- ==== Sys2Proof/Laws/State.lean ====
section
/-! SUPPORT. What each update of the state leaves as it was: one lemma a field and an update. -/

namespace Sys2Proof.Machine

variable (s : State)

/-! ## setReg -/

@[simp] theorem State.setReg_regs (ix sub : Nat) (v : Int) : (s.setReg ix sub v).regs = s.regs.put regDefault (objKey ix sub) v := rfl
@[simp] theorem State.setReg_blobs (ix sub : Nat) (v : Int) : (s.setReg ix sub v).blobs = s.blobs := rfl
@[simp] theorem State.setReg_time (ix sub : Nat) (v : Int) : (s.setReg ix sub v).time = s.time := rfl
@[simp] theorem State.setReg_mmp (ix sub : Nat) (v : Int) : (s.setReg ix sub v).mmp = s.mmp := rfl
@[simp] theorem State.setReg_lookout (ix sub : Nat) (v : Int) : (s.setReg ix sub v).lookout = s.lookout := rfl
@[simp] theorem State.setReg_doms (ix sub : Nat) (v : Int) : (s.setReg ix sub v).doms = s.doms := rfl
@[simp] theorem State.setReg_partEA (ix sub : Nat) (v : Int) : (s.setReg ix sub v).partEA = s.partEA := rfl
@[simp] theorem State.setReg_gradeI (ix sub : Nat) (v : Int) : (s.setReg ix sub v).gradeI = s.gradeI := rfl
@[simp] theorem State.setReg_breakout (ix sub : Nat) (v : Int) : (s.setReg ix sub v).breakout = s.breakout := rfl
@[simp] theorem State.setReg_breakoutRun (ix sub : Nat) (v : Int) : (s.setReg ix sub v).breakoutRun = s.breakoutRun := rfl
@[simp] theorem State.setReg_savedRegs (ix sub : Nat) (v : Int) : (s.setReg ix sub v).savedRegs = s.savedRegs := rfl
@[simp] theorem State.setReg_savedBlobs (ix sub : Nat) (v : Int) : (s.setReg ix sub v).savedBlobs = s.savedBlobs := rfl
@[simp] theorem State.setReg_hk (ix sub : Nat) (v : Int) : (s.setReg ix sub v).hk = s.hk := rfl
@[simp] theorem State.setReg_tx (ix sub : Nat) (v : Int) : (s.setReg ix sub v).tx = s.tx := rfl
@[simp] theorem State.setReg_adc (ix sub : Nat) (v : Int) : (s.setReg ix sub v).adc = s.adc := rfl
@[simp] theorem State.setReg_rxsynth (ix sub : Nat) (v : Int) : (s.setReg ix sub v).rxsynth = s.rxsynth := rfl
@[simp] theorem State.setReg_rx (ix sub : Nat) (v : Int) : (s.setReg ix sub v).rx = s.rx := rfl
@[simp] theorem State.setReg_eng (ix sub : Nat) (v : Int) : (s.setReg ix sub v).eng = s.eng := rfl
@[simp] theorem State.setReg_outerLane (ix sub : Nat) (v : Int) : (s.setReg ix sub v).outerLane = s.outerLane := rfl
@[simp] theorem State.setReg_outerPort (ix sub : Nat) (v : Int) : (s.setReg ix sub v).outerPort = s.outerPort := rfl
@[simp] theorem State.setReg_tic (ix sub : Nat) (v : Int) : (s.setReg ix sub v).tic = s.tic := rfl
@[simp] theorem State.setReg_pool (ix sub : Nat) (v : Int) : (s.setReg ix sub v).pool = s.pool := rfl
@[simp] theorem State.setReg_cwCount (ix sub : Nat) (v : Int) : (s.setReg ix sub v).cwCount = s.cwCount := rfl
@[simp] theorem State.setReg_link (ix sub : Nat) (v : Int) : (s.setReg ix sub v).link = s.link := rfl
@[simp] theorem State.setReg_ds (ix sub : Nat) (v : Int) : (s.setReg ix sub v).ds = s.ds := rfl
@[simp] theorem State.setReg_hostLane (ix sub : Nat) (v : Int) : (s.setReg ix sub v).hostLane = s.hostLane := rfl
@[simp] theorem State.setReg_hostInst (ix sub : Nat) (v : Int) : (s.setReg ix sub v).hostInst = s.hostInst := rfl
@[simp] theorem State.setReg_hostSkew (ix sub : Nat) (v : Int) : (s.setReg ix sub v).hostSkew = s.hostSkew := rfl
@[simp] theorem State.setReg_port (ix sub : Nat) (v : Int) : (s.setReg ix sub v).port = s.port := rfl
@[simp] theorem State.setReg_srch (ix sub : Nat) (v : Int) : (s.setReg ix sub v).srch = s.srch := rfl
@[simp] theorem State.setReg_test (ix sub : Nat) (v : Int) : (s.setReg ix sub v).test = s.test := rfl
@[simp] theorem State.setReg_service (ix sub : Nat) (v : Int) : (s.setReg ix sub v).service = s.service := rfl
@[simp] theorem State.setReg_fabric (ix sub : Nat) (v : Int) : (s.setReg ix sub v).fabric = s.fabric := rfl
@[simp] theorem State.setReg_avs (ix sub : Nat) (v : Int) : (s.setReg ix sub v).avs = s.avs := rfl
@[simp] theorem State.setReg_therm (ix sub : Nat) (v : Int) : (s.setReg ix sub v).therm = s.therm := rfl
@[simp] theorem State.setReg_start (ix sub : Nat) (v : Int) : (s.setReg ix sub v).start = s.start := rfl
@[simp] theorem State.setReg_tap (ix sub : Nat) (v : Int) : (s.setReg ix sub v).tap = s.tap := rfl
@[simp] theorem State.setReg_mem (ix sub : Nat) (v : Int) : (s.setReg ix sub v).mem = s.mem := rfl
@[simp] theorem State.setReg_capLost (ix sub : Nat) (v : Int) : (s.setReg ix sub v).capLost = s.capLost := rfl
@[simp] theorem State.setReg_cap (ix sub : Nat) (v : Int) : (s.setReg ix sub v).cap = s.cap := rfl
@[simp] theorem State.setReg_fuse (ix sub : Nat) (v : Int) : (s.setReg ix sub v).fuse = s.fuse := rfl
@[simp] theorem State.setReg_analog (ix sub : Nat) (v : Int) : (s.setReg ix sub v).analog = s.analog := rfl
@[simp] theorem State.setReg_flash (ix sub : Nat) (v : Int) : (s.setReg ix sub v).flash = s.flash := rfl
@[simp] theorem State.setReg_upd (ix sub : Nat) (v : Int) : (s.setReg ix sub v).upd = s.upd := rfl
@[simp] theorem State.setReg_freeCount (ix sub : Nat) (v : Int) : (s.setReg ix sub v).freeCount = s.freeCount := rfl
@[simp] theorem State.setReg_pending (ix sub : Nat) (v : Int) : (s.setReg ix sub v).pending = s.pending := rfl
@[simp] theorem State.setReg_blob (ix sub : Nat) (v : Int) (jx js : Nat) : (s.setReg ix sub v).blob jx js = s.blob jx js := rfl

/-! ## setBlob -/

@[simp] theorem State.setBlob_regs (ix sub : Nat) (v : List Byte) : (s.setBlob ix sub v).regs = s.regs := rfl
@[simp] theorem State.setBlob_blobs (ix sub : Nat) (v : List Byte) : (s.setBlob ix sub v).blobs = s.blobs.put blobDefault (objKey ix sub) v := rfl
@[simp] theorem State.setBlob_time (ix sub : Nat) (v : List Byte) : (s.setBlob ix sub v).time = s.time := rfl
@[simp] theorem State.setBlob_mmp (ix sub : Nat) (v : List Byte) : (s.setBlob ix sub v).mmp = s.mmp := rfl
@[simp] theorem State.setBlob_lookout (ix sub : Nat) (v : List Byte) : (s.setBlob ix sub v).lookout = s.lookout := rfl
@[simp] theorem State.setBlob_doms (ix sub : Nat) (v : List Byte) : (s.setBlob ix sub v).doms = s.doms := rfl
@[simp] theorem State.setBlob_partEA (ix sub : Nat) (v : List Byte) : (s.setBlob ix sub v).partEA = s.partEA := rfl
@[simp] theorem State.setBlob_gradeI (ix sub : Nat) (v : List Byte) : (s.setBlob ix sub v).gradeI = s.gradeI := rfl
@[simp] theorem State.setBlob_breakout (ix sub : Nat) (v : List Byte) : (s.setBlob ix sub v).breakout = s.breakout := rfl
@[simp] theorem State.setBlob_breakoutRun (ix sub : Nat) (v : List Byte) : (s.setBlob ix sub v).breakoutRun = s.breakoutRun := rfl
@[simp] theorem State.setBlob_savedRegs (ix sub : Nat) (v : List Byte) : (s.setBlob ix sub v).savedRegs = s.savedRegs := rfl
@[simp] theorem State.setBlob_savedBlobs (ix sub : Nat) (v : List Byte) : (s.setBlob ix sub v).savedBlobs = s.savedBlobs := rfl
@[simp] theorem State.setBlob_hk (ix sub : Nat) (v : List Byte) : (s.setBlob ix sub v).hk = s.hk := rfl
@[simp] theorem State.setBlob_tx (ix sub : Nat) (v : List Byte) : (s.setBlob ix sub v).tx = s.tx := rfl
@[simp] theorem State.setBlob_adc (ix sub : Nat) (v : List Byte) : (s.setBlob ix sub v).adc = s.adc := rfl
@[simp] theorem State.setBlob_rxsynth (ix sub : Nat) (v : List Byte) : (s.setBlob ix sub v).rxsynth = s.rxsynth := rfl
@[simp] theorem State.setBlob_rx (ix sub : Nat) (v : List Byte) : (s.setBlob ix sub v).rx = s.rx := rfl
@[simp] theorem State.setBlob_eng (ix sub : Nat) (v : List Byte) : (s.setBlob ix sub v).eng = s.eng := rfl
@[simp] theorem State.setBlob_outerLane (ix sub : Nat) (v : List Byte) : (s.setBlob ix sub v).outerLane = s.outerLane := rfl
@[simp] theorem State.setBlob_outerPort (ix sub : Nat) (v : List Byte) : (s.setBlob ix sub v).outerPort = s.outerPort := rfl
@[simp] theorem State.setBlob_tic (ix sub : Nat) (v : List Byte) : (s.setBlob ix sub v).tic = s.tic := rfl
@[simp] theorem State.setBlob_pool (ix sub : Nat) (v : List Byte) : (s.setBlob ix sub v).pool = s.pool := rfl
@[simp] theorem State.setBlob_cwCount (ix sub : Nat) (v : List Byte) : (s.setBlob ix sub v).cwCount = s.cwCount := rfl
@[simp] theorem State.setBlob_link (ix sub : Nat) (v : List Byte) : (s.setBlob ix sub v).link = s.link := rfl
@[simp] theorem State.setBlob_ds (ix sub : Nat) (v : List Byte) : (s.setBlob ix sub v).ds = s.ds := rfl
@[simp] theorem State.setBlob_hostLane (ix sub : Nat) (v : List Byte) : (s.setBlob ix sub v).hostLane = s.hostLane := rfl
@[simp] theorem State.setBlob_hostInst (ix sub : Nat) (v : List Byte) : (s.setBlob ix sub v).hostInst = s.hostInst := rfl
@[simp] theorem State.setBlob_hostSkew (ix sub : Nat) (v : List Byte) : (s.setBlob ix sub v).hostSkew = s.hostSkew := rfl
@[simp] theorem State.setBlob_port (ix sub : Nat) (v : List Byte) : (s.setBlob ix sub v).port = s.port := rfl
@[simp] theorem State.setBlob_srch (ix sub : Nat) (v : List Byte) : (s.setBlob ix sub v).srch = s.srch := rfl
@[simp] theorem State.setBlob_test (ix sub : Nat) (v : List Byte) : (s.setBlob ix sub v).test = s.test := rfl
@[simp] theorem State.setBlob_service (ix sub : Nat) (v : List Byte) : (s.setBlob ix sub v).service = s.service := rfl
@[simp] theorem State.setBlob_fabric (ix sub : Nat) (v : List Byte) : (s.setBlob ix sub v).fabric = s.fabric := rfl
@[simp] theorem State.setBlob_avs (ix sub : Nat) (v : List Byte) : (s.setBlob ix sub v).avs = s.avs := rfl
@[simp] theorem State.setBlob_therm (ix sub : Nat) (v : List Byte) : (s.setBlob ix sub v).therm = s.therm := rfl
@[simp] theorem State.setBlob_start (ix sub : Nat) (v : List Byte) : (s.setBlob ix sub v).start = s.start := rfl
@[simp] theorem State.setBlob_tap (ix sub : Nat) (v : List Byte) : (s.setBlob ix sub v).tap = s.tap := rfl
@[simp] theorem State.setBlob_mem (ix sub : Nat) (v : List Byte) : (s.setBlob ix sub v).mem = s.mem := rfl
@[simp] theorem State.setBlob_capLost (ix sub : Nat) (v : List Byte) : (s.setBlob ix sub v).capLost = s.capLost := rfl
@[simp] theorem State.setBlob_cap (ix sub : Nat) (v : List Byte) : (s.setBlob ix sub v).cap = s.cap := rfl
@[simp] theorem State.setBlob_fuse (ix sub : Nat) (v : List Byte) : (s.setBlob ix sub v).fuse = s.fuse := rfl
@[simp] theorem State.setBlob_analog (ix sub : Nat) (v : List Byte) : (s.setBlob ix sub v).analog = s.analog := rfl
@[simp] theorem State.setBlob_flash (ix sub : Nat) (v : List Byte) : (s.setBlob ix sub v).flash = s.flash := rfl
@[simp] theorem State.setBlob_upd (ix sub : Nat) (v : List Byte) : (s.setBlob ix sub v).upd = s.upd := rfl
@[simp] theorem State.setBlob_freeCount (ix sub : Nat) (v : List Byte) : (s.setBlob ix sub v).freeCount = s.freeCount := rfl
@[simp] theorem State.setBlob_pending (ix sub : Nat) (v : List Byte) : (s.setBlob ix sub v).pending = s.pending := rfl
@[simp] theorem State.setBlob_reg (ix sub : Nat) (v : List Byte) (jx js : Nat) : (s.setBlob ix sub v).reg jx js = s.reg jx js := rfl
@[simp] theorem State.setBlob_nat (ix sub : Nat) (v : List Byte) (jx js : Nat) : (s.setBlob ix sub v).nat jx js = s.nat jx js := rfl
@[simp] theorem State.setBlob_flag (ix sub : Nat) (v : List Byte) (jx js : Nat) : (s.setBlob ix sub v).flag jx js = s.flag jx js := rfl

/-! ## modTp -/

@[simp] theorem State.modTp_regs (p : Path) (f : Transport → Transport) : (s.modTp p f).regs = s.regs := rfl
@[simp] theorem State.modTp_blobs (p : Path) (f : Transport → Transport) : (s.modTp p f).blobs = s.blobs := rfl
@[simp] theorem State.modTp_time (p : Path) (f : Transport → Transport) : (s.modTp p f).time = s.time := rfl
@[simp] theorem State.modTp_lookout (p : Path) (f : Transport → Transport) : (s.modTp p f).lookout = s.lookout := rfl
@[simp] theorem State.modTp_doms (p : Path) (f : Transport → Transport) : (s.modTp p f).doms = s.doms := rfl
@[simp] theorem State.modTp_partEA (p : Path) (f : Transport → Transport) : (s.modTp p f).partEA = s.partEA := rfl
@[simp] theorem State.modTp_gradeI (p : Path) (f : Transport → Transport) : (s.modTp p f).gradeI = s.gradeI := rfl
@[simp] theorem State.modTp_breakout (p : Path) (f : Transport → Transport) : (s.modTp p f).breakout = s.breakout := rfl
@[simp] theorem State.modTp_breakoutRun (p : Path) (f : Transport → Transport) : (s.modTp p f).breakoutRun = s.breakoutRun := rfl
@[simp] theorem State.modTp_savedRegs (p : Path) (f : Transport → Transport) : (s.modTp p f).savedRegs = s.savedRegs := rfl
@[simp] theorem State.modTp_savedBlobs (p : Path) (f : Transport → Transport) : (s.modTp p f).savedBlobs = s.savedBlobs := rfl
@[simp] theorem State.modTp_hk (p : Path) (f : Transport → Transport) : (s.modTp p f).hk = s.hk := rfl
@[simp] theorem State.modTp_tx (p : Path) (f : Transport → Transport) : (s.modTp p f).tx = s.tx := rfl
@[simp] theorem State.modTp_adc (p : Path) (f : Transport → Transport) : (s.modTp p f).adc = s.adc := rfl
@[simp] theorem State.modTp_rxsynth (p : Path) (f : Transport → Transport) : (s.modTp p f).rxsynth = s.rxsynth := rfl
@[simp] theorem State.modTp_rx (p : Path) (f : Transport → Transport) : (s.modTp p f).rx = s.rx := rfl
@[simp] theorem State.modTp_eng (p : Path) (f : Transport → Transport) : (s.modTp p f).eng = s.eng := rfl
@[simp] theorem State.modTp_outerLane (p : Path) (f : Transport → Transport) : (s.modTp p f).outerLane = s.outerLane := rfl
@[simp] theorem State.modTp_outerPort (p : Path) (f : Transport → Transport) : (s.modTp p f).outerPort = s.outerPort := rfl
@[simp] theorem State.modTp_tic (p : Path) (f : Transport → Transport) : (s.modTp p f).tic = s.tic := rfl
@[simp] theorem State.modTp_pool (p : Path) (f : Transport → Transport) : (s.modTp p f).pool = s.pool := rfl
@[simp] theorem State.modTp_cwCount (p : Path) (f : Transport → Transport) : (s.modTp p f).cwCount = s.cwCount := rfl
@[simp] theorem State.modTp_link (p : Path) (f : Transport → Transport) : (s.modTp p f).link = s.link := rfl
@[simp] theorem State.modTp_ds (p : Path) (f : Transport → Transport) : (s.modTp p f).ds = s.ds := rfl
@[simp] theorem State.modTp_hostLane (p : Path) (f : Transport → Transport) : (s.modTp p f).hostLane = s.hostLane := rfl
@[simp] theorem State.modTp_hostInst (p : Path) (f : Transport → Transport) : (s.modTp p f).hostInst = s.hostInst := rfl
@[simp] theorem State.modTp_hostSkew (p : Path) (f : Transport → Transport) : (s.modTp p f).hostSkew = s.hostSkew := rfl
@[simp] theorem State.modTp_port (p : Path) (f : Transport → Transport) : (s.modTp p f).port = s.port := rfl
@[simp] theorem State.modTp_srch (p : Path) (f : Transport → Transport) : (s.modTp p f).srch = s.srch := rfl
@[simp] theorem State.modTp_test (p : Path) (f : Transport → Transport) : (s.modTp p f).test = s.test := rfl
@[simp] theorem State.modTp_service (p : Path) (f : Transport → Transport) : (s.modTp p f).service = s.service := rfl
@[simp] theorem State.modTp_fabric (p : Path) (f : Transport → Transport) : (s.modTp p f).fabric = s.fabric := rfl
@[simp] theorem State.modTp_avs (p : Path) (f : Transport → Transport) : (s.modTp p f).avs = s.avs := rfl
@[simp] theorem State.modTp_therm (p : Path) (f : Transport → Transport) : (s.modTp p f).therm = s.therm := rfl
@[simp] theorem State.modTp_start (p : Path) (f : Transport → Transport) : (s.modTp p f).start = s.start := rfl
@[simp] theorem State.modTp_tap (p : Path) (f : Transport → Transport) : (s.modTp p f).tap = s.tap := rfl
@[simp] theorem State.modTp_mem (p : Path) (f : Transport → Transport) : (s.modTp p f).mem = s.mem := rfl
@[simp] theorem State.modTp_capLost (p : Path) (f : Transport → Transport) : (s.modTp p f).capLost = s.capLost := rfl
@[simp] theorem State.modTp_cap (p : Path) (f : Transport → Transport) : (s.modTp p f).cap = s.cap := rfl
@[simp] theorem State.modTp_fuse (p : Path) (f : Transport → Transport) : (s.modTp p f).fuse = s.fuse := rfl
@[simp] theorem State.modTp_analog (p : Path) (f : Transport → Transport) : (s.modTp p f).analog = s.analog := rfl
@[simp] theorem State.modTp_flash (p : Path) (f : Transport → Transport) : (s.modTp p f).flash = s.flash := rfl
@[simp] theorem State.modTp_upd (p : Path) (f : Transport → Transport) : (s.modTp p f).upd = s.upd := rfl
@[simp] theorem State.modTp_freeCount (p : Path) (f : Transport → Transport) : (s.modTp p f).freeCount = s.freeCount := rfl
@[simp] theorem State.modTp_pending (p : Path) (f : Transport → Transport) : (s.modTp p f).pending = s.pending := rfl
@[simp] theorem State.modTp_reg (p : Path) (f : Transport → Transport) (jx js : Nat) : (s.modTp p f).reg jx js = s.reg jx js := rfl
@[simp] theorem State.modTp_nat (p : Path) (f : Transport → Transport) (jx js : Nat) : (s.modTp p f).nat jx js = s.nat jx js := rfl
@[simp] theorem State.modTp_flag (p : Path) (f : Transport → Transport) (jx js : Nat) : (s.modTp p f).flag jx js = s.flag jx js := rfl
@[simp] theorem State.modTp_blob (p : Path) (f : Transport → Transport) (jx js : Nat) : (s.modTp p f).blob jx js = s.blob jx js := rfl

/-! ## modFwd -/

@[simp] theorem State.modFwd_regs (p : Fin 8) (f : List Forward → List Forward) : (s.modFwd p f).regs = s.regs := rfl
@[simp] theorem State.modFwd_blobs (p : Fin 8) (f : List Forward → List Forward) : (s.modFwd p f).blobs = s.blobs := rfl
@[simp] theorem State.modFwd_time (p : Fin 8) (f : List Forward → List Forward) : (s.modFwd p f).time = s.time := rfl
@[simp] theorem State.modFwd_lookout (p : Fin 8) (f : List Forward → List Forward) : (s.modFwd p f).lookout = s.lookout := rfl
@[simp] theorem State.modFwd_doms (p : Fin 8) (f : List Forward → List Forward) : (s.modFwd p f).doms = s.doms := rfl
@[simp] theorem State.modFwd_partEA (p : Fin 8) (f : List Forward → List Forward) : (s.modFwd p f).partEA = s.partEA := rfl
@[simp] theorem State.modFwd_gradeI (p : Fin 8) (f : List Forward → List Forward) : (s.modFwd p f).gradeI = s.gradeI := rfl
@[simp] theorem State.modFwd_breakout (p : Fin 8) (f : List Forward → List Forward) : (s.modFwd p f).breakout = s.breakout := rfl
@[simp] theorem State.modFwd_breakoutRun (p : Fin 8) (f : List Forward → List Forward) : (s.modFwd p f).breakoutRun = s.breakoutRun := rfl
@[simp] theorem State.modFwd_savedRegs (p : Fin 8) (f : List Forward → List Forward) : (s.modFwd p f).savedRegs = s.savedRegs := rfl
@[simp] theorem State.modFwd_savedBlobs (p : Fin 8) (f : List Forward → List Forward) : (s.modFwd p f).savedBlobs = s.savedBlobs := rfl
@[simp] theorem State.modFwd_hk (p : Fin 8) (f : List Forward → List Forward) : (s.modFwd p f).hk = s.hk := rfl
@[simp] theorem State.modFwd_tx (p : Fin 8) (f : List Forward → List Forward) : (s.modFwd p f).tx = s.tx := rfl
@[simp] theorem State.modFwd_adc (p : Fin 8) (f : List Forward → List Forward) : (s.modFwd p f).adc = s.adc := rfl
@[simp] theorem State.modFwd_rxsynth (p : Fin 8) (f : List Forward → List Forward) : (s.modFwd p f).rxsynth = s.rxsynth := rfl
@[simp] theorem State.modFwd_rx (p : Fin 8) (f : List Forward → List Forward) : (s.modFwd p f).rx = s.rx := rfl
@[simp] theorem State.modFwd_eng (p : Fin 8) (f : List Forward → List Forward) : (s.modFwd p f).eng = s.eng := rfl
@[simp] theorem State.modFwd_outerLane (p : Fin 8) (f : List Forward → List Forward) : (s.modFwd p f).outerLane = s.outerLane := rfl
@[simp] theorem State.modFwd_outerPort (p : Fin 8) (f : List Forward → List Forward) : (s.modFwd p f).outerPort = s.outerPort := rfl
@[simp] theorem State.modFwd_tic (p : Fin 8) (f : List Forward → List Forward) : (s.modFwd p f).tic = s.tic := rfl
@[simp] theorem State.modFwd_pool (p : Fin 8) (f : List Forward → List Forward) : (s.modFwd p f).pool = s.pool := rfl
@[simp] theorem State.modFwd_cwCount (p : Fin 8) (f : List Forward → List Forward) : (s.modFwd p f).cwCount = s.cwCount := rfl
@[simp] theorem State.modFwd_link (p : Fin 8) (f : List Forward → List Forward) : (s.modFwd p f).link = s.link := rfl
@[simp] theorem State.modFwd_ds (p : Fin 8) (f : List Forward → List Forward) : (s.modFwd p f).ds = s.ds := rfl
@[simp] theorem State.modFwd_hostLane (p : Fin 8) (f : List Forward → List Forward) : (s.modFwd p f).hostLane = s.hostLane := rfl
@[simp] theorem State.modFwd_hostInst (p : Fin 8) (f : List Forward → List Forward) : (s.modFwd p f).hostInst = s.hostInst := rfl
@[simp] theorem State.modFwd_hostSkew (p : Fin 8) (f : List Forward → List Forward) : (s.modFwd p f).hostSkew = s.hostSkew := rfl
@[simp] theorem State.modFwd_port (p : Fin 8) (f : List Forward → List Forward) : (s.modFwd p f).port = s.port := rfl
@[simp] theorem State.modFwd_srch (p : Fin 8) (f : List Forward → List Forward) : (s.modFwd p f).srch = s.srch := rfl
@[simp] theorem State.modFwd_test (p : Fin 8) (f : List Forward → List Forward) : (s.modFwd p f).test = s.test := rfl
@[simp] theorem State.modFwd_service (p : Fin 8) (f : List Forward → List Forward) : (s.modFwd p f).service = s.service := rfl
@[simp] theorem State.modFwd_fabric (p : Fin 8) (f : List Forward → List Forward) : (s.modFwd p f).fabric = s.fabric := rfl
@[simp] theorem State.modFwd_avs (p : Fin 8) (f : List Forward → List Forward) : (s.modFwd p f).avs = s.avs := rfl
@[simp] theorem State.modFwd_therm (p : Fin 8) (f : List Forward → List Forward) : (s.modFwd p f).therm = s.therm := rfl
@[simp] theorem State.modFwd_start (p : Fin 8) (f : List Forward → List Forward) : (s.modFwd p f).start = s.start := rfl
@[simp] theorem State.modFwd_tap (p : Fin 8) (f : List Forward → List Forward) : (s.modFwd p f).tap = s.tap := rfl
@[simp] theorem State.modFwd_mem (p : Fin 8) (f : List Forward → List Forward) : (s.modFwd p f).mem = s.mem := rfl
@[simp] theorem State.modFwd_capLost (p : Fin 8) (f : List Forward → List Forward) : (s.modFwd p f).capLost = s.capLost := rfl
@[simp] theorem State.modFwd_cap (p : Fin 8) (f : List Forward → List Forward) : (s.modFwd p f).cap = s.cap := rfl
@[simp] theorem State.modFwd_fuse (p : Fin 8) (f : List Forward → List Forward) : (s.modFwd p f).fuse = s.fuse := rfl
@[simp] theorem State.modFwd_analog (p : Fin 8) (f : List Forward → List Forward) : (s.modFwd p f).analog = s.analog := rfl
@[simp] theorem State.modFwd_flash (p : Fin 8) (f : List Forward → List Forward) : (s.modFwd p f).flash = s.flash := rfl
@[simp] theorem State.modFwd_upd (p : Fin 8) (f : List Forward → List Forward) : (s.modFwd p f).upd = s.upd := rfl
@[simp] theorem State.modFwd_freeCount (p : Fin 8) (f : List Forward → List Forward) : (s.modFwd p f).freeCount = s.freeCount := rfl
@[simp] theorem State.modFwd_pending (p : Fin 8) (f : List Forward → List Forward) : (s.modFwd p f).pending = s.pending := rfl
@[simp] theorem State.modFwd_reg (p : Fin 8) (f : List Forward → List Forward) (jx js : Nat) : (s.modFwd p f).reg jx js = s.reg jx js := rfl
@[simp] theorem State.modFwd_nat (p : Fin 8) (f : List Forward → List Forward) (jx js : Nat) : (s.modFwd p f).nat jx js = s.nat jx js := rfl
@[simp] theorem State.modFwd_flag (p : Fin 8) (f : List Forward → List Forward) (jx js : Nat) : (s.modFwd p f).flag jx js = s.flag jx js := rfl
@[simp] theorem State.modFwd_blob (p : Fin 8) (f : List Forward → List Forward) (jx js : Nat) : (s.modFwd p f).blob jx js = s.blob jx js := rfl

/-! ## modDom -/

@[simp] theorem State.modDom_regs (d : Fin 36) (f : Domain → Domain) : (s.modDom d f).regs = s.regs := rfl
@[simp] theorem State.modDom_blobs (d : Fin 36) (f : Domain → Domain) : (s.modDom d f).blobs = s.blobs := rfl
@[simp] theorem State.modDom_time (d : Fin 36) (f : Domain → Domain) : (s.modDom d f).time = s.time := rfl
@[simp] theorem State.modDom_mmp (d : Fin 36) (f : Domain → Domain) : (s.modDom d f).mmp = s.mmp := rfl
@[simp] theorem State.modDom_lookout (d : Fin 36) (f : Domain → Domain) : (s.modDom d f).lookout = s.lookout := rfl
@[simp] theorem State.modDom_partEA (d : Fin 36) (f : Domain → Domain) : (s.modDom d f).partEA = s.partEA := rfl
@[simp] theorem State.modDom_gradeI (d : Fin 36) (f : Domain → Domain) : (s.modDom d f).gradeI = s.gradeI := rfl
@[simp] theorem State.modDom_breakout (d : Fin 36) (f : Domain → Domain) : (s.modDom d f).breakout = s.breakout := rfl
@[simp] theorem State.modDom_breakoutRun (d : Fin 36) (f : Domain → Domain) : (s.modDom d f).breakoutRun = s.breakoutRun := rfl
@[simp] theorem State.modDom_savedRegs (d : Fin 36) (f : Domain → Domain) : (s.modDom d f).savedRegs = s.savedRegs := rfl
@[simp] theorem State.modDom_savedBlobs (d : Fin 36) (f : Domain → Domain) : (s.modDom d f).savedBlobs = s.savedBlobs := rfl
@[simp] theorem State.modDom_hk (d : Fin 36) (f : Domain → Domain) : (s.modDom d f).hk = s.hk := rfl
@[simp] theorem State.modDom_tx (d : Fin 36) (f : Domain → Domain) : (s.modDom d f).tx = s.tx := rfl
@[simp] theorem State.modDom_adc (d : Fin 36) (f : Domain → Domain) : (s.modDom d f).adc = s.adc := rfl
@[simp] theorem State.modDom_rxsynth (d : Fin 36) (f : Domain → Domain) : (s.modDom d f).rxsynth = s.rxsynth := rfl
@[simp] theorem State.modDom_rx (d : Fin 36) (f : Domain → Domain) : (s.modDom d f).rx = s.rx := rfl
@[simp] theorem State.modDom_eng (d : Fin 36) (f : Domain → Domain) : (s.modDom d f).eng = s.eng := rfl
@[simp] theorem State.modDom_outerLane (d : Fin 36) (f : Domain → Domain) : (s.modDom d f).outerLane = s.outerLane := rfl
@[simp] theorem State.modDom_outerPort (d : Fin 36) (f : Domain → Domain) : (s.modDom d f).outerPort = s.outerPort := rfl
@[simp] theorem State.modDom_tic (d : Fin 36) (f : Domain → Domain) : (s.modDom d f).tic = s.tic := rfl
@[simp] theorem State.modDom_pool (d : Fin 36) (f : Domain → Domain) : (s.modDom d f).pool = s.pool := rfl
@[simp] theorem State.modDom_cwCount (d : Fin 36) (f : Domain → Domain) : (s.modDom d f).cwCount = s.cwCount := rfl
@[simp] theorem State.modDom_link (d : Fin 36) (f : Domain → Domain) : (s.modDom d f).link = s.link := rfl
@[simp] theorem State.modDom_ds (d : Fin 36) (f : Domain → Domain) : (s.modDom d f).ds = s.ds := rfl
@[simp] theorem State.modDom_hostLane (d : Fin 36) (f : Domain → Domain) : (s.modDom d f).hostLane = s.hostLane := rfl
@[simp] theorem State.modDom_hostInst (d : Fin 36) (f : Domain → Domain) : (s.modDom d f).hostInst = s.hostInst := rfl
@[simp] theorem State.modDom_hostSkew (d : Fin 36) (f : Domain → Domain) : (s.modDom d f).hostSkew = s.hostSkew := rfl
@[simp] theorem State.modDom_port (d : Fin 36) (f : Domain → Domain) : (s.modDom d f).port = s.port := rfl
@[simp] theorem State.modDom_srch (d : Fin 36) (f : Domain → Domain) : (s.modDom d f).srch = s.srch := rfl
@[simp] theorem State.modDom_test (d : Fin 36) (f : Domain → Domain) : (s.modDom d f).test = s.test := rfl
@[simp] theorem State.modDom_service (d : Fin 36) (f : Domain → Domain) : (s.modDom d f).service = s.service := rfl
@[simp] theorem State.modDom_fabric (d : Fin 36) (f : Domain → Domain) : (s.modDom d f).fabric = s.fabric := rfl
@[simp] theorem State.modDom_avs (d : Fin 36) (f : Domain → Domain) : (s.modDom d f).avs = s.avs := rfl
@[simp] theorem State.modDom_therm (d : Fin 36) (f : Domain → Domain) : (s.modDom d f).therm = s.therm := rfl
@[simp] theorem State.modDom_start (d : Fin 36) (f : Domain → Domain) : (s.modDom d f).start = s.start := rfl
@[simp] theorem State.modDom_tap (d : Fin 36) (f : Domain → Domain) : (s.modDom d f).tap = s.tap := rfl
@[simp] theorem State.modDom_mem (d : Fin 36) (f : Domain → Domain) : (s.modDom d f).mem = s.mem := rfl
@[simp] theorem State.modDom_capLost (d : Fin 36) (f : Domain → Domain) : (s.modDom d f).capLost = s.capLost := rfl
@[simp] theorem State.modDom_cap (d : Fin 36) (f : Domain → Domain) : (s.modDom d f).cap = s.cap := rfl
@[simp] theorem State.modDom_fuse (d : Fin 36) (f : Domain → Domain) : (s.modDom d f).fuse = s.fuse := rfl
@[simp] theorem State.modDom_analog (d : Fin 36) (f : Domain → Domain) : (s.modDom d f).analog = s.analog := rfl
@[simp] theorem State.modDom_flash (d : Fin 36) (f : Domain → Domain) : (s.modDom d f).flash = s.flash := rfl
@[simp] theorem State.modDom_upd (d : Fin 36) (f : Domain → Domain) : (s.modDom d f).upd = s.upd := rfl
@[simp] theorem State.modDom_freeCount (d : Fin 36) (f : Domain → Domain) : (s.modDom d f).freeCount = s.freeCount := rfl
@[simp] theorem State.modDom_pending (d : Fin 36) (f : Domain → Domain) : (s.modDom d f).pending = s.pending := rfl
@[simp] theorem State.modDom_reg (d : Fin 36) (f : Domain → Domain) (jx js : Nat) : (s.modDom d f).reg jx js = s.reg jx js := rfl
@[simp] theorem State.modDom_nat (d : Fin 36) (f : Domain → Domain) (jx js : Nat) : (s.modDom d f).nat jx js = s.nat jx js := rfl
@[simp] theorem State.modDom_flag (d : Fin 36) (f : Domain → Domain) (jx js : Nat) : (s.modDom d f).flag jx js = s.flag jx js := rfl
@[simp] theorem State.modDom_blob (d : Fin 36) (f : Domain → Domain) (jx js : Nat) : (s.modDom d f).blob jx js = s.blob jx js := rfl

/-! ## modConv -/

@[simp] theorem State.modConv_regs (c : Fin 4) (f : HkConv → HkConv) : (s.modConv c f).regs = s.regs := rfl
@[simp] theorem State.modConv_blobs (c : Fin 4) (f : HkConv → HkConv) : (s.modConv c f).blobs = s.blobs := rfl
@[simp] theorem State.modConv_time (c : Fin 4) (f : HkConv → HkConv) : (s.modConv c f).time = s.time := rfl
@[simp] theorem State.modConv_mmp (c : Fin 4) (f : HkConv → HkConv) : (s.modConv c f).mmp = s.mmp := rfl
@[simp] theorem State.modConv_lookout (c : Fin 4) (f : HkConv → HkConv) : (s.modConv c f).lookout = s.lookout := rfl
@[simp] theorem State.modConv_doms (c : Fin 4) (f : HkConv → HkConv) : (s.modConv c f).doms = s.doms := rfl
@[simp] theorem State.modConv_partEA (c : Fin 4) (f : HkConv → HkConv) : (s.modConv c f).partEA = s.partEA := rfl
@[simp] theorem State.modConv_gradeI (c : Fin 4) (f : HkConv → HkConv) : (s.modConv c f).gradeI = s.gradeI := rfl
@[simp] theorem State.modConv_breakout (c : Fin 4) (f : HkConv → HkConv) : (s.modConv c f).breakout = s.breakout := rfl
@[simp] theorem State.modConv_breakoutRun (c : Fin 4) (f : HkConv → HkConv) : (s.modConv c f).breakoutRun = s.breakoutRun := rfl
@[simp] theorem State.modConv_savedRegs (c : Fin 4) (f : HkConv → HkConv) : (s.modConv c f).savedRegs = s.savedRegs := rfl
@[simp] theorem State.modConv_savedBlobs (c : Fin 4) (f : HkConv → HkConv) : (s.modConv c f).savedBlobs = s.savedBlobs := rfl
@[simp] theorem State.modConv_tx (c : Fin 4) (f : HkConv → HkConv) : (s.modConv c f).tx = s.tx := rfl
@[simp] theorem State.modConv_adc (c : Fin 4) (f : HkConv → HkConv) : (s.modConv c f).adc = s.adc := rfl
@[simp] theorem State.modConv_rxsynth (c : Fin 4) (f : HkConv → HkConv) : (s.modConv c f).rxsynth = s.rxsynth := rfl
@[simp] theorem State.modConv_rx (c : Fin 4) (f : HkConv → HkConv) : (s.modConv c f).rx = s.rx := rfl
@[simp] theorem State.modConv_eng (c : Fin 4) (f : HkConv → HkConv) : (s.modConv c f).eng = s.eng := rfl
@[simp] theorem State.modConv_outerLane (c : Fin 4) (f : HkConv → HkConv) : (s.modConv c f).outerLane = s.outerLane := rfl
@[simp] theorem State.modConv_outerPort (c : Fin 4) (f : HkConv → HkConv) : (s.modConv c f).outerPort = s.outerPort := rfl
@[simp] theorem State.modConv_tic (c : Fin 4) (f : HkConv → HkConv) : (s.modConv c f).tic = s.tic := rfl
@[simp] theorem State.modConv_pool (c : Fin 4) (f : HkConv → HkConv) : (s.modConv c f).pool = s.pool := rfl
@[simp] theorem State.modConv_cwCount (c : Fin 4) (f : HkConv → HkConv) : (s.modConv c f).cwCount = s.cwCount := rfl
@[simp] theorem State.modConv_link (c : Fin 4) (f : HkConv → HkConv) : (s.modConv c f).link = s.link := rfl
@[simp] theorem State.modConv_ds (c : Fin 4) (f : HkConv → HkConv) : (s.modConv c f).ds = s.ds := rfl
@[simp] theorem State.modConv_hostLane (c : Fin 4) (f : HkConv → HkConv) : (s.modConv c f).hostLane = s.hostLane := rfl
@[simp] theorem State.modConv_hostInst (c : Fin 4) (f : HkConv → HkConv) : (s.modConv c f).hostInst = s.hostInst := rfl
@[simp] theorem State.modConv_hostSkew (c : Fin 4) (f : HkConv → HkConv) : (s.modConv c f).hostSkew = s.hostSkew := rfl
@[simp] theorem State.modConv_port (c : Fin 4) (f : HkConv → HkConv) : (s.modConv c f).port = s.port := rfl
@[simp] theorem State.modConv_srch (c : Fin 4) (f : HkConv → HkConv) : (s.modConv c f).srch = s.srch := rfl
@[simp] theorem State.modConv_test (c : Fin 4) (f : HkConv → HkConv) : (s.modConv c f).test = s.test := rfl
@[simp] theorem State.modConv_service (c : Fin 4) (f : HkConv → HkConv) : (s.modConv c f).service = s.service := rfl
@[simp] theorem State.modConv_fabric (c : Fin 4) (f : HkConv → HkConv) : (s.modConv c f).fabric = s.fabric := rfl
@[simp] theorem State.modConv_avs (c : Fin 4) (f : HkConv → HkConv) : (s.modConv c f).avs = s.avs := rfl
@[simp] theorem State.modConv_therm (c : Fin 4) (f : HkConv → HkConv) : (s.modConv c f).therm = s.therm := rfl
@[simp] theorem State.modConv_start (c : Fin 4) (f : HkConv → HkConv) : (s.modConv c f).start = s.start := rfl
@[simp] theorem State.modConv_tap (c : Fin 4) (f : HkConv → HkConv) : (s.modConv c f).tap = s.tap := rfl
@[simp] theorem State.modConv_mem (c : Fin 4) (f : HkConv → HkConv) : (s.modConv c f).mem = s.mem := rfl
@[simp] theorem State.modConv_capLost (c : Fin 4) (f : HkConv → HkConv) : (s.modConv c f).capLost = s.capLost := rfl
@[simp] theorem State.modConv_cap (c : Fin 4) (f : HkConv → HkConv) : (s.modConv c f).cap = s.cap := rfl
@[simp] theorem State.modConv_fuse (c : Fin 4) (f : HkConv → HkConv) : (s.modConv c f).fuse = s.fuse := rfl
@[simp] theorem State.modConv_analog (c : Fin 4) (f : HkConv → HkConv) : (s.modConv c f).analog = s.analog := rfl
@[simp] theorem State.modConv_flash (c : Fin 4) (f : HkConv → HkConv) : (s.modConv c f).flash = s.flash := rfl
@[simp] theorem State.modConv_upd (c : Fin 4) (f : HkConv → HkConv) : (s.modConv c f).upd = s.upd := rfl
@[simp] theorem State.modConv_freeCount (c : Fin 4) (f : HkConv → HkConv) : (s.modConv c f).freeCount = s.freeCount := rfl
@[simp] theorem State.modConv_pending (c : Fin 4) (f : HkConv → HkConv) : (s.modConv c f).pending = s.pending := rfl
@[simp] theorem State.modConv_reg (c : Fin 4) (f : HkConv → HkConv) (jx js : Nat) : (s.modConv c f).reg jx js = s.reg jx js := rfl
@[simp] theorem State.modConv_nat (c : Fin 4) (f : HkConv → HkConv) (jx js : Nat) : (s.modConv c f).nat jx js = s.nat jx js := rfl
@[simp] theorem State.modConv_flag (c : Fin 4) (f : HkConv → HkConv) (jx js : Nat) : (s.modConv c f).flag jx js = s.flag jx js := rfl
@[simp] theorem State.modConv_blob (c : Fin 4) (f : HkConv → HkConv) (jx js : Nat) : (s.modConv c f).blob jx js = s.blob jx js := rfl

/-! ## modChan -/

@[simp] theorem State.modChan_regs (k : Fin 16) (f : HkChan → HkChan) : (s.modChan k f).regs = s.regs := rfl
@[simp] theorem State.modChan_blobs (k : Fin 16) (f : HkChan → HkChan) : (s.modChan k f).blobs = s.blobs := rfl
@[simp] theorem State.modChan_time (k : Fin 16) (f : HkChan → HkChan) : (s.modChan k f).time = s.time := rfl
@[simp] theorem State.modChan_mmp (k : Fin 16) (f : HkChan → HkChan) : (s.modChan k f).mmp = s.mmp := rfl
@[simp] theorem State.modChan_lookout (k : Fin 16) (f : HkChan → HkChan) : (s.modChan k f).lookout = s.lookout := rfl
@[simp] theorem State.modChan_doms (k : Fin 16) (f : HkChan → HkChan) : (s.modChan k f).doms = s.doms := rfl
@[simp] theorem State.modChan_partEA (k : Fin 16) (f : HkChan → HkChan) : (s.modChan k f).partEA = s.partEA := rfl
@[simp] theorem State.modChan_gradeI (k : Fin 16) (f : HkChan → HkChan) : (s.modChan k f).gradeI = s.gradeI := rfl
@[simp] theorem State.modChan_breakout (k : Fin 16) (f : HkChan → HkChan) : (s.modChan k f).breakout = s.breakout := rfl
@[simp] theorem State.modChan_breakoutRun (k : Fin 16) (f : HkChan → HkChan) : (s.modChan k f).breakoutRun = s.breakoutRun := rfl
@[simp] theorem State.modChan_savedRegs (k : Fin 16) (f : HkChan → HkChan) : (s.modChan k f).savedRegs = s.savedRegs := rfl
@[simp] theorem State.modChan_savedBlobs (k : Fin 16) (f : HkChan → HkChan) : (s.modChan k f).savedBlobs = s.savedBlobs := rfl
@[simp] theorem State.modChan_tx (k : Fin 16) (f : HkChan → HkChan) : (s.modChan k f).tx = s.tx := rfl
@[simp] theorem State.modChan_adc (k : Fin 16) (f : HkChan → HkChan) : (s.modChan k f).adc = s.adc := rfl
@[simp] theorem State.modChan_rxsynth (k : Fin 16) (f : HkChan → HkChan) : (s.modChan k f).rxsynth = s.rxsynth := rfl
@[simp] theorem State.modChan_rx (k : Fin 16) (f : HkChan → HkChan) : (s.modChan k f).rx = s.rx := rfl
@[simp] theorem State.modChan_eng (k : Fin 16) (f : HkChan → HkChan) : (s.modChan k f).eng = s.eng := rfl
@[simp] theorem State.modChan_outerLane (k : Fin 16) (f : HkChan → HkChan) : (s.modChan k f).outerLane = s.outerLane := rfl
@[simp] theorem State.modChan_outerPort (k : Fin 16) (f : HkChan → HkChan) : (s.modChan k f).outerPort = s.outerPort := rfl
@[simp] theorem State.modChan_tic (k : Fin 16) (f : HkChan → HkChan) : (s.modChan k f).tic = s.tic := rfl
@[simp] theorem State.modChan_pool (k : Fin 16) (f : HkChan → HkChan) : (s.modChan k f).pool = s.pool := rfl
@[simp] theorem State.modChan_cwCount (k : Fin 16) (f : HkChan → HkChan) : (s.modChan k f).cwCount = s.cwCount := rfl
@[simp] theorem State.modChan_link (k : Fin 16) (f : HkChan → HkChan) : (s.modChan k f).link = s.link := rfl
@[simp] theorem State.modChan_ds (k : Fin 16) (f : HkChan → HkChan) : (s.modChan k f).ds = s.ds := rfl
@[simp] theorem State.modChan_hostLane (k : Fin 16) (f : HkChan → HkChan) : (s.modChan k f).hostLane = s.hostLane := rfl
@[simp] theorem State.modChan_hostInst (k : Fin 16) (f : HkChan → HkChan) : (s.modChan k f).hostInst = s.hostInst := rfl
@[simp] theorem State.modChan_hostSkew (k : Fin 16) (f : HkChan → HkChan) : (s.modChan k f).hostSkew = s.hostSkew := rfl
@[simp] theorem State.modChan_port (k : Fin 16) (f : HkChan → HkChan) : (s.modChan k f).port = s.port := rfl
@[simp] theorem State.modChan_srch (k : Fin 16) (f : HkChan → HkChan) : (s.modChan k f).srch = s.srch := rfl
@[simp] theorem State.modChan_test (k : Fin 16) (f : HkChan → HkChan) : (s.modChan k f).test = s.test := rfl
@[simp] theorem State.modChan_service (k : Fin 16) (f : HkChan → HkChan) : (s.modChan k f).service = s.service := rfl
@[simp] theorem State.modChan_fabric (k : Fin 16) (f : HkChan → HkChan) : (s.modChan k f).fabric = s.fabric := rfl
@[simp] theorem State.modChan_avs (k : Fin 16) (f : HkChan → HkChan) : (s.modChan k f).avs = s.avs := rfl
@[simp] theorem State.modChan_therm (k : Fin 16) (f : HkChan → HkChan) : (s.modChan k f).therm = s.therm := rfl
@[simp] theorem State.modChan_start (k : Fin 16) (f : HkChan → HkChan) : (s.modChan k f).start = s.start := rfl
@[simp] theorem State.modChan_tap (k : Fin 16) (f : HkChan → HkChan) : (s.modChan k f).tap = s.tap := rfl
@[simp] theorem State.modChan_mem (k : Fin 16) (f : HkChan → HkChan) : (s.modChan k f).mem = s.mem := rfl
@[simp] theorem State.modChan_capLost (k : Fin 16) (f : HkChan → HkChan) : (s.modChan k f).capLost = s.capLost := rfl
@[simp] theorem State.modChan_cap (k : Fin 16) (f : HkChan → HkChan) : (s.modChan k f).cap = s.cap := rfl
@[simp] theorem State.modChan_fuse (k : Fin 16) (f : HkChan → HkChan) : (s.modChan k f).fuse = s.fuse := rfl
@[simp] theorem State.modChan_analog (k : Fin 16) (f : HkChan → HkChan) : (s.modChan k f).analog = s.analog := rfl
@[simp] theorem State.modChan_flash (k : Fin 16) (f : HkChan → HkChan) : (s.modChan k f).flash = s.flash := rfl
@[simp] theorem State.modChan_upd (k : Fin 16) (f : HkChan → HkChan) : (s.modChan k f).upd = s.upd := rfl
@[simp] theorem State.modChan_freeCount (k : Fin 16) (f : HkChan → HkChan) : (s.modChan k f).freeCount = s.freeCount := rfl
@[simp] theorem State.modChan_pending (k : Fin 16) (f : HkChan → HkChan) : (s.modChan k f).pending = s.pending := rfl
@[simp] theorem State.modChan_reg (k : Fin 16) (f : HkChan → HkChan) (jx js : Nat) : (s.modChan k f).reg jx js = s.reg jx js := rfl
@[simp] theorem State.modChan_nat (k : Fin 16) (f : HkChan → HkChan) (jx js : Nat) : (s.modChan k f).nat jx js = s.nat jx js := rfl
@[simp] theorem State.modChan_flag (k : Fin 16) (f : HkChan → HkChan) (jx js : Nat) : (s.modChan k f).flag jx js = s.flag jx js := rfl
@[simp] theorem State.modChan_blob (k : Fin 16) (f : HkChan → HkChan) (jx js : Nat) : (s.modChan k f).blob jx js = s.blob jx js := rfl

/-! ## modAdac -/

@[simp] theorem State.modAdac_regs (k : Fin 16) (f : Adac → Adac) : (s.modAdac k f).regs = s.regs := rfl
@[simp] theorem State.modAdac_blobs (k : Fin 16) (f : Adac → Adac) : (s.modAdac k f).blobs = s.blobs := rfl
@[simp] theorem State.modAdac_time (k : Fin 16) (f : Adac → Adac) : (s.modAdac k f).time = s.time := rfl
@[simp] theorem State.modAdac_mmp (k : Fin 16) (f : Adac → Adac) : (s.modAdac k f).mmp = s.mmp := rfl
@[simp] theorem State.modAdac_lookout (k : Fin 16) (f : Adac → Adac) : (s.modAdac k f).lookout = s.lookout := rfl
@[simp] theorem State.modAdac_doms (k : Fin 16) (f : Adac → Adac) : (s.modAdac k f).doms = s.doms := rfl
@[simp] theorem State.modAdac_partEA (k : Fin 16) (f : Adac → Adac) : (s.modAdac k f).partEA = s.partEA := rfl
@[simp] theorem State.modAdac_gradeI (k : Fin 16) (f : Adac → Adac) : (s.modAdac k f).gradeI = s.gradeI := rfl
@[simp] theorem State.modAdac_breakout (k : Fin 16) (f : Adac → Adac) : (s.modAdac k f).breakout = s.breakout := rfl
@[simp] theorem State.modAdac_breakoutRun (k : Fin 16) (f : Adac → Adac) : (s.modAdac k f).breakoutRun = s.breakoutRun := rfl
@[simp] theorem State.modAdac_savedRegs (k : Fin 16) (f : Adac → Adac) : (s.modAdac k f).savedRegs = s.savedRegs := rfl
@[simp] theorem State.modAdac_savedBlobs (k : Fin 16) (f : Adac → Adac) : (s.modAdac k f).savedBlobs = s.savedBlobs := rfl
@[simp] theorem State.modAdac_tx (k : Fin 16) (f : Adac → Adac) : (s.modAdac k f).tx = s.tx := rfl
@[simp] theorem State.modAdac_adc (k : Fin 16) (f : Adac → Adac) : (s.modAdac k f).adc = s.adc := rfl
@[simp] theorem State.modAdac_rxsynth (k : Fin 16) (f : Adac → Adac) : (s.modAdac k f).rxsynth = s.rxsynth := rfl
@[simp] theorem State.modAdac_rx (k : Fin 16) (f : Adac → Adac) : (s.modAdac k f).rx = s.rx := rfl
@[simp] theorem State.modAdac_eng (k : Fin 16) (f : Adac → Adac) : (s.modAdac k f).eng = s.eng := rfl
@[simp] theorem State.modAdac_outerLane (k : Fin 16) (f : Adac → Adac) : (s.modAdac k f).outerLane = s.outerLane := rfl
@[simp] theorem State.modAdac_outerPort (k : Fin 16) (f : Adac → Adac) : (s.modAdac k f).outerPort = s.outerPort := rfl
@[simp] theorem State.modAdac_tic (k : Fin 16) (f : Adac → Adac) : (s.modAdac k f).tic = s.tic := rfl
@[simp] theorem State.modAdac_pool (k : Fin 16) (f : Adac → Adac) : (s.modAdac k f).pool = s.pool := rfl
@[simp] theorem State.modAdac_cwCount (k : Fin 16) (f : Adac → Adac) : (s.modAdac k f).cwCount = s.cwCount := rfl
@[simp] theorem State.modAdac_link (k : Fin 16) (f : Adac → Adac) : (s.modAdac k f).link = s.link := rfl
@[simp] theorem State.modAdac_ds (k : Fin 16) (f : Adac → Adac) : (s.modAdac k f).ds = s.ds := rfl
@[simp] theorem State.modAdac_hostLane (k : Fin 16) (f : Adac → Adac) : (s.modAdac k f).hostLane = s.hostLane := rfl
@[simp] theorem State.modAdac_hostInst (k : Fin 16) (f : Adac → Adac) : (s.modAdac k f).hostInst = s.hostInst := rfl
@[simp] theorem State.modAdac_hostSkew (k : Fin 16) (f : Adac → Adac) : (s.modAdac k f).hostSkew = s.hostSkew := rfl
@[simp] theorem State.modAdac_port (k : Fin 16) (f : Adac → Adac) : (s.modAdac k f).port = s.port := rfl
@[simp] theorem State.modAdac_srch (k : Fin 16) (f : Adac → Adac) : (s.modAdac k f).srch = s.srch := rfl
@[simp] theorem State.modAdac_test (k : Fin 16) (f : Adac → Adac) : (s.modAdac k f).test = s.test := rfl
@[simp] theorem State.modAdac_service (k : Fin 16) (f : Adac → Adac) : (s.modAdac k f).service = s.service := rfl
@[simp] theorem State.modAdac_fabric (k : Fin 16) (f : Adac → Adac) : (s.modAdac k f).fabric = s.fabric := rfl
@[simp] theorem State.modAdac_avs (k : Fin 16) (f : Adac → Adac) : (s.modAdac k f).avs = s.avs := rfl
@[simp] theorem State.modAdac_therm (k : Fin 16) (f : Adac → Adac) : (s.modAdac k f).therm = s.therm := rfl
@[simp] theorem State.modAdac_start (k : Fin 16) (f : Adac → Adac) : (s.modAdac k f).start = s.start := rfl
@[simp] theorem State.modAdac_tap (k : Fin 16) (f : Adac → Adac) : (s.modAdac k f).tap = s.tap := rfl
@[simp] theorem State.modAdac_mem (k : Fin 16) (f : Adac → Adac) : (s.modAdac k f).mem = s.mem := rfl
@[simp] theorem State.modAdac_capLost (k : Fin 16) (f : Adac → Adac) : (s.modAdac k f).capLost = s.capLost := rfl
@[simp] theorem State.modAdac_cap (k : Fin 16) (f : Adac → Adac) : (s.modAdac k f).cap = s.cap := rfl
@[simp] theorem State.modAdac_fuse (k : Fin 16) (f : Adac → Adac) : (s.modAdac k f).fuse = s.fuse := rfl
@[simp] theorem State.modAdac_analog (k : Fin 16) (f : Adac → Adac) : (s.modAdac k f).analog = s.analog := rfl
@[simp] theorem State.modAdac_flash (k : Fin 16) (f : Adac → Adac) : (s.modAdac k f).flash = s.flash := rfl
@[simp] theorem State.modAdac_upd (k : Fin 16) (f : Adac → Adac) : (s.modAdac k f).upd = s.upd := rfl
@[simp] theorem State.modAdac_freeCount (k : Fin 16) (f : Adac → Adac) : (s.modAdac k f).freeCount = s.freeCount := rfl
@[simp] theorem State.modAdac_pending (k : Fin 16) (f : Adac → Adac) : (s.modAdac k f).pending = s.pending := rfl
@[simp] theorem State.modAdac_reg (k : Fin 16) (f : Adac → Adac) (jx js : Nat) : (s.modAdac k f).reg jx js = s.reg jx js := rfl
@[simp] theorem State.modAdac_nat (k : Fin 16) (f : Adac → Adac) (jx js : Nat) : (s.modAdac k f).nat jx js = s.nat jx js := rfl
@[simp] theorem State.modAdac_flag (k : Fin 16) (f : Adac → Adac) (jx js : Nat) : (s.modAdac k f).flag jx js = s.flag jx js := rfl
@[simp] theorem State.modAdac_blob (k : Fin 16) (f : Adac → Adac) (jx js : Nat) : (s.modAdac k f).blob jx js = s.blob jx js := rfl

/-! ## modPwm -/

@[simp] theorem State.modPwm_regs (i : Fin 4) (f : Pwm → Pwm) : (s.modPwm i f).regs = s.regs := rfl
@[simp] theorem State.modPwm_blobs (i : Fin 4) (f : Pwm → Pwm) : (s.modPwm i f).blobs = s.blobs := rfl
@[simp] theorem State.modPwm_time (i : Fin 4) (f : Pwm → Pwm) : (s.modPwm i f).time = s.time := rfl
@[simp] theorem State.modPwm_mmp (i : Fin 4) (f : Pwm → Pwm) : (s.modPwm i f).mmp = s.mmp := rfl
@[simp] theorem State.modPwm_lookout (i : Fin 4) (f : Pwm → Pwm) : (s.modPwm i f).lookout = s.lookout := rfl
@[simp] theorem State.modPwm_doms (i : Fin 4) (f : Pwm → Pwm) : (s.modPwm i f).doms = s.doms := rfl
@[simp] theorem State.modPwm_partEA (i : Fin 4) (f : Pwm → Pwm) : (s.modPwm i f).partEA = s.partEA := rfl
@[simp] theorem State.modPwm_gradeI (i : Fin 4) (f : Pwm → Pwm) : (s.modPwm i f).gradeI = s.gradeI := rfl
@[simp] theorem State.modPwm_breakout (i : Fin 4) (f : Pwm → Pwm) : (s.modPwm i f).breakout = s.breakout := rfl
@[simp] theorem State.modPwm_breakoutRun (i : Fin 4) (f : Pwm → Pwm) : (s.modPwm i f).breakoutRun = s.breakoutRun := rfl
@[simp] theorem State.modPwm_savedRegs (i : Fin 4) (f : Pwm → Pwm) : (s.modPwm i f).savedRegs = s.savedRegs := rfl
@[simp] theorem State.modPwm_savedBlobs (i : Fin 4) (f : Pwm → Pwm) : (s.modPwm i f).savedBlobs = s.savedBlobs := rfl
@[simp] theorem State.modPwm_tx (i : Fin 4) (f : Pwm → Pwm) : (s.modPwm i f).tx = s.tx := rfl
@[simp] theorem State.modPwm_adc (i : Fin 4) (f : Pwm → Pwm) : (s.modPwm i f).adc = s.adc := rfl
@[simp] theorem State.modPwm_rxsynth (i : Fin 4) (f : Pwm → Pwm) : (s.modPwm i f).rxsynth = s.rxsynth := rfl
@[simp] theorem State.modPwm_rx (i : Fin 4) (f : Pwm → Pwm) : (s.modPwm i f).rx = s.rx := rfl
@[simp] theorem State.modPwm_eng (i : Fin 4) (f : Pwm → Pwm) : (s.modPwm i f).eng = s.eng := rfl
@[simp] theorem State.modPwm_outerLane (i : Fin 4) (f : Pwm → Pwm) : (s.modPwm i f).outerLane = s.outerLane := rfl
@[simp] theorem State.modPwm_outerPort (i : Fin 4) (f : Pwm → Pwm) : (s.modPwm i f).outerPort = s.outerPort := rfl
@[simp] theorem State.modPwm_tic (i : Fin 4) (f : Pwm → Pwm) : (s.modPwm i f).tic = s.tic := rfl
@[simp] theorem State.modPwm_pool (i : Fin 4) (f : Pwm → Pwm) : (s.modPwm i f).pool = s.pool := rfl
@[simp] theorem State.modPwm_cwCount (i : Fin 4) (f : Pwm → Pwm) : (s.modPwm i f).cwCount = s.cwCount := rfl
@[simp] theorem State.modPwm_link (i : Fin 4) (f : Pwm → Pwm) : (s.modPwm i f).link = s.link := rfl
@[simp] theorem State.modPwm_ds (i : Fin 4) (f : Pwm → Pwm) : (s.modPwm i f).ds = s.ds := rfl
@[simp] theorem State.modPwm_hostLane (i : Fin 4) (f : Pwm → Pwm) : (s.modPwm i f).hostLane = s.hostLane := rfl
@[simp] theorem State.modPwm_hostInst (i : Fin 4) (f : Pwm → Pwm) : (s.modPwm i f).hostInst = s.hostInst := rfl
@[simp] theorem State.modPwm_hostSkew (i : Fin 4) (f : Pwm → Pwm) : (s.modPwm i f).hostSkew = s.hostSkew := rfl
@[simp] theorem State.modPwm_port (i : Fin 4) (f : Pwm → Pwm) : (s.modPwm i f).port = s.port := rfl
@[simp] theorem State.modPwm_srch (i : Fin 4) (f : Pwm → Pwm) : (s.modPwm i f).srch = s.srch := rfl
@[simp] theorem State.modPwm_test (i : Fin 4) (f : Pwm → Pwm) : (s.modPwm i f).test = s.test := rfl
@[simp] theorem State.modPwm_service (i : Fin 4) (f : Pwm → Pwm) : (s.modPwm i f).service = s.service := rfl
@[simp] theorem State.modPwm_fabric (i : Fin 4) (f : Pwm → Pwm) : (s.modPwm i f).fabric = s.fabric := rfl
@[simp] theorem State.modPwm_avs (i : Fin 4) (f : Pwm → Pwm) : (s.modPwm i f).avs = s.avs := rfl
@[simp] theorem State.modPwm_therm (i : Fin 4) (f : Pwm → Pwm) : (s.modPwm i f).therm = s.therm := rfl
@[simp] theorem State.modPwm_start (i : Fin 4) (f : Pwm → Pwm) : (s.modPwm i f).start = s.start := rfl
@[simp] theorem State.modPwm_tap (i : Fin 4) (f : Pwm → Pwm) : (s.modPwm i f).tap = s.tap := rfl
@[simp] theorem State.modPwm_mem (i : Fin 4) (f : Pwm → Pwm) : (s.modPwm i f).mem = s.mem := rfl
@[simp] theorem State.modPwm_capLost (i : Fin 4) (f : Pwm → Pwm) : (s.modPwm i f).capLost = s.capLost := rfl
@[simp] theorem State.modPwm_cap (i : Fin 4) (f : Pwm → Pwm) : (s.modPwm i f).cap = s.cap := rfl
@[simp] theorem State.modPwm_fuse (i : Fin 4) (f : Pwm → Pwm) : (s.modPwm i f).fuse = s.fuse := rfl
@[simp] theorem State.modPwm_analog (i : Fin 4) (f : Pwm → Pwm) : (s.modPwm i f).analog = s.analog := rfl
@[simp] theorem State.modPwm_flash (i : Fin 4) (f : Pwm → Pwm) : (s.modPwm i f).flash = s.flash := rfl
@[simp] theorem State.modPwm_upd (i : Fin 4) (f : Pwm → Pwm) : (s.modPwm i f).upd = s.upd := rfl
@[simp] theorem State.modPwm_freeCount (i : Fin 4) (f : Pwm → Pwm) : (s.modPwm i f).freeCount = s.freeCount := rfl
@[simp] theorem State.modPwm_pending (i : Fin 4) (f : Pwm → Pwm) : (s.modPwm i f).pending = s.pending := rfl
@[simp] theorem State.modPwm_reg (i : Fin 4) (f : Pwm → Pwm) (jx js : Nat) : (s.modPwm i f).reg jx js = s.reg jx js := rfl
@[simp] theorem State.modPwm_nat (i : Fin 4) (f : Pwm → Pwm) (jx js : Nat) : (s.modPwm i f).nat jx js = s.nat jx js := rfl
@[simp] theorem State.modPwm_flag (i : Fin 4) (f : Pwm → Pwm) (jx js : Nat) : (s.modPwm i f).flag jx js = s.flag jx js := rfl
@[simp] theorem State.modPwm_blob (i : Fin 4) (f : Pwm → Pwm) (jx js : Nat) : (s.modPwm i f).blob jx js = s.blob jx js := rfl

/-! ## modTx -/

@[simp] theorem State.modTx_regs (l : Fin 8) (f : TxLane → TxLane) : (s.modTx l f).regs = s.regs := rfl
@[simp] theorem State.modTx_blobs (l : Fin 8) (f : TxLane → TxLane) : (s.modTx l f).blobs = s.blobs := rfl
@[simp] theorem State.modTx_time (l : Fin 8) (f : TxLane → TxLane) : (s.modTx l f).time = s.time := rfl
@[simp] theorem State.modTx_mmp (l : Fin 8) (f : TxLane → TxLane) : (s.modTx l f).mmp = s.mmp := rfl
@[simp] theorem State.modTx_lookout (l : Fin 8) (f : TxLane → TxLane) : (s.modTx l f).lookout = s.lookout := rfl
@[simp] theorem State.modTx_doms (l : Fin 8) (f : TxLane → TxLane) : (s.modTx l f).doms = s.doms := rfl
@[simp] theorem State.modTx_partEA (l : Fin 8) (f : TxLane → TxLane) : (s.modTx l f).partEA = s.partEA := rfl
@[simp] theorem State.modTx_gradeI (l : Fin 8) (f : TxLane → TxLane) : (s.modTx l f).gradeI = s.gradeI := rfl
@[simp] theorem State.modTx_breakout (l : Fin 8) (f : TxLane → TxLane) : (s.modTx l f).breakout = s.breakout := rfl
@[simp] theorem State.modTx_breakoutRun (l : Fin 8) (f : TxLane → TxLane) : (s.modTx l f).breakoutRun = s.breakoutRun := rfl
@[simp] theorem State.modTx_savedRegs (l : Fin 8) (f : TxLane → TxLane) : (s.modTx l f).savedRegs = s.savedRegs := rfl
@[simp] theorem State.modTx_savedBlobs (l : Fin 8) (f : TxLane → TxLane) : (s.modTx l f).savedBlobs = s.savedBlobs := rfl
@[simp] theorem State.modTx_hk (l : Fin 8) (f : TxLane → TxLane) : (s.modTx l f).hk = s.hk := rfl
@[simp] theorem State.modTx_adc (l : Fin 8) (f : TxLane → TxLane) : (s.modTx l f).adc = s.adc := rfl
@[simp] theorem State.modTx_rxsynth (l : Fin 8) (f : TxLane → TxLane) : (s.modTx l f).rxsynth = s.rxsynth := rfl
@[simp] theorem State.modTx_rx (l : Fin 8) (f : TxLane → TxLane) : (s.modTx l f).rx = s.rx := rfl
@[simp] theorem State.modTx_eng (l : Fin 8) (f : TxLane → TxLane) : (s.modTx l f).eng = s.eng := rfl
@[simp] theorem State.modTx_outerLane (l : Fin 8) (f : TxLane → TxLane) : (s.modTx l f).outerLane = s.outerLane := rfl
@[simp] theorem State.modTx_outerPort (l : Fin 8) (f : TxLane → TxLane) : (s.modTx l f).outerPort = s.outerPort := rfl
@[simp] theorem State.modTx_tic (l : Fin 8) (f : TxLane → TxLane) : (s.modTx l f).tic = s.tic := rfl
@[simp] theorem State.modTx_pool (l : Fin 8) (f : TxLane → TxLane) : (s.modTx l f).pool = s.pool := rfl
@[simp] theorem State.modTx_cwCount (l : Fin 8) (f : TxLane → TxLane) : (s.modTx l f).cwCount = s.cwCount := rfl
@[simp] theorem State.modTx_link (l : Fin 8) (f : TxLane → TxLane) : (s.modTx l f).link = s.link := rfl
@[simp] theorem State.modTx_ds (l : Fin 8) (f : TxLane → TxLane) : (s.modTx l f).ds = s.ds := rfl
@[simp] theorem State.modTx_hostLane (l : Fin 8) (f : TxLane → TxLane) : (s.modTx l f).hostLane = s.hostLane := rfl
@[simp] theorem State.modTx_hostInst (l : Fin 8) (f : TxLane → TxLane) : (s.modTx l f).hostInst = s.hostInst := rfl
@[simp] theorem State.modTx_hostSkew (l : Fin 8) (f : TxLane → TxLane) : (s.modTx l f).hostSkew = s.hostSkew := rfl
@[simp] theorem State.modTx_port (l : Fin 8) (f : TxLane → TxLane) : (s.modTx l f).port = s.port := rfl
@[simp] theorem State.modTx_srch (l : Fin 8) (f : TxLane → TxLane) : (s.modTx l f).srch = s.srch := rfl
@[simp] theorem State.modTx_test (l : Fin 8) (f : TxLane → TxLane) : (s.modTx l f).test = s.test := rfl
@[simp] theorem State.modTx_service (l : Fin 8) (f : TxLane → TxLane) : (s.modTx l f).service = s.service := rfl
@[simp] theorem State.modTx_fabric (l : Fin 8) (f : TxLane → TxLane) : (s.modTx l f).fabric = s.fabric := rfl
@[simp] theorem State.modTx_avs (l : Fin 8) (f : TxLane → TxLane) : (s.modTx l f).avs = s.avs := rfl
@[simp] theorem State.modTx_therm (l : Fin 8) (f : TxLane → TxLane) : (s.modTx l f).therm = s.therm := rfl
@[simp] theorem State.modTx_start (l : Fin 8) (f : TxLane → TxLane) : (s.modTx l f).start = s.start := rfl
@[simp] theorem State.modTx_tap (l : Fin 8) (f : TxLane → TxLane) : (s.modTx l f).tap = s.tap := rfl
@[simp] theorem State.modTx_mem (l : Fin 8) (f : TxLane → TxLane) : (s.modTx l f).mem = s.mem := rfl
@[simp] theorem State.modTx_capLost (l : Fin 8) (f : TxLane → TxLane) : (s.modTx l f).capLost = s.capLost := rfl
@[simp] theorem State.modTx_cap (l : Fin 8) (f : TxLane → TxLane) : (s.modTx l f).cap = s.cap := rfl
@[simp] theorem State.modTx_fuse (l : Fin 8) (f : TxLane → TxLane) : (s.modTx l f).fuse = s.fuse := rfl
@[simp] theorem State.modTx_analog (l : Fin 8) (f : TxLane → TxLane) : (s.modTx l f).analog = s.analog := rfl
@[simp] theorem State.modTx_flash (l : Fin 8) (f : TxLane → TxLane) : (s.modTx l f).flash = s.flash := rfl
@[simp] theorem State.modTx_upd (l : Fin 8) (f : TxLane → TxLane) : (s.modTx l f).upd = s.upd := rfl
@[simp] theorem State.modTx_freeCount (l : Fin 8) (f : TxLane → TxLane) : (s.modTx l f).freeCount = s.freeCount := rfl
@[simp] theorem State.modTx_pending (l : Fin 8) (f : TxLane → TxLane) : (s.modTx l f).pending = s.pending := rfl
@[simp] theorem State.modTx_reg (l : Fin 8) (f : TxLane → TxLane) (jx js : Nat) : (s.modTx l f).reg jx js = s.reg jx js := rfl
@[simp] theorem State.modTx_nat (l : Fin 8) (f : TxLane → TxLane) (jx js : Nat) : (s.modTx l f).nat jx js = s.nat jx js := rfl
@[simp] theorem State.modTx_flag (l : Fin 8) (f : TxLane → TxLane) (jx js : Nat) : (s.modTx l f).flag jx js = s.flag jx js := rfl
@[simp] theorem State.modTx_blob (l : Fin 8) (f : TxLane → TxLane) (jx js : Nat) : (s.modTx l f).blob jx js = s.blob jx js := rfl

/-! ## modAdcLane -/

@[simp] theorem State.modAdcLane_regs (l : Fin 8) (f : AdcLane → AdcLane) : (s.modAdcLane l f).regs = s.regs := rfl
@[simp] theorem State.modAdcLane_blobs (l : Fin 8) (f : AdcLane → AdcLane) : (s.modAdcLane l f).blobs = s.blobs := rfl
@[simp] theorem State.modAdcLane_time (l : Fin 8) (f : AdcLane → AdcLane) : (s.modAdcLane l f).time = s.time := rfl
@[simp] theorem State.modAdcLane_mmp (l : Fin 8) (f : AdcLane → AdcLane) : (s.modAdcLane l f).mmp = s.mmp := rfl
@[simp] theorem State.modAdcLane_lookout (l : Fin 8) (f : AdcLane → AdcLane) : (s.modAdcLane l f).lookout = s.lookout := rfl
@[simp] theorem State.modAdcLane_doms (l : Fin 8) (f : AdcLane → AdcLane) : (s.modAdcLane l f).doms = s.doms := rfl
@[simp] theorem State.modAdcLane_partEA (l : Fin 8) (f : AdcLane → AdcLane) : (s.modAdcLane l f).partEA = s.partEA := rfl
@[simp] theorem State.modAdcLane_gradeI (l : Fin 8) (f : AdcLane → AdcLane) : (s.modAdcLane l f).gradeI = s.gradeI := rfl
@[simp] theorem State.modAdcLane_breakout (l : Fin 8) (f : AdcLane → AdcLane) : (s.modAdcLane l f).breakout = s.breakout := rfl
@[simp] theorem State.modAdcLane_breakoutRun (l : Fin 8) (f : AdcLane → AdcLane) : (s.modAdcLane l f).breakoutRun = s.breakoutRun := rfl
@[simp] theorem State.modAdcLane_savedRegs (l : Fin 8) (f : AdcLane → AdcLane) : (s.modAdcLane l f).savedRegs = s.savedRegs := rfl
@[simp] theorem State.modAdcLane_savedBlobs (l : Fin 8) (f : AdcLane → AdcLane) : (s.modAdcLane l f).savedBlobs = s.savedBlobs := rfl
@[simp] theorem State.modAdcLane_hk (l : Fin 8) (f : AdcLane → AdcLane) : (s.modAdcLane l f).hk = s.hk := rfl
@[simp] theorem State.modAdcLane_tx (l : Fin 8) (f : AdcLane → AdcLane) : (s.modAdcLane l f).tx = s.tx := rfl
@[simp] theorem State.modAdcLane_rxsynth (l : Fin 8) (f : AdcLane → AdcLane) : (s.modAdcLane l f).rxsynth = s.rxsynth := rfl
@[simp] theorem State.modAdcLane_rx (l : Fin 8) (f : AdcLane → AdcLane) : (s.modAdcLane l f).rx = s.rx := rfl
@[simp] theorem State.modAdcLane_eng (l : Fin 8) (f : AdcLane → AdcLane) : (s.modAdcLane l f).eng = s.eng := rfl
@[simp] theorem State.modAdcLane_outerLane (l : Fin 8) (f : AdcLane → AdcLane) : (s.modAdcLane l f).outerLane = s.outerLane := rfl
@[simp] theorem State.modAdcLane_outerPort (l : Fin 8) (f : AdcLane → AdcLane) : (s.modAdcLane l f).outerPort = s.outerPort := rfl
@[simp] theorem State.modAdcLane_tic (l : Fin 8) (f : AdcLane → AdcLane) : (s.modAdcLane l f).tic = s.tic := rfl
@[simp] theorem State.modAdcLane_pool (l : Fin 8) (f : AdcLane → AdcLane) : (s.modAdcLane l f).pool = s.pool := rfl
@[simp] theorem State.modAdcLane_cwCount (l : Fin 8) (f : AdcLane → AdcLane) : (s.modAdcLane l f).cwCount = s.cwCount := rfl
@[simp] theorem State.modAdcLane_link (l : Fin 8) (f : AdcLane → AdcLane) : (s.modAdcLane l f).link = s.link := rfl
@[simp] theorem State.modAdcLane_ds (l : Fin 8) (f : AdcLane → AdcLane) : (s.modAdcLane l f).ds = s.ds := rfl
@[simp] theorem State.modAdcLane_hostLane (l : Fin 8) (f : AdcLane → AdcLane) : (s.modAdcLane l f).hostLane = s.hostLane := rfl
@[simp] theorem State.modAdcLane_hostInst (l : Fin 8) (f : AdcLane → AdcLane) : (s.modAdcLane l f).hostInst = s.hostInst := rfl
@[simp] theorem State.modAdcLane_hostSkew (l : Fin 8) (f : AdcLane → AdcLane) : (s.modAdcLane l f).hostSkew = s.hostSkew := rfl
@[simp] theorem State.modAdcLane_port (l : Fin 8) (f : AdcLane → AdcLane) : (s.modAdcLane l f).port = s.port := rfl
@[simp] theorem State.modAdcLane_srch (l : Fin 8) (f : AdcLane → AdcLane) : (s.modAdcLane l f).srch = s.srch := rfl
@[simp] theorem State.modAdcLane_test (l : Fin 8) (f : AdcLane → AdcLane) : (s.modAdcLane l f).test = s.test := rfl
@[simp] theorem State.modAdcLane_service (l : Fin 8) (f : AdcLane → AdcLane) : (s.modAdcLane l f).service = s.service := rfl
@[simp] theorem State.modAdcLane_fabric (l : Fin 8) (f : AdcLane → AdcLane) : (s.modAdcLane l f).fabric = s.fabric := rfl
@[simp] theorem State.modAdcLane_avs (l : Fin 8) (f : AdcLane → AdcLane) : (s.modAdcLane l f).avs = s.avs := rfl
@[simp] theorem State.modAdcLane_therm (l : Fin 8) (f : AdcLane → AdcLane) : (s.modAdcLane l f).therm = s.therm := rfl
@[simp] theorem State.modAdcLane_start (l : Fin 8) (f : AdcLane → AdcLane) : (s.modAdcLane l f).start = s.start := rfl
@[simp] theorem State.modAdcLane_tap (l : Fin 8) (f : AdcLane → AdcLane) : (s.modAdcLane l f).tap = s.tap := rfl
@[simp] theorem State.modAdcLane_mem (l : Fin 8) (f : AdcLane → AdcLane) : (s.modAdcLane l f).mem = s.mem := rfl
@[simp] theorem State.modAdcLane_capLost (l : Fin 8) (f : AdcLane → AdcLane) : (s.modAdcLane l f).capLost = s.capLost := rfl
@[simp] theorem State.modAdcLane_cap (l : Fin 8) (f : AdcLane → AdcLane) : (s.modAdcLane l f).cap = s.cap := rfl
@[simp] theorem State.modAdcLane_fuse (l : Fin 8) (f : AdcLane → AdcLane) : (s.modAdcLane l f).fuse = s.fuse := rfl
@[simp] theorem State.modAdcLane_analog (l : Fin 8) (f : AdcLane → AdcLane) : (s.modAdcLane l f).analog = s.analog := rfl
@[simp] theorem State.modAdcLane_flash (l : Fin 8) (f : AdcLane → AdcLane) : (s.modAdcLane l f).flash = s.flash := rfl
@[simp] theorem State.modAdcLane_upd (l : Fin 8) (f : AdcLane → AdcLane) : (s.modAdcLane l f).upd = s.upd := rfl
@[simp] theorem State.modAdcLane_freeCount (l : Fin 8) (f : AdcLane → AdcLane) : (s.modAdcLane l f).freeCount = s.freeCount := rfl
@[simp] theorem State.modAdcLane_pending (l : Fin 8) (f : AdcLane → AdcLane) : (s.modAdcLane l f).pending = s.pending := rfl
@[simp] theorem State.modAdcLane_reg (l : Fin 8) (f : AdcLane → AdcLane) (jx js : Nat) : (s.modAdcLane l f).reg jx js = s.reg jx js := rfl
@[simp] theorem State.modAdcLane_nat (l : Fin 8) (f : AdcLane → AdcLane) (jx js : Nat) : (s.modAdcLane l f).nat jx js = s.nat jx js := rfl
@[simp] theorem State.modAdcLane_flag (l : Fin 8) (f : AdcLane → AdcLane) (jx js : Nat) : (s.modAdcLane l f).flag jx js = s.flag jx js := rfl
@[simp] theorem State.modAdcLane_blob (l : Fin 8) (f : AdcLane → AdcLane) (jx js : Nat) : (s.modAdcLane l f).blob jx js = s.blob jx js := rfl

/-! ## modSynth -/

@[simp] theorem State.modSynth_regs (h : Fin 2) (f : RxSynth → RxSynth) : (s.modSynth h f).regs = s.regs := rfl
@[simp] theorem State.modSynth_blobs (h : Fin 2) (f : RxSynth → RxSynth) : (s.modSynth h f).blobs = s.blobs := rfl
@[simp] theorem State.modSynth_time (h : Fin 2) (f : RxSynth → RxSynth) : (s.modSynth h f).time = s.time := rfl
@[simp] theorem State.modSynth_mmp (h : Fin 2) (f : RxSynth → RxSynth) : (s.modSynth h f).mmp = s.mmp := rfl
@[simp] theorem State.modSynth_lookout (h : Fin 2) (f : RxSynth → RxSynth) : (s.modSynth h f).lookout = s.lookout := rfl
@[simp] theorem State.modSynth_doms (h : Fin 2) (f : RxSynth → RxSynth) : (s.modSynth h f).doms = s.doms := rfl
@[simp] theorem State.modSynth_partEA (h : Fin 2) (f : RxSynth → RxSynth) : (s.modSynth h f).partEA = s.partEA := rfl
@[simp] theorem State.modSynth_gradeI (h : Fin 2) (f : RxSynth → RxSynth) : (s.modSynth h f).gradeI = s.gradeI := rfl
@[simp] theorem State.modSynth_breakout (h : Fin 2) (f : RxSynth → RxSynth) : (s.modSynth h f).breakout = s.breakout := rfl
@[simp] theorem State.modSynth_breakoutRun (h : Fin 2) (f : RxSynth → RxSynth) : (s.modSynth h f).breakoutRun = s.breakoutRun := rfl
@[simp] theorem State.modSynth_savedRegs (h : Fin 2) (f : RxSynth → RxSynth) : (s.modSynth h f).savedRegs = s.savedRegs := rfl
@[simp] theorem State.modSynth_savedBlobs (h : Fin 2) (f : RxSynth → RxSynth) : (s.modSynth h f).savedBlobs = s.savedBlobs := rfl
@[simp] theorem State.modSynth_hk (h : Fin 2) (f : RxSynth → RxSynth) : (s.modSynth h f).hk = s.hk := rfl
@[simp] theorem State.modSynth_tx (h : Fin 2) (f : RxSynth → RxSynth) : (s.modSynth h f).tx = s.tx := rfl
@[simp] theorem State.modSynth_adc (h : Fin 2) (f : RxSynth → RxSynth) : (s.modSynth h f).adc = s.adc := rfl
@[simp] theorem State.modSynth_rx (h : Fin 2) (f : RxSynth → RxSynth) : (s.modSynth h f).rx = s.rx := rfl
@[simp] theorem State.modSynth_eng (h : Fin 2) (f : RxSynth → RxSynth) : (s.modSynth h f).eng = s.eng := rfl
@[simp] theorem State.modSynth_outerLane (h : Fin 2) (f : RxSynth → RxSynth) : (s.modSynth h f).outerLane = s.outerLane := rfl
@[simp] theorem State.modSynth_outerPort (h : Fin 2) (f : RxSynth → RxSynth) : (s.modSynth h f).outerPort = s.outerPort := rfl
@[simp] theorem State.modSynth_tic (h : Fin 2) (f : RxSynth → RxSynth) : (s.modSynth h f).tic = s.tic := rfl
@[simp] theorem State.modSynth_pool (h : Fin 2) (f : RxSynth → RxSynth) : (s.modSynth h f).pool = s.pool := rfl
@[simp] theorem State.modSynth_cwCount (h : Fin 2) (f : RxSynth → RxSynth) : (s.modSynth h f).cwCount = s.cwCount := rfl
@[simp] theorem State.modSynth_link (h : Fin 2) (f : RxSynth → RxSynth) : (s.modSynth h f).link = s.link := rfl
@[simp] theorem State.modSynth_ds (h : Fin 2) (f : RxSynth → RxSynth) : (s.modSynth h f).ds = s.ds := rfl
@[simp] theorem State.modSynth_hostLane (h : Fin 2) (f : RxSynth → RxSynth) : (s.modSynth h f).hostLane = s.hostLane := rfl
@[simp] theorem State.modSynth_hostInst (h : Fin 2) (f : RxSynth → RxSynth) : (s.modSynth h f).hostInst = s.hostInst := rfl
@[simp] theorem State.modSynth_hostSkew (h : Fin 2) (f : RxSynth → RxSynth) : (s.modSynth h f).hostSkew = s.hostSkew := rfl
@[simp] theorem State.modSynth_port (h : Fin 2) (f : RxSynth → RxSynth) : (s.modSynth h f).port = s.port := rfl
@[simp] theorem State.modSynth_srch (h : Fin 2) (f : RxSynth → RxSynth) : (s.modSynth h f).srch = s.srch := rfl
@[simp] theorem State.modSynth_test (h : Fin 2) (f : RxSynth → RxSynth) : (s.modSynth h f).test = s.test := rfl
@[simp] theorem State.modSynth_service (h : Fin 2) (f : RxSynth → RxSynth) : (s.modSynth h f).service = s.service := rfl
@[simp] theorem State.modSynth_fabric (h : Fin 2) (f : RxSynth → RxSynth) : (s.modSynth h f).fabric = s.fabric := rfl
@[simp] theorem State.modSynth_avs (h : Fin 2) (f : RxSynth → RxSynth) : (s.modSynth h f).avs = s.avs := rfl
@[simp] theorem State.modSynth_therm (h : Fin 2) (f : RxSynth → RxSynth) : (s.modSynth h f).therm = s.therm := rfl
@[simp] theorem State.modSynth_start (h : Fin 2) (f : RxSynth → RxSynth) : (s.modSynth h f).start = s.start := rfl
@[simp] theorem State.modSynth_tap (h : Fin 2) (f : RxSynth → RxSynth) : (s.modSynth h f).tap = s.tap := rfl
@[simp] theorem State.modSynth_mem (h : Fin 2) (f : RxSynth → RxSynth) : (s.modSynth h f).mem = s.mem := rfl
@[simp] theorem State.modSynth_capLost (h : Fin 2) (f : RxSynth → RxSynth) : (s.modSynth h f).capLost = s.capLost := rfl
@[simp] theorem State.modSynth_cap (h : Fin 2) (f : RxSynth → RxSynth) : (s.modSynth h f).cap = s.cap := rfl
@[simp] theorem State.modSynth_fuse (h : Fin 2) (f : RxSynth → RxSynth) : (s.modSynth h f).fuse = s.fuse := rfl
@[simp] theorem State.modSynth_analog (h : Fin 2) (f : RxSynth → RxSynth) : (s.modSynth h f).analog = s.analog := rfl
@[simp] theorem State.modSynth_flash (h : Fin 2) (f : RxSynth → RxSynth) : (s.modSynth h f).flash = s.flash := rfl
@[simp] theorem State.modSynth_upd (h : Fin 2) (f : RxSynth → RxSynth) : (s.modSynth h f).upd = s.upd := rfl
@[simp] theorem State.modSynth_freeCount (h : Fin 2) (f : RxSynth → RxSynth) : (s.modSynth h f).freeCount = s.freeCount := rfl
@[simp] theorem State.modSynth_pending (h : Fin 2) (f : RxSynth → RxSynth) : (s.modSynth h f).pending = s.pending := rfl
@[simp] theorem State.modSynth_reg (h : Fin 2) (f : RxSynth → RxSynth) (jx js : Nat) : (s.modSynth h f).reg jx js = s.reg jx js := rfl
@[simp] theorem State.modSynth_nat (h : Fin 2) (f : RxSynth → RxSynth) (jx js : Nat) : (s.modSynth h f).nat jx js = s.nat jx js := rfl
@[simp] theorem State.modSynth_flag (h : Fin 2) (f : RxSynth → RxSynth) (jx js : Nat) : (s.modSynth h f).flag jx js = s.flag jx js := rfl
@[simp] theorem State.modSynth_blob (h : Fin 2) (f : RxSynth → RxSynth) (jx js : Nat) : (s.modSynth h f).blob jx js = s.blob jx js := rfl

/-! ## modRx -/

@[simp] theorem State.modRx_regs (l : Fin 8) (f : RxLane → RxLane) : (s.modRx l f).regs = s.regs := rfl
@[simp] theorem State.modRx_blobs (l : Fin 8) (f : RxLane → RxLane) : (s.modRx l f).blobs = s.blobs := rfl
@[simp] theorem State.modRx_time (l : Fin 8) (f : RxLane → RxLane) : (s.modRx l f).time = s.time := rfl
@[simp] theorem State.modRx_mmp (l : Fin 8) (f : RxLane → RxLane) : (s.modRx l f).mmp = s.mmp := rfl
@[simp] theorem State.modRx_lookout (l : Fin 8) (f : RxLane → RxLane) : (s.modRx l f).lookout = s.lookout := rfl
@[simp] theorem State.modRx_doms (l : Fin 8) (f : RxLane → RxLane) : (s.modRx l f).doms = s.doms := rfl
@[simp] theorem State.modRx_partEA (l : Fin 8) (f : RxLane → RxLane) : (s.modRx l f).partEA = s.partEA := rfl
@[simp] theorem State.modRx_gradeI (l : Fin 8) (f : RxLane → RxLane) : (s.modRx l f).gradeI = s.gradeI := rfl
@[simp] theorem State.modRx_breakout (l : Fin 8) (f : RxLane → RxLane) : (s.modRx l f).breakout = s.breakout := rfl
@[simp] theorem State.modRx_breakoutRun (l : Fin 8) (f : RxLane → RxLane) : (s.modRx l f).breakoutRun = s.breakoutRun := rfl
@[simp] theorem State.modRx_savedRegs (l : Fin 8) (f : RxLane → RxLane) : (s.modRx l f).savedRegs = s.savedRegs := rfl
@[simp] theorem State.modRx_savedBlobs (l : Fin 8) (f : RxLane → RxLane) : (s.modRx l f).savedBlobs = s.savedBlobs := rfl
@[simp] theorem State.modRx_hk (l : Fin 8) (f : RxLane → RxLane) : (s.modRx l f).hk = s.hk := rfl
@[simp] theorem State.modRx_tx (l : Fin 8) (f : RxLane → RxLane) : (s.modRx l f).tx = s.tx := rfl
@[simp] theorem State.modRx_adc (l : Fin 8) (f : RxLane → RxLane) : (s.modRx l f).adc = s.adc := rfl
@[simp] theorem State.modRx_rxsynth (l : Fin 8) (f : RxLane → RxLane) : (s.modRx l f).rxsynth = s.rxsynth := rfl
@[simp] theorem State.modRx_eng (l : Fin 8) (f : RxLane → RxLane) : (s.modRx l f).eng = s.eng := rfl
@[simp] theorem State.modRx_outerLane (l : Fin 8) (f : RxLane → RxLane) : (s.modRx l f).outerLane = s.outerLane := rfl
@[simp] theorem State.modRx_outerPort (l : Fin 8) (f : RxLane → RxLane) : (s.modRx l f).outerPort = s.outerPort := rfl
@[simp] theorem State.modRx_tic (l : Fin 8) (f : RxLane → RxLane) : (s.modRx l f).tic = s.tic := rfl
@[simp] theorem State.modRx_pool (l : Fin 8) (f : RxLane → RxLane) : (s.modRx l f).pool = s.pool := rfl
@[simp] theorem State.modRx_cwCount (l : Fin 8) (f : RxLane → RxLane) : (s.modRx l f).cwCount = s.cwCount := rfl
@[simp] theorem State.modRx_link (l : Fin 8) (f : RxLane → RxLane) : (s.modRx l f).link = s.link := rfl
@[simp] theorem State.modRx_ds (l : Fin 8) (f : RxLane → RxLane) : (s.modRx l f).ds = s.ds := rfl
@[simp] theorem State.modRx_hostLane (l : Fin 8) (f : RxLane → RxLane) : (s.modRx l f).hostLane = s.hostLane := rfl
@[simp] theorem State.modRx_hostInst (l : Fin 8) (f : RxLane → RxLane) : (s.modRx l f).hostInst = s.hostInst := rfl
@[simp] theorem State.modRx_hostSkew (l : Fin 8) (f : RxLane → RxLane) : (s.modRx l f).hostSkew = s.hostSkew := rfl
@[simp] theorem State.modRx_port (l : Fin 8) (f : RxLane → RxLane) : (s.modRx l f).port = s.port := rfl
@[simp] theorem State.modRx_srch (l : Fin 8) (f : RxLane → RxLane) : (s.modRx l f).srch = s.srch := rfl
@[simp] theorem State.modRx_test (l : Fin 8) (f : RxLane → RxLane) : (s.modRx l f).test = s.test := rfl
@[simp] theorem State.modRx_service (l : Fin 8) (f : RxLane → RxLane) : (s.modRx l f).service = s.service := rfl
@[simp] theorem State.modRx_fabric (l : Fin 8) (f : RxLane → RxLane) : (s.modRx l f).fabric = s.fabric := rfl
@[simp] theorem State.modRx_avs (l : Fin 8) (f : RxLane → RxLane) : (s.modRx l f).avs = s.avs := rfl
@[simp] theorem State.modRx_therm (l : Fin 8) (f : RxLane → RxLane) : (s.modRx l f).therm = s.therm := rfl
@[simp] theorem State.modRx_start (l : Fin 8) (f : RxLane → RxLane) : (s.modRx l f).start = s.start := rfl
@[simp] theorem State.modRx_tap (l : Fin 8) (f : RxLane → RxLane) : (s.modRx l f).tap = s.tap := rfl
@[simp] theorem State.modRx_mem (l : Fin 8) (f : RxLane → RxLane) : (s.modRx l f).mem = s.mem := rfl
@[simp] theorem State.modRx_capLost (l : Fin 8) (f : RxLane → RxLane) : (s.modRx l f).capLost = s.capLost := rfl
@[simp] theorem State.modRx_cap (l : Fin 8) (f : RxLane → RxLane) : (s.modRx l f).cap = s.cap := rfl
@[simp] theorem State.modRx_fuse (l : Fin 8) (f : RxLane → RxLane) : (s.modRx l f).fuse = s.fuse := rfl
@[simp] theorem State.modRx_analog (l : Fin 8) (f : RxLane → RxLane) : (s.modRx l f).analog = s.analog := rfl
@[simp] theorem State.modRx_flash (l : Fin 8) (f : RxLane → RxLane) : (s.modRx l f).flash = s.flash := rfl
@[simp] theorem State.modRx_upd (l : Fin 8) (f : RxLane → RxLane) : (s.modRx l f).upd = s.upd := rfl
@[simp] theorem State.modRx_freeCount (l : Fin 8) (f : RxLane → RxLane) : (s.modRx l f).freeCount = s.freeCount := rfl
@[simp] theorem State.modRx_pending (l : Fin 8) (f : RxLane → RxLane) : (s.modRx l f).pending = s.pending := rfl
@[simp] theorem State.modRx_reg (l : Fin 8) (f : RxLane → RxLane) (jx js : Nat) : (s.modRx l f).reg jx js = s.reg jx js := rfl
@[simp] theorem State.modRx_nat (l : Fin 8) (f : RxLane → RxLane) (jx js : Nat) : (s.modRx l f).nat jx js = s.nat jx js := rfl
@[simp] theorem State.modRx_flag (l : Fin 8) (f : RxLane → RxLane) (jx js : Nat) : (s.modRx l f).flag jx js = s.flag jx js := rfl
@[simp] theorem State.modRx_blob (l : Fin 8) (f : RxLane → RxLane) (jx js : Nat) : (s.modRx l f).blob jx js = s.blob jx js := rfl

/-! ## modTic -/

@[simp] theorem State.modTic_regs (l : Fin 8) (f : TicLane → TicLane) : (s.modTic l f).regs = s.regs := rfl
@[simp] theorem State.modTic_blobs (l : Fin 8) (f : TicLane → TicLane) : (s.modTic l f).blobs = s.blobs := rfl
@[simp] theorem State.modTic_time (l : Fin 8) (f : TicLane → TicLane) : (s.modTic l f).time = s.time := rfl
@[simp] theorem State.modTic_mmp (l : Fin 8) (f : TicLane → TicLane) : (s.modTic l f).mmp = s.mmp := rfl
@[simp] theorem State.modTic_lookout (l : Fin 8) (f : TicLane → TicLane) : (s.modTic l f).lookout = s.lookout := rfl
@[simp] theorem State.modTic_doms (l : Fin 8) (f : TicLane → TicLane) : (s.modTic l f).doms = s.doms := rfl
@[simp] theorem State.modTic_partEA (l : Fin 8) (f : TicLane → TicLane) : (s.modTic l f).partEA = s.partEA := rfl
@[simp] theorem State.modTic_gradeI (l : Fin 8) (f : TicLane → TicLane) : (s.modTic l f).gradeI = s.gradeI := rfl
@[simp] theorem State.modTic_breakout (l : Fin 8) (f : TicLane → TicLane) : (s.modTic l f).breakout = s.breakout := rfl
@[simp] theorem State.modTic_breakoutRun (l : Fin 8) (f : TicLane → TicLane) : (s.modTic l f).breakoutRun = s.breakoutRun := rfl
@[simp] theorem State.modTic_savedRegs (l : Fin 8) (f : TicLane → TicLane) : (s.modTic l f).savedRegs = s.savedRegs := rfl
@[simp] theorem State.modTic_savedBlobs (l : Fin 8) (f : TicLane → TicLane) : (s.modTic l f).savedBlobs = s.savedBlobs := rfl
@[simp] theorem State.modTic_hk (l : Fin 8) (f : TicLane → TicLane) : (s.modTic l f).hk = s.hk := rfl
@[simp] theorem State.modTic_tx (l : Fin 8) (f : TicLane → TicLane) : (s.modTic l f).tx = s.tx := rfl
@[simp] theorem State.modTic_adc (l : Fin 8) (f : TicLane → TicLane) : (s.modTic l f).adc = s.adc := rfl
@[simp] theorem State.modTic_rxsynth (l : Fin 8) (f : TicLane → TicLane) : (s.modTic l f).rxsynth = s.rxsynth := rfl
@[simp] theorem State.modTic_rx (l : Fin 8) (f : TicLane → TicLane) : (s.modTic l f).rx = s.rx := rfl
@[simp] theorem State.modTic_eng (l : Fin 8) (f : TicLane → TicLane) : (s.modTic l f).eng = s.eng := rfl
@[simp] theorem State.modTic_outerLane (l : Fin 8) (f : TicLane → TicLane) : (s.modTic l f).outerLane = s.outerLane := rfl
@[simp] theorem State.modTic_outerPort (l : Fin 8) (f : TicLane → TicLane) : (s.modTic l f).outerPort = s.outerPort := rfl
@[simp] theorem State.modTic_pool (l : Fin 8) (f : TicLane → TicLane) : (s.modTic l f).pool = s.pool := rfl
@[simp] theorem State.modTic_cwCount (l : Fin 8) (f : TicLane → TicLane) : (s.modTic l f).cwCount = s.cwCount := rfl
@[simp] theorem State.modTic_link (l : Fin 8) (f : TicLane → TicLane) : (s.modTic l f).link = s.link := rfl
@[simp] theorem State.modTic_ds (l : Fin 8) (f : TicLane → TicLane) : (s.modTic l f).ds = s.ds := rfl
@[simp] theorem State.modTic_hostLane (l : Fin 8) (f : TicLane → TicLane) : (s.modTic l f).hostLane = s.hostLane := rfl
@[simp] theorem State.modTic_hostInst (l : Fin 8) (f : TicLane → TicLane) : (s.modTic l f).hostInst = s.hostInst := rfl
@[simp] theorem State.modTic_hostSkew (l : Fin 8) (f : TicLane → TicLane) : (s.modTic l f).hostSkew = s.hostSkew := rfl
@[simp] theorem State.modTic_port (l : Fin 8) (f : TicLane → TicLane) : (s.modTic l f).port = s.port := rfl
@[simp] theorem State.modTic_srch (l : Fin 8) (f : TicLane → TicLane) : (s.modTic l f).srch = s.srch := rfl
@[simp] theorem State.modTic_test (l : Fin 8) (f : TicLane → TicLane) : (s.modTic l f).test = s.test := rfl
@[simp] theorem State.modTic_service (l : Fin 8) (f : TicLane → TicLane) : (s.modTic l f).service = s.service := rfl
@[simp] theorem State.modTic_fabric (l : Fin 8) (f : TicLane → TicLane) : (s.modTic l f).fabric = s.fabric := rfl
@[simp] theorem State.modTic_avs (l : Fin 8) (f : TicLane → TicLane) : (s.modTic l f).avs = s.avs := rfl
@[simp] theorem State.modTic_therm (l : Fin 8) (f : TicLane → TicLane) : (s.modTic l f).therm = s.therm := rfl
@[simp] theorem State.modTic_start (l : Fin 8) (f : TicLane → TicLane) : (s.modTic l f).start = s.start := rfl
@[simp] theorem State.modTic_tap (l : Fin 8) (f : TicLane → TicLane) : (s.modTic l f).tap = s.tap := rfl
@[simp] theorem State.modTic_mem (l : Fin 8) (f : TicLane → TicLane) : (s.modTic l f).mem = s.mem := rfl
@[simp] theorem State.modTic_capLost (l : Fin 8) (f : TicLane → TicLane) : (s.modTic l f).capLost = s.capLost := rfl
@[simp] theorem State.modTic_cap (l : Fin 8) (f : TicLane → TicLane) : (s.modTic l f).cap = s.cap := rfl
@[simp] theorem State.modTic_fuse (l : Fin 8) (f : TicLane → TicLane) : (s.modTic l f).fuse = s.fuse := rfl
@[simp] theorem State.modTic_analog (l : Fin 8) (f : TicLane → TicLane) : (s.modTic l f).analog = s.analog := rfl
@[simp] theorem State.modTic_flash (l : Fin 8) (f : TicLane → TicLane) : (s.modTic l f).flash = s.flash := rfl
@[simp] theorem State.modTic_upd (l : Fin 8) (f : TicLane → TicLane) : (s.modTic l f).upd = s.upd := rfl
@[simp] theorem State.modTic_freeCount (l : Fin 8) (f : TicLane → TicLane) : (s.modTic l f).freeCount = s.freeCount := rfl
@[simp] theorem State.modTic_pending (l : Fin 8) (f : TicLane → TicLane) : (s.modTic l f).pending = s.pending := rfl
@[simp] theorem State.modTic_reg (l : Fin 8) (f : TicLane → TicLane) (jx js : Nat) : (s.modTic l f).reg jx js = s.reg jx js := rfl
@[simp] theorem State.modTic_nat (l : Fin 8) (f : TicLane → TicLane) (jx js : Nat) : (s.modTic l f).nat jx js = s.nat jx js := rfl
@[simp] theorem State.modTic_flag (l : Fin 8) (f : TicLane → TicLane) (jx js : Nat) : (s.modTic l f).flag jx js = s.flag jx js := rfl
@[simp] theorem State.modTic_blob (l : Fin 8) (f : TicLane → TicLane) (jx js : Nat) : (s.modTic l f).blob jx js = s.blob jx js := rfl

/-! ## modPool -/

@[simp] theorem State.modPool_regs (h : Fin 2) (f : TicHalf → TicHalf) : (s.modPool h f).regs = s.regs := rfl
@[simp] theorem State.modPool_blobs (h : Fin 2) (f : TicHalf → TicHalf) : (s.modPool h f).blobs = s.blobs := rfl
@[simp] theorem State.modPool_time (h : Fin 2) (f : TicHalf → TicHalf) : (s.modPool h f).time = s.time := rfl
@[simp] theorem State.modPool_mmp (h : Fin 2) (f : TicHalf → TicHalf) : (s.modPool h f).mmp = s.mmp := rfl
@[simp] theorem State.modPool_lookout (h : Fin 2) (f : TicHalf → TicHalf) : (s.modPool h f).lookout = s.lookout := rfl
@[simp] theorem State.modPool_doms (h : Fin 2) (f : TicHalf → TicHalf) : (s.modPool h f).doms = s.doms := rfl
@[simp] theorem State.modPool_partEA (h : Fin 2) (f : TicHalf → TicHalf) : (s.modPool h f).partEA = s.partEA := rfl
@[simp] theorem State.modPool_gradeI (h : Fin 2) (f : TicHalf → TicHalf) : (s.modPool h f).gradeI = s.gradeI := rfl
@[simp] theorem State.modPool_breakout (h : Fin 2) (f : TicHalf → TicHalf) : (s.modPool h f).breakout = s.breakout := rfl
@[simp] theorem State.modPool_breakoutRun (h : Fin 2) (f : TicHalf → TicHalf) : (s.modPool h f).breakoutRun = s.breakoutRun := rfl
@[simp] theorem State.modPool_savedRegs (h : Fin 2) (f : TicHalf → TicHalf) : (s.modPool h f).savedRegs = s.savedRegs := rfl
@[simp] theorem State.modPool_savedBlobs (h : Fin 2) (f : TicHalf → TicHalf) : (s.modPool h f).savedBlobs = s.savedBlobs := rfl
@[simp] theorem State.modPool_hk (h : Fin 2) (f : TicHalf → TicHalf) : (s.modPool h f).hk = s.hk := rfl
@[simp] theorem State.modPool_tx (h : Fin 2) (f : TicHalf → TicHalf) : (s.modPool h f).tx = s.tx := rfl
@[simp] theorem State.modPool_adc (h : Fin 2) (f : TicHalf → TicHalf) : (s.modPool h f).adc = s.adc := rfl
@[simp] theorem State.modPool_rxsynth (h : Fin 2) (f : TicHalf → TicHalf) : (s.modPool h f).rxsynth = s.rxsynth := rfl
@[simp] theorem State.modPool_rx (h : Fin 2) (f : TicHalf → TicHalf) : (s.modPool h f).rx = s.rx := rfl
@[simp] theorem State.modPool_eng (h : Fin 2) (f : TicHalf → TicHalf) : (s.modPool h f).eng = s.eng := rfl
@[simp] theorem State.modPool_outerLane (h : Fin 2) (f : TicHalf → TicHalf) : (s.modPool h f).outerLane = s.outerLane := rfl
@[simp] theorem State.modPool_outerPort (h : Fin 2) (f : TicHalf → TicHalf) : (s.modPool h f).outerPort = s.outerPort := rfl
@[simp] theorem State.modPool_tic (h : Fin 2) (f : TicHalf → TicHalf) : (s.modPool h f).tic = s.tic := rfl
@[simp] theorem State.modPool_cwCount (h : Fin 2) (f : TicHalf → TicHalf) : (s.modPool h f).cwCount = s.cwCount := rfl
@[simp] theorem State.modPool_link (h : Fin 2) (f : TicHalf → TicHalf) : (s.modPool h f).link = s.link := rfl
@[simp] theorem State.modPool_ds (h : Fin 2) (f : TicHalf → TicHalf) : (s.modPool h f).ds = s.ds := rfl
@[simp] theorem State.modPool_hostLane (h : Fin 2) (f : TicHalf → TicHalf) : (s.modPool h f).hostLane = s.hostLane := rfl
@[simp] theorem State.modPool_hostInst (h : Fin 2) (f : TicHalf → TicHalf) : (s.modPool h f).hostInst = s.hostInst := rfl
@[simp] theorem State.modPool_hostSkew (h : Fin 2) (f : TicHalf → TicHalf) : (s.modPool h f).hostSkew = s.hostSkew := rfl
@[simp] theorem State.modPool_port (h : Fin 2) (f : TicHalf → TicHalf) : (s.modPool h f).port = s.port := rfl
@[simp] theorem State.modPool_srch (h : Fin 2) (f : TicHalf → TicHalf) : (s.modPool h f).srch = s.srch := rfl
@[simp] theorem State.modPool_test (h : Fin 2) (f : TicHalf → TicHalf) : (s.modPool h f).test = s.test := rfl
@[simp] theorem State.modPool_service (h : Fin 2) (f : TicHalf → TicHalf) : (s.modPool h f).service = s.service := rfl
@[simp] theorem State.modPool_fabric (h : Fin 2) (f : TicHalf → TicHalf) : (s.modPool h f).fabric = s.fabric := rfl
@[simp] theorem State.modPool_avs (h : Fin 2) (f : TicHalf → TicHalf) : (s.modPool h f).avs = s.avs := rfl
@[simp] theorem State.modPool_therm (h : Fin 2) (f : TicHalf → TicHalf) : (s.modPool h f).therm = s.therm := rfl
@[simp] theorem State.modPool_start (h : Fin 2) (f : TicHalf → TicHalf) : (s.modPool h f).start = s.start := rfl
@[simp] theorem State.modPool_tap (h : Fin 2) (f : TicHalf → TicHalf) : (s.modPool h f).tap = s.tap := rfl
@[simp] theorem State.modPool_mem (h : Fin 2) (f : TicHalf → TicHalf) : (s.modPool h f).mem = s.mem := rfl
@[simp] theorem State.modPool_capLost (h : Fin 2) (f : TicHalf → TicHalf) : (s.modPool h f).capLost = s.capLost := rfl
@[simp] theorem State.modPool_cap (h : Fin 2) (f : TicHalf → TicHalf) : (s.modPool h f).cap = s.cap := rfl
@[simp] theorem State.modPool_fuse (h : Fin 2) (f : TicHalf → TicHalf) : (s.modPool h f).fuse = s.fuse := rfl
@[simp] theorem State.modPool_analog (h : Fin 2) (f : TicHalf → TicHalf) : (s.modPool h f).analog = s.analog := rfl
@[simp] theorem State.modPool_flash (h : Fin 2) (f : TicHalf → TicHalf) : (s.modPool h f).flash = s.flash := rfl
@[simp] theorem State.modPool_upd (h : Fin 2) (f : TicHalf → TicHalf) : (s.modPool h f).upd = s.upd := rfl
@[simp] theorem State.modPool_freeCount (h : Fin 2) (f : TicHalf → TicHalf) : (s.modPool h f).freeCount = s.freeCount := rfl
@[simp] theorem State.modPool_pending (h : Fin 2) (f : TicHalf → TicHalf) : (s.modPool h f).pending = s.pending := rfl
@[simp] theorem State.modPool_reg (h : Fin 2) (f : TicHalf → TicHalf) (jx js : Nat) : (s.modPool h f).reg jx js = s.reg jx js := rfl
@[simp] theorem State.modPool_nat (h : Fin 2) (f : TicHalf → TicHalf) (jx js : Nat) : (s.modPool h f).nat jx js = s.nat jx js := rfl
@[simp] theorem State.modPool_flag (h : Fin 2) (f : TicHalf → TicHalf) (jx js : Nat) : (s.modPool h f).flag jx js = s.flag jx js := rfl
@[simp] theorem State.modPool_blob (h : Fin 2) (f : TicHalf → TicHalf) (jx js : Nat) : (s.modPool h f).blob jx js = s.blob jx js := rfl

/-! ## modOuterLane -/

@[simp] theorem State.modOuterLane_regs (l : Fin 8) (f : OuterLane → OuterLane) : (s.modOuterLane l f).regs = s.regs := rfl
@[simp] theorem State.modOuterLane_blobs (l : Fin 8) (f : OuterLane → OuterLane) : (s.modOuterLane l f).blobs = s.blobs := rfl
@[simp] theorem State.modOuterLane_time (l : Fin 8) (f : OuterLane → OuterLane) : (s.modOuterLane l f).time = s.time := rfl
@[simp] theorem State.modOuterLane_mmp (l : Fin 8) (f : OuterLane → OuterLane) : (s.modOuterLane l f).mmp = s.mmp := rfl
@[simp] theorem State.modOuterLane_lookout (l : Fin 8) (f : OuterLane → OuterLane) : (s.modOuterLane l f).lookout = s.lookout := rfl
@[simp] theorem State.modOuterLane_doms (l : Fin 8) (f : OuterLane → OuterLane) : (s.modOuterLane l f).doms = s.doms := rfl
@[simp] theorem State.modOuterLane_partEA (l : Fin 8) (f : OuterLane → OuterLane) : (s.modOuterLane l f).partEA = s.partEA := rfl
@[simp] theorem State.modOuterLane_gradeI (l : Fin 8) (f : OuterLane → OuterLane) : (s.modOuterLane l f).gradeI = s.gradeI := rfl
@[simp] theorem State.modOuterLane_breakout (l : Fin 8) (f : OuterLane → OuterLane) : (s.modOuterLane l f).breakout = s.breakout := rfl
@[simp] theorem State.modOuterLane_breakoutRun (l : Fin 8) (f : OuterLane → OuterLane) : (s.modOuterLane l f).breakoutRun = s.breakoutRun := rfl
@[simp] theorem State.modOuterLane_savedRegs (l : Fin 8) (f : OuterLane → OuterLane) : (s.modOuterLane l f).savedRegs = s.savedRegs := rfl
@[simp] theorem State.modOuterLane_savedBlobs (l : Fin 8) (f : OuterLane → OuterLane) : (s.modOuterLane l f).savedBlobs = s.savedBlobs := rfl
@[simp] theorem State.modOuterLane_hk (l : Fin 8) (f : OuterLane → OuterLane) : (s.modOuterLane l f).hk = s.hk := rfl
@[simp] theorem State.modOuterLane_tx (l : Fin 8) (f : OuterLane → OuterLane) : (s.modOuterLane l f).tx = s.tx := rfl
@[simp] theorem State.modOuterLane_adc (l : Fin 8) (f : OuterLane → OuterLane) : (s.modOuterLane l f).adc = s.adc := rfl
@[simp] theorem State.modOuterLane_rxsynth (l : Fin 8) (f : OuterLane → OuterLane) : (s.modOuterLane l f).rxsynth = s.rxsynth := rfl
@[simp] theorem State.modOuterLane_rx (l : Fin 8) (f : OuterLane → OuterLane) : (s.modOuterLane l f).rx = s.rx := rfl
@[simp] theorem State.modOuterLane_eng (l : Fin 8) (f : OuterLane → OuterLane) : (s.modOuterLane l f).eng = s.eng := rfl
@[simp] theorem State.modOuterLane_outerPort (l : Fin 8) (f : OuterLane → OuterLane) : (s.modOuterLane l f).outerPort = s.outerPort := rfl
@[simp] theorem State.modOuterLane_tic (l : Fin 8) (f : OuterLane → OuterLane) : (s.modOuterLane l f).tic = s.tic := rfl
@[simp] theorem State.modOuterLane_pool (l : Fin 8) (f : OuterLane → OuterLane) : (s.modOuterLane l f).pool = s.pool := rfl
@[simp] theorem State.modOuterLane_cwCount (l : Fin 8) (f : OuterLane → OuterLane) : (s.modOuterLane l f).cwCount = s.cwCount := rfl
@[simp] theorem State.modOuterLane_link (l : Fin 8) (f : OuterLane → OuterLane) : (s.modOuterLane l f).link = s.link := rfl
@[simp] theorem State.modOuterLane_ds (l : Fin 8) (f : OuterLane → OuterLane) : (s.modOuterLane l f).ds = s.ds := rfl
@[simp] theorem State.modOuterLane_hostLane (l : Fin 8) (f : OuterLane → OuterLane) : (s.modOuterLane l f).hostLane = s.hostLane := rfl
@[simp] theorem State.modOuterLane_hostInst (l : Fin 8) (f : OuterLane → OuterLane) : (s.modOuterLane l f).hostInst = s.hostInst := rfl
@[simp] theorem State.modOuterLane_hostSkew (l : Fin 8) (f : OuterLane → OuterLane) : (s.modOuterLane l f).hostSkew = s.hostSkew := rfl
@[simp] theorem State.modOuterLane_port (l : Fin 8) (f : OuterLane → OuterLane) : (s.modOuterLane l f).port = s.port := rfl
@[simp] theorem State.modOuterLane_srch (l : Fin 8) (f : OuterLane → OuterLane) : (s.modOuterLane l f).srch = s.srch := rfl
@[simp] theorem State.modOuterLane_test (l : Fin 8) (f : OuterLane → OuterLane) : (s.modOuterLane l f).test = s.test := rfl
@[simp] theorem State.modOuterLane_service (l : Fin 8) (f : OuterLane → OuterLane) : (s.modOuterLane l f).service = s.service := rfl
@[simp] theorem State.modOuterLane_fabric (l : Fin 8) (f : OuterLane → OuterLane) : (s.modOuterLane l f).fabric = s.fabric := rfl
@[simp] theorem State.modOuterLane_avs (l : Fin 8) (f : OuterLane → OuterLane) : (s.modOuterLane l f).avs = s.avs := rfl
@[simp] theorem State.modOuterLane_therm (l : Fin 8) (f : OuterLane → OuterLane) : (s.modOuterLane l f).therm = s.therm := rfl
@[simp] theorem State.modOuterLane_start (l : Fin 8) (f : OuterLane → OuterLane) : (s.modOuterLane l f).start = s.start := rfl
@[simp] theorem State.modOuterLane_tap (l : Fin 8) (f : OuterLane → OuterLane) : (s.modOuterLane l f).tap = s.tap := rfl
@[simp] theorem State.modOuterLane_mem (l : Fin 8) (f : OuterLane → OuterLane) : (s.modOuterLane l f).mem = s.mem := rfl
@[simp] theorem State.modOuterLane_capLost (l : Fin 8) (f : OuterLane → OuterLane) : (s.modOuterLane l f).capLost = s.capLost := rfl
@[simp] theorem State.modOuterLane_cap (l : Fin 8) (f : OuterLane → OuterLane) : (s.modOuterLane l f).cap = s.cap := rfl
@[simp] theorem State.modOuterLane_fuse (l : Fin 8) (f : OuterLane → OuterLane) : (s.modOuterLane l f).fuse = s.fuse := rfl
@[simp] theorem State.modOuterLane_analog (l : Fin 8) (f : OuterLane → OuterLane) : (s.modOuterLane l f).analog = s.analog := rfl
@[simp] theorem State.modOuterLane_flash (l : Fin 8) (f : OuterLane → OuterLane) : (s.modOuterLane l f).flash = s.flash := rfl
@[simp] theorem State.modOuterLane_upd (l : Fin 8) (f : OuterLane → OuterLane) : (s.modOuterLane l f).upd = s.upd := rfl
@[simp] theorem State.modOuterLane_freeCount (l : Fin 8) (f : OuterLane → OuterLane) : (s.modOuterLane l f).freeCount = s.freeCount := rfl
@[simp] theorem State.modOuterLane_pending (l : Fin 8) (f : OuterLane → OuterLane) : (s.modOuterLane l f).pending = s.pending := rfl
@[simp] theorem State.modOuterLane_reg (l : Fin 8) (f : OuterLane → OuterLane) (jx js : Nat) : (s.modOuterLane l f).reg jx js = s.reg jx js := rfl
@[simp] theorem State.modOuterLane_nat (l : Fin 8) (f : OuterLane → OuterLane) (jx js : Nat) : (s.modOuterLane l f).nat jx js = s.nat jx js := rfl
@[simp] theorem State.modOuterLane_flag (l : Fin 8) (f : OuterLane → OuterLane) (jx js : Nat) : (s.modOuterLane l f).flag jx js = s.flag jx js := rfl
@[simp] theorem State.modOuterLane_blob (l : Fin 8) (f : OuterLane → OuterLane) (jx js : Nat) : (s.modOuterLane l f).blob jx js = s.blob jx js := rfl

/-! ## modOuterPort -/

@[simp] theorem State.modOuterPort_regs (p : Fin 8) (f : OuterPort → OuterPort) : (s.modOuterPort p f).regs = s.regs := rfl
@[simp] theorem State.modOuterPort_blobs (p : Fin 8) (f : OuterPort → OuterPort) : (s.modOuterPort p f).blobs = s.blobs := rfl
@[simp] theorem State.modOuterPort_time (p : Fin 8) (f : OuterPort → OuterPort) : (s.modOuterPort p f).time = s.time := rfl
@[simp] theorem State.modOuterPort_mmp (p : Fin 8) (f : OuterPort → OuterPort) : (s.modOuterPort p f).mmp = s.mmp := rfl
@[simp] theorem State.modOuterPort_lookout (p : Fin 8) (f : OuterPort → OuterPort) : (s.modOuterPort p f).lookout = s.lookout := rfl
@[simp] theorem State.modOuterPort_doms (p : Fin 8) (f : OuterPort → OuterPort) : (s.modOuterPort p f).doms = s.doms := rfl
@[simp] theorem State.modOuterPort_partEA (p : Fin 8) (f : OuterPort → OuterPort) : (s.modOuterPort p f).partEA = s.partEA := rfl
@[simp] theorem State.modOuterPort_gradeI (p : Fin 8) (f : OuterPort → OuterPort) : (s.modOuterPort p f).gradeI = s.gradeI := rfl
@[simp] theorem State.modOuterPort_breakout (p : Fin 8) (f : OuterPort → OuterPort) : (s.modOuterPort p f).breakout = s.breakout := rfl
@[simp] theorem State.modOuterPort_breakoutRun (p : Fin 8) (f : OuterPort → OuterPort) : (s.modOuterPort p f).breakoutRun = s.breakoutRun := rfl
@[simp] theorem State.modOuterPort_savedRegs (p : Fin 8) (f : OuterPort → OuterPort) : (s.modOuterPort p f).savedRegs = s.savedRegs := rfl
@[simp] theorem State.modOuterPort_savedBlobs (p : Fin 8) (f : OuterPort → OuterPort) : (s.modOuterPort p f).savedBlobs = s.savedBlobs := rfl
@[simp] theorem State.modOuterPort_hk (p : Fin 8) (f : OuterPort → OuterPort) : (s.modOuterPort p f).hk = s.hk := rfl
@[simp] theorem State.modOuterPort_tx (p : Fin 8) (f : OuterPort → OuterPort) : (s.modOuterPort p f).tx = s.tx := rfl
@[simp] theorem State.modOuterPort_adc (p : Fin 8) (f : OuterPort → OuterPort) : (s.modOuterPort p f).adc = s.adc := rfl
@[simp] theorem State.modOuterPort_rxsynth (p : Fin 8) (f : OuterPort → OuterPort) : (s.modOuterPort p f).rxsynth = s.rxsynth := rfl
@[simp] theorem State.modOuterPort_rx (p : Fin 8) (f : OuterPort → OuterPort) : (s.modOuterPort p f).rx = s.rx := rfl
@[simp] theorem State.modOuterPort_eng (p : Fin 8) (f : OuterPort → OuterPort) : (s.modOuterPort p f).eng = s.eng := rfl
@[simp] theorem State.modOuterPort_outerLane (p : Fin 8) (f : OuterPort → OuterPort) : (s.modOuterPort p f).outerLane = s.outerLane := rfl
@[simp] theorem State.modOuterPort_tic (p : Fin 8) (f : OuterPort → OuterPort) : (s.modOuterPort p f).tic = s.tic := rfl
@[simp] theorem State.modOuterPort_pool (p : Fin 8) (f : OuterPort → OuterPort) : (s.modOuterPort p f).pool = s.pool := rfl
@[simp] theorem State.modOuterPort_cwCount (p : Fin 8) (f : OuterPort → OuterPort) : (s.modOuterPort p f).cwCount = s.cwCount := rfl
@[simp] theorem State.modOuterPort_link (p : Fin 8) (f : OuterPort → OuterPort) : (s.modOuterPort p f).link = s.link := rfl
@[simp] theorem State.modOuterPort_ds (p : Fin 8) (f : OuterPort → OuterPort) : (s.modOuterPort p f).ds = s.ds := rfl
@[simp] theorem State.modOuterPort_hostLane (p : Fin 8) (f : OuterPort → OuterPort) : (s.modOuterPort p f).hostLane = s.hostLane := rfl
@[simp] theorem State.modOuterPort_hostInst (p : Fin 8) (f : OuterPort → OuterPort) : (s.modOuterPort p f).hostInst = s.hostInst := rfl
@[simp] theorem State.modOuterPort_hostSkew (p : Fin 8) (f : OuterPort → OuterPort) : (s.modOuterPort p f).hostSkew = s.hostSkew := rfl
@[simp] theorem State.modOuterPort_port (p : Fin 8) (f : OuterPort → OuterPort) : (s.modOuterPort p f).port = s.port := rfl
@[simp] theorem State.modOuterPort_srch (p : Fin 8) (f : OuterPort → OuterPort) : (s.modOuterPort p f).srch = s.srch := rfl
@[simp] theorem State.modOuterPort_test (p : Fin 8) (f : OuterPort → OuterPort) : (s.modOuterPort p f).test = s.test := rfl
@[simp] theorem State.modOuterPort_service (p : Fin 8) (f : OuterPort → OuterPort) : (s.modOuterPort p f).service = s.service := rfl
@[simp] theorem State.modOuterPort_fabric (p : Fin 8) (f : OuterPort → OuterPort) : (s.modOuterPort p f).fabric = s.fabric := rfl
@[simp] theorem State.modOuterPort_avs (p : Fin 8) (f : OuterPort → OuterPort) : (s.modOuterPort p f).avs = s.avs := rfl
@[simp] theorem State.modOuterPort_therm (p : Fin 8) (f : OuterPort → OuterPort) : (s.modOuterPort p f).therm = s.therm := rfl
@[simp] theorem State.modOuterPort_start (p : Fin 8) (f : OuterPort → OuterPort) : (s.modOuterPort p f).start = s.start := rfl
@[simp] theorem State.modOuterPort_tap (p : Fin 8) (f : OuterPort → OuterPort) : (s.modOuterPort p f).tap = s.tap := rfl
@[simp] theorem State.modOuterPort_mem (p : Fin 8) (f : OuterPort → OuterPort) : (s.modOuterPort p f).mem = s.mem := rfl
@[simp] theorem State.modOuterPort_capLost (p : Fin 8) (f : OuterPort → OuterPort) : (s.modOuterPort p f).capLost = s.capLost := rfl
@[simp] theorem State.modOuterPort_cap (p : Fin 8) (f : OuterPort → OuterPort) : (s.modOuterPort p f).cap = s.cap := rfl
@[simp] theorem State.modOuterPort_fuse (p : Fin 8) (f : OuterPort → OuterPort) : (s.modOuterPort p f).fuse = s.fuse := rfl
@[simp] theorem State.modOuterPort_analog (p : Fin 8) (f : OuterPort → OuterPort) : (s.modOuterPort p f).analog = s.analog := rfl
@[simp] theorem State.modOuterPort_flash (p : Fin 8) (f : OuterPort → OuterPort) : (s.modOuterPort p f).flash = s.flash := rfl
@[simp] theorem State.modOuterPort_upd (p : Fin 8) (f : OuterPort → OuterPort) : (s.modOuterPort p f).upd = s.upd := rfl
@[simp] theorem State.modOuterPort_freeCount (p : Fin 8) (f : OuterPort → OuterPort) : (s.modOuterPort p f).freeCount = s.freeCount := rfl
@[simp] theorem State.modOuterPort_pending (p : Fin 8) (f : OuterPort → OuterPort) : (s.modOuterPort p f).pending = s.pending := rfl
@[simp] theorem State.modOuterPort_reg (p : Fin 8) (f : OuterPort → OuterPort) (jx js : Nat) : (s.modOuterPort p f).reg jx js = s.reg jx js := rfl
@[simp] theorem State.modOuterPort_nat (p : Fin 8) (f : OuterPort → OuterPort) (jx js : Nat) : (s.modOuterPort p f).nat jx js = s.nat jx js := rfl
@[simp] theorem State.modOuterPort_flag (p : Fin 8) (f : OuterPort → OuterPort) (jx js : Nat) : (s.modOuterPort p f).flag jx js = s.flag jx js := rfl
@[simp] theorem State.modOuterPort_blob (p : Fin 8) (f : OuterPort → OuterPort) (jx js : Nat) : (s.modOuterPort p f).blob jx js = s.blob jx js := rfl

/-! ## modLink -/

@[simp] theorem State.modLink_regs (p : Fin 8) (f : LinkPort → LinkPort) : (s.modLink p f).regs = s.regs := rfl
@[simp] theorem State.modLink_blobs (p : Fin 8) (f : LinkPort → LinkPort) : (s.modLink p f).blobs = s.blobs := rfl
@[simp] theorem State.modLink_time (p : Fin 8) (f : LinkPort → LinkPort) : (s.modLink p f).time = s.time := rfl
@[simp] theorem State.modLink_mmp (p : Fin 8) (f : LinkPort → LinkPort) : (s.modLink p f).mmp = s.mmp := rfl
@[simp] theorem State.modLink_lookout (p : Fin 8) (f : LinkPort → LinkPort) : (s.modLink p f).lookout = s.lookout := rfl
@[simp] theorem State.modLink_doms (p : Fin 8) (f : LinkPort → LinkPort) : (s.modLink p f).doms = s.doms := rfl
@[simp] theorem State.modLink_partEA (p : Fin 8) (f : LinkPort → LinkPort) : (s.modLink p f).partEA = s.partEA := rfl
@[simp] theorem State.modLink_gradeI (p : Fin 8) (f : LinkPort → LinkPort) : (s.modLink p f).gradeI = s.gradeI := rfl
@[simp] theorem State.modLink_breakout (p : Fin 8) (f : LinkPort → LinkPort) : (s.modLink p f).breakout = s.breakout := rfl
@[simp] theorem State.modLink_breakoutRun (p : Fin 8) (f : LinkPort → LinkPort) : (s.modLink p f).breakoutRun = s.breakoutRun := rfl
@[simp] theorem State.modLink_savedRegs (p : Fin 8) (f : LinkPort → LinkPort) : (s.modLink p f).savedRegs = s.savedRegs := rfl
@[simp] theorem State.modLink_savedBlobs (p : Fin 8) (f : LinkPort → LinkPort) : (s.modLink p f).savedBlobs = s.savedBlobs := rfl
@[simp] theorem State.modLink_hk (p : Fin 8) (f : LinkPort → LinkPort) : (s.modLink p f).hk = s.hk := rfl
@[simp] theorem State.modLink_tx (p : Fin 8) (f : LinkPort → LinkPort) : (s.modLink p f).tx = s.tx := rfl
@[simp] theorem State.modLink_adc (p : Fin 8) (f : LinkPort → LinkPort) : (s.modLink p f).adc = s.adc := rfl
@[simp] theorem State.modLink_rxsynth (p : Fin 8) (f : LinkPort → LinkPort) : (s.modLink p f).rxsynth = s.rxsynth := rfl
@[simp] theorem State.modLink_rx (p : Fin 8) (f : LinkPort → LinkPort) : (s.modLink p f).rx = s.rx := rfl
@[simp] theorem State.modLink_eng (p : Fin 8) (f : LinkPort → LinkPort) : (s.modLink p f).eng = s.eng := rfl
@[simp] theorem State.modLink_outerLane (p : Fin 8) (f : LinkPort → LinkPort) : (s.modLink p f).outerLane = s.outerLane := rfl
@[simp] theorem State.modLink_outerPort (p : Fin 8) (f : LinkPort → LinkPort) : (s.modLink p f).outerPort = s.outerPort := rfl
@[simp] theorem State.modLink_tic (p : Fin 8) (f : LinkPort → LinkPort) : (s.modLink p f).tic = s.tic := rfl
@[simp] theorem State.modLink_pool (p : Fin 8) (f : LinkPort → LinkPort) : (s.modLink p f).pool = s.pool := rfl
@[simp] theorem State.modLink_cwCount (p : Fin 8) (f : LinkPort → LinkPort) : (s.modLink p f).cwCount = s.cwCount := rfl
@[simp] theorem State.modLink_ds (p : Fin 8) (f : LinkPort → LinkPort) : (s.modLink p f).ds = s.ds := rfl
@[simp] theorem State.modLink_hostLane (p : Fin 8) (f : LinkPort → LinkPort) : (s.modLink p f).hostLane = s.hostLane := rfl
@[simp] theorem State.modLink_hostInst (p : Fin 8) (f : LinkPort → LinkPort) : (s.modLink p f).hostInst = s.hostInst := rfl
@[simp] theorem State.modLink_hostSkew (p : Fin 8) (f : LinkPort → LinkPort) : (s.modLink p f).hostSkew = s.hostSkew := rfl
@[simp] theorem State.modLink_port (p : Fin 8) (f : LinkPort → LinkPort) : (s.modLink p f).port = s.port := rfl
@[simp] theorem State.modLink_srch (p : Fin 8) (f : LinkPort → LinkPort) : (s.modLink p f).srch = s.srch := rfl
@[simp] theorem State.modLink_test (p : Fin 8) (f : LinkPort → LinkPort) : (s.modLink p f).test = s.test := rfl
@[simp] theorem State.modLink_service (p : Fin 8) (f : LinkPort → LinkPort) : (s.modLink p f).service = s.service := rfl
@[simp] theorem State.modLink_fabric (p : Fin 8) (f : LinkPort → LinkPort) : (s.modLink p f).fabric = s.fabric := rfl
@[simp] theorem State.modLink_avs (p : Fin 8) (f : LinkPort → LinkPort) : (s.modLink p f).avs = s.avs := rfl
@[simp] theorem State.modLink_therm (p : Fin 8) (f : LinkPort → LinkPort) : (s.modLink p f).therm = s.therm := rfl
@[simp] theorem State.modLink_start (p : Fin 8) (f : LinkPort → LinkPort) : (s.modLink p f).start = s.start := rfl
@[simp] theorem State.modLink_tap (p : Fin 8) (f : LinkPort → LinkPort) : (s.modLink p f).tap = s.tap := rfl
@[simp] theorem State.modLink_mem (p : Fin 8) (f : LinkPort → LinkPort) : (s.modLink p f).mem = s.mem := rfl
@[simp] theorem State.modLink_capLost (p : Fin 8) (f : LinkPort → LinkPort) : (s.modLink p f).capLost = s.capLost := rfl
@[simp] theorem State.modLink_cap (p : Fin 8) (f : LinkPort → LinkPort) : (s.modLink p f).cap = s.cap := rfl
@[simp] theorem State.modLink_fuse (p : Fin 8) (f : LinkPort → LinkPort) : (s.modLink p f).fuse = s.fuse := rfl
@[simp] theorem State.modLink_analog (p : Fin 8) (f : LinkPort → LinkPort) : (s.modLink p f).analog = s.analog := rfl
@[simp] theorem State.modLink_flash (p : Fin 8) (f : LinkPort → LinkPort) : (s.modLink p f).flash = s.flash := rfl
@[simp] theorem State.modLink_upd (p : Fin 8) (f : LinkPort → LinkPort) : (s.modLink p f).upd = s.upd := rfl
@[simp] theorem State.modLink_freeCount (p : Fin 8) (f : LinkPort → LinkPort) : (s.modLink p f).freeCount = s.freeCount := rfl
@[simp] theorem State.modLink_pending (p : Fin 8) (f : LinkPort → LinkPort) : (s.modLink p f).pending = s.pending := rfl
@[simp] theorem State.modLink_reg (p : Fin 8) (f : LinkPort → LinkPort) (jx js : Nat) : (s.modLink p f).reg jx js = s.reg jx js := rfl
@[simp] theorem State.modLink_nat (p : Fin 8) (f : LinkPort → LinkPort) (jx js : Nat) : (s.modLink p f).nat jx js = s.nat jx js := rfl
@[simp] theorem State.modLink_flag (p : Fin 8) (f : LinkPort → LinkPort) (jx js : Nat) : (s.modLink p f).flag jx js = s.flag jx js := rfl
@[simp] theorem State.modLink_blob (p : Fin 8) (f : LinkPort → LinkPort) (jx js : Nat) : (s.modLink p f).blob jx js = s.blob jx js := rfl

/-! ## modDs -/

@[simp] theorem State.modDs_regs (f : DeepStore → DeepStore) : (s.modDs f).regs = s.regs := rfl
@[simp] theorem State.modDs_blobs (f : DeepStore → DeepStore) : (s.modDs f).blobs = s.blobs := rfl
@[simp] theorem State.modDs_time (f : DeepStore → DeepStore) : (s.modDs f).time = s.time := rfl
@[simp] theorem State.modDs_mmp (f : DeepStore → DeepStore) : (s.modDs f).mmp = s.mmp := rfl
@[simp] theorem State.modDs_lookout (f : DeepStore → DeepStore) : (s.modDs f).lookout = s.lookout := rfl
@[simp] theorem State.modDs_doms (f : DeepStore → DeepStore) : (s.modDs f).doms = s.doms := rfl
@[simp] theorem State.modDs_partEA (f : DeepStore → DeepStore) : (s.modDs f).partEA = s.partEA := rfl
@[simp] theorem State.modDs_gradeI (f : DeepStore → DeepStore) : (s.modDs f).gradeI = s.gradeI := rfl
@[simp] theorem State.modDs_breakout (f : DeepStore → DeepStore) : (s.modDs f).breakout = s.breakout := rfl
@[simp] theorem State.modDs_breakoutRun (f : DeepStore → DeepStore) : (s.modDs f).breakoutRun = s.breakoutRun := rfl
@[simp] theorem State.modDs_savedRegs (f : DeepStore → DeepStore) : (s.modDs f).savedRegs = s.savedRegs := rfl
@[simp] theorem State.modDs_savedBlobs (f : DeepStore → DeepStore) : (s.modDs f).savedBlobs = s.savedBlobs := rfl
@[simp] theorem State.modDs_hk (f : DeepStore → DeepStore) : (s.modDs f).hk = s.hk := rfl
@[simp] theorem State.modDs_tx (f : DeepStore → DeepStore) : (s.modDs f).tx = s.tx := rfl
@[simp] theorem State.modDs_adc (f : DeepStore → DeepStore) : (s.modDs f).adc = s.adc := rfl
@[simp] theorem State.modDs_rxsynth (f : DeepStore → DeepStore) : (s.modDs f).rxsynth = s.rxsynth := rfl
@[simp] theorem State.modDs_rx (f : DeepStore → DeepStore) : (s.modDs f).rx = s.rx := rfl
@[simp] theorem State.modDs_eng (f : DeepStore → DeepStore) : (s.modDs f).eng = s.eng := rfl
@[simp] theorem State.modDs_outerLane (f : DeepStore → DeepStore) : (s.modDs f).outerLane = s.outerLane := rfl
@[simp] theorem State.modDs_outerPort (f : DeepStore → DeepStore) : (s.modDs f).outerPort = s.outerPort := rfl
@[simp] theorem State.modDs_tic (f : DeepStore → DeepStore) : (s.modDs f).tic = s.tic := rfl
@[simp] theorem State.modDs_pool (f : DeepStore → DeepStore) : (s.modDs f).pool = s.pool := rfl
@[simp] theorem State.modDs_cwCount (f : DeepStore → DeepStore) : (s.modDs f).cwCount = s.cwCount := rfl
@[simp] theorem State.modDs_link (f : DeepStore → DeepStore) : (s.modDs f).link = s.link := rfl
@[simp] theorem State.modDs_hostLane (f : DeepStore → DeepStore) : (s.modDs f).hostLane = s.hostLane := rfl
@[simp] theorem State.modDs_hostInst (f : DeepStore → DeepStore) : (s.modDs f).hostInst = s.hostInst := rfl
@[simp] theorem State.modDs_hostSkew (f : DeepStore → DeepStore) : (s.modDs f).hostSkew = s.hostSkew := rfl
@[simp] theorem State.modDs_port (f : DeepStore → DeepStore) : (s.modDs f).port = s.port := rfl
@[simp] theorem State.modDs_srch (f : DeepStore → DeepStore) : (s.modDs f).srch = s.srch := rfl
@[simp] theorem State.modDs_test (f : DeepStore → DeepStore) : (s.modDs f).test = s.test := rfl
@[simp] theorem State.modDs_service (f : DeepStore → DeepStore) : (s.modDs f).service = s.service := rfl
@[simp] theorem State.modDs_fabric (f : DeepStore → DeepStore) : (s.modDs f).fabric = s.fabric := rfl
@[simp] theorem State.modDs_avs (f : DeepStore → DeepStore) : (s.modDs f).avs = s.avs := rfl
@[simp] theorem State.modDs_therm (f : DeepStore → DeepStore) : (s.modDs f).therm = s.therm := rfl
@[simp] theorem State.modDs_start (f : DeepStore → DeepStore) : (s.modDs f).start = s.start := rfl
@[simp] theorem State.modDs_tap (f : DeepStore → DeepStore) : (s.modDs f).tap = s.tap := rfl
@[simp] theorem State.modDs_mem (f : DeepStore → DeepStore) : (s.modDs f).mem = s.mem := rfl
@[simp] theorem State.modDs_capLost (f : DeepStore → DeepStore) : (s.modDs f).capLost = s.capLost := rfl
@[simp] theorem State.modDs_cap (f : DeepStore → DeepStore) : (s.modDs f).cap = s.cap := rfl
@[simp] theorem State.modDs_fuse (f : DeepStore → DeepStore) : (s.modDs f).fuse = s.fuse := rfl
@[simp] theorem State.modDs_analog (f : DeepStore → DeepStore) : (s.modDs f).analog = s.analog := rfl
@[simp] theorem State.modDs_flash (f : DeepStore → DeepStore) : (s.modDs f).flash = s.flash := rfl
@[simp] theorem State.modDs_upd (f : DeepStore → DeepStore) : (s.modDs f).upd = s.upd := rfl
@[simp] theorem State.modDs_freeCount (f : DeepStore → DeepStore) : (s.modDs f).freeCount = s.freeCount := rfl
@[simp] theorem State.modDs_pending (f : DeepStore → DeepStore) : (s.modDs f).pending = s.pending := rfl
@[simp] theorem State.modDs_reg (f : DeepStore → DeepStore) (jx js : Nat) : (s.modDs f).reg jx js = s.reg jx js := rfl
@[simp] theorem State.modDs_nat (f : DeepStore → DeepStore) (jx js : Nat) : (s.modDs f).nat jx js = s.nat jx js := rfl
@[simp] theorem State.modDs_flag (f : DeepStore → DeepStore) (jx js : Nat) : (s.modDs f).flag jx js = s.flag jx js := rfl
@[simp] theorem State.modDs_blob (f : DeepStore → DeepStore) (jx js : Nat) : (s.modDs f).blob jx js = s.blob jx js := rfl

/-! ## modHostLane -/

@[simp] theorem State.modHostLane_regs (h : Fin 16) (f : HostLane → HostLane) : (s.modHostLane h f).regs = s.regs := rfl
@[simp] theorem State.modHostLane_blobs (h : Fin 16) (f : HostLane → HostLane) : (s.modHostLane h f).blobs = s.blobs := rfl
@[simp] theorem State.modHostLane_time (h : Fin 16) (f : HostLane → HostLane) : (s.modHostLane h f).time = s.time := rfl
@[simp] theorem State.modHostLane_mmp (h : Fin 16) (f : HostLane → HostLane) : (s.modHostLane h f).mmp = s.mmp := rfl
@[simp] theorem State.modHostLane_lookout (h : Fin 16) (f : HostLane → HostLane) : (s.modHostLane h f).lookout = s.lookout := rfl
@[simp] theorem State.modHostLane_doms (h : Fin 16) (f : HostLane → HostLane) : (s.modHostLane h f).doms = s.doms := rfl
@[simp] theorem State.modHostLane_partEA (h : Fin 16) (f : HostLane → HostLane) : (s.modHostLane h f).partEA = s.partEA := rfl
@[simp] theorem State.modHostLane_gradeI (h : Fin 16) (f : HostLane → HostLane) : (s.modHostLane h f).gradeI = s.gradeI := rfl
@[simp] theorem State.modHostLane_breakout (h : Fin 16) (f : HostLane → HostLane) : (s.modHostLane h f).breakout = s.breakout := rfl
@[simp] theorem State.modHostLane_breakoutRun (h : Fin 16) (f : HostLane → HostLane) : (s.modHostLane h f).breakoutRun = s.breakoutRun := rfl
@[simp] theorem State.modHostLane_savedRegs (h : Fin 16) (f : HostLane → HostLane) : (s.modHostLane h f).savedRegs = s.savedRegs := rfl
@[simp] theorem State.modHostLane_savedBlobs (h : Fin 16) (f : HostLane → HostLane) : (s.modHostLane h f).savedBlobs = s.savedBlobs := rfl
@[simp] theorem State.modHostLane_hk (h : Fin 16) (f : HostLane → HostLane) : (s.modHostLane h f).hk = s.hk := rfl
@[simp] theorem State.modHostLane_tx (h : Fin 16) (f : HostLane → HostLane) : (s.modHostLane h f).tx = s.tx := rfl
@[simp] theorem State.modHostLane_adc (h : Fin 16) (f : HostLane → HostLane) : (s.modHostLane h f).adc = s.adc := rfl
@[simp] theorem State.modHostLane_rxsynth (h : Fin 16) (f : HostLane → HostLane) : (s.modHostLane h f).rxsynth = s.rxsynth := rfl
@[simp] theorem State.modHostLane_rx (h : Fin 16) (f : HostLane → HostLane) : (s.modHostLane h f).rx = s.rx := rfl
@[simp] theorem State.modHostLane_eng (h : Fin 16) (f : HostLane → HostLane) : (s.modHostLane h f).eng = s.eng := rfl
@[simp] theorem State.modHostLane_outerLane (h : Fin 16) (f : HostLane → HostLane) : (s.modHostLane h f).outerLane = s.outerLane := rfl
@[simp] theorem State.modHostLane_outerPort (h : Fin 16) (f : HostLane → HostLane) : (s.modHostLane h f).outerPort = s.outerPort := rfl
@[simp] theorem State.modHostLane_tic (h : Fin 16) (f : HostLane → HostLane) : (s.modHostLane h f).tic = s.tic := rfl
@[simp] theorem State.modHostLane_pool (h : Fin 16) (f : HostLane → HostLane) : (s.modHostLane h f).pool = s.pool := rfl
@[simp] theorem State.modHostLane_cwCount (h : Fin 16) (f : HostLane → HostLane) : (s.modHostLane h f).cwCount = s.cwCount := rfl
@[simp] theorem State.modHostLane_link (h : Fin 16) (f : HostLane → HostLane) : (s.modHostLane h f).link = s.link := rfl
@[simp] theorem State.modHostLane_ds (h : Fin 16) (f : HostLane → HostLane) : (s.modHostLane h f).ds = s.ds := rfl
@[simp] theorem State.modHostLane_hostInst (h : Fin 16) (f : HostLane → HostLane) : (s.modHostLane h f).hostInst = s.hostInst := rfl
@[simp] theorem State.modHostLane_hostSkew (h : Fin 16) (f : HostLane → HostLane) : (s.modHostLane h f).hostSkew = s.hostSkew := rfl
@[simp] theorem State.modHostLane_port (h : Fin 16) (f : HostLane → HostLane) : (s.modHostLane h f).port = s.port := rfl
@[simp] theorem State.modHostLane_srch (h : Fin 16) (f : HostLane → HostLane) : (s.modHostLane h f).srch = s.srch := rfl
@[simp] theorem State.modHostLane_test (h : Fin 16) (f : HostLane → HostLane) : (s.modHostLane h f).test = s.test := rfl
@[simp] theorem State.modHostLane_service (h : Fin 16) (f : HostLane → HostLane) : (s.modHostLane h f).service = s.service := rfl
@[simp] theorem State.modHostLane_fabric (h : Fin 16) (f : HostLane → HostLane) : (s.modHostLane h f).fabric = s.fabric := rfl
@[simp] theorem State.modHostLane_avs (h : Fin 16) (f : HostLane → HostLane) : (s.modHostLane h f).avs = s.avs := rfl
@[simp] theorem State.modHostLane_therm (h : Fin 16) (f : HostLane → HostLane) : (s.modHostLane h f).therm = s.therm := rfl
@[simp] theorem State.modHostLane_start (h : Fin 16) (f : HostLane → HostLane) : (s.modHostLane h f).start = s.start := rfl
@[simp] theorem State.modHostLane_tap (h : Fin 16) (f : HostLane → HostLane) : (s.modHostLane h f).tap = s.tap := rfl
@[simp] theorem State.modHostLane_mem (h : Fin 16) (f : HostLane → HostLane) : (s.modHostLane h f).mem = s.mem := rfl
@[simp] theorem State.modHostLane_capLost (h : Fin 16) (f : HostLane → HostLane) : (s.modHostLane h f).capLost = s.capLost := rfl
@[simp] theorem State.modHostLane_cap (h : Fin 16) (f : HostLane → HostLane) : (s.modHostLane h f).cap = s.cap := rfl
@[simp] theorem State.modHostLane_fuse (h : Fin 16) (f : HostLane → HostLane) : (s.modHostLane h f).fuse = s.fuse := rfl
@[simp] theorem State.modHostLane_analog (h : Fin 16) (f : HostLane → HostLane) : (s.modHostLane h f).analog = s.analog := rfl
@[simp] theorem State.modHostLane_flash (h : Fin 16) (f : HostLane → HostLane) : (s.modHostLane h f).flash = s.flash := rfl
@[simp] theorem State.modHostLane_upd (h : Fin 16) (f : HostLane → HostLane) : (s.modHostLane h f).upd = s.upd := rfl
@[simp] theorem State.modHostLane_freeCount (h : Fin 16) (f : HostLane → HostLane) : (s.modHostLane h f).freeCount = s.freeCount := rfl
@[simp] theorem State.modHostLane_pending (h : Fin 16) (f : HostLane → HostLane) : (s.modHostLane h f).pending = s.pending := rfl
@[simp] theorem State.modHostLane_reg (h : Fin 16) (f : HostLane → HostLane) (jx js : Nat) : (s.modHostLane h f).reg jx js = s.reg jx js := rfl
@[simp] theorem State.modHostLane_nat (h : Fin 16) (f : HostLane → HostLane) (jx js : Nat) : (s.modHostLane h f).nat jx js = s.nat jx js := rfl
@[simp] theorem State.modHostLane_flag (h : Fin 16) (f : HostLane → HostLane) (jx js : Nat) : (s.modHostLane h f).flag jx js = s.flag jx js := rfl
@[simp] theorem State.modHostLane_blob (h : Fin 16) (f : HostLane → HostLane) (jx js : Nat) : (s.modHostLane h f).blob jx js = s.blob jx js := rfl

/-! ## modInst -/

@[simp] theorem State.modInst_regs (i : Fin 8) (f : HostInst → HostInst) : (s.modInst i f).regs = s.regs := rfl
@[simp] theorem State.modInst_blobs (i : Fin 8) (f : HostInst → HostInst) : (s.modInst i f).blobs = s.blobs := rfl
@[simp] theorem State.modInst_time (i : Fin 8) (f : HostInst → HostInst) : (s.modInst i f).time = s.time := rfl
@[simp] theorem State.modInst_mmp (i : Fin 8) (f : HostInst → HostInst) : (s.modInst i f).mmp = s.mmp := rfl
@[simp] theorem State.modInst_lookout (i : Fin 8) (f : HostInst → HostInst) : (s.modInst i f).lookout = s.lookout := rfl
@[simp] theorem State.modInst_doms (i : Fin 8) (f : HostInst → HostInst) : (s.modInst i f).doms = s.doms := rfl
@[simp] theorem State.modInst_partEA (i : Fin 8) (f : HostInst → HostInst) : (s.modInst i f).partEA = s.partEA := rfl
@[simp] theorem State.modInst_gradeI (i : Fin 8) (f : HostInst → HostInst) : (s.modInst i f).gradeI = s.gradeI := rfl
@[simp] theorem State.modInst_breakout (i : Fin 8) (f : HostInst → HostInst) : (s.modInst i f).breakout = s.breakout := rfl
@[simp] theorem State.modInst_breakoutRun (i : Fin 8) (f : HostInst → HostInst) : (s.modInst i f).breakoutRun = s.breakoutRun := rfl
@[simp] theorem State.modInst_savedRegs (i : Fin 8) (f : HostInst → HostInst) : (s.modInst i f).savedRegs = s.savedRegs := rfl
@[simp] theorem State.modInst_savedBlobs (i : Fin 8) (f : HostInst → HostInst) : (s.modInst i f).savedBlobs = s.savedBlobs := rfl
@[simp] theorem State.modInst_hk (i : Fin 8) (f : HostInst → HostInst) : (s.modInst i f).hk = s.hk := rfl
@[simp] theorem State.modInst_tx (i : Fin 8) (f : HostInst → HostInst) : (s.modInst i f).tx = s.tx := rfl
@[simp] theorem State.modInst_adc (i : Fin 8) (f : HostInst → HostInst) : (s.modInst i f).adc = s.adc := rfl
@[simp] theorem State.modInst_rxsynth (i : Fin 8) (f : HostInst → HostInst) : (s.modInst i f).rxsynth = s.rxsynth := rfl
@[simp] theorem State.modInst_rx (i : Fin 8) (f : HostInst → HostInst) : (s.modInst i f).rx = s.rx := rfl
@[simp] theorem State.modInst_eng (i : Fin 8) (f : HostInst → HostInst) : (s.modInst i f).eng = s.eng := rfl
@[simp] theorem State.modInst_outerLane (i : Fin 8) (f : HostInst → HostInst) : (s.modInst i f).outerLane = s.outerLane := rfl
@[simp] theorem State.modInst_outerPort (i : Fin 8) (f : HostInst → HostInst) : (s.modInst i f).outerPort = s.outerPort := rfl
@[simp] theorem State.modInst_tic (i : Fin 8) (f : HostInst → HostInst) : (s.modInst i f).tic = s.tic := rfl
@[simp] theorem State.modInst_pool (i : Fin 8) (f : HostInst → HostInst) : (s.modInst i f).pool = s.pool := rfl
@[simp] theorem State.modInst_cwCount (i : Fin 8) (f : HostInst → HostInst) : (s.modInst i f).cwCount = s.cwCount := rfl
@[simp] theorem State.modInst_link (i : Fin 8) (f : HostInst → HostInst) : (s.modInst i f).link = s.link := rfl
@[simp] theorem State.modInst_ds (i : Fin 8) (f : HostInst → HostInst) : (s.modInst i f).ds = s.ds := rfl
@[simp] theorem State.modInst_hostLane (i : Fin 8) (f : HostInst → HostInst) : (s.modInst i f).hostLane = s.hostLane := rfl
@[simp] theorem State.modInst_hostSkew (i : Fin 8) (f : HostInst → HostInst) : (s.modInst i f).hostSkew = s.hostSkew := rfl
@[simp] theorem State.modInst_port (i : Fin 8) (f : HostInst → HostInst) : (s.modInst i f).port = s.port := rfl
@[simp] theorem State.modInst_srch (i : Fin 8) (f : HostInst → HostInst) : (s.modInst i f).srch = s.srch := rfl
@[simp] theorem State.modInst_test (i : Fin 8) (f : HostInst → HostInst) : (s.modInst i f).test = s.test := rfl
@[simp] theorem State.modInst_service (i : Fin 8) (f : HostInst → HostInst) : (s.modInst i f).service = s.service := rfl
@[simp] theorem State.modInst_fabric (i : Fin 8) (f : HostInst → HostInst) : (s.modInst i f).fabric = s.fabric := rfl
@[simp] theorem State.modInst_avs (i : Fin 8) (f : HostInst → HostInst) : (s.modInst i f).avs = s.avs := rfl
@[simp] theorem State.modInst_therm (i : Fin 8) (f : HostInst → HostInst) : (s.modInst i f).therm = s.therm := rfl
@[simp] theorem State.modInst_start (i : Fin 8) (f : HostInst → HostInst) : (s.modInst i f).start = s.start := rfl
@[simp] theorem State.modInst_tap (i : Fin 8) (f : HostInst → HostInst) : (s.modInst i f).tap = s.tap := rfl
@[simp] theorem State.modInst_mem (i : Fin 8) (f : HostInst → HostInst) : (s.modInst i f).mem = s.mem := rfl
@[simp] theorem State.modInst_capLost (i : Fin 8) (f : HostInst → HostInst) : (s.modInst i f).capLost = s.capLost := rfl
@[simp] theorem State.modInst_cap (i : Fin 8) (f : HostInst → HostInst) : (s.modInst i f).cap = s.cap := rfl
@[simp] theorem State.modInst_fuse (i : Fin 8) (f : HostInst → HostInst) : (s.modInst i f).fuse = s.fuse := rfl
@[simp] theorem State.modInst_analog (i : Fin 8) (f : HostInst → HostInst) : (s.modInst i f).analog = s.analog := rfl
@[simp] theorem State.modInst_flash (i : Fin 8) (f : HostInst → HostInst) : (s.modInst i f).flash = s.flash := rfl
@[simp] theorem State.modInst_upd (i : Fin 8) (f : HostInst → HostInst) : (s.modInst i f).upd = s.upd := rfl
@[simp] theorem State.modInst_freeCount (i : Fin 8) (f : HostInst → HostInst) : (s.modInst i f).freeCount = s.freeCount := rfl
@[simp] theorem State.modInst_pending (i : Fin 8) (f : HostInst → HostInst) : (s.modInst i f).pending = s.pending := rfl
@[simp] theorem State.modInst_reg (i : Fin 8) (f : HostInst → HostInst) (jx js : Nat) : (s.modInst i f).reg jx js = s.reg jx js := rfl
@[simp] theorem State.modInst_nat (i : Fin 8) (f : HostInst → HostInst) (jx js : Nat) : (s.modInst i f).nat jx js = s.nat jx js := rfl
@[simp] theorem State.modInst_flag (i : Fin 8) (f : HostInst → HostInst) (jx js : Nat) : (s.modInst i f).flag jx js = s.flag jx js := rfl
@[simp] theorem State.modInst_blob (i : Fin 8) (f : HostInst → HostInst) (jx js : Nat) : (s.modInst i f).blob jx js = s.blob jx js := rfl

/-! ## modPort -/

@[simp] theorem State.modPort_regs (p : Fin 8) (f : PortCtl → PortCtl) : (s.modPort p f).regs = s.regs := rfl
@[simp] theorem State.modPort_blobs (p : Fin 8) (f : PortCtl → PortCtl) : (s.modPort p f).blobs = s.blobs := rfl
@[simp] theorem State.modPort_time (p : Fin 8) (f : PortCtl → PortCtl) : (s.modPort p f).time = s.time := rfl
@[simp] theorem State.modPort_mmp (p : Fin 8) (f : PortCtl → PortCtl) : (s.modPort p f).mmp = s.mmp := rfl
@[simp] theorem State.modPort_lookout (p : Fin 8) (f : PortCtl → PortCtl) : (s.modPort p f).lookout = s.lookout := rfl
@[simp] theorem State.modPort_doms (p : Fin 8) (f : PortCtl → PortCtl) : (s.modPort p f).doms = s.doms := rfl
@[simp] theorem State.modPort_partEA (p : Fin 8) (f : PortCtl → PortCtl) : (s.modPort p f).partEA = s.partEA := rfl
@[simp] theorem State.modPort_gradeI (p : Fin 8) (f : PortCtl → PortCtl) : (s.modPort p f).gradeI = s.gradeI := rfl
@[simp] theorem State.modPort_breakout (p : Fin 8) (f : PortCtl → PortCtl) : (s.modPort p f).breakout = s.breakout := rfl
@[simp] theorem State.modPort_breakoutRun (p : Fin 8) (f : PortCtl → PortCtl) : (s.modPort p f).breakoutRun = s.breakoutRun := rfl
@[simp] theorem State.modPort_savedRegs (p : Fin 8) (f : PortCtl → PortCtl) : (s.modPort p f).savedRegs = s.savedRegs := rfl
@[simp] theorem State.modPort_savedBlobs (p : Fin 8) (f : PortCtl → PortCtl) : (s.modPort p f).savedBlobs = s.savedBlobs := rfl
@[simp] theorem State.modPort_hk (p : Fin 8) (f : PortCtl → PortCtl) : (s.modPort p f).hk = s.hk := rfl
@[simp] theorem State.modPort_tx (p : Fin 8) (f : PortCtl → PortCtl) : (s.modPort p f).tx = s.tx := rfl
@[simp] theorem State.modPort_adc (p : Fin 8) (f : PortCtl → PortCtl) : (s.modPort p f).adc = s.adc := rfl
@[simp] theorem State.modPort_rxsynth (p : Fin 8) (f : PortCtl → PortCtl) : (s.modPort p f).rxsynth = s.rxsynth := rfl
@[simp] theorem State.modPort_rx (p : Fin 8) (f : PortCtl → PortCtl) : (s.modPort p f).rx = s.rx := rfl
@[simp] theorem State.modPort_eng (p : Fin 8) (f : PortCtl → PortCtl) : (s.modPort p f).eng = s.eng := rfl
@[simp] theorem State.modPort_outerLane (p : Fin 8) (f : PortCtl → PortCtl) : (s.modPort p f).outerLane = s.outerLane := rfl
@[simp] theorem State.modPort_outerPort (p : Fin 8) (f : PortCtl → PortCtl) : (s.modPort p f).outerPort = s.outerPort := rfl
@[simp] theorem State.modPort_tic (p : Fin 8) (f : PortCtl → PortCtl) : (s.modPort p f).tic = s.tic := rfl
@[simp] theorem State.modPort_pool (p : Fin 8) (f : PortCtl → PortCtl) : (s.modPort p f).pool = s.pool := rfl
@[simp] theorem State.modPort_cwCount (p : Fin 8) (f : PortCtl → PortCtl) : (s.modPort p f).cwCount = s.cwCount := rfl
@[simp] theorem State.modPort_link (p : Fin 8) (f : PortCtl → PortCtl) : (s.modPort p f).link = s.link := rfl
@[simp] theorem State.modPort_ds (p : Fin 8) (f : PortCtl → PortCtl) : (s.modPort p f).ds = s.ds := rfl
@[simp] theorem State.modPort_hostLane (p : Fin 8) (f : PortCtl → PortCtl) : (s.modPort p f).hostLane = s.hostLane := rfl
@[simp] theorem State.modPort_hostInst (p : Fin 8) (f : PortCtl → PortCtl) : (s.modPort p f).hostInst = s.hostInst := rfl
@[simp] theorem State.modPort_hostSkew (p : Fin 8) (f : PortCtl → PortCtl) : (s.modPort p f).hostSkew = s.hostSkew := rfl
@[simp] theorem State.modPort_srch (p : Fin 8) (f : PortCtl → PortCtl) : (s.modPort p f).srch = s.srch := rfl
@[simp] theorem State.modPort_test (p : Fin 8) (f : PortCtl → PortCtl) : (s.modPort p f).test = s.test := rfl
@[simp] theorem State.modPort_service (p : Fin 8) (f : PortCtl → PortCtl) : (s.modPort p f).service = s.service := rfl
@[simp] theorem State.modPort_fabric (p : Fin 8) (f : PortCtl → PortCtl) : (s.modPort p f).fabric = s.fabric := rfl
@[simp] theorem State.modPort_avs (p : Fin 8) (f : PortCtl → PortCtl) : (s.modPort p f).avs = s.avs := rfl
@[simp] theorem State.modPort_therm (p : Fin 8) (f : PortCtl → PortCtl) : (s.modPort p f).therm = s.therm := rfl
@[simp] theorem State.modPort_start (p : Fin 8) (f : PortCtl → PortCtl) : (s.modPort p f).start = s.start := rfl
@[simp] theorem State.modPort_tap (p : Fin 8) (f : PortCtl → PortCtl) : (s.modPort p f).tap = s.tap := rfl
@[simp] theorem State.modPort_mem (p : Fin 8) (f : PortCtl → PortCtl) : (s.modPort p f).mem = s.mem := rfl
@[simp] theorem State.modPort_capLost (p : Fin 8) (f : PortCtl → PortCtl) : (s.modPort p f).capLost = s.capLost := rfl
@[simp] theorem State.modPort_cap (p : Fin 8) (f : PortCtl → PortCtl) : (s.modPort p f).cap = s.cap := rfl
@[simp] theorem State.modPort_fuse (p : Fin 8) (f : PortCtl → PortCtl) : (s.modPort p f).fuse = s.fuse := rfl
@[simp] theorem State.modPort_analog (p : Fin 8) (f : PortCtl → PortCtl) : (s.modPort p f).analog = s.analog := rfl
@[simp] theorem State.modPort_flash (p : Fin 8) (f : PortCtl → PortCtl) : (s.modPort p f).flash = s.flash := rfl
@[simp] theorem State.modPort_upd (p : Fin 8) (f : PortCtl → PortCtl) : (s.modPort p f).upd = s.upd := rfl
@[simp] theorem State.modPort_freeCount (p : Fin 8) (f : PortCtl → PortCtl) : (s.modPort p f).freeCount = s.freeCount := rfl
@[simp] theorem State.modPort_pending (p : Fin 8) (f : PortCtl → PortCtl) : (s.modPort p f).pending = s.pending := rfl
@[simp] theorem State.modPort_reg (p : Fin 8) (f : PortCtl → PortCtl) (jx js : Nat) : (s.modPort p f).reg jx js = s.reg jx js := rfl
@[simp] theorem State.modPort_nat (p : Fin 8) (f : PortCtl → PortCtl) (jx js : Nat) : (s.modPort p f).nat jx js = s.nat jx js := rfl
@[simp] theorem State.modPort_flag (p : Fin 8) (f : PortCtl → PortCtl) (jx js : Nat) : (s.modPort p f).flag jx js = s.flag jx js := rfl
@[simp] theorem State.modPort_blob (p : Fin 8) (f : PortCtl → PortCtl) (jx js : Nat) : (s.modPort p f).blob jx js = s.blob jx js := rfl

/-! ## modSrch -/

@[simp] theorem State.modSrch_regs (l : Fin 8) (f : SearchLane → SearchLane) : (s.modSrch l f).regs = s.regs := rfl
@[simp] theorem State.modSrch_blobs (l : Fin 8) (f : SearchLane → SearchLane) : (s.modSrch l f).blobs = s.blobs := rfl
@[simp] theorem State.modSrch_time (l : Fin 8) (f : SearchLane → SearchLane) : (s.modSrch l f).time = s.time := rfl
@[simp] theorem State.modSrch_mmp (l : Fin 8) (f : SearchLane → SearchLane) : (s.modSrch l f).mmp = s.mmp := rfl
@[simp] theorem State.modSrch_lookout (l : Fin 8) (f : SearchLane → SearchLane) : (s.modSrch l f).lookout = s.lookout := rfl
@[simp] theorem State.modSrch_doms (l : Fin 8) (f : SearchLane → SearchLane) : (s.modSrch l f).doms = s.doms := rfl
@[simp] theorem State.modSrch_partEA (l : Fin 8) (f : SearchLane → SearchLane) : (s.modSrch l f).partEA = s.partEA := rfl
@[simp] theorem State.modSrch_gradeI (l : Fin 8) (f : SearchLane → SearchLane) : (s.modSrch l f).gradeI = s.gradeI := rfl
@[simp] theorem State.modSrch_breakout (l : Fin 8) (f : SearchLane → SearchLane) : (s.modSrch l f).breakout = s.breakout := rfl
@[simp] theorem State.modSrch_breakoutRun (l : Fin 8) (f : SearchLane → SearchLane) : (s.modSrch l f).breakoutRun = s.breakoutRun := rfl
@[simp] theorem State.modSrch_savedRegs (l : Fin 8) (f : SearchLane → SearchLane) : (s.modSrch l f).savedRegs = s.savedRegs := rfl
@[simp] theorem State.modSrch_savedBlobs (l : Fin 8) (f : SearchLane → SearchLane) : (s.modSrch l f).savedBlobs = s.savedBlobs := rfl
@[simp] theorem State.modSrch_hk (l : Fin 8) (f : SearchLane → SearchLane) : (s.modSrch l f).hk = s.hk := rfl
@[simp] theorem State.modSrch_tx (l : Fin 8) (f : SearchLane → SearchLane) : (s.modSrch l f).tx = s.tx := rfl
@[simp] theorem State.modSrch_adc (l : Fin 8) (f : SearchLane → SearchLane) : (s.modSrch l f).adc = s.adc := rfl
@[simp] theorem State.modSrch_rxsynth (l : Fin 8) (f : SearchLane → SearchLane) : (s.modSrch l f).rxsynth = s.rxsynth := rfl
@[simp] theorem State.modSrch_rx (l : Fin 8) (f : SearchLane → SearchLane) : (s.modSrch l f).rx = s.rx := rfl
@[simp] theorem State.modSrch_eng (l : Fin 8) (f : SearchLane → SearchLane) : (s.modSrch l f).eng = s.eng := rfl
@[simp] theorem State.modSrch_outerLane (l : Fin 8) (f : SearchLane → SearchLane) : (s.modSrch l f).outerLane = s.outerLane := rfl
@[simp] theorem State.modSrch_outerPort (l : Fin 8) (f : SearchLane → SearchLane) : (s.modSrch l f).outerPort = s.outerPort := rfl
@[simp] theorem State.modSrch_tic (l : Fin 8) (f : SearchLane → SearchLane) : (s.modSrch l f).tic = s.tic := rfl
@[simp] theorem State.modSrch_pool (l : Fin 8) (f : SearchLane → SearchLane) : (s.modSrch l f).pool = s.pool := rfl
@[simp] theorem State.modSrch_cwCount (l : Fin 8) (f : SearchLane → SearchLane) : (s.modSrch l f).cwCount = s.cwCount := rfl
@[simp] theorem State.modSrch_link (l : Fin 8) (f : SearchLane → SearchLane) : (s.modSrch l f).link = s.link := rfl
@[simp] theorem State.modSrch_ds (l : Fin 8) (f : SearchLane → SearchLane) : (s.modSrch l f).ds = s.ds := rfl
@[simp] theorem State.modSrch_hostLane (l : Fin 8) (f : SearchLane → SearchLane) : (s.modSrch l f).hostLane = s.hostLane := rfl
@[simp] theorem State.modSrch_hostInst (l : Fin 8) (f : SearchLane → SearchLane) : (s.modSrch l f).hostInst = s.hostInst := rfl
@[simp] theorem State.modSrch_hostSkew (l : Fin 8) (f : SearchLane → SearchLane) : (s.modSrch l f).hostSkew = s.hostSkew := rfl
@[simp] theorem State.modSrch_port (l : Fin 8) (f : SearchLane → SearchLane) : (s.modSrch l f).port = s.port := rfl
@[simp] theorem State.modSrch_test (l : Fin 8) (f : SearchLane → SearchLane) : (s.modSrch l f).test = s.test := rfl
@[simp] theorem State.modSrch_service (l : Fin 8) (f : SearchLane → SearchLane) : (s.modSrch l f).service = s.service := rfl
@[simp] theorem State.modSrch_fabric (l : Fin 8) (f : SearchLane → SearchLane) : (s.modSrch l f).fabric = s.fabric := rfl
@[simp] theorem State.modSrch_avs (l : Fin 8) (f : SearchLane → SearchLane) : (s.modSrch l f).avs = s.avs := rfl
@[simp] theorem State.modSrch_therm (l : Fin 8) (f : SearchLane → SearchLane) : (s.modSrch l f).therm = s.therm := rfl
@[simp] theorem State.modSrch_start (l : Fin 8) (f : SearchLane → SearchLane) : (s.modSrch l f).start = s.start := rfl
@[simp] theorem State.modSrch_tap (l : Fin 8) (f : SearchLane → SearchLane) : (s.modSrch l f).tap = s.tap := rfl
@[simp] theorem State.modSrch_mem (l : Fin 8) (f : SearchLane → SearchLane) : (s.modSrch l f).mem = s.mem := rfl
@[simp] theorem State.modSrch_capLost (l : Fin 8) (f : SearchLane → SearchLane) : (s.modSrch l f).capLost = s.capLost := rfl
@[simp] theorem State.modSrch_cap (l : Fin 8) (f : SearchLane → SearchLane) : (s.modSrch l f).cap = s.cap := rfl
@[simp] theorem State.modSrch_fuse (l : Fin 8) (f : SearchLane → SearchLane) : (s.modSrch l f).fuse = s.fuse := rfl
@[simp] theorem State.modSrch_analog (l : Fin 8) (f : SearchLane → SearchLane) : (s.modSrch l f).analog = s.analog := rfl
@[simp] theorem State.modSrch_flash (l : Fin 8) (f : SearchLane → SearchLane) : (s.modSrch l f).flash = s.flash := rfl
@[simp] theorem State.modSrch_upd (l : Fin 8) (f : SearchLane → SearchLane) : (s.modSrch l f).upd = s.upd := rfl
@[simp] theorem State.modSrch_freeCount (l : Fin 8) (f : SearchLane → SearchLane) : (s.modSrch l f).freeCount = s.freeCount := rfl
@[simp] theorem State.modSrch_pending (l : Fin 8) (f : SearchLane → SearchLane) : (s.modSrch l f).pending = s.pending := rfl
@[simp] theorem State.modSrch_reg (l : Fin 8) (f : SearchLane → SearchLane) (jx js : Nat) : (s.modSrch l f).reg jx js = s.reg jx js := rfl
@[simp] theorem State.modSrch_nat (l : Fin 8) (f : SearchLane → SearchLane) (jx js : Nat) : (s.modSrch l f).nat jx js = s.nat jx js := rfl
@[simp] theorem State.modSrch_flag (l : Fin 8) (f : SearchLane → SearchLane) (jx js : Nat) : (s.modSrch l f).flag jx js = s.flag jx js := rfl
@[simp] theorem State.modSrch_blob (l : Fin 8) (f : SearchLane → SearchLane) (jx js : Nat) : (s.modSrch l f).blob jx js = s.blob jx js := rfl

/-! ## modTest -/

@[simp] theorem State.modTest_regs (p : Fin 8) (f : TestPort → TestPort) : (s.modTest p f).regs = s.regs := rfl
@[simp] theorem State.modTest_blobs (p : Fin 8) (f : TestPort → TestPort) : (s.modTest p f).blobs = s.blobs := rfl
@[simp] theorem State.modTest_time (p : Fin 8) (f : TestPort → TestPort) : (s.modTest p f).time = s.time := rfl
@[simp] theorem State.modTest_mmp (p : Fin 8) (f : TestPort → TestPort) : (s.modTest p f).mmp = s.mmp := rfl
@[simp] theorem State.modTest_lookout (p : Fin 8) (f : TestPort → TestPort) : (s.modTest p f).lookout = s.lookout := rfl
@[simp] theorem State.modTest_doms (p : Fin 8) (f : TestPort → TestPort) : (s.modTest p f).doms = s.doms := rfl
@[simp] theorem State.modTest_partEA (p : Fin 8) (f : TestPort → TestPort) : (s.modTest p f).partEA = s.partEA := rfl
@[simp] theorem State.modTest_gradeI (p : Fin 8) (f : TestPort → TestPort) : (s.modTest p f).gradeI = s.gradeI := rfl
@[simp] theorem State.modTest_breakout (p : Fin 8) (f : TestPort → TestPort) : (s.modTest p f).breakout = s.breakout := rfl
@[simp] theorem State.modTest_breakoutRun (p : Fin 8) (f : TestPort → TestPort) : (s.modTest p f).breakoutRun = s.breakoutRun := rfl
@[simp] theorem State.modTest_savedRegs (p : Fin 8) (f : TestPort → TestPort) : (s.modTest p f).savedRegs = s.savedRegs := rfl
@[simp] theorem State.modTest_savedBlobs (p : Fin 8) (f : TestPort → TestPort) : (s.modTest p f).savedBlobs = s.savedBlobs := rfl
@[simp] theorem State.modTest_hk (p : Fin 8) (f : TestPort → TestPort) : (s.modTest p f).hk = s.hk := rfl
@[simp] theorem State.modTest_tx (p : Fin 8) (f : TestPort → TestPort) : (s.modTest p f).tx = s.tx := rfl
@[simp] theorem State.modTest_adc (p : Fin 8) (f : TestPort → TestPort) : (s.modTest p f).adc = s.adc := rfl
@[simp] theorem State.modTest_rxsynth (p : Fin 8) (f : TestPort → TestPort) : (s.modTest p f).rxsynth = s.rxsynth := rfl
@[simp] theorem State.modTest_rx (p : Fin 8) (f : TestPort → TestPort) : (s.modTest p f).rx = s.rx := rfl
@[simp] theorem State.modTest_eng (p : Fin 8) (f : TestPort → TestPort) : (s.modTest p f).eng = s.eng := rfl
@[simp] theorem State.modTest_outerLane (p : Fin 8) (f : TestPort → TestPort) : (s.modTest p f).outerLane = s.outerLane := rfl
@[simp] theorem State.modTest_outerPort (p : Fin 8) (f : TestPort → TestPort) : (s.modTest p f).outerPort = s.outerPort := rfl
@[simp] theorem State.modTest_tic (p : Fin 8) (f : TestPort → TestPort) : (s.modTest p f).tic = s.tic := rfl
@[simp] theorem State.modTest_pool (p : Fin 8) (f : TestPort → TestPort) : (s.modTest p f).pool = s.pool := rfl
@[simp] theorem State.modTest_cwCount (p : Fin 8) (f : TestPort → TestPort) : (s.modTest p f).cwCount = s.cwCount := rfl
@[simp] theorem State.modTest_link (p : Fin 8) (f : TestPort → TestPort) : (s.modTest p f).link = s.link := rfl
@[simp] theorem State.modTest_ds (p : Fin 8) (f : TestPort → TestPort) : (s.modTest p f).ds = s.ds := rfl
@[simp] theorem State.modTest_hostLane (p : Fin 8) (f : TestPort → TestPort) : (s.modTest p f).hostLane = s.hostLane := rfl
@[simp] theorem State.modTest_hostInst (p : Fin 8) (f : TestPort → TestPort) : (s.modTest p f).hostInst = s.hostInst := rfl
@[simp] theorem State.modTest_hostSkew (p : Fin 8) (f : TestPort → TestPort) : (s.modTest p f).hostSkew = s.hostSkew := rfl
@[simp] theorem State.modTest_port (p : Fin 8) (f : TestPort → TestPort) : (s.modTest p f).port = s.port := rfl
@[simp] theorem State.modTest_srch (p : Fin 8) (f : TestPort → TestPort) : (s.modTest p f).srch = s.srch := rfl
@[simp] theorem State.modTest_service (p : Fin 8) (f : TestPort → TestPort) : (s.modTest p f).service = s.service := rfl
@[simp] theorem State.modTest_fabric (p : Fin 8) (f : TestPort → TestPort) : (s.modTest p f).fabric = s.fabric := rfl
@[simp] theorem State.modTest_avs (p : Fin 8) (f : TestPort → TestPort) : (s.modTest p f).avs = s.avs := rfl
@[simp] theorem State.modTest_therm (p : Fin 8) (f : TestPort → TestPort) : (s.modTest p f).therm = s.therm := rfl
@[simp] theorem State.modTest_start (p : Fin 8) (f : TestPort → TestPort) : (s.modTest p f).start = s.start := rfl
@[simp] theorem State.modTest_tap (p : Fin 8) (f : TestPort → TestPort) : (s.modTest p f).tap = s.tap := rfl
@[simp] theorem State.modTest_mem (p : Fin 8) (f : TestPort → TestPort) : (s.modTest p f).mem = s.mem := rfl
@[simp] theorem State.modTest_capLost (p : Fin 8) (f : TestPort → TestPort) : (s.modTest p f).capLost = s.capLost := rfl
@[simp] theorem State.modTest_cap (p : Fin 8) (f : TestPort → TestPort) : (s.modTest p f).cap = s.cap := rfl
@[simp] theorem State.modTest_fuse (p : Fin 8) (f : TestPort → TestPort) : (s.modTest p f).fuse = s.fuse := rfl
@[simp] theorem State.modTest_analog (p : Fin 8) (f : TestPort → TestPort) : (s.modTest p f).analog = s.analog := rfl
@[simp] theorem State.modTest_flash (p : Fin 8) (f : TestPort → TestPort) : (s.modTest p f).flash = s.flash := rfl
@[simp] theorem State.modTest_upd (p : Fin 8) (f : TestPort → TestPort) : (s.modTest p f).upd = s.upd := rfl
@[simp] theorem State.modTest_freeCount (p : Fin 8) (f : TestPort → TestPort) : (s.modTest p f).freeCount = s.freeCount := rfl
@[simp] theorem State.modTest_pending (p : Fin 8) (f : TestPort → TestPort) : (s.modTest p f).pending = s.pending := rfl
@[simp] theorem State.modTest_reg (p : Fin 8) (f : TestPort → TestPort) (jx js : Nat) : (s.modTest p f).reg jx js = s.reg jx js := rfl
@[simp] theorem State.modTest_nat (p : Fin 8) (f : TestPort → TestPort) (jx js : Nat) : (s.modTest p f).nat jx js = s.nat jx js := rfl
@[simp] theorem State.modTest_flag (p : Fin 8) (f : TestPort → TestPort) (jx js : Nat) : (s.modTest p f).flag jx js = s.flag jx js := rfl
@[simp] theorem State.modTest_blob (p : Fin 8) (f : TestPort → TestPort) (jx js : Nat) : (s.modTest p f).blob jx js = s.blob jx js := rfl

/-! ## modEng -/

@[simp] theorem State.modEng_regs (e : Fin 128) (f : Engine → Engine) : (s.modEng e f).regs = s.regs := rfl
@[simp] theorem State.modEng_blobs (e : Fin 128) (f : Engine → Engine) : (s.modEng e f).blobs = s.blobs := rfl
@[simp] theorem State.modEng_time (e : Fin 128) (f : Engine → Engine) : (s.modEng e f).time = s.time := rfl
@[simp] theorem State.modEng_mmp (e : Fin 128) (f : Engine → Engine) : (s.modEng e f).mmp = s.mmp := rfl
@[simp] theorem State.modEng_lookout (e : Fin 128) (f : Engine → Engine) : (s.modEng e f).lookout = s.lookout := rfl
@[simp] theorem State.modEng_doms (e : Fin 128) (f : Engine → Engine) : (s.modEng e f).doms = s.doms := rfl
@[simp] theorem State.modEng_partEA (e : Fin 128) (f : Engine → Engine) : (s.modEng e f).partEA = s.partEA := rfl
@[simp] theorem State.modEng_gradeI (e : Fin 128) (f : Engine → Engine) : (s.modEng e f).gradeI = s.gradeI := rfl
@[simp] theorem State.modEng_breakout (e : Fin 128) (f : Engine → Engine) : (s.modEng e f).breakout = s.breakout := rfl
@[simp] theorem State.modEng_breakoutRun (e : Fin 128) (f : Engine → Engine) : (s.modEng e f).breakoutRun = s.breakoutRun := rfl
@[simp] theorem State.modEng_savedRegs (e : Fin 128) (f : Engine → Engine) : (s.modEng e f).savedRegs = s.savedRegs := rfl
@[simp] theorem State.modEng_savedBlobs (e : Fin 128) (f : Engine → Engine) : (s.modEng e f).savedBlobs = s.savedBlobs := rfl
@[simp] theorem State.modEng_hk (e : Fin 128) (f : Engine → Engine) : (s.modEng e f).hk = s.hk := rfl
@[simp] theorem State.modEng_tx (e : Fin 128) (f : Engine → Engine) : (s.modEng e f).tx = s.tx := rfl
@[simp] theorem State.modEng_adc (e : Fin 128) (f : Engine → Engine) : (s.modEng e f).adc = s.adc := rfl
@[simp] theorem State.modEng_rxsynth (e : Fin 128) (f : Engine → Engine) : (s.modEng e f).rxsynth = s.rxsynth := rfl
@[simp] theorem State.modEng_rx (e : Fin 128) (f : Engine → Engine) : (s.modEng e f).rx = s.rx := rfl
@[simp] theorem State.modEng_outerLane (e : Fin 128) (f : Engine → Engine) : (s.modEng e f).outerLane = s.outerLane := rfl
@[simp] theorem State.modEng_outerPort (e : Fin 128) (f : Engine → Engine) : (s.modEng e f).outerPort = s.outerPort := rfl
@[simp] theorem State.modEng_tic (e : Fin 128) (f : Engine → Engine) : (s.modEng e f).tic = s.tic := rfl
@[simp] theorem State.modEng_pool (e : Fin 128) (f : Engine → Engine) : (s.modEng e f).pool = s.pool := rfl
@[simp] theorem State.modEng_cwCount (e : Fin 128) (f : Engine → Engine) : (s.modEng e f).cwCount = s.cwCount := rfl
@[simp] theorem State.modEng_link (e : Fin 128) (f : Engine → Engine) : (s.modEng e f).link = s.link := rfl
@[simp] theorem State.modEng_ds (e : Fin 128) (f : Engine → Engine) : (s.modEng e f).ds = s.ds := rfl
@[simp] theorem State.modEng_hostLane (e : Fin 128) (f : Engine → Engine) : (s.modEng e f).hostLane = s.hostLane := rfl
@[simp] theorem State.modEng_hostInst (e : Fin 128) (f : Engine → Engine) : (s.modEng e f).hostInst = s.hostInst := rfl
@[simp] theorem State.modEng_hostSkew (e : Fin 128) (f : Engine → Engine) : (s.modEng e f).hostSkew = s.hostSkew := rfl
@[simp] theorem State.modEng_port (e : Fin 128) (f : Engine → Engine) : (s.modEng e f).port = s.port := rfl
@[simp] theorem State.modEng_srch (e : Fin 128) (f : Engine → Engine) : (s.modEng e f).srch = s.srch := rfl
@[simp] theorem State.modEng_test (e : Fin 128) (f : Engine → Engine) : (s.modEng e f).test = s.test := rfl
@[simp] theorem State.modEng_service (e : Fin 128) (f : Engine → Engine) : (s.modEng e f).service = s.service := rfl
@[simp] theorem State.modEng_fabric (e : Fin 128) (f : Engine → Engine) : (s.modEng e f).fabric = s.fabric := rfl
@[simp] theorem State.modEng_avs (e : Fin 128) (f : Engine → Engine) : (s.modEng e f).avs = s.avs := rfl
@[simp] theorem State.modEng_therm (e : Fin 128) (f : Engine → Engine) : (s.modEng e f).therm = s.therm := rfl
@[simp] theorem State.modEng_start (e : Fin 128) (f : Engine → Engine) : (s.modEng e f).start = s.start := rfl
@[simp] theorem State.modEng_tap (e : Fin 128) (f : Engine → Engine) : (s.modEng e f).tap = s.tap := rfl
@[simp] theorem State.modEng_mem (e : Fin 128) (f : Engine → Engine) : (s.modEng e f).mem = s.mem := rfl
@[simp] theorem State.modEng_capLost (e : Fin 128) (f : Engine → Engine) : (s.modEng e f).capLost = s.capLost := rfl
@[simp] theorem State.modEng_cap (e : Fin 128) (f : Engine → Engine) : (s.modEng e f).cap = s.cap := rfl
@[simp] theorem State.modEng_fuse (e : Fin 128) (f : Engine → Engine) : (s.modEng e f).fuse = s.fuse := rfl
@[simp] theorem State.modEng_analog (e : Fin 128) (f : Engine → Engine) : (s.modEng e f).analog = s.analog := rfl
@[simp] theorem State.modEng_flash (e : Fin 128) (f : Engine → Engine) : (s.modEng e f).flash = s.flash := rfl
@[simp] theorem State.modEng_upd (e : Fin 128) (f : Engine → Engine) : (s.modEng e f).upd = s.upd := rfl
@[simp] theorem State.modEng_freeCount (e : Fin 128) (f : Engine → Engine) : (s.modEng e f).freeCount = s.freeCount := rfl
@[simp] theorem State.modEng_pending (e : Fin 128) (f : Engine → Engine) : (s.modEng e f).pending = s.pending := rfl
@[simp] theorem State.modEng_reg (e : Fin 128) (f : Engine → Engine) (jx js : Nat) : (s.modEng e f).reg jx js = s.reg jx js := rfl
@[simp] theorem State.modEng_nat (e : Fin 128) (f : Engine → Engine) (jx js : Nat) : (s.modEng e f).nat jx js = s.nat jx js := rfl
@[simp] theorem State.modEng_flag (e : Fin 128) (f : Engine → Engine) (jx js : Nat) : (s.modEng e f).flag jx js = s.flag jx js := rfl
@[simp] theorem State.modEng_blob (e : Fin 128) (f : Engine → Engine) (jx js : Nat) : (s.modEng e f).blob jx js = s.blob jx js := rfl

/-! ## modFab -/

@[simp] theorem State.modFab_regs (f : Fabric → Fabric) : (s.modFab f).regs = s.regs := rfl
@[simp] theorem State.modFab_blobs (f : Fabric → Fabric) : (s.modFab f).blobs = s.blobs := rfl
@[simp] theorem State.modFab_time (f : Fabric → Fabric) : (s.modFab f).time = s.time := rfl
@[simp] theorem State.modFab_mmp (f : Fabric → Fabric) : (s.modFab f).mmp = s.mmp := rfl
@[simp] theorem State.modFab_lookout (f : Fabric → Fabric) : (s.modFab f).lookout = s.lookout := rfl
@[simp] theorem State.modFab_doms (f : Fabric → Fabric) : (s.modFab f).doms = s.doms := rfl
@[simp] theorem State.modFab_partEA (f : Fabric → Fabric) : (s.modFab f).partEA = s.partEA := rfl
@[simp] theorem State.modFab_gradeI (f : Fabric → Fabric) : (s.modFab f).gradeI = s.gradeI := rfl
@[simp] theorem State.modFab_breakout (f : Fabric → Fabric) : (s.modFab f).breakout = s.breakout := rfl
@[simp] theorem State.modFab_breakoutRun (f : Fabric → Fabric) : (s.modFab f).breakoutRun = s.breakoutRun := rfl
@[simp] theorem State.modFab_savedRegs (f : Fabric → Fabric) : (s.modFab f).savedRegs = s.savedRegs := rfl
@[simp] theorem State.modFab_savedBlobs (f : Fabric → Fabric) : (s.modFab f).savedBlobs = s.savedBlobs := rfl
@[simp] theorem State.modFab_hk (f : Fabric → Fabric) : (s.modFab f).hk = s.hk := rfl
@[simp] theorem State.modFab_tx (f : Fabric → Fabric) : (s.modFab f).tx = s.tx := rfl
@[simp] theorem State.modFab_adc (f : Fabric → Fabric) : (s.modFab f).adc = s.adc := rfl
@[simp] theorem State.modFab_rxsynth (f : Fabric → Fabric) : (s.modFab f).rxsynth = s.rxsynth := rfl
@[simp] theorem State.modFab_rx (f : Fabric → Fabric) : (s.modFab f).rx = s.rx := rfl
@[simp] theorem State.modFab_eng (f : Fabric → Fabric) : (s.modFab f).eng = s.eng := rfl
@[simp] theorem State.modFab_outerLane (f : Fabric → Fabric) : (s.modFab f).outerLane = s.outerLane := rfl
@[simp] theorem State.modFab_outerPort (f : Fabric → Fabric) : (s.modFab f).outerPort = s.outerPort := rfl
@[simp] theorem State.modFab_tic (f : Fabric → Fabric) : (s.modFab f).tic = s.tic := rfl
@[simp] theorem State.modFab_pool (f : Fabric → Fabric) : (s.modFab f).pool = s.pool := rfl
@[simp] theorem State.modFab_cwCount (f : Fabric → Fabric) : (s.modFab f).cwCount = s.cwCount := rfl
@[simp] theorem State.modFab_link (f : Fabric → Fabric) : (s.modFab f).link = s.link := rfl
@[simp] theorem State.modFab_ds (f : Fabric → Fabric) : (s.modFab f).ds = s.ds := rfl
@[simp] theorem State.modFab_hostLane (f : Fabric → Fabric) : (s.modFab f).hostLane = s.hostLane := rfl
@[simp] theorem State.modFab_hostInst (f : Fabric → Fabric) : (s.modFab f).hostInst = s.hostInst := rfl
@[simp] theorem State.modFab_hostSkew (f : Fabric → Fabric) : (s.modFab f).hostSkew = s.hostSkew := rfl
@[simp] theorem State.modFab_port (f : Fabric → Fabric) : (s.modFab f).port = s.port := rfl
@[simp] theorem State.modFab_srch (f : Fabric → Fabric) : (s.modFab f).srch = s.srch := rfl
@[simp] theorem State.modFab_test (f : Fabric → Fabric) : (s.modFab f).test = s.test := rfl
@[simp] theorem State.modFab_service (f : Fabric → Fabric) : (s.modFab f).service = s.service := rfl
@[simp] theorem State.modFab_avs (f : Fabric → Fabric) : (s.modFab f).avs = s.avs := rfl
@[simp] theorem State.modFab_therm (f : Fabric → Fabric) : (s.modFab f).therm = s.therm := rfl
@[simp] theorem State.modFab_start (f : Fabric → Fabric) : (s.modFab f).start = s.start := rfl
@[simp] theorem State.modFab_tap (f : Fabric → Fabric) : (s.modFab f).tap = s.tap := rfl
@[simp] theorem State.modFab_mem (f : Fabric → Fabric) : (s.modFab f).mem = s.mem := rfl
@[simp] theorem State.modFab_capLost (f : Fabric → Fabric) : (s.modFab f).capLost = s.capLost := rfl
@[simp] theorem State.modFab_cap (f : Fabric → Fabric) : (s.modFab f).cap = s.cap := rfl
@[simp] theorem State.modFab_fuse (f : Fabric → Fabric) : (s.modFab f).fuse = s.fuse := rfl
@[simp] theorem State.modFab_analog (f : Fabric → Fabric) : (s.modFab f).analog = s.analog := rfl
@[simp] theorem State.modFab_flash (f : Fabric → Fabric) : (s.modFab f).flash = s.flash := rfl
@[simp] theorem State.modFab_upd (f : Fabric → Fabric) : (s.modFab f).upd = s.upd := rfl
@[simp] theorem State.modFab_freeCount (f : Fabric → Fabric) : (s.modFab f).freeCount = s.freeCount := rfl
@[simp] theorem State.modFab_pending (f : Fabric → Fabric) : (s.modFab f).pending = s.pending := rfl
@[simp] theorem State.modFab_reg (f : Fabric → Fabric) (jx js : Nat) : (s.modFab f).reg jx js = s.reg jx js := rfl
@[simp] theorem State.modFab_nat (f : Fabric → Fabric) (jx js : Nat) : (s.modFab f).nat jx js = s.nat jx js := rfl
@[simp] theorem State.modFab_flag (f : Fabric → Fabric) (jx js : Nat) : (s.modFab f).flag jx js = s.flag jx js := rfl
@[simp] theorem State.modFab_blob (f : Fabric → Fabric) (jx js : Nat) : (s.modFab f).blob jx js = s.blob jx js := rfl

/-! ## modTherm -/

@[simp] theorem State.modTherm_regs (f : Thermal → Thermal) : (s.modTherm f).regs = s.regs := rfl
@[simp] theorem State.modTherm_blobs (f : Thermal → Thermal) : (s.modTherm f).blobs = s.blobs := rfl
@[simp] theorem State.modTherm_time (f : Thermal → Thermal) : (s.modTherm f).time = s.time := rfl
@[simp] theorem State.modTherm_mmp (f : Thermal → Thermal) : (s.modTherm f).mmp = s.mmp := rfl
@[simp] theorem State.modTherm_lookout (f : Thermal → Thermal) : (s.modTherm f).lookout = s.lookout := rfl
@[simp] theorem State.modTherm_doms (f : Thermal → Thermal) : (s.modTherm f).doms = s.doms := rfl
@[simp] theorem State.modTherm_partEA (f : Thermal → Thermal) : (s.modTherm f).partEA = s.partEA := rfl
@[simp] theorem State.modTherm_gradeI (f : Thermal → Thermal) : (s.modTherm f).gradeI = s.gradeI := rfl
@[simp] theorem State.modTherm_breakout (f : Thermal → Thermal) : (s.modTherm f).breakout = s.breakout := rfl
@[simp] theorem State.modTherm_breakoutRun (f : Thermal → Thermal) : (s.modTherm f).breakoutRun = s.breakoutRun := rfl
@[simp] theorem State.modTherm_savedRegs (f : Thermal → Thermal) : (s.modTherm f).savedRegs = s.savedRegs := rfl
@[simp] theorem State.modTherm_savedBlobs (f : Thermal → Thermal) : (s.modTherm f).savedBlobs = s.savedBlobs := rfl
@[simp] theorem State.modTherm_hk (f : Thermal → Thermal) : (s.modTherm f).hk = s.hk := rfl
@[simp] theorem State.modTherm_tx (f : Thermal → Thermal) : (s.modTherm f).tx = s.tx := rfl
@[simp] theorem State.modTherm_adc (f : Thermal → Thermal) : (s.modTherm f).adc = s.adc := rfl
@[simp] theorem State.modTherm_rxsynth (f : Thermal → Thermal) : (s.modTherm f).rxsynth = s.rxsynth := rfl
@[simp] theorem State.modTherm_rx (f : Thermal → Thermal) : (s.modTherm f).rx = s.rx := rfl
@[simp] theorem State.modTherm_eng (f : Thermal → Thermal) : (s.modTherm f).eng = s.eng := rfl
@[simp] theorem State.modTherm_outerLane (f : Thermal → Thermal) : (s.modTherm f).outerLane = s.outerLane := rfl
@[simp] theorem State.modTherm_outerPort (f : Thermal → Thermal) : (s.modTherm f).outerPort = s.outerPort := rfl
@[simp] theorem State.modTherm_tic (f : Thermal → Thermal) : (s.modTherm f).tic = s.tic := rfl
@[simp] theorem State.modTherm_pool (f : Thermal → Thermal) : (s.modTherm f).pool = s.pool := rfl
@[simp] theorem State.modTherm_cwCount (f : Thermal → Thermal) : (s.modTherm f).cwCount = s.cwCount := rfl
@[simp] theorem State.modTherm_link (f : Thermal → Thermal) : (s.modTherm f).link = s.link := rfl
@[simp] theorem State.modTherm_ds (f : Thermal → Thermal) : (s.modTherm f).ds = s.ds := rfl
@[simp] theorem State.modTherm_hostLane (f : Thermal → Thermal) : (s.modTherm f).hostLane = s.hostLane := rfl
@[simp] theorem State.modTherm_hostInst (f : Thermal → Thermal) : (s.modTherm f).hostInst = s.hostInst := rfl
@[simp] theorem State.modTherm_hostSkew (f : Thermal → Thermal) : (s.modTherm f).hostSkew = s.hostSkew := rfl
@[simp] theorem State.modTherm_port (f : Thermal → Thermal) : (s.modTherm f).port = s.port := rfl
@[simp] theorem State.modTherm_srch (f : Thermal → Thermal) : (s.modTherm f).srch = s.srch := rfl
@[simp] theorem State.modTherm_test (f : Thermal → Thermal) : (s.modTherm f).test = s.test := rfl
@[simp] theorem State.modTherm_service (f : Thermal → Thermal) : (s.modTherm f).service = s.service := rfl
@[simp] theorem State.modTherm_fabric (f : Thermal → Thermal) : (s.modTherm f).fabric = s.fabric := rfl
@[simp] theorem State.modTherm_avs (f : Thermal → Thermal) : (s.modTherm f).avs = s.avs := rfl
@[simp] theorem State.modTherm_start (f : Thermal → Thermal) : (s.modTherm f).start = s.start := rfl
@[simp] theorem State.modTherm_tap (f : Thermal → Thermal) : (s.modTherm f).tap = s.tap := rfl
@[simp] theorem State.modTherm_mem (f : Thermal → Thermal) : (s.modTherm f).mem = s.mem := rfl
@[simp] theorem State.modTherm_capLost (f : Thermal → Thermal) : (s.modTherm f).capLost = s.capLost := rfl
@[simp] theorem State.modTherm_cap (f : Thermal → Thermal) : (s.modTherm f).cap = s.cap := rfl
@[simp] theorem State.modTherm_fuse (f : Thermal → Thermal) : (s.modTherm f).fuse = s.fuse := rfl
@[simp] theorem State.modTherm_analog (f : Thermal → Thermal) : (s.modTherm f).analog = s.analog := rfl
@[simp] theorem State.modTherm_flash (f : Thermal → Thermal) : (s.modTherm f).flash = s.flash := rfl
@[simp] theorem State.modTherm_upd (f : Thermal → Thermal) : (s.modTherm f).upd = s.upd := rfl
@[simp] theorem State.modTherm_freeCount (f : Thermal → Thermal) : (s.modTherm f).freeCount = s.freeCount := rfl
@[simp] theorem State.modTherm_pending (f : Thermal → Thermal) : (s.modTherm f).pending = s.pending := rfl
@[simp] theorem State.modTherm_reg (f : Thermal → Thermal) (jx js : Nat) : (s.modTherm f).reg jx js = s.reg jx js := rfl
@[simp] theorem State.modTherm_nat (f : Thermal → Thermal) (jx js : Nat) : (s.modTherm f).nat jx js = s.nat jx js := rfl
@[simp] theorem State.modTherm_flag (f : Thermal → Thermal) (jx js : Nat) : (s.modTherm f).flag jx js = s.flag jx js := rfl
@[simp] theorem State.modTherm_blob (f : Thermal → Thermal) (jx js : Nat) : (s.modTherm f).blob jx js = s.blob jx js := rfl

/-! ## modMem -/

@[simp] theorem State.modMem_regs (g : Fin 44) (f : MemGroup → MemGroup) : (s.modMem g f).regs = s.regs := rfl
@[simp] theorem State.modMem_blobs (g : Fin 44) (f : MemGroup → MemGroup) : (s.modMem g f).blobs = s.blobs := rfl
@[simp] theorem State.modMem_time (g : Fin 44) (f : MemGroup → MemGroup) : (s.modMem g f).time = s.time := rfl
@[simp] theorem State.modMem_mmp (g : Fin 44) (f : MemGroup → MemGroup) : (s.modMem g f).mmp = s.mmp := rfl
@[simp] theorem State.modMem_lookout (g : Fin 44) (f : MemGroup → MemGroup) : (s.modMem g f).lookout = s.lookout := rfl
@[simp] theorem State.modMem_doms (g : Fin 44) (f : MemGroup → MemGroup) : (s.modMem g f).doms = s.doms := rfl
@[simp] theorem State.modMem_partEA (g : Fin 44) (f : MemGroup → MemGroup) : (s.modMem g f).partEA = s.partEA := rfl
@[simp] theorem State.modMem_gradeI (g : Fin 44) (f : MemGroup → MemGroup) : (s.modMem g f).gradeI = s.gradeI := rfl
@[simp] theorem State.modMem_breakout (g : Fin 44) (f : MemGroup → MemGroup) : (s.modMem g f).breakout = s.breakout := rfl
@[simp] theorem State.modMem_breakoutRun (g : Fin 44) (f : MemGroup → MemGroup) : (s.modMem g f).breakoutRun = s.breakoutRun := rfl
@[simp] theorem State.modMem_savedRegs (g : Fin 44) (f : MemGroup → MemGroup) : (s.modMem g f).savedRegs = s.savedRegs := rfl
@[simp] theorem State.modMem_savedBlobs (g : Fin 44) (f : MemGroup → MemGroup) : (s.modMem g f).savedBlobs = s.savedBlobs := rfl
@[simp] theorem State.modMem_hk (g : Fin 44) (f : MemGroup → MemGroup) : (s.modMem g f).hk = s.hk := rfl
@[simp] theorem State.modMem_tx (g : Fin 44) (f : MemGroup → MemGroup) : (s.modMem g f).tx = s.tx := rfl
@[simp] theorem State.modMem_adc (g : Fin 44) (f : MemGroup → MemGroup) : (s.modMem g f).adc = s.adc := rfl
@[simp] theorem State.modMem_rxsynth (g : Fin 44) (f : MemGroup → MemGroup) : (s.modMem g f).rxsynth = s.rxsynth := rfl
@[simp] theorem State.modMem_rx (g : Fin 44) (f : MemGroup → MemGroup) : (s.modMem g f).rx = s.rx := rfl
@[simp] theorem State.modMem_eng (g : Fin 44) (f : MemGroup → MemGroup) : (s.modMem g f).eng = s.eng := rfl
@[simp] theorem State.modMem_outerLane (g : Fin 44) (f : MemGroup → MemGroup) : (s.modMem g f).outerLane = s.outerLane := rfl
@[simp] theorem State.modMem_outerPort (g : Fin 44) (f : MemGroup → MemGroup) : (s.modMem g f).outerPort = s.outerPort := rfl
@[simp] theorem State.modMem_tic (g : Fin 44) (f : MemGroup → MemGroup) : (s.modMem g f).tic = s.tic := rfl
@[simp] theorem State.modMem_pool (g : Fin 44) (f : MemGroup → MemGroup) : (s.modMem g f).pool = s.pool := rfl
@[simp] theorem State.modMem_cwCount (g : Fin 44) (f : MemGroup → MemGroup) : (s.modMem g f).cwCount = s.cwCount := rfl
@[simp] theorem State.modMem_link (g : Fin 44) (f : MemGroup → MemGroup) : (s.modMem g f).link = s.link := rfl
@[simp] theorem State.modMem_ds (g : Fin 44) (f : MemGroup → MemGroup) : (s.modMem g f).ds = s.ds := rfl
@[simp] theorem State.modMem_hostLane (g : Fin 44) (f : MemGroup → MemGroup) : (s.modMem g f).hostLane = s.hostLane := rfl
@[simp] theorem State.modMem_hostInst (g : Fin 44) (f : MemGroup → MemGroup) : (s.modMem g f).hostInst = s.hostInst := rfl
@[simp] theorem State.modMem_hostSkew (g : Fin 44) (f : MemGroup → MemGroup) : (s.modMem g f).hostSkew = s.hostSkew := rfl
@[simp] theorem State.modMem_port (g : Fin 44) (f : MemGroup → MemGroup) : (s.modMem g f).port = s.port := rfl
@[simp] theorem State.modMem_srch (g : Fin 44) (f : MemGroup → MemGroup) : (s.modMem g f).srch = s.srch := rfl
@[simp] theorem State.modMem_test (g : Fin 44) (f : MemGroup → MemGroup) : (s.modMem g f).test = s.test := rfl
@[simp] theorem State.modMem_service (g : Fin 44) (f : MemGroup → MemGroup) : (s.modMem g f).service = s.service := rfl
@[simp] theorem State.modMem_fabric (g : Fin 44) (f : MemGroup → MemGroup) : (s.modMem g f).fabric = s.fabric := rfl
@[simp] theorem State.modMem_avs (g : Fin 44) (f : MemGroup → MemGroup) : (s.modMem g f).avs = s.avs := rfl
@[simp] theorem State.modMem_therm (g : Fin 44) (f : MemGroup → MemGroup) : (s.modMem g f).therm = s.therm := rfl
@[simp] theorem State.modMem_start (g : Fin 44) (f : MemGroup → MemGroup) : (s.modMem g f).start = s.start := rfl
@[simp] theorem State.modMem_tap (g : Fin 44) (f : MemGroup → MemGroup) : (s.modMem g f).tap = s.tap := rfl
@[simp] theorem State.modMem_capLost (g : Fin 44) (f : MemGroup → MemGroup) : (s.modMem g f).capLost = s.capLost := rfl
@[simp] theorem State.modMem_cap (g : Fin 44) (f : MemGroup → MemGroup) : (s.modMem g f).cap = s.cap := rfl
@[simp] theorem State.modMem_fuse (g : Fin 44) (f : MemGroup → MemGroup) : (s.modMem g f).fuse = s.fuse := rfl
@[simp] theorem State.modMem_analog (g : Fin 44) (f : MemGroup → MemGroup) : (s.modMem g f).analog = s.analog := rfl
@[simp] theorem State.modMem_flash (g : Fin 44) (f : MemGroup → MemGroup) : (s.modMem g f).flash = s.flash := rfl
@[simp] theorem State.modMem_upd (g : Fin 44) (f : MemGroup → MemGroup) : (s.modMem g f).upd = s.upd := rfl
@[simp] theorem State.modMem_freeCount (g : Fin 44) (f : MemGroup → MemGroup) : (s.modMem g f).freeCount = s.freeCount := rfl
@[simp] theorem State.modMem_pending (g : Fin 44) (f : MemGroup → MemGroup) : (s.modMem g f).pending = s.pending := rfl
@[simp] theorem State.modMem_reg (g : Fin 44) (f : MemGroup → MemGroup) (jx js : Nat) : (s.modMem g f).reg jx js = s.reg jx js := rfl
@[simp] theorem State.modMem_nat (g : Fin 44) (f : MemGroup → MemGroup) (jx js : Nat) : (s.modMem g f).nat jx js = s.nat jx js := rfl
@[simp] theorem State.modMem_flag (g : Fin 44) (f : MemGroup → MemGroup) (jx js : Nat) : (s.modMem g f).flag jx js = s.flag jx js := rfl
@[simp] theorem State.modMem_blob (g : Fin 44) (f : MemGroup → MemGroup) (jx js : Nat) : (s.modMem g f).blob jx js = s.blob jx js := rfl

/-! ## modAnalog -/

@[simp] theorem State.modAnalog_regs (f : AnalogRun → AnalogRun) : (s.modAnalog f).regs = s.regs := rfl
@[simp] theorem State.modAnalog_blobs (f : AnalogRun → AnalogRun) : (s.modAnalog f).blobs = s.blobs := rfl
@[simp] theorem State.modAnalog_time (f : AnalogRun → AnalogRun) : (s.modAnalog f).time = s.time := rfl
@[simp] theorem State.modAnalog_mmp (f : AnalogRun → AnalogRun) : (s.modAnalog f).mmp = s.mmp := rfl
@[simp] theorem State.modAnalog_lookout (f : AnalogRun → AnalogRun) : (s.modAnalog f).lookout = s.lookout := rfl
@[simp] theorem State.modAnalog_doms (f : AnalogRun → AnalogRun) : (s.modAnalog f).doms = s.doms := rfl
@[simp] theorem State.modAnalog_partEA (f : AnalogRun → AnalogRun) : (s.modAnalog f).partEA = s.partEA := rfl
@[simp] theorem State.modAnalog_gradeI (f : AnalogRun → AnalogRun) : (s.modAnalog f).gradeI = s.gradeI := rfl
@[simp] theorem State.modAnalog_breakout (f : AnalogRun → AnalogRun) : (s.modAnalog f).breakout = s.breakout := rfl
@[simp] theorem State.modAnalog_breakoutRun (f : AnalogRun → AnalogRun) : (s.modAnalog f).breakoutRun = s.breakoutRun := rfl
@[simp] theorem State.modAnalog_savedRegs (f : AnalogRun → AnalogRun) : (s.modAnalog f).savedRegs = s.savedRegs := rfl
@[simp] theorem State.modAnalog_savedBlobs (f : AnalogRun → AnalogRun) : (s.modAnalog f).savedBlobs = s.savedBlobs := rfl
@[simp] theorem State.modAnalog_hk (f : AnalogRun → AnalogRun) : (s.modAnalog f).hk = s.hk := rfl
@[simp] theorem State.modAnalog_tx (f : AnalogRun → AnalogRun) : (s.modAnalog f).tx = s.tx := rfl
@[simp] theorem State.modAnalog_adc (f : AnalogRun → AnalogRun) : (s.modAnalog f).adc = s.adc := rfl
@[simp] theorem State.modAnalog_rxsynth (f : AnalogRun → AnalogRun) : (s.modAnalog f).rxsynth = s.rxsynth := rfl
@[simp] theorem State.modAnalog_rx (f : AnalogRun → AnalogRun) : (s.modAnalog f).rx = s.rx := rfl
@[simp] theorem State.modAnalog_eng (f : AnalogRun → AnalogRun) : (s.modAnalog f).eng = s.eng := rfl
@[simp] theorem State.modAnalog_outerLane (f : AnalogRun → AnalogRun) : (s.modAnalog f).outerLane = s.outerLane := rfl
@[simp] theorem State.modAnalog_outerPort (f : AnalogRun → AnalogRun) : (s.modAnalog f).outerPort = s.outerPort := rfl
@[simp] theorem State.modAnalog_tic (f : AnalogRun → AnalogRun) : (s.modAnalog f).tic = s.tic := rfl
@[simp] theorem State.modAnalog_pool (f : AnalogRun → AnalogRun) : (s.modAnalog f).pool = s.pool := rfl
@[simp] theorem State.modAnalog_cwCount (f : AnalogRun → AnalogRun) : (s.modAnalog f).cwCount = s.cwCount := rfl
@[simp] theorem State.modAnalog_link (f : AnalogRun → AnalogRun) : (s.modAnalog f).link = s.link := rfl
@[simp] theorem State.modAnalog_ds (f : AnalogRun → AnalogRun) : (s.modAnalog f).ds = s.ds := rfl
@[simp] theorem State.modAnalog_hostLane (f : AnalogRun → AnalogRun) : (s.modAnalog f).hostLane = s.hostLane := rfl
@[simp] theorem State.modAnalog_hostInst (f : AnalogRun → AnalogRun) : (s.modAnalog f).hostInst = s.hostInst := rfl
@[simp] theorem State.modAnalog_hostSkew (f : AnalogRun → AnalogRun) : (s.modAnalog f).hostSkew = s.hostSkew := rfl
@[simp] theorem State.modAnalog_port (f : AnalogRun → AnalogRun) : (s.modAnalog f).port = s.port := rfl
@[simp] theorem State.modAnalog_srch (f : AnalogRun → AnalogRun) : (s.modAnalog f).srch = s.srch := rfl
@[simp] theorem State.modAnalog_test (f : AnalogRun → AnalogRun) : (s.modAnalog f).test = s.test := rfl
@[simp] theorem State.modAnalog_service (f : AnalogRun → AnalogRun) : (s.modAnalog f).service = s.service := rfl
@[simp] theorem State.modAnalog_fabric (f : AnalogRun → AnalogRun) : (s.modAnalog f).fabric = s.fabric := rfl
@[simp] theorem State.modAnalog_avs (f : AnalogRun → AnalogRun) : (s.modAnalog f).avs = s.avs := rfl
@[simp] theorem State.modAnalog_therm (f : AnalogRun → AnalogRun) : (s.modAnalog f).therm = s.therm := rfl
@[simp] theorem State.modAnalog_start (f : AnalogRun → AnalogRun) : (s.modAnalog f).start = s.start := rfl
@[simp] theorem State.modAnalog_tap (f : AnalogRun → AnalogRun) : (s.modAnalog f).tap = s.tap := rfl
@[simp] theorem State.modAnalog_mem (f : AnalogRun → AnalogRun) : (s.modAnalog f).mem = s.mem := rfl
@[simp] theorem State.modAnalog_capLost (f : AnalogRun → AnalogRun) : (s.modAnalog f).capLost = s.capLost := rfl
@[simp] theorem State.modAnalog_cap (f : AnalogRun → AnalogRun) : (s.modAnalog f).cap = s.cap := rfl
@[simp] theorem State.modAnalog_fuse (f : AnalogRun → AnalogRun) : (s.modAnalog f).fuse = s.fuse := rfl
@[simp] theorem State.modAnalog_flash (f : AnalogRun → AnalogRun) : (s.modAnalog f).flash = s.flash := rfl
@[simp] theorem State.modAnalog_upd (f : AnalogRun → AnalogRun) : (s.modAnalog f).upd = s.upd := rfl
@[simp] theorem State.modAnalog_freeCount (f : AnalogRun → AnalogRun) : (s.modAnalog f).freeCount = s.freeCount := rfl
@[simp] theorem State.modAnalog_pending (f : AnalogRun → AnalogRun) : (s.modAnalog f).pending = s.pending := rfl
@[simp] theorem State.modAnalog_reg (f : AnalogRun → AnalogRun) (jx js : Nat) : (s.modAnalog f).reg jx js = s.reg jx js := rfl
@[simp] theorem State.modAnalog_nat (f : AnalogRun → AnalogRun) (jx js : Nat) : (s.modAnalog f).nat jx js = s.nat jx js := rfl
@[simp] theorem State.modAnalog_flag (f : AnalogRun → AnalogRun) (jx js : Nat) : (s.modAnalog f).flag jx js = s.flag jx js := rfl
@[simp] theorem State.modAnalog_blob (f : AnalogRun → AnalogRun) (jx js : Nat) : (s.modAnalog f).blob jx js = s.blob jx js := rfl

/-! ## modUpd -/

@[simp] theorem State.modUpd_regs (f : Update → Update) : (s.modUpd f).regs = s.regs := rfl
@[simp] theorem State.modUpd_blobs (f : Update → Update) : (s.modUpd f).blobs = s.blobs := rfl
@[simp] theorem State.modUpd_time (f : Update → Update) : (s.modUpd f).time = s.time := rfl
@[simp] theorem State.modUpd_mmp (f : Update → Update) : (s.modUpd f).mmp = s.mmp := rfl
@[simp] theorem State.modUpd_lookout (f : Update → Update) : (s.modUpd f).lookout = s.lookout := rfl
@[simp] theorem State.modUpd_doms (f : Update → Update) : (s.modUpd f).doms = s.doms := rfl
@[simp] theorem State.modUpd_partEA (f : Update → Update) : (s.modUpd f).partEA = s.partEA := rfl
@[simp] theorem State.modUpd_gradeI (f : Update → Update) : (s.modUpd f).gradeI = s.gradeI := rfl
@[simp] theorem State.modUpd_breakout (f : Update → Update) : (s.modUpd f).breakout = s.breakout := rfl
@[simp] theorem State.modUpd_breakoutRun (f : Update → Update) : (s.modUpd f).breakoutRun = s.breakoutRun := rfl
@[simp] theorem State.modUpd_savedRegs (f : Update → Update) : (s.modUpd f).savedRegs = s.savedRegs := rfl
@[simp] theorem State.modUpd_savedBlobs (f : Update → Update) : (s.modUpd f).savedBlobs = s.savedBlobs := rfl
@[simp] theorem State.modUpd_hk (f : Update → Update) : (s.modUpd f).hk = s.hk := rfl
@[simp] theorem State.modUpd_tx (f : Update → Update) : (s.modUpd f).tx = s.tx := rfl
@[simp] theorem State.modUpd_adc (f : Update → Update) : (s.modUpd f).adc = s.adc := rfl
@[simp] theorem State.modUpd_rxsynth (f : Update → Update) : (s.modUpd f).rxsynth = s.rxsynth := rfl
@[simp] theorem State.modUpd_rx (f : Update → Update) : (s.modUpd f).rx = s.rx := rfl
@[simp] theorem State.modUpd_eng (f : Update → Update) : (s.modUpd f).eng = s.eng := rfl
@[simp] theorem State.modUpd_outerLane (f : Update → Update) : (s.modUpd f).outerLane = s.outerLane := rfl
@[simp] theorem State.modUpd_outerPort (f : Update → Update) : (s.modUpd f).outerPort = s.outerPort := rfl
@[simp] theorem State.modUpd_tic (f : Update → Update) : (s.modUpd f).tic = s.tic := rfl
@[simp] theorem State.modUpd_pool (f : Update → Update) : (s.modUpd f).pool = s.pool := rfl
@[simp] theorem State.modUpd_cwCount (f : Update → Update) : (s.modUpd f).cwCount = s.cwCount := rfl
@[simp] theorem State.modUpd_link (f : Update → Update) : (s.modUpd f).link = s.link := rfl
@[simp] theorem State.modUpd_ds (f : Update → Update) : (s.modUpd f).ds = s.ds := rfl
@[simp] theorem State.modUpd_hostLane (f : Update → Update) : (s.modUpd f).hostLane = s.hostLane := rfl
@[simp] theorem State.modUpd_hostInst (f : Update → Update) : (s.modUpd f).hostInst = s.hostInst := rfl
@[simp] theorem State.modUpd_hostSkew (f : Update → Update) : (s.modUpd f).hostSkew = s.hostSkew := rfl
@[simp] theorem State.modUpd_port (f : Update → Update) : (s.modUpd f).port = s.port := rfl
@[simp] theorem State.modUpd_srch (f : Update → Update) : (s.modUpd f).srch = s.srch := rfl
@[simp] theorem State.modUpd_test (f : Update → Update) : (s.modUpd f).test = s.test := rfl
@[simp] theorem State.modUpd_service (f : Update → Update) : (s.modUpd f).service = s.service := rfl
@[simp] theorem State.modUpd_fabric (f : Update → Update) : (s.modUpd f).fabric = s.fabric := rfl
@[simp] theorem State.modUpd_avs (f : Update → Update) : (s.modUpd f).avs = s.avs := rfl
@[simp] theorem State.modUpd_therm (f : Update → Update) : (s.modUpd f).therm = s.therm := rfl
@[simp] theorem State.modUpd_start (f : Update → Update) : (s.modUpd f).start = s.start := rfl
@[simp] theorem State.modUpd_tap (f : Update → Update) : (s.modUpd f).tap = s.tap := rfl
@[simp] theorem State.modUpd_mem (f : Update → Update) : (s.modUpd f).mem = s.mem := rfl
@[simp] theorem State.modUpd_capLost (f : Update → Update) : (s.modUpd f).capLost = s.capLost := rfl
@[simp] theorem State.modUpd_cap (f : Update → Update) : (s.modUpd f).cap = s.cap := rfl
@[simp] theorem State.modUpd_fuse (f : Update → Update) : (s.modUpd f).fuse = s.fuse := rfl
@[simp] theorem State.modUpd_analog (f : Update → Update) : (s.modUpd f).analog = s.analog := rfl
@[simp] theorem State.modUpd_flash (f : Update → Update) : (s.modUpd f).flash = s.flash := rfl
@[simp] theorem State.modUpd_freeCount (f : Update → Update) : (s.modUpd f).freeCount = s.freeCount := rfl
@[simp] theorem State.modUpd_pending (f : Update → Update) : (s.modUpd f).pending = s.pending := rfl
@[simp] theorem State.modUpd_reg (f : Update → Update) (jx js : Nat) : (s.modUpd f).reg jx js = s.reg jx js := rfl
@[simp] theorem State.modUpd_nat (f : Update → Update) (jx js : Nat) : (s.modUpd f).nat jx js = s.nat jx js := rfl
@[simp] theorem State.modUpd_flag (f : Update → Update) (jx js : Nat) : (s.modUpd f).flag jx js = s.flag jx js := rfl
@[simp] theorem State.modUpd_blob (f : Update → Update) (jx js : Nat) : (s.modUpd f).blob jx js = s.blob jx js := rfl

/-! ## modTap -/

@[simp] theorem State.modTap_regs (f : Tap → Tap) : (s.modTap f).regs = s.regs := rfl
@[simp] theorem State.modTap_blobs (f : Tap → Tap) : (s.modTap f).blobs = s.blobs := rfl
@[simp] theorem State.modTap_time (f : Tap → Tap) : (s.modTap f).time = s.time := rfl
@[simp] theorem State.modTap_mmp (f : Tap → Tap) : (s.modTap f).mmp = s.mmp := rfl
@[simp] theorem State.modTap_lookout (f : Tap → Tap) : (s.modTap f).lookout = s.lookout := rfl
@[simp] theorem State.modTap_doms (f : Tap → Tap) : (s.modTap f).doms = s.doms := rfl
@[simp] theorem State.modTap_partEA (f : Tap → Tap) : (s.modTap f).partEA = s.partEA := rfl
@[simp] theorem State.modTap_gradeI (f : Tap → Tap) : (s.modTap f).gradeI = s.gradeI := rfl
@[simp] theorem State.modTap_breakout (f : Tap → Tap) : (s.modTap f).breakout = s.breakout := rfl
@[simp] theorem State.modTap_breakoutRun (f : Tap → Tap) : (s.modTap f).breakoutRun = s.breakoutRun := rfl
@[simp] theorem State.modTap_savedRegs (f : Tap → Tap) : (s.modTap f).savedRegs = s.savedRegs := rfl
@[simp] theorem State.modTap_savedBlobs (f : Tap → Tap) : (s.modTap f).savedBlobs = s.savedBlobs := rfl
@[simp] theorem State.modTap_hk (f : Tap → Tap) : (s.modTap f).hk = s.hk := rfl
@[simp] theorem State.modTap_tx (f : Tap → Tap) : (s.modTap f).tx = s.tx := rfl
@[simp] theorem State.modTap_adc (f : Tap → Tap) : (s.modTap f).adc = s.adc := rfl
@[simp] theorem State.modTap_rxsynth (f : Tap → Tap) : (s.modTap f).rxsynth = s.rxsynth := rfl
@[simp] theorem State.modTap_rx (f : Tap → Tap) : (s.modTap f).rx = s.rx := rfl
@[simp] theorem State.modTap_eng (f : Tap → Tap) : (s.modTap f).eng = s.eng := rfl
@[simp] theorem State.modTap_outerLane (f : Tap → Tap) : (s.modTap f).outerLane = s.outerLane := rfl
@[simp] theorem State.modTap_outerPort (f : Tap → Tap) : (s.modTap f).outerPort = s.outerPort := rfl
@[simp] theorem State.modTap_tic (f : Tap → Tap) : (s.modTap f).tic = s.tic := rfl
@[simp] theorem State.modTap_pool (f : Tap → Tap) : (s.modTap f).pool = s.pool := rfl
@[simp] theorem State.modTap_cwCount (f : Tap → Tap) : (s.modTap f).cwCount = s.cwCount := rfl
@[simp] theorem State.modTap_link (f : Tap → Tap) : (s.modTap f).link = s.link := rfl
@[simp] theorem State.modTap_ds (f : Tap → Tap) : (s.modTap f).ds = s.ds := rfl
@[simp] theorem State.modTap_hostLane (f : Tap → Tap) : (s.modTap f).hostLane = s.hostLane := rfl
@[simp] theorem State.modTap_hostInst (f : Tap → Tap) : (s.modTap f).hostInst = s.hostInst := rfl
@[simp] theorem State.modTap_hostSkew (f : Tap → Tap) : (s.modTap f).hostSkew = s.hostSkew := rfl
@[simp] theorem State.modTap_port (f : Tap → Tap) : (s.modTap f).port = s.port := rfl
@[simp] theorem State.modTap_srch (f : Tap → Tap) : (s.modTap f).srch = s.srch := rfl
@[simp] theorem State.modTap_test (f : Tap → Tap) : (s.modTap f).test = s.test := rfl
@[simp] theorem State.modTap_service (f : Tap → Tap) : (s.modTap f).service = s.service := rfl
@[simp] theorem State.modTap_fabric (f : Tap → Tap) : (s.modTap f).fabric = s.fabric := rfl
@[simp] theorem State.modTap_avs (f : Tap → Tap) : (s.modTap f).avs = s.avs := rfl
@[simp] theorem State.modTap_therm (f : Tap → Tap) : (s.modTap f).therm = s.therm := rfl
@[simp] theorem State.modTap_start (f : Tap → Tap) : (s.modTap f).start = s.start := rfl
@[simp] theorem State.modTap_mem (f : Tap → Tap) : (s.modTap f).mem = s.mem := rfl
@[simp] theorem State.modTap_capLost (f : Tap → Tap) : (s.modTap f).capLost = s.capLost := rfl
@[simp] theorem State.modTap_cap (f : Tap → Tap) : (s.modTap f).cap = s.cap := rfl
@[simp] theorem State.modTap_fuse (f : Tap → Tap) : (s.modTap f).fuse = s.fuse := rfl
@[simp] theorem State.modTap_analog (f : Tap → Tap) : (s.modTap f).analog = s.analog := rfl
@[simp] theorem State.modTap_flash (f : Tap → Tap) : (s.modTap f).flash = s.flash := rfl
@[simp] theorem State.modTap_upd (f : Tap → Tap) : (s.modTap f).upd = s.upd := rfl
@[simp] theorem State.modTap_freeCount (f : Tap → Tap) : (s.modTap f).freeCount = s.freeCount := rfl
@[simp] theorem State.modTap_pending (f : Tap → Tap) : (s.modTap f).pending = s.pending := rfl
@[simp] theorem State.modTap_reg (f : Tap → Tap) (jx js : Nat) : (s.modTap f).reg jx js = s.reg jx js := rfl
@[simp] theorem State.modTap_nat (f : Tap → Tap) (jx js : Nat) : (s.modTap f).nat jx js = s.nat jx js := rfl
@[simp] theorem State.modTap_flag (f : Tap → Tap) (jx js : Nat) : (s.modTap f).flag jx js = s.flag jx js := rfl
@[simp] theorem State.modTap_blob (f : Tap → Tap) (jx js : Nat) : (s.modTap f).blob jx js = s.blob jx js := rfl

end Sys2Proof.Machine
end

