-- ==== Sys2Proof/Laws/Store.lean ====
section
/-! SUPPORT. The laws of the sparse store: reading after writing, and the canonical form that every operation keeps. -/

namespace Sys2Proof

variable {α : Type}

theorem Store.get_insert_self (d : Nat → α) (m : Store α) (k : Nat) (v : α) (h : ∀ c ∈ m, c.1 ≠ k) :
    Store.get d (Store.insert m k v) k = v := by
  induction m with
  | nil => simp [Store.insert, Store.get]
  | cons c m ih =>
    obtain ⟨k', v'⟩ := c
    have hk : k' ≠ k := h (k', v') (by simp)
    have ht : ∀ c ∈ m, c.1 ≠ k := fun c hc => h c (by simp [hc])
    unfold Store.insert
    split
    · simp [Store.get]
    · simp [Store.get, hk, ih ht]

theorem Store.get_insert_ne (d : Nat → α) (m : Store α) (k k2 : Nat) (v : α) (hk : k ≠ k2) :
    Store.get d (Store.insert m k v) k2 = Store.get d m k2 := by
  induction m with
  | nil => simp [Store.insert, Store.get, hk]
  | cons c m ih =>
    obtain ⟨k', v'⟩ := c
    unfold Store.insert
    split
    · simp [Store.get, hk]
    · simp [Store.get, ih]

theorem Store.get_erase_self (d : Nat → α) (m : Store α) (k : Nat) : Store.get d (m.erase k) k = d k := by
  induction m with
  | nil => rfl
  | cons c m ih =>
    by_cases h : c.1 = k
    · simpa [Store.erase, h] using ih
    · simp only [Store.erase] at ih ⊢
      simp [h, Store.get, ih]

theorem Store.get_erase_ne (d : Nat → α) (m : Store α) (k k2 : Nat) (hk : k ≠ k2) :
    Store.get d (m.erase k) k2 = Store.get d m k2 := by
  induction m with
  | nil => rfl
  | cons c m ih =>
    simp only [Store.erase] at ih ⊢
    by_cases h : c.1 = k
    · have : c.1 ≠ k2 := by omega
      simp [h, Store.get, ih, hk]
    · simp [h, Store.get, ih]

theorem Store.not_mem_erase (m : Store α) (k : Nat) : ∀ c ∈ m.erase k, c.1 ≠ k := by
  intro c hc
  simpa using (List.mem_filter.mp hc).2

variable [DecidableEq α]

/-- A read of the key written gives the value written. -/
@[simp] theorem Store.get_put_self (d : Nat → α) (m : Store α) (k : Nat) (v : α) : Store.get d (m.put d k v) k = v := by
  unfold Store.put
  split
  · rename_i h; rw [Store.get_erase_self, h]
  · exact Store.get_insert_self d _ k v (Store.not_mem_erase m k)

/-- A write leaves every other key as it was. -/
theorem Store.get_put_ne (d : Nat → α) (m : Store α) (k k2 : Nat) (v : α) (hk : k ≠ k2) :
    Store.get d (m.put d k v) k2 = Store.get d m k2 := by
  unfold Store.put
  split
  · exact Store.get_erase_ne d m k k2 hk
  · rw [Store.get_insert_ne d _ k k2 v hk, Store.get_erase_ne d m k k2 hk]

/-- The canonical form, said of the pairs: keys rise strictly and no pair equals what its key reads as unlisted. -/
theorem Store.wf_iff (d : Nat → α) (m : Store α) :
    Store.wf d m = true ↔ m.Pairwise (fun a b => a.1 < b.1) ∧ ∀ c ∈ m, c.2 ≠ d c.1 := by
  induction m with
  | nil => simp [Store.wf]
  | cons c m ih =>
    cases m with
    | nil => obtain ⟨k, v⟩ := c; simp [Store.wf]
    | cons c2 m =>
      obtain ⟨k, v⟩ := c
      obtain ⟨k2, v2⟩ := c2
      simp only [Store.wf, Bool.and_eq_true, decide_eq_true_eq, ih]
      constructor
      · rintro ⟨⟨h1, h2⟩, h3, h4⟩
        refine ⟨List.pairwise_cons.mpr ⟨?_, h3⟩, ?_⟩
        · intro c hc
          rcases List.mem_cons.mp hc with rfl | hc
          · exact h1
          · exact Nat.lt_trans h1 ((List.pairwise_cons.mp h3).1 c hc)
        · intro c hc
          rcases List.mem_cons.mp hc with rfl | hc
          · exact h2
          · exact h4 c hc
      · rintro ⟨h1, h2⟩
        obtain ⟨h5, h6⟩ := List.pairwise_cons.mp h1
        exact ⟨⟨h5 (k2, v2) (by simp), h2 (k, v) (by simp)⟩, h6, fun c hc => h2 c (List.mem_cons_of_mem _ hc)⟩

/-- Dropping pairs keeps the canonical form. -/
theorem Store.wf_filter (d : Nat → α) (m : Store α) (p : Nat × α → Bool) (h : Store.wf d m = true) :
    Store.wf d (m.filter p) = true := by
  rw [Store.wf_iff] at h ⊢
  exact ⟨h.1.sublist List.filter_sublist, fun c hc => h.2 c (List.mem_filter.mp hc).1⟩

theorem Store.mem_insert (m : Store α) (k : Nat) (v : α) (c : Nat × α) :
    c ∈ Store.insert m k v ↔ c = (k, v) ∨ c ∈ m := by
  induction m with
  | nil => simp [Store.insert]
  | cons e m ih =>
    obtain ⟨k', v'⟩ := e
    unfold Store.insert
    split
    · simp
    · simp only [List.mem_cons, ih]; tauto

theorem Store.pairwise_insert (m : Store α) (k : Nat) (v : α) (h : m.Pairwise (fun a b => a.1 < b.1)) (hk : ∀ c ∈ m, c.1 ≠ k) :
    (Store.insert m k v).Pairwise (fun a b => a.1 < b.1) := by
  induction m with
  | nil => simp [Store.insert]
  | cons e m ih =>
    obtain ⟨k', v'⟩ := e
    obtain ⟨h1, h2⟩ := List.pairwise_cons.mp h
    have hne : k' ≠ k := hk (k', v') (by simp)
    unfold Store.insert
    split
    · rename_i hlt
      refine List.pairwise_cons.mpr ⟨?_, h⟩
      intro c hc
      rcases List.mem_cons.mp hc with rfl | hc
      · exact hlt
      · exact Nat.lt_trans hlt (h1 c hc)
    · refine List.pairwise_cons.mpr ⟨?_, ih h2 (fun c hc => hk c (by simp [hc]))⟩
      intro c hc
      rcases (Store.mem_insert m k v c).mp hc with rfl | hc
      · show k' < k; omega
      · exact h1 c hc

/-- A write keeps the canonical form. -/
theorem Store.wf_put (d : Nat → α) (m : Store α) (k : Nat) (v : α) (h : Store.wf d m = true) :
    Store.wf d (m.put d k v) = true := by
  unfold Store.put
  split
  · exact Store.wf_filter d m _ h
  · rename_i hv
    have he := Store.wf_filter d m (fun c => c.1 != k) h
    rw [Store.wf_iff] at he ⊢
    refine ⟨Store.pairwise_insert _ k v he.1 (Store.not_mem_erase m k), ?_⟩
    intro c hc
    rcases (Store.mem_insert _ k v c).mp hc with rfl | hc
    · exact hv
    · exact he.2 c hc

end Sys2Proof
end

