-- ==== Sys2Proof/Laws/Regs.lean ====
section
/-! SUPPORT. Reading an object after writing one; counters; and what raising an event can do. -/

namespace Sys2Proof.Machine

/-! ## Keys -/

theorem objKey_ne_of_ix {a b i j : Nat} (hi : i < 256) (hj : j < 256) (h : a ≠ b) : objKey a i ≠ objKey b j := by
  unfold objKey; omega

theorem objKey_ne_of_sub {a b i j : Nat} (hi : i < 256) (hj : j < 256) (h : i ≠ j) : objKey a i ≠ objKey b j := by
  unfold objKey; omega

theorem objKey_inj {a b i j : Nat} (hi : i < 256) (hj : j < 256) : objKey a i = objKey b j ↔ a = b ∧ i = j := by
  unfold objKey; omega

/-! ## Objects -/

@[simp] theorem State.reg_setReg_self (s : State) (ix sub : Nat) (v : Int) : (s.setReg ix sub v).reg ix sub = v :=
  Store.get_put_self _ _ _ _

theorem State.reg_setReg_ne (s : State) (ix sub jx js : Nat) (v : Int) (h : objKey ix sub ≠ objKey jx js) :
    (s.setReg ix sub v).reg jx js = s.reg jx js := Store.get_put_ne _ _ _ _ _ h

theorem State.reg_setReg (s : State) (ix sub jx js : Nat) (v : Int) (hi : sub < 256) (hj : js < 256) :
    (s.setReg ix sub v).reg jx js = if ix = jx ∧ sub = js then v else s.reg jx js := by
  split
  · rename_i h; obtain ⟨rfl, rfl⟩ := h; exact State.reg_setReg_self _ _ _ _
  · rename_i h; exact State.reg_setReg_ne _ _ _ _ _ _ (fun e => h ((objKey_inj hi hj).mp e))

@[simp] theorem State.nat_setReg_self (s : State) (ix sub : Nat) (v : Int) : (s.setReg ix sub v).nat ix sub = v.toNat := by
  simp [State.nat]

@[simp] theorem State.flag_setReg_self (s : State) (ix sub : Nat) (v : Int) : (s.setReg ix sub v).flag ix sub = (v != 0) := by
  simp [State.flag]

@[simp] theorem State.blob_setBlob_self (s : State) (ix sub : Nat) (v : List Byte) : (s.setBlob ix sub v).blob ix sub = v :=
  Store.get_put_self _ _ _ _

theorem State.blob_setBlob_ne (s : State) (ix sub jx js : Nat) (v : List Byte) (h : objKey ix sub ≠ objKey jx js) :
    (s.setBlob ix sub v).blob jx js = s.blob jx js := Store.get_put_ne _ _ _ _ _ h

/-! ## Counters -/

/-- A counter adds and saturates. -/
@[simp] theorem State.reg_bumpTo_self (s : State) (m ix sub n : Nat) :
    (s.bumpTo m ix sub n).reg ix sub = (min m (s.nat ix sub + n) : Nat) := by simp [State.bumpTo]

theorem State.bumpTo_eq (s : State) (m ix sub n : Nat) :
    s.bumpTo m ix sub n = s.setReg ix sub ((min m (s.nat ix sub + n) : Nat) : Int) := rfl

theorem State.bump_eq (s : State) (ix sub n : Nat) : s.bump ix sub n = s.bumpTo (2 ^ 32 - 1) ix sub n := rfl
theorem State.bump64_eq (s : State) (ix sub n : Nat) : s.bump64 ix sub n = s.bumpTo (2 ^ 64 - 1) ix sub n := rfl
theorem State.bump8_eq (s : State) (ix sub n : Nat) : s.bump8 ix sub n = s.bumpTo 255 ix sub n := rfl
theorem State.setStamp_eq (s : State) (ix sub : Nat) : s.setStamp ix sub = s.setReg ix sub (s.stamp : Int) := rfl

end Sys2Proof.Machine
end

