-- ==== Sys2Proof/Laws/Serve.lean ====
section
/-! SUPPORT. What the server makes of a request that it accepts, and what a reply changes. -/

namespace Sys2Proof.Machine

theorem State.arrive_pend (s : State) (p : Path) (f : List Byte) : (s.arrive p f).mmp.pend = s.mmp.pend := by
  unfold State.arrive; split <;> rfl

theorem State.arrive_fwd (s : State) (p : Path) (f : List Byte) : (s.arrive p f).mmp.fwd = s.mmp.fwd := by
  unfold State.arrive; split <;> rfl

@[simp] theorem State.modTp_tp_self (s : State) (p : Path) (f : Transport → Transport) : (s.modTp p f).tp p = f (s.tp p) := by
  simp [State.tp, State.modTp]

theorem State.arrive_last (s : State) (p : Path) (f : List Byte) : ((s.arrive p f).tp p).last = (s.tp p).last := by
  unfold State.arrive
  split
  · rw [State.modTp_tp_self]
  · rw [State.modTp_tp_self]; rfl

theorem State.arrive_wait (s : State) (p : Path) (f : List Byte) : ((s.arrive p f).tp p).wait = (s.tp p).wait := by
  unfold State.arrive
  split
  · rw [State.modTp_tp_self]
  · rw [State.modTp_tp_self]; rfl

theorem State.tagBusy_arrive (s : State) (p : Path) (f : List Byte) (tag : Byte) :
    (s.arrive p f).tagBusy p tag = s.tagBusy p tag := by
  unfold State.tagBusy
  rw [State.arrive_pend, State.arrive_fwd, State.arrive_wait]

/-- An accepted request is answered by its object's own rule alone. -/
theorem State.serve_of_accepts (s : State) (r : Req) (op : Opcode) (ix sub : Nat) (pl : List Byte) (own : State → Verdict)
    (h : s.Accepts r op ix sub pl) :
    s.serve r op ix sub pl own =
      match own (s.taken r op ix sub pl) with
      | .deny st => (s.taken r op ix sub pl).reply r op ix sub st []
      | .fail s' st => s'.reply r op ix sub st []
      | .done s' out => s'.reply r op ix sub St.OK out
      | .names s' ix' out => s'.replyAt r op ix' 0 St.OK out
      | .later s' => s'.defer r op ix sub := by
  obtain ⟨hm, hb, hn, ht, hr, hg, hs⟩ := h
  have hdup : (if opChanges op = true then
      ((s.arrive r.path (closeFrame (frameBody r op ix sub pl))).tp r.path).last.find?
        (fun l => l.tag == r.tag && l.crc == crc16 (frameBody r op ix sub pl)) else none) = none := by
    split
    · rename_i ho
      rw [State.arrive_last, List.find?_eq_none]
      intro l hl
      have := hn ho l hl
      simp only [Bool.and_eq_true, beq_iff_eq, not_and]
      exact this
    · rfl
  have htop : (if op = .read then topSub ix sub else none) = none := by
    split
    · exact hs ‹_›
    · rfl
  have htag : (s.arrive r.path (closeFrame (frameBody r op ix sub pl))).tagBusy r.path r.tag = false := by
    rw [State.tagBusy_arrive]; exact ht
  have hroom : ¬ 8 ≤ (s.taken r op ix sub pl).outstanding r.path := by omega
  unfold State.serve
  simp only [hm, Bool.not_true, Bool.false_and, Bool.false_eq_true, if_false, hb, hdup, htag]
  unfold State.taken at hroom hg
  simp only at hroom hg
  simp only [hroom, if_false, hg, ne_eq, not_true_eq_false, htop]
  rfl

theorem State.serve_done {s u : State} {r : Req} {op : Opcode} {ix sub : Nat} {pl out : List Byte} {own : State → Verdict}
    (h : s.Accepts r op ix sub pl) (ho : own (s.taken r op ix sub pl) = .done u out) :
    s.serve r op ix sub pl own = u.reply r op ix sub St.OK out := by
  rw [State.serve_of_accepts _ _ _ _ _ _ _ h, ho]

theorem State.serve_deny {s : State} {r : Req} {op : Opcode} {ix sub st : Nat} {pl : List Byte} {own : State → Verdict}
    (h : s.Accepts r op ix sub pl) (ho : own (s.taken r op ix sub pl) = .deny st) :
    s.serve r op ix sub pl own = (s.taken r op ix sub pl).reply r op ix sub st [] := by
  rw [State.serve_of_accepts _ _ _ _ _ _ _ h, ho]

theorem State.serve_fail {s u : State} {r : Req} {op : Opcode} {ix sub st : Nat} {pl : List Byte} {own : State → Verdict}
    (h : s.Accepts r op ix sub pl) (ho : own (s.taken r op ix sub pl) = .fail u st) :
    s.serve r op ix sub pl own = u.reply r op ix sub st [] := by
  rw [State.serve_of_accepts _ _ _ _ _ _ _ h, ho]

theorem State.serve_later_exec {s u : State} {r : Req} {ix sub : Nat} {pl : List Byte} {own : State → Verdict}
    (h : s.Accepts r .exec ix sub pl) (ho : own (s.taken r .exec ix sub pl) = .later u) :
    s.serve r .exec ix sub pl own = u.pendAdd ⟨r, .exec, ix, sub⟩ := by
  rw [State.serve_of_accepts _ _ _ _ _ _ _ h, ho]; rfl

end Sys2Proof.Machine
end

