-- ==== Sys2Proof/Laws/Frame.lean ====
section
/-! SUPPORT. What a request's arrival, a reply and a raised event leave as they were. -/

namespace Sys2Proof.Machine

/-! ## Arrival and reply -/

theorem State.arrive_eq (s : State) (p : Path) (f : List Byte) :
    s.arrive p f = { s with regs := (s.arrive p f).regs, mmp := (s.arrive p f).mmp } := by
  unfold State.arrive; split <;> rfl

/-- A request as its object's rule sees it differs from the state before in the frame counter and the transports alone. -/
theorem State.taken_eq (s : State) (r : Req) (op : Opcode) (ix sub : Nat) (pl : List Byte) :
    s.taken r op ix sub pl =
      { s with regs := (s.taken r op ix sub pl).regs, mmp := (s.taken r op ix sub pl).mmp } := by
  have h := State.arrive_eq s r.path (closeFrame (frameBody r op ix sub pl))
  have key : ∀ a : State, a = { s with regs := a.regs, mmp := a.mmp } →
      (if opChanges op = true then a.modTp r.path (fun t => noteReq t r.tag (crc16 (frameBody r op ix sub pl))) else a) =
        { s with
          regs := (if opChanges op = true then a.modTp r.path (fun t => noteReq t r.tag (crc16 (frameBody r op ix sub pl))) else a).regs
          mmp := (if opChanges op = true then a.modTp r.path (fun t => noteReq t r.tag (crc16 (frameBody r op ix sub pl))) else a).mmp } := by
    intro a ha
    split
    · rw [ha]; rfl
    · exact ha
  exact key _ h

theorem State.arrive_reg (s : State) (p : Path) (f : List Byte) (jx js : Nat) (hj : js < 256) (h : jx ≠ Ob.MMP_RX_FRAMES) :
    (s.arrive p f).reg jx js = s.reg jx js := by
  unfold State.arrive
  split
  · rfl
  · exact State.reg_setReg_ne _ _ _ _ _ _ (objKey_ne_of_ix (by cases p <;> simp [Path.sub]; omega) hj (Ne.symm h))

/-- Only the frame counter of R366 reads otherwise in the state that an object's rule sees. -/
theorem State.taken_reg (s : State) (r : Req) (op : Opcode) (ix sub : Nat) (pl : List Byte) (jx js : Nat) (hj : js < 256)
    (h : jx ≠ Ob.MMP_RX_FRAMES) : (s.taken r op ix sub pl).reg jx js = s.reg jx js := by
  have ha := State.arrive_reg s r.path (closeFrame (frameBody r op ix sub pl)) jx js hj h
  unfold State.taken
  simp only
  split
  · exact ha
  · exact ha

theorem State.taken_nat (s : State) (r : Req) (op : Opcode) (ix sub : Nat) (pl : List Byte) (jx js : Nat) (hj : js < 256)
    (h : jx ≠ Ob.MMP_RX_FRAMES) : (s.taken r op ix sub pl).nat jx js = s.nat jx js := by
  unfold State.nat; rw [State.taken_reg _ _ _ _ _ _ _ _ hj h]

theorem State.taken_flag (s : State) (r : Req) (op : Opcode) (ix sub : Nat) (pl : List Byte) (jx js : Nat) (hj : js < 256)
    (h : jx ≠ Ob.MMP_RX_FRAMES) : (s.taken r op ix sub pl).flag jx js = s.flag jx js := by
  unfold State.flag; rw [State.taken_reg _ _ _ _ _ _ _ _ hj h]

theorem State.pushReply_eq (s : State) (p : Path) (f : List Byte) :
    s.pushReply p f = { s with mmp := (s.pushReply p f).mmp } := rfl

theorem State.forEach_pushReply_eq (l : List (List Byte)) (p : Path) (s : State) :
    forEach l (fun f s => s.pushReply p f) s = { s with mmp := (forEach l (fun f s => s.pushReply p f) s).mmp } := by
  unfold forEach
  induction l generalizing s with
  | nil => rfl
  | cons a l ih => rw [List.foldl_cons, ih]; rfl

theorem State.pushOrdered_eq (s : State) (p : Path) (e : Bool) (tag : Byte) (f : List Byte) :
    s.pushOrdered p e tag f = { s with mmp := (s.pushOrdered p e tag f).mmp } := by
  unfold State.pushOrdered
  split
  · rfl
  · exact State.forEach_pushReply_eq _ _ _

theorem State.replyAt_eq (s : State) (r : Req) (op : Opcode) (ix sub st : Nat) (out : List Byte) :
    s.replyAt r op ix sub st out = { s with mmp := (s.replyAt r op ix sub st out).mmp } := by
  unfold State.replyAt
  simp only
  rw [State.pushOrdered_eq]
  rfl

/-- A reply changes the transports alone. -/
theorem State.reply_eq (s : State) (r : Req) (op : Opcode) (ix sub st : Nat) (out : List Byte) :
    s.reply r op ix sub st out = { s with mmp := (s.reply r op ix sub st out).mmp } := by
  unfold State.reply
  rw [State.replyAt_eq]
  split <;> rfl

@[simp] theorem State.taken_blobs (s : State) (r : Req) (op : Opcode) (ix sub : Nat) (pl : List Byte) :
    (s.taken r op ix sub pl).blobs = s.blobs := by rw [State.taken_eq]
@[simp] theorem State.taken_time (s : State) (r : Req) (op : Opcode) (ix sub : Nat) (pl : List Byte) :
    (s.taken r op ix sub pl).time = s.time := by rw [State.taken_eq]
@[simp] theorem State.taken_lookout (s : State) (r : Req) (op : Opcode) (ix sub : Nat) (pl : List Byte) :
    (s.taken r op ix sub pl).lookout = s.lookout := by rw [State.taken_eq]
@[simp] theorem State.taken_doms (s : State) (r : Req) (op : Opcode) (ix sub : Nat) (pl : List Byte) :
    (s.taken r op ix sub pl).doms = s.doms := by rw [State.taken_eq]
@[simp] theorem State.taken_partEA (s : State) (r : Req) (op : Opcode) (ix sub : Nat) (pl : List Byte) :
    (s.taken r op ix sub pl).partEA = s.partEA := by rw [State.taken_eq]
@[simp] theorem State.taken_gradeI (s : State) (r : Req) (op : Opcode) (ix sub : Nat) (pl : List Byte) :
    (s.taken r op ix sub pl).gradeI = s.gradeI := by rw [State.taken_eq]
@[simp] theorem State.taken_breakout (s : State) (r : Req) (op : Opcode) (ix sub : Nat) (pl : List Byte) :
    (s.taken r op ix sub pl).breakout = s.breakout := by rw [State.taken_eq]
@[simp] theorem State.taken_breakoutRun (s : State) (r : Req) (op : Opcode) (ix sub : Nat) (pl : List Byte) :
    (s.taken r op ix sub pl).breakoutRun = s.breakoutRun := by rw [State.taken_eq]
@[simp] theorem State.taken_savedRegs (s : State) (r : Req) (op : Opcode) (ix sub : Nat) (pl : List Byte) :
    (s.taken r op ix sub pl).savedRegs = s.savedRegs := by rw [State.taken_eq]
@[simp] theorem State.taken_savedBlobs (s : State) (r : Req) (op : Opcode) (ix sub : Nat) (pl : List Byte) :
    (s.taken r op ix sub pl).savedBlobs = s.savedBlobs := by rw [State.taken_eq]
@[simp] theorem State.taken_hk (s : State) (r : Req) (op : Opcode) (ix sub : Nat) (pl : List Byte) :
    (s.taken r op ix sub pl).hk = s.hk := by rw [State.taken_eq]
@[simp] theorem State.taken_tx (s : State) (r : Req) (op : Opcode) (ix sub : Nat) (pl : List Byte) :
    (s.taken r op ix sub pl).tx = s.tx := by rw [State.taken_eq]
@[simp] theorem State.taken_adc (s : State) (r : Req) (op : Opcode) (ix sub : Nat) (pl : List Byte) :
    (s.taken r op ix sub pl).adc = s.adc := by rw [State.taken_eq]
@[simp] theorem State.taken_rxsynth (s : State) (r : Req) (op : Opcode) (ix sub : Nat) (pl : List Byte) :
    (s.taken r op ix sub pl).rxsynth = s.rxsynth := by rw [State.taken_eq]
@[simp] theorem State.taken_rx (s : State) (r : Req) (op : Opcode) (ix sub : Nat) (pl : List Byte) :
    (s.taken r op ix sub pl).rx = s.rx := by rw [State.taken_eq]
@[simp] theorem State.taken_eng (s : State) (r : Req) (op : Opcode) (ix sub : Nat) (pl : List Byte) :
    (s.taken r op ix sub pl).eng = s.eng := by rw [State.taken_eq]
@[simp] theorem State.taken_outerLane (s : State) (r : Req) (op : Opcode) (ix sub : Nat) (pl : List Byte) :
    (s.taken r op ix sub pl).outerLane = s.outerLane := by rw [State.taken_eq]
@[simp] theorem State.taken_outerPort (s : State) (r : Req) (op : Opcode) (ix sub : Nat) (pl : List Byte) :
    (s.taken r op ix sub pl).outerPort = s.outerPort := by rw [State.taken_eq]
@[simp] theorem State.taken_tic (s : State) (r : Req) (op : Opcode) (ix sub : Nat) (pl : List Byte) :
    (s.taken r op ix sub pl).tic = s.tic := by rw [State.taken_eq]
@[simp] theorem State.taken_pool (s : State) (r : Req) (op : Opcode) (ix sub : Nat) (pl : List Byte) :
    (s.taken r op ix sub pl).pool = s.pool := by rw [State.taken_eq]
@[simp] theorem State.taken_cwCount (s : State) (r : Req) (op : Opcode) (ix sub : Nat) (pl : List Byte) :
    (s.taken r op ix sub pl).cwCount = s.cwCount := by rw [State.taken_eq]
@[simp] theorem State.taken_link (s : State) (r : Req) (op : Opcode) (ix sub : Nat) (pl : List Byte) :
    (s.taken r op ix sub pl).link = s.link := by rw [State.taken_eq]
@[simp] theorem State.taken_ds (s : State) (r : Req) (op : Opcode) (ix sub : Nat) (pl : List Byte) :
    (s.taken r op ix sub pl).ds = s.ds := by rw [State.taken_eq]
@[simp] theorem State.taken_hostLane (s : State) (r : Req) (op : Opcode) (ix sub : Nat) (pl : List Byte) :
    (s.taken r op ix sub pl).hostLane = s.hostLane := by rw [State.taken_eq]
@[simp] theorem State.taken_hostInst (s : State) (r : Req) (op : Opcode) (ix sub : Nat) (pl : List Byte) :
    (s.taken r op ix sub pl).hostInst = s.hostInst := by rw [State.taken_eq]
@[simp] theorem State.taken_hostSkew (s : State) (r : Req) (op : Opcode) (ix sub : Nat) (pl : List Byte) :
    (s.taken r op ix sub pl).hostSkew = s.hostSkew := by rw [State.taken_eq]
@[simp] theorem State.taken_port (s : State) (r : Req) (op : Opcode) (ix sub : Nat) (pl : List Byte) :
    (s.taken r op ix sub pl).port = s.port := by rw [State.taken_eq]
@[simp] theorem State.taken_srch (s : State) (r : Req) (op : Opcode) (ix sub : Nat) (pl : List Byte) :
    (s.taken r op ix sub pl).srch = s.srch := by rw [State.taken_eq]
@[simp] theorem State.taken_test (s : State) (r : Req) (op : Opcode) (ix sub : Nat) (pl : List Byte) :
    (s.taken r op ix sub pl).test = s.test := by rw [State.taken_eq]
@[simp] theorem State.taken_service (s : State) (r : Req) (op : Opcode) (ix sub : Nat) (pl : List Byte) :
    (s.taken r op ix sub pl).service = s.service := by rw [State.taken_eq]
@[simp] theorem State.taken_fabric (s : State) (r : Req) (op : Opcode) (ix sub : Nat) (pl : List Byte) :
    (s.taken r op ix sub pl).fabric = s.fabric := by rw [State.taken_eq]
@[simp] theorem State.taken_avs (s : State) (r : Req) (op : Opcode) (ix sub : Nat) (pl : List Byte) :
    (s.taken r op ix sub pl).avs = s.avs := by rw [State.taken_eq]
@[simp] theorem State.taken_therm (s : State) (r : Req) (op : Opcode) (ix sub : Nat) (pl : List Byte) :
    (s.taken r op ix sub pl).therm = s.therm := by rw [State.taken_eq]
@[simp] theorem State.taken_start (s : State) (r : Req) (op : Opcode) (ix sub : Nat) (pl : List Byte) :
    (s.taken r op ix sub pl).start = s.start := by rw [State.taken_eq]
@[simp] theorem State.taken_tap (s : State) (r : Req) (op : Opcode) (ix sub : Nat) (pl : List Byte) :
    (s.taken r op ix sub pl).tap = s.tap := by rw [State.taken_eq]
@[simp] theorem State.taken_mem (s : State) (r : Req) (op : Opcode) (ix sub : Nat) (pl : List Byte) :
    (s.taken r op ix sub pl).mem = s.mem := by rw [State.taken_eq]
@[simp] theorem State.taken_capLost (s : State) (r : Req) (op : Opcode) (ix sub : Nat) (pl : List Byte) :
    (s.taken r op ix sub pl).capLost = s.capLost := by rw [State.taken_eq]
@[simp] theorem State.taken_fuse (s : State) (r : Req) (op : Opcode) (ix sub : Nat) (pl : List Byte) :
    (s.taken r op ix sub pl).fuse = s.fuse := by rw [State.taken_eq]
@[simp] theorem State.taken_analog (s : State) (r : Req) (op : Opcode) (ix sub : Nat) (pl : List Byte) :
    (s.taken r op ix sub pl).analog = s.analog := by rw [State.taken_eq]
@[simp] theorem State.taken_flash (s : State) (r : Req) (op : Opcode) (ix sub : Nat) (pl : List Byte) :
    (s.taken r op ix sub pl).flash = s.flash := by rw [State.taken_eq]
@[simp] theorem State.taken_upd (s : State) (r : Req) (op : Opcode) (ix sub : Nat) (pl : List Byte) :
    (s.taken r op ix sub pl).upd = s.upd := by rw [State.taken_eq]
@[simp] theorem State.taken_freeCount (s : State) (r : Req) (op : Opcode) (ix sub : Nat) (pl : List Byte) :
    (s.taken r op ix sub pl).freeCount = s.freeCount := by rw [State.taken_eq]
@[simp] theorem State.taken_pending (s : State) (r : Req) (op : Opcode) (ix sub : Nat) (pl : List Byte) :
    (s.taken r op ix sub pl).pending = s.pending := by rw [State.taken_eq]

@[simp] theorem State.reply_regs (s : State) (r : Req) (op : Opcode) (ix sub st : Nat) (out : List Byte) :
    (s.reply r op ix sub st out).regs = s.regs := by rw [State.reply_eq]
@[simp] theorem State.reply_blobs (s : State) (r : Req) (op : Opcode) (ix sub st : Nat) (out : List Byte) :
    (s.reply r op ix sub st out).blobs = s.blobs := by rw [State.reply_eq]
@[simp] theorem State.reply_time (s : State) (r : Req) (op : Opcode) (ix sub st : Nat) (out : List Byte) :
    (s.reply r op ix sub st out).time = s.time := by rw [State.reply_eq]
@[simp] theorem State.reply_lookout (s : State) (r : Req) (op : Opcode) (ix sub st : Nat) (out : List Byte) :
    (s.reply r op ix sub st out).lookout = s.lookout := by rw [State.reply_eq]
@[simp] theorem State.reply_doms (s : State) (r : Req) (op : Opcode) (ix sub st : Nat) (out : List Byte) :
    (s.reply r op ix sub st out).doms = s.doms := by rw [State.reply_eq]
@[simp] theorem State.reply_partEA (s : State) (r : Req) (op : Opcode) (ix sub st : Nat) (out : List Byte) :
    (s.reply r op ix sub st out).partEA = s.partEA := by rw [State.reply_eq]
@[simp] theorem State.reply_gradeI (s : State) (r : Req) (op : Opcode) (ix sub st : Nat) (out : List Byte) :
    (s.reply r op ix sub st out).gradeI = s.gradeI := by rw [State.reply_eq]
@[simp] theorem State.reply_breakout (s : State) (r : Req) (op : Opcode) (ix sub st : Nat) (out : List Byte) :
    (s.reply r op ix sub st out).breakout = s.breakout := by rw [State.reply_eq]
@[simp] theorem State.reply_breakoutRun (s : State) (r : Req) (op : Opcode) (ix sub st : Nat) (out : List Byte) :
    (s.reply r op ix sub st out).breakoutRun = s.breakoutRun := by rw [State.reply_eq]
@[simp] theorem State.reply_savedRegs (s : State) (r : Req) (op : Opcode) (ix sub st : Nat) (out : List Byte) :
    (s.reply r op ix sub st out).savedRegs = s.savedRegs := by rw [State.reply_eq]
@[simp] theorem State.reply_savedBlobs (s : State) (r : Req) (op : Opcode) (ix sub st : Nat) (out : List Byte) :
    (s.reply r op ix sub st out).savedBlobs = s.savedBlobs := by rw [State.reply_eq]
@[simp] theorem State.reply_hk (s : State) (r : Req) (op : Opcode) (ix sub st : Nat) (out : List Byte) :
    (s.reply r op ix sub st out).hk = s.hk := by rw [State.reply_eq]
@[simp] theorem State.reply_tx (s : State) (r : Req) (op : Opcode) (ix sub st : Nat) (out : List Byte) :
    (s.reply r op ix sub st out).tx = s.tx := by rw [State.reply_eq]
@[simp] theorem State.reply_adc (s : State) (r : Req) (op : Opcode) (ix sub st : Nat) (out : List Byte) :
    (s.reply r op ix sub st out).adc = s.adc := by rw [State.reply_eq]
@[simp] theorem State.reply_rxsynth (s : State) (r : Req) (op : Opcode) (ix sub st : Nat) (out : List Byte) :
    (s.reply r op ix sub st out).rxsynth = s.rxsynth := by rw [State.reply_eq]
@[simp] theorem State.reply_rx (s : State) (r : Req) (op : Opcode) (ix sub st : Nat) (out : List Byte) :
    (s.reply r op ix sub st out).rx = s.rx := by rw [State.reply_eq]
@[simp] theorem State.reply_eng (s : State) (r : Req) (op : Opcode) (ix sub st : Nat) (out : List Byte) :
    (s.reply r op ix sub st out).eng = s.eng := by rw [State.reply_eq]
@[simp] theorem State.reply_outerLane (s : State) (r : Req) (op : Opcode) (ix sub st : Nat) (out : List Byte) :
    (s.reply r op ix sub st out).outerLane = s.outerLane := by rw [State.reply_eq]
@[simp] theorem State.reply_outerPort (s : State) (r : Req) (op : Opcode) (ix sub st : Nat) (out : List Byte) :
    (s.reply r op ix sub st out).outerPort = s.outerPort := by rw [State.reply_eq]
@[simp] theorem State.reply_tic (s : State) (r : Req) (op : Opcode) (ix sub st : Nat) (out : List Byte) :
    (s.reply r op ix sub st out).tic = s.tic := by rw [State.reply_eq]
@[simp] theorem State.reply_pool (s : State) (r : Req) (op : Opcode) (ix sub st : Nat) (out : List Byte) :
    (s.reply r op ix sub st out).pool = s.pool := by rw [State.reply_eq]
@[simp] theorem State.reply_cwCount (s : State) (r : Req) (op : Opcode) (ix sub st : Nat) (out : List Byte) :
    (s.reply r op ix sub st out).cwCount = s.cwCount := by rw [State.reply_eq]
@[simp] theorem State.reply_link (s : State) (r : Req) (op : Opcode) (ix sub st : Nat) (out : List Byte) :
    (s.reply r op ix sub st out).link = s.link := by rw [State.reply_eq]
@[simp] theorem State.reply_ds (s : State) (r : Req) (op : Opcode) (ix sub st : Nat) (out : List Byte) :
    (s.reply r op ix sub st out).ds = s.ds := by rw [State.reply_eq]
@[simp] theorem State.reply_hostLane (s : State) (r : Req) (op : Opcode) (ix sub st : Nat) (out : List Byte) :
    (s.reply r op ix sub st out).hostLane = s.hostLane := by rw [State.reply_eq]
@[simp] theorem State.reply_hostInst (s : State) (r : Req) (op : Opcode) (ix sub st : Nat) (out : List Byte) :
    (s.reply r op ix sub st out).hostInst = s.hostInst := by rw [State.reply_eq]
@[simp] theorem State.reply_hostSkew (s : State) (r : Req) (op : Opcode) (ix sub st : Nat) (out : List Byte) :
    (s.reply r op ix sub st out).hostSkew = s.hostSkew := by rw [State.reply_eq]
@[simp] theorem State.reply_port (s : State) (r : Req) (op : Opcode) (ix sub st : Nat) (out : List Byte) :
    (s.reply r op ix sub st out).port = s.port := by rw [State.reply_eq]
@[simp] theorem State.reply_srch (s : State) (r : Req) (op : Opcode) (ix sub st : Nat) (out : List Byte) :
    (s.reply r op ix sub st out).srch = s.srch := by rw [State.reply_eq]
@[simp] theorem State.reply_test (s : State) (r : Req) (op : Opcode) (ix sub st : Nat) (out : List Byte) :
    (s.reply r op ix sub st out).test = s.test := by rw [State.reply_eq]
@[simp] theorem State.reply_service (s : State) (r : Req) (op : Opcode) (ix sub st : Nat) (out : List Byte) :
    (s.reply r op ix sub st out).service = s.service := by rw [State.reply_eq]
@[simp] theorem State.reply_fabric (s : State) (r : Req) (op : Opcode) (ix sub st : Nat) (out : List Byte) :
    (s.reply r op ix sub st out).fabric = s.fabric := by rw [State.reply_eq]
@[simp] theorem State.reply_avs (s : State) (r : Req) (op : Opcode) (ix sub st : Nat) (out : List Byte) :
    (s.reply r op ix sub st out).avs = s.avs := by rw [State.reply_eq]
@[simp] theorem State.reply_therm (s : State) (r : Req) (op : Opcode) (ix sub st : Nat) (out : List Byte) :
    (s.reply r op ix sub st out).therm = s.therm := by rw [State.reply_eq]
@[simp] theorem State.reply_start (s : State) (r : Req) (op : Opcode) (ix sub st : Nat) (out : List Byte) :
    (s.reply r op ix sub st out).start = s.start := by rw [State.reply_eq]
@[simp] theorem State.reply_tap (s : State) (r : Req) (op : Opcode) (ix sub st : Nat) (out : List Byte) :
    (s.reply r op ix sub st out).tap = s.tap := by rw [State.reply_eq]
@[simp] theorem State.reply_mem (s : State) (r : Req) (op : Opcode) (ix sub st : Nat) (out : List Byte) :
    (s.reply r op ix sub st out).mem = s.mem := by rw [State.reply_eq]
@[simp] theorem State.reply_capLost (s : State) (r : Req) (op : Opcode) (ix sub st : Nat) (out : List Byte) :
    (s.reply r op ix sub st out).capLost = s.capLost := by rw [State.reply_eq]
@[simp] theorem State.reply_fuse (s : State) (r : Req) (op : Opcode) (ix sub st : Nat) (out : List Byte) :
    (s.reply r op ix sub st out).fuse = s.fuse := by rw [State.reply_eq]
@[simp] theorem State.reply_analog (s : State) (r : Req) (op : Opcode) (ix sub st : Nat) (out : List Byte) :
    (s.reply r op ix sub st out).analog = s.analog := by rw [State.reply_eq]
@[simp] theorem State.reply_flash (s : State) (r : Req) (op : Opcode) (ix sub st : Nat) (out : List Byte) :
    (s.reply r op ix sub st out).flash = s.flash := by rw [State.reply_eq]
@[simp] theorem State.reply_upd (s : State) (r : Req) (op : Opcode) (ix sub st : Nat) (out : List Byte) :
    (s.reply r op ix sub st out).upd = s.upd := by rw [State.reply_eq]
@[simp] theorem State.reply_freeCount (s : State) (r : Req) (op : Opcode) (ix sub st : Nat) (out : List Byte) :
    (s.reply r op ix sub st out).freeCount = s.freeCount := by rw [State.reply_eq]
@[simp] theorem State.reply_pending (s : State) (r : Req) (op : Opcode) (ix sub st : Nat) (out : List Byte) :
    (s.reply r op ix sub st out).pending = s.pending := by rw [State.reply_eq]
@[simp] theorem State.reply_reg (s : State) (r : Req) (op : Opcode) (ix sub st : Nat) (out : List Byte) (jx js : Nat) :
    (s.reply r op ix sub st out).reg jx js = s.reg jx js := by rw [State.reply_eq]; rfl
@[simp] theorem State.reply_nat (s : State) (r : Req) (op : Opcode) (ix sub st : Nat) (out : List Byte) (jx js : Nat) :
    (s.reply r op ix sub st out).nat jx js = s.nat jx js := by rw [State.reply_eq]; rfl
@[simp] theorem State.reply_flag (s : State) (r : Req) (op : Opcode) (ix sub st : Nat) (out : List Byte) (jx js : Nat) :
    (s.reply r op ix sub st out).flag jx js = s.flag jx js := by rw [State.reply_eq]; rfl
@[simp] theorem State.reply_blob (s : State) (r : Req) (op : Opcode) (ix sub st : Nat) (out : List Byte) (jx js : Nat) :
    (s.reply r op ix sub st out).blob jx js = s.blob jx js := by rw [State.reply_eq]; rfl
@[simp] theorem State.taken_blob (s : State) (r : Req) (op : Opcode) (ix sub : Nat) (pl : List Byte) (jx js : Nat) :
    (s.taken r op ix sub pl).blob jx js = s.blob jx js := by unfold State.blob; rw [State.taken_blobs]

/-! ## Events -/

theorem State.capTrigger_eq (s : State) : s.capTrigger = { s with regs := s.capTrigger.regs, cap := s.capTrigger.cap } := rfl

theorem State.capFault_eq (s : State) (src : Nat) :
    s.capFault src = { s with regs := (s.capFault src).regs, cap := (s.capFault src).cap } := by
  unfold State.capFault; split <;> rfl

theorem State.offer_eq (s : State) (src detail : Nat) (raised : Bool) :
    s.offer src detail raised = { s with regs := (s.offer src detail raised).regs, lookout := (s.offer src detail raised).lookout } := by
  unfold State.offer
  simp only
  split <;> split <;> rfl

theorem State.record_eq (s : State) (src inst detail : Nat) :
    s.record src inst detail = { s with
      regs := (s.record src inst detail).regs, lookout := (s.record src inst detail).lookout, cap := (s.record src inst detail).cap } := by
  unfold State.record
  simp only
  split
  · rw [State.capFault_eq]
  · rw [State.offer_eq, State.capFault_eq]

/-- A raised event changes objects, the collector and the capture that it may trigger (R331, R458). -/
theorem State.raise_eq (s : State) (src inst detail ix sub : Nat) :
    s.raise src inst detail ix sub =
      { s with
        regs := (s.raise src inst detail ix sub).regs, lookout := (s.raise src inst detail ix sub).lookout
        cap := (s.raise src inst detail ix sub).cap } := by
  unfold State.raise
  rw [State.record_eq]; rfl

theorem State.raiseFree_eq (s : State) (src detail : Nat) :
    s.raiseFree src detail = { s with
      regs := (s.raiseFree src detail).regs, lookout := (s.raiseFree src detail).lookout, cap := (s.raiseFree src detail).cap } := by
  unfold State.raiseFree
  rw [State.offer_eq, State.capFault_eq]

@[simp] theorem State.raise_blobs (s : State) (src inst detail ix sub : Nat) : (s.raise src inst detail ix sub).blobs = s.blobs := by rw [State.raise_eq]
@[simp] theorem State.raise_time (s : State) (src inst detail ix sub : Nat) : (s.raise src inst detail ix sub).time = s.time := by rw [State.raise_eq]
@[simp] theorem State.raise_mmp (s : State) (src inst detail ix sub : Nat) : (s.raise src inst detail ix sub).mmp = s.mmp := by rw [State.raise_eq]
@[simp] theorem State.raise_doms (s : State) (src inst detail ix sub : Nat) : (s.raise src inst detail ix sub).doms = s.doms := by rw [State.raise_eq]
@[simp] theorem State.raise_partEA (s : State) (src inst detail ix sub : Nat) : (s.raise src inst detail ix sub).partEA = s.partEA := by rw [State.raise_eq]
@[simp] theorem State.raise_gradeI (s : State) (src inst detail ix sub : Nat) : (s.raise src inst detail ix sub).gradeI = s.gradeI := by rw [State.raise_eq]
@[simp] theorem State.raise_breakout (s : State) (src inst detail ix sub : Nat) : (s.raise src inst detail ix sub).breakout = s.breakout := by rw [State.raise_eq]
@[simp] theorem State.raise_breakoutRun (s : State) (src inst detail ix sub : Nat) : (s.raise src inst detail ix sub).breakoutRun = s.breakoutRun := by rw [State.raise_eq]
@[simp] theorem State.raise_savedRegs (s : State) (src inst detail ix sub : Nat) : (s.raise src inst detail ix sub).savedRegs = s.savedRegs := by rw [State.raise_eq]
@[simp] theorem State.raise_savedBlobs (s : State) (src inst detail ix sub : Nat) : (s.raise src inst detail ix sub).savedBlobs = s.savedBlobs := by rw [State.raise_eq]
@[simp] theorem State.raise_hk (s : State) (src inst detail ix sub : Nat) : (s.raise src inst detail ix sub).hk = s.hk := by rw [State.raise_eq]
@[simp] theorem State.raise_tx (s : State) (src inst detail ix sub : Nat) : (s.raise src inst detail ix sub).tx = s.tx := by rw [State.raise_eq]
@[simp] theorem State.raise_adc (s : State) (src inst detail ix sub : Nat) : (s.raise src inst detail ix sub).adc = s.adc := by rw [State.raise_eq]
@[simp] theorem State.raise_rxsynth (s : State) (src inst detail ix sub : Nat) : (s.raise src inst detail ix sub).rxsynth = s.rxsynth := by rw [State.raise_eq]
@[simp] theorem State.raise_rx (s : State) (src inst detail ix sub : Nat) : (s.raise src inst detail ix sub).rx = s.rx := by rw [State.raise_eq]
@[simp] theorem State.raise_eng (s : State) (src inst detail ix sub : Nat) : (s.raise src inst detail ix sub).eng = s.eng := by rw [State.raise_eq]
@[simp] theorem State.raise_outerLane (s : State) (src inst detail ix sub : Nat) : (s.raise src inst detail ix sub).outerLane = s.outerLane := by rw [State.raise_eq]
@[simp] theorem State.raise_outerPort (s : State) (src inst detail ix sub : Nat) : (s.raise src inst detail ix sub).outerPort = s.outerPort := by rw [State.raise_eq]
@[simp] theorem State.raise_tic (s : State) (src inst detail ix sub : Nat) : (s.raise src inst detail ix sub).tic = s.tic := by rw [State.raise_eq]
@[simp] theorem State.raise_pool (s : State) (src inst detail ix sub : Nat) : (s.raise src inst detail ix sub).pool = s.pool := by rw [State.raise_eq]
@[simp] theorem State.raise_cwCount (s : State) (src inst detail ix sub : Nat) : (s.raise src inst detail ix sub).cwCount = s.cwCount := by rw [State.raise_eq]
@[simp] theorem State.raise_link (s : State) (src inst detail ix sub : Nat) : (s.raise src inst detail ix sub).link = s.link := by rw [State.raise_eq]
@[simp] theorem State.raise_ds (s : State) (src inst detail ix sub : Nat) : (s.raise src inst detail ix sub).ds = s.ds := by rw [State.raise_eq]
@[simp] theorem State.raise_hostLane (s : State) (src inst detail ix sub : Nat) : (s.raise src inst detail ix sub).hostLane = s.hostLane := by rw [State.raise_eq]
@[simp] theorem State.raise_hostInst (s : State) (src inst detail ix sub : Nat) : (s.raise src inst detail ix sub).hostInst = s.hostInst := by rw [State.raise_eq]
@[simp] theorem State.raise_hostSkew (s : State) (src inst detail ix sub : Nat) : (s.raise src inst detail ix sub).hostSkew = s.hostSkew := by rw [State.raise_eq]
@[simp] theorem State.raise_port (s : State) (src inst detail ix sub : Nat) : (s.raise src inst detail ix sub).port = s.port := by rw [State.raise_eq]
@[simp] theorem State.raise_srch (s : State) (src inst detail ix sub : Nat) : (s.raise src inst detail ix sub).srch = s.srch := by rw [State.raise_eq]
@[simp] theorem State.raise_test (s : State) (src inst detail ix sub : Nat) : (s.raise src inst detail ix sub).test = s.test := by rw [State.raise_eq]
@[simp] theorem State.raise_service (s : State) (src inst detail ix sub : Nat) : (s.raise src inst detail ix sub).service = s.service := by rw [State.raise_eq]
@[simp] theorem State.raise_fabric (s : State) (src inst detail ix sub : Nat) : (s.raise src inst detail ix sub).fabric = s.fabric := by rw [State.raise_eq]
@[simp] theorem State.raise_avs (s : State) (src inst detail ix sub : Nat) : (s.raise src inst detail ix sub).avs = s.avs := by rw [State.raise_eq]
@[simp] theorem State.raise_therm (s : State) (src inst detail ix sub : Nat) : (s.raise src inst detail ix sub).therm = s.therm := by rw [State.raise_eq]
@[simp] theorem State.raise_start (s : State) (src inst detail ix sub : Nat) : (s.raise src inst detail ix sub).start = s.start := by rw [State.raise_eq]
@[simp] theorem State.raise_tap (s : State) (src inst detail ix sub : Nat) : (s.raise src inst detail ix sub).tap = s.tap := by rw [State.raise_eq]
@[simp] theorem State.raise_mem (s : State) (src inst detail ix sub : Nat) : (s.raise src inst detail ix sub).mem = s.mem := by rw [State.raise_eq]
@[simp] theorem State.raise_capLost (s : State) (src inst detail ix sub : Nat) : (s.raise src inst detail ix sub).capLost = s.capLost := by rw [State.raise_eq]
@[simp] theorem State.raise_fuse (s : State) (src inst detail ix sub : Nat) : (s.raise src inst detail ix sub).fuse = s.fuse := by rw [State.raise_eq]
@[simp] theorem State.raise_analog (s : State) (src inst detail ix sub : Nat) : (s.raise src inst detail ix sub).analog = s.analog := by rw [State.raise_eq]
@[simp] theorem State.raise_flash (s : State) (src inst detail ix sub : Nat) : (s.raise src inst detail ix sub).flash = s.flash := by rw [State.raise_eq]
@[simp] theorem State.raise_upd (s : State) (src inst detail ix sub : Nat) : (s.raise src inst detail ix sub).upd = s.upd := by rw [State.raise_eq]
@[simp] theorem State.raise_freeCount (s : State) (src inst detail ix sub : Nat) : (s.raise src inst detail ix sub).freeCount = s.freeCount := by rw [State.raise_eq]
@[simp] theorem State.raise_pending (s : State) (src inst detail ix sub : Nat) : (s.raise src inst detail ix sub).pending = s.pending := by rw [State.raise_eq]
@[simp] theorem State.raise_blob (s : State) (src inst detail ix sub : Nat) (jx js : Nat) : (s.raise src inst detail ix sub).blob jx js = s.blob jx js := by
  rw [State.raise_eq]; rfl

@[simp] theorem State.raiseFree_blobs (s : State) (src detail : Nat) : (s.raiseFree src detail).blobs = s.blobs := by rw [State.raiseFree_eq]
@[simp] theorem State.raiseFree_time (s : State) (src detail : Nat) : (s.raiseFree src detail).time = s.time := by rw [State.raiseFree_eq]
@[simp] theorem State.raiseFree_mmp (s : State) (src detail : Nat) : (s.raiseFree src detail).mmp = s.mmp := by rw [State.raiseFree_eq]
@[simp] theorem State.raiseFree_doms (s : State) (src detail : Nat) : (s.raiseFree src detail).doms = s.doms := by rw [State.raiseFree_eq]
@[simp] theorem State.raiseFree_partEA (s : State) (src detail : Nat) : (s.raiseFree src detail).partEA = s.partEA := by rw [State.raiseFree_eq]
@[simp] theorem State.raiseFree_gradeI (s : State) (src detail : Nat) : (s.raiseFree src detail).gradeI = s.gradeI := by rw [State.raiseFree_eq]
@[simp] theorem State.raiseFree_breakout (s : State) (src detail : Nat) : (s.raiseFree src detail).breakout = s.breakout := by rw [State.raiseFree_eq]
@[simp] theorem State.raiseFree_breakoutRun (s : State) (src detail : Nat) : (s.raiseFree src detail).breakoutRun = s.breakoutRun := by rw [State.raiseFree_eq]
@[simp] theorem State.raiseFree_savedRegs (s : State) (src detail : Nat) : (s.raiseFree src detail).savedRegs = s.savedRegs := by rw [State.raiseFree_eq]
@[simp] theorem State.raiseFree_savedBlobs (s : State) (src detail : Nat) : (s.raiseFree src detail).savedBlobs = s.savedBlobs := by rw [State.raiseFree_eq]
@[simp] theorem State.raiseFree_hk (s : State) (src detail : Nat) : (s.raiseFree src detail).hk = s.hk := by rw [State.raiseFree_eq]
@[simp] theorem State.raiseFree_tx (s : State) (src detail : Nat) : (s.raiseFree src detail).tx = s.tx := by rw [State.raiseFree_eq]
@[simp] theorem State.raiseFree_adc (s : State) (src detail : Nat) : (s.raiseFree src detail).adc = s.adc := by rw [State.raiseFree_eq]
@[simp] theorem State.raiseFree_rxsynth (s : State) (src detail : Nat) : (s.raiseFree src detail).rxsynth = s.rxsynth := by rw [State.raiseFree_eq]
@[simp] theorem State.raiseFree_rx (s : State) (src detail : Nat) : (s.raiseFree src detail).rx = s.rx := by rw [State.raiseFree_eq]
@[simp] theorem State.raiseFree_eng (s : State) (src detail : Nat) : (s.raiseFree src detail).eng = s.eng := by rw [State.raiseFree_eq]
@[simp] theorem State.raiseFree_outerLane (s : State) (src detail : Nat) : (s.raiseFree src detail).outerLane = s.outerLane := by rw [State.raiseFree_eq]
@[simp] theorem State.raiseFree_outerPort (s : State) (src detail : Nat) : (s.raiseFree src detail).outerPort = s.outerPort := by rw [State.raiseFree_eq]
@[simp] theorem State.raiseFree_tic (s : State) (src detail : Nat) : (s.raiseFree src detail).tic = s.tic := by rw [State.raiseFree_eq]
@[simp] theorem State.raiseFree_pool (s : State) (src detail : Nat) : (s.raiseFree src detail).pool = s.pool := by rw [State.raiseFree_eq]
@[simp] theorem State.raiseFree_cwCount (s : State) (src detail : Nat) : (s.raiseFree src detail).cwCount = s.cwCount := by rw [State.raiseFree_eq]
@[simp] theorem State.raiseFree_link (s : State) (src detail : Nat) : (s.raiseFree src detail).link = s.link := by rw [State.raiseFree_eq]
@[simp] theorem State.raiseFree_ds (s : State) (src detail : Nat) : (s.raiseFree src detail).ds = s.ds := by rw [State.raiseFree_eq]
@[simp] theorem State.raiseFree_hostLane (s : State) (src detail : Nat) : (s.raiseFree src detail).hostLane = s.hostLane := by rw [State.raiseFree_eq]
@[simp] theorem State.raiseFree_hostInst (s : State) (src detail : Nat) : (s.raiseFree src detail).hostInst = s.hostInst := by rw [State.raiseFree_eq]
@[simp] theorem State.raiseFree_hostSkew (s : State) (src detail : Nat) : (s.raiseFree src detail).hostSkew = s.hostSkew := by rw [State.raiseFree_eq]
@[simp] theorem State.raiseFree_port (s : State) (src detail : Nat) : (s.raiseFree src detail).port = s.port := by rw [State.raiseFree_eq]
@[simp] theorem State.raiseFree_srch (s : State) (src detail : Nat) : (s.raiseFree src detail).srch = s.srch := by rw [State.raiseFree_eq]
@[simp] theorem State.raiseFree_test (s : State) (src detail : Nat) : (s.raiseFree src detail).test = s.test := by rw [State.raiseFree_eq]
@[simp] theorem State.raiseFree_service (s : State) (src detail : Nat) : (s.raiseFree src detail).service = s.service := by rw [State.raiseFree_eq]
@[simp] theorem State.raiseFree_fabric (s : State) (src detail : Nat) : (s.raiseFree src detail).fabric = s.fabric := by rw [State.raiseFree_eq]
@[simp] theorem State.raiseFree_avs (s : State) (src detail : Nat) : (s.raiseFree src detail).avs = s.avs := by rw [State.raiseFree_eq]
@[simp] theorem State.raiseFree_therm (s : State) (src detail : Nat) : (s.raiseFree src detail).therm = s.therm := by rw [State.raiseFree_eq]
@[simp] theorem State.raiseFree_start (s : State) (src detail : Nat) : (s.raiseFree src detail).start = s.start := by rw [State.raiseFree_eq]
@[simp] theorem State.raiseFree_tap (s : State) (src detail : Nat) : (s.raiseFree src detail).tap = s.tap := by rw [State.raiseFree_eq]
@[simp] theorem State.raiseFree_mem (s : State) (src detail : Nat) : (s.raiseFree src detail).mem = s.mem := by rw [State.raiseFree_eq]
@[simp] theorem State.raiseFree_capLost (s : State) (src detail : Nat) : (s.raiseFree src detail).capLost = s.capLost := by rw [State.raiseFree_eq]
@[simp] theorem State.raiseFree_fuse (s : State) (src detail : Nat) : (s.raiseFree src detail).fuse = s.fuse := by rw [State.raiseFree_eq]
@[simp] theorem State.raiseFree_analog (s : State) (src detail : Nat) : (s.raiseFree src detail).analog = s.analog := by rw [State.raiseFree_eq]
@[simp] theorem State.raiseFree_flash (s : State) (src detail : Nat) : (s.raiseFree src detail).flash = s.flash := by rw [State.raiseFree_eq]
@[simp] theorem State.raiseFree_upd (s : State) (src detail : Nat) : (s.raiseFree src detail).upd = s.upd := by rw [State.raiseFree_eq]
@[simp] theorem State.raiseFree_freeCount (s : State) (src detail : Nat) : (s.raiseFree src detail).freeCount = s.freeCount := by rw [State.raiseFree_eq]
@[simp] theorem State.raiseFree_pending (s : State) (src detail : Nat) : (s.raiseFree src detail).pending = s.pending := by rw [State.raiseFree_eq]
@[simp] theorem State.raiseFree_blob (s : State) (src detail : Nat) (jx js : Nat) : (s.raiseFree src detail).blob jx js = s.blob jx js := by
  rw [State.raiseFree_eq]; rfl

theorem State.capFault_reg (s : State) (src jx js : Nat) (hj : js < 256) (h : ¬ EventObj jx js) :
    (s.capFault src).reg jx js = s.reg jx js := by
  have key : s.capTrigger.reg jx js = s.reg jx js := by
    change ((s.setReg Ob.TEST_CAP_STATE 0 2).setReg Ob.TEST_CAP_TRIG_STAMP 0 ((s.setReg Ob.TEST_CAP_STATE 0 2).stamp : Nat)).reg jx js = _
    rw [State.reg_setReg _ _ _ _ _ _ (by decide) hj, State.reg_setReg _ _ _ _ _ _ (by decide) hj]
    unfold EventObj at h
    rw [if_neg (by rintro ⟨rfl, rfl⟩; exact h ⟨rfl, by simp⟩), if_neg (by rintro ⟨rfl, rfl⟩; exact h ⟨rfl, by simp⟩)]
  unfold State.capFault
  split
  · exact key
  · rfl

theorem State.offer_reg (s : State) (src detail : Nat) (raised : Bool) (jx js : Nat) (hj : js < 256) (h : ¬ EventObj jx js) :
    (s.offer src detail raised).reg jx js = s.reg jx js := by
  have key : ∀ t : State, (t.bump Ob.FAULT_LOG_DROPPED 0 1).reg jx js = t.reg jx js := by
    intro t
    rw [State.bump_eq, State.bumpTo_eq, State.reg_setReg _ _ _ _ _ _ (by decide) hj]
    exact if_neg (by rintro ⟨rfl, rfl⟩; exact h ⟨rfl, by simp⟩)
  unfold State.offer
  simp only
  split <;> split <;> first | rfl | exact key _

theorem State.record_reg (s : State) (src inst detail jx js : Nat) (hj : js < 256) (h : ¬ EventObj jx js) :
    (s.record src inst detail).reg jx js = s.reg jx js := by
  unfold State.record
  simp only
  split
  · exact State.capFault_reg _ _ _ _ hj h
  · rw [State.offer_reg _ _ _ _ _ _ hj h]; exact State.capFault_reg _ _ _ _ hj h

/-- A raised event writes its counter, and beside it only the capture trigger and the count of dropped records. -/
theorem State.raise_reg (s : State) (src inst detail ix sub jx js : Nat) (hi : sub < 256) (hj : js < 256) (h : ¬ EventObj jx js) :
    (s.raise src inst detail ix sub).reg jx js =
      if ix = jx ∧ sub = js then ((min (2 ^ 32 - 1) (s.nat ix sub + 1) : Nat) : Int) else s.reg jx js := by
  unfold State.raise
  rw [State.record_reg _ _ _ _ _ _ hj h, State.bump_eq, State.bumpTo_eq, State.reg_setReg _ _ _ _ _ _ hi hj]

theorem State.raiseFree_reg (s : State) (src detail jx js : Nat) (hj : js < 256) (h : ¬ EventObj jx js) :
    (s.raiseFree src detail).reg jx js = s.reg jx js := by
  unfold State.raiseFree
  rw [State.offer_reg _ _ _ _ _ _ hj h, State.capFault_reg _ _ _ _ hj h]

end Sys2Proof.Machine
end

