-- ==== Sys2Proof/Laws/SoundBase.lean ====
section
/-! SUPPORT. Soundness kept by the named operations: registers, events, replies, requests, votes and time. -/

set_option linter.unusedTactic false
set_option linter.unreachableTactic false
set_option linter.unusedVariables false

namespace Sys2Proof.Machine

theorem State.Inv.of_same {s t : State} (h : s.Inv) (h1 : t.regs = s.regs) (h2 : t.blobs = s.blobs) (h3 : t.savedRegs = s.savedRegs)
    (h4 : t.savedBlobs = s.savedBlobs) (h5 : t.flash = s.flash) (h6 : t.time.acc = s.time.acc) : t.Inv :=
  ⟨h1 ▸ h.regs, h2 ▸ h.blobs, h3 ▸ h.savedRegs, h4 ▸ h.savedBlobs, h5 ▸ h.flash, h6 ▸ h.acc⟩

theorem State.Inv.of_mk {s : State} {x_time : TimeBase} {x_mmp : Mmp} {x_lookout : Lookout} {x_doms : Lanes Domain 36} {x_partEA : Bool} {x_gradeI : Bool} {x_breakout : Lanes Nat 2} {x_breakoutRun : Option BreakoutRun} {x_hk : Hk} {x_tx : Lanes TxLane 8} {x_adc : Lanes AdcLane 8} {x_rxsynth : Lanes RxSynth 2} {x_rx : Lanes RxLane 8} {x_eng : Lanes Engine 128} {x_outerLane : Lanes OuterLane 8} {x_outerPort : Lanes OuterPort 8} {x_tic : Lanes TicLane 8} {x_pool : Lanes TicHalf 2} {x_cwCount : Nat} {x_link : Lanes LinkPort 8} {x_ds : DeepStore} {x_hostLane : Lanes HostLane 16} {x_hostInst : Lanes HostInst 8} {x_hostSkew : Lanes Nat 8} {x_port : Lanes PortCtl 8} {x_srch : Lanes SearchLane 8} {x_test : Lanes TestPort 8} {x_service : Lanes (Option (Fin 128)) 4} {x_fabric : Fabric} {x_avs : Avs} {x_therm : Thermal} {x_start : Startup} {x_tap : Tap} {x_mem : Lanes MemGroup 44} {x_capLost : Option Nat} {x_cap : Capture} {x_fuse : Fuses} {x_analog : AnalogRun} {x_upd : Update} {x_freeCount : Nat} {x_pending : List Instr} (h : s.Inv) (ht : s.Inv → x_time.acc < 2 ^ 128) :
    (State.mk s.regs s.blobs x_time x_mmp x_lookout x_doms x_partEA x_gradeI x_breakout x_breakoutRun s.savedRegs s.savedBlobs x_hk x_tx x_adc x_rxsynth x_rx x_eng x_outerLane x_outerPort x_tic x_pool x_cwCount x_link x_ds x_hostLane x_hostInst x_hostSkew x_port x_srch x_test x_service x_fabric x_avs x_therm x_start x_tap x_mem x_capLost x_cap x_fuse x_analog s.flash x_upd x_freeCount x_pending).Inv := ⟨h.regs, h.blobs, h.savedRegs, h.savedBlobs, h.flash, ht h⟩

theorem State.setReg_inv (s : State) (ix sub : Nat) (v : Int) (h : s.Inv) : (s.setReg ix sub v).Inv :=
  ⟨Store.wf_put _ _ _ _ h.regs, h.blobs, h.savedRegs, h.savedBlobs, h.flash, h.acc⟩
theorem State.setBlob_inv (s : State) (ix sub : Nat) (v : List Byte) (h : s.Inv) : (s.setBlob ix sub v).Inv :=
  ⟨h.regs, Store.wf_put _ _ _ _ h.blobs, h.savedRegs, h.savedBlobs, h.flash, h.acc⟩
theorem State.clearObjs_inv (s : State) (p : Nat → Nat → Bool) (h : s.Inv) : (s.clearObjs p).Inv :=
  ⟨Store.wf_filter _ _ _ h.regs, Store.wf_filter _ _ _ h.blobs, h.savedRegs, h.savedBlobs, h.flash, h.acc⟩

theorem forEach_inv {α : Type} (l : List α) (f : α → State → State) (s : State) (h : s.Inv)
    (hf : ∀ a t, t.Inv → (f a t).Inv) : (forEach l f s).Inv := by
  unfold forEach
  induction l generalizing s with
  | nil => exact h
  | cons a l ih => exact ih _ (hf a s h)

theorem State.setAll_inv (s : State) (ix : Nat) (v : Int) (n : Nat) (h : s.Inv) : (s.setAll ix v n).Inv := by
  induction n generalizing s with
  | zero => exact h
  | succ n ih => exact ih _ (State.setReg_inv _ _ _ _ h)

theorem State.Inv.ite_same {c : Prop} [Decidable c] {x y : State} (hx : x.Inv) (hy : x.Inv → y.Inv) : (if c then y else x).Inv := by
  split
  · exact hy hx
  · exact hx

def Verdict.Inv : Verdict → Prop
  | .deny _ => True
  | .fail s _ => s.Inv
  | .done s _ => s.Inv
  | .names s _ _ => s.Inv
  | .later s => s.Inv

theorem Verdict.inv_deny (n : Nat) : (Verdict.deny n).Inv := trivial
theorem Verdict.inv_done {s : State} {o : List Byte} (h : s.Inv) : (Verdict.done s o).Inv := h
theorem Verdict.inv_fail {s : State} {o : Nat} (h : s.Inv) : (Verdict.fail s o).Inv := h
theorem Verdict.inv_later {s : State} (h : s.Inv) : (Verdict.later s).Inv := h
theorem Verdict.inv_names {s : State} {n : Nat} {o : List Byte} (h : s.Inv) : (Verdict.names s n o).Inv := h

theorem pair1_inv {α : Type} {x : State × α} {a : State} {b : α} (h : x = (a, b)) (hx : x.1.Inv) : a.Inv := by subst h; exact hx
theorem pair2_inv {α : Type} {x : α × State} {a : State} {b : α} (h : x = (b, a)) (hx : x.2.Inv) : a.Inv := by subst h; exact hx
def OptInv {α : Type} (x : Option (α × State)) : Prop := ∀ q, x = some q → q.2.Inv
theorem optpair_inv {α : Type} {x : Option (α × State)} {a : State} {b : α} (h : x = some (b, a)) (hx : OptInv x) : a.Inv := hx _ h

def OptS (x : Option State) : Prop := ∀ q, x = some q → q.Inv
theorem OptS.none : OptS none := fun _ h => by cases h
theorem OptS.some {s : State} (h : s.Inv) : OptS (some s) := fun _ e => by cases e; exact h
theorem opts_inv {x : Option State} {a : State} (h : x = Option.some a) (hx : OptS x) : a.Inv := hx _ h
theorem OptInv.none {α : Type} : OptInv (none : Option (α × State)) := fun _ h => by cases h
theorem OptInv.some {α : Type} {a : α} {s : State} (h : s.Inv) : OptInv (some (a, s)) := fun _ e => by cases e; exact h

theorem Verdict.inv_ite {c : Prop} [Decidable c] {x y : Verdict} (hx : x.Inv) (hy : y.Inv) : (if c then x else y).Inv := by
  split
  · exact hx
  · exact hy


theorem State.bumpTo_inv (s : State) (max ix sub n : Nat) (hs : s.Inv) : (State.bumpTo s max ix sub n).Inv := by
  unfold State.bumpTo
  try dsimp only
  repeat' first
    | (with_reducible first
        | assumption | intro _ | apply State.setReg_inv)

theorem State.bump_inv (s : State) (ix sub n : Nat) (hs : s.Inv) : (State.bump s ix sub n).Inv := by
  unfold State.bump
  try dsimp only
  repeat' first
    | (with_reducible first
        | assumption | intro _ | apply State.bumpTo_inv)

theorem State.bump64_inv (s : State) (ix sub n : Nat) (hs : s.Inv) : (State.bump64 s ix sub n).Inv := by
  unfold State.bump64
  try dsimp only
  repeat' first
    | (with_reducible first
        | assumption | intro _ | apply State.bumpTo_inv)

theorem State.bump8_inv (s : State) (ix sub n : Nat) (hs : s.Inv) : (State.bump8 s ix sub n).Inv := by
  unfold State.bump8
  try dsimp only
  repeat' first
    | (with_reducible first
        | assumption | intro _ | apply State.bumpTo_inv)

theorem State.fresh_inv (s : State) (hs : s.Inv) : (State.fresh s).1.Inv := by
  unfold State.fresh
  try dsimp only
  repeat' first
    | (with_reducible first
        | assumption | intro _)
    | dsimp only | (with_reducible refine State.Inv.of_mk (s := ?_) ?_ ?_)
    | exact State.Inv.acc (by with_reducible assumption)

theorem State.setStamp_inv (s : State) (ix sub : Nat) (hs : s.Inv) : (State.setStamp s ix sub).Inv := by
  unfold State.setStamp
  try dsimp only
  repeat' first
    | (with_reducible first
        | assumption | intro _ | apply State.setReg_inv)

theorem State.capTrigger_inv (s : State) (hs : s.Inv) : (State.capTrigger s).Inv := by
  unfold State.capTrigger
  try dsimp only
  repeat' first
    | (with_reducible first
        | assumption | intro _ | apply State.setReg_inv | apply State.setStamp_inv)
    | dsimp only | (with_reducible refine State.Inv.of_mk (s := ?_) ?_ ?_)
    | exact State.Inv.acc (by with_reducible assumption)

theorem State.capRecord_inv (s : State) (l : Fin 8) (source : Int) (es : List (Nat × Nat)) (hs : s.Inv) : (State.capRecord s l source es).Inv := by
  unfold State.capRecord
  try dsimp only
  repeat' first
    | (with_reducible first
        | assumption | intro _ | apply State.Inv.ite_same | apply State.record_inv)
    | split | dsimp only | (with_reducible refine State.Inv.of_mk (s := ?_) ?_ ?_)
    | exact State.Inv.acc (by with_reducible assumption)

theorem State.capFault_inv (s : State) (src : Nat) (hs : s.Inv) : (State.capFault s src).Inv := by
  unfold State.capFault
  try dsimp only
  repeat' first
    | (with_reducible first
        | assumption | intro _ | apply State.Inv.ite_same | apply State.capTrigger_inv)
    | split | dsimp only

theorem State.offer_inv (s : State) (src detail : Nat) (raised : Bool) (hs : s.Inv) : (State.offer s src detail raised).Inv := by
  unfold State.offer
  try dsimp only
  repeat' first
    | (with_reducible first
        | assumption | intro _ | apply State.Inv.ite_same | apply State.bump_inv | apply insertRec_inv)
    | split | dsimp only | (with_reducible refine State.Inv.of_mk (s := ?_) ?_ ?_)
    | exact State.Inv.acc (by with_reducible assumption)

theorem State.record_inv (s : State) (src inst detail : Nat) (hs : s.Inv) : (State.record s src inst detail).Inv := by
  unfold State.record
  try dsimp only
  repeat' first
    | (with_reducible first
        | assumption | intro _ | apply State.Inv.ite_same | apply State.capFault_inv | apply State.offer_inv)
    | split | dsimp only | (with_reducible refine State.Inv.of_mk (s := ?_) ?_ ?_)
    | exact State.Inv.acc (by with_reducible assumption)

theorem State.raise_inv (s : State) (src inst detail : Nat) (evIx evSub : Nat) (hs : s.Inv) : (State.raise s src inst detail evIx evSub).Inv := by
  unfold State.raise
  try dsimp only
  repeat' first
    | (with_reducible first
        | assumption | intro _ | apply State.bump_inv | apply State.record_inv)

theorem State.raiseFree_inv (s : State) (src detail : Nat) (hs : s.Inv) : (State.raiseFree s src detail).Inv := by
  unfold State.raiseFree
  try dsimp only
  repeat' first
    | (with_reducible first
        | assumption | intro _ | apply State.capFault_inv | apply State.offer_inv)

theorem State.orderChip_inv (s : State) (cause : Nat) (hs : s.Inv) : (State.orderChip s cause).Inv := by
  unfold State.orderChip
  try dsimp only
  repeat' first
    | (with_reducible first
        | assumption | intro _)
    | dsimp only | (with_reducible refine State.Inv.of_mk (s := ?_) ?_ ?_)
    | exact State.Inv.acc (by with_reducible assumption)

theorem State.capAbort_inv (s : State) (l : Fin 8) (hs : s.Inv) : (State.capAbort s l).Inv := by
  unfold State.capAbort
  try dsimp only
  repeat' first
    | (with_reducible first
        | assumption | intro _ | apply State.Inv.ite_same | apply State.setReg_inv | apply State.raise_inv)
    | split | dsimp only

theorem State.modTp_inv (s : State) (p : Path) (f : Transport → Transport) (hs : s.Inv) : (State.modTp s p f).Inv := by
  unfold State.modTp
  try dsimp only
  repeat' first
    | (with_reducible first
        | assumption | intro _)
    | dsimp only | (with_reducible refine State.Inv.of_mk (s := ?_) ?_ ?_)
    | exact State.Inv.acc (by with_reducible assumption)

theorem State.pushReply_inv (s : State) (p : Path) (bs : List Byte) (hs : s.Inv) : (State.pushReply s p bs).Inv := by
  unfold State.pushReply
  try dsimp only
  repeat' first
    | (with_reducible first
        | assumption | intro _ | apply State.Inv.ite_same | apply State.modTp_inv)
    | split | dsimp only | (with_reducible refine State.Inv.of_mk (s := ?_) ?_ ?_)
    | exact State.Inv.acc (by with_reducible assumption)

theorem State.pushOrdered_inv (s : State) (p : Path) (isExec : Bool) (tag : Byte) (f : List Byte) (hs : s.Inv) : (State.pushOrdered s p isExec tag f).Inv := by
  unfold State.pushOrdered
  try dsimp only
  repeat' first
    | (with_reducible first
        | assumption | intro _ | apply State.Inv.ite_same | apply State.modTp_inv | apply State.pushReply_inv
        | apply leaving_inv)
    | (with_reducible apply forEach_inv; rotate_left) | split | dsimp only
    | (with_reducible refine State.Inv.of_mk (s := ?_) ?_ ?_) | exact State.Inv.acc (by with_reducible assumption)

theorem State.pushBehind_inv (s : State) (p : Path) (isExec : Bool) (tag : Byte) (f : List Byte) (hs : s.Inv) : (State.pushBehind s p isExec tag f).Inv := by
  unfold State.pushBehind
  try dsimp only
  repeat' first
    | (with_reducible first
        | assumption | intro _ | apply State.Inv.ite_same | apply State.modTp_inv | apply State.pushReply_inv)
    | split | dsimp only | (with_reducible refine State.Inv.of_mk (s := ?_) ?_ ?_)
    | exact State.Inv.acc (by with_reducible assumption)

theorem State.replyAt_inv (s : State) (r : Req) (op : Opcode) (ix sub st : Nat) (out : List Byte) (hs : s.Inv) : (State.replyAt s r op ix sub st out).Inv := by
  unfold State.replyAt
  try dsimp only
  repeat' first
    | (with_reducible first
        | assumption | intro _ | apply State.Inv.ite_same | apply State.modTp_inv | apply opChanges_inv
        | apply State.pushOrdered_inv)
    | split | dsimp only

theorem State.reply_inv (s : State) (r : Req) (op : Opcode) (ix sub st : Nat) (out : List Byte) (hs : s.Inv) : (State.reply s r op ix sub st out).Inv := by
  unfold State.reply
  try dsimp only
  repeat' first
    | (with_reducible first
        | assumption | intro _ | apply State.Inv.ite_same | apply State.modTp_inv | apply State.replyAt_inv)
    | split | dsimp only

theorem State.finish_inv (s : State) (ix sub st : Nat) (hs : s.Inv) : (State.finish s ix sub st).Inv := by
  unfold State.finish
  try dsimp only
  repeat' first
    | (with_reducible first
        | assumption | intro _ | apply State.reply_inv)
    | (with_reducible apply forEach_inv; rotate_left) | dsimp only | (with_reducible refine State.Inv.of_mk (s := ?_) ?_ ?_)
    | exact State.Inv.acc (by with_reducible assumption)

theorem State.modDom_inv (s : State) (d : Fin 36) (f : Domain → Domain) (hs : s.Inv) : (State.modDom s d f).Inv := by
  unfold State.modDom
  try dsimp only
  repeat' first
    | (with_reducible first
        | assumption | intro _)
    | dsimp only | (with_reducible refine State.Inv.of_mk (s := ?_) ?_ ?_)
    | exact State.Inv.acc (by with_reducible assumption)

theorem State.account_inv (s : State) (d : Fin 36) (hs : s.Inv) : (State.account s d).Inv := by
  unfold State.account
  try dsimp only
  repeat' first
    | (with_reducible first
        | assumption | intro _ | apply State.bumpTo_inv | apply State.modDom_inv)
    | split | dsimp only | (with_reducible refine State.Inv.of_mk (s := ?_) ?_ ?_)
    | exact State.Inv.acc (by with_reducible assumption)

theorem State.accountAll_inv (s : State) (hs : s.Inv) : (State.accountAll s).Inv := by
  unfold State.accountAll
  try dsimp only
  repeat' first
    | (with_reducible first
        | assumption | intro _ | apply State.account_inv)
    | (with_reducible apply forEach_inv; rotate_left) | dsimp only

theorem State.setPwr_inv (s : State) (d : Fin 36) (v : Int) (hs : s.Inv) : (State.setPwr s d v).Inv := by
  unfold State.setPwr
  try dsimp only
  repeat' first
    | (with_reducible first
        | assumption | intro _ | apply State.setReg_inv | apply State.setStamp_inv | apply State.account_inv)

theorem State.noteVote_inv (s : State) (d : Fin 36) (c : Nat) (on : Bool) (hs : s.Inv) : (State.noteVote s d c on).Inv := by
  unfold State.noteVote
  try dsimp only
  repeat' first
    | (with_reducible first
        | assumption | intro _ | apply State.Inv.ite_same | apply State.setReg_inv)
    | split | dsimp only

theorem State.answerVotes_inv (s : State) (d : Fin 36) (st : Nat) (hs : s.Inv) : (State.answerVotes s d st).Inv := by
  unfold State.answerVotes
  try dsimp only
  repeat' first
    | (with_reducible first
        | assumption | intro _ | apply State.finish_inv)

theorem State.startWake_inv (s : State) (d : Fin 36) (hs : s.Inv) : (State.startWake s d).Inv := by
  unfold State.startWake
  try dsimp only
  repeat' first
    | (with_reducible first
        | assumption | intro _ | apply State.modDom_inv | apply State.setPwr_inv)
    | dsimp only | (with_reducible refine State.Inv.of_mk (s := ?_) ?_ ?_)
    | exact State.Inv.acc (by with_reducible assumption)

theorem State.castVote_inv (s : State) (d : Fin 36) (c : Nat) (hs : s.Inv) : (State.castVote s d c).Inv := by
  unfold State.castVote
  try dsimp only
  repeat' first
    | (with_reducible first
        | assumption | intro _ | apply State.Inv.ite_same | apply State.bump_inv | apply State.modDom_inv
        | apply State.setPwr_inv | apply State.noteVote_inv | apply State.answerVotes_inv | apply State.startWake_inv)
    | split | dsimp only | (with_reducible refine State.Inv.of_mk (s := ?_) ?_ ?_)
    | exact State.Inv.acc (by with_reducible assumption)

theorem State.startEntry_inv (s : State) (d : Fin 36) (off : Bool) (hs : s.Inv) : (State.startEntry s d off).Inv := by
  unfold State.startEntry
  try dsimp only
  repeat' first
    | (with_reducible first
        | assumption | intro _ | apply State.modDom_inv | apply State.setPwr_inv)
    | dsimp only | (with_reducible refine State.Inv.of_mk (s := ?_) ?_ ?_)
    | exact State.Inv.acc (by with_reducible assumption)

theorem State.withdraw_inv (s : State) (d : Fin 36) (c : Nat) (off : Bool) (hs : s.Inv) : (State.withdraw s d c off).Inv := by
  unfold State.withdraw
  try dsimp only
  repeat' first
    | (with_reducible first
        | assumption | intro _ | apply State.Inv.ite_same | apply State.modDom_inv | apply State.noteVote_inv
        | apply State.startEntry_inv)
    | split | dsimp only | (with_reducible refine State.Inv.of_mk (s := ?_) ?_ ?_)
    | exact State.Inv.acc (by with_reducible assumption)

theorem State.arrive_inv (s : State) (p : Path) (frame : List Byte) (hs : s.Inv) : (State.arrive s p frame).Inv := by
  unfold State.arrive
  try dsimp only
  repeat' first
    | (with_reducible first
        | assumption | intro _ | apply State.bump_inv | apply State.modTp_inv)
    | split | dsimp only | (with_reducible refine State.Inv.of_mk (s := ?_) ?_ ?_)
    | exact State.Inv.acc (by with_reducible assumption)

theorem State.mgtCall_inv (s : State) (hs : s.Inv) : (State.mgtCall s).Inv := by
  unfold State.mgtCall
  try dsimp only
  repeat' first
    | (with_reducible first
        | assumption | intro _ | apply State.Inv.ite_same | apply State.castVote_inv)
    | split | dsimp only

theorem State.pendAdd_inv (s : State) (q : PendingReply) (hs : s.Inv) : (State.pendAdd s q).Inv := by
  unfold State.pendAdd
  try dsimp only
  repeat' first
    | (with_reducible first
        | assumption | intro _)
    | dsimp only | (with_reducible refine State.Inv.of_mk (s := ?_) ?_ ?_)
    | exact State.Inv.acc (by with_reducible assumption)

theorem State.defer_inv (s : State) (r : Req) (op : Opcode) (ix sub : Nat) (hs : s.Inv) : (State.defer s r op ix sub).Inv := by
  unfold State.defer
  try dsimp only
  repeat' first
    | (with_reducible first
        | assumption | intro _ | apply State.Inv.ite_same | apply State.modTp_inv | apply State.pendAdd_inv)
    | split | dsimp only | (with_reducible refine State.Inv.of_mk (s := ?_) ?_ ?_)
    | exact State.Inv.acc (by with_reducible assumption)

theorem State.serve_inv (s : State) (r : Req) (op : Opcode) (ix sub : Nat) (pl : List Byte) (own : State → Verdict)
    (hs : s.Inv) (ho : ∀ t : State, t.Inv → (own t).Inv) : (s.serve r op ix sub pl own).Inv := by
  have key : ∀ t : State, t.Inv → ∀ v : Verdict, v.Inv → (match v with
      | .deny st => t.reply r op ix sub st []
      | .fail s' st => s'.reply r op ix sub st []
      | .done s' out => s'.reply r op ix sub St.OK out
      | .names s' ix' out => s'.replyAt r op ix' 0 St.OK out
      | .later s' => s'.defer r op ix sub : State).Inv := by
    intro t ht v hv
    cases v with
    | deny st => exact State.reply_inv _ _ _ _ _ _ _ ht
    | fail s' st => exact State.reply_inv _ _ _ _ _ _ _ hv
    | done s' out => exact State.reply_inv _ _ _ _ _ _ _ hv
    | names s' ix' out => exact State.replyAt_inv _ _ _ _ _ _ _ hv
    | later s' => exact State.defer_inv _ _ _ _ _ hv
  unfold State.serve
  extract_lets body frame taken s1 crc dup s2 g
  have h1 : s1.Inv := State.arrive_inv _ _ _ hs
  have h2 : s2.Inv := by
    show State.Inv (if _ then _ else _)
    split
    · exact State.modTp_inv _ _ _ h1
    · exact h1
  clear_value g s2 dup s1 crc taken frame
  split
  · split
    · exact State.mgtCall_inv _ hs
    · exact hs
  · split
    · exact State.pushBehind_inv _ _ _ _ _ (State.arrive_inv _ _ _ hs)
    · split
      · split
        · exact State.pushBehind_inv _ _ _ _ _ h1
        · exact h1
      · split
        · exact State.pushBehind_inv _ _ _ _ _ h1
        · split
          · exact State.reply_inv _ _ _ _ _ _ _ h2
          · split
            · exact State.reply_inv _ _ _ _ _ _ _ h2
            · split
              · exact State.reply_inv _ _ _ _ _ _ _ h2
              · exact key s2 h2 _ (ho _ h2)

theorem storeVal_inv (ix sub : Nat) (v : Int) (s : State) (hs : s.Inv) : (storeVal ix sub v s).Inv := by
  unfold storeVal
  try dsimp only
  repeat' first
    | (with_reducible first
        | assumption | intro _ | apply State.setReg_inv | apply Verdict.inv_done)

theorem State.refclk_inv (s : State) (hs : s.Inv) : (State.refclk s).Inv := by
  unfold State.refclk
  try dsimp only
  repeat' first
    | (with_reducible first
        | assumption | intro _)
    | dsimp only | (with_reducible refine State.Inv.of_mk (s := ?_) ?_ ?_)
    | exact State.Inv.acc (by with_reducible assumption) | exact Nat.mod_lt _ (by decide) | omega
    | exact Nat.lt_of_le_of_lt (Nat.div_mul_le_self _ _) (Nat.lt_of_le_of_lt (Nat.sub_le _ _) (State.Inv.acc (by with_reducible assumption)))

theorem State.idle_inv (s : State) (hs : s.Inv) : (State.idle s).Inv := by
  unfold State.idle
  try dsimp only
  repeat' first
    | (with_reducible first
        | assumption | intro _ | apply State.Inv.ite_same | apply State.refclk_inv)
    | split | dsimp only

theorem State.loadCounter_inv (s : State) (t : Nat) (hs : s.Inv) : (State.loadCounter s t).Inv := by
  unfold State.loadCounter
  try dsimp only
  repeat' first
    | (with_reducible first
        | assumption | intro _ | apply State.Inv.ite_same | apply State.setReg_inv)
    | split | dsimp only | (with_reducible refine State.Inv.of_mk (s := ?_) ?_ ?_)
    | exact State.Inv.acc (by with_reducible assumption) | exact Nat.mod_lt _ (by decide) | omega
    | exact Nat.lt_of_le_of_lt (Nat.div_mul_le_self _ _) (Nat.lt_of_le_of_lt (Nat.sub_le _ _) (State.Inv.acc (by with_reducible assumption)))

theorem ownTimeSet_inv (t : Int) (s : State) (hs : s.Inv) : (ownTimeSet t s).Inv := by
  unfold ownTimeSet
  try dsimp only
  repeat' first
    | (with_reducible first
        | assumption | intro _ | apply State.Inv.ite_same | apply State.loadCounter_inv | apply Verdict.inv_deny
        | apply Verdict.inv_done)
    | split | dsimp only

theorem ownNextSeconds_inv (v : Int) (s : State) (hs : s.Inv) : (ownNextSeconds v s).Inv := by
  unfold ownNextSeconds
  extract_lets before tm
  have h : tm.acc = s.time.acc := rfl
  clear_value tm before
  refine State.setReg_inv _ _ _ _ (State.setReg_inv _ _ _ _ ⟨hs.regs, hs.blobs, hs.savedRegs, hs.savedBlobs, hs.flash, ?_⟩)
  show tm.acc < _
  rw [h]
  exact hs.acc

theorem State.ppsEnable_inv (s : State) (v : Int) (hs : s.Inv) : (State.ppsEnable s v).Inv := by
  unfold State.ppsEnable
  try dsimp only
  repeat' first
    | (with_reducible first
        | assumption | intro _ | apply State.Inv.ite_same | apply State.setReg_inv)
    | split | dsimp only | (with_reducible refine State.Inv.of_mk (s := ?_) ?_ ?_)
    | exact State.Inv.acc (by with_reducible assumption)

theorem ownPpsEnable_inv (v : Int) (s : State) (hs : s.Inv) : (ownPpsEnable v s).Inv := by
  unfold ownPpsEnable
  try dsimp only
  repeat' first
    | (with_reducible first
        | assumption | intro _ | apply State.ppsEnable_inv | apply Verdict.inv_done)

theorem ownRateAdj_inv (v : Int) (s : State) (hs : s.Inv) : (ownRateAdj v s).Inv := by
  unfold ownRateAdj
  try dsimp only
  repeat' first
    | (with_reducible first
        | assumption | intro _ | apply State.Inv.ite_same | apply State.setReg_inv | apply Verdict.inv_deny
        | apply Verdict.inv_done)
    | split | dsimp only

theorem State.correct_inv (s : State) (e : Int) (hs : s.Inv) : (State.correct s e).Inv := by
  unfold State.correct
  try dsimp only
  repeat' first
    | (with_reducible first
        | assumption | intro _ | apply State.Inv.ite_same | apply State.setReg_inv)
    | split | dsimp only | (with_reducible refine State.Inv.of_mk (s := ?_) ?_ ?_)
    | exact State.Inv.acc (by with_reducible assumption) | exact Nat.mod_lt _ (by decide) | omega
    | exact Nat.lt_of_le_of_lt (Nat.div_mul_le_self _ _) (Nat.lt_of_le_of_lt (Nat.sub_le _ _) (State.Inv.acc (by with_reducible assumption)))

theorem State.discipline_inv (s : State) (e : Int) (hs : s.Inv) : (State.discipline s e).Inv := by
  unfold State.discipline
  try dsimp only
  repeat' first
    | (with_reducible first
        | assumption | intro _ | apply State.Inv.ite_same | apply State.setReg_inv)
    | split | dsimp only

theorem State.takeEdge_inv (s : State) (v : Int) (hs : s.Inv) : (State.takeEdge s v).Inv := by
  unfold State.takeEdge
  try dsimp only
  repeat' first
    | (with_reducible first
        | assumption | intro _ | apply State.Inv.ite_same | apply State.setReg_inv | apply State.bump_inv
        | apply State.correct_inv | apply State.discipline_inv)
    | split | dsimp only | (with_reducible refine State.Inv.of_mk (s := ?_) ?_ ?_)
    | exact State.Inv.acc (by with_reducible assumption)

end Sys2Proof.Machine
end

