-- ==== Sys2Proof/Laws/SoundLine.lean ====
section
/-! SUPPORT. Soundness kept by the converters, the timing loops, the equaliser, the pool and the housekeeping block. -/

set_option linter.unusedTactic false
set_option linter.unreachableTactic false
set_option linter.unusedVariables false

namespace Sys2Proof.Machine

theorem State.modConv_inv (s : State) (c : Fin 4) (f : HkConv → HkConv) (hs : s.Inv) : (State.modConv s c f).Inv := by
  unfold State.modConv
  try dsimp only
  repeat' first
    | (with_reducible first
        | assumption | intro _)
    | dsimp only | (with_reducible refine State.Inv.of_mk (s := ?_) ?_ ?_)
    | exact State.Inv.acc (by with_reducible assumption)

theorem State.modChan_inv (s : State) (k : Fin 16) (f : HkChan → HkChan) (hs : s.Inv) : (State.modChan s k f).Inv := by
  unfold State.modChan
  try dsimp only
  repeat' first
    | (with_reducible first
        | assumption | intro _)
    | dsimp only | (with_reducible refine State.Inv.of_mk (s := ?_) ?_ ?_)
    | exact State.Inv.acc (by with_reducible assumption)

theorem State.modAdac_inv (s : State) (k : Fin 16) (f : Adac → Adac) (hs : s.Inv) : (State.modAdac s k f).Inv := by
  unfold State.modAdac
  try dsimp only
  repeat' first
    | (with_reducible first
        | assumption | intro _)
    | dsimp only | (with_reducible refine State.Inv.of_mk (s := ?_) ?_ ?_)
    | exact State.Inv.acc (by with_reducible assumption)

theorem State.modPwm_inv (s : State) (i : Fin 4) (f : Pwm → Pwm) (hs : s.Inv) : (State.modPwm s i f).Inv := by
  unfold State.modPwm
  try dsimp only
  repeat' first
    | (with_reducible first
        | assumption | intro _)
    | dsimp only | (with_reducible refine State.Inv.of_mk (s := ?_) ?_ ?_)
    | exact State.Inv.acc (by with_reducible assumption)

theorem State.adacPut_inv (s : State) (k : Fin 16) (code : Nat) (hs : s.Inv) : (State.adacPut s k code).Inv := by
  unfold State.adacPut
  try dsimp only
  repeat' first
    | (with_reducible first
        | assumption | intro _ | apply State.modAdac_inv)
    | dsimp only | (with_reducible refine State.Inv.of_mk (s := ?_) ?_ ?_)
    | exact State.Inv.acc (by with_reducible assumption)

theorem State.adacLoad_inv (s : State) (src : Nat) (hs : s.Inv) : (State.adacLoad s src).Inv := by
  unfold State.adacLoad
  try dsimp only
  repeat' first
    | (with_reducible first
        | assumption | intro _ | apply State.Inv.ite_same | apply State.bump_inv)
    | split | dsimp only | (with_reducible refine State.Inv.of_mk (s := ?_) ?_ ?_)
    | exact State.Inv.acc (by with_reducible assumption)

theorem State.adacStep_inv (s : State) (k : Fin 16) (hs : s.Inv) : (State.adacStep s k).Inv := by
  unfold State.adacStep
  try dsimp only
  repeat' first
    | (with_reducible first
        | assumption | intro _ | apply State.Inv.ite_same | apply State.setReg_inv)
    | split | dsimp only

theorem State.biasStart_inv (s : State) (l : Fin 8) (up : Bool) (hs : s.Inv) : (State.biasStart s l up).Inv := by
  unfold State.biasStart
  try dsimp only
  repeat' first
    | (with_reducible first
        | assumption | intro _ | apply State.Inv.ite_same | apply State.adacPut_inv | apply State.adacLoad_inv)
    | (with_reducible apply forEach_inv; rotate_left) | split | dsimp only

theorem State.chanChange_inv (s : State) (k : Fin 16) (hs : s.Inv) : (State.chanChange s k).Inv := by
  unfold State.chanChange
  try dsimp only
  repeat' first
    | (with_reducible first
        | assumption | intro _ | apply State.setReg_inv | apply State.modChan_inv)
    | dsimp only | (with_reducible refine State.Inv.of_mk (s := ?_) ?_ ?_)
    | exact State.Inv.acc (by with_reducible assumption)

theorem State.chanChangeAll_inv (s : State) (hs : s.Inv) : (State.chanChangeAll s).Inv := by
  unfold State.chanChangeAll
  try dsimp only
  repeat' first
    | (with_reducible first
        | assumption | intro _ | apply State.chanChange_inv)
    | (with_reducible apply forEach_inv; rotate_left) | dsimp only

theorem State.feed_inv (s : State) (ch code : Nat) (hs : s.Inv) : (State.feed s ch code).Inv := by
  unfold State.feed
  try dsimp only
  repeat' first
    | (with_reducible first
        | assumption | intro _ | apply State.Inv.ite_same | apply State.modChan_inv)
    | split | dsimp only | (with_reducible refine State.Inv.of_mk (s := ?_) ?_ ?_)
    | exact State.Inv.acc (by with_reducible assumption)

theorem State.convert_inv (s : State) (raw : Vector Nat 4) (c : Fin 4) (hs : s.Inv) : (State.convert s raw c).Inv := by
  unfold State.convert
  try dsimp only
  repeat' first
    | (with_reducible first
        | assumption | intro _ | apply State.Inv.ite_same | apply State.setReg_inv | apply State.modConv_inv
        | apply State.feed_inv)
    | split | dsimp only

theorem State.trigTake_inv (s : State) (hs : s.Inv) : (State.trigTake s).Inv := by
  unfold State.trigTake
  try dsimp only
  repeat' first
    | (with_reducible first
        | assumption | intro _ | apply State.Inv.ite_same | apply State.setReg_inv | apply State.chanChangeAll_inv)
    | split | dsimp only | (with_reducible refine State.Inv.of_mk (s := ?_) ?_ ?_)
    | exact State.Inv.acc (by with_reducible assumption)

theorem ownHkSelfCal_inv (s : State) (hs : s.Inv) : (ownHkSelfCal s).Inv := by
  unfold ownHkSelfCal
  try dsimp only
  repeat' first
    | (with_reducible first
        | assumption | intro _ | apply State.Inv.ite_same | apply Verdict.inv_deny | apply Verdict.inv_later)
    | split | dsimp only | (with_reducible refine State.Inv.of_mk (s := ?_) ?_ ?_)
    | exact State.Inv.acc (by with_reducible assumption)

theorem State.hkCalAbort_inv (s : State) (st : Nat) (hs : s.Inv) : (State.hkCalAbort s st).Inv := by
  unfold State.hkCalAbort
  try dsimp only
  repeat' first
    | (with_reducible first
        | assumption | intro _ | apply State.Inv.ite_same | apply State.setAll_inv | apply State.finish_inv)
    | split | dsimp only | (with_reducible refine State.Inv.of_mk (s := ?_) ?_ ?_)
    | exact State.Inv.acc (by with_reducible assumption)

theorem ownAdcResult_inv (sub : Nat) (s : State) (hs : s.Inv) : (ownAdcResult sub s).Inv := by
  unfold ownAdcResult
  try dsimp only
  repeat' first
    | (with_reducible first
        | assumption | intro _ | apply State.Inv.ite_same | apply State.setReg_inv | apply State.modConv_inv
        | apply Verdict.inv_done)
    | split | dsimp only | (with_reducible refine State.Inv.of_mk (s := ?_) ?_ ?_)
    | exact State.Inv.acc (by with_reducible assumption)

theorem State.detect_inv (s : State) (k : Fin 16) (x : Nat) (hs : s.Inv) : (State.detect s k x).Inv := by
  unfold State.detect
  try dsimp only
  repeat' first
    | (with_reducible first
        | assumption | intro _ | apply State.Inv.ite_same | apply State.setReg_inv | apply State.modChan_inv)
    | split | dsimp only | (with_reducible refine State.Inv.of_mk (s := ?_) ?_ ?_)
    | exact State.Inv.acc (by with_reducible assumption)

theorem ownFirSwap_inv (s : State) (hs : s.Inv) : (ownFirSwap s).Inv := by
  unfold ownFirSwap
  try dsimp only
  repeat' first
    | (with_reducible first
        | assumption | intro _ | apply State.setBlob_inv | apply State.chanChangeAll_inv | apply Verdict.inv_done)

theorem ownHkLoad_inv (s : State) (hs : s.Inv) : (ownHkLoad s).Inv := by
  unfold ownHkLoad
  try dsimp only
  repeat' first
    | (with_reducible first
        | assumption | intro _ | apply State.Inv.ite_same | apply State.adacLoad_inv | apply Verdict.inv_done)
    | split | dsimp only

theorem State.hkStop_inv (s : State) (hs : s.Inv) : (State.hkStop s).Inv := by
  unfold State.hkStop
  try dsimp only
  repeat' first
    | (with_reducible first
        | assumption | intro _ | apply State.setReg_inv | apply State.setAll_inv | apply State.hkCalAbort_inv)
    | dsimp only | (with_reducible refine State.Inv.of_mk (s := ?_) ?_ ?_)
    | exact State.Inv.acc (by with_reducible assumption)

theorem State.hkWake_inv (s : State) (hs : s.Inv) : (State.hkWake s).Inv := by
  unfold State.hkWake
  try dsimp only
  repeat' first
    | (with_reducible first
        | assumption | intro _ | apply State.chanChangeAll_inv)
    | dsimp only | (with_reducible refine State.Inv.of_mk (s := ?_) ?_ ?_)
    | exact State.Inv.acc (by with_reducible assumption)

theorem State.hkCold_inv (s : State) (hs : s.Inv) : (State.hkCold s).Inv := by
  unfold State.hkCold
  try dsimp only
  repeat' first
    | (with_reducible first
        | assumption | intro _ | apply State.chanChangeAll_inv)
    | dsimp only | (with_reducible refine State.Inv.of_mk (s := ?_) ?_ ?_)
    | exact State.Inv.acc (by with_reducible assumption)

theorem State.hkSafe_inv (s : State) (hs : s.Inv) : (State.hkSafe s).Inv := by
  unfold State.hkSafe
  try dsimp only
  repeat' first
    | (with_reducible first
        | assumption | intro _ | apply State.Inv.ite_same | apply State.setReg_inv | apply State.modAdac_inv
        | apply State.hkCalAbort_inv)
    | (with_reducible apply forEach_inv; rotate_left) | split | dsimp only
    | (with_reducible refine State.Inv.of_mk (s := ?_) ?_ ?_) | exact State.Inv.acc (by with_reducible assumption)

theorem ownScan_inv (sub : Nat) (b : List Byte) (s : State) (hs : s.Inv) : (ownScan sub b s).Inv := by
  unfold ownScan
  try dsimp only
  repeat' first
    | (with_reducible first
        | assumption | intro _ | apply State.Inv.ite_same | apply State.setBlob_inv | apply State.modConv_inv
        | apply State.chanChange_inv | apply noRepeat_inv | apply Verdict.inv_deny | apply Verdict.inv_done)
    | (with_reducible apply forEach_inv; rotate_left) | split | dsimp only
    | (with_reducible refine State.Inv.of_mk (s := ?_) ?_ ?_) | exact State.Inv.acc (by with_reducible assumption)

theorem ownPairMode_inv (v : Int) (s : State) (hs : s.Inv) : (ownPairMode v s).Inv := by
  unfold ownPairMode
  try dsimp only
  repeat' first
    | (with_reducible first
        | assumption | intro _ | apply State.Inv.ite_same | apply State.setReg_inv | apply State.chanChange_inv
        | apply Verdict.inv_deny | apply Verdict.inv_done)
    | (with_reducible apply forEach_inv; rotate_left) | split | dsimp only
    | (with_reducible refine State.Inv.of_mk (s := ?_) ?_ ?_) | exact State.Inv.acc (by with_reducible assumption)

theorem ownPairInput_inv (sub : Nat) (v : Int) (s : State) (hs : s.Inv) : (ownPairInput sub v s).Inv := by
  unfold ownPairInput
  try dsimp only
  repeat' first
    | (with_reducible first
        | assumption | intro _ | apply State.Inv.ite_same | apply State.setReg_inv | apply State.chanChange_inv
        | apply Verdict.inv_done)
    | (with_reducible apply forEach_inv; rotate_left) | split | dsimp only

theorem ownFiltRate_inv (ix sub : Nat) (v : Int) (s : State) (hs : s.Inv) : (ownFiltRate ix sub v s).Inv := by
  unfold ownFiltRate
  try dsimp only
  repeat' first
    | (with_reducible first
        | assumption | intro _ | apply State.Inv.ite_same | apply State.setReg_inv | apply State.chanChange_inv
        | apply Verdict.inv_deny | apply Verdict.inv_done)
    | split | dsimp only

theorem ownFiltOther_inv (ix sub : Nat) (v : Int) (s : State) (hs : s.Inv) : (ownFiltOther ix sub v s).Inv := by
  unfold ownFiltOther
  try dsimp only
  repeat' first
    | (with_reducible first
        | assumption | intro _ | apply State.Inv.ite_same | apply State.setReg_inv | apply State.chanChange_inv
        | apply Verdict.inv_deny | apply Verdict.inv_done)
    | split | dsimp only

theorem ownRefEnable_inv (v : Int) (s : State) (hs : s.Inv) : (ownRefEnable v s).Inv := by
  unfold ownRefEnable
  try dsimp only
  repeat' first
    | (with_reducible first
        | assumption | intro _ | apply State.Inv.ite_same | apply State.setReg_inv | apply State.hkCalAbort_inv
        | apply Verdict.inv_done)
    | split | dsimp only

theorem ownAdacCode_inv (sub : Nat) (v : Int) (s : State) (hs : s.Inv) : (ownAdacCode sub v s).Inv := by
  unfold ownAdacCode
  try dsimp only
  repeat' first
    | (with_reducible first
        | assumption | intro _ | apply State.Inv.ite_same | apply State.setReg_inv | apply State.adacPut_inv
        | apply Verdict.inv_deny | apply Verdict.inv_done)
    | split | dsimp only

theorem ownAdacMode_inv (sub : Nat) (v : Int) (s : State) (hs : s.Inv) : (ownAdacMode sub v s).Inv := by
  unfold ownAdacMode
  try dsimp only
  repeat' first
    | (with_reducible first
        | assumption | intro _ | apply State.Inv.ite_same | apply State.setReg_inv | apply Verdict.inv_deny
        | apply Verdict.inv_done)
    | split | dsimp only

theorem ownPwmEnable_inv (sub : Nat) (v : Int) (s : State) (hs : s.Inv) : (ownPwmEnable sub v s).Inv := by
  unfold ownPwmEnable
  try dsimp only
  repeat' first
    | (with_reducible first
        | assumption | intro _ | apply State.Inv.ite_same | apply State.setReg_inv | apply State.modPwm_inv
        | apply Verdict.inv_deny | apply Verdict.inv_done)
    | split | dsimp only | (with_reducible refine State.Inv.of_mk (s := ?_) ?_ ?_)
    | exact State.Inv.acc (by with_reducible assumption)

theorem ownHkWrite_inv (ix sub : Nat) (v : Int) (s : State) (hs : s.Inv) : (ownHkWrite ix sub v s).Inv := by
  unfold ownHkWrite
  try dsimp only
  repeat' first
    | (with_reducible first
        | assumption | intro _ | apply State.Inv.ite_same | apply storeVal_inv | apply ownPairMode_inv
        | apply ownPairInput_inv | apply ownFiltRate_inv | apply ownFiltOther_inv | apply ownRefEnable_inv
        | apply ownAdacCode_inv | apply ownAdacMode_inv | apply ownPwmEnable_inv)
    | split | dsimp only

theorem State.modEng_inv (s : State) (e : Fin 128) (f : Engine → Engine) (hs : s.Inv) : (State.modEng s e f).Inv := by
  unfold State.modEng
  try dsimp only
  repeat' first
    | (with_reducible first
        | assumption | intro _)
    | dsimp only | (with_reducible refine State.Inv.of_mk (s := ?_) ?_ ?_)
    | exact State.Inv.acc (by with_reducible assumption)

theorem State.trigger_inv (s : State) (e : Fin 128) (task within : Nat) (hs : s.Inv) : (State.trigger s e task within).Inv := by
  unfold State.trigger
  try dsimp only
  repeat' first
    | (with_reducible first
        | assumption | intro _ | apply State.Inv.ite_same | apply State.setReg_inv | apply State.modEng_inv)
    | split | dsimp only | (with_reducible refine State.Inv.of_mk (s := ?_) ?_ ?_)
    | exact State.Inv.acc (by with_reducible assumption)

theorem State.noteUndo_inv (s : State) (es : List (Fin 128)) (task : Nat) (undo : List Undo) (hs : s.Inv) : (State.noteUndo s es task undo).Inv := by
  unfold State.noteUndo
  try dsimp only
  repeat' first
    | (with_reducible first
        | assumption | intro _ | apply State.modEng_inv)
    | split | dsimp only | (with_reducible refine State.Inv.of_mk (s := ?_) ?_ ?_)
    | exact State.Inv.acc (by with_reducible assumption)

theorem State.triggerFirst_inv (s : State) (es : List (Fin 128)) (task within : Nat) (undo : List Undo) (hs : s.Inv) : (State.triggerFirst s es task within undo).Inv := by
  unfold State.triggerFirst
  try dsimp only
  repeat' first
    | (with_reducible first
        | assumption | intro _ | apply State.trigger_inv | apply State.noteUndo_inv)
    | split | dsimp only

theorem State.jobDone_inv (s : State) (e : Fin 128) (task : Nat) (hs : s.Inv) : (State.jobDone s e task).Inv := by
  unfold State.jobDone
  try dsimp only
  repeat' first
    | (with_reducible first
        | assumption | intro _ | apply State.Inv.ite_same | apply State.setReg_inv | apply State.modEng_inv)
    | split | dsimp only | (with_reducible refine State.Inv.of_mk (s := ?_) ?_ ?_)
    | exact State.Inv.acc (by with_reducible assumption)

theorem State.modTx_inv (s : State) (l : Fin 8) (f : TxLane → TxLane) (hs : s.Inv) : (State.modTx s l f).Inv := by
  unfold State.modTx
  try dsimp only
  repeat' first
    | (with_reducible first
        | assumption | intro _)
    | dsimp only | (with_reducible refine State.Inv.of_mk (s := ?_) ?_ ?_)
    | exact State.Inv.acc (by with_reducible assumption)

theorem State.waveRetarget_inv (s : State) (l : Fin 8) (hs : s.Inv) : (State.waveRetarget s l).Inv := by
  unfold State.waveRetarget
  try dsimp only
  repeat' first
    | (with_reducible first
        | assumption | intro _ | apply State.Inv.ite_same | apply State.setReg_inv | apply State.modTx_inv)
    | split | dsimp only | (with_reducible refine State.Inv.of_mk (s := ?_) ?_ ?_)
    | exact State.Inv.acc (by with_reducible assumption)

theorem State.txSend_inv (s : State) (l : Fin 8) (levels : List Nat) (hs : s.Inv) : (State.txSend s l levels).Inv := by
  unfold State.txSend
  try dsimp only
  repeat' first
    | (with_reducible first
        | assumption | intro _ | apply State.Inv.ite_same | apply State.bump_inv | apply State.bump64_inv
        | apply State.record_inv | apply State.modTx_inv | apply State.waveRetarget_inv | apply precodeLevels_inv)
    | split | dsimp only | (with_reducible refine State.Inv.of_mk (s := ?_) ?_ ?_)
    | exact State.Inv.acc (by with_reducible assumption)

theorem State.txCalibrate_inv (s : State) (l : Fin 8) (rateChange : Bool) (hs : s.Inv) : (State.txCalibrate s l rateChange).Inv := by
  unfold State.txCalibrate
  try dsimp only
  repeat' first
    | (with_reducible first
        | assumption | intro _ | apply State.setReg_inv | apply State.modTx_inv)
    | dsimp only | (with_reducible refine State.Inv.of_mk (s := ?_) ?_ ?_)
    | exact State.Inv.acc (by with_reducible assumption)

theorem State.txCalibrated_inv (s : State) (l : Fin 8) (hs : s.Inv) : (State.txCalibrated s l).Inv := by
  unfold State.txCalibrated
  try dsimp only
  repeat' first
    | (with_reducible first
        | assumption | intro _ | apply State.setReg_inv | apply State.bump_inv | apply State.setStamp_inv
        | apply State.modTx_inv | apply State.waveRetarget_inv)
    | dsimp only | (with_reducible refine State.Inv.of_mk (s := ?_) ?_ ?_)
    | exact State.Inv.acc (by with_reducible assumption)

theorem State.apcVote_inv (s : State) (hs : s.Inv) : (State.apcVote s).Inv := by
  unfold State.apcVote
  try dsimp only
  repeat' first
    | (with_reducible first
        | assumption | intro _ | apply State.Inv.ite_same | apply State.castVote_inv | apply State.withdraw_inv)
    | split | dsimp only

theorem State.apcHold_inv (s : State) (l : Fin 8) (hs : s.Inv) : (State.apcHold s l).Inv := by
  unfold State.apcHold
  try dsimp only
  repeat' first
    | (with_reducible first
        | assumption | intro _ | apply State.Inv.ite_same | apply State.setReg_inv | apply State.apcVote_inv)
    | split | dsimp only

theorem State.upStart_inv (s : State) (l : Fin 8) (hs : s.Inv) : (State.upStart s l).Inv := by
  unfold State.upStart
  try dsimp only
  repeat' first
    | (with_reducible first
        | assumption | intro _ | apply State.setReg_inv | apply State.modTx_inv)
    | dsimp only | (with_reducible refine State.Inv.of_mk (s := ?_) ?_ ?_)
    | exact State.Inv.acc (by with_reducible assumption)

theorem State.txEnable_inv (s : State) (l : Fin 8) (hs : s.Inv) : (State.txEnable s l).Inv := by
  unfold State.txEnable
  try dsimp only
  repeat' first
    | (with_reducible first
        | assumption | intro _ | apply State.Inv.ite_same | apply State.modTx_inv | apply State.upStart_inv)
    | split | dsimp only | (with_reducible refine State.Inv.of_mk (s := ?_) ?_ ?_)
    | exact State.Inv.acc (by with_reducible assumption)

theorem State.downBias_inv (s : State) (l : Fin 8) (hs : s.Inv) : (State.downBias s l).Inv := by
  unfold State.downBias
  try dsimp only
  repeat' first
    | (with_reducible first
        | assumption | intro _ | apply State.setReg_inv | apply State.biasStart_inv | apply State.modTx_inv)
    | dsimp only | (with_reducible refine State.Inv.of_mk (s := ?_) ?_ ?_)
    | exact State.Inv.acc (by with_reducible assumption)

theorem State.downEnd_inv (s : State) (l : Fin 8) (hs : s.Inv) : (State.downEnd s l).Inv := by
  unfold State.downEnd
  try dsimp only
  repeat' first
    | (with_reducible first
        | assumption | intro _ | apply State.Inv.ite_same | apply State.setReg_inv | apply State.modTx_inv)
    | split | dsimp only | (with_reducible refine State.Inv.of_mk (s := ?_) ?_ ?_)
    | exact State.Inv.acc (by with_reducible assumption)

theorem State.downOutput_inv (s : State) (l : Fin 8) (hs : s.Inv) : (State.downOutput s l).Inv := by
  unfold State.downOutput
  try dsimp only
  repeat' first
    | (with_reducible first
        | assumption | intro _ | apply State.setReg_inv | apply State.modTx_inv | apply State.waveRetarget_inv)
    | dsimp only | (with_reducible refine State.Inv.of_mk (s := ?_) ?_ ?_)
    | exact State.Inv.acc (by with_reducible assumption)

theorem State.txDown_inv (s : State) (l : Fin 8) (hs : s.Inv) : (State.txDown s l).Inv := by
  unfold State.txDown
  try dsimp only
  repeat' first
    | (with_reducible first
        | assumption | intro _ | apply State.Inv.ite_same | apply State.setReg_inv | apply State.modTx_inv
        | apply State.apcVote_inv | apply State.apcHold_inv | apply State.downBias_inv | apply State.downEnd_inv
        | apply State.downOutput_inv)
    | split | dsimp only | (with_reducible refine State.Inv.of_mk (s := ?_) ?_ ?_)
    | exact State.Inv.acc (by with_reducible assumption)

theorem State.fixedDown_inv (s : State) (l : Fin 8) (hs : s.Inv) : (State.fixedDown s l).Inv := by
  unfold State.fixedDown
  try dsimp only
  repeat' first
    | (with_reducible first
        | assumption | intro _ | apply State.setReg_inv | apply State.modAdac_inv | apply State.modTx_inv
        | apply State.waveRetarget_inv | apply State.apcHold_inv)
    | (with_reducible apply forEach_inv; rotate_left) | dsimp only | (with_reducible refine State.Inv.of_mk (s := ?_) ?_ ?_)
    | exact State.Inv.acc (by with_reducible assumption)

theorem State.txStop_inv (s : State) (l : Fin 8) (hs : s.Inv) : (State.txStop s l).Inv := by
  unfold State.txStop
  try dsimp only
  repeat' first
    | (with_reducible first
        | assumption | intro _ | apply State.setReg_inv | apply State.modTx_inv | apply State.apcHold_inv)
    | dsimp only | (with_reducible refine State.Inv.of_mk (s := ?_) ?_ ?_)
    | exact State.Inv.acc (by with_reducible assumption)

theorem ownWave_inv (ix sub : Nat) (b : List Byte) (s : State) (hs : s.Inv) : (ownWave ix sub b s).Inv := by
  unfold ownWave
  try dsimp only
  repeat' first
    | (with_reducible first
        | assumption | intro _ | apply State.Inv.ite_same | apply State.setBlob_inv | apply State.waveRetarget_inv
        | apply Verdict.inv_deny | apply Verdict.inv_done)
    | split | dsimp only

theorem ownTxWrite_inv (ix sub : Nat) (v : Int) (s : State) (hs : s.Inv) : (ownTxWrite ix sub v s).Inv := by
  unfold ownTxWrite
  try dsimp only
  repeat' first
    | (with_reducible first
        | assumption | intro _ | apply State.Inv.ite_same | apply storeVal_inv | apply Verdict.inv_deny)
    | split | dsimp only

theorem ownMuteForce_inv (sub : Nat) (v : Int) (s : State) (hs : s.Inv) : (ownMuteForce sub v s).Inv := by
  unfold ownMuteForce
  try dsimp only
  repeat' first
    | (with_reducible first
        | assumption | intro _ | apply State.Inv.ite_same | apply State.setReg_inv | apply State.modTx_inv
        | apply State.waveRetarget_inv | apply Verdict.inv_deny | apply Verdict.inv_done)
    | split | dsimp only | (with_reducible refine State.Inv.of_mk (s := ?_) ?_ ?_)
    | exact State.Inv.acc (by with_reducible assumption)

theorem State.modAdcLane_inv (s : State) (l : Fin 8) (f : AdcLane → AdcLane) (hs : s.Inv) : (State.modAdcLane s l f).Inv := by
  unfold State.modAdcLane
  try dsimp only
  repeat' first
    | (with_reducible first
        | assumption | intro _)
    | dsimp only | (with_reducible refine State.Inv.of_mk (s := ?_) ?_ ?_)
    | exact State.Inv.acc (by with_reducible assumption)

theorem State.modSynth_inv (s : State) (h : Fin 2) (f : RxSynth → RxSynth) (hs : s.Inv) : (State.modSynth s h f).Inv := by
  unfold State.modSynth
  try dsimp only
  repeat' first
    | (with_reducible first
        | assumption | intro _)
    | dsimp only | (with_reducible refine State.Inv.of_mk (s := ?_) ?_ ?_)
    | exact State.Inv.acc (by with_reducible assumption)

theorem State.adcRefresh_inv (s : State) (l : Fin 8) (hs : s.Inv) : (State.adcRefresh s l).Inv := by
  unfold State.adcRefresh
  try dsimp only
  repeat' first
    | (with_reducible first
        | assumption | intro _ | apply State.Inv.ite_same | apply State.setReg_inv)
    | split | dsimp only

theorem State.floorInvalid_inv (s : State) (l : Fin 8) (hs : s.Inv) : (State.floorInvalid s l).Inv := by
  unfold State.floorInvalid
  try dsimp only
  repeat' first
    | (with_reducible first
        | assumption | intro _ | apply State.setReg_inv | apply State.modAdcLane_inv)
    | dsimp only | (with_reducible refine State.Inv.of_mk (s := ?_) ?_ ?_)
    | exact State.Inv.acc (by with_reducible assumption)

theorem State.recalRestart_inv (s : State) (l : Fin 8) (hs : s.Inv) : (State.recalRestart s l).Inv := by
  unfold State.recalRestart
  try dsimp only
  repeat' first
    | (with_reducible first
        | assumption | intro _ | apply State.Inv.ite_same | apply State.modAdcLane_inv)
    | split | dsimp only | (with_reducible refine State.Inv.of_mk (s := ?_) ?_ ?_)
    | exact State.Inv.acc (by with_reducible assumption)

theorem State.recalBand_inv (s : State) (hs : s.Inv) : (State.recalBand s).Inv := by
  unfold State.recalBand
  try dsimp only
  repeat' first
    | (with_reducible first
        | assumption | intro _ | apply State.modAdcLane_inv)
    | (with_reducible apply forEach_inv; rotate_left) | dsimp only | (with_reducible refine State.Inv.of_mk (s := ?_) ?_ ?_)
    | exact State.Inv.acc (by with_reducible assumption)

theorem State.fgStart_inv (s : State) (l : Fin 8) (cold : Bool) (hs : s.Inv) : (State.fgStart s l cold).Inv := by
  unfold State.fgStart
  try dsimp only
  repeat' first
    | (with_reducible first
        | assumption | intro _ | apply State.Inv.ite_same | apply State.setReg_inv | apply State.capAbort_inv
        | apply State.modAdcLane_inv | apply State.floorInvalid_inv)
    | split | dsimp only | (with_reducible refine State.Inv.of_mk (s := ?_) ?_ ?_)
    | exact State.Inv.acc (by with_reducible assumption)

theorem State.fgAbort_inv (s : State) (l : Fin 8) (hs : s.Inv) : (State.fgAbort s l).Inv := by
  unfold State.fgAbort
  try dsimp only
  repeat' first
    | (with_reducible first
        | assumption | intro _ | apply State.Inv.ite_same | apply State.setReg_inv | apply State.finish_inv
        | apply State.modAdcLane_inv | apply State.adcRefresh_inv)
    | split | dsimp only | (with_reducible refine State.Inv.of_mk (s := ?_) ?_ ?_)
    | exact State.Inv.acc (by with_reducible assumption)

theorem ownAdcCalFg_inv (sub : Nat) (s : State) (hs : s.Inv) : (ownAdcCalFg sub s).Inv := by
  unfold ownAdcCalFg
  try dsimp only
  repeat' first
    | (with_reducible first
        | assumption | intro _ | apply State.Inv.ite_same | apply State.fgStart_inv | apply Verdict.inv_deny
        | apply Verdict.inv_later)
    | split | dsimp only

theorem State.fgEnd_inv (s : State) (l : Fin 8) (m : FgResult) (hs : s.Inv) : (State.fgEnd s l m).Inv := by
  unfold State.fgEnd
  try dsimp only
  repeat' first
    | (with_reducible first
        | assumption | intro _ | apply State.Inv.ite_same | apply State.setReg_inv | apply State.bump_inv
        | apply State.setStamp_inv | apply State.raise_inv | apply State.finish_inv | apply State.modAdcLane_inv
        | apply State.adcRefresh_inv | apply State.recalRestart_inv)
    | (with_reducible apply forEach_inv; rotate_left) | split | dsimp only
    | (with_reducible refine State.Inv.of_mk (s := ?_) ?_ ?_) | exact State.Inv.acc (by with_reducible assumption)

theorem State.bgWord_inv (s : State) (l : Fin 8) (kind k : Nat) (range drift : Nat) (est old : Int) (hs : s.Inv) : (State.bgWord s l kind k range drift est old).Inv := by
  unfold State.bgWord
  try dsimp only
  repeat' first
    | (with_reducible first
        | assumption | intro _ | apply State.Inv.ite_same | apply State.raise_inv | apply State.modAdcLane_inv)
    | split | dsimp only | (with_reducible refine State.Inv.of_mk (s := ?_) ?_ ?_)
    | exact State.Inv.acc (by with_reducible assumption)

theorem State.bgCommit_inv (s : State) (l : Fin 8) (e : BgEstimate) (hs : s.Inv) : (State.bgCommit s l e).Inv := by
  unfold State.bgCommit
  try dsimp only
  repeat' first
    | (with_reducible first
        | assumption | intro _ | apply State.Inv.ite_same | apply State.setReg_inv | apply State.bump_inv
        | apply State.setStamp_inv | apply State.modAdcLane_inv | apply State.adcRefresh_inv | apply State.recalRestart_inv
        | apply State.bgWord_inv)
    | (with_reducible apply forEach_inv; rotate_left) | split | dsimp only
    | (with_reducible refine State.Inv.of_mk (s := ?_) ?_ ?_) | exact State.Inv.acc (by with_reducible assumption)

theorem ownBgEnable_inv (sub : Nat) (v : Int) (s : State) (hs : s.Inv) : (ownBgEnable sub v s).Inv := by
  unfold ownBgEnable
  try dsimp only
  repeat' first
    | (with_reducible first
        | assumption | intro _ | apply State.Inv.ite_same | apply State.setReg_inv | apply State.modAdcLane_inv
        | apply Verdict.inv_deny | apply Verdict.inv_done)
    | split | dsimp only | (with_reducible refine State.Inv.of_mk (s := ?_) ?_ ?_)
    | exact State.Inv.acc (by with_reducible assumption)

theorem State.rampStep_inv (s : State) (l : Fin 8) (hs : s.Inv) : (State.rampStep s l).Inv := by
  unfold State.rampStep
  try dsimp only
  repeat' first
    | (with_reducible first
        | assumption | intro _ | apply State.Inv.ite_same | apply State.setReg_inv | apply State.modAdcLane_inv
        | apply State.adcRefresh_inv)
    | split | dsimp only | (with_reducible refine State.Inv.of_mk (s := ?_) ?_ ?_)
    | exact State.Inv.acc (by with_reducible assumption)

theorem State.adcSeed_inv (s : State) (l : Fin 8) (hs : s.Inv) : (State.adcSeed s l).Inv := by
  unfold State.adcSeed
  try dsimp only
  repeat' first
    | (with_reducible first
        | assumption | intro _ | apply State.setReg_inv | apply State.modAdcLane_inv | apply State.adcRefresh_inv)
    | dsimp only

theorem State.adcCold_inv (s : State) (l : Fin 8) (hs : s.Inv) : (State.adcCold s l).Inv := by
  unfold State.adcCold
  try dsimp only
  repeat' first
    | (with_reducible first
        | assumption | intro _ | apply State.fgStart_inv | apply State.adcSeed_inv)

theorem State.adcWarm_inv (s : State) (l : Fin 8) (hs : s.Inv) : (State.adcWarm s l).Inv := by
  unfold State.adcWarm
  try dsimp only
  repeat' first
    | (with_reducible first
        | assumption | intro _ | apply State.Inv.ite_same | apply State.setReg_inv | apply State.modAdcLane_inv
        | apply State.adcRefresh_inv | apply State.fgStart_inv)
    | split | dsimp only | (with_reducible refine State.Inv.of_mk (s := ?_) ?_ ?_)
    | exact State.Inv.acc (by with_reducible assumption)

theorem State.adcStop_inv (s : State) (l : Fin 8) (hs : s.Inv) : (State.adcStop s l).Inv := by
  unfold State.adcStop
  try dsimp only
  repeat' first
    | (with_reducible first
        | assumption | intro _ | apply State.setReg_inv | apply State.capAbort_inv | apply State.modAdcLane_inv
        | apply State.floorInvalid_inv | apply State.fgAbort_inv)
    | dsimp only | (with_reducible refine State.Inv.of_mk (s := ?_) ?_ ?_)
    | exact State.Inv.acc (by with_reducible assumption)

theorem State.synthLocked_inv (s : State) (h : Fin 2) (hs : s.Inv) : (State.synthLocked s h).Inv := by
  unfold State.synthLocked
  try dsimp only
  repeat' first
    | (with_reducible first
        | assumption | intro _ | apply State.Inv.ite_same | apply State.modSynth_inv | apply State.fgStart_inv)
    | (with_reducible apply forEach_inv; rotate_left) | split | dsimp only

theorem State.synthLost_inv (s : State) (h : Fin 2) (hs : s.Inv) : (State.synthLost s h).Inv := by
  unfold State.synthLost
  try dsimp only
  repeat' first
    | (with_reducible first
        | assumption | intro _ | apply State.Inv.ite_same | apply State.modSynth_inv | apply State.floorInvalid_inv
        | apply State.fgStart_inv | apply State.fgAbort_inv)
    | (with_reducible apply forEach_inv; rotate_left) | split | dsimp only
    | (with_reducible refine State.Inv.of_mk (s := ?_) ?_ ?_) | exact State.Inv.acc (by with_reducible assumption)

theorem ownCoupling_inv (sub : Nat) (v : Int) (s : State) (hs : s.Inv) : (ownCoupling sub v s).Inv := by
  unfold ownCoupling
  try dsimp only
  repeat' first
    | (with_reducible first
        | assumption | intro _ | apply State.Inv.ite_same | apply storeVal_inv | apply Verdict.inv_deny)
    | split | dsimp only

theorem State.lineCheck_inv (s : State) (l : Fin 8) (ds : List (Nat × Bool)) (hs : s.Inv) : (State.lineCheck s l ds).Inv := by
  unfold State.lineCheck
  try dsimp only
  repeat' first
    | (with_reducible first
        | assumption | intro _ | apply State.bump64_inv)
    | dsimp only | (with_reducible refine State.Inv.of_mk (s := ?_) ?_ ?_)
    | exact State.Inv.acc (by with_reducible assumption)

theorem State.hostCheck_inv (s : State) (h : Fin 16) (levels : List Nat) (hs : s.Inv) : (State.hostCheck s h levels).Inv := by
  unfold State.hostCheck
  try dsimp only
  repeat' first
    | (with_reducible first
        | assumption | intro _ | apply State.bump64_inv)
    | dsimp only | (with_reducible refine State.Inv.of_mk (s := ?_) ?_ ?_)
    | exact State.Inv.acc (by with_reducible assumption)

theorem State.modRx_inv (s : State) (l : Fin 8) (f : RxLane → RxLane) (hs : s.Inv) : (State.modRx s l f).Inv := by
  unfold State.modRx
  try dsimp only
  repeat' first
    | (with_reducible first
        | assumption | intro _)
    | dsimp only | (with_reducible refine State.Inv.of_mk (s := ?_) ?_ ?_)
    | exact State.Inv.acc (by with_reducible assumption)

theorem State.setTl_inv (s : State) (l : Fin 8) (v : Int) (hs : s.Inv) : (State.setTl s l v).Inv := by
  unfold State.setTl
  try dsimp only
  repeat' first
    | (with_reducible first
        | assumption | intro _ | apply State.setReg_inv)

theorem State.setEq_inv (s : State) (l : Fin 8) (v : Int) (hs : s.Inv) : (State.setEq s l v).Inv := by
  unfold State.setEq
  try dsimp only
  repeat' first
    | (with_reducible first
        | assumption | intro _ | apply State.setReg_inv)

theorem State.modDsp_inv (s : State) (l : Fin 8) (f : Dsp → Dsp) (hs : s.Inv) : (State.modDsp s l f).Inv := by
  unfold State.modDsp
  try dsimp only
  repeat' first
    | (with_reducible first
        | assumption | intro _ | apply State.modRx_inv)
    | dsimp only | (with_reducible refine State.Inv.of_mk (s := ?_) ?_ ?_)
    | exact State.Inv.acc (by with_reducible assumption)

theorem State.showW_inv (s : State) (l : Fin 8) (hs : s.Inv) : (State.showW s l).Inv := by
  unfold State.showW
  try dsimp only
  repeat' first
    | (with_reducible first
        | assumption | intro _ | apply State.setReg_inv)

theorem State.markRun_inv (s : State) (l : Fin 8) (hs : s.Inv) : (State.markRun s l).Inv := by
  unfold State.markRun
  try dsimp only
  repeat' first
    | (with_reducible first
        | assumption | intro _ | apply State.modDsp_inv)
    | dsimp only

theorem State.setIdle_inv (s : State) (l : Fin 8) (b : EqBank) (hs : s.Inv) : (State.setIdle s l b).Inv := by
  unfold State.setIdle
  try dsimp only
  repeat' first
    | (with_reducible first
        | assumption | intro _ | apply State.Inv.ite_same | apply State.modRx_inv)
    | split | dsimp only | (with_reducible refine State.Inv.of_mk (s := ?_) ?_ ?_)
    | exact State.Inv.acc (by with_reducible assumption)

theorem State.noteLast_inv (s : State) (l : Fin 8) (hs : s.Inv) : (State.noteLast s l).Inv := by
  unfold State.noteLast
  try dsimp only
  repeat' first
    | (with_reducible first
        | assumption | intro _ | apply State.Inv.ite_same | apply State.modRx_inv)
    | split | dsimp only | (with_reducible refine State.Inv.of_mk (s := ?_) ?_ ?_)
    | exact State.Inv.acc (by with_reducible assumption)

theorem State.eqHold_inv (s : State) (l : Fin 8) (hs : s.Inv) : (State.eqHold s l).Inv := by
  unfold State.eqHold
  try dsimp only
  repeat' first
    | (with_reducible first
        | assumption | intro _ | apply State.Inv.ite_same | apply State.modRx_inv | apply State.setEq_inv
        | apply State.noteLast_inv)
    | split | dsimp only | (with_reducible refine State.Inv.of_mk (s := ?_) ?_ ?_)
    | exact State.Inv.acc (by with_reducible assumption)

theorem State.cycleStart_inv (s : State) (l : Fin 8) (hs : s.Inv) : (State.cycleStart s l).Inv := by
  unfold State.cycleStart
  try dsimp only
  repeat' first
    | (with_reducible first
        | assumption | intro _ | apply State.Inv.ite_same | apply State.modRx_inv | apply State.modDsp_inv)
    | split | dsimp only | (with_reducible refine State.Inv.of_mk (s := ?_) ?_ ?_)
    | exact State.Inv.acc (by with_reducible assumption)

theorem State.loadSeed_inv (s : State) (l : Fin 8) (useDefault : Bool) (hs : s.Inv) : (State.loadSeed s l useDefault).Inv := by
  unfold State.loadSeed
  try dsimp only
  repeat' first
    | (with_reducible first
        | assumption | intro _ | apply State.Inv.ite_same | apply State.modRx_inv | apply State.modDsp_inv)
    | split | dsimp only | (with_reducible refine State.Inv.of_mk (s := ?_) ?_ ?_)
    | exact State.Inv.acc (by with_reducible assumption)

theorem State.tlAcquire_inv (s : State) (l : Fin 8) (useDefault : Bool) (hs : s.Inv) : (State.tlAcquire s l useDefault).Inv := by
  unfold State.tlAcquire
  try dsimp only
  repeat' first
    | (with_reducible first
        | assumption | intro _ | apply State.Inv.ite_same | apply State.modRx_inv | apply State.setTl_inv
        | apply State.setEq_inv | apply State.modDsp_inv | apply State.showW_inv | apply State.cycleStart_inv
        | apply State.loadSeed_inv)
    | split | dsimp only | (with_reducible refine State.Inv.of_mk (s := ?_) ?_ ?_)
    | exact State.Inv.acc (by with_reducible assumption)

theorem State.tlStart_inv (s : State) (l : Fin 8) (hs : s.Inv) : (State.tlStart s l).Inv := by
  unfold State.tlStart
  try dsimp only
  repeat' first
    | (with_reducible first
        | assumption | intro _ | apply State.Inv.ite_same | apply State.tlAcquire_inv)
    | split | dsimp only

theorem State.tlIdle_inv (s : State) (l : Fin 8) (hs : s.Inv) : (State.tlIdle s l).Inv := by
  unfold State.tlIdle
  try dsimp only
  repeat' first
    | (with_reducible first
        | assumption | intro _ | apply State.modRx_inv | apply State.setTl_inv | apply State.setEq_inv
        | apply State.modDsp_inv)
    | dsimp only | (with_reducible refine State.Inv.of_mk (s := ?_) ?_ ?_)
    | exact State.Inv.acc (by with_reducible assumption)

theorem State.tlLight_inv (s : State) (l : Fin 8) (hs : s.Inv) : (State.tlLight s l).Inv := by
  unfold State.tlLight
  try dsimp only
  repeat' first
    | (with_reducible first
        | assumption | intro _ | apply State.Inv.ite_same | apply State.setTl_inv | apply State.markRun_inv)
    | split | dsimp only

theorem ownTlRestart_inv (sub : Nat) (s : State) (hs : s.Inv) : (ownTlRestart sub s).Inv := by
  unfold ownTlRestart
  try dsimp only
  repeat' first
    | (with_reducible first
        | assumption | intro _ | apply State.Inv.ite_same | apply State.tlAcquire_inv | apply Verdict.inv_deny
        | apply Verdict.inv_done)
    | split | dsimp only

theorem State.requestSwap_inv (s : State) (l : Fin 8) (q : EqSwap) (hs : s.Inv) : (State.requestSwap s l q).Inv := by
  unfold State.requestSwap
  try dsimp only
  repeat' first
    | (with_reducible first
        | assumption | intro _ | apply State.modRx_inv | apply State.adapt_inv)
    | split | dsimp only | (with_reducible refine State.Inv.of_mk (s := ?_) ?_ ?_)
    | exact State.Inv.acc (by with_reducible assumption)

theorem State.structWant_inv (s : State) (l : Fin 8) (hs : s.Inv) : (State.structWant s l).Inv := by
  unfold State.structWant
  try dsimp only
  repeat' first
    | (with_reducible first
        | assumption | intro _ | apply State.Inv.ite_same | apply State.trigger_inv | apply State.modRx_inv)
    | (with_reducible apply forEach_inv; rotate_left) | split | dsimp only
    | (with_reducible refine State.Inv.of_mk (s := ?_) ?_ ?_) | exact State.Inv.acc (by with_reducible assumption)

theorem State.swapNow_inv (s : State) (l : Fin 8) (q : EqSwap) (hs : s.Inv) : (State.swapNow s l q).Inv := by
  unfold State.swapNow
  try dsimp only
  repeat' first
    | (with_reducible first
        | assumption | intro _ | apply State.Inv.ite_same | apply State.setReg_inv | apply State.bump_inv
        | apply State.modRx_inv | apply State.modDsp_inv | apply State.markRun_inv | apply State.noteLast_inv
        | apply State.adapt_inv)
    | split | dsimp only | (with_reducible refine State.Inv.of_mk (s := ?_) ?_ ?_)
    | exact State.Inv.acc (by with_reducible assumption)

theorem State.adapt_inv (s : State) (l : Fin 8) (g : CycleGrad) (hs : s.Inv) : (State.adapt s l g).Inv := by
  unfold State.adapt
  try dsimp only
  repeat' first
    | (with_reducible first
        | assumption | intro _ | apply State.Inv.ite_same | apply State.bump_inv | apply State.raise_inv
        | apply State.setIdle_inv)
    | (with_reducible apply forEach_inv; rotate_left) | split | dsimp only
    | (with_reducible refine State.Inv.of_mk (s := ?_) ?_ ?_) | exact State.Inv.acc (by with_reducible assumption)

theorem State.capSamples_inv (s : State) (l : Fin 8) (k : Nat) (codes : List Int) (inputs : List Int) (decided : List Nat) (hs : s.Inv) : (State.capSamples s l k codes inputs decided).Inv := by
  unfold State.capSamples
  try dsimp only
  repeat' first
    | (with_reducible first
        | assumption | intro _ | apply State.capRecord_inv)
    | dsimp only

theorem State.rxSamples_inv (s : State) (l : Fin 8) (codes : List Int) (hs : s.Inv) : (State.rxSamples s l codes).Inv := by
  unfold State.rxSamples
  try dsimp only
  repeat' first
    | (with_reducible first
        | assumption | intro _ | apply State.Inv.ite_same | apply State.bump64_inv | apply State.trigger_inv
        | apply State.modAdcLane_inv | apply State.lineCheck_inv | apply State.modDsp_inv | apply State.showW_inv
        | apply State.capSamples_inv)
    | (with_reducible apply forEach_inv; rotate_left) | split | dsimp only
    | (with_reducible refine State.Inv.of_mk (s := ?_) ?_ ?_) | exact State.Inv.acc (by with_reducible assumption)

theorem ownRxInvert_inv (sub : Nat) (v : Int) (s : State) (hs : s.Inv) : (ownRxInvert sub v s).Inv := by
  unfold ownRxInvert
  try dsimp only
  repeat' first
    | (with_reducible first
        | assumption | intro _ | apply State.Inv.ite_same | apply State.setReg_inv | apply State.modDsp_inv
        | apply Verdict.inv_deny | apply Verdict.inv_done)
    | split | dsimp only

theorem ownEqFreeze_inv (sub : Nat) (v : Int) (s : State) (hs : s.Inv) : (ownEqFreeze sub v s).Inv := by
  unfold ownEqFreeze
  try dsimp only
  repeat' first
    | (with_reducible first
        | assumption | intro _ | apply State.Inv.ite_same | apply State.setReg_inv | apply State.modRx_inv
        | apply State.eqHold_inv | apply Verdict.inv_deny | apply Verdict.inv_done)
    | split | dsimp only | (with_reducible refine State.Inv.of_mk (s := ?_) ?_ ?_)
    | exact State.Inv.acc (by with_reducible assumption)

theorem ownEyeCapture_inv (sub : Nat) (s : State) (hs : s.Inv) : (ownEyeCapture sub s).Inv := by
  unfold ownEyeCapture
  try dsimp only
  repeat' first
    | (with_reducible first
        | assumption | intro _ | apply State.Inv.ite_same | apply State.modRx_inv | apply State.modDsp_inv
        | apply Verdict.inv_deny | apply Verdict.inv_done)
    | split | dsimp only | (with_reducible refine State.Inv.of_mk (s := ?_) ?_ ?_)
    | exact State.Inv.acc (by with_reducible assumption)

theorem State.levels_inv (s : State) (l : Fin 8) (m : AdcWin) (hs : s.Inv) : (State.levels s l m).Inv := by
  unfold State.levels
  try dsimp only
  repeat' first
    | (with_reducible first
        | assumption | intro _ | apply State.Inv.ite_same | apply State.setReg_inv | apply State.modAdcLane_inv)
    | split | dsimp only | (with_reducible refine State.Inv.of_mk (s := ?_) ?_ ?_)
    | exact State.Inv.acc (by with_reducible assumption)

theorem State.losDetect_inv (s : State) (l : Fin 8) (hs : s.Inv) : (State.losDetect s l).Inv := by
  unfold State.losDetect
  try dsimp only
  repeat' first
    | (with_reducible first
        | assumption | intro _ | apply State.Inv.ite_same | apply State.setReg_inv | apply State.modAdcLane_inv
        | apply State.floorInvalid_inv)
    | split | dsimp only | (with_reducible refine State.Inv.of_mk (s := ?_) ?_ ?_)
    | exact State.Inv.acc (by with_reducible assumption)

theorem State.accumulate_inv (s : State) (l : Fin 8) (m : AdcWin) (dark : Bool) (hs : s.Inv) : (State.accumulate s l m dark).Inv := by
  unfold State.accumulate
  try dsimp only
  repeat' first
    | (with_reducible first
        | assumption | intro _ | apply State.Inv.ite_same | apply State.modAdcLane_inv)
    | split | dsimp only | (with_reducible refine State.Inv.of_mk (s := ?_) ?_ ?_)
    | exact State.Inv.acc (by with_reducible assumption)

theorem State.noiseUaNow_inv (s : State) (l : Fin 8) (hs : s.Inv) : (State.noiseUaNow s l).Inv := by
  unfold State.noiseUaNow
  try dsimp only
  repeat' first
    | (with_reducible first
        | assumption | intro _ | apply State.Inv.ite_same | apply State.setReg_inv)
    | split | dsimp only

theorem State.noiseFloor_inv (s : State) (l : Fin 8) (m : AdcWin) (hs : s.Inv) : (State.noiseFloor s l m).Inv := by
  unfold State.noiseFloor
  try dsimp only
  repeat' first
    | (with_reducible first
        | assumption | intro _ | apply State.Inv.ite_same | apply State.setReg_inv | apply State.modAdcLane_inv
        | apply State.noiseUaNow_inv)
    | split | dsimp only | (with_reducible refine State.Inv.of_mk (s := ?_) ?_ ?_)
    | exact State.Inv.acc (by with_reducible assumption)

theorem State.quality_inv (s : State) (l : Fin 8) (hs : s.Inv) : (State.quality s l).Inv := by
  unfold State.quality
  try dsimp only
  repeat' first
    | (with_reducible first
        | assumption | intro _ | apply State.Inv.ite_same | apply State.setReg_inv | apply State.modDsp_inv)
    | split | dsimp only | (with_reducible refine State.Inv.of_mk (s := ?_) ?_ ?_)
    | exact State.Inv.acc (by with_reducible assumption)

theorem State.relocked_inv (s : State) (h : Fin 2) (hs : s.Inv) : (State.relocked s h).Inv := by
  unfold State.relocked
  try dsimp only
  repeat' first
    | (with_reducible first
        | assumption | intro _ | apply State.Inv.ite_same | apply State.synthLocked_inv | apply State.tlStart_inv
        | apply State.tlLight_inv)
    | (with_reducible apply forEach_inv; rotate_left) | split | dsimp only

theorem State.modTic_inv (s : State) (l : Fin 8) (f : TicLane → TicLane) (hs : s.Inv) : (State.modTic s l f).Inv := by
  unfold State.modTic
  try dsimp only
  repeat' first
    | (with_reducible first
        | assumption | intro _)
    | dsimp only | (with_reducible refine State.Inv.of_mk (s := ?_) ?_ ?_)
    | exact State.Inv.acc (by with_reducible assumption)

theorem State.modPool_inv (s : State) (h : Fin 2) (f : TicHalf → TicHalf) (hs : s.Inv) : (State.modPool s h f).Inv := by
  unfold State.modPool
  try dsimp only
  repeat' first
    | (with_reducible first
        | assumption | intro _)
    | dsimp only | (with_reducible refine State.Inv.of_mk (s := ?_) ?_ ?_)
    | exact State.Inv.acc (by with_reducible assumption)

theorem State.modTest_inv (s : State) (p : Fin 8) (f : TestPort → TestPort) (hs : s.Inv) : (State.modTest s p f).Inv := by
  unfold State.modTest
  try dsimp only
  repeat' first
    | (with_reducible first
        | assumption | intro _)
    | dsimp only | (with_reducible refine State.Inv.of_mk (s := ?_) ?_ ?_)
    | exact State.Inv.acc (by with_reducible assumption)

theorem State.injUse_inv (s : State) (p : Fin 8) (n : Nat) (hs : s.Inv) : (State.injUse s p n).Inv := by
  unfold State.injUse
  try dsimp only
  repeat' first
    | (with_reducible first
        | assumption | intro _ | apply State.Inv.ite_same | apply State.setReg_inv | apply State.bump64_inv
        | apply State.modTest_inv)
    | split | dsimp only | (with_reducible refine State.Inv.of_mk (s := ?_) ?_ ?_)
    | exact State.Inv.acc (by with_reducible assumption)

theorem State.modCw_inv (s : State) (l : Fin 8) (order : Nat) (f : Codeword → Codeword) (hs : s.Inv) : (State.modCw s l order f).Inv := by
  unfold State.modCw
  try dsimp only
  repeat' first
    | (with_reducible first
        | assumption | intro _ | apply State.Inv.ite_same | apply State.modTic_inv)
    | split | dsimp only | (with_reducible refine State.Inv.of_mk (s := ?_) ?_ ?_)
    | exact State.Inv.acc (by with_reducible assumption)

theorem State.dispatchUnit_inv (s : State) (h : Fin 2) (u : Fin 48) (borrow : Bool) (hs : s.Inv) : (State.dispatchUnit s h u borrow).Inv := by
  unfold State.dispatchUnit
  try dsimp only
  repeat' first
    | (with_reducible first
        | assumption | intro _ | apply State.Inv.ite_same | apply State.bump64_inv | apply State.modCw_inv)
    | split | dsimp only | (with_reducible refine State.Inv.of_mk (s := ?_) ?_ ?_)
    | exact State.Inv.acc (by with_reducible assumption)

theorem State.dispatch_inv (s : State) (hs : s.Inv) : (State.dispatch s).Inv := by
  unfold State.dispatch
  try dsimp only
  repeat' first
    | (with_reducible first
        | assumption | intro _ | apply State.Inv.ite_same | apply State.dispatchUnit_inv)
    | (with_reducible apply forEach_inv; rotate_left) | split | dsimp only

theorem State.failUnit_inv (s : State) (h : Fin 2) (u : Fin 48) (l : Fin 8) (cause : Nat) (hs : s.Inv) : (State.failUnit s h u l cause).Inv := by
  unfold State.failUnit
  try dsimp only
  repeat' first
    | (with_reducible first
        | assumption | intro _ | apply State.setReg_inv | apply State.raise_inv | apply State.modPool_inv)
    | dsimp only | (with_reducible refine State.Inv.of_mk (s := ?_) ?_ ?_)
    | exact State.Inv.acc (by with_reducible assumption)

theorem State.unitTime_inv (s : State) (h : Fin 2) (since : Nat) (hs : s.Inv) : (State.unitTime s h since).Inv := by
  unfold State.unitTime
  try dsimp only
  repeat' first
    | (with_reducible first
        | assumption | intro _ | apply State.modPool_inv)
    | dsimp only | (with_reducible refine State.Inv.of_mk (s := ?_) ?_ ?_)
    | exact State.Inv.acc (by with_reducible assumption)

theorem State.modOuterLane_inv (s : State) (l : Fin 8) (f : OuterLane → OuterLane) (hs : s.Inv) : (State.modOuterLane s l f).Inv := by
  unfold State.modOuterLane
  try dsimp only
  repeat' first
    | (with_reducible first
        | assumption | intro _)
    | dsimp only | (with_reducible refine State.Inv.of_mk (s := ?_) ?_ ?_)
    | exact State.Inv.acc (by with_reducible assumption)

theorem State.modOuterPort_inv (s : State) (p : Fin 8) (f : OuterPort → OuterPort) (hs : s.Inv) : (State.modOuterPort s p f).Inv := by
  unfold State.modOuterPort
  try dsimp only
  repeat' first
    | (with_reducible first
        | assumption | intro _)
    | dsimp only | (with_reducible refine State.Inv.of_mk (s := ?_) ?_ ?_)
    | exact State.Inv.acc (by with_reducible assumption)

theorem State.outerCodeword_inv (s : State) (p : Fin 8) (cw : List RxBit) (hs : s.Inv) : (State.outerCodeword s p cw).Inv := by
  unfold State.outerCodeword
  try dsimp only
  repeat' first
    | (with_reducible first
        | assumption | intro _ | apply State.setBlob_inv | apply State.bump64_inv | apply tenBit_inv
        | apply State.modOuterPort_inv)
    | split | dsimp only | (with_reducible refine State.Inv.of_mk (s := ?_) ?_ ?_)
    | exact State.Inv.acc (by with_reducible assumption)

theorem State.outerDrain_inv (s : State) (p : Fin 8) (fuel : Nat) (hs : s.Inv) :
    (State.outerDrain s p fuel).Inv := by
  induction fuel generalizing s with
  | zero => unfold State.outerDrain; exact hs
  | succ fuel ih =>
  unfold State.outerDrain
  try dsimp only
  repeat' first
    | (with_reducible first
        | assumption | intro _ | apply State.Inv.ite_same | apply ih | apply State.modOuterPort_inv
        | apply State.outerCodeword_inv)
    | split | dsimp only | (with_reducible refine State.Inv.of_mk (s := ?_) ?_ ?_)
    | exact State.Inv.acc (by with_reducible assumption)

theorem State.outerMerge_inv (s : State) (p : Fin 8) (fuel : Nat) (hs : s.Inv) :
    (State.outerMerge s p fuel).Inv := by
  induction fuel generalizing s with
  | zero => unfold State.outerMerge; exact hs
  | succ fuel ih =>
  unfold State.outerMerge
  try dsimp only
  repeat' first
    | (with_reducible first
        | assumption | intro _ | apply State.Inv.ite_same | apply ih | apply State.modOuterLane_inv
        | apply State.modOuterPort_inv | apply State.outerDrain_inv)
    | (with_reducible apply forEach_inv; rotate_left) | split | dsimp only
    | (with_reducible refine State.Inv.of_mk (s := ?_) ?_ ?_) | exact State.Inv.acc (by with_reducible assumption)

theorem State.outerFeed_inv (s : State) (l : Fin 8) (payload : List Bool) (rescued unsettled : Bool) (hs : s.Inv) : (State.outerFeed s l payload rescued unsettled).Inv := by
  unfold State.outerFeed
  try dsimp only
  repeat' first
    | (with_reducible first
        | assumption | intro _ | apply State.Inv.ite_same | apply State.modOuterLane_inv | apply State.outerMerge_inv)
    | split | dsimp only | (with_reducible refine State.Inv.of_mk (s := ?_) ?_ ?_)
    | exact State.Inv.acc (by with_reducible assumption)

theorem State.releaseCw_inv (s : State) (l : Fin 8) (c : Codeword) (hs : s.Inv) : (State.releaseCw s l c).Inv := by
  unfold State.releaseCw
  try dsimp only
  repeat' first
    | (with_reducible first
        | assumption | intro _ | apply State.Inv.ite_same | apply State.setReg_inv | apply State.bump64_inv
        | apply State.txSend_inv | apply symbolsOf_inv | apply State.injUse_inv | apply State.outerFeed_inv)
    | split | dsimp only

theorem State.hamper_inv (s : State) (l : Fin 8) (fuel : Nat) (hs : s.Inv) :
    (State.hamper s l fuel).Inv := by
  induction fuel generalizing s with
  | zero => unfold State.hamper; exact hs
  | succ fuel ih =>
  unfold State.hamper
  try dsimp only
  repeat' first
    | (with_reducible first
        | assumption | intro _ | apply State.Inv.ite_same | apply ih | apply State.setReg_inv | apply State.modTic_inv
        | apply State.releaseCw_inv)
    | split | dsimp only | (with_reducible refine State.Inv.of_mk (s := ?_) ?_ ?_)
    | exact State.Inv.acc (by with_reducible assumption)

theorem State.iterStats_inv (s : State) (l : Fin 8) (c : Codeword) (iters : Nat) (hs : s.Inv) : (State.iterStats s l c iters).Inv := by
  unfold State.iterStats
  try dsimp only
  repeat' first
    | (with_reducible first
        | assumption | intro _ | apply State.Inv.ite_same | apply State.setBlob_inv | apply State.bump64_inv
        | apply State.modTic_inv)
    | split | dsimp only | (with_reducible refine State.Inv.of_mk (s := ?_) ?_ ?_)
    | exact State.Inv.acc (by with_reducible assumption)

theorem State.convergedStats_inv (s : State) (l : Fin 8) (c : Codeword) (hard : List Bool) (hs : s.Inv) : (State.convergedStats s l c hard).Inv := by
  unfold State.convergedStats
  try dsimp only
  repeat' first
    | (with_reducible first
        | assumption | intro _ | apply State.Inv.ite_same | apply State.bump64_inv | apply State.modTic_inv)
    | split | dsimp only | (with_reducible refine State.Inv.of_mk (s := ?_) ?_ ?_)
    | exact State.Inv.acc (by with_reducible assumption)

theorem State.endCw_inv (s : State) (l : Fin 8) (c : Codeword) (status iters : Nat) (hard : List Bool) (hs : s.Inv) : (State.endCw s l c status iters hard).Inv := by
  unfold State.endCw
  try dsimp only
  repeat' first
    | (with_reducible first
        | assumption | intro _ | apply State.modCw_inv | apply State.hamper_inv | apply State.iterStats_inv)
    | dsimp only | (with_reducible refine State.Inv.of_mk (s := ?_) ?_ ?_)
    | exact State.Inv.acc (by with_reducible assumption)

theorem State.countForced_inv (s : State) (l : Fin 8) (hs : s.Inv) : (State.countForced s l).Inv := by
  unfold State.countForced
  try dsimp only
  repeat' first
    | (with_reducible first
        | assumption | intro _ | apply State.modTic_inv)
    | dsimp only | (with_reducible refine State.Inv.of_mk (s := ?_) ?_ ?_)
    | exact State.Inv.acc (by with_reducible assumption)

theorem State.unitsTime_inv (s : State) (cs : List Codeword) (hs : s.Inv) : (State.unitsTime s cs).Inv := by
  unfold State.unitsTime
  try dsimp only
  repeat' first
    | (with_reducible first
        | assumption | intro _ | apply State.unitTime_inv)
    | (with_reducible apply forEach_inv; rotate_left) | split | dsimp only

theorem State.ticDiscard_inv (s : State) (l : Fin 8) (hs : s.Inv) : (State.ticDiscard s l).Inv := by
  unfold State.ticDiscard
  try dsimp only
  repeat' first
    | (with_reducible first
        | assumption | intro _ | apply State.setReg_inv | apply State.modTic_inv | apply State.unitsTime_inv)
    | dsimp only | (with_reducible refine State.Inv.of_mk (s := ?_) ?_ ?_)
    | exact State.Inv.acc (by with_reducible assumption)

theorem State.rxIdle_inv (s : State) (l : Fin 8) (hs : s.Inv) : (State.rxIdle s l).Inv := by
  unfold State.rxIdle
  try dsimp only
  repeat' first
    | (with_reducible first
        | assumption | intro _ | apply State.tlIdle_inv | apply State.ticDiscard_inv)

theorem State.fecStop_inv (s : State) (h : Fin 2) (hs : s.Inv) : (State.fecStop s h).Inv := by
  unfold State.fecStop
  try dsimp only
  repeat' first
    | (with_reducible first
        | assumption | intro _ | apply State.Inv.ite_same | apply State.fresh_inv | apply State.unitTime_inv
        | apply State.endCw_inv | apply State.countForced_inv | apply State.ticDiscard_inv)
    | (with_reducible apply forEach_inv; rotate_left) | split | dsimp only
    | (refine pair1_inv (by with_reducible assumption) ?_)

theorem State.fecCold_inv (s : State) (h : Fin 2) (hs : s.Inv) : (State.fecCold s h).Inv := by
  unfold State.fecCold
  try dsimp only
  repeat' first
    | (with_reducible first
        | assumption | intro _ | apply State.setReg_inv | apply State.modPool_inv)
    | dsimp only | (with_reducible refine State.Inv.of_mk (s := ?_) ?_ ?_)
    | exact State.Inv.acc (by with_reducible assumption)

theorem State.softErrors_inv (s : State) (p l : Fin 8) (first : Nat) (q : List Int) (errs : List Nat) (hs : s.Inv) : (State.softErrors s p l first q errs).2.Inv := by
  unfold State.softErrors
  try dsimp only
  repeat' first
    | (with_reducible first
        | assumption | intro _ | apply State.Inv.ite_same | apply State.bump64_inv | apply State.injUse_inv
        | apply symbolErrors_inv)
    | split | dsimp only

theorem State.cwArrive_inv (s : State) (p l : Fin 8) (q : List Int) (stamp : Stamp) (unsettled dark gap : Bool) (hs : s.Inv) : (State.cwArrive s p l q stamp unsettled dark gap).Inv := by
  unfold State.cwArrive
  try dsimp only
  repeat' first
    | (with_reducible first
        | assumption | intro _ | apply State.Inv.ite_same | apply State.setReg_inv | apply State.bump64_inv
        | apply State.capRecord_inv | apply State.raise_inv | apply State.modTic_inv | apply State.dispatch_inv
        | apply State.endCw_inv | apply State.countForced_inv | apply llrEntries_inv)
    | split | dsimp only | (with_reducible refine State.Inv.of_mk (s := ?_) ?_ ?_)
    | exact State.Inv.acc (by with_reducible assumption)

theorem State.decodeWith_inv (s : State) (h : Fin 2) (u : Fin 48) (l : Fin 8) (c : Codeword) (since : Nat) (delivered : Option (List Bool)) (d : List Bool × Nat × Bool) (hs : s.Inv) : (State.decodeWith s h u l c since delivered d).Inv := by
  unfold State.decodeWith
  try dsimp only
  repeat' first
    | (with_reducible first
        | assumption | intro _ | apply State.Inv.ite_same | apply State.dispatch_inv | apply State.failUnit_inv
        | apply State.unitTime_inv | apply State.convergedStats_inv | apply State.endCw_inv)
    | split | dsimp only

theorem State.decodeEnd_inv (s : State) (h : Fin 2) (u : Fin 48) (l : Fin 8) (c : Codeword) (since : Nat) (delivered : Option (List Bool)) (hs : s.Inv) : (State.decodeEnd s h u l c since delivered).Inv := by
  unfold State.decodeEnd
  try dsimp only
  repeat' first
    | (with_reducible first
        | assumption | intro _ | apply State.decodeWith_inv)

theorem ownTicClearPeaks_inv (s : State) (hs : s.Inv) : (ownTicClearPeaks s).Inv := by
  unfold ownTicClearPeaks
  try dsimp only
  repeat' first
    | (with_reducible first
        | assumption | intro _ | apply State.setAll_inv | apply Verdict.inv_done)

theorem State.ticTickLane_inv (s : State) (l : Fin 8) (hs : s.Inv) : (State.ticTickLane s l).Inv := by
  unfold State.ticTickLane
  try dsimp only
  repeat' first
    | (with_reducible first
        | assumption | intro _ | apply State.Inv.ite_same | apply State.setReg_inv | apply State.modDsp_inv
        | apply State.modTic_inv)
    | split | dsimp only | (with_reducible refine State.Inv.of_mk (s := ?_) ?_ ?_)
    | exact State.Inv.acc (by with_reducible assumption)

theorem State.forcedRate_inv (s : State) (p : Fin 8) (hs : s.Inv) : (State.forcedRate s p).Inv := by
  unfold State.forcedRate
  try dsimp only
  repeat' first
    | (with_reducible first
        | assumption | intro _ | apply State.Inv.ite_same | apply State.raise_inv)
    | split | dsimp only

theorem State.poolLoad_inv (s : State) (h : Fin 2) (hs : s.Inv) : (State.poolLoad s h).Inv := by
  unfold State.poolLoad
  try dsimp only
  repeat' first
    | (with_reducible first
        | assumption | intro _ | apply State.Inv.ite_same | apply State.setReg_inv | apply State.modPool_inv)
    | split | dsimp only | (with_reducible refine State.Inv.of_mk (s := ?_) ?_ ?_)
    | exact State.Inv.acc (by with_reducible assumption)

theorem State.ticTick_inv (s : State) (hs : s.Inv) : (State.ticTick s).Inv := by
  unfold State.ticTick
  try dsimp only
  repeat' first
    | (with_reducible first
        | assumption | intro _ | apply State.Inv.ite_same | apply State.ticTickLane_inv | apply State.forcedRate_inv
        | apply State.poolLoad_inv)
    | (with_reducible apply forEach_inv; rotate_left) | split | dsimp only

end Sys2Proof.Machine
end

