-- ==== Sys2Proof/Laws/SoundPort.lean ====
section
/-! SUPPORT. Soundness kept by the transports, the host lanes, the links, the deep store, the ports, the tests and the optics. -/

set_option linter.unusedTactic false
set_option linter.unreachableTactic false
set_option linter.unusedVariables false

namespace Sys2Proof.Machine

theorem State.frameError_inv (s : State) (p : Path) (overflow : Bool) (hs : s.Inv) : (State.frameError s p overflow).Inv := by
  unfold State.frameError
  try dsimp only
  repeat' first
    | (with_reducible first
        | assumption | intro _ | apply State.Inv.ite_same | apply State.bump_inv | apply State.raise_inv)
    | split | dsimp only

theorem State.headReply_inv (s : State) (p : Path) (f : List Byte) (st : Nat) (hs : s.Inv) : (State.headReply s p f st).Inv := by
  unfold State.headReply
  try dsimp only
  repeat' first
    | (with_reducible first
        | assumption | intro _ | apply State.pushBehind_inv)

theorem State.takeFrame_inv (s : State) (p : Path) (lpl : Nat) (f : List Byte) (hs : s.Inv) : (State.takeFrame s p lpl f).Inv := by
  unfold State.takeFrame
  try dsimp only
  repeat' first
    | (with_reducible first
        | assumption | intro _ | apply State.Inv.ite_same | apply State.bump_inv | apply State.modTp_inv
        | apply State.pushBehind_inv | apply State.reply_inv | apply State.frameError_inv | apply State.headReply_inv)
    | split | dsimp only | (with_reducible refine State.Inv.of_mk (s := ?_) ?_ ?_)
    | exact State.Inv.acc (by with_reducible assumption)

theorem State.pushByte_inv (s : State) (p : Path) (lpl : Nat) (b : Byte) (hs : s.Inv) : (State.pushByte s p lpl b).Inv := by
  unfold State.pushByte
  try dsimp only
  repeat' first
    | (with_reducible first
        | assumption | intro _ | apply State.Inv.ite_same | apply State.modTp_inv | apply State.frameError_inv
        | apply State.takeFrame_inv)
    | split | dsimp only | (with_reducible refine State.Inv.of_mk (s := ?_) ?_ ?_)
    | exact State.Inv.acc (by with_reducible assumption)

theorem State.pushBytes_inv (s : State) (p : Path) (lpl : Nat) (bs : List Byte) (hs : s.Inv) : (State.pushBytes s p lpl bs).Inv := by
  unfold State.pushBytes
  try dsimp only
  repeat' first
    | (with_reducible first
        | assumption | intro _ | apply State.pushByte_inv)
    | (with_reducible apply forEach_inv; rotate_left) | dsimp only

theorem State.shiftOut_inv (s : State) (p : Path) (bs : List Byte) (hs : s.Inv) : (State.shiftOut s p bs).Inv := by
  unfold State.shiftOut
  try dsimp only
  repeat' first
    | (with_reducible first
        | assumption | intro _ | apply State.modTp_inv)
    | dsimp only | (with_reducible refine State.Inv.of_mk (s := ?_) ?_ ?_)
    | exact State.Inv.acc (by with_reducible assumption)

theorem State.standIn_inv (s : State) (p : Path) (hs : s.Inv) : (State.standIn s p).Inv := by
  unfold State.standIn
  try dsimp only
  repeat' first
    | (with_reducible first
        | assumption | intro _ | apply State.Inv.ite_same | apply State.mgtCall_inv | apply State.shiftOut_inv)
    | split | dsimp only

theorem State.pull_inv (s : State) (p : Path) (n : Nat) (head : List Byte) (hs : s.Inv) : (State.pull s p n head).Inv := by
  unfold State.pull
  try dsimp only
  repeat' first
    | (with_reducible first
        | assumption | intro _ | apply State.modTp_inv | apply pullCount_inv | apply takeReply_inv)
    | split | dsimp only | (with_reducible refine State.Inv.of_mk (s := ?_) ?_ ?_)
    | exact State.Inv.acc (by with_reducible assumption)

theorem State.answerForward_inv (s : State) (f : Forward) (st : Nat) (body : List Byte) (ix sub : Nat) (hs : s.Inv) : (State.answerForward s f st body ix sub).Inv := by
  unfold State.answerForward
  try dsimp only
  repeat' first
    | (with_reducible first
        | assumption | intro _ | apply State.Inv.ite_same | apply State.modTp_inv | apply State.pushReply_inv)
    | split | dsimp only

theorem State.modFwd_inv (s : State) (p : Fin 8) (f : List Forward → List Forward) (hs : s.Inv) : (State.modFwd s p f).Inv := by
  unfold State.modFwd
  try dsimp only
  repeat' first
    | (with_reducible first
        | assumption | intro _)
    | dsimp only | (with_reducible refine State.Inv.of_mk (s := ?_) ?_ ?_)
    | exact State.Inv.acc (by with_reducible assumption)

theorem State.linkDown_inv (s : State) (p : Fin 8) (hs : s.Inv) : (State.linkDown s p).Inv := by
  unfold State.linkDown
  try dsimp only
  repeat' first
    | (with_reducible first
        | assumption | intro _ | apply State.modTp_inv | apply State.answerForward_inv | apply State.modFwd_inv)
    | (with_reducible apply forEach_inv; rotate_left) | dsimp only | (with_reducible refine State.Inv.of_mk (s := ?_) ?_ ?_)
    | exact State.Inv.acc (by with_reducible assumption)

theorem State.takeWord_inv (s : State) (p : Fin 8) (hs : s.Inv) : OptInv (s.takeWord p) := by
  intro q hq
  unfold State.takeWord at hq
  split at hq
  · exact absurd hq (by simp)
  · obtain rfl := Option.some.inj hq
    dsimp only
    exact State.modTp_inv _ _ _ hs

theorem State.modInst_inv (s : State) (i : Fin 8) (f : HostInst → HostInst) (hs : s.Inv) : (State.modInst s i f).Inv := by
  unfold State.modInst
  try dsimp only
  repeat' first
    | (with_reducible first
        | assumption | intro _)
    | dsimp only | (with_reducible refine State.Inv.of_mk (s := ?_) ?_ ?_)
    | exact State.Inv.acc (by with_reducible assumption)

theorem State.modHostLane_inv (s : State) (h : Fin 16) (f : HostLane → HostLane) (hs : s.Inv) : (State.modHostLane s h f).Inv := by
  unfold State.modHostLane
  try dsimp only
  repeat' first
    | (with_reducible first
        | assumption | intro _)
    | dsimp only | (with_reducible refine State.Inv.of_mk (s := ?_) ?_ ?_)
    | exact State.Inv.acc (by with_reducible assumption)

theorem State.setHost_inv (s : State) (h : Fin 16) (v : Int) (hs : s.Inv) : (State.setHost s h v).Inv := by
  unfold State.setHost
  try dsimp only
  repeat' first
    | (with_reducible first
        | assumption | intro _ | apply State.setReg_inv)

theorem State.presetSet_inv (s : State) (h : Fin 16) (hs : s.Inv) : (State.presetSet s h).Inv := by
  unfold State.presetSet
  try dsimp only
  repeat' first
    | (with_reducible first
        | assumption | intro _ | apply State.setReg_inv | apply State.setBlob_inv)

theorem State.presetApply_inv (s : State) (h : Fin 16) (hs : s.Inv) : (State.presetApply s h).Inv := by
  unfold State.presetApply
  try dsimp only
  repeat' first
    | (with_reducible first
        | assumption | intro _ | apply State.Inv.ite_same | apply State.triggerFirst_inv | apply State.presetSet_inv)
    | split | dsimp only

theorem ownPreset_inv (sub : Nat) (w : PresetWrite) (s : State) (hs : s.Inv) : (ownPreset sub w s).Inv := by
  unfold ownPreset
  try dsimp only
  repeat' first
    | (with_reducible first
        | assumption | intro _ | apply State.Inv.ite_same | apply State.setReg_inv | apply State.setBlob_inv
        | apply State.presetApply_inv | apply Verdict.inv_deny | apply Verdict.inv_done)
    | split | dsimp only

theorem State.ingressPush_inv (s : State) (p i : Fin 8) (bs : List HBlk) (hs : s.Inv) : (State.ingressPush s p i bs).Inv := by
  unfold State.ingressPush
  try dsimp only
  repeat' first
    | (with_reducible first
        | assumption | intro _ | apply State.Inv.ite_same | apply State.bump64_inv | apply State.raise_inv
        | apply State.modInst_inv | apply pushDel_inv)
    | split | dsimp only | (with_reducible refine State.Inv.of_mk (s := ?_) ?_ ?_)
    | exact State.Inv.acc (by with_reducible assumption)

theorem State.ingressErr_inv (s : State) (p i : Fin 8) (hs : s.Inv) : (State.ingressErr s p i).Inv := by
  unfold State.ingressErr
  try dsimp only
  repeat' first
    | (with_reducible first
        | assumption | intro _ | apply State.bump64_inv | apply State.ingressPush_inv)

theorem State.ingressTakeIn_inv (s : State) (p i : Fin 8) (b : Option (List HBlk)) (hs : s.Inv) : (State.ingressTakeIn s p i b).Inv := by
  unfold State.ingressTakeIn
  try dsimp only
  repeat' first
    | (with_reducible first
        | assumption | intro _ | apply State.Inv.ite_same | apply State.modInst_inv | apply State.ingressPush_inv
        | apply State.ingressErr_inv)
    | split | dsimp only | (with_reducible refine State.Inv.of_mk (s := ?_) ?_ ?_)
    | exact State.Inv.acc (by with_reducible assumption)

theorem State.farSwitch_inv (s : State) (p : Fin 8) (bs : List HBlk) (hs : s.Inv) : (State.farSwitch s p bs).Inv := by
  unfold State.farSwitch
  try dsimp only
  repeat' first
    | (with_reducible first
        | assumption | intro _ | apply State.Inv.ite_same | apply HBlk.isStart_inv)
    | split | dsimp only | (with_reducible refine State.Inv.of_mk (s := ?_) ?_ ?_)
    | exact State.Inv.acc (by with_reducible assumption)

theorem State.ingressTake_inv (s : State) (p i : Fin 8) (hs : s.Inv) : (State.ingressTake s p i).2.Inv := by
  unfold State.ingressTake
  try dsimp only
  repeat' first
    | (with_reducible first
        | assumption | intro _ | apply State.Inv.ite_same | apply State.bump64_inv | apply State.raise_inv
        | apply State.modInst_inv | apply HostInst.inGroup_inv)
    | split | dsimp only | (with_reducible refine State.Inv.of_mk (s := ?_) ?_ ?_)
    | exact State.Inv.acc (by with_reducible assumption)

theorem State.egressPush_inv (s : State) (p i : Fin 8) (bits : List Bool) (hs : s.Inv) : (State.egressPush s p i bits).Inv := by
  unfold State.egressPush
  try dsimp only
  repeat' first
    | (with_reducible first
        | assumption | intro _ | apply State.Inv.ite_same | apply State.bump64_inv | apply State.modInst_inv
        | apply pushDel_inv)
    | split | dsimp only | (with_reducible refine State.Inv.of_mk (s := ?_) ?_ ?_)
    | exact State.Inv.acc (by with_reducible assumption)

theorem State.hostOn_inv (s : State) (h : Fin 16) (hs : s.Inv) : (State.hostOn s h).Inv := by
  unfold State.hostOn
  try dsimp only
  repeat' first
    | (with_reducible first
        | assumption | intro _ | apply State.setHost_inv | apply State.presetApply_inv)

theorem State.hostStop_inv (s : State) (h : Fin 16) (hs : s.Inv) : (State.hostStop s h).Inv := by
  unfold State.hostStop
  try dsimp only
  repeat' first
    | (with_reducible first
        | assumption | intro _ | apply State.modHostLane_inv | apply State.setHost_inv)
    | dsimp only

theorem State.hostSignal_inv (s : State) (h : Fin 16) (hs : s.Inv) : (State.hostSignal s h).Inv := by
  unfold State.hostSignal
  try dsimp only
  repeat' first
    | (with_reducible first
        | assumption | intro _ | apply State.Inv.ite_same | apply State.modHostLane_inv | apply State.setHost_inv
        | apply State.presetApply_inv)
    | split | dsimp only

theorem State.hostIdle_inv (s : State) (h : Fin 16) (hs : s.Inv) : (State.hostIdle s h).Inv := by
  unfold State.hostIdle
  try dsimp only
  repeat' first
    | (with_reducible first
        | assumption | intro _ | apply State.Inv.ite_same | apply State.setHost_inv)
    | split | dsimp only

theorem State.instLost_inv (s : State) (p i : Fin 8) (hs : s.Inv) : (State.instLost s p i).Inv := by
  unfold State.instLost
  try dsimp only
  repeat' first
    | (with_reducible first
        | assumption | intro _ | apply State.Inv.ite_same | apply State.bump64_inv | apply State.modInst_inv)
    | split | dsimp only | (with_reducible refine State.Inv.of_mk (s := ?_) ?_ ?_)
    | exact State.Inv.acc (by with_reducible assumption)

theorem State.hostLost_inv (s : State) (h : Fin 16) (next : Int) (cdr : Bool) (hs : s.Inv) : (State.hostLost s h next cdr).Inv := by
  unfold State.hostLost
  try dsimp only
  repeat' first
    | (with_reducible first
        | assumption | intro _ | apply State.Inv.ite_same | apply State.bump_inv | apply State.raise_inv
        | apply State.setHost_inv)
    | split | dsimp only

theorem State.hostRsStats_inv (s : State) (p i : Fin 8) (d : Option (List Nat × Nat)) (record : Bool) (hs : s.Inv) : (State.hostRsStats s p i d record).Inv := by
  unfold State.hostRsStats
  try dsimp only
  repeat' first
    | (with_reducible first
        | assumption | intro _ | apply State.Inv.ite_same | apply State.setBlob_inv | apply State.bump64_inv
        | apply State.raise_inv | apply State.modInst_inv)
    | split | dsimp only | (with_reducible refine State.Inv.of_mk (s := ?_) ?_ ?_)
    | exact State.Inv.acc (by with_reducible assumption)

theorem State.ingressBlocks_inv (s : State) (p i : Fin 8) (loop bad : Bool) (blocks : List (List Bool)) (hs : s.Inv) : (State.ingressBlocks s p i loop bad blocks).Inv := by
  unfold State.ingressBlocks
  try dsimp only
  repeat' first
    | (with_reducible first
        | assumption | intro _ | apply State.Inv.ite_same | apply State.bump64_inv | apply State.modInst_inv
        | apply State.ingressTakeIn_inv | apply State.farSwitch_inv | apply State.egressPush_inv)
    | (with_reducible apply forEach_inv; rotate_left) | split | dsimp only
    | (with_reducible refine State.Inv.of_mk (s := ?_) ?_ ?_) | exact State.Inv.acc (by with_reducible assumption)

theorem State.hostReceive_inv (s : State) (ls : List (Fin 16)) (levels : List (List Nat)) (hs : s.Inv) : (State.hostReceive s ls levels).2.Inv := by
  unfold State.hostReceive
  try dsimp only
  repeat' first
    | (with_reducible first
        | assumption | intro _ | apply State.modHostLane_inv)
    | (with_reducible apply forEach_inv; rotate_left) | dsimp only

theorem State.hostDecide_inv (s : State) (h : Fin 16) (levels : List Nat) (hs : s.Inv) : (State.hostDecide s h levels).Inv := by
  unfold State.hostDecide
  try dsimp only
  repeat' first
    | (with_reducible first
        | assumption | intro _ | apply State.Inv.ite_same | apply State.hostCheck_inv | apply symbolsOf_inv
        | apply State.modHostLane_inv)
    | split | dsimp only | (with_reducible refine State.Inv.of_mk (s := ?_) ?_ ?_)
    | exact State.Inv.acc (by with_reducible assumption)

theorem State.egressFeed_inv (s : State) (p i : Fin 8) (hs : s.Inv) : (State.egressFeed s p i).Inv := by
  unfold State.egressFeed
  try dsimp only
  repeat' first
    | (with_reducible first
        | assumption | intro _ | apply State.Inv.ite_same | apply State.modInst_inv)
    | split | dsimp only | (with_reducible refine State.Inv.of_mk (s := ?_) ?_ ?_)
    | exact State.Inv.acc (by with_reducible assumption)

theorem State.hostEncode_inv (s : State) (i : Fin 8) (markers : Nat) (bits : List Bool) (bad : Bool) (hs : s.Inv) : (State.hostEncode s i markers bits bad).Inv := by
  unfold State.hostEncode
  try dsimp only
  repeat' first
    | (with_reducible first
        | assumption | intro _ | apply State.Inv.ite_same | apply tenBit_inv | apply State.modInst_inv
        | apply State.modHostLane_inv | apply scrambleBits_inv)
    | (with_reducible apply forEach_inv; rotate_left) | split | dsimp only
    | (with_reducible refine State.Inv.of_mk (s := ?_) ?_ ?_) | exact State.Inv.acc (by with_reducible assumption)

theorem State.egressS1_inv (s : State) (p i : Fin 8) (hs : s.Inv) : (State.egressS1 s p i).Inv := by
  unfold State.egressS1
  try dsimp only
  repeat' first
    | (with_reducible first
        | assumption | intro _ | apply State.Inv.ite_same | apply State.bump64_inv | apply State.modInst_inv
        | apply State.modHostLane_inv | apply State.hostEncode_inv)
    | (with_reducible apply forEach_inv; rotate_left) | split | dsimp only
    | (with_reducible refine State.Inv.of_mk (s := ?_) ?_ ?_) | exact State.Inv.acc (by with_reducible assumption)

theorem State.hostPattern_inv (s : State) (h : Fin 16) (n : Nat) (hs : s.Inv) : (State.hostPattern s h n).Inv := by
  unfold State.hostPattern
  try dsimp only
  repeat' first
    | (with_reducible first
        | assumption | intro _ | apply State.modHostLane_inv)
    | split | dsimp only | (with_reducible refine State.Inv.of_mk (s := ?_) ?_ ?_)
    | exact State.Inv.acc (by with_reducible assumption)

theorem State.modPort_inv (s : State) (p : Fin 8) (f : PortCtl → PortCtl) (hs : s.Inv) : (State.modPort s p f).Inv := by
  unfold State.modPort
  try dsimp only
  repeat' first
    | (with_reducible first
        | assumption | intro _)
    | dsimp only | (with_reducible refine State.Inv.of_mk (s := ?_) ?_ ?_)
    | exact State.Inv.acc (by with_reducible assumption)

theorem State.modLink_inv (s : State) (p : Fin 8) (f : LinkPort → LinkPort) (hs : s.Inv) : (State.modLink s p f).Inv := by
  unfold State.modLink
  try dsimp only
  repeat' first
    | (with_reducible first
        | assumption | intro _)
    | dsimp only | (with_reducible refine State.Inv.of_mk (s := ?_) ?_ ?_)
    | exact State.Inv.acc (by with_reducible assumption)

theorem State.modSrch_inv (s : State) (l : Fin 8) (f : SearchLane → SearchLane) (hs : s.Inv) : (State.modSrch s l f).Inv := by
  unfold State.modSrch
  try dsimp only
  repeat' first
    | (with_reducible first
        | assumption | intro _)
    | dsimp only | (with_reducible refine State.Inv.of_mk (s := ?_) ?_ ?_)
    | exact State.Inv.acc (by with_reducible assumption)

theorem State.lineSend_inv (s : State) (l : Fin 8) (levels : List Nat) (hs : s.Inv) : (State.lineSend s l levels).Inv := by
  unfold State.lineSend
  try dsimp only
  repeat' first
    | (with_reducible first
        | assumption | intro _ | apply State.Inv.ite_same | apply State.txSend_inv | apply State.modTic_inv)
    | split | dsimp only | (with_reducible refine State.Inv.of_mk (s := ?_) ?_ ?_)
    | exact State.Inv.acc (by with_reducible assumption)

theorem State.portVotes_inv (s : State) (hs : s.Inv) : (State.portVotes s).Inv := by
  unfold State.portVotes
  try dsimp only
  repeat' first
    | (with_reducible first
        | assumption | intro _ | apply State.Inv.ite_same | apply State.castVote_inv | apply State.withdraw_inv)
    | (with_reducible apply forEach_inv; rotate_left) | split | dsimp only

theorem State.setPort_inv (s : State) (p : Fin 8) (st : Int) (hs : s.Inv) : (State.setPort s p st).Inv := by
  unfold State.setPort
  try dsimp only
  repeat' first
    | (with_reducible first
        | assumption | intro _ | apply State.Inv.ite_same | apply State.setReg_inv | apply State.setStamp_inv)
    | split | dsimp only

theorem State.searchLane_inv (s : State) (l : Fin 8) (hs : s.Inv) : (State.searchLane s l).Inv := by
  unfold State.searchLane
  try dsimp only
  repeat' first
    | (with_reducible first
        | assumption | intro _ | apply State.Inv.ite_same | apply State.setReg_inv | apply State.modOuterLane_inv
        | apply State.modSrch_inv)
    | split | dsimp only

theorem State.enterSearch_inv (s : State) (p : Fin 8) (hs : s.Inv) : (State.enterSearch s p).Inv := by
  unfold State.enterSearch
  try dsimp only
  repeat' first
    | (with_reducible first
        | assumption | intro _ | apply State.Inv.ite_same | apply State.setReg_inv | apply State.tlStart_inv
        | apply State.modOuterPort_inv | apply State.modPort_inv | apply State.modLink_inv | apply State.setPort_inv
        | apply State.searchLane_inv)
    | (with_reducible apply forEach_inv; rotate_left) | split | dsimp only
    | (with_reducible refine State.Inv.of_mk (s := ?_) ?_ ?_) | exact State.Inv.acc (by with_reducible assumption)

theorem State.portDown_inv (s : State) (p : Fin 8) (hs : s.Inv) : (State.portDown s p).Inv := by
  unfold State.portDown
  try dsimp only
  repeat' first
    | (with_reducible first
        | assumption | intro _ | apply State.txDown_inv)
    | (with_reducible apply forEach_inv; rotate_left) | dsimp only

theorem State.portEnable_inv (s : State) (p : Fin 8) (hs : s.Inv) : (State.portEnable s p).Inv := by
  unfold State.portEnable
  try dsimp only
  repeat' first
    | (with_reducible first
        | assumption | intro _ | apply State.txEnable_inv)
    | (with_reducible apply forEach_inv; rotate_left) | dsimp only

theorem State.portRxIdle_inv (s : State) (p : Fin 8) (hs : s.Inv) : (State.portRxIdle s p).Inv := by
  unfold State.portRxIdle
  try dsimp only
  repeat' first
    | (with_reducible first
        | assumption | intro _ | apply State.modOuterPort_inv | apply State.rxIdle_inv | apply State.searchLane_inv)
    | (with_reducible apply forEach_inv; rotate_left) | dsimp only

theorem State.linkRest_inv (s : State) (p : Fin 8) (hs : s.Inv) : (State.linkRest s p).Inv := by
  unfold State.linkRest
  try dsimp only
  repeat' first
    | (with_reducible first
        | assumption | intro _ | apply State.setReg_inv | apply State.modLink_inv)

theorem State.testQuiet_inv (s : State) (p : Fin 8) (hs : s.Inv) : (State.testQuiet s p).Inv := by
  unfold State.testQuiet
  try dsimp only
  repeat' first
    | (with_reducible first
        | assumption | intro _ | apply State.Inv.ite_same | apply State.setReg_inv | apply State.bump64_inv
        | apply State.modTest_inv)
    | split | dsimp only | (with_reducible refine State.Inv.of_mk (s := ?_) ?_ ?_)
    | exact State.Inv.acc (by with_reducible assumption)

theorem State.testEnd_inv (s : State) (p : Fin 8) (result : Int) (hs : s.Inv) : (State.testEnd s p result).Inv := by
  unfold State.testEnd
  try dsimp only
  repeat' first
    | (with_reducible first
        | assumption | intro _ | apply State.setReg_inv | apply State.modTest_inv)
    | dsimp only | (with_reducible refine State.Inv.of_mk (s := ?_) ?_ ?_)
    | exact State.Inv.acc (by with_reducible assumption)

theorem State.portStandby_inv (s : State) (p : Fin 8) (hs : s.Inv) : (State.portStandby s p).Inv := by
  unfold State.portStandby
  try dsimp only
  repeat' first
    | (with_reducible first
        | assumption | intro _ | apply State.Inv.ite_same | apply State.linkDown_inv | apply State.hostSignal_inv
        | apply State.modPort_inv | apply State.setPort_inv | apply State.portRxIdle_inv | apply State.linkRest_inv
        | apply State.testQuiet_inv)
    | (with_reducible apply forEach_inv; rotate_left) | split | dsimp only
    | (with_reducible refine State.Inv.of_mk (s := ?_) ?_ ?_) | exact State.Inv.acc (by with_reducible assumption)

theorem State.portLeave_inv (s : State) (p : Fin 8) (goal : PGoal) (hs : s.Inv) : (State.portLeave s p goal).Inv := by
  unfold State.portLeave
  try dsimp only
  repeat' first
    | (with_reducible first
        | assumption | intro _ | apply State.Inv.ite_same | apply State.setReg_inv | apply State.txCalibrate_inv
        | apply State.modPort_inv | apply State.portVotes_inv)
    | (with_reducible apply forEach_inv; rotate_left) | split | dsimp only
    | (with_reducible refine State.Inv.of_mk (s := ?_) ?_ ?_) | exact State.Inv.acc (by with_reducible assumption)

theorem State.noteDrain_inv (s : State) (p : Fin 8) (cause : Nat) (hs : s.Inv) : (State.noteDrain s p cause).Inv := by
  unfold State.noteDrain
  try dsimp only
  repeat' first
    | (with_reducible first
        | assumption | intro _ | apply State.Inv.ite_same | apply State.setReg_inv | apply State.raise_inv)
    | split | dsimp only

theorem State.linkCounts_inv (s : State) (p : Fin 8) (hs : s.Inv) : (State.linkCounts s p).Inv := by
  unfold State.linkCounts
  try dsimp only
  repeat' first
    | (with_reducible first
        | assumption | intro _ | apply State.setReg_inv)
    | dsimp only

theorem State.deliver_inv (s : State) (p : Fin 8) (blocks : List (List Bool)) (hs : s.Inv) : (State.deliver s p blocks).Inv := by
  unfold State.deliver
  try dsimp only
  repeat' first
    | (with_reducible first
        | assumption | intro _ | apply State.Inv.ite_same | apply State.ingressPush_inv | apply State.farSwitch_inv
        | apply State.egressPush_inv)
    | (with_reducible apply forEach_inv; rotate_left) | split | dsimp only

theorem State.deliverHeld_inv (s : State) (p : Fin 8) (fuel : Nat) (hs : s.Inv) :
    (State.deliverHeld s p fuel).Inv := by
  induction fuel generalizing s with
  | zero => unfold State.deliverHeld; exact hs
  | succ fuel ih =>
  unfold State.deliverHeld
  try dsimp only
  repeat' first
    | (with_reducible first
        | assumption | intro _ | apply State.Inv.ite_same | apply ih | apply State.bump64_inv | apply cut257_inv
        | apply State.modLink_inv | apply State.deliver_inv)
    | split | dsimp only | (with_reducible refine State.Inv.of_mk (s := ?_) ?_ ?_)
    | exact State.Inv.acc (by with_reducible assumption)

theorem State.advance_inv (s : State) (p : Fin 8) (hs : s.Inv) : (State.advance s p).Inv := by
  unfold State.advance
  try dsimp only
  repeat' first
    | (with_reducible first
        | assumption | intro _ | apply State.linkCounts_inv | apply State.deliverHeld_inv)

theorem State.loseFrame_inv (s : State) (p : Fin 8) (seq cause : Nat) (hs : s.Inv) : (State.loseFrame s p seq cause).Inv := by
  unfold State.loseFrame
  try dsimp only
  repeat' first
    | (with_reducible first
        | assumption | intro _ | apply State.bump64_inv | apply State.raise_inv | apply State.modLink_inv)
    | dsimp only | (with_reducible refine State.Inv.of_mk (s := ?_) ?_ ?_)
    | exact State.Inv.acc (by with_reducible assumption)

theorem State.releaseGaps_inv (s : State) (p : Fin 8) (sel : LinkGap → Bool) (cause : Nat) (hs : s.Inv) : (State.releaseGaps s p sel cause).Inv := by
  unfold State.releaseGaps
  try dsimp only
  repeat' first
    | (with_reducible first
        | assumption | intro _ | apply State.advance_inv | apply State.loseFrame_inv)
    | (with_reducible apply forEach_inv; rotate_left) | dsimp only

theorem State.raiseSeen_inv (s : State) (p : Fin 8) (top : Nat) (got : Option Nat) (hs : s.Inv) : (State.raiseSeen s p top got).Inv := by
  unfold State.raiseSeen
  try dsimp only
  repeat' first
    | (with_reducible first
        | assumption | intro _ | apply State.Inv.ite_same | apply State.modLink_inv)
    | split | dsimp only | (with_reducible refine State.Inv.of_mk (s := ?_) ?_ ?_)
    | exact State.Inv.acc (by with_reducible assumption)

theorem State.gapStatus_inv (s : State) (p : Fin 8) (hs : s.Inv) : (State.gapStatus s p).Inv := by
  unfold State.gapStatus
  try dsimp only
  repeat' first
    | (with_reducible first
        | assumption | intro _ | apply State.modLink_inv)
    | dsimp only | (with_reducible refine State.Inv.of_mk (s := ?_) ?_ ?_)
    | exact State.Inv.acc (by with_reducible assumption)

theorem State.hold_inv (s : State) (p : Fin 8) (seq head body : Nat) (fuel : Nat) (hs : s.Inv) :
    (State.hold s p seq head body fuel).Inv := by
  induction fuel generalizing s with
  | zero => unfold State.hold; exact hs
  | succ fuel ih =>
  unfold State.hold
  try dsimp only
  repeat' first
    | (with_reducible first
        | assumption | intro _ | apply State.Inv.ite_same | apply ih | apply State.bump64_inv | apply State.modLink_inv
        | apply State.advance_inv | apply State.loseFrame_inv)
    | split | dsimp only | (with_reducible refine State.Inv.of_mk (s := ?_) ?_ ?_)
    | exact State.Inv.acc (by with_reducible assumption)

theorem State.dataReceived_inv (s : State) (p : Fin 8) (seq head body : Nat) (hs : s.Inv) : (State.dataReceived s p seq head body).Inv := by
  unfold State.dataReceived
  try dsimp only
  repeat' first
    | (with_reducible first
        | assumption | intro _ | apply State.Inv.ite_same | apply State.bump64_inv | apply State.modLink_inv
        | apply State.advance_inv | apply State.raiseSeen_inv | apply State.gapStatus_inv | apply State.hold_inv)
    | split | dsimp only | (with_reducible refine State.Inv.of_mk (s := ?_) ?_ ?_)
    | exact State.Inv.acc (by with_reducible assumption)

theorem State.modTxFrame_inv (s : State) (p : Fin 8) (seq : Nat) (f : TxFrame → TxFrame) (hs : s.Inv) : (State.modTxFrame s p seq f).Inv := by
  unfold State.modTxFrame
  try dsimp only
  repeat' first
    | (with_reducible first
        | assumption | intro _ | apply State.Inv.ite_same | apply State.modLink_inv)
    | split | dsimp only | (with_reducible refine State.Inv.of_mk (s := ?_) ?_ ?_)
    | exact State.Inv.acc (by with_reducible assumption)

theorem State.writeOff_inv (s : State) (p : Fin 8) (seq : Nat) (source : Option Bool) (hs : s.Inv) : (State.writeOff s p seq source).Inv := by
  unfold State.writeOff
  try dsimp only
  repeat' first
    | (with_reducible first
        | assumption | intro _ | apply State.Inv.ite_same | apply State.bump64_inv | apply State.raise_inv
        | apply State.modLink_inv | apply State.modTxFrame_inv)
    | split | dsimp only | (with_reducible refine State.Inv.of_mk (s := ?_) ?_ ?_)
    | exact State.Inv.acc (by with_reducible assumption)

theorem State.dropFrames_inv (s : State) (p : Fin 8) (sel : TxFrame → Bool) (hs : s.Inv) : (State.dropFrames s p sel).Inv := by
  unfold State.dropFrames
  try dsimp only
  repeat' first
    | (with_reducible first
        | assumption | intro _ | apply State.modLink_inv)
    | dsimp only | (with_reducible refine State.Inv.of_mk (s := ?_) ?_ ?_)
    | exact State.Inv.acc (by with_reducible assumption)

theorem State.takeAck_inv (s : State) (p : Fin 8) (ack : Nat) (hs : s.Inv) : (State.takeAck s p ack).Inv := by
  unfold State.takeAck
  try dsimp only
  repeat' first
    | (with_reducible first
        | assumption | intro _ | apply State.Inv.ite_same | apply State.modLink_inv | apply State.linkCounts_inv
        | apply State.dropFrames_inv)
    | split | dsimp only | (with_reducible refine State.Inv.of_mk (s := ?_) ?_ ?_)
    | exact State.Inv.acc (by with_reducible assumption)

theorem State.queueReplay_inv (s : State) (p : Fin 8) (t : TxFrame) (hs : s.Inv) : (State.queueReplay s p t).Inv := by
  unfold State.queueReplay
  try dsimp only
  repeat' first
    | (with_reducible first
        | assumption | intro _ | apply State.Inv.ite_same | apply State.modLink_inv | apply State.writeOff_inv)
    | split | dsimp only | (with_reducible refine State.Inv.of_mk (s := ?_) ?_ ?_)
    | exact State.Inv.acc (by with_reducible assumption)

theorem State.streamSend_inv (s : State) (p : Fin 8) (fuel : Nat) (hs : s.Inv) :
    (State.streamSend s p fuel).Inv := by
  induction fuel generalizing s with
  | zero => unfold State.streamSend; exact hs
  | succ fuel ih =>
  unfold State.streamSend
  try dsimp only
  repeat' first
    | (with_reducible first
        | assumption | intro _ | apply State.Inv.ite_same | apply ih | apply symbolsOf_inv | apply State.modLink_inv
        | apply State.lineSend_inv)
    | split | dsimp only | (with_reducible refine State.Inv.of_mk (s := ?_) ?_ ?_)
    | exact State.Inv.acc (by with_reducible assumption)

theorem State.emit_inv (s : State) (p : Fin 8) (frame : List Bool) (hs : s.Inv) : (State.emit s p frame).Inv := by
  unfold State.emit
  try dsimp only
  repeat' first
    | (with_reducible first
        | assumption | intro _ | apply State.feed_inv | apply State.modLink_inv | apply TxStream.feed_inv
        | apply TxStream.encode_inv | apply State.streamSend_inv)
    | dsimp only | (with_reducible refine State.Inv.of_mk (s := ?_) ?_ ?_)
    | exact State.Inv.acc (by with_reducible assumption)

theorem State.enterCarrying_inv (s : State) (p : Fin 8) (hs : s.Inv) : (State.enterCarrying s p).Inv := by
  unfold State.enterCarrying
  try dsimp only
  repeat' first
    | (with_reducible first
        | assumption | intro _ | apply State.setReg_inv | apply State.bump_inv | apply State.modLink_inv
        | apply State.setPort_inv | apply State.linkCounts_inv)
    | dsimp only | (with_reducible refine State.Inv.of_mk (s := ?_) ?_ ?_)
    | exact State.Inv.acc (by with_reducible assumption)

theorem State.drain_inv (s : State) (p : Fin 8) (cause : Nat) (hs : s.Inv) : (State.drain s p cause).Inv := by
  unfold State.drain
  try dsimp only
  repeat' first
    | (with_reducible first
        | assumption | intro _ | apply State.Inv.ite_same | apply State.linkDown_inv | apply State.modPort_inv
        | apply State.modLink_inv | apply State.setPort_inv | apply State.testQuiet_inv | apply State.noteDrain_inv
        | apply State.releaseGaps_inv | apply State.writeOff_inv)
    | (with_reducible apply forEach_inv; rotate_left) | split | dsimp only
    | (with_reducible refine State.Inv.of_mk (s := ?_) ?_ ?_) | exact State.Inv.acc (by with_reducible assumption)

theorem State.lineStore_inv (s : State) (key : Nat) (d : List (List Byte)) (hs : s.Inv) : (State.lineStore s key d).Inv := by
  unfold State.lineStore
  try dsimp only
  repeat' first
    | (with_reducible first
        | assumption | intro _ | apply lineDefault_inv)
    | dsimp only | (with_reducible refine State.Inv.of_mk (s := ?_) ?_ ?_)
    | exact State.Inv.acc (by with_reducible assumption)

theorem State.modDs_inv (s : State) (f : DeepStore → DeepStore) (hs : s.Inv) : (State.modDs s f).Inv := by
  unfold State.modDs
  try dsimp only
  repeat' first
    | (with_reducible first
        | assumption | intro _)
    | dsimp only | (with_reducible refine State.Inv.of_mk (s := ?_) ?_ ?_)
    | exact State.Inv.acc (by with_reducible assumption)

theorem State.dsMoved_inv (s : State) (n : Nat) (hs : s.Inv) : (State.dsMoved s n).Inv := by
  unfold State.dsMoved
  try dsimp only
  repeat' first
    | (with_reducible first
        | assumption | intro _ | apply State.modDs_inv)
    | dsimp only | (with_reducible refine State.Inv.of_mk (s := ?_) ?_ ?_)
    | exact State.Inv.acc (by with_reducible assumption)

theorem State.dsLeave_inv (s : State) (hs : s.Inv) : (State.dsLeave s).Inv := by
  unfold State.dsLeave
  try dsimp only
  repeat' first
    | (with_reducible first
        | assumption | intro _ | apply State.modLink_inv | apply State.advance_inv | apply State.loseFrame_inv
        | apply State.writeOff_inv)
    | (with_reducible apply forEach_inv; rotate_left) | dsimp only | (with_reducible refine State.Inv.of_mk (s := ?_) ?_ ?_)
    | exact State.Inv.acc (by with_reducible assumption)

theorem State.dsState_inv (s : State) (v : Int) (hs : s.Inv) : (State.dsState s v).Inv := by
  unfold State.dsState
  try dsimp only
  repeat' first
    | (with_reducible first
        | assumption | intro _ | apply State.Inv.ite_same | apply State.setReg_inv | apply State.dsLeave_inv)
    | split | dsimp only

theorem State.dsCheck_inv (s after : State) (hs : s.Inv) (hafter : after.Inv) : (State.dsCheck s after).Inv := by
  unfold State.dsCheck
  try dsimp only
  repeat' first
    | (with_reducible first
        | assumption | intro _ | apply State.Inv.ite_same | apply State.dsLeave_inv)
    | split | dsimp only

theorem State.votesDs_inv (s : State) (hs : s.Inv) : (State.votesDs s).Inv := by
  unfold State.votesDs
  try dsimp only
  repeat' first
    | (with_reducible first
        | assumption | intro _ | apply State.portVotes_inv | apply State.dsCheck_inv)

theorem State.dsTrain_inv (s : State) (full : Bool) (hs : s.Inv) : (State.dsTrain s full).Inv := by
  unfold State.dsTrain
  try dsimp only
  repeat' first
    | (with_reducible first
        | assumption | intro _ | apply State.Inv.ite_same | apply State.setReg_inv | apply State.setAll_inv
        | apply State.modDs_inv | apply State.dsState_inv)
    | split | dsimp only | (with_reducible refine State.Inv.of_mk (s := ?_) ?_ ?_)
    | exact State.Inv.acc (by with_reducible assumption)

theorem State.dsOn_inv (s : State) (cold : Bool) (hs : s.Inv) : (State.dsOn s cold).Inv := by
  unfold State.dsOn
  try dsimp only
  repeat' first
    | (with_reducible first
        | assumption | intro _ | apply State.Inv.ite_same | apply State.modDs_inv | apply State.dsState_inv
        | apply State.dsTrain_inv)
    | split | dsimp only | (with_reducible refine State.Inv.of_mk (s := ?_) ?_ ?_)
    | exact State.Inv.acc (by with_reducible assumption)

theorem State.dsStop_inv (s : State) (hs : s.Inv) : (State.dsStop s).Inv := by
  unfold State.dsStop
  try dsimp only
  repeat' first
    | (with_reducible first
        | assumption | intro _ | apply State.Inv.ite_same | apply State.finish_inv | apply State.dsState_inv)
    | split | dsimp only

theorem State.dsAdmit_inv (s : State) (hs : s.Inv) : (State.dsAdmit s).Inv := by
  unfold State.dsAdmit
  try dsimp only
  repeat' first
    | (with_reducible first
        | assumption | intro _ | apply State.setReg_inv)

theorem State.modDeep_inv (s : State) (p : Fin 8) (seq : Nat) (held : Bool) (f : DeepCopy → DeepCopy) (hs : s.Inv) : (State.modDeep s p seq held f).Inv := by
  unfold State.modDeep
  try dsimp only
  repeat' first
    | (with_reducible first
        | assumption | intro _ | apply State.Inv.ite_same | apply State.modLink_inv | apply State.modTxFrame_inv)
    | split | dsimp only | (with_reducible refine State.Inv.of_mk (s := ?_) ?_ ?_)
    | exact State.Inv.acc (by with_reducible assumption)

theorem State.heldError_inv (s : State) (p : Fin 8) (seq : Nat) (hs : s.Inv) : (State.heldError s p seq).Inv := by
  unfold State.heldError
  try dsimp only
  repeat' first
    | (with_reducible first
        | assumption | intro _ | apply State.Inv.ite_same | apply State.bump64_inv | apply State.modLink_inv
        | apply State.advance_inv)
    | split | dsimp only | (with_reducible refine State.Inv.of_mk (s := ?_) ?_ ?_)
    | exact State.Inv.acc (by with_reducible assumption)

theorem State.busError_inv (s : State) (p : Fin 8) (seq : Nat) (held stale : Bool) (key : Nat) (hs : s.Inv) : (State.busError s p seq held stale key).Inv := by
  unfold State.busError
  try dsimp only
  repeat' first
    | (with_reducible first
        | assumption | intro _ | apply State.Inv.ite_same | apply State.bump64_inv | apply State.raise_inv
        | apply State.linkCounts_inv | apply State.writeOff_inv | apply State.heldError_inv)
    | split | dsimp only

theorem State.dsDeviceFailed_inv (s : State) (dev : Nat) (training : Bool) (hs : s.Inv) : (State.dsDeviceFailed s dev training).Inv := by
  unfold State.dsDeviceFailed
  try dsimp only
  repeat' first
    | (with_reducible first
        | assumption | intro _ | apply State.Inv.ite_same | apply State.setReg_inv | apply State.raise_inv
        | apply State.dsState_inv | apply State.busError_inv)
    | (with_reducible apply forEach_inv; rotate_left) | split | dsimp only

theorem State.lineFixed_inv (s : State) (key dev : Nat) (trial reread : Bool) (d : List (List Byte)) (verify : DsRead) (hs : s.Inv) : (State.lineFixed s key dev trial reread d verify).Inv := by
  unfold State.lineFixed
  try dsimp only
  repeat' first
    | (with_reducible first
        | assumption | intro _ | apply State.Inv.ite_same | apply State.bump64_inv | apply State.lineStore_inv
        | apply State.modDs_inv | apply State.dsMoved_inv | apply State.dsDeviceFailed_inv)
    | split | dsimp only | (with_reducible refine State.Inv.of_mk (s := ?_) ?_ ?_)
    | exact State.Inv.acc (by with_reducible assumption)

theorem State.lineTaken_inv (s : State) (p : Fin 8) (seq : Nat) (held : Bool) (key : Nat) (d : List (List Byte)) (hs : s.Inv) : (State.lineTaken s p seq held key d).Inv := by
  unfold State.lineTaken
  try dsimp only
  repeat' first
    | (with_reducible first
        | assumption | intro _ | apply State.Inv.ite_same | apply State.advance_inv | apply State.modDeep_inv
        | apply State.busError_inv)
    | split | dsimp only | (with_reducible refine State.Inv.of_mk (s := ?_) ?_ ?_)
    | exact State.Inv.acc (by with_reducible assumption)

theorem ownDsRetrain_inv (s : State) (hs : s.Inv) : (ownDsRetrain s).Inv := by
  unfold ownDsRetrain
  try dsimp only
  repeat' first
    | (with_reducible first
        | assumption | intro _ | apply State.Inv.ite_same | apply State.modDs_inv | apply State.dsTrain_inv
        | apply Verdict.inv_deny | apply Verdict.inv_later)
    | split | dsimp only | (with_reducible refine State.Inv.of_mk (s := ?_) ?_ ?_)
    | exact State.Inv.acc (by with_reducible assumption)

theorem State.remapCommit_inv (s : State) (hs : s.Inv) : (State.remapCommit s).Inv := by
  unfold State.remapCommit
  try dsimp only
  repeat' first
    | (with_reducible first
        | assumption | intro _ | apply State.Inv.ite_same | apply State.setReg_inv | apply State.raise_inv
        | apply State.lineStore_inv | apply State.modDs_inv)
    | (with_reducible apply forEach_inv; rotate_left) | split | dsimp only
    | (with_reducible refine State.Inv.of_mk (s := ?_) ?_ ?_) | exact State.Inv.acc (by with_reducible assumption)

theorem State.dsTick_inv (s : State) (hs : s.Inv) : (State.dsTick s).Inv := by
  unfold State.dsTick
  try dsimp only
  repeat' first
    | (with_reducible first
        | assumption | intro _ | apply State.Inv.ite_same | apply State.setReg_inv | apply State.modDs_inv
        | apply State.dsAdmit_inv | apply State.remapCommit_inv)
    | split | dsimp only | (with_reducible refine State.Inv.of_mk (s := ?_) ?_ ?_)
    | exact State.Inv.acc (by with_reducible assumption)

theorem ownDsWrite_inv (ix : Nat) (v : Int) (s : State) (hs : s.Inv) : (ownDsWrite ix v s).Inv := by
  unfold ownDsWrite
  try dsimp only
  repeat' first
    | (with_reducible first
        | assumption | intro _ | apply State.Inv.ite_same | apply storeVal_inv | apply Verdict.inv_deny)
    | split | dsimp only

theorem State.lplApply_inv (s : State) (p : Fin 8) (hs : s.Inv) : (State.lplApply s p).Inv := by
  unfold State.lplApply
  try dsimp only
  repeat' first
    | (with_reducible first
        | assumption | intro _ | apply State.Inv.ite_same | apply State.setReg_inv | apply State.bump_inv
        | apply State.modLink_inv)
    | split | dsimp only | (with_reducible refine State.Inv.of_mk (s := ?_) ?_ ?_)
    | exact State.Inv.acc (by with_reducible assumption)

theorem State.announce_inv (s : State) (p : Fin 8) (seq : Nat) (hs : s.Inv) : (State.announce s p seq).2.Inv := by
  unfold State.announce
  try dsimp only
  repeat' first
    | (with_reducible first
        | assumption | intro _ | apply State.Inv.ite_same | apply State.triggerFirst_inv | apply State.modLink_inv)
    | split | dsimp only | (with_reducible refine State.Inv.of_mk (s := ?_) ?_ ?_)
    | exact State.Inv.acc (by with_reducible assumption)

theorem State.mgmtWord_inv (s : State) (p : Fin 8) (hs : s.Inv) : (s.mgmtWord p).2.Inv := by
  have key : ∀ x : Option (Nat × State), OptInv x → (match x with
      | some (w, s1) => (some w, (s1.modLink p (fun x => { x with wordAt := some s.time.now })).bump64 Ob.LINK_MGMT_TX_WORDS (p.val + 1) 1)
      | none => (none, s) : Option Nat × State).2.Inv := by
    intro x hx
    cases x with
    | none => exact hs
    | some q =>
      obtain ⟨w, t⟩ := q
      exact State.bump64_inv _ _ _ _ (State.modLink_inv _ _ _ (hx (w, t) rfl))
  unfold State.mgmtWord
  extract_lets late
  clear_value late
  split
  · exact key _ (State.takeWord_inv s p hs)
  · exact hs

theorem State.sendFrame_inv (s : State) (p : Fin 8) (type lpl seq : Nat) (rpl : Bool) (body : List Bool) (hs : s.Inv) : (State.sendFrame s p type lpl seq rpl body).1.Inv := by
  unfold State.sendFrame
  try dsimp only
  repeat' first
    | (with_reducible first
        | assumption | intro _ | apply State.Inv.ite_same | apply State.emit_inv | apply State.announce_inv
        | apply State.mgmtWord_inv)
    | split | dsimp only | (refine pair2_inv (by with_reducible assumption) ?_)

theorem State.sendIdle_inv (s : State) (p : Fin 8) (hs : s.Inv) : (State.sendIdle s p).Inv := by
  unfold State.sendIdle
  try dsimp only
  repeat' first
    | (with_reducible first
        | assumption | intro _ | apply State.sendFrame_inv)
    | (refine pair1_inv (by with_reducible assumption) ?_)

theorem State.sendStatus_inv (s : State) (p : Fin 8) (hs : s.Inv) : (State.sendStatus s p).Inv := by
  unfold State.sendStatus
  try dsimp only
  repeat' first
    | (with_reducible first
        | assumption | intro _ | apply State.Inv.ite_same | apply State.bump64_inv | apply State.modLink_inv
        | apply State.gapStatus_inv | apply State.sendFrame_inv)
    | split | dsimp only | (refine pair1_inv (by with_reducible assumption) ?_)
    | (with_reducible refine State.Inv.of_mk (s := ?_) ?_ ?_) | exact State.Inv.acc (by with_reducible assumption)

theorem State.sendEcho_inv (s : State) (p : Fin 8) (hs : s.Inv) : (State.sendEcho s p).Inv := by
  unfold State.sendEcho
  try dsimp only
  repeat' first
    | (with_reducible first
        | assumption | intro _ | apply State.modLink_inv | apply State.sendFrame_inv)
    | split | dsimp only | (refine pair1_inv (by with_reducible assumption) ?_)
    | (with_reducible refine State.Inv.of_mk (s := ?_) ?_ ?_) | exact State.Inv.acc (by with_reducible assumption)

theorem State.writeLate_inv (s : State) (p : Fin 8) (seq : Nat) (hs : s.Inv) : (State.writeLate s p seq).Inv := by
  unfold State.writeLate
  try dsimp only
  repeat' first
    | (with_reducible first
        | assumption | intro _ | apply State.bump64_inv | apply State.raise_inv | apply State.writeOff_inv
        | apply State.modDs_inv)
    | dsimp only | (with_reducible refine State.Inv.of_mk (s := ?_) ?_ ?_)
    | exact State.Inv.acc (by with_reducible assumption)

theorem State.makeRoom_inv (s : State) (p : Fin 8) (lane : Nat) (hs : s.Inv) : (State.makeRoom s p lane).Inv := by
  unfold State.makeRoom
  try dsimp only
  repeat' first
    | (with_reducible first
        | assumption | intro _ | apply State.Inv.ite_same | apply State.modTxFrame_inv | apply State.writeOff_inv
        | apply State.dropFrames_inv | apply State.writeLate_inv)
    | split | dsimp only | (with_reducible refine State.Inv.of_mk (s := ?_) ?_ ?_)
    | exact State.Inv.acc (by with_reducible assumption)

theorem State.sendNew_inv (s : State) (p : Fin 8) (seq body : Nat) (drop : Bool) (hs : s.Inv) : (State.sendNew s p seq body drop).Inv := by
  unfold State.sendNew
  try dsimp only
  repeat' first
    | (with_reducible first
        | assumption | intro _ | apply State.Inv.ite_same | apply State.bump64_inv | apply State.injUse_inv
        | apply State.modLink_inv | apply State.linkCounts_inv | apply State.sendFrame_inv | apply State.sendIdle_inv
        | apply State.makeRoom_inv)
    | split | dsimp only | (refine pair1_inv (by with_reducible assumption) ?_)
    | (with_reducible refine State.Inv.of_mk (s := ?_) ?_ ?_) | exact State.Inv.acc (by with_reducible assumption)

theorem State.newData_inv (s : State) (p : Fin 8) (hs : s.Inv) : OptS (s.newData p) := by
  unfold State.newData
  extract_lets x
  clear_value x
  split
  · exact OptS.some (State.sendNew_inv _ _ _ _ _ (State.modLink_inv _ _ _ hs))
  · split
    · exact OptS.none
    · extract_lets swap
      split
      · split
        · exact OptS.some (State.injUse_inv _ _ _ (State.sendNew_inv _ _ _ _ _ (State.modLink_inv _ _ _ hs)))
        · exact OptS.none
      · exact OptS.some (State.sendNew_inv _ _ _ _ _ (State.modLink_inv _ _ _ hs))

theorem State.sendReplay_inv (s : State) (p : Fin 8) (hs : s.Inv) : OptS (s.sendReplay p) := by
  unfold State.sendReplay
  split
  · exact OptS.none
  · split
    · exact OptS.none
    · split
      · exact OptS.none
      · exact OptS.some (State.bump64_inv _ _ _ _ (State.sendFrame_inv _ _ _ _ _ _ _
          (State.modTxFrame_inv _ _ _ _ (State.modLink_inv _ _ _ hs))))

theorem State.assemble_inv (s : State) (p : Fin 8) (fuel : Nat) (hs : s.Inv) :
    (State.assemble s p fuel).Inv := by
  induction fuel generalizing s with
  | zero => unfold State.assemble; exact hs
  | succ fuel ih =>
  unfold State.assemble
  try dsimp only
  repeat' first
    | (with_reducible first
        | assumption | intro _ | apply State.Inv.ite_same | apply ih | apply State.ingressTake_inv | apply State.modLink_inv)
    | split | dsimp only | (refine pair2_inv (by with_reducible assumption) ?_)
    | (with_reducible refine State.Inv.of_mk (s := ?_) ?_ ?_) | exact State.Inv.acc (by with_reducible assumption)

theorem State.carrySlot_inv (s : State) (p : Fin 8) (hs : s.Inv) : (s.carrySlot p).Inv := by
  unfold State.carrySlot
  extract_lets x waiting
  clear_value waiting x
  have h1 : OptS (if waiting ≤ x.backlog * s.width p then s.sendReplay p else none) := by
    split
    · exact State.sendReplay_inv s p hs
    · exact OptS.none
  revert h1
  generalize (if waiting ≤ x.backlog * s.width p then s.sendReplay p else none) = o
  intro h1
  have h2 := State.newData_inv s p hs
  revert h2
  generalize s.newData p = d
  intro h2
  split
  · exact State.sendStatus_inv s p hs
  · cases o with
    | some t => exact h1 t rfl
    | none =>
      cases d with
      | some t => exact h2 t rfl
      | none =>
        dsimp only
        split
        · exact State.sendEcho_inv s p hs
        · split
          · exact State.sendStatus_inv s p hs
          · exact State.sendIdle_inv s p hs

theorem State.declareAligned_inv (s : State) (p : Fin 8) (hs : s.Inv) : (State.declareAligned s p).Inv := by
  unfold State.declareAligned
  try dsimp only
  repeat' first
    | (with_reducible first
        | assumption | intro _ | apply State.Inv.ite_same | apply State.setReg_inv | apply State.setPort_inv)
    | (with_reducible apply forEach_inv; rotate_left) | split | dsimp only

theorem State.linkLost_inv (s : State) (p : Fin 8) (cause : Nat) (hs : s.Inv) : (State.linkLost s p cause).Inv := by
  unfold State.linkLost
  try dsimp only
  repeat' first
    | (with_reducible first
        | assumption | intro _ | apply State.Inv.ite_same | apply State.setReg_inv | apply State.linkDown_inv
        | apply State.enterSearch_inv | apply State.testQuiet_inv | apply State.drain_inv)
    | split | dsimp only

theorem State.formatMismatch_inv (s : State) (p : Fin 8) (hs : s.Inv) : (State.formatMismatch s p).Inv := by
  unfold State.formatMismatch
  try dsimp only
  repeat' first
    | (with_reducible first
        | assumption | intro _ | apply State.Inv.ite_same | apply State.setReg_inv | apply State.raise_inv
        | apply State.modPort_inv)
    | split | dsimp only | (with_reducible refine State.Inv.of_mk (s := ?_) ?_ ?_)
    | exact State.Inv.acc (by with_reducible assumption)

theorem State.skewLimit_inv (s : State) (p : Fin 8) (skew : Nat) (hs : s.Inv) : (State.skewLimit s p skew).Inv := by
  unfold State.skewLimit
  try dsimp only
  repeat' first
    | (with_reducible first
        | assumption | intro _ | apply State.Inv.ite_same | apply State.setReg_inv | apply State.raise_inv
        | apply State.modPort_inv)
    | split | dsimp only | (with_reducible refine State.Inv.of_mk (s := ?_) ?_ ?_)
    | exact State.Inv.acc (by with_reducible assumption)

theorem State.alignLoss_inv (s : State) (p l : Fin 8) (hs : s.Inv) : (State.alignLoss s p l).Inv := by
  unfold State.alignLoss
  try dsimp only
  repeat' first
    | (with_reducible first
        | assumption | intro _ | apply State.Inv.ite_same | apply State.setReg_inv | apply State.raise_inv
        | apply State.modOuterLane_inv | apply State.modOuterPort_inv | apply State.linkLost_inv)
    | (with_reducible apply forEach_inv; rotate_left) | split | dsimp only

theorem State.lplSeen_inv (s : State) (p : Fin 8) (v : Nat) (hs : s.Inv) : (State.lplSeen s p v).Inv := by
  unfold State.lplSeen
  try dsimp only
  repeat' first
    | (with_reducible first
        | assumption | intro _ | apply State.Inv.ite_same | apply State.setReg_inv | apply State.modLink_inv)
    | split | dsimp only | (with_reducible refine State.Inv.of_mk (s := ?_) ?_ ?_)
    | exact State.Inv.acc (by with_reducible assumption)

theorem State.statusReceived_inv (s : State) (p : Fin 8) (body : List Bool) (hs : s.Inv) : (State.statusReceived s p body).Inv := by
  unfold State.statusReceived
  try dsimp only
  repeat' first
    | (with_reducible first
        | assumption | intro _ | apply State.Inv.ite_same | apply State.modLink_inv | apply State.modTxFrame_inv
        | apply State.takeAck_inv | apply State.queueReplay_inv)
    | (with_reducible apply forEach_inv; rotate_left) | split | dsimp only
    | (with_reducible refine State.Inv.of_mk (s := ?_) ?_ ?_) | exact State.Inv.acc (by with_reducible assumption)

theorem State.echoReceived_inv (s : State) (p : Fin 8) (body : List Bool) (hs : s.Inv) : (State.echoReceived s p body).Inv := by
  unfold State.echoReceived
  try dsimp only
  repeat' first
    | (with_reducible first
        | assumption | intro _ | apply State.Inv.ite_same | apply State.setReg_inv | apply State.triggerFirst_inv
        | apply State.modLink_inv)
    | split | dsimp only | (with_reducible refine State.Inv.of_mk (s := ?_) ?_ ?_)
    | exact State.Inv.acc (by with_reducible assumption)

theorem State.takeFrameBody_inv (s : State) (p : Fin 8) (h : FrameHead) (body : List Bool) (rescued unsettled : Bool) (hs : s.Inv) : (State.takeFrameBody s p h body rescued unsettled).Inv := by
  unfold State.takeFrameBody
  try dsimp only
  repeat' first
    | (with_reducible first
        | assumption | intro _ | apply State.Inv.ite_same | apply State.setReg_inv | apply State.bump64_inv
        | apply State.injUse_inv | apply State.modLink_inv | apply State.releaseGaps_inv | apply State.raiseSeen_inv
        | apply State.gapStatus_inv | apply State.dataReceived_inv | apply State.takeAck_inv | apply State.enterCarrying_inv
        | apply State.drain_inv | apply State.lplSeen_inv | apply State.statusReceived_inv | apply State.echoReceived_inv)
    | split | dsimp only | (with_reducible refine State.Inv.of_mk (s := ?_) ?_ ?_)
    | exact State.Inv.acc (by with_reducible assumption)

theorem State.takeSlot_inv (s : State) (p : Fin 8) (slot : RxSlot) (hs : s.Inv) : (State.takeSlot s p slot).Inv := by
  unfold State.takeSlot
  try dsimp only
  repeat' first
    | (with_reducible first
        | assumption | intro _ | apply State.Inv.ite_same | apply State.setReg_inv | apply State.bump_inv
        | apply State.bump64_inv | apply State.raise_inv | apply State.pushBytes_inv | apply State.raiseSeen_inv
        | apply State.gapStatus_inv | apply State.drain_inv | apply State.takeFrameBody_inv)
    | split | dsimp only

theorem State.markerTaken_inv (s : State) (p l : Fin 8) (hs : s.Inv) : (State.markerTaken s p l).Inv := by
  unfold State.markerTaken
  try dsimp only
  repeat' first
    | (with_reducible first
        | assumption | intro _ | apply State.Inv.ite_same | apply State.modOuterLane_inv)
    | split | dsimp only | (with_reducible refine State.Inv.of_mk (s := ?_) ?_ ?_)
    | exact State.Inv.acc (by with_reducible assumption)

theorem State.linePattern_inv (s : State) (l : Fin 8) (hs : s.Inv) : (State.linePattern s l).Inv := by
  unfold State.linePattern
  try dsimp only
  repeat' first
    | (with_reducible first
        | assumption | intro _ | apply State.modTx_inv | apply State.txSend_inv)
    | split | dsimp only | (with_reducible refine State.Inv.of_mk (s := ?_) ?_ ?_)
    | exact State.Inv.acc (by with_reducible assumption)

theorem ownRetryWindow_inv (sub v : Nat) (s : State) (hs : s.Inv) : (ownRetryWindow sub v s).Inv := by
  unfold ownRetryWindow
  try dsimp only
  repeat' first
    | (with_reducible first
        | assumption | intro _ | apply State.Inv.ite_same | apply State.setReg_inv | apply State.modLink_inv
        | apply State.linkCounts_inv | apply State.writeOff_inv | apply State.votesDs_inv | apply State.dsAdmit_inv
        | apply Verdict.inv_deny | apply Verdict.inv_done)
    | (with_reducible apply forEach_inv; rotate_left) | split | dsimp only
    | (with_reducible refine State.Inv.of_mk (s := ?_) ?_ ?_) | exact State.Inv.acc (by with_reducible assumption)

theorem ownRetryClearPeaks_inv (s : State) (hs : s.Inv) : (ownRetryClearPeaks s).Inv := by
  unfold ownRetryClearPeaks
  try dsimp only
  repeat' first
    | (with_reducible first
        | assumption | intro _ | apply State.setReg_inv | apply Verdict.inv_done)
    | (with_reducible apply forEach_inv; rotate_left) | dsimp only

theorem State.linkTick_inv (s : State) (p : Fin 8) (hs : s.Inv) : (State.linkTick s p).Inv := by
  unfold State.linkTick
  try dsimp only
  repeat' first
    | (with_reducible first
        | assumption | intro _ | apply State.Inv.ite_same | apply State.setReg_inv | apply State.raise_inv
        | apply State.modLink_inv)
    | split | dsimp only | (with_reducible refine State.Inv.of_mk (s := ?_) ?_ ?_)
    | exact State.Inv.acc (by with_reducible assumption)

theorem State.portOff_inv (s : State) (p : Fin 8) (st : Nat) (hs : s.Inv) : (State.portOff s p st).Inv := by
  unfold State.portOff
  try dsimp only
  repeat' first
    | (with_reducible first
        | assumption | intro _ | apply State.setReg_inv | apply State.finish_inv | apply State.linkDown_inv
        | apply State.modInst_inv | apply State.hostIdle_inv | apply State.modPort_inv | apply State.modLink_inv
        | apply State.setPort_inv | apply State.portRxIdle_inv | apply State.linkRest_inv | apply State.testQuiet_inv
        | apply State.votesDs_inv)
    | (with_reducible apply forEach_inv; rotate_left) | dsimp only | (with_reducible refine State.Inv.of_mk (s := ?_) ?_ ?_)
    | exact State.Inv.acc (by with_reducible assumption)

theorem State.setGoal_inv (s : State) (p : Fin 8) (g : PGoal) (hs : s.Inv) : (State.setGoal s p g).Inv := by
  unfold State.setGoal
  try dsimp only
  repeat' first
    | (with_reducible first
        | assumption | intro _ | apply State.modPort_inv)
    | dsimp only | (with_reducible refine State.Inv.of_mk (s := ?_) ?_ ?_)
    | exact State.Inv.acc (by with_reducible assumption)

theorem State.checkers_inv (s : State) (p : Fin 8) (k : Nat) (start : Bool) (hs : s.Inv) : (State.checkers s p k start).Inv := by
  unfold State.checkers
  try dsimp only
  repeat' first
    | (with_reducible first
        | assumption | intro _ | apply State.Inv.ite_same | apply State.setReg_inv | apply State.modRx_inv
        | apply State.modHostLane_inv)
    | (with_reducible apply forEach_inv; rotate_left) | split | dsimp only
    | (with_reducible refine State.Inv.of_mk (s := ?_) ?_ ?_) | exact State.Inv.acc (by with_reducible assumption)

theorem State.testBegin_inv (s : State) (p : Fin 8) (k : Nat) (hs : s.Inv) : (State.testBegin s p k).Inv := by
  unfold State.testBegin
  try dsimp only
  repeat' first
    | (with_reducible first
        | assumption | intro _ | apply State.Inv.ite_same | apply State.finish_inv | apply State.modTx_inv
        | apply State.tlStart_inv | apply State.modTest_inv | apply State.linkDown_inv | apply State.modPort_inv
        | apply State.setPort_inv | apply State.portDown_inv | apply State.portEnable_inv | apply State.portRxIdle_inv
        | apply State.linkRest_inv | apply State.checkers_inv)
    | (with_reducible apply forEach_inv; rotate_left) | split | dsimp only
    | (with_reducible refine State.Inv.of_mk (s := ?_) ?_ ?_) | exact State.Inv.acc (by with_reducible assumption)

theorem State.testOver_inv (s : State) (p : Fin 8) (result : Int) (hs : s.Inv) : (State.testOver s p result).Inv := by
  unfold State.testOver
  try dsimp only
  repeat' first
    | (with_reducible first
        | assumption | intro _ | apply State.Inv.ite_same | apply State.finish_inv | apply State.testEnd_inv
        | apply State.checkers_inv)
    | split | dsimp only

theorem State.rateCalibrate_inv (s : State) (p : Fin 8) (hs : s.Inv) : (State.rateCalibrate s p).Inv := by
  unfold State.rateCalibrate
  try dsimp only
  repeat' first
    | (with_reducible first
        | assumption | intro _ | apply State.Inv.ite_same | apply State.txCalibrate_inv | apply State.modPort_inv)
    | (with_reducible apply forEach_inv; rotate_left) | split | dsimp only
    | (with_reducible refine State.Inv.of_mk (s := ?_) ?_ ?_) | exact State.Inv.acc (by with_reducible assumption)

theorem State.rateSwitch_inv (s : State) (p : Fin 8) (rate : Nat) (hs : s.Inv) : (State.rateSwitch s p rate).Inv := by
  unfold State.rateSwitch
  try dsimp only
  repeat' first
    | (with_reducible first
        | assumption | intro _ | apply State.Inv.ite_same | apply State.setReg_inv | apply State.modInst_inv
        | apply State.modHostLane_inv | apply State.hostLost_inv | apply State.modLink_inv | apply State.portEnable_inv
        | apply State.portStandby_inv)
    | (with_reducible apply forEach_inv; rotate_left) | split | dsimp only
    | (with_reducible refine State.Inv.of_mk (s := ?_) ?_ ?_) | exact State.Inv.acc (by with_reducible assumption)

theorem State.rateEnd_inv (s : State) (p : Fin 8) (hs : s.Inv) : (State.rateEnd s p).Inv := by
  unfold State.rateEnd
  try dsimp only
  repeat' first
    | (with_reducible first
        | assumption | intro _ | apply State.setReg_inv | apply State.modPort_inv)
    | dsimp only | (with_reducible refine State.Inv.of_mk (s := ?_) ?_ ?_)
    | exact State.Inv.acc (by with_reducible assumption)

theorem State.settleOff_inv (s : State) (p : Fin 8) (hs : s.Inv) : (State.settleOff s p).Inv := by
  unfold State.settleOff
  try dsimp only
  repeat' first
    | (with_reducible first
        | assumption | intro _ | apply State.Inv.ite_same | apply State.finish_inv | apply State.portEnable_inv
        | apply State.portStandby_inv | apply State.votesDs_inv | apply State.portOff_inv | apply State.setGoal_inv)
    | split | dsimp only

theorem State.settleStandby_inv (s : State) (p : Fin 8) (hs : s.Inv) : (State.settleStandby s p).Inv := by
  unfold State.settleStandby
  try dsimp only
  repeat' first
    | (with_reducible first
        | assumption | intro _ | apply State.Inv.ite_same | apply State.finish_inv | apply State.enterSearch_inv
        | apply State.portEnable_inv | apply State.portOff_inv | apply State.setGoal_inv | apply State.testBegin_inv
        | apply State.rateEnd_inv)
    | split | dsimp only

theorem State.settleRunning_inv (s : State) (p : Fin 8) (hs : s.Inv) : (State.settleRunning s p).Inv := by
  unfold State.settleRunning
  try dsimp only
  repeat' first
    | (with_reducible first
        | assumption | intro _ | apply State.Inv.ite_same | apply State.finish_inv | apply State.portEnable_inv
        | apply State.portStandby_inv | apply State.portOff_inv | apply State.setGoal_inv | apply State.testBegin_inv)
    | split | dsimp only

theorem State.settleRate_inv (s : State) (p : Fin 8) (rate : Nat) (hs : s.Inv) : (State.settleRate s p rate).Inv := by
  unfold State.settleRate
  try dsimp only
  repeat' first
    | (with_reducible first
        | assumption | intro _ | apply State.Inv.ite_same | apply State.finish_inv | apply State.modPort_inv
        | apply State.setPort_inv | apply State.rateCalibrate_inv | apply State.rateSwitch_inv | apply State.rateEnd_inv
        | apply State.settleStandby_inv | apply State.settleRunning_inv)
    | split | dsimp only | (with_reducible refine State.Inv.of_mk (s := ?_) ?_ ?_)
    | exact State.Inv.acc (by with_reducible assumption)

theorem State.portRestart_inv (s : State) (p : Fin 8) (hs : s.Inv) : (State.portRestart s p).Inv := by
  unfold State.portRestart
  try dsimp only
  repeat' first
    | (with_reducible first
        | assumption | intro _ | apply State.Inv.ite_same | apply State.modPort_inv | apply State.portLeave_inv)
    | split | dsimp only | (with_reducible refine State.Inv.of_mk (s := ?_) ?_ ?_)
    | exact State.Inv.acc (by with_reducible assumption)

theorem State.portSettle_inv (s : State) (p : Fin 8) (hs : s.Inv) : (State.portSettle s p).Inv := by
  unfold State.portSettle
  try dsimp only
  repeat' first
    | (with_reducible first
        | assumption | intro _ | apply State.Inv.ite_same | apply State.settleOff_inv | apply State.settleStandby_inv
        | apply State.settleRunning_inv | apply State.settleRate_inv | apply State.portRestart_inv)
    | split | dsimp only

theorem State.laneSettle_inv (s : State) (l : Fin 8) (hs : s.Inv) : (State.laneSettle s l).Inv := by
  unfold State.laneSettle
  try dsimp only
  repeat' first
    | (with_reducible first
        | assumption | intro _ | apply State.portSettle_inv)
    | split | dsimp only

theorem State.portCalFail_inv (s : State) (l : Fin 8) (hs : s.Inv) : (State.portCalFail s l).Inv := by
  unfold State.portCalFail
  try dsimp only
  repeat' first
    | (with_reducible first
        | assumption | intro _ | apply State.Inv.ite_same | apply State.finish_inv | apply State.txDown_inv
        | apply State.testEnd_inv | apply State.votesDs_inv | apply State.portOff_inv | apply State.checkers_inv)
    | (with_reducible apply forEach_inv; rotate_left) | split | dsimp only

theorem State.portLower_inv (s : State) (p : Fin 8) (cause : Nat) (hs : s.Inv) : (State.portLower s p cause).Inv := by
  unfold State.portLower
  try dsimp only
  repeat' first
    | (with_reducible first
        | assumption | intro _ | apply State.Inv.ite_same | apply State.portDown_inv | apply State.drain_inv)
    | split | dsimp only

theorem State.testLeave_inv (s : State) (p : Fin 8) (goal : PGoal) (hs : s.Inv) : (State.testLeave s p goal).Inv := by
  unfold State.testLeave
  try dsimp only
  repeat' first
    | (with_reducible first
        | assumption | intro _ | apply State.Inv.ite_same | apply State.enterSearch_inv | apply State.portDown_inv
        | apply State.portEnable_inv | apply State.portStandby_inv | apply State.setGoal_inv | apply State.portSettle_inv)
    | split | dsimp only

theorem State.rateStart_inv (s : State) (p : Fin 8) (rate : Nat) (hs : s.Inv) : (State.rateStart s p rate).Inv := by
  unfold State.rateStart
  try dsimp only
  repeat' first
    | (with_reducible first
        | assumption | intro _ | apply State.Inv.ite_same | apply State.setReg_inv | apply State.rxIdle_inv
        | apply State.modPort_inv | apply State.setGoal_inv | apply State.testOver_inv | apply State.portSettle_inv
        | apply State.portLower_inv)
    | (with_reducible apply forEach_inv; rotate_left) | split | dsimp only
    | (with_reducible refine State.Inv.of_mk (s := ?_) ?_ ?_) | exact State.Inv.acc (by with_reducible assumption)

theorem State.cmdOff_inv (s : State) (p : Fin 8) (hs : s.Inv) : (State.cmdOff s p).Inv := by
  unfold State.cmdOff
  try dsimp only
  repeat' first
    | (with_reducible first
        | assumption | intro _ | apply State.Inv.ite_same | apply State.finish_inv | apply State.modTx_inv
        | apply State.setGoal_inv | apply State.testOver_inv | apply State.rateEnd_inv | apply State.portLower_inv)
    | (with_reducible apply forEach_inv; rotate_left) | split | dsimp only
    | (with_reducible refine State.Inv.of_mk (s := ?_) ?_ ?_) | exact State.Inv.acc (by with_reducible assumption)

theorem State.cmdStandby_inv (s : State) (p : Fin 8) (hs : s.Inv) : (State.cmdStandby s p).Inv := by
  unfold State.cmdStandby
  try dsimp only
  repeat' first
    | (with_reducible first
        | assumption | intro _ | apply State.Inv.ite_same | apply State.portDown_inv | apply State.portLeave_inv
        | apply State.setGoal_inv | apply State.testOver_inv | apply State.rateEnd_inv | apply State.portLower_inv)
    | split | dsimp only

theorem State.cmdUp_inv (s : State) (p : Fin 8) (hs : s.Inv) : (State.cmdUp s p).Inv := by
  unfold State.cmdUp
  try dsimp only
  repeat' first
    | (with_reducible first
        | assumption | intro _ | apply State.Inv.ite_same | apply State.portEnable_inv | apply State.portLeave_inv
        | apply State.setGoal_inv | apply State.testOver_inv | apply State.testLeave_inv)
    | split | dsimp only

theorem State.portCommand_inv (s : State) (p : Fin 8) (arg : Nat) (hs : s.Inv) : (State.portCommand s p arg).1.Inv := by
  unfold State.portCommand
  try dsimp only
  repeat' first
    | (with_reducible first
        | assumption | intro _ | apply State.Inv.ite_same | apply State.portDown_inv | apply State.setGoal_inv
        | apply State.portSettle_inv | apply State.cmdOff_inv | apply State.cmdStandby_inv | apply State.cmdUp_inv)
    | split | dsimp only

theorem ownPortCmd_inv (sub : Nat) (v : Int) (s : State) (hs : s.Inv) : (ownPortCmd sub v s).Inv := by
  unfold ownPortCmd
  try dsimp only
  repeat' first
    | (with_reducible first
        | assumption | intro _ | apply State.Inv.ite_same | apply State.portCommand_inv | apply Verdict.inv_deny
        | apply Verdict.inv_done | apply Verdict.inv_later)
    | split | dsimp only | (refine pair1_inv (by with_reducible assumption) ?_)

theorem ownTestStart_inv (sub : Nat) (v : Int) (s : State) (hs : s.Inv) : (ownTestStart sub v s).Inv := by
  unfold ownTestStart
  split
  · extract_lets p k st s1 s2 s3 s4
    have h1 : s1.Inv := State.modTest_inv _ _ _ (State.setReg_inv _ _ _ _ hs)
    have h2 : s2.Inv := by
      show State.Inv (if _ then _ else _)
      split
      · exact State.setGoal_inv _ _ _ (State.drain_inv _ _ _ h1)
      · split
        · exact State.setGoal_inv _ _ _ h1
        · exact State.testBegin_inv _ _ _ h1
    have h3 : s3.Inv := by
      show State.Inv (if _ then _ else _)
      split
      · exact State.portDown_inv _ _ h2
      · exact h2
    have h4 : s4.Inv := State.portSettle_inv _ _ h3
    clear_value s4 s3 s2 s1 st k
    repeat' split
    all_goals first | exact h4 | exact trivial
  · exact trivial

theorem State.breakoutOff_inv (s : State) (p : Fin 8) (hs : s.Inv) : (State.breakoutOff s p).Inv := by
  unfold State.breakoutOff
  try dsimp only
  repeat' first
    | (with_reducible first
        | assumption | intro _ | apply State.modPort_inv | apply State.portSettle_inv | apply State.cmdOff_inv)
    | dsimp only | (with_reducible refine State.Inv.of_mk (s := ?_) ?_ ?_)
    | exact State.Inv.acc (by with_reducible assumption)

theorem ownApplyBreakout_inv (s : State) (hs : s.Inv) : (ownApplyBreakout s).Inv := by
  unfold ownApplyBreakout
  try dsimp only
  repeat' first
    | (with_reducible first
        | assumption | intro _ | apply State.Inv.ite_same | apply State.breakoutOff_inv | apply Verdict.inv_deny
        | apply Verdict.inv_done | apply Verdict.inv_later)
    | (with_reducible apply forEach_inv; rotate_left) | split | dsimp only
    | (with_reducible refine State.Inv.of_mk (s := ?_) ?_ ?_) | exact State.Inv.acc (by with_reducible assumption)

theorem State.laneMeasures_inv (s : State) (p : Fin 8) (hs : s.Inv) : (State.laneMeasures s p).Inv := by
  unfold State.laneMeasures
  try dsimp only
  repeat' first
    | (with_reducible first
        | assumption | intro _ | apply State.structWant_inv)
    | (with_reducible apply forEach_inv; rotate_left) | dsimp only

theorem ownPortMode_inv (sub : Nat) (v : Int) (s : State) (hs : s.Inv) : (ownPortMode sub v s).Inv := by
  unfold ownPortMode
  try dsimp only
  repeat' first
    | (with_reducible first
        | assumption | intro _ | apply State.Inv.ite_same | apply State.setReg_inv | apply State.laneMeasures_inv
        | apply Verdict.inv_deny | apply Verdict.inv_done)
    | split | dsimp only

theorem ownRateSet_inv (sub : Nat) (v : Int) (s : State) (hs : s.Inv) : (ownRateSet sub v s).Inv := by
  unfold ownRateSet
  try dsimp only
  repeat' first
    | (with_reducible first
        | assumption | intro _ | apply State.Inv.ite_same | apply State.setReg_inv | apply State.modPort_inv
        | apply State.rateStart_inv | apply Verdict.inv_deny | apply Verdict.inv_done)
    | split | dsimp only | (with_reducible refine State.Inv.of_mk (s := ?_) ?_ ?_)
    | exact State.Inv.acc (by with_reducible assumption)

theorem ownFarLoop_inv (path : Path) (sub : Nat) (v : Int) (s : State) (hs : s.Inv) : (ownFarLoop path sub v s).Inv := by
  unfold ownFarLoop
  try dsimp only
  repeat' first
    | (with_reducible first
        | assumption | intro _ | apply State.Inv.ite_same | apply State.setReg_inv | apply Verdict.inv_deny
        | apply Verdict.inv_done)
    | split | dsimp only

theorem ownInjFire_inv (sub : Nat) (s : State) (hs : s.Inv) : (ownInjFire sub s).Inv := by
  unfold ownInjFire
  try dsimp only
  repeat' first
    | (with_reducible first
        | assumption | intro _ | apply State.Inv.ite_same | apply State.setReg_inv | apply State.raise_inv
        | apply State.modTic_inv | apply State.modTest_inv | apply Verdict.inv_deny | apply Verdict.inv_done)
    | (with_reducible apply forEach_inv; rotate_left) | split | dsimp only
    | (with_reducible refine State.Inv.of_mk (s := ?_) ?_ ?_) | exact State.Inv.acc (by with_reducible assumption)

theorem ownCapSetting_inv (ix : Nat) (v : Int) (s : State) (hs : s.Inv) : (ownCapSetting ix v s).Inv := by
  unfold ownCapSetting
  try dsimp only
  repeat' first
    | (with_reducible first
        | assumption | intro _ | apply State.Inv.ite_same | apply storeVal_inv | apply Verdict.inv_deny)
    | split | dsimp only

theorem ownCapArm_inv (s : State) (hs : s.Inv) : (ownCapArm s).Inv := by
  unfold ownCapArm
  try dsimp only
  repeat' first
    | (with_reducible first
        | assumption | intro _ | apply State.setReg_inv | apply Verdict.inv_done)
    | dsimp only | (with_reducible refine State.Inv.of_mk (s := ?_) ?_ ?_)
    | exact State.Inv.acc (by with_reducible assumption)

theorem ownCapTrigger_inv (s : State) (hs : s.Inv) : (ownCapTrigger s).Inv := by
  unfold ownCapTrigger
  try dsimp only
  repeat' first
    | (with_reducible first
        | assumption | intro _ | apply State.Inv.ite_same | apply State.capTrigger_inv | apply Verdict.inv_deny
        | apply Verdict.inv_done)
    | split | dsimp only

theorem ownTestWrite_inv (ix sub : Nat) (v : Int) (s : State) (hs : s.Inv) : (ownTestWrite ix sub v s).Inv := by
  unfold ownTestWrite
  try dsimp only
  repeat' first
    | (with_reducible first
        | assumption | intro _ | apply State.Inv.ite_same | apply storeVal_inv | apply ownCapSetting_inv)
    | split | dsimp only

theorem State.txCalFail_inv (s : State) (l : Fin 8) (why : Nat) (hs : s.Inv) : (State.txCalFail s l why).Inv := by
  unfold State.txCalFail
  try dsimp only
  repeat' first
    | (with_reducible first
        | assumption | intro _ | apply State.setReg_inv | apply State.raise_inv | apply State.modTx_inv
        | apply State.portCalFail_inv)
    | dsimp only | (with_reducible refine State.Inv.of_mk (s := ?_) ?_ ?_)
    | exact State.Inv.acc (by with_reducible assumption)

theorem State.txCalEnd_inv (s : State) (l : Fin 8) (hs : s.Inv) : (State.txCalEnd s l).Inv := by
  unfold State.txCalEnd
  try dsimp only
  repeat' first
    | (with_reducible first
        | assumption | intro _ | apply State.Inv.ite_same | apply State.txCalibrated_inv | apply State.upStart_inv
        | apply State.laneSettle_inv)
    | split | dsimp only

end Sys2Proof.Machine
end

