-- ==== Sys2Proof/Laws/SoundChip.lean ====
section
/-! SUPPORT. Soundness kept by the engines, the supply, the domains, the flash, start-up, update, the tick and the dictionary. -/

set_option linter.unusedTactic false
set_option linter.unreachableTactic false
set_option linter.unusedVariables false

namespace Sys2Proof.Machine

theorem State.pmuWrap_inv (s : State) (e : Fin 128) (j task offset : Nat) (hs : s.Inv) : (State.pmuWrap s e j task offset).Inv := by
  unfold State.pmuWrap
  try dsimp only
  repeat' first
    | (with_reducible first
        | assumption | intro _ | apply State.Inv.ite_same | apply State.setReg_inv | apply State.raise_inv
        | apply State.modEng_inv)
    | split | dsimp only | (with_reducible refine State.Inv.of_mk (s := ?_) ?_ ?_)
    | exact State.Inv.acc (by with_reducible assumption)

theorem State.pmuCount_inv (s : State) (e : Fin 128) (task offset : Nat) (events : Nat → Nat) (hs : s.Inv) : (State.pmuCount s e task offset events).Inv := by
  unfold State.pmuCount
  try dsimp only
  repeat' first
    | (with_reducible first
        | assumption | intro _ | apply State.Inv.ite_same | apply State.setReg_inv | apply State.setBlob_inv
        | apply State.pmuWrap_inv)
    | (with_reducible apply forEach_inv; rotate_left) | split | dsimp only

theorem State.engCount_inv (s : State) (e : Fin 128) (task : Nat) (missed : Bool) (w : EngWork) (hs : s.Inv) : (State.engCount s e task missed w).Inv := by
  unfold State.engCount
  try dsimp only
  repeat' first
    | (with_reducible first
        | assumption | intro _ | apply State.Inv.ite_same | apply State.setBlob_inv | apply State.bump64_inv
        | apply State.modEng_inv | apply State.pmuCount_inv)
    | split | dsimp only | (with_reducible refine State.Inv.of_mk (s := ?_) ?_ ?_)
    | exact State.Inv.acc (by with_reducible assumption)

theorem State.putBack_inv (s : State) (u : Undo) (hs : s.Inv) : (State.putBack s u).Inv := by
  unfold State.putBack
  try dsimp only
  repeat' first
    | (with_reducible first
        | assumption | intro _ | apply State.setReg_inv | apply State.setBlob_inv | apply State.modTx_inv
        | apply State.modAdcLane_inv | apply State.modLink_inv)
    | split | dsimp only | (with_reducible refine State.Inv.of_mk (s := ?_) ?_ ?_)
    | exact State.Inv.acc (by with_reducible assumption)

theorem State.missOutcome_inv (s : State) (e : Fin 128) (task : Nat) (halted : Bool) (hs : s.Inv) : (State.missOutcome s e task halted).Inv := by
  unfold State.missOutcome
  try dsimp only
  repeat' first
    | (with_reducible first
        | assumption | intro _ | apply State.Inv.ite_same | apply State.trigger_inv | apply State.modRx_inv
        | apply State.modDsp_inv)
    | split | dsimp only | (with_reducible refine State.Inv.of_mk (s := ?_) ?_ ?_)
    | exact State.Inv.acc (by with_reducible assumption)

theorem State.taskMissed_inv (s : State) (e : Fin 128) (task : Nat) (halted : Bool) (hs : s.Inv) : (State.taskMissed s e task halted).Inv := by
  unfold State.taskMissed
  try dsimp only
  repeat' first
    | (with_reducible first
        | assumption | intro _ | apply State.bump_inv | apply State.modEng_inv | apply State.jobDone_inv
        | apply State.putBack_inv | apply State.missOutcome_inv)
    | (with_reducible apply forEach_inv; rotate_left) | dsimp only | (with_reducible refine State.Inv.of_mk (s := ?_) ?_ ?_)
    | exact State.Inv.acc (by with_reducible assumption)

theorem State.engHaltNow_inv (s : State) (e : Fin 128) (hs : s.Inv) : (State.engHaltNow s e).Inv := by
  unfold State.engHaltNow
  try dsimp only
  repeat' first
    | (with_reducible first
        | assumption | intro _ | apply State.setReg_inv | apply State.taskMissed_inv)
    | (with_reducible apply forEach_inv; rotate_left) | dsimp only

theorem State.serviceMove_inv (s : State) (t : Fin 4) (hs : s.Inv) : (State.serviceMove s t).Inv := by
  unfold State.serviceMove
  try dsimp only
  repeat' first
    | (with_reducible first
        | assumption | intro _)
    | dsimp only | (with_reducible refine State.Inv.of_mk (s := ?_) ?_ ?_)
    | exact State.Inv.acc (by with_reducible assumption)

theorem State.serviceVotes_inv (s : State) (hs : s.Inv) : (State.serviceVotes s).Inv := by
  unfold State.serviceVotes
  try dsimp only
  repeat' first
    | (with_reducible first
        | assumption | intro _ | apply State.Inv.ite_same | apply State.castVote_inv | apply State.withdraw_inv)
    | (with_reducible apply forEach_inv; rotate_left) | split | dsimp only

theorem State.workLost_inv (s : State) (e : Fin 128) (cls who : Nat) (hs : s.Inv) : (State.workLost s e cls who).Inv := by
  unfold State.workLost
  try dsimp only
  repeat' first
    | (with_reducible first
        | assumption | intro _ | apply State.raise_inv)

theorem State.engGone_inv (s : State) (e : Fin 128) (hs : s.Inv) : (State.engGone s e).Inv := by
  unfold State.engGone
  try dsimp only
  repeat' first
    | (with_reducible first
        | assumption | intro _ | apply State.Inv.ite_same | apply State.serviceMove_inv | apply State.serviceVotes_inv
        | apply State.workLost_inv)
    | (with_reducible apply forEach_inv; rotate_left) | split | dsimp only

theorem State.serviceHome_inv (s : State) (e : Fin 128) (hs : s.Inv) : (State.serviceHome s e).Inv := by
  unfold State.serviceHome
  try dsimp only
  repeat' first
    | (with_reducible first
        | assumption | intro _ | apply State.serviceMove_inv | apply State.serviceVotes_inv)
    | (with_reducible apply forEach_inv; rotate_left) | split | dsimp only
    | (with_reducible refine State.Inv.of_mk (s := ?_) ?_ ?_) | exact State.Inv.acc (by with_reducible assumption)

theorem State.engAccess_inv (s : State) (e : Fin 128) (memory : Bool) (offset : Nat) (hs : s.Inv) : (State.engAccess s e memory offset).Inv := by
  unfold State.engAccess
  try dsimp only
  repeat' first
    | (with_reducible first
        | assumption | intro _ | apply State.Inv.ite_same | apply State.raise_inv | apply State.modEng_inv
        | apply State.engHaltNow_inv | apply State.engGone_inv)
    | split | dsimp only | (with_reducible refine State.Inv.of_mk (s := ?_) ?_ ?_)
    | exact State.Inv.acc (by with_reducible assumption)

theorem ownEngRestart_inv (sub : Nat) (s : State) (hs : s.Inv) : (ownEngRestart sub s).Inv := by
  unfold ownEngRestart
  try dsimp only
  repeat' first
    | (with_reducible first
        | assumption | intro _ | apply State.Inv.ite_same | apply State.setReg_inv | apply Verdict.inv_deny
        | apply Verdict.inv_done)
    | split | dsimp only

theorem State.pmuZero_inv (s : State) (e : Fin 128) (hs : s.Inv) : (State.pmuZero s e).Inv := by
  unfold State.pmuZero
  try dsimp only
  repeat' first
    | (with_reducible first
        | assumption | intro _ | apply State.setReg_inv | apply State.setBlob_inv)

theorem ownPmuClear_inv (v : Int) (s : State) (hs : s.Inv) : (ownPmuClear v s).Inv := by
  unfold ownPmuClear
  try dsimp only
  repeat' first
    | (with_reducible first
        | assumption | intro _ | apply State.Inv.ite_same | apply State.pmuZero_inv | apply Verdict.inv_deny
        | apply Verdict.inv_done)
    | (with_reducible apply forEach_inv; rotate_left) | split | dsimp only

theorem ownPmuFreeze_inv (v : Int) (s : State) (hs : s.Inv) : (ownPmuFreeze v s).Inv := by
  unfold ownPmuFreeze
  try dsimp only
  repeat' first
    | (with_reducible first
        | assumption | intro _ | apply storeVal_inv)

theorem ownOvfStatus_inv (sub : Nat) (v : Int) (s : State) (hs : s.Inv) : (ownOvfStatus sub v s).Inv := by
  unfold ownOvfStatus
  try dsimp only
  repeat' first
    | (with_reducible first
        | assumption | intro _ | apply storeVal_inv)

theorem ownPmuSample_inv (sub : Nat) (s : State) (hs : s.Inv) : (ownPmuSample sub s).Inv := by
  unfold ownPmuSample
  try dsimp only
  repeat' first
    | (with_reducible first
        | assumption | intro _ | apply State.Inv.ite_same | apply State.setReg_inv | apply State.modEng_inv
        | apply Verdict.inv_deny | apply Verdict.inv_done)
    | split | dsimp only | (with_reducible refine State.Inv.of_mk (s := ?_) ?_ ?_)
    | exact State.Inv.acc (by with_reducible assumption)

theorem ownPmuSel_inv (sub : Nat) (b : List Byte) (s : State) (hs : s.Inv) : (ownPmuSel sub b s).Inv := by
  unfold ownPmuSel
  try dsimp only
  repeat' first
    | (with_reducible first
        | assumption | intro _ | apply State.Inv.ite_same | apply State.setBlob_inv | apply Verdict.inv_deny
        | apply Verdict.inv_done)
    | split | dsimp only

theorem ownPmuCount_inv (sub : Nat) (b : List Byte) (s : State) (hs : s.Inv) : (ownPmuCount sub b s).Inv := by
  unfold ownPmuCount
  try dsimp only
  repeat' first
    | (with_reducible first
        | assumption | intro _ | apply State.Inv.ite_same | apply State.setBlob_inv | apply Verdict.inv_deny
        | apply Verdict.inv_done)
    | split | dsimp only

theorem State.engStop_inv (s : State) (n : Fin 8) (hs : s.Inv) : (State.engStop s n).Inv := by
  unfold State.engStop
  try dsimp only
  repeat' first
    | (with_reducible first
        | assumption | intro _ | apply State.setReg_inv | apply State.taskMissed_inv)
    | (with_reducible apply forEach_inv; rotate_left) | dsimp only

theorem State.engOn_inv (s : State) (n : Fin 8) (cold : Bool) (hs : s.Inv) : (State.engOn s n cold).Inv := by
  unfold State.engOn
  try dsimp only
  repeat' first
    | (with_reducible first
        | assumption | intro _ | apply State.Inv.ite_same | apply State.setReg_inv | apply State.clearObjs_inv
        | apply State.modEng_inv | apply State.serviceHome_inv)
    | (with_reducible apply forEach_inv; rotate_left) | split | dsimp only

theorem State.engTick_inv (s : State) (hs : s.Inv) : (State.engTick s).Inv := by
  unfold State.engTick
  try dsimp only
  repeat' first
    | (with_reducible first
        | assumption | intro _ | apply State.Inv.ite_same | apply State.setReg_inv | apply State.modEng_inv
        | apply State.trigger_inv)
    | (with_reducible apply forEach_inv; rotate_left) | split | dsimp only
    | (with_reducible refine State.Inv.of_mk (s := ?_) ?_ ?_) | exact State.Inv.acc (by with_reducible assumption)

theorem State.tickUndo_inv (s old : State) (hs : s.Inv) (hold : old.Inv) : (State.tickUndo s old).Inv := by
  unfold State.tickUndo
  try dsimp only
  repeat' first
    | (with_reducible first
        | assumption | intro _ | apply State.Inv.ite_same | apply State.noteUndo_inv)
    | (with_reducible apply forEach_inv; rotate_left) | split | dsimp only

theorem State.modFab_inv (s : State) (f : Fabric → Fabric) (hs : s.Inv) : (State.modFab s f).Inv := by
  unfold State.modFab
  try dsimp only
  repeat' first
    | (with_reducible first
        | assumption | intro _)
    | dsimp only | (with_reducible refine State.Inv.of_mk (s := ?_) ?_ ?_)
    | exact State.Inv.acc (by with_reducible assumption)

theorem State.modFabLane_inv (s : State) (l : Fin 8) (f : FabLane → FabLane) (hs : s.Inv) : (State.modFabLane s l f).Inv := by
  unfold State.modFabLane
  try dsimp only
  repeat' first
    | (with_reducible first
        | assumption | intro _ | apply State.modFab_inv)
    | dsimp only | (with_reducible refine State.Inv.of_mk (s := ?_) ?_ ?_)
    | exact State.Inv.acc (by with_reducible assumption)

theorem State.fillFigures_inv (s : State) (l : Fin 8) (m : FabricMeas) (hs : s.Inv) : (State.fillFigures s l m).1.Inv := by
  unfold State.fillFigures
  try dsimp only
  repeat' first
    | (with_reducible first
        | assumption | intro _ | apply State.setReg_inv)
    | (with_reducible apply forEach_inv; rotate_left) | dsimp only

theorem State.canaries_inv (s : State) (l : Fin 8) (bad : List Nat) (hs : s.Inv) : (State.canaries s l bad).Inv := by
  unfold State.canaries
  try dsimp only
  repeat' first
    | (with_reducible first
        | assumption | intro _ | apply State.setReg_inv | apply State.record_inv | apply State.modFab_inv)
    | (with_reducible apply forEach_inv; rotate_left) | dsimp only | (with_reducible refine State.Inv.of_mk (s := ?_) ?_ ?_)
    | exact State.Inv.acc (by with_reducible assumption)

theorem State.filterRestart_inv (s : State) (l : Fin 8) (hs : s.Inv) : (State.filterRestart s l).Inv := by
  unfold State.filterRestart
  try dsimp only
  repeat' first
    | (with_reducible first
        | assumption | intro _ | apply State.setReg_inv | apply State.modFabLane_inv)
    | dsimp only | (with_reducible refine State.Inv.of_mk (s := ?_) ?_ ?_)
    | exact State.Inv.acc (by with_reducible assumption)

theorem State.fabricWake_inv (s : State) (d : Fin 36) (hs : s.Inv) : (State.fabricWake s d).Inv := by
  unfold State.fabricWake
  try dsimp only
  repeat' first
    | (with_reducible first
        | assumption | intro _ | apply State.filterRestart_inv)
    | (with_reducible apply forEach_inv; rotate_left) | dsimp only

theorem State.fabricLeave_inv (s : State) (d : Fin 36) (off : Bool) (hs : s.Inv) : (State.fabricLeave s d off).Inv := by
  unfold State.fabricLeave
  try dsimp only
  repeat' first
    | (with_reducible first
        | assumption | intro _ | apply State.Inv.ite_same | apply State.setReg_inv | apply State.laneMeasures_inv
        | apply State.modFab_inv | apply State.filterRestart_inv)
    | (with_reducible apply forEach_inv; rotate_left) | split | dsimp only
    | (with_reducible refine State.Inv.of_mk (s := ?_) ?_ ?_) | exact State.Inv.acc (by with_reducible assumption)

theorem ownFabricClearMin_inv (s : State) (hs : s.Inv) : (ownFabricClearMin s).Inv := by
  unfold ownFabricClearMin
  try dsimp only
  repeat' first
    | (with_reducible first
        | assumption | intro _ | apply State.setAll_inv | apply Verdict.inv_done)

theorem State.avsUpdate_inv (s : State) (hs : s.Inv) : (State.avsUpdate s).Inv := by
  unfold State.avsUpdate
  try dsimp only
  repeat' first
    | (with_reducible first
        | assumption | intro _ | apply State.Inv.ite_same | apply State.castVote_inv | apply State.withdraw_inv)
    | split | dsimp only | (with_reducible refine State.Inv.of_mk (s := ?_) ?_ ?_)
    | exact State.Inv.acc (by with_reducible assumption)

theorem State.marginRaise_inv (s : State) (hs : s.Inv) : (State.marginRaise s).Inv := by
  unfold State.marginRaise
  try dsimp only
  repeat' first
    | (with_reducible first
        | assumption | intro _ | apply State.Inv.ite_same | apply State.setReg_inv | apply State.modFab_inv
        | apply State.avsUpdate_inv)
    | split | dsimp only | (with_reducible refine State.Inv.of_mk (s := ?_) ?_ ?_)
    | exact State.Inv.acc (by with_reducible assumption)

theorem State.shedTick_inv (s : State) (p : Fin 8) (hs : s.Inv) : (State.shedTick s p).Inv := by
  unfold State.shedTick
  try dsimp only
  repeat' first
    | (with_reducible first
        | assumption | intro _ | apply State.Inv.ite_same | apply State.setReg_inv | apply State.record_inv
        | apply State.laneMeasures_inv | apply State.modFab_inv)
    | split | dsimp only | (with_reducible refine State.Inv.of_mk (s := ?_) ?_ ?_)
    | exact State.Inv.acc (by with_reducible assumption)

theorem State.decodePower_inv (s : State) (p : Fin 8) (hs : s.Inv) : (State.decodePower s p).Inv := by
  unfold State.decodePower
  try dsimp only
  repeat' first
    | (with_reducible first
        | assumption | intro _ | apply State.Inv.ite_same | apply State.setReg_inv)
    | split | dsimp only

theorem State.fabricTick_inv (s : State) (hs : s.Inv) : (State.fabricTick s).Inv := by
  unfold State.fabricTick
  try dsimp only
  repeat' first
    | (with_reducible first
        | assumption | intro _ | apply State.Inv.ite_same | apply State.setReg_inv | apply State.modFab_inv
        | apply State.marginRaise_inv | apply State.shedTick_inv | apply State.decodePower_inv)
    | (with_reducible apply forEach_inv; rotate_left) | split | dsimp only
    | (with_reducible refine State.Inv.of_mk (s := ?_) ?_ ?_) | exact State.Inv.acc (by with_reducible assumption)

theorem State.poolPace_inv (s : State) (h : Fin 2) (speed : Nat) (hs : s.Inv) : (State.poolPace s h speed).Inv := by
  unfold State.poolPace
  try dsimp only
  repeat' first
    | (with_reducible first
        | assumption | intro _ | apply State.Inv.ite_same | apply State.setReg_inv)
    | split | dsimp only

theorem State.modTherm_inv (s : State) (f : Thermal → Thermal) (hs : s.Inv) : (State.modTherm s f).Inv := by
  unfold State.modTherm
  try dsimp only
  repeat' first
    | (with_reducible first
        | assumption | intro _)
    | dsimp only | (with_reducible refine State.Inv.of_mk (s := ?_) ?_ ?_)
    | exact State.Inv.acc (by with_reducible assumption)

theorem State.ageTake_inv (s : State) (hs : s.Inv) : (State.ageTake s).Inv := by
  unfold State.ageTake
  try dsimp only
  repeat' first
    | (with_reducible first
        | assumption | intro _ | apply State.Inv.ite_same | apply State.modTherm_inv)
    | split | dsimp only | (with_reducible refine State.Inv.of_mk (s := ?_) ?_ ?_)
    | exact State.Inv.acc (by with_reducible assumption)

theorem State.monTick_inv (s : State) (raw : Vector (Option Int) 32) (hs : s.Inv) : (State.monTick s raw).Inv := by
  unfold State.monTick
  try dsimp only
  repeat' first
    | (with_reducible first
        | assumption | intro _ | apply State.Inv.ite_same | apply State.setReg_inv | apply State.raise_inv
        | apply State.modTherm_inv)
    | (with_reducible apply forEach_inv; rotate_left) | split | dsimp only
    | (with_reducible refine State.Inv.of_mk (s := ?_) ?_ ?_) | exact State.Inv.acc (by with_reducible assumption)

theorem State.stepApply_inv (s : State) (hs : s.Inv) : (State.stepApply s).Inv := by
  unfold State.stepApply
  try dsimp only
  repeat' first
    | (with_reducible first
        | assumption | intro _ | apply State.Inv.ite_same | apply State.setReg_inv | apply State.setAll_inv
        | apply State.laneMeasures_inv)
    | (with_reducible apply forEach_inv; rotate_left) | split | dsimp only

theorem State.tempStep_inv (s : State) (n : Nat) (hs : s.Inv) : (State.tempStep s n).Inv := by
  unfold State.tempStep
  try dsimp only
  repeat' first
    | (with_reducible first
        | assumption | intro _ | apply State.Inv.ite_same | apply State.raise_inv | apply State.modTherm_inv
        | apply State.stepApply_inv)
    | split | dsimp only | (with_reducible refine State.Inv.of_mk (s := ?_) ?_ ?_)
    | exact State.Inv.acc (by with_reducible assumption)

theorem State.thresholds_inv (s : State) (tj : Int) (hs : s.Inv) : (State.thresholds s tj).Inv := by
  unfold State.thresholds
  try dsimp only
  repeat' first
    | (with_reducible first
        | assumption | intro _ | apply State.Inv.ite_same | apply State.raise_inv | apply State.modTherm_inv
        | apply State.tempStep_inv)
    | split | dsimp only | (with_reducible refine State.Inv.of_mk (s := ?_) ?_ ?_)
    | exact State.Inv.acc (by with_reducible assumption)

theorem State.setBand_inv (s : State) (b : Nat) (hs : s.Inv) : (State.setBand s b).Inv := by
  unfold State.setBand
  try dsimp only
  repeat' first
    | (with_reducible first
        | assumption | intro _ | apply State.Inv.ite_same | apply State.setReg_inv | apply State.waveRetarget_inv
        | apply State.recalBand_inv | apply State.avsUpdate_inv)
    | (with_reducible apply forEach_inv; rotate_left) | split | dsimp only

theorem State.thermalTick_inv (s : State) (raw : Vector (Option Int) 32) (hs : s.Inv) : (State.thermalTick s raw).Inv := by
  unfold State.thermalTick
  try dsimp only
  repeat' first
    | (with_reducible first
        | assumption | intro _ | apply State.Inv.ite_same | apply State.setReg_inv | apply State.raise_inv
        | apply State.avsUpdate_inv | apply State.modTherm_inv | apply State.monTick_inv | apply State.stepApply_inv
        | apply State.thresholds_inv | apply State.setBand_inv)
    | split | dsimp only | (with_reducible refine State.Inv.of_mk (s := ?_) ?_ ?_)
    | exact State.Inv.acc (by with_reducible assumption)

theorem State.avsTick_inv (s : State) (vdd : Nat) (hs : s.Inv) : (State.avsTick s vdd).Inv := by
  unfold State.avsTick
  try dsimp only
  repeat' first
    | (with_reducible first
        | assumption | intro _ | apply State.Inv.ite_same | apply State.setReg_inv | apply State.raise_inv)
    | split | dsimp only | (with_reducible refine State.Inv.of_mk (s := ?_) ?_ ?_)
    | exact State.Inv.acc (by with_reducible assumption)

theorem ownClearPeak_inv (s : State) (hs : s.Inv) : (ownClearPeak s).Inv := by
  unfold ownClearPeak
  try dsimp only
  repeat' first
    | (with_reducible first
        | assumption | intro _ | apply State.setReg_inv | apply Verdict.inv_done)

theorem State.analogVotes_inv (s : State) (hs : s.Inv) : (State.analogVotes s).Inv := by
  unfold State.analogVotes
  try dsimp only
  repeat' first
    | (with_reducible first
        | assumption | intro _ | apply State.Inv.ite_same | apply State.castVote_inv | apply State.withdraw_inv)
    | (with_reducible apply forEach_inv; rotate_left) | split | dsimp only

theorem State.analogSet_inv (s : State) (i : Nat) (res : Int) (hs : s.Inv) : (State.analogSet s i res).Inv := by
  unfold State.analogSet
  try dsimp only
  repeat' first
    | (with_reducible first
        | assumption | intro _ | apply State.setReg_inv | apply State.setStamp_inv)

theorem State.modAnalog_inv (s : State) (f : AnalogRun → AnalogRun) (hs : s.Inv) : (State.modAnalog s f).Inv := by
  unfold State.modAnalog
  try dsimp only
  repeat' first
    | (with_reducible first
        | assumption | intro _)
    | dsimp only | (with_reducible refine State.Inv.of_mk (s := ?_) ?_ ?_)
    | exact State.Inv.acc (by with_reducible assumption)

theorem State.analogCal_inv (s : State) (l : Fin 8) (hs : s.Inv) : (State.analogCal s l).Inv := by
  unfold State.analogCal
  try dsimp only
  repeat' first
    | (with_reducible first
        | assumption | intro _ | apply State.Inv.ite_same | apply State.txCalibrate_inv | apply State.fgStart_inv)
    | split | dsimp only

theorem State.analogStart_inv (s : State) (i : Nat) (hs : s.Inv) : (State.analogStart s i).Inv := by
  unfold State.analogStart
  try dsimp only
  repeat' first
    | (with_reducible first
        | assumption | intro _ | apply State.setReg_inv | apply State.analogVotes_inv | apply State.modAnalog_inv
        | apply State.analogCal_inv)
    | split | dsimp only | (with_reducible refine State.Inv.of_mk (s := ?_) ?_ ?_)
    | exact State.Inv.acc (by with_reducible assumption)

theorem State.analogWave_inv (s : State) (half : Nat) (hs : s.Inv) : (State.analogWave s half).Inv := by
  unfold State.analogWave
  try dsimp only
  repeat' first
    | (with_reducible first
        | assumption | intro _ | apply State.Inv.ite_same | apply State.analogSet_inv | apply State.modAnalog_inv
        | apply State.analogStart_inv)
    | (with_reducible apply forEach_inv; rotate_left) | split | dsimp only
    | (with_reducible refine State.Inv.of_mk (s := ?_) ?_ ?_) | exact State.Inv.acc (by with_reducible assumption)

theorem State.analogNext_inv (s : State) (hs : s.Inv) : (State.analogNext s).Inv := by
  unfold State.analogNext
  try dsimp only
  repeat' first
    | (with_reducible first
        | assumption | intro _ | apply State.Inv.ite_same | apply State.finish_inv | apply State.analogVotes_inv
        | apply State.analogWave_inv)
    | split | dsimp only

theorem State.analogAbort_inv (s : State) (hit : Nat → Bool) (hs : s.Inv) : (State.analogAbort s hit).Inv := by
  unfold State.analogAbort
  try dsimp only
  repeat' first
    | (with_reducible first
        | assumption | intro _ | apply State.Inv.ite_same | apply State.analogSet_inv | apply State.modAnalog_inv
        | apply State.analogNext_inv)
    | (with_reducible apply forEach_inv; rotate_left) | split | dsimp only

theorem ownVote_inv (c : Nat) (path : Path) (sub : Nat) (v : Int) (s : State) (hs : s.Inv) : (ownVote c path sub v s).Inv := by
  unfold ownVote
  by_cases h : 1 ≤ sub ∧ sub ≤ 36
  · rw [dif_pos h]
    repeat' first
      | apply Verdict.inv_ite
      | exact Verdict.inv_deny _
      | exact Verdict.inv_done hs
      | exact Verdict.inv_done (State.castVote_inv _ _ _ hs)
      | exact Verdict.inv_done (State.dsCheck_inv _ _ hs (State.withdraw_inv _ _ _ _ hs))
      | exact Verdict.inv_later (State.dsCheck_inv _ _ hs (State.withdraw_inv _ _ _ _ hs))
  · rw [dif_neg h]
    exact Verdict.inv_deny _

theorem State.synthStop_inv (s : State) (h : Fin 2) (hs : s.Inv) : (State.synthStop s h).Inv := by
  unfold State.synthStop
  try dsimp only
  repeat' first
    | (with_reducible first
        | assumption | intro _ | apply State.modSynth_inv | apply State.synthLost_inv | apply State.tlLight_inv)
    | (with_reducible apply forEach_inv; rotate_left) | dsimp only | (with_reducible refine State.Inv.of_mk (s := ?_) ?_ ?_)
    | exact State.Inv.acc (by with_reducible assumption)

theorem State.linkStop_inv (s : State) (h : Fin 2) (hs : s.Inv) : (State.linkStop s h).Inv := by
  unfold State.linkStop
  try dsimp only
  repeat' first
    | (with_reducible first
        | assumption | intro _ | apply State.modInst_inv | apply State.modLink_inv | apply State.linkRest_inv)
    | (with_reducible apply forEach_inv; rotate_left) | dsimp only | (with_reducible refine State.Inv.of_mk (s := ?_) ?_ ?_)
    | exact State.Inv.acc (by with_reducible assumption)

theorem State.capLose_inv (s : State) (hs : s.Inv) : (State.capLose s).Inv := by
  unfold State.capLose
  try dsimp only
  repeat' first
    | (with_reducible first
        | assumption | intro _ | apply State.Inv.ite_same)
    | split | dsimp only | (with_reducible refine State.Inv.of_mk (s := ?_) ?_ ?_)
    | exact State.Inv.acc (by with_reducible assumption)

theorem State.domStop_inv (s : State) (d : Fin 36) (hs : s.Inv) : (State.domStop s d).Inv := by
  unfold State.domStop
  try dsimp only
  repeat' first
    | (with_reducible first
        | assumption | intro _ | apply State.Inv.ite_same | apply State.hkStop_inv | apply State.txStop_inv
        | apply State.adcStop_inv | apply State.rxIdle_inv | apply State.fecStop_inv | apply State.hostStop_inv
        | apply State.dsStop_inv | apply State.engStop_inv | apply State.synthStop_inv | apply State.linkStop_inv
        | apply State.capLose_inv)
    | (with_reducible apply forEach_inv; rotate_left) | split | dsimp only

theorem State.domClear_inv (s : State) (d : Fin 36) (hs : s.Inv) : (State.domClear s d).Inv := by
  unfold State.domClear
  try dsimp only
  repeat' first
    | (with_reducible first
        | assumption | intro _ | apply State.Inv.ite_same | apply State.clearObjs_inv)
    | split | dsimp only | (with_reducible refine State.Inv.of_mk (s := ?_) ?_ ?_)
    | exact State.Inv.acc (by with_reducible assumption)

theorem State.txCold_inv (s : State) (l : Fin 8) (hs : s.Inv) : (State.txCold s l).Inv := by
  unfold State.txCold
  try dsimp only
  repeat' first
    | (with_reducible first
        | assumption | intro _ | apply State.setReg_inv | apply State.modTx_inv | apply State.apcHold_inv)
    | dsimp only | (with_reducible refine State.Inv.of_mk (s := ?_) ?_ ?_)
    | exact State.Inv.acc (by with_reducible assumption)

theorem State.mgtCold_inv (s : State) (hs : s.Inv) : (State.mgtCold s).Inv := by
  unfold State.mgtCold
  try dsimp only
  repeat' first
    | (with_reducible first
        | assumption | intro _)
    | dsimp only | (with_reducible refine State.Inv.of_mk (s := ?_) ?_ ?_)
    | exact State.Inv.acc (by with_reducible assumption)

theorem State.synthStart_inv (s : State) (h : Fin 2) (hs : s.Inv) : (State.synthStart s h).Inv := by
  unfold State.synthStart
  try dsimp only
  repeat' first
    | (with_reducible first
        | assumption | intro _ | apply State.modSynth_inv)
    | dsimp only

theorem State.domCold_inv (s : State) (d : Fin 36) (hs : s.Inv) : (State.domCold s d).Inv := by
  unfold State.domCold
  try dsimp only
  repeat' first
    | (with_reducible first
        | assumption | intro _ | apply State.Inv.ite_same | apply State.hkCold_inv | apply State.adcSeed_inv
        | apply State.adcCold_inv | apply State.modRx_inv | apply State.fecCold_inv | apply State.hostOn_inv
        | apply State.dsOn_inv | apply State.engOn_inv | apply State.domClear_inv | apply State.txCold_inv
        | apply State.mgtCold_inv | apply State.synthStart_inv)
    | (with_reducible apply forEach_inv; rotate_left) | split | dsimp only

theorem State.domWarm_inv (s : State) (d : Fin 36) (hs : s.Inv) : (State.domWarm s d).Inv := by
  unfold State.domWarm
  try dsimp only
  repeat' first
    | (with_reducible first
        | assumption | intro _ | apply State.Inv.ite_same | apply State.hkWake_inv | apply State.adcWarm_inv
        | apply State.hostOn_inv | apply State.dsOn_inv | apply State.engOn_inv | apply State.synthStart_inv)
    | (with_reducible apply forEach_inv; rotate_left) | split | dsimp only

theorem State.portsSettle_inv (s : State) (hs : s.Inv) : (State.portsSettle s).Inv := by
  unfold State.portsSettle
  try dsimp only
  repeat' first
    | (with_reducible first
        | assumption | intro _ | apply State.portSettle_inv)
    | (with_reducible apply forEach_inv; rotate_left) | dsimp only

theorem State.retLost_inv (s : State) (d : Fin 36) (bank : Nat) (hs : s.Inv) : (State.retLost s d bank).Inv := by
  unfold State.retLost
  try dsimp only
  repeat' first
    | (with_reducible first
        | assumption | intro _ | apply State.bump_inv | apply State.raise_inv)

theorem State.flashErase_inv (s : State) (a n : Nat) (hs : s.Inv) : (s.flashErase a n).Inv :=
  ⟨hs.regs, hs.blobs, hs.savedRegs, hs.savedBlobs, Store.wf_filter _ _ _ hs.flash, hs.acc⟩

theorem State.flashWrite_inv (s : State) (a : Nat) (bs : List Byte) (hs : s.Inv) : (s.flashWrite a bs).Inv := by
  have key : ∀ (bs : List Byte) (x : Store Byte × Nat), x.1.wf flashDefault = true →
      ((bs.foldl (fun (x : Store Byte × Nat) b => (x.1.put flashDefault x.2 b, x.2 + 1)) x).1).wf flashDefault = true := by
    intro bs
    induction bs with
    | nil => intro x h; exact h
    | cons b bs ih => intro x h; exact ih _ (Store.wf_put _ _ _ _ h)
  exact ⟨hs.regs, hs.blobs, hs.savedRegs, hs.savedBlobs, key bs (s.flash, a) hs.flash, hs.acc⟩

theorem State.freshBytes_inv (s : State) (n : Nat) (hs : s.Inv) : (State.freshBytes s n).1.Inv := by
  unfold State.freshBytes
  try dsimp only
  repeat' first
    | (with_reducible first
        | assumption | intro _)
    | dsimp only | (with_reducible refine State.Inv.of_mk (s := ?_) ?_ ?_)
    | exact State.Inv.acc (by with_reducible assumption)

theorem State.flashFail_inv (s : State) (part a : Nat) (hs : s.Inv) : (State.flashFail s part a).Inv := by
  unfold State.flashFail
  try dsimp only
  repeat' first
    | (with_reducible first
        | assumption | intro _ | apply State.raise_inv)

theorem State.journalShow_inv (s : State) (hs : s.Inv) : (State.journalShow s).Inv := by
  unfold State.journalShow
  try dsimp only
  repeat' first
    | (with_reducible first
        | assumption | intro _ | apply State.setReg_inv)
    | split | dsimp only

theorem State.journalWrite_inv (s : State) (kind run block version : Nat) (id : List Byte) (hs : s.Inv) : (State.journalWrite s kind run block version id).Inv := by
  unfold State.journalWrite
  try dsimp only
  repeat' first
    | (with_reducible first
        | assumption | intro _ | apply State.Inv.ite_same | apply State.flashErase_inv | apply State.flashWrite_inv
        | apply State.journalShow_inv)
    | split | dsimp only

theorem State.journalFollow_inv (s : State) (kind run block : Nat) (hs : s.Inv) : (State.journalFollow s kind run block).Inv := by
  unfold State.journalFollow
  try dsimp only
  repeat' first
    | (with_reducible first
        | assumption | intro _ | apply State.journalWrite_inv)
    | split | dsimp only

theorem State.modUpd_inv (s : State) (f : Update → Update) (hs : s.Inv) : (State.modUpd s f).Inv := by
  unfold State.modUpd
  try dsimp only
  repeat' first
    | (with_reducible first
        | assumption | intro _)
    | dsimp only | (with_reducible refine State.Inv.of_mk (s := ?_) ?_ ?_)
    | exact State.Inv.acc (by with_reducible assumption)

theorem State.updateVotes_inv (s : State) (hs : s.Inv) : (State.updateVotes s).Inv := by
  unfold State.updateVotes
  try dsimp only
  repeat' first
    | (with_reducible first
        | assumption | intro _ | apply State.Inv.ite_same | apply State.castVote_inv | apply State.withdraw_inv)
    | split | dsimp only

theorem State.sessionEnd_inv (s : State) (hs : s.Inv) : (State.sessionEnd s).Inv := by
  unfold State.sessionEnd
  try dsimp only
  repeat' first
    | (with_reducible first
        | assumption | intro _ | apply State.Inv.ite_same | apply State.setReg_inv | apply State.flashErase_inv
        | apply State.modUpd_inv | apply State.updateVotes_inv)
    | split | dsimp only | (with_reducible refine State.Inv.of_mk (s := ?_) ?_ ?_)
    | exact State.Inv.acc (by with_reducible assumption)

theorem State.portBlocked_inv (s : State) (p : Fin 8) (d : Fin 36) (hs : s.Inv) : (State.portBlocked s p d).Inv := by
  unfold State.portBlocked
  try dsimp only
  repeat' first
    | (with_reducible first
        | assumption | intro _ | apply State.Inv.ite_same | apply State.setReg_inv | apply State.finish_inv
        | apply State.modPort_inv | apply State.portDown_inv | apply State.testQuiet_inv | apply State.portOff_inv
        | apply State.testOver_inv | apply State.rateEnd_inv | apply State.portRestart_inv | apply State.portSettle_inv)
    | split | dsimp only | (with_reducible refine State.Inv.of_mk (s := ?_) ?_ ?_)
    | exact State.Inv.acc (by with_reducible assumption)

theorem State.blockReset_inv (s : State) (d : Fin 36) (hs : s.Inv) : (State.blockReset s d).Inv := by
  unfold State.blockReset
  try dsimp only
  repeat' first
    | (with_reducible first
        | assumption | intro _ | apply State.Inv.ite_same | apply State.modDom_inv | apply State.setPwr_inv
        | apply State.answerVotes_inv | apply State.startWake_inv | apply State.fixedDown_inv | apply State.fabricLeave_inv
        | apply State.analogAbort_inv | apply State.domStop_inv | apply State.portBlocked_inv)
    | (with_reducible apply forEach_inv; rotate_left) | split | dsimp only
    | (with_reducible refine State.Inv.of_mk (s := ?_) ?_ ?_) | exact State.Inv.acc (by with_reducible assumption)

theorem State.domsOff_inv (s : State) (hs : s.Inv) : (State.domsOff s).Inv := by
  unfold State.domsOff
  try dsimp only
  repeat' first
    | (with_reducible first
        | assumption | intro _ | apply State.Inv.ite_same | apply State.setReg_inv | apply State.modDom_inv
        | apply State.account_inv | apply State.setPwr_inv)
    | (with_reducible apply forEach_inv; rotate_left) | split | dsimp only

theorem State.chipReset_inv (s : State) (cause : Int) (hs : s.Inv) : (s.chipReset cause).Inv := by
  unfold State.chipReset
  extract_lets s0 s1 t src s2 s3 s4
  have h0 : s0.Inv := by
    show State.Inv (if _ then _ else _)
    split
    · exact State.flashErase_inv _ _ _ hs
    · exact hs
  have h1 : s1.Inv := by
    show State.Inv (State.domsOff (State.clearObjs s0 _))
    exact State.domsOff_inv _ (State.clearObjs_inv _ _ h0)
  have h2 : s2.Inv := by
    clear_value s1
    exact ⟨h1.regs, h1.blobs, hs.savedRegs, hs.savedBlobs, h1.flash, h1.acc⟩
  clear_value s2
  have h3 : s3.Inv := State.bump_inv _ _ _ _ (State.setReg_inv _ _ _ _ (State.setReg_inv _ _ _ _ h2))
  clear_value s3
  exact State.setReg_inv _ _ _ _ (State.setReg_inv _ _ _ _ (State.setReg_inv _ _ _ _ h3))

theorem State.fresh0_inv (s : State) (hs : s.Inv) : (s.fresh0).Inv := by
  have h0 : ((if s.reg Ob.UPDATE_SESSION 0 = 1 then (s.flashErase Part.STAGING 65536).flash else s.flash).wf flashDefault) = true := by
    split
    · exact (State.flashErase_inv _ _ _ hs).flash
    · exact hs.flash
  exact ⟨rfl, rfl, rfl, rfl, h0, by show (0 : Nat) < 2 ^ 128; decide⟩

theorem State.stepTwo_inv (s : State) (hs : s.Inv) : (State.stepTwo s).Inv := by
  unfold State.stepTwo
  try dsimp only
  repeat' first
    | (with_reducible first
        | assumption | intro _ | apply State.setReg_inv | apply State.bump_inv)

theorem ownChipReset_inv (s : State) (hs : s.Inv) : (ownChipReset s).Inv := by
  unfold ownChipReset
  try dsimp only
  repeat' first
    | (with_reducible first
        | assumption | intro _ | apply State.orderChip_inv | apply Verdict.inv_done)

theorem State.portSafe_inv (s : State) (p : Fin 8) (hs : s.Inv) : (State.portSafe s p).Inv := by
  unfold State.portSafe
  try dsimp only
  repeat' first
    | (with_reducible first
        | assumption | intro _ | apply State.setReg_inv | apply State.finish_inv | apply State.modPort_inv
        | apply State.portOff_inv | apply State.testOver_inv | apply State.rateEnd_inv)
    | dsimp only

theorem State.answerAll_inv (s : State) (st : Nat) (hs : s.Inv) : (State.answerAll s st).Inv := by
  unfold State.answerAll
  try dsimp only
  repeat' first
    | (with_reducible first
        | assumption | intro _ | apply State.reply_inv)
    | (with_reducible apply forEach_inv; rotate_left) | dsimp only | (with_reducible refine State.Inv.of_mk (s := ?_) ?_ ?_)
    | exact State.Inv.acc (by with_reducible assumption)

theorem State.sessionsEnd_inv (s : State) (hs : s.Inv) : (State.sessionsEnd s).Inv := by
  unfold State.sessionsEnd
  try dsimp only
  repeat' first
    | (with_reducible first
        | assumption | intro _)
    | dsimp only | (with_reducible refine State.Inv.of_mk (s := ?_) ?_ ?_)
    | exact State.Inv.acc (by with_reducible assumption)

theorem State.domCut_inv (s : State) (d : Fin 36) (hs : s.Inv) : (State.domCut s d).Inv := by
  unfold State.domCut
  try dsimp only
  repeat' first
    | (with_reducible first
        | assumption | intro _ | apply State.Inv.ite_same | apply State.fabricLeave_inv | apply State.domStop_inv)
    | split | dsimp only

theorem State.safeEnter_inv (s : State) (cause : SafeCause) (hs : s.Inv) : (State.safeEnter s cause).Inv := by
  unfold State.safeEnter
  try dsimp only
  repeat' first
    | (with_reducible first
        | assumption | intro _ | apply State.Inv.ite_same | apply State.setReg_inv | apply State.setStamp_inv
        | apply State.hkSafe_inv | apply State.fixedDown_inv | apply State.hostStop_inv | apply State.analogAbort_inv
        | apply State.sessionEnd_inv | apply State.domsOff_inv | apply State.portSafe_inv | apply State.answerAll_inv
        | apply State.sessionsEnd_inv | apply State.domCut_inv)
    | (with_reducible apply forEach_inv; rotate_left) | split | dsimp only
    | (with_reducible refine State.Inv.of_mk (s := ?_) ?_ ?_) | exact State.Inv.acc (by with_reducible assumption)

theorem State.logWrite_inv (s : State) (src sev flags reac detail : Nat) (hs : s.Inv) : (State.logWrite s src sev flags reac detail).1.Inv := by
  unfold State.logWrite
  try dsimp only
  repeat' first
    | (with_reducible first
        | assumption | intro _ | apply State.Inv.ite_same | apply State.setReg_inv | apply State.bump_inv)
    | split | dsimp only | (with_reducible refine State.Inv.of_mk (s := ?_) ?_ ?_)
    | exact State.Inv.acc (by with_reducible assumption)

theorem State.setPending_inv (s : State) (ix src : Nat) (hs : s.Inv) : (State.setPending s ix src).Inv := by
  unfold State.setPending
  try dsimp only
  repeat' first
    | (with_reducible first
        | assumption | intro _ | apply State.setBlob_inv)

theorem State.stormCount_inv (s : State) (hs : s.Inv) : (State.stormCount s).1.Inv := by
  unfold State.stormCount
  try dsimp only
  repeat' first
    | (with_reducible first
        | assumption | intro _ | apply State.Inv.ite_same)
    | split | dsimp only | (with_reducible refine State.Inv.of_mk (s := ?_) ?_ ?_)
    | exact State.Inv.acc (by with_reducible assumption)

theorem State.acceptRec_inv (s : State) (q : QueuedRec) (hs : s.Inv) : (State.acceptRec s q).Inv := by
  unfold State.acceptRec
  try dsimp only
  repeat' first
    | (with_reducible first
        | assumption | intro _ | apply State.Inv.ite_same | apply State.setReg_inv | apply State.setBlob_inv
        | apply State.bump_inv | apply State.orderChip_inv | apply State.mgtCall_inv | apply State.blockReset_inv
        | apply State.safeEnter_inv | apply State.logWrite_inv | apply State.setPending_inv | apply State.stormCount_inv)
    | split | dsimp only | (refine pair1_inv (by with_reducible assumption) ?_)

theorem ownPending_inv (ix : Nat) (bs : List Byte) (s : State) (hs : s.Inv) : (ownPending ix bs s).Inv := by
  unfold ownPending
  try dsimp only
  repeat' first
    | (with_reducible first
        | assumption | intro _ | apply State.setBlob_inv | apply Verdict.inv_done)
    | dsimp only

theorem ownLogClear_inv (s : State) (hs : s.Inv) : (ownLogClear s).Inv := by
  unfold ownLogClear
  try dsimp only
  repeat' first
    | (with_reducible first
        | assumption | intro _ | apply State.setReg_inv | apply Verdict.inv_done)
    | dsimp only | (with_reducible refine State.Inv.of_mk (s := ?_) ?_ ?_)
    | exact State.Inv.acc (by with_reducible assumption)

theorem ownFaultRaise_inv (v : Nat) (s : State) (hs : s.Inv) : (ownFaultRaise v s).Inv := by
  unfold ownFaultRaise
  try dsimp only
  repeat' first
    | (with_reducible first
        | assumption | intro _ | apply State.raiseFree_inv | apply Verdict.inv_done)

theorem ownFaultSetting_inv (ix sub : Nat) (v : Int) (s : State) (hs : s.Inv) : (ownFaultSetting ix sub v s).Inv := by
  unfold ownFaultSetting
  try dsimp only
  repeat' first
    | (with_reducible first
        | assumption | intro _ | apply State.Inv.ite_same | apply storeVal_inv | apply Verdict.inv_deny)
    | split | dsimp only

theorem State.modMem_inv (s : State) (g : Fin 44) (f : MemGroup → MemGroup) (hs : s.Inv) : (State.modMem s g f).Inv := by
  unfold State.modMem
  try dsimp only
  repeat' first
    | (with_reducible first
        | assumption | intro _)
    | dsimp only | (with_reducible refine State.Inv.of_mk (s := ?_) ?_ ?_)
    | exact State.Inv.acc (by with_reducible assumption)

theorem State.hardFault_inv (s : State) (g : Fin 44) (word : Nat) (hs : s.Inv) : (State.hardFault s g word).Inv := by
  unfold State.hardFault
  try dsimp only
  repeat' first
    | (with_reducible first
        | assumption | intro _ | apply State.Inv.ite_same | apply State.setBlob_inv | apply State.bump_inv
        | apply State.bump8_inv | apply State.capFault_inv | apply State.offer_inv | apply State.raise_inv
        | apply State.modMem_inv)
    | split | dsimp only | (with_reducible refine State.Inv.of_mk (s := ?_) ?_ ?_)
    | exact State.Inv.acc (by with_reducible assumption)

theorem State.memCorrected_inv (s : State) (g : Fin 44) (word : Nat) (scrub : Bool) (hs : s.Inv) : (State.memCorrected s g word scrub).Inv := by
  unfold State.memCorrected
  try dsimp only
  repeat' first
    | (with_reducible first
        | assumption | intro _ | apply State.bump64_inv | apply State.raise_inv)

theorem State.memOneBit_inv (s : State) (g : Fin 44) (word : Nat) (scrub again : Bool) (hs : s.Inv) : (State.memOneBit s g word scrub again).Inv := by
  unfold State.memOneBit
  try dsimp only
  repeat' first
    | (with_reducible first
        | assumption | intro _ | apply State.Inv.ite_same | apply State.modMem_inv | apply State.hardFault_inv
        | apply State.memCorrected_inv)
    | split | dsimp only

theorem State.badBits_inv (s : State) (hs : s.Inv) : (State.badBits s).1.Inv := by
  unfold State.badBits
  try dsimp only
  repeat' first
    | (with_reducible first
        | assumption | intro _ | apply State.fresh_inv)
    | split | dsimp only | (refine pair1_inv (by with_reducible assumption) ?_)

theorem State.memRequester_inv (s : State) (g : Fin 44) (word : Nat) (user : MemUser) (hs : s.Inv) : (State.memRequester s g word user).Inv := by
  unfold State.memRequester
  try dsimp only
  repeat' first
    | (with_reducible first
        | assumption | intro _ | apply State.Inv.ite_same | apply State.setBlob_inv | apply State.modCw_inv
        | apply State.linkCounts_inv | apply State.writeOff_inv | apply State.heldError_inv | apply State.engAccess_inv
        | apply State.badBits_inv)
    | split | dsimp only | (refine pair1_inv (by with_reducible assumption) ?_)
    | (with_reducible refine State.Inv.of_mk (s := ?_) ?_ ?_) | exact State.Inv.acc (by with_reducible assumption)

theorem State.memTwoBits_inv (s : State) (g : Fin 44) (word : Nat) (user : MemUser) (hs : s.Inv) : (State.memTwoBits s g word user).Inv := by
  unfold State.memTwoBits
  try dsimp only
  repeat' first
    | (with_reducible first
        | assumption | intro _ | apply State.Inv.ite_same | apply State.bump64_inv | apply State.raise_inv
        | apply State.memRequester_inv)
    | split | dsimp only

theorem State.repeatCorrected_inv (s : State) (which word : Nat) (hs : s.Inv) : (State.repeatCorrected s which word).Inv := by
  unfold State.repeatCorrected
  try dsimp only
  repeat' first
    | (with_reducible first
        | assumption | intro _ | apply State.Inv.ite_same | apply State.setBlob_inv | apply State.bump64_inv
        | apply State.raise_inv)
    | split | dsimp only

theorem State.fixedRead_inv (s : State) (which word errs : Nat) (hs : s.Inv) : (State.fixedRead s which word errs).Inv := by
  unfold State.fixedRead
  try dsimp only
  repeat' first
    | (with_reducible first
        | assumption | intro _ | apply State.Inv.ite_same | apply State.raise_inv | apply State.repeatCorrected_inv)
    | split | dsimp only

theorem State.memRead_inv (s : State) (r : MemRead) (scrubbed : Fin 44 → Option Nat) (hs : s.Inv) : (State.memRead s r scrubbed).Inv := by
  unfold State.memRead
  try dsimp only
  repeat' first
    | (with_reducible first
        | assumption | intro _ | apply State.Inv.ite_same | apply State.modMem_inv | apply State.memOneBit_inv
        | apply State.memTwoBits_inv | apply State.fixedRead_inv)
    | split | dsimp only

theorem State.scrubNext_inv (s : State) (g : Fin 44) (w : Nat) (hs : s.Inv) : (State.scrubNext s g w).Inv := by
  unfold State.scrubNext
  try dsimp only
  repeat' first
    | (with_reducible first
        | assumption | intro _ | apply State.Inv.ite_same | apply State.bump_inv | apply State.modMem_inv)
    | split | dsimp only | (with_reducible refine State.Inv.of_mk (s := ?_) ?_ ?_)
    | exact State.Inv.acc (by with_reducible assumption)

theorem ownFuseProgram_inv (fail : Option Nat) (s : State) (hs : s.Inv) : (ownFuseProgram fail s).Inv := by
  unfold ownFuseProgram
  try dsimp only
  repeat' first
    | (with_reducible first
        | assumption | intro _ | apply State.Inv.ite_same | apply State.raise_inv | apply Verdict.inv_deny
        | apply Verdict.inv_done | apply Verdict.inv_fail)
    | split | dsimp only | (with_reducible refine State.Inv.of_mk (s := ?_) ?_ ?_)
    | exact State.Inv.acc (by with_reducible assumption)

theorem State.lcBlow_inv (s : State) (bit new : Nat) (hs : s.Inv) : (State.lcBlow s bit new).Inv := by
  unfold State.lcBlow
  try dsimp only
  repeat' first
    | (with_reducible first
        | assumption | intro _ | apply State.setReg_inv | apply State.raise_inv)
    | dsimp only | (with_reducible refine State.Inv.of_mk (s := ?_) ?_ ?_)
    | exact State.Inv.acc (by with_reducible assumption)

theorem ownLcAdvance_inv (path : Path) (v : Int) (s : State) (hs : s.Inv) : (ownLcAdvance path v s).Inv := by
  unfold ownLcAdvance
  try dsimp only
  repeat' first
    | (with_reducible first
        | assumption | intro _ | apply State.Inv.ite_same | apply State.lcBlow_inv | apply Verdict.inv_deny
        | apply Verdict.inv_done)
    | split | dsimp only

theorem ownLcRetire_inv (s : State) (hs : s.Inv) : (ownLcRetire s).Inv := by
  unfold ownLcRetire
  try dsimp only
  repeat' first
    | (with_reducible first
        | assumption | intro _ | apply State.lcBlow_inv | apply Verdict.inv_done)

theorem ownLcChallenge_inv (path : Path) (s : State) (hs : s.Inv) : (ownLcChallenge path s).Inv := by
  unfold ownLcChallenge
  try dsimp only
  repeat' first
    | (with_reducible first
        | assumption | intro _ | apply State.fresh_inv | apply State.modTp_inv | apply Verdict.inv_done)
    | split | dsimp only | (refine pair1_inv (by with_reducible assumption) ?_)
    | (with_reducible refine State.Inv.of_mk (s := ?_) ?_ ?_) | exact State.Inv.acc (by with_reducible assumption)

theorem ownLcReturn_inv (path : Path) (token : List Byte) (s : State) (hs : s.Inv) : (ownLcReturn path token s).Inv := by
  unfold ownLcReturn
  try dsimp only
  repeat' first
    | (with_reducible first
        | assumption | intro _ | apply State.Inv.ite_same | apply State.raise_inv | apply State.modTp_inv
        | apply State.lcBlow_inv | apply Verdict.inv_deny | apply Verdict.inv_done | apply Verdict.inv_fail)
    | split | dsimp only | (with_reducible refine State.Inv.of_mk (s := ?_) ?_ ?_)
    | exact State.Inv.acc (by with_reducible assumption)

theorem ownAnalogRun_inv (v : Nat) (s : State) (hs : s.Inv) : (ownAnalogRun v s).Inv := by
  unfold ownAnalogRun
  split
  · exact trivial
  · extract_lets s1
    have h1 : s1.Inv := by
      show State.Inv (State.analogNext (State.modAnalog s _))
      exact State.analogNext_inv _ (State.modAnalog_inv _ _ hs)
    clear_value s1
    split
    · exact h1
    · exact h1

theorem ownBistRun_inv (v : Nat) (s : State) (hs : s.Inv) : (ownBistRun v s).Inv := by
  unfold ownBistRun
  try dsimp only
  repeat' first
    | (with_reducible first
        | assumption | intro _ | apply State.Inv.ite_same | apply State.orderChip_inv | apply Verdict.inv_deny
        | apply Verdict.inv_done)
    | split | dsimp only | (with_reducible refine State.Inv.of_mk (s := ?_) ?_ ?_)
    | exact State.Inv.acc (by with_reducible assumption)

theorem State.captureSaved_inv (s : State) (hs : s.Inv) : (s.captureSaved).Inv :=
  ⟨hs.regs, hs.blobs, Store.wf_filter _ _ _ hs.regs, Store.wf_filter _ _ _ hs.blobs, hs.flash, hs.acc⟩

theorem State.takeEntry_inv (s : State) (t : ObjRow × Nat × List Byte) (hs : s.Inv) : (State.takeEntry s t).Inv := by
  unfold State.takeEntry
  try dsimp only
  repeat' first
    | (with_reducible first
        | assumption | intro _ | apply State.Inv.ite_same | apply State.setReg_inv | apply State.setBlob_inv)
    | split | dsimp only

theorem State.checkEntry_inv (s : State) (t : ObjRow × Nat × List Byte) (hs : s.Inv) : (State.checkEntry s t).Inv := by
  unfold State.checkEntry
  try dsimp only
  repeat' first
    | (with_reducible first
        | assumption | intro _ | apply State.Inv.ite_same | apply State.setReg_inv | apply State.setBlob_inv)
    | split | dsimp only

theorem State.takeEntries_inv (s : State) (body : List Byte) (hs : s.Inv) : (State.takeEntries s body).Inv := by
  unfold State.takeEntries
  try dsimp only
  repeat' first
    | (with_reducible first
        | assumption | intro _ | apply slotEntries_inv | apply State.takeEntry_inv | apply State.checkEntry_inv)
    | (with_reducible apply forEach_inv; rotate_left) | dsimp only

theorem State.settingsDefault_inv (s : State) (hs : s.Inv) : (State.settingsDefault s).Inv := by
  unfold State.settingsDefault
  try dsimp only
  repeat' first
    | (with_reducible first
        | assumption | intro _ | apply State.setReg_inv | apply State.clearObjs_inv)
    | dsimp only

theorem State.settingsRead_inv (s : State) (hs : s.Inv) : (State.settingsRead s).Inv := by
  unfold State.settingsRead
  try dsimp only
  repeat' first
    | (with_reducible first
        | assumption | intro _ | apply State.Inv.ite_same | apply State.setReg_inv | apply State.raise_inv
        | apply State.modUpd_inv | apply State.takeEntries_inv | apply State.settingsDefault_inv)
    | split | dsimp only | (with_reducible refine State.Inv.of_mk (s := ?_) ?_ ?_)
    | exact State.Inv.acc (by with_reducible assumption)

theorem State.saveStart_inv (s : State) (dict confirm : Bool) (hs : s.Inv) : (State.saveStart s dict confirm).Inv := by
  unfold State.saveStart
  try dsimp only
  repeat' first
    | (with_reducible first
        | assumption | intro _ | apply State.modUpd_inv | apply State.captureSaved_inv)
    | dsimp only | (with_reducible refine State.Inv.of_mk (s := ?_) ?_ ?_)
    | exact State.Inv.acc (by with_reducible assumption)

theorem State.deviceSave_inv (s : State) (confirm : Bool) (hs : s.Inv) : (State.deviceSave s confirm).Inv := by
  unfold State.deviceSave
  try dsimp only
  repeat' first
    | (with_reducible first
        | assumption | intro _ | apply State.Inv.ite_same | apply State.modUpd_inv | apply State.saveStart_inv)
    | split | dsimp only | (with_reducible refine State.Inv.of_mk (s := ?_) ?_ ?_)
    | exact State.Inv.acc (by with_reducible assumption)

theorem State.setStep_inv (s : State) (step : Int) (hs : s.Inv) : (State.setStep s step).Inv := by
  unfold State.setStep
  try dsimp only
  repeat' first
    | (with_reducible first
        | assumption | intro _ | apply State.setReg_inv)

theorem State.safeHold_inv (s : State) (step cause : Nat) (hs : s.Inv) : (State.safeHold s step cause).Inv := by
  unfold State.safeHold
  try dsimp only
  repeat' first
    | (with_reducible first
        | assumption | intro _ | apply State.setReg_inv | apply State.raise_inv | apply State.domsOff_inv
        | apply State.sessionsEnd_inv)

theorem State.fuseSense_inv (s : State) (flips : List FuseFlip) (hs : s.Inv) : (State.fuseSense s flips).Inv := by
  unfold State.fuseSense
  try dsimp only
  repeat' first
    | (with_reducible first
        | assumption | intro _ | apply State.fresh_inv | apply State.repeatCorrected_inv)
    | (with_reducible apply forEach_inv; rotate_left) | split | dsimp only
    | (refine pair1_inv (by with_reducible assumption) ?_) | (with_reducible refine State.Inv.of_mk (s := ?_) ?_ ?_)
    | exact State.Inv.acc (by with_reducible assumption)

theorem State.identify_inv (s : State) (hs : s.Inv) : (State.identify s).Inv := by
  unfold State.identify
  try dsimp only
  repeat' first
    | (with_reducible first
        | assumption | intro _ | apply State.setReg_inv | apply State.setBlob_inv | apply State.fresh_inv)
    | split | dsimp only | (refine pair1_inv (by with_reducible assumption) ?_)

theorem State.bistStart_inv (s : State) (hs : s.Inv) : (State.bistStart s).Inv := by
  unfold State.bistStart
  try dsimp only
  repeat' first
    | (with_reducible first
        | assumption | intro _ | apply State.Inv.ite_same | apply State.setReg_inv | apply State.setPwr_inv)
    | (with_reducible apply forEach_inv; rotate_left) | split | dsimp only

theorem State.bistBegin_inv (s : State) (hs : s.Inv) : (State.bistBegin s).Inv := by
  unfold State.bistBegin
  try dsimp only
  repeat' first
    | (with_reducible first
        | assumption | intro _ | apply State.Inv.ite_same | apply State.setReg_inv | apply State.setAll_inv
        | apply State.bistStart_inv)
    | split | dsimp only | (with_reducible refine State.Inv.of_mk (s := ?_) ?_ ?_)
    | exact State.Inv.acc (by with_reducible assumption)

theorem State.bistEnd_inv (s : State) (i : Nat) (r : BistRes) (hs : s.Inv) : (State.bistEnd s i r).Inv := by
  unfold State.bistEnd
  try dsimp only
  repeat' first
    | (with_reducible first
        | assumption | intro _ | apply State.Inv.ite_same | apply State.setReg_inv | apply State.raise_inv)
    | split | dsimp only

theorem State.journalAct_inv (s : State) (hs : s.Inv) : (State.journalAct s).Inv := by
  unfold State.journalAct
  try dsimp only
  repeat' first
    | (with_reducible first
        | assumption | intro _ | apply State.Inv.ite_same | apply State.raise_inv | apply State.journalFollow_inv
        | apply State.modUpd_inv | apply State.updateVotes_inv)
    | split | dsimp only | (with_reducible refine State.Inv.of_mk (s := ?_) ?_ ?_)
    | exact State.Inv.acc (by with_reducible assumption)

theorem State.copyEnd_inv (s : State) (f : Update → Update) (hs : s.Inv) : (State.copyEnd s f).Inv := by
  unfold State.copyEnd
  try dsimp only
  repeat' first
    | (with_reducible first
        | assumption | intro _ | apply State.noteVote_inv | apply State.modUpd_inv | apply State.setStep_inv)
    | dsimp only | (with_reducible refine State.Inv.of_mk (s := ?_) ?_ ?_)
    | exact State.Inv.acc (by with_reducible assumption)

theorem State.imageRuns_inv (s : State) (run : Nat) (hs : s.Inv) : (State.imageRuns s run).Inv := by
  unfold State.imageRuns
  try dsimp only
  repeat' first
    | (with_reducible first
        | assumption | intro _ | apply State.setReg_inv | apply State.setAll_inv | apply State.modUpd_inv)
    | dsimp only | (with_reducible refine State.Inv.of_mk (s := ?_) ?_ ?_)
    | exact State.Inv.acc (by with_reducible assumption)

theorem State.breakoutLoad_inv (s : State) (hs : s.Inv) : (State.breakoutLoad s).Inv := by
  unfold State.breakoutLoad
  try dsimp only
  repeat' first
    | (with_reducible first
        | assumption | intro _ | apply State.Inv.ite_same)
    | split | dsimp only | (with_reducible refine State.Inv.of_mk (s := ?_) ?_ ?_)
    | exact State.Inv.acc (by with_reducible assumption)

theorem State.startVotes_inv (s : State) (hs : s.Inv) : (State.startVotes s).Inv := by
  unfold State.startVotes
  try dsimp only
  repeat' first
    | (with_reducible first
        | assumption | intro _ | apply State.Inv.ite_same | apply State.castVote_inv | apply State.portVotes_inv)
    | split | dsimp only | (with_reducible refine State.Inv.of_mk (s := ?_) ?_ ?_)
    | exact State.Inv.acc (by with_reducible assumption)

theorem State.deferredWrite_inv (s : State) (hs : s.Inv) : (State.deferredWrite s).Inv := by
  unfold State.deferredWrite
  try dsimp only
  repeat' first
    | (with_reducible first
        | assumption | intro _ | apply State.journalFollow_inv | apply State.modUpd_inv)
    | split | dsimp only | (with_reducible refine State.Inv.of_mk (s := ?_) ?_ ?_)
    | exact State.Inv.acc (by with_reducible assumption)

theorem State.receiveAgain_inv (s : State) (hs : s.Inv) : (State.receiveAgain s).Inv := by
  unfold State.receiveAgain
  try dsimp only
  repeat' first
    | (with_reducible first
        | assumption | intro _ | apply State.setReg_inv)

theorem ownUpdateOpen_inv (path : Path) (len : Nat) (s : State) (hs : s.Inv) : (ownUpdateOpen path len s).Inv := by
  unfold ownUpdateOpen
  try dsimp only
  repeat' first
    | (with_reducible first
        | assumption | intro _ | apply State.Inv.ite_same | apply State.setReg_inv | apply State.modUpd_inv
        | apply State.updateVotes_inv | apply State.receiveAgain_inv | apply Verdict.inv_deny | apply Verdict.inv_done)
    | split | dsimp only | (with_reducible refine State.Inv.of_mk (s := ?_) ?_ ?_)
    | exact State.Inv.acc (by with_reducible assumption)

theorem ownStaging_inv (path : Path) (pl : List Byte) (s : State) (hs : s.Inv) : (ownStaging path pl s).Inv := by
  unfold ownStaging
  try dsimp only
  repeat' first
    | (with_reducible first
        | assumption | intro _ | apply State.Inv.ite_same | apply State.modUpd_inv | apply State.receiveAgain_inv
        | apply Verdict.inv_deny | apply Verdict.inv_done)
    | split | dsimp only | (with_reducible refine State.Inv.of_mk (s := ?_) ?_ ?_)
    | exact State.Inv.acc (by with_reducible assumption)

theorem State.verifyBegin_inv (s : State) (hs : s.Inv) : (State.verifyBegin s).Inv := by
  unfold State.verifyBegin
  try dsimp only
  repeat' first
    | (with_reducible first
        | assumption | intro _ | apply State.Inv.ite_same | apply State.setReg_inv | apply State.modUpd_inv)
    | split | dsimp only | (with_reducible refine State.Inv.of_mk (s := ?_) ?_ ?_)
    | exact State.Inv.acc (by with_reducible assumption)

theorem State.mapSet_inv (s : State) (map : List Nat) (hs : s.Inv) : (State.mapSet s map).Inv := by
  unfold State.mapSet
  try dsimp only
  repeat' first
    | (with_reducible first
        | assumption | intro _ | apply State.setReg_inv | apply State.modUpd_inv)
    | dsimp only | (with_reducible refine State.Inv.of_mk (s := ?_) ?_ ?_)
    | exact State.Inv.acc (by with_reducible assumption)

theorem ownUpdateVerify_inv (path : Path) (s : State) (hs : s.Inv) : (ownUpdateVerify path s).Inv := by
  unfold ownUpdateVerify
  try dsimp only
  repeat' first
    | (with_reducible first
        | assumption | intro _ | apply State.Inv.ite_same | apply State.modUpd_inv | apply State.verifyBegin_inv
        | apply Verdict.inv_deny | apply Verdict.inv_done)
    | split | dsimp only | (with_reducible refine State.Inv.of_mk (s := ?_) ?_ ?_)
    | exact State.Inv.acc (by with_reducible assumption)

theorem ownUpdateActivate_inv (path : Path) (arg : Int) (s : State) (hs : s.Inv) : (ownUpdateActivate path arg s).Inv := by
  unfold ownUpdateActivate
  try dsimp only
  repeat' first
    | (with_reducible first
        | assumption | intro _ | apply State.Inv.ite_same | apply State.setReg_inv | apply State.orderChip_inv
        | apply State.journalWrite_inv | apply State.modUpd_inv | apply State.sessionEnd_inv | apply Verdict.inv_deny
        | apply Verdict.inv_done)
    | split | dsimp only | (with_reducible refine State.Inv.of_mk (s := ?_) ?_ ?_)
    | exact State.Inv.acc (by with_reducible assumption)

theorem ownUpdateClose_inv (path : Path) (s : State) (hs : s.Inv) : (ownUpdateClose path s).Inv := by
  unfold ownUpdateClose
  try dsimp only
  repeat' first
    | (with_reducible first
        | assumption | intro _ | apply State.Inv.ite_same | apply State.sessionEnd_inv | apply Verdict.inv_deny
        | apply Verdict.inv_done)
    | split | dsimp only

theorem ownUpdateAbort_inv (s : State) (hs : s.Inv) : (ownUpdateAbort s).Inv := by
  unfold ownUpdateAbort
  try dsimp only
  repeat' first
    | (with_reducible first
        | assumption | intro _ | apply State.Inv.ite_same | apply State.raise_inv | apply State.sessionEnd_inv
        | apply Verdict.inv_deny | apply Verdict.inv_done)
    | split | dsimp only

theorem ownUpdateConfirm_inv (s : State) (hs : s.Inv) : (ownUpdateConfirm s).Inv := by
  unfold ownUpdateConfirm
  try dsimp only
  repeat' first
    | (with_reducible first
        | assumption | intro _ | apply State.Inv.ite_same | apply State.setReg_inv | apply State.journalFollow_inv
        | apply State.modUpd_inv | apply State.deviceSave_inv | apply Verdict.inv_deny | apply Verdict.inv_later)
    | split | dsimp only | (with_reducible refine State.Inv.of_mk (s := ?_) ?_ ?_)
    | exact State.Inv.acc (by with_reducible assumption)

theorem ownDictSave_inv (s : State) (hs : s.Inv) : (ownDictSave s).Inv := by
  unfold ownDictSave
  try dsimp only
  repeat' first
    | (with_reducible first
        | assumption | intro _ | apply State.Inv.ite_same | apply State.saveStart_inv | apply Verdict.inv_deny
        | apply Verdict.inv_done | apply Verdict.inv_later)
    | split | dsimp only

theorem State.saveAnswer_inv (s : State) (v : SaveRun) (st : Nat) (hs : s.Inv) : (State.saveAnswer s v st).Inv := by
  unfold State.saveAnswer
  try dsimp only
  repeat' first
    | (with_reducible first
        | assumption | intro _ | apply State.Inv.ite_same | apply State.finish_inv)
    | split | dsimp only

theorem State.saveWritten_inv (s : State) (v : SaveRun) (hs : s.Inv) : (State.saveWritten s v).Inv := by
  unfold State.saveWritten
  try dsimp only
  repeat' first
    | (with_reducible first
        | assumption | intro _ | apply State.setReg_inv | apply State.flashErase_inv | apply State.flashWrite_inv
        | apply State.modUpd_inv)
    | dsimp only | (with_reducible refine State.Inv.of_mk (s := ?_) ?_ ?_)
    | exact State.Inv.acc (by with_reducible assumption)

theorem State.saveFails_inv (s : State) (v : SaveRun) (sector : Nat) (hs : s.Inv) : (State.saveFails s v sector).Inv := by
  unfold State.saveFails
  try dsimp only
  repeat' first
    | (with_reducible first
        | assumption | intro _ | apply State.flashFail_inv | apply State.modUpd_inv)
    | dsimp only | (with_reducible refine State.Inv.of_mk (s := ?_) ?_ ?_)
    | exact State.Inv.acc (by with_reducible assumption)

theorem State.planSupply_inv (s : State) (d : PlanDay) (hs : s.Inv) : (State.planSupply s d).Inv := by
  unfold State.planSupply
  try dsimp only
  repeat' first
    | (with_reducible first
        | assumption | intro _ | apply State.setReg_inv | apply State.setAll_inv)
    | (with_reducible apply forEach_inv; rotate_left) | dsimp only

theorem State.planOutlook_inv (s : State) (ix : List Ratio) (hs : s.Inv) : (State.planOutlook s ix).Inv := by
  unfold State.planOutlook
  try dsimp only
  repeat' first
    | (with_reducible first
        | assumption | intro _ | apply State.Inv.ite_same | apply State.setReg_inv | apply State.raise_inv)
    | (with_reducible apply forEach_inv; rotate_left) | split | dsimp only

theorem ownPlanNow_inv (s : State) (hs : s.Inv) : (ownPlanNow s).Inv := by
  unfold ownPlanNow
  try dsimp only
  repeat' first
    | (with_reducible first
        | assumption | intro _ | apply State.Inv.ite_same | apply Verdict.inv_deny | apply Verdict.inv_later)
    | split | dsimp only

theorem State.baseline_inv (s : State) (h : Fin 16) (snr : Int) (hs : s.Inv) : (State.baseline s h snr).Inv := by
  unfold State.baseline
  try dsimp only
  repeat' first
    | (with_reducible first
        | assumption | intro _ | apply State.Inv.ite_same | apply State.setReg_inv)
    | split | dsimp only

theorem State.modTap_inv (s : State) (f : Tap → Tap) (hs : s.Inv) : (State.modTap s f).Inv := by
  unfold State.modTap
  try dsimp only
  repeat' first
    | (with_reducible first
        | assumption | intro _)
    | dsimp only | (with_reducible refine State.Inv.of_mk (s := ?_) ?_ ?_)
    | exact State.Inv.acc (by with_reducible assumption)

theorem State.tapLoad_inv (s : State) (i : TapIns) (hs : s.Inv) : (State.tapLoad s i).Inv := by
  unfold State.tapLoad
  try dsimp only
  repeat' first
    | (with_reducible first
        | assumption | intro _ | apply State.Inv.ite_same | apply State.modTap_inv)
    | split | dsimp only | (with_reducible refine State.Inv.of_mk (s := ?_) ?_ ?_)
    | exact State.Inv.acc (by with_reducible assumption)

theorem State.apcTake_inv (s : State) (l : Fin 8) (hs : s.Inv) : (State.apcTake s l).Inv := by
  unfold State.apcTake
  try dsimp only
  repeat' first
    | (with_reducible first
        | assumption | intro _ | apply State.Inv.ite_same | apply State.setReg_inv | apply State.modTx_inv
        | apply State.apcVote_inv)
    | split | dsimp only | (with_reducible refine State.Inv.of_mk (s := ?_) ?_ ?_)
    | exact State.Inv.acc (by with_reducible assumption)

theorem State.apcTick_inv (s : State) (l : Fin 8) (hs : s.Inv) : (State.apcTick s l).Inv := by
  unfold State.apcTick
  try dsimp only
  repeat' first
    | (with_reducible first
        | assumption | intro _ | apply State.Inv.ite_same | apply State.setReg_inv | apply State.raise_inv
        | apply State.adacPut_inv | apply State.modTx_inv)
    | split | dsimp only | (with_reducible refine State.Inv.of_mk (s := ?_) ?_ ?_)
    | exact State.Inv.acc (by with_reducible assumption)

theorem State.hostTick_inv (s : State) (h : Fin 16) (freq snr : Int) (hs : s.Inv) : (State.hostTick s h freq snr).Inv := by
  unfold State.hostTick
  try dsimp only
  repeat' first
    | (with_reducible first
        | assumption | intro _ | apply State.Inv.ite_same | apply State.setReg_inv)
    | split | dsimp only

theorem State.offsetTick_inv (s : State) (l : Fin 8) (hs : s.Inv) : (State.offsetTick s l).Inv := by
  unfold State.offsetTick
  try dsimp only
  repeat' first
    | (with_reducible first
        | assumption | intro _ | apply State.Inv.ite_same | apply State.setReg_inv | apply State.modTx_inv)
    | split | dsimp only | (with_reducible refine State.Inv.of_mk (s := ?_) ?_ ?_)
    | exact State.Inv.acc (by with_reducible assumption)

theorem State.s1Tick_inv (s : State) (l : Fin 8) (hs : s.Inv) : (State.s1Tick s l).Inv := by
  unfold State.s1Tick
  try dsimp only
  repeat' first
    | (with_reducible first
        | assumption | intro _ | apply State.Inv.ite_same | apply State.setReg_inv | apply State.modSrch_inv)
    | split | dsimp only | (with_reducible refine State.Inv.of_mk (s := ?_) ?_ ?_)
    | exact State.Inv.acc (by with_reducible assumption)

theorem State.figuresHold_inv (s old : State) (hs : s.Inv) (hold : old.Inv) : (State.figuresHold s old).Inv := by
  unfold State.figuresHold
  try dsimp only
  repeat' first
    | (with_reducible first
        | assumption | intro _ | apply State.setReg_inv)
    | (with_reducible apply forEach_inv; rotate_left) | dsimp only

theorem State.autoclear_inv (s : State) (hs : s.Inv) : (State.autoclear s).Inv := by
  unfold State.autoclear
  try dsimp only
  repeat' first
    | (with_reducible first
        | assumption | intro _ | apply State.Inv.ite_same | apply State.modTherm_inv | apply State.chipReset_inv)
    | split | dsimp only | (with_reducible refine State.Inv.of_mk (s := ?_) ?_ ?_)
    | exact State.Inv.acc (by with_reducible assumption)

theorem State.tickAon_inv (s : State) (m : TickIn) (hs : s.Inv) : (State.tickAon s m).Inv := by
  unfold State.tickAon
  try dsimp only
  repeat' first
    | (with_reducible first
        | assumption | intro _ | apply State.thermalTick_inv)
    | dsimp only | (with_reducible refine State.Inv.of_mk (s := ?_) ?_ ?_)
    | exact State.Inv.acc (by with_reducible assumption)

theorem State.tickBlocks_inv (s : State) (m : TickIn) (hs : s.Inv) : (State.tickBlocks s m).Inv := by
  unfold State.tickBlocks
  try dsimp only
  repeat' first
    | (with_reducible first
        | assumption | intro _ | apply State.Inv.ite_same | apply State.bgCommit_inv | apply State.ticTick_inv
        | apply State.modInst_inv | apply State.dsTick_inv | apply State.linkTick_inv | apply State.engTick_inv
        | apply State.tickUndo_inv | apply State.fabricTick_inv | apply State.poolPace_inv | apply State.ageTake_inv
        | apply State.avsTick_inv | apply State.apcTake_inv | apply State.apcTick_inv | apply State.hostTick_inv
        | apply State.offsetTick_inv | apply State.s1Tick_inv | apply State.figuresHold_inv)
    | (with_reducible apply forEach_inv; rotate_left) | split | dsimp only
    | (with_reducible refine State.Inv.of_mk (s := ?_) ?_ ?_) | exact State.Inv.acc (by with_reducible assumption)

theorem State.descriptor_inv (s : State) (c : Cls) (view : Nat) (row : ObjRow) (hs : s.Inv) : (State.descriptor s c view row).1.Inv := by
  unfold State.descriptor
  try dsimp only
  repeat' first
    | (with_reducible first
        | assumption | intro _ | apply State.Inv.ite_same | apply State.fresh_inv)
    | split | dsimp only | (refine pair1_inv (by with_reducible assumption) ?_)

theorem ownStateRead_inv (c : Cls) (s : State) (hs : s.Inv) : (ownStateRead c s).Inv := by
  unfold ownStateRead
  try dsimp only
  repeat' first
    | (with_reducible first
        | assumption | intro _ | apply State.Inv.ite_same | apply Verdict.inv_done)
    | split | dsimp only | (with_reducible refine State.Inv.of_mk (s := ?_) ?_ ?_)
    | exact State.Inv.acc (by with_reducible assumption)

theorem ownChallenge_inv (path : Path) (s : State) (hs : s.Inv) : (ownChallenge path s).Inv := by
  unfold ownChallenge
  try dsimp only
  repeat' first
    | (with_reducible first
        | assumption | intro _ | apply State.fresh_inv | apply State.modTp_inv | apply Verdict.inv_done)
    | split | dsimp only | (refine pair1_inv (by with_reducible assumption) ?_)
    | (with_reducible refine State.Inv.of_mk (s := ?_) ?_ ?_) | exact State.Inv.acc (by with_reducible assumption)

theorem ownRead_inv (c : Cls) (view : Nat) (path : Path) (ix sub : Nat) (s : State) (hs : s.Inv) : (ownRead c view path ix sub s).Inv := by
  unfold ownRead
  try dsimp only
  repeat' first
    | (with_reducible first
        | assumption | intro _ | apply State.Inv.ite_same | apply State.accountAll_inv | apply ownAdcResult_inv
        | apply ownPmuSample_inv | apply ownLcChallenge_inv | apply ownStateRead_inv | apply ownChallenge_inv
        | apply Verdict.inv_deny | apply Verdict.inv_done)
    | split | dsimp only

theorem ownReadBlock_inv (c : Cls) (view : Nat) (path : Path) (ix sub : Nat) (pl : List Byte) (s : State) (hs : s.Inv) :
    (ownReadBlock c view path ix sub pl s).Inv := by
  unfold ownReadBlock
  extract_lets off cnt
  clear_value off cnt
  have h := ownRead_inv c view path ix sub s hs
  revert h
  generalize ownRead c view path ix sub s = v
  intro h
  split
  · exact trivial
  · cases v with
    | done s1 b =>
      dsimp only
      split
      · exact trivial
      · exact h
    | deny st => exact h
    | fail s1 st => exact h
    | names s1 i b => exact h
    | later s1 => exact h

theorem ownRestState_inv (sub : Nat) (v : Int) (s : State) (hs : s.Inv) : (ownRestState sub v s).Inv := by
  unfold ownRestState
  try dsimp only
  repeat' first
    | (with_reducible first
        | assumption | intro _ | apply State.Inv.ite_same | apply storeVal_inv | apply Verdict.inv_deny)
    | split | dsimp only

theorem ownNum_inv (path : Path) (ix sub : Nat) (v : Int) (s : State) (hs : s.Inv) : (ownNum path ix sub v s).Inv := by
  unfold ownNum
  try dsimp only
  repeat' first
    | (with_reducible first
        | assumption | intro _ | apply State.Inv.ite_same | apply storeVal_inv | apply ownNextSeconds_inv
        | apply ownPpsEnable_inv | apply ownRateAdj_inv | apply ownHkWrite_inv | apply ownTxWrite_inv
        | apply ownMuteForce_inv | apply ownBgEnable_inv | apply ownCoupling_inv | apply ownRxInvert_inv
        | apply ownEqFreeze_inv | apply ownPreset_inv | apply ownDsWrite_inv | apply ownRetryWindow_inv
        | apply ownPortMode_inv | apply ownRateSet_inv | apply ownFarLoop_inv | apply ownTestWrite_inv
        | apply ownPmuFreeze_inv | apply ownOvfStatus_inv | apply ownVote_inv | apply ownFaultSetting_inv
        | apply ownRestState_inv)
    | split | dsimp only

theorem ownBytes_inv (ix sub : Nat) (b : List Byte) (s : State) (hs : s.Inv) : (ownBytes ix sub b s).Inv := by
  unfold ownBytes
  try dsimp only
  repeat' first
    | (with_reducible first
        | assumption | intro _ | apply State.Inv.ite_same | apply State.setBlob_inv | apply ownScan_inv | apply ownWave_inv
        | apply ownPreset_inv | apply ownPmuSel_inv | apply ownPmuCount_inv | apply ownPending_inv | apply Verdict.inv_done)
    | split | dsimp only

theorem State.dropSeq_inv (s : State) (ix sub : Nat) (hs : s.Inv) : (State.dropSeq s ix sub).Inv := by
  unfold State.dropSeq
  try dsimp only
  repeat' first
    | (with_reducible first
        | assumption | intro _)
    | dsimp only | (with_reducible refine State.Inv.of_mk (s := ?_) ?_ ?_)
    | exact State.Inv.acc (by with_reducible assumption)

theorem ownWrite_inv (path : Path) (ix sub : Nat) (pl : List Byte) (s : State) (hs : s.Inv) :
    (ownWrite path ix sub pl s).Inv := by
  unfold ownWrite
  split
  · exact trivial
  · split
    · have h := ownBytes_inv ix sub pl s hs
      revert h
      generalize ownBytes ix sub pl s = v
      intro h
      cases v with
      | done s1 b => exact State.dropSeq_inv _ _ _ h
      | deny st => exact h
      | fail s1 st => exact h
      | names s1 i b => exact h
      | later s1 => exact h
    · exact ownNum_inv _ _ _ _ _ hs

theorem ownWriteBlock_inv (path : Path) (ix sub : Nat) (pl : List Byte) (s : State) (hs : s.Inv) :
    (ownWriteBlock path ix sub pl s).Inv := by
  unfold ownWriteBlock
  extract_lets off data total seq have_ s1
  have h1 : s1.Inv := State.dropSeq_inv _ _ _ hs
  clear_value s1 have_ seq total data off
  refine Verdict.inv_ite (ownStaging_inv _ _ _ hs) ?_
  refine Verdict.inv_ite trivial ?_
  refine Verdict.inv_ite trivial ?_
  refine Verdict.inv_ite (State.dropSeq_inv _ _ _ hs) ?_
  refine Verdict.inv_ite trivial ?_
  refine Verdict.inv_ite ?_ ?_
  · have h := ownWrite_inv path ix sub (have_ ++ data) s1 h1
    revert h
    generalize ownWrite path ix sub (have_ ++ data) s1 = v
    intro h
    cases v with
    | deny st => exact h1
    | done s1 b => exact h
    | fail s1 st => exact h
    | names s1 i b => exact h
    | later s1 => exact h
  · show State.Inv _
    exact ⟨h1.regs, h1.blobs, h1.savedRegs, h1.savedBlobs, h1.flash, h1.acc⟩

theorem State.authFail_inv (s : State) (path : Path) (hs : s.Inv) : (State.authFail s path).Inv := by
  unfold State.authFail
  try dsimp only
  repeat' first
    | (with_reducible first
        | assumption | intro _ | apply State.Inv.ite_same | apply State.bump_inv | apply State.raise_inv
        | apply State.modTp_inv)
    | split | dsimp only | (with_reducible refine State.Inv.of_mk (s := ?_) ?_ ?_)
    | exact State.Inv.acc (by with_reducible assumption)

theorem ownPrivOpen_inv (path : Path) (sig : List Byte) (s : State) (hs : s.Inv) : (ownPrivOpen path sig s).Inv := by
  unfold ownPrivOpen
  try dsimp only
  repeat' first
    | (with_reducible first
        | assumption | intro _ | apply State.Inv.ite_same | apply State.modTp_inv | apply State.authFail_inv
        | apply Verdict.inv_done | apply Verdict.inv_fail)
    | split | dsimp only | (with_reducible refine State.Inv.of_mk (s := ?_) ?_ ?_)
    | exact State.Inv.acc (by with_reducible assumption)

theorem ownPrivClose_inv (path : Path) (s : State) (hs : s.Inv) : (ownPrivClose path s).Inv := by
  unfold ownPrivClose
  try dsimp only
  repeat' first
    | (with_reducible first
        | assumption | intro _ | apply State.modTp_inv | apply Verdict.inv_done)
    | dsimp only | (with_reducible refine State.Inv.of_mk (s := ?_) ?_ ?_)
    | exact State.Inv.acc (by with_reducible assumption)

theorem Verdict.state_inv (v : Verdict) (s : State) (hs : s.Inv) (hv : v.Inv) : (Verdict.state v s).Inv := by
  cases v with
  | deny st => exact hs
  | done s1 b => exact hv
  | fail s1 st => exact hv
  | names s1 i b => exact hv
  | later s1 => exact hv

theorem State.restoreOne_inv (s : State) (row : ObjRow) (sub : Nat) (hs : s.Inv) : (s.restoreOne row sub).Inv := by
  unfold State.restoreOne
  split
  · extract_lets d
    clear_value d
    split
    · exact hs
    · split
      · exact State.chanChangeAll_inv _ (State.setBlob_inv _ _ _ _ hs)
      · exact State.setBlob_inv _ _ _ _ (Verdict.state_inv _ _ hs (ownBytes_inv _ _ _ _ hs))
  · extract_lets d
    clear_value d
    split
    · exact hs
    · exact State.setReg_inv _ _ _ _ (Verdict.state_inv _ _ hs (ownNum_inv _ _ _ _ _ hs))

theorem ownRestoreDefaults_inv (s : State) (hs : s.Inv) : (ownRestoreDefaults s).Inv := by
  unfold ownRestoreDefaults
  try dsimp only
  repeat' first
    | (with_reducible first
        | assumption | intro _ | apply State.avsUpdate_inv | apply State.restoreOne_inv | apply Verdict.inv_done)
    | (with_reducible apply forEach_inv; rotate_left) | dsimp only

theorem ownExec_inv (path : Path) (ix sub : Nat) (pl : List Byte) (s : State) (hs : s.Inv) : (ownExec path ix sub pl s).Inv := by
  unfold ownExec
  extract_lets v
  clear_value v
  refine Verdict.inv_ite ?_ ?_
  · with_reducible apply ownDictSave_inv; exact hs
  refine Verdict.inv_ite ?_ ?_
  · with_reducible apply ownRestoreDefaults_inv; exact hs
  refine Verdict.inv_ite ?_ ?_
  · with_reducible apply ownPrivOpen_inv; exact hs
  refine Verdict.inv_ite ?_ ?_
  · with_reducible apply ownPrivClose_inv; exact hs
  refine Verdict.inv_ite ?_ ?_
  · with_reducible apply ownTimeSet_inv; exact hs
  refine Verdict.inv_ite ?_ ?_
  · with_reducible apply ownApplyBreakout_inv; exact hs
  refine Verdict.inv_ite ?_ ?_
  · with_reducible apply ownPortCmd_inv; exact hs
  refine Verdict.inv_ite ?_ ?_
  · with_reducible apply ownTestStart_inv; exact hs
  refine Verdict.inv_ite ?_ ?_
  · with_reducible apply ownAdcCalFg_inv; exact hs
  refine Verdict.inv_ite ?_ ?_
  · with_reducible apply ownTlRestart_inv; exact hs
  refine Verdict.inv_ite ?_ ?_
  · with_reducible apply ownEyeCapture_inv; exact hs
  refine Verdict.inv_ite ?_ ?_
  · with_reducible apply ownTicClearPeaks_inv; exact hs
  refine Verdict.inv_ite ?_ ?_
  · with_reducible apply ownRetryClearPeaks_inv; exact hs
  refine Verdict.inv_ite ?_ ?_
  · with_reducible apply ownDsRetrain_inv; exact hs
  refine Verdict.inv_ite ?_ ?_
  · with_reducible apply ownInjFire_inv; exact hs
  refine Verdict.inv_ite ?_ ?_
  · with_reducible apply ownCapArm_inv; exact hs
  refine Verdict.inv_ite ?_ ?_
  · with_reducible apply ownCapTrigger_inv; exact hs
  refine Verdict.inv_ite ?_ ?_
  · with_reducible apply ownHkSelfCal_inv; exact hs
  refine Verdict.inv_ite ?_ ?_
  · with_reducible apply ownFirSwap_inv; exact hs
  refine Verdict.inv_ite ?_ ?_
  · with_reducible apply ownHkLoad_inv; exact hs
  refine Verdict.inv_ite ?_ ?_
  · with_reducible apply ownEngRestart_inv; exact hs
  refine Verdict.inv_ite ?_ ?_
  · with_reducible apply ownPmuClear_inv; exact hs
  refine Verdict.inv_ite ?_ ?_
  · with_reducible apply ownClearPeak_inv; exact hs
  refine Verdict.inv_ite ?_ ?_
  · with_reducible apply ownPlanNow_inv; exact hs
  refine Verdict.inv_ite ?_ ?_
  · with_reducible apply ownChipReset_inv; exact hs
  refine Verdict.inv_ite ?_ ?_
  · with_reducible apply ownLogClear_inv; exact hs
  refine Verdict.inv_ite ?_ ?_
  · with_reducible apply ownFaultRaise_inv; exact hs
  refine Verdict.inv_ite ?_ ?_
  · with_reducible apply ownLcAdvance_inv; exact hs
  refine Verdict.inv_ite ?_ ?_
  · with_reducible apply ownLcReturn_inv; exact hs
  refine Verdict.inv_ite ?_ ?_
  · with_reducible apply ownLcRetire_inv; exact hs
  refine Verdict.inv_ite ?_ ?_
  · with_reducible apply ownFuseProgram_inv; exact hs
  refine Verdict.inv_ite ?_ ?_
  · with_reducible apply ownBistRun_inv; exact hs
  refine Verdict.inv_ite ?_ ?_
  · with_reducible apply ownAnalogRun_inv; exact hs
  refine Verdict.inv_ite ?_ ?_
  · with_reducible apply ownUpdateOpen_inv; exact hs
  refine Verdict.inv_ite ?_ ?_
  · with_reducible apply ownUpdateVerify_inv; exact hs
  refine Verdict.inv_ite ?_ ?_
  · with_reducible apply ownUpdateActivate_inv; exact hs
  refine Verdict.inv_ite ?_ ?_
  · with_reducible apply ownUpdateClose_inv; exact hs
  refine Verdict.inv_ite ?_ ?_
  · with_reducible apply ownUpdateAbort_inv; exact hs
  refine Verdict.inv_ite ?_ ?_
  · with_reducible apply ownUpdateConfirm_inv; exact hs
  refine Verdict.inv_ite ?_ ?_
  · with_reducible apply ownFabricClearMin_inv; exact hs
  exact trivial

theorem ownWalk_inv (c : Cls) (view ix : Nat) (s : State) (hs : s.Inv) : (ownWalk c view ix s).Inv := by
  unfold ownWalk
  try dsimp only
  repeat' first
    | (with_reducible first
        | assumption | intro _ | apply State.descriptor_inv | apply Verdict.inv_deny | apply Verdict.inv_names)
    | split | dsimp only | (refine pair1_inv (by with_reducible assumption) ?_)

theorem State.forwardOn_inv (s : State) (p : Fin 8) (r : Req) (op : Opcode) (tag : Byte) (ix sub : Nat) (pl : List Byte) (hs : s.Inv) : (State.forwardOn s p r op tag ix sub pl).Inv := by
  unfold State.forwardOn
  try dsimp only
  repeat' first
    | (with_reducible first
        | assumption | intro _ | apply State.Inv.ite_same | apply State.pushReply_inv | apply opChanges_inv
        | apply State.modFwd_inv)
    | split | dsimp only | (with_reducible refine State.Inv.of_mk (s := ?_) ?_ ?_)
    | exact State.Inv.acc (by with_reducible assumption)

theorem State.forwardReply_inv (s : State) (r : Req) (op : Opcode) (ix sub st : Nat) (hs : s.Inv) : (State.forwardReply s r op ix sub st).Inv := by
  unfold State.forwardReply
  try dsimp only
  repeat' first
    | (with_reducible first
        | assumption | intro _ | apply State.answerForward_inv)

end Sys2Proof.Machine
end

