-- ==== Sys2Proof/WellFormed.lean ====
section
/-! DEFINITION. The well-formed commands: operands that their fields on a transport, a pin or a memory can hold. -/

namespace Sys2Proof

/-- A natural number that `n` bytes hold. -/
def fitsBytes (n v : Nat) : Bool := decide (v < 256 ^ n)

/-- An integer that `n` bytes hold in two's complement. -/
def fitsSigned (n : Nat) (v : Int) : Bool := decide (-(2 ^ (8 * n - 1) : Int) ≤ v) && decide (v < 2 ^ (8 * n - 1))

/-- A schema tag is two bytes and LPL, in band, is four bits (R190, R343, R357). -/
def Req.wf (r : Req) : Bool := (match r.schema with | some t => fitsBytes 2 t | none => true) && decide (r.lpl < 16)

/-- INDEX, SUBINDEX and the payload of a request: two bytes, one byte, and at most 4,112 bytes with the schema prefix
(R342, R343). -/
def Req.fits (r : Req) (ix sub : Nat) (pl : List Byte) : Bool :=
  r.wf && fitsBytes 2 ix && fitsBytes 1 sub && decide (pl.length + (if r.schema.isSome then 2 else 0) ≤ 4112)

/-- A list of a fixed length. -/
def sized {α : Type} (n : Nat) (l : List α) : Bool := decide (l.length = n)

/-- What a task of an engine reports: no more cycles held than it ran, and the offset of a code word (R402, R405). -/
def EngWork.wf (w : EngWork) : Bool := decide (w.held ≤ w.cycles) && decide (w.offset < 8192)

/-- Raw codes of a 7-bit converter (R86). -/
def rawCodes (codes : List Int) : Bool := codes.all (fun c => decide (-64 ≤ c) && decide (c < 64))

/-- A well-formed command. -/
def Instr.wf : Instr → Bool
  | .mmpRead r ix sub pl | .mmpReadBlock r ix sub pl | .mmpWriteBlock r ix sub pl | .mmpWalk r ix sub pl => r.fits ix sub pl
  | .mmpWrite r _ ix sub pl => r.fits ix sub pl
  | .mmpForwardRequest r _ port ix sub pl => r.fits ix sub pl && fitsBytes 1 port
  | .blockSequenceTimeout ix sub => fitsBytes 2 ix && fitsBytes 1 sub
  | .mmpFarReply _ frame => decide (11 ≤ frame.length) && decide (frame.length ≤ 4123)
  | .timeSet r t => r.wf && fitsBytes 12 t
  | .timeNextSecondsWrite r v => r.wf && fitsBytes 8 v
  | .timeRateAdjWrite r v => r.wf && fitsSigned 4 v
  | .timePpsEnableWrite r v | .lcAdvance r v | .engPmuClear r v => r.wf && fitsBytes 1 v
  | .engPmuFreezeWrite r v | .faultRaise r v | .selftestAnalogRun r v | .selftestBistRun r v | .updateOpen r v =>
    r.wf && fitsBytes 4 v
  | .adcBgEnableWrite r sub v | .eqFreezeWrite r sub v | .lineRxInvertWrite r sub v | .portModeWrite r sub v
  | .portRateSetWrite r sub v | .testFarLoopWrite r sub v | .txMuteForceWrite r sub v | .voteFarWrite r sub v
  | .voteHostWrite r sub v => r.wf && fitsBytes 1 sub && fitsBytes 1 v
  | .retryWindowWrite r sub v => r.wf && fitsBytes 1 sub && fitsBytes 2 v
  | .pmuOvfStatusWrite r sub v => r.wf && fitsBytes 1 sub && fitsBytes 4 v
  | .hostPresetWrite r sub w =>
    r.wf && fitsBytes 1 sub && (match w with | .sel v => fitsBytes 1 v | .table bs => decide (bs.length ≤ 4112))
  | .errPendingWrite r bs | .intPendingWrite r bs | .updateStagingWrite r bs | .privOpen r bs | .lcReturn r bs => r.fits 0 0 bs
  | .fuseProgram r fail => r.wf && (match fail with | some b => decide (b < 64) | none => true)
  | .adcCalFg r sub | .engRestart r sub | .eyeCapture r sub | .hkAdcResultRead r sub | .injFire r sub | .pmuSampleRead r sub
  | .portCmdOff r sub | .portCmdStandby r sub | .portCmdUp r sub | .testHostPrbs r sub | .testLinePrbs r sub
  | .testLoopHostAnalog r sub | .testLoopHostDigital r sub | .testLoopLineLocal r sub | .testLoopLineTic r sub
  | .tlRestart r sub => r.wf && fitsBytes 1 sub
  | .capArm r | .capTrigger r | .compassPlanNow r | .dictRestoreDefaults r | .dictSave r | .dictStateRead r | .dsRetrain r
  | .fabricClearMin r | .faultLogClear r | .hkFirSwap r | .hkLoad r | .hkSelfCal r | .lcChallengeRead r | .lcRetire r
  | .portApplyBreakout r | .powerChipReset r | .privChallengeRead r | .privClose r | .thermalClearPeak r | .updateAbort r
  | .updateActivateNextStart r | .updateActivateReset r | .updateClose r | .updateConfirm r | .updateVerify r => r.wf
  | .adcWindow _ codes | .tlTrackEntry _ codes | .tlAcquireRetry _ codes | .tlLockLoss _ codes | .adaptCycleEnd _ codes
  | .bankSwap _ codes | .rollbackCheck _ codes | .eyeCaptureDone _ codes | .lineRxOverrun _ codes | .codewordLock _ codes
  | .codewordCandidateFail _ codes | .markerReceived _ codes _ => rawCodes codes
  | .hostAligned _ _ order => order.all (fun k => decide (k < 8))
  | .codewordArrival _ codes errs => rawCodes codes && errs.all (fun e => decide (e < 2048))
  | .checkerLock (.line _) codes | .checkerLockLoss (.line _) codes => rawCodes codes
  | .checkerLock (.host _) codes | .checkerLockLoss (.host _) codes => codes.all (fun v => decide (0 ≤ v) && decide (v < 4))
  | .hostIngressCodeword _ levels => levels.all (fun ls => ls.all (fun x => decide (x < 4)))
  | .retxTimer _ seq | .gapAgeRelease _ seq | .windowAgeWriteoff _ seq | .dsWriteDone _ seq _ | .dsLineRead _ seq _ _ _ _
  | .dsWrite _ seq _ _ _ _ => decide (seq < 2 ^ 24)
  | .hkTrigger _ raw => raw.all (fun x => fitsBytes 2 x)
  | .engTaskDone _ task w | .engTaskMiss _ task w => decide (task < 16) && w.wf
  | .engHalt _ _ offset => decide (offset < 8192)
  | .pmuOverflow _ _ task offset => decide (task < 16) && decide (offset < 8192)
  | .decodeEnd _ _ delivered => (match delivered with | some b => sized 4096 b | none => true)
  | .mmpFarTimeout _ _ | .spiPush _ | .spiPull _ | .spiStatus | .i2cStatusRead | .mdioMmpPush _ | .mdioMmpPull
  | .mdioMmpStatusWrite _ | .mgtStandinWake _ | .privLockoutEnd _ | .privIdleTimeout _ | .ppsEdge _ | .ppsWindowClose
  | .ppsSlewDone | .tick _ | .fabricWindow _ _ | .lineTxUnderrun _ | .hostIngressOverrun _
  | .hostEgressUnderrun _ | .adcFgCalDone _ _ | .rxsynthBandSelectDone _ | .rxsynthUnlock _ | .rxsynthRelock _
  | .rxsynthAttemptTimeout _ | .adcRecalTimer _ | .adcCorrectionRampStep _ | .subadcStuck _ _
  | .adaptTaskDone _ | .eqConvergeEnd _
  | .structuralChange _ | .releaseDeadline _ _ _
  | .layerWatchdog _ _ _ | .frameReceived _ | .slotFill _ _ | .statusRepeat _ | .echoReqTimer _ | .dsTrainingDone _
  | .dsTrainingRetry | .dsChannelRetrain _ _ | .dsRefresh | .dsTempRead _ _ | .txSynthBandDone _ _ | .txSynthLock _
  | .txSynthLockTimeout _ | .dacCheckDone _ _ | .txSynthUnlock _ | .txRelockTimeout _ | .txMuteLift _ | .opticsUpStep _
  | .opticsDownStep _ | .biasStepDone _ | .waveRampStep _ | .hostSignalLock _ | .hostMarkerLoss _
  | .hostSignalLoss _ _ | .hostEgressCodeword _ | .egressStall _ | .breakoutDone | .rateChangeComplete _ | .rateDetect _ _
  | .falseLockTimeout _ | .searchStatusTimeout _ | .carryDelayExpiry _ | .noFrameTimeout _
  | .losHoldoffExpiry _ | .drainLastSlotsDone _ | .drainComplete _ | .testDurationExpiry _ | .forcedLosEnd _ | .capTimeTrigger | .capDone | .hkTrigFallback | .hkRefReady
  | .hkSelfCalDone _ _ | .hkFilterOutput _ | .hkLoadTimer | .ldacNAssert | .adacSlewStep _ | .adacShort _ _
  | .engRestartDone _ | .diodeConversion _ | .monitorMapping | .throttleRise | .throttleFall | .thermalShutdown _
  | .poweredHourEnd | .planDue | .planCommit _ _ | .avsRequestSend | .avsNoAck | .wakePinEdge _ _ | .domainEntryDone _
  | .domainRelease _ _ | .releaseTimeout _ | .powerOn _ | .resetNAssert | .resetNRelease _ | .undervoltage | .chipReset
  | .fuseSenseDone _ | .bistWaveDone _ | .bootLoaded _ | .copyBlockDone | .copyVerifyDone _ | .activeLoaded | .settingsLoaded
  | .startupReady | .lookoutRecordAccept | .safeStateEntry | .selfFault _ | .memScrubRead _ | .analogCheckDone _ _
  | .stagingEraseDone | .pageProgramDone _ | .verifyDone | .probationExpiry | .conversionSave | .porDelayExpiry | .i2cPush _
  | .i2cPull _ | .pwmPeriodStart _ | .s1AmReceived _ _ _ | .s1CodewordDecoded _ _ _ _ _ _ _
  | .settingsSaveDone _ | .testAccessPort _ => true

end Sys2Proof
end

