-- ==== Sys2Proof/Tests/Slice0.lean ====
section
/-! SUPPORT. Tests: an ill-formed command for each check of well-formedness; worked values of the spec; and for every
statement that has hypotheses, states and operands that meet them, clause by clause. Where a hypothesis is about a digest or a
signature, whose functions have no body, its witness takes the answer of that function as a premise. -/

namespace Sys2Proof.Tests.Slice0

open Sys2Proof Sys2Proof.Machine

set_option linter.unusedVariables false
set_option Elab.async false

/-! ## Deciding the hypotheses -/

/-- `State.Accepts` as a Bool. -/
def acceptsB (s : State) (r : Req) (op : Opcode) (ix sub : Nat) (pl : List Byte) : Bool :=
  s.on Dom.MGT && !badOpcode r &&
  (!opChanges op || (s.tp r.path).last.all (fun l => l.tag != r.tag || l.crc != crc16 (frameBody r op ix sub pl))) &&
  !s.tagBusy r.path r.tag && decide ((s.taken r op ix sub pl).outstanding r.path < 8) &&
  decide ((s.taken r op ix sub pl).gate r op ix sub pl = 0) && (op != .read || (topSub ix sub).isNone)

theorem acceptsB_iff (s : State) (r : Req) (op : Opcode) (ix sub : Nat) (pl : List Byte) :
    acceptsB s r op ix sub pl = true ↔ s.Accepts r op ix sub pl := by
  constructor
  · intro h
    simp only [acceptsB, Bool.and_eq_true, decide_eq_true_eq, Bool.not_eq_true', Bool.or_eq_true, List.all_eq_true] at h
    obtain ⟨⟨⟨⟨⟨⟨h1, h2⟩, h3⟩, h4⟩, h5⟩, h6⟩, h7⟩ := h
    refine ⟨h1, h2, fun ho l hl ht hc => ?_, h4, h5, h6, fun ho => ?_⟩
    · rcases h3 with h3 | h3
      · simp [ho] at h3
      · have := h3 l hl
        simp [ht, hc] at this
    · rcases h7 with h7 | h7
      · simp [ho] at h7
      · simpa using h7
  · rintro ⟨h1, h2, h3, h4, h5, h6, h7⟩
    simp only [acceptsB, Bool.and_eq_true, decide_eq_true_eq, Bool.not_eq_true', Bool.or_eq_true, List.all_eq_true]
    refine ⟨⟨⟨⟨⟨⟨h1, h2⟩, ?_⟩, h4⟩, h5⟩, h6⟩, ?_⟩
    · by_cases ho : opChanges op = true
      · right
        intro l hl
        by_cases ht : l.tag = r.tag
        · simpa [ht] using h3 ho l hl ht
        · simp [ht]
      · left; simpa using ho
    · by_cases ho : op = .read
      · right; simp [h7 ho]
      · left; simpa using ho

@[reducible] def decAccepts (s : State) (r : Req) (op : Opcode) (ix sub : Nat) (pl : List Byte) : Decidable (s.Accepts r op ix sub pl) :=
  decidable_of_iff _ (acceptsB_iff s r op ix sub pl)
@[reducible] def decSome {α : Type} {o : Option α} {P : α → Prop} [∀ x, Decidable (P x)] : Decidable (∃ x, o = some x ∧ P x) :=
  decidable_of_iff (o.any (fun x => decide (P x)) = true) (by cases o <;> simp)
@[reducible] def decEvery {α : Type} {o : Option α} {P : α → Prop} [∀ x, Decidable (P x)] : Decidable (∀ x, o = some x → P x) :=
  decidable_of_iff (o.all (fun x => decide (P x)) = true) (by cases o <;> simp)
@[reducible] def decNext (e : Out) (t : State) : Decidable (e = .next t) :=
  decidable_of_iff ((match e with | .next u => decide (u = t) | _ => false) = true) (by cases e <;> simp)
@[reducible] def decSomeOnly {α : Type} {o : Option α} : Decidable (∃ x, o = some x) :=
  decidable_of_iff (o.isSome = true) (by cases o <;> simp)
@[reducible] def decEventObj (ix sub : Nat) : Decidable (EventObj ix sub) := by
  unfold EventObj; infer_instance

/-- A closed proposition decided with the deciders above. -/
theorem wit {p : Prop}
    (d : (∀ s r op ix sub pl, Decidable (State.Accepts s r op ix sub pl)) →
      (∀ {α : Type} {o : Option α} {P : α → Prop} [∀ x, Decidable (P x)], Decidable (∃ x, o = some x ∧ P x)) →
      (∀ {α : Type} {o : Option α} {P : α → Prop} [∀ x, Decidable (P x)], Decidable (∀ x, o = some x → P x)) →
      (∀ (e : Out) (t : State), Decidable (e = .next t)) →
      (∀ {α : Type} {o : Option α}, Decidable (∃ x, o = some x)) → (∀ ix sub, Decidable (EventObj ix sub)) → Decidable p)
    (h : @decide p (d decAccepts decSome decEvery decNext decSomeOnly decEventObj) = true) : p :=
  @of_decide_eq_true p (d decAccepts decSome decEvery decNext decSomeOnly decEventObj) h

theorem partDigest_of {s : State} {base : Nat} {m z : List Byte} (hd : ∀ b, Config.digest b = z)
    (hp : ∀ j < 8, (m.drop (32 + 64 * j + 16)).take 48 = z) (j : Nat) (hj : j ∈ List.range 8) : s.partDigest base m j = true := by
  simp only [State.partDigest, hd, hp j (List.mem_range.mp hj), beq_self_eq_true]

theorem partDigest_at {s : State} {base : Nat} {m z : List Byte} (hd : ∀ b, Config.digest b = z) (hm : s.manifest base = m)
    (hp : ∀ j < 8, (m.drop (32 + 64 * j + 16)).take 48 = z) (j : Nat) (hj : j ∈ List.range 8) :
    s.partDigest base (s.manifest base) j = true := by
  rw [hm]
  exact partDigest_of hd hp j hj

theorem imageGood_of {s : State} {base : Nat} {m z : List Byte} (hd : ∀ b, Config.digest b = z)
    (hv : ∀ k a t, Config.ecdsaVerify k a t = true) (hm : s.manifest base = m) (hf : formFault m = none)
    (hp : ∀ j < 8, (m.drop (32 + 64 * j + 16)).take 48 = z) : s.imageGood base = true := by
  have h : (List.range 8).find? (fun j => !s.partDigest base m j) = none := by
    rw [List.find?_eq_none]
    intro j hj
    simp only [partDigest_of hd hp j hj, Bool.not_true, Bool.false_eq_true, not_false_eq_true]
  unfold State.imageGood State.imageCheck
  simp only [hm, hf, hv, h, Bool.not_true, Bool.false_eq_true, if_false]
  rfl

theorem keyThatOpens_of {s : State} {p : Path} {sig c : List Byte} (hv : ∀ k m t, Config.ecdsaVerify k m t = true)
    (hc : (s.tp p).challenge = some c) (hk : (keysFor (s.nat Ob.LC_STATE 0)) = [.module]) :
    s.keyThatOpens p sig = some .module := by
  simp [State.keyThatOpens, hc, hk, hv]

/-- The unsatisfied checks of the inner code on bits given by a function. -/
def checksOf (f : Nat → Bool) : Nat :=
  ((List.range 4).map (fun r => ((List.range 64).filter (fun a => xorAll ((checkBits r a).map f))).length)).sum

theorem unsatisfied_of {c : Array Bool} {f : Nat → Bool} (h : ∀ v, c.getD v false = f v) : unsatisfied c = checksOf f := by
  simp only [unsatisfied, checksOf, h]

/-- `n` pairs of bits, one pair repeated. -/
def pairBit (a b : Bool) (n v : Nat) : Bool := if v < 2 * n then (if v % 2 = 0 then a else b) else false

theorem getD_pairs {a b : Bool} (n v : Nat) : ((List.replicate n [a, b]).flatten).getD v false = pairBit a b n v := by
  induction n generalizing v with
  | zero => simp [pairBit]
  | succ n ih =>
    rw [List.replicate_succ, List.flatten_cons]
    match v with
    | 0 => simp [pairBit]
    | 1 => simp [pairBit]; omega
    | v + 2 =>
      rw [List.cons_append, List.cons_append, List.nil_append, List.getD_cons_succ, List.getD_cons_succ, ih v]
      have e : (v + 2) % 2 = v % 2 := by omega
      unfold pairBit
      rw [e]
      have h : (v + 2 < 2 * (n + 1)) ↔ v < 2 * n := by omega
      simp only [h]

/-- The hard decisions of a lane whose detector gave the same soft value for every symbol it holds. -/
theorem hardBits_same {x : Dsp} {m : List Nat} {k from_ n : Nat} (ho : x.out = List.replicate k (some m)) (hs : x.staged = k)
    (hn : from_ + n ≤ k) :
    hardBits (x.softFrom false from_ n) = (List.replicate n [decide ((softBits m).1 < 0), decide ((softBits m).2 < 0)]).flatten := by
  have h : ∀ i ∈ List.range n, (if from_ + i < x.staged then (x.out[x.staged - 1 - (from_ + i)]?).join else none) = some m := by
    intro i hi
    have := List.mem_range.mp hi
    rw [if_pos (by omega), ho, List.getElem?_replicate, if_pos (by omega)]
    rfl
  have he : x.softFrom false from_ n = ((List.range n).map (fun _ => [some (softBits m).1, some (softBits m).2])).flatten := by
    unfold Dsp.softFrom
    refine congrArg List.flatten (List.map_congr_left (fun i hi => ?_))
    simp only [h i hi, Bool.false_eq_true, if_false]
  rw [he, List.map_const', List.length_range, hardBits, List.map_flatten, List.map_replicate]
  rfl

theorem unsatisfied_pairs (a b : Bool) (n : Nat) : unsatisfied ((List.replicate n [a, b]).flatten).toArray = checksOf (pairBit a b n) :=
  unsatisfied_of (fun v => by
    rw [Array.getD_eq_getD_getElem?, List.getElem?_toArray, ← List.getD_eq_getElem?_getD]
    exact getD_pairs n v)

theorem candidate_same {s : State} {l : Fin 8} {m : List Nat} {a b : Bool} (hs : s.rx[l].dsp.staged = 16384)
    (ho : s.rx[l].dsp.out = List.replicate 16384 (some m)) (hc : s.srch[l].cand = 0) (hp : s.precoded l = false)
    (ha : decide ((softBits m).1 < 0) = a) (hb : decide ((softBits m).2 < 0) = b) :
    s.candidate l = some (decide (checksOf (pairBit a b 2048) ≤ 64)) := by
  have hu : ∀ k < 8, unsatisfied (hardBits (s.rx[l].dsp.softFrom false (0 % 2048 + 2048 * ((16384 - 0 % 2048) / 2048 - 8 + k)) 2048)).toArray =
      checksOf (pairBit a b 2048) := by
    intro k hk
    rw [hardBits_same ho hs (by omega), ha, hb]
    exact unsatisfied_pairs a b 2048
  unfold State.candidate
  simp only [hs, hc, hp]
  rw [if_neg (by decide)]
  refine congrArg some ?_
  rw [Bool.eq_iff_iff, List.all_eq_true, decide_eq_true_iff]
  constructor
  · intro h
    have := of_decide_eq_true (h 0 (List.mem_range.mpr (by decide)))
    rwa [hu 0 (by decide)] at this
  · intro h k hk
    rw [hu k (List.mem_range.mp hk)]
    exact decide_eq_true h

theorem rxSamples_nil (s : State) (l : Fin 8) : s.rxSamples l [] = s := by
  unfold State.rxSamples
  exact if_pos (Or.inl rfl)

theorem ticDecode_eq (q : List Int) (cap : Nat) : ticDecode q cap = (fun d : MinSum =>
    if syndromeZero d.hard then (d.hard.toList, 0, true) else ((d.iterate 0 cap).1.hard.toList, (d.iterate 0 cap).2)) (MinSum.start q) := rfl

theorem ticDecode_none (q : List Int) : (ticDecode q 0).2.1 = 0 := by
  have h : ∀ d : MinSum, ((fun d : MinSum =>
      if syndromeZero d.hard then (d.hard.toList, 0, true) else ((d.iterate 0 0).1.hard.toList, (d.iterate 0 0).2)) d).2.1 = 0 := by
    intro d
    by_cases h : syndromeZero d.hard = true <;> simp [h, MinSum.iterate]
  rw [ticDecode_eq]
  exact h (MinSum.start q)

theorem ticDecode_cap {q : List Int} {cap n : Nat} (h : cap = 0) : 4 * (ticDecode q cap).2.1 ≤ n := by
  subst h
  rw [ticDecode_none]
  exact Nat.zero_le n
/-! ## Small states -/

def set (s : State) (l : List (Nat × Nat × Int)) : State := l.foldl (fun s x => s.setReg x.1 x.2.1 x.2.2) s
def domsAt (s : State) (v : Int) : State := (List.range 36).foldl (fun s d => s.setReg Ob.POWER_STATE (d + 1) v) s
/-- A chip that has started: DEPLOYED, every domain ON, the dictionary ready. -/
def rdy : State :=
  { State.reset with
    start := { State.reset.start with powered := true }
    regs := (objKey Ob.DICT_STATE 0, 1) :: (List.range 36).map (fun d => (objKey Ob.POWER_STATE (d + 1), 2)) ++
      [(objKey Ob.POWER_START_STEP 0, 8), (objKey Ob.LC_STATE 0, 3), (objKey Ob.LC_NEXT 0, 3)] }
def mdt (s : State) (lc : Int) : State := set s [(Ob.LC_STATE, 0, lc), (Ob.LC_NEXT, 0, lc)]
def ticked (s : State) (n : Nat) : State := (List.range n).foldl (fun s _ => s.refclk) s
def ports (s : State) (st : Int) : State := (List.range 8).foldl (fun s p => s.setReg Ob.PORT_STATE (p + 1) st) s
def rq : Req := ⟨.spi, 0x11, none, 3⟩
def lanes8 (s : State) (ix : Nat) (v : Int) : State := (List.range 8).foldl (fun s p => s.setReg ix (p + 1) v) s
def lanes16 (s : State) (ix : Nat) (v : Int) : State := (List.range 16).foldl (fun s p => s.setReg ix (p + 1) v) s
def mAdc (s : State) (f : AdcLane → AdcLane) : State := { s with adc := s.adc.map f }
def mSy (s : State) (f : RxSynth → RxSynth) : State := { s with rxsynth := s.rxsynth.map f }
def mRx (s : State) (f : RxLane → RxLane) : State := { s with rx := s.rx.map f }
def mTx (s : State) (f : TxLane → TxLane) : State := { s with tx := s.tx.map f }
def mLink (s : State) (f : LinkPort → LinkPort) : State := { s with link := s.link.map f }
def mPort (s : State) (f : PortCtl → PortCtl) : State := { s with port := s.port.map f }
def lock (s : State) : State := mSy s (fun y => { y with locked := true, band := true })
def up (s : State) (st : Int) : State := ports (lock s) st
/-- The engines of lane 0 in a state. -/
def engs (s : State) (v : Int) : State := (lineEngines 0).foldl (fun s e => s.setReg Ob.ENG_STATE (e.val + 1) v) s
def n1 (s : State) : State := lanes8 s Ob.PORT_RATE_ACTIVE 1
def mTic (s : State) (f : TicLane → TicLane) : State := { s with tic := s.tic.map f }

/-! ## Well-formedness refuses each ill-formed operand -/

theorem test_wf_request : (Instr.mmpRead rq 0xFFFF 255 []).wf = true := by decide +kernel
theorem test_wf_schema : (Instr.portCmdUp { rq with schema := some 65536 } 1).wf = false := by decide +kernel
theorem test_wf_lpl : (Instr.dictSave { rq with lpl := 16 }).wf = false := by decide +kernel
theorem test_wf_index : (Instr.mmpRead rq 65536 0 []).wf = false := by decide +kernel
theorem test_wf_subindex : (Instr.portCmdUp rq 256).wf = false := by decide +kernel
theorem test_wf_payload : (Instr.mmpWrite rq false 0 0 (List.replicate 4113 0)).wf = false := by decide +kernel
theorem test_wf_payload_schema : (Instr.mmpWrite { rq with schema := some 1 } false 0 0 (List.replicate 4111 0)).wf = false := by
  decide +kernel
theorem test_wf_forward_port : (Instr.mmpForwardRequest rq .read 256 0 0 []).wf = false := by decide +kernel
theorem test_wf_block_index : (Instr.blockSequenceTimeout 65536 0).wf = false := by decide +kernel
theorem test_wf_block_subindex : (Instr.blockSequenceTimeout 0 256).wf = false := by decide +kernel
theorem test_wf_reply_short : (Instr.mmpFarReply 0 (List.replicate 10 0)).wf = false := by decide +kernel
theorem test_wf_reply_long : (Instr.mmpFarReply 0 (List.replicate 4124 0)).wf = false := by decide +kernel
theorem test_wf_time : (Instr.timeSet rq (2 ^ 96)).wf = false := by decide +kernel
theorem test_wf_seconds : (Instr.timeNextSecondsWrite rq (2 ^ 64)).wf = false := by decide +kernel
theorem test_wf_rate : (Instr.timeRateAdjWrite rq (2 ^ 31)).wf = false := by decide +kernel
theorem test_wf_rate_low : (Instr.timeRateAdjWrite rq (-(2 ^ 31) - 1)).wf = false := by decide +kernel
theorem test_wf_byte : (Instr.lcAdvance rq 256).wf = false := by decide +kernel
theorem test_wf_word : (Instr.updateOpen rq (2 ^ 32)).wf = false := by decide +kernel
theorem test_wf_lane_byte : (Instr.portModeWrite rq 1 256).wf = false := by decide +kernel
theorem test_wf_window : (Instr.retryWindowWrite rq 1 65536).wf = false := by decide +kernel
theorem test_wf_overflow_status : (Instr.pmuOvfStatusWrite rq 1 (2 ^ 32)).wf = false := by decide +kernel
theorem test_wf_preset : (Instr.hostPresetWrite rq 1 (.sel 256)).wf = false := by decide +kernel
theorem test_wf_preset_table : (Instr.hostPresetWrite rq 1 (.table (List.replicate 4113 0))).wf = false := by decide +kernel
theorem test_wf_bytes : (Instr.privOpen rq (List.replicate 4113 0)).wf = false := by decide +kernel
theorem test_wf_fuse_cell : (Instr.fuseProgram rq (some 64)).wf = false := by decide +kernel
theorem test_wf_codes : (Instr.adcWindow 0 [-65]).wf = false := by decide +kernel
theorem test_wf_marker_codes : (Instr.markerReceived 0 [64] 0).wf = false := by decide +kernel
theorem test_wf_codeword_codes : (Instr.codewordArrival 0 [64] []).wf = false := by decide +kernel
theorem test_wf_errors : (Instr.codewordArrival 0 [] [2048]).wf = false := by decide +kernel
theorem test_wf_line_decisions : (Instr.checkerLock (.line 0) [-65]).wf = false := by decide +kernel
theorem test_wf_host_decisions : (Instr.checkerLockLoss (.host 0) [4]).wf = false := by decide +kernel
theorem test_wf_levels : (Instr.hostIngressCodeword 0 [[0, 4]]).wf = false := by decide +kernel
theorem test_wf_order : (Instr.hostAligned 0 0 [8]).wf = false := by decide +kernel
theorem test_wf_sequence : (Instr.retxTimer 0 (2 ^ 24)).wf = false := by decide +kernel
theorem test_wf_samples : (Instr.hkTrigger .selected #v[0, 65536, 0, 0]).wf = false := by decide +kernel
theorem test_wf_task : (Instr.engTaskDone 0 16 {}).wf = false := by decide +kernel
theorem test_wf_task_held : (Instr.engTaskDone 0 1 { cycles := 3, held := 4 }).wf = false := by decide +kernel
theorem test_wf_task_offset : (Instr.engTaskMiss 0 1 { offset := 8192 }).wf = false := by decide +kernel
theorem test_wf_halt : (Instr.engHalt 0 false 8192).wf = false := by decide +kernel
theorem test_wf_counter_task : (Instr.pmuOverflow 0 0 16 0).wf = false := by decide +kernel
theorem test_wf_counter_offset : (Instr.pmuOverflow 0 0 0 8192).wf = false := by decide +kernel
theorem test_wf_decoded : (Instr.decodeEnd 0 0 (some [true])).wf = false := by decide +kernel

/-! ## Worked values of the spec -/

/-- The CRC over the nine bytes "123456789" (spec/13, after R344). -/
theorem test_crc16 : crc16 [0x31, 0x32, 0x33, 0x34, 0x35, 0x36, 0x37, 0x38, 0x39] = 0x29B1 := by decide +kernel

/-- TEST.FAR_LOOP forwarded is a frame of 11 bytes (spec/13, the example after R357). -/
theorem test_frame_length : (closeFrame (frameBody rq .write 0x0E0A 6 [1])).length = 11 := by decide +kernel

/-- Payload bit c[0] enters checks 64 + 63, 128 + 62 and 192 + 61 of the inner code (spec/06, the example of R151). -/
theorem test_inner_checks :
    (List.range 4).map (fun r => (List.range 64).filter (fun a => (checkBits r a).contains 0)) = [[], [63], [62], [61]] := by
  decide +kernel

/-- The counter 20 µs ahead at edge 2, on an edge stamped at the pin (spec/02, the example of R57). -/
def ppsAhead : State :=
  { set rdy [(Ob.TIME_PPS_ENABLE, 0, 1)] with
    time := { rdy.time with acc := 5 * 2 ^ 80 + 2 ^ 80 / 50000 + 2 ^ 80 / 20000000, edges := 1 } }

/-- The state a command leads to, where it leads to one. -/
def after (o : Out) : Option State := match o with | .next t => some t | _ => none

theorem test_pps_rate : (after (exec (.ppsEdge 0) ppsAhead)).map (fun t => t.reg Ob.TIME_RATE_ADJ 0) = some (-21990233) := by
  decide +kernel
theorem test_pps_steps : (after (exec (.ppsEdge 0) ppsAhead)).map (fun t => t.reg Ob.TIME_EPOCH 0) = some 1 := by decide +kernel

/-- 1.200 LSB of noise over 0.500 LSB of self-noise and a TIA of 1,500 Ω are 3.409 µA (spec/04, the example of R111). -/
theorem test_noise_current : noiseUa 1200 500 1500 = 3409 := by decide +kernel

/-- A far end 0.03 % fast takes the rate word to −1,288,104 units, which reads +300,000 (spec/05, the example of R122). -/
theorem test_rate_word : freqPpb (-1288104) = 300000 := by decide +kernel

/-- Eight lanes of one port at N1, 0.65 V, a mean of 6.1 iterations in the tick. -/
def decoding : State :=
  { set rdy [(Ob.PORT_RATE_ACTIVE, 1, 1), (Ob.COMPASS_AVS_READBACK_MV, 0, 650)] with
    breakout := #v[7, 7]
    tic := rdy.tic.map (fun t => { t with tickCw := 10, tickIters := 61 }) }

/-- They take 6,588 mW (spec/03, the example of R80). -/
theorem test_decode_power : (decoding.decodePower 0).reg Ob.FABRIC_DECODE_POWER_MW 1 = 6588 := by decide +kernel

/-- Word 0x1F3A0 of group 2 in error twice running is a hard fault with detail 0x007C_E802 (spec/18, the example of R472). -/
theorem test_hard_fault :
    (after (exec (.memScrubRead [⟨.group 2, 0x1F3A0, .frame 0 9, 1, true⟩]) rdy)).map
      (fun t => (t.reg Ob.MEM_CORRECTED 3, t.lookout.queue.any (fun q => q.src == Src.MEM_HARD_FAULT && q.detail == 0x007CE802))) =
    some (2, true) := by decide +kernel

/-- No row of the opcode table has bits, so no word spells a command. -/
theorem test_no_table_words (n w : Nat) : decodeTableWord n w = none := rfl

/-- After reset, with no supply, nothing waits and the block stays as it is. -/
theorem test_reset_idles : State.reset.pending = [] ∧ State.reset.start.powered = false := by decide +kernel

/-! ## Witnesses -/


namespace W01
def s1 : State := { ticked rdy 3 with time := { (ticked rdy 3).time with acc := 5 * 2 ^ 80 + 12345 } }
def pps (s : State) : State := set s [(Ob.TIME_PPS_ENABLE, 0, 1), (Ob.TIME_STATE, 0, 2)]
def tm (s : State) (f : TimeBase → TimeBase) : State := { s with time := f s.time }

/-- States that meet the hypotheses of `StepRunsFrontCommand`, clause by clause. -/
theorem witness_StepRunsFrontCommand :
    (∃ c : Instr, ∃ rest : List Instr, ∃ s : State, (s.pending = c :: rest)) := by
  · exact ⟨.ldacNAssert, [], { rdy with pending := [.ldacNAssert] }, wit (fun _ _ _ _ _ _ => inferInstance) (by decide +kernel)⟩

/-- States that meet the hypotheses of `IdleStepIsOneCycle`, clause by clause. -/
theorem witness_IdleStepIsOneCycle :
    (∃ s : State, (s.pending = []) ∧ (s.start.powered = true)) := by
  · exact ⟨rdy, wit (fun _ _ _ _ _ _ => inferInstance) (by decide +kernel)⟩

/-- States that meet the hypotheses of `EveryStepKeepsSoundness`, clause by clause. -/
theorem witness_EveryStepKeepsSoundness :
    (∃ s : State, ∃ t : State, s.Inv ∧ step s = .next t) := by
  · exact ⟨{ State.reset with pending := [.ldacNAssert] }, _, ⟨by decide +kernel, by decide +kernel, by decide +kernel, by decide +kernel, by decide +kernel, by decide +kernel⟩, rfl⟩

/-- States that meet the hypotheses of `DuplicateRequestRepeatsItsReply`, clause by clause. -/
theorem witness_DuplicateRequestRepeatsItsReply :
    (∃ s : State, ∃ r : Req, ∃ op : Opcode, ∃ ix : Nat, ∃ sub : Nat, ∃ pl : List Byte, ∃ own : State → Verdict, ∃ l : LastReq, (s.on Dom.MGT = true) ∧ (badOpcode r = false) ∧ (opChanges op = true) ∧ ((s.tp r.path).last.find? (fun m => m.tag == r.tag && m.crc == crc16 (frameBody r op ix sub pl)) = some l)) := by
  · exact ⟨rdy.modTp .spi (fun t => { t with last := [(⟨0x11, crc16 (frameBody rq .exec Ob.LINE_TL_RESTART 1 [0]), none, none⟩ : LastReq)] }), rq, .exec, Ob.LINE_TL_RESTART, 1, [0], fun _ => .deny 1, (⟨0x11, crc16 (frameBody rq .exec Ob.LINE_TL_RESTART 1 [0]), none, none⟩ : LastReq), wit (fun _ _ _ _ _ _ => inferInstance) (by decide +kernel)⟩

/-- States that meet the hypotheses of `RefusedRequestsHaveNoEffect`, clause by clause. -/
theorem witness_RefusedRequestsHaveNoEffect :
    (∃ s : State, ∃ r : Req, ∃ op : Opcode, ∃ ix : Nat, ∃ sub : Nat, ∃ pl : List Byte, ∃ own : State → Verdict, (s.on Dom.MGT = true) ∧ (badOpcode r = false) ∧ (opChanges op = true → ∀ l ∈ (s.tp r.path).last, l.tag = r.tag → l.crc ≠ crc16 (frameBody r op ix sub pl)) ∧ (s.tagBusy r.path r.tag = true)) ∧
    (∃ s : State, ∃ r : Req, ∃ op : Opcode, ∃ ix : Nat, ∃ sub : Nat, ∃ pl : List Byte, ∃ own : State → Verdict, (s.on Dom.MGT = true) ∧ (badOpcode r = false) ∧ (opChanges op = true → ∀ l ∈ (s.tp r.path).last, l.tag = r.tag → l.crc ≠ crc16 (frameBody r op ix sub pl)) ∧ (s.tagBusy r.path r.tag = false) ∧ (8 ≤ (s.taken r op ix sub pl).outstanding r.path)) ∧
    (∃ s : State, ∃ r : Req, ∃ op : Opcode, ∃ ix : Nat, ∃ sub : Nat, ∃ pl : List Byte, ∃ own : State → Verdict, (s.on Dom.MGT = true) ∧ (badOpcode r = false) ∧ (opChanges op = true → ∀ l ∈ (s.tp r.path).last, l.tag = r.tag → l.crc ≠ crc16 (frameBody r op ix sub pl)) ∧ (s.tagBusy r.path r.tag = false) ∧ ((s.taken r op ix sub pl).outstanding r.path < 8) ∧ ((s.taken r op ix sub pl).gate r op ix sub pl ≠ 0)) := by
  refine ⟨?_, ?_, ?_⟩
  · exact ⟨rdy.modTp .spi (fun t => { t with wait := [(0x11, none)] }), rq, .exec, Ob.LINE_TL_RESTART, 1, [0], fun _ => .deny 1, wit (fun _ _ _ _ _ _ => inferInstance) (by decide +kernel)⟩
  · exact ⟨rdy.modTp .spi (fun t => { t with wait := (List.replicate 8 (0x30, none)) }), rq, .exec, Ob.LINE_TL_RESTART, 1, [0], fun _ => .deny 1, wit (fun _ _ _ _ _ _ => inferInstance) (by decide +kernel)⟩
  · exact ⟨rdy, rq, .exec, Ob.LINE_TL_RESTART, 9, [0], fun _ => .deny 1, wit (fun _ _ _ _ _ _ => inferInstance) (by decide +kernel)⟩

/-- States that meet the hypotheses of `EventsCountAndRecordOncePerTick`, clause by clause. -/
theorem witness_EventsCountAndRecordOncePerTick :
    (∃ s : State, ∃ src : Nat, ∃ inst : Nat, ∃ detail : Nat, ∃ ix : Nat, ∃ sub : Nat, (sub < 256) ∧ (¬ EventObj ix sub) ∧ ((src, inst) ∈ s.lookout.given)) ∧
    (∃ s : State, ∃ src : Nat, ∃ inst : Nat, ∃ detail : Nat, ∃ ix : Nat, ∃ sub : Nat, (sub < 256) ∧ (¬ EventObj ix sub) ∧ ((src, inst) ∉ s.lookout.given) ∧ (s.lookout.queue.length < 16)) := by
  refine ⟨?_, ?_⟩
  · exact ⟨{ rdy with lookout := { rdy.lookout with given := [(3, 5)] } }, 3, 5, 7, 0x0200, 255, wit (fun _ _ _ _ _ _ => inferInstance) (by decide +kernel)⟩
  · exact ⟨rdy, 0, 0, 0, 0, 0, wit (fun _ _ _ _ _ _ => inferInstance) (by decide +kernel)⟩

/-- States that meet the hypotheses of `TimeSetLoadsTheCounter`, clause by clause. -/
theorem witness_TimeSetLoadsTheCounter :
    (∃ s : State, ∃ r : Req, ∃ t : Nat, (t < 2 ^ 96) ∧ (s.Accepts r .exec Ob.TIME_SET 0 (leBytes 12 t)) ∧ (s.reg Ob.TIME_PPS_ENABLE 0 = 0)) ∧
    (∃ s : State, ∃ ph : Fin 8, (s.reg Ob.TIME_PPS_ENABLE 0 ≠ 0) ∧ (s.time.edges = 0 ∨ s.inWindow (s.edgeValue ph.val) = true) ∧ 
      let e := s.edgeValue ph.val - (s.edgeTarget (s.edgeValue ph.val)).1 * 2 ^ 80
      (e ≤ 0 ∨ 2 ^ 80 < e * 1000000)) ∧
    (∃ s : State, ∃ r : Req, ∃ t : Nat, (t < 2 ^ 96) ∧ (s.Accepts r .exec Ob.TIME_SET 0 (leBytes 12 t)) ∧ (s.reg Ob.TIME_PPS_ENABLE 0 ≠ 0)) := by
  refine ⟨?_, ?_, ?_⟩
  · exact ⟨rdy, rq, 0, wit (fun _ _ _ _ _ _ => inferInstance) (by decide +kernel)⟩
  · exact ⟨(pps s1), 0, wit (fun _ _ _ _ _ _ => inferInstance) (by decide +kernel)⟩
  · exact ⟨(pps s1), rq, 0, wit (fun _ _ _ _ _ _ => inferInstance) (by decide +kernel)⟩

/-- States that meet the hypotheses of `TimeWritesTakeEffect`, clause by clause. -/
theorem witness_TimeWritesTakeEffect :
    (∃ s : State, ∃ r : Req, ∃ v : Nat, (v < 2 ^ 64) ∧ (s.Accepts r .write Ob.TIME_NEXT_SECONDS 0 (leBytes 8 v))) ∧
    (∃ s : State, ∃ r : Req, ∃ v : Nat, (v ≤ 1) ∧ (s.Accepts r .write Ob.TIME_PPS_ENABLE 0 (leBytes 1 v))) ∧
    (∃ s : State, ∃ r : Req, ∃ v : Int, (-(2 ^ 31) ≤ v) ∧ (v < 2 ^ 31) ∧ (s.Accepts r .write Ob.TIME_RATE_ADJ 0 (leInt 4 v)) ∧ (s.reg Ob.TIME_PPS_ENABLE 0 = 0)) ∧
    (∃ s : State, ∃ r : Req, ∃ v : Int, (-(2 ^ 31) ≤ v) ∧ (v < 2 ^ 31) ∧ (s.Accepts r .write Ob.TIME_RATE_ADJ 0 (leInt 4 v)) ∧ (s.reg Ob.TIME_PPS_ENABLE 0 ≠ 0)) := by
  refine ⟨?_, ?_, ?_, ?_⟩
  · exact ⟨rdy, rq, 0, wit (fun _ _ _ _ _ _ => inferInstance) (by decide +kernel)⟩
  · exact ⟨rdy, rq, 0, wit (fun _ _ _ _ _ _ => inferInstance) (by decide +kernel)⟩
  · exact ⟨rdy, rq, 0, wit (fun _ _ _ _ _ _ => inferInstance) (by decide +kernel)⟩
  · exact ⟨(pps s1), rq, 0, wit (fun _ _ _ _ _ _ => inferInstance) (by decide +kernel)⟩

/-- States that meet the hypotheses of `PpsDisciplinesTheCounter`, clause by clause. -/
theorem witness_PpsDisciplinesTheCounter :
    (∃ s : State, ∃ ph : Fin 8, (s.reg Ob.TIME_PPS_ENABLE 0 ≠ 0) ∧ (s.time.edges = 0 ∨ s.inWindow (s.edgeValue ph.val) = true)) ∧
    (∃ s : State, ∃ ph : Fin 8, (s.reg Ob.TIME_PPS_ENABLE 0 = 0)) ∧
    (∃ s : State, ∃ ph : Fin 8, (s.reg Ob.TIME_PPS_ENABLE 0 ≠ 0) ∧ (s.time.edges ≠ 0) ∧ (s.inWindow (s.edgeValue ph.val) = false)) ∧
    (∃ s : State, (s.reg Ob.TIME_PPS_ENABLE 0 ≠ 0) ∧ (s.time.edges ≠ 0)) ∧
    (∃ s : State, (s.time.slewing = true)) := by
  refine ⟨?_, ?_, ?_, ?_, ?_⟩
  · exact ⟨(pps s1), 0, wit (fun _ _ _ _ _ _ => inferInstance) (by decide +kernel)⟩
  · exact ⟨rdy, 0, wit (fun _ _ _ _ _ _ => inferInstance) (by decide +kernel)⟩
  · exact ⟨(tm (pps s1) (fun t => { t with acc := 5 * 2 ^ 80 + 2 ^ 70, edges := 1 })), 0, wit (fun _ _ _ _ _ _ => inferInstance) (by decide +kernel)⟩
  · exact ⟨(tm (pps s1) (fun t => { t with acc := 5 * 2 ^ 80 + 2 ^ 70, edges := 1 })), wit (fun _ _ _ _ _ _ => inferInstance) (by decide +kernel)⟩
  · exact ⟨(tm (pps s1) (fun t => { t with slewing := true, slewLeft := 2 ^ 60 })), wit (fun _ _ _ _ _ _ => inferInstance) (by decide +kernel)⟩

end W01

namespace W02

/-- States that meet the hypotheses of `FabricWindowSetsMargins`, clause by clause. -/
theorem witness_FabricWindowSetsMargins :
    (∃ s : State, ∃ l : Fin 8, ∃ m : FabricMeas, (s.on (Dom.lrx l) = true)) ∧
    (∃ s : State, ∃ l : Fin 8, ∃ m : FabricMeas, (s.on (Dom.lrx l) = false)) := by
  refine ⟨?_, ?_⟩
  · exact ⟨rdy, 0, {}, wit (fun _ _ _ _ _ _ => inferInstance) (by decide +kernel)⟩
  · exact ⟨(domsAt rdy 0), 0, {}, wit (fun _ _ _ _ _ _ => inferInstance) (by decide +kernel)⟩

/-- States that meet the hypotheses of `ExhaustedBoundariesCountAndMark`, clause by clause. -/
theorem witness_ExhaustedBoundariesCountAndMark :
    (∃ s : State, ∃ l : Fin 8, ∃ codes : List Int, (s.on (Dom.lrx l) = true)) ∧
    (∃ s : State, ∃ l : Fin 8, (s.on (Dom.ltx l) = true) ∧ (2 ≤ s.txState l)) ∧
    (∃ s : State, ∃ h : Fin 16, ∃ p : Fin 8, (s.portOfHost h = some p) ∧ (s.on (Dom.hq h) = true)) ∧
    (∃ s : State, ∃ l : Fin 8, ∃ h : Fin 16, ∃ codes : List Int, (s.on (Dom.lrx l) = false)) ∧
    (∃ s : State, ∃ l : Fin 8, ∃ h : Fin 16, ∃ codes : List Int, (s.on (Dom.ltx l) = false ∨ s.txState l < 2)) ∧
    (∃ s : State, ∃ l : Fin 8, ∃ h : Fin 16, ∃ codes : List Int, (s.portOfHost h = none ∨ s.on (Dom.hq h) = false)) ∧
    (∃ s : State, ∃ r : Req, (s.Accepts r .exec Ob.FABRIC_CLEAR_MIN 0 [0])) := by
  refine ⟨?_, ?_, ?_, ?_, ?_, ?_, ?_⟩
  · exact ⟨rdy, 0, [], wit (fun _ _ _ _ _ _ => inferInstance) (by decide +kernel)⟩
  · exact ⟨(lanes8 rdy Ob.TX_STATE 3), 0, wit (fun _ _ _ _ _ _ => inferInstance) (by decide +kernel)⟩
  · exact ⟨rdy, 0, wit (fun _ _ _ _ _ _ => inferInstance) (by decide +kernel)⟩
  · exact ⟨(domsAt rdy 0), 0, 0, [], wit (fun _ _ _ _ _ _ => inferInstance) (by decide +kernel)⟩
  · exact ⟨rdy, 0, 0, [], wit (fun _ _ _ _ _ _ => inferInstance) (by decide +kernel)⟩
  · exact ⟨(domsAt rdy 0), 0, 0, [], wit (fun _ _ _ _ _ _ => inferInstance) (by decide +kernel)⟩
  · exact ⟨rdy, rq, wit (fun _ _ _ _ _ _ => inferInstance) (by decide +kernel)⟩

end W02

namespace W03
def fgBad : FgResult := { coarse := Vector.replicate 128 0, fine := (Vector.replicate 128 0).set 3 200, gain := Vector.replicate 128 5, skew := 70, noise := 500, fullScale := 600 }
def a0 := lanes8 (lock rdy) Ob.LINE_LOS_RAW 0
def capArm (s : State) (src : Int) : State := set s [(Ob.TEST_CAP_STATE, 0, 1), (Ob.TEST_CAP_SOURCE, 0, src), (Ob.TEST_LINE_CHK_STATE, 1, 1)]

/-- States that meet the hypotheses of `ForegroundCalibrationRuns`, clause by clause. -/
theorem witness_ForegroundCalibrationRuns :
    (∃ s : State, ∃ r : Req, ∃ l : Fin 8, (s.Accepts r .exec Ob.LINE_ADC_CAL_FG (l.val + 1) [0]) ∧ (s.on (Dom.lrx l) = true) ∧ (∀ p, s.portOf l = some p → s.pstate p = PS.OFF ∨ s.pstate p = PS.STANDBY) ∧ (s.adc[l].fgRun = false) ∧ (s.adc[l].fgWait = false)) ∧
    (∃ s : State, ∃ r : Req, ∃ l : Fin 8, (s.Accepts r .exec Ob.LINE_ADC_CAL_FG (l.val + 1) [0]) ∧ (s.on (Dom.lrx l) = false ∨ ∃ p, s.portOf l = some p ∧ s.pstate p ≠ PS.OFF ∧ s.pstate p ≠ PS.STANDBY)) ∧
    (∃ s : State, ∃ r : Req, ∃ l : Fin 8, (s.Accepts r .exec Ob.LINE_ADC_CAL_FG (l.val + 1) [0]) ∧ (s.on (Dom.lrx l) = true) ∧ (∀ p, s.portOf l = some p → s.pstate p = PS.OFF ∨ s.pstate p = PS.STANDBY) ∧ (s.adc[l].fgRun = true ∨ s.adc[l].fgWait = true)) ∧
    (∃ s : State, ∃ l : Fin 8, ∃ m : FgResult, (s.adc[l].fgRun = true)) ∧
    (∃ s : State, ∃ l : Fin 8, ∃ m : FgResult, (s.adc[l].fgRun = false)) := by
  refine ⟨?_, ?_, ?_, ?_, ?_⟩
  · exact ⟨rdy, rq, 0, wit (fun _ _ _ _ _ _ => inferInstance) (by decide +kernel)⟩
  · exact ⟨(capArm (lanes8 (up rdy 4) Ob.LINE_TL_STATE 2) 0), rq, 0, wit (fun _ _ _ _ _ _ => inferInstance) (by decide +kernel)⟩
  · exact ⟨(mAdc a0 (fun a => { a with fgRun := true })), rq, 0, wit (fun _ _ _ _ _ _ => inferInstance) (by decide +kernel)⟩
  · exact ⟨(mAdc a0 (fun a => { a with fgRun := true })), 0, fgBad, wit (fun _ _ _ _ _ _ => inferInstance) (by decide +kernel)⟩
  · exact ⟨rdy, 0, fgBad, wit (fun _ _ _ _ _ _ => inferInstance) (by decide +kernel)⟩

/-- States that meet the hypotheses of `BackgroundCalibrationAndLossOfSignal`, clause by clause. -/
theorem witness_BackgroundCalibrationAndLossOfSignal :
    (∃ s : State, ∃ r : Req, ∃ l : Fin 8, ∃ v : Nat, (v ≤ 1) ∧ (s.Accepts r .write Ob.LINE_ADC_BG_ENABLE (l.val + 1) (leBytes 1 v))) ∧
    (∃ s : State, ∃ l : Fin 8, (s.adc[l].recalAt.isSome = true)) ∧
    (∃ s : State, ∃ l : Fin 8, (s.on (Dom.lrx l) = true)) ∧
    (∃ s : State, ∃ l : Fin 8, ∃ k : Fin 128, (s.on (Dom.lrx l) = true) ∧ (s.reg Ob.LINE_LOS_RAW (l.val + 1) = 0) ∧ (k.val ∉ s.adc[l].failed)) ∧
    (∃ s : State, ∃ l : Fin 8, ∃ codes : List Int, ∃ k : Fin 8, (s.on (Dom.lrx l) = true) ∧ 
      let u := s.rxSamples l codes
      (k ≠ l)) ∧
    (∃ s : State, ∃ l : Fin 8, ∃ codes : List Int, (s.on (Dom.lrx l) = false)) := by
  refine ⟨?_, ?_, ?_, ?_, ?_, ?_⟩
  · exact ⟨rdy, rq, 0, 0, wit (fun _ _ _ _ _ _ => inferInstance) (by decide +kernel)⟩
  · exact ⟨(mAdc (lanes8 a0 Ob.LINE_TL_STATE 2) (fun a => { a with fgRun := true, fgCold := true, recalAt := some 100, fineT := Vector.replicate 128 5, gainT := Vector.replicate 128 (-5), skewT := 3, failed := [3] })), 0, wit (fun _ _ _ _ _ _ => inferInstance) (by decide +kernel)⟩
  · exact ⟨rdy, 0, wit (fun _ _ _ _ _ _ => inferInstance) (by decide +kernel)⟩
  · exact ⟨a0, 0, 0, wit (fun _ _ _ _ _ _ => inferInstance) (by decide +kernel)⟩
  · exact ⟨rdy, 0, [], 1, wit (fun _ _ _ _ _ _ => inferInstance) (by decide +kernel)⟩
  · exact ⟨(domsAt rdy 0), 0, [], wit (fun _ _ _ _ _ _ => inferInstance) (by decide +kernel)⟩

/-- States that meet the hypotheses of `SamplingSynthesiserLocks`, clause by clause. -/
theorem witness_SamplingSynthesiserLocks :
    (∃ s : State, ∃ h : Fin 2, (s.on (Dom.synth h) = true) ∧ (s.rxsynth[h].locked = false) ∧ (s.rxsynth[h].selecting = true ∨ s.rxsynth[h].band = false)) ∧
    (∃ s : State, ∃ h : Fin 2, (s.on (Dom.synth h) = true) ∧ (s.rxsynth[h].locked = false) ∧ (s.rxsynth[h].selecting = false) ∧ (s.rxsynth[h].band = true)) ∧
    (∃ s : State, ∃ h : Fin 2, (s.rxsynth[h].locked = true)) ∧
    (∃ s : State, ∃ h : Fin 2, (s.on (Dom.synth h) = false)) := by
  refine ⟨?_, ?_, ?_, ?_⟩
  · exact ⟨rdy, 0, wit (fun _ _ _ _ _ _ => inferInstance) (by decide +kernel)⟩
  · exact ⟨(mSy rdy (fun y => { y with band := true, attempts := 2 })), 0, wit (fun _ _ _ _ _ _ => inferInstance) (by decide +kernel)⟩
  · exact ⟨a0, 0, wit (fun _ _ _ _ _ _ => inferInstance) (by decide +kernel)⟩
  · exact ⟨(domsAt rdy 0), 0, wit (fun _ _ _ _ _ _ => inferInstance) (by decide +kernel)⟩

end W03

namespace W04
def b1 : EqBank := { structureId := 1, ffe := List.replicate 41 7, dfe := 3 }
def mD (s : State) (f : Dsp → Dsp) : State := mRx s (fun x => { x with dsp := f x.dsp })
def r0 := mD (engs (lanes8 (up rdy 3) Ob.LINE_LOS_RAW 0) 1) (fun x => { x with sym := 4106, steady := 64, acq := 10 })
def g1 : CycleGrad := ⟨List.replicate 48 (2 ^ 60), 16, 3, 64⟩
def tl (s : State) (v e : Int) := lanes8 (lanes8 s Ob.LINE_TL_STATE v) Ob.LINE_EQ_STATE e
def chkOn (s : State) := lanes8 (set s [(Ob.TEST_CAP_STATE, 0, 1), (Ob.TEST_CAP_SOURCE, 0, 3)]) Ob.TEST_LINE_CHK_STATE 1

/-- States that meet the hypotheses of `TimingLoopChangesState`, clause by clause. -/
theorem witness_TimingLoopChangesState :
    (∃ s : State, ∃ r : Req, ∃ l : Fin 8, (s.Accepts r .exec Ob.LINE_TL_RESTART (l.val + 1) [0]) ∧ (s.tl l ≠ 0)) ∧
    (∃ s : State, ∃ r : Req, ∃ l : Fin 8, (s.Accepts r .exec Ob.LINE_TL_RESTART (l.val + 1) [0]) ∧ (s.tl l = 0)) ∧
    (∃ s : State, ∃ l : Fin 8, ∃ codes : List Int, 
      let s1 := s.rxSamples l codes
      (s.tl l = 1) ∧ (64 ≤ s1.rx[l].dsp.steady)) ∧
    (∃ s : State, ∃ l : Fin 8, ∃ codes : List Int, 
      let s1 := s.rxSamples l codes
      (s.tl l = 1) ∧ (s1.rx[l].dsp.w = 2147484 ∨ s1.rx[l].dsp.w = -2147484 ∨ 2048 ≤ s1.rx[l].dsp.acq)) ∧
    (∃ s : State, ∃ l : Fin 8, ∃ codes : List Int, ∃ c : Nat, 
      let s1 := s.rxSamples l codes
      (s1.lockLoss l = some c)) ∧
    (∃ s : State, ∃ l : Fin 8, (s.rx[l].dsp.w = 2147484 ∨ s.rx[l].dsp.w = -2147484 ∨ 1024 ≤ s.rx[l].dsp.low) ∧ (s.tl l = 2)) ∧
    (∃ s : State, ∃ l : Fin 8, ∃ codes : List Int, 
      let s1 := s.rxSamples l codes
      (s.tl l ≠ 1 ∨ s1.rx[l].dsp.steady < 64)) ∧
    (∃ s : State, ∃ l : Fin 8, ∃ codes : List Int, 
      let s1 := s.rxSamples l codes
      (s.tl l ≠ 1 ∨ (s1.rx[l].dsp.w.natAbs ≠ 2147484 ∧ s1.rx[l].dsp.acq < 2048))) ∧
    (∃ s : State, ∃ l : Fin 8, ∃ codes : List Int, 
      let s1 := s.rxSamples l codes
      (s1.lockLoss l = none)) ∧
    (∃ s : State, ∃ l : Fin 8, ∃ codes : List Int, 
      let s1 := s.rxSamples l codes
      (s.tl l ≠ 2)) := by
  refine ⟨?_, ?_, ?_, ?_, ?_, ?_, ?_, ?_, ?_, ?_⟩
  · exact ⟨(tl r0 1 1), rq, 0, wit (fun _ _ _ _ _ _ => inferInstance) (by decide +kernel)⟩
  · exact ⟨rdy, rq, 0, wit (fun _ _ _ _ _ _ => inferInstance) (by decide +kernel)⟩
  · exact ⟨(tl r0 1 1), 0, [], wit (fun _ _ _ _ _ _ => inferInstance) (by decide +kernel)⟩
  · exact ⟨(tl (mD (mRx r0 (fun x => { x with retryRun := 7, bankA := b1, swap := some { structural := true, block := 3 } })) (fun x => { x with w := 2147484, acq := 2048 })) 1 1), 0, [], wit (fun _ _ _ _ _ _ => inferInstance) (by decide +kernel)⟩
  · exact ⟨(tl (mD (mRx r0 (fun x => { x with gradient := some g1, bankB := b1, conv := 31 })) (fun x => { x with low := 1024, roll := some ⟨b1, (10, 10), (10, 30), 0⟩ })) 2 2), 0, [], wit (fun _ _ _ _ _ _ => inferInstance) (by decide +kernel)⟩
  · exact ⟨(tl (mD (mRx r0 (fun x => { x with gradient := some g1, bankB := b1, conv := 31 })) (fun x => { x with low := 1024, roll := some ⟨b1, (10, 10), (10, 30), 0⟩ })) 2 2), 0, wit (fun _ _ _ _ _ _ => inferInstance) (by decide +kernel)⟩
  · exact ⟨rdy, 0, [], wit (fun _ _ _ _ _ _ => inferInstance) (by decide +kernel)⟩
  · exact ⟨rdy, 0, [], wit (fun _ _ _ _ _ _ => inferInstance) (by decide +kernel)⟩
  · exact ⟨rdy, 0, [], wit (fun _ _ _ _ _ _ => inferInstance) (by decide +kernel)⟩
  · exact ⟨rdy, 0, [], wit (fun _ _ _ _ _ _ => inferInstance) (by decide +kernel)⟩

/-- States that meet the hypotheses of `EqualiserAdaptsTheIdleBank`, clause by clause. -/
theorem witness_EqualiserAdaptsTheIdleBank :
    (∃ s : State, ∃ l : Fin 8, ∃ codes : List Int, 
      let s1 := s.rxSamples l codes
      
      let x := s1.rx[l].dsp
      
      let adapting := s.tl l = 2 ∧ (s.eqState l = 2 ∨ s.eqState l = 3)
      (s.tl l ≠ 0) ∧ (x.left % 256 = 0) ∧ (x.cycStart + x.cycLen ≤ x.left)) ∧
    (∃ s : State, ∃ l : Fin 8, ∃ g : CycleGrad, (s.rx[l].gradient = some g) ∧ (s.tl l = 2) ∧ (s.eqState l = 2 ∨ s.eqState l = 3) ∧ (s.anyWorks (lineEngines l) = true)) ∧
    (∃ s : State, ∃ l : Fin 8, (s.eqState l = 2) ∧ (32 ≤ s.rx[l].conv)) ∧
    (∃ s : State, ∃ l : Fin 8, ∃ codes : List Int, 
      let s1 := s.rxSamples l codes
      (s.tl l = 0 ∨ s1.rx[l].dsp.left % 256 ≠ 0 ∨ s1.rx[l].dsp.left < s1.rx[l].dsp.cycStart + s1.rx[l].dsp.cycLen)) ∧
    (∃ s : State, ∃ l : Fin 8, ∃ codes : List Int, 
      let s1 := s.rxSamples l codes
      (s.eqState l ≠ 2 ∨ s.rx[l].conv < 32)) := by
  refine ⟨?_, ?_, ?_, ?_, ?_⟩
  · exact ⟨(tl r0 1 1), 0, [], wit (fun _ _ _ _ _ _ => inferInstance) (by decide +kernel)⟩
  · exact ⟨(tl (mD (mRx r0 (fun x => { x with gradient := some g1, bankB := b1, conv := 31 })) (fun x => { x with low := 1024, roll := some ⟨b1, (10, 10), (10, 30), 0⟩ })) 2 2), 0, wit (fun _ _ _ _ _ _ => inferInstance) (by decide +kernel)⟩
  · exact ⟨(tl (mD (mRx r0 (fun x => { x with gradient := some g1, conv := 32, sinceSwap := 0, swap := some { adapt := true }, eyeRun := true, structDue := true })) (fun x => { x with w := -2147484, roll := some ⟨b1, (10, 10), (10, 30), 0⟩, eye := List.range 512 })) 2 2), 0, wit (fun _ _ _ _ _ _ => inferInstance) (by decide +kernel)⟩
  · exact ⟨rdy, 0, [], wit (fun _ _ _ _ _ _ => inferInstance) (by decide +kernel)⟩
  · exact ⟨rdy, 0, [], wit (fun _ _ _ _ _ _ => inferInstance) (by decide +kernel)⟩

/-- States that meet the hypotheses of `BankSwapsAndRollbacks`, clause by clause. -/
theorem witness_BankSwapsAndRollbacks :
    (∃ s : State, ∃ l : Fin 8, ∃ q : EqSwap, ∃ codes : List Int, 
      let s1 := s.rxSamples l codes
      
      let x := s1.rx[l].dsp
      (s1.rx[l].swap = some q) ∧ (s.tl l = 1 ∨ s.tl l = 2) ∧ (x.left % 256 = 0) ∧ (q.block ≤ x.block) ∧ (x.gapWords = 0) ∧ (x.inGap = false) ∧ (s1.rx[l].structDue = false ∨ q.structural = false)) ∧
    (∃ s : State, ∃ l : Fin 8, ∃ codes : List Int, 
      let s1 := s.rxSamples l codes
      (s1.rx[l].swap = none ∨ s.tl l = 0 ∨ s.tl l = 3 ∨ s1.rx[l].dsp.gapWords ≠ 0 ∨ s1.rx[l].dsp.inGap = true ∨
      s1.rx[l].dsp.left % 256 ≠ 0 ∨ (∃ q, s1.rx[l].swap = some q ∧ (s1.rx[l].dsp.block < q.block ∨
        (s1.rx[l].structDue = true ∧ q.structural = true))))) ∧
    (∃ s : State, ∃ l : Fin 8, ∃ r : Rollback, ∃ codes : List Int, 
      let s1 := s.rxSamples l codes
      (s1.rx[l].dsp.roll = some r) ∧ (r.left = 0)) ∧
    (∃ s : State, ∃ l : Fin 8, (s.rx[l].structDue = true) ∧ (s.tl l ≠ 0) ∧ (s.anyWorks (lineEngines l) = true)) := by
  refine ⟨?_, ?_, ?_, ?_⟩
  · exact ⟨(chkOn (tl (mRx r0 (fun x => { x with retryRun := 7, bankA := b1, swap := some { adapt := true } })) 1 1)), 0, ({ adapt := true }), [], wit (fun _ _ _ _ _ _ => inferInstance) (by decide +kernel)⟩
  · exact ⟨rdy, 0, [], wit (fun _ _ _ _ _ _ => inferInstance) (by decide +kernel)⟩
  · exact ⟨(tl (mD (mRx r0 (fun x => { x with gradient := some g1, bankB := b1, conv := 31 })) (fun x => { x with low := 1024, roll := some ⟨b1, (10, 10), (10, 30), 0⟩ })) 2 2), 0, (⟨b1, (10, 10), (10, 30), 0⟩), [], wit (fun _ _ _ _ _ _ => inferInstance) (by decide +kernel)⟩
  · exact ⟨(tl (mD (mRx r0 (fun x => { x with gradient := some g1, conv := 32, sinceSwap := 0, swap := some { adapt := true }, eyeRun := true, structDue := true })) (fun x => { x with w := -2147484, roll := some ⟨b1, (10, 10), (10, 30), 0⟩, eye := List.range 512 })) 2 2), 0, wit (fun _ _ _ _ _ _ => inferInstance) (by decide +kernel)⟩

/-- States that meet the hypotheses of `EqualiserControlsAndEye`, clause by clause. -/
theorem witness_EqualiserControlsAndEye :
    (∃ s : State, ∃ r : Req, ∃ l : Fin 8, ∃ v : Nat, (v ≤ 1) ∧ (s.Accepts r .write Ob.LINE_RX_INVERT (l.val + 1) (leBytes 1 v))) ∧
    (∃ s : State, ∃ r : Req, ∃ l : Fin 8, ∃ v : Nat, (v ≤ 1) ∧ (s.Accepts r .write Ob.LINE_EQ_FREEZE (l.val + 1) (leBytes 1 v))) ∧
    (∃ s : State, ∃ r : Req, ∃ l : Fin 8, (s.Accepts r .exec Ob.LINE_EYE_CAPTURE (l.val + 1) [0])) ∧
    (∃ s : State, ∃ l : Fin 8, ∃ codes : List Int, 
      let s1 := s.rxSamples l codes
      (s1.rx[l].eyeRun = true) ∧ (s1.rx[l].dsp.eyeLeft = 0)) ∧
    (∃ s : State, ∃ l : Fin 8, ∃ codes : List Int, 
      let s1 := s.rxSamples l codes
      (s1.rx[l].eyeRun = false ∨ s1.rx[l].dsp.eyeLeft ≠ 0)) := by
  refine ⟨?_, ?_, ?_, ?_, ?_⟩
  · exact ⟨rdy, rq, 0, 0, wit (fun _ _ _ _ _ _ => inferInstance) (by decide +kernel)⟩
  · exact ⟨rdy, rq, 0, 0, wit (fun _ _ _ _ _ _ => inferInstance) (by decide +kernel)⟩
  · exact ⟨rdy, rq, 0, wit (fun _ _ _ _ _ _ => inferInstance) (by decide +kernel)⟩
  · exact ⟨(tl (mD (mRx r0 (fun x => { x with gradient := some g1, conv := 32, sinceSwap := 0, swap := some { adapt := true }, eyeRun := true, structDue := true })) (fun x => { x with w := -2147484, roll := some ⟨b1, (10, 10), (10, 30), 0⟩, eye := List.range 512 })) 2 2), 0, [], wit (fun _ _ _ _ _ _ => inferInstance) (by decide +kernel)⟩
  · exact ⟨rdy, 0, [], wit (fun _ _ _ _ _ _ => inferInstance) (by decide +kernel)⟩

end W04

namespace W05
def cw (o : Nat) (ph : CwPhase) : Codeword := { order := o, stamp := ⟨7, 0⟩, deadline := 500, cap := 0, swift := false, unsettled := false, q := [5, 5], phase := ph }
def k0 := n1 (lanes8 (up rdy 4) Ob.LINE_LOS_RAW 0)
def at5 (s : State) (l : List Codeword) : State := { s with tic := s.tic.set 0 { s.tic[0] with cws := l }, cwCount := 10 }
def kd := mRx k0 (fun x => { x with dsp := { x.dsp with sym := 5000, staged := 2048 } })
def looped : State := mTic { ports k0 6 with test := k0.test.map (fun t => { t with kind := 5 }) } (fun t => { t with looped := List.replicate 2048 2 })

/-- States that meet the hypotheses of `CodewordsAreStampedAndEnd`, clause by clause. -/
theorem witness_CodewordsAreStampedAndEnd :
    (∃ s : State, ∃ l : Fin 8, ∃ p : Fin 8, ∃ codes : List Int, ∃ errs : List Nat, ∃ first : Nat, 
      let s1 := s.rxSamples l codes
      (s.portOf l = some p) ∧ (s.ticUsed p = true) ∧ (s.on (Dom.fec (halfOf l)) = true) ∧ (s.testKind p ≠ 5) ∧ (s1.cwStart l = some first)) ∧
    (∃ s : State, ∃ l : Fin 8, ∃ p : Fin 8, ∃ codes : List Int, ∃ errs : List Nat, 
      let s1 := s.rxSamples l codes
      (s.portOf l = some p) ∧ (s.ticUsed p = true) ∧ (s.on (Dom.fec (halfOf l)) = true) ∧ (s.testKind p = 5) ∧ (2048 ≤ s.tic[l].looped.length)) ∧
    (∃ s : State, ∃ l : Fin 8, ∃ codes : List Int, ∃ errs : List Nat, 
      let s1 := s.rxSamples l codes
      (∀ p, s.portOf l = some p → s.ticUsed p = false ∨ s.on (Dom.fec (halfOf l)) = false ∨
      (s.testKind p = 5 ∧ s.tic[l].looped.length < 2048) ∨ (s.testKind p ≠ 5 ∧ s1.cwStart l = none))) ∧
    (∃ s : State, ∃ h : Fin 2, ∃ u : Fin 48, ∃ l : Fin 8, ∃ c : Codeword, ∃ since : Nat, (s.unitCw h u = some (l, c, since))) ∧
    (∃ s : State, ∃ h : Fin 2, ∃ u : Fin 48, ∃ bits : List Bool, ∃ l : Fin 8, ∃ c : Codeword, ∃ since : Nat, (s.unitCw h u = some (l, c, since)) ∧ (syndromeZero bits.toArray = false)) ∧
    (∃ s : State, ∃ l : Fin 8, ∃ i : Nat, ∃ layers : Nat, ∃ c : Codeword, ∃ h : Fin 2, ∃ u : Fin 48, ∃ since : Nat, (s.tic[l].cws[i]? = some c) ∧ (c.phase = .waiting ∨ (c.phase = .decoding h u since ∧ min layers (4 * c.cap) < 4 * (ticDecode c.q c.cap).2.1))) ∧
    (∃ s : State, ∃ l : Fin 8, ∃ i : Nat, ∃ layers : Nat, ∃ c : Codeword, ∃ h : Fin 2, ∃ u : Fin 48, ∃ since : Nat, (s.tic[l].cws[i]? = some c) ∧ (c.phase = .decoding h u since) ∧ (4 * (ticDecode c.q c.cap).2.1 ≤ min layers (4 * c.cap)) ∧ (s.unitCw h u = some (l, c, since))) ∧
    (∃ s : State, ∃ h : Fin 2, ∃ u : Fin 48, ∃ layers : Nat, ∃ l : Fin 8, ∃ c : Codeword, ∃ since : Nat, (s.unitCw h u = some (l, c, since))) ∧
    (∃ s : State, ∃ h : Fin 2, ∃ u : Fin 48, ∃ d : Option (List Bool), ∃ n : Nat, ∃ i : Nat, ∃ l : Fin 8, (s.unitCw h u = none)) ∧
    (∃ s : State, ∃ h : Fin 2, ∃ u : Fin 48, ∃ d : Option (List Bool), ∃ n : Nat, ∃ i : Nat, ∃ l : Fin 8, (s.tic[l].cws[i]? = none)) ∧
    (∃ s : State, ∃ h : Fin 2, ∃ u : Fin 48, ∃ d : Option (List Bool), ∃ n : Nat, ∃ i : Nat, ∃ l : Fin 8, ∃ c, (s.tic[l].cws[i]? = some c) ∧ (c.phase = .ended)) := by
  refine ⟨?_, ?_, ?_, ?_, ?_, ?_, ?_, ?_, ?_, ?_, ?_⟩
  · exact ⟨kd, 0, 0, [], [], 0, wit (fun _ _ _ _ _ _ => inferInstance) (by decide +kernel)⟩
  · exact ⟨looped, 0, 0, [], [], wit (fun _ _ _ _ _ _ => inferInstance) (by decide +kernel)⟩
  · exact ⟨rdy, 0, [], [], wit (fun _ _ _ _ _ _ => inferInstance) (by decide +kernel)⟩
  · exact ⟨at5 k0 [cw 3 (.decoding 0 1 0)], 0, 1, 0, cw 3 (.decoding 0 1 0), 0, wit (fun _ _ _ _ _ _ => inferInstance) (by decide +kernel)⟩
  · exact ⟨at5 k0 [cw 3 (.decoding 0 1 0)], 0, 1, [true, false], 0, cw 3 (.decoding 0 1 0), 0, wit (fun _ _ _ _ _ _ => inferInstance) (by decide +kernel)⟩
  · exact ⟨at5 k0 [cw 5 .waiting], 0, 0, 2, cw 5 .waiting, 0, 1, 0, wit (fun _ _ _ _ _ _ => inferInstance) (by decide +kernel)⟩
  · exact ⟨at5 k0 [cw 3 (.decoding 0 1 0)], 0, 0, 0, cw 3 (.decoding 0 1 0), 0, 1, 0, by decide +kernel, by decide +kernel, ticDecode_cap rfl, by decide +kernel⟩
  · exact ⟨at5 k0 [cw 3 (.decoding 0 1 0)], 0, 1, 2, 0, cw 3 (.decoding 0 1 0), 0, wit (fun _ _ _ _ _ _ => inferInstance) (by decide +kernel)⟩
  · exact ⟨k0, 0, 1, none, 2, 0, 0, wit (fun _ _ _ _ _ _ => inferInstance) (by decide +kernel)⟩
  · exact ⟨k0, 0, 1, none, 2, 0, 0, wit (fun _ _ _ _ _ _ => inferInstance) (by decide +kernel)⟩
  · exact ⟨at5 k0 [cw 5 .ended], 0, 1, none, 2, 0, 0, wit (fun _ _ _ _ _ _ => inferInstance) (by decide +kernel)⟩

end W05

namespace W06
def k6 := n1 (lanes8 (up rdy 4) Ob.LINE_LOS_RAW 0)
def tx1 : TxFrame := { seq := 9, first := 0, last := 0, body := some 77 }
def g1 : LinkGap := { seq := 9, born := 0 }
def rtt (s : State) := lanes8 s Ob.RETRY_RTT_NS 900
def toB (bs : List Bool) : List Byte := (List.range (bs.length / 8)).map (fun i => BitVec.ofNat 8 (bitsNat ((bs.drop (8 * i)).take 8)))
def fr (h : FrameHead) : List Byte := toB (frameBits h (List.replicate 500 true))
def hd (t l seq ack : Nat) (last : Bool) : FrameHead := ⟨t, l, 0, false, false, false, last, seq, ack, 0⟩
def dataF := fr (hd 1 1 9 0 false)
def frames : List (List Byte) := [dataF, fr (hd 0 1 0 0 false), fr (hd 2 1 4 0 false), dataF.set 3 0x55, dataF.set 900 0x12, fr (hd 1 3 11 0 false), fr (hd 3 1 9 2 true), fr (hd 5 1 9 2 false), fr (hd 4 1 9 2 false), fr (hd 7 1 9 2 false)]
def slots : List RxSlot := { bytes := dataF, bad := true } :: frames.map (fun f => { bytes := f, rescued := true })
def wSlot (s : State) (x : RxSlot) : State := { s with outerPort := s.outerPort.map (fun o => { o with slots := [x] }) }
def wHead (s : State) (b : List Bool) (q : Nat) : State := { s with outerLane := s.outerLane.map (fun o => { o with head := some b, q := some q }) }
def frame : List Byte := [0x11, 0, 0, 0, 9, 0, 0, 0, 0, 0, 0x52, 8] ++ List.replicate 2056 0 ++ [0x63, 0x61, 0x15, 0x06]
def ea : State := (lanes8 (n1 rdy) Ob.RETRY_WINDOW_US 80).setReg Ob.RETRY_WINDOW_US 1 20

set_option maxRecDepth 100000 in
/-- States that meet the hypotheses of `ReceivedFramesAreCheckedAndDelivered`, clause by clause. -/
theorem witness_ReceivedFramesAreCheckedAndDelivered :
    (∃ s : State, ∃ p : Fin 8, ∃ slot : RxSlot, ∃ rest : List RxSlot, (s.linkRuns p = true) ∧ (s.pstate p ≠ PS.SEARCH) ∧ (s.outerPort[p].slots = slot :: rest)) ∧
    (∃ s : State, ∃ p : Fin 8, ∃ slot : RxSlot, ∃ rest : List RxSlot, (s.native p = true) ∧ (s.pstate p = PS.CARRYING) ∧ (s.outerPort[p].slots = slot :: rest) ∧ (slot.bad = false) ∧ (hdrOk (bytesBits slot.bytes) = true) ∧ (crcOk (bytesBits slot.bytes) = true) ∧ (let h := headOf (bytesBits slot.bytes); h.type = TData ∧ h.last = false ∧ 1 ≤ h.lpl ∧ h.lpl ≤ s.nat Ob.LINK_LPL_IMPL 0 ∧ h.seq = s.link[p].ack ∧
       s.link[p].seen = s.link[p].ack ∧ s.link[p].ack < 2 ^ 24 ∧ s.link[p].held = [] ∧ s.link[p].gaps = [])) ∧
    (∃ s : State, ∃ p : Fin 8, (s.linkRuns p = false ∨ s.pstate p = PS.SEARCH ∨ s.outerPort[p].slots = [])) := by
  refine ⟨?_, ?_, ?_⟩
  · exact ⟨wSlot k6 { bytes := [], bad := true }, 0, { bytes := [], bad := true }, [], wit (fun _ _ _ _ _ _ => inferInstance) (by decide +kernel)⟩
  · exact ⟨wSlot (mLink k6 (fun x => { x with ack := 9, seen := 9 })) { bytes := frame }, 0, { bytes := frame }, [], wit (fun _ _ _ _ _ _ => inferInstance) (by decide +kernel)⟩
  · exact ⟨rdy, 0, wit (fun _ _ _ _ _ _ => inferInstance) (by decide +kernel)⟩

/-- States that meet the hypotheses of `MarkersAlignTheLanes`, clause by clause. -/
theorem witness_MarkersAlignTheLanes :
    (∃ s : State, ∃ l : Fin 8, ∃ p : Fin 8, ∃ codes : List Int, ∃ lag : Nat, ∃ bits : List Bool, ∃ due : Bool, 
      let s1 := s.rxSamples l codes
      
      let o := s.outerLane[l]
      
      let hits := ((List.zipWith (· == ·) bits (markerPattern (l.val - p.val))).filter id).length
      
      let field (lo k : Nat) : Nat := bitsNat ((bits.drop lo).take k)
      
      let good := 2000 ≤ hits ∧ field 2400 32 = crc32cBits ((bits.drop 2048).take 352)
      (s.portOf l = some p) ∧ (s.linkRuns p = true) ∧ (s.pstate p = PS.SEARCH → s.srch[l].lock = true) ∧ (s1.markerPlace p l = some (bits, due))) ∧
    (∃ s : State, ∃ l : Fin 8, ∃ codes : List Int, ∃ lag : Nat, 
      let s1 := s.rxSamples l codes
      (∀ p, s.portOf l = some p → s.linkRuns p = false ∨ (s.pstate p = PS.SEARCH ∧ s.srch[l].lock = false) ∨
      s1.markerPlace p l = none)) := by
  refine ⟨?_, ?_⟩
  · exact ⟨wHead k6 (List.replicate 2432 false) 1, 0, 0, [], 0, List.replicate 2432 false, true, wit (fun _ _ _ _ _ _ => inferInstance) (by decide +kernel)⟩
  · exact ⟨(rdy), 0, [], 0, wit (fun _ _ _ _ _ _ => inferInstance) (by decide +kernel)⟩

/-- States that meet the hypotheses of `SlotsSendInOrder`, clause by clause. -/
theorem witness_SlotsSendInOrder :
    (∃ s : State, ∃ p : Fin 8, ∃ take : Nat, (s.linkRuns p = true)) ∧
    (∃ s : State, ∃ p : Fin 8, ∃ take : Nat, (s.testKind p = 1)) ∧
    (∃ s : State, ∃ p : Fin 8, ∃ take : Nat, (s.linkRuns p = false) ∧ (s.testKind p ≠ 1)) := by
  refine ⟨?_, ?_, ?_⟩
  · exact ⟨(k6), 0, 0, wit (fun _ _ _ _ _ _ => inferInstance) (by decide +kernel)⟩
  · exact ⟨{ ports rdy 6 with test := rdy.test.map (fun t => { t with kind := 1 }) }, 0, 0, wit (fun _ _ _ _ _ _ => inferInstance) (by decide +kernel)⟩
  · exact ⟨(rdy), 0, 0, wit (fun _ _ _ _ _ _ => inferInstance) (by decide +kernel)⟩

/-- States that meet the hypotheses of `RetransmissionTimers`, clause by clause. -/
theorem witness_RetransmissionTimers :
    (∃ s : State, ∃ p : Fin 8, ∃ f : TxFrame, (s.carries p = true) ∧ (0 < s.reg Ob.RETRY_RTT_NS (p.val + 1) ∨ s.link[p].replayMax ≤ f.count) ∧ (s.link[p].tx.find? (fun t => t.seq == f.seq) = some f) ∧ (f.off = false) ∧ (f.got = false)) ∧
    (∃ s : State, ∃ p : Fin 8, ∃ f : TxFrame, (s.link[p].tx.find? (fun t => t.seq == f.seq) = some f) ∧ (f.off = false)) ∧
    (∃ s : State, ∃ p : Fin 8, ∃ g : LinkGap, (s.link[p].gaps = [g])) ∧
    (∃ s : State, ∃ p : Fin 8, (s.carries p = true) ∧ (s.link[p].gaps ≠ [])) ∧
    (∃ s : State, ∃ p : Fin 8, (s.inbandRuns p = true)) ∧
    (∃ s : State, ∃ p : Fin 8, (s.inbandRuns p = false)) ∧
    (∃ s : State, ∃ p : Fin 8, (s.link[p].gaps = [])) := by
  refine ⟨?_, ?_, ?_, ?_, ?_, ?_, ?_⟩
  · exact ⟨(mLink (rtt k6) (fun x => { x with tx := [tx1], next := 10, acked := 9, ready := [5, 6] })), 0, tx1, wit (fun _ _ _ _ _ _ => inferInstance) (by decide +kernel)⟩
  · exact ⟨(mLink (rtt k6) (fun x => { x with tx := [tx1], next := 10, acked := 9, ready := [5, 6] })), 0, tx1, wit (fun _ _ _ _ _ _ => inferInstance) (by decide +kernel)⟩
  · exact ⟨(mLink k6 (fun x => { x with ack := 9, seen := 12, gaps := [g1], statusDue := true })), 0, g1, wit (fun _ _ _ _ _ _ => inferInstance) (by decide +kernel)⟩
  · exact ⟨(mLink k6 (fun x => { x with ack := 9, seen := 12, gaps := [g1], statusDue := true })), 0, wit (fun _ _ _ _ _ _ => inferInstance) (by decide +kernel)⟩
  · exact ⟨(k6), 0, wit (fun _ _ _ _ _ _ => inferInstance) (by decide +kernel)⟩
  · exact ⟨(rdy), 0, wit (fun _ _ _ _ _ _ => inferInstance) (by decide +kernel)⟩
  · exact ⟨(rdy), 0, wit (fun _ _ _ _ _ _ => inferInstance) (by decide +kernel)⟩

/-- States that meet the hypotheses of `RetryWindowIsRanged`, clause by clause. -/
theorem witness_RetryWindowIsRanged :
    (∃ s : State, ∃ r : Req, ∃ p : Fin 8, ∃ v : Nat, (v < 65536) ∧ (v < 4 ∨ (if s.partEA = true then 512 else 70) < v) ∧ 
      let s1 := s.taken r .write Ob.RETRY_WINDOW_US (p.val + 1) (leBytes 2 v)
      
      let g := s1.gate r .write Ob.RETRY_WINDOW_US (p.val + 1) (leBytes 2 v)
      (s.on Dom.MGT = true) ∧ (badOpcode r = false) ∧ (∀ l ∈ (s.tp r.path).last, l.tag = r.tag → l.crc ≠ crc16 (frameBody r .write Ob.RETRY_WINDOW_US (p.val + 1) (leBytes 2 v))) ∧ (s.tagBusy r.path r.tag = false) ∧ (s1.outstanding r.path < 8) ∧ (s1.gate r .write Ob.RETRY_WINDOW_US (p.val + 1) (leBytes 2 70) = 0)) ∧
    (∃ s : State, ∃ r : Req, ∃ p : Fin 8, ∃ v : Nat, (v < 65536) ∧ (s.Accepts r .write Ob.RETRY_WINDOW_US (p.val + 1) (leBytes 2 v)) ∧ (v ≤ 70 ∨ s.deepPort p = true ∨ s.dsLoad (some (p, v)) ≤ hotUsable (s.nat Ob.DS_PIN_RATE 0))) ∧
    (∃ s : State, ∃ r : Req, ∃ p : Fin 8, ∃ v : Nat, (v < 65536) ∧ (s.Accepts r .write Ob.RETRY_WINDOW_US (p.val + 1) (leBytes 2 v)) ∧ (70 < v) ∧ (s.deepPort p = false) ∧ (hotUsable (s.nat Ob.DS_PIN_RATE 0) < s.dsLoad (some (p, v)))) := by
  refine ⟨?_, ?_, ?_⟩
  · exact ⟨(rdy), rq, 0, 0, wit (fun _ _ _ _ _ _ => inferInstance) (by decide +kernel)⟩
  · exact ⟨(rdy), rq, 0, 5, wit (fun _ _ _ _ _ _ => inferInstance) (by decide +kernel)⟩
  · exact ⟨{ set ea [(Ob.DS_PIN_RATE, 0, 0), (Ob.DS_STATE, 0, 3)] with ds := { ea.ds with enabled := true } }, rq, 0, 80, wit (fun _ _ _ _ _ _ => inferInstance) (by decide +kernel)⟩

end W06

namespace W07
def k7 := n1 (lanes8 (up rdy 4) Ob.LINE_LOS_RAW 0)
def ds (s : State) (st : Int) (f : DeepStore → DeepStore) : State := { s.setReg Ob.DS_STATE 0 st with ds := f s.ds }
def en (d : DeepStore) : DeepStore := { d with enabled := true }
def dc1 : DeepCopy := { queued := true }
def dc2 : DeepCopy := { queued := true, bursts := List.range 17 }
def dc3 : DeepCopy := { done := true, parts := [] }
def mk7 (d : DeepCopy) (b : Option Nat) := mLink (ds k7 3 en) (fun x => { x with tx := [{ seq := 9, first := 0, last := 0, body := b, deep := d }], held := [{ seq := 3, body := b, deep := d, spill := true }] })

/-- States that meet the hypotheses of `DeepStoreTrainsAndRefreshes`, clause by clause. -/
theorem witness_DeepStoreTrainsAndRefreshes :
    (∃ s : State, ∃ m : DsTraining, (s.reg Ob.DS_STATE 0 = 2)) ∧
    (∃ s : State, ∃ m : DsTraining, (s.reg Ob.DS_STATE 0 ≠ 2)) ∧
    (∃ s : State, ∃ r : Req, (s.Accepts r .exec Ob.DS_RETRAIN 0 [0]) ∧ (s.partEA = true) ∧ (s.ds.enabled = true) ∧ (s.on Dom.DS = true) ∧ (∀ p : Fin 8, s.exists p = true → s.deepPort p = true → s.pstate p ≠ PS.CARRYING) ∧ (s.reg Ob.DS_STATE 0 ≠ 2)) ∧
    (∃ s : State, ∃ r : Req, (s.Accepts r .exec Ob.DS_RETRAIN 0 [0]) ∧ (s.partEA = true) ∧ (s.ds.enabled = true) ∧ (s.on Dom.DS = true) ∧ (∀ p : Fin 8, s.exists p = true → s.deepPort p = true → s.pstate p ≠ PS.CARRYING) ∧ (s.reg Ob.DS_STATE 0 = 2)) ∧
    (∃ s : State, ∃ r : Req, (s.Accepts r .exec Ob.DS_RETRAIN 0 [0]) ∧ (s.partEA = false ∨ s.ds.enabled = false ∨ s.on Dom.DS = false ∨
      ∃ p : Fin 8, s.exists p = true ∧ s.deepPort p = true ∧ s.pstate p = PS.CARRYING)) ∧
    (∃ s : State, (s.reg Ob.DS_STATE 0 = 5) ∧ (s.on Dom.DS = true) ∧ (s.ds.retries < 3)) ∧
    (∃ s : State, (s.reg Ob.DS_STATE 0 ≠ 5 ∨ 3 ≤ s.ds.retries)) ∧
    (∃ s : State, ∃ d : Fin 5, ∃ c : Fin 4, (s.reg Ob.DS_STATE 0 = 3 ∨ s.reg Ob.DS_STATE 0 = 4)) ∧
    (∃ s : State, (s.reg Ob.DS_STATE 0 = 3 ∨ s.reg Ob.DS_STATE 0 = 4)) ∧
    (∃ s : State, ∃ d : Fin 5, ∃ c : Int, (2 ≤ s.reg Ob.DS_STATE 0) ∧ (s.on Dom.DS = true)) ∧
    (∃ s : State, ∃ d : Fin 5, ∃ c : Int, (s.reg Ob.DS_STATE 0 < 2 ∨ s.on Dom.DS = false)) ∧
    (∃ b : Nat, ∃ t : Int, (b ≤ 3) ∧ (1070 ≤ t)) ∧
    (∃ b : Nat, ∃ t : Int, (b ≤ 3) ∧ (t < 0)) ∧
    (∃ b : Nat, ∃ t : Int, (b ≤ 3) ∧ (850 ≤ t) ∧ (t < 870)) := by
  refine ⟨?_, ?_, ?_, ?_, ?_, ?_, ?_, ?_, ?_, ?_, ?_, ?_, ?_, ?_⟩
  · exact ⟨(ds k7 2 en), {}, wit (fun _ _ _ _ _ _ => inferInstance) (by decide +kernel)⟩
  · exact ⟨rdy, {}, wit (fun _ _ _ _ _ _ => inferInstance) (by decide +kernel)⟩
  · exact ⟨(ds (ports k7 1) 5 en), rq, wit (fun _ _ _ _ _ _ => inferInstance) (by decide +kernel)⟩
  · exact ⟨(ds k7 2 en), rq, wit (fun _ _ _ _ _ _ => inferInstance) (by decide +kernel)⟩
  · exact ⟨rdy, rq, wit (fun _ _ _ _ _ _ => inferInstance) (by decide +kernel)⟩
  · exact ⟨(ds (ports k7 1) 5 en), wit (fun _ _ _ _ _ _ => inferInstance) (by decide +kernel)⟩
  · exact ⟨rdy, wit (fun _ _ _ _ _ _ => inferInstance) (by decide +kernel)⟩
  · exact ⟨(ds (ports k7 1) 3 en), 0, 0, wit (fun _ _ _ _ _ _ => inferInstance) (by decide +kernel)⟩
  · exact ⟨(ds (ports k7 1) 3 en), wit (fun _ _ _ _ _ _ => inferInstance) (by decide +kernel)⟩
  · exact ⟨(ds k7 2 en), 0, (-1), wit (fun _ _ _ _ _ _ => inferInstance) (by decide +kernel)⟩
  · exact ⟨rdy, 0, (-1), wit (fun _ _ _ _ _ _ => inferInstance) (by decide +kernel)⟩
  · exact ⟨0, 1070, wit (fun _ _ _ _ _ _ => inferInstance) (by decide +kernel)⟩
  · exact ⟨0, (-1), wit (fun _ _ _ _ _ _ => inferInstance) (by decide +kernel)⟩
  · exact ⟨0, 850, wit (fun _ _ _ _ _ _ => inferInstance) (by decide +kernel)⟩

/-- States that meet the hypotheses of `DeepStoreLinesRoundTrip`, clause by clause. -/
theorem witness_DeepStoreLinesRoundTrip :
    (∃ s : State, ∃ p : Fin 8, ∃ seq : Nat, ∃ held : Bool, ∃ b : Fin 17, ∃ c : DeepCopy, ∃ head : Nat, ∃ body : Nat, (s.deepOf p seq held = some (c, head, some body)) ∧ (s.dsInUse = true) ∧ (c.queued = true) ∧ (s.dsWaits (s.frameKey p seq held (2 * b.val)) = false) ∧ (held = false ∨ s.dsFull = false ∨ s.dsBehind 2 = false)) ∧
    (∃ s : State, ∃ p : Fin 8, ∃ seq : Nat, ∃ held : Bool, ∃ f : DsRead, ∃ a : DsRead, ∃ v : DsRead, ∃ c : DeepCopy, ∃ head : Nat, (s.deepOf p seq held = some (c, head, none)) ∧ (s.dsInUse = true) ∧ (c.done = true) ∧ (c.parts.length < 2074) ∧ (s.dsWaits (s.frameKey p seq held (c.parts.length / 61)) = false) ∧ (held = false ∨ s.holdNext p seq = true) ∧ (s.dsFull = false ∨ s.dsBehind (if held = true then 2 else 1) = false)) ∧
    (∃ s : State, ∃ p : Fin 8, ∃ seq : Nat, ∃ held : Bool, ∃ c : DeepCopy, ∃ head : Nat, ∃ body : Option Nat, (s.deepOf p seq held = some (c, head, body)) ∧ (c.queued = true) ∧ (c.bursts.length = 17)) ∧
    (∃ s : State, ∃ p : Fin 8, ∃ seq : Nat, ∃ held : Bool, ∃ b : Fin 17, ∃ n : Nat, ∃ f : DsRead, ∃ a : DsRead, ∃ v : DsRead, (s.dsInUse = false)) ∧
    (∃ s : State, ∃ p : Fin 8, ∃ seq : Nat, ∃ held : Bool, ∃ b : Fin 17, ∃ n : Nat, ∃ f : DsRead, ∃ a : DsRead, ∃ v : DsRead, (s.deepOf p seq held = none)) := by
  refine ⟨?_, ?_, ?_, ?_, ?_⟩
  · exact ⟨(mk7 dc1 (some 77)), 0, 3, true, 0, dc1, 0, 77, wit (fun _ _ _ _ _ _ => inferInstance) (by decide +kernel)⟩
  · exact ⟨(mk7 dc3 none), 0, 3, true, {}, {}, {}, dc3, 0, wit (fun _ _ _ _ _ _ => inferInstance) (by decide +kernel)⟩
  · exact ⟨(mk7 dc2 (some 77)), 0, 3, true, dc2, 0, (some 77), wit (fun _ _ _ _ _ _ => inferInstance) (by decide +kernel)⟩
  · exact ⟨rdy, 0, 0, false, 0, 0, {}, {}, {}, wit (fun _ _ _ _ _ _ => inferInstance) (by decide +kernel)⟩
  · exact ⟨rdy, 0, 0, false, 0, 0, {}, {}, {}, wit (fun _ _ _ _ _ _ => inferInstance) (by decide +kernel)⟩

end W07

namespace W08
def k8 := n1 (lanes8 (up rdy 4) Ob.LINE_LOS_RAW 0)
def o8 := ports (lock rdy) 0
def tx (s : State) (st sy sq : Int) (f : TxLane → TxLane) := mTx (lanes8 (lanes8 (lanes8 s Ob.TX_STATE st) Ob.TX_SYNTH_STATE sy) Ob.OPTICS_SEQ_STATE sq) f
def hld (x : TxLane) := { x with held := true }
def mapped (s : State) : State := s.setReg Ob.OPTICS_APC_ENABLE 1 1

/-- States that meet the hypotheses of `TransmitCalibrationAndRelock`, clause by clause. -/
theorem witness_TransmitCalibrationAndRelock :
    (∃ s : State, ∃ l : Fin 8, (s.txSynth l = 1) ∧ (s.txState l = 1) ∧ (s.tx[l].lockMute = false)) ∧
    (∃ s : State, ∃ l : Fin 8, (s.txSynth l = 1) ∧ (s.txState l ≠ 1 ∨ s.tx[l].lockMute = true)) ∧
    (∃ s : State, ∃ l : Fin 8, (s.txSynth l = 2 ∨ s.txSynth l = 4) ∧ (s.txState l = 1) ∧ (s.tx[l].rateCal = false) ∧ (s.tx[l].lockMute = false)) ∧
    (∃ s : State, ∃ l : Fin 8, (s.txSynth l = 2 ∨ s.txSynth l = 4) ∧ (s.txState l = 1) ∧ (s.tx[l].rateCal = true)) ∧
    (∃ s : State, ∃ l : Fin 8, (s.txSynth l = 2 ∨ s.txSynth l = 4) ∧ (s.txState l ≠ 1 ∨ (s.tx[l].rateCal = false ∧ s.tx[l].lockMute = true))) ∧
    (∃ s : State, ∃ l : Fin 8, (s.txState l = 1) ∧ (s.txSynth l = 2) ∧ (s.tx[l].lockMute = false)) ∧
    (∃ s : State, ∃ l : Fin 8, ∃ mv : Nat, (s.txState l = 1) ∧ (s.txSynth l = 3) ∧ (s.tx[l].rateCal = false)) ∧
    (∃ s : State, ∃ l : Fin 8, ∃ b : Bool, ∃ mv : Nat, (s.txSynth l ≠ 1)) ∧
    (∃ s : State, ∃ l : Fin 8, ∃ b : Bool, ∃ mv : Nat, (s.txState l ≠ 1)) ∧
    (∃ s : State, ∃ l : Fin 8, ∃ b : Bool, ∃ mv : Nat, (s.txSynth l ≠ 2) ∧ (s.txSynth l ≠ 4)) ∧
    (∃ s : State, ∃ l : Fin 8, (s.txState l ≠ 1 ∨ s.tx[l].lockMute = true) ∧ (s.txSynth l = 4 ∨ s.txSynth l = 2)) ∧
    (∃ s : State, ∃ l : Fin 8, (s.txSynth l = 3) ∧ (s.tx[l].relocked = true)) ∧
    (∃ s : State, ∃ l : Fin 8, (s.txSynth l ≠ 3)) ∧
    (∃ s : State, ∃ l : Fin 8, (s.tx[l].relocked = false)) ∧
    (∃ s : State, ∃ l : Fin 8, (s.txState l = 1) ∧ (s.tx[l].lockMute = false)) := by
  refine ⟨?_, ?_, ?_, ?_, ?_, ?_, ?_, ?_, ?_, ?_, ?_, ?_, ?_, ?_, ?_⟩
  · exact ⟨(tx o8 1 1 0 id), 0, wit (fun _ _ _ _ _ _ => inferInstance) (by decide +kernel)⟩
  · exact ⟨(tx k8 2 1 0 id), 0, wit (fun _ _ _ _ _ _ => inferInstance) (by decide +kernel)⟩
  · exact ⟨(tx o8 1 2 0 id), 0, wit (fun _ _ _ _ _ _ => inferInstance) (by decide +kernel)⟩
  · exact ⟨(tx o8 1 2 0 (fun x => { x with rateCal := true })), 0, wit (fun _ _ _ _ _ _ => inferInstance) (by decide +kernel)⟩
  · exact ⟨(tx o8 3 2 0 id), 0, wit (fun _ _ _ _ _ _ => inferInstance) (by decide +kernel)⟩
  · exact ⟨(tx o8 1 2 0 id), 0, wit (fun _ _ _ _ _ _ => inferInstance) (by decide +kernel)⟩
  · exact ⟨(tx o8 1 3 0 id), 0, 0, wit (fun _ _ _ _ _ _ => inferInstance) (by decide +kernel)⟩
  · exact ⟨rdy, 0, false, 0, wit (fun _ _ _ _ _ _ => inferInstance) (by decide +kernel)⟩
  · exact ⟨rdy, 0, false, 0, wit (fun _ _ _ _ _ _ => inferInstance) (by decide +kernel)⟩
  · exact ⟨rdy, 0, false, 0, wit (fun _ _ _ _ _ _ => inferInstance) (by decide +kernel)⟩
  · exact ⟨(tx o8 3 2 0 id), 0, wit (fun _ _ _ _ _ _ => inferInstance) (by decide +kernel)⟩
  · exact ⟨(tx k8 4 3 4 (fun x => { x with relocked := true, lockMute := true })), 0, wit (fun _ _ _ _ _ _ => inferInstance) (by decide +kernel)⟩
  · exact ⟨rdy, 0, wit (fun _ _ _ _ _ _ => inferInstance) (by decide +kernel)⟩
  · exact ⟨rdy, 0, wit (fun _ _ _ _ _ _ => inferInstance) (by decide +kernel)⟩
  · exact ⟨(tx o8 1 1 0 id), 0, wit (fun _ _ _ _ _ _ => inferInstance) (by decide +kernel)⟩

/-- States that meet the hypotheses of `OpticsSequences`, clause by clause. -/
theorem witness_OpticsSequences :
    (∃ s : State, ∃ l : Fin 8, (s.seq l = 1)) ∧
    (∃ s : State, ∃ l : Fin 8, (s.seq l = 2) ∧ (s.tx[l].biasRun = false)) ∧
    (∃ s : State, ∃ l : Fin 8, (s.seq l = 3)) ∧
    (∃ s : State, ∃ l : Fin 8, (s.seq l = 5)) ∧
    (∃ s : State, ∃ l : Fin 8, (s.seq l = 6)) ∧
    (∃ s : State, ∃ l : Fin 8, (s.seq l = 7) ∧ (s.tx[l].biasRun = false)) ∧
    (∃ s : State, ∃ l : Fin 8, (s.tx[l].biasRun = true) ∧ ((s.biasChans l).all (fun k => s.nat Ob.HK_ADAC_OUT (k.val + 1) == s.hk.adac[k].target) = true)) ∧
    (∃ s : State, ∃ l : Fin 8, (s.tx[l].biasRun = true) ∧ (s.seq l = 2)) ∧
    (∃ s : State, ∃ l : Fin 8, (s.tx[l].biasRun = true) ∧ (s.seq l = 7)) ∧
    (∃ s : State, ∃ l : Fin 8, (s.seq l = 0 ∨ 4 ≤ s.seq l)) ∧
    (∃ s : State, ∃ l : Fin 8, (s.seq l ≤ 4 ∨ 8 ≤ s.seq l)) := by
  refine ⟨?_, ?_, ?_, ?_, ?_, ?_, ?_, ?_, ?_, ?_, ?_⟩
  · exact ⟨(tx o8 3 3 1 id), 0, wit (fun _ _ _ _ _ _ => inferInstance) (by decide +kernel)⟩
  · exact ⟨(tx o8 3 3 2 id), 0, wit (fun _ _ _ _ _ _ => inferInstance) (by decide +kernel)⟩
  · exact ⟨(tx (mapped o8) 3 3 3 id), 0, wit (fun _ _ _ _ _ _ => inferInstance) (by decide +kernel)⟩
  · exact ⟨(tx o8 1 3 5 hld), 0, wit (fun _ _ _ _ _ _ => inferInstance) (by decide +kernel)⟩
  · exact ⟨(tx o8 4 3 6 id), 0, wit (fun _ _ _ _ _ _ => inferInstance) (by decide +kernel)⟩
  · exact ⟨(tx o8 3 3 7 id), 0, wit (fun _ _ _ _ _ _ => inferInstance) (by decide +kernel)⟩
  · exact ⟨(tx o8 3 3 2 (fun x => { x with biasRun := true })), 0, wit (fun _ _ _ _ _ _ => inferInstance) (by decide +kernel)⟩
  · exact ⟨(tx o8 3 3 2 (fun x => { x with biasRun := true })), 0, wit (fun _ _ _ _ _ _ => inferInstance) (by decide +kernel)⟩
  · exact ⟨(tx k8 3 3 7 (fun x => { x with biasRun := true })), 0, wit (fun _ _ _ _ _ _ => inferInstance) (by decide +kernel)⟩
  · exact ⟨rdy, 0, wit (fun _ _ _ _ _ _ => inferInstance) (by decide +kernel)⟩
  · exact ⟨rdy, 0, wit (fun _ _ _ _ _ _ => inferInstance) (by decide +kernel)⟩

/-- States that meet the hypotheses of `WaveformRampsAndForcedMute`, clause by clause. -/
theorem witness_WaveformRampsAndForcedMute :
    (∃ s : State, ∃ l : Fin 8, (s.reg Ob.TX_WAVE_RAMPING (l.val + 1) ≠ 0)) ∧
    (∃ s : State, ∃ l : Fin 8, (s.reg Ob.TX_WAVE_RAMPING (l.val + 1) = 0)) ∧
    (∃ s : State, ∃ r : Req, ∃ l : Fin 8, ∃ v : Nat, (v ≤ 1) ∧ (s.Accepts r .write Ob.TX_MUTE_FORCE (l.val + 1) (leBytes 1 v))) := by
  refine ⟨?_, ?_, ?_⟩
  · exact ⟨(mTx (lanes8 k8 Ob.TX_WAVE_RAMPING 1) (fun x => { x with wave := (List.range 71).map Int.ofNat })), 0, wit (fun _ _ _ _ _ _ => inferInstance) (by decide +kernel)⟩
  · exact ⟨rdy, 0, wit (fun _ _ _ _ _ _ => inferInstance) (by decide +kernel)⟩
  · exact ⟨rdy, rq, 0, 0, wit (fun _ _ _ _ _ _ => inferInstance) (by decide +kernel)⟩

end W08

namespace W09
def k9 := n1 (lanes8 (up rdy 4) Ob.LINE_LOS_RAW 0)
def hs (s : State) (v : Int) := lanes16 s Ob.HOST_LANE_STATE v
def tbl : List Byte := ((State.reset).blob Ob.HOST_PRESET_TABLE 1)
def tbl2 : List Byte := let t := (tbl.take 516).set (4 + 32) 1 |>.set (4 + 32 + 10) 0x20; let u := t.take 4 ++ (t.drop 4).take 32 ++ (t.drop 4).take 32 ++ t.drop 68; u ++ leBytes 4 (crc32c u)
def tbl3 : List Byte := let u := (tbl.take 4) ++ List.replicate 512 0; u ++ leBytes 4 (crc32c u)

set_option maxRecDepth 100000 in
/-- States that meet the hypotheses of `HostLanesPresetsAndCodewords`, clause by clause. -/
theorem witness_HostLanesPresetsAndCodewords :
    (∃ s : State, ∃ h : Fin 16, (s.hostState h = 2)) ∧
    (∃ s : State, ∃ h : Fin 16, (s.hostState h ≠ 2)) ∧
    (∃ s : State, ∃ i : Fin 8, ∃ p : Fin 8, ∃ ns : Nat, ∃ order : List Nat, (s.instPort i = some p) ∧ (∀ h ∈ s.instLanes i, s.hostState h = 3 ∨ s.hostState h = 4) ∧ (s.instAligned i = false) ∧ (laneOrder (s.instLanes i).length order = true)) ∧
    (∃ s : State, ∃ i : Fin 8, ∃ p : Fin 8, (s.instPort i = some p) ∧ (∃ h ∈ s.instLanes i, s.hostState h = 4)) ∧
    (∃ s : State, ∃ h : Fin 16, ∃ cdr : Bool, (s.hostState h = 3)) ∧
    (∃ s : State, ∃ h : Fin 16, ∃ cdr : Bool, (s.hostState h = 4)) ∧
    (∃ s : State, ∃ h : Fin 16, ∃ cdr : Bool, (s.hostState h ≤ 2)) ∧
    (∃ s : State, ∃ i : Fin 8, ∃ ns : Nat, ∃ order : List Nat, (s.instPort i = none)) ∧
    (∃ s : State, ∃ i : Fin 8, ∃ p : Fin 8, ∃ levels : List (List Nat), (s.instPort i = some p) ∧ (s.instAligned i = true) ∧ (s.testKind p ≠ 2) ∧ (s.testKind p ≠ 3)) ∧
    (∃ s : State, ∃ i : Fin 8, ∃ p : Fin 8, (s.instPort i = some p) ∧ (s.instLanes i ≠ []) ∧ (∀ h ∈ s.instLanes i, 2 ≤ s.hostState h) ∧ (s.testKind p ≠ 2) ∧ (s.testKind p ≠ 3)) ∧
    (∃ s : State, ∃ i : Fin 8, ∃ p : Fin 8, (s.instPort i = some p) ∧ (s.hostInst[i].fifoOut = [])) ∧
    (∃ s : State, ∃ i : Fin 8, ∃ a : List (List Nat), (s.instPort i = none)) ∧
    (∃ s : State, ∃ r : Req, ∃ h : Fin 16, ∃ v : Nat, (v < 256) ∧ (s.Accepts r .write Ob.HOST_PRESET_SEL (h.val + 1) (leBytes 1 v)) ∧ (presetValid (s.blob Ob.HOST_PRESET_TABLE (h.val + 1)) v = true)) ∧
    (∃ s : State, ∃ r : Req, ∃ h : Fin 16, ∃ b : List Byte, (s.Accepts r .write Ob.HOST_PRESET_TABLE (h.val + 1) b) ∧ (presetOk b = false)) ∧
    (∃ s : State, ∃ r : Req, ∃ h : Fin 16, ∃ b : List Byte, (s.Accepts r .write Ob.HOST_PRESET_TABLE (h.val + 1) b) ∧ (presetOk b = true) ∧ (presetValid b (s.nat Ob.HOST_PRESET_SEL (h.val + 1)) = true ∨
        presetValid (s.blob Ob.HOST_PRESET_TABLE (h.val + 1)) (s.nat Ob.HOST_PRESET_SEL (h.val + 1)) = false)) := by
  refine ⟨?_, ?_, ?_, ?_, ?_, ?_, ?_, ?_, ?_, ?_, ?_, ?_, ?_, ?_, ?_⟩
  · exact ⟨(hs k9 2), 0, wit (fun _ _ _ _ _ _ => inferInstance) (by decide +kernel)⟩
  · exact ⟨rdy, 0, wit (fun _ _ _ _ _ _ => inferInstance) (by decide +kernel)⟩
  · exact ⟨(hs k9 3), 0, 0, 1, ([0, 1]), wit (fun _ _ _ _ _ _ => inferInstance) (by decide +kernel)⟩
  · exact ⟨(hs k9 4), 0, wit (fun _ _ _ _ _ _ => inferInstance) (by decide +kernel)⟩
  · exact ⟨(hs k9 3), 0, false, wit (fun _ _ _ _ _ _ => inferInstance) (by decide +kernel)⟩
  · exact ⟨(hs k9 4), 0, false, wit (fun _ _ _ _ _ _ => inferInstance) (by decide +kernel)⟩
  · exact ⟨rdy, 0, false, wit (fun _ _ _ _ _ _ => inferInstance) (by decide +kernel)⟩
  · exact ⟨({ (hs (ports k9 0) 4) with breakout := Vector.replicate 2 7 }), 1, 1, [0], wit (fun _ _ _ _ _ _ => inferInstance) (by decide +kernel)⟩
  · exact ⟨(hs k9 4), 0, 0, ([List.replicate 2720 0]), wit (fun _ _ _ _ _ _ => inferInstance) (by decide +kernel)⟩
  · exact ⟨(hs k9 2), 0, wit (fun _ _ _ _ _ _ => inferInstance) (by decide +kernel)⟩
  · exact ⟨rdy, 0, wit (fun _ _ _ _ _ _ => inferInstance) (by decide +kernel)⟩
  · exact ⟨({ (hs (ports k9 0) 4) with breakout := Vector.replicate 2 7 }), 1, ([List.replicate 2720 0]), wit (fun _ _ _ _ _ _ => inferInstance) (by decide +kernel)⟩
  · exact ⟨(((List.range 16).foldl (fun s h => s.setBlob Ob.HOST_PRESET_TABLE (h + 1) tbl2) k9).setReg Ob.HOST_PRESET_SEL 2 1), rq, 0, 1, wit (fun _ _ _ _ _ _ => inferInstance) (by decide +kernel)⟩
  · exact ⟨rdy, rq, 0, (List.replicate 520 0), wit (fun _ _ _ _ _ _ => inferInstance) (by decide +kernel)⟩
  · exact ⟨rdy, rq, 0, tbl, wit (fun _ _ _ _ _ _ => inferInstance) (by decide +kernel)⟩

set_option maxRecDepth 100000 in
/-- States that meet the hypotheses of `PresetsStayValid`, clause by clause. -/
theorem witness_PresetsStayValid :
    (∃ s : State, ∃ r : Req, ∃ h : Fin 16, ∃ v : Nat, (v < 256) ∧ (s.Accepts r .write Ob.HOST_PRESET_SEL (h.val + 1) (leBytes 1 v)) ∧ (presetValid (s.blob Ob.HOST_PRESET_TABLE (h.val + 1)) v = false)) ∧
    (∃ s : State, ∃ r : Req, ∃ h : Fin 16, ∃ b : List Byte, (s.Accepts r .write Ob.HOST_PRESET_TABLE (h.val + 1) b) ∧ (presetValid (s.blob Ob.HOST_PRESET_TABLE (h.val + 1)) (s.nat Ob.HOST_PRESET_SEL (h.val + 1)) = true) ∧ (presetValid b (s.nat Ob.HOST_PRESET_SEL (h.val + 1)) = false)) := by
  refine ⟨?_, ?_⟩
  · exact ⟨rdy, rq, 0, 1, wit (fun _ _ _ _ _ _ => inferInstance) (by decide +kernel)⟩
  · exact ⟨rdy, rq, 0, tbl3, wit (fun _ _ _ _ _ _ => inferInstance) (by decide +kernel)⟩

end W09

namespace W10
def k10 := n1 (lanes8 (up rdy 4) Ob.LINE_LOS_RAW 0)
def pend10 (s : State) (ix : Nat) : State := (List.range 4).foldl (fun s p => s.pendAdd ⟨⟨.i2c, 0x77, none, 3⟩, .exec, ix, p + 1⟩) s
def br (s : State) (a b : Nat) : State := set { s with breakout := #v[a, b] } [(Ob.PORT_BREAKOUT_EAST, 0, a), (Ob.PORT_BREAKOUT_WEST, 0, b)]
def off10 := ports (lock rdy) 0
def stb := lanes8 (lanes8 (ports (n1 (lock rdy)) 1) Ob.TX_STATE 2) Ob.TX_SYNTH_STATE 3
def tx1 : TxFrame := { seq := 9, first := 0, last := 0, body := some 77 }
def ltx (s : State) := mLink s (fun x => { x with tx := [tx1], replays := [9] })
def sea (s : State) := mRx (lanes8 (lanes8 (ports s 2) Ob.LINE_TL_STATE 2) Ob.PORT_SEARCH_STATUS 1) id
def cls (s : State) (c : Nat) (b : Bool) : State := { s with srch := s.srch.map (fun x => { x with cls := c, lock := b }) }
def S1 (s : State) := lanes8 s Ob.PORT_RATE_ACTIVE 3
def N2 (s : State) := lanes8 s Ob.PORT_RATE_ACTIVE 2
def mDsp (s : State) (f : Dsp → Dsp) : State := mRx s (fun x => { x with dsp := f x.dsp })
def stg (s : State) (o : List (Option (List Nat))) : State := mDsp s (fun x => { x with out := o, staged := 16384 })
theorem stg_staged (s : State) (o : List (Option (List Nat))) : (stg s o).rx[0].dsp.staged = 16384 := by simp [stg, mDsp, mRx]
theorem stg_out (s : State) (o : List (Option (List Nat))) : (stg s o).rx[0].dsp.out = o := by simp [stg, mDsp, mRx]
def srched : State := cls (sea k10) 1 false

/-- States that meet the hypotheses of `PortCommandsMoveThePort`, clause by clause. -/
theorem witness_PortCommandsMoveThePort :
    (∃ s : State, ∃ r : Req, ∃ p : Fin 8, (s.Accepts r .exec Ob.PORT_CMD (p.val + 1) [2]) ∧ (s.exists p = true) ∧ (s.pstate p = PS.OFF) ∧ (s.port[p].rateTo = none) ∧ (s.portTaken p = false) ∧ (s.portChecked p = false) ∧ (s.waiting Ob.PORT_CMD (p.val + 1) = false) ∧ (∀ d : Fin 36, s.doms[d].barred = false) ∧ (s.txState p ≠ 2)) ∧
    (∃ s : State, ∃ r : Req, ∃ p : Fin 8, (s.Accepts r .exec Ob.PORT_CMD (p.val + 1) [2]) ∧ (s.exists p = true) ∧ (s.pstate p = PS.STANDBY) ∧ (s.port[p].rateTo = none) ∧ (s.portTaken p = false) ∧ (s.portChecked p = false) ∧ (s.waiting Ob.PORT_CMD (p.val + 1) = false) ∧ (∀ l ∈ s.lanesOf p, s.tx[l].held = false ∧ s.txState l = 2 ∧ s.seq l = 0)) ∧
    (∃ s : State, ∃ r : Req, ∃ p : Fin 8, (s.Accepts r .exec Ob.PORT_CMD (p.val + 1) [0]) ∧ (s.exists p = true) ∧ (s.pstate p = PS.OFF) ∧ (s.port[p].restart = []) ∧ (s.waiting Ob.PORT_CMD (p.val + 1) = false)) ∧
    (∃ s : State, ∃ r : Req, ∃ p : Fin 8, (s.exists p = true) ∧ (s.pstate p = PS.CARRYING) ∧ (s.native p = true) ∧ (s.port[p].rateTo = none) ∧ (s.portTaken p = false) ∧ (s.portChecked p = false) ∧ (s.waiting Ob.PORT_CMD (p.val + 1) = false) ∧ (s.Accepts r .exec Ob.PORT_CMD (p.val + 1) [0])) ∧
    (∃ s : State, ∃ r : Req, ∃ p : Fin 8, (s.exists p = true) ∧ (s.pstate p = PS.CARRYING) ∧ (s.native p = true) ∧ (s.port[p].rateTo = none) ∧ (s.portTaken p = false) ∧ (s.portChecked p = false) ∧ (s.waiting Ob.PORT_CMD (p.val + 1) = false) ∧ (s.Accepts r .exec Ob.PORT_CMD (p.val + 1) [1]) ∧ (s.port[p].goal = .none)) ∧
    (∃ s : State, ∃ r : Req, ∃ p : Fin 8, (s.exists p = true) ∧ (s.pstate p ≠ PS.OFF) ∧ (s.waiting Ob.PORT_CMD (p.val + 1) = true) ∧ (s.Accepts r .exec Ob.PORT_CMD (p.val + 1) [1])) ∧
    (∃ s : State, ∃ r : Req, ∃ p : Fin 8, (s.exists p = true) ∧ (s.pstate p ≠ PS.OFF) ∧ (s.waiting Ob.PORT_CMD (p.val + 1) = true) ∧ (s.Accepts r .exec Ob.PORT_CMD (p.val + 1) [2])) := by
  refine ⟨?_, ?_, ?_, ?_, ?_, ?_, ?_⟩
  · exact ⟨rdy, rq, 0, wit (fun _ _ _ _ _ _ => inferInstance) (by decide +kernel)⟩
  · exact ⟨stb, rq, 0, wit (fun _ _ _ _ _ _ => inferInstance) (by decide +kernel)⟩
  · exact ⟨rdy, rq, 0, wit (fun _ _ _ _ _ _ => inferInstance) (by decide +kernel)⟩
  · exact ⟨(ltx k10), rq, 0, wit (fun _ _ _ _ _ _ => inferInstance) (by decide +kernel)⟩
  · exact ⟨(ltx k10), rq, 0, wit (fun _ _ _ _ _ _ => inferInstance) (by decide +kernel)⟩
  · exact ⟨(pend10 k10 Ob.PORT_CMD), rq, 0, wit (fun _ _ _ _ _ _ => inferInstance) (by decide +kernel)⟩
  · exact ⟨(pend10 k10 Ob.PORT_CMD), rq, 0, wit (fun _ _ _ _ _ _ => inferInstance) (by decide +kernel)⟩

/-- States that meet the hypotheses of `PortModeAndRateSet`, clause by clause. -/
theorem witness_PortModeAndRateSet :
    (∃ s : State, ∃ r : Req, ∃ p : Fin 8, ∃ v : Nat, (v ≤ 3) ∧ (s.Accepts r .write Ob.PORT_MODE (p.val + 1) (leBytes 1 v))) ∧
    (∃ s : State, ∃ r : Req, ∃ p : Fin 8, ∃ v : Nat, (v ≤ 1) ∧ (s.Accepts r .write Ob.PORT_RATE_SET (p.val + 1) (leBytes 1 v)) ∧ (v = 1) ∧ (class400 (s.halfValue (halfOf p)) = true)) ∧
    (∃ s : State, ∃ r : Req, ∃ p : Fin 8, ∃ v : Nat, (v ≤ 1) ∧ (s.Accepts r .write Ob.PORT_RATE_SET (p.val + 1) (leBytes 1 v)) ∧ (v = 0) ∧ (s.reg Ob.PORT_RATE_CHANGING (p.val + 1) ≠ 0)) ∧
    (∃ s : State, ∃ r : Req, ∃ p : Fin 8, ∃ v : Nat, (v ≤ 1) ∧ (s.Accepts r .write Ob.PORT_RATE_SET (p.val + 1) (leBytes 1 v)) ∧ (v = 0 ∨ class400 (s.halfValue (halfOf p)) = false) ∧ (s.reg Ob.PORT_RATE_CHANGING (p.val + 1) = 0) ∧ (s.pstate p = PS.OFF)) ∧
    (∃ s : State, ∃ r : Req, ∃ p : Fin 8, ∃ v : Nat, (v ≤ 1) ∧ (s.Accepts r .write Ob.PORT_RATE_SET (p.val + 1) (leBytes 1 v)) ∧ (v = 1) ∧ (s.reg Ob.PORT_RATE_CHANGING (p.val + 1) = 0) ∧ (s.class200 (halfOf p) = true) ∧ (s.exists p = true) ∧ (s.pstate p = PS.CARRYING) ∧ (s.rateActive p = Rate.N2) ∧ (s.port[p].goal = .none) ∧ (s.port[p].rateTo = none)) ∧
    (∃ s : State, ∃ p : Fin 8, (s.pstate p = PS.SEARCH) ∧ (s.port[p].rateTo.isSome = true)) ∧
    (∃ s : State, ∃ p : Fin 8, (s.pstate p ≠ PS.SEARCH)) := by
  refine ⟨?_, ?_, ?_, ?_, ?_, ?_, ?_⟩
  · exact ⟨rdy, rq, 0, 0, wit (fun _ _ _ _ _ _ => inferInstance) (by decide +kernel)⟩
  · exact ⟨rdy, rq, 0, 1, wit (fun _ _ _ _ _ _ => inferInstance) (by decide +kernel)⟩
  · exact ⟨(lanes8 off10 Ob.PORT_RATE_CHANGING 1), rq, 0, 0, wit (fun _ _ _ _ _ _ => inferInstance) (by decide +kernel)⟩
  · exact ⟨rdy, rq, 0, 0, wit (fun _ _ _ _ _ _ => inferInstance) (by decide +kernel)⟩
  · exact ⟨(br (N2 k10) 6 6), rq, 0, 1, wit (fun _ _ _ _ _ _ => inferInstance) (by decide +kernel)⟩
  · exact ⟨(mPort (sea k10) (fun x => { x with rateTo := some 3 })), 0, wit (fun _ _ _ _ _ _ => inferInstance) (by decide +kernel)⟩
  · exact ⟨rdy, 0, wit (fun _ _ _ _ _ _ => inferInstance) (by decide +kernel)⟩

/-- States that meet the hypotheses of `SearchProgress`, clause by clause. -/
theorem witness_SearchProgress :
    (∃ s : State, ∃ l : Fin 8, ∃ p : Fin 8, ∃ c : Fin 4, (s.portOf l = some p) ∧ (s.pstate p = PS.SEARCH) ∧ (c.val ≠ 0) ∧ (c.val = s.rateActive p ∨ s.follows p = false ∨ c.val ≠ Rate.S1)) ∧
    (∃ s : State, ∃ l : Fin 8, ∃ codes : List Int, ∃ k : Nat, 
      let s1 := s.rxSamples l codes
      (k < 8)) ∧
    (∃ s : State, ∃ l : Fin 8, ∃ codes : List Int, 
      let s1 := s.rxSamples l codes
      ((s1.sweeps l).isSome = true) ∧ (s1.candidate l = some true)) ∧
    (∃ s : State, ∃ l : Fin 8, ∃ codes : List Int, 
      let s1 := s.rxSamples l codes
      ((s1.sweeps l).isSome = true) ∧ (s1.candidate l = some false) ∧ (s1.srch[l].lock = false)) ∧
    (∃ s : State, ∃ l : Fin 8, ∃ codes : List Int, 
      let s1 := s.rxSamples l codes
      (s1.sweeps l = none ∨ s1.candidate l ≠ some true)) ∧
    (∃ s : State, ∃ l : Fin 8, ∃ codes : List Int, 
      let s1 := s.rxSamples l codes
      (s1.sweeps l = none ∨ s1.candidate l ≠ some false ∨ s1.srch[l].lock = true)) ∧
    (∃ s : State, ∃ l : Fin 8, ∃ p : Fin 8, (s.sweeps l = some p) ∧ (s.pstate p = PS.SEARCH) ∧ (s.srch[l].lock = true) ∧ (s.outerLane[l].streak = 0)) ∧
    (∃ s : State, ∃ l : Fin 8, (s.sweeps l = none ∨ s.srch[l].lock = false ∨ s.outerLane[l].streak ≠ 0)) ∧
    (∃ s : State, ∃ p : Fin 8, (s.exists p = true) ∧ (s.pstate p = PS.SEARCH) ∧ (∀ l ∈ s.lanesOf p, s.reg Ob.LINE_LOS_RAW (l.val + 1) ≠ 0) ∧ (s.reg Ob.PORT_SEARCH_STATUS (p.val + 1) ≠ 2)) ∧
    (∃ s : State, ∃ p : Fin 8, (s.exists p = true) ∧ (s.pstate p = PS.SEARCH) ∧ (∃ l ∈ s.lanesOf p, s.reg Ob.LINE_LOS_RAW (l.val + 1) = 0) ∧ (s.reg Ob.PORT_SEARCH_STATUS (p.val + 1) = 1 ∨ s.reg Ob.PORT_SEARCH_STATUS (p.val + 1) = 2)) := by
  refine ⟨?_, ?_, ?_, ?_, ?_, ?_, ?_, ?_, ?_, ?_⟩
  · exact ⟨(mPort (sea k10) (fun x => { x with rateTo := some 3 })), 0, 0, 1, wit (fun _ _ _ _ _ _ => inferInstance) (by decide +kernel)⟩
  · exact ⟨rdy, 0, [], 0, wit (fun _ _ _ _ _ _ => inferInstance) (by decide +kernel)⟩
  · refine ⟨stg srched (List.replicate 16384 (some [0, 5, 9, 20])), 0, [], ?_⟩
    rw [rxSamples_nil]
    exact ⟨by decide +kernel, (candidate_same (a := false) (b := false) (stg_staged _ _) (stg_out _ _) (by decide +kernel) (by decide +kernel)
      (by decide +kernel) (by decide +kernel)).trans (by decide +kernel)⟩
  · refine ⟨stg srched (List.replicate 16384 (some [20, 9, 5, 0])), 0, [], ?_⟩
    rw [rxSamples_nil]
    exact ⟨by decide +kernel, (candidate_same (a := true) (b := false) (stg_staged _ _) (stg_out _ _) (by decide +kernel) (by decide +kernel)
      (by decide +kernel) (by decide +kernel)).trans (by decide +kernel), by decide +kernel⟩
  · exact ⟨rdy, 0, [], wit (fun _ _ _ _ _ _ => inferInstance) (by decide +kernel)⟩
  · exact ⟨rdy, 0, [], wit (fun _ _ _ _ _ _ => inferInstance) (by decide +kernel)⟩
  · exact ⟨(cls (sea k10) 1 true), 0, wit (fun _ _ _ _ _ _ => inferInstance) (by decide +kernel)⟩
  · exact ⟨rdy, 0, wit (fun _ _ _ _ _ _ => inferInstance) (by decide +kernel)⟩
  · exact ⟨(lanes8 (lanes8 (sea k10) Ob.LINE_LOS_RAW 1) Ob.PORT_SEARCH_STATUS 1), 0, wit (fun _ _ _ _ _ _ => inferInstance) (by decide +kernel)⟩
  · exact ⟨(mPort (sea k10) (fun x => { x with rateTo := some 3 })), 0, wit (fun _ _ _ _ _ _ => inferInstance) (by decide +kernel)⟩

/-- States that meet the hypotheses of `CarryingAndDraining`, clause by clause. -/
theorem witness_CarryingAndDraining :
    (∃ s : State, ∃ p : Fin 8, (s.exists p = true) ∧ (s.pstate p = PS.ALIGNED) ∧ (s.portDark p = false)) ∧
    (∃ s : State, ∃ p : Fin 8, (s.exists p = true) ∧ (s.pstate p = PS.CARRYING) ∧ (s.native p = true)) ∧
    (∃ s : State, ∃ p : Fin 8, (s.exists p = true) ∧ (s.pstate p = PS.CARRYING) ∧ (s.portDark p = true)) ∧
    (∃ s : State, ∃ p : Fin 8, (s.exists p = true) ∧ (s.pstate p = PS.ALIGNED) ∧ (s.portDark p = true)) ∧
    (∃ s : State, ∃ p : Fin 8, (s.pstate p = PS.DRAINING) ∧ (s.link[p].held = []) ∧ (s.port[p].goal = .none) ∧ (s.port[p].rateTo = none)) ∧
    (∃ s : State, ∃ p : Fin 8, (s.pstate p = PS.DRAINING) ∧ (s.port[p].lastLeft = 0) ∧ (s.port[p].goal ≠ .none ∨ s.port[p].rateTo.isSome = true)) ∧
    (∃ s : State, ∃ p : Fin 8, (s.pstate p ≠ PS.ALIGNED)) ∧
    (∃ s : State, ∃ p : Fin 8, (s.pstate p ≠ PS.CARRYING)) ∧
    (∃ s : State, ∃ p : Fin 8, (s.portDark p = false)) ∧
    (∃ s : State, ∃ p : Fin 8, (s.pstate p ≠ PS.DRAINING)) := by
  refine ⟨?_, ?_, ?_, ?_, ?_, ?_, ?_, ?_, ?_, ?_⟩
  · exact ⟨(ports k10 3), 0, wit (fun _ _ _ _ _ _ => inferInstance) (by decide +kernel)⟩
  · exact ⟨(ltx k10), 0, wit (fun _ _ _ _ _ _ => inferInstance) (by decide +kernel)⟩
  · exact ⟨(lanes8 (ltx k10) Ob.LINE_LOS_RAW 1), 0, wit (fun _ _ _ _ _ _ => inferInstance) (by decide +kernel)⟩
  · exact ⟨(lanes8 (ports k10 3) Ob.LINE_LOS_RAW 1), 0, wit (fun _ _ _ _ _ _ => inferInstance) (by decide +kernel)⟩
  · exact ⟨(ports k10 5), 0, wit (fun _ _ _ _ _ _ => inferInstance) (by decide +kernel)⟩
  · exact ⟨(mPort (ports (lanes8 k10 Ob.OPTICS_SEQ_STATE 4) 5) (fun x => { x with goal := .off })), 0, wit (fun _ _ _ _ _ _ => inferInstance) (by decide +kernel)⟩
  · exact ⟨rdy, 0, wit (fun _ _ _ _ _ _ => inferInstance) (by decide +kernel)⟩
  · exact ⟨rdy, 0, wit (fun _ _ _ _ _ _ => inferInstance) (by decide +kernel)⟩
  · exact ⟨(ltx k10), 0, wit (fun _ _ _ _ _ _ => inferInstance) (by decide +kernel)⟩
  · exact ⟨rdy, 0, wit (fun _ _ _ _ _ _ => inferInstance) (by decide +kernel)⟩

/-- States that meet the hypotheses of `S1MarkersAndCodewords`, clause by clause. -/
theorem witness_S1MarkersAndCodewords :
    (∃ s : State, ∃ l : Fin 8, ∃ p : Fin 8, ∃ err : Bool, ∃ lock : Bool, (s.portOf l = some p) ∧ (s.rateActive p = Rate.S1) ∧ (PS.SEARCH ≤ s.pstate p) ∧ (s.pstate p ≤ PS.DRAINING) ∧ (s.srch[l].cls = Rate.S1)) ∧
    (∃ s : State, ∃ l : Fin 8, ∃ p : Fin 8, ∃ n : Nat, ∃ k : Nat, ∃ e : Nat, ∃ u : Bool, ∃ m : Bool, ∃ data : List Bool, (s.portOf l = some p) ∧ (s.rateActive p = Rate.S1) ∧ (s.tl l ≠ 0 ∨ s.testKind p = 5)) ∧
    (∃ s : State, ∃ l : Fin 8, ∃ a : Bool, ∃ b : Bool, ∃ n : Nat, ∃ k : Nat, ∃ e : Nat, ∃ data : List Bool, (s.portOf l = none)) := by
  refine ⟨?_, ?_, ?_⟩
  · exact ⟨(cls (S1 k10) 3 true), 0, 0, false, false, wit (fun _ _ _ _ _ _ => inferInstance) (by decide +kernel)⟩
  · exact ⟨(lanes8 (lanes8 (cls (S1 (ports k10 2)) 3 true) Ob.S1_ALIGN_STATE 1) Ob.LINE_TL_STATE 2), 0, 0, 0, 0, 0, false, false, [], wit (fun _ _ _ _ _ _ => inferInstance) (by decide +kernel)⟩
  · exact ⟨(br k10 0 0), 0, false, false, 0, 0, 0, [], wit (fun _ _ _ _ _ _ => inferInstance) (by decide +kernel)⟩

/-- States that meet the hypotheses of `BreakoutApplies`, clause by clause. -/
theorem witness_BreakoutApplies :
    (∃ s : State, ∃ r : Req, (s.Accepts r .exec Ob.PORT_APPLY_BREAKOUT 0 [0]) ∧ (s.breakoutRun = none) ∧ (∀ i ∈ s.analog.running, 24 ≤ i) ∧ (breakoutPair (s.nat Ob.PORT_BREAKOUT_EAST 0) (s.nat Ob.PORT_BREAKOUT_WEST 0) = false)) ∧
    (∃ s : State, ∃ r : Req, (s.Accepts r .exec Ob.PORT_APPLY_BREAKOUT 0 [0]) ∧ (s.breakoutRun = none) ∧ (∀ i ∈ s.analog.running, 24 ≤ i) ∧ (s.nat Ob.PORT_BREAKOUT_EAST 0 = s.breakout[0]) ∧ (s.nat Ob.PORT_BREAKOUT_WEST 0 = s.breakout[1]) ∧ (s.breakout[0] ∉ [4, 7]) ∧ (s.breakout[1] ∉ [4, 7]) ∧ (s.interopClash s.breakout[0] s.breakout[1] = false)) ∧
    (∃ s : State, ∃ r : Req, (s.Accepts r .exec Ob.PORT_APPLY_BREAKOUT 0 [0]) ∧ (s.breakoutRun = none) ∧ (∀ i ∈ s.analog.running, 24 ≤ i) ∧ (breakoutPair (s.nat Ob.PORT_BREAKOUT_EAST 0) (s.nat Ob.PORT_BREAKOUT_WEST 0) = true) ∧ (s.interopClash (s.nat Ob.PORT_BREAKOUT_EAST 0) (s.nat Ob.PORT_BREAKOUT_WEST 0) = false) ∧ (s.nat Ob.PORT_BREAKOUT_EAST 0 ≠ s.breakout[0])) ∧
    (∃ s : State, ∃ r : Req, (s.Accepts r .exec Ob.PORT_APPLY_BREAKOUT 0 [0]) ∧ (s.breakoutRun.isSome = true)) ∧
    (∃ s : State, ∃ b : BreakoutRun, (s.breakoutRun = some b) ∧ (∀ p : Fin 8, s.pstate p = PS.OFF)) ∧
    (∃ s : State, (s.breakoutRun = none)) := by
  refine ⟨?_, ?_, ?_, ?_, ?_, ?_⟩
  · exact ⟨(br k10 7 6), rq, wit (fun _ _ _ _ _ _ => inferInstance) (by decide +kernel)⟩
  · exact ⟨rdy, rq, wit (fun _ _ _ _ _ _ => inferInstance) (by decide +kernel)⟩
  · exact ⟨(set off10 [(Ob.PORT_BREAKOUT_EAST, 0, 5)]), rq, wit (fun _ _ _ _ _ _ => inferInstance) (by decide +kernel)⟩
  · exact ⟨({ off10 with breakoutRun := some ⟨true, false, 5, 0⟩ }), rq, wit (fun _ _ _ _ _ _ => inferInstance) (by decide +kernel)⟩
  · exact ⟨({ off10 with breakoutRun := some ⟨true, false, 5, 0⟩ }), wit (fun _ _ _ _ _ _ => inferInstance) (by decide +kernel)⟩
  · exact ⟨rdy, wit (fun _ _ _ _ _ _ => inferInstance) (by decide +kernel)⟩

end W10

namespace W11
def k11 := n1 (lanes8 (up rdy 4) Ob.LINE_LOS_RAW 0)
def wChk (s : State) (c : PatChk) : State := { mRx s (fun x => { x with chk := c }) with hostLane := s.hostLane.map (fun x => { x with chk := c }) }
def pats (s : State) (k : Nat) : State := { s with test := s.test.map (fun x => { x with pats := List.replicate 16 k }) }
def stb := lanes8 (lanes8 (ports (n1 (lock rdy)) 1) Ob.TX_STATE 2) Ob.TX_SYNTH_STATE 3
def tst (s : State) (k : Nat) (inj left : Nat) : State := lanes8 { s with test := s.test.map (fun x => { x with kind := k, injKind := inj, injLeft := left }) } Ob.PORT_TEST_RESULT (if k = 0 then 0 else 1)
def chkS (s : State) (v : Int) := lanes16 (lanes8 s Ob.TEST_LINE_CHK_STATE v) Ob.TEST_HOST_CHK_STATE v

/-- States that meet the hypotheses of `TestSequencesStartAndEnd`, clause by clause. -/
theorem witness_TestSequencesStartAndEnd :
    (∃ s : State, ∃ r : Req, ∃ p : Fin 8, ∃ k : Nat, ∃ c : Instr, ((k, c) ∈ [(2, Instr.testHostPrbs r (p.val + 1)), (3, Instr.testLoopHostAnalog r (p.val + 1)), (4, Instr.testLoopHostDigital r (p.val + 1))]) ∧ (s.Accepts r .exec Ob.PORT_TEST_START (p.val + 1) [BitVec.ofNat 8 k]) ∧ (s.exists p = true) ∧ (s.pstate p = PS.STANDBY) ∧ (s.port[p].rateTo = none) ∧ (s.port[p].goal = .none) ∧ (s.portTaken p = false) ∧ (s.waiting Ob.PORT_CMD (p.val + 1) = false) ∧ (s.waiting Ob.PORT_TEST_START (p.val + 1) = false)) ∧
    (∃ s : State, ∃ r : Req, ∃ p : Fin 8, ∃ k : Nat, ∃ c : Instr, ((k, c) ∈ [(1, Instr.testLinePrbs r (p.val + 1)), (5, Instr.testLoopLineLocal r (p.val + 1)), (6, Instr.testLoopLineTic r (p.val + 1))]) ∧ (s.Accepts r .exec Ob.PORT_TEST_START (p.val + 1) [BitVec.ofNat 8 k]) ∧ (s.exists p = true) ∧ (s.pstate p = PS.STANDBY) ∧ (s.native p = true) ∧ (s.port[p].rateTo = none) ∧ (s.port[p].goal = .none) ∧ (s.portTaken p = false) ∧ (s.waiting Ob.PORT_CMD (p.val + 1) = false) ∧ (s.waiting Ob.PORT_TEST_START (p.val + 1) = false) ∧ (∀ l ∈ s.lanesOf p, s.txState l = 2 ∧ s.seq l = 0)) ∧
    (∃ s : State, ∃ r : Req, ∃ p : Fin 8, ∃ k : Nat, ∃ c : Instr, ((k, c) ∈ [(1, Instr.testLinePrbs r (p.val + 1)), (2, Instr.testHostPrbs r (p.val + 1)), (3, Instr.testLoopHostAnalog r (p.val + 1)),
      (4, Instr.testLoopHostDigital r (p.val + 1)), (5, Instr.testLoopLineLocal r (p.val + 1)), (6, Instr.testLoopLineTic r (p.val + 1))]) ∧ (s.Accepts r .exec Ob.PORT_TEST_START (p.val + 1) [BitVec.ofNat 8 k]) ∧ (s.pstate p = PS.OFF ∨ ((s.pstate p = PS.DRAINING ∨ s.pstate p = PS.TEST) ∧ s.port[p].rateTo = none ∧
      s.portTaken p = false ∧ s.waiting Ob.PORT_CMD (p.val + 1) = false))) ∧
    (∃ s : State, ∃ p : Fin 8, (s.exists p = true) ∧ (s.pstate p = PS.TEST) ∧ (s.test[p].kind ≠ 0) ∧ (s.reg Ob.PORT_TEST_RESULT (p.val + 1) = 1) ∧ (s.test[p].ret = 1) ∧ (s.portDownDone p = true) ∧ (s.port[p].lastLeft = 0) ∧ (s.port[p].rateTo = none)) ∧
    (∃ s : State, ∃ p : Fin 8, (s.pstate p ≠ PS.TEST)) := by
  refine ⟨?_, ?_, ?_, ?_, ?_⟩
  · exact ⟨stb, rq, 0, 2, ((Instr.testHostPrbs rq ((0 : Fin 8).val + 1))), wit (fun _ _ _ _ _ _ => inferInstance) (by decide +kernel)⟩
  · exact ⟨stb, rq, 0, 1, ((Instr.testLinePrbs rq ((0 : Fin 8).val + 1))), wit (fun _ _ _ _ _ _ => inferInstance) (by decide +kernel)⟩
  · exact ⟨rdy, rq, 0, 1, ((Instr.testLinePrbs rq ((0 : Fin 8).val + 1))), wit (fun _ _ _ _ _ _ => inferInstance) (by decide +kernel)⟩
  · exact ⟨(tst (ports stb 6) 2 0 0), 0, wit (fun _ _ _ _ _ _ => inferInstance) (by decide +kernel)⟩
  · exact ⟨rdy, 0, wit (fun _ _ _ _ _ _ => inferInstance) (by decide +kernel)⟩

/-- States that meet the hypotheses of `CheckersLockAndLose`, clause by clause. -/
theorem witness_CheckersLockAndLose :
    (∃ s : State, ∃ l : Fin 8, ∃ codes : List Int, ∃ pre : Bool, ∃ g : PatGen, 
      let s1 := s.rxSamples l codes
      (s1.reg Ob.TEST_LINE_CHK_STATE (l.val + 1) = 1) ∧ (lockOn (s1.patternOf (.line l)) (s1.interpretations l) s1.rx[l].chk.seen = some (pre, g))) ∧
    (∃ s : State, ∃ l : Fin 8, ∃ codes : List Int, 
      let s1 := s.rxSamples l codes
      (s1.reg Ob.TEST_LINE_CHK_STATE (l.val + 1) ≠ 1 ∨
        lockOn (s1.patternOf (.line l)) (s1.interpretations l) s1.rx[l].chk.seen = none)) ∧
    (∃ s : State, ∃ h : Fin 16, ∃ codes : List Int, ∃ pre : Bool, ∃ g : PatGen, 
      let s1 := s.hostDecide h (codes.map Int.toNat)
      (s1.reg Ob.TEST_HOST_CHK_STATE (h.val + 1) = 1) ∧ (lockOn (s1.patternOf (.host h)) [false] s1.hostLane[h].chk.seen = some (pre, g))) ∧
    (∃ s : State, ∃ h : Fin 16, ∃ codes : List Int, 
      let s1 := s.hostDecide h (codes.map Int.toNat)
      (s1.reg Ob.TEST_HOST_CHK_STATE (h.val + 1) ≠ 1 ∨ lockOn (s1.patternOf (.host h)) [false] s1.hostLane[h].chk.seen = none)) ∧
    (∃ s : State, ∃ l : Fin 8, ∃ codes : List Int, 
      let s1 := s.rxSamples l codes
      (s1.reg Ob.TEST_LINE_CHK_STATE (l.val + 1) = 2) ∧ (s1.rx[l].chk.errs.length = 256) ∧ (128 ≤ s1.rx[l].chk.errs.count true)) ∧
    (∃ s : State, ∃ l : Fin 8, ∃ codes : List Int, 
      let s1 := s.rxSamples l codes
      (s1.reg Ob.TEST_LINE_CHK_STATE (l.val + 1) ≠ 2 ∨ s1.rx[l].chk.errs.length ≠ 256 ∨ s1.rx[l].chk.errs.count true < 128)) ∧
    (∃ s : State, ∃ h : Fin 16, ∃ codes : List Int, 
      let s1 := s.hostDecide h (codes.map Int.toNat)
      (s1.reg Ob.TEST_HOST_CHK_STATE (h.val + 1) = 2) ∧ (s1.hostLane[h].chk.errs.length = 256) ∧ (128 ≤ s1.hostLane[h].chk.errs.count true)) ∧
    (∃ s : State, ∃ h : Fin 16, ∃ codes : List Int, 
      let s1 := s.hostDecide h (codes.map Int.toNat)
      (s1.reg Ob.TEST_HOST_CHK_STATE (h.val + 1) ≠ 2 ∨ s1.hostLane[h].chk.errs.length ≠ 256 ∨ s1.hostLane[h].chk.errs.count true < 128)) := by
  refine ⟨?_, ?_, ?_, ?_, ?_, ?_, ?_, ?_⟩
  · exact ⟨wChk (pats (chkS (tst (ports stb 6) 1 0 0) 1) 1) { seen := List.replicate 80 2 }, 0, [], false, { reg := List.replicate 31 true }, wit (fun _ _ _ _ _ _ => inferInstance) (by decide +kernel)⟩
  · exact ⟨rdy, 0, [], wit (fun _ _ _ _ _ _ => inferInstance) (by decide +kernel)⟩
  · exact ⟨wChk (pats (chkS (tst (ports stb 6) 2 0 0) 1) 1) { seen := List.replicate 80 2 }, 0, [], false, { reg := List.replicate 31 true }, wit (fun _ _ _ _ _ _ => inferInstance) (by decide +kernel)⟩
  · exact ⟨rdy, 0, [], wit (fun _ _ _ _ _ _ => inferInstance) (by decide +kernel)⟩
  · exact ⟨(wChk (pats (chkS (tst (ports stb 6) 1 0 0) 2) 0) { errs := (List.replicate 128 true ++ List.replicate 128 false) }), 0, [], wit (fun _ _ _ _ _ _ => inferInstance) (by decide +kernel)⟩
  · exact ⟨rdy, 0, [], wit (fun _ _ _ _ _ _ => inferInstance) (by decide +kernel)⟩
  · exact ⟨(wChk (pats (chkS (tst (ports stb 6) 1 0 0) 2) 0) { errs := (List.replicate 128 true ++ List.replicate 128 false) }), 0, [], wit (fun _ _ _ _ _ _ => inferInstance) (by decide +kernel)⟩
  · exact ⟨rdy, 0, [], wit (fun _ _ _ _ _ _ => inferInstance) (by decide +kernel)⟩

/-- States that meet the hypotheses of `FarLoopInjectionsAndCapture`, clause by clause. -/
theorem witness_FarLoopInjectionsAndCapture :
    (∃ s : State, ∃ r : Req, ∃ p : Fin 8, ∃ v : Nat, (v ≤ 1) ∧ (s.Accepts r .write Ob.TEST_FAR_LOOP (p.val + 1) (leBytes 1 v)) ∧ (r.path.isLocal = true ∨ s.reg Ob.TEST_FAR_LOOP_GRANT (p.val + 1) ≠ 0) ∧ (v = 0 ∨ (s.exists p = true ∧ s.pstate p = PS.CARRYING ∧ s.native p = true))) ∧
    (∃ s : State, ∃ r : Req, ∃ p : Fin 8, ∃ v : Nat, (v ≤ 1) ∧ (s.Accepts r .write Ob.TEST_FAR_LOOP (p.val + 1) (leBytes 1 v)) ∧ (r.path.isLocal = false) ∧ (s.reg Ob.TEST_FAR_LOOP_GRANT (p.val + 1) = 0)) ∧
    (∃ s : State, ∃ r : Req, ∃ p : Fin 8, ∃ v : Nat, (v ≤ 1) ∧ (s.Accepts r .write Ob.TEST_FAR_LOOP (p.val + 1) (leBytes 1 v)) ∧ (r.path.isLocal = true) ∧ (v = 1) ∧ (s.pstate p ≠ PS.CARRYING)) ∧
    (∃ s : State, ∃ r : Req, ∃ p : Fin 8, (s.Accepts r .exec Ob.TEST_INJ_FIRE (p.val + 1) [0]) ∧ (s.nat Ob.TEST_INJ_COUNT (p.val + 1) ≤ injMax (s.nat Ob.TEST_INJ_KIND (p.val + 1))) ∧ (s.reg Ob.TEST_INJ_ACTIVE (p.val + 1) = 0) ∧ (s.exists p = true) ∧ (s.injAdmits p (s.nat Ob.TEST_INJ_KIND (p.val + 1)) = true)) ∧
    (∃ s : State, ∃ r : Req, ∃ p : Fin 8, (s.Accepts r .exec Ob.TEST_INJ_FIRE (p.val + 1) [0]) ∧ (injMax (s.nat Ob.TEST_INJ_KIND (p.val + 1)) < s.nat Ob.TEST_INJ_COUNT (p.val + 1))) ∧
    (∃ s : State, ∃ r : Req, ∃ p : Fin 8, (s.Accepts r .exec Ob.TEST_INJ_FIRE (p.val + 1) [0]) ∧ (s.nat Ob.TEST_INJ_COUNT (p.val + 1) ≤ injMax (s.nat Ob.TEST_INJ_KIND (p.val + 1))) ∧ (s.reg Ob.TEST_INJ_ACTIVE (p.val + 1) ≠ 0)) ∧
    (∃ s : State, ∃ p : Fin 8, (s.test[p].injKind = 6) ∧ (0 < s.test[p].injLeft)) ∧
    (∃ s : State, ∃ p : Fin 8, (s.test[p].injKind ≠ 6)) ∧
    (∃ s : State, ∃ r : Req, (s.Accepts r .exec Ob.TEST_CAP_ARM 0 [0])) ∧
    (∃ s : State, ∃ r : Req, (s.Accepts r .exec Ob.TEST_CAP_TRIGGER 0 [0]) ∧ (s.reg Ob.TEST_CAP_STATE 0 = 1) ∧ (s.reg Ob.TEST_CAP_TRIG 0 = 0)) ∧
    (∃ s : State, ∃ r : Req, (s.Accepts r .exec Ob.TEST_CAP_TRIGGER 0 [0]) ∧ (s.reg Ob.TEST_CAP_STATE 0 ≠ 1 ∨ s.reg Ob.TEST_CAP_TRIG 0 ≠ 0)) ∧
    (∃ s : State, (s.reg Ob.TEST_CAP_STATE 0 = 1) ∧ (s.reg Ob.TEST_CAP_TRIG 0 = 1) ∧ (s.nat Ob.TEST_CAP_TRIG_TIME 0 ≤ s.stamp)) ∧
    (∃ s : State, (s.reg Ob.TEST_CAP_STATE 0 ≠ 1 ∨ s.reg Ob.TEST_CAP_TRIG 0 ≠ 1 ∨ s.stamp < s.nat Ob.TEST_CAP_TRIG_TIME 0)) ∧
    (∃ s : State, (s.reg Ob.TEST_CAP_STATE 0 = 2) ∧ (s.cap.left = some 0) ∧ 
      let data := capPack (s.reg Ob.TEST_CAP_SOURCE 0) (s.cap.ring.reverse.map (·.1))
      (data.length ≤ 2097152)) ∧
    (∃ s : State, (s.reg Ob.TEST_CAP_STATE 0 ≠ 2 ∨ s.cap.left ≠ some 0)) := by
  refine ⟨?_, ?_, ?_, ?_, ?_, ?_, ?_, ?_, ?_, ?_, ?_, ?_, ?_, ?_, ?_⟩
  · exact ⟨rdy, rq, 0, 0, wit (fun _ _ _ _ _ _ => inferInstance) (by decide +kernel)⟩
  · exact ⟨rdy, (⟨.inband 1, 0x22, none, 3⟩), 0, 0, wit (fun _ _ _ _ _ _ => inferInstance) (by decide +kernel)⟩
  · exact ⟨rdy, rq, 0, 1, wit (fun _ _ _ _ _ _ => inferInstance) (by decide +kernel)⟩
  · exact ⟨(tst (ports stb 6) 5 0 0), rq, 0, wit (fun _ _ _ _ _ _ => inferInstance) (by decide +kernel)⟩
  · exact ⟨(lanes8 (lanes8 k11 Ob.TEST_INJ_KIND 1) Ob.TEST_INJ_COUNT 2000000000), rq, 0, wit (fun _ _ _ _ _ _ => inferInstance) (by decide +kernel)⟩
  · exact ⟨(lanes8 k11 Ob.TEST_INJ_ACTIVE 1), rq, 0, wit (fun _ _ _ _ _ _ => inferInstance) (by decide +kernel)⟩
  · exact ⟨(tst k11 0 6 40), 0, wit (fun _ _ _ _ _ _ => inferInstance) (by decide +kernel)⟩
  · exact ⟨rdy, 0, wit (fun _ _ _ _ _ _ => inferInstance) (by decide +kernel)⟩
  · exact ⟨rdy, rq, wit (fun _ _ _ _ _ _ => inferInstance) (by decide +kernel)⟩
  · exact ⟨(set k11 [(Ob.TEST_CAP_STATE, 0, 1)]), rq, wit (fun _ _ _ _ _ _ => inferInstance) (by decide +kernel)⟩
  · exact ⟨rdy, rq, wit (fun _ _ _ _ _ _ => inferInstance) (by decide +kernel)⟩
  · exact ⟨(set k11 [(Ob.TEST_CAP_STATE, 0, 1), (Ob.TEST_CAP_TRIG, 0, 1)]), wit (fun _ _ _ _ _ _ => inferInstance) (by decide +kernel)⟩
  · exact ⟨rdy, wit (fun _ _ _ _ _ _ => inferInstance) (by decide +kernel)⟩
  · exact ⟨({ set k11 [(Ob.TEST_CAP_STATE, 0, 2), (Ob.TEST_CAP_LANE, 0, 5), (Ob.TEST_CAP_SOURCE, 0, 3)] with cap := { left := some 0, ring := [(3, 100), (2, 99), (1, 98), (0, 97), (2, 50)] } }), wit (fun _ _ _ _ _ _ => inferInstance) (by decide +kernel)⟩
  · exact ⟨rdy, wit (fun _ _ _ _ _ _ => inferInstance) (by decide +kernel)⟩

end W11

namespace W12
def firRow : ObjRow := (objTable.filter (fun k => k.ix = Ob.HK_FIR_IDLE)).headD ⟨0, "", .u8, 0, 0, 0, 0, false, 0, 1⟩
def fwdS (s : State) (left : Nat) : State := { s with mmp := { s.mmp with fwd := s.mmp.fwd.map (fun _ => [⟨3, ⟨.spi, 0x77, none, 3⟩, 0x20, 0x0200, 0, [1,2], left⟩]) } }
def seqS (s : State) (ix sub : Nat) (p : Path) (l : List Byte) : State := { s with mmp := { s.mmp with seqs := [⟨ix, sub, p, l⟩] } }
def mkrep (tag : Byte) : List Byte := closeFrame ([0xA5, 0x80, tag] ++ leBytes 2 0x0200 ++ [0] ++ leBytes 2 3 ++ [0, 1, 2, 3])
def feat (s : State) := lanes8 (lanes8 s Ob.LINK_PARTNER_FEAT 3) Ob.LINK_LPL_TX 3
def partn (s : State) := lanes8 s Ob.MMP_FAR_SERVE 1

/-- States that meet the hypotheses of `ObjectsReadWriteAndWalk`, clause by clause. -/
theorem witness_ObjectsReadWriteAndWalk :
    (∃ s : State, ∃ r : Req, ∃ ix : Nat, ∃ sub : Nat, ∃ row : ObjRow, (objRow? ix = some row) ∧ (row.ty.isBytes = false) ∧ (ix ∉ computedObjs) ∧ (s.Accepts r .read ix sub [])) ∧
    (∃ s : State, ∃ r : Req, (s.Accepts r .read Ob.TIME_NOW 0 [])) ∧
    (∃ s : State, ∃ r : Req, ∃ ix : Nat, ∃ sub : Nat, ∃ pl : List Byte, ∃ row : ObjRow, (objRow? ix = some row) ∧ (sub < 256) ∧ (s.Accepts r .write ix sub pl) ∧ (row.ty.isBytes = false) ∧ (ix / 256 ∉ ruledChapters)) ∧
    (∃ s : State, ∃ r : Req, ∃ ix : Nat, ∃ sub : Nat, ∃ pl : List Byte, ∃ row : ObjRow, (objRow? ix = some row) ∧ (sub < 256) ∧ (s.Accepts r .write ix sub pl) ∧ (row.ty.isBytes = true) ∧ (ix ∉ ruledBytes)) ∧
    (∃ s : State, ∃ r : Req, (s.Accepts r .exec Ob.RETRY_CLEAR_PEAKS 0 [0])) ∧
    (∃ s : State, ∃ r : Req, ∃ ix : Nat, ∃ sub : Nat, ∃ off : Nat, ∃ cnt : Nat, ∃ b : List Byte, (off < 2 ^ 32) ∧ (cnt < 2 ^ 16) ∧ (s.Accepts r .readBlock ix sub (leBytes 4 off ++ leBytes 2 cnt)) ∧ (ix ∉ readEffects) ∧ (s.absorbedBy ix sub = none) ∧ ((s.taken r .readBlock ix sub (leBytes 4 off ++ leBytes 2 cnt)).bytesOf (s.cls r.path) ix sub = some b) ∧ (off + cnt ≤ b.length) ∧ (ix = Ob.TEST_CAP_DATA → b.length = 2097152)) ∧
    (∃ s : State, ∃ r : Req, ∃ ix : Nat, ∃ sub : Nat, ∃ off : Nat, ∃ cnt : Nat, ∃ b : List Byte, (off < 2 ^ 32) ∧ (cnt < 2 ^ 16) ∧ (s.Accepts r .readBlock ix sub (leBytes 4 off ++ leBytes 2 cnt)) ∧ (ix ∉ readEffects) ∧ (s.absorbedBy ix sub = none) ∧ ((s.taken r .readBlock ix sub (leBytes 4 off ++ leBytes 2 cnt)).bytesOf (s.cls r.path) ix sub = some b) ∧ (b.length < off + cnt)) ∧
    (∃ s : State, ∃ r : Req, ∃ ix : Nat, ∃ sub : Nat, ∃ off : Nat, ∃ data : List Byte, ∃ have_ : List Byte, ∃ row : ObjRow, (off < 2 ^ 32) ∧ (objRow? ix = some row) ∧ (ix ≠ Ob.UPDATE_STAGING) ∧ (data.length ≤ 4096) ∧ (s.Accepts r .writeBlock ix sub (leBytes 4 off ++ data)) ∧ ((s.mmp.seqs.find? (fun q => q.ix == ix && q.sub == sub) = none ∧ have_ = []) ∨
      s.mmp.seqs.find? (fun q => q.ix == ix && q.sub == sub) = some ⟨ix, sub, r.path, have_⟩) ∧ (off = have_.length) ∧ (off + data.length < row.len)) ∧
    (∃ s : State, ∃ r : Req, ∃ ix : Nat, ∃ sub : Nat, ∃ off : Nat, ∃ data : List Byte, ∃ have_ : List Byte, ∃ row : ObjRow, (off < 2 ^ 32) ∧ (objRow? ix = some row) ∧ (ix ≠ Ob.UPDATE_STAGING) ∧ (data.length ≤ 4096) ∧ (s.Accepts r .writeBlock ix sub (leBytes 4 off ++ data)) ∧ ((s.mmp.seqs.find? (fun q => q.ix == ix && q.sub == sub) = none ∧ have_ = []) ∨
      s.mmp.seqs.find? (fun q => q.ix == ix && q.sub == sub) = some ⟨ix, sub, r.path, have_⟩) ∧ (off = have_.length) ∧ (off + data.length = row.len) ∧ (ix ∉ ruledBytes)) ∧
    (∃ s : State, ∃ r : Req, ∃ ix : Nat, ∃ sub : Nat, ∃ off : Nat, ∃ data : List Byte, ∃ have_ : List Byte, ∃ row : ObjRow, (off < 2 ^ 32) ∧ (objRow? ix = some row) ∧ (ix ≠ Ob.UPDATE_STAGING) ∧ (data.length ≤ 4096) ∧ (s.Accepts r .writeBlock ix sub (leBytes 4 off ++ data)) ∧ ((s.mmp.seqs.find? (fun q => q.ix == ix && q.sub == sub) = none ∧ have_ = []) ∨
      s.mmp.seqs.find? (fun q => q.ix == ix && q.sub == sub) = some ⟨ix, sub, r.path, have_⟩) ∧ (off = have_.length) ∧ (row.len < off + data.length)) ∧
    (∃ s : State, ∃ r : Req, ∃ ix : Nat, ∃ sub : Nat, ∃ off : Nat, ∃ data : List Byte, ∃ have_ : List Byte, ∃ row : ObjRow, (off < 2 ^ 32) ∧ (objRow? ix = some row) ∧ (ix ≠ Ob.UPDATE_STAGING) ∧ (data.length ≤ 4096) ∧ (s.Accepts r .writeBlock ix sub (leBytes 4 off ++ data)) ∧ ((s.mmp.seqs.find? (fun q => q.ix == ix && q.sub == sub) = none ∧ have_ = []) ∨
      s.mmp.seqs.find? (fun q => q.ix == ix && q.sub == sub) = some ⟨ix, sub, r.path, have_⟩) ∧ (off ≠ have_.length)) ∧
    (∃ s : State, ∃ r : Req, ∃ ix : Nat, ∃ sub : Nat, (s.Accepts r .walk ix sub []) ∧ (∀ row ∈ objTable, ix ≤ row.ix → s.walks (s.cls r.path) (viewOf r) row = false)) ∧
    (∃ s : State, ∃ r : Req, ∃ ix : Nat, ∃ sub : Nat, ∃ row : ObjRow, (s.Accepts r .walk ix sub []) ∧ (row ∈ objTable) ∧ (ix ≤ row.ix) ∧ (s.walks (s.cls r.path) (viewOf r) row = true) ∧ (∀ k ∈ objTable, ix ≤ k.ix → s.walks (s.cls r.path) (viewOf r) k = true → row.ix ≤ k.ix)) := by
  refine ⟨?_, ?_, ?_, ?_, ?_, ?_, ?_, ?_, ?_, ?_, ?_, ?_, ?_⟩
  · exact ⟨rdy, rq, 1, 0, wit (fun _ _ _ _ _ _ => inferInstance) (by decide +kernel)⟩
  · exact ⟨rdy, rq, wit (fun _ _ _ _ _ _ => inferInstance) (by decide +kernel)⟩
  · exact ⟨rdy, rq, 66, 0, [1], wit (fun _ _ _ _ _ _ => inferInstance) (by decide +kernel)⟩
  · exact ⟨rdy, rq, 4123, 0, (List.replicate 768 3), wit (fun _ _ _ _ _ _ => inferInstance) (by decide +kernel)⟩
  · exact ⟨rdy, rq, wit (fun _ _ _ _ _ _ => inferInstance) (by decide +kernel)⟩
  · exact ⟨rdy, rq, 4123, 0, 0, 1, (rdy.blob Ob.HK_FIR_IDLE 0), wit (fun _ _ _ _ _ _ => inferInstance) (by decide +kernel)⟩
  · exact ⟨rdy, rq, 4123, 0, 1, 768, (rdy.blob Ob.HK_FIR_IDLE 0), wit (fun _ _ _ _ _ _ => inferInstance) (by decide +kernel)⟩
  · exact ⟨rdy, rq, 4123, 0, 0, [1], [], firRow, wit (fun _ _ _ _ _ _ => inferInstance) (by decide +kernel)⟩
  · exact ⟨rdy, rq, 4123, 0, 0, (List.replicate 768 3), [], firRow, wit (fun _ _ _ _ _ _ => inferInstance) (by decide +kernel)⟩
  · exact ⟨(seqS rdy Ob.HK_FIR_IDLE 0 .spi [1]), rq, 4123, 0, 1, (List.replicate 768 3), [1], firRow, wit (fun _ _ _ _ _ _ => inferInstance) (by decide +kernel)⟩
  · exact ⟨rdy, rq, 4123, 0, 1, [1], [], firRow, wit (fun _ _ _ _ _ _ => inferInstance) (by decide +kernel)⟩
  · exact ⟨rdy, rq, 16384, 0, wit (fun _ _ _ _ _ _ => inferInstance) (by decide +kernel)⟩
  · exact ⟨rdy, rq, 4123, 0, firRow, wit (fun _ _ _ _ _ _ => inferInstance) (by decide +kernel)⟩

/-- States that meet the hypotheses of `ForwardedRequestsAreAnswered`, clause by clause. -/
theorem witness_ForwardedRequestsAreAnswered :
    (∃ s : State, ∃ r : Req, ∃ op : Opcode, ∃ p : Fin 8, ∃ ix : Nat, ∃ sub : Nat, ∃ pl : List Byte, (r.path.isLocal = true) ∧ (s.on Dom.MGT = true) ∧ (opChanges op = true → ∀ l ∈ (s.tp r.path).last, l.tag = r.tag → l.crc ≠ crc16 (forwardBody r op p.val ix sub pl)) ∧ (s.tagBusy r.path r.tag = false) ∧ ((s.arrive r.path (closeFrame (forwardBody r op p.val ix sub pl))).outstanding r.path < 8) ∧ (s.reg Ob.DICT_STATE 0 = 1) ∧ (s.reg Ob.LC_STATE 0 ≠ 0) ∧ (s.reg Ob.LC_STATE 0 ≠ 5) ∧ (s.forwards r p.val = some p) ∧ (∃ k < 8, ∀ f ∈ s.mmp.fwd[p], f.tag ≠ BitVec.ofNat 8 k)) ∧
    (∃ s : State, ∃ r : Req, ∃ op : Opcode, ∃ p : Fin 8, ∃ ix : Nat, ∃ sub : Nat, ∃ pl : List Byte, (r.path.isLocal = true) ∧ (s.on Dom.MGT = true) ∧ (opChanges op = true → ∀ l ∈ (s.tp r.path).last, l.tag = r.tag → l.crc ≠ crc16 (forwardBody r op p.val ix sub pl)) ∧ (s.tagBusy r.path r.tag = false) ∧ ((s.arrive r.path (closeFrame (forwardBody r op p.val ix sub pl))).outstanding r.path < 8) ∧ (s.reg Ob.DICT_STATE 0 = 1) ∧ (s.reg Ob.LC_STATE 0 ≠ 0) ∧ (s.reg Ob.LC_STATE 0 ≠ 5) ∧ (s.forwards r p.val = none)) ∧
    (∃ s : State, ∃ p : Fin 8, ∃ frame : List Byte, (s.on Dom.MGT = true) ∧ (bitOf (frame.getD 1 0).toNat 7 = true) ∧ (crcHolds frame = true) ∧ ∃ f, (s.mmp.fwd[p].find? (fun g => g.tag == frame.getD 2 0) = some f)) ∧
    (∃ s : State, ∃ p : Fin 8, ∃ frame : List Byte, (s.on Dom.MGT = true) ∧ (bitOf (frame.getD 1 0).toNat 7 = true) ∧ (crcHolds frame = true) ∧ (s.mmp.fwd[p].find? (fun g => g.tag == frame.getD 2 0) = none)) ∧
    (∃ s : State, ∃ p : Fin 8, ∃ frame : List Byte, (s.on Dom.MGT = true) ∧ (bitOf (frame.getD 1 0).toNat 7 = true) ∧ (crcHolds frame = false)) ∧
    (∃ s : State, ∃ p : Fin 8, ∃ tag : Byte, ∃ f : Forward, (s.mmp.fwd[p].find? (fun g => g.tag == tag) = some f) ∧ (0 < f.left)) ∧
    (∃ s : State, ∃ p : Fin 8, ∃ tag : Byte, ∃ f : Forward, (s.mmp.fwd[p].find? (fun g => g.tag == tag) = some f) ∧ (f.left = 0)) ∧
    (∃ s : State, ∃ p : Fin 8, ∃ tag : Byte, (s.mmp.fwd[p].find? (fun g => g.tag == tag) = none)) := by
  refine ⟨?_, ?_, ?_, ?_, ?_, ?_, ?_, ?_⟩
  · exact ⟨(feat (n1 (up rdy 3))), rq, .read, 0, 0, 0, [], wit (fun _ _ _ _ _ _ => inferInstance) (by decide +kernel)⟩
  · exact ⟨rdy, rq, .read, 0, 0, 0, [], wit (fun _ _ _ _ _ _ => inferInstance) (by decide +kernel)⟩
  · exact ⟨(fwdS (partn (feat (n1 (up rdy 4)))) 0), 0, (mkrep 3), wit (fun _ _ _ _ _ _ => inferInstance) (by decide +kernel)⟩
  · exact ⟨rdy, 0, (mkrep 3), wit (fun _ _ _ _ _ _ => inferInstance) (by decide +kernel)⟩
  · exact ⟨rdy, 0, [0, 128, 3, 0, 0], wit (fun _ _ _ _ _ _ => inferInstance) (by decide +kernel)⟩
  · exact ⟨(fwdS (partn (feat (n1 (up rdy 4)))) 2), 0, 3, wit (fun _ _ _ _ _ _ => inferInstance) (by decide +kernel)⟩
  · exact ⟨(fwdS (partn (feat (n1 (up rdy 4)))) 0), 0, 3, wit (fun _ _ _ _ _ _ => inferInstance) (by decide +kernel)⟩
  · exact ⟨rdy, 0, 0, wit (fun _ _ _ _ _ _ => inferInstance) (by decide +kernel)⟩

end W12

namespace W13
def rowAt (i : Nat) : ObjRow := (objTable.filter (fun k => k.ix = i)).headD ⟨0, "", .u8, 0, 0, 0, 0, false, 0, 1⟩
def fr1 : List Byte := closeFrame (frameBody rq .read 0x0200 0 [])
def fr2 : List Byte := closeFrame (frameBody ⟨.i2c, 0x22, none, 3⟩ .exec 1 0 [1])
def tps (s : State) (f : Transport → Transport) : State := ((s.modTp .spi f).modTp .i2c f).modTp .mdio f
def savedSt := { rdy with upd := { rdy.upd with savedAt := some 0 } }
def pend1 (s : State) := set s [(0x42, 0, 1)]
def sv (d : Bool) (s : State) : State := { s with upd := { s.upd with save := some ⟨0, [], d, false⟩ } }
def mses (s : State) : State := s.modTp .spi (fun t => { t with session := some .module })
def chal (s : State) : State := s.modTp .spi (fun t => { t with challenge := some [1, 2, 3] })

/-- States that meet the hypotheses of `TransportsCarryFrames`, clause by clause. -/
theorem witness_TransportsCarryFrames :
    (∃ s : State, ∃ r : Req, ∃ op : Opcode, ∃ ix : Nat, ∃ sub : Nat, ∃ pl : List Byte, ∃ frame : List Byte, (frame = closeFrame (frameBody r op ix sub pl)) ∧ (s.on Dom.MGT = true) ∧ ((s.tp r.path).rx = []) ∧ ((s.tp r.path).skip = 0) ∧ ((schemaPrefix r ++ pl).length ≤ 4112) ∧ (((s.tp r.path).accepted.map (fun f => f.bytes.length)).sum + frame.length ≤ 8192) ∧ (opChanges op = true → ∀ l ∈ (s.tp r.path).last, l.tag = r.tag → l.crc ≠ crc16 (frameBody r op ix sub pl)) ∧ (r.path = .spi)) ∧
    (∃ s : State, ∃ r : Req, ∃ op : Opcode, ∃ ix : Nat, ∃ sub : Nat, ∃ pl : List Byte, ∃ frame : List Byte, (frame = closeFrame (frameBody r op ix sub pl)) ∧ (s.on Dom.MGT = true) ∧ ((s.tp r.path).rx = []) ∧ ((s.tp r.path).skip = 0) ∧ ((schemaPrefix r ++ pl).length ≤ 4112) ∧ (((s.tp r.path).accepted.map (fun f => f.bytes.length)).sum + frame.length ≤ 8192) ∧ (opChanges op = true → ∀ l ∈ (s.tp r.path).last, l.tag = r.tag → l.crc ≠ crc16 (frameBody r op ix sub pl)) ∧ (r.path = .i2c)) ∧
    (∃ s : State, ∃ bs : List Byte, (s.on Dom.MGT = true) ∧ ((s.tp .spi).rx = []) ∧ ((s.tp .spi).skip = 0) ∧ (∀ b ∈ bs, b ≠ 0xA5)) ∧
    (∃ s : State, ∃ w : BitVec 16, (s.on Dom.MGT = true) ∧ ((s.tp .mdio).skip = 0) ∧ (1 ≤ (s.tp .mdio).rx.length) ∧ ((s.tp .mdio).rx.length ≤ 5)) ∧
    (∃ s : State, ∃ f : List Byte, ∃ fs : List (List Byte), (s.on Dom.MGT = true) ∧ (2 ≤ f.length) ∧ (f.length ≤ 8192) ∧ ((s.tp .spi).replies = f :: fs)) ∧
    (∃ s : State, ∃ f : List Byte, ∃ fs : List (List Byte), (s.on Dom.MGT = true) ∧ (2 ≤ f.length) ∧ (f.length ≤ 8192) ∧ ((s.tp .i2c).replies = f :: fs)) ∧
    (∃ s : State, ∃ f : List Byte, ∃ fs : List (List Byte), (s.on Dom.MGT = true) ∧ (2 ≤ f.length) ∧ (f.length ≤ 8192) ∧ ((s.tp .mdio).replies = f :: fs)) ∧
    (∃ s : State, ∃ n : Nat, (s.on Dom.MGT = true) ∧ ((s.tp .spi).replies = [])) ∧
    (∃ s : State, ∃ n : Nat, (s.on Dom.MGT = true) ∧ ((s.tp .mdio).replies = [])) ∧
    (∃ s : State, ∃ w : BitVec 16, (s.on Dom.MGT = true) ∧ (bitOf w.toNat 15 = true)) ∧
    (∃ s : State, ∃ w : BitVec 16, (s.on Dom.MGT = true) ∧ (bitOf w.toNat 15 = false)) ∧
    (∃ s : State, ∃ bs : List Byte, ∃ n : Nat, ∃ w : BitVec 16, ∃ q : Path, ∃ c : Instr, (s.pwr Dom.MGT = 1) ∧ (s.doms[Dom.MGT].barred = false) ∧ ((q, c) ∈ [(Path.spi, Instr.spiPush bs), (Path.spi, Instr.spiPull n), (Path.spi, Instr.spiStatus), (Path.i2c, Instr.i2cPush bs),
      (Path.i2c, Instr.i2cPull n), (Path.i2c, Instr.i2cStatusRead), (Path.mdio, Instr.mdioMmpPush w), (Path.mdio, Instr.mdioMmpPull),
      (Path.mdio, Instr.mdioMmpStatusWrite w), (q, Instr.mgtStandinWake (some q))]) ∧ (q.isLocal = true)) := by
  refine ⟨?_, ?_, ?_, ?_, ?_, ?_, ?_, ?_, ?_, ?_, ?_, ?_⟩
  · exact ⟨rdy, rq, .read, 512, 0, [], fr1, wit (fun _ _ _ _ _ _ => inferInstance) (by decide +kernel)⟩
  · exact ⟨rdy, (⟨.i2c, 0x22, none, 3⟩), .exec, 1, 0, [1], fr2, wit (fun _ _ _ _ _ _ => inferInstance) (by decide +kernel)⟩
  · exact ⟨rdy, [], wit (fun _ _ _ _ _ _ => inferInstance) (by decide +kernel)⟩
  · exact ⟨(tps rdy (fun t => { t with rx := [0xA5, 1] })), 0, wit (fun _ _ _ _ _ _ => inferInstance) (by decide +kernel)⟩
  · exact ⟨(tps rdy (fun t => { t with replies := [[1,2]] })), [1,2], [], wit (fun _ _ _ _ _ _ => inferInstance) (by decide +kernel)⟩
  · exact ⟨(tps rdy (fun t => { t with replies := [[1,2]] })), [1,2], [], wit (fun _ _ _ _ _ _ => inferInstance) (by decide +kernel)⟩
  · exact ⟨(tps rdy (fun t => { t with replies := [[1,2]] })), [1,2], [], wit (fun _ _ _ _ _ _ => inferInstance) (by decide +kernel)⟩
  · exact ⟨rdy, 0, wit (fun _ _ _ _ _ _ => inferInstance) (by decide +kernel)⟩
  · exact ⟨rdy, 0, wit (fun _ _ _ _ _ _ => inferInstance) (by decide +kernel)⟩
  · exact ⟨rdy, 0x8001, wit (fun _ _ _ _ _ _ => inferInstance) (by decide +kernel)⟩
  · exact ⟨rdy, 0, wit (fun _ _ _ _ _ _ => inferInstance) (by decide +kernel)⟩
  · exact ⟨(set rdy [(Ob.POWER_STATE, 2, 1)]), [], 0, 0, .spi, Instr.spiStatus, wit (fun _ _ _ _ _ _ => inferInstance) (by decide +kernel)⟩

/-- States that meet the hypotheses of `SessionsAndSettingsCommands`, clause by clause. -/
theorem witness_SessionsAndSettingsCommands :
    (∃ s : State, ∃ r : Req, (s.Accepts r .read Ob.MMP_PRIV_CHALLENGE 0 [])) ∧
    ((∀ k m t, Config.ecdsaVerify k m t = true) →
      ∃ s : State, ∃ r : Req, ∃ sig : List Byte, (s.Accepts r .exec Ob.MMP_PRIV_OPEN 0 sig) ∧ (s.tp r.path).locked = false ∧
        ∃ k, s.keyThatOpens r.path sig = some k) ∧
    (∃ s : State, ∃ r : Req, ∃ sig : List Byte, (s.Accepts r .exec Ob.MMP_PRIV_OPEN 0 sig) ∧ ((s.tp r.path).locked = true ∨ s.keyThatOpens r.path sig = none)) ∧
    (∃ s : State, ∃ r : Req, (s.Accepts r .exec Ob.MMP_PRIV_CLOSE 0 [0])) ∧
    (∃ s : State, ∃ q : Path, ((s.tp q).locked = true)) ∧
    (∃ s : State, ∃ q : Path, ((s.tp q).locked = false)) ∧
    (∃ s : State, ∃ q : Path, ((s.tp q).session ≠ none)) ∧
    (∃ s : State, ∃ q : Path, ((s.tp q).session = none)) ∧
    (∃ s : State, ∃ r : Req, (s.Accepts r .exec Ob.DICT_SAVE 0 [0]) ∧ (s.upd.save = none) ∧ ((s.taken r .exec Ob.DICT_SAVE 0 [0]).savePending = false)) ∧
    (∃ s : State, ∃ r : Req, (s.Accepts r .exec Ob.DICT_SAVE 0 [0]) ∧ (s.upd.save = none) ∧ ((s.taken r .exec Ob.DICT_SAVE 0 [0]).savePending = true) ∧ (∀ t, s.upd.savedAt = some t → 60 * refclkHz ≤ s.time.now - t)) ∧
    (∃ s : State, ∃ r : Req, ∃ t : Nat, (s.Accepts r .exec Ob.DICT_SAVE 0 [0]) ∧ (s.upd.save = none) ∧ ((s.taken r .exec Ob.DICT_SAVE 0 [0]).savePending = true) ∧ (s.upd.savedAt = some t) ∧ (s.time.now - t < 60 * refclkHz)) ∧
    (∃ s : State, ∃ r : Req, (s.Accepts r .exec Ob.DICT_SAVE 0 [0]) ∧ ∃ v, (s.upd.save = some v) ∧ (v.dict = false)) ∧
    (∃ s : State, ∃ r : Req, ∃ row : ObjRow, ∃ sub : Nat, (s.Accepts r .exec Ob.DICT_RESTORE_DEFAULTS 0 [0]) ∧ (row ∈ savedRows) ∧ (sub ∈ elements row) ∧ (row.ty.isBytes = false) ∧ (row.ix / 256 ∉ ruledChapters) ∧ (row.ix ≠ Ob.COMPASS_PLAN_MV) ∧ (∀ k ∈ savedRows, ∀ m ∈ elements k, ¬(k.ix = row.ix ∧ m = sub) →
      if k.ty.isBytes then s.blob k.ix m = blobDefault (objKey k.ix m)
      else s.reg k.ix m = (if k.ix = Ob.COMPASS_PLAN_MV then ((fieldOf (s.fuseWord 51) 32 16 : Nat) : Int) else numDefault k.ix m))) ∧
    (∃ s : State, ∃ r : Req, (s.Accepts r .read Ob.DICT_STATE 0 [])) := by
  refine ⟨?_, ?_, ?_, ?_, ?_, ?_, ?_, ?_, ?_, ?_, ?_, ?_, ?_, ?_⟩
  · exact ⟨rdy, rq, wit (fun _ _ _ _ _ _ => inferInstance) (by decide +kernel)⟩
  · intro h
    refine ⟨chal rdy, rq, List.replicate 96 1, wit (fun _ _ _ _ _ _ => inferInstance) (by decide +kernel), by decide +kernel, .module, ?_⟩
    exact keyThatOpens_of (c := [1, 2, 3]) h (by decide +kernel) (by decide +kernel)
  · exact ⟨rdy, rq, (List.replicate 96 7), wit (fun _ _ _ _ _ _ => inferInstance) (by decide +kernel)⟩
  · exact ⟨(tps rdy (fun t => { t with session := some .module, fails := 2, challenge := some [1,2,3] })), rq, wit (fun _ _ _ _ _ _ => inferInstance) (by decide +kernel)⟩
  · exact ⟨(tps rdy (fun t => { t with locked := true, fails := 3 })), .spi, wit (fun _ _ _ _ _ _ => inferInstance) (by decide +kernel)⟩
  · exact ⟨rdy, .spi, wit (fun _ _ _ _ _ _ => inferInstance) (by decide +kernel)⟩
  · exact ⟨(tps rdy (fun t => { t with session := some .module, fails := 2, challenge := some [1,2,3] })), .spi, wit (fun _ _ _ _ _ _ => inferInstance) (by decide +kernel)⟩
  · exact ⟨rdy, .spi, wit (fun _ _ _ _ _ _ => inferInstance) (by decide +kernel)⟩
  · exact ⟨rdy, rq, wit (fun _ _ _ _ _ _ => inferInstance) (by decide +kernel)⟩
  · exact ⟨(pend1 rdy), rq, wit (fun _ _ _ _ _ _ => inferInstance) (by decide +kernel)⟩
  · exact ⟨(pend1 savedSt), rq, 0, wit (fun _ _ _ _ _ _ => inferInstance) (by decide +kernel)⟩
  · exact ⟨(sv false (pend1 rdy)), rq, wit (fun _ _ _ _ _ _ => inferInstance) (by decide +kernel)⟩
  · exact ⟨mses (set State.reset [(Ob.DICT_STATE, 0, 1), (Ob.POWER_STATE, Dom.MGT.val + 1, 2), (Ob.LC_STATE, 0, 3), (Ob.COMPASS_PLAN_MV, 0, 0)]), rq, rowAt 0x42, 0, wit (fun _ _ _ _ _ _ => inferInstance) (by decide +kernel)⟩
  · exact ⟨rdy, rq, wit (fun _ _ _ _ _ _ => inferInstance) (by decide +kernel)⟩

end W13

namespace W14
def hkr : State := set rdy [(Ob.HK_REF_ENABLE, 0, 1), (Ob.HK_REF_READY, 0, 1)]
def mHk (s : State) (f : Hk → Hk) : State := { s with hk := f s.hk }
def mEng (s : State) (f : Engine → Engine) : State := { s with eng := s.eng.set 0 (f s.eng[0]) }
def jb : List EngJob := [⟨0, 100⟩, ⟨3, 90⟩]
def mdp (s : State) : State := (s.modTp .spi (fun t => { t with session := some .module })).modTp .i2c (fun t => { t with session := some .module })

/-- States that meet the hypotheses of `AdcResultWords`, clause by clause. -/
theorem witness_AdcResultWords :
    (∃ s : State, ∃ raw : Vector Nat 4, (s.hkLive = true) ∧ (s.hk.calRun = false) ∧ (s.reg Ob.HK_REF_READY 0 ≠ 0) ∧ (s.trigArmed = true) ∧ (∀ t0, s.hk.convAt = some t0 → 5000 ≤ (s.time.now - t0 + 1) * 64)) ∧
    (∃ s : State, ∃ off : Vector Int 4, ∃ gain : Vector Int 4, ∃ c : Fin 4, (s.hk.calRun = true)) ∧
    (∃ s : State, ∃ r : Req, ∃ c : Fin 4, (s.Accepts r .read Ob.HK_ADC_RESULT (c.val + 1) [])) := by
  refine ⟨?_, ?_, ?_⟩
  · exact ⟨hkr, (#v[5000, 0, 16383, 20000]), wit (fun _ _ _ _ _ _ => inferInstance) (by decide +kernel)⟩
  · exact ⟨(mHk hkr (fun h => { h with calRun := true })), #v[0,1,-5,4096], #v[0,1,-5,4096], 0, wit (fun _ _ _ _ _ _ => inferInstance) (by decide +kernel)⟩
  · exact ⟨hkr, rq, 0, wit (fun _ _ _ _ _ _ => inferInstance) (by decide +kernel)⟩

/-- States that meet the hypotheses of `HousekeepingConvertsAndDrives`, clause by clause. -/
theorem witness_HousekeepingConvertsAndDrives :
    (∃ s : State, ∃ raw : Vector Nat 4, (s.hkLive = true) ∧ (s.hk.calRun = false) ∧ (s.reg Ob.HK_REF_READY 0 ≠ 0) ∧ (s.trigArmed = true) ∧ (∀ t0, s.hk.convAt = some t0 → 5000 ≤ (s.time.now - t0 + 1) * 64)) ∧
    (∃ s : State, ∃ raw : Vector Nat 4, (s.hkLive = true) ∧ (s.hk.calRun = false) ∧ (s.reg Ob.HK_REF_READY 0 ≠ 0) ∧ (s.trigArmed = true) ∧ ∃ t0, (s.hk.convAt = some t0) ∧ ((s.time.now - t0 + 1) * 64 < 5000) ∧ (s.nat Ob.HK_TRIG_SOURCE 0 ≠ 5)) ∧
    (∃ s : State, (s.hkLive = true) ∧ (1 ≤ s.nat Ob.HK_TRIG_SOURCE 0) ∧ (s.nat Ob.HK_TRIG_SOURCE 0 ≤ 4) ∧ (s.reg Ob.HK_TRIG_STATE 0 ≠ 3)) ∧
    (∃ s : State, (s.hkLive = true) ∧ (s.reg Ob.HK_REF_ENABLE 0 ≠ 0)) ∧
    (∃ s : State, ∃ r : Req, (s.Accepts r .exec Ob.HK_SELF_CAL 0 [0]) ∧ (s.hk.calRun = false) ∧ (s.hk.calHeld = false)) ∧
    (∃ s : State, ∃ r : Req, (s.Accepts r .exec Ob.HK_SELF_CAL 0 [0]) ∧ (s.hk.calRun = true ∨ s.hk.calHeld = true)) ∧
    (∃ s : State, ∃ off : Vector Int 4, ∃ gain : Vector Int 4, (s.hk.calRun = true)) ∧
    (∃ s : State, ∃ k : Fin 16, (s.hkLive = true) ∧ (s.chanRuns k = true)) ∧
    (∃ s : State, ∃ k : Fin 16, (s.hkLive = true) ∧ (s.chanRuns k = false)) ∧
    (∃ s : State, ∃ r : Req, (s.Accepts r .exec Ob.HK_FIR_SWAP 0 [0])) ∧
    (∃ s : State, ∃ r : Req, (s.Accepts r .exec Ob.HK_LOAD 0 [0]) ∧ (s.hkLive = true) ∧ (s.hk.loadAt = none)) ∧
    (∃ s : State, ∃ c : Instr, ∃ bit : Nat, ((c, bit) ∈ [(Instr.hkLoadTimer, 0), (Instr.ldacNAssert, 1)]) ∧ (s.hkLive = true) ∧ (bitOf (s.nat Ob.HK_LOAD_SOURCE 0) bit = true)) ∧
    (∃ s : State, ∃ c : Instr, ∃ bit : Nat, ((c, bit) ∈ [(Instr.hkLoadTimer, 0), (Instr.ldacNAssert, 1)]) ∧ (bitOf (s.nat Ob.HK_LOAD_SOURCE 0) bit = false)) ∧
    (∃ s : State, ∃ k : Fin 16, ∃ lim : Bool, (s.on Dom.HK = true)) ∧
    (∃ s : State, ∃ i : Fin 4, (s.hkLive = true) ∧ (s.reg Ob.HK_PWM_ENABLE (i.val + 1) ≠ 0)) ∧
    (∃ s : State, ∃ b : HkTrig, ∃ raw : Vector Nat 4, ∃ k : Fin 16, ∃ i : Fin 4, ∃ lim : Bool, (s.hkLive = false) ∧ (s.on Dom.HK = false)) := by
  refine ⟨?_, ?_, ?_, ?_, ?_, ?_, ?_, ?_, ?_, ?_, ?_, ?_, ?_, ?_, ?_, ?_⟩
  · exact ⟨hkr, (#v[5000, 0, 16383, 20000]), wit (fun _ _ _ _ _ _ => inferInstance) (by decide +kernel)⟩
  · exact ⟨(mHk hkr (fun h => { h with conv := h.conv.map (fun c => { c with unread := true, seq := 63 }), convAt := some 1 })), (#v[5000, 0, 16383, 20000]), wit (fun _ _ _ _ _ _ => inferInstance) (by decide +kernel)⟩
  · exact ⟨(mHk (set hkr [(Ob.HK_REF_READY, 0, 0), (Ob.HK_TRIG_SOURCE, 0, 2)]) (fun h => { h with calHeld := true })), wit (fun _ _ _ _ _ _ => inferInstance) (by decide +kernel)⟩
  · exact ⟨hkr, wit (fun _ _ _ _ _ _ => inferInstance) (by decide +kernel)⟩
  · exact ⟨hkr, rq, wit (fun _ _ _ _ _ _ => inferInstance) (by decide +kernel)⟩
  · exact ⟨(mHk hkr (fun h => { h with calRun := true })), rq, wit (fun _ _ _ _ _ _ => inferInstance) (by decide +kernel)⟩
  · exact ⟨(mHk hkr (fun h => { h with calRun := true })), #v[0,1,-5,4096], #v[0,1,-5,4096], wit (fun _ _ _ _ _ _ => inferInstance) (by decide +kernel)⟩
  · exact ⟨hkr, 0, wit (fun _ _ _ _ _ _ => inferInstance) (by decide +kernel)⟩
  · exact ⟨(mHk hkr (fun h => { h with timer := 400 })), 0, wit (fun _ _ _ _ _ _ => inferInstance) (by decide +kernel)⟩
  · exact ⟨hkr, rq, wit (fun _ _ _ _ _ _ => inferInstance) (by decide +kernel)⟩
  · exact ⟨hkr, rq, wit (fun _ _ _ _ _ _ => inferInstance) (by decide +kernel)⟩
  · exact ⟨(mHk (set hkr [(Ob.HK_LOAD_SOURCE, 0, 3)]) (fun h => { h with adac := h.adac.map (fun _ => { pend := some 3, target := 5 }) })), Instr.hkLoadTimer, 0, wit (fun _ _ _ _ _ _ => inferInstance) (by decide +kernel)⟩
  · exact ⟨hkr, Instr.hkLoadTimer, 0, wit (fun _ _ _ _ _ _ => inferInstance) (by decide +kernel)⟩
  · exact ⟨hkr, 0, false, wit (fun _ _ _ _ _ _ => inferInstance) (by decide +kernel)⟩
  · exact ⟨(lanes8 (lanes16 hkr Ob.HK_ADAC_MODE 1) Ob.HK_PWM_ENABLE 1), 0, wit (fun _ _ _ _ _ _ => inferInstance) (by decide +kernel)⟩
  · exact ⟨(set hkr [(Ob.POWER_STATE, Dom.HK.val + 1, 1)]), .selected, (#v[5000, 0, 16383, 20000]), 0, 0, false, wit (fun _ _ _ _ _ _ => inferInstance) (by decide +kernel)⟩

/-- States that meet the hypotheses of `EnginesCountHaltAndRestart`, clause by clause. -/
theorem witness_EnginesCountHaltAndRestart :
    (∃ s : State, ∃ e : Fin 128, ∃ task : Nat, ∃ w : EngWork, (s.engWorks e = true) ∧ (engClass e ≠ 1 ∨ task ≠ 0)) ∧
    (∃ s : State, ∃ e : Fin 128, ∃ w : EngWork, (s.engWorks e = true) ∧ (engClass e = 1)) ∧
    (∃ s : State, ∃ e : Fin 128, ∃ task : Nat, ∃ w : EngWork, ∃ ix : Nat, ∃ sub : Nat, ∃ v : Int, (s.engWorks e = true) ∧ (∃ j ∈ s.eng[e].jobs, j.task = task) ∧ (s.engFrozen e = true) ∧ (ix / 256 ≠ 0x11) ∧ (ix / 256 ≠ 0x14) ∧ (s.eng[e].undo.filter (fun u => u.1 == task) = [(task, .num ix sub v)])) ∧
    (∃ s : State, ∃ e : Fin 128, ∃ task : Nat, ∃ w : EngWork, (s.engWorks e = true) ∧ (∃ j ∈ s.eng[e].jobs, j.task = task) ∧ (∀ u ∈ s.eng[e].undo, u.1 ≠ task)) ∧
    (∃ s : State, ∃ e : Fin 128, ∃ memory : Bool, ∃ offset : Nat, (s.engWorks e = true) ∧ 
      let recent := (s.eng[e].halts.filter (fun t => decide (s.time.now < t + 10 * refclkHz))).length
      (s.eng[e].undo = []) ∧ (recent < 2)) ∧
    (∃ s : State, ∃ e : Fin 128, (s.engState e = 4 ∨ (s.engState e = 3 ∧ s.eng[e].stuck = false))) ∧
    (∃ s : State, ∃ e : Fin 128, (s.engState e ≠ 4) ∧ (s.engState e ≠ 3 ∨ s.eng[e].stuck = true)) ∧
    (∃ s : State, ∃ r : Req, ∃ e : Fin 128, (s.Accepts r .exec Ob.ENG_RESTART (e.val + 1) [0]) ∧ (s.engState e = 3)) ∧
    (∃ s : State, ∃ r : Req, ∃ e : Fin 128, (s.Accepts r .exec Ob.ENG_RESTART (e.val + 1) [0]) ∧ (s.engState e ≠ 3)) ∧
    (∃ s : State, ∃ r : Req, ∃ which : Nat, (s.Accepts r .exec Ob.ENG_PMU_CLEAR 0 (leBytes 1 which)) ∧ (which < 128 ∨ which = 255)) ∧
    (∃ s : State, ∃ r : Req, ∃ v : Nat, (v < 2 ^ 32) ∧ (s.Accepts r .write Ob.ENG_PMU_FREEZE 0 (leBytes 4 v))) ∧
    (∃ s : State, ∃ e : Fin 128, ∃ j : Fin 6, ∃ task : Nat, ∃ offset : Nat, (s.engWorks e = true) ∧ (s.engFrozen e = false) ∧ (((s.blob Ob.ENG_PMU_SEL (e.val + 1)).getD (2 * j.val) 0).toNat ≠ 0)) ∧
    (∃ s : State, ∃ r : Req, ∃ e : Fin 128, ∃ v : Nat, (v < 2 ^ 32) ∧ (s.Accepts r .write Ob.ENG_PMU_OVF_STATUS (e.val + 1) (leBytes 4 v))) ∧
    (∃ s : State, ∃ r : Req, ∃ e : Fin 128, (s.Accepts r .read Ob.ENG_PMU_SAMPLE (e.val + 1) [])) ∧
    (∃ s : State, ∃ e : Fin 128, ∃ j : Fin 6, ∃ task : Nat, ∃ offset : Nat, ∃ w : EngWork, ∃ memory : Bool, (s.engWorks e = false)) := by
  refine ⟨?_, ?_, ?_, ?_, ?_, ?_, ?_, ?_, ?_, ?_, ?_, ?_, ?_, ?_, ?_⟩
  · exact ⟨(mdp (engs rdy 1)), 0, 0, ({ steps := 10, retired := 4, wasted := 2, back := 1, cycles := 30, held := 3, squashed := 1, noInstr := 2, blocked := 1, corrected := 1, mails := 2, offset := 70 }), wit (fun _ _ _ _ _ _ => inferInstance) (by decide +kernel)⟩
  · exact ⟨set rdy [(Ob.ENG_STATE, 9, 1)], 8, { steps := 10, retired := 4, wasted := 2, back := 1, cycles := 30, held := 3 }, wit (fun _ _ _ _ _ _ => inferInstance) (by decide +kernel)⟩
  · exact ⟨(mdp (set (mEng (engs rdy 2) (fun x => { x with jobs := jb, undo := [(3, .num Ob.HOST_PRESET_APPLIED 1 7), (0, .rtts 3 [5]), (0, .level 2)] })) [(Ob.ENG_PMU_FREEZE, 0, 255)])), 0, 3, ({ steps := 10, retired := 4, wasted := 2, back := 1, cycles := 30, held := 3, squashed := 1, noInstr := 2, blocked := 1, corrected := 1, mails := 2, offset := 70 }), 3331, 1, 7, wit (fun _ _ _ _ _ _ => inferInstance) (by decide +kernel)⟩
  · exact ⟨(mdp (mEng (engs rdy 2) (fun x => { x with jobs := jb }))), 0, 0, ({ steps := 10, retired := 4, wasted := 2, back := 1, cycles := 30, held := 3, squashed := 1, noInstr := 2, blocked := 1, corrected := 1, mails := 2, offset := 70 }), wit (fun _ _ _ _ _ _ => inferInstance) (by decide +kernel)⟩
  · exact ⟨(mdp (engs rdy 1)), 0, false, 0, wit (fun _ _ _ _ _ _ => inferInstance) (by decide +kernel)⟩
  · exact ⟨(mdp (engs rdy 3)), 0, wit (fun _ _ _ _ _ _ => inferInstance) (by decide +kernel)⟩
  · exact ⟨hkr, 0, wit (fun _ _ _ _ _ _ => inferInstance) (by decide +kernel)⟩
  · exact ⟨(mdp (engs rdy 3)), rq, 0, wit (fun _ _ _ _ _ _ => inferInstance) (by decide +kernel)⟩
  · exact ⟨(mdp (engs rdy 1)), rq, 0, wit (fun _ _ _ _ _ _ => inferInstance) (by decide +kernel)⟩
  · exact ⟨(mdp (engs rdy 1)), rq, 0, wit (fun _ _ _ _ _ _ => inferInstance) (by decide +kernel)⟩
  · exact ⟨(mdp (engs rdy 1)), rq, 0, wit (fun _ _ _ _ _ _ => inferInstance) (by decide +kernel)⟩
  · exact ⟨set ((mdp (engs rdy 2)).setBlob Ob.ENG_PMU_SEL 1 [5, 0, 1, 0, 2, 1, 3, 0, 1, 1, 6, 0]) [(Ob.ENG_PMU_OVF_EN, 1, 63)], 0, 0, 0, 0, wit (fun _ _ _ _ _ _ => inferInstance) (by decide +kernel)⟩
  · exact ⟨(mdp (engs rdy 1)), rq, 0, 0, wit (fun _ _ _ _ _ _ => inferInstance) (by decide +kernel)⟩
  · exact ⟨(mdp (engs rdy 1)), rq, 0, wit (fun _ _ _ _ _ _ => inferInstance) (by decide +kernel)⟩
  · exact ⟨hkr, 0, 0, 0, 0, ({ steps := 10, retired := 4, wasted := 2, back := 1, cycles := 30, held := 3, squashed := 1, noInstr := 2, blocked := 1, corrected := 1, mails := 2, offset := 70 }), false, wit (fun _ _ _ _ _ _ => inferInstance) (by decide +kernel)⟩

end W14

namespace W15
def mTh (s : State) (f : Thermal → Thermal) : State := { s with therm := f s.therm }
def mAvs (s : State) (f : Avs → Avs) : State := { s with avs := f s.avs }

/-- States that meet the hypotheses of `TemperatureAgeingAndSupply`, clause by clause. -/
theorem witness_TemperatureAgeingAndSupply :
    (∃ s : State, ∃ v : Int, (s.start.powered = true) ∧ (-600 ≤ v) ∧ (v ≤ 1600) ∧ (∀ u, s.therm.diode = some u → (v - u).natAbs ≤ 100)) ∧
    (∃ s : State, ∃ reading : Option Int, (s.start.powered = true) ∧ (∀ v, reading = some v → v < -600 ∨ 1600 < v) ∧ (s.reg Ob.THERMAL_DIODE_FAIL 0 = 0)) ∧
    (∃ s : State, ∃ d : Int, ∃ a : Int, ∃ b : Int, (s.therm.diode = some d) ∧ (s.therm.raw[15] = some a) ∧ (s.therm.raw[31] = some b) ∧ (s.reg Ob.THERMAL_DIODE_FAIL 0 = 0) ∧ (s.monFailed 15 = false) ∧ (s.monFailed 31 = false)) ∧
    (∃ s : State, ∃ c : Instr, ∃ n : Nat, ((c = .throttleRise ∧ s.therm.above = true ∧ s.therm.step < 4 ∧ n = s.therm.step + 1) ∨
      (c = .throttleFall ∧ s.therm.throttling = false ∧ s.therm.blind = false ∧ 0 < s.therm.step ∧ n = s.therm.step - 1))) ∧
    (∃ s : State, (s.therm.above = false)) ∧
    (∃ s : State, (s.therm.step = 0)) ∧
    (∃ s : State, (s.start.powered = true) ∧ (s.nat Ob.THERMAL_BAND 0 ≤ 3)) ∧
    (∃ s : State, ∃ r : Req, (s.Accepts r .exec Ob.COMPASS_PLAN_NOW 0 [0]) ∧ (s.waiting Ob.COMPASS_PLAN_NOW 0 = false)) ∧
    (∃ s : State, ∃ r : Req, (s.Accepts r .exec Ob.COMPASS_PLAN_NOW 0 [0]) ∧ (s.waiting Ob.COMPASS_PLAN_NOW 0 = true)) ∧
    (∃ s : State, ∃ speed : Nat, ∃ bandgap : Int, (s.reg Ob.DICT_STATE 0 = 1) ∧ (s.therm.planDue = true ∨ s.waiting Ob.COMPASS_PLAN_NOW 0 = true)) ∧
    (∃ s : State, ∃ speed : Nat, ∃ bandgap : Int, (s.therm.planDue = false) ∧ (s.waiting Ob.COMPASS_PLAN_NOW 0 = false)) ∧
    (∃ s : State, ∃ sum, (s.avsUpdate.avsDue = some sum)) ∧
    (∃ s : State, (s.avsUpdate.avsDue = none)) ∧
    (∃ s : State, (s.avs.sent = true) ∧ (s.avs.tries < 3)) ∧
    (∃ s : State, (s.avs.sent = true) ∧ (s.avs.tries = 3)) ∧
    (∃ s : State, (s.avs.sent = false)) ∧
    (∃ s : State, ∃ r : Req, (s.Accepts r .exec Ob.THERMAL_CLEAR_PEAK 0 [0])) := by
  refine ⟨?_, ?_, ?_, ?_, ?_, ?_, ?_, ?_, ?_, ?_, ?_, ?_, ?_, ?_, ?_, ?_, ?_⟩
  · exact ⟨rdy, 450, wit (fun _ _ _ _ _ _ => inferInstance) (by decide +kernel)⟩
  · exact ⟨rdy, none, wit (fun _ _ _ _ _ _ => inferInstance) (by decide +kernel)⟩
  · exact ⟨(mTh rdy (fun t => { t with diode := some 450, raw := Vector.replicate 32 (some 400) })), 450, 400, 400, wit (fun _ _ _ _ _ _ => inferInstance) (by decide +kernel)⟩
  · exact ⟨(mTh rdy (fun t => { t with above := true, step := 2, throttling := true })), .throttleRise, 3, wit (fun _ _ _ _ _ _ => inferInstance) (by decide +kernel)⟩
  · exact ⟨rdy, wit (fun _ _ _ _ _ _ => inferInstance) (by decide +kernel)⟩
  · exact ⟨rdy, wit (fun _ _ _ _ _ _ => inferInstance) (by decide +kernel)⟩
  · exact ⟨rdy, wit (fun _ _ _ _ _ _ => inferInstance) (by decide +kernel)⟩
  · exact ⟨rdy, rq, wit (fun _ _ _ _ _ _ => inferInstance) (by decide +kernel)⟩
  · exact ⟨({ (mTh (engs (n1 (up rdy 4)) 1) (fun t => { t with diode := some 450, raw := Vector.replicate 32 (some 400) })) with mmp := { rdy.mmp with pend := [⟨{rq with tag := 0x77}, .exec, Ob.COMPASS_PLAN_NOW, 0⟩] } }), rq, wit (fun _ _ _ _ _ _ => inferInstance) (by decide +kernel)⟩
  · exact ⟨(mTh rdy (fun t => { t with planDue := true, dayMin := some 1500 })), 0, 450, wit (fun _ _ _ _ _ _ => inferInstance) (by decide +kernel)⟩
  · exact ⟨rdy, 0, 450, wit (fun _ _ _ _ _ _ => inferInstance) (by decide +kernel)⟩
  · exact ⟨rdy, wit (fun _ _ _ _ _ _ => inferInstance) (by decide +kernel)⟩
  · exact ⟨(mAvs rdy (fun a => { a with sent := true, tries := 2, prev := 600 })), wit (fun _ _ _ _ _ _ => inferInstance) (by decide +kernel)⟩
  · exact ⟨(mAvs rdy (fun a => { a with sent := true, tries := 2, prev := 600 })), wit (fun _ _ _ _ _ _ => inferInstance) (by decide +kernel)⟩
  · exact ⟨(mAvs rdy (fun a => { a with sent := true, tries := 3, prev := 600, refused := some 3 })), wit (fun _ _ _ _ _ _ => inferInstance) (by decide +kernel)⟩
  · exact ⟨rdy, wit (fun _ _ _ _ _ _ => inferInstance) (by decide +kernel)⟩
  · exact ⟨rdy, rq, wit (fun _ _ _ _ _ _ => inferInstance) (by decide +kernel)⟩

/-- States that meet the hypotheses of `TickReadsTemperatureAndSupply`, clause by clause. -/
theorem witness_TickReadsTemperatureAndSupply :
    (∃ s : State, ∃ m : TickIn, (s.start.powered = true) ∧ (s.reg Ob.DICT_STATE 0 ≠ 3)) ∧
    (∃ s : State, ∃ m : TickIn, (s.start.powered = true) ∧ (s.reg Ob.DICT_STATE 0 = 3) ∧ (s.reg Ob.THERMAL_AUTOCLEAR 0 = 0)) ∧
    (∃ s : State, ∃ m : TickIn, (s.start.powered = false)) := by
  refine ⟨?_, ?_, ?_⟩
  · exact ⟨rdy, {}, wit (fun _ _ _ _ _ _ => inferInstance) (by decide +kernel)⟩
  · exact ⟨(set rdy [(Ob.DICT_STATE, 0, 3), (Ob.FAULT_SAFE_CAUSE, 0, 3), (Ob.THERMAL_DIODE, 0, 1300)]), {}, wit (fun _ _ _ _ _ _ => inferInstance) (by decide +kernel)⟩
  · exact ⟨State.reset, {}, wit (fun _ _ _ _ _ _ => inferInstance) (by decide +kernel)⟩

end W15

namespace W16
def votesAt (s : State) (v : Int) : State := (List.range 36).foldl (fun s d => s.setReg Ob.POWER_VOTES (d + 1) v) s
def mgtOn (s : State) : State := set s [(Ob.POWER_STATE, Dom.MGT.val + 1, 2), (Ob.POWER_STATE, Dom.AON.val + 1, 2)]
def wm (s : State) : State := (List.range 36).foldl (fun s d => s.setReg Ob.POWER_WAKE_MAP (d + 1) (if d % 2 = 0 then 9 else 0)) s
def mS (s : State) (f : Startup → Startup) : State := { s with start := f s.start }
def mL (s : State) (f : Lookout → Lookout) : State := { s with lookout := f s.lookout }
def mU (s : State) (f : Update → Update) : State := { s with upd := f s.upd }
def st (s : State) (n : Int) (d : Int) : State := set s [(Ob.POWER_START_STEP, 0, n), (Ob.DICT_STATE, 0, d)]
def stt (n : Int) : State := mgtOn (domsAt (st rdy n 0) 0)
def mf (ver tot : Nat) : List Byte :=
  let hd := leBytes 4 0x4D584254 ++ leBytes 2 1 ++ leBytes 2 8 ++ leBytes 4 ver ++ leBytes 4 1 ++ [0,0,0,0] ++ leBytes 4 tot ++ List.replicate 8 0
  let part (j : Nat) (k : Nat × Nat) : List Byte := leBytes 1 k.1 ++ leBytes 1 k.2 ++ leBytes 2 0 ++ leBytes 4 (4096 * (j + 1)) ++ leBytes 4 16 ++ leBytes 4 0 ++ List.replicate 48 0xFF
  hd ++ (((List.range 8).zip partKinds).map (fun x => part x.1 x.2)).flatten ++ List.replicate 96 0xFF
def img (base ver : Nat) : Store Byte := ((mf ver 40960).zipIdx.map (fun x => (base + x.2, x.1))).filter (fun x => x.2 != 0xFF)
def fb (s : State) : State := { s with flash := img Part.FALLBACK 4 }
theorem fb_read : (List.range 640).map (fun i => (img Part.FALLBACK 4).get flashDefault (Part.FALLBACK + i)) = mf 4 40960 := by
  decide +kernel
theorem fb_manifest {s : State} : (fb s).manifest Part.FALLBACK = mf 4 40960 := fb_read
theorem fb_form : formFault (mf 4 40960) = none := by decide +kernel
theorem fb_parts : ∀ j < 8, ((mf 4 40960).drop (32 + 64 * j + 16)).take 48 = List.replicate 48 0xFF := by decide +kernel

/-- States that meet the hypotheses of `VotesMoveDomains`, clause by clause. -/
theorem witness_VotesMoveDomains :
    (∃ s : State, ∃ r : Req, ∃ d : Fin 36, ∃ v : Nat, ∃ c : Nat, ∃ ob : Nat, ∃ i : Instr, ((c, ob, i) ∈ [(Vote.HOST, Ob.POWER_VOTE_HOST, Instr.voteHostWrite r (d.val + 1) v), (Vote.FAR, Ob.POWER_VOTE_FAR, Instr.voteFarWrite r (d.val + 1) v)]) ∧ (v ≤ 1) ∧ (s.Accepts r .write ob (d.val + 1) (leBytes 1 v)) ∧ (d = Dom.AON)) ∧
    (∃ s : State, ∃ r : Req, ∃ d : Fin 36, ∃ v : Nat, ∃ c : Nat, ∃ ob : Nat, ∃ i : Instr, ((c, ob, i) ∈ [(Vote.HOST, Ob.POWER_VOTE_HOST, Instr.voteHostWrite r (d.val + 1) v), (Vote.FAR, Ob.POWER_VOTE_FAR, Instr.voteFarWrite r (d.val + 1) v)]) ∧ (v ≤ 1) ∧ (s.Accepts r .write ob (d.val + 1) (leBytes 1 v)) ∧ (d ≠ Dom.AON) ∧ (r.path.isLocal = false) ∧ (s.reg Ob.POWER_FAR_GRANT 0 = 0)) ∧
    (∃ s : State, ∃ r : Req, ∃ d : Fin 36, ∃ v : Nat, ∃ c : Nat, ∃ ob : Nat, ∃ i : Instr, ((c, ob, i) ∈ [(Vote.HOST, Ob.POWER_VOTE_HOST, Instr.voteHostWrite r (d.val + 1) v), (Vote.FAR, Ob.POWER_VOTE_FAR, Instr.voteFarWrite r (d.val + 1) v)]) ∧ (v ≤ 1) ∧ (s.Accepts r .write ob (d.val + 1) (leBytes 1 v)) ∧ (d ≠ Dom.AON) ∧ (r.path.isLocal = true ∨ (s.reg Ob.POWER_FAR_GRANT 0 ≠ 0 ∧ d ≠ Dom.MGT)) ∧ (v = 1)) ∧
    (∃ s : State, ∃ r : Req, ∃ d : Fin 36, ∃ v : Nat, ∃ c : Nat, ∃ ob : Nat, ∃ i : Instr, ((c, ob, i) ∈ [(Vote.HOST, Ob.POWER_VOTE_HOST, Instr.voteHostWrite r (d.val + 1) v), (Vote.FAR, Ob.POWER_VOTE_FAR, Instr.voteFarWrite r (d.val + 1) v)]) ∧ (v ≤ 1) ∧ (s.Accepts r .write ob (d.val + 1) (leBytes 1 v)) ∧ (d ≠ Dom.AON) ∧ (r.path.isLocal = true ∨ (s.reg Ob.POWER_FAR_GRANT 0 ≠ 0 ∧ d ≠ Dom.MGT)) ∧ (v = 0) ∧ (bitOf (s.votes d) c = true) ∧ (withBit (s.votes d) c false ≠ 0) ∧ (¬(d = Dom.HK ∧ c = Vote.HOST ∧ s.hkHeld = true)) ∧ (s.doms[d].wakeAt ≠ some s.time.now)) ∧
    (∃ s : State, ∃ r : Req, ∃ d : Fin 36, ∃ v : Nat, ∃ c : Nat, ∃ ob : Nat, ∃ i : Instr, ((c, ob, i) ∈ [(Vote.HOST, Ob.POWER_VOTE_HOST, Instr.voteHostWrite r (d.val + 1) v), (Vote.FAR, Ob.POWER_VOTE_FAR, Instr.voteFarWrite r (d.val + 1) v)]) ∧ (v ≤ 1) ∧ (s.Accepts r .write ob (d.val + 1) (leBytes 1 v)) ∧ (d ≠ Dom.AON) ∧ (r.path.isLocal = true ∨ (s.reg Ob.POWER_FAR_GRANT 0 ≠ 0 ∧ d ≠ Dom.MGT)) ∧ (v = 0) ∧ (bitOf (s.votes d) c = true) ∧ (withBit (s.votes d) c false = 0) ∧ (s.pwr d = 2) ∧ (d ≠ Dom.MGT) ∧ (d ≠ Dom.HK) ∧ (s.doms[d].wakeAt ≠ some s.time.now)) ∧
    (∃ s : State, ∃ p : Fin 4, ∃ high : Bool, (high ≠ bitOf (s.nat Ob.POWER_WAKE_POLARITY 0) p.val) ∧ (7 ≤ s.reg Ob.POWER_START_STEP 0) ∧ (s.reg Ob.DICT_STATE 0 ≤ 1)) ∧
    (∃ s : State, ∃ p : Fin 4, ∃ high : Bool, (high = bitOf (s.nat Ob.POWER_WAKE_POLARITY 0) p.val)) ∧
    (∃ s : State, ∃ d : Fin 36, (s.pwr d = 3)) ∧
    (∃ s : State, ∃ d : Fin 36, (s.pwr d ≠ 3)) ∧
    (∃ s : State, ∃ d : Fin 36, ∃ lost : Option Nat, (s.pwr d = 4)) ∧
    (∃ s : State, ∃ d : Fin 36, ∃ lost : Option Nat, (s.pwr d ≠ 4)) ∧
    (∃ s : State, ∃ d : Fin 36, (s.pwr d = 4)) ∧
    (∃ s : State, ∃ d : Fin 36, (s.pwr d ≠ 4)) := by
  refine ⟨?_, ?_, ?_, ?_, ?_, ?_, ?_, ?_, ?_, ?_, ?_, ?_, ?_⟩
  · exact ⟨rdy, rq, 0, 0, Vote.HOST, Ob.POWER_VOTE_HOST, (((Instr.voteHostWrite rq ((0 : Fin 36).val + 1) 0))), wit (fun _ _ _ _ _ _ => inferInstance) (by decide +kernel)⟩
  · exact ⟨rdy, (⟨.inband 1, 0x22, none, 3⟩), 1, 0, Vote.FAR, Ob.POWER_VOTE_FAR, (((Instr.voteFarWrite (⟨.inband 1, 0x22, none, 3⟩) ((1 : Fin 36).val + 1) 0))), wit (fun _ _ _ _ _ _ => inferInstance) (by decide +kernel)⟩
  · exact ⟨rdy, rq, 1, 1, Vote.HOST, Ob.POWER_VOTE_HOST, (((Instr.voteHostWrite rq ((1 : Fin 36).val + 1) 1))), wit (fun _ _ _ _ _ _ => inferInstance) (by decide +kernel)⟩
  · exact ⟨(wm (votesAt rdy 3)), rq, 1, 0, Vote.HOST, Ob.POWER_VOTE_HOST, (((Instr.voteHostWrite rq ((1 : Fin 36).val + 1) 0))), wit (fun _ _ _ _ _ _ => inferInstance) (by decide +kernel)⟩
  · exact ⟨(wm (votesAt rdy 1)), rq, 2, 0, Vote.HOST, Ob.POWER_VOTE_HOST, (((Instr.voteHostWrite rq ((2 : Fin 36).val + 1) 0))), wit (fun _ _ _ _ _ _ => inferInstance) (by decide +kernel)⟩
  · exact ⟨rdy, 0, true, wit (fun _ _ _ _ _ _ => inferInstance) (by decide +kernel)⟩
  · exact ⟨rdy, 0, false, wit (fun _ _ _ _ _ _ => inferInstance) (by decide +kernel)⟩
  · exact ⟨(votesAt (mgtOn (domsAt rdy 3)) 1), 2, wit (fun _ _ _ _ _ _ => inferInstance) (by decide +kernel)⟩
  · exact ⟨rdy, 0, wit (fun _ _ _ _ _ _ => inferInstance) (by decide +kernel)⟩
  · exact ⟨(wm (votesAt (mgtOn (domsAt rdy 4)) 1)), 2, none, wit (fun _ _ _ _ _ _ => inferInstance) (by decide +kernel)⟩
  · exact ⟨rdy, 0, none, wit (fun _ _ _ _ _ _ => inferInstance) (by decide +kernel)⟩
  · exact ⟨(wm (votesAt (mgtOn (domsAt rdy 4)) 1)), 2, wit (fun _ _ _ _ _ _ => inferInstance) (by decide +kernel)⟩
  · exact ⟨rdy, 0, wit (fun _ _ _ _ _ _ => inferInstance) (by decide +kernel)⟩

/-- States that meet the hypotheses of `ResetsClearAndKeep`, clause by clause. -/
theorem witness_ResetsClearAndKeep :
    (∃ s : State, ∃ strap : Fin 4, (s.start.powered = false)) ∧
    (∃ s : State, ∃ strap : Fin 4, (s.start.powered = true)) ∧
    (∃ s : State, (s.start.powered = false)) ∧
    (∃ s : State, (s.start.powered = true) ∧ (s.reg Ob.POWER_START_STEP 0 = 1) ∧ (s.start.delayDone = false)) ∧
    (∃ s : State, (s.start.powered = false ∨ s.start.delayDone = true)) ∧
    (∃ s : State, (s.start.powered = true) ∧ (s.reg Ob.DICT_STATE 0 ≠ 3)) ∧
    (∃ s : State, (s.start.powered = false ∨ (s.reg Ob.DICT_STATE 0 = 3 ∧ s.reg Ob.FAULT_SAFE_CAUSE 0 ≠ 3))) ∧
    (∃ s : State, ∃ strap : Fin 4, (s.start.resetN = true) ∧ (s.start.powered = true) ∧ (s.reg Ob.POWER_START_STEP 0 ≤ 1) ∧ (s.reg Ob.DICT_STATE 0 = 0) ∧ (s.start.delayDone = true)) ∧
    (∃ s : State, ∃ strap : Fin 4, (s.start.resetN = false)) ∧
    (∃ s : State, ∃ cause, (s.lookout.chipDue = some cause) ∧ (s.reg Ob.DICT_STATE 0 ≠ 3)) ∧
    (∃ s : State, (s.lookout.chipDue = none)) ∧
    (∃ s : State, (s.reg Ob.DICT_STATE 0 = 3)) ∧
    (∃ s : State, ∃ r : Req, (s.Accepts r .exec Ob.POWER_CHIP_RESET 0 [0])) := by
  refine ⟨?_, ?_, ?_, ?_, ?_, ?_, ?_, ?_, ?_, ?_, ?_, ?_, ?_⟩
  · exact ⟨State.reset, 0, wit (fun _ _ _ _ _ _ => inferInstance) (by decide +kernel)⟩
  · exact ⟨rdy, 0, wit (fun _ _ _ _ _ _ => inferInstance) (by decide +kernel)⟩
  · exact ⟨State.reset, wit (fun _ _ _ _ _ _ => inferInstance) (by decide +kernel)⟩
  · exact ⟨(mS (st rdy 1 0) (fun x => { x with delayDone := false })), wit (fun _ _ _ _ _ _ => inferInstance) (by decide +kernel)⟩
  · exact ⟨State.reset, wit (fun _ _ _ _ _ _ => inferInstance) (by decide +kernel)⟩
  · exact ⟨rdy, wit (fun _ _ _ _ _ _ => inferInstance) (by decide +kernel)⟩
  · exact ⟨State.reset, wit (fun _ _ _ _ _ _ => inferInstance) (by decide +kernel)⟩
  · exact ⟨(mS (st rdy 1 0) (fun x => { x with resetN := true, delayDone := true })), 0, wit (fun _ _ _ _ _ _ => inferInstance) (by decide +kernel)⟩
  · exact ⟨rdy, 0, wit (fun _ _ _ _ _ _ => inferInstance) (by decide +kernel)⟩
  · exact ⟨(mL (ticked rdy 5) (fun l => { l with chipDue := some 2 })), wit (fun _ _ _ _ _ _ => inferInstance) (by decide +kernel)⟩
  · exact ⟨rdy, wit (fun _ _ _ _ _ _ => inferInstance) (by decide +kernel)⟩
  · exact ⟨(set rdy [(Ob.DICT_STATE, 0, 3), (Ob.FAULT_SAFE_CAUSE, 0, 3), (Ob.THERMAL_DIODE, 0, 300)]), wit (fun _ _ _ _ _ _ => inferInstance) (by decide +kernel)⟩
  · exact ⟨rdy, rq, wit (fun _ _ _ _ _ _ => inferInstance) (by decide +kernel)⟩

/-- States that meet the hypotheses of `StartupStepsInOrder`, clause by clause. -/
theorem witness_StartupStepsInOrder :
    (∃ s : State, ∃ flips : List FuseFlip, (s.startAt 2 = true) ∧ (∀ f ∈ flips, f.two = true → s.fuseChecked f.word = false) ∧ ∃ lc, (lifeCycleOf (s.fuseSensed 4) = some lc)) ∧
    (∃ s : State, ∃ flips : List FuseFlip, (s.startAt 2 = true) ∧ (∀ f ∈ flips, f.two = true → s.fuseChecked f.word = false) ∧ (lifeCycleOf (s.fuseSensed 4) = none)) ∧
    (∃ s : State, ∃ res : List BistRes, ∃ w : List Nat, ∃ rest : List (List Nat), (s.start.waves = w :: rest) ∧ (s.startAt 3 = true) ∧ (∀ x ∈ w :: rest, ∀ i ∈ x, i < 8) ∧ (∀ i ∈ w, bitOf s.start.fullNow i = false → s.bistResult i (res.getD (w.idxOf i) {}) = 2)) ∧
    (∃ s : State, ∃ res : List BistRes, ∃ w : List Nat, ∃ rest : List (List Nat), (s.start.waves = w :: rest) ∧ (s.startAt 3 = true) ∧ (∀ x ∈ w :: rest, ∀ i ∈ x, i < 8) ∧ (∃ i ∈ w, bitOf s.start.fullNow i = false ∧ s.bistResult i (res.getD (w.idxOf i) {}) ≠ 2)) := by
  refine ⟨?_, ?_, ?_, ?_⟩
  · exact ⟨(stt 2), [], wit (fun _ _ _ _ _ _ => inferInstance) (by decide +kernel)⟩
  · exact ⟨({ stt 2 with fuse := { cells := [(4, 5)] } }), [], wit (fun _ _ _ _ _ _ => inferInstance) (by decide +kernel)⟩
  · exact ⟨(mS (stt 3) (fun x => { x with waves := [[0,1,2,3]] })), [], [0,1,2,3], [], wit (fun _ _ _ _ _ _ => inferInstance) (by decide +kernel)⟩
  · exact ⟨(mS (stt 3) (fun x => { x with waves := [[0,1,2,3]] })), ([⟨16384, 1⟩, {}]), [0,1,2,3], [], wit (fun _ _ _ _ _ _ => inferInstance) (by decide +kernel)⟩

/-- States that meet the hypotheses of `StartupStepsInOrder`, clause by clause. -/
theorem witness_StartupStepsInOrder_2 :
    (∃ s : State, (s.startAt 4 = true) ∧ (s.upd.copy = none)) ∧
    (∃ s : State, ∃ c : CopyRun, (s.upd.copy = some c) ∧ (s.startAt 4 = true) ∧ (c.block < s.copyBlocks c)) ∧
    ((∀ b, Config.digest b = List.replicate 48 0xFF) → ∃ s : State, ∃ c : CopyRun, (s.upd.copy = some c) ∧ (s.startAt 4 = true) ∧ (s.copyBlocks c ≤ c.block) ∧
      ((List.range 8).all (fun j => s.partDigest (copyTo c) (s.manifest (copyTo c)) j) = true)) ∧
    ((∀ b, Config.digest b = List.replicate 48 0xFF) → (∀ k m t, Config.ecdsaVerify k m t = true) →
      ∃ s : State, (s.startAt 5 = true) ∧ (s.upd.load ≤ 1) ∧ (s.imageGood (runBase s.upd.load) = true)) := by
  refine ⟨?_, ?_, ?_, ?_⟩
  · exact ⟨(stt 4), wit (fun _ _ _ _ _ _ => inferInstance) (by decide +kernel)⟩
  · exact ⟨mU (stt 4) (fun u => { u with copy := some ⟨false, 0, false, false⟩ }), wit (fun _ _ _ _ _ _ => inferInstance) (by decide +kernel)⟩
  · intro hd
    refine ⟨fb (mU (stt 4) (fun u => { u with copy := some ⟨false, 256, false, true⟩ })), ⟨false, 256, false, true⟩, rfl, by decide +kernel,
      by decide +kernel, ?_⟩
    exact List.all_eq_true.mpr (fun j hj => partDigest_at (s := fb _) (base := Part.FALLBACK) hd fb_manifest fb_parts j hj)
  · exact fun hd hv => ⟨fb (mU (stt 5) (fun u => { u with load := 1 })), by decide +kernel, by decide +kernel,
      imageGood_of hd hv fb_manifest fb_form fb_parts⟩

/-- States that meet the hypotheses of `StartupStepsInOrder`, clause by clause. -/
theorem witness_StartupStepsInOrder_3 :
    ((∀ b, Config.digest b = List.replicate 48 0xFF) → (∀ k m t, Config.ecdsaVerify k m t = true) →
      ∃ s : State, (s.startAt 5 = true) ∧ (s.upd.load ≤ 1) ∧ (s.imageGood (runBase s.upd.load) = false) ∧
        (s.imageGood (runBase (1 - s.upd.load)) = true)) ∧
    (∃ s : State, (s.startAt 5 = true) ∧ (s.upd.load ≤ 1) ∧ (s.imageGood (runBase s.upd.load) = false) ∧ (s.imageGood (runBase (1 - s.upd.load)) = false)) ∧
    (∃ s : State, (s.startAt 6 = true)) ∧
    (∃ s : State, (s.startAt 7 = true) ∧ (s.stepSevenDone = true)) := by
  refine ⟨?_, ?_, ?_, ?_⟩
  · exact fun hd hv => ⟨fb (stt 5), by decide +kernel, by decide +kernel, by decide +kernel,
      imageGood_of hd hv fb_manifest fb_form fb_parts⟩
  · exact ⟨(stt 5), wit (fun _ _ _ _ _ _ => inferInstance) (by decide +kernel)⟩
  · exact ⟨(stt 6), wit (fun _ _ _ _ _ _ => inferInstance) (by decide +kernel)⟩
  · exact ⟨(stt 7), wit (fun _ _ _ _ _ _ => inferInstance) (by decide +kernel)⟩

/-- States that meet the hypotheses of `StartupStepsInOrder`, clause by clause. -/
theorem witness_StartupStepsInOrder_4 :
    (∃ s : State, ∃ flips : List FuseFlip, ∃ res : List BistRes, ∃ ok : Bool, (s.start.powered = false)) := by
  · exact ⟨State.reset, [], [], false, wit (fun _ _ _ _ _ _ => inferInstance) (by decide +kernel)⟩

end W16

namespace W17
def mL (s : State) (f : Lookout → Lookout) : State := { s with lookout := f s.lookout }
def qd (src det sev : Nat) (raised := false) : QueuedRec := ⟨src, det, raised, sev, 0⟩
def rsev (s : State) (src : Nat) (sev rea : Int) : State := set s [(Ob.FAULT_SEVERITY, src, sev), (Ob.FAULT_REACTION, src, rea)]
def A := Src.ADC_CAL_FAIL
def base17 (s : State) (q : List QueuedRec) : State := mL s (fun l => { l with queue := q })

/-- States that meet the hypotheses of `FaultsAreCollected`, clause by clause. -/
theorem witness_FaultsAreCollected :
    (∃ s : State, ∃ q : QueuedRec, ∃ rest : List QueuedRec, (s.lookout.queue = q :: rest) ∧ (s.lookout.late = []) ∧ (q.src < 256) ∧ (min 4 (s.severity q.src + q.raised.toNat) < 4) ∧ (s.reg Ob.DICT_STATE 0 ≠ 3) ∧ 
      let sev := min 4 (s.severity q.src + q.raised.toNat)
      
      let mask := s.nat Ob.FAULT_REACTION q.src
      (bitOf mask 2 = false) ∧ (bitOf mask 3 = false) ∧ (s.pwr Dom.MGT = 2)) ∧
    (∃ s : State, ∃ q : QueuedRec, ∃ rest : List QueuedRec, (s.lookout.queue = q :: rest) ∧ (s.lookout.late = []) ∧ (q.src < 256) ∧ (min 4 (s.severity q.src + q.raised.toNat) < 4) ∧ (s.reg Ob.DICT_STATE 0 ≠ 3) ∧ 
      let sev := min 4 (s.severity q.src + q.raised.toNat)
      
      let mask := s.nat Ob.FAULT_REACTION q.src
      (bitOf mask 3 = true)) ∧
    (∃ s : State, ∃ q : QueuedRec, ∃ rest : List QueuedRec, ∃ d : Fin 36, (s.lookout.queue = q :: rest) ∧ (s.lookout.late = []) ∧ (q.src < 256) ∧ (min 4 (s.severity q.src + q.raised.toNat) < 4) ∧ (s.reg Ob.DICT_STATE 0 ≠ 3) ∧ 
      let sev := min 4 (s.severity q.src + q.raised.toNat)
      
      let mask := s.nat Ob.FAULT_REACTION q.src
      (bitOf mask 2 = true) ∧ (bitOf mask 3 = false) ∧ (s.blockDomain q.src q.detail = some d) ∧ (d ≠ Dom.AON) ∧ (d ≠ Dom.MGT) ∧ (s.pwr d ≠ 0) ∧ (s.pwr d ≠ 1) ∧ (∀ p : Fin 8, s.exists p = true → s.pstate p = PS.OFF ∧ s.port[p].goal = .none)) ∧
    (∃ s : State, ∃ q : QueuedRec, ∃ rest : List QueuedRec, (s.lookout.queue = q :: rest) ∧ (q.src < 256) ∧ (min 4 (s.severity q.src + q.raised.toNat) = 4) ∧ (s.reg Ob.DICT_STATE 0 ≠ 3)) ∧
    (∃ s : State, (s.lookout.queue = [])) ∧
    (∃ s : State, ∃ cause, (s.lookout.safeDue = some cause) ∧ (s.reg Ob.DICT_STATE 0 ≠ 3)) ∧
    (∃ s : State, ∃ cause, (s.lookout.safeDue = some cause) ∧ (s.reg Ob.DICT_STATE 0 = 3)) ∧
    (∃ s : State, (s.lookout.safeDue = none)) ∧
    (∃ s : State, ∃ byDiode : Bool, 
      let tj := if byDiode = true then s.reg Ob.THERMAL_DIODE 0 else s.reg Ob.THERMAL_TJ 0
      (s.start.powered = true) ∧ (s.reg Ob.DICT_STATE 0 ≠ 3) ∧ (s.threshold Ob.THERMAL_SHUTDOWN_C ≤ tj)) ∧
    (∃ s : State, ∃ byDiode : Bool, 
      let tj := if byDiode = true then s.reg Ob.THERMAL_DIODE 0 else s.reg Ob.THERMAL_TJ 0
      (s.start.powered = false ∨ s.reg Ob.DICT_STATE 0 = 3 ∨ tj < s.threshold Ob.THERMAL_SHUTDOWN_C)) ∧
    (∃ s : State, ∃ cause : Fin 3, (s.start.powered = true)) ∧
    (∃ s : State, ∃ cause : Fin 3, (s.start.powered = false)) ∧
    (∃ s : State, ∃ r : Req, ∃ bs : List Byte, ∃ ob : Nat, ∃ c : Instr, ((ob, c) ∈ [(Ob.FAULT_INT_PENDING, Instr.intPendingWrite r bs), (Ob.FAULT_ERR_PENDING, Instr.errPendingWrite r bs)]) ∧ (s.Accepts r .write ob 0 bs)) ∧
    (∃ s : State, ∃ r : Req, (s.Accepts r .exec Ob.FAULT_LOG_CLEAR 0 [0])) ∧
    (∃ s : State, ∃ r : Req, ∃ v : Nat, (v < 2 ^ 32) ∧ (s.Accepts r .exec Ob.FAULT_RAISE 0 (leBytes 4 v))) := by
  refine ⟨?_, ?_, ?_, ?_, ?_, ?_, ?_, ?_, ?_, ?_, ?_, ?_, ?_, ?_, ?_⟩
  · exact ⟨(base17 rdy [qd A 3 2]), (qd A 3 2), [], wit (fun _ _ _ _ _ _ => inferInstance) (by decide +kernel)⟩
  · exact ⟨(base17 (rsev rdy A 2 8) [qd A 3 2]), (qd A 3 2), [], wit (fun _ _ _ _ _ _ => inferInstance) (by decide +kernel)⟩
  · exact ⟨(base17 (rsev rdy A 2 4) [qd A 3 2]), (qd A 3 2), [], 5, wit (fun _ _ _ _ _ _ => inferInstance) (by decide +kernel)⟩
  · exact ⟨(base17 (rsev rdy A 4 3) [qd A 3 4]), (qd A 3 4), [], wit (fun _ _ _ _ _ _ => inferInstance) (by decide +kernel)⟩
  · exact ⟨rdy, wit (fun _ _ _ _ _ _ => inferInstance) (by decide +kernel)⟩
  · exact ⟨(mL rdy (fun l => { l with safeDue := some .thermal })), wit (fun _ _ _ _ _ _ => inferInstance) (by decide +kernel)⟩
  · exact ⟨(mL (set rdy [(Ob.DICT_STATE, 0, 3)]) (fun l => { l with safeDue := some (.fatal 3) })), wit (fun _ _ _ _ _ _ => inferInstance) (by decide +kernel)⟩
  · exact ⟨rdy, wit (fun _ _ _ _ _ _ => inferInstance) (by decide +kernel)⟩
  · exact ⟨(set rdy [(Ob.THERMAL_TJ, 0, 1300), (Ob.THERMAL_DIODE, 0, 100)]), false, wit (fun _ _ _ _ _ _ => inferInstance) (by decide +kernel)⟩
  · exact ⟨rdy, false, wit (fun _ _ _ _ _ _ => inferInstance) (by decide +kernel)⟩
  · exact ⟨rdy, 0, wit (fun _ _ _ _ _ _ => inferInstance) (by decide +kernel)⟩
  · exact ⟨State.reset, 0, wit (fun _ _ _ _ _ _ => inferInstance) (by decide +kernel)⟩
  · exact ⟨rdy, rq, (List.replicate 32 0xF1), Ob.FAULT_INT_PENDING, ((Instr.intPendingWrite rq (List.replicate 32 0xF1))), wit (fun _ _ _ _ _ _ => inferInstance) (by decide +kernel)⟩
  · exact ⟨rdy, rq, wit (fun _ _ _ _ _ _ => inferInstance) (by decide +kernel)⟩
  · exact ⟨rdy, rq, 0, wit (fun _ _ _ _ _ _ => inferInstance) (by decide +kernel)⟩

/-- States that meet the hypotheses of `MemoriesScrubAndCorrect`, clause by clause. -/
theorem witness_MemoriesScrubAndCorrect :
    (∃ s : State, (s.start.powered = true)) ∧
    (∃ s : State, ∃ g : Fin 44, ∃ w : Nat, ∃ n : Nat, ∃ user : MemUser, ∃ again : Bool, (s.start.powered = true) ∧ (s.alive (memDom g.val) = true) ∧ (user ≠ .scrub)) ∧
    (∃ s : State, ∃ which : Fin 2, ∃ w : Nat, ∃ user : MemUser, ∃ again : Bool, (s.start.powered = true)) ∧
    (∃ s : State, ∃ reads : List MemRead, (s.start.powered = false)) := by
  refine ⟨?_, ?_, ?_, ?_⟩
  · exact ⟨rdy, wit (fun _ _ _ _ _ _ => inferInstance) (by decide +kernel)⟩
  · exact ⟨rdy, 0, 0, 0, (.frame 0 3), false, wit (fun _ _ _ _ _ _ => inferInstance) (by decide +kernel)⟩
  · exact ⟨rdy, 0, 0, .scrub, false, wit (fun _ _ _ _ _ _ => inferInstance) (by decide +kernel)⟩
  · exact ⟨State.reset, [], wit (fun _ _ _ _ _ _ => inferInstance) (by decide +kernel)⟩

end W17

namespace W18
def ses (k : SessionKey) (s : State) : State := (s.modTp .spi (fun t => { t with session := some k })).modTp .i2c (fun t => { t with session := some k })
def mAn (s : State) (f : AnalogRun → AnalogRun) : State := { s with analog := f s.analog }
def fw (w : Int) (d : Int) (s : State) := set s [(Ob.FUSE_PROG_WORD, 0, w), (Ob.FUSE_PROG_DATA, 0, d)]
def clo (s : State) : State := { s with fuse := { s.fuse with closed := [66] } }
def chl (s : State) : State := s.modTp .spi (fun t => { t with lcChallenge := some [1,2,3] })
def ret : State := chl (ses .module (mdt rdy 3))

/-- States that meet the hypotheses of `FusesAndLifeCycleMove`, clause by clause. -/
theorem witness_FusesAndLifeCycleMove :
    (∃ s : State, ∃ r : Req, ∃ fail : Option Nat, (s.Accepts r .exec Ob.FUSE_PROGRAM 0 [0]) ∧ 
      let w := s.nat Ob.FUSE_PROG_WORD 0
      (moduleWord w = false)) ∧
    (∃ s : State, ∃ r : Req, ∃ fail : Option Nat, (s.Accepts r .exec Ob.FUSE_PROGRAM 0 [0]) ∧ 
      let w := s.nat Ob.FUSE_PROG_WORD 0
      (moduleWord w = true) ∧ (s.fuseCell w ≠ 0 ∨ w ∈ s.fuse.valid ∨ w ∈ s.fuse.closed)) ∧
    (∃ s : State, ∃ r : Req, ∃ fail : Option Nat, (s.Accepts r .exec Ob.FUSE_PROGRAM 0 [0]) ∧ 
      let w := s.nat Ob.FUSE_PROG_WORD 0
      (moduleWord w = true) ∧ (s.fuseCell w = 0) ∧ (w ∉ s.fuse.valid) ∧ (w ∉ s.fuse.closed) ∧ (fail = none)) ∧
    (∃ s : State, ∃ r : Req, ∃ fail : Option Nat, (s.Accepts r .exec Ob.FUSE_PROGRAM 0 [0]) ∧ 
      let w := s.nat Ob.FUSE_PROG_WORD 0
      (moduleWord w = true) ∧ (s.fuseCell w = 0) ∧ (w ∉ s.fuse.valid) ∧ (w ∉ s.fuse.closed) ∧ ∃ cell, (fail = some cell)) ∧
    (∃ s : State, ∃ r : Req, ∃ v : Nat, (v < 256) ∧ (s.Accepts r .exec Ob.LC_ADVANCE 0 (leBytes 1 v)) ∧ 
      let lc := s.nat Ob.LC_STATE 0
      
      let no (st : Nat) := exec (.lcAdvance r v) s =
       .next ((s.taken r .exec Ob.LC_ADVANCE 0 (leBytes 1 v)).reply r .exec Ob.LC_ADVANCE 0 st [])
      (lc = 0) ∧ ((s.tp r.path).session ≠ some .vendor)) ∧
    (∃ s : State, ∃ r : Req, ∃ v : Nat, (v < 256) ∧ (s.Accepts r .exec Ob.LC_ADVANCE 0 (leBytes 1 v)) ∧ 
      let lc := s.nat Ob.LC_STATE 0
      
      let no (st : Nat) := exec (.lcAdvance r v) s =
       .next ((s.taken r .exec Ob.LC_ADVANCE 0 (leBytes 1 v)).reply r .exec Ob.LC_ADVANCE 0 st [])
      (lc ≠ 0 ∨ (s.tp r.path).session = some .vendor) ∧ (v ≠ lc + 1)) ∧
    (∃ s : State, ∃ r : Req, ∃ v : Nat, (v < 256) ∧ (s.Accepts r .exec Ob.LC_ADVANCE 0 (leBytes 1 v)) ∧ 
      let lc := s.nat Ob.LC_STATE 0
      
      let no (st : Nat) := exec (.lcAdvance r v) s =
       .next ((s.taken r .exec Ob.LC_ADVANCE 0 (leBytes 1 v)).reply r .exec Ob.LC_ADVANCE 0 st [])
      (lc ≠ 0 ∨ (s.tp r.path).session = some .vendor) ∧ (v = lc + 1) ∧ (s.reg Ob.LC_NEXT 0 ≠ s.reg Ob.LC_STATE 0)) ∧
    (∃ s : State, ∃ r : Req, ∃ v : Nat, (v < 256) ∧ (s.Accepts r .exec Ob.LC_ADVANCE 0 (leBytes 1 v)) ∧ 
      let lc := s.nat Ob.LC_STATE 0
      
      let no (st : Nat) := exec (.lcAdvance r v) s =
       .next ((s.taken r .exec Ob.LC_ADVANCE 0 (leBytes 1 v)).reply r .exec Ob.LC_ADVANCE 0 st [])
      (lc ≠ 0 ∨ (s.tp r.path).session = some .vendor) ∧ (v = lc + 1) ∧ (lc = 1) ∧ (s.moduleKeyGood = false)) ∧
    (∃ s : State, ∃ r : Req, ∃ v : Nat, (v < 256) ∧ (s.Accepts r .exec Ob.LC_ADVANCE 0 (leBytes 1 v)) ∧ 
      let lc := s.nat Ob.LC_STATE 0
      
      let no (st : Nat) := exec (.lcAdvance r v) s =
       .next ((s.taken r .exec Ob.LC_ADVANCE 0 (leBytes 1 v)).reply r .exec Ob.LC_ADVANCE 0 st [])
      (lc ≠ 0 ∨ (s.tp r.path).session = some .vendor) ∧ (v = lc + 1) ∧ (s.reg Ob.LC_NEXT 0 = s.reg Ob.LC_STATE 0) ∧ (lc = 1 → s.moduleKeyGood = true)) ∧
    (∃ s : State, ∃ r : Req, (s.Accepts r .exec Ob.LC_RETIRE 0 [0])) ∧
    (∃ s : State, ∃ r : Req, (s.Accepts r .read Ob.LC_CHALLENGE 0 [])) ∧
    (∃ s : State, ∃ r : Req, ∃ token : List Byte, (s.Accepts r .exec Ob.LC_RETURN 0 token) ∧ (s.reg Ob.LC_NEXT 0 ≠ s.reg Ob.LC_STATE 0)) ∧
    ((∀ t, Config.ecdsaVerify (ret.vendorKey) (beBytes 8 (ret.fuseWord 2) ++ [0x04] ++ [1, 2, 3]) t = true) →
      ∃ s : State, ∃ r : Req, ∃ token : List Byte, (s.Accepts r .exec Ob.LC_RETURN 0 token) ∧ ∃ c,
        (s.reg Ob.LC_NEXT 0 = s.reg Ob.LC_STATE 0) ∧ ((s.tp r.path).lcChallenge = some c) ∧
        (Config.ecdsaVerify s.vendorKey (beBytes 8 (s.fuseWord 2) ++ [0x04] ++ c) token = true)) ∧
    (∃ s : State, ∃ r : Req, ∃ token : List Byte, (s.Accepts r .exec Ob.LC_RETURN 0 token) ∧ (s.reg Ob.LC_NEXT 0 = s.reg Ob.LC_STATE 0) ∧ (∀ c, (s.tp r.path).lcChallenge = some c →
        Config.ecdsaVerify s.vendorKey (beBytes 8 (s.fuseWord 2) ++ [0x04] ++ c) token = false)) := by
  refine ⟨?_, ?_, ?_, ?_, ?_, ?_, ?_, ?_, ?_, ?_, ?_, ?_, ?_, ?_⟩
  · exact ⟨(fw 4 9 (ses .vendor (mdt rdy 1))), rq, none, wit (fun _ _ _ _ _ _ => inferInstance) (by decide +kernel)⟩
  · exact ⟨(clo (fw 66 9 (ses .vendor (mdt rdy 1)))), rq, none, wit (fun _ _ _ _ _ _ => inferInstance) (by decide +kernel)⟩
  · exact ⟨(ses .vendor (mdt rdy 1)), rq, none, wit (fun _ _ _ _ _ _ => inferInstance) (by decide +kernel)⟩
  · exact ⟨(ses .vendor (mdt rdy 1)), rq, (some 0), wit (fun _ _ _ _ _ _ => inferInstance) (by decide +kernel)⟩
  · exact ⟨ses .module (mdt rdy 0), rq, 255, wit (fun _ _ _ _ _ _ => inferInstance) (by decide +kernel)⟩
  · exact ⟨(ses .vendor (mdt rdy 0)), rq, 0, wit (fun _ _ _ _ _ _ => inferInstance) (by decide +kernel)⟩
  · exact ⟨(set (ses .vendor (mdt rdy 0)) [(Ob.LC_NEXT, 0, 5)]), rq, 1, wit (fun _ _ _ _ _ _ => inferInstance) (by decide +kernel)⟩
  · exact ⟨ses .vendor (mdt rdy 1), rq, 2, wit (fun _ _ _ _ _ _ => inferInstance) (by decide +kernel)⟩
  · exact ⟨(ses .vendor (mdt rdy 0)), rq, 1, wit (fun _ _ _ _ _ _ => inferInstance) (by decide +kernel)⟩
  · exact ⟨(ses .vendor (mdt rdy 1)), rq, wit (fun _ _ _ _ _ _ => inferInstance) (by decide +kernel)⟩
  · exact ⟨(ses .vendor (mdt rdy 0)), rq, wit (fun _ _ _ _ _ _ => inferInstance) (by decide +kernel)⟩
  · exact ⟨(set (ses .vendor (mdt rdy 3)) [(Ob.LC_NEXT, 0, 5)]), rq, (List.replicate 96 1), wit (fun _ _ _ _ _ _ => inferInstance) (by decide +kernel)⟩
  · exact fun h => ⟨ret, rq, List.replicate 96 1, wit (fun _ _ _ _ _ _ => inferInstance) (by decide +kernel), [1, 2, 3], by decide +kernel, by decide +kernel, h _⟩
  · exact ⟨(ses .vendor (mdt rdy 3)), rq, (List.replicate 96 1), wit (fun _ _ _ _ _ _ => inferInstance) (by decide +kernel)⟩

/-- States that meet the hypotheses of `SelfTestsAndTestPort`, clause by clause. -/
theorem witness_SelfTestsAndTestPort :
    (∃ s : State, ∃ r : Req, ∃ v : Nat, (v < 2 ^ 32) ∧ (s.Accepts r .exec Ob.SELFTEST_ANALOG_RUN 0 (leBytes 4 v)) ∧ (s.analog.running ≠ [] ∨ s.analog.waiting ≠ [])) ∧
    (∃ s : State, ∃ r : Req, ∃ v : Nat, (v < 2 ^ 32) ∧ (s.Accepts r .exec Ob.SELFTEST_ANALOG_RUN 0 (leBytes 4 v)) ∧ (s.analog.running = []) ∧ (s.analog.waiting = [])) ∧
    (∃ s : State, ∃ item : Fin 26, ∃ m : AnalogMeas, (item.val ∈ s.analog.running) ∧ (item.val ∉ s.analog.waiting) ∧ (s.analogCalibrates item.val = false)) ∧
    (∃ s : State, ∃ item : Fin 26, ∃ m : AnalogMeas, (item.val ∉ s.analog.running ∨ s.analogCalibrates item.val = true)) ∧
    (∃ s : State, ∃ r : Req, ∃ v : Nat, (v < 256) ∧ (s.Accepts r .exec Ob.SELFTEST_BIST_RUN 0 (leBytes 4 v)) ∧ (s.anyPortUp = true)) ∧
    (∃ s : State, ∃ r : Req, ∃ v : Nat, (v < 256) ∧ (s.Accepts r .exec Ob.SELFTEST_BIST_RUN 0 (leBytes 4 v)) ∧ (s.anyPortUp = false)) ∧
    (∃ s : State, ∃ op, ∃ ins, (s.start.powered = true) ∧ ((op, ins) ∈ [(TapOp.idcode, TapIns.idcode), (TapOp.bypass, TapIns.bypass), (TapOp.unknown, TapIns.bypass),
        (TapOp.sample, if s.reg Ob.LC_STATE 0 = 1 ∨ s.reg Ob.LC_STATE 0 = 4 then TapIns.sample else TapIns.bypass)])) ∧
    (∃ s : State, (s.start.powered = true) ∧ (s.reg Ob.LC_STATE 0 = 1 ∨ s.reg Ob.LC_STATE 0 = 4)) ∧
    (∃ s : State, ∃ op : TapOp, (s.start.powered = true) ∧ (s.reg Ob.LC_STATE 0 ≠ 1) ∧ (s.reg Ob.LC_STATE 0 ≠ 4) ∧ (op ∈ [TapOp.extest, TapOp.debug])) ∧
    (∃ s : State, ∃ op : TapOp, (s.start.powered = false)) := by
  refine ⟨?_, ?_, ?_, ?_, ?_, ?_, ?_, ?_, ?_, ?_⟩
  · exact ⟨(mAn rdy (fun a => { a with running := [3] })), rq, 0, wit (fun _ _ _ _ _ _ => inferInstance) (by decide +kernel)⟩
  · exact ⟨(ses .vendor (mdt rdy 1)), rq, 0, wit (fun _ _ _ _ _ _ => inferInstance) (by decide +kernel)⟩
  · exact ⟨(mAn rdy (fun a => { a with running := [3] })), 3, {}, wit (fun _ _ _ _ _ _ => inferInstance) (by decide +kernel)⟩
  · exact ⟨(ses .vendor (mdt rdy 0)), 0, {}, wit (fun _ _ _ _ _ _ => inferInstance) (by decide +kernel)⟩
  · exact ⟨ses .vendor (mdt (up rdy 4) 1), rq, 255, wit (fun _ _ _ _ _ _ => inferInstance) (by decide +kernel)⟩
  · exact ⟨(ses .vendor (mdt rdy 1)), rq, 0, wit (fun _ _ _ _ _ _ => inferInstance) (by decide +kernel)⟩
  · exact ⟨(ses .vendor (mdt rdy 0)), TapOp.idcode, TapIns.idcode, wit (fun _ _ _ _ _ _ => inferInstance) (by decide +kernel)⟩
  · exact ⟨(ses .vendor (mdt rdy 1)), wit (fun _ _ _ _ _ _ => inferInstance) (by decide +kernel)⟩
  · exact ⟨(ses .vendor (mdt rdy 0)), .extest, wit (fun _ _ _ _ _ _ => inferInstance) (by decide +kernel)⟩
  · exact ⟨State.reset, .trst, wit (fun _ _ _ _ _ _ => inferInstance) (by decide +kernel)⟩

end W18

namespace W19
def mU (s : State) (f : Update → Update) : State := { s with upd := f s.upd }
def sess (n : Int) (src : Int) (s : State) : State := set s [(Ob.UPDATE_SESSION, 0, n), (Ob.UPDATE_SOURCE, 0, src), (Ob.UPDATE_FAR_GRANT, 0, 1)]
def svr : SaveRun := ⟨0, leBytes 4 9 ++ leBytes 4 77 ++ List.replicate 40 5, true, false⟩
def fl (s : State) (parts : List (Store Byte)) : State := { s with flash := parts.flatten }
def mf (ver tot : Nat) : List Byte :=
  let hd := leBytes 4 0x4D584254 ++ leBytes 2 1 ++ leBytes 2 8 ++ leBytes 4 ver ++ leBytes 4 1 ++ [0,0,0,0] ++ leBytes 4 tot ++ List.replicate 8 0
  let part (j : Nat) (k : Nat × Nat) : List Byte := leBytes 1 k.1 ++ leBytes 1 k.2 ++ leBytes 2 0 ++ leBytes 4 (4096 * (j + 1)) ++ leBytes 4 16 ++ leBytes 4 0 ++ List.replicate 48 0
  hd ++ (((List.range 8).zip partKinds).map (fun x => part x.1 x.2)).flatten ++ List.replicate 96 7
def img (base ver : Nat) : Store Byte := ((mf ver 40960).zipIdx.map (fun x => (base + x.2, x.1))).filter (fun x => x.2 != 0xFF)
def imgs := fl rdy [img Part.ACTIVE 5, img Part.FALLBACK 4, img Part.STAGING 6]
def fs (s : State) := lanes8 s Ob.MMP_FAR_SERVE 1
def rdp := fs (imgs.modTp .spi (fun t => { t with session := some .module }))
def dat : List Byte := [1,2,3]
def prob (s : State) := set (mU s (fun u => { u with probation := some (0, 600), convert := true })) [(Ob.UPDATE_IMAGE_STATE, 0, 2)]

/-- States that meet the hypotheses of `DownloadsFillStaging`, clause by clause. -/
theorem witness_DownloadsFillStaging :
    (∃ s : State, ∃ r : Req, ∃ len : Nat, (len < 2 ^ 32) ∧ (s.Accepts r .exec Ob.UPDATE_OPEN 0 (leBytes 4 len)) ∧ (s.otherHolds r.path = true)) ∧
    (∃ s : State, ∃ r : Req, ∃ len : Nat, (len < 2 ^ 32) ∧ (s.Accepts r .exec Ob.UPDATE_OPEN 0 (leBytes 4 len)) ∧ (s.otherHolds r.path = false)) ∧
    (∃ s : State, (s.reg Ob.UPDATE_SESSION 0 = 1)) ∧
    (∃ s : State, (s.reg Ob.UPDATE_SESSION 0 ≠ 1)) ∧
    (∃ s : State, ∃ r : Req, ∃ off : Nat, ∃ crc : Nat, ∃ data : List Byte, (off < 2 ^ 32) ∧ (crc < 2 ^ 32) ∧ (s.Accepts r .writeBlock Ob.UPDATE_STAGING 0 (leBytes 4 off ++ data ++ leBytes 4 crc)) ∧ 
      let pl := leBytes 4 off ++ data ++ leBytes 4 crc
      
      let ses := s.reg Ob.UPDATE_SESSION 0
      
      let no (st : Nat) := exec (.updateStagingWrite r pl) s =
       .next ((s.taken r .writeBlock Ob.UPDATE_STAGING 0 pl).reply r .writeBlock Ob.UPDATE_STAGING 0 st [])
      (s.otherHolds r.path = true)) ∧
    (∃ s : State, ∃ r : Req, ∃ off : Nat, ∃ crc : Nat, ∃ data : List Byte, (off < 2 ^ 32) ∧ (crc < 2 ^ 32) ∧ (s.Accepts r .writeBlock Ob.UPDATE_STAGING 0 (leBytes 4 off ++ data ++ leBytes 4 crc)) ∧ 
      let pl := leBytes 4 off ++ data ++ leBytes 4 crc
      
      let ses := s.reg Ob.UPDATE_SESSION 0
      
      let no (st : Nat) := exec (.updateStagingWrite r pl) s =
       .next ((s.taken r .writeBlock Ob.UPDATE_STAGING 0 pl).reply r .writeBlock Ob.UPDATE_STAGING 0 st [])
      (ses = 1)) ∧
    (∃ s : State, ∃ r : Req, ∃ off : Nat, ∃ crc : Nat, ∃ data : List Byte, (off < 2 ^ 32) ∧ (crc < 2 ^ 32) ∧ (s.Accepts r .writeBlock Ob.UPDATE_STAGING 0 (leBytes 4 off ++ data ++ leBytes 4 crc)) ∧ 
      let pl := leBytes 4 off ++ data ++ leBytes 4 crc
      
      let ses := s.reg Ob.UPDATE_SESSION 0
      
      let no (st : Nat) := exec (.updateStagingWrite r pl) s =
       .next ((s.taken r .writeBlock Ob.UPDATE_STAGING 0 pl).reply r .writeBlock Ob.UPDATE_STAGING 0 st [])
      (ses = 0)) ∧
    (∃ s : State, ∃ r : Req, ∃ off : Nat, ∃ crc : Nat, ∃ data : List Byte, (off < 2 ^ 32) ∧ (crc < 2 ^ 32) ∧ (s.Accepts r .writeBlock Ob.UPDATE_STAGING 0 (leBytes 4 off ++ data ++ leBytes 4 crc)) ∧ 
      let pl := leBytes 4 off ++ data ++ leBytes 4 crc
      
      let ses := s.reg Ob.UPDATE_SESSION 0
      
      let no (st : Nat) := exec (.updateStagingWrite r pl) s =
       .next ((s.taken r .writeBlock Ob.UPDATE_STAGING 0 pl).reply r .writeBlock Ob.UPDATE_STAGING 0 st [])
      (s.otherHolds r.path = false) ∧ (ses ≠ 0) ∧ (ses ≠ 1) ∧ (off % 4096 ≠ 0 ∨ s.upd.len ≤ off)) ∧
    (∃ s : State, ∃ r : Req, ∃ off : Nat, ∃ crc : Nat, ∃ data : List Byte, (off < 2 ^ 32) ∧ (crc < 2 ^ 32) ∧ (s.Accepts r .writeBlock Ob.UPDATE_STAGING 0 (leBytes 4 off ++ data ++ leBytes 4 crc)) ∧ 
      let pl := leBytes 4 off ++ data ++ leBytes 4 crc
      
      let ses := s.reg Ob.UPDATE_SESSION 0
      
      let no (st : Nat) := exec (.updateStagingWrite r pl) s =
       .next ((s.taken r .writeBlock Ob.UPDATE_STAGING 0 pl).reply r .writeBlock Ob.UPDATE_STAGING 0 st [])
      (s.otherHolds r.path = false) ∧ (ses ≠ 0) ∧ (ses ≠ 1) ∧ (off % 4096 = 0) ∧ (off < s.upd.len) ∧ (data.length ≠ min 4096 (s.upd.len - off))) ∧
    (∃ s : State, ∃ r : Req, ∃ off : Nat, ∃ crc : Nat, ∃ data : List Byte, (off < 2 ^ 32) ∧ (crc < 2 ^ 32) ∧ (s.Accepts r .writeBlock Ob.UPDATE_STAGING 0 (leBytes 4 off ++ data ++ leBytes 4 crc)) ∧ 
      let pl := leBytes 4 off ++ data ++ leBytes 4 crc
      
      let ses := s.reg Ob.UPDATE_SESSION 0
      
      let no (st : Nat) := exec (.updateStagingWrite r pl) s =
       .next ((s.taken r .writeBlock Ob.UPDATE_STAGING 0 pl).reply r .writeBlock Ob.UPDATE_STAGING 0 st [])
      (s.otherHolds r.path = false) ∧ (ses ≠ 0) ∧ (ses ≠ 1) ∧ (off % 4096 = 0) ∧ (off < s.upd.len) ∧ (data.length = min 4096 (s.upd.len - off)) ∧ (crc ≠ crc32c (leBytes 4 off ++ data))) ∧
    (∃ s : State, ∃ r : Req, ∃ off : Nat, ∃ crc : Nat, ∃ data : List Byte, (off < 2 ^ 32) ∧ (crc < 2 ^ 32) ∧ (s.Accepts r .writeBlock Ob.UPDATE_STAGING 0 (leBytes 4 off ++ data ++ leBytes 4 crc)) ∧ 
      let pl := leBytes 4 off ++ data ++ leBytes 4 crc
      
      let ses := s.reg Ob.UPDATE_SESSION 0
      
      let no (st : Nat) := exec (.updateStagingWrite r pl) s =
       .next ((s.taken r .writeBlock Ob.UPDATE_STAGING 0 pl).reply r .writeBlock Ob.UPDATE_STAGING 0 st [])
      (s.otherHolds r.path = false) ∧ (ses ≠ 0) ∧ (ses ≠ 1) ∧ (off % 4096 = 0) ∧ (off < s.upd.len) ∧ (data.length = min 4096 (s.upd.len - off)) ∧ (crc = crc32c (leBytes 4 off ++ data)) ∧ (16 ≤ s.upd.queue.length)) ∧
    (∃ s : State, ∃ r : Req, ∃ off : Nat, ∃ crc : Nat, ∃ data : List Byte, (off < 2 ^ 32) ∧ (crc < 2 ^ 32) ∧ (s.Accepts r .writeBlock Ob.UPDATE_STAGING 0 (leBytes 4 off ++ data ++ leBytes 4 crc)) ∧ 
      let pl := leBytes 4 off ++ data ++ leBytes 4 crc
      
      let ses := s.reg Ob.UPDATE_SESSION 0
      
      let no (st : Nat) := exec (.updateStagingWrite r pl) s =
       .next ((s.taken r .writeBlock Ob.UPDATE_STAGING 0 pl).reply r .writeBlock Ob.UPDATE_STAGING 0 st [])
      (s.otherHolds r.path = false) ∧ (ses ≠ 0) ∧ (ses ≠ 1) ∧ (off % 4096 = 0) ∧ (off < s.upd.len) ∧ (data.length = min 4096 (s.upd.len - off)) ∧ (crc = crc32c (leBytes 4 off ++ data)) ∧ (s.upd.queue.length < 16)) ∧
    (∃ s : State, ∃ ok : Bool, ∃ page : Nat, ∃ data : List Byte, ∃ rest : List (Nat × List Byte), (s.upd.queue = (page, data) :: rest) ∧ (data.length ≤ 4096)) ∧
    (∃ s : State, ∃ ok : Bool, (s.upd.queue = [])) ∧
    (∃ s : State, ∃ r : Req, (s.Accepts r .exec Ob.UPDATE_VERIFY 0 [0]) ∧ 
      let no (st : Nat) := exec (.updateVerify r) s = .next ((s.taken r .exec Ob.UPDATE_VERIFY 0 [0]).reply r .exec Ob.UPDATE_VERIFY 0 st [])
      
      let ses := s.reg Ob.UPDATE_SESSION 0
      (s.otherHolds r.path = true)) ∧
    (∃ s : State, ∃ r : Req, (s.Accepts r .exec Ob.UPDATE_VERIFY 0 [0]) ∧ 
      let no (st : Nat) := exec (.updateVerify r) s = .next ((s.taken r .exec Ob.UPDATE_VERIFY 0 [0]).reply r .exec Ob.UPDATE_VERIFY 0 st [])
      
      let ses := s.reg Ob.UPDATE_SESSION 0
      (ses = 0)) ∧
    (∃ s : State, ∃ r : Req, (s.Accepts r .exec Ob.UPDATE_VERIFY 0 [0]) ∧ 
      let no (st : Nat) := exec (.updateVerify r) s = .next ((s.taken r .exec Ob.UPDATE_VERIFY 0 [0]).reply r .exec Ob.UPDATE_VERIFY 0 st [])
      
      let ses := s.reg Ob.UPDATE_SESSION 0
      (ses = 1 ∨ ses = 3)) ∧
    (∃ s : State, ∃ r : Req, (s.Accepts r .exec Ob.UPDATE_VERIFY 0 [0]) ∧ 
      let no (st : Nat) := exec (.updateVerify r) s = .next ((s.taken r .exec Ob.UPDATE_VERIFY 0 [0]).reply r .exec Ob.UPDATE_VERIFY 0 st [])
      
      let ses := s.reg Ob.UPDATE_SESSION 0
      (s.otherHolds r.path = false) ∧ (ses ≠ 0) ∧ (ses ≠ 1) ∧ (ses ≠ 3)) ∧
    (∃ s : State, (s.reg Ob.UPDATE_SESSION 0 = 3)) ∧
    (∃ s : State, (s.reg Ob.UPDATE_SESSION 0 ≠ 3)) := by
  refine ⟨?_, ?_, ?_, ?_, ?_, ?_, ?_, ?_, ?_, ?_, ?_, ?_, ?_, ?_, ?_, ?_, ?_, ?_, ?_, ?_⟩
  · exact ⟨(sess 1 1 rdp), (⟨.inband 1, 0x22, none, 3⟩), 8192, wit (fun _ _ _ _ _ _ => inferInstance) (by decide +kernel)⟩
  · exact ⟨imgs, rq, 8192, wit (fun _ _ _ _ _ _ => inferInstance) (by decide +kernel)⟩
  · exact ⟨(sess 1 1 rdp), wit (fun _ _ _ _ _ _ => inferInstance) (by decide +kernel)⟩
  · exact ⟨rdp, wit (fun _ _ _ _ _ _ => inferInstance) (by decide +kernel)⟩
  · exact ⟨(sess 1 1 rdp), (⟨.inband 1, 0x22, none, 3⟩), 0, 0, dat, wit (fun _ _ _ _ _ _ => inferInstance) (by decide +kernel)⟩
  · exact ⟨(sess 1 1 rdp), rq, 0, 0, dat, wit (fun _ _ _ _ _ _ => inferInstance) (by decide +kernel)⟩
  · exact ⟨rdp, rq, 0, 0, dat, wit (fun _ _ _ _ _ _ => inferInstance) (by decide +kernel)⟩
  · exact ⟨(sess 2 1 rdp), rq, 0, 0, dat, wit (fun _ _ _ _ _ _ => inferInstance) (by decide +kernel)⟩
  · exact ⟨(mU (sess 2 1 rdp) (fun u => { u with len := 3 })), rq, 0, 0, [9], wit (fun _ _ _ _ _ _ => inferInstance) (by decide +kernel)⟩
  · exact ⟨(mU (sess 2 1 rdp) (fun u => { u with len := 3 })), rq, 0, 0, dat, wit (fun _ _ _ _ _ _ => inferInstance) (by decide +kernel)⟩
  · exact ⟨(mU (sess 2 1 rdp) (fun u => { u with len := 3, queue := List.replicate 16 (0,[1]) })), rq, 0, 2009055536, dat, wit (fun _ _ _ _ _ _ => inferInstance) (by decide +kernel)⟩
  · exact ⟨(mU (sess 2 1 rdp) (fun u => { u with len := 3 })), rq, 0, 2009055536, dat, wit (fun _ _ _ _ _ _ => inferInstance) (by decide +kernel)⟩
  · exact ⟨(mU (sess 2 1 rdp) (fun u => { u with len := 3, queue := [(0,dat)], verify := true })), false, 0, dat, [], wit (fun _ _ _ _ _ _ => inferInstance) (by decide +kernel)⟩
  · exact ⟨rdp, false, wit (fun _ _ _ _ _ _ => inferInstance) (by decide +kernel)⟩
  · exact ⟨(sess 1 1 rdp), (⟨.inband 1, 0x22, none, 3⟩), wit (fun _ _ _ _ _ _ => inferInstance) (by decide +kernel)⟩
  · exact ⟨rdp, rq, wit (fun _ _ _ _ _ _ => inferInstance) (by decide +kernel)⟩
  · exact ⟨(sess 1 1 rdp), rq, wit (fun _ _ _ _ _ _ => inferInstance) (by decide +kernel)⟩
  · exact ⟨(sess 2 1 rdp), rq, wit (fun _ _ _ _ _ _ => inferInstance) (by decide +kernel)⟩
  · exact ⟨(sess 3 1 rdp), wit (fun _ _ _ _ _ _ => inferInstance) (by decide +kernel)⟩
  · exact ⟨rdp, wit (fun _ _ _ _ _ _ => inferInstance) (by decide +kernel)⟩

/-- States that meet the hypotheses of `ActivationsAndSavesEnd`, clause by clause. -/
theorem witness_ActivationsAndSavesEnd :
    (∃ s : State, ∃ r : Req, ∃ arg : Nat, ∃ c : Instr, ((arg, c) ∈ [(0, Instr.updateActivateNextStart r), (1, Instr.updateActivateReset r)]) ∧ (s.Accepts r .exec Ob.UPDATE_ACTIVATE 0 (leBytes 1 arg)) ∧ 
      let no (st : Nat) := exec c s =
       .next ((s.taken r .exec Ob.UPDATE_ACTIVATE 0 (leBytes 1 arg)).reply r .exec Ob.UPDATE_ACTIVATE 0 st [])
      (s.otherHolds r.path = true)) ∧
    (∃ s : State, ∃ r : Req, ∃ arg : Nat, ∃ c : Instr, ((arg, c) ∈ [(0, Instr.updateActivateNextStart r), (1, Instr.updateActivateReset r)]) ∧ (s.Accepts r .exec Ob.UPDATE_ACTIVATE 0 (leBytes 1 arg)) ∧ 
      let no (st : Nat) := exec c s =
       .next ((s.taken r .exec Ob.UPDATE_ACTIVATE 0 (leBytes 1 arg)).reply r .exec Ob.UPDATE_ACTIVATE 0 st [])
      (s.otherHolds r.path = false) ∧ (s.reg Ob.UPDATE_SESSION 0 ≠ 4) ∧ (s.reg Ob.UPDATE_VERIFY_RESULT 0 = 4 ∨ s.reg Ob.UPDATE_VERIFY_RESULT 0 = 5)) ∧
    (∃ s : State, ∃ r : Req, ∃ arg : Nat, ∃ c : Instr, ((arg, c) ∈ [(0, Instr.updateActivateNextStart r), (1, Instr.updateActivateReset r)]) ∧ (s.Accepts r .exec Ob.UPDATE_ACTIVATE 0 (leBytes 1 arg)) ∧ 
      let no (st : Nat) := exec c s =
       .next ((s.taken r .exec Ob.UPDATE_ACTIVATE 0 (leBytes 1 arg)).reply r .exec Ob.UPDATE_ACTIVATE 0 st [])
      (s.otherHolds r.path = false) ∧ (s.reg Ob.UPDATE_SESSION 0 ≠ 4) ∧ (s.reg Ob.UPDATE_VERIFY_RESULT 0 ≠ 4) ∧ (s.reg Ob.UPDATE_VERIFY_RESULT 0 ≠ 5)) ∧
    (∃ s : State, ∃ r : Req, ∃ arg : Nat, ∃ c : Instr, ((arg, c) ∈ [(0, Instr.updateActivateNextStart r), (1, Instr.updateActivateReset r)]) ∧ (s.Accepts r .exec Ob.UPDATE_ACTIVATE 0 (leBytes 1 arg)) ∧ 
      let no (st : Nat) := exec c s =
       .next ((s.taken r .exec Ob.UPDATE_ACTIVATE 0 (leBytes 1 arg)).reply r .exec Ob.UPDATE_ACTIVATE 0 st [])
      (s.otherHolds r.path = false) ∧ (s.reg Ob.UPDATE_SESSION 0 = 4)) ∧
    (∃ s : State, ∃ r : Req, ∃ ob : Nat, ∃ c : Instr, ((ob, c) ∈ [(Ob.UPDATE_CLOSE, Instr.updateClose r), (Ob.UPDATE_ABORT, Instr.updateAbort r)]) ∧ (s.Accepts r .exec ob 0 [0]) ∧ (ob = Ob.UPDATE_CLOSE) ∧ (s.otherHolds r.path = true)) ∧
    (∃ s : State, ∃ r : Req, ∃ ob : Nat, ∃ c : Instr, ((ob, c) ∈ [(Ob.UPDATE_CLOSE, Instr.updateClose r), (Ob.UPDATE_ABORT, Instr.updateAbort r)]) ∧ (s.Accepts r .exec ob 0 [0]) ∧ (s.reg Ob.UPDATE_SESSION 0 = 0)) ∧
    (∃ s : State, ∃ r : Req, ∃ ob : Nat, ∃ c : Instr, ((ob, c) ∈ [(Ob.UPDATE_CLOSE, Instr.updateClose r), (Ob.UPDATE_ABORT, Instr.updateAbort r)]) ∧ (s.Accepts r .exec ob 0 [0]) ∧ (s.reg Ob.UPDATE_SESSION 0 ≠ 0) ∧ (ob = Ob.UPDATE_ABORT ∨ s.otherHolds r.path = false)) ∧
    (∃ s : State, ∃ r : Req, (s.Accepts r .exec Ob.UPDATE_CONFIRM 0 [0]) ∧ (s.inProbation = false)) ∧
    (∃ s : State, ∃ r : Req, (s.Accepts r .exec Ob.UPDATE_CONFIRM 0 [0]) ∧ (s.inProbation = true)) ∧
    (∃ s : State, (s.inProbation = true) ∧ (s.upd.probation ≠ none)) ∧
    (∃ s : State, (s.inProbation = false ∨ s.upd.probation = none)) ∧
    (∃ s : State, (s.inProbation = true) ∧ (s.upd.convert = true) ∧ (s.reg Ob.DICT_STATE 0 = 1)) ∧
    (∃ s : State, (s.inProbation = false ∨ s.upd.convert = false ∨ s.reg Ob.DICT_STATE 0 ≠ 1)) ∧
    (∃ s : State, ∃ v : SaveRun, (s.upd.save = some v) ∧ (s.upd.saves = []) ∧ (v.bytes.length ≤ slotSize)) ∧
    (∃ s : State, ∃ f : Option Nat, (s.upd.save = none)) := by
  refine ⟨?_, ?_, ?_, ?_, ?_, ?_, ?_, ?_, ?_, ?_, ?_, ?_, ?_, ?_, ?_⟩
  · exact ⟨(sess 1 1 rdp), (⟨.inband 1, 0x22, none, 3⟩), 0, (Instr.updateActivateNextStart (⟨.inband 1, 0x22, none, 3⟩)), wit (fun _ _ _ _ _ _ => inferInstance) (by decide +kernel)⟩
  · exact ⟨(set (sess 2 1 rdp) [(Ob.UPDATE_VERIFY_RESULT, 0, 4)]), rq, 0, (Instr.updateActivateNextStart rq), wit (fun _ _ _ _ _ _ => inferInstance) (by decide +kernel)⟩
  · exact ⟨rdp, rq, 0, (Instr.updateActivateNextStart rq), wit (fun _ _ _ _ _ _ => inferInstance) (by decide +kernel)⟩
  · exact ⟨(sess 4 1 rdp), rq, 0, (Instr.updateActivateNextStart rq), wit (fun _ _ _ _ _ _ => inferInstance) (by decide +kernel)⟩
  · exact ⟨(sess 1 1 rdp), (⟨.inband 1, 0x22, none, 3⟩), Ob.UPDATE_CLOSE, (Instr.updateClose (⟨.inband 1, 0x22, none, 3⟩)), wit (fun _ _ _ _ _ _ => inferInstance) (by decide +kernel)⟩
  · exact ⟨rdp, rq, Ob.UPDATE_CLOSE, (Instr.updateClose rq), wit (fun _ _ _ _ _ _ => inferInstance) (by decide +kernel)⟩
  · exact ⟨(sess 1 1 rdp), rq, Ob.UPDATE_CLOSE, (Instr.updateClose rq), wit (fun _ _ _ _ _ _ => inferInstance) (by decide +kernel)⟩
  · exact ⟨rdp, rq, wit (fun _ _ _ _ _ _ => inferInstance) (by decide +kernel)⟩
  · exact ⟨(prob rdp), rq, wit (fun _ _ _ _ _ _ => inferInstance) (by decide +kernel)⟩
  · exact ⟨(prob rdp), wit (fun _ _ _ _ _ _ => inferInstance) (by decide +kernel)⟩
  · exact ⟨rdp, wit (fun _ _ _ _ _ _ => inferInstance) (by decide +kernel)⟩
  · exact ⟨(prob rdp), wit (fun _ _ _ _ _ _ => inferInstance) (by decide +kernel)⟩
  · exact ⟨rdp, wit (fun _ _ _ _ _ _ => inferInstance) (by decide +kernel)⟩
  · exact ⟨(mU (prob rdp) (fun u => { u with save := some svr })), wit (fun _ _ _ _ _ _ => inferInstance) (by decide +kernel)⟩
  · exact ⟨rdp, none, wit (fun _ _ _ _ _ _ => inferInstance) (by decide +kernel)⟩

end W19

end Sys2Proof.Tests.Slice0
end

/-! SUPPORT. The WAYMARK counter: what a load and a PPS correction do to it, and the statement on TIME.SET (R52, R54, R60). -/

namespace Sys2Proof.Machine

/-! ## Bytes of a number -/

/-- Little-endian bytes spell the number they were made of, while it fits them (R338). -/
theorem leNat_leBytes (n v : Nat) (h : v < 256 ^ n) : leNat (leBytes n v) = v := by
  induction n generalizing v with
  | zero => simp at h; simp [leBytes, leNat, h]
  | succ n ih =>
    have hq : v / 256 < 256 ^ n := Nat.div_lt_of_lt_mul (by rwa [Nat.mul_comm, ← Nat.pow_succ])
    simp only [leBytes, leNat, ih _ hq, BitVec.toNat_ofNat]
    omega

/-! ## Loading the counter -/

/-- The numeric objects do not depend on the time base. -/
theorem State.reg_with_time (s : State) (b : TimeBase) (ix sub : Nat) : ({ s with time := b } : State).reg ix sub = s.reg ix sub := rfl

/-- A load writes numeric objects and the time base alone. -/
theorem State.loadCounter_eq (s : State) (t : Nat) :
    s.loadCounter t = { s with regs := (s.loadCounter t).regs, time := (s.loadCounter t).time } := by
  unfold State.loadCounter
  simp only
  split <;> rfl

/-- The accumulator after a load: the argument above 32 cleared bits. -/
@[simp] theorem State.loadCounter_acc (s : State) (t : Nat) : (s.loadCounter t).time.acc = t * 2 ^ 32 % 2 ^ 128 := by
  unfold State.loadCounter
  simp only
  split
  · rw [State.setReg_time]
  · rfl

/-- A load that moves the accumulator back counts in TIME.EPOCH (R52). -/
theorem State.loadCounter_epoch_of_lt (s : State) (t : Nat) (h : t * 2 ^ 32 % 2 ^ 128 < s.time.acc) :
    (s.loadCounter t).reg Ob.TIME_EPOCH 0 = ((s.nat Ob.TIME_EPOCH 0 + 1) % 65536 : Nat) := by
  unfold State.loadCounter
  simp only [if_pos h, State.reg_setReg_self]

/-- A load that moves nothing back leaves every numeric object as it was. -/
theorem State.loadCounter_reg_of_le (s : State) (t jx js : Nat) (h : s.time.acc ≤ t * 2 ^ 32 % 2 ^ 128) :
    (s.loadCounter t).reg jx js = s.reg jx js := by
  unfold State.loadCounter
  rw [if_neg (Nat.not_lt.mpr h), State.reg_with_time]

/-- A load writes no numeric object but TIME.EPOCH. -/
theorem State.loadCounter_reg_ne (s : State) (t jx js : Nat) (hj : js < 256) (h : jx ≠ Ob.TIME_EPOCH) :
    (s.loadCounter t).reg jx js = s.reg jx js := by
  unfold State.loadCounter
  simp only
  split
  · rw [State.reg_setReg_ne _ _ _ _ _ _ (objKey_ne_of_ix (by decide) hj (Ne.symm h)), State.reg_with_time]
  · rw [State.reg_with_time]

/-! ## TIME.SET -/

/-- TIME.SET is a request whose own rule sees the argument that its payload spells. -/
theorem exec_timeSet (s : State) (r : Req) (t : Nat) (ht : t < 2 ^ 96) :
    exec (.timeSet r t) s = .next (s.serve r .exec Ob.TIME_SET 0 (leBytes 12 t) (ownTimeSet t)) := by
  have hv : leNat (leBytes 12 t) = t := leNat_leBytes 12 t ht
  change execTimeSet r t s = _
  rw [execTimeSet, hv]

/-- With PPS off, TIME.SET loads the counter. -/
theorem ownTimeSet_of_pps_off (s : State) (t : Nat) (h : s.reg Ob.TIME_PPS_ENABLE 0 = 0) :
    ownTimeSet t s = .done (s.loadCounter t) [] := by
  simp [ownTimeSet, State.flag, h]

/-- While PPS is on, TIME.SET is refused (R60). -/
theorem ownTimeSet_of_pps_on (s : State) (t : Int) (h : s.reg Ob.TIME_PPS_ENABLE 0 ≠ 0) :
    ownTimeSet t s = .deny St.CONFIG_CONFLICT := by
  simp [ownTimeSet, State.flag, h]

/-! ## A PPS edge's correction -/

/-- A forward step and a step back clear the 32 bits below 2^-48 s; only a slew, between them, does not (R54). -/
theorem State.correct_acc_mod (s : State) (e : Int) (h : e ≤ 0 ∨ 2 ^ 80 < e * 1000000) :
    (s.correct e).time.acc % 2 ^ 32 = 0 := by
  unfold State.correct
  rcases h with hfwd | hback
  · rw [if_pos hfwd]
    change ((s.time.acc + e.natAbs) / 2 ^ 32 * 2 ^ 32) % 2 ^ 128 % 2 ^ 32 = 0
    omega
  · have hpos : ¬ e ≤ 0 := by omega
    have hbig : ¬ e.natAbs * 1000000 ≤ 2 ^ 80 := by omega
    rw [if_neg hpos, if_neg hbig]
    change (((s.time.acc : Int) - e) / 2 ^ 32 * 2 ^ 32 % 2 ^ 128).toNat % 2 ^ 32 = 0
    omega

/-- The state and rate change of an edge leave the time base as it was. -/
@[simp] theorem State.discipline_time (s : State) (e : Int) : (s.discipline e).time = s.time := by
  unfold State.discipline
  split <;> rfl

/-- An accepted edge moves the accumulator by its correction alone. -/
theorem State.takeEdge_acc (s : State) (v : Int) :
    (s.takeEdge v).time.acc = (s.correct (v - (s.edgeTarget v).1 * 2 ^ 80)).time.acc := by
  unfold State.takeEdge
  simp only
  split <;> simp only [State.setReg_time, State.bump_eq, State.bumpTo_eq, apply_ite State.time, State.discipline_time, ite_self]

/-- While PPS is on, the first edge since enable and any edge inside a window are accepted (R53). -/
theorem exec_ppsEdge_of_accepted (s : State) (ph : Fin 8) (hon : s.reg Ob.TIME_PPS_ENABLE 0 ≠ 0)
    (hw : s.time.edges = 0 ∨ s.inWindow (s.edgeValue ph.val) = true) :
    exec (.ppsEdge ph) s = .next (s.takeEdge (s.edgeValue ph.val)) := by
  have hflag : s.flag Ob.TIME_PPS_ENABLE 0 = true := by simp [State.flag, hon]
  change execPpsEdge ph s = _
  simp only [execPpsEdge, hflag, if_true, if_pos hw]

/-! ## The statement -/

/-- Settles O9: a TIME.SET is its object's own rule on the accepted request, and that rule is a load of the counter or its refusal;
an edge that steps the counter steps it to a multiple of 2^32. -/
theorem timeSetLoadsTheCounter : Obligations.TimeSetLoadsTheCounter := by
  unfold Obligations.TimeSetLoadsTheCounter
  refine ⟨?load, ?step, ?refusal⟩
  case load =>
    intro s r t ht hacc hoff
    have hmod : t * 2 ^ 32 % 2 ^ 128 = t * 2 ^ 32 := Nat.mod_eq_of_lt (by omega)
    have hepoch : Ob.TIME_EPOCH ≠ Ob.MMP_RX_FRAMES := by decide
    have hown : ownTimeSet t (s.taken r .exec Ob.TIME_SET 0 (leBytes 12 t)) =
        .done ((s.taken r .exec Ob.TIME_SET 0 (leBytes 12 t)).loadCounter t) [] :=
      ownTimeSet_of_pps_off _ _ (by rwa [State.taken_reg _ _ _ _ _ _ _ _ (by decide) (by decide)])
    refine ⟨(s.taken r .exec Ob.TIME_SET 0 (leBytes 12 t)).loadCounter t, ?_, State.loadCounter_eq _ _, ?_, ?_, ?_, ?_⟩
    · rw [exec_timeSet s r t ht, State.serve_done hacc hown]
    · rw [State.loadCounter_acc, hmod]
    · intro hback
      rw [State.loadCounter_epoch_of_lt, State.taken_nat _ _ _ _ _ _ _ _ (by decide) hepoch]
      rw [State.taken_time, hmod]
      omega
    · intro hfwd
      rw [State.loadCounter_reg_of_le, State.taken_reg _ _ _ _ _ _ _ _ (by decide) hepoch]
      rwa [State.taken_time, hmod]
    · intro jx js hj hne
      obtain ⟨hrx, hep⟩ := not_or.mp hne
      rw [State.loadCounter_reg_ne _ _ _ _ hj hep, State.taken_reg _ _ _ _ _ _ _ _ hj hrx]
  case step =>
    intro s ph hon hw e he
    refine ⟨_, exec_ppsEdge_of_accepted s ph hon hw, ?_⟩
    rw [State.takeEdge_acc]
    exact State.correct_acc_mod s e he
  case refusal =>
    intro s r t ht hacc hon
    have hown : ownTimeSet t (s.taken r .exec Ob.TIME_SET 0 (leBytes 12 t)) = .deny St.CONFIG_CONFLICT :=
      ownTimeSet_of_pps_on _ _ (by rwa [State.taken_reg _ _ _ _ _ _ _ _ (by decide) (by decide)])
    rw [exec_timeSet s r t ht, State.serve_deny hacc hown]

end Sys2Proof.Machine

/-! SUPPORT. The presets of the host lanes: the refusals of a write of HOST.PRESET_SEL or HOST.PRESET_TABLE, and the statement on them
(R272, R275). -/

namespace Sys2Proof.Machine

/-! ## The two preset writes as requests -/

/-- A write of HOST.PRESET_SEL is a request whose own rule sees the entry that its payload spells. -/
theorem exec_hostPresetWrite_sel (s : State) (r : Req) (sub v : Nat) (hv : v < 256) :
    exec (.hostPresetWrite r sub (.sel v)) s =
      .next (s.serve r .write Ob.HOST_PRESET_SEL sub (leBytes 1 v) (ownPreset sub (.sel v))) := by
  have hspelt : leNat (leBytes 1 v) = v := leNat_leBytes 1 v hv
  change execHostPresetWrite r sub (.sel v) s = _
  rw [execHostPresetWrite, hspelt]

/-- A write of HOST.PRESET_TABLE is a request whose own rule sees the table as it was sent. -/
theorem exec_hostPresetWrite_table (s : State) (r : Req) (sub : Nat) (b : List Byte) :
    exec (.hostPresetWrite r sub (.table b)) s =
      .next (s.serve r .write Ob.HOST_PRESET_TABLE sub b (ownPreset sub (.table b))) := rfl

/-! ## The refusals of their own rule -/

/-- A selection of an entry with VALID clear is refused (R275). -/
theorem ownPreset_sel_of_invalid {sub v : Nat} {s : State} (hsub : 1 ≤ sub ∧ sub ≤ 16)
    (hentry : presetValid (s.blob Ob.HOST_PRESET_TABLE sub) v = false) :
    ownPreset sub (.sel v) s = .deny St.CONFIG_CONFLICT := by
  simp [ownPreset, hsub, hentry]

/-- A table that would clear VALID in the selected entry is refused; its own form is checked first (R272, R275). -/
theorem ownPreset_table_of_clears_selected {sub : Nat} {b : List Byte} {s : State} (hsub : 1 ≤ sub ∧ sub ≤ 16)
    (hold : presetValid (s.blob Ob.HOST_PRESET_TABLE sub) (s.nat Ob.HOST_PRESET_SEL sub) = true)
    (hnew : presetValid b (s.nat Ob.HOST_PRESET_SEL sub) = false) :
    ownPreset sub (.table b) s = .deny (if presetOk b = true then St.CONFIG_CONFLICT else St.RANGE) := by
  cases hform : presetOk b with
  | false => simp [ownPreset, hsub, hform]
  | true => simp [ownPreset, hsub, hform, hold, hnew]

/-! ## The statement -/

/-- Settles O33: the own rule of either object denies the accepted write, and a denied request changes nothing but the frame counter
and the transports. -/
theorem presetsStayValid : Obligations.PresetsStayValid := by
  unfold Obligations.PresetsStayValid
  refine ⟨?selection, ?table⟩
  case selection =>
    intro s r h v hv hacc hentry
    have hown : ownPreset (h.val + 1) (.sel v) (s.taken r .write Ob.HOST_PRESET_SEL (h.val + 1) (leBytes 1 v)) =
        .deny St.CONFIG_CONFLICT :=
      ownPreset_sel_of_invalid (by omega) (by rwa [State.taken_blob])
    refine ⟨_, exec_hostPresetWrite_sel s r _ v hv, State.serve_deny hacc hown, ?_⟩
    rw [State.serve_deny hacc hown, State.reply_reg, State.taken_reg _ _ _ _ _ _ _ _ (by omega) (by decide)]
  case table =>
    intro s r h b hacc hold hnew
    have hsel : (s.taken r .write Ob.HOST_PRESET_TABLE (h.val + 1) b).nat Ob.HOST_PRESET_SEL (h.val + 1) =
        s.nat Ob.HOST_PRESET_SEL (h.val + 1) :=
      State.taken_nat _ _ _ _ _ _ _ _ (by omega) (by decide)
    have hown : ownPreset (h.val + 1) (.table b) (s.taken r .write Ob.HOST_PRESET_TABLE (h.val + 1) b) =
        .deny (if presetOk b = true then St.CONFIG_CONFLICT else St.RANGE) :=
      ownPreset_table_of_clears_selected (by omega) (by rwa [State.taken_blob, hsel]) (by rwa [hsel])
    refine ⟨_, exec_hostPresetWrite_table s r _ b, State.serve_deny hacc hown, ?_⟩
    rw [State.serve_deny hacc hown, State.reply_blob, State.taken_blob]

end Sys2Proof.Machine

/-! SUPPORT. The result words of the housekeeping converters: the fields of a word, what a conversion reads and writes, what a
self-calibration and a read leave of the word, and the statement on them (R376). -/

namespace Sys2Proof.Machine

/-! ## Passes over a list -/

/-- A view of the state that no element of a pass changes is unchanged by the pass. -/
theorem forEach_keeps {α β : Type} (view : State → β) {f : α → State → State} {l : List α}
    (hkeep : ∀ a ∈ l, ∀ t, view (f a t) = view t) (s : State) : view (forEach l f s) = view s := by
  induction l generalizing s with
  | nil => rfl
  | cons a l ih =>
    calc view (forEach l f (f a s)) = view (f a s) := ih (fun b hb => hkeep b (List.mem_cons_of_mem _ hb)) _
      _ = view s := hkeep a List.mem_cons_self s

/-- Where one element alone of a pass over lanes changes a view, the pass does to the view what that element does to some state that
reads as the first. -/
theorem forEach_fins_view {n : Nat} {β : Type} (view : State → β) {f : Fin n → State → State} {c : Fin n}
    (hkeep : ∀ k, k ≠ c → ∀ t, view (f k t) = view t) (s : State) :
    ∃ t, view t = view s ∧ view (forEach (fins n) f s) = view (f c t) := by
  obtain ⟨before, after, hsplit⟩ := List.append_of_mem (List.mem_finRange c)
  have hnodup : (before ++ c :: after).Nodup := hsplit ▸ List.nodup_finRange n
  have hbefore : ∀ k ∈ before, k ≠ c := by
    rintro k hk rfl
    exact (List.nodup_append.mp hnodup).2.2 k hk k List.mem_cons_self rfl
  have hafter : ∀ k ∈ after, k ≠ c := by
    rintro k hk rfl
    exact (List.nodup_cons.mp (List.nodup_append.mp hnodup).2.1).1 hk
  have hpass : forEach (fins n) f s = forEach after f (f c (forEach before f s)) := by
    simp only [forEach, fins, hsplit, List.foldl_append, List.foldl_cons]
  refine ⟨forEach before f s, forEach_keeps view (fun k hk => hkeep k (hbefore k hk)) s, ?_⟩
  rw [hpass, forEach_keeps view (fun k hk => hkeep k (hafter k hk))]

/-! ## The fields of a result word -/

/-- A corrected code is clamped to its 14 bits (R374). -/
theorem correctedCode_lt (off gain : Int) (r : Nat) : correctedCode off gain r < 2 ^ 14 := by
  unfold correctedCode clampInt
  split
  · decide
  · split <;> omega

section
variable {ov valid : Bool} {seq ch code : Nat} (hcode : code < 2 ^ 14)
include hcode

theorem resultWord_lt : resultWord ov valid seq ch code < 2 ^ 32 := by
  have := ov.toNat_le; have := valid.toNat_le
  unfold resultWord; omega

theorem resultWord_code : resultWord ov valid seq ch code % 2 ^ 14 = code := by
  unfold resultWord; omega

theorem resultWord_gap_14 : resultWord ov valid seq ch code / 2 ^ 14 % 4 = 0 := by
  unfold resultWord; omega

theorem resultWord_channel : resultWord ov valid seq ch code / 2 ^ 16 % 16 = ch % 16 := by
  unfold resultWord; omega

theorem resultWord_gap_20 : resultWord ov valid seq ch code / 2 ^ 20 % 16 = 0 := by
  unfold resultWord; omega

theorem resultWord_seq : resultWord ov valid seq ch code / 2 ^ 24 % 64 = seq % 64 := by
  unfold resultWord; omega

theorem resultWord_valid : bitOf (resultWord ov valid seq ch code) 30 = valid := by
  have hbit : resultWord ov valid seq ch code / 2 ^ 30 % 2 = valid.toNat := by
    have := valid.toNat_le
    unfold resultWord; omega
  rw [bitOf, hbit]; cases valid <;> rfl

theorem resultWord_overrun : bitOf (resultWord ov valid seq ch code) 31 = ov := by
  have hbit : resultWord ov valid seq ch code / 2 ^ 31 % 2 = ov.toNat := by
    have := ov.toNat_le; have := valid.toNat_le
    unfold resultWord; omega
  rw [bitOf, hbit]; cases ov <;> rfl

end

/-- A bit that was cleared reads clear. -/
theorem bitOf_withBit_false (v i : Nat) : bitOf (withBit v i false) i = false := by
  unfold withBit
  cases hbit : bitOf v i with
  | false => exact hbit
  | true =>
    have hpos : 0 < 2 ^ i := Nat.two_pow_pos i
    have hodd : v / 2 ^ i % 2 = 1 := by simpa [bitOf] using hbit
    have hle : 2 ^ i * 1 ≤ v := by
      rw [Nat.mul_comm]; exact (Nat.le_div_iff_mul_le hpos).mp (Nat.pos_of_ne_zero fun e => by simp [e] at hodd)
    have hdiv : (v - 2 ^ i * 1) / 2 ^ i = v / 2 ^ i - 1 := Nat.sub_mul_div v (2 ^ i) 1
    simp only [Nat.mul_one] at hdiv
    simp only [bitOf, hdiv, beq_eq_false_iff_ne]
    omega

/-! ## What a change of a channel leaves -/

/-- The numeric objects that a change of a channel writes (R380, R381). -/
def chanChangeObjs : List Nat := [Ob.HK_FILT_UNSETTLED, Ob.HK_PEAK_MAX, Ob.HK_PEAK_MIN, Ob.HK_RMS, Ob.HK_ENVELOPE]

theorem State.chanChange_reg (s : State) (k : Fin 16) (jx js : Nat) (hj : js < 256) (h : jx ∉ chanChangeObjs) :
    (s.chanChange k).reg jx js = s.reg jx js := by
  simp only [chanChangeObjs, List.mem_cons, List.not_mem_nil, or_false, not_or] at h
  obtain ⟨hunsettled, hmax, hmin, hrms, henv⟩ := h
  have key : ∀ ix, jx ≠ ix → objKey ix (k.val + 1) ≠ objKey jx js :=
    fun ix hne => objKey_ne_of_ix (by omega) hj (Ne.symm hne)
  unfold State.chanChange
  simp only
  rw [State.reg_setReg_ne _ _ _ _ _ _ (key _ henv), State.reg_setReg_ne _ _ _ _ _ _ (key _ hrms),
    State.reg_setReg_ne _ _ _ _ _ _ (key _ hmin), State.reg_setReg_ne _ _ _ _ _ _ (key _ hmax),
    State.reg_setReg_ne _ _ _ _ _ _ (key _ hunsettled), State.modChan_reg]

theorem State.chanChangeAll_reg (s : State) (jx js : Nat) (hj : js < 256) (h : jx ∉ chanChangeObjs) :
    s.chanChangeAll.reg jx js = s.reg jx js :=
  forEach_keeps (fun t => t.reg jx js) (fun k _ t => t.chanChange_reg k jx js hj h) s

/-! ## What a conversion reads -/

/-- What a converter's next conversion depends on: its last result word, its factors, its record and the channel in turn (R373, R374,
R376). -/
structure ConvView where
  result : Int
  offset : Int
  gain : Int
  conv : HkConv
  channel : Nat

def State.convView (c : Fin 4) (s : State) : ConvView where
  result := s.reg Ob.HK_ADC_RESULT (c.val + 1)
  offset := s.reg Ob.HK_CAL_OFFSET (c.val + 1)
  gain := s.reg Ob.HK_CAL_GAIN (c.val + 1)
  conv := s.hk.conv[c]
  channel := s.nextChannel c

/-- The objects beside the result word that a conversion reads. -/
def convObjs : List Nat := [Ob.HK_CAL_OFFSET, Ob.HK_CAL_GAIN, Ob.HK_PAIR_INPUT]

theorem State.convView_congr {s t : State} {c : Fin 4}
    (hresult : t.reg Ob.HK_ADC_RESULT (c.val + 1) = s.reg Ob.HK_ADC_RESULT (c.val + 1))
    (hreg : ∀ ix ∈ convObjs, ∀ js < 256, t.reg ix js = s.reg ix js) (hblobs : t.blobs = s.blobs)
    (hconv : t.hk.conv[c] = s.hk.conv[c]) (hpair : t.hk.pair = s.hk.pair) : t.convView c = s.convView c := by
  have hinput : t.reg Ob.HK_PAIR_INPUT (c.val / 2 + 1) = s.reg Ob.HK_PAIR_INPUT (c.val / 2 + 1) :=
    hreg _ (by simp [convObjs]) _ (by omega)
  have hpaired : t.paired c = s.paired c := by rw [State.paired, State.paired, hpair]
  have hscan : t.scan c = s.scan c := by rw [State.scan, State.scan, State.blob, State.blob, hblobs]
  have hchannel : t.nextChannel c = s.nextChannel c := by
    simp only [State.nextChannel, State.nat, hpaired, hscan, hinput, hconv]
  simp only [State.convView, hresult, hconv, hchannel, hreg Ob.HK_CAL_OFFSET (by simp [convObjs]) (c.val + 1) (by omega),
    hreg Ob.HK_CAL_GAIN (by simp [convObjs]) (c.val + 1) (by omega)]

theorem State.chanChange_convView (s : State) (k : Fin 16) (c : Fin 4) : (s.chanChange k).convView c = s.convView c := by
  refine State.convView_congr (s.chanChange_reg k _ _ (by omega) (by decide)) (fun ix hix js hjs => ?_) rfl rfl rfl
  have hfree : ∀ jx ∈ convObjs, jx ∉ chanChangeObjs := by decide
  exact s.chanChange_reg k ix js hjs (hfree ix hix)

theorem State.chanChangeAll_convView (s : State) (c : Fin 4) : s.chanChangeAll.convView c = s.convView c :=
  forEach_keeps (State.convView c) (fun k _ t => t.chanChange_convView k c) s

theorem State.setReg_convView (s : State) (ix sub : Nat) (v : Int) (c : Fin 4) (hsub : sub < 256)
    (hresult : ix ≠ Ob.HK_ADC_RESULT) (h : ix ∉ convObjs) : (s.setReg ix sub v).convView c = s.convView c := by
  refine State.convView_congr ?_ (fun jx hjx js hjs => ?_) rfl rfl rfl
  · exact State.reg_setReg_ne _ _ _ _ _ _ (objKey_ne_of_ix hsub (by omega) hresult)
  · exact State.reg_setReg_ne _ _ _ _ _ _ (objKey_ne_of_ix hsub hjs (fun e => h (e ▸ hjx)))

/-- A trigger that takes its objects leaves what the conversions read. -/
theorem State.trigTake_convView (s : State) (c : Fin 4) : s.trigTake.convView c = s.convView c := by
  have hstate : ∀ (t : State) (v : Int), (t.setReg Ob.HK_TRIG_STATE 0 v).convView c = t.convView c :=
    fun t v => t.setReg_convView _ _ v c (by decide) (by decide) (by decide)
  unfold State.trigTake
  simp only
  rw [apply_ite (State.convView c), State.chanChangeAll_convView, ite_self]
  exact hstate _ _

/-! ## What a conversion writes -/

/-- A sample fed to its channel changes that channel's chain alone. -/
theorem State.feed_eq (s : State) (ch code : Nat) :
    s.feed ch code = { s with hk := { s.hk with chan := (s.feed ch code).hk.chan } } := by
  unfold State.feed
  split
  · dsimp only
    split <;> rfl
  · rfl

theorem State.feed_reg (s : State) (ch code jx js : Nat) : (s.feed ch code).reg jx js = s.reg jx js := by
  rw [State.feed_eq]; rfl

theorem State.feed_conv (s : State) (ch code : Nat) : (s.feed ch code).hk.conv = s.hk.conv := by
  rw [State.feed_eq]

/-- The word that a conversion gives a converter seen so, from a raw code (R376). -/
def ConvView.word (v : ConvView) (raw : Nat) : Nat :=
  resultWord (v.conv.unread || bitOf v.result.toNat 31) true ((v.conv.seq + 1) % 64) v.channel (correctedCode v.offset v.gain raw)

theorem State.convert_result (s : State) (raw : Vector Nat 4) (c : Fin 4) :
    (s.convert raw c).reg Ob.HK_ADC_RESULT (c.val + 1) = ((s.convView c).word raw[c] : Nat) := by
  unfold State.convert
  simp only [State.feed_reg, State.modConv_reg, State.reg_setReg_self]
  rfl

theorem State.convert_conv (s : State) (raw : Vector Nat 4) (c : Fin 4) :
    (s.convert raw c).hk.conv[c].unread = true ∧
      (s.convert raw c).hk.conv[c].seq = ((s.convView c).conv.seq + 1) % 64 := by
  unfold State.convert
  simp only [State.feed_conv]
  simp [State.modConv, State.convView]

/-- A conversion leaves what another converter's conversion reads. -/
theorem State.convert_convView_of_ne (s : State) (raw : Vector Nat 4) {k c : Fin 4} (hne : k ≠ c) :
    (s.convert raw k).convView c = s.convView c := by
  have hval : k.val ≠ c.val := fun e => hne (Fin.ext e)
  unfold State.convert
  simp only
  refine State.convView_congr ?result (fun ix hix js hjs => ?objects) ?blobs ?conv ?pair
  case result =>
    rw [State.feed_reg, State.modConv_reg, State.reg_setReg_ne _ _ _ _ _ _ (objKey_ne_of_sub (by omega) (by omega) (by omega))]
  case objects =>
    have hother : ∀ jx ∈ convObjs, Ob.HK_ADC_RESULT ≠ jx := by decide
    rw [State.feed_reg, State.modConv_reg, State.reg_setReg_ne _ _ _ _ _ _ (objKey_ne_of_ix (by omega) hjs (hother ix hix))]
  case blobs => rw [State.feed_eq]; rfl
  case conv =>
    rw [State.feed_conv]
    exact Vector.getElem_set_ne k.isLt c.isLt hval
  case pair => rw [State.feed_eq]; rfl

/-- The four conversions of a trigger: each converter's word and record come from what it read before the first of them. -/
theorem State.convertAll_spec (s : State) (raw : Vector Nat 4) (c : Fin 4) :
    (forEach (fins 4) (fun k t => t.convert raw k) s).reg Ob.HK_ADC_RESULT (c.val + 1) = ((s.convView c).word raw[c] : Nat) ∧
      (forEach (fins 4) (fun k t => t.convert raw k) s).hk.conv[c].unread = true ∧
      (forEach (fins 4) (fun k t => t.convert raw k) s).hk.conv[c].seq = ((s.convView c).conv.seq + 1) % 64 := by
  obtain ⟨t, hbefore, hafter⟩ :=
    forEach_fins_view (State.convView c) (fun k hk t => t.convert_convView_of_ne raw hk) s
  obtain ⟨hunread, hseq⟩ := t.convert_conv raw c
  have hresult := congrArg ConvView.result hafter
  have hconv := congrArg ConvView.conv hafter
  simp only [State.convView] at hresult hconv
  rw [hresult, hconv, ← hbefore]
  exact ⟨t.convert_result raw c, hunread, hseq⟩

/-! ## The commands -/

/-- The state in which a selected trigger's conversions begin: the trigger objects taken and the cycle noted (R371, R392). -/
def State.atConversion (s : State) : State :=
  { s.trigTake with hk := { s.trigTake.hk with convAt := some s.trigTake.time.now } }

theorem State.atConversion_convView (s : State) (c : Fin 4) : s.atConversion.convView c = s.convView c :=
  s.trigTake_convView c

/-- A selected trigger that is armed and not too soon converts with the trigger objects as they stand (R371, R392). -/
theorem exec_hkTrigger_of_armed {s : State} (raw : Vector Nat 4) (hlive : s.hkLive = true) (hcal : s.hk.calRun = false)
    (href : s.reg Ob.HK_REF_READY 0 ≠ 0) (harmed : s.trigArmed = true)
    (hsoon : ∀ t0, s.hk.convAt = some t0 → 5000 ≤ (s.time.now - t0 + 1) * 64) :
    exec (.hkTrigger .selected raw) s = .next (forEach (fins 4) (fun c t => t.convert raw c) s.atConversion) := by
  have hflag : s.flag Ob.HK_REF_READY 0 = true := by simp [State.flag, href]
  change execHkTrigger .selected raw s = _
  cases hat : s.hk.convAt with
  | none => simp [execHkTrigger, State.atConversion, hlive, hcal, hflag, harmed, hat]
  | some t0 =>
    have hlate : ¬ (s.time.now - t0 + 1) * 64 < 5000 := Nat.not_lt.mpr (hsoon t0 hat)
    simp [execHkTrigger, State.atConversion, hlive, hcal, hflag, harmed, hat, hlate]

/-- What the end of a self-calibration does for one converter: VALID clears, and the new factors replace the old ones where they
pass (R374, R375, R376). -/
def State.takeFactors (off gain : Vector Int 4) (c : Fin 4) (s : State) : State :=
  let s := s.setReg Ob.HK_ADC_RESULT (c.val + 1) (withBit (s.nat Ob.HK_ADC_RESULT (c.val + 1)) 30 false : Nat)
  if hkCalFails off[c] gain[c] then s.setReg Ob.HK_CAL_RESULT (c.val + 1) 2
  else ((s.setReg Ob.HK_CAL_OFFSET (c.val + 1) off[c]).setReg Ob.HK_CAL_GAIN (c.val + 1) gain[c]).setReg
    Ob.HK_CAL_RESULT (c.val + 1) 1

/-- Beside the word, a converter's new factors write the calibration's own objects. -/
theorem State.takeFactors_result (off gain : Vector Int 4) (k : Fin 4) (s : State) (js : Nat) (hj : js < 256) :
    (s.takeFactors off gain k).reg Ob.HK_ADC_RESULT js =
      (s.setReg Ob.HK_ADC_RESULT (k.val + 1) (withBit (s.nat Ob.HK_ADC_RESULT (k.val + 1)) 30 false : Nat)).reg
        Ob.HK_ADC_RESULT js := by
  have key : ∀ ix, ix ≠ Ob.HK_ADC_RESULT → objKey ix (k.val + 1) ≠ objKey Ob.HK_ADC_RESULT js :=
    fun ix hne => objKey_ne_of_ix (by omega) hj hne
  unfold State.takeFactors
  simp only
  split
  · rw [State.reg_setReg_ne _ _ _ _ _ _ (key _ (by decide))]
  · rw [State.reg_setReg_ne _ _ _ _ _ _ (key _ (by decide)), State.reg_setReg_ne _ _ _ _ _ _ (key _ (by decide)),
      State.reg_setReg_ne _ _ _ _ _ _ (key _ (by decide))]

/-- After the factors of all four converters, each word has VALID clear. -/
theorem State.takeFactorsAll_valid (off gain : Vector Int 4) (s : State) (c : Fin 4) :
    bitOf ((forEach (fins 4) (State.takeFactors off gain) s).nat Ob.HK_ADC_RESULT (c.val + 1)) 30 = false := by
  have hkeep : ∀ k : Fin 4, k ≠ c → ∀ t : State,
      (t.takeFactors off gain k).nat Ob.HK_ADC_RESULT (c.val + 1) = t.nat Ob.HK_ADC_RESULT (c.val + 1) := by
    intro k hk t
    have hval : k.val ≠ c.val := fun e => hk (Fin.ext e)
    unfold State.nat
    rw [State.takeFactors_result _ _ _ _ _ (by omega),
      State.reg_setReg_ne _ _ _ _ _ _ (objKey_ne_of_sub (by omega) (by omega) (by omega))]
  obtain ⟨t, -, hafter⟩ := forEach_fins_view (fun t => t.nat Ob.HK_ADC_RESULT (c.val + 1)) hkeep s
  rw [hafter, State.nat, State.takeFactors_result _ _ _ _ _ (by omega), State.reg_setReg_self, Int.toNat_natCast]
  exact bitOf_withBit_false _ _

/-- The replies that a command's end gives write no numeric object. -/
theorem State.finish_reg (s : State) (ix sub st jx js : Nat) : (s.finish ix sub st).reg jx js = s.reg jx js := by
  unfold State.finish
  exact forEach_keeps (fun t => t.reg jx js) (fun q _ t => t.reply_reg _ _ _ _ _ _ _ _) _

/-- What the end of a self-calibration does after the four converters' factors: it counts, its stamp, the pair bits taken, a change for
every channel and the reply (R374, R389). -/
def State.calEnd (s : State) : State :=
  let s2 := (s.bump Ob.HK_CAL_COUNT 0 1).setStamp Ob.HK_CAL_TIME 0
  ({ s2 with hk := { s2.hk with calRun := false, pair := s2.nat Ob.HK_PAIR_MODE 0 } }).chanChangeAll.finish Ob.HK_SELF_CAL 0 St.OK

theorem State.calEnd_result (s : State) (js : Nat) (hj : js < 256) :
    s.calEnd.reg Ob.HK_ADC_RESULT js = s.reg Ob.HK_ADC_RESULT js := by
  have key : ∀ ix, ix ≠ Ob.HK_ADC_RESULT → ∀ (t : State) (v : Int),
      (t.setReg ix 0 v).reg Ob.HK_ADC_RESULT js = t.reg Ob.HK_ADC_RESULT js :=
    fun ix hne t v => State.reg_setReg_ne _ _ _ _ _ _ (objKey_ne_of_ix (by decide) hj hne)
  unfold State.calEnd
  rw [State.finish_reg, State.chanChangeAll_reg _ _ _ hj (by decide)]
  exact (key Ob.HK_CAL_TIME (by decide) _ _).trans (key Ob.HK_CAL_COUNT (by decide) _ _)

/-- The converters that a self-calibration fails, as the detail of its record (R375). -/
def hkCalMask (off gain : Vector Int 4) : Nat :=
  ((fins 4).map (fun c => if hkCalFails off[c] gain[c] then 2 ^ c.val else 0)).sum

theorem exec_hkSelfCalDone_of_calRun {s : State} (off gain : Vector Int 4) (hcal : s.hk.calRun = true) :
    exec (.hkSelfCalDone off gain) s = .next
      (if hkCalMask off gain = 0 then (forEach (fins 4) (State.takeFactors off gain) s).calEnd
      else (forEach (fins 4) (State.takeFactors off gain) s).calEnd.raise Src.HK_CAL_FAIL 0 (hkCalMask off gain) Ob.HK_EVENTS 0) :=
  if_pos hcal

/-- A read of a converter's word answers with it; OVERRUN and the unread mark clear (R376). -/
theorem exec_hkAdcResultRead_of_accepts {s : State} {r : Req} {c : Fin 4} (h : s.Accepts r .read Ob.HK_ADC_RESULT (c.val + 1) []) :
    exec (.hkAdcResultRead r (c.val + 1)) s = .next
      ((((s.taken r .read Ob.HK_ADC_RESULT (c.val + 1) []).setReg Ob.HK_ADC_RESULT (c.val + 1)
        (withBit (s.nat Ob.HK_ADC_RESULT (c.val + 1)) 31 false : Nat)).modConv c (fun v => { v with unread := false })).reply r .read
          Ob.HK_ADC_RESULT (c.val + 1) St.OK (leBytes 4 (s.nat Ob.HK_ADC_RESULT (c.val + 1)))) := by
  have hexec : exec (.hkAdcResultRead r (c.val + 1)) s =
      .next (s.serve r .read Ob.HK_ADC_RESULT (c.val + 1) [] (ownAdcResult (c.val + 1))) := rfl
  have hnat := State.taken_nat s r .read Ob.HK_ADC_RESULT (c.val + 1) [] Ob.HK_ADC_RESULT (c.val + 1) (by omega) (by decide)
  have hsub : 1 ≤ c.val + 1 ∧ c.val + 1 ≤ 4 := by omega
  rw [hexec, State.serve_done h (by rw [ownAdcResult, hnat, dif_pos hsub])]
  rfl

/-! ## The statement -/

/-- Settles O47: the four conversions of a trigger do not see one another, so each word is built from the state before; a
self-calibration clears VALID and writes no word after that; a read's own rule stores the word back without OVERRUN. -/
theorem adcResultWords : Obligations.AdcResultWords := by
  unfold Obligations.AdcResultWords
  refine ⟨?conversion, ?calibration, ?read⟩
  case conversion =>
    intro s raw hlive hcal href harmed hsoon
    refine ⟨_, exec_hkTrigger_of_armed raw hlive hcal href harmed hsoon, fun c => ?_⟩
    obtain ⟨hresult, hunread, hseq⟩ := s.atConversion.convertAll_spec raw c
    have hcode := correctedCode_lt (s.convView c).offset (s.convView c).gain raw[c]
    rw [State.atConversion_convView] at hresult hseq
    simp only [State.nat, hresult, Int.toNat_natCast]
    refine ⟨resultWord_code hcode, resultWord_gap_14 hcode, resultWord_channel hcode, resultWord_gap_20 hcode, ?_, hseq,
      resultWord_valid hcode, resultWord_overrun hcode, hunread, resultWord_lt hcode⟩
    exact (resultWord_seq hcode).trans (Nat.mod_mod _ _)
  case calibration =>
    intro s off gain c hcal
    refine ⟨_, exec_hkSelfCalDone_of_calRun off gain hcal, ?_⟩
    have hvalid := State.takeFactorsAll_valid off gain s c
    unfold State.nat at hvalid ⊢
    split
    · rwa [State.calEnd_result _ _ (by omega)]
    · rw [State.raise_reg _ _ _ _ _ _ _ _ (by decide) (by omega) (by simp [EventObj]), if_neg (fun e => absurd e.1 (by decide)),
        State.calEnd_result _ _ (by omega)]
      exact hvalid
  case read =>
    intro s r c hacc
    refine ⟨_, exec_hkAdcResultRead_of_accepts hacc, ?frame, ?unread, ?word, ?others, ?objects⟩
    case frame => rfl
    case unread => simp [State.modConv]
    case word => rw [State.modConv_reg, State.reg_setReg_self]
    case others =>
      intro k hk
      have hval : c.val ≠ k.val := fun e => hk (Fin.ext e.symm)
      simp [State.modConv, Vector.getElem_set_ne, hval]
    case objects =>
      intro jx js hj hfree
      obtain ⟨hframes, hword⟩ := not_or.mp hfree
      rw [State.modConv_reg, State.reg_setReg _ _ _ _ _ _ (by omega) hj, if_neg (fun e => hword ⟨e.1.symm, e.2.symm⟩),
        State.taken_reg _ _ _ _ _ _ _ _ hj hframes]

end Sys2Proof.Machine

/-! SUPPORT. Every command keeps soundness, and with it every step; the step itself and the state after reset (R49, R338). A command is
made of operations that keep soundness, so each proof here follows the branches of the command and cites the operations' lemmas. -/

namespace Sys2Proof.Machine

/-! ## What a command answers -/

/-- The next state that a command answers, where it answers one, is sound. -/
structure OutInv (o : Out) : Prop where
  next_inv : ∀ t, o = .next t → t.Inv

theorem OutInv.next {t : State} (h : t.Inv) : OutInv (.next t) := ⟨fun _ e => Host.Outcome.next.inj e ▸ h⟩

theorem OutInv.refused (x : Refusal) : OutInv (.refused x) := ⟨fun _ e => by cases e⟩

theorem execWakePinEdge_inv (p : Fin 4) (high : Bool) (s : State) (hs : s.Inv) : OutInv (execWakePinEdge p high s) := by
  unfold execWakePinEdge
  repeat' first
    | (with_reducible first
        | assumption | intro _ | apply OutInv.next | apply State.castVote_inv | apply State.modDom_inv | apply forEach_inv)
    | split | dsimp only

theorem execAdcRecalTimer_inv (l : Fin 8) (s : State) (hs : s.Inv) : OutInv (execAdcRecalTimer l s) := by
  unfold execAdcRecalTimer
  repeat' first
    | (with_reducible first
        | assumption | apply OutInv.next | apply State.modAdcLane_inv)
    | split | dsimp only

theorem execAdcCorrectionRampStep_inv (l : Fin 8) (s : State) (hs : s.Inv) : OutInv (execAdcCorrectionRampStep l s) := by
  unfold execAdcCorrectionRampStep
  repeat' first
    | (with_reducible first
        | assumption | apply OutInv.next | apply State.rampStep_inv)
    | split | dsimp only

theorem execSubadcStuck_inv (l : Fin 8) (k : Fin 128) (s : State) (hs : s.Inv) : OutInv (execSubadcStuck l k s) := by
  unfold execSubadcStuck
  repeat' first
    | (with_reducible first
        | assumption | apply OutInv.next | apply State.adcRefresh_inv | apply State.modAdcLane_inv | apply State.raise_inv)
    | split | dsimp only

theorem execRxsynthAttemptTimeout_inv (h : Fin 2) (s : State) (hs : s.Inv) : OutInv (execRxsynthAttemptTimeout h s) := by
  unfold execRxsynthAttemptTimeout
  repeat' first
    | (with_reducible first
        | assumption | apply OutInv.next | apply State.modSynth_inv)
    | split | dsimp only

theorem execHostSignalLock_inv (h : Fin 16) (s : State) (hs : s.Inv) : OutInv (execHostSignalLock h s) := by
  unfold execHostSignalLock
  repeat' first
    | (with_reducible first
        | assumption | apply OutInv.next | apply State.setHost_inv)
    | split | dsimp only

theorem execHostAligned_inv (i : Fin 8) (skewNs : Nat) (order : List Nat) (s : State) (hs : s.Inv) :
    OutInv (execHostAligned i skewNs order s) := by
  unfold execHostAligned
  repeat' first
    | (with_reducible first
        | assumption | intro _ | apply OutInv.next | apply State.modHostLane_inv | apply State.modInst_inv
        | apply State.raise_inv | apply State.setHost_inv | apply State.setReg_inv | apply forEach_inv)
    | split | dsimp only | (with_reducible refine State.Inv.of_mk (s := ?_) ?_ ?_) | exact State.Inv.acc (by with_reducible assumption)

theorem execHostMarkerLoss_inv (i : Fin 8) (s : State) (hs : s.Inv) : OutInv (execHostMarkerLoss i s) := by
  unfold execHostMarkerLoss
  repeat' first
    | (with_reducible first
        | assumption | intro _ | apply OutInv.next | apply State.hostLost_inv | apply State.instLost_inv | apply forEach_inv)
    | split | dsimp only

theorem execHostSignalLoss_inv (h : Fin 16) (cdr : Bool) (s : State) (hs : s.Inv) : OutInv (execHostSignalLoss h cdr s) := by
  unfold execHostSignalLoss
  repeat' first
    | (with_reducible first
        | assumption | apply OutInv.next | apply State.hostLost_inv | apply State.instLost_inv | apply State.setHost_inv)
    | split | dsimp only

theorem execHostIngressCodeword_inv (i : Fin 8) (levels : List (List Nat)) (s : State) (hs : s.Inv) :
    OutInv (execHostIngressCodeword i levels s) := by
  unfold execHostIngressCodeword
  repeat' first
    | (with_reducible first
        | assumption | intro _ | apply OutInv.next | apply State.hostDecide_inv | apply State.hostReceive_inv
        | apply State.hostRsStats_inv | apply State.ingressBlocks_inv | apply State.levels_inv | apply State.modHostLane_inv
        | apply State.modInst_inv | apply forEach_inv)
    | split | dsimp only

theorem execHostEgressCodeword_inv (i : Fin 8) (s : State) (hs : s.Inv) : OutInv (execHostEgressCodeword i s) := by
  unfold execHostEgressCodeword
  repeat' first
    | (with_reducible first
        | assumption | intro _ | apply OutInv.next | apply State.bump64_inv | apply State.egressFeed_inv
        | apply State.egressS1_inv | apply State.hostEncode_inv | apply State.hostPattern_inv | apply State.modInst_inv
        | apply forEach_inv)
    | split | dsimp only

theorem execEgressStall_inv (i : Fin 8) (s : State) (hs : s.Inv) : OutInv (execEgressStall i s) := by
  unfold execEgressStall
  repeat' first
    | (with_reducible first
        | assumption | apply OutInv.next | apply State.bump64_inv | apply State.modInst_inv)
    | split | dsimp only

theorem execTlTrackEntry_inv (l : Fin 8) (codes : List Int) (s : State) (hs : s.Inv) : OutInv (execTlTrackEntry l codes s) := by
  unfold execTlTrackEntry
  repeat' first
    | (with_reducible first
        | assumption | apply OutInv.next | apply State.eqHold_inv | apply State.modDsp_inv | apply State.modRx_inv
        | apply State.rxSamples_inv | apply State.setEq_inv | apply State.setTl_inv | apply State.tlLight_inv)
    | split | dsimp only

theorem execTlAcquireRetry_inv (l : Fin 8) (codes : List Int) (s : State) (hs : s.Inv) :
    OutInv (execTlAcquireRetry l codes s) := by
  unfold execTlAcquireRetry
  repeat' first
    | (with_reducible first
        | assumption | apply OutInv.next | apply State.bump_inv | apply State.modDsp_inv | apply State.modRx_inv
        | apply State.raise_inv | apply State.rxSamples_inv | apply State.showW_inv)
    | split | dsimp only

theorem execTlLockLoss_inv (l : Fin 8) (codes : List Int) (s : State) (hs : s.Inv) : OutInv (execTlLockLoss l codes s) := by
  unfold execTlLockLoss
  repeat' first
    | (with_reducible first
        | assumption | apply OutInv.next | apply State.bump_inv | apply State.raise_inv | apply State.rxSamples_inv
        | apply State.tlAcquire_inv)
    | split | dsimp only

theorem execAdaptCycleEnd_inv (l : Fin 8) (codes : List Int) (s : State) (hs : s.Inv) : OutInv (execAdaptCycleEnd l codes s) := by
  unfold execAdaptCycleEnd
  repeat' first
    | (with_reducible first
        | assumption | intro _ | apply OutInv.next | apply State.cycleStart_inv | apply State.eqHold_inv
        | apply State.modRx_inv | apply State.requestSwap_inv | apply State.rxSamples_inv | apply State.trigger_inv
        | apply forEach_inv)
    | split | dsimp only | (with_reducible refine State.Inv.of_mk (s := ?_) ?_ ?_) | exact State.Inv.acc (by with_reducible assumption)

theorem execAdaptTaskDone_inv (l : Fin 8) (s : State) (hs : s.Inv) : OutInv (execAdaptTaskDone l s) := by
  unfold execAdaptTaskDone
  repeat' first
    | (with_reducible first
        | assumption | intro _ | apply OutInv.next | apply State.adapt_inv | apply State.jobDone_inv | apply State.modRx_inv
        | apply State.requestSwap_inv | apply forEach_inv)
    | split | dsimp only

theorem execEqConvergeEnd_inv (l : Fin 8) (s : State) (hs : s.Inv) : OutInv (execEqConvergeEnd l s) := by
  unfold execEqConvergeEnd
  repeat' first
    | (with_reducible first
        | assumption | apply OutInv.next | apply State.modRx_inv | apply State.noteLast_inv | apply State.setEq_inv)
    | split | dsimp only

theorem execBankSwap_inv (l : Fin 8) (codes : List Int) (s : State) (hs : s.Inv) : OutInv (execBankSwap l codes s) := by
  unfold execBankSwap
  repeat' first
    | (with_reducible first
        | assumption | apply OutInv.next | apply State.rxSamples_inv | apply State.swapNow_inv)
    | split | dsimp only

theorem execRollbackCheck_inv (l : Fin 8) (codes : List Int) (s : State) (hs : s.Inv) : OutInv (execRollbackCheck l codes s) := by
  unfold execRollbackCheck
  repeat' first
    | (with_reducible first
        | assumption | apply OutInv.next | apply State.bump_inv | apply State.modDsp_inv | apply State.raise_inv
        | apply State.requestSwap_inv | apply State.rxSamples_inv | apply State.setIdle_inv)
    | split | dsimp only

theorem execStructuralChange_inv (l : Fin 8) (s : State) (hs : s.Inv) : OutInv (execStructuralChange l s) := by
  unfold execStructuralChange
  repeat' first
    | (with_reducible first
        | assumption | intro _ | apply OutInv.next | apply State.adapt_inv | apply State.jobDone_inv | apply State.modRx_inv
        | apply State.setIdle_inv | apply forEach_inv)
    | split | dsimp only

theorem execEyeCaptureDone_inv (l : Fin 8) (codes : List Int) (s : State) (hs : s.Inv) :
    OutInv (execEyeCaptureDone l codes s) := by
  unfold execEyeCaptureDone
  repeat' first
    | (with_reducible first
        | assumption | apply OutInv.next | apply State.modDsp_inv | apply State.modRx_inv | apply State.rxSamples_inv
        | apply State.setBlob_inv | apply State.setReg_inv)
    | split | dsimp only

theorem execAdcWindow_inv (l : Fin 8) (codes : List Int) (s : State) (hs : s.Inv) : OutInv (execAdcWindow l codes s) := by
  unfold execAdcWindow
  repeat' first
    | (with_reducible first
        | assumption | apply OutInv.next | apply State.accumulate_inv | apply State.levels_inv | apply State.losDetect_inv
        | apply State.modAdcLane_inv | apply State.noiseFloor_inv | apply State.quality_inv | apply State.rxSamples_inv
        | apply State.tlLight_inv)
    | split | dsimp only

theorem execRxsynthRelock_inv (h : Fin 2) (s : State) (hs : s.Inv) : OutInv (execRxsynthRelock h s) := by
  unfold execRxsynthRelock
  repeat' first
    | (with_reducible first
        | assumption | apply OutInv.next | apply State.relocked_inv)
    | split | dsimp only

theorem execHkTrigger_inv (by_ : HkTrig) (raw : Vector Nat 4) (s : State) (hs : s.Inv) : OutInv (execHkTrigger by_ raw s) := by
  unfold execHkTrigger
  repeat' first
    | (with_reducible first
        | assumption | intro _ | apply OutInv.next | apply State.bump_inv | apply State.convert_inv | apply State.trigTake_inv
        | apply forEach_inv)
    | split | dsimp only | (with_reducible refine State.Inv.of_mk (s := ?_) ?_ ?_) | exact State.Inv.acc (by with_reducible assumption)

theorem execHkTrigFallback_inv (s : State) (hs : s.Inv) : OutInv (execHkTrigFallback s) := by
  unfold execHkTrigFallback
  repeat' first
    | (with_reducible first
        | assumption | apply OutInv.next | apply State.chanChangeAll_inv | apply State.raise_inv | apply State.setReg_inv)
    | split | dsimp only

theorem execHkRefReady_inv (s : State) (hs : s.Inv) : OutInv (execHkRefReady s) := by
  unfold execHkRefReady
  repeat' first
    | (with_reducible first
        | assumption | apply OutInv.next | apply State.setReg_inv)
    | split | dsimp only | (with_reducible refine State.Inv.of_mk (s := ?_) ?_ ?_) | exact State.Inv.acc

theorem execHkSelfCalDone_inv (off gain : Vector Int 4) (s : State) (hs : s.Inv) : OutInv (execHkSelfCalDone off gain s) := by
  unfold execHkSelfCalDone
  repeat' first
    | (with_reducible first
        | assumption | intro _ | apply OutInv.next | apply State.bump_inv | apply State.chanChangeAll_inv
        | apply State.finish_inv | apply State.raise_inv | apply State.setReg_inv | apply State.setStamp_inv
        | apply forEach_inv)
    | split | dsimp only | (with_reducible refine State.Inv.of_mk (s := ?_) ?_ ?_) | exact State.Inv.acc (by with_reducible assumption)

theorem execHkFilterOutput_inv (k : Fin 16) (s : State) (hs : s.Inv) : OutInv (execHkFilterOutput k s) := by
  unfold execHkFilterOutput
  repeat' first
    | (with_reducible first
        | assumption | apply OutInv.next | apply State.detect_inv | apply State.setReg_inv | apply State.setStamp_inv)
    | split | dsimp only

theorem execHkLoadTimer_inv (s : State) (hs : s.Inv) : OutInv (execHkLoadTimer s) := by
  unfold execHkLoadTimer
  repeat' first
    | (with_reducible first
        | assumption | apply OutInv.next | apply State.adacLoad_inv)
    | split | dsimp only

theorem execLdacNAssert_inv (s : State) (hs : s.Inv) : OutInv (execLdacNAssert s) := by
  unfold execLdacNAssert
  repeat' first
    | (with_reducible first
        | assumption | apply OutInv.next | apply State.adacLoad_inv)
    | split | dsimp only

theorem execAdacSlewStep_inv (k : Fin 16) (s : State) (hs : s.Inv) : OutInv (execAdacSlewStep k s) := by
  unfold execAdacSlewStep
  repeat' first
    | (with_reducible first
        | assumption | apply OutInv.next | apply State.adacStep_inv)
    | split | dsimp only

theorem execAdacShort_inv (k : Fin 16) (atLimit : Bool) (s : State) (hs : s.Inv) : OutInv (execAdacShort k atLimit s) := by
  unfold execAdacShort
  repeat' first
    | (with_reducible first
        | assumption | apply OutInv.next | apply State.bump_inv | apply State.raise_inv | apply State.setReg_inv)
    | split | dsimp only

theorem execPwmPeriodStart_inv (i : Fin 4) (s : State) (hs : s.Inv) : OutInv (execPwmPeriodStart i s) := by
  unfold execPwmPeriodStart
  repeat' first
    | (with_reducible first
        | assumption | apply OutInv.next | apply State.chanChangeAll_inv | apply State.modPwm_inv)
    | split | dsimp only

theorem execCodewordArrival_inv (l : Fin 8) (codes : List Int) (errs : List Nat) (s : State) (hs : s.Inv) :
    OutInv (execCodewordArrival l codes errs s) := by
  unfold execCodewordArrival
  repeat' first
    | (with_reducible first
        | assumption | apply OutInv.next | apply State.cwArrive_inv | apply State.modTic_inv | apply State.rxSamples_inv
        | apply State.softErrors_inv)
    | split | dsimp only

theorem execDecodeEnd_inv (h : Fin 2) (u : Fin 48) (delivered : Option (List Bool)) (s : State) (hs : s.Inv) :
    OutInv (execDecodeEnd h u delivered s) := by
  unfold execDecodeEnd
  repeat' first
    | (with_reducible first
        | assumption | apply OutInv.next | apply State.decodeEnd_inv)
    | split | dsimp only

theorem execReleaseDeadline_inv (l : Fin 8) (i layers : Nat) (s : State) (hs : s.Inv) :
    OutInv (execReleaseDeadline l i layers s) := by
  unfold execReleaseDeadline
  repeat' first
    | (with_reducible first
        | assumption | apply OutInv.next | apply State.countForced_inv | apply State.decodeEnd_inv | apply State.dispatch_inv
        | apply State.endCw_inv | apply State.unitTime_inv)
    | split | dsimp only

theorem execLayerWatchdog_inv (h : Fin 2) (u : Fin 48) (layers : Nat) (s : State) (hs : s.Inv) :
    OutInv (execLayerWatchdog h u layers s) := by
  unfold execLayerWatchdog
  repeat' first
    | (with_reducible first
        | assumption | apply OutInv.next | apply State.countForced_inv | apply State.dispatch_inv | apply State.endCw_inv
        | apply State.failUnit_inv | apply State.modCw_inv | apply State.unitTime_inv)
    | split | dsimp only

theorem execSpiPush_inv (bs : List Byte) (s : State) (hs : s.Inv) : OutInv (execSpiPush bs s) := by
  unfold execSpiPush
  repeat' first
    | (with_reducible first
        | assumption | apply OutInv.next | apply State.pushBytes_inv | apply State.shiftOut_inv | apply State.standIn_inv)
    | split | dsimp only

theorem execSpiPull_inv (n : Nat) (s : State) (hs : s.Inv) : OutInv (execSpiPull n s) := by
  unfold execSpiPull
  repeat' first
    | (with_reducible first
        | assumption | apply OutInv.next | apply State.pull_inv | apply State.standIn_inv)
    | split | dsimp only

theorem execSpiStatus_inv (s : State) (hs : s.Inv) : OutInv (execSpiStatus s) := by
  unfold execSpiStatus
  repeat' first
    | (with_reducible first
        | assumption | apply OutInv.next | apply State.shiftOut_inv | apply State.standIn_inv)
    | split | dsimp only

theorem execI2cPush_inv (bs : List Byte) (s : State) (hs : s.Inv) : OutInv (execI2cPush bs s) := by
  unfold execI2cPush
  repeat' first
    | (with_reducible first
        | assumption | apply OutInv.next | apply State.pushBytes_inv | apply State.shiftOut_inv | apply State.standIn_inv)
    | split | dsimp only

theorem execI2cPull_inv (n : Nat) (s : State) (hs : s.Inv) : OutInv (execI2cPull n s) := by
  unfold execI2cPull
  repeat' first
    | (with_reducible first
        | assumption | apply OutInv.next | apply State.pull_inv | apply State.standIn_inv)
    | split | dsimp only

theorem execI2cStatusRead_inv (s : State) (hs : s.Inv) : OutInv (execI2cStatusRead s) := by
  unfold execI2cStatusRead
  repeat' first
    | (with_reducible first
        | assumption | apply OutInv.next | apply State.shiftOut_inv | apply State.standIn_inv)
    | split | dsimp only

theorem execMdioMmpPush_inv (w : BitVec 16) (s : State) (hs : s.Inv) : OutInv (execMdioMmpPush w s) := by
  unfold execMdioMmpPush
  repeat' first
    | (with_reducible first
        | assumption | apply OutInv.next | apply State.pushBytes_inv | apply State.standIn_inv)
    | split | dsimp only

theorem execMdioMmpPull_inv (s : State) (hs : s.Inv) : OutInv (execMdioMmpPull s) := by
  unfold execMdioMmpPull
  repeat' first
    | (with_reducible first
        | assumption | apply OutInv.next | apply State.modTp_inv | apply State.standIn_inv)
    | split | dsimp only

theorem execMdioMmpStatusWrite_inv (w : BitVec 16) (s : State) (hs : s.Inv) : OutInv (execMdioMmpStatusWrite w s) := by
  unfold execMdioMmpStatusWrite
  repeat' first
    | (with_reducible first
        | assumption | apply OutInv.next | apply State.modTp_inv | apply State.standIn_inv)
    | split | dsimp only

theorem execMgtStandinWake_inv (via : Option Path) (s : State) (hs : s.Inv) : OutInv (execMgtStandinWake via s) := by
  unfold execMgtStandinWake
  repeat' first
    | (with_reducible first
        | assumption | apply OutInv.next | apply State.mgtCall_inv | apply State.standIn_inv)
    | split | dsimp only

theorem execDsTrainingDone_inv (t : DsTraining) (s : State) (hs : s.Inv) : OutInv (execDsTrainingDone t s) := by
  unfold execDsTrainingDone
  repeat' first
    | (with_reducible first
        | assumption | intro _ | apply OutInv.next | apply State.dsDeviceFailed_inv | apply State.dsState_inv
        | apply State.finish_inv | apply State.modDs_inv | apply State.raise_inv | apply State.setReg_inv
        | apply State.setStamp_inv | apply forEach_inv)
    | split | dsimp only

theorem execDsTrainingRetry_inv (s : State) (hs : s.Inv) : OutInv (execDsTrainingRetry s) := by
  unfold execDsTrainingRetry
  repeat' first
    | (with_reducible first
        | assumption | apply OutInv.next | apply State.dsTrain_inv | apply State.modDs_inv)
    | split | dsimp only

theorem execDsChannelRetrain_inv (d : Fin 5) (c : Fin 4) (s : State) (hs : s.Inv) : OutInv (execDsChannelRetrain d c s) := by
  unfold execDsChannelRetrain
  repeat' first
    | (with_reducible first
        | assumption | apply OutInv.next | apply State.bump_inv | apply State.modDs_inv)
    | split | dsimp only

theorem execDsLineRead_inv (p : Fin 8) (seq : Nat) (held : Bool) (first again verify : DsRead) (s : State) (hs : s.Inv) :
    OutInv (execDsLineRead p seq held first again verify s) := by
  unfold execDsLineRead
  repeat' first
    | (with_reducible first
        | assumption | apply OutInv.next | apply State.busError_inv | apply State.dsMoved_inv | apply State.lineFixed_inv
        | apply State.lineTaken_inv)
    | split | dsimp only

theorem execDsWrite_inv (p : Fin 8) (seq : Nat) (held : Bool) (burst : Fin 17) (fails : Nat) (bad : Option (Fin 5 × List Byte)) (s : State) (hs : s.Inv) :
    OutInv (execDsWrite p seq held burst fails bad s) := by
  unfold execDsWrite
  repeat' first
    | (with_reducible first
        | assumption | apply OutInv.next | apply State.bump64_inv | apply State.dsMoved_inv | apply State.lineStore_inv
        | apply State.modDeep_inv)
    | split | dsimp only

theorem execDsWriteDone_inv (p : Fin 8) (seq : Nat) (held : Bool) (s : State) (hs : s.Inv) :
    OutInv (execDsWriteDone p seq held s) := by
  unfold execDsWriteDone
  repeat' first
    | (with_reducible first
        | assumption | apply OutInv.next | apply State.modDeep_inv | apply State.modLink_inv)
    | split | dsimp only

theorem execDsRefresh_inv (s : State) (hs : s.Inv) : OutInv (execDsRefresh s) := by
  unfold execDsRefresh
  repeat' first
    | (with_reducible first
        | assumption | apply OutInv.next | apply State.modDs_inv | apply State.setReg_inv)
    | split | dsimp only

theorem execDsTempRead_inv (d : Fin 5) (temp : Int) (s : State) (hs : s.Inv) : OutInv (execDsTempRead d temp s) := by
  unfold execDsTempRead
  repeat' first
    | (with_reducible first
        | assumption | apply OutInv.next | apply State.modDs_inv | apply State.raise_inv | apply State.setReg_inv)
    | split | dsimp only

theorem execFrameReceived_inv (p : Fin 8) (s : State) (hs : s.Inv) : OutInv (execFrameReceived p s) := by
  unfold execFrameReceived
  repeat' first
    | (with_reducible first
        | assumption | apply OutInv.next | apply State.modOuterPort_inv | apply State.takeSlot_inv)
    | split | dsimp only

theorem execSlotFill_inv (p : Fin 8) (take : Nat) (s : State) (hs : s.Inv) : OutInv (execSlotFill p take s) := by
  unfold execSlotFill
  repeat' first
    | (with_reducible first
        | assumption | intro _ | apply OutInv.next | apply State.assemble_inv | apply State.carrySlot_inv
        | apply State.linePattern_inv | apply State.lplApply_inv | apply State.modPort_inv | apply State.sendEcho_inv
        | apply State.sendIdle_inv | apply forEach_inv)
    | split | dsimp only

theorem execRetxTimer_inv (p : Fin 8) (seq : Nat) (s : State) (hs : s.Inv) : OutInv (execRetxTimer p seq s) := by
  unfold execRetxTimer
  repeat' first
    | (with_reducible first
        | assumption | apply OutInv.next | apply State.linkCounts_inv | apply State.queueReplay_inv)
    | split | dsimp only

theorem execWindowAgeWriteoff_inv (p : Fin 8) (seq : Nat) (s : State) (hs : s.Inv) : OutInv (execWindowAgeWriteoff p seq s) := by
  unfold execWindowAgeWriteoff
  repeat' first
    | (with_reducible first
        | assumption | apply OutInv.next | apply State.linkCounts_inv | apply State.writeOff_inv)
    | split | dsimp only

theorem execGapAgeRelease_inv (p : Fin 8) (seq : Nat) (s : State) (hs : s.Inv) : OutInv (execGapAgeRelease p seq s) := by
  unfold execGapAgeRelease
  repeat' first
    | (with_reducible first
        | assumption | apply OutInv.next | apply State.gapStatus_inv | apply State.releaseGaps_inv)
    | split | dsimp only

theorem execStatusRepeat_inv (p : Fin 8) (s : State) (hs : s.Inv) : OutInv (execStatusRepeat p s) := by
  unfold execStatusRepeat
  repeat' first
    | (with_reducible first
        | assumption | apply OutInv.next | apply State.modLink_inv)
    | split | dsimp only

theorem execEchoReqTimer_inv (p : Fin 8) (s : State) (hs : s.Inv) : OutInv (execEchoReqTimer p s) := by
  unfold execEchoReqTimer
  repeat' first
    | (with_reducible first
        | assumption | apply OutInv.next | apply State.modLink_inv)
    | split | dsimp only

theorem execTxSynthBandDone_inv (l : Fin 8) (found : Bool) (s : State) (hs : s.Inv) : OutInv (execTxSynthBandDone l found s) := by
  unfold execTxSynthBandDone
  repeat' first
    | (with_reducible first
        | assumption | apply OutInv.next | apply State.setReg_inv | apply State.txCalFail_inv)
    | split | dsimp only

theorem execTxSynthLock_inv (l : Fin 8) (s : State) (hs : s.Inv) : OutInv (execTxSynthLock l s) := by
  unfold execTxSynthLock
  repeat' first
    | (with_reducible first
        | assumption | apply OutInv.next | apply State.modTx_inv | apply State.relocked_inv | apply State.setReg_inv
        | apply State.txCalEnd_inv)
    | split | dsimp only

theorem execTxSynthLockTimeout_inv (l : Fin 8) (s : State) (hs : s.Inv) : OutInv (execTxSynthLockTimeout l s) := by
  unfold execTxSynthLockTimeout
  repeat' first
    | (with_reducible first
        | assumption | apply OutInv.next | apply State.txCalFail_inv)
    | split | dsimp only

theorem execDacCheckDone_inv (l : Fin 8) (mvppd : Nat) (s : State) (hs : s.Inv) : OutInv (execDacCheckDone l mvppd s) := by
  unfold execDacCheckDone
  repeat' first
    | (with_reducible first
        | assumption | apply OutInv.next | apply State.modTx_inv | apply State.raise_inv | apply State.setReg_inv
        | apply State.txCalEnd_inv)
    | split | dsimp only

theorem execTxSynthUnlock_inv (l : Fin 8) (s : State) (hs : s.Inv) : OutInv (execTxSynthUnlock l s) := by
  unfold execTxSynthUnlock
  repeat' first
    | (with_reducible first
        | assumption | apply OutInv.next | apply State.bump_inv | apply State.modTx_inv | apply State.raise_inv
        | apply State.relocked_inv | apply State.setReg_inv | apply State.waveRetarget_inv)
    | split | dsimp only

theorem execTxRelockTimeout_inv (l : Fin 8) (s : State) (hs : s.Inv) : OutInv (execTxRelockTimeout l s) := by
  unfold execTxRelockTimeout
  repeat' first
    | (with_reducible first
        | assumption | apply OutInv.next | apply State.modTx_inv | apply State.setReg_inv)
    | split | dsimp only

theorem execTxMuteLift_inv (l : Fin 8) (s : State) (hs : s.Inv) : OutInv (execTxMuteLift l s) := by
  unfold execTxMuteLift
  repeat' first
    | (with_reducible first
        | assumption | apply OutInv.next | apply State.modTx_inv | apply State.relocked_inv)
    | split | dsimp only

theorem execOpticsUpStep_inv (l : Fin 8) (s : State) (hs : s.Inv) : OutInv (execOpticsUpStep l s) := by
  unfold execOpticsUpStep
  repeat' first
    | (with_reducible first
        | assumption | apply OutInv.next | apply State.apcVote_inv | apply State.biasStart_inv | apply State.laneSettle_inv
        | apply State.modTx_inv | apply State.setReg_inv)
    | split | dsimp only

theorem execOpticsDownStep_inv (l : Fin 8) (s : State) (hs : s.Inv) : OutInv (execOpticsDownStep l s) := by
  unfold execOpticsDownStep
  repeat' first
    | (with_reducible first
        | assumption | apply OutInv.next | apply State.downBias_inv | apply State.downEnd_inv | apply State.downOutput_inv
        | apply State.laneSettle_inv | apply State.upStart_inv)
    | split | dsimp only

theorem execBiasStepDone_inv (l : Fin 8) (s : State) (hs : s.Inv) : OutInv (execBiasStepDone l s) := by
  unfold execBiasStepDone
  repeat' first
    | (with_reducible first
        | assumption | apply OutInv.next | apply State.modTx_inv)
    | split | dsimp only

theorem execWaveRampStep_inv (l : Fin 8) (s : State) (hs : s.Inv) : OutInv (execWaveRampStep l s) := by
  unfold execWaveRampStep
  repeat' first
    | (with_reducible first
        | assumption | apply OutInv.next | apply State.modTx_inv | apply State.setReg_inv)
    | split | dsimp only

theorem execBreakoutDone_inv (s : State) (hs : s.Inv) : OutInv (execBreakoutDone s) := by
  unfold execBreakoutDone
  repeat' first
    | (with_reducible first
        | assumption | intro _ | apply OutInv.next | apply State.dsAdmit_inv | apply State.finish_inv
        | apply State.modPort_inv | apply State.portVotes_inv | apply forEach_inv)
    | split | dsimp only | (with_reducible refine State.Inv.of_mk (s := ?_) ?_ ?_) | exact State.Inv.acc (by with_reducible assumption)

theorem execRateChangeComplete_inv (p : Fin 8) (s : State) (hs : s.Inv) : OutInv (execRateChangeComplete p s) := by
  unfold execRateChangeComplete
  repeat' first
    | (with_reducible first
        | assumption | intro _ | apply OutInv.next | apply State.rateEnd_inv | apply State.tlStart_inv | apply forEach_inv)
    | split | dsimp only

theorem execRateDetect_inv (l : Fin 8) (cls : Fin 4) (s : State) (hs : s.Inv) : OutInv (execRateDetect l cls s) := by
  unfold execRateDetect
  repeat' first
    | (with_reducible first
        | assumption | apply OutInv.next | apply State.formatMismatch_inv | apply State.modPort_inv | apply State.modSrch_inv
        | apply State.rateStart_inv | apply State.setReg_inv)
    | split | dsimp only

theorem execCodewordLock_inv (l : Fin 8) (codes : List Int) (s : State) (hs : s.Inv) : OutInv (execCodewordLock l codes s) := by
  unfold execCodewordLock
  repeat' first
    | (with_reducible first
        | assumption | apply OutInv.next | apply State.modSrch_inv | apply State.rxSamples_inv)
    | split | dsimp only

theorem execCodewordCandidateFail_inv (l : Fin 8) (codes : List Int) (s : State) (hs : s.Inv) :
    OutInv (execCodewordCandidateFail l codes s) := by
  unfold execCodewordCandidateFail
  repeat' first
    | (with_reducible first
        | assumption | apply OutInv.next | apply State.modSrch_inv | apply State.rxSamples_inv)
    | split | dsimp only

theorem execFalseLockTimeout_inv (l : Fin 8) (s : State) (hs : s.Inv) : OutInv (execFalseLockTimeout l s) := by
  unfold execFalseLockTimeout
  repeat' first
    | (with_reducible first
        | assumption | apply OutInv.next | apply State.modOuterLane_inv | apply State.modSrch_inv)
    | split | dsimp only

theorem execSearchStatusTimeout_inv (p : Fin 8) (s : State) (hs : s.Inv) : OutInv (execSearchStatusTimeout p s) := by
  unfold execSearchStatusTimeout
  repeat' first
    | (with_reducible first
        | assumption | apply OutInv.next | apply State.modPort_inv | apply State.raise_inv | apply State.setReg_inv)
    | split | dsimp only

theorem execCarryDelayExpiry_inv (p : Fin 8) (s : State) (hs : s.Inv) : OutInv (execCarryDelayExpiry p s) := by
  unfold execCarryDelayExpiry
  repeat' first
    | (with_reducible first
        | assumption | apply OutInv.next | apply State.enterCarrying_inv | apply State.linkLost_inv)
    | split | dsimp only

theorem execNoFrameTimeout_inv (p : Fin 8) (s : State) (hs : s.Inv) : OutInv (execNoFrameTimeout p s) := by
  unfold execNoFrameTimeout
  repeat' first
    | (with_reducible first
        | assumption | apply OutInv.next | apply State.drain_inv)
    | split | dsimp only

theorem execLosHoldoffExpiry_inv (p : Fin 8) (s : State) (hs : s.Inv) : OutInv (execLosHoldoffExpiry p s) := by
  unfold execLosHoldoffExpiry
  repeat' first
    | (with_reducible first
        | assumption | apply OutInv.next | apply State.linkLost_inv)
    | split | dsimp only

theorem execDrainLastSlotsDone_inv (p : Fin 8) (s : State) (hs : s.Inv) : OutInv (execDrainLastSlotsDone p s) := by
  unfold execDrainLastSlotsDone
  repeat' first
    | (with_reducible first
        | assumption | apply OutInv.next | apply State.portDown_inv | apply State.portSettle_inv)
    | split | dsimp only

theorem execDrainComplete_inv (p : Fin 8) (s : State) (hs : s.Inv) : OutInv (execDrainComplete p s) := by
  unfold execDrainComplete
  repeat' first
    | (with_reducible first
        | assumption | apply OutInv.next | apply State.enterSearch_inv | apply State.modPort_inv | apply State.portSettle_inv)
    | split | dsimp only

theorem execAdcFgCalDone_inv (l : Fin 8) (m : FgResult) (s : State) (hs : s.Inv) : OutInv (execAdcFgCalDone l m s) := by
  unfold execAdcFgCalDone
  repeat' first
    | (with_reducible first
        | assumption | apply OutInv.next | apply State.fgEnd_inv | apply State.laneSettle_inv)
    | split | dsimp only

theorem execS1AmReceived_inv (l : Fin 8) (err lock : Bool) (s : State) (hs : s.Inv) : OutInv (execS1AmReceived l err lock s) := by
  unfold execS1AmReceived
  repeat' first
    | (with_reducible first
        | assumption | apply OutInv.next | apply State.bump_inv | apply State.linkLost_inv | apply State.setPort_inv
        | apply State.setReg_inv)
    | split | dsimp only

theorem execS1CodewordDecoded_inv (l : Fin 8) (received corrected : Nat) (uncorrectable marked : Bool) (data : List Bool) (errs : Nat) (s : State) (hs : s.Inv) :
    OutInv (execS1CodewordDecoded l received corrected uncorrectable marked data errs s) := by
  unfold execS1CodewordDecoded
  repeat' first
    | (with_reducible first
        | assumption | apply OutInv.next | apply State.bump64_inv | apply State.injUse_inv | apply State.modHostLane_inv
        | apply State.modSrch_inv)
    | split | dsimp only

theorem execTestDurationExpiry_inv (p : Fin 8) (s : State) (hs : s.Inv) : OutInv (execTestDurationExpiry p s) := by
  unfold execTestDurationExpiry
  repeat' first
    | (with_reducible first
        | assumption | apply OutInv.next | apply State.portSettle_inv | apply State.testLeave_inv | apply State.testOver_inv)
    | split | dsimp only

theorem execCheckerLock_inv (c : Checker) (codes : List Int) (s : State) (hs : s.Inv) : OutInv (execCheckerLock c codes s) := by
  unfold execCheckerLock
  repeat' first
    | (with_reducible first
        | assumption | apply OutInv.next | apply State.hostDecide_inv | apply State.modHostLane_inv | apply State.modRx_inv
        | apply State.rxSamples_inv | apply State.setReg_inv)
    | split | dsimp only

theorem execCheckerLockLoss_inv (c : Checker) (codes : List Int) (s : State) (hs : s.Inv) :
    OutInv (execCheckerLockLoss c codes s) := by
  unfold execCheckerLockLoss
  repeat' first
    | (with_reducible first
        | assumption | apply OutInv.next | apply State.bump_inv | apply State.hostDecide_inv | apply State.modHostLane_inv
        | apply State.modRx_inv | apply State.raise_inv | apply State.rxSamples_inv | apply State.setReg_inv)
    | split | dsimp only

theorem execForcedLosEnd_inv (p : Fin 8) (s : State) (hs : s.Inv) : OutInv (execForcedLosEnd p s) := by
  unfold execForcedLosEnd
  repeat' first
    | (with_reducible first
        | assumption | apply OutInv.next | apply State.injUse_inv)
    | split | dsimp only

theorem execCapTimeTrigger_inv (s : State) (hs : s.Inv) : OutInv (execCapTimeTrigger s) := by
  unfold execCapTimeTrigger
  repeat' first
    | (with_reducible first
        | assumption | apply OutInv.next | apply State.capTrigger_inv)
    | split | dsimp only

theorem execCapDone_inv (s : State) (hs : s.Inv) : OutInv (execCapDone s) := by
  unfold execCapDone
  repeat' first
    | (with_reducible first
        | assumption | apply OutInv.next | apply State.raise_inv | apply State.setBlob_inv | apply State.setReg_inv)
    | split | dsimp only | (with_reducible refine State.Inv.of_mk (s := ?_) ?_ ?_) | exact State.Inv.acc

theorem execEngTaskDone_inv (e : Fin 128) (task : Nat) (w : EngWork) (s : State) (hs : s.Inv) :
    OutInv (execEngTaskDone e task w s) := by
  unfold execEngTaskDone
  repeat' first
    | (with_reducible first
        | assumption | apply OutInv.next | apply State.engCount_inv | apply State.jobDone_inv | apply State.presetSet_inv)
    | split | dsimp only

theorem execEngTaskMiss_inv (e : Fin 128) (task : Nat) (w : EngWork) (s : State) (hs : s.Inv) :
    OutInv (execEngTaskMiss e task w s) := by
  unfold execEngTaskMiss
  repeat' first
    | (with_reducible first
        | assumption | apply OutInv.next | apply State.engCount_inv | apply State.raise_inv | apply State.taskMissed_inv)
    | split | dsimp only

theorem execEngHalt_inv (e : Fin 128) (memory : Bool) (offset : Nat) (s : State) (hs : s.Inv) :
    OutInv (execEngHalt e memory offset s) := by
  unfold execEngHalt
  repeat' first
    | (with_reducible first
        | assumption | apply OutInv.next | apply State.engAccess_inv)
    | dsimp only

theorem execEngRestartDone_inv (e : Fin 128) (s : State) (hs : s.Inv) : OutInv (execEngRestartDone e s) := by
  unfold execEngRestartDone
  repeat' first
    | (with_reducible first
        | assumption | apply OutInv.next | apply State.bump_inv | apply State.modEng_inv | apply State.serviceHome_inv
        | apply State.setReg_inv)
    | split | dsimp only

theorem execPmuOverflow_inv (e : Fin 128) (j : Fin 6) (task offset : Nat) (s : State) (hs : s.Inv) :
    OutInv (execPmuOverflow e j task offset s) := by
  unfold execPmuOverflow
  repeat' first
    | (with_reducible first
        | assumption | apply OutInv.next | apply State.pmuWrap_inv | apply State.setBlob_inv)
    | split | dsimp only

theorem execFabricWindow_inv (l : Fin 8) (m : FabricMeas) (s : State) (hs : s.Inv) : OutInv (execFabricWindow l m s) := by
  unfold execFabricWindow
  repeat' first
    | (with_reducible first
        | assumption | apply OutInv.next | apply State.canaries_inv | apply State.fillFigures_inv | apply State.modFabLane_inv
        | apply State.setReg_inv)
    | split | dsimp only | (with_reducible refine State.Inv.of_mk (s := ?_) ?_ ?_) | exact State.Inv.acc

theorem execLineRxOverrun_inv (l : Fin 8) (codes : List Int) (s : State) (hs : s.Inv) : OutInv (execLineRxOverrun l codes s) := by
  unfold execLineRxOverrun
  repeat' first
    | (with_reducible first
        | assumption | apply OutInv.next | apply State.bump_inv | apply State.modDsp_inv | apply State.record_inv
        | apply State.rxSamples_inv)
    | split | dsimp only

theorem execLineTxUnderrun_inv (l : Fin 8) (s : State) (hs : s.Inv) : OutInv (execLineTxUnderrun l s) := by
  unfold execLineTxUnderrun
  repeat' first
    | (with_reducible first
        | assumption | apply OutInv.next | apply State.bump_inv | apply State.lineSend_inv | apply State.record_inv)
    | split | dsimp only

theorem execHostIngressOverrun_inv (h : Fin 16) (s : State) (hs : s.Inv) : OutInv (execHostIngressOverrun h s) := by
  unfold execHostIngressOverrun
  repeat' first
    | (with_reducible first
        | assumption | apply OutInv.next | apply State.bump_inv | apply State.modInst_inv | apply State.record_inv)
    | split | dsimp only

theorem execHostEgressUnderrun_inv (h : Fin 16) (s : State) (hs : s.Inv) : OutInv (execHostEgressUnderrun h s) := by
  unfold execHostEgressUnderrun
  repeat' first
    | (with_reducible first
        | assumption | apply OutInv.next | apply State.bump_inv | apply State.modInst_inv | apply State.record_inv)
    | split | dsimp only

theorem execAvsRequestSend_inv (s : State) (hs : s.Inv) : OutInv (execAvsRequestSend s) := by
  unfold execAvsRequestSend
  repeat' first
    | (with_reducible first
        | assumption | apply OutInv.next | apply State.avsUpdate_inv | apply State.setReg_inv)
    | split | dsimp only | (with_reducible refine State.Inv.of_mk (s := ?_) ?_ ?_) | exact State.Inv.acc

theorem execAvsNoAck_inv (s : State) (hs : s.Inv) : OutInv (execAvsNoAck s) := by
  unfold execAvsNoAck
  repeat' first
    | (with_reducible first
        | assumption | apply OutInv.next | apply State.avsUpdate_inv | apply State.raise_inv | apply State.setReg_inv)
    | split | dsimp only | (with_reducible refine State.Inv.of_mk (s := ?_) ?_ ?_) | exact State.Inv.acc

theorem execDiodeConversion_inv (reading : Option Int) (s : State) (hs : s.Inv) : OutInv (execDiodeConversion reading s) := by
  unfold execDiodeConversion
  repeat' first
    | (with_reducible first
        | assumption | apply OutInv.next | apply State.modTherm_inv | apply State.raise_inv | apply State.setReg_inv)
    | split | dsimp only

theorem execMonitorMapping_inv (s : State) (hs : s.Inv) : OutInv (execMonitorMapping s) := by
  unfold execMonitorMapping
  repeat' first
    | (with_reducible first
        | assumption | apply OutInv.next | apply State.modTherm_inv | apply State.setStamp_inv)
    | split | dsimp only

theorem execThrottleRise_inv (s : State) (hs : s.Inv) : OutInv (execThrottleRise s) := by
  unfold execThrottleRise
  repeat' first
    | (with_reducible first
        | assumption | apply OutInv.next | apply State.tempStep_inv)
    | split | dsimp only

theorem execThrottleFall_inv (s : State) (hs : s.Inv) : OutInv (execThrottleFall s) := by
  unfold execThrottleFall
  repeat' first
    | (with_reducible first
        | assumption | apply OutInv.next | apply State.tempStep_inv)
    | split | dsimp only

theorem execDomainEntryDone_inv (d : Fin 36) (s : State) (hs : s.Inv) : OutInv (execDomainEntryDone d s) := by
  unfold execDomainEntryDone
  repeat' first
    | (with_reducible first
        | assumption | apply OutInv.next | apply State.answerVotes_inv | apply State.domStop_inv | apply State.fabricLeave_inv
        | apply State.setPwr_inv | apply State.votesDs_inv)
    | split | dsimp only

theorem execDomainRelease_inv (d : Fin 36) (lostBank : Option Nat) (s : State) (hs : s.Inv) :
    OutInv (execDomainRelease d lostBank s) := by
  unfold execDomainRelease
  repeat' first
    | (with_reducible first
        | assumption | intro _ | apply OutInv.next | apply State.bump_inv | apply State.domCold_inv | apply State.domWarm_inv
        | apply State.fabricWake_inv | apply State.fgStart_inv | apply State.modDom_inv | apply State.portVotes_inv
        | apply State.portsSettle_inv | apply State.retLost_inv | apply State.setPwr_inv | apply State.startEntry_inv
        | apply State.tlStart_inv | apply State.txCalibrate_inv | apply forEach_inv)
    | split | dsimp only

theorem execReleaseTimeout_inv (d : Fin 36) (s : State) (hs : s.Inv) : OutInv (execReleaseTimeout d s) := by
  unfold execReleaseTimeout
  repeat' first
    | (with_reducible first
        | assumption | intro _ | apply OutInv.next | apply State.fabricLeave_inv | apply State.modDom_inv
        | apply State.portOff_inv | apply State.portsSettle_inv | apply State.raise_inv | apply State.setPwr_inv
        | apply forEach_inv)
    | split | dsimp only | (with_reducible refine State.Inv.of_mk (s := ?_) ?_ ?_) | exact State.Inv.acc (by with_reducible assumption)

theorem execRxsynthBandSelectDone_inv (h : Fin 2) (s : State) (hs : s.Inv) : OutInv (execRxsynthBandSelectDone h s) := by
  unfold execRxsynthBandSelectDone
  repeat' first
    | (with_reducible first
        | assumption | apply OutInv.next | apply State.relocked_inv | apply State.withdraw_inv)
    | split | dsimp only | (with_reducible refine State.Inv.of_mk (s := ?_) ?_ ?_) | exact State.Inv.acc

theorem execRxsynthUnlock_inv (h : Fin 2) (s : State) (hs : s.Inv) : OutInv (execRxsynthUnlock h s) := by
  unfold execRxsynthUnlock
  repeat' first
    | (with_reducible first
        | assumption | intro _ | apply OutInv.next | apply State.analogAbort_inv | apply State.bump_inv
        | apply State.laneSettle_inv | apply State.record_inv | apply State.synthLost_inv | apply State.tlLight_inv
        | apply forEach_inv)
    | split | dsimp only

theorem execPowerOn_inv (strap : Fin 4) (s : State) (hs : s.Inv) : OutInv (execPowerOn strap s) := by
  unfold execPowerOn
  repeat' first
    | (with_reducible first
        | assumption | apply OutInv.next | apply State.fresh0_inv | apply State.setReg_inv)
    | split | dsimp only | (with_reducible refine State.Inv.of_mk (s := ?_) ?_ ?_) | exact State.Inv.acc

theorem execPorDelayExpiry_inv (s : State) (hs : s.Inv) : OutInv (execPorDelayExpiry s) := by
  unfold execPorDelayExpiry
  repeat' first
    | (with_reducible first
        | assumption | apply OutInv.next | apply State.stepTwo_inv)
    | split | dsimp only | (with_reducible refine State.Inv.of_mk (s := ?_) ?_ ?_) | exact State.Inv.acc

theorem execUndervoltage_inv (s : State) (hs : s.Inv) : OutInv (execUndervoltage s) := by
  unfold execUndervoltage
  repeat' first
    | (with_reducible first
        | assumption | apply OutInv.next | apply State.fresh0_inv)
    | split | dsimp only | (with_reducible refine State.Inv.of_mk (s := ?_) ?_ ?_) | exact State.Inv.acc

theorem execResetNAssert_inv (s : State) (hs : s.Inv) : OutInv (execResetNAssert s) := by
  unfold execResetNAssert
  repeat' first
    | (with_reducible first
        | assumption | apply OutInv.next | apply State.chipReset_inv | apply State.fresh0_inv | apply State.setReg_inv)
    | split | dsimp only | (with_reducible refine State.Inv.of_mk (s := ?_) ?_ ?_) | exact State.Inv.acc

theorem execResetNRelease_inv (strap : Fin 4) (s : State) (hs : s.Inv) : OutInv (execResetNRelease strap s) := by
  unfold execResetNRelease
  repeat' first
    | (with_reducible first
        | assumption | apply OutInv.next | apply State.stepTwo_inv)
    | split | dsimp only | (with_reducible refine State.Inv.of_mk (s := ?_) ?_ ?_) | exact State.Inv.acc

theorem execChipReset_inv (s : State) (hs : s.Inv) : OutInv (execChipReset s) := by
  unfold execChipReset
  repeat' first
    | (with_reducible first
        | assumption | apply OutInv.next | apply State.chipReset_inv)
    | split | dsimp only | (with_reducible refine State.Inv.of_mk (s := ?_) ?_ ?_) | exact State.Inv.acc

theorem execSafeStateEntry_inv (s : State) (hs : s.Inv) : OutInv (execSafeStateEntry s) := by
  unfold execSafeStateEntry
  repeat' first
    | (with_reducible first
        | assumption | apply OutInv.next | apply State.safeEnter_inv)
    | split | dsimp only | (with_reducible refine State.Inv.of_mk (s := ?_) ?_ ?_) | exact State.Inv.acc

theorem execSelfFault_inv (cause : Fin 3) (s : State) (hs : s.Inv) : OutInv (execSelfFault cause s) := by
  unfold execSelfFault
  repeat' first
    | (with_reducible first
        | assumption | apply OutInv.next | apply State.safeEnter_inv | apply State.setReg_inv)
    | split | dsimp only

theorem execThermalShutdown_inv (byDiode : Bool) (s : State) (hs : s.Inv) : OutInv (execThermalShutdown byDiode s) := by
  unfold execThermalShutdown
  repeat' first
    | (with_reducible first
        | assumption | apply OutInv.next | apply State.bump_inv | apply State.raise_inv | apply State.safeEnter_inv
        | apply State.setReg_inv)
    | split | dsimp only

theorem execLookoutRecordAccept_inv (s : State) (hs : s.Inv) : OutInv (execLookoutRecordAccept s) := by
  unfold execLookoutRecordAccept
  repeat' first
    | (with_reducible first
        | assumption | apply OutInv.next | apply State.acceptRec_inv)
    | split | dsimp only | (with_reducible refine State.Inv.of_mk (s := ?_) ?_ ?_) | exact State.Inv.acc

theorem execAnalogCheckDone_inv (item : Fin 26) (m : AnalogMeas) (s : State) (hs : s.Inv) :
    OutInv (execAnalogCheckDone item m s) := by
  unfold execAnalogCheckDone
  repeat' first
    | (with_reducible first
        | assumption | apply OutInv.next | apply State.analogNext_inv | apply State.analogSet_inv | apply State.bump_inv
        | apply State.modAnalog_inv | apply State.raise_inv | apply State.setReg_inv)
    | split | dsimp only

theorem execMemScrubRead_inv (reads : List MemRead) (s : State) (hs : s.Inv) : OutInv (execMemScrubRead reads s) := by
  unfold execMemScrubRead
  repeat' first
    | (with_reducible first
        | assumption | intro _ | apply OutInv.next | apply State.memRead_inv | apply State.scrubNext_inv | apply forEach_inv)
    | split | dsimp only

theorem execPpsEdge_inv (phase : Fin 8) (s : State) (hs : s.Inv) : OutInv (execPpsEdge phase s) := by
  unfold execPpsEdge
  repeat' first
    | (with_reducible first
        | assumption | apply OutInv.next | apply State.bump_inv | apply State.takeEdge_inv)
    | split | dsimp only

theorem execPpsWindowClose_inv (s : State) (hs : s.Inv) : OutInv (execPpsWindowClose s) := by
  unfold execPpsWindowClose
  repeat' first
    | (with_reducible first
        | assumption | apply OutInv.next | apply State.bump_inv | apply State.raiseFree_inv | apply State.setReg_inv)
    | split | dsimp only | (with_reducible refine State.Inv.of_mk (s := ?_) ?_ ?_) | exact State.Inv.acc

theorem execPpsSlewDone_inv (s : State) (hs : s.Inv) : OutInv (execPpsSlewDone s) := by
  unfold execPpsSlewDone
  repeat' first
    | (with_reducible first
        | assumption | apply OutInv.next)
    | split | dsimp only | (with_reducible refine State.Inv.of_mk (s := ?_) ?_ ?_) | exact fun _ => Nat.mod_lt _ (by decide)

theorem execFuseSenseDone_inv (flips : List FuseFlip) (s : State) (hs : s.Inv) : OutInv (execFuseSenseDone flips s) := by
  unfold execFuseSenseDone
  repeat' first
    | (with_reducible first
        | assumption | apply OutInv.next | apply State.bistBegin_inv | apply State.fuseSense_inv | apply State.identify_inv
        | apply State.safeHold_inv | apply State.setPwr_inv | apply State.setReg_inv | apply State.setStep_inv)
    | split | dsimp only

theorem execBistWaveDone_inv (res : List BistRes) (s : State) (hs : s.Inv) : OutInv (execBistWaveDone res s) := by
  unfold execBistWaveDone
  repeat' first
    | (with_reducible first
        | assumption | intro _ | apply OutInv.next | apply State.bistEnd_inv | apply State.bistStart_inv
        | apply State.safeHold_inv | apply State.setPwr_inv | apply State.setStamp_inv | apply State.setStep_inv
        | apply forEach_inv)
    | split | dsimp only | (with_reducible refine State.Inv.of_mk (s := ?_) ?_ ?_) | exact State.Inv.acc (by with_reducible assumption)

theorem execBootLoaded_inv (ok : Bool) (s : State) (hs : s.Inv) : OutInv (execBootLoaded ok s) := by
  unfold execBootLoaded
  repeat' first
    | (with_reducible first
        | assumption | apply OutInv.next | apply State.journalAct_inv | apply State.journalShow_inv | apply State.safeHold_inv
        | apply State.setStep_inv)
    | split | dsimp only

theorem execCopyBlockDone_inv (s : State) (hs : s.Inv) : OutInv (execCopyBlockDone s) := by
  unfold execCopyBlockDone
  repeat' first
    | (with_reducible first
        | assumption | apply OutInv.next | apply State.flashErase_inv | apply State.flashWrite_inv
        | apply State.journalFollow_inv | apply State.modUpd_inv)
    | split | dsimp only

theorem execCopyVerifyDone_inv (ok : Bool) (s : State) (hs : s.Inv) : OutInv (execCopyVerifyDone ok s) := by
  unfold execCopyVerifyDone
  dsimp only
  repeat' first
    | (with_reducible first
        | assumption | apply OutInv.next | apply State.copyEnd_inv | apply State.flashErase_inv | apply State.flashWrite_inv
        | apply State.freshBytes_inv | apply State.journalFollow_inv | apply State.modUpd_inv | apply State.raise_inv)
    | split | dsimp only | (with_reducible refine State.Inv.of_mk (s := ?_) ?_ ?_) | exact State.Inv.acc

theorem execActiveLoaded_inv (s : State) (hs : s.Inv) : OutInv (execActiveLoaded s) := by
  unfold execActiveLoaded
  repeat' first
    | (with_reducible first
        | assumption | apply OutInv.next | apply State.imageRuns_inv | apply State.modUpd_inv | apply State.raise_inv
        | apply State.safeHold_inv | apply State.setStep_inv)
    | split | dsimp only

theorem execSettingsLoaded_inv (s : State) (hs : s.Inv) : OutInv (execSettingsLoaded s) := by
  unfold execSettingsLoaded
  repeat' first
    | (with_reducible first
        | assumption | apply OutInv.next | apply State.avsUpdate_inv | apply State.breakoutLoad_inv
        | apply State.captureSaved_inv | apply State.modUpd_inv | apply State.ppsEnable_inv | apply State.setReg_inv
        | apply State.setStep_inv | apply State.settingsRead_inv | apply State.startVotes_inv)
    | split | dsimp only | (with_reducible refine State.Inv.of_mk (s := ?_) ?_ ?_) | exact State.Inv.acc

theorem execStartupReady_inv (s : State) (hs : s.Inv) : OutInv (execStartupReady s) := by
  unfold execStartupReady
  repeat' first
    | (with_reducible first
        | assumption | intro _ | apply OutInv.next | apply State.deferredWrite_inv | apply State.modUpd_inv
        | apply State.portCommand_inv | apply State.setReg_inv | apply State.setStamp_inv | apply State.setStep_inv
        | apply forEach_inv)
    | split | dsimp only | (with_reducible refine State.Inv.of_mk (s := ?_) ?_ ?_) | exact State.Inv.acc (by with_reducible assumption)

theorem execStagingEraseDone_inv (s : State) (hs : s.Inv) : OutInv (execStagingEraseDone s) := by
  unfold execStagingEraseDone
  repeat' first
    | (with_reducible first
        | assumption | apply OutInv.next | apply State.flashErase_inv | apply State.setReg_inv)
    | split | dsimp only

theorem execPageProgramDone_inv (ok : Bool) (s : State) (hs : s.Inv) : OutInv (execPageProgramDone ok s) := by
  unfold execPageProgramDone
  repeat' first
    | (with_reducible first
        | assumption | apply OutInv.next | apply State.bump_inv | apply State.flashErase_inv | apply State.flashFail_inv
        | apply State.flashWrite_inv | apply State.freshBytes_inv | apply State.mapSet_inv | apply State.modUpd_inv
        | apply State.verifyBegin_inv)
    | split | dsimp only

theorem execVerifyDone_inv (s : State) (hs : s.Inv) : OutInv (execVerifyDone s) := by
  unfold execVerifyDone
  repeat' first
    | (with_reducible first
        | assumption | apply OutInv.next | apply State.raise_inv | apply State.setReg_inv)
    | split | dsimp only

theorem execProbationExpiry_inv (s : State) (hs : s.Inv) : OutInv (execProbationExpiry s) := by
  unfold execProbationExpiry
  repeat' first
    | (with_reducible first
        | assumption | apply OutInv.next | apply State.modUpd_inv | apply State.orderChip_inv | apply State.raise_inv)
    | split | dsimp only

theorem execConversionSave_inv (s : State) (hs : s.Inv) : OutInv (execConversionSave s) := by
  unfold execConversionSave
  repeat' first
    | (with_reducible first
        | assumption | apply OutInv.next | apply State.convert_inv | apply State.deviceSave_inv | apply State.modUpd_inv)
    | split | dsimp only

theorem execSettingsSaveDone_inv (failSector : Option Nat) (s : State) (hs : s.Inv) :
    OutInv (execSettingsSaveDone failSector s) := by
  unfold execSettingsSaveDone
  repeat' first
    | (with_reducible first
        | assumption | apply OutInv.next | apply State.modUpd_inv | apply State.saveAnswer_inv | apply State.saveFails_inv
        | apply State.saveStart_inv | apply State.saveWritten_inv)
    | split | dsimp only

theorem execPlanDue_inv (s : State) (hs : s.Inv) : OutInv (execPlanDue s) := by
  unfold execPlanDue
  repeat' first
    | (with_reducible first
        | assumption | apply OutInv.next | apply State.modTherm_inv)
    | split | dsimp only

theorem execPlanCommit_inv (speed : Nat) (bandgap : Int) (s : State) (hs : s.Inv) : OutInv (execPlanCommit speed bandgap s) := by
  unfold execPlanCommit
  repeat' first
    | (with_reducible first
        | assumption | apply OutInv.next | apply State.avsUpdate_inv | apply State.bump_inv | apply State.deviceSave_inv
        | apply State.finish_inv | apply State.modTherm_inv | apply State.planOutlook_inv | apply State.planSupply_inv
        | apply State.setStamp_inv)
    | split | dsimp only

theorem execPoweredHourEnd_inv (s : State) (hs : s.Inv) : OutInv (execPoweredHourEnd s) := by
  unfold execPoweredHourEnd
  repeat' first
    | (with_reducible first
        | assumption | intro _ | apply OutInv.next | apply State.baseline_inv | apply State.bump_inv
        | apply State.modTherm_inv | apply forEach_inv)
    | split | dsimp only

theorem execTick_inv (m : TickIn) (s : State) (hs : s.Inv) : OutInv (execTick m s) := by
  unfold execTick
  repeat' first
    | (with_reducible first
        | assumption | apply OutInv.next | apply State.autoclear_inv | apply State.tickAon_inv | apply State.tickBlocks_inv)
    | split | dsimp only

theorem execBlockSequenceTimeout_inv (ix sub : Nat) (s : State) (hs : s.Inv) : OutInv (execBlockSequenceTimeout ix sub s) := by
  unfold execBlockSequenceTimeout
  repeat' first
    | (with_reducible first
        | assumption | apply OutInv.next | apply State.dropSeq_inv)
    | dsimp only

theorem execMmpForwardRequest_inv (r : Req) (op : Opcode) (port ix sub : Nat) (pl : List Byte) (s : State) (hs : s.Inv) :
    OutInv (execMmpForwardRequest r op port ix sub pl s) := by
  unfold execMmpForwardRequest
  repeat' first
    | (with_reducible first
        | assumption | apply OutInv.next | apply State.arrive_inv | apply State.forwardOn_inv | apply State.forwardReply_inv
        | apply State.mgtCall_inv | apply State.modTp_inv | apply State.pushBehind_inv | apply State.pushReply_inv
        | apply State.reply_inv)
    | split | dsimp only

theorem execMmpFarReply_inv (p : Fin 8) (frame : List Byte) (s : State) (hs : s.Inv) : OutInv (execMmpFarReply p frame s) := by
  unfold execMmpFarReply
  repeat' first
    | (with_reducible first
        | assumption | apply OutInv.next | apply State.answerForward_inv | apply State.arrive_inv | apply State.bump_inv
        | apply State.frameError_inv | apply State.modFwd_inv)
    | split | dsimp only

theorem execMmpFarTimeout_inv (p : Fin 8) (tag : Byte) (s : State) (hs : s.Inv) : OutInv (execMmpFarTimeout p tag s) := by
  unfold execMmpFarTimeout
  repeat' first
    | (with_reducible first
        | assumption | apply OutInv.next | apply State.answerForward_inv | apply State.bump_inv | apply State.modFwd_inv
        | apply State.pushReply_inv | apply State.raise_inv)
    | split | dsimp only

theorem execPrivLockoutEnd_inv (p : Path) (s : State) (hs : s.Inv) : OutInv (execPrivLockoutEnd p s) := by
  unfold execPrivLockoutEnd
  repeat' first
    | (with_reducible first
        | assumption | apply OutInv.next | apply State.modTp_inv)
    | split | dsimp only

theorem execPrivIdleTimeout_inv (p : Path) (s : State) (hs : s.Inv) : OutInv (execPrivIdleTimeout p s) := by
  unfold execPrivIdleTimeout
  repeat' first
    | (with_reducible first
        | assumption | apply OutInv.next | apply State.modTp_inv)
    | split | dsimp only

theorem execTestAccessPort_inv (op : TapOp) (s : State) (hs : s.Inv) : OutInv (execTestAccessPort op s) := by
  unfold execTestAccessPort
  repeat' first
    | (with_reducible first
        | assumption | apply OutInv.next | apply OutInv.refused | apply State.modTap_inv | apply State.tapLoad_inv)
    | split | dsimp only | (with_reducible refine State.Inv.of_mk (s := ?_) ?_ ?_) | exact State.Inv.acc

/-- A received marker: what its checked fields report, then its lane's streak, then what the streak or the miss leads to. -/
theorem execMarkerReceived_inv (l : Fin 8) (codes : List Int) (lag : Nat) (s : State) (hs : s.Inv) :
    OutInv (execMarkerReceived l codes lag s) := by
  unfold execMarkerReceived
  extract_lets s1
  have hsamples : s1.Inv := State.rxSamples_inv _ _ _ hs
  clear_value s1
  split
  · exact .next hsamples
  extract_lets _ _ _ _ taken
  have htaken : taken.Inv := State.markerTaken_inv _ _ _ hsamples
  clear_value taken
  split
  · exact .next hsamples
  split
  · exact .next hsamples
  extract_lets _ _ _ _ _ _ withWidth reported inStep _ missed judged
  have hwidth : withWidth.Inv := State.Inv.ite_same htaken fun h => State.setReg_inv _ _ _ _ h
  have hreported : reported.Inv := State.Inv.ite_same hwidth fun h => State.setReg_inv _ _ _ _ h
  have hstep : inStep.Inv := State.setReg_inv _ _ _ _ (State.modOuterLane_inv _ _ _ hreported)
  have hmissed : missed.Inv := State.modOuterLane_inv _ _ _ (State.bump_inv _ _ _ _ hreported)
  have hjudged : judged.Inv := State.Inv.ite_same hmissed fun h => State.formatMismatch_inv _ _ h
  clear_value judged missed inStep reported
  repeat' first
    | (with_reducible first
        | assumption | apply OutInv.next | apply State.setReg_inv | apply State.modOuterLane_inv
        | apply State.skewLimit_inv | apply State.declareAligned_inv | apply State.alignLoss_inv)
    | split

theorem OutInv.serve {s : State} {r : Req} {op : Opcode} {ix sub : Nat} {pl : List Byte} {own : State → Verdict} (hs : s.Inv)
    (ho : ∀ t : State, t.Inv → (own t).Inv) : OutInv (.next (s.serve r op ix sub pl own)) :=
  .next (State.serve_inv s r op ix sub pl own hs ho)

/-! ## The commands together -/

theorem execHkAdcResultRead_inv (r : Req) (sub : Nat) (s : State) (hs : s.Inv) : OutInv (execHkAdcResultRead r sub s) := by
  refine .serve hs ?_
  split
  · exact fun t ht => Verdict.inv_done ht
  · exact ownAdcResult_inv _

theorem execHostPresetWrite_inv (r : Req) (sub : Nat) (w : PresetWrite) (s : State) (hs : s.Inv) :
    OutInv (execHostPresetWrite r sub w s) := by
  cases w with
  | sel v => exact .serve hs (ownPreset_inv _ _)
  | table b => exact .serve hs (ownPreset_inv _ _)

theorem execMmpWrite_inv (r : Req) (isExec : Bool) (ix sub : Nat) (pl : List Byte) (s : State) (hs : s.Inv) :
    OutInv (execMmpWrite r isExec ix sub pl s) := by
  cases isExec with
  | true => exact .serve hs (ownExec_inv _ _ _ _)
  | false => exact .serve hs (ownWrite_inv _ _ _ _)

/-- Every command answers a sound state from a sound one. -/
theorem exec_inv (i : Instr) (s : State) (hs : s.Inv) : OutInv (exec i s) := by
  cases i with
  | mmpRead => exact .serve hs (ownRead_inv _ _ _ _ _)
  | mmpWrite r isExec ix sub pl => exact execMmpWrite_inv r isExec ix sub pl s hs
  | mmpReadBlock => exact .serve hs (ownReadBlock_inv _ _ _ _ _ _)
  | mmpWriteBlock => exact .serve hs (ownWriteBlock_inv _ _ _ _)
  | blockSequenceTimeout ix sub => exact execBlockSequenceTimeout_inv ix sub s hs
  | mmpWalk => exact .serve hs (ownWalk_inv _ _ _)
  | mmpForwardRequest r op port ix sub pl => exact execMmpForwardRequest_inv r op port ix sub pl s hs
  | mmpFarReply p frame => exact execMmpFarReply_inv p frame s hs
  | mmpFarTimeout p tag => exact execMmpFarTimeout_inv p tag s hs
  | spiPush bs => exact execSpiPush_inv bs s hs
  | spiPull n => exact execSpiPull_inv n s hs
  | spiStatus => exact execSpiStatus_inv s hs
  | i2cStatusRead => exact execI2cStatusRead_inv s hs
  | mdioMmpPush w => exact execMdioMmpPush_inv w s hs
  | mdioMmpPull => exact execMdioMmpPull_inv s hs
  | mdioMmpStatusWrite w => exact execMdioMmpStatusWrite_inv w s hs
  | mgtStandinWake via => exact execMgtStandinWake_inv via s hs
  | privChallengeRead => exact .serve hs (ownChallenge_inv _)
  | privOpen => exact .serve hs (ownPrivOpen_inv _ _)
  | privLockoutEnd p => exact execPrivLockoutEnd_inv p s hs
  | privClose => exact .serve hs (ownPrivClose_inv _)
  | privIdleTimeout p => exact execPrivIdleTimeout_inv p s hs
  | dictSave => exact .serve hs ownDictSave_inv
  | dictRestoreDefaults => exact .serve hs ownRestoreDefaults_inv
  | dictStateRead => exact .serve hs (ownStateRead_inv _)
  | timeSet => exact .serve hs (ownTimeSet_inv _)
  | timeNextSecondsWrite => exact .serve hs (ownNextSeconds_inv _)
  | timePpsEnableWrite => exact .serve hs (ownPpsEnable_inv _)
  | timeRateAdjWrite => exact .serve hs (ownRateAdj_inv _)
  | ppsEdge phase => exact execPpsEdge_inv phase s hs
  | ppsWindowClose => exact execPpsWindowClose_inv s hs
  | ppsSlewDone => exact execPpsSlewDone_inv s hs
  | tick m => exact execTick_inv m s hs
  | fabricWindow l m => exact execFabricWindow_inv l m s hs
  | fabricClearMin => exact .serve hs ownFabricClearMin_inv
  | lineRxOverrun l codes => exact execLineRxOverrun_inv l codes s hs
  | lineTxUnderrun l => exact execLineTxUnderrun_inv l s hs
  | hostIngressOverrun h => exact execHostIngressOverrun_inv h s hs
  | hostEgressUnderrun h => exact execHostEgressUnderrun_inv h s hs
  | adcCalFg => exact .serve hs (ownAdcCalFg_inv _)
  | adcFgCalDone l m => exact execAdcFgCalDone_inv l m s hs
  | rxsynthBandSelectDone h => exact execRxsynthBandSelectDone_inv h s hs
  | rxsynthUnlock h => exact execRxsynthUnlock_inv h s hs
  | rxsynthRelock h => exact execRxsynthRelock_inv h s hs
  | rxsynthAttemptTimeout h => exact execRxsynthAttemptTimeout_inv h s hs
  | adcWindow l codes => exact execAdcWindow_inv l codes s hs
  | adcRecalTimer l => exact execAdcRecalTimer_inv l s hs
  | adcBgEnableWrite => exact .serve hs (ownBgEnable_inv _ _)
  | adcCorrectionRampStep l => exact execAdcCorrectionRampStep_inv l s hs
  | subadcStuck l k => exact execSubadcStuck_inv l k s hs
  | tlRestart => exact .serve hs (ownTlRestart_inv _)
  | tlTrackEntry l codes => exact execTlTrackEntry_inv l codes s hs
  | tlAcquireRetry l codes => exact execTlAcquireRetry_inv l codes s hs
  | tlLockLoss l codes => exact execTlLockLoss_inv l codes s hs
  | adaptCycleEnd l codes => exact execAdaptCycleEnd_inv l codes s hs
  | adaptTaskDone l => exact execAdaptTaskDone_inv l s hs
  | eqConvergeEnd l => exact execEqConvergeEnd_inv l s hs
  | bankSwap l codes => exact execBankSwap_inv l codes s hs
  | rollbackCheck l codes => exact execRollbackCheck_inv l codes s hs
  | structuralChange l => exact execStructuralChange_inv l s hs
  | lineRxInvertWrite => exact .serve hs (ownRxInvert_inv _ _)
  | eqFreezeWrite => exact .serve hs (ownEqFreeze_inv _ _)
  | eyeCapture => exact .serve hs (ownEyeCapture_inv _)
  | eyeCaptureDone l codes => exact execEyeCaptureDone_inv l codes s hs
  | codewordArrival l codes errs => exact execCodewordArrival_inv l codes errs s hs
  | decodeEnd h u delivered => exact execDecodeEnd_inv h u delivered s hs
  | releaseDeadline l inst layers => exact execReleaseDeadline_inv l inst layers s hs
  | layerWatchdog h u layers => exact execLayerWatchdog_inv h u layers s hs
  | frameReceived p => exact execFrameReceived_inv p s hs
  | markerReceived l codes lag => exact execMarkerReceived_inv l codes lag s hs
  | slotFill p take => exact execSlotFill_inv p take s hs
  | retxTimer p seq => exact execRetxTimer_inv p seq s hs
  | windowAgeWriteoff p seq => exact execWindowAgeWriteoff_inv p seq s hs
  | gapAgeRelease p seq => exact execGapAgeRelease_inv p seq s hs
  | statusRepeat p => exact execStatusRepeat_inv p s hs
  | echoReqTimer p => exact execEchoReqTimer_inv p s hs
  | retryWindowWrite => exact .serve hs (ownRetryWindow_inv _ _)
  | dsTrainingDone t => exact execDsTrainingDone_inv t s hs
  | dsRetrain => exact .serve hs ownDsRetrain_inv
  | dsTrainingRetry => exact execDsTrainingRetry_inv s hs
  | dsChannelRetrain d c => exact execDsChannelRetrain_inv d c s hs
  | dsLineRead p seq held first again verify => exact execDsLineRead_inv p seq held first again verify s hs
  | dsWrite p seq held burst fails bad => exact execDsWrite_inv p seq held burst fails bad s hs
  | dsWriteDone p seq held => exact execDsWriteDone_inv p seq held s hs
  | dsRefresh => exact execDsRefresh_inv s hs
  | dsTempRead d temp => exact execDsTempRead_inv d temp s hs
  | txSynthBandDone l found => exact execTxSynthBandDone_inv l found s hs
  | txSynthLock l => exact execTxSynthLock_inv l s hs
  | txSynthLockTimeout l => exact execTxSynthLockTimeout_inv l s hs
  | dacCheckDone l mvppd => exact execDacCheckDone_inv l mvppd s hs
  | txSynthUnlock l => exact execTxSynthUnlock_inv l s hs
  | txRelockTimeout l => exact execTxRelockTimeout_inv l s hs
  | txMuteLift l => exact execTxMuteLift_inv l s hs
  | opticsUpStep l => exact execOpticsUpStep_inv l s hs
  | opticsDownStep l => exact execOpticsDownStep_inv l s hs
  | biasStepDone l => exact execBiasStepDone_inv l s hs
  | waveRampStep l => exact execWaveRampStep_inv l s hs
  | txMuteForceWrite => exact .serve hs (ownMuteForce_inv _ _)
  | hostSignalLock h => exact execHostSignalLock_inv h s hs
  | hostAligned inst skewNs order => exact execHostAligned_inv inst skewNs order s hs
  | hostMarkerLoss inst => exact execHostMarkerLoss_inv inst s hs
  | hostSignalLoss h cdr => exact execHostSignalLoss_inv h cdr s hs
  | hostIngressCodeword inst levels => exact execHostIngressCodeword_inv inst levels s hs
  | hostEgressCodeword inst => exact execHostEgressCodeword_inv inst s hs
  | egressStall inst => exact execEgressStall_inv inst s hs
  | hostPresetWrite r sub w => exact execHostPresetWrite_inv r sub w s hs
  | portApplyBreakout => exact .serve hs ownApplyBreakout_inv
  | breakoutDone => exact execBreakoutDone_inv s hs
  | portCmdOff => exact .serve hs (ownPortCmd_inv _ _)
  | portCmdStandby => exact .serve hs (ownPortCmd_inv _ _)
  | portCmdUp => exact .serve hs (ownPortCmd_inv _ _)
  | portModeWrite => exact .serve hs (ownPortMode_inv _ _)
  | portRateSetWrite => exact .serve hs (ownRateSet_inv _ _)
  | rateChangeComplete p => exact execRateChangeComplete_inv p s hs
  | rateDetect l cls => exact execRateDetect_inv l cls s hs
  | codewordLock l codes => exact execCodewordLock_inv l codes s hs
  | falseLockTimeout l => exact execFalseLockTimeout_inv l s hs
  | searchStatusTimeout p => exact execSearchStatusTimeout_inv p s hs
  | carryDelayExpiry p => exact execCarryDelayExpiry_inv p s hs
  | noFrameTimeout p => exact execNoFrameTimeout_inv p s hs
  | losHoldoffExpiry p => exact execLosHoldoffExpiry_inv p s hs
  | drainLastSlotsDone p => exact execDrainLastSlotsDone_inv p s hs
  | drainComplete p => exact execDrainComplete_inv p s hs
  | testLinePrbs => exact .serve hs (ownTestStart_inv _ _)
  | testHostPrbs => exact .serve hs (ownTestStart_inv _ _)
  | testLoopHostAnalog => exact .serve hs (ownTestStart_inv _ _)
  | testLoopHostDigital => exact .serve hs (ownTestStart_inv _ _)
  | testLoopLineLocal => exact .serve hs (ownTestStart_inv _ _)
  | testLoopLineTic => exact .serve hs (ownTestStart_inv _ _)
  | testDurationExpiry p => exact execTestDurationExpiry_inv p s hs
  | checkerLock c codes => exact execCheckerLock_inv c codes s hs
  | checkerLockLoss c codes => exact execCheckerLockLoss_inv c codes s hs
  | testFarLoopWrite => exact .serve hs (ownFarLoop_inv _ _ _)
  | injFire => exact .serve hs (ownInjFire_inv _)
  | forcedLosEnd p => exact execForcedLosEnd_inv p s hs
  | capArm => exact .serve hs ownCapArm_inv
  | capTrigger => exact .serve hs ownCapTrigger_inv
  | capTimeTrigger => exact execCapTimeTrigger_inv s hs
  | capDone => exact execCapDone_inv s hs
  | hkTrigger by_ raw => exact execHkTrigger_inv by_ raw s hs
  | hkTrigFallback => exact execHkTrigFallback_inv s hs
  | hkRefReady => exact execHkRefReady_inv s hs
  | hkSelfCal => exact .serve hs ownHkSelfCal_inv
  | hkSelfCalDone off gain => exact execHkSelfCalDone_inv off gain s hs
  | hkAdcResultRead r sub => exact execHkAdcResultRead_inv r sub s hs
  | hkFilterOutput k => exact execHkFilterOutput_inv k s hs
  | hkFirSwap => exact .serve hs ownFirSwap_inv
  | hkLoad => exact .serve hs ownHkLoad_inv
  | hkLoadTimer => exact execHkLoadTimer_inv s hs
  | ldacNAssert => exact execLdacNAssert_inv s hs
  | adacSlewStep k => exact execAdacSlewStep_inv k s hs
  | adacShort k atLimit => exact execAdacShort_inv k atLimit s hs
  | engTaskDone e task w => exact execEngTaskDone_inv e task w s hs
  | engTaskMiss e task w => exact execEngTaskMiss_inv e task w s hs
  | engHalt e memory offset => exact execEngHalt_inv e memory offset s hs
  | engRestartDone e => exact execEngRestartDone_inv e s hs
  | engRestart => exact .serve hs (ownEngRestart_inv _)
  | engPmuClear => exact .serve hs (ownPmuClear_inv _)
  | engPmuFreezeWrite => exact .serve hs (ownPmuFreeze_inv _)
  | pmuOverflow e j task offset => exact execPmuOverflow_inv e j task offset s hs
  | pmuOvfStatusWrite => exact .serve hs (ownOvfStatus_inv _ _)
  | pmuSampleRead => exact .serve hs (ownPmuSample_inv _)
  | diodeConversion reading => exact execDiodeConversion_inv reading s hs
  | monitorMapping => exact execMonitorMapping_inv s hs
  | throttleRise => exact execThrottleRise_inv s hs
  | throttleFall => exact execThrottleFall_inv s hs
  | thermalShutdown byDiode => exact execThermalShutdown_inv byDiode s hs
  | poweredHourEnd => exact execPoweredHourEnd_inv s hs
  | planDue => exact execPlanDue_inv s hs
  | planCommit speed bandgap => exact execPlanCommit_inv speed bandgap s hs
  | compassPlanNow => exact .serve hs ownPlanNow_inv
  | avsRequestSend => exact execAvsRequestSend_inv s hs
  | avsNoAck => exact execAvsNoAck_inv s hs
  | thermalClearPeak => exact .serve hs ownClearPeak_inv
  | voteHostWrite => exact .serve hs (ownVote_inv _ _ _ _)
  | voteFarWrite => exact .serve hs (ownVote_inv _ _ _ _)
  | wakePinEdge p high => exact execWakePinEdge_inv p high s hs
  | domainEntryDone d => exact execDomainEntryDone_inv d s hs
  | domainRelease d lostBank => exact execDomainRelease_inv d lostBank s hs
  | releaseTimeout d => exact execReleaseTimeout_inv d s hs
  | powerOn strap => exact execPowerOn_inv strap s hs
  | resetNAssert => exact execResetNAssert_inv s hs
  | resetNRelease strap => exact execResetNRelease_inv strap s hs
  | undervoltage => exact execUndervoltage_inv s hs
  | chipReset => exact execChipReset_inv s hs
  | powerChipReset => exact .serve hs ownChipReset_inv
  | fuseSenseDone flips => exact execFuseSenseDone_inv flips s hs
  | bistWaveDone res => exact execBistWaveDone_inv res s hs
  | bootLoaded ok => exact execBootLoaded_inv ok s hs
  | copyBlockDone => exact execCopyBlockDone_inv s hs
  | copyVerifyDone ok => exact execCopyVerifyDone_inv ok s hs
  | activeLoaded => exact execActiveLoaded_inv s hs
  | settingsLoaded => exact execSettingsLoaded_inv s hs
  | startupReady => exact execStartupReady_inv s hs
  | lookoutRecordAccept => exact execLookoutRecordAccept_inv s hs
  | safeStateEntry => exact execSafeStateEntry_inv s hs
  | selfFault cause => exact execSelfFault_inv cause s hs
  | intPendingWrite => exact .serve hs (ownPending_inv _ _)
  | errPendingWrite => exact .serve hs (ownPending_inv _ _)
  | faultLogClear => exact .serve hs ownLogClear_inv
  | faultRaise => exact .serve hs (ownFaultRaise_inv _)
  | memScrubRead reads => exact execMemScrubRead_inv reads s hs
  | fuseProgram => exact .serve hs (ownFuseProgram_inv _)
  | lcAdvance => exact .serve hs (ownLcAdvance_inv _ _)
  | lcChallengeRead => exact .serve hs (ownLcChallenge_inv _)
  | lcReturn => exact .serve hs (ownLcReturn_inv _ _)
  | lcRetire => exact .serve hs ownLcRetire_inv
  | selftestAnalogRun => exact .serve hs (ownAnalogRun_inv _)
  | analogCheckDone item m => exact execAnalogCheckDone_inv item m s hs
  | selftestBistRun => exact .serve hs (ownBistRun_inv _)
  | updateOpen => exact .serve hs (ownUpdateOpen_inv _ _)
  | stagingEraseDone => exact execStagingEraseDone_inv s hs
  | updateStagingWrite => exact .serve hs (ownStaging_inv _ _)
  | pageProgramDone ok => exact execPageProgramDone_inv ok s hs
  | updateVerify => exact .serve hs (ownUpdateVerify_inv _)
  | verifyDone => exact execVerifyDone_inv s hs
  | updateActivateNextStart => exact .serve hs (ownUpdateActivate_inv _ _)
  | updateActivateReset => exact .serve hs (ownUpdateActivate_inv _ _)
  | updateClose => exact .serve hs (ownUpdateClose_inv _)
  | updateAbort => exact .serve hs ownUpdateAbort_inv
  | updateConfirm => exact .serve hs ownUpdateConfirm_inv
  | probationExpiry => exact execProbationExpiry_inv s hs
  | conversionSave => exact execConversionSave_inv s hs
  | porDelayExpiry => exact execPorDelayExpiry_inv s hs
  | i2cPush bs => exact execI2cPush_inv bs s hs
  | i2cPull n => exact execI2cPull_inv n s hs
  | pwmPeriodStart inst => exact execPwmPeriodStart_inv inst s hs
  | codewordCandidateFail l codes => exact execCodewordCandidateFail_inv l codes s hs
  | s1AmReceived l err lock => exact execS1AmReceived_inv l err lock s hs
  | s1CodewordDecoded l received corrected uncorrectable marked data errs => exact execS1CodewordDecoded_inv l received corrected uncorrectable marked data errs s hs
  | settingsSaveDone failSector => exact execSettingsSaveDone_inv failSector s hs
  | testAccessPort op => exact execTestAccessPort_inv op s hs

/-- A state with another queue is as sound as before: no clause of soundness reads the queue. -/
theorem State.Inv.withPending {s : State} (hs : s.Inv) (q : List Instr) : ({ s with pending := q } : State).Inv :=
  .of_same hs rfl rfl rfl rfl rfl rfl

/-- Settles O4: an idle cycle keeps every store and reduces the accumulator; each command is made of operations that keep soundness. -/
theorem everyStepKeepsSoundness : Obligations.EveryStepKeepsSoundness := by
  unfold Obligations.EveryStepKeepsSoundness
  intro s t hs hstep
  unfold step at hstep
  split at hstep
  · exact Host.Outcome.next.inj hstep ▸ State.idle_inv s hs
  · exact (exec_inv _ _ (hs.withPending _)).next_inv t hstep

/-- Settles O1: a step takes the queue apart and runs its front. -/
theorem stepRunsFrontCommand : Obligations.StepRunsFrontCommand := by
  unfold Obligations.StepRunsFrontCommand
  refine ⟨fun c s => rfl, fun c rest s hq => ?_⟩
  simp only [step, hq]

/-- Settles O3: at reset every store is empty, hence canonical, and the counter stands at 0. -/
theorem resetIsSound : Obligations.ResetIsSound := by
  unfold Obligations.ResetIsSound
  exact ⟨rfl, rfl, rfl, rfl, rfl, by decide⟩

end Sys2Proof.Machine

/-! SUPPORT. Requests that repeat or are refused, what a request and its reply touch, and what a raised event does (R349, R350, R366,
R458). -/

namespace Sys2Proof.Machine

/-! ## The server before an object's own rule -/

section
variable {s : State} {r : Req} {op : Opcode} {ix sub : Nat} {pl : List Byte} {own : State → Verdict}

/-- A request that repeats the last one on its TAG is answered from the record of that one, or dropped (R350). -/
theorem State.serve_of_duplicate {l : LastReq} (hon : s.on Dom.MGT = true) (hschema : badOpcode r = false) (hchanges : opChanges op = true)
    (hlast : (s.tp r.path).last.find? (fun m => m.tag == r.tag && m.crc == crc16 (frameBody r op ix sub pl)) = some l) :
    s.serve r op ix sub pl own =
      (match l.reply with
       | some f => (s.arrive r.path (closeFrame (frameBody r op ix sub pl))).pushBehind r.path (op == .exec) r.tag f
       | none => s.arrive r.path (closeFrame (frameBody r op ix sub pl))) := by
  unfold State.serve
  simp only [hon, hschema, hchanges, State.arrive_last, hlast, Bool.not_true, Bool.false_and, Bool.false_eq_true, if_false, if_true]
    <;> rfl

/-- The search for a repeated request finds none where the TAG's last request is another. -/
theorem State.no_duplicate (hnew : opChanges op = true → ∀ l ∈ (s.tp r.path).last, l.tag = r.tag → l.crc ≠ crc16 (frameBody r op ix sub pl)) :
    (if opChanges op = true then
      ((s.arrive r.path (closeFrame (frameBody r op ix sub pl))).tp r.path).last.find?
        (fun l => l.tag == r.tag && l.crc == crc16 (frameBody r op ix sub pl)) else none) = none := by
  split
  · rw [State.arrive_last, List.find?_eq_none]
    intro l hl
    simp only [Bool.and_eq_true, beq_iff_eq, not_and]
    exact hnew ‹_› l hl
  · rfl

/-- A request on a TAG still outstanding is answered TAG_IN_USE (R350). -/
theorem State.serve_of_tagBusy (hon : s.on Dom.MGT = true) (hschema : badOpcode r = false)
    (hnew : opChanges op = true → ∀ l ∈ (s.tp r.path).last, l.tag = r.tag → l.crc ≠ crc16 (frameBody r op ix sub pl))
    (htag : s.tagBusy r.path r.tag = true) :
    s.serve r op ix sub pl own = (s.arrive r.path (closeFrame (frameBody r op ix sub pl))).pushBehind r.path (op == .exec) r.tag
      (replyFrame (opByte r op) r.tag ix sub St.TAG_IN_USE []) := by
  unfold State.serve
  simp only [hon, hschema, State.no_duplicate hnew, State.tagBusy_arrive, htag, Bool.not_true, Bool.false_and, Bool.false_eq_true,
    if_false, if_true]

/-- A new request on a free TAG goes on to the limit of eight, and from there to the checks. -/
theorem State.serve_of_new (hon : s.on Dom.MGT = true) (hschema : badOpcode r = false)
    (hnew : opChanges op = true → ∀ l ∈ (s.tp r.path).last, l.tag = r.tag → l.crc ≠ crc16 (frameBody r op ix sub pl))
    (htag : s.tagBusy r.path r.tag = false)
    (hrefused : 8 ≤ (s.taken r op ix sub pl).outstanding r.path ∨ (s.taken r op ix sub pl).gate r op ix sub pl ≠ 0) :
    s.serve r op ix sub pl own = (s.taken r op ix sub pl).reply r op ix sub
      (if 8 ≤ (s.taken r op ix sub pl).outstanding r.path then St.BUSY else (s.taken r op ix sub pl).gate r op ix sub pl) [] := by
  unfold State.serve
  simp only [hon, hschema, State.no_duplicate hnew, State.tagBusy_arrive, htag, Bool.not_true, Bool.false_and, Bool.false_eq_true, if_false]
  change (if 8 ≤ (s.taken r op ix sub pl).outstanding r.path then _
    else if (s.taken r op ix sub pl).gate r op ix sub pl ≠ 0 then _ else _) = _
  by_cases hroom : 8 ≤ (s.taken r op ix sub pl).outstanding r.path
  · rw [if_pos hroom, if_pos hroom]; rfl
  · rw [if_neg hroom, if_neg hroom, if_pos (hrefused.resolve_left hroom)]; rfl

end

/-- Settles O5: the search among the last requests finds it before anything else is looked at. -/
theorem duplicateRequestRepeatsItsReply : Obligations.DuplicateRequestRepeatsItsReply := by
  unfold Obligations.DuplicateRequestRepeatsItsReply
  intro s r op ix sub pl own l hon hschema hchanges hlast
  exact State.serve_of_duplicate hon hschema hchanges hlast

/-- Settles O6: each refusal answers before the object's own rule is reached. -/
theorem refusedRequestsHaveNoEffect : Obligations.RefusedRequestsHaveNoEffect := by
  unfold Obligations.RefusedRequestsHaveNoEffect
  intro s r op ix sub pl own hon hschema hnew
  refine ⟨fun htag => State.serve_of_tagBusy hon hschema hnew htag, fun htag hfull => ?_, fun htag hroom hgate => ?_⟩
  · rw [State.serve_of_new hon hschema hnew htag (.inl hfull), if_pos hfull]
  · rw [State.serve_of_new hon hschema hnew htag (.inr hgate), if_neg (Nat.not_le.mpr hroom)]

/-- Settles O7, by the frames of an arrival and of a reply. -/
theorem requestsTouchOnlyTransports : Obligations.RequestsTouchOnlyTransports := by
  unfold Obligations.RequestsTouchOnlyTransports
  intro s r op ix sub st pl out
  exact ⟨s.taken_eq r op ix sub pl, fun jx js hjs hne => s.taken_reg r op ix sub pl jx js hjs hne, s.reply_eq r op ix sub st out⟩

/-! ## Records of an event -/

theorem insertRec_length (q : QueuedRec) (l : List QueuedRec) : (insertRec q l).length = l.length + 1 := by
  induction l with
  | nil => rfl
  | cons a l ih =>
    unfold insertRec
    split
    · rfl
    · rw [List.length_cons, ih, List.length_cons]

/-- A capture's trigger gives no record. -/
@[simp] theorem State.capFault_lookout (s : State) (src : Nat) : (s.capFault src).lookout = s.lookout := by
  unfold State.capFault
  split <;> rfl

@[simp] theorem State.offer_given (s : State) (src detail : Nat) (raised : Bool) :
    (s.offer src detail raised).lookout.given = s.lookout.given := by
  unfold State.offer
  simp only
  split <;> split <;> rfl

theorem State.offer_queue_length (s : State) (src detail : Nat) (raised : Bool) (hroom : s.lookout.queue.length < 16) :
    (s.offer src detail raised).lookout.queue.length = s.lookout.queue.length + 1 := by
  unfold State.offer
  simp only [apply_ite State.lookout, apply_ite Lookout.queue, ite_self, if_pos hroom, insertRec_length]

/-- Within a tick a source's further events at one place give no record (R458). -/
theorem State.record_of_given (s : State) (src inst detail : Nat) (h : (src, inst) ∈ s.lookout.given) :
    s.record src inst detail = s.capFault src := by
  unfold State.record
  simp only [State.capFault_lookout, if_pos h]

/-- The first one in a tick is offered to the input queue. -/
theorem State.record_of_not_given (s : State) (src inst detail : Nat) (h : (src, inst) ∉ s.lookout.given) :
    s.record src inst detail = { s.capFault src with
      lookout := { s.lookout with given := (src, inst) :: s.lookout.given } }.offer src detail false := by
  unfold State.record
  simp only [State.capFault_lookout, if_neg h]

/-- Settles O8: the event counts before its record is judged, and the record's queue is judged by what the tick has given. -/
theorem eventsCountAndRecordOncePerTick : Obligations.EventsCountAndRecordOncePerTick := by
  unfold Obligations.EventsCountAndRecordOncePerTick
  intro s src inst detail ix sub hsub hcounter
  refine ⟨?count, ?objects, State.raise_eq _ _ _ _ _ _, ?again, ?first⟩
  case count => rw [State.raise_reg _ _ _ _ _ _ _ _ hsub hsub hcounter, if_pos ⟨rfl, rfl⟩]
  case objects =>
    intro jx js hjs hfree
    obtain ⟨hevent, hother⟩ := not_or.mp hfree
    rw [State.raise_reg _ _ _ _ _ _ _ _ hsub hjs hevent, if_neg (fun e => hother ⟨e.1.symm, e.2.symm⟩)]
  case again =>
    intro hgiven
    rw [State.raise, State.record_of_given (s.bump ix sub 1) src inst detail hgiven, State.capFault_lookout]
    rfl
  case first =>
    intro hnew
    rw [State.raise, State.record_of_not_given (s.bump ix sub 1) src inst detail hnew]
    refine ⟨?_, fun hroom => ?_⟩
    · rw [State.offer_given]; exact List.mem_cons_self
    · exact State.offer_queue_length _ _ _ _ hroom

end Sys2Proof.Machine

/-! SUPPORT. What a change of the state leaves alone, as one relation: outside the chosen fields two states are equal, and outside the
chosen objects the numeric objects read the same. It is an equivalence, so an operation that stays within the choice can be taken
off the end of a chain of operations; each lemma `frame_<operation>` says so of one operation, as a rewriting rule. -/

namespace Sys2Proof.Machine

/-- A choice of fields of the state. -/
structure Fields where
  (regs : Bool := false) (blobs : Bool := false) (time : Bool := false) (mmp : Bool := false) (lookout : Bool := false)
  (doms : Bool := false) (partEA : Bool := false) (gradeI : Bool := false) (breakout : Bool := false)
  (breakoutRun : Bool := false) (savedRegs : Bool := false) (savedBlobs : Bool := false) (hk : Bool := false)
  (tx : Bool := false) (adc : Bool := false) (rxsynth : Bool := false) (rx : Bool := false) (eng : Bool := false)
  (outerLane : Bool := false) (outerPort : Bool := false) (tic : Bool := false) (pool : Bool := false) (cwCount : Bool := false)
  (link : Bool := false) (ds : Bool := false) (hostLane : Bool := false) (hostInst : Bool := false) (hostSkew : Bool := false)
  (port : Bool := false) (srch : Bool := false) (test : Bool := false) (service : Bool := false) (fabric : Bool := false)
  (avs : Bool := false) (therm : Bool := false) (start : Bool := false) (tap : Bool := false) (mem : Bool := false)
  (capLost : Bool := false) (cap : Bool := false) (fuse : Bool := false) (analog : Bool := false) (flash : Bool := false)
  (upd : Bool := false) (freeCount : Bool := false) (pending : Bool := false)

/-- The chosen fields of one state, the others of another. -/
def State.graft (F : Fields) (s t : State) : State where
  regs := bif F.regs then t.regs else s.regs
  blobs := bif F.blobs then t.blobs else s.blobs
  time := bif F.time then t.time else s.time
  mmp := bif F.mmp then t.mmp else s.mmp
  lookout := bif F.lookout then t.lookout else s.lookout
  doms := bif F.doms then t.doms else s.doms
  partEA := bif F.partEA then t.partEA else s.partEA
  gradeI := bif F.gradeI then t.gradeI else s.gradeI
  breakout := bif F.breakout then t.breakout else s.breakout
  breakoutRun := bif F.breakoutRun then t.breakoutRun else s.breakoutRun
  savedRegs := bif F.savedRegs then t.savedRegs else s.savedRegs
  savedBlobs := bif F.savedBlobs then t.savedBlobs else s.savedBlobs
  hk := bif F.hk then t.hk else s.hk
  tx := bif F.tx then t.tx else s.tx
  adc := bif F.adc then t.adc else s.adc
  rxsynth := bif F.rxsynth then t.rxsynth else s.rxsynth
  rx := bif F.rx then t.rx else s.rx
  eng := bif F.eng then t.eng else s.eng
  outerLane := bif F.outerLane then t.outerLane else s.outerLane
  outerPort := bif F.outerPort then t.outerPort else s.outerPort
  tic := bif F.tic then t.tic else s.tic
  pool := bif F.pool then t.pool else s.pool
  cwCount := bif F.cwCount then t.cwCount else s.cwCount
  link := bif F.link then t.link else s.link
  ds := bif F.ds then t.ds else s.ds
  hostLane := bif F.hostLane then t.hostLane else s.hostLane
  hostInst := bif F.hostInst then t.hostInst else s.hostInst
  hostSkew := bif F.hostSkew then t.hostSkew else s.hostSkew
  port := bif F.port then t.port else s.port
  srch := bif F.srch then t.srch else s.srch
  test := bif F.test then t.test else s.test
  service := bif F.service then t.service else s.service
  fabric := bif F.fabric then t.fabric else s.fabric
  avs := bif F.avs then t.avs else s.avs
  therm := bif F.therm then t.therm else s.therm
  start := bif F.start then t.start else s.start
  tap := bif F.tap then t.tap else s.tap
  mem := bif F.mem then t.mem else s.mem
  capLost := bif F.capLost then t.capLost else s.capLost
  cap := bif F.cap then t.cap else s.cap
  fuse := bif F.fuse then t.fuse else s.fuse
  analog := bif F.analog then t.analog else s.analog
  flash := bif F.flash then t.flash else s.flash
  upd := bif F.upd then t.upd else s.upd
  freeCount := bif F.freeCount then t.freeCount else s.freeCount
  pending := bif F.pending then t.pending else s.pending

/-- Outside the chosen fields `t` is `s`, and outside the chosen objects its numeric objects read as in `s`. -/
structure Frame (F : Fields) (P : Nat → Nat → Prop) (s t : State) : Prop where
  fields : t = s.graft F t
  regs : KeepsRegs P s t

section
variable {F : Fields} {P : Nat → Nat → Prop} {s t u : State}

theorem cond_self_right {α : Type} (b : Bool) (x y z : α) : (bif b then x else bif b then y else z) = bif b then x else z := by
  cases b <;> rfl

theorem State.graft_self : s.graft F s = s := by
  simp only [State.graft, Bool.cond_self]

theorem State.graft_graft : (s.graft F t).graft F u = s.graft F u := by
  simp only [State.graft, cond_self_right]

@[simp] theorem Frame.refl : Frame F P s s := ⟨State.graft_self.symm, fun _ _ _ _ => rfl⟩

theorem Frame.symm (h : Frame F P s t) : Frame F P t s where
  fields := by rw [h.fields, State.graft_graft, State.graft_self]
  regs := fun ix sub hsub hfree => (h.regs ix sub hsub hfree).symm

theorem Frame.trans (h : Frame F P s t) (h2 : Frame F P t u) : Frame F P s u where
  fields := by
    calc u = t.graft F u := h2.fields
      _ = (s.graft F t).graft F u := by rw [← h.fields]
      _ = s.graft F u := State.graft_graft
  regs := fun ix sub hsub hfree => (h2.regs ix sub hsub hfree).trans (h.regs ix sub hsub hfree)

/-- A step within the frame can be taken off the end of a chain. -/
theorem Frame.iff (h : Frame F P t u) : Frame F P s u ↔ Frame F P s t :=
  ⟨fun hu => hu.trans h.symm, fun ht => ht.trans h⟩

/-- Only the choice of objects that the numeric objects need matters. -/
theorem Frame.mono {Q : Nat → Nat → Prop} (h : Frame F P s t) (hPQ : ∀ ix sub, P ix sub → Q ix sub) : Frame F Q s t :=
  ⟨h.fields, fun ix sub hsub hfree => h.regs ix sub hsub fun hP => hfree (hPQ ix sub hP)⟩

/-- A reading that no chosen field enters is the same; for fields written out the condition holds by `rfl`. -/
theorem Frame.view {α : Type} (h : Frame F P s t) (v : State → α) (hv : ∀ a b : State, v (a.graft F b) = v a) : v t = v s :=
  (congrArg v h.fields).trans (hv s t)

/-- A frame of fewer fields and objects is one of more: for fields written out their inclusion holds by `rfl`. -/
theorem Frame.widen {G : Fields} {Q : Nat → Nat → Prop} (h : Frame F P s t) (hle : ∀ v w : State, v.graft F w = v.graft G (v.graft F w))
    (hPQ : ∀ ix sub, P ix sub → Q ix sub) : Frame G Q s t where
  fields := by
    calc t = s.graft F t := h.fields
      _ = s.graft G (s.graft F t) := hle s t
      _ = s.graft G t := by rw [← h.fields]
  regs := fun ix sub hsub hfree => h.regs ix sub hsub fun hP => hfree (hPQ ix sub hP)

@[simp] theorem frame_ite {c : Prop} [Decidable c] : Frame F P s (if c then t else u) ↔ if c then Frame F P s t else Frame F P s u := by
  split <;> rfl

theorem frame_forEach {α : Type} {l : List α} {f : α → State → State} (h : ∀ a ∈ l, ∀ t, Frame F P t (f a t)) :
    Frame F P s (forEach l f t) ↔ Frame F P s t := by
  refine Frame.iff ?_
  unfold forEach
  induction l generalizing t with
  | nil => exact Frame.refl
  | cons a l ih =>
    exact (h a List.mem_cons_self t).trans (ih fun b hb => h b (List.mem_cons_of_mem a hb))

/-! ## One field -/

theorem frame_with_blobs {x} (h : F.blobs = true) : Frame F P s { t with blobs := x } ↔ Frame F P s t :=
  Frame.iff ⟨by simp only [State.graft, h, Bool.cond_self, cond_true], fun _ _ _ _ => rfl⟩
theorem frame_with_time {x} (h : F.time = true) : Frame F P s { t with time := x } ↔ Frame F P s t :=
  Frame.iff ⟨by simp only [State.graft, h, Bool.cond_self, cond_true], fun _ _ _ _ => rfl⟩
theorem frame_with_mmp {x} (h : F.mmp = true) : Frame F P s { t with mmp := x } ↔ Frame F P s t :=
  Frame.iff ⟨by simp only [State.graft, h, Bool.cond_self, cond_true], fun _ _ _ _ => rfl⟩
theorem frame_with_lookout {x} (h : F.lookout = true) : Frame F P s { t with lookout := x } ↔ Frame F P s t :=
  Frame.iff ⟨by simp only [State.graft, h, Bool.cond_self, cond_true], fun _ _ _ _ => rfl⟩
theorem frame_with_doms {x} (h : F.doms = true) : Frame F P s { t with doms := x } ↔ Frame F P s t :=
  Frame.iff ⟨by simp only [State.graft, h, Bool.cond_self, cond_true], fun _ _ _ _ => rfl⟩
theorem frame_with_partEA {x} (h : F.partEA = true) : Frame F P s { t with partEA := x } ↔ Frame F P s t :=
  Frame.iff ⟨by simp only [State.graft, h, Bool.cond_self, cond_true], fun _ _ _ _ => rfl⟩
theorem frame_with_gradeI {x} (h : F.gradeI = true) : Frame F P s { t with gradeI := x } ↔ Frame F P s t :=
  Frame.iff ⟨by simp only [State.graft, h, Bool.cond_self, cond_true], fun _ _ _ _ => rfl⟩
theorem frame_with_breakout {x} (h : F.breakout = true) : Frame F P s { t with breakout := x } ↔ Frame F P s t :=
  Frame.iff ⟨by simp only [State.graft, h, Bool.cond_self, cond_true], fun _ _ _ _ => rfl⟩
theorem frame_with_breakoutRun {x} (h : F.breakoutRun = true) : Frame F P s { t with breakoutRun := x } ↔ Frame F P s t :=
  Frame.iff ⟨by simp only [State.graft, h, Bool.cond_self, cond_true], fun _ _ _ _ => rfl⟩
theorem frame_with_savedRegs {x} (h : F.savedRegs = true) : Frame F P s { t with savedRegs := x } ↔ Frame F P s t :=
  Frame.iff ⟨by simp only [State.graft, h, Bool.cond_self, cond_true], fun _ _ _ _ => rfl⟩
theorem frame_with_savedBlobs {x} (h : F.savedBlobs = true) : Frame F P s { t with savedBlobs := x } ↔ Frame F P s t :=
  Frame.iff ⟨by simp only [State.graft, h, Bool.cond_self, cond_true], fun _ _ _ _ => rfl⟩
theorem frame_with_hk {x} (h : F.hk = true) : Frame F P s { t with hk := x } ↔ Frame F P s t :=
  Frame.iff ⟨by simp only [State.graft, h, Bool.cond_self, cond_true], fun _ _ _ _ => rfl⟩
theorem frame_with_tx {x} (h : F.tx = true) : Frame F P s { t with tx := x } ↔ Frame F P s t :=
  Frame.iff ⟨by simp only [State.graft, h, Bool.cond_self, cond_true], fun _ _ _ _ => rfl⟩
theorem frame_with_adc {x} (h : F.adc = true) : Frame F P s { t with adc := x } ↔ Frame F P s t :=
  Frame.iff ⟨by simp only [State.graft, h, Bool.cond_self, cond_true], fun _ _ _ _ => rfl⟩
theorem frame_with_rxsynth {x} (h : F.rxsynth = true) : Frame F P s { t with rxsynth := x } ↔ Frame F P s t :=
  Frame.iff ⟨by simp only [State.graft, h, Bool.cond_self, cond_true], fun _ _ _ _ => rfl⟩
theorem frame_with_rx {x} (h : F.rx = true) : Frame F P s { t with rx := x } ↔ Frame F P s t :=
  Frame.iff ⟨by simp only [State.graft, h, Bool.cond_self, cond_true], fun _ _ _ _ => rfl⟩
theorem frame_with_eng {x} (h : F.eng = true) : Frame F P s { t with eng := x } ↔ Frame F P s t :=
  Frame.iff ⟨by simp only [State.graft, h, Bool.cond_self, cond_true], fun _ _ _ _ => rfl⟩
theorem frame_with_outerLane {x} (h : F.outerLane = true) : Frame F P s { t with outerLane := x } ↔ Frame F P s t :=
  Frame.iff ⟨by simp only [State.graft, h, Bool.cond_self, cond_true], fun _ _ _ _ => rfl⟩
theorem frame_with_outerPort {x} (h : F.outerPort = true) : Frame F P s { t with outerPort := x } ↔ Frame F P s t :=
  Frame.iff ⟨by simp only [State.graft, h, Bool.cond_self, cond_true], fun _ _ _ _ => rfl⟩
theorem frame_with_tic {x} (h : F.tic = true) : Frame F P s { t with tic := x } ↔ Frame F P s t :=
  Frame.iff ⟨by simp only [State.graft, h, Bool.cond_self, cond_true], fun _ _ _ _ => rfl⟩
theorem frame_with_pool {x} (h : F.pool = true) : Frame F P s { t with pool := x } ↔ Frame F P s t :=
  Frame.iff ⟨by simp only [State.graft, h, Bool.cond_self, cond_true], fun _ _ _ _ => rfl⟩
theorem frame_with_cwCount {x} (h : F.cwCount = true) : Frame F P s { t with cwCount := x } ↔ Frame F P s t :=
  Frame.iff ⟨by simp only [State.graft, h, Bool.cond_self, cond_true], fun _ _ _ _ => rfl⟩
theorem frame_with_link {x} (h : F.link = true) : Frame F P s { t with link := x } ↔ Frame F P s t :=
  Frame.iff ⟨by simp only [State.graft, h, Bool.cond_self, cond_true], fun _ _ _ _ => rfl⟩
theorem frame_with_ds {x} (h : F.ds = true) : Frame F P s { t with ds := x } ↔ Frame F P s t :=
  Frame.iff ⟨by simp only [State.graft, h, Bool.cond_self, cond_true], fun _ _ _ _ => rfl⟩
theorem frame_with_hostLane {x} (h : F.hostLane = true) : Frame F P s { t with hostLane := x } ↔ Frame F P s t :=
  Frame.iff ⟨by simp only [State.graft, h, Bool.cond_self, cond_true], fun _ _ _ _ => rfl⟩
theorem frame_with_hostInst {x} (h : F.hostInst = true) : Frame F P s { t with hostInst := x } ↔ Frame F P s t :=
  Frame.iff ⟨by simp only [State.graft, h, Bool.cond_self, cond_true], fun _ _ _ _ => rfl⟩
theorem frame_with_hostSkew {x} (h : F.hostSkew = true) : Frame F P s { t with hostSkew := x } ↔ Frame F P s t :=
  Frame.iff ⟨by simp only [State.graft, h, Bool.cond_self, cond_true], fun _ _ _ _ => rfl⟩
theorem frame_with_port {x} (h : F.port = true) : Frame F P s { t with port := x } ↔ Frame F P s t :=
  Frame.iff ⟨by simp only [State.graft, h, Bool.cond_self, cond_true], fun _ _ _ _ => rfl⟩
theorem frame_with_srch {x} (h : F.srch = true) : Frame F P s { t with srch := x } ↔ Frame F P s t :=
  Frame.iff ⟨by simp only [State.graft, h, Bool.cond_self, cond_true], fun _ _ _ _ => rfl⟩
theorem frame_with_test {x} (h : F.test = true) : Frame F P s { t with test := x } ↔ Frame F P s t :=
  Frame.iff ⟨by simp only [State.graft, h, Bool.cond_self, cond_true], fun _ _ _ _ => rfl⟩
theorem frame_with_service {x} (h : F.service = true) : Frame F P s { t with service := x } ↔ Frame F P s t :=
  Frame.iff ⟨by simp only [State.graft, h, Bool.cond_self, cond_true], fun _ _ _ _ => rfl⟩
theorem frame_with_fabric {x} (h : F.fabric = true) : Frame F P s { t with fabric := x } ↔ Frame F P s t :=
  Frame.iff ⟨by simp only [State.graft, h, Bool.cond_self, cond_true], fun _ _ _ _ => rfl⟩
theorem frame_with_avs {x} (h : F.avs = true) : Frame F P s { t with avs := x } ↔ Frame F P s t :=
  Frame.iff ⟨by simp only [State.graft, h, Bool.cond_self, cond_true], fun _ _ _ _ => rfl⟩
theorem frame_with_therm {x} (h : F.therm = true) : Frame F P s { t with therm := x } ↔ Frame F P s t :=
  Frame.iff ⟨by simp only [State.graft, h, Bool.cond_self, cond_true], fun _ _ _ _ => rfl⟩
theorem frame_with_start {x} (h : F.start = true) : Frame F P s { t with start := x } ↔ Frame F P s t :=
  Frame.iff ⟨by simp only [State.graft, h, Bool.cond_self, cond_true], fun _ _ _ _ => rfl⟩
theorem frame_with_tap {x} (h : F.tap = true) : Frame F P s { t with tap := x } ↔ Frame F P s t :=
  Frame.iff ⟨by simp only [State.graft, h, Bool.cond_self, cond_true], fun _ _ _ _ => rfl⟩
theorem frame_with_mem {x} (h : F.mem = true) : Frame F P s { t with mem := x } ↔ Frame F P s t :=
  Frame.iff ⟨by simp only [State.graft, h, Bool.cond_self, cond_true], fun _ _ _ _ => rfl⟩
theorem frame_with_capLost {x} (h : F.capLost = true) : Frame F P s { t with capLost := x } ↔ Frame F P s t :=
  Frame.iff ⟨by simp only [State.graft, h, Bool.cond_self, cond_true], fun _ _ _ _ => rfl⟩
theorem frame_with_cap {x} (h : F.cap = true) : Frame F P s { t with cap := x } ↔ Frame F P s t :=
  Frame.iff ⟨by simp only [State.graft, h, Bool.cond_self, cond_true], fun _ _ _ _ => rfl⟩
theorem frame_with_fuse {x} (h : F.fuse = true) : Frame F P s { t with fuse := x } ↔ Frame F P s t :=
  Frame.iff ⟨by simp only [State.graft, h, Bool.cond_self, cond_true], fun _ _ _ _ => rfl⟩
theorem frame_with_analog {x} (h : F.analog = true) : Frame F P s { t with analog := x } ↔ Frame F P s t :=
  Frame.iff ⟨by simp only [State.graft, h, Bool.cond_self, cond_true], fun _ _ _ _ => rfl⟩
theorem frame_with_flash {x} (h : F.flash = true) : Frame F P s { t with flash := x } ↔ Frame F P s t :=
  Frame.iff ⟨by simp only [State.graft, h, Bool.cond_self, cond_true], fun _ _ _ _ => rfl⟩
theorem frame_with_upd {x} (h : F.upd = true) : Frame F P s { t with upd := x } ↔ Frame F P s t :=
  Frame.iff ⟨by simp only [State.graft, h, Bool.cond_self, cond_true], fun _ _ _ _ => rfl⟩
theorem frame_with_freeCount {x} (h : F.freeCount = true) : Frame F P s { t with freeCount := x } ↔ Frame F P s t :=
  Frame.iff ⟨by simp only [State.graft, h, Bool.cond_self, cond_true], fun _ _ _ _ => rfl⟩
theorem frame_with_pending {x} (h : F.pending = true) : Frame F P s { t with pending := x } ↔ Frame F P s t :=
  Frame.iff ⟨by simp only [State.graft, h, Bool.cond_self, cond_true], fun _ _ _ _ => rfl⟩

/-! ## The shared operations -/

@[simp] theorem frame_modTp {p : Path} {f : Transport → Transport} (h' : F.mmp = true) :
    Frame F P s (t.modTp p f) ↔ Frame F P s t := frame_with_mmp h'
@[simp] theorem frame_modFwd {p : Fin 8} {f : List Forward → List Forward} (h' : F.mmp = true) :
    Frame F P s (t.modFwd p f) ↔ Frame F P s t := frame_with_mmp h'
@[simp] theorem frame_modDom {d : Fin 36} {f : Domain → Domain} (h' : F.doms = true) :
    Frame F P s (t.modDom d f) ↔ Frame F P s t := frame_with_doms h'
@[simp] theorem frame_modEng {e : Fin 128} {f : Engine → Engine} (h' : F.eng = true) :
    Frame F P s (t.modEng e f) ↔ Frame F P s t := frame_with_eng h'
@[simp] theorem frame_modAdcLane {l : Fin 8} {f : AdcLane → AdcLane} (h' : F.adc = true) :
    Frame F P s (t.modAdcLane l f) ↔ Frame F P s t := frame_with_adc h'
@[simp] theorem frame_modSynth {h : Fin 2} {f : RxSynth → RxSynth} (h' : F.rxsynth = true) :
    Frame F P s (t.modSynth h f) ↔ Frame F P s t := frame_with_rxsynth h'
@[simp] theorem frame_modInst {i : Fin 8} {f : HostInst → HostInst} (h' : F.hostInst = true) :
    Frame F P s (t.modInst i f) ↔ Frame F P s t := frame_with_hostInst h'
@[simp] theorem frame_modHostLane {h : Fin 16} {f : HostLane → HostLane} (h' : F.hostLane = true) :
    Frame F P s (t.modHostLane h f) ↔ Frame F P s t := frame_with_hostLane h'
@[simp] theorem frame_modRx {l : Fin 8} {f : RxLane → RxLane} (h' : F.rx = true) :
    Frame F P s (t.modRx l f) ↔ Frame F P s t := frame_with_rx h'
@[simp] theorem frame_modDsp {l : Fin 8} {f : Dsp → Dsp} (h' : F.rx = true) :
    Frame F P s (t.modDsp l f) ↔ Frame F P s t := frame_with_rx h'
@[simp] theorem frame_modConv {c : Fin 4} {f : HkConv → HkConv} (h' : F.hk = true) :
    Frame F P s (t.modConv c f) ↔ Frame F P s t := frame_with_hk h'
@[simp] theorem frame_modChan {k : Fin 16} {f : HkChan → HkChan} (h' : F.hk = true) :
    Frame F P s (t.modChan k f) ↔ Frame F P s t := frame_with_hk h'
@[simp] theorem frame_modAdac {k : Fin 16} {f : Adac → Adac} (h' : F.hk = true) :
    Frame F P s (t.modAdac k f) ↔ Frame F P s t := frame_with_hk h'
@[simp] theorem frame_modPwm {i : Fin 4} {f : Pwm → Pwm} (h' : F.hk = true) :
    Frame F P s (t.modPwm i f) ↔ Frame F P s t := frame_with_hk h'
@[simp] theorem frame_modTx {l : Fin 8} {f : TxLane → TxLane} (h' : F.tx = true) :
    Frame F P s (t.modTx l f) ↔ Frame F P s t := frame_with_tx h'
@[simp] theorem frame_modTic {l : Fin 8} {f : TicLane → TicLane} (h' : F.tic = true) :
    Frame F P s (t.modTic l f) ↔ Frame F P s t := frame_with_tic h'
@[simp] theorem frame_modPool {h : Fin 2} {f : TicHalf → TicHalf} (h' : F.pool = true) :
    Frame F P s (t.modPool h f) ↔ Frame F P s t := frame_with_pool h'
@[simp] theorem frame_modTest {p : Fin 8} {f : TestPort → TestPort} (h' : F.test = true) :
    Frame F P s (t.modTest p f) ↔ Frame F P s t := frame_with_test h'
@[simp] theorem frame_modCw {l : Fin 8} {order : Nat} {f : Codeword → Codeword} (h' : F.tic = true) :
    Frame F P s (t.modCw l order f) ↔ Frame F P s t := frame_with_tic h'
@[simp] theorem frame_modOuterLane {l : Fin 8} {f : OuterLane → OuterLane} (h' : F.outerLane = true) :
    Frame F P s (t.modOuterLane l f) ↔ Frame F P s t := frame_with_outerLane h'
@[simp] theorem frame_modOuterPort {p : Fin 8} {f : OuterPort → OuterPort} (h' : F.outerPort = true) :
    Frame F P s (t.modOuterPort p f) ↔ Frame F P s t := frame_with_outerPort h'
@[simp] theorem frame_modPort {p : Fin 8} {f : PortCtl → PortCtl} (h' : F.port = true) :
    Frame F P s (t.modPort p f) ↔ Frame F P s t := frame_with_port h'
@[simp] theorem frame_modLink {p : Fin 8} {f : LinkPort → LinkPort} (h' : F.link = true) :
    Frame F P s (t.modLink p f) ↔ Frame F P s t := frame_with_link h'
@[simp] theorem frame_modSrch {l : Fin 8} {f : SearchLane → SearchLane} (h' : F.srch = true) :
    Frame F P s (t.modSrch l f) ↔ Frame F P s t := frame_with_srch h'
@[simp] theorem frame_modTxFrame {p : Fin 8} {seq : Nat} {f : TxFrame → TxFrame} (h' : F.link = true) :
    Frame F P s (t.modTxFrame p seq f) ↔ Frame F P s t := frame_with_link h'
@[simp] theorem frame_modDs {f : DeepStore → DeepStore} (h' : F.ds = true) :
    Frame F P s (t.modDs f) ↔ Frame F P s t := frame_with_ds h'
@[simp] theorem frame_modAnalog {f : AnalogRun → AnalogRun} (h' : F.analog = true) :
    Frame F P s (t.modAnalog f) ↔ Frame F P s t := frame_with_analog h'
@[simp] theorem frame_modFab {f : Fabric → Fabric} (h' : F.fabric = true) :
    Frame F P s (t.modFab f) ↔ Frame F P s t := frame_with_fabric h'
@[simp] theorem frame_modFabLane {l : Fin 8} {f : FabLane → FabLane} (h' : F.fabric = true) :
    Frame F P s (t.modFabLane l f) ↔ Frame F P s t := frame_with_fabric h'
@[simp] theorem frame_modTherm {f : Thermal → Thermal} (h' : F.therm = true) :
    Frame F P s (t.modTherm f) ↔ Frame F P s t := frame_with_therm h'
@[simp] theorem frame_modUpd {f : Update → Update} (h' : F.upd = true) :
    Frame F P s (t.modUpd f) ↔ Frame F P s t := frame_with_upd h'
@[simp] theorem frame_modMem {g : Fin 44} {f : MemGroup → MemGroup} (h' : F.mem = true) :
    Frame F P s (t.modMem g f) ↔ Frame F P s t := frame_with_mem h'
@[simp] theorem frame_modTap {f : Tap → Tap} (h' : F.tap = true) :
    Frame F P s (t.modTap f) ↔ Frame F P s t := frame_with_tap h'

@[simp] theorem frame_setBlob {ix sub : Nat} {v : List Byte} (h : F.blobs = true) : Frame F P s (t.setBlob ix sub v) ↔ Frame F P s t :=
  frame_with_blobs h

@[simp] theorem fin_succ_lt_256 {n : Nat} (l : Fin n) (h : n < 256) : l.val + 1 < 256 := by omega

@[simp] theorem fin8_succ_lt_256 (l : Fin 8) : l.val + 1 < 256 := by omega
@[simp] theorem fin16_succ_lt_256 (l : Fin 16) : l.val + 1 < 256 := by omega
@[simp] theorem fin36_succ_lt_256 (l : Fin 36) : l.val + 1 < 256 := by omega
@[simp] theorem fin128_succ_lt_256 (l : Fin 128) : l.val + 1 < 256 := by omega

@[simp] theorem frame_setReg {ix sub : Nat} {v : Int} (h : F.regs = true) (hsub : sub < 256) (hP : P ix sub) :
    Frame F P s (t.setReg ix sub v) ↔ Frame F P s t := by
  refine Frame.iff ⟨by simp only [State.setReg, State.graft, h, Bool.cond_self, cond_true], fun jx js hjs hfree => ?_⟩
  rw [State.reg_setReg _ _ _ _ _ _ hsub hjs, if_neg]
  rintro ⟨rfl, rfl⟩
  exact hfree hP

section
variable {ix sub n : Nat} (h : F.regs = true) (hsub : sub < 256) (hP : P ix sub)
include h hsub hP

@[simp] theorem frame_bumpTo {m : Nat} : Frame F P s (t.bumpTo m ix sub n) ↔ Frame F P s t := frame_setReg h hsub hP
@[simp] theorem frame_bump : Frame F P s (t.bump ix sub n) ↔ Frame F P s t := frame_setReg h hsub hP
@[simp] theorem frame_bump64 : Frame F P s (t.bump64 ix sub n) ↔ Frame F P s t := frame_setReg h hsub hP
@[simp] theorem frame_bump8 : Frame F P s (t.bump8 ix sub n) ↔ Frame F P s t := frame_setReg h hsub hP
@[simp] theorem frame_setStamp : Frame F P s (t.setStamp ix sub) ↔ Frame F P s t := frame_setReg h hsub hP

end

/-! ## Events -/

/-- The choice of objects allows what an event can write (R332, R458). -/
def AllowsEvents (P : Nat → Nat → Prop) : Prop := ∀ ix sub, EventObj ix sub → P ix sub

@[simp] theorem allowsEvents_true : AllowsEvents fun _ _ => True := fun _ _ _ => trivial

@[simp] theorem allowsEvents_self : AllowsEvents EventObj := fun _ _ h => h

@[simp] theorem allowsEvents_right {A : Nat → Nat → Prop} : AllowsEvents (fun ix sub => A ix sub ∨ EventObj ix sub) :=
  fun _ _ h => .inr h

@[simp] theorem allowsEvents_third {A B : Nat → Nat → Prop} : AllowsEvents (fun ix sub => A ix sub ∨ B ix sub ∨ EventObj ix sub) :=
  fun _ _ h => .inr (.inr h)

@[simp] theorem allowsEvents_fourth {A B C : Nat → Nat → Prop} :
    AllowsEvents (fun ix sub => A ix sub ∨ B ix sub ∨ C ix sub ∨ EventObj ix sub) :=
  fun _ _ h => .inr (.inr (.inr h))

section
variable {src inst detail ix sub : Nat} (hregs : F.regs = true) (hlookout : F.lookout = true) (hcap : F.cap = true)
  (hevents : AllowsEvents P)
include hregs hlookout hcap hevents

@[simp] theorem frame_capFault : Frame F P s (t.capFault src) ↔ Frame F P s t := by
  refine Frame.iff ⟨?_, fun jx js hjs hfree => State.capFault_reg _ _ _ _ hjs fun h => hfree (hevents _ _ h)⟩
  conv_lhs => rw [State.capFault_eq]
  rw [State.capFault_eq]
  simp only [State.graft, hregs, hcap, Bool.cond_self, cond_true]

@[simp] theorem frame_record : Frame F P s (t.record src inst detail) ↔ Frame F P s t := by
  refine Frame.iff ⟨?_, fun jx js hjs hfree => State.record_reg _ _ _ _ _ _ hjs fun h => hfree (hevents _ _ h)⟩
  conv_lhs => rw [State.record_eq]
  rw [State.record_eq]
  simp only [State.graft, hregs, hlookout, hcap, Bool.cond_self, cond_true]

@[simp] theorem frame_raiseFree : Frame F P s (t.raiseFree src detail) ↔ Frame F P s t := by
  refine Frame.iff ⟨?_, fun jx js hjs hfree => State.raiseFree_reg _ _ _ _ _ hjs fun h => hfree (hevents _ _ h)⟩
  conv_lhs => rw [State.raiseFree_eq]
  rw [State.raiseFree_eq]
  simp only [State.graft, hregs, hlookout, hcap, Bool.cond_self, cond_true]

@[simp] theorem frame_raise (hsub : sub < 256) (hP : P ix sub) : Frame F P s (t.raise src inst detail ix sub) ↔ Frame F P s t := by
  unfold State.raise
  rw [frame_record hregs hlookout hcap hevents, frame_bump hregs hsub hP]

end

/-! ## Requests -/

@[simp] theorem frame_pushReply {p : Path} {f : List Byte} (h : F.mmp = true) : Frame F P s (t.pushReply p f) ↔ Frame F P s t :=
  frame_with_mmp h

@[simp] theorem frame_reply {r : Req} {op : Opcode} {ix sub st : Nat} {out : List Byte} (h : F.mmp = true) :
    Frame F P s (t.reply r op ix sub st out) ↔ Frame F P s t := by
  rw [State.reply_eq]
  exact frame_with_mmp h

@[simp] theorem frame_pendAdd {q : PendingReply} (h : F.mmp = true) : Frame F P s (t.pendAdd q) ↔ Frame F P s t := frame_with_mmp h

@[simp] theorem frame_finish {ix sub st : Nat} (h : F.mmp = true) : Frame F P s (t.finish ix sub st) ↔ Frame F P s t := by
  unfold State.finish
  rw [frame_forEach fun q _ t => by simp only [frame_reply h, Frame.refl]]
  exact frame_with_mmp h

@[simp] theorem frame_arrive {p : Path} {f : List Byte} (hregs : F.regs = true) (hmmp : F.mmp = true)
    (hP : ∀ js, P Ob.MMP_RX_FRAMES js) : Frame F P s (t.arrive p f) ↔ Frame F P s t := by
  refine Frame.iff ⟨?_, fun jx js hjs hfree => State.arrive_reg _ _ _ _ _ hjs fun h => hfree (h ▸ hP js)⟩
  conv_lhs => rw [State.arrive_eq]
  rw [State.arrive_eq]
  simp only [State.graft, hregs, hmmp, Bool.cond_self, cond_true]

@[simp] theorem frame_taken {r : Req} {op : Opcode} {ix sub : Nat} {pl : List Byte} (hregs : F.regs = true) (hmmp : F.mmp = true)
    (hP : ∀ js, P Ob.MMP_RX_FRAMES js) : Frame F P s (t.taken r op ix sub pl) ↔ Frame F P s t := by
  unfold State.taken
  simp only [frame_ite, frame_modTp hmmp, frame_arrive hregs hmmp hP, ite_self]

@[simp] theorem frame_orderChip {cause : Nat} (h : F.lookout = true) : Frame F P s (t.orderChip cause) ↔ Frame F P s t :=
  frame_with_lookout h

/-! ## State objects -/

section
variable {v : Int} (h : F.regs = true)
include h

@[simp] theorem frame_setTl {l : Fin 8} (hP : P Ob.LINE_TL_STATE (l.val + 1)) : Frame F P s (t.setTl l v) ↔ Frame F P s t :=
  frame_setReg h (fin_succ_lt_256 l (by decide)) hP

@[simp] theorem frame_setEq {l : Fin 8} (hP : P Ob.LINE_EQ_STATE (l.val + 1)) : Frame F P s (t.setEq l v) ↔ Frame F P s t :=
  frame_setReg h (fin_succ_lt_256 l (by decide)) hP

@[simp] theorem frame_setHost {k : Fin 16} (hP : P Ob.HOST_LANE_STATE (k.val + 1)) : Frame F P s (t.setHost k v) ↔ Frame F P s t :=
  frame_setReg h (fin_succ_lt_256 k (by decide)) hP

end

/-! ## States written out -/

@[simp] theorem Store.get_put_objKey {a : Store Int} {ix sub jx js : Nat} {v : Int} (hsub : sub < 256) (hjs : js < 256) :
    Store.get regDefault (a.put regDefault (objKey ix sub) v) (objKey jx js) =
      if ix = jx ∧ sub = js then v else Store.get regDefault a (objKey jx js) := by
  split
  · rename_i h
    rw [h.1, h.2, Store.get_put_self]
  · rename_i h
    exact Store.get_put_ne _ _ _ _ _ fun e => h ((objKey_inj hsub hjs).mp e)

/-- A store of numeric objects against another: the same outside the chosen objects, and the same store where the field is not chosen. -/
structure RegsKept (F : Fields) (P : Nat → Nat → Prop) (a b : Store Int) : Prop where
  field : F.regs = true ∨ b = a
  kept : ∀ ix sub, sub < 256 → ¬ P ix sub → Store.get regDefault b (objKey ix sub) = Store.get regDefault a (objKey ix sub)

@[simp] theorem regsKept_self {a : Store Int} : RegsKept F P a a := ⟨.inr rfl, fun _ _ _ _ => rfl⟩

@[simp] theorem regsKept_put {a b : Store Int} {ix sub : Nat} {v : Int} (h : F.regs = true) (hsub : sub < 256) (hP : P ix sub) :
    RegsKept F P a (b.put regDefault (objKey ix sub) v) ↔ RegsKept F P a b := by
  have key : ∀ jx js, js < 256 → ¬ P jx js →
      Store.get regDefault (b.put regDefault (objKey ix sub) v) (objKey jx js) = Store.get regDefault b (objKey jx js) := by
    intro jx js hjs hfree
    rw [Store.get_put_objKey hsub hjs, if_neg]
    rintro ⟨rfl, rfl⟩
    exact hfree hP
  exact ⟨fun hk => ⟨.inl h, fun jx js hjs hfree => (key jx js hjs hfree).symm.trans (hk.kept jx js hjs hfree)⟩,
    fun hk => ⟨.inl h, fun jx js hjs hfree => (key jx js hjs hfree).trans (hk.kept jx js hjs hfree)⟩⟩

theorem eq_cond_iff {α : Type} {b : Bool} {x y : α} : x = (bif b then x else y) ↔ b = true ∨ x = y := by
  cases b <;> simp

/-- A frame of a state written out, field by field. -/
@[simp] theorem frame_mk
    {x_regs x_blobs x_time x_mmp x_lookout x_doms x_partEA x_gradeI x_breakout x_breakoutRun x_savedRegs x_savedBlobs x_hk x_tx
    x_adc x_rxsynth x_rx x_eng x_outerLane x_outerPort x_tic x_pool x_cwCount x_link x_ds x_hostLane x_hostInst x_hostSkew
    x_port x_srch x_test x_service x_fabric x_avs x_therm x_start x_tap x_mem x_capLost x_cap x_fuse x_analog x_flash x_upd
    x_freeCount x_pending} :
    Frame F P s (State.mk
      x_regs x_blobs x_time x_mmp x_lookout x_doms x_partEA x_gradeI x_breakout x_breakoutRun x_savedRegs x_savedBlobs x_hk
      x_tx x_adc x_rxsynth x_rx x_eng x_outerLane x_outerPort x_tic x_pool x_cwCount x_link x_ds x_hostLane x_hostInst
      x_hostSkew x_port x_srch x_test x_service x_fabric x_avs x_therm x_start x_tap x_mem x_capLost x_cap x_fuse x_analog
      x_flash x_upd x_freeCount x_pending) ↔
      RegsKept F P s.regs x_regs
      ∧ (F.blobs = true ∨ x_blobs = s.blobs) ∧ (F.time = true ∨ x_time = s.time) ∧ (F.mmp = true ∨ x_mmp = s.mmp)
      ∧ (F.lookout = true ∨ x_lookout = s.lookout) ∧ (F.doms = true ∨ x_doms = s.doms)
      ∧ (F.partEA = true ∨ x_partEA = s.partEA) ∧ (F.gradeI = true ∨ x_gradeI = s.gradeI)
      ∧ (F.breakout = true ∨ x_breakout = s.breakout) ∧ (F.breakoutRun = true ∨ x_breakoutRun = s.breakoutRun)
      ∧ (F.savedRegs = true ∨ x_savedRegs = s.savedRegs) ∧ (F.savedBlobs = true ∨ x_savedBlobs = s.savedBlobs)
      ∧ (F.hk = true ∨ x_hk = s.hk) ∧ (F.tx = true ∨ x_tx = s.tx) ∧ (F.adc = true ∨ x_adc = s.adc)
      ∧ (F.rxsynth = true ∨ x_rxsynth = s.rxsynth) ∧ (F.rx = true ∨ x_rx = s.rx) ∧ (F.eng = true ∨ x_eng = s.eng)
      ∧ (F.outerLane = true ∨ x_outerLane = s.outerLane) ∧ (F.outerPort = true ∨ x_outerPort = s.outerPort)
      ∧ (F.tic = true ∨ x_tic = s.tic) ∧ (F.pool = true ∨ x_pool = s.pool) ∧ (F.cwCount = true ∨ x_cwCount = s.cwCount)
      ∧ (F.link = true ∨ x_link = s.link) ∧ (F.ds = true ∨ x_ds = s.ds) ∧ (F.hostLane = true ∨ x_hostLane = s.hostLane)
      ∧ (F.hostInst = true ∨ x_hostInst = s.hostInst) ∧ (F.hostSkew = true ∨ x_hostSkew = s.hostSkew)
      ∧ (F.port = true ∨ x_port = s.port) ∧ (F.srch = true ∨ x_srch = s.srch) ∧ (F.test = true ∨ x_test = s.test)
      ∧ (F.service = true ∨ x_service = s.service) ∧ (F.fabric = true ∨ x_fabric = s.fabric) ∧ (F.avs = true ∨ x_avs = s.avs)
      ∧ (F.therm = true ∨ x_therm = s.therm) ∧ (F.start = true ∨ x_start = s.start) ∧ (F.tap = true ∨ x_tap = s.tap)
      ∧ (F.mem = true ∨ x_mem = s.mem) ∧ (F.capLost = true ∨ x_capLost = s.capLost) ∧ (F.cap = true ∨ x_cap = s.cap)
      ∧ (F.fuse = true ∨ x_fuse = s.fuse) ∧ (F.analog = true ∨ x_analog = s.analog) ∧ (F.flash = true ∨ x_flash = s.flash)
      ∧ (F.upd = true ∨ x_upd = s.upd) ∧ (F.freeCount = true ∨ x_freeCount = s.freeCount)
      ∧ (F.pending = true ∨ x_pending = s.pending) := by
  have hfields (t : State) : t = s.graft F t ↔ (F.regs = true ∨ t.regs = s.regs)
      ∧ (F.blobs = true ∨ t.blobs = s.blobs) ∧ (F.time = true ∨ t.time = s.time) ∧ (F.mmp = true ∨ t.mmp = s.mmp)
      ∧ (F.lookout = true ∨ t.lookout = s.lookout) ∧ (F.doms = true ∨ t.doms = s.doms)
      ∧ (F.partEA = true ∨ t.partEA = s.partEA) ∧ (F.gradeI = true ∨ t.gradeI = s.gradeI)
      ∧ (F.breakout = true ∨ t.breakout = s.breakout) ∧ (F.breakoutRun = true ∨ t.breakoutRun = s.breakoutRun)
      ∧ (F.savedRegs = true ∨ t.savedRegs = s.savedRegs) ∧ (F.savedBlobs = true ∨ t.savedBlobs = s.savedBlobs)
      ∧ (F.hk = true ∨ t.hk = s.hk) ∧ (F.tx = true ∨ t.tx = s.tx) ∧ (F.adc = true ∨ t.adc = s.adc)
      ∧ (F.rxsynth = true ∨ t.rxsynth = s.rxsynth) ∧ (F.rx = true ∨ t.rx = s.rx) ∧ (F.eng = true ∨ t.eng = s.eng)
      ∧ (F.outerLane = true ∨ t.outerLane = s.outerLane) ∧ (F.outerPort = true ∨ t.outerPort = s.outerPort)
      ∧ (F.tic = true ∨ t.tic = s.tic) ∧ (F.pool = true ∨ t.pool = s.pool) ∧ (F.cwCount = true ∨ t.cwCount = s.cwCount)
      ∧ (F.link = true ∨ t.link = s.link) ∧ (F.ds = true ∨ t.ds = s.ds) ∧ (F.hostLane = true ∨ t.hostLane = s.hostLane)
      ∧ (F.hostInst = true ∨ t.hostInst = s.hostInst) ∧ (F.hostSkew = true ∨ t.hostSkew = s.hostSkew)
      ∧ (F.port = true ∨ t.port = s.port) ∧ (F.srch = true ∨ t.srch = s.srch) ∧ (F.test = true ∨ t.test = s.test)
      ∧ (F.service = true ∨ t.service = s.service) ∧ (F.fabric = true ∨ t.fabric = s.fabric) ∧ (F.avs = true ∨ t.avs = s.avs)
      ∧ (F.therm = true ∨ t.therm = s.therm) ∧ (F.start = true ∨ t.start = s.start) ∧ (F.tap = true ∨ t.tap = s.tap)
      ∧ (F.mem = true ∨ t.mem = s.mem) ∧ (F.capLost = true ∨ t.capLost = s.capLost) ∧ (F.cap = true ∨ t.cap = s.cap)
      ∧ (F.fuse = true ∨ t.fuse = s.fuse) ∧ (F.analog = true ∨ t.analog = s.analog) ∧ (F.flash = true ∨ t.flash = s.flash)
      ∧ (F.upd = true ∨ t.upd = s.upd) ∧ (F.freeCount = true ∨ t.freeCount = s.freeCount)
      ∧ (F.pending = true ∨ t.pending = s.pending) := by
    simp only [← eq_cond_iff]
    exact ⟨fun h => State.mk.inj h, fun h => by
      cases t
      exact State.mk.injEq .. ▸ h⟩
  constructor
  · rintro ⟨hf, hr⟩
    obtain ⟨hregs, hrest⟩ := (hfields _).mp hf
    exact ⟨⟨hregs, hr⟩, hrest⟩
  · rintro ⟨⟨hregs, hr⟩, hrest⟩
    exact ⟨(hfields _).mpr ⟨hregs, hrest⟩, hr⟩

/-- The numeric objects of a state written out. -/
@[simp] theorem reg_mk
    {x_regs x_blobs x_time x_mmp x_lookout x_doms x_partEA x_gradeI x_breakout x_breakoutRun x_savedRegs x_savedBlobs x_hk x_tx
    x_adc x_rxsynth x_rx x_eng x_outerLane x_outerPort x_tic x_pool x_cwCount x_link x_ds x_hostLane x_hostInst x_hostSkew
    x_port x_srch x_test x_service x_fabric x_avs x_therm x_start x_tap x_mem x_capLost x_cap x_fuse x_analog x_flash x_upd
    x_freeCount x_pending} {ix sub : Nat} :
    (State.mk
      x_regs x_blobs x_time x_mmp x_lookout x_doms x_partEA x_gradeI x_breakout x_breakoutRun x_savedRegs x_savedBlobs x_hk
      x_tx x_adc x_rxsynth x_rx x_eng x_outerLane x_outerPort x_tic x_pool x_cwCount x_link x_ds x_hostLane x_hostInst
      x_hostSkew x_port x_srch x_test x_service x_fabric x_avs x_therm x_start x_tap x_mem x_capLost x_cap x_fuse x_analog
      x_flash x_upd x_freeCount x_pending).reg ix sub =
      Store.get regDefault x_regs (objKey ix sub) := rfl

@[simp] theorem get_regs {ix sub : Nat} : Store.get regDefault s.regs (objKey ix sub) = s.reg ix sub := rfl

/-- Every field chosen: a frame that speaks of the numeric objects alone. -/
abbrev Fields.all : Fields :=
  ⟨true, true, true, true, true, true, true, true, true, true, true, true, true, true, true, true, true, true, true, true, true, true, true,
    true, true, true, true, true, true, true, true, true, true, true, true, true, true, true, true, true, true, true, true, true, true, true⟩

/-! ## What a frame says -/

/-- An accepted request's own rule works on a state within the frame. -/
theorem KeepsRegs.of_taken {r : Req} {op : Opcode} {ix sub : Nat} {pl : List Byte} (h : KeepsRegs P (s.taken r op ix sub pl) t)
    (hP : ∀ js, P Ob.MMP_RX_FRAMES js) : KeepsRegs P s t := fun jx js hjs hfree =>
  (h jx js hjs hfree).trans (s.taken_reg r op ix sub pl jx js hjs fun e => hfree (e ▸ hP js))


end

end Sys2Proof.Machine

/-! SUPPORT. WAYMARK: the other time writes, and what the edges, windows and slews of PPS do to the counter (R53 to R57). -/

namespace Sys2Proof.Machine

/-! ## Requests whose own rule is known -/

section
variable {s u : State} {r : Req} {op : Opcode} {ix sub : Nat} {pl : List Byte} {own : State → Verdict} (hacc : s.Accepts r op ix sub pl)
include hacc

theorem next_serve_done {out : List Byte} (hown : own (s.taken r op ix sub pl) = .done u out) :
    (.next (s.serve r op ix sub pl own) : Out) = .next (u.reply r op ix sub St.OK out) := by
  rw [State.serve_done hacc hown]

theorem next_serve_deny {st : Nat} (hown : own (s.taken r op ix sub pl) = .deny st) :
    (.next (s.serve r op ix sub pl own) : Out) = .next ((s.taken r op ix sub pl).reply r op ix sub st []) := by
  rw [State.serve_deny hacc hown]

theorem next_serve_fail {st : Nat} (hown : own (s.taken r op ix sub pl) = .fail u st) :
    (.next (s.serve r op ix sub pl own) : Out) = .next (u.reply r op ix sub st []) := by
  rw [State.serve_fail hacc hown]

end

theorem next_serve_later {s u : State} {r : Req} {ix sub : Nat} {pl : List Byte} {own : State → Verdict}
    (hacc : s.Accepts r .exec ix sub pl) (hown : own (s.taken r .exec ix sub pl) = .later u) :
    (.next (s.serve r .exec ix sub pl own) : Out) = .next (u.pendAdd ⟨r, .exec, ix, sub⟩) := by
  rw [State.serve_later_exec hacc hown]

/-! ## Signed payloads -/

/-- The two's complement bytes of an integer in range spell it (R338). -/
theorem toSigned_leNat_leInt (n : Nat) (v : Int) (hn : 0 < n) (hlo : -(2 ^ (8 * n - 1) : Nat) ≤ v) (hhi : v < (2 ^ (8 * n - 1) : Nat)) :
    toSigned n (leNat (leInt n v)) = v := by
  have hdouble : 2 ^ (8 * n) = 2 * 2 ^ (8 * n - 1) := by
    rw [← Nat.pow_succ']; congr 1; omega
  have hbytes : 256 ^ n = 2 ^ (8 * n) := by rw [Nat.pow_mul]
  have hlt : (v % (2 ^ (8 * n) : Nat)).toNat < 256 ^ n := by
    rw [hbytes]; have := Int.emod_lt_of_pos v (b := (2 ^ (8 * n) : Nat)) (by positivity); omega
  unfold leInt
  rw [leNat_leBytes _ _ hlt]
  unfold toSigned
  rw [hdouble]
  generalize 2 ^ (8 * n - 1) = half at hlo hhi
  by_cases hneg : v < 0
  · have : v % ((2 * half : Nat) : Int) = v + (2 * half : Nat) := by
      rw [← Int.add_emod_right, Int.emod_eq_of_lt] <;> omega
    rw [this, if_neg] <;> omega
  · rw [Int.emod_eq_of_lt (by omega) (by omega), if_pos] <;> omega

/-! ## The time writes -/

/-- What a write of TIME.PPS_ENABLE stores, and the state it enters (R56). -/
theorem State.ppsEnable_frame (s : State) (v : Int) :
    Frame { regs := true, time := true } (fun ix _ => ix = Ob.TIME_PPS_ENABLE ∨ ix = Ob.TIME_STATE) s (s.ppsEnable v) := by
  unfold State.ppsEnable
  simp

theorem State.ppsEnable_enable (s : State) (v : Int) : (s.ppsEnable v).reg Ob.TIME_PPS_ENABLE 0 = v := by
  unfold State.ppsEnable
  simp only
  split
  · simp [State.reg_setReg]
  · split <;> simp [State.reg_setReg]

theorem State.ppsEnable_state (s : State) (v : Int) : (s.ppsEnable v).reg Ob.TIME_STATE 0 =
    if v = 0 then 0 else if s.reg Ob.TIME_STATE 0 = 0 then 1 else s.reg Ob.TIME_STATE 0 := by
  unfold State.ppsEnable
  simp only
  split
  · rw [State.reg_setReg_self]
  · split
    · rw [State.reg_setReg_self]
    · simp [State.reg_setReg]

theorem State.ppsEnable_acc (s : State) (v : Int) : (s.ppsEnable v).time.acc = s.time.acc := by
  unfold State.ppsEnable
  simp only
  split
  · rfl
  · split <;> rfl

/-- TIME.NEXT_SECONDS with a value armed: what a write of it leaves (R55). -/
def State.armSeconds (s : State) (v : Int) : State := (ownNextSeconds v s).state s

theorem ownNextSeconds_eq (v : Int) (s : State) : ownNextSeconds v s = .done (s.armSeconds v) [] := rfl

theorem State.armSeconds_frame (s : State) (v : Int) :
    Frame { regs := true, time := true } (fun ix _ => ix = Ob.TIME_NEXT_SECONDS ∨ ix = Ob.TIME_NEXT_ARMED) s (s.armSeconds v) := by
  unfold State.armSeconds ownNextSeconds Verdict.state
  simp

/-- Settles O10: the payload spells the value back, and each own rule is a few writes of the accepted state. -/
theorem timeWritesTakeEffect : Obligations.TimeWritesTakeEffect := by
  unfold Obligations.TimeWritesTakeEffect
  refine ⟨?seconds, ?enable, ?rate, ?rateWhileOn⟩
  case seconds =>
    intro s r v hv hacc
    have hspelt : leNat (leBytes 8 v) = v := leNat_leBytes 8 v hv
    have hframe := (s.taken r .write Ob.TIME_NEXT_SECONDS 0 (leBytes 8 v)).armSeconds_frame (leNat (leBytes 8 v) : Nat)
    refine ⟨_, next_serve_done hacc (ownNextSeconds_eq _ _), hframe.fields, ?_, ?_, ?_, ?_⟩
    · simp [State.armSeconds, ownNextSeconds, Verdict.state, State.reg_setReg, hspelt]
    · simp [State.armSeconds, ownNextSeconds, Verdict.state]
    · simp [State.armSeconds, ownNextSeconds, Verdict.state]
    · exact .of_taken (hframe.mono fun _ _ => .inr).regs fun _ => .inl rfl
  case enable =>
    intro s r v hv hacc
    have hspelt : leNat (leBytes 1 v) = v := leNat_leBytes 1 v (by omega)
    have hstate := s.taken_reg r .write Ob.TIME_PPS_ENABLE 0 (leBytes 1 v) Ob.TIME_STATE 0 (by decide) (by decide)
    have hframe := (s.taken r .write Ob.TIME_PPS_ENABLE 0 (leBytes 1 v)).ppsEnable_frame (leNat (leBytes 1 v) : Nat)
    refine ⟨_, next_serve_done hacc rfl, hframe.fields, ?_, ?_, ?_, ?_⟩
    · rw [State.ppsEnable_enable, hspelt]
    · rw [State.ppsEnable_acc, State.taken_time]
    · simp only [State.ppsEnable_state, hstate, hspelt, Int.natCast_eq_zero]
    · exact .of_taken (hframe.mono fun _ _ => .inr).regs fun _ => .inl rfl
  case rate =>
    intro s r v hlo hhi hacc hoff
    have hspelt : toSigned 4 (leNat (leInt 4 v)) = v := toSigned_leNat_leInt 4 v (by decide) hlo hhi
    have hown : ownRateAdj (toSigned 4 (leNat (leInt 4 v))) (s.taken r .write Ob.TIME_RATE_ADJ 0 (leInt 4 v)) =
        .done ((s.taken r .write Ob.TIME_RATE_ADJ 0 (leInt 4 v)).setReg Ob.TIME_RATE_ADJ 0 v) [] := by
      simp [ownRateAdj, State.flag, State.taken_reg, hoff, hspelt]
    refine ⟨_, next_serve_done hacc hown, rfl, State.reg_setReg_self _ _ _ _, ?_⟩
    exact Frame.regs (F := .all) (by simp)
  case rateWhileOn =>
    intro s r v _ _ hacc hon
    exact next_serve_deny hacc (by simp [ownRateAdj, State.flag, State.taken_reg, hon])

end Sys2Proof.Machine

/-! SUPPORT. The discipline of the counter by PPS edges (R53 to R56). -/

namespace Sys2Proof.Machine

/-! ## Counters -/

@[simp] theorem State.bump_reg_self (s : State) (ix sub n : Nat) : (s.bump ix sub n).reg ix sub = (min (2 ^ 32 - 1) (s.nat ix sub + n) : Nat) :=
  State.reg_setReg_self _ _ _ _

/-! ## A PPS edge -/

section
variable {F : Fields} {P : Nat → Nat → Prop} {s t : State}

/-- What the correction of an edge can touch (R54). -/
@[simp] theorem frame_correct {e : Int} (hregs : F.regs = true) (htime : F.time = true) (hP : P Ob.TIME_EPOCH 0) :
    Frame F P s (t.correct e) ↔ Frame F P s t := by
  refine Frame.iff ?_
  unfold State.correct
  simp [hregs, htime, hP]

/-- What the discipline of an edge can touch (R56). -/
@[simp] theorem frame_discipline {e : Int} (hregs : F.regs = true) (hrate : P Ob.TIME_RATE_ADJ 0) (hstate : P Ob.TIME_STATE 0) :
    Frame F P s (t.discipline e) ↔ Frame F P s t := by
  refine Frame.iff ?_
  unfold State.discipline
  simp [hregs, hrate, hstate]

end

/-- A forward step (R54). -/
theorem State.correct_of_nonpos (s : State) (e : Int) (h : e ≤ 0) :
    (s.correct e).time.acc = ((s.time.acc + e.natAbs) / 2 ^ 32 * 2 ^ 32) % 2 ^ 128 ∧ (s.correct e).time.slewLeft = 0 := by
  unfold State.correct
  rw [if_pos h]
  exact ⟨rfl, rfl⟩

/-- A slew (R54). -/
theorem State.correct_of_small (s : State) (e : Int) (hpos : 0 < e) (hsmall : e * 1000000 ≤ 2 ^ 80) :
    (s.correct e).time.acc = s.time.acc ∧ (s.correct e).time.slewLeft = e.natAbs ∧ (s.correct e).time.slewing = true := by
  unfold State.correct
  rw [if_neg (by omega), if_pos (by omega)]
  exact ⟨rfl, rfl, rfl⟩

/-- A step back, which counts in TIME.EPOCH (R52, R54). -/
theorem State.correct_of_large (s : State) (e : Int) (hlarge : 2 ^ 80 < e * 1000000) :
    ((s.correct e).time.acc : Int) = ((s.time.acc : Int) - e) / 2 ^ 32 * 2 ^ 32 % 2 ^ 128 ∧
      (s.correct e).reg Ob.TIME_EPOCH 0 = ((s.nat Ob.TIME_EPOCH 0 + 1) % 65536 : Nat) := by
  unfold State.correct
  rw [if_neg (by omega), if_neg (by omega)]
  refine ⟨?_, State.reg_setReg_self _ _ _ _⟩
  exact Int.toNat_of_nonneg (Int.emod_nonneg _ (by decide))

theorem State.discipline_rate (s : State) (e : Int) (h : s.reg Ob.TIME_STATE 0 ≠ 3) : (s.discipline e).reg Ob.TIME_RATE_ADJ 0 =
    clampInt (-(2 ^ 31)) (2 ^ 31 - 1) (s.reg Ob.TIME_RATE_ADJ 0 + rateChange e) := by
  unfold State.discipline
  simp [h, State.reg_setReg]

/-- The edge that HOLDOVER accepts leaves the rate and goes on to ACQUIRING (R56). -/
theorem State.discipline_holdover (s : State) (e : Int) (h : s.reg Ob.TIME_STATE 0 = 3) :
    s.discipline e = s.setReg Ob.TIME_STATE 0 1 := by
  unfold State.discipline
  rw [if_pos h]

theorem State.discipline_epoch (s : State) (e : Int) : (s.discipline e).reg Ob.TIME_EPOCH 0 = s.reg Ob.TIME_EPOCH 0 := by
  have hframe : Frame .all (fun ix _ => ix = Ob.TIME_RATE_ADJ ∨ ix = Ob.TIME_STATE) s (s.discipline e) := by simp
  exact hframe.regs _ _ (by decide) (by decide)

/-- The error of an edge against its target (R54). -/
def State.edgeError (s : State) (v : Int) : Int := v - (s.edgeTarget v).1 * 2 ^ 80

/-- An edge's correction, and from the second edge on its discipline. -/
def State.edgeCorrected (s : State) (v : Int) : State :=
  if s.time.edges = 0 then s.correct (s.edgeError v) else (s.correct (s.edgeError v)).discipline (s.edgeError v)

theorem State.edgeCorrected_time (s : State) (v : Int) : (s.edgeCorrected v).time = (s.correct (s.edgeError v)).time := by
  unfold State.edgeCorrected
  rw [apply_ite State.time, State.discipline_time, ite_self]

theorem State.edgeCorrected_frame (s : State) (v : Int) :
    Frame { regs := true, time := true } (fun ix sub => ix ∈ [Ob.TIME_RATE_ADJ, Ob.TIME_STATE, Ob.TIME_EPOCH] ∧ sub = 0) s
      (s.edgeCorrected v) := by
  unfold State.edgeCorrected
  simp

/-- The corrected state with what an accepted edge notes of itself: its time, its error and its count (R54). -/
def State.notedEdge (s : State) (v : Int) : State :=
  (({ s.edgeCorrected v with time := { (s.edgeCorrected v).time with
      edges := min 2 (s.time.edges + 1), lastEdge := ((s.edgeTarget v).1 * 2 ^ 80).toNat, window := 0, missRun := 0,
      goodRun := s.goodEdges (s.edgeError v) } }).setReg Ob.TIME_PHASE_ERR_PS 0
    (clampInt (-(2 ^ 31)) (2 ^ 31 - 1) (roundDiv (s.edgeError v * 1000000000000) (2 ^ 80)))).bump Ob.TIME_PPS_COUNT 0 1

/-- An accepted edge is corrected and noted, and uses up the armed value where that was its target (R55). -/
theorem State.takeEdge_eq (s : State) (v : Int) :
    s.takeEdge v = if (s.edgeTarget v).2 then (s.notedEdge v).setReg Ob.TIME_NEXT_ARMED 0 0 else s.notedEdge v := rfl

theorem State.takeEdge_frame (s : State) (v : Int) :
    Frame { regs := true, time := true } (fun ix sub => ix ∈ [Ob.TIME_PPS_COUNT, Ob.TIME_PHASE_ERR_PS, Ob.TIME_NEXT_ARMED] ∧ sub = 0)
      (s.edgeCorrected v) (s.takeEdge v) := by
  rw [State.takeEdge_eq]
  unfold State.notedEdge
  simp [↓frame_with_time]

theorem State.takeEdge_time (s : State) (v : Int) : (s.takeEdge v).time = { (s.correct (s.edgeError v)).time with
    edges := min 2 (s.time.edges + 1), lastEdge := ((s.edgeTarget v).1 * 2 ^ 80).toNat, window := 0, missRun := 0,
    goodRun := s.goodEdges (s.edgeError v) } := by
  rw [State.takeEdge_eq, apply_ite State.time, State.setReg_time, ite_self]
  change ({ (s.edgeCorrected v).time with edges := _, lastEdge := _, window := _, missRun := _, goodRun := _ } : TimeBase) = _
  rw [State.edgeCorrected_time]

/-- The numeric objects that only the notes of an edge do not touch. -/
theorem State.takeEdge_reg (s : State) (v : Int) (ix : Nat)
    (h : ix ∉ [Ob.TIME_PPS_COUNT, Ob.TIME_PHASE_ERR_PS, Ob.TIME_NEXT_ARMED]) :
    (s.takeEdge v).reg ix 0 = (s.edgeCorrected v).reg ix 0 :=
  (s.takeEdge_frame v).regs ix 0 (by decide) fun hP => h hP.1

theorem State.correct_reg (s : State) (e : Int) (ix : Nat) (h : ix ≠ Ob.TIME_EPOCH) : (s.correct e).reg ix 0 = s.reg ix 0 := by
  have hframe : Frame { regs := true, time := true } (fun jx js => jx = Ob.TIME_EPOCH ∧ js = 0) s (s.correct e) := by simp
  exact hframe.regs ix 0 (by decide) fun hP => h hP.1

theorem State.takeEdge_count (s : State) (v : Int) :
    (s.takeEdge v).reg Ob.TIME_PPS_COUNT 0 = (min (2 ^ 32 - 1) (s.nat Ob.TIME_PPS_COUNT 0 + 1) : Nat) := by
  have hcorrected : (s.edgeCorrected v).reg Ob.TIME_PPS_COUNT 0 = s.reg Ob.TIME_PPS_COUNT 0 :=
    (s.edgeCorrected_frame v).regs _ _ (by decide) (by simp)
  have hnoted : (s.notedEdge v).reg Ob.TIME_PPS_COUNT 0 = (min (2 ^ 32 - 1) (s.nat Ob.TIME_PPS_COUNT 0 + 1) : Nat) := by
    unfold State.notedEdge
    rw [State.bump_reg_self]
    simp [State.nat, State.reg_setReg, hcorrected]
  rw [State.takeEdge_eq]
  split
  · rw [State.reg_setReg_ne _ _ _ _ _ _ (by decide), hnoted]
  · exact hnoted

theorem exec_ppsWindowClose (s : State) (hon : s.reg Ob.TIME_PPS_ENABLE 0 ≠ 0) (hedges : s.time.edges ≠ 0) :
    exec .ppsWindowClose s =
      (let missed := ({ s with time := { s.time with missRun := s.time.missRun + 1, window := s.time.window + 1 } }).bump
        Ob.TIME_PPS_MISSED 0 1
       if 3 ≤ s.time.missRun + 1 ∧ s.reg Ob.TIME_STATE 0 ≠ 3 then
         .next ((missed.setReg Ob.TIME_STATE 0 3).raiseFree Src.WAYMARK_PPS_LOST 0)
       else .next missed) := by
  change execPpsWindowClose s = _
  unfold execPpsWindowClose
  rw [if_pos ⟨by simpa [State.flag] using hon, hedges⟩]

/-- Settles O11: an accepted edge is a correction by the size of its error and, from the second on, a discipline, and then notes that
touch neither; windows and slews are read off the commands' equations. -/
theorem ppsDisciplinesTheCounter : Obligations.PpsDisciplinesTheCounter := by
  unfold Obligations.PpsDisciplinesTheCounter
  refine ⟨?accepted, ?off, ?rejected, ?missed, ?slewed⟩
  case accepted =>
    intro s ph hon hwin
    refine ⟨_, exec_ppsEdge_of_accepted s ph hon hwin, ?_⟩
    generalize s.edgeValue ph.val = v
    have hframe : Frame { regs := true, time := true } (fun ix sub => ix ∈ [Ob.TIME_PPS_COUNT, Ob.TIME_PHASE_ERR_PS, Ob.TIME_RATE_ADJ,
        Ob.TIME_STATE, Ob.TIME_EPOCH, Ob.TIME_NEXT_ARMED] ∧ sub = 0) s (s.takeEdge v) :=
      ((s.edgeCorrected_frame v).mono (by simp +contextual)).trans ((s.takeEdge_frame v).mono (by simp +contextual))
    have hrate := s.takeEdge_reg v Ob.TIME_RATE_ADJ (by decide)
    have hstate := s.takeEdge_reg v Ob.TIME_STATE (by decide)
    have hepoch := s.takeEdge_reg v Ob.TIME_EPOCH (by decide)
    refine ⟨hframe.fields, s.takeEdge_count v, by rw [s.takeEdge_time v], by rw [s.takeEdge_time v], ⟨?_, ?_, ?_, ?_⟩, ?_, ?_, hframe.regs⟩
    · intro hle
      rw [s.takeEdge_time v]
      exact s.correct_of_nonpos _ hle
    · intro hpos hsmall
      rw [s.takeEdge_time v]
      exact s.correct_of_small _ hpos hsmall
    · intro hlarge
      obtain ⟨hacc, hcount⟩ := s.correct_of_large _ hlarge
      rw [s.takeEdge_time v, hepoch]
      refine ⟨hacc, ?_⟩
      unfold State.edgeCorrected
      split
      · exact hcount
      · rw [State.discipline_epoch]
        exact hcount
    · intro hedges hne
      rw [hrate, State.edgeCorrected, if_neg hedges, State.discipline_rate _ _ (by rwa [State.correct_reg _ _ _ (by decide)]),
        State.correct_reg _ _ _ (by decide), State.edgeError]
    · intro hcase
      rw [hrate]
      unfold State.edgeCorrected
      split
      · exact State.correct_reg _ _ _ (by decide)
      next hedges =>
        rw [State.discipline_holdover _ _ (by rw [State.correct_reg _ _ _ (by decide)]; exact hcase.resolve_left hedges),
          State.reg_setReg_ne _ _ _ _ _ _ (by decide), State.correct_reg _ _ _ (by decide)]
    · intro hedges hholdover
      rw [hstate, State.edgeCorrected, if_neg hedges,
        State.discipline_holdover _ _ (by rw [State.correct_reg _ _ _ (by decide)]; exact hholdover), State.reg_setReg_self]
  case off =>
    intro s ph hoff
    change execPpsEdge ph s = _
    unfold execPpsEdge
    rw [if_neg (by simp [State.flag, hoff])]
  case rejected =>
    intro s ph hon hedges hwin
    refine ⟨s.bump Ob.TIME_PPS_REJECT 0 1, ?_, rfl, by simp, Frame.regs (F := .all) (by simp)⟩
    change execPpsEdge ph s = _
    simp [execPpsEdge, State.flag, hon, hedges, hwin]
  case missed =>
    intro s hon hedges
    rw [exec_ppsWindowClose s hon hedges]
    simp only
    split
    next hlost =>
      have hframe : Frame { regs := true, time := true, lookout := true, cap := true }
          (fun ix sub => ix = Ob.TIME_PPS_MISSED ∨ ix = Ob.TIME_STATE ∨ EventObj ix sub) s
          (((({ s with time := { s.time with missRun := s.time.missRun + 1, window := s.time.window + 1 } }).bump
            Ob.TIME_PPS_MISSED 0 1).setReg Ob.TIME_STATE 0 3).raiseFree Src.WAYMARK_PPS_LOST 0) := by
        simp [↓frame_with_time]
      refine ⟨_, rfl, hframe.fields, ?_, ?_, hframe.regs, by omega⟩
      · rw [State.raiseFree_reg _ _ _ _ _ (by decide) (by simp [EventObj]), State.reg_setReg_ne _ _ _ _ _ _ (by decide), State.bump_reg_self]
        rfl
      · rw [State.raiseFree_reg _ _ _ _ _ (by decide) (by simp [EventObj]), State.reg_setReg_self, if_pos hlost.1]
    next hkept =>
      have hframe : Frame { regs := true, time := true, lookout := true, cap := true }
          (fun ix sub => ix = Ob.TIME_PPS_MISSED ∨ ix = Ob.TIME_STATE ∨ EventObj ix sub) s
          (({ s with time := { s.time with missRun := s.time.missRun + 1, window := s.time.window + 1 } }).bump
            Ob.TIME_PPS_MISSED 0 1) := by
        simp [↓frame_with_time]
      refine ⟨_, rfl, hframe.fields, by rw [State.bump_reg_self]; rfl, ?_, hframe.regs, fun _ => rfl⟩
      rw [State.bump_eq, State.bumpTo_eq, State.reg_setReg_ne _ _ _ _ _ _ (by decide)]
      change s.reg Ob.TIME_STATE 0 = _
      split
      · by_contra hne
        exact hkept ⟨‹_›, hne⟩
      · rfl
  case slewed =>
    intro s hslewing
    have hexec : exec .ppsSlewDone s = _ := if_pos hslewing
    exact ⟨_, hexec, rfl, rfl, rfl, rfl⟩

end Sys2Proof.Machine

/-! SUPPORT. The fabric: a window's figures, margins and canaries (R66, R69 to R72), and its exhausted boundaries (R64, R67, R68). -/

namespace Sys2Proof.Machine

/-! ## Windows -/

section
variable {F : Fields} {P : Nat → Nat → Prop} {s t : State} {l : Fin 8}

@[simp] theorem frame_fillFigures {m : FabricMeas} (hregs : F.regs = true) (hpeak : P Ob.FABRIC_LRX_FILL_PEAK (l.val + 1))
    (hmin : P Ob.FABRIC_LTX_FILL_MIN (l.val + 1)) (hin : ∀ k : Fin 2, P Ob.FABRIC_HIN_FILL_PEAK (2 * l.val + k.val + 1))
    (hout : ∀ k : Fin 2, P Ob.FABRIC_HOUT_FILL_MIN (2 * l.val + k.val + 1)) :
    Frame F P s (t.fillFigures l m).1 ↔ Frame F P s t := by
  refine Frame.iff ?_
  refine (frame_forEach fun k _ u => ?_).mpr ?_
  · have hlt : 2 * l.val + k.val + 1 < 256 := by omega
    simp [hregs, hin k, hout k, hlt]
  · simp [hregs, hpeak, hmin]

@[simp] theorem frame_canaries {bad : List Nat} (hregs : F.regs = true) (hfabric : F.fabric = true) (hlookout : F.lookout = true)
    (hcap : F.cap = true) (hP : P Ob.FABRIC_CANARY_FAIL 0) (hevents : AllowsEvents P) :
    Frame F P s (t.canaries l bad) ↔ Frame F P s t := by
  refine Frame.iff ?_
  refine (frame_forEach fun k _ u => ?_).mpr ?_
  · simp [hregs, hlookout, hcap, hevents]
  · simp [hregs, hfabric, hP]

end

/-- The lane margin that a window takes into the filter (R70). -/
def State.windowMargin (s : State) (l : Fin 8) (m : FabricMeas) : Nat :=
  match ((s.windowMargins l m).filter (fun t => !(s.windowBad l m).contains t.1)).map (·.2) with
  | [] => if (s.fillFigures l m).2 then 1000 else s.fabric.shedThr + s.fabric.hyst
  | t :: ts => ts.foldl min t

/-- The state with a window's fill figures, canaries and margin taken. -/
def State.windowTaken (s : State) (l : Fin 8) (m : FabricMeas) : State :=
  ((s.fillFigures l m).1.canaries l (s.windowBad l m)).modFabLane l
    (fun x => { x with windows := (s.windowMargin l m :: x.windows).take 100 })

/-- FABRIC.LANE_MARGIN as a window leaves it. -/
def State.windowFigure (s : State) (l : Fin 8) (m : FabricMeas) : Nat :=
  (s.windowTaken l m).fabric.lane[l].margin (s.fillFigures l m).2

/-- The state with a window's filtered margin noted and its cap begun or counted down. -/
def State.windowNoted (s : State) (l : Fin 8) (m : FabricMeas) : State :=
  (((s.windowTaken l m).modFabLane l (fun x => { x with cap := if (s.fillFigures l m).2 then 100 else x.cap - 1 })).setReg
    Ob.FABRIC_LANE_MARGIN (l.val + 1) (s.windowFigure l m : Nat)).setReg Ob.FABRIC_LANE_MARGIN_MIN (l.val + 1)
      (min (s.windowFigure l m) (s.nat Ob.FABRIC_LANE_MARGIN_MIN (l.val + 1)) : Nat)

theorem exec_fabricWindow {s : State} {l : Fin 8} (m : FabricMeas) (hon : s.on (Dom.lrx l) = true) :
    ∃ th, exec (.fabricWindow l m) s = .next { s.windowNoted l m with therm := th } := by
  have hexec : exec (.fabricWindow l m) s = _ := if_pos hon
  exact ⟨_, hexec⟩

theorem State.canaries_fabric (s : State) (l : Fin 8) (bad : List Nat) :
    (s.canaries l bad).fabric = { s.fabric with failed := s.fabric.failed ++ bad } := by
  have hframe : Frame { regs := true, lookout := true, cap := true } (fun _ _ => True)
      ((s.modFab (fun x => { x with failed := x.failed ++ bad })).setReg Ob.FABRIC_CANARY_FAIL 0
        ((s.modFab (fun x => { x with failed := x.failed ++ bad })).fabric.failed.length : Nat)) (s.canaries l bad) := by
    refine (frame_forEach fun k _ u => ?_).mpr .refl
    simp
  exact hframe.view State.fabric fun _ _ => rfl

theorem State.canaries_count (s : State) (l : Fin 8) (bad : List Nat) :
    (s.canaries l bad).reg Ob.FABRIC_CANARY_FAIL 0 = ((s.fabric.failed ++ bad).length : Nat) := by
  have hframe : Frame .all EventObj
      ((s.modFab (fun x => { x with failed := x.failed ++ bad })).setReg Ob.FABRIC_CANARY_FAIL 0
        ((s.modFab (fun x => { x with failed := x.failed ++ bad })).fabric.failed.length : Nat)) (s.canaries l bad) := by
    refine (frame_forEach fun k _ u => ?_).mpr .refl
    simp
  rw [hframe.regs _ _ (by decide) (by simp [EventObj]), State.reg_setReg_self]
  rfl

theorem State.fillFigures_fabric (s : State) (l : Fin 8) (m : FabricMeas) : (s.fillFigures l m).1.fabric = s.fabric := by
  have hframe : Frame { regs := true } (fun _ _ => True) s (s.fillFigures l m).1 := by simp
  exact hframe.view State.fabric fun _ _ => rfl

/-- What a window makes of the lane's filter and of the excluded canaries (R70, R72). -/
theorem State.windowTaken_fabric (s : State) (l : Fin 8) (m : FabricMeas) : (s.windowTaken l m).fabric =
    { s.fabric with
      failed := s.fabric.failed ++ s.windowBad l m
      lane := s.fabric.lane.set l { s.fabric.lane[l] with windows := (s.windowMargin l m :: s.fabric.lane[l].windows).take 100 } } := by
  unfold State.windowTaken State.modFabLane State.modFab
  simp only [State.canaries_fabric, State.fillFigures_fabric]

theorem State.windowNoted_lane (s : State) (l : Fin 8) (m : FabricMeas) : (s.windowNoted l m).fabric.lane[l] =
    { windows := (s.windowMargin l m :: s.fabric.lane[l].windows).take 100
      cap := if (s.fillFigures l m).2 then 100 else s.fabric.lane[l].cap - 1 } := by
  unfold State.windowNoted State.modFabLane State.modFab
  simp [State.windowTaken_fabric]

theorem State.windowNoted_failed (s : State) (l : Fin 8) (m : FabricMeas) :
    (s.windowNoted l m).fabric.failed = s.fabric.failed ++ s.windowBad l m := by
  unfold State.windowNoted State.modFabLane State.modFab
  simp [State.windowTaken_fabric]

theorem State.windowNoted_frame (s : State) (l : Fin 8) (m : FabricMeas) :
    Frame { regs := true, fabric := true, lookout := true, cap := true }
      (fun ix sub => (ix ∈ [Ob.FABRIC_LRX_FILL_PEAK, Ob.FABRIC_LTX_FILL_MIN, Ob.FABRIC_LANE_MARGIN,
          Ob.FABRIC_LANE_MARGIN_MIN] ∧ sub = l.val + 1) ∨
        (ix ∈ [Ob.FABRIC_HIN_FILL_PEAK, Ob.FABRIC_HOUT_FILL_MIN] ∧ (sub = 2 * l.val + 1 ∨ sub = 2 * l.val + 2)) ∨
        (ix = Ob.FABRIC_CANARY_FAIL ∧ sub = 0) ∨ EventObj ix sub) s (s.windowNoted l m) := by
  unfold State.windowNoted State.windowTaken
  simp

/-- The least margin of a window's turning tiles is the one that enters the filter (R70). -/
theorem State.windowMargin_least (s : State) (l : Fin 8) (m : FabricMeas) :
    let good := ((s.windowMargins l m).filter (fun x => !(s.windowBad l m).contains x.1)).map (·.2)
    good ≠ [] → s.windowMargin l m ∈ good ∧ ∀ x ∈ good, s.windowMargin l m ≤ x := by
  intro good hgood
  unfold State.windowMargin
  split
  next hnil => exact absurd hnil hgood
  next t ts hcons =>
    rw [show good = t :: ts from hcons]
    exact List.min?_eq_some_iff.mp List.min?_cons'

/-- The filtered margin after a window (R70, R66). -/
theorem State.windowFigure_eq (s : State) (l : Fin 8) (m : FabricMeas) :
    s.windowFigure l m =
      (let windows := (s.windowMargin l m :: s.fabric.lane[l].windows).take 100
       let mean := min 65534 (windows.sum / windows.length)
       if (s.fillFigures l m).2 = true ∨ s.fabric.lane[l].cap ≠ 0 then min 1000 mean else mean) := by
  unfold State.windowFigure FabLane.margin
  simp [State.windowTaken_fabric]

theorem State.windowNoted_margin (s : State) (l : Fin 8) (m : FabricMeas) :
    (s.windowNoted l m).laneMargin l = s.windowFigure l m := by
  simp [State.windowNoted, State.laneMargin, State.nat, State.reg_setReg]

theorem State.windowNoted_reg (s : State) (l : Fin 8) (m : FabricMeas) {ix : Nat}
    (h : ix ∉ [Ob.FABRIC_LANE_MARGIN, Ob.FABRIC_LANE_MARGIN_MIN]) {sub : Nat} (hsub : sub < 256) :
    (s.windowNoted l m).reg ix sub = ((s.fillFigures l m).1.canaries l (s.windowBad l m)).reg ix sub := by
  have hframe : Frame .all (fun jx _ => jx ∈ [Ob.FABRIC_LANE_MARGIN, Ob.FABRIC_LANE_MARGIN_MIN])
      ((s.fillFigures l m).1.canaries l (s.windowBad l m)) (s.windowNoted l m) := by
    simp [State.windowNoted, State.windowTaken]
  exact hframe.regs _ _ hsub h

theorem State.fillFigures_peaks (s : State) (l : Fin 8) (m : FabricMeas) :
    (s.fillFigures l m).1.reg Ob.FABRIC_LRX_FILL_PEAK (l.val + 1) = clampInt 0 100 (roundDiv (100 * m.rxPeak : Nat) 4096) ∧
      (s.fillFigures l m).1.reg Ob.FABRIC_LTX_FILL_MIN (l.val + 1) = clampInt 0 100 (roundDiv (100 * m.txMin : Nat) 16) := by
  have hframe : Frame .all (fun ix _ => ix = Ob.FABRIC_HIN_FILL_PEAK ∨ ix = Ob.FABRIC_HOUT_FILL_MIN)
      ((s.setReg Ob.FABRIC_LRX_FILL_PEAK (l.val + 1) (clampInt 0 100 (roundDiv (100 * m.rxPeak : Nat) 4096))).setReg
        Ob.FABRIC_LTX_FILL_MIN (l.val + 1) (clampInt 0 100 (roundDiv (100 * m.txMin : Nat) 16))) (s.fillFigures l m).1 := by
    refine (frame_forEach fun k _ u => ?_).mpr .refl
    have hlt : 2 * l.val + k.val + 1 < 256 := by omega
    simp [hlt]
  rw [hframe.regs _ _ (by omega) (by decide), hframe.regs _ _ (by omega) (by decide)]
  simp [State.reg_setReg]

theorem State.canaries_frame (s : State) (l : Fin 8) (bad : List Nat) :
    Frame .all (fun ix sub => ix = Ob.FABRIC_CANARY_FAIL ∨ EventObj ix sub) s (s.canaries l bad) := by
  simp

/-- Settles O12: a window is its fill figures, its canaries, the margin filter and two notes of the filtered margin; each figure is
read off its own step. -/
theorem fabricWindowSetsMargins : Obligations.FabricWindowSetsMargins := by
  unfold Obligations.FabricWindowSetsMargins
  refine ⟨?on, ?off⟩
  case on =>
    intro s l m hon
    obtain ⟨th, hexec⟩ := exec_fabricWindow m hon
    have hframe := s.windowNoted_frame l m
    have hfill : ∀ ix ∈ [Ob.FABRIC_LRX_FILL_PEAK, Ob.FABRIC_LTX_FILL_MIN],
        (s.windowNoted l m).reg ix (l.val + 1) = (s.fillFigures l m).1.reg ix (l.val + 1) := by
      intro ix hix
      rw [s.windowNoted_reg l m (by revert ix; decide) (by omega)]
      exact (State.canaries_frame _ l _).regs _ _ (by omega) (by revert ix; simp [EventObj])
    have hmargin : ({ s.windowNoted l m with therm := th } : State).laneMargin l = s.windowFigure l m := s.windowNoted_margin l m
    have hmin : (s.windowNoted l m).nat Ob.FABRIC_LANE_MARGIN_MIN (l.val + 1) =
        min (s.windowFigure l m) (s.nat Ob.FABRIC_LANE_MARGIN_MIN (l.val + 1)) := by
      unfold State.windowNoted
      rw [State.nat_setReg_self, Int.toNat_natCast]
    refine ⟨_, hexec, ?_, ?_, ?_, ?_, ?_, ?_, ?_, ?_, ?_, ?_, ?_⟩
    · conv_lhs => rw [hframe.fields]
      rfl
    · exact (hfill _ (by simp)).trans (s.fillFigures_peaks l m).1
    · exact (hfill _ (by simp)).trans (s.fillFigures_peaks l m).2
    · rw [hmargin, s.windowFigure_eq l m]
      simp only [s.windowNoted_lane l m]
    · intro good hgood
      obtain ⟨hmem, hle⟩ := s.windowMargin_least l m hgood
      refine ⟨_, hmem, hle, ?_⟩
      simp [s.windowNoted_lane l m]
    · simp only [s.windowNoted_lane l m]
      rw [List.length_take, List.length_cons]
    · intro hpeak
      have halarm : (s.fillFigures l m).2 = true := by simp [State.fillFigures, hpeak]
      simp only [s.windowNoted_lane l m]
      rw [hmargin, s.windowFigure_eq l m]
      simp [halarm]
    · rw [hmargin]
      exact hmin
    · change (s.windowNoted l m).reg _ _ = ((s.windowNoted l m).fabric.failed.length : Nat)
      rw [s.windowNoted_reg l m (by decide) (by decide), State.canaries_count, s.windowNoted_failed l m, State.fillFigures_fabric]
    · intro c hc
      rw [show ({ s.windowNoted l m with therm := th } : State).fabric = (s.windowNoted l m).fabric from rfl, s.windowNoted_failed l m]
      exact List.mem_append_left _ hc
    · exact hframe.regs
  case off =>
    intro s l m hoff
    change execFabricWindow l m s = _
    simp [execFabricWindow, hoff]

end Sys2Proof.Machine

/-! SUPPORT. An exhausted line boundary while a waveform ramp runs: the codeword that is sent ends the ramp (R64, R251, R262). -/

namespace Sys2Proof.Machine

section
variable {F : Fields} {P : Nat → Nat → Prop} {s t : State} {l : Fin 8}

@[simp] theorem frame_waveRetarget (hregs : F.regs = true) (htx : F.tx = true) (hP : P Ob.TX_WAVE_RAMPING (l.val + 1)) :
    Frame F P s (t.waveRetarget l) ↔ Frame F P s t := by
  refine Frame.iff ?_
  unfold State.waveRetarget
  simp [hregs, htx, hP]

@[simp] theorem frame_txSend {levels : List Nat} (hregs : F.regs = true) (htx : F.tx = true) (hlookout : F.lookout = true)
    (hcap : F.cap = true) (hramp : P Ob.TX_WAVE_RAMPING (l.val + 1)) (hclip : P Ob.TX_CLIP_COUNT (l.val + 1))
    (hcount : P Ob.TX_EVENTS (l.val + 1)) (hevents : AllowsEvents P) :
    Frame F P s (t.txSend l levels) ↔ Frame F P s t := by
  refine Frame.iff ?_
  unfold State.txSend
  simp [hregs, htx, hlookout, hcap, hramp, hclip, hcount, hevents]

end

/-- The table of a muted lane takes its target at once: no ramp runs (R251). -/
theorem State.waveRetarget_ramping_of_muted {s : State} {l : Fin 8} (hmuted : s.txMuted l = true) :
    (s.waveRetarget l).reg Ob.TX_WAVE_RAMPING (l.val + 1) = 0 := by
  simp [State.waveRetarget, hmuted]

/-- A lane at the codeword boundary: the mute and the inversion that were written act, and the table takes its target (R251, R262). -/
def State.atBoundary (s : State) (l : Fin 8) (levels : List Nat) : State :=
  (s.modTx l (fun x => { x with
    preState := (precodeLevels x.precode (s.flag Ob.TX_INVERT (l.val + 1)) x.preState levels).2
    invert := s.flag Ob.TX_INVERT (l.val + 1), forceMute := s.flag Ob.TX_MUTE_FORCE (l.val + 1)
    sent := (x.sent ++ (precodeLevels x.precode (s.flag Ob.TX_INVERT (l.val + 1)) x.preState levels).1).drop
      ((x.sent ++ (precodeLevels x.precode (s.flag Ob.TX_INVERT (l.val + 1)) x.preState levels).1).length - 8) })).waveRetarget l

theorem State.txSend_after_boundary {s : State} {l : Fin 8} (levels : List Nat) (hsends : 2 ≤ s.txState l) :
    Frame .all (fun ix sub => ix = Ob.TX_CLIP_COUNT ∨ ix = Ob.TX_EVENTS ∨ EventObj ix sub) (s.atBoundary l levels) (s.txSend l levels) := by
  unfold State.txSend
  rw [if_neg (by omega)]
  change Frame _ _ (s.atBoundary l levels) (if _ then (s.atBoundary l levels).modTx l _ else
    ((((s.atBoundary l levels).modTx l _).bump64 _ _ _).bump _ _ _).record _ _ _)
  simp

theorem State.lineSend_after_txSend (s : State) (l : Fin 8) (levels : List Nat) :
    Frame { tic := true } (fun _ _ => False) (s.txSend l levels) (s.lineSend l levels) := by
  unfold State.lineSend
  simp only
  split
  · simp
  · exact .refl

/-- A codeword that a forced mute silences ends the ramp of the lane's table (R251, R262). -/
theorem State.lineSend_ramping_of_forced {s : State} {l : Fin 8} (levels : List Nat) (hsends : 2 ≤ s.txState l)
    (hforced : s.flag Ob.TX_MUTE_FORCE (l.val + 1) = true) :
    (s.lineSend l levels).reg Ob.TX_WAVE_RAMPING (l.val + 1) = 0 := by
  rw [(s.lineSend_after_txSend l levels).regs _ _ (by omega) id,
    (State.txSend_after_boundary levels hsends).regs _ _ (by omega) (by simp [EventObj])]
  exact State.waveRetarget_ramping_of_muted (by simp [State.txMuted, State.modTx, hforced])

theorem exec_lineTxUnderrun {s : State} {l : Fin 8} (hon : s.on (Dom.ltx l) = true) (hsends : 2 ≤ s.txState l) :
    exec (.lineTxUnderrun l) s = .next (((s.bump Ob.FABRIC_LINE_EB_EVENTS (l.val + 1) 1).lineSend l (List.replicate 2048 0)).record
      Src.FABRIC_LINE_EB_OVERRUN l.val (l.val + 256)) := if_pos ⟨hon, hsends⟩

/-- Lane 0 active, its table on a ramp, and a forced mute written that acts at the next codeword boundary. -/
def rampUnderForcedMute : State :=
  (((State.reset.setReg Ob.POWER_STATE 11 2).setReg Ob.TX_STATE 1 3).setReg Ob.TX_MUTE_FORCE 1 1).setReg Ob.TX_WAVE_RAMPING 1 1

/-- Refutes O13: the zero codeword that a line underrun sends is a codeword boundary, so a forced mute acts there and ends the ramp of
the lane's table: TX.WAVE_RAMPING changes too, which the statement leaves as it was. -/
theorem not_exhaustedBoundariesCountAndMark : ¬ Obligations.ExhaustedBoundariesCountAndMark := by
  unfold Obligations.ExhaustedBoundariesCountAndMark
  rintro ⟨-, hunderrun, -⟩
  have hon : rampUnderForcedMute.on (Dom.ltx 0) = true := by decide
  have hsends : 2 ≤ rampUnderForcedMute.txState 0 := by decide
  obtain ⟨t, hexec, -, -, -, -, -, hkeeps⟩ := hunderrun rampUnderForcedMute 0 hon hsends
  have hkept : t.reg Ob.TX_WAVE_RAMPING 1 = rampUnderForcedMute.reg Ob.TX_WAVE_RAMPING 1 :=
    hkeeps _ _ (by decide) (by simp [EventObj])
  have hnext := exec_lineTxUnderrun hon hsends
  rw [hexec] at hnext
  injection hnext with ht
  rw [ht, State.record_reg _ _ _ _ _ _ (by decide) (by simp [EventObj])] at hkept
  have hended := State.lineSend_ramping_of_forced (s := rampUnderForcedMute.bump Ob.FABRIC_LINE_EB_EVENTS 1 1) (l := 0)
    (List.replicate 2048 0) (by decide) (by decide)
  exact absurd (hended.symm.trans hkept) (by decide)

end Sys2Proof.Machine

/-! SUPPORT. What the settling of a port can touch, operation by operation: a frame that every one of them keeps. -/

namespace Sys2Proof.Machine

/-- The fields that the operations on a port and its lanes can touch. -/
abbrev portFields : Fields :=
  { blobs := true, cap := true, doms := true, eng := true, hk := true, hostInst := true, hostLane := true, link := true
    lookout := true, mmp := true, outerLane := true, outerPort := true, pool := true, port := true, regs := true, rx := true
    srch := true, test := true, tic := true, tx := true }

/-- The objects that they can write. -/
def portObjs : List Nat :=
    [Ob.ENG_STATE, Ob.HAMPER_OCCUPANCY, Ob.HK_LOAD_COUNT, Ob.HOST_EVENTS, Ob.HOST_HOST_TX_ADVICE, Ob.HOST_IDLE_DELETED,
    Ob.HOST_LANE_STATE, Ob.HOST_LOCK_LOSS, Ob.HOST_PRESET_APPLIED, Ob.LINE_EQ_STATE, Ob.LINE_TL_FREQ_PPB, Ob.LINE_TL_STATE,
    Ob.LINK_ALIGN_STATE, Ob.LINK_LPL_TX, Ob.LINK_PARTNER_LPL_MAX, Ob.OPTICS_APC_STATE, Ob.OPTICS_SEQ_STATE,
    Ob.PORT_RATE_ACTIVE, Ob.PORT_RATE_CHANGING, Ob.PORT_SEARCH_STATUS, Ob.PORT_STATE, Ob.PORT_STATE_TIME,
    Ob.POWER_ENTRY_ABORTS, Ob.POWER_RES_OFF_US, Ob.POWER_RES_ON_US, Ob.POWER_RES_RET_US, Ob.POWER_STATE, Ob.POWER_STATE_TIME,
    Ob.POWER_VOTES, Ob.POWER_VOTE_FAR, Ob.POWER_VOTE_HOST, Ob.RETRY_EVENTS, Ob.RETRY_HOLD_OCCUPANCY, Ob.RETRY_HOLD_PEAK,
    Ob.RETRY_OUTSTANDING, Ob.RETRY_OUTSTANDING_PEAK, Ob.RETRY_RTT_NS, Ob.RETRY_RX_DELIVERED, Ob.RETRY_RX_LOST,
    Ob.RETRY_TX_SOURCE_LOST, Ob.RETRY_TX_WRITEOFF, Ob.S1_ALIGN_STATE, Ob.TEST_FAR_LOOP, Ob.TEST_HOST_BITS,
    Ob.TEST_HOST_CHK_STATE, Ob.TEST_HOST_ERRORS, Ob.TEST_HOST_LOCK_LOSS, Ob.TEST_INJ_ACTIVE, Ob.TEST_INJ_APPLIED,
    Ob.TEST_LINE_BITS, Ob.TEST_LINE_CHK_STATE, Ob.TEST_LINE_ERRORS, Ob.TEST_LINE_LOCK_LOSS, Ob.TX_STATE, Ob.TX_SYNTH_STATE,
    Ob.TX_WAVE_RAMPING]

def PortObj (ix sub : Nat) : Prop := ix ∈ portObjs ∨ EventObj ix sub

@[simp] theorem allowsEvents_portObj : AllowsEvents PortObj := fun _ _ => .inr

@[simp] theorem portObj_iff {ix sub : Nat} : PortObj ix sub ↔ ix ∈ portObjs ∨ EventObj ix sub := Iff.rfl

/-- The second state differs from the first at most in what operations on ports can touch. -/
abbrev PortFrame : State → State → Prop := Frame portFields PortObj

variable {s t : State}

@[simp] theorem portFrame_account {d : Fin 36} : PortFrame s (t.account d) ↔ PortFrame s t := by
  refine Frame.iff ?_
  unfold State.account
  repeat' split
  all_goals simp [portObjs]

@[simp] theorem portFrame_adacLoad {src : Nat} : PortFrame s (t.adacLoad src) ↔ PortFrame s t := by
  refine Frame.iff ?_
  unfold State.adacLoad
  simp [portObjs]

@[simp] theorem portFrame_adacPut {k : Fin 16} {code : Nat} : PortFrame s (t.adacPut k code) ↔ PortFrame s t := by
  refine Frame.iff ?_
  unfold State.adacPut
  simp

@[simp] theorem portFrame_egressPush {p i : Fin 8} {bits : List Bool} : PortFrame s (t.egressPush p i bits) ↔ PortFrame s t := by
  refine Frame.iff ?_
  unfold State.egressPush
  simp [portObjs]

@[simp] theorem portFrame_farSwitch {p : Fin 8} {bs : List HBlk} : PortFrame s (t.farSwitch p bs) ↔ PortFrame s t := by
  refine Frame.iff ?_
  unfold State.farSwitch
  simp

@[simp] theorem portFrame_ingressPush {p i : Fin 8} {bs : List HBlk} : PortFrame s (t.ingressPush p i bs) ↔ PortFrame s t := by
  refine Frame.iff ?_
  unfold State.ingressPush
  simp [portObjs]

@[simp] theorem portFrame_deliver {p : Fin 8} {blocks : List (List Bool)} : PortFrame s (t.deliver p blocks) ↔ PortFrame s t := by
  refine Frame.iff ?_
  unfold State.deliver
  simp only
  repeat' split
  all_goals simp [frame_forEach]

@[simp] theorem portFrame_deliverHeld {p : Fin 8} {fuel : Nat} : PortFrame s (t.deliverHeld p fuel) ↔ PortFrame s t := by
  refine Frame.iff ?_
  induction fuel generalizing t with
  | zero => exact .refl
  | succ fuel ih =>
    unfold State.deliverHeld
    simp only
    split
    · exact .refl
    · split
      · exact Frame.trans (by simp) ih
      · split
        · exact Frame.trans (by simp [portObjs]) ih
        · exact .refl

@[simp] theorem portFrame_linkCounts {p : Fin 8} : PortFrame s (t.linkCounts p) ↔ PortFrame s t := by
  refine Frame.iff ?_
  unfold State.linkCounts
  simp [portObjs]

@[simp] theorem portFrame_advance {p : Fin 8} : PortFrame s (t.advance p) ↔ PortFrame s t := by
  refine Frame.iff ?_
  unfold State.advance
  simp

@[simp] theorem portFrame_answerForward {f : Forward} {st : Nat} {body : List Byte} {ix sub : Nat} :
    PortFrame s (t.answerForward f st body ix sub) ↔ PortFrame s t := by
  refine Frame.iff ?_
  unfold State.answerForward
  simp

@[simp] theorem portFrame_answerVotes {d : Fin 36} {st : Nat} : PortFrame s (t.answerVotes d st) ↔ PortFrame s t := by
  refine Frame.iff ?_
  unfold State.answerVotes
  simp

@[simp] theorem portFrame_noteVote {d : Fin 36} {c : Nat} {on : Bool} : PortFrame s (t.noteVote d c on) ↔ PortFrame s t := by
  refine Frame.iff ?_
  unfold State.noteVote
  simp [portObjs]

@[simp] theorem portFrame_setPwr {d : Fin 36} {v : Int} : PortFrame s (t.setPwr d v) ↔ PortFrame s t := by
  refine Frame.iff ?_
  unfold State.setPwr
  simp [portObjs]

@[simp] theorem portFrame_startWake {d : Fin 36} : PortFrame s (t.startWake d) ↔ PortFrame s t := by
  refine Frame.iff ?_
  unfold State.startWake
  simp

@[simp] theorem portFrame_castVote {d : Fin 36} {c : Nat} : PortFrame s (t.castVote d c) ↔ PortFrame s t := by
  refine Frame.iff ?_
  unfold State.castVote
  repeat' split
  all_goals simp [portObjs]

@[simp] theorem portFrame_startEntry {d : Fin 36} {off : Bool} : PortFrame s (t.startEntry d off) ↔ PortFrame s t := by
  refine Frame.iff ?_
  unfold State.startEntry
  simp

@[simp] theorem portFrame_withdraw {d : Fin 36} {c : Nat} {off : Bool} : PortFrame s (t.withdraw d c off) ↔ PortFrame s t := by
  refine Frame.iff ?_
  unfold State.withdraw
  simp

@[simp] theorem portFrame_apcVote : PortFrame s (t.apcVote) ↔ PortFrame s t := by
  refine Frame.iff ?_
  unfold State.apcVote
  simp

@[simp] theorem portFrame_apcHold {l : Fin 8} : PortFrame s (t.apcHold l) ↔ PortFrame s t := by
  refine Frame.iff ?_
  unfold State.apcHold
  simp [portObjs]

@[simp] theorem portFrame_biasStart {l : Fin 8} {up : Bool} : PortFrame s (t.biasStart l up) ↔ PortFrame s t := by
  refine Frame.iff ?_
  unfold State.biasStart
  simp [frame_forEach]

@[simp] theorem portFrame_checkers {p : Fin 8} {k : Nat} {start : Bool} : PortFrame s (t.checkers p k start) ↔ PortFrame s t := by
  refine Frame.iff ?_
  unfold State.checkers
  simp only
  split
  · refine (frame_forEach fun l _ u => ?_).mpr .refl
    simp [portObjs]
  · split
    · refine (frame_forEach fun l _ u => ?_).mpr .refl
      simp [portObjs]
    · exact .refl

@[simp] theorem portFrame_cycleStart {l : Fin 8} : PortFrame s (t.cycleStart l) ↔ PortFrame s t := by
  refine Frame.iff ?_
  unfold State.cycleStart
  simp

@[simp] theorem portFrame_downBias {l : Fin 8} : PortFrame s (t.downBias l) ↔ PortFrame s t := by
  refine Frame.iff ?_
  unfold State.downBias
  simp [portObjs]

@[simp] theorem portFrame_downEnd {l : Fin 8} : PortFrame s (t.downEnd l) ↔ PortFrame s t := by
  refine Frame.iff ?_
  unfold State.downEnd
  simp [portObjs]

@[simp] theorem portFrame_waveRetarget {l : Fin 8} : PortFrame s (t.waveRetarget l) ↔ PortFrame s t := by
  refine Frame.iff ?_
  unfold State.waveRetarget
  simp [portObjs]

@[simp] theorem portFrame_downOutput {l : Fin 8} : PortFrame s (t.downOutput l) ↔ PortFrame s t := by
  refine Frame.iff ?_
  unfold State.downOutput
  simp [portObjs]

@[simp] theorem portFrame_loseFrame {p : Fin 8} {seq cause : Nat} : PortFrame s (t.loseFrame p seq cause) ↔ PortFrame s t := by
  refine Frame.iff ?_
  unfold State.loseFrame
  simp [portObjs]

@[simp] theorem portFrame_writeOff {p : Fin 8} {seq : Nat} {source : Option Bool} :
    PortFrame s (t.writeOff p seq source) ↔ PortFrame s t := by
  refine Frame.iff ?_
  unfold State.writeOff
  repeat' split
  all_goals simp [portObjs]

@[simp] theorem portFrame_dsLeave : PortFrame s (t.dsLeave) ↔ PortFrame s t := by
  refine Frame.iff ?_
  unfold State.dsLeave
  simp [frame_forEach]

@[simp] theorem portFrame_dsCheck {after : State} : PortFrame s (t.dsCheck after) ↔ PortFrame s after := by
  unfold State.dsCheck
  split
  · exact portFrame_dsLeave
  · rfl

@[simp] theorem portFrame_searchLane {l : Fin 8} : PortFrame s (t.searchLane l) ↔ PortFrame s t := by
  refine Frame.iff ?_
  unfold State.searchLane
  simp only
  repeat' split
  all_goals simp [portObjs]

@[simp] theorem portFrame_setPort {p : Fin 8} {st : Int} : PortFrame s (t.setPort p st) ↔ PortFrame s t := by
  refine Frame.iff ?_
  unfold State.setPort
  simp [portObjs]

@[simp] theorem portFrame_loadSeed {l : Fin 8} {useDefault : Bool} : PortFrame s (t.loadSeed l useDefault) ↔ PortFrame s t := by
  refine Frame.iff ?_
  unfold State.loadSeed
  simp

@[simp] theorem portFrame_showW {l : Fin 8} : PortFrame s (t.showW l) ↔ PortFrame s t := by
  refine Frame.iff ?_
  unfold State.showW
  simp [portObjs]

@[simp] theorem portFrame_tlAcquire {l : Fin 8} {useDefault : Bool} : PortFrame s (t.tlAcquire l useDefault) ↔ PortFrame s t := by
  refine Frame.iff ?_
  unfold State.tlAcquire
  simp [portObjs]

@[simp] theorem portFrame_tlStart {l : Fin 8} : PortFrame s (t.tlStart l) ↔ PortFrame s t := by
  refine Frame.iff ?_
  unfold State.tlStart
  simp

@[simp] theorem portFrame_enterSearch {p : Fin 8} : PortFrame s (t.enterSearch p) ↔ PortFrame s t := by
  refine Frame.iff ?_
  unfold State.enterSearch
  simp [portObjs, frame_forEach]

@[simp] theorem portFrame_hostIdle {h : Fin 16} : PortFrame s (t.hostIdle h) ↔ PortFrame s t := by
  refine Frame.iff ?_
  unfold State.hostIdle
  simp [portObjs]

@[simp] theorem portFrame_hostLost {h : Fin 16} {next : Int} {cdr : Bool} :
    PortFrame s (t.hostLost h next cdr) ↔ PortFrame s t := by
  refine Frame.iff ?_
  unfold State.hostLost
  repeat' split
  all_goals simp [portObjs]

@[simp] theorem portFrame_presetSet {h : Fin 16} : PortFrame s (t.presetSet h) ↔ PortFrame s t := by
  refine Frame.iff ?_
  unfold State.presetSet
  simp [portObjs]

@[simp] theorem portFrame_noteUndo {es : List (Fin 128)} {task : Nat} {undo : List Undo} :
    PortFrame s (t.noteUndo es task undo) ↔ PortFrame s t := by
  refine Frame.iff ?_
  unfold State.noteUndo
  repeat' split
  all_goals simp

@[simp] theorem portFrame_trigger {e : Fin 128} {task within : Nat} : PortFrame s (t.trigger e task within) ↔ PortFrame s t := by
  refine Frame.iff ?_
  unfold State.trigger
  simp [portObjs]

@[simp] theorem portFrame_triggerFirst {es : List (Fin 128)} {task within : Nat} {undo : List Undo} :
    PortFrame s (t.triggerFirst es task within undo) ↔ PortFrame s t := by
  refine Frame.iff ?_
  unfold State.triggerFirst
  repeat' split
  all_goals simp

@[simp] theorem portFrame_presetApply {h : Fin 16} : PortFrame s (t.presetApply h) ↔ PortFrame s t := by
  refine Frame.iff ?_
  unfold State.presetApply
  simp

@[simp] theorem portFrame_hostSignal {h : Fin 16} : PortFrame s (t.hostSignal h) ↔ PortFrame s t := by
  refine Frame.iff ?_
  unfold State.hostSignal
  simp [portObjs]

@[simp] theorem portFrame_portVotes : PortFrame s (t.portVotes) ↔ PortFrame s t := by
  refine Frame.iff ?_
  unfold State.portVotes
  simp [frame_forEach]

@[simp] theorem portFrame_txCalibrate {l : Fin 8} {rateChange : Bool} :
    PortFrame s (t.txCalibrate l rateChange) ↔ PortFrame s t := by
  refine Frame.iff ?_
  unfold State.txCalibrate
  simp [portObjs]

@[simp] theorem portFrame_portLeave {p : Fin 8} {goal : PGoal} : PortFrame s (t.portLeave p goal) ↔ PortFrame s t := by
  refine Frame.iff ?_
  unfold State.portLeave
  simp [portObjs, frame_forEach]

@[simp] theorem portFrame_portRestart {p : Fin 8} : PortFrame s (t.portRestart p) ↔ PortFrame s t := by
  refine Frame.iff ?_
  unfold State.portRestart
  simp

@[simp] theorem portFrame_upStart {l : Fin 8} : PortFrame s (t.upStart l) ↔ PortFrame s t := by
  refine Frame.iff ?_
  unfold State.upStart
  simp [portObjs]

@[simp] theorem portFrame_txEnable {l : Fin 8} : PortFrame s (t.txEnable l) ↔ PortFrame s t := by
  refine Frame.iff ?_
  unfold State.txEnable
  simp

@[simp] theorem portFrame_portEnable {p : Fin 8} : PortFrame s (t.portEnable p) ↔ PortFrame s t := by
  refine Frame.iff ?_
  unfold State.portEnable
  simp [frame_forEach]

@[simp] theorem portFrame_linkDown {p : Fin 8} : PortFrame s (t.linkDown p) ↔ PortFrame s t := by
  refine Frame.iff ?_
  unfold State.linkDown
  simp [frame_forEach]

@[simp] theorem portFrame_linkRest {p : Fin 8} : PortFrame s (t.linkRest p) ↔ PortFrame s t := by
  refine Frame.iff ?_
  unfold State.linkRest
  simp [portObjs]

@[simp] theorem portFrame_unitTime {h : Fin 2} {since : Nat} : PortFrame s (t.unitTime h since) ↔ PortFrame s t := by
  refine Frame.iff ?_
  unfold State.unitTime
  simp

@[simp] theorem portFrame_unitsTime {cs : List Codeword} : PortFrame s (t.unitsTime cs) ↔ PortFrame s t := by
  refine frame_forEach fun c _ u => ?_
  split
  · simp
  · exact .refl

@[simp] theorem portFrame_ticDiscard {l : Fin 8} : PortFrame s (t.ticDiscard l) ↔ PortFrame s t := by
  refine Frame.iff ?_
  unfold State.ticDiscard
  simp [portObjs]

@[simp] theorem portFrame_tlIdle {l : Fin 8} : PortFrame s (t.tlIdle l) ↔ PortFrame s t := by
  refine Frame.iff ?_
  unfold State.tlIdle
  simp [portObjs]

@[simp] theorem portFrame_rxIdle {l : Fin 8} : PortFrame s (t.rxIdle l) ↔ PortFrame s t := by
  refine Frame.iff ?_
  unfold State.rxIdle
  simp

@[simp] theorem portFrame_portRxIdle {p : Fin 8} : PortFrame s (t.portRxIdle p) ↔ PortFrame s t := by
  refine Frame.iff ?_
  unfold State.portRxIdle
  simp [frame_forEach]

@[simp] theorem portFrame_testQuiet {p : Fin 8} : PortFrame s (t.testQuiet p) ↔ PortFrame s t := by
  refine Frame.iff ?_
  unfold State.testQuiet
  simp [portObjs]

@[simp] theorem portFrame_votesDs : PortFrame s (t.votesDs) ↔ PortFrame s t := by
  refine Frame.iff ?_
  unfold State.votesDs
  simp

@[simp] theorem portFrame_portOff {p : Fin 8} {st : Nat} : PortFrame s (t.portOff p st) ↔ PortFrame s t := by
  refine Frame.iff ?_
  unfold State.portOff
  simp [portObjs, frame_forEach]

@[simp] theorem portFrame_portStandby {p : Fin 8} : PortFrame s (t.portStandby p) ↔ PortFrame s t := by
  refine Frame.iff ?_
  unfold State.portStandby
  simp [frame_forEach]

@[simp] theorem portFrame_setGoal {p : Fin 8} {g : PGoal} : PortFrame s (t.setGoal p g) ↔ PortFrame s t := by
  refine Frame.iff ?_
  unfold State.setGoal
  simp

@[simp] theorem portFrame_settleOff {p : Fin 8} : PortFrame s (t.settleOff p) ↔ PortFrame s t := by
  refine Frame.iff ?_
  unfold State.settleOff
  repeat' split
  all_goals simp

@[simp] theorem portFrame_rateCalibrate {p : Fin 8} : PortFrame s (t.rateCalibrate p) ↔ PortFrame s t := by
  refine Frame.iff ?_
  unfold State.rateCalibrate
  simp [frame_forEach]

@[simp] theorem portFrame_rateEnd {p : Fin 8} : PortFrame s (t.rateEnd p) ↔ PortFrame s t := by
  refine Frame.iff ?_
  unfold State.rateEnd
  simp [portObjs]

@[simp] theorem portFrame_rateSwitch {p : Fin 8} {rate : Nat} : PortFrame s (t.rateSwitch p rate) ↔ PortFrame s t := by
  refine Frame.iff ?_
  unfold State.rateSwitch
  simp [portObjs, frame_forEach]

@[simp] theorem portFrame_txDown {l : Fin 8} : PortFrame s (t.txDown l) ↔ PortFrame s t := by
  refine Frame.iff ?_
  unfold State.txDown
  simp only
  repeat' split
  all_goals simp [portObjs]

@[simp] theorem portFrame_portDown {p : Fin 8} : PortFrame s (t.portDown p) ↔ PortFrame s t := by
  refine Frame.iff ?_
  unfold State.portDown
  simp [frame_forEach]

@[simp] theorem portFrame_testBegin {p : Fin 8} {k : Nat} : PortFrame s (t.testBegin p k) ↔ PortFrame s t := by
  refine Frame.iff ?_
  unfold State.testBegin
  simp [frame_forEach]

@[simp] theorem portFrame_settleRunning {p : Fin 8} : PortFrame s (t.settleRunning p) ↔ PortFrame s t := by
  refine Frame.iff ?_
  unfold State.settleRunning
  repeat' split
  all_goals simp

@[simp] theorem portFrame_settleStandby {p : Fin 8} : PortFrame s (t.settleStandby p) ↔ PortFrame s t := by
  refine Frame.iff ?_
  unfold State.settleStandby
  repeat' split
  all_goals simp

@[simp] theorem portFrame_settleRate {p : Fin 8} {rate : Nat} : PortFrame s (t.settleRate p rate) ↔ PortFrame s t := by
  refine Frame.iff ?_
  unfold State.settleRate
  simp

@[simp] theorem portFrame_portSettle {p : Fin 8} : PortFrame s (t.portSettle p) ↔ PortFrame s t := by
  refine Frame.iff ?_
  unfold State.portSettle
  repeat' split
  all_goals simp

@[simp] theorem portFrame_laneSettle {l : Fin 8} : PortFrame s (t.laneSettle l) ↔ PortFrame s t := by
  refine Frame.iff ?_
  unfold State.laneSettle
  repeat' split
  all_goals simp

end Sys2Proof.Machine

/-! SUPPORT. Foreground calibration of a line converter: its start, its refusals, and its end (R95 to R98). -/

namespace Sys2Proof.Machine

/-! ## What an accepted request leaves of the readings -/

section
variable (s : State) (r : Req) (op : Opcode) (ix sub : Nat) (pl : List Byte)

@[simp] theorem State.taken_on (d : Fin 36) : (s.taken r op ix sub pl).on d = s.on d := by
  simp only [State.on, State.pwr]
  rw [State.taken_reg _ _ _ _ _ _ _ _ (by omega) (by decide)]

@[simp] theorem State.taken_pstate (p : Fin 8) : (s.taken r op ix sub pl).pstate p = s.pstate p :=
  State.taken_reg _ _ _ _ _ _ _ _ (by omega) (by decide)

@[simp] theorem State.taken_portOf (l : Fin 8) : (s.taken r op ix sub pl).portOf l = s.portOf l := by
  simp only [State.portOf, State.owner, State.halfValue, State.taken_breakout]

@[simp] theorem State.taken_clocked (l : Fin 8) : (s.taken r op ix sub pl).clocked l = s.clocked l := by
  simp only [State.clocked, State.taken_rxsynth]

end

section
variable {F : Fields} {P : Nat → Nat → Prop} {s t : State} {l : Fin 8}

@[simp] theorem frame_floorInvalid (hregs : F.regs = true) (hadc : F.adc = true) (hlsb : P Ob.LINE_NOISE_FLOOR_LSB (l.val + 1))
    (hua : P Ob.LINE_NOISE_FLOOR_UA (l.val + 1)) : Frame F P s (t.floorInvalid l) ↔ Frame F P s t := by
  refine Frame.iff ?_
  unfold State.floorInvalid
  simp [hregs, hadc, hlsb, hua]

@[simp] theorem frame_capAbort (hregs : F.regs = true) (hlookout : F.lookout = true) (hcap : F.cap = true)
    (hevents : AllowsEvents P) (hcount : P Ob.TEST_EVENTS (l.val + 1)) : Frame F P s (t.capAbort l) ↔ Frame F P s t := by
  have hstate : P Ob.TEST_CAP_STATE 0 := hevents _ _ (by simp [EventObj])
  refine Frame.iff ?_
  unfold State.capAbort
  simp [hregs, hlookout, hcap, hevents, hcount, hstate]

@[simp] theorem frame_fgStart {cold : Bool} (hregs : F.regs = true) (hadc : F.adc = true) (hlookout : F.lookout = true)
    (hcap : F.cap = true) (hevents : AllowsEvents P) (hcount : P Ob.TEST_EVENTS (l.val + 1)) (hstate : P Ob.LINE_ADC_STATE (l.val + 1))
    (hlsb : P Ob.LINE_NOISE_FLOOR_LSB (l.val + 1)) (hua : P Ob.LINE_NOISE_FLOOR_UA (l.val + 1)) :
    Frame F P s (t.fgStart l cold) ↔ Frame F P s t := by
  refine Frame.iff ?_
  unfold State.fgStart
  simp [hregs, hadc, hlookout, hcap, hevents, hcount, hstate, hlsb, hua]

@[simp] theorem frame_adcRefresh (hregs : F.regs = true) (hoffset : P Ob.LINE_ADC_OFFSET_SPREAD (l.val + 1))
    (hgain : P Ob.LINE_ADC_GAIN_SPREAD (l.val + 1)) (hfailed : P Ob.LINE_ADC_FAILED_SUBADC (l.val + 1))
    (hstate : P Ob.LINE_ADC_STATE (l.val + 1)) : Frame F P s (t.adcRefresh l) ↔ Frame F P s t := by
  refine Frame.iff ?_
  unfold State.adcRefresh
  simp [hregs, hoffset, hgain, hfailed, hstate]

@[simp] theorem frame_recalRestart (hadc : F.adc = true) : Frame F P s (t.recalRestart l) ↔ Frame F P s t := by
  refine Frame.iff ?_
  unfold State.recalRestart
  simp [hadc]

end

/-! ## The start -/

/-- What a start of a foreground calibration makes of the lane's converter (R95, R97). -/
theorem State.fgStart_adc (s : State) (l : Fin 8) (cold : Bool) : (s.fgStart l cold).adc =
    s.adc.set l { s.adc[l] with fgRun := s.clocked l, fgWait := !s.clocked l, fgCold := cold || s.adc[l].fgCold, dark := [] } := by
  have habort : ∀ u : State, (u.capAbort l).adc = u.adc := fun u => by
    have hframe : Frame { regs := true, lookout := true, cap := true } (fun _ _ => True) u (u.capAbort l) := by simp
    exact hframe.view State.adc fun _ _ => rfl
  unfold State.fgStart State.floorInvalid
  simp only
  split <;> simp [habort, State.modAdcLane, *]

theorem State.fgStart_reg (s : State) (l : Fin 8) (cold : Bool) :
    (s.fgStart l cold).reg Ob.LINE_ADC_STATE (l.val + 1) = 1 ∧ (s.fgStart l cold).reg Ob.LINE_NOISE_FLOOR_LSB (l.val + 1) = 0xFFFF := by
  have habort : ∀ (u : State) (ix : Nat), ix ∈ [Ob.LINE_ADC_STATE, Ob.LINE_NOISE_FLOOR_LSB] →
      (u.capAbort l).reg ix (l.val + 1) = u.reg ix (l.val + 1) := fun u ix hix => by
    have hframe : Frame .all (fun jx js => jx = Ob.TEST_EVENTS ∨ EventObj jx js) u (u.capAbort l) := by simp
    exact hframe.regs _ _ (by omega) (by revert ix; simp [EventObj])
  unfold State.fgStart State.floorInvalid
  simp only
  split
  · rw [habort _ _ (by simp), habort _ _ (by simp)]
    simp [State.reg_setReg]
  · simp [State.reg_setReg]

/-! ## The request -/

/-- Whether a lane's port, where it has one, admits a foreground calibration (R95). -/
theorem ownAdcCalFg_eq (l : Fin 8) (s : State) : ownAdcCalFg (l.val + 1) s =
    (if !s.on (Dom.lrx l) || !(match s.portOf l with | some p => s.pstate p == PS.OFF || s.pstate p == PS.STANDBY | none => true) then
      .deny St.CONFIG_CONFLICT
    else if s.adc[l].fgRun || s.adc[l].fgWait then .deny St.BUSY else .later (s.fgStart l false)) := by
  unfold ownAdcCalFg
  rw [dif_pos (by omega)]
  rfl

/-! ## The end -/

/-- The converter with the words of a calibration that its sub-ADCs passed (R96, R98). -/
def AdcLane.fgTaken (a : AdcLane) (m : FgResult) : AdcLane :=
  let pick (new old : Lanes Int 128) : Lanes Int 128 := Vector.ofFn (fun k => if fgFails m k then old[k] else new[k])
  { a with
    coarse := pick m.coarse a.coarse, fine := pick m.fine a.fine, gain := pick m.gain a.gain
    fineT := pick m.fine a.fine, gainT := pick m.gain a.gain, skewT := clampInt (-64) 64 m.skew
    failed := ((fins 128).filter (fgFails m)).map (·.val), clampFine := false, clampGain := false
    clampSkew := decide (64 < m.skew.natAbs), fgRun := false, fgCold := false }

/-- Whether a foreground calibration fails (R98). -/
def fgFailed (m : FgResult) : Bool :=
  decide ((fins 128).filter (fgFails m) ≠ []) || decide (64 < m.skew.natAbs) || decide (1000 < m.noise) ||
    (decide (m.fullScale < 540) || decide (660 < m.fullScale))

/-- The state with a calibration's words and results taken. -/
def State.fgNoted (s : State) (l : Fin 8) (m : FgResult) : State :=
  ((((((s.modAdcLane l (fun a => a.fgTaken m)).setReg Ob.LINE_ADC_SKEW_TRIM (l.val + 1) (clampInt (-64) 64 m.skew)).setReg
    Ob.LINE_ADC_SELF_NOISE_LSB (l.val + 1) (m.noise : Nat)).setReg Ob.LINE_ADC_CAL_RESULT (l.val + 1)
      (if fgFailed m then 2 else 1)).setReg Ob.LINE_ADC_CAL_KIND (l.val + 1) 0).bump Ob.LINE_ADC_CAL_COUNT (l.val + 1) 1).setStamp
    Ob.LINE_ADC_CAL_TIME (l.val + 1)

/-- The state with the lane's marks and its timer renewed after a calibration. -/
def State.fgRested (s : State) (l : Fin 8) (m : FgResult) : State :=
  (((s.fgNoted l m).setReg Ob.LINE_ADC_STATE (l.val + 1) 2).adcRefresh l).recalRestart l

theorem State.fgRested_frame (s : State) (l : Fin 8) (m : FgResult) :
    Frame { regs := true, adc := true } (fun ix sub => ix ∈ [Ob.LINE_ADC_OFFSET_SPREAD, Ob.LINE_ADC_GAIN_SPREAD,
      Ob.LINE_ADC_FAILED_SUBADC, Ob.LINE_ADC_STATE] ∧ sub = l.val + 1) (s.fgNoted l m) (s.fgRested l m) := by
  unfold State.fgRested
  simp

/-- A calibration ends with its events and its reply. -/
theorem State.fgEnd_frame (s : State) (l : Fin 8) (m : FgResult) :
    Frame { regs := true, lookout := true, cap := true, mmp := true }
      (fun ix sub => (ix = Ob.LINE_ADC_EVENTS ∧ sub = l.val + 1) ∨ EventObj ix sub) (s.fgRested l m) (s.fgEnd l m) := by
  unfold State.fgEnd
  change Frame _ _ (s.fgRested l m) ((if fgFailed m then State.raise (forEach _ _ (s.fgRested l m)) _ _ _ _ _ else
      (forEach _ _ (s.fgRested l m))).finish _ _ _)
  simp [frame_forEach]

theorem State.fgNoted_adc (s : State) (l : Fin 8) (m : FgResult) : (s.fgNoted l m).adc = s.adc.set l (s.adc[l].fgTaken m) := rfl

theorem State.fgEnd_adc (s : State) (l : Fin 8) (m : FgResult) : ∃ recalAt recalLeft, (s.fgEnd l m).adc =
    s.adc.set l { s.adc[l].fgTaken m with due := false, postwake := false, recalAt := recalAt, recalLeft := recalLeft } := by
  have hrefresh : ∀ u : State, (u.adcRefresh l).adc = u.adc := fun u => by
    have hframe : Frame { regs := true } (fun _ _ => True) u (u.adcRefresh l) := by simp
    exact hframe.view State.adc fun _ _ => rfl
  have hend : (s.fgEnd l m).adc = (s.fgRested l m).adc := (s.fgEnd_frame l m).view State.adc fun _ _ => rfl
  rw [hend]
  unfold State.fgRested State.recalRestart
  simp only [State.modAdcLane, hrefresh, State.setReg_adc, State.fgNoted_adc, Fin.getElem_fin, Vector.getElem_set_self, Vector.set_set]
  exact ⟨_, _, rfl⟩

/-- The numeric objects that a calibration's results fix. -/
theorem State.fgEnd_reg (s : State) (l : Fin 8) (m : FgResult) {ix : Nat} (h : ix ∉ [Ob.LINE_ADC_OFFSET_SPREAD, Ob.LINE_ADC_GAIN_SPREAD,
    Ob.LINE_ADC_FAILED_SUBADC, Ob.LINE_ADC_STATE, Ob.LINE_ADC_EVENTS]) (hevent : ¬ EventObj ix (l.val + 1)) :
    (s.fgEnd l m).reg ix (l.val + 1) = (s.fgNoted l m).reg ix (l.val + 1) := by
  rw [(s.fgEnd_frame l m).regs _ _ (by omega), (s.fgRested_frame l m).regs _ _ (by omega)]
  · intro hP
    exact h (List.mem_append_left [Ob.LINE_ADC_EVENTS] hP.1)
  · rintro (⟨rfl, -⟩ | hP)
    · exact h (by simp)
    · exact hevent hP

theorem fgFailed_iff (m : FgResult) : fgFailed m = true ↔
    (∃ k : Fin 128, 31 ≤ m.coarse[k].natAbs ∨ 128 < m.fine[k].natAbs ∨ 128 < m.gain[k].natAbs) ∨ 64 < m.skew.natAbs ∨
      1000 < m.noise ∨ m.fullScale < 540 ∨ 660 < m.fullScale := by
  have hbad : (fins 128).filter (fgFails m) ≠ [] ↔
      ∃ k : Fin 128, 31 ≤ m.coarse[k].natAbs ∨ 128 < m.fine[k].natAbs ∨ 128 < m.gain[k].natAbs := by
    simp only [ne_eq, List.filter_eq_nil_iff, not_forall, not_not, fins, List.mem_finRange, exists_prop, true_and, fgFails,
      Bool.or_eq_true, decide_eq_true_eq, or_assoc]
  unfold fgFailed
  rw [← hbad]
  simp only [Bool.or_eq_true, decide_eq_true_eq, or_assoc]

/-- Settles O14: the start, its two refusals, and an end whose results stand before anything that its port then does. -/
theorem foregroundCalibrationRuns : Obligations.ForegroundCalibrationRuns := by
  unfold Obligations.ForegroundCalibrationRuns
  refine ⟨?starts, ?conflicts, ?busy, ?ends, ?void⟩
  case starts =>
    intro s r l hacc hon hfree hrun hwait
    have hadmits : (match s.portOf l with | some p => s.pstate p == PS.OFF || s.pstate p == PS.STANDBY | none => true) = true := by
      cases hport : s.portOf l with
      | none => rfl
      | some p => simpa using hfree p hport
    have hown : ownAdcCalFg (l.val + 1) (s.taken r .exec Ob.LINE_ADC_CAL_FG (l.val + 1) [0]) =
        .later ((s.taken r .exec Ob.LINE_ADC_CAL_FG (l.val + 1) [0]).fgStart l false) := by
      rw [ownAdcCalFg_eq]
      simp only [State.taken_on, State.taken_portOf, State.taken_pstate, State.taken_adc, hon, hadmits, hrun, hwait]
      rfl
    have hframe : Frame { regs := true, adc := true, lookout := true, cap := true }
        (fun ix sub => ix = Ob.MMP_RX_FRAMES ∨ (ix ∈ [Ob.LINE_ADC_STATE, Ob.LINE_NOISE_FLOOR_LSB, Ob.LINE_NOISE_FLOOR_UA,
          Ob.TEST_EVENTS] ∧ sub = l.val + 1) ∨ EventObj ix sub) (s.taken r .exec Ob.LINE_ADC_CAL_FG (l.val + 1) [0])
        ((s.taken r .exec Ob.LINE_ADC_CAL_FG (l.val + 1) [0]).fgStart l false) := by simp
    refine ⟨_, next_serve_later hacc hown, hframe.fields, (State.fgStart_reg _ l false).1, (State.fgStart_reg _ l false).2, ?_, ?_, ?_, ?_⟩
    · simp [State.fgStart_adc]
    · simp [State.fgStart_adc]
    · intro k hk
      simp [State.fgStart_adc, Vector.getElem_set_ne, Fin.val_ne_of_ne hk.symm]
    · exact .of_taken hframe.regs fun _ => .inl rfl
  case conflicts =>
    intro s r l hacc hrefused
    refine next_serve_deny hacc ?_
    rw [ownAdcCalFg_eq]
    simp only [State.taken_on, State.taken_portOf, State.taken_pstate]
    rw [if_pos]
    rcases hrefused with hoff | ⟨p, hport, hnotOff, hnotStandby⟩
    · simp [hoff]
    · simp [hport, hnotOff, hnotStandby]
  case busy =>
    intro s r l hacc hon hfree hruns
    have hadmits : (match s.portOf l with | some p => s.pstate p == PS.OFF || s.pstate p == PS.STANDBY | none => true) = true := by
      cases hport : s.portOf l with
      | none => rfl
      | some p => simpa using hfree p hport
    refine next_serve_deny hacc ?_
    rw [ownAdcCalFg_eq]
    simp only [State.taken_on, State.taken_portOf, State.taken_pstate, State.taken_adc, hon, hadmits]
    rw [if_neg (by simp), if_pos (by simpa using hruns)]
  case ends =>
    intro s l m hrun
    have hexec : exec (.adcFgCalDone l m) s = .next ((s.fgEnd l m).laneSettle l) := by
      change execAdcFgCalDone l m s = _
      rw [execAdcFgCalDone, if_pos hrun]
    have hsettled : PortFrame (s.fgEnd l m) ((s.fgEnd l m).laneSettle l) := by simp
    have hreg : ∀ ix ∈ [Ob.LINE_ADC_CAL_RESULT, Ob.LINE_ADC_CAL_KIND, Ob.LINE_ADC_SELF_NOISE_LSB, Ob.LINE_ADC_CAL_COUNT,
        Ob.LINE_ADC_CAL_TIME, Ob.LINE_ADC_SKEW_TRIM],
        ((s.fgEnd l m).laneSettle l).reg ix (l.val + 1) = (s.fgNoted l m).reg ix (l.val + 1) := by
      intro ix hix
      rw [hsettled.regs _ _ (by omega) (by revert ix; simp [portObjs, EventObj]), s.fgEnd_reg l m (by revert ix; decide)
        (by revert ix; simp [EventObj])]
    have hadc : ((s.fgEnd l m).laneSettle l).adc = (s.fgEnd l m).adc := hsettled.view State.adc fun _ _ => rfl
    obtain ⟨recalAt, recalLeft, hend⟩ := s.fgEnd_adc l m
    have hnoted : Frame { portFields with adc := true } (fun _ _ => True) s (s.fgNoted l m) := by
      unfold State.fgNoted
      simp
    have hrested : Frame { portFields with adc := true } (fun _ _ => True) (s.fgNoted l m) (s.fgRested l m) :=
      (s.fgRested_frame l m).widen (fun _ _ => rfl) fun _ _ _ => trivial
    have hended : Frame { portFields with adc := true } (fun _ _ => True) (s.fgRested l m) (s.fgEnd l m) :=
      (s.fgEnd_frame l m).widen (fun _ _ => rfl) fun _ _ _ => trivial
    have hport : Frame { portFields with adc := true } (fun _ _ => True) (s.fgEnd l m) ((s.fgEnd l m).laneSettle l) :=
      hsettled.widen (fun _ _ => rfl) fun _ _ _ => trivial
    have hall := ((hnoted.trans hrested).trans hended).trans hport
    refine ⟨_, hexec, ?_, ?_, ?_, ?_, ?_, ?_, ?_, ?_, ?_, ?_, ?_, ?_⟩
    · rw [hreg _ (by simp)]
      simp [State.fgNoted, State.reg_setReg, fgFailed_iff, State.setStamp_eq, State.bump_eq, State.bumpTo_eq]
    · rw [hreg _ (by simp)]
      simp [State.fgNoted, State.reg_setReg, State.setStamp_eq, State.bump_eq, State.bumpTo_eq]
    · rw [hreg _ (by simp)]
      simp [State.fgNoted, State.reg_setReg, State.setStamp_eq, State.bump_eq, State.bumpTo_eq]
    · rw [hreg _ (by simp)]
      simp [State.fgNoted, State.reg_setReg, State.setStamp_eq, State.bump_eq, State.bumpTo_eq, State.nat]
    · rw [hreg _ (by simp)]
      exact State.reg_setReg_self _ _ _ _
    · rw [hreg _ (by simp)]
      simp [State.fgNoted, State.reg_setReg, State.setStamp_eq, State.bump_eq, State.bumpTo_eq]
    · intro k
      rw [hadc, hend]
      have hfailed : k.val ∈ ((fins 128).filter (fgFails m)).map (·.val) ↔ fgFails m k = true := by
        rw [List.mem_map_of_injective Fin.val_injective]
        simp [fins]
      refine ⟨?_, ?_, ?_, ?_⟩
      · simp [AdcLane.fgTaken]
      · simp [AdcLane.fgTaken]
      · simp [AdcLane.fgTaken]
      · simpa [AdcLane.fgTaken] using hfailed
    · rw [hadc, hend]
      simp [AdcLane.fgTaken]
    · intro k hk
      rw [hadc, hend]
      simp [Vector.getElem_set_ne, Fin.val_ne_of_ne hk.symm]
    · exact hall.view State.time fun _ _ => rfl
    · exact hall.view State.fuse fun _ _ => rfl
    · exact hall.view State.flash fun _ _ => rfl
  case void =>
    intro s l m hidle
    change execAdcFgCalDone l m s = _
    rw [execAdcFgCalDone, if_neg (by rw [hidle]; exact Bool.false_ne_true)]

end Sys2Proof.Machine

/-! SUPPORT. What a change of one lane leaves of the other lanes, and the samples that pass a lane's receive path (R64, R85, R86). -/

namespace Sys2Proof.Machine

/-! ## The other lanes -/

/-- The converters, receivers and transmitters, the inner code's lanes and the searches of all lanes but one are the same. -/
structure LaneKept (l : Fin 8) (s t : State) : Prop where
  adc : ∀ k : Fin 8, k ≠ l → t.adc[k] = s.adc[k]
  rx : ∀ k : Fin 8, k ≠ l → t.rx[k] = s.rx[k]
  tx : ∀ k : Fin 8, k ≠ l → t.tx[k] = s.tx[k]
  tic : ∀ k : Fin 8, k ≠ l → t.tic[k] = s.tic[k]
  srch : ∀ k : Fin 8, k ≠ l → t.srch[k] = s.srch[k]
  outerLane : ∀ k : Fin 8, k ≠ l → t.outerLane[k] = s.outerLane[k]

theorem getElem_set_other {α : Type} {n : Nat} (v : Vector α n) (l : Fin n) (x : α) {k : Fin n} (hk : k ≠ l) :
    (v.set l x)[k] = v[k] := by
  simp [Vector.getElem_set_ne, Fin.val_ne_of_ne hk.symm]

section
variable {l : Fin 8} {s t u : State}

@[simp] theorem LaneKept.refl : LaneKept l s s := by constructor <;> exact fun _ _ => rfl

theorem LaneKept.symm (h : LaneKept l s t) : LaneKept l t s where
  adc := fun k hk => (h.adc k hk).symm
  rx := fun k hk => (h.rx k hk).symm
  tx := fun k hk => (h.tx k hk).symm
  tic := fun k hk => (h.tic k hk).symm
  srch := fun k hk => (h.srch k hk).symm
  outerLane := fun k hk => (h.outerLane k hk).symm

theorem LaneKept.trans (h : LaneKept l s t) (h2 : LaneKept l t u) : LaneKept l s u where
  adc := fun k hk => (h2.adc k hk).trans (h.adc k hk)
  rx := fun k hk => (h2.rx k hk).trans (h.rx k hk)
  tx := fun k hk => (h2.tx k hk).trans (h.tx k hk)
  tic := fun k hk => (h2.tic k hk).trans (h.tic k hk)
  srch := fun k hk => (h2.srch k hk).trans (h.srch k hk)
  outerLane := fun k hk => (h2.outerLane k hk).trans (h.outerLane k hk)

/-- A step that keeps the other lanes can be taken off the end of a chain. -/
theorem LaneKept.iff (h : LaneKept l t u) : LaneKept l s u ↔ LaneKept l s t :=
  ⟨fun hu => hu.trans h.symm, fun ht => ht.trans h⟩

/-- A frame that chooses none of the lanes' fields keeps all lanes. -/
theorem LaneKept.of_frame {F : Fields} {P : Nat → Nat → Prop} (h : Frame F P s t) (hadc : F.adc = false) (hrx : F.rx = false)
    (htx : F.tx = false) (htic : F.tic = false) (hsrch : F.srch = false) (houter : F.outerLane = false) : LaneKept l s t := by
  have hfields := h.fields
  unfold State.graft at hfields
  simp only [hadc, hrx, htx, htic, hsrch, houter, cond_false] at hfields
  rw [hfields]
  constructor <;> exact fun _ _ => rfl

@[simp] theorem laneKept_ite {c : Prop} [Decidable c] :
    LaneKept l s (if c then t else u) ↔ if c then LaneKept l s t else LaneKept l s u := by
  split <;> rfl

theorem laneKept_forEach {α : Type} {is : List α} {f : α → State → State} (h : ∀ a ∈ is, ∀ t, LaneKept l t (f a t)) :
    LaneKept l s (forEach is f t) ↔ LaneKept l s t := by
  refine LaneKept.iff ?_
  unfold forEach
  induction is generalizing t with
  | nil => exact .refl
  | cons a is ih => exact (h a List.mem_cons_self t).trans (ih fun b hb => h b (List.mem_cons_of_mem _ hb))

/-- The fields beside the lanes' own. -/
abbrev notLanes : Fields :=
  { Fields.all with adc := false, rx := false, tx := false, tic := false, srch := false, outerLane := false }

theorem LaneKept.of_notLanes (h : Frame notLanes (fun _ _ => True) t u) : LaneKept l s u ↔ LaneKept l s t :=
  LaneKept.iff (.of_frame h rfl rfl rfl rfl rfl rfl)

@[simp] theorem laneKept_setReg {ix sub : Nat} {v : Int} : LaneKept l s (t.setReg ix sub v) ↔ LaneKept l s t :=
  LaneKept.iff (by constructor <;> exact fun _ _ => rfl)
@[simp] theorem laneKept_bump {ix sub n : Nat} : LaneKept l s (t.bump ix sub n) ↔ LaneKept l s t := laneKept_setReg
@[simp] theorem laneKept_bump64 {ix sub n : Nat} : LaneKept l s (t.bump64 ix sub n) ↔ LaneKept l s t := laneKept_setReg
@[simp] theorem laneKept_setStamp {ix sub : Nat} : LaneKept l s (t.setStamp ix sub) ↔ LaneKept l s t := laneKept_setReg
@[simp] theorem laneKept_setTl {v : Int} : LaneKept l s (t.setTl l v) ↔ LaneKept l s t := laneKept_setReg
@[simp] theorem laneKept_setEq {v : Int} : LaneKept l s (t.setEq l v) ↔ LaneKept l s t := laneKept_setReg
@[simp] theorem laneKept_record {src inst detail : Nat} : LaneKept l s (t.record src inst detail) ↔ LaneKept l s t :=
  LaneKept.of_notLanes (by simp)
@[simp] theorem laneKept_raise {src inst detail ix sub : Nat} : LaneKept l s (t.raise src inst detail ix sub) ↔ LaneKept l s t := by
  unfold State.raise
  simp
@[simp] theorem laneKept_finish {ix sub st : Nat} : LaneKept l s (t.finish ix sub st) ↔ LaneKept l s t := LaneKept.of_notLanes (by simp)
@[simp] theorem laneKept_taken {r : Req} {op : Opcode} {ix sub : Nat} {pl : List Byte} :
    LaneKept l s (t.taken r op ix sub pl) ↔ LaneKept l s t := LaneKept.of_notLanes (by simp)
@[simp] theorem laneKept_modEng {e : Fin 128} {f : Engine → Engine} : LaneKept l s (t.modEng e f) ↔ LaneKept l s t :=
  LaneKept.of_notLanes (by simp)
@[simp] theorem laneKept_trigger {e : Fin 128} {task within : Nat} : LaneKept l s (t.trigger e task within) ↔ LaneKept l s t := by
  unfold State.trigger
  simp

@[simp] theorem laneKept_modAdcLane {f : AdcLane → AdcLane} : LaneKept l s (t.modAdcLane l f) ↔ LaneKept l s t :=
  LaneKept.iff (by constructor <;> exact fun _ hk => by simp [State.modAdcLane, getElem_set_other _ _ _ hk])
@[simp] theorem laneKept_modRx {f : RxLane → RxLane} : LaneKept l s (t.modRx l f) ↔ LaneKept l s t :=
  LaneKept.iff (by constructor <;> exact fun _ hk => by simp [State.modRx, getElem_set_other _ _ _ hk])
@[simp] theorem laneKept_modDsp {f : Dsp → Dsp} : LaneKept l s (t.modDsp l f) ↔ LaneKept l s t := laneKept_modRx
@[simp] theorem laneKept_modTx {f : TxLane → TxLane} : LaneKept l s (t.modTx l f) ↔ LaneKept l s t :=
  LaneKept.iff (by constructor <;> exact fun _ hk => by simp [State.modTx, getElem_set_other _ _ _ hk])
@[simp] theorem laneKept_modTic {f : TicLane → TicLane} : LaneKept l s (t.modTic l f) ↔ LaneKept l s t :=
  LaneKept.iff (by constructor <;> exact fun _ hk => by simp [State.modTic, getElem_set_other _ _ _ hk])
@[simp] theorem laneKept_modSrch {f : SearchLane → SearchLane} : LaneKept l s (t.modSrch l f) ↔ LaneKept l s t :=
  LaneKept.iff (by constructor <;> exact fun _ hk => by simp [State.modSrch, getElem_set_other _ _ _ hk])
@[simp] theorem laneKept_modOuterLane {f : OuterLane → OuterLane} : LaneKept l s (t.modOuterLane l f) ↔ LaneKept l s t :=
  LaneKept.iff (by constructor <;> exact fun _ hk => by simp [State.modOuterLane, getElem_set_other _ _ _ hk])

end

/-! ## The port of a lane -/

theorem State.portOf_congr {s t : State} (hb : t.breakout = s.breakout) (l : Fin 8) : t.portOf l = s.portOf l := by
  simp only [State.portOf, State.owner, State.halfValue, hb]

theorem State.laneHalted_congr {s t : State} (hb : t.breakout = s.breakout)
    (hshed : ∀ p : Fin 8, t.reg Ob.FABRIC_SHED_LEVEL (p.val + 1) = s.reg Ob.FABRIC_SHED_LEVEL (p.val + 1))
    (hthrottle : t.reg Ob.THERMAL_THROTTLE_STEP 0 = s.reg Ob.THERMAL_THROTTLE_STEP 0) (l : Fin 8) : t.laneHalted l = s.laneHalted l := by
  unfold State.laneHalted
  rw [State.portOf_congr hb]
  cases s.portOf l with
  | none => rfl
  | some p =>
    have hsame : t.shed p = s.shed p ∧ t.throttle = s.throttle := ⟨congrArg Int.toNat (hshed p), congrArg Int.toNat hthrottle⟩
    change t.adaptHalted p = s.adaptHalted p
    unfold State.adaptHalted
    rw [hsame.1, hsame.2]

theorem State.laneRate_congr {s t : State} (hb : t.breakout = s.breakout)
    (hrate : ∀ p : Fin 8, t.reg Ob.PORT_RATE_ACTIVE (p.val + 1) = s.reg Ob.PORT_RATE_ACTIVE (p.val + 1)) (l : Fin 8) :
    t.laneRate l = s.laneRate l := by
  unfold State.laneRate
  rw [State.portOf_congr hb]
  cases s.portOf l with
  | none => rfl
  | some p => exact congrArg Int.toNat (hrate p)

/-! ## The samples of a command -/

section
variable {F : Fields} {P : Nat → Nat → Prop} {s t : State} {l : Fin 8}

@[simp] theorem frame_trigger {e : Fin 128} {task within : Nat} (hregs : F.regs = true) (heng : F.eng = true)
    (hP : P Ob.ENG_STATE (e.val + 1)) : Frame F P s (t.trigger e task within) ↔ Frame F P s t := by
  refine Frame.iff ?_
  unfold State.trigger
  simp [hregs, heng, hP]

@[simp] theorem frame_capRecord {source : Int} {es : List (Nat × Nat)} (hcap : F.cap = true) :
    Frame F P s (t.capRecord l source es) ↔ Frame F P s t := by
  refine Frame.iff ?_
  unfold State.capRecord
  split
  · exact (frame_with_cap hcap).mpr .refl
  · exact .refl

@[simp] theorem frame_capSamples {k : Nat} {codes inputs : List Int} {decided : List Nat} (hcap : F.cap = true) :
    Frame F P s (t.capSamples l k codes inputs decided) ↔ Frame F P s t := by
  unfold State.capSamples
  simp [hcap]

@[simp] theorem frame_lineCheck {ds : List (Nat × Bool)} (hregs : F.regs = true) (hrx : F.rx = true)
    (hbits : P Ob.TEST_LINE_BITS (l.val + 1)) (herrors : P Ob.TEST_LINE_ERRORS (l.val + 1)) :
    Frame F P s (t.lineCheck l ds) ↔ Frame F P s t := by
  unfold State.lineCheck
  simp only
  rw [frame_bump64 hregs (by simp) herrors, frame_bump64 hregs (by simp) hbits]
  exact frame_with_rx hrx

@[simp] theorem frame_showW (hregs : F.regs = true) (hP : P Ob.LINE_TL_FREQ_PPB (l.val + 1)) :
    Frame F P s (t.showW l) ↔ Frame F P s t := by
  unfold State.showW
  simp [hregs, hP]

@[simp] theorem frame_rxSamples {codes : List Int} (hregs : F.regs = true) (hadc : F.adc = true) (hrx : F.rx = true)
    (heng : F.eng = true) (hcap : F.cap = true) (hfreq : P Ob.LINE_TL_FREQ_PPB (l.val + 1))
    (hmarked : P Ob.LINE_UNSETTLED_BLOCKS (l.val + 1)) (hbits : P Ob.TEST_LINE_BITS (l.val + 1))
    (herrors : P Ob.TEST_LINE_ERRORS (l.val + 1)) (hstate : ∀ e : Fin 128, P Ob.ENG_STATE (e.val + 1)) :
    Frame F P s (t.rxSamples l codes) ↔ Frame F P s t := by
  refine Frame.iff ?_
  unfold State.rxSamples
  simp [hregs, hadc, hrx, heng, hcap, hfreq, hmarked, hbits, herrors, hstate, frame_forEach]

@[simp] theorem laneKept_capSamples {k : Nat} {codes inputs : List Int} {decided : List Nat} :
    LaneKept l s (t.capSamples l k codes inputs decided) ↔ LaneKept l s t := LaneKept.of_notLanes (by simp)

@[simp] theorem laneKept_lineCheck {ds : List (Nat × Bool)} : LaneKept l s (t.lineCheck l ds) ↔ LaneKept l s t := by
  unfold State.lineCheck
  simp only [laneKept_bump64]
  exact laneKept_modRx (f := fun x => { x with chk := _ })

@[simp] theorem laneKept_showW : LaneKept l s (t.showW l) ↔ LaneKept l s t := laneKept_setReg

@[simp] theorem laneKept_rxSamples {codes : List Int} : LaneKept l s (t.rxSamples l codes) ↔ LaneKept l s t := by
  refine LaneKept.iff ?_
  unfold State.rxSamples
  simp [laneKept_forEach]

end

/-- What the samples of a command can touch (R64, R85, R140, R322, R331). -/
theorem State.rxSamples_frame (s : State) (l : Fin 8) (codes : List Int) :
    Frame { regs := true, adc := true, rx := true, eng := true, cap := true } (fun ix sub => (ix ∈ [Ob.LINE_TL_FREQ_PPB,
      Ob.LINE_UNSETTLED_BLOCKS, Ob.TEST_LINE_BITS, Ob.TEST_LINE_ERRORS] ∧ sub = l.val + 1) ∨ ix = Ob.ENG_STATE) s (s.rxSamples l codes) := by
  simp

/-- The objects that no sample writes. -/
theorem State.rxSamples_reg (s : State) (l : Fin 8) (codes : List Int) {ix sub : Nat} (hsub : sub < 256)
    (h : ix ∉ [Ob.LINE_TL_FREQ_PPB, Ob.LINE_UNSETTLED_BLOCKS, Ob.TEST_LINE_BITS, Ob.TEST_LINE_ERRORS, Ob.ENG_STATE]) :
    (s.rxSamples l codes).reg ix sub = s.reg ix sub := by
  refine (s.rxSamples_frame l codes).regs ix sub hsub ?_
  rintro (⟨hmem, -⟩ | rfl)
  · exact h (List.mem_append_left [Ob.ENG_STATE] hmem)
  · exact h (by simp)

theorem State.rxSamples_nil (s : State) (l : Fin 8) : s.rxSamples l [] = s := if_pos (.inl rfl)

theorem State.rxSamples_of_off {s : State} {l : Fin 8} (codes : List Int) (hoff : s.on (Dom.lrx l) = false) : s.rxSamples l codes = s :=
  if_pos (.inr (by simp [hoff]))

/-- The converter takes every sample (R85). -/
theorem State.rxSamples_adc {s : State} {l : Fin 8} (codes : List Int) (hon : s.on (Dom.lrx l) = true) :
    (s.rxSamples l codes).adc[l] = (s.adc[l].takeAll (s.clocked l) codes).1 := by
  by_cases hcodes : codes = []
  · rw [hcodes, State.rxSamples_nil]
    rfl
  · have hframe : Frame { Fields.all with adc := false } (fun _ _ => True)
        (s.modAdcLane l fun _ => (s.adc[l].takeAll (s.clocked l) codes).1) (s.rxSamples l codes) := by
      unfold State.rxSamples
      rw [if_neg (by simp [hcodes, hon])]
      simp [frame_forEach]
    have hadc : (s.rxSamples l codes).adc = s.adc.set l (s.adc[l].takeAll (s.clocked l) codes).1 := hframe.view State.adc fun _ _ => rfl
    rw [hadc]
    simp

theorem AdcLane.takeAll_runs (a : AdcLane) (clocked : Bool) (codes : List Int) :
    (a.takeAll clocked codes).1.lowRun = a.lowRun ∧ (a.takeAll clocked codes).1.highRun = a.highRun := by
  induction codes generalizing a with
  | nil => exact ⟨rfl, rfl⟩
  | cons c cs ih =>
    unfold AdcLane.takeAll
    simp only
    split
    · exact ih _
    · exact ih _

end Sys2Proof.Machine

/-! SUPPORT. Background calibration of a line converter, and the level and loss of signal of a window (R93, R99 to R112). -/

namespace Sys2Proof.Machine

section
variable {F : Fields} {P : Nat → Nat → Prop} {s t : State} {l : Fin 8}

@[simp] theorem frame_levels {m : AdcWin} (hregs : F.regs = true) (hadc : F.adc = true) (hrms : P Ob.LINE_SIGNAL_RMS (l.val + 1))
    (hdc : P Ob.LINE_SIGNAL_DC (l.val + 1)) (hclip : P Ob.LINE_CLIP_RATE (l.val + 1)) :
    Frame F P s (t.levels l m) ↔ Frame F P s t := by
  refine Frame.iff ?_
  unfold State.levels
  simp [hregs, hadc, hrms, hdc, hclip]

@[simp] theorem frame_accumulate {m : AdcWin} {dark : Bool} (hadc : F.adc = true) :
    Frame F P s (t.accumulate l m dark) ↔ Frame F P s t := by
  refine Frame.iff ?_
  unfold State.accumulate
  simp [hadc]

@[simp] theorem frame_noiseFloor {m : AdcWin} (hregs : F.regs = true) (hadc : F.adc = true)
    (hlsb : P Ob.LINE_NOISE_FLOOR_LSB (l.val + 1)) (hua : P Ob.LINE_NOISE_FLOOR_UA (l.val + 1)) :
    Frame F P s (t.noiseFloor l m) ↔ Frame F P s t := by
  refine Frame.iff ?_
  unfold State.noiseFloor State.noiseUaNow
  simp [hregs, hadc, hlsb, hua]

@[simp] theorem frame_losDetect (hregs : F.regs = true) (hadc : F.adc = true) (hraw : P Ob.LINE_LOS_RAW (l.val + 1))
    (hlsb : P Ob.LINE_NOISE_FLOOR_LSB (l.val + 1)) (hua : P Ob.LINE_NOISE_FLOOR_UA (l.val + 1)) :
    Frame F P s (t.losDetect l) ↔ Frame F P s t := by
  refine Frame.iff ?_
  unfold State.losDetect
  simp [hregs, hadc, hraw, hlsb, hua]

@[simp] theorem frame_quality (hregs : F.regs = true) (hrx : F.rx = true) (hmse : P Ob.LINE_MSE (l.val + 1))
    (hsnr : P Ob.LINE_SNR_DB (l.val + 1)) (hber : P Ob.LINE_BER_EST (l.val + 1)) :
    Frame F P s (t.quality l) ↔ Frame F P s t := by
  refine Frame.iff ?_
  unfold State.quality
  simp [hregs, hrx, hmse, hsnr, hber]

@[simp] theorem frame_markRun (hrx : F.rx = true) : Frame F P s (t.markRun l) ↔ Frame F P s t := frame_modDsp hrx

@[simp] theorem frame_tlLight (hregs : F.regs = true) (hrx : F.rx = true) (hstate : P Ob.LINE_TL_STATE (l.val + 1)) :
    Frame F P s (t.tlLight l) ↔ Frame F P s t := by
  refine Frame.iff ?_
  unfold State.tlLight
  simp [hregs, hrx, hstate]

@[simp] theorem frame_rampStep (hregs : F.regs = true) (hadc : F.adc = true) (hskew : P Ob.LINE_ADC_SKEW_TRIM (l.val + 1))
    (hoffset : P Ob.LINE_ADC_OFFSET_SPREAD (l.val + 1)) (hgain : P Ob.LINE_ADC_GAIN_SPREAD (l.val + 1))
    (hfailed : P Ob.LINE_ADC_FAILED_SUBADC (l.val + 1)) (hstate : P Ob.LINE_ADC_STATE (l.val + 1)) :
    Frame F P s (t.rampStep l) ↔ Frame F P s t := by
  refine Frame.iff ?_
  unfold State.rampStep
  simp [hregs, hadc, hskew, hoffset, hgain, hfailed, hstate]

@[simp] theorem laneKept_floorInvalid : LaneKept l s (t.floorInvalid l) ↔ LaneKept l s t := by
  unfold State.floorInvalid
  simp

@[simp] theorem laneKept_levels {m : AdcWin} : LaneKept l s (t.levels l m) ↔ LaneKept l s t := by
  unfold State.levels
  simp

@[simp] theorem laneKept_accumulate {m : AdcWin} {dark : Bool} : LaneKept l s (t.accumulate l m dark) ↔ LaneKept l s t := by
  refine LaneKept.iff ?_
  unfold State.accumulate
  simp

@[simp] theorem laneKept_noiseFloor {m : AdcWin} : LaneKept l s (t.noiseFloor l m) ↔ LaneKept l s t := by
  refine LaneKept.iff ?_
  unfold State.noiseFloor State.noiseUaNow
  simp

@[simp] theorem laneKept_losDetect : LaneKept l s (t.losDetect l) ↔ LaneKept l s t := by
  refine LaneKept.iff ?_
  unfold State.losDetect
  simp

@[simp] theorem laneKept_quality : LaneKept l s (t.quality l) ↔ LaneKept l s t := by
  refine LaneKept.iff ?_
  unfold State.quality
  simp

@[simp] theorem laneKept_markRun : LaneKept l s (t.markRun l) ↔ LaneKept l s t := laneKept_modDsp

@[simp] theorem laneKept_tlLight : LaneKept l s (t.tlLight l) ↔ LaneKept l s t := by
  refine LaneKept.iff ?_
  unfold State.tlLight
  simp

@[simp] theorem laneKept_adcRefresh : LaneKept l s (t.adcRefresh l) ↔ LaneKept l s t := LaneKept.of_notLanes (by simp)

@[simp] theorem laneKept_rampStep : LaneKept l s (t.rampStep l) ↔ LaneKept l s t := by
  refine LaneKept.iff ?_
  unfold State.rampStep
  simp

end

theorem State.adcRefresh_adc (s : State) (l : Fin 8) : (s.adcRefresh l).adc = s.adc := by
  have hframe : Frame { regs := true } (fun _ _ => True) s (s.adcRefresh l) := by simp
  exact hframe.view State.adc fun _ _ => rfl

theorem unitTo_self (v : Int) : unitTo v v = v := by simp [unitTo]

/-- One step of a lane's moving words; where none moves, each is one step from itself (R93). -/
theorem State.rampStep_words (s : State) (l : Fin 8) (k : Fin 128) :
    (s.rampStep l).adc[l].fine[k] = unitTo s.adc[l].fine[k] s.adc[l].fineT[k] ∧
      (s.rampStep l).adc[l].gain[k] = unitTo s.adc[l].gain[k] s.adc[l].gainT[k] := by
  unfold State.rampStep
  simp only
  by_cases hmoves : s.ramping l = true
  · simp [if_pos hmoves, State.adcRefresh_adc, State.modAdcLane]
  · have hstill := hmoves
    rw [if_neg hmoves]
    simp only [State.ramping, Bool.or_eq_true, bne_iff_ne, ne_eq, not_or, not_not] at hstill
    obtain ⟨⟨hfine, hgain⟩, -⟩ := hstill
    rw [← hfine, ← hgain, unitTo_self, unitTo_self]
    exact ⟨rfl, rfl⟩

theorem State.rampStep_skew (s : State) (l : Fin 8) : (s.rampStep l).reg Ob.LINE_ADC_SKEW_TRIM (l.val + 1) =
    unitTo (s.reg Ob.LINE_ADC_SKEW_TRIM (l.val + 1)) s.adc[l].skewT := by
  have hrefresh : ∀ u : State, (u.adcRefresh l).reg Ob.LINE_ADC_SKEW_TRIM (l.val + 1) = u.reg Ob.LINE_ADC_SKEW_TRIM (l.val + 1) := fun u => by
    have hframe : Frame .all (fun ix _ => ix ≠ Ob.LINE_ADC_SKEW_TRIM) u (u.adcRefresh l) := by simp
    exact hframe.regs _ _ (by omega) (by simp)
  unfold State.rampStep
  simp only
  split
  · rw [hrefresh, State.reg_setReg_self]
  next hstill =>
    simp only [State.ramping, Bool.or_eq_true, bne_iff_ne, ne_eq, not_or, not_not] at hstill
    obtain ⟨-, hskew⟩ := hstill
    rw [← hskew, unitTo_self]

/-! ## Windows -/

/-- The runs of dark and of lit windows (R106). -/
def State.losRuns (s : State) (l : Fin 8) : Nat × Nat := (s.adc[l].lowRun, s.adc[l].highRun)

@[simp] theorem State.losRuns_setReg (s : State) (l : Fin 8) (ix sub : Nat) (v : Int) : (s.setReg ix sub v).losRuns l = s.losRuns l := rfl

@[simp] theorem State.losRuns_modAdcLane (s : State) (l : Fin 8) (f : AdcLane → AdcLane) :
    (s.modAdcLane l f).losRuns l = ((f s.adc[l]).lowRun, (f s.adc[l]).highRun) := by
  simp [State.losRuns, State.modAdcLane]

theorem State.levels_losRuns (s : State) (l : Fin 8) (m : AdcWin) : (s.levels l m).losRuns l = s.losRuns l := by
  simp only [State.levels, State.losRuns_setReg, State.losRuns_modAdcLane]
  rfl

theorem State.accumulate_losRuns (s : State) (l : Fin 8) (m : AdcWin) (dark : Bool) : (s.accumulate l m dark).losRuns l = s.losRuns l := by
  unfold State.accumulate
  split
  · exact State.losRuns_modAdcLane _ _ _
  · rfl

theorem State.noiseFloor_losRuns (s : State) (l : Fin 8) (m : AdcWin) : (s.noiseFloor l m).losRuns l = s.losRuns l := by
  unfold State.noiseFloor State.noiseUaNow
  simp only
  generalize (if s.adc[l].ramped || s.ramping l then [] else ((m.n, m.sq, m.sum) :: s.adc[l].dark).take 100) = dark
  split <;> simp only [State.losRuns_setReg, State.losRuns_modAdcLane] <;> rfl

theorem State.losDetect_losRuns (s : State) (l : Fin 8) :
    (s.losDetect l).losRuns l =
      (min (if s.reg Ob.LINE_SIGNAL_RMS (l.val + 1) < s.reg Ob.LINE_LOS_ASSERT (l.val + 1) then s.adc[l].lowRun + 1 else 0) 2,
       min (if s.reg Ob.LINE_LOS_DEASSERT (l.val + 1) ≤ s.reg Ob.LINE_SIGNAL_RMS (l.val + 1) then s.adc[l].highRun + 1 else 0) 4) := by
  unfold State.losDetect State.floorInvalid
  simp only
  generalize (if s.reg Ob.LINE_SIGNAL_RMS (l.val + 1) < s.reg Ob.LINE_LOS_ASSERT (l.val + 1) then s.adc[l].lowRun + 1 else 0) = low
  generalize (if s.reg Ob.LINE_LOS_DEASSERT (l.val + 1) ≤ s.reg Ob.LINE_SIGNAL_RMS (l.val + 1) then s.adc[l].highRun + 1 else 0) = high
  split
  · simp only [State.losRuns_setReg, State.losRuns_modAdcLane]
    simp [State.modAdcLane]
  · split <;> simp only [State.losRuns_setReg, State.losRuns_modAdcLane] <;> simp [State.modAdcLane]

/-- LINE.LOS_RAW after a window (R106). -/
theorem State.losDetect_raw (s : State) (l : Fin 8) :
    (s.losDetect l).reg Ob.LINE_LOS_RAW (l.val + 1) =
      (let low := if s.reg Ob.LINE_SIGNAL_RMS (l.val + 1) < s.reg Ob.LINE_LOS_ASSERT (l.val + 1) then s.adc[l].lowRun + 1 else 0
       let high := if s.reg Ob.LINE_LOS_DEASSERT (l.val + 1) ≤ s.reg Ob.LINE_SIGNAL_RMS (l.val + 1) then s.adc[l].highRun + 1 else 0
       if s.reg Ob.LINE_LOS_RAW (l.val + 1) = 0 then (if 2 ≤ low then 1 else 0)
       else if 4 ≤ high then 0 else s.reg Ob.LINE_LOS_RAW (l.val + 1)) := by
  unfold State.losDetect State.floorInvalid
  simp only
  generalize (if s.reg Ob.LINE_SIGNAL_RMS (l.val + 1) < s.reg Ob.LINE_LOS_ASSERT (l.val + 1) then s.adc[l].lowRun + 1 else 0) = low
  generalize (if s.reg Ob.LINE_LOS_DEASSERT (l.val + 1) ≤ s.reg Ob.LINE_SIGNAL_RMS (l.val + 1) then s.adc[l].highRun + 1 else 0) = high
  by_cases hraw : s.reg Ob.LINE_LOS_RAW (l.val + 1) = 0
  · by_cases hlow : 2 ≤ low <;> simp [State.flag, hraw, hlow, State.modAdcLane]
  · by_cases hhigh : 4 ≤ high <;> simp [State.flag, hraw, hhigh, State.modAdcLane, State.reg_setReg]

/-- The state with a window's levels, its background accumulation and its noise floor taken (R99, R105, R110). -/
def State.windowLevels (s : State) (l : Fin 8) : State :=
  let m := s.adc[l].win
  let was := s.flag Ob.LINE_LOS_RAW (l.val + 1)
  let taken := (s.levels l m).accumulate l m was
  if was ∧ s.clocked l ∧ 2 ≤ s.reg Ob.LINE_ADC_STATE (l.val + 1) then taken.noiseFloor l m else taken

/-- The state with the loss of signal detected and a new window begun (R105, R106). -/
def State.windowDetected (s : State) (l : Fin 8) : State :=
  ((s.windowLevels l).losDetect l).modAdcLane l (fun a => { a with ramped := false, win := {} })

/-- What a window makes of the state that its samples leave. -/
def State.windowEnd (s : State) (l : Fin 8) : State := ((s.windowDetected l).quality l).tlLight l

theorem exec_adcWindow {s : State} {l : Fin 8} (codes : List Int) (hon : s.on (Dom.lrx l) = true) :
    exec (.adcWindow l codes) s = .next ((s.rxSamples l codes).windowEnd l) := if_pos hon

theorem State.windowLevels_frame (s : State) (l : Fin 8) :
    Frame { regs := true, adc := true } (fun ix sub => ix ∈ [Ob.LINE_SIGNAL_RMS, Ob.LINE_SIGNAL_DC, Ob.LINE_CLIP_RATE,
      Ob.LINE_NOISE_FLOOR_LSB, Ob.LINE_NOISE_FLOOR_UA] ∧ sub = l.val + 1) s (s.windowLevels l) := by
  unfold State.windowLevels
  simp

theorem State.windowEnd_frame (s : State) (l : Fin 8) :
    Frame { regs := true, adc := true, rx := true } (fun ix sub => ix ∈ [Ob.LINE_BER_EST, Ob.LINE_CLIP_RATE, Ob.LINE_LOS_RAW, Ob.LINE_MSE,
      Ob.LINE_NOISE_FLOOR_LSB, Ob.LINE_NOISE_FLOOR_UA, Ob.LINE_SIGNAL_DC, Ob.LINE_SIGNAL_RMS, Ob.LINE_SNR_DB, Ob.LINE_TL_STATE] ∧
        sub = l.val + 1) s (s.windowEnd l) := by
  unfold State.windowEnd State.windowDetected State.windowLevels
  simp

theorem State.windowEnd_laneKept (s : State) (l : Fin 8) : LaneKept l s (s.windowEnd l) := by
  unfold State.windowEnd State.windowDetected State.windowLevels
  simp

theorem State.windowLevels_rms (s : State) (l : Fin 8) :
    (s.windowLevels l).reg Ob.LINE_SIGNAL_RMS (l.val + 1) = (rmsMilli s.adc[l].win.sq s.adc[l].win.n : Nat) := by
  have hframe : Frame .all (fun ix _ => ix ≠ Ob.LINE_SIGNAL_RMS) (s.levels l s.adc[l].win) (s.windowLevels l) := by
    unfold State.windowLevels
    simp
  rw [hframe.regs _ _ (by omega) (by simp)]
  simp [State.levels, State.reg_setReg]

theorem State.windowLevels_losRuns (s : State) (l : Fin 8) : (s.windowLevels l).losRuns l = s.losRuns l := by
  unfold State.windowLevels
  simp only
  split
  · rw [State.noiseFloor_losRuns, State.accumulate_losRuns, State.levels_losRuns]
  · rw [State.accumulate_losRuns, State.levels_losRuns]

/-- After the detector a window changes no figure that the detector reads or writes. -/
theorem State.windowEnd_after_detect (s : State) (l : Fin 8) :
    Frame .all (fun ix _ => ix ∉ [Ob.LINE_SIGNAL_RMS, Ob.LINE_LOS_RAW]) ((s.windowLevels l).losDetect l) (s.windowEnd l) := by
  unfold State.windowEnd State.windowDetected
  simp

theorem State.windowEnd_adc (s : State) (l : Fin 8) : (s.windowEnd l).adc[l] =
    { ((s.windowLevels l).losDetect l).adc[l] with ramped := false, win := {} } := by
  have hframe : Frame { regs := true, rx := true } (fun _ _ => True) (s.windowDetected l) (s.windowEnd l) := by
    unfold State.windowEnd
    simp
  have hadc : (s.windowEnd l).adc = (s.windowDetected l).adc := hframe.view State.adc fun _ _ => rfl
  simp only [hadc, State.windowDetected, State.modAdcLane, Fin.getElem_fin, Vector.getElem_set_self]

/-! ## Background calibration -/

theorem ownBgEnable_eq (l : Fin 8) (v : Int) (s : State) : ownBgEnable (l.val + 1) v s =
    .done ((s.setReg Ob.LINE_ADC_BG_ENABLE (l.val + 1) v).modAdcLane l (fun a =>
      if v = 1 then { a with due := true, recalAt := none }
      else { a with recalAt := none, recalLeft := match a.recalAt with | some t => t - s.time.now | none => a.recalLeft })) [] := by
  unfold ownBgEnable
  simp only
  rw [dif_pos (by omega)]
  rfl

theorem exec_subadcStuck {s : State} {l : Fin 8} {k : Fin 128} (hon : s.on (Dom.lrx l) = true)
    (hlit : s.reg Ob.LINE_LOS_RAW (l.val + 1) = 0) (hfresh : k.val ∉ s.adc[l].failed) :
    exec (.subadcStuck l k) s = .next (((s.modAdcLane l (fun a => { a with failed := k.val :: a.failed })).adcRefresh l).raise
      Src.ADC_SUBADC_FAIL l.val (l.val + 256 * k.val + 131072) Ob.LINE_ADC_EVENTS (l.val + 1)) :=
  if_pos ⟨hon, by simp [State.flag, hlit], by simpa using hfresh⟩

/-- The failed count and the state of a lane with a failed sub-ADC (R112). -/
theorem State.adcRefresh_of_failed {s : State} {l : Fin 8} (hfailed : s.adc[l].failed ≠ []) :
    (s.adcRefresh l).reg Ob.LINE_ADC_FAILED_SUBADC (l.val + 1) = (s.adc[l].failed.length : Nat) ∧
      (2 ≤ s.reg Ob.LINE_ADC_STATE (l.val + 1) → (s.adcRefresh l).reg Ob.LINE_ADC_STATE (l.val + 1) = 3) := by
  unfold State.adcRefresh
  simp only
  constructor
  · split <;> simp [State.reg_setReg]
  · intro hruns
    rw [if_pos hruns, State.reg_setReg_self, if_pos (.inl hfailed)]

/-- Settles O15: each background event is one update of the lane's converter, and a window is its levels, its detector and two steps that
touch neither's figures. -/
theorem backgroundCalibrationAndLossOfSignal : Obligations.BackgroundCalibrationAndLossOfSignal := by
  unfold Obligations.BackgroundCalibrationAndLossOfSignal
  refine ⟨?enable, ?timer, ?ramp, ?stuck, ?window, ?samples, ?off⟩
  case enable =>
    intro s r l v hv hacc
    have hspelt : leNat (leBytes 1 v) = v := leNat_leBytes 1 v (by omega)
    have hown := ownBgEnable_eq l (leNat (leBytes 1 v)) (s.taken r .write Ob.LINE_ADC_BG_ENABLE (l.val + 1) (leBytes 1 v))
    rw [hspelt] at hown
    have hframe : Frame { regs := true, adc := true } (fun ix sub => ix = Ob.MMP_RX_FRAMES ∨ (ix = Ob.LINE_ADC_BG_ENABLE ∧ sub = l.val + 1))
        (s.taken r .write Ob.LINE_ADC_BG_ENABLE (l.val + 1) (leBytes 1 v))
        (((s.taken r .write Ob.LINE_ADC_BG_ENABLE (l.val + 1) (leBytes 1 v)).setReg Ob.LINE_ADC_BG_ENABLE (l.val + 1) v).modAdcLane l
          (fun a => if (v : Int) = 1 then { a with due := true, recalAt := none }
            else { a with
              recalAt := none
              recalLeft := match a.recalAt with
                | some t => t - (s.taken r .write Ob.LINE_ADC_BG_ENABLE (l.val + 1) (leBytes 1 v)).time.now | none => a.recalLeft })) := by
      simp
    refine ⟨_, next_serve_done (own := ownBgEnable (l.val + 1) (leNat (leBytes 1 v))) hacc (by rw [hspelt]; exact hown), hframe.fields,
      ?_, ?_, ?_, ?_, ?_, .of_taken hframe.regs fun _ => .inl rfl⟩
    · exact State.reg_setReg_self _ _ _ _
    · simp only [State.modAdcLane, Fin.getElem_fin, Vector.getElem_set_self]
      split <;> rfl
    · rintro rfl
      simp [State.modAdcLane]
    · rintro rfl
      simp [State.modAdcLane]
    · intro k hk
      simp [State.modAdcLane, Vector.getElem_set_ne, Fin.val_ne_of_ne hk.symm]
  case timer =>
    intro s l hdue
    have hexec : exec (.adcRecalTimer l) s = .next (s.modAdcLane l (fun a => { a with due := true, recalAt := none })) := by
      change execAdcRecalTimer l s = _
      rw [execAdcRecalTimer, if_pos hdue]
    exact ⟨_, hexec, rfl, by simp [State.modAdcLane], fun k hk => getElem_set_other _ _ _ hk⟩
  case ramp =>
    intro s l hon
    have hexec : exec (.adcCorrectionRampStep l) s = .next (s.rampStep l) := by
      change execAdcCorrectionRampStep l s = _
      rw [execAdcCorrectionRampStep, if_pos hon]
    have hframe : Frame { regs := true, adc := true } (fun ix sub => ix ∈ [Ob.LINE_ADC_SKEW_TRIM, Ob.LINE_ADC_OFFSET_SPREAD,
        Ob.LINE_ADC_GAIN_SPREAD, Ob.LINE_ADC_FAILED_SUBADC, Ob.LINE_ADC_STATE] ∧ sub = l.val + 1) s (s.rampStep l) := by simp
    have hkept : LaneKept l s (s.rampStep l) := by simp
    exact ⟨_, hexec, hframe.fields, s.rampStep_words l, s.rampStep_skew l, hkept.adc, hframe.regs⟩
  case stuck =>
    intro s l k hon hlit hfresh
    let marked := s.modAdcLane l (fun a => { a with failed := k.val :: a.failed })
    have hmarked : marked.adc[l] = { s.adc[l] with failed := k.val :: s.adc[l].failed } := by simp [marked, State.modAdcLane]
    obtain ⟨hcount, hstate⟩ := State.adcRefresh_of_failed (s := marked) (l := l) (by rw [hmarked]; simp)
    have hframe : Frame { regs := true, adc := true, lookout := true, cap := true }
        (fun ix sub => (ix ∈ [Ob.LINE_ADC_OFFSET_SPREAD, Ob.LINE_ADC_GAIN_SPREAD, Ob.LINE_ADC_FAILED_SUBADC, Ob.LINE_ADC_STATE,
          Ob.LINE_ADC_EVENTS] ∧ sub = l.val + 1) ∨ EventObj ix sub) s
        ((marked.adcRefresh l).raise Src.ADC_SUBADC_FAIL l.val (l.val + 256 * k.val + 131072) Ob.LINE_ADC_EVENTS (l.val + 1)) := by
      simp [marked]
    have hkept : LaneKept l s
        ((marked.adcRefresh l).raise Src.ADC_SUBADC_FAIL l.val (l.val + 256 * k.val + 131072) Ob.LINE_ADC_EVENTS (l.val + 1)) := by
      simp [marked]
    have hrefreshed : (marked.adcRefresh l).nat Ob.LINE_ADC_EVENTS (l.val + 1) = s.nat Ob.LINE_ADC_EVENTS (l.val + 1) := by
      have : Frame .all (fun ix _ => ix ≠ Ob.LINE_ADC_EVENTS) s (marked.adcRefresh l) := by simp [marked]
      exact congrArg Int.toNat (this.regs _ _ (by omega) (by simp))
    have hreg : ∀ ix, ix ∈ [Ob.LINE_ADC_FAILED_SUBADC, Ob.LINE_ADC_STATE] → State.reg ((marked.adcRefresh l).raise Src.ADC_SUBADC_FAIL
        l.val (l.val + 256 * k.val + 131072) Ob.LINE_ADC_EVENTS (l.val + 1)) ix (l.val + 1) = (marked.adcRefresh l).reg ix (l.val + 1) := by
      intro ix hix
      rw [State.raise_reg _ _ _ _ _ _ _ _ (by omega) (by omega) (by revert ix; simp [EventObj]), if_neg (by revert ix; simp)]
    refine ⟨_, exec_subadcStuck hon hlit hfresh, hframe.fields, ?_, hkept.adc, ?_, ?_, ?_, hframe.regs⟩
    · simp only [State.raise_adc, State.adcRefresh_adc]
      exact hmarked
    · refine (hreg _ (by simp)).trans (hcount.trans ?_)
      rw [hmarked]
      rfl
    · rw [State.raise_reg _ _ _ _ _ _ _ _ (by omega) (by omega) (by simp [EventObj]), if_pos ⟨rfl, rfl⟩]
      exact congrArg (fun n : Nat => ((min (2 ^ 32 - 1) (n + 1) : Nat) : Int)) hrefreshed
    · intro hruns
      exact (hreg _ (by simp)).trans (hstate hruns)
  case window =>
    intro s l codes hon s1
    have hframe := s1.windowEnd_frame l
    have hkept : LaneKept l s (s1.windowEnd l) := LaneKept.trans (by simp [s1]) (s1.windowEnd_laneKept l)
    have hrms : (s1.windowLevels l).reg Ob.LINE_SIGNAL_RMS (l.val + 1) = (rmsMilli s1.adc[l].win.sq s1.adc[l].win.n : Nat) :=
      s1.windowLevels_rms l
    have hlevel : ∀ ix ∈ [Ob.LINE_LOS_ASSERT, Ob.LINE_LOS_DEASSERT, Ob.LINE_LOS_RAW],
        (s1.windowLevels l).reg ix (l.val + 1) = s.reg ix (l.val + 1) := by
      intro ix hix
      rw [(s1.windowLevels_frame l).regs _ _ (by omega) (by revert ix; simp),
        s.rxSamples_reg l codes (by omega) (by revert ix; decide)]
    have hruns : (s1.windowLevels l).losRuns l = s.losRuns l := by
      rw [s1.windowLevels_losRuns l]
      obtain ⟨hlow, hhigh⟩ := AdcLane.takeAll_runs s.adc[l] (s.clocked l) codes
      simp only [State.losRuns, s1, State.rxSamples_adc codes hon, hlow, hhigh]
    have hlow : (s1.windowLevels l).adc[l].lowRun = s.adc[l].lowRun := congrArg Prod.fst hruns
    have hhigh : (s1.windowLevels l).adc[l].highRun = s.adc[l].highRun := congrArg Prod.snd hruns
    have hdetect := (s1.windowLevels l).losDetect_losRuns l
    have hraw := (s1.windowLevels l).losDetect_raw l
    rw [hrms, hlevel _ (by simp), hlevel _ (by simp), hlow, hhigh] at hdetect
    simp only [hrms, hlevel _ (List.mem_cons_self), hlevel Ob.LINE_LOS_DEASSERT (by simp), hlevel Ob.LINE_LOS_RAW (by simp),
      hlow, hhigh] at hraw
    refine ⟨_, exec_adcWindow codes hon, hframe.fields, ⟨?_, ?_, ?_, ?_⟩, ?_, fun k hk => ⟨hkept.adc k hk, hkept.rx k hk⟩, hframe.regs⟩
    · rw [(s1.windowEnd_after_detect l).regs _ _ (by omega) (by simp)]
      have hkeep : Frame .all (fun ix _ => ix ≠ Ob.LINE_SIGNAL_RMS) (s1.windowLevels l) ((s1.windowLevels l).losDetect l) := by simp
      rw [hkeep.regs _ _ (by omega) (by simp), hrms]
    · rw [s1.windowEnd_adc l]
      exact congrArg Prod.fst hdetect
    · rw [s1.windowEnd_adc l]
      exact congrArg Prod.snd hdetect
    · rw [(s1.windowEnd_after_detect l).regs _ _ (by omega) (by simp)]
      exact hraw
    · rw [s1.windowEnd_adc l]
  case samples =>
    intro s l codes hon u
    have hframe := s.rxSamples_frame l codes
    have hkept : LaneKept l s u := by simp [u]
    exact ⟨hframe.fields, State.rxSamples_adc codes hon, fun k hk => ⟨hkept.adc k hk, hkept.rx k hk⟩, hframe.regs⟩
  case off =>
    intro s l codes hoff
    refine ⟨State.rxSamples_of_off codes hoff, ?_⟩
    change execAdcWindow l codes s = _
    simp [execAdcWindow, hoff]

end Sys2Proof.Machine

/-! SUPPORT. The loss of lock of a sampling synthesiser while a test waits for a foreground calibration (R96, R97, R311). -/

namespace Sys2Proof.Machine

/-- What a command's next state shows, where it answers one. -/
def shown {α : Type} (view : State → α) (o : Out) : Option α :=
  match o with
  | .next t => some (view t)
  | _ => none

/-- Port 0 in STANDBY, about to start the test sequence PRBS, held by a foreground calibration that runs on its lane. -/
def testHeldByCalibration : State :=
  { State.reset.setReg Ob.PORT_STATE 1 PS.STANDBY with
    rxsynth := State.reset.rxsynth.set 0 { locked := true, band := true }
    port := State.reset.port.set 0 { goal := .test 1 }
    adc := State.reset.adc.set 0 { fgRun := true } }

/-- The loss of lock aborts the calibration, and the test that waited for it begins. -/
theorem testHeldByCalibration_begins :
    shown (fun t => t.port[0].goal) (exec (.rxsynthUnlock 0) testHeldByCalibration) = some PGoal.none := by decide +kernel

/-- Refutes O16: a loss of lock that aborts the calibration which holds a port in STANDBY lets the port go on to the test it was bound
for, so the port's record changes, which the statement leaves as it was. -/
theorem not_samplingSynthesiserLocks : ¬ Obligations.SamplingSynthesiserLocks := by
  unfold Obligations.SamplingSynthesiserLocks
  rintro ⟨-, -, -, hunlock, -⟩
  obtain ⟨t, hexec, -, -, -, -, -, -, -, hport, -⟩ := hunlock testHeldByCalibration 0 (by decide)
  have hbegins := testHeldByCalibration_begins
  rw [hexec] at hbegins
  have hgoal : t.port[0].goal = PGoal.none := Option.some.inj hbegins
  rw [hport] at hgoal
  exact absurd hgoal (by decide)

end Sys2Proof.Machine

/-! SUPPORT. The equaliser's banks: what the adaptation, its cycles and its requests write (R120, R127, R131 to R137). -/

namespace Sys2Proof.Machine

/-! ## Frames -/

section
variable {F : Fields} {P : Nat → Nat → Prop} {s t : State} {l : Fin 8}

@[simp] theorem frame_jobDone {e : Fin 128} {task : Nat} (hregs : F.regs = true) (heng : F.eng = true)
    (hP : P Ob.ENG_STATE (e.val + 1)) : Frame F P s (t.jobDone e task) ↔ Frame F P s t := by
  refine Frame.iff ?_
  unfold State.jobDone
  simp [hregs, heng, hP]

@[simp] theorem frame_noteLast (hrx : F.rx = true) : Frame F P s (t.noteLast l) ↔ Frame F P s t := by
  refine Frame.iff ?_
  unfold State.noteLast
  simp [hrx]

@[simp] theorem frame_cycleStart (hrx : F.rx = true) : Frame F P s (t.cycleStart l) ↔ Frame F P s t := by
  refine Frame.iff ?_
  unfold State.cycleStart
  simp [hrx]

@[simp] theorem frame_eqHold (hregs : F.regs = true) (hrx : F.rx = true) (hstate : P Ob.LINE_EQ_STATE (l.val + 1)) :
    Frame F P s (t.eqHold l) ↔ Frame F P s t := by
  refine Frame.iff ?_
  unfold State.eqHold
  simp [hregs, hrx, hstate]

@[simp] theorem frame_requestSwap {q : EqSwap} (hrx : F.rx = true) : Frame F P s (t.requestSwap l q) ↔ Frame F P s t := frame_modRx hrx

@[simp] theorem frame_setIdle {b : EqBank} (hrx : F.rx = true) : Frame F P s (t.setIdle l b) ↔ Frame F P s t := by
  refine Frame.iff ?_
  unfold State.setIdle
  simp [hrx]

@[simp] theorem frame_adapt {g : CycleGrad} (hregs : F.regs = true) (hrx : F.rx = true) (hlookout : F.lookout = true)
    (hcap : F.cap = true) (hclamps : P Ob.LINE_EQ_CLAMPS (l.val + 1)) (hcount : P Ob.LINE_EQ_EVENTS (l.val + 1))
    (hevents : AllowsEvents P) : Frame F P s (t.adapt l g) ↔ Frame F P s t := by
  refine Frame.iff ?_
  unfold State.adapt
  simp [hregs, hrx, hlookout, hcap, hclamps, hcount, hevents, frame_forEach]

@[simp] theorem laneKept_jobDone {e : Fin 128} {task : Nat} : LaneKept l s (t.jobDone e task) ↔ LaneKept l s t :=
  LaneKept.of_notLanes (by simp)

@[simp] theorem laneKept_noteLast : LaneKept l s (t.noteLast l) ↔ LaneKept l s t := by
  refine LaneKept.iff ?_
  unfold State.noteLast
  simp

@[simp] theorem laneKept_cycleStart : LaneKept l s (t.cycleStart l) ↔ LaneKept l s t := by
  refine LaneKept.iff ?_
  unfold State.cycleStart
  simp

@[simp] theorem laneKept_eqHold : LaneKept l s (t.eqHold l) ↔ LaneKept l s t := by
  refine LaneKept.iff ?_
  unfold State.eqHold
  simp

@[simp] theorem laneKept_requestSwap {q : EqSwap} : LaneKept l s (t.requestSwap l q) ↔ LaneKept l s t := laneKept_modRx

@[simp] theorem laneKept_setIdle {b : EqBank} : LaneKept l s (t.setIdle l b) ↔ LaneKept l s t := by
  refine LaneKept.iff ?_
  unfold State.setIdle
  simp

@[simp] theorem laneKept_adapt {g : CycleGrad} : LaneKept l s (t.adapt l g) ↔ LaneKept l s t := by
  refine LaneKept.iff ?_
  unfold State.adapt
  simp [laneKept_forEach]

end

theorem lineEngines_sub {l : Fin 8} {e : Fin 128} (he : e ∈ lineEngines l) : 16 * l.val < e.val + 1 ∧ e.val + 1 ≤ 16 * l.val + 8 := by
  obtain ⟨k, -, rfl⟩ := List.mem_map.mp he
  simp only [engineOf]
  omega

/-! ## The two banks -/

/-- Both banks read as they did where the selector and the stored banks do. -/
theorem State.banks_congr {s t : State} {l : Fin 8}
    (hsel : t.reg Ob.LINE_EQ_ACTIVE_BANK (l.val + 1) = s.reg Ob.LINE_EQ_ACTIVE_BANK (l.val + 1))
    (hA : t.rx[l].bankA = s.rx[l].bankA) (hB : t.rx[l].bankB = s.rx[l].bankB) : t.bank l = s.bank l ∧ t.idleBank l = s.idleBank l := by
  unfold State.bank State.idleBank
  rw [hsel, hA, hB]
  exact ⟨rfl, rfl⟩

theorem State.banks_of_frame {s t : State} {l : Fin 8} {F : Fields} {P : Nat → Nat → Prop} (h : Frame F P s t) (hrx : F.rx = false)
    (hP : ¬ P Ob.LINE_EQ_ACTIVE_BANK (l.val + 1)) : t.bank l = s.bank l ∧ t.idleBank l = s.idleBank l := by
  have hsame : t.rx = s.rx := by
    rw [h.fields]
    simp only [State.graft, hrx, cond_false]
  exact State.banks_congr (h.regs _ _ (by omega) hP) (by rw [hsame]) (by rw [hsame])

theorem State.modRx_self (s : State) (l : Fin 8) (f : RxLane → RxLane) : (s.modRx l f).rx[l] = f s.rx[l] := by simp [State.modRx]

theorem State.idleBank_setIdle (s : State) (l : Fin 8) (b : EqBank) : (s.setIdle l b).idleBank l = b ∧ (s.setIdle l b).bank l = s.bank l := by
  unfold State.setIdle State.idleBank State.bank
  split <;> simp [State.modRx, *]

/-! ## Coefficients -/

/-- A coefficient of a bank by its number, as R144 counts them. -/
def EqBank.coeff (b : EqBank) (n : Nat) : Int :=
  if n ≤ 40 then b.ffe.getD (10 - (tapsOf b.structureId).1 + n) 0
  else if n = 41 then b.dfe else if n = 42 then b.sd1 else if n = 43 then b.sd2 else b.levels.getD (n - 44) 0

/-- The range of a coefficient by its number (R127). -/
def coeffLo (n : Nat) : Int := if n ≤ 40 then -2048 else -512
def coeffHi (n : Nat) : Int := if n ≤ 40 then 2047 else 511

/-- A list of coefficients that says of each what the bank does. -/
theorem coeffs_read {b : EqBank} {c : Coeff} (hc : c ∈ coeffs b) : c.val = b.coeff c.num ∧ c.lo = coeffLo c.num ∧ c.hi = coeffHi c.num := by
  have htaps : (tapsOf b.structureId).1 + (tapsOf b.structureId).2 ≤ 40 := by
    unfold tapsOf
    split <;> decide
  unfold coeffs at hc
  simp only [List.mem_append, List.mem_map, List.mem_range] at hc
  rcases hc with ((⟨i, hi, rfl⟩ | hc) | hc) | ⟨i, hi, rfl⟩
  · have hle : i ≤ 40 := by omega
    simp [EqBank.coeff, coeffLo, coeffHi, hle]
  · split at hc
    · simp only [List.mem_singleton] at hc
      subst hc
      simp [EqBank.coeff, coeffLo, coeffHi]
    · cases hc
  · split at hc
    · simp only [List.mem_cons, List.not_mem_nil, or_false] at hc
      rcases hc with rfl | rfl <;> simp [EqBank.coeff, coeffLo, coeffHi]
    · cases hc
  · simp [EqBank.coeff, coeffLo, coeffHi, show ¬ 44 + i ≤ 40 by omega, show 44 + i ≠ 41 by omega, show 44 + i ≠ 42 by omega,
      show 44 + i ≠ 43 by omega]

/-- The numbers of a bank's coefficients are a matter of its structure. -/
theorem coeffs_nums {b c : EqBank} (h : c.structureId = b.structureId) : (coeffs c).map (·.num) = (coeffs b).map (·.num) := by
  unfold coeffs
  rw [h]
  simp only [List.map_append, List.map_map, apply_ite (List.map Coeff.num)]
  rfl

theorem getD_set_other {α : Type} (xs : List α) {i j : Nat} (v d : α) (h : i ≠ j) : (xs.set i v).getD j d = xs.getD j d := by
  simp [List.getD_eq_getElem?_getD, List.getElem?_set_ne h]

theorem getD_set_self {α : Type} (xs : List α) (i : Nat) (v d : α) : (xs.set i v).getD i d = v ∨ (xs.set i v).getD i d = d := by
  by_cases h : i < xs.length
  · exact .inl (by simp [List.getD_eq_getElem?_getD, h])
  · exact .inr (by simp [List.getD_eq_getElem?_getD, h])

theorem setCoeff_structureId (b : EqBank) (k : Nat) (v : Int) : (setCoeff b k v).structureId = b.structureId := by
  unfold setCoeff
  simp only [apply_ite EqBank.structureId, ite_self]

theorem setCoeff_coeff_other (b : EqBank) {k n : Nat} (v : Int) (h : n ≠ k) : (setCoeff b k v).coeff n = b.coeff n := by
  unfold EqBank.coeff
  rw [setCoeff_structureId]
  unfold setCoeff
  by_cases h40 : k ≤ 40
  · rw [if_pos h40]
    by_cases hn : n ≤ 40
    · rw [if_pos hn, if_pos hn]
      exact getD_set_other _ _ _ (by omega)
    · rw [if_neg hn, if_neg hn]
  · rw [if_neg h40]
    by_cases h41 : k = 41
    · simp [h41]; omega
    · by_cases h42 : k = 42
      · simp [h42]; omega
      · by_cases h43 : k = 43
        · simp [h43]; omega
        · simp only [h41, h42, h43, if_false]
          split
          · rfl
          · split
            · rfl
            · split
              · rfl
              · split
                · rfl
                · exact getD_set_other _ _ _ (by omega)

/-- A coefficient written in its range is in its range; a place beyond a short list reads 0, which is in every range. -/
theorem setCoeff_coeff_inRange (b : EqBank) (k : Nat) {v : Int} (hlo : coeffLo k ≤ v) (hhi : v ≤ coeffHi k) :
    coeffLo k ≤ (setCoeff b k v).coeff k ∧ (setCoeff b k v).coeff k ≤ coeffHi k := by
  have hzero : coeffLo k ≤ 0 ∧ 0 ≤ coeffHi k := by
    unfold coeffLo coeffHi
    split <;> decide
  have hcase : (setCoeff b k v).coeff k = v ∨ (setCoeff b k v).coeff k = 0 := by
    unfold EqBank.coeff
    rw [setCoeff_structureId]
    unfold setCoeff
    by_cases h40 : k ≤ 40
    · simp only [h40, if_true]
      exact getD_set_self _ _ _ _
    · simp only [h40, if_false]
      split
      · exact .inl rfl
      · split
        · exact .inl rfl
        · split
          · exact .inl rfl
          · exact getD_set_self _ _ _ _
  rcases hcase with h | h <;> rw [h]
  · exact ⟨hlo, hhi⟩
  · exact hzero

/-- A pass that establishes a fact for each of its elements, and never undoes one, ends with all of them. -/
theorem forEach_establishes {α : Type} {l : List α} {f : α → State → State} (I : State → Prop) (Q : α → State → Prop)
    (hkeepI : ∀ a ∈ l, ∀ t, I t → I (f a t)) (hset : ∀ a ∈ l, ∀ t, I t → Q a (f a t))
    (hkeep : ∀ a ∈ l, ∀ b ∈ l, ∀ t, I t → Q a t → Q a (f b t)) {s : State} (hs : I s) :
    I (forEach l f s) ∧ ∀ a ∈ l, Q a (forEach l f s) := by
  unfold forEach
  induction l generalizing s with
  | nil => exact ⟨hs, by simp⟩
  | cons a l ih =>
    have hrest : ∀ {u : State}, I u → Q a u → Q a (l.foldl (fun s x => f x s) u) := by
      intro u hu hq
      have hall : ∀ is : List α, (∀ b ∈ is, b ∈ l) → ∀ u : State, I u → Q a u → Q a (is.foldl (fun s x => f x s) u) := by
        intro is
        induction is with
        | nil => exact fun _ _ _ hq => hq
        | cons b is ihs =>
          intro hsub u hu hq
          have hb : b ∈ l := hsub b List.mem_cons_self
          exact ihs (fun c hc => hsub c (List.mem_cons_of_mem _ hc)) _ (hkeepI b (List.mem_cons_of_mem _ hb) u hu)
            (hkeep a List.mem_cons_self b (List.mem_cons_of_mem _ hb) u hu hq)
      exact hall l (fun _ h => h) u hu hq
    have hI : I (f a s) := hkeepI a List.mem_cons_self s hs
    obtain ⟨hIend, hQend⟩ := ih (fun b hb => hkeepI b (List.mem_cons_of_mem _ hb)) (fun b hb => hset b (List.mem_cons_of_mem _ hb))
      (fun b hb c hc => hkeep b (List.mem_cons_of_mem _ hb) c (List.mem_cons_of_mem _ hc)) hI
    refine ⟨hIend, fun b hb => ?_⟩
    rcases List.mem_cons.mp hb with rfl | hb
    · exact hrest hI (hset _ List.mem_cons_self s hs)
    · exact hQend b hb

theorem clampInt_bounds (lo hi x : Int) (h : lo ≤ hi) : lo ≤ clampInt lo hi x ∧ clampInt lo hi x ≤ hi := by
  unfold clampInt
  split
  · exact ⟨Int.le_refl _, h⟩
  · split <;> constructor <;> omega

end Sys2Proof.Machine

/-! SUPPORT. The cycles of the equaliser and its ADAPT task (R120, R127, R134, R394). -/

namespace Sys2Proof.Machine

/-! ## The update of the idle bank -/

/-- Where a coefficient's gradient takes it, before its range is applied; a lost part leaves it (R134, R394). -/
def State.adaptTo (s : State) (l : Fin 8) (g : CycleGrad) (ws : List Nat) (c : Coeff × Nat) : Int :=
  if ws.getD (c.2 % max 1 ws.length) 8 ∈ s.rx[l].lostParts then c.1.val
  else c.1.val + roundDiv (g.sums.getD c.1.place 0) (g.blocks * 2 ^ g.mu * gradUnit c.1.place)

/-- One coefficient's part of an update (R134). -/
def State.adaptOne (s : State) (l : Fin 8) (g : CycleGrad) (ws : List Nat) (c : Coeff × Nat) : State :=
  let k := c.1
  let x := s.adaptTo l g ws c
  let y := clampInt k.lo k.hi x
  let s1 := s.setIdle l { setCoeff (s.idleBank l) k.num y with cycle := s.cycleNo l }
  if x = y then s1
  else (s1.bump Ob.LINE_EQ_CLAMPS (l.val + 1) 1).raise Src.EQ_CLAMP l.val (l.val + 256 * k.num) Ob.LINE_EQ_EVENTS (l.val + 1)

theorem State.adapt_eq (s : State) (l : Fin 8) (g : CycleGrad) : s.adapt l g =
    if g.blocks = 0 then s else forEach (coeffs (s.idleBank l)).zipIdx (fun c t => t.adaptOne l g (s.lineWorkers l) c) s := rfl

/-- A part of an update writes one coefficient of the idle bank, held to its range, and the active bank not at all. -/
theorem State.adaptOne_banks (s : State) (l : Fin 8) (g : CycleGrad) (ws : List Nat) (c : Coeff × Nat) :
    (s.adaptOne l g ws c).bank l = s.bank l ∧ ((s.adaptOne l g ws c).idleBank l).structureId = (s.idleBank l).structureId ∧
      ∃ x, ∀ n, ((s.adaptOne l g ws c).idleBank l).coeff n = (setCoeff (s.idleBank l) c.1.num (clampInt c.1.lo c.1.hi x)).coeff n := by
  suffices h : (s.adaptOne l g ws c).bank l = s.bank l ∧ ∃ x, (s.adaptOne l g ws c).idleBank l =
      { setCoeff (s.idleBank l) c.1.num (clampInt c.1.lo c.1.hi x) with cycle := s.cycleNo l } by
    obtain ⟨hbank, x, hidle⟩ := h
    refine ⟨hbank, ?_, x, fun n => ?_⟩ <;> rw [hidle]
    · exact setCoeff_structureId _ _ _
    · rfl
  unfold State.adaptOne
  simp only
  generalize s.adaptTo l g ws c = x
  obtain ⟨hidle, hbank⟩ := s.idleBank_setIdle l { setCoeff (s.idleBank l) c.1.num (clampInt c.1.lo c.1.hi x) with cycle := s.cycleNo l }
  split
  · exact ⟨hbank, x, hidle⟩
  · have hallowed : AllowsEvents fun ix _ => ix ≠ Ob.LINE_EQ_ACTIVE_BANK := by
      rintro ix sub ⟨-, rfl | rfl | rfl⟩ <;> decide
    have hframe : Frame { Fields.all with rx := false } (fun ix _ => ix ≠ Ob.LINE_EQ_ACTIVE_BANK)
        (s.setIdle l { setCoeff (s.idleBank l) c.1.num (clampInt c.1.lo c.1.hi x) with cycle := s.cycleNo l })
        (((s.setIdle l { setCoeff (s.idleBank l) c.1.num (clampInt c.1.lo c.1.hi x) with cycle := s.cycleNo l }).bump
          Ob.LINE_EQ_CLAMPS (l.val + 1) 1).raise Src.EQ_CLAMP l.val (l.val + 256 * c.1.num) Ob.LINE_EQ_EVENTS (l.val + 1)) := by
      simp [hallowed]
    obtain ⟨hb, hi⟩ := State.banks_of_frame hframe rfl (by simp)
    exact ⟨hb.trans hbank, x, hi.trans hidle⟩

theorem coeffLo_le_coeffHi (n : Nat) : coeffLo n ≤ coeffHi n := by
  unfold coeffLo coeffHi
  split <;> decide

/-- A coefficient of a bank, clamped, is in its range. -/
theorem clamped_inRange {b : EqBank} {c : Coeff} (hc : c ∈ coeffs b) (x : Int) :
    coeffLo c.num ≤ clampInt c.lo c.hi x ∧ clampInt c.lo c.hi x ≤ coeffHi c.num := by
  obtain ⟨-, hlo, hhi⟩ := coeffs_read hc
  rw [hlo, hhi]
  exact clampInt_bounds _ _ _ (coeffLo_le_coeffHi _)

/-- A coefficient of the idle bank is in its range. -/
def State.coeffInRange (s : State) (l : Fin 8) (n : Nat) : Prop :=
  coeffLo n ≤ (s.idleBank l).coeff n ∧ (s.idleBank l).coeff n ≤ coeffHi n

theorem State.adaptOne_inRange {s : State} {l : Fin 8} {g : CycleGrad} {ws : List Nat} {c : Coeff × Nat} {b : EqBank}
    (hc : c.1 ∈ coeffs b) : (s.adaptOne l g ws c).coeffInRange l c.1.num := by
  obtain ⟨-, -, x, hx⟩ := s.adaptOne_banks l g ws c
  unfold State.coeffInRange
  rw [hx]
  exact setCoeff_coeff_inRange _ _ (clamped_inRange hc x).1 (clamped_inRange hc x).2

theorem State.adaptOne_keeps_inRange {s : State} {l : Fin 8} {g : CycleGrad} {ws : List Nat} {c : Coeff × Nat} {b : EqBank}
    (hc : c.1 ∈ coeffs b) {n : Nat} (h : s.coeffInRange l n) : (s.adaptOne l g ws c).coeffInRange l n := by
  by_cases hnum : n = c.1.num
  · exact hnum ▸ State.adaptOne_inRange hc
  · obtain ⟨-, -, x, hx⟩ := s.adaptOne_banks l g ws c
    unfold State.coeffInRange
    rw [hx, setCoeff_coeff_other _ _ hnum]
    exact h

/-- The active bank and the structure of the idle bank of a lane. -/
def State.bankFacts (s : State) (l : Fin 8) : EqBank × Nat := (s.bank l, (s.idleBank l).structureId)

/-- An update keeps the active bank and the structure, and holds every coefficient of the idle bank to its range (R127, R134). -/
theorem State.adapt_inRange {s : State} {l : Fin 8} {g : CycleGrad} (hblocks : g.blocks ≠ 0) :
    (s.adapt l g).bankFacts l = s.bankFacts l ∧ ∀ c ∈ coeffs (s.idleBank l), (s.adapt l g).coeffInRange l c.num := by
  rw [State.adapt_eq, if_neg hblocks]
  have hmem : ∀ c ∈ (coeffs (s.idleBank l)).zipIdx, c.1 ∈ coeffs (s.idleBank l) := fun c hc => List.fst_mem_of_mem_zipIdx hc
  obtain ⟨hfacts, hall⟩ := forEach_establishes (s := s) (l := (coeffs (s.idleBank l)).zipIdx)
    (f := fun c t => t.adaptOne l g (s.lineWorkers l) c) (fun t => t.bankFacts l = s.bankFacts l) (fun c t => t.coeffInRange l c.1.num)
    (fun c _ t h => by
      obtain ⟨hbank, hstructure, -⟩ := t.adaptOne_banks l g (s.lineWorkers l) c
      exact (Prod.ext hbank hstructure).trans h)
    (fun c hc t _ => State.adaptOne_inRange (hmem c hc))
    (fun c _ d hd t _ h => State.adaptOne_keeps_inRange (hmem d hd) h) rfl
  refine ⟨hfacts, fun c hc => ?_⟩
  obtain ⟨j, hj, rfl⟩ := List.mem_iff_getElem.mp hc
  exact hall ((coeffs (s.idleBank l))[j], j) (by simp [List.mem_zipIdx_iff_getElem?, hj])

theorem State.adapt_bankFacts (s : State) (l : Fin 8) (g : CycleGrad) : (s.adapt l g).bankFacts l = s.bankFacts l := by
  by_cases hblocks : g.blocks = 0
  · rw [State.adapt_eq, if_pos hblocks]
  · exact (State.adapt_inRange hblocks).1

theorem State.adapt_bank (s : State) (l : Fin 8) (g : CycleGrad) : (s.adapt l g).bank l = s.bank l :=
  congrArg Prod.fst (s.adapt_bankFacts l g)

theorem State.adapt_structure (s : State) (l : Fin 8) (g : CycleGrad) :
    ((s.adapt l g).idleBank l).structureId = (s.idleBank l).structureId := congrArg Prod.snd (s.adapt_bankFacts l g)

theorem coeffs_inRange {s t : State} {l : Fin 8} (hstructure : (t.idleBank l).structureId = (s.idleBank l).structureId)
    (h : ∀ c ∈ coeffs (s.idleBank l), t.coeffInRange l c.num) : ∀ c ∈ coeffs (t.idleBank l), c.lo ≤ c.val ∧ c.val ≤ c.hi := by
  intro c hc
  obtain ⟨hval, hlo, hhi⟩ := coeffs_read hc
  have hnum : c.num ∈ (coeffs (s.idleBank l)).map (·.num) := by
    rw [← coeffs_nums hstructure]
    exact List.mem_map_of_mem hc
  obtain ⟨d, hd, hdnum⟩ := List.mem_map.mp hnum
  rw [hval, hlo, hhi, ← hdnum]
  exact h d hd

/-! ## The task and the cycle -/

/-- A lane's receive path without its banks. -/
def State.rxRest (s : State) (l : Fin 8) : RxLane := { s.rx[l] with bankA := {}, bankB := {} }

theorem State.setIdle_rxRest (s : State) (l : Fin 8) (b : EqBank) : (s.setIdle l b).rxRest l = s.rxRest l := by
  unfold State.setIdle
  split <;> rw [State.rxRest, State.modRx_self] <;> rfl

/-- An update touches the lane's banks alone. -/
theorem State.adapt_rxRest (s : State) (l : Fin 8) (g : CycleGrad) : (s.adapt l g).rxRest l = s.rxRest l := by
  rw [State.adapt_eq]
  split
  · rfl
  · refine forEach_keeps (fun t => t.rxRest l) (fun c _ t => ?_) s
    unfold State.adaptOne
    simp only
    split
    · exact t.setIdle_rxRest l _
    · simp only [State.rxRest, State.raise_rx]
      exact t.setIdle_rxRest l _

/-- A change of the lane that keeps its banks keeps what is read of them. -/
theorem State.modRx_banks (s : State) (l : Fin 8) (f : RxLane → RxLane) (hA : ∀ x, (f x).bankA = x.bankA)
    (hB : ∀ x, (f x).bankB = x.bankB) : (s.modRx l f).bank l = s.bank l ∧ (s.modRx l f).idleBank l = s.idleBank l :=
  State.banks_congr rfl (by rw [State.modRx_self, hA]) (by rw [State.modRx_self, hB])

/-- The state after an ADAPT task, before its request. -/
def State.adaptDone (s : State) (l : Fin 8) (g : CycleGrad) : State :=
  forEach (lineEngines l) (fun e s => s.jobDone e 0) ((s.adapt l g).modRx l (fun x => { x with gradient := none, lostParts := [] }))

theorem State.adaptDone_frame (s : State) (l : Fin 8) (g : CycleGrad) : Frame { regs := true, eng := true } (fun ix sub => ix = Ob.ENG_STATE ∧
    16 * l.val < sub ∧ sub ≤ 16 * l.val + 8) ((s.adapt l g).modRx l (fun x => { x with gradient := none, lostParts := [] }))
      (s.adaptDone l g) := by
  refine (frame_forEach fun e he t => ?_).mpr .refl
  obtain ⟨hlo, hhi⟩ := lineEngines_sub he
  simp [hlo, hhi]

theorem State.adaptDone_rx (s : State) (l : Fin 8) (g : CycleGrad) :
    (s.adaptDone l g).rx[l] = { (s.adapt l g).rx[l] with gradient := none, lostParts := [] } := by
  have hrx : (s.adaptDone l g).rx = ((s.adapt l g).modRx l (fun x => { x with gradient := none, lostParts := [] })).rx :=
    (s.adaptDone_frame l g).view State.rx fun _ _ => rfl
  rw [hrx, State.modRx_self]

theorem State.adaptDone_banks (s : State) (l : Fin 8) (g : CycleGrad) :
    (s.adaptDone l g).bank l = (s.adapt l g).bank l ∧ (s.adaptDone l g).idleBank l = (s.adapt l g).idleBank l := by
  obtain ⟨hb, hi⟩ := State.banks_of_frame (l := l) (s.adaptDone_frame l g) rfl (by simp)
  obtain ⟨hb', hi'⟩ := (s.adapt l g).modRx_banks l (fun x => { x with gradient := none, lostParts := [] }) (fun _ => rfl) (fun _ => rfl)
  exact ⟨hb.trans hb', hi.trans hi'⟩

/-- The state after an ADAPT task (R134). -/
def State.adaptRequested (s : State) (l : Fin 8) (g : CycleGrad) : State :=
  if s.eqState l = 2 ∨ (s.eqState l = 3 ∧ g.swapCycles ≤ s.rx[l].sinceSwap) then
    (s.adaptDone l g).requestSwap l { adapt := true } else s.adaptDone l g

theorem exec_adaptTaskDone {s : State} {l : Fin 8} {g : CycleGrad} (hready : s.rx[l].gradient = some g) (htrack : s.tl l = 2)
    (hworks : s.anyWorks (lineEngines l) = true) : exec (.adaptTaskDone l) s =
      .next (s.adaptRequested l g) := by
  change execAdaptTaskDone l s = _
  unfold execAdaptTaskDone
  rw [if_pos hworks]
  simp only [hready]
  rw [if_pos htrack]
  rfl

/-- A request that carries an adaptation leaves one that does (R132). -/
theorem State.requestSwap_adapt (s : State) (l : Fin 8) : ∃ q, (s.requestSwap l { adapt := true }).rx[l].swap = some q ∧ q.adapt = true := by
  unfold State.requestSwap
  rw [State.modRx_self]
  refine ⟨_, rfl, ?_⟩
  split <;> simp

theorem State.requestSwap_banks (s : State) (l : Fin 8) (q : EqSwap) :
    (s.requestSwap l q).bank l = s.bank l ∧ (s.requestSwap l q).idleBank l = s.idleBank l := s.modRx_banks l _ (fun _ => rfl) (fun _ => rfl)

theorem State.adaptRequested_banks (s : State) (l : Fin 8) (g : CycleGrad) :
    (s.adaptRequested l g).bank l = (s.adapt l g).bank l ∧ (s.adaptRequested l g).idleBank l = (s.adapt l g).idleBank l := by
  obtain ⟨hbank, hidle⟩ := s.adaptDone_banks l g
  unfold State.adaptRequested
  split
  · obtain ⟨hbank', hidle'⟩ := (s.adaptDone l g).requestSwap_banks l { adapt := true }
    exact ⟨hbank'.trans hbank, hidle'.trans hidle⟩
  · exact ⟨hbank, hidle⟩

/-- An ADAPT task uses its gradient up, and requests a swap after each cycle in CONVERGE and at its count in TRACK (R134). -/
theorem State.adaptRequested_rx (s : State) (l : Fin 8) (g : CycleGrad) : (s.adaptRequested l g).rx[l].gradient = none ∧
    ((s.eqState l = 2 ∨ (s.eqState l = 3 ∧ g.swapCycles ≤ s.rx[l].sinceSwap)) →
      ∃ q, (s.adaptRequested l g).rx[l].swap = some q ∧ q.adapt = true) ∧
    (¬ (s.eqState l = 2 ∨ (s.eqState l = 3 ∧ g.swapCycles ≤ s.rx[l].sinceSwap)) →
      (s.adaptRequested l g).rx[l].swap = s.rx[l].swap) := by
  have hdone := s.adaptDone_rx l g
  have hswap : (s.adapt l g).rx[l].swap = s.rx[l].swap := by
    simpa only [State.rxRest] using congrArg RxLane.swap (s.adapt_rxRest l g)
  unfold State.adaptRequested
  by_cases h : s.eqState l = 2 ∨ (s.eqState l = 3 ∧ g.swapCycles ≤ s.rx[l].sinceSwap)
  · simp only [if_pos h]
    refine ⟨?_, fun _ => (s.adaptDone l g).requestSwap_adapt l, fun hn => absurd h hn⟩
    rw [State.requestSwap, State.modRx_self, hdone]
  · simp only [if_neg h]
    exact ⟨by rw [hdone], fun hy => absurd hy h, fun _ => by rw [hdone, ← hswap]⟩

theorem State.adaptRequested_frame (s : State) (l : Fin 8) (g : CycleGrad) :
    Frame { regs := true, rx := true, eng := true, lookout := true, cap := true } (fun ix sub =>
      (ix ∈ [Ob.LINE_EQ_CLAMPS, Ob.LINE_EQ_EVENTS] ∧ sub = l.val + 1) ∨
        (ix = Ob.ENG_STATE ∧ 16 * l.val < sub ∧ sub ≤ 16 * l.val + 8) ∨ EventObj ix sub) s (s.adaptRequested l g) := by
  have hdone : Frame { regs := true, rx := true, eng := true, lookout := true, cap := true } (fun ix sub =>
      (ix ∈ [Ob.LINE_EQ_CLAMPS, Ob.LINE_EQ_EVENTS] ∧ sub = l.val + 1) ∨
        (ix = Ob.ENG_STATE ∧ 16 * l.val < sub ∧ sub ≤ 16 * l.val + 8) ∨ EventObj ix sub) s (s.adaptDone l g) :=
    Frame.trans (by simp) ((s.adaptDone_frame l g).widen (fun _ _ => rfl) fun _ _ h => .inr (.inl h))
  unfold State.adaptRequested
  split
  · exact (frame_requestSwap rfl).mpr hdone
  · exact hdone

theorem State.adaptRequested_laneKept (s : State) (l : Fin 8) (g : CycleGrad) : LaneKept l s (s.adaptRequested l g) := by
  unfold State.adaptRequested State.adaptDone
  simp [laneKept_forEach]

/-- What a cycle's end fixes of a receive path: its gradient, the counts of its cycles, and its banks. -/
def State.cycleView (s : State) (l : Fin 8) : Option CycleGrad × Nat × Nat × EqBank × EqBank :=
  (s.rx[l].gradient, s.rx[l].conv, s.rx[l].sinceSwap, s.rx[l].bankA, s.rx[l].bankB)

/-- The figures that a cycle took at its start. -/
def State.cycleFigures (s : State) (l : Fin 8) : Bool × Nat × Nat := (s.rx[l].halted, s.rx[l].dsp.cycStart, s.rx[l].dsp.mu)

theorem State.noteLast_views (s : State) (l : Fin 8) :
    (s.noteLast l).cycleView l = s.cycleView l ∧ (s.noteLast l).cycleFigures l = s.cycleFigures l := by
  unfold State.noteLast
  split
  · simp only [State.cycleView, State.cycleFigures, State.modRx_self, and_self]
  · exact ⟨rfl, rfl⟩

theorem State.eqHold_views (s : State) (l : Fin 8) :
    (s.eqHold l).cycleView l = s.cycleView l ∧ (s.eqHold l).cycleFigures l = s.cycleFigures l := by
  unfold State.eqHold
  split
  · split
    · simp only [State.cycleView, State.cycleFigures, State.setEq, State.setReg_rx, State.modRx_self, and_self]
    · exact ⟨rfl, rfl⟩
  · split
    · exact State.noteLast_views _ l
    · exact ⟨rfl, rfl⟩

/-- Whether the equaliser of a lane adapts (R134). -/
def State.adapting (s : State) (l : Fin 8) : Bool := s.tl l == 2 && (s.eqState l == 2 || s.eqState l == 3)

/-- A cycle's gradient readied, the cycle counted, and the ADAPT task triggered (R134, R394). -/
def State.cycleReady (s : State) (l : Fin 8) : State :=
  let x := s.rx[l].dsp
  let s1 := s.modRx l (fun r => { r with
    gradient := if s.adapting l then some ⟨x.grad, x.gradBlocks, x.mu, x.swapCycles⟩ else none, lostParts := []
    conv := if s.adapting l && s.eqState l == 2 then r.conv + 1 else r.conv
    sinceSwap := if s.adapting l then r.sinceSwap + 1 else r.sinceSwap })
  let len := cycleRefclk (s.laneRate l) * (x.cycLen / 4096)
  if s.adapting l then forEach (lineEngines l) (fun e s => s.trigger e 0 len) s1 else s1

/-- The swap of a rebuilt bank requested (R135). -/
def State.structRequested (s : State) (l : Fin 8) : State :=
  if s.rx[l].structReady then (s.modRx l (fun r => { r with structReady := false })).requestSwap l { structural := true } else s

/-- What a cycle's end leaves (R120, R134). -/
def State.cycleEnded (s : State) (l : Fin 8) : State := (((s.cycleReady l).structRequested l).cycleStart l).eqHold l

theorem exec_adaptCycleEnd {s : State} {l : Fin 8} (codes : List Int) (hruns : (s.rxSamples l codes).tl l ≠ 0)
    (hblock : (s.rxSamples l codes).rx[l].dsp.left % 256 = 0)
    (hlen : (s.rxSamples l codes).rx[l].dsp.cycStart + (s.rxSamples l codes).rx[l].dsp.cycLen ≤ (s.rxSamples l codes).rx[l].dsp.left) :
    exec (.adaptCycleEnd l codes) s = .next ((s.rxSamples l codes).cycleEnded l) :=
  if_pos ⟨hruns, hblock, hlen⟩

theorem State.triggers_rx (s : State) (l : Fin 8) (task len : Nat) :
    (forEach (lineEngines l) (fun e s => s.trigger e task len) s).rx = s.rx := by
  have hframe : Frame { regs := true, eng := true } (fun _ _ => True) s (forEach (lineEngines l) (fun e s => s.trigger e task len) s) := by
    simp [frame_forEach]
  exact hframe.view State.rx fun _ _ => rfl

theorem State.cycleReady_view (s : State) (l : Fin 8) : (s.cycleReady l).cycleView l =
    (if s.adapting l then some ⟨s.rx[l].dsp.grad, s.rx[l].dsp.gradBlocks, s.rx[l].dsp.mu, s.rx[l].dsp.swapCycles⟩ else none,
      if s.adapting l && s.eqState l == 2 then s.rx[l].conv + 1 else s.rx[l].conv,
      if s.adapting l then s.rx[l].sinceSwap + 1 else s.rx[l].sinceSwap, s.rx[l].bankA, s.rx[l].bankB) := by
  unfold State.cycleReady
  simp only
  split <;> simp only [State.cycleView, State.triggers_rx, State.modRx_self, *]

theorem State.structRequested_left (s : State) (l : Fin 8) :
    ((s.cycleReady l).structRequested l).rx[l].dsp.left = s.rx[l].dsp.left := by
  have hready : (s.cycleReady l).rx[l].dsp.left = s.rx[l].dsp.left := by
    unfold State.cycleReady
    by_cases hadapts : s.adapting l = true
    · simp only [if_pos hadapts, State.triggers_rx, State.modRx_self]
    · simp only [if_neg hadapts, State.modRx_self]
  unfold State.structRequested State.requestSwap
  by_cases hstruct : (s.cycleReady l).rx[l].structReady = true
  · simp only [if_pos hstruct, State.modRx_self, hready]
  · simp only [if_neg hstruct, hready]

theorem State.structRequested_view (s : State) (l : Fin 8) : (s.structRequested l).cycleView l = s.cycleView l := by
  unfold State.structRequested State.requestSwap
  split
  · simp only [State.cycleView, State.modRx_self]
  · rfl

theorem State.cycleStart_view (s : State) (l : Fin 8) : (s.cycleStart l).cycleView l = s.cycleView l := by
  simp only [State.cycleStart, State.modDsp, State.cycleView, State.modRx_self]

theorem State.cycleStart_figures (s : State) (l : Fin 8) :
    (s.cycleStart l).cycleFigures l = (s.laneHalted l, s.rx[l].dsp.left, s.nat Ob.LINE_EQ_MU_SHIFT (l.val + 1)) := by
  simp only [State.cycleStart, State.modDsp, State.cycleFigures, State.modRx_self]

theorem State.cycleEnded_view (s : State) (l : Fin 8) : (s.cycleEnded l).cycleView l = (s.cycleReady l).cycleView l := by
  rw [State.cycleEnded, (State.eqHold_views _ l).1, State.cycleStart_view, State.structRequested_view]

theorem State.triggers_frame (s : State) (l : Fin 8) (task len : Nat) : Frame { regs := true, rx := true, eng := true }
    (fun ix sub => (ix = Ob.ENG_STATE ∧ 16 * l.val < sub ∧ sub ≤ 16 * l.val + 8) ∨ (ix = Ob.LINE_EQ_STATE ∧ sub = l.val + 1)) s
      (forEach (lineEngines l) (fun e s => s.trigger e task len) s) := by
  refine (frame_forEach fun e he t => ?_).mpr .refl
  obtain ⟨hlo, hhi⟩ := lineEngines_sub he
  simp [hlo, hhi]

theorem State.cycleReady_frame (s : State) (l : Fin 8) : Frame { regs := true, rx := true, eng := true }
    (fun ix sub => (ix = Ob.ENG_STATE ∧ 16 * l.val < sub ∧ sub ≤ 16 * l.val + 8) ∨ (ix = Ob.LINE_EQ_STATE ∧ sub = l.val + 1)) s
      (s.cycleReady l) := by
  unfold State.cycleReady
  simp only
  split
  · exact Frame.trans ((frame_modRx rfl).mpr .refl) (State.triggers_frame _ l 0 _)
  · exact (frame_modRx rfl).mpr .refl

@[simp] theorem frame_structRequested {F : Fields} {P : Nat → Nat → Prop} {s t : State} {l : Fin 8} (hrx : F.rx = true) :
    Frame F P s (t.structRequested l) ↔ Frame F P s t := by
  refine Frame.iff ?_
  unfold State.structRequested
  simp [hrx]

theorem State.cycleEnded_frame (s : State) (l : Fin 8) : Frame { regs := true, rx := true, eng := true }
    (fun ix sub => (ix = Ob.ENG_STATE ∧ 16 * l.val < sub ∧ sub ≤ 16 * l.val + 8) ∨ (ix = Ob.LINE_EQ_STATE ∧ sub = l.val + 1)) s
      (s.cycleEnded l) := by
  unfold State.cycleEnded
  rw [frame_eqHold rfl rfl (.inr ⟨rfl, rfl⟩), frame_cycleStart rfl, frame_structRequested rfl]
  exact s.cycleReady_frame l

theorem State.cycleEnded_laneKept (s : State) (l : Fin 8) : LaneKept l s (s.cycleEnded l) := by
  unfold State.cycleEnded State.structRequested State.cycleReady
  simp [laneKept_forEach]

theorem State.cycleEnded_figures (s : State) (l : Fin 8) :
    (s.cycleEnded l).cycleFigures l = (s.laneHalted l, s.rx[l].dsp.left, s.nat Ob.LINE_EQ_MU_SHIFT (l.val + 1)) := by
  have hframe : Frame { regs := true, rx := true, eng := true } (fun ix sub => (ix = Ob.ENG_STATE ∧ 16 * l.val < sub ∧
      sub ≤ 16 * l.val + 8) ∨ (ix = Ob.LINE_EQ_STATE ∧ sub = l.val + 1)) s ((s.cycleReady l).structRequested l) :=
    (frame_structRequested rfl).mpr (s.cycleReady_frame l)
  have hhalted : ((s.cycleReady l).structRequested l).laneHalted l = s.laneHalted l :=
    State.laneHalted_congr (hframe.view State.breakout fun _ _ => rfl) (fun p => hframe.regs _ _ (by omega) (by simp))
      (hframe.regs _ _ (by omega) (by simp)) l
  have hmu : ((s.cycleReady l).structRequested l).nat Ob.LINE_EQ_MU_SHIFT (l.val + 1) = s.nat Ob.LINE_EQ_MU_SHIFT (l.val + 1) :=
    congrArg Int.toNat (hframe.regs _ _ (by omega) (by simp))
  rw [State.cycleEnded, (State.eqHold_views _ l).2, State.cycleStart_figures, State.structRequested_left, hhalted, hmu]

/-- The bank that runs in TRACK stands first among the LAST seeds (R133). -/
theorem State.noteLast_of_track {s : State} {l : Fin 8} (h : s.eqState l = 3) :
    s.noteLast l = s.modRx l (fun x => { x with last := (s.laneRate l, s.bank l) :: x.last.filter (fun e =>
      !(e.1 == s.laneRate l && e.2.structureId == (s.bank l).structureId)) }) := if_pos (.inl h)

/-- Settles O18: a cycle's end and the ADAPT task are each one update of the lane, the task's a pass over the idle bank's coefficients. -/
theorem equaliserAdaptsTheIdleBank : Obligations.EqualiserAdaptsTheIdleBank := by
  unfold Obligations.EqualiserAdaptsTheIdleBank
  refine ⟨?cycle, ?task, ?converged, ?void⟩
  case cycle =>
    intro s l codes s1 x adapting hruns hblock hlen
    have htl : s1.tl l = s.tl l := s.rxSamples_reg l codes (by omega) (by decide)
    have heq : s1.eqState l = s.eqState l := s.rxSamples_reg l codes (by omega) (by decide)
    have hadapting : s1.adapting l = true ↔ adapting := by
      simp only [State.adapting, htl, heq, Bool.and_eq_true, Bool.or_eq_true, beq_iff_eq, adapting]
    have hview := (s1.cycleEnded_view l).trans (s1.cycleReady_view l)
    obtain ⟨hgradient, hconv, hsince, hA, hB⟩ := by simpa only [State.cycleView, Prod.mk.injEq] using hview
    obtain ⟨hhalted, hstart, hmu⟩ := by simpa only [State.cycleFigures, Prod.mk.injEq] using s1.cycleEnded_figures l
    have hkept : LaneKept l s (s1.cycleEnded l) := LaneKept.trans (by simp [s1]) (s1.cycleEnded_laneKept l)
    refine ⟨_, exec_adaptCycleEnd codes (htl ▸ hruns) hblock hlen, (s1.cycleEnded_frame l).fields, ?_, ?_, ?_, hstart, ?_, ?_, hA, hB,
      hkept.rx, (s1.cycleEnded_frame l).regs⟩
    · intro h
      rw [hadapting.mpr h, if_pos rfl] at hgradient hsince
      exact ⟨hgradient, hsince⟩
    · intro h
      rw [if_neg (fun h' => h (hadapting.mp h'))] at hgradient hsince
      exact ⟨hgradient, hsince⟩
    · rw [hconv, heq]
      by_cases h : s.tl l = 2 ∧ s.eqState l = 2
      · rw [if_pos h, hadapting.mpr ⟨h.1, .inl h.2⟩, h.2]
        rfl
      · rw [if_neg h, if_neg]
        · rfl
        · simp only [Bool.and_eq_true, beq_iff_eq, hadapting, not_and]
          exact fun hadapts hconverge => h ⟨hadapts.1, hconverge⟩
    · exact hmu.trans (congrArg Int.toNat (s.rxSamples_reg l codes (by omega) (by decide)))
    · rw [hhalted]
      exact State.laneHalted_congr ((s.rxSamples_frame l codes).view State.breakout fun _ _ => rfl)
        (fun p => s.rxSamples_reg l codes (by omega) (by decide)) (s.rxSamples_reg l codes (by omega) (by decide)) l
  case task =>
    intro s l g hready htrack hstate hworks
    obtain ⟨hbank, hidle⟩ := s.adaptRequested_banks l g
    obtain ⟨hused, hrequested, hunrequested⟩ := s.adaptRequested_rx l g
    refine ⟨_, exec_adaptTaskDone hready htrack hworks, (s.adaptRequested_frame l g).fields, ?_, ?_, hused, ?_, ?_, ?_, ?_,
      (s.adaptRequested_laneKept l g).rx, (s.adaptRequested_frame l g).regs⟩
    · rw [hbank, s.adapt_bank]
    · intro hblocks
      rw [hidle, State.adapt_eq, if_pos hblocks]
    · intro hblocks
      exact coeffs_inRange (hidle ▸ s.adapt_structure l g) fun c hc => by
        unfold State.coeffInRange
        rw [hidle]
        exact (State.adapt_inRange hblocks).2 c hc
    · rw [hidle, s.adapt_structure]
    · rintro (h | h)
      · exact hrequested (.inl h)
      · exact hrequested (hstate.imp_right fun h3 => ⟨h3, h⟩)
    · intro h3 hbelow
      refine hunrequested ?_
      omega
  case converged =>
    intro s l hstate hcycles
    let c := (s.setEq l 3).modRx l (fun x => { x with sinceSwap := 0 })
    have hexec : exec (.eqConvergeEnd l) s = .next (c.noteLast l) := if_pos ⟨hstate, hcycles⟩
    have hframe : Frame { regs := true, rx := true } (fun ix sub => ix = Ob.LINE_EQ_STATE ∧ sub = l.val + 1) s c := by simp [c]
    have hnoted : Frame { rx := true } (fun _ _ => False) c (c.noteLast l) := (frame_noteLast rfl).mpr .refl
    have hkept : LaneKept l s (c.noteLast l) := by simp [c]
    have htrack : c.eqState l = 3 := by simp [c, State.eqState, State.setEq]
    have hrx : c.rx[l] = { s.rx[l] with sinceSwap := 0 } := State.modRx_self _ _ _
    have hbank : c.bank l = s.bank l := (State.banks_congr (hframe.regs _ _ (by omega) (by simp)) (by rw [hrx]) (by rw [hrx])).1
    have hrate : c.laneRate l = s.laneRate l :=
      State.laneRate_congr (hframe.view State.breakout fun _ _ => rfl) (fun p => hframe.regs _ _ (by omega) (by simp)) l
    have hall := (frame_noteLast (l := l) rfl).mpr hframe
    refine ⟨_, hexec, hall.fields, ?_, ?_, ?_, hkept.rx, hall.regs⟩
    · exact (hnoted.regs _ _ (by omega) id).trans htrack
    · rw [State.noteLast_of_track htrack, State.modRx_self]
      exact congrArg RxLane.sinceSwap hrx
    · rw [State.noteLast_of_track htrack, State.modRx_self, hbank, hrate]
      rfl
  case void =>
    intro s l codes s1
    have htl : s1.tl l = s.tl l := s.rxSamples_reg l codes (by omega) (by decide)
    constructor
    · intro h
      refine if_neg ?_
      rintro ⟨hruns, hblock, hlen⟩
      rcases h with h | h | h
      · exact hruns (htl.trans h)
      · exact h hblock
      · exact absurd h (Nat.not_lt.mpr hlen)
    · intro h
      refine if_neg ?_
      rintro ⟨hstate, hcycles⟩
      omega

end Sys2Proof.Machine

/-! SUPPORT. The bank swaps of the equaliser, their rollbacks and the structural changes (R132, R135, R136, R138). -/

namespace Sys2Proof.Machine

/-! ## A swap -/

/-- A lane's receive path without its LAST seeds. -/
def State.rxUnnoted (s : State) (l : Fin 8) : RxLane := { s.rx[l] with last := [] }

theorem State.noteLast_rxUnnoted (s : State) (l : Fin 8) : (s.noteLast l).rxUnnoted l = s.rxUnnoted l := by
  unfold State.noteLast
  split
  · rw [State.rxUnnoted, State.modRx_self]
    rfl
  · rfl

/-- The signal path after a swap: the gradient starts afresh, and in TRACK an adaptation is to be checked (R134, R136). -/
def State.swapDsp (s : State) (l : Fin 8) (q : EqSwap) (x : Dsp) : Dsp := { x with
  grad := [], gradBlocks := 0
  roll := if s.eqState l == 3 && q.adapt && !q.structural && !q.rollback then some {
    bank := s.bank l, before := ((x.errs.map (·.1)).sum, (x.errs.map (·.2)).sum) } else none }

/-- A swap before it is noted as the LAST seed (R132). -/
def State.swapped (s : State) (l : Fin 8) (q : EqSwap) : State :=
  let n := l.val + 1
  let s1 := (s.modRx l (fun x => { x with bankA := s.idleBank l, bankB := s.idleBank l, swap := none, sinceSwap := 0 })).modDsp l
    (s.swapDsp l q)
  ((s1.setReg Ob.LINE_EQ_ACTIVE_BANK n (1 - s.reg Ob.LINE_EQ_ACTIVE_BANK n)).bump Ob.LINE_EQ_SWAP_COUNT n 1).markRun l

theorem State.swapped_rx (s : State) (l : Fin 8) (q : EqSwap) : (s.swapped l q).rx[l] =
    { s.rx[l] with
      bankA := s.idleBank l, bankB := s.idleBank l, swap := none, sinceSwap := 0
      dsp := (s.swapDsp l q s.rx[l].dsp).markFor s.rx[l].dsp.block s.rx[l].dsp.nextBlock } := by
  simp only [State.swapped, State.markRun, State.bump, State.bumpTo, State.modDsp, State.modRx_self, State.setReg_rx]
  rfl

theorem State.swapped_frame (s : State) (l : Fin 8) (q : EqSwap) : Frame { regs := true, rx := true }
    (fun ix sub => ix ∈ [Ob.LINE_EQ_ACTIVE_BANK, Ob.LINE_EQ_SWAP_COUNT] ∧ sub = l.val + 1) s (s.swapped l q) := by
  simp [State.swapped, State.markRun]

theorem State.swapNow_eq (s : State) (l : Fin 8) (q : EqSwap) : s.swapNow l q = (s.swapped l q).noteLast l := rfl

/-- What a swap leaves of the lane's receive path, its LAST seeds aside (R132, R136, R138). -/
theorem State.swapNow_rx (s : State) (l : Fin 8) (q : EqSwap) : (s.swapNow l q).rx[l].bankA = s.idleBank l ∧
    (s.swapNow l q).rx[l].bankB = s.idleBank l ∧ (s.swapNow l q).rx[l].swap = none ∧ (s.swapNow l q).rx[l].sinceSwap = 0 ∧
    (s.swapNow l q).rx[l].dsp = (s.swapDsp l q s.rx[l].dsp).markFor s.rx[l].dsp.block s.rx[l].dsp.nextBlock := by
  have hrest := ((s.swapped l q).noteLast_rxUnnoted l)
  rw [← s.swapNow_eq] at hrest
  unfold State.rxUnnoted at hrest
  rw [s.swapped_rx] at hrest
  simp only [RxLane.mk.injEq] at hrest
  obtain ⟨hdsp, -, -, -, hA, hB, hswap, -, -, -, hsince, -⟩ := hrest
  exact ⟨hA, hB, hswap, hsince, hdsp⟩

theorem State.swapNow_frame (s : State) (l : Fin 8) (q : EqSwap) : Frame { regs := true, rx := true }
    (fun ix sub => ix ∈ [Ob.LINE_EQ_ACTIVE_BANK, Ob.LINE_EQ_SWAP_COUNT] ∧ sub = l.val + 1) s (s.swapNow l q) :=
  (frame_noteLast rfl).mpr (s.swapped_frame l q)

/-- A swap puts the idle bank into service and copies it to the other (R132). -/
theorem State.swapNow_banks (s : State) (l : Fin 8) (q : EqSwap) :
    (s.swapNow l q).bank l = s.idleBank l ∧ (s.swapNow l q).idleBank l = s.idleBank l := by
  obtain ⟨hA, hB, -⟩ := s.swapNow_rx l q
  constructor
  · rw [State.bank, hA, hB, ite_self]
  · rw [State.idleBank, hA, hB, ite_self]

theorem State.swapNow_regs (s : State) (l : Fin 8) (q : EqSwap) :
    (s.swapNow l q).reg Ob.LINE_EQ_ACTIVE_BANK (l.val + 1) = 1 - s.reg Ob.LINE_EQ_ACTIVE_BANK (l.val + 1) ∧
      (s.swapNow l q).reg Ob.LINE_EQ_SWAP_COUNT (l.val + 1) = (min (2 ^ 32 - 1) (s.nat Ob.LINE_EQ_SWAP_COUNT (l.val + 1) + 1) : Nat) := by
  have hnoted : Frame { rx := true } (fun _ _ => False) (s.swapped l q) (s.swapNow l q) := (frame_noteLast rfl).mpr .refl
  rw [hnoted.regs _ _ (by omega) id, hnoted.regs _ _ (by omega) id]
  constructor
  · change ((State.bump _ _ _ _).reg _ _) = _
    rw [State.bump, State.bumpTo, State.reg_setReg _ _ _ _ _ _ (by omega) (by omega), if_neg (by simp)]
    exact State.reg_setReg_self _ _ _ _
  · have hbefore : Frame { regs := true, rx := true } (fun ix _ => ix = Ob.LINE_EQ_ACTIVE_BANK) s
        (((s.modRx l (fun x => { x with bankA := s.idleBank l, bankB := s.idleBank l, swap := none, sinceSwap := 0 })).modDsp l
          (s.swapDsp l q)).setReg Ob.LINE_EQ_ACTIVE_BANK (l.val + 1) (1 - s.reg Ob.LINE_EQ_ACTIVE_BANK (l.val + 1))) := by simp
    change ((State.bump _ _ _ _).reg _ _) = _
    rw [State.bump_reg_self, State.nat, hbefore.regs _ _ (by omega) (by decide)]
    rfl

theorem State.swapNow_laneKept (s : State) (l : Fin 8) (q : EqSwap) : LaneKept l s (s.swapNow l q) := by
  rw [State.swapNow_eq, laneKept_noteLast]
  simp [State.swapped]

theorem exec_bankSwap {s : State} {l : Fin 8} {q : EqSwap} (codes : List Int) (hswap : (s.rxSamples l codes).rx[l].swap = some q) :
    exec (.bankSwap l codes) s = if ((s.rxSamples l codes).tl l = 1 ∨ (s.rxSamples l codes).tl l = 2) ∧
        (s.rxSamples l codes).rx[l].dsp.left % 256 = 0 ∧ q.block ≤ (s.rxSamples l codes).rx[l].dsp.block ∧
        (s.rxSamples l codes).rx[l].dsp.gapWords = 0 ∧ !(s.rxSamples l codes).rx[l].dsp.inGap ∧
        !((s.rxSamples l codes).rx[l].structDue ∧ q.structural) then .next ((s.rxSamples l codes).swapNow l q)
      else .next (s.rxSamples l codes) := by
  change execBankSwap l codes s = _
  unfold execBankSwap
  simp only [hswap]

/-! ## A rollback -/

/-- The coefficients before a swap restored (R136). -/
def State.rolledBack (s : State) (l : Fin 8) (r : Rollback) : State :=
  let ratio := if r.before.2 * r.after.1 = 0 then 65535 else min 65535 (r.after.2 * r.before.1 * 16 / (r.before.2 * r.after.1))
  (((((s.modDsp l (fun x => { x with roll := none })).setIdle l { r.bank with cycle := s.cycleNo l }).requestSwap l
    { rollback := true }).bump Ob.LINE_EQ_ROLLBACKS (l.val + 1) 1).raise
      Src.EQ_ROLLBACK l.val (l.val + 65536 * ratio) Ob.LINE_EQ_EVENTS (l.val + 1))

theorem exec_rollbackCheck {s : State} {l : Fin 8} {r : Rollback} (codes : List Int)
    (hroll : (s.rxSamples l codes).rx[l].dsp.roll = some r) (hleft : r.left = 0) :
    exec (.rollbackCheck l codes) s = let s1 := s.rxSamples l codes
      if 2 * r.before.2 * r.after.1 < r.after.2 * r.before.1 ∧ !(s1.structPending l || s1.rx[l].structDue) ∧ s1.tl l = 2 ∧
        s1.eqState l = 3 then .next (s1.rolledBack l r) else .next (s1.modDsp l (fun x => { x with roll := none })) := by
  change execRollbackCheck l codes s = _
  unfold execRollbackCheck
  simp only [hroll, hleft]
  rfl

/-- A lane's receive path without its banks and its requested swap. -/
def State.rxPath (s : State) (l : Fin 8) : RxLane := { s.rxRest l with swap := none }

theorem State.requestSwap_rxPath (s : State) (l : Fin 8) (q : EqSwap) : (s.requestSwap l q).rxPath l = s.rxPath l := by
  rw [State.rxPath, State.rxRest, State.requestSwap, State.modRx_self]
  rfl

/-- A request that carries a rollback leaves one that does (R132). -/
theorem State.requestSwap_rollback (s : State) (l : Fin 8) :
    ∃ q, (s.requestSwap l { rollback := true }).rx[l].swap = some q ∧ q.rollback = true := by
  unfold State.requestSwap
  rw [State.modRx_self]
  refine ⟨_, rfl, ?_⟩
  split <;> simp

theorem State.rollDone_banks (s : State) (l : Fin 8) : (s.modDsp l (fun x => { x with roll := none })).bank l = s.bank l ∧
    (s.modDsp l (fun x => { x with roll := none })).idleBank l = s.idleBank l := s.modRx_banks l _ (fun _ => rfl) (fun _ => rfl)

theorem State.rollDone_rx (s : State) (l : Fin 8) : (s.modDsp l (fun x => { x with roll := none })).rx[l] =
    { s.rx[l] with dsp := { s.rx[l].dsp with roll := none } } := State.modRx_self _ _ _

/-- A rollback puts the coefficients before the swap into the idle bank and requests its swap (R136). -/
theorem State.rolledBack_lane (s : State) (l : Fin 8) (r : Rollback) : (s.rolledBack l r).rx[l].dsp.roll = none ∧
    (s.rolledBack l r).bank l = s.bank l ∧ (s.rolledBack l r).idleBank l = { r.bank with cycle := s.cycleNo l } ∧
    ∃ q, (s.rolledBack l r).rx[l].swap = some q ∧ q.rollback = true := by
  let s1 := (s.modDsp l (fun x => { x with roll := none })).setIdle l { r.bank with cycle := s.cycleNo l }
  let s2 := s1.requestSwap l { rollback := true }
  have hframe : Frame { regs := true, lookout := true, cap := true } (fun ix _ => ix ≠ Ob.LINE_EQ_ACTIVE_BANK) s2 (s.rolledBack l r) := by
    have hallowed : AllowsEvents fun ix _ => ix ≠ Ob.LINE_EQ_ACTIVE_BANK := by
      rintro ix sub ⟨-, rfl | rfl | rfl⟩ <;> decide
    simp [State.rolledBack, hallowed, s2, s1]
  have hrx : (s.rolledBack l r).rx = s2.rx := hframe.view State.rx fun _ _ => rfl
  obtain ⟨hbank, hidle⟩ := State.banks_of_frame (l := l) hframe rfl (by simp)
  obtain ⟨hbank2, hidle2⟩ := s1.requestSwap_banks l { rollback := true }
  obtain ⟨hidle1, hbank1⟩ := (s.modDsp l (fun x => { x with roll := none })).idleBank_setIdle l { r.bank with cycle := s.cycleNo l }
  have hpath : s2.rxPath l = (s.modDsp l (fun x => { x with roll := none })).rxPath l := by
    rw [State.requestSwap_rxPath, State.rxPath, State.setIdle_rxRest]
    rfl
  rw [hrx]
  refine ⟨?_, hbank.trans (hbank2.trans (hbank1.trans (s.rollDone_banks l).1)), hidle.trans (hidle2.trans hidle1),
    s1.requestSwap_rollback l⟩
  have hdsp : s2.rx[l].dsp = (s.modDsp l (fun x => { x with roll := none })).rx[l].dsp := by
    simpa only [State.rxPath, State.rxRest] using congrArg RxLane.dsp hpath
  rw [hdsp, s.rollDone_rx]

theorem State.rolledBack_frame (s : State) (l : Fin 8) (r : Rollback) :
    Frame { regs := true, rx := true, lookout := true, cap := true } (fun ix sub =>
      (ix ∈ [Ob.LINE_EQ_ROLLBACKS, Ob.LINE_EQ_EVENTS] ∧ sub = l.val + 1) ∨ EventObj ix sub) s (s.rolledBack l r) := by
  simp [State.rolledBack]

theorem State.rolledBack_count (s : State) (l : Fin 8) (r : Rollback) : (s.rolledBack l r).reg Ob.LINE_EQ_ROLLBACKS (l.val + 1) =
    (min (2 ^ 32 - 1) (s.nat Ob.LINE_EQ_ROLLBACKS (l.val + 1) + 1) : Nat) := by
  have hcounted : Frame { regs := true, rx := true } (fun _ _ => False) s (((s.modDsp l (fun x => { x with roll := none })).setIdle l
      { r.bank with cycle := s.cycleNo l }).requestSwap l { rollback := true }) := by simp
  unfold State.rolledBack
  simp only
  rw [State.raise_reg _ _ _ _ _ _ _ _ (by omega) (by omega) (by simp [EventObj]), if_neg (by simp), State.bump_reg_self, State.nat,
    hcounted.regs _ _ (by omega) id]
  rfl

/-! ## A structural change -/

/-- The wanted structure built in the idle bank (R135). -/
def State.structBuilt (s : State) (l : Fin 8) (b : EqBank) (ready : Bool) : State :=
  (forEach (lineEngines l) (fun e s => s.jobDone e 1) (s.setIdle l { rebuild b (s.laneStructure l) with cycle := s.cycleNo l })).modRx l
    (fun x => { x with structDue := false, structReady := ready })

/-- The bank from which a structural change builds (R135). -/
def State.structBase (s : State) (l : Fin 8) : EqBank :=
  if !s.structPending l && (match s.rx[l].swap with | some q => q.adapt | none => false) then s.idleBank l else s.bank l

/-- Whether a structural swap is already requested (R135). -/
def State.structAsked (s : State) (l : Fin 8) : Bool := match s.rx[l].swap with | some q => q.structural | none => false

theorem State.structPending_eq (s : State) (l : Fin 8) : s.structPending l = (s.rx[l].structReady || s.structAsked l) := rfl

theorem State.structAsked_congr {s t : State} {l : Fin 8} (h : t.rx[l].swap = s.rx[l].swap) : t.structAsked l = s.structAsked l := by
  unfold State.structAsked
  rw [h]

theorem exec_structuralChange {s : State} {l : Fin 8} (hdue : s.rx[l].structDue = true) (hruns : s.tl l ≠ 0)
    (hworks : s.anyWorks (lineEngines l) = true) :
    exec (.structuralChange l) s = .next (s.structBuilt l (s.structBase l) (!s.structAsked l)) := if_pos ⟨hdue, hruns, hworks⟩

theorem State.structBase_of_pending {s : State} {l : Fin 8} (h : s.structPending l = true ∨ s.rx[l].swap = none) :
    s.structBase l = s.bank l := by
  unfold State.structBase
  rcases h with h | h
  · rw [h]
    rfl
  · simp only [h, Bool.and_false, Bool.false_eq_true, if_false]

theorem State.structBuilt_jobs (s : State) (l : Fin 8) (b : EqBank) : Frame { regs := true, eng := true }
    (fun ix sub => ix = Ob.ENG_STATE ∧ 16 * l.val < sub ∧ sub ≤ 16 * l.val + 8) (s.setIdle l b)
      (forEach (lineEngines l) (fun e s => s.jobDone e 1) (s.setIdle l b)) := by
  refine (frame_forEach fun e he t => ?_).mpr .refl
  obtain ⟨hlo, hhi⟩ := lineEngines_sub he
  simp [hlo, hhi]

theorem State.structBuilt_frame (s : State) (l : Fin 8) (b : EqBank) (ready : Bool) : Frame { regs := true, rx := true, eng := true }
    (fun ix sub => ix = Ob.ENG_STATE ∧ 16 * l.val < sub ∧ sub ≤ 16 * l.val + 8) s (s.structBuilt l b ready) :=
  (frame_modRx rfl).mpr (Frame.trans ((frame_setIdle rfl).mpr .refl) ((State.structBuilt_jobs s l _).widen (fun _ _ => rfl) fun _ _ h => h))

/-- A structural change writes the idle bank alone, and leaves its swap to be requested unless one is (R135). -/
theorem State.structBuilt_lane (s : State) (l : Fin 8) (b : EqBank) (ready : Bool) :
    (s.structBuilt l b ready).bank l = s.bank l ∧
    (s.structBuilt l b ready).idleBank l = { rebuild b (s.laneStructure l) with cycle := s.cycleNo l } ∧
    (s.structBuilt l b ready).rx[l].structDue = false ∧ (s.structBuilt l b ready).rx[l].structReady = ready ∧
    (s.structBuilt l b ready).rx[l].swap = s.rx[l].swap := by
  let s1 := s.setIdle l { rebuild b (s.laneStructure l) with cycle := s.cycleNo l }
  let s2 := forEach (lineEngines l) (fun e s => s.jobDone e 1) s1
  have hjobs := s.structBuilt_jobs l { rebuild b (s.laneStructure l) with cycle := s.cycleNo l }
  obtain ⟨hidle1, hbank1⟩ := s.idleBank_setIdle l { rebuild b (s.laneStructure l) with cycle := s.cycleNo l }
  obtain ⟨hbank2, hidle2⟩ := State.banks_of_frame (l := l) hjobs rfl (by simp)
  obtain ⟨hbank, hidle⟩ := s2.modRx_banks l (fun x => { x with structDue := false, structReady := ready }) (fun _ => rfl) (fun _ => rfl)
  have hrx : s2.rx = s1.rx := hjobs.view State.rx fun _ _ => rfl
  have hswap : s1.rx[l].swap = s.rx[l].swap := by
    simpa only [State.rxRest] using congrArg RxLane.swap (s.setIdle_rxRest l _)
  have hlane : (s.structBuilt l b ready).rx[l] = { s1.rx[l] with structDue := false, structReady := ready } := by
    rw [← hrx]
    exact State.modRx_self _ _ _
  rw [hlane]
  exact ⟨hbank.trans (hbank2.trans hbank1), hidle.trans (hidle2.trans hidle1), rfl, rfl, hswap⟩

theorem State.structBuilt_laneKept (s : State) (l : Fin 8) (b : EqBank) (ready : Bool) : LaneKept l s (s.structBuilt l b ready) := by
  simp [State.structBuilt, laneKept_forEach]

theorem rebuild_dfe (b : EqBank) {st : Nat} (h : hasDfe st = false) : (rebuild b st).dfe = 0 := by
  simp [rebuild, h]

theorem rebuild_ffe_length (b : EqBank) (st : Nat) : (rebuild b st).ffe.length = 41 := by
  simp [rebuild]

/-- Settles O19: each of the three commands is one update of the lane, and a swap waits where one of its conditions fails. -/
theorem bankSwapsAndRollbacks : Obligations.BankSwapsAndRollbacks := by
  unfold Obligations.BankSwapsAndRollbacks
  refine ⟨?swap, ?deferred, ?rollback, ?structural⟩
  case swap =>
    intro s l q codes s1 x hswap hruns hboundary hblock hgap hinGap hcurrent
    have hreg : ∀ {ix}, ix ∉ [Ob.LINE_TL_FREQ_PPB, Ob.LINE_UNSETTLED_BLOCKS, Ob.TEST_LINE_BITS, Ob.TEST_LINE_ERRORS, Ob.ENG_STATE] →
        s1.reg ix (l.val + 1) = s.reg ix (l.val + 1) := fun h => s.rxSamples_reg l codes (by omega) h
    have hruns1 : s1.tl l = 1 ∨ s1.tl l = 2 := by rwa [show s1.tl l = s.tl l from hreg (by decide)]
    have hexec : exec (.bankSwap l codes) s = .next (s1.swapNow l q) := by
      rw [exec_bankSwap codes hswap]
      refine if_pos ⟨hruns1, hboundary, hblock, hgap, ?_, ?_⟩
      · exact Bool.not_eq_true' _ |>.mpr hinGap
      · rcases hcurrent with h | h
        · simp only [s1] at h
          simp only [h]
          rfl
        · simp only [h]
          simp
    obtain ⟨hA, hB, hnone, hsince, hdsp⟩ := s1.swapNow_rx l q
    obtain ⟨hbank, hidle⟩ := s1.swapNow_banks l q
    obtain ⟨hactive, hcount⟩ := s1.swapNow_regs l q
    have hkept : LaneKept l s (s1.swapNow l q) := LaneKept.trans (by simp [s1]) (s1.swapNow_laneKept l q)
    refine ⟨_, hexec, (s1.swapNow_frame l q).fields, hbank, hidle, hnone, hsince, ?_, ?_, ?_, ?_, ?_, hkept.rx, (s1.swapNow_frame l q).regs⟩
    · rw [hdsp]
      rfl
    · rw [hactive, hreg (by decide)]
    · rw [hcount, State.nat, State.nat, hreg (by decide)]
    · intro htrack hadapt hstructural hrollback
      have hstate : s1.eqState l = 3 := (hreg (by decide)).trans htrack
      refine ⟨⟨s1.bank l, ((x.errs.map (·.1)).sum, (x.errs.map (·.2)).sum), (0, 0), 16⟩, ?_, rfl, rfl⟩
      rw [hdsp]
      exact if_pos (by rw [hstate, hadapt, hstructural, hrollback]; rfl)
    · intro h
      have hstate : s1.eqState l = s.eqState l := hreg (by decide)
      rw [hdsp]
      refine if_neg ?_
      rw [hstate]
      rcases h with h | h | h | h <;> simp [h]
  case deferred =>
    intro s l codes s1 h
    have htl : s1.tl l = s.tl l := s.rxSamples_reg l codes (by omega) (by decide)
    cases hswap : s1.rx[l].swap with
    | none =>
      change execBankSwap l codes s = _
      unfold execBankSwap
      simp only [s1] at hswap
      simp only [hswap]
      rfl
    | some q =>
      rw [exec_bankSwap codes hswap]
      refine if_neg ?_
      rintro ⟨hruns, hboundary, hblock, hgap, hinGap, hcurrent⟩
      rcases h with h | h | h | h | h | h | ⟨p, hp, h | ⟨hdue, hstructural⟩⟩
      · exact absurd (hswap.symm.trans h) (by simp)
      · exact absurd (htl.trans h) fun h0 : (s.rxSamples l codes).tl l = 0 => by omega
      · exact absurd (htl.trans h) fun h3 : (s.rxSamples l codes).tl l = 3 => by omega
      · exact h hgap
      · rw [show (s.rxSamples l codes).rx[l].dsp.inGap = true from h] at hinGap
        cases hinGap
      · exact h hboundary
      · obtain rfl : q = p := Option.some.inj (hswap.symm.trans hp)
        exact absurd hblock (Nat.not_le.mpr h)
      · obtain rfl : q = p := Option.some.inj (hswap.symm.trans hp)
        rw [show (s.rxSamples l codes).rx[l].structDue = true from hdue, hstructural] at hcurrent
        cases hcurrent
  case rollback =>
    intro s l r codes s1 hroll hleft
    have hreg : ∀ {ix}, ix ∉ [Ob.LINE_TL_FREQ_PPB, Ob.LINE_UNSETTLED_BLOCKS, Ob.TEST_LINE_BITS, Ob.TEST_LINE_ERRORS, Ob.ENG_STATE] →
        s1.reg ix (l.val + 1) = s.reg ix (l.val + 1) := fun h => s.rxSamples_reg l codes (by omega) h
    have hexec := exec_rollbackCheck codes hroll hleft
    by_cases hback : 2 * r.before.2 * r.after.1 < r.after.2 * r.before.1 ∧ !(s1.structPending l || s1.rx[l].structDue) ∧
        s1.tl l = 2 ∧ s1.eqState l = 3
    · obtain ⟨hnone, hbank, hidle, hasked⟩ := s1.rolledBack_lane l r
      have hkept : LaneKept l s (s1.rolledBack l r) := by simp [State.rolledBack, s1]
      refine ⟨_, hexec.trans (if_pos hback), (s1.rolledBack_frame l r).fields, hnone, hbank, fun _ _ _ _ _ => ⟨hidle, hasked, ?_⟩, ?_,
        hkept.rx, (s1.rolledBack_frame l r).regs⟩
      · rw [s1.rolledBack_count, State.nat, State.nat, hreg (by decide)]
      · exact fun h => absurd hback.1 (Nat.not_lt.mpr h)
    · obtain ⟨hbank, hidle⟩ := s1.rollDone_banks l
      have hrx := s1.rollDone_rx l
      have hkept : LaneKept l s (s1.modDsp l (fun x => { x with roll := none })) := by simp [s1]
      refine ⟨_, hexec.trans (if_neg hback), rfl, ?_, hbank, ?_, ?_, hkept.rx, fun _ _ _ _ => rfl⟩
      · rw [hrx]
      · intro hworse htl hstate hdue hpending
        refine absurd ⟨hworse, ?_, (hreg (by decide)).trans htl, (hreg (by decide)).trans hstate⟩ hback
        rw [hpending, hdue]
        rfl
      · exact fun _ => ⟨rfl, hidle, by rw [hrx]⟩
  case structural =>
    intro s l hdue hruns hworks
    obtain ⟨hbank, hidle, hdone, hready, hswap⟩ := s.structBuilt_lane l (s.structBase l) (!s.structAsked l)
    refine ⟨_, exec_structuralChange hdue hruns hworks, (s.structBuilt_frame l _ _).fields, hbank, ?_, ?_, ?_, ?_, hdone, ?_, hswap,
      (s.structBuilt_laneKept l _ _).rx, (s.structBuilt_frame l _ _).regs⟩
    · rw [hidle]
      rfl
    · rw [hidle]
      exact rebuild_ffe_length _ _
    · intro h
      rw [hidle, State.structBase_of_pending h]
    · intro h
      rw [hidle]
      exact rebuild_dfe _ h
    · rw [State.structPending_eq, hready, State.structAsked_congr hswap, Bool.not_or_self]

end Sys2Proof.Machine

/-! SUPPORT. A port that a rate change holds (R42, R310). -/

namespace Sys2Proof.Machine

/-- The reset state with port 0 held OFF by a rate change. -/
def portHeldByRateChange : State :=
  { State.reset with port := State.reset.port.set 0 { rateHold := true } }

/-- The end of the drain takes such a port to SEARCH. -/
theorem portHeldByRateChange_searches :
    shown (fun t => t.reg Ob.PORT_STATE 1) (exec (.drainComplete 0) portHeldByRateChange) = some PS.SEARCH := by decide +kernel

/-- Refutes O37: the end of a drain acts on a port in OFF too where a rate change holds it, so it is not void outside DRAINING. -/
theorem not_carryingAndDraining : ¬ Obligations.CarryingAndDraining := by
  unfold Obligations.CarryingAndDraining
  rintro ⟨-, -, -, -, -, hvoid⟩
  have hstay : exec (.drainComplete 0) portHeldByRateChange = .next portHeldByRateChange :=
    ((hvoid portHeldByRateChange 0).2.2.2 (by decide)).1
  have hsearch := portHeldByRateChange_searches
  rw [hstay] at hsearch
  exact absurd hsearch (by decide)

end Sys2Proof.Machine

/-! SUPPORT. A domain that its port's votes wake as its entry ends (R221, R297). -/

namespace Sys2Proof.Machine

/-- Port 0 in STANDBY while the receive domain of its lane is in ENTRY. -/
def entryWithPortInStandby : State :=
  (State.reset.setReg Ob.PORT_STATE 1 PS.STANDBY).setPwr (Dom.lrx 0) 3

/-- The end of the entry leaves the domain in WAKE. -/
theorem entryWithPortInStandby_wakes :
    shown (fun t => t.pwr (Dom.lrx 0)) (exec (.domainEntryDone (Dom.lrx 0)) entryWithPortInStandby) = some 4 := by decide +kernel

/-- Refutes O52: the votes of a port in STANDBY wake its lane's domain in the very command that ends the domain's entry, so the entry
need not end in the rest state. -/
theorem not_votesMoveDomains : ¬ Obligations.VotesMoveDomains := by
  unfold Obligations.VotesMoveDomains
  rintro ⟨-, -, hentry, -, -⟩
  obtain ⟨t, hexec, hrest, -⟩ := (hentry entryWithPortInStandby (Dom.lrx 0)).1 (by decide)
  have hwakes := entryWithPortInStandby_wakes
  rw [hexec] at hwakes
  have hwake : t.pwr (Dom.lrx 0) = 4 := Option.some.inj hwakes
  rw [hrest] at hwake
  exact absurd hwake (by split <;> decide)

end Sys2Proof.Machine

/-! SUPPORT. A missed task whose event triggers the capture (R332, R394). -/

namespace Sys2Proof.Machine

/-- Engine 14, a service engine, with frozen counters and one task whose result replaced TEST.CAP_STATE, with the capture set to
trigger on the event of a missed deadline. -/
def missBeforeFaultTrigger : State :=
  { ((((State.reset.setReg Ob.ENG_STATE 15 1).setReg Ob.ENG_PMU_FREEZE 0 1).setReg Ob.TEST_CAP_TRIG 0 2).setReg Ob.TEST_CAP_TRIG_FAULT 0
      Src.ENG_DEADLINE) with
    eng := State.reset.eng.set 14 { jobs := [{ task := 1, deadline := 0 }], undo := [(1, .num Ob.TEST_CAP_STATE 0 1)] } }

/-- The miss puts the capture back to ARMED, and its own event triggers it. -/
theorem missBeforeFaultTrigger_triggers :
    shown (fun t => t.reg Ob.TEST_CAP_STATE 0) (exec (.engTaskMiss 14 1 {}) missBeforeFaultTrigger) = some 2 := by
  decide +kernel

/-- Refutes O49: what a miss puts back need not stand after the command, because the event that the miss raises can trigger the
capture. -/
theorem not_enginesCountHaltAndRestart : ¬ Obligations.EnginesCountHaltAndRestart := by
  unfold Obligations.EnginesCountHaltAndRestart
  rintro ⟨-, -, hmiss, -⟩
  obtain ⟨-, hputBack, -⟩ := hmiss missBeforeFaultTrigger 14 1 {} (by decide) (by decide)
  obtain ⟨t, hexec, hreg⟩ := hputBack Ob.TEST_CAP_STATE 0 1 (by decide) (by decide) (by decide) (by decide)
  have htriggers := missBeforeFaultTrigger_triggers
  rw [hexec] at htriggers
  have hstate : t.reg Ob.TEST_CAP_STATE 0 = 2 := Option.some.inj htriggers
  rw [hreg] at hstate
  exact absurd hstate (by decide)

end Sys2Proof.Machine

/-! SUPPORT. A request that reads the counter, and a request that brings a held port up (R42, R51, R295). -/

namespace Sys2Proof.Machine

/-- A started chip that serves requests: DEPLOYED, every domain ON, the dictionary READY. -/
def serving : State :=
  { State.reset with
    start := { State.reset.start with powered := true }
    regs := (objKey Ob.DICT_STATE 0, 1) :: (List.range 36).map (fun d => (objKey Ob.POWER_STATE (d + 1), 2)) ++
      [(objKey Ob.POWER_START_STEP 0, 8), (objKey Ob.LC_STATE 0, 3), (objKey Ob.LC_NEXT 0, 3)] }

/-- A request of the SPI host. -/
def spiRequest : Req := { path := .spi, tag := 0x11 }

/-! ## A frame that waited -/

/-- The frame of a READ of TIME.NOW. -/
def timeReadFrame : List Byte := closeFrame (frameBody spiRequest .read Ob.TIME_NOW 0 [])

/-- The SPI transport took that frame in, and latched the counter at 12,345, before this cycle. -/
def readOfTimeWaits : State := serving.modTp .spi (fun t => { t with accepted := [{ bytes := timeReadFrame, time := 12345 }] })

theorem readOfTimeWaits_accepts : readOfTimeWaits.Accepts spiRequest .read Ob.TIME_NOW 0 [] where
  mgt := by decide +kernel
  schema := by decide +kernel
  new := fun h => absurd h (by decide)
  tag := by decide +kernel
  room := by decide +kernel
  gate := by decide +kernel
  single := fun _ => by decide +kernel

/-- The READ answers another time than the counter's value in this cycle. -/
theorem readOfTimeWaits_older :
    shown (fun t => (t.tp .spi).replies) (exec (.mmpRead spiRequest Ob.TIME_NOW 0 []) readOfTimeWaits) ≠
      some (((readOfTimeWaits.taken spiRequest .read Ob.TIME_NOW 0 []).reply spiRequest .read Ob.TIME_NOW 0 St.OK
        (leInt 12 (readOfTimeWaits.stamp : Int))).tp .spi).replies := by decide +kernel

/-- Refutes O43: a READ of TIME.NOW whose frame waited in its transport returns the counter as it was latched when the frame's check
completed, not as it is in the cycle that serves the request. -/
theorem not_objectsReadWriteAndWalk : ¬ Obligations.ObjectsReadWriteAndWalk := by
  unfold Obligations.ObjectsReadWriteAndWalk
  rintro ⟨-, htime, -⟩
  have hread := htime readOfTimeWaits spiRequest readOfTimeWaits_accepts
  exact readOfTimeWaits_older (by rw [hread]; rfl)

/-! ## A port held in STANDBY -/

/-- Port 0 in STANDBY, its lane's transmitter ready, held by a foreground calibration of its lane. -/
def heldInStandby : State :=
  { ((serving.setReg Ob.PORT_STATE 1 PS.STANDBY).setReg Ob.PORT_RATE_ACTIVE 1 1).setReg Ob.TX_STATE 1 2 with
    rxsynth := State.reset.rxsynth.set 0 { locked := true, band := true }
    adc := State.reset.adc.set 0 { fgRun := true } }

theorem heldInStandby_accepts : heldInStandby.Accepts spiRequest .exec Ob.PORT_CMD 1 [2] where
  mgt := by decide +kernel
  schema := by decide +kernel
  new := fun _ => by decide +kernel
  tag := by decide +kernel
  room := by decide +kernel
  gate := by decide +kernel
  single := fun h => absurd h (by decide)

/-- UP starts no optics sequence on the lane of the held port. -/
theorem heldInStandby_waits : shown (fun t => t.seq 0) (exec (.portCmdUp spiRequest 1) heldInStandby) = some 0 := by decide +kernel

/-- Refutes O34: UP in STANDBY does not start the up sequence at once where a foreground calibration of a lane holds the port. -/
theorem not_portCommandsMoveThePort : ¬ Obligations.PortCommandsMoveThePort := by
  unfold Obligations.PortCommandsMoveThePort
  rintro ⟨-, hup, -⟩
  obtain ⟨u, hexec, -, -, -, hlanes, -⟩ := hup heldInStandby spiRequest 0 heldInStandby_accepts (by decide +kernel) (by decide +kernel)
    (by decide +kernel) (by decide +kernel) (by decide +kernel) (by decide +kernel) (by decide +kernel)
  have hwaits := heldInStandby_waits
  have hseq : u.seq 0 = 1 := (hlanes 0 (by decide +kernel)).1
  rw [show exec (.portCmdUp spiRequest 1) heldInStandby = _ from hexec] at hwaits
  exact absurd (hseq.symm.trans (Option.some.inj hwaits)) (by decide)

end Sys2Proof.Machine

/-! SUPPORT. Results that a missed task puts back while a memory or LOOKOUT counts (R394, R458, R470). -/

namespace Sys2Proof.Machine

/-! ## An engine halted by its memory -/

/-- Engine 0 with a task whose result replaced the count of uncorrectable words of its own memory, group 34. -/
def memoryCountUndone : State :=
  { ((State.reset.setReg Ob.POWER_STATE ((Dom.eng 0).val + 1) 2).setReg Ob.ENG_STATE 1 1) with
    start := { State.reset.start with powered := true }
    eng := State.reset.eng.set 0 { jobs := [{ task := 1, deadline := 0 }], undo := [(1, .num Ob.MEM_UNCORRECTABLE 35 77)] } }

/-- The uncorrectable word halts the engine, whose missed task puts the count back. -/
theorem memoryCountUndone_putsBack :
    shown (fun t => t.reg Ob.MEM_UNCORRECTABLE 35) (exec (.memScrubRead [⟨.group 34, 0, .engine 0, 2, false⟩]) memoryCountUndone) =
      some 77 := by decide +kernel

/-- Refutes O56: a word with two bits in error in an engine's memory halts the engine, and what its missed tasks put back can be the very
count of uncorrectable words. -/
theorem not_memoriesScrubAndCorrect : ¬ Obligations.MemoriesScrubAndCorrect := by
  unfold Obligations.MemoriesScrubAndCorrect
  rintro ⟨-, hread, -, -⟩
  obtain ⟨t, hexec, -, -, -, hcount, -⟩ := hread memoryCountUndone 34 0 2 (.engine 0) false (by decide) (by decide) (by decide)
  have hback := memoryCountUndone_putsBack
  rw [hexec] at hback
  have hundone : t.reg Ob.MEM_UNCORRECTABLE 35 = 77 := Option.some.inj hback
  exact absurd (hcount.symm.trans hundone) (by decide)

/-! ## An engine stopped by the safe state -/

/-- A FATAL record of source 1 waits, and a task of engine 0 has a result that replaced that source's count. -/
def sourceCountUndone : State :=
  { (((State.reset.setReg Ob.POWER_STATE ((Dom.eng 0).val + 1) 2).setReg Ob.ENG_STATE 1 1).setReg Ob.FAULT_SEVERITY 1 4) with
    lookout := { State.reset.lookout with queue := [⟨1, 0, false, 4, 0⟩] }
    eng := State.reset.eng.set 0 { jobs := [{ task := 1, deadline := 0 }], undo := [(1, .num Ob.FAULT_SRC_COUNT 1 77)] } }

/-- The entry of the safe state stops the engine, whose missed task puts the count back before the record counts. -/
theorem sourceCountUndone_putsBack :
    shown (fun t => t.reg Ob.FAULT_SRC_COUNT 1) (exec .lookoutRecordAccept sourceCountUndone) = some 78 := by decide +kernel

/-- Refutes O55: a FATAL record takes the device to the safe state before it counts, and what the stopped engines put back can be the very
count of its source. -/
theorem not_faultsAreCollected : ¬ Obligations.FaultsAreCollected := by
  unfold Obligations.FaultsAreCollected
  rintro ⟨-, hfatal, -⟩
  obtain ⟨t, hexec, -, -, -, -, hcount, -⟩ := hfatal sourceCountUndone ⟨1, 0, false, 4, 0⟩ [] rfl (by decide) (by decide) (by decide)
  have hback := sourceCountUndone_putsBack
  rw [hexec] at hback
  have hundone : t.reg Ob.FAULT_SRC_COUNT 1 = 78 := Option.some.inj hback
  exact absurd (hcount.symm.trans hundone) (by decide)

end Sys2Proof.Machine

/-! SUPPORT. Fuse programming and the life-cycle commands (R477 to R479, R490 to R493). -/

namespace Sys2Proof.Machine

/-! ## What an accepted request leaves of the fuses and of its transport -/

section
variable (s : State) (r : Req) (op : Opcode) (ix sub : Nat) (pl : List Byte)

theorem State.taken_fuseCell (w : Nat) : (s.taken r op ix sub pl).fuseCell w = s.fuseCell w := by
  simp only [State.fuseCell, State.taken_fuse]

theorem State.taken_fuseSensed (w : Nat) : (s.taken r op ix sub pl).fuseSensed w = s.fuseSensed w := by
  simp only [State.fuseSensed, State.taken_fuseCell, State.taken_fuse]

theorem State.taken_moduleKeyGood : (s.taken r op ix sub pl).moduleKeyGood = s.moduleKeyGood := by
  simp only [State.moduleKeyGood, State.taken_fuse]

theorem State.taken_vendorKey : (s.taken r op ix sub pl).vendorKey = s.vendorKey := by
  simp only [State.vendorKey, State.keyBytes, State.fuseWord, State.taken_fuse]

end

/-! ## One transport and the others -/

theorem Path.idx_add_one (p : Path) : p.idx.val + 1 = p.sub := by
  cases p with
  | inband q => simp only [Path.idx, Path.sub]; omega
  | _ => rfl

theorem Path.idx_injective : Function.Injective Path.idx := by
  intro p q h
  have hsub : p.sub = q.sub := by rw [← Path.idx_add_one p, ← Path.idx_add_one q, h]
  cases p <;> cases q <;> grind [Path.sub]

theorem State.modTp_tp_ne (s : State) {p q : Path} (f : Transport → Transport) (h : q ≠ p) : (s.modTp p f).tp q = s.tp q := by
  unfold State.modTp State.tp
  exact getElem_set_other _ _ _ fun e => h (Path.idx_injective e)

theorem State.arrive_tp_ne (s : State) {p q : Path} (f : List Byte) (h : q ≠ p) : (s.arrive p f).tp q = s.tp q := by
  unfold State.arrive
  split
  · exact s.modTp_tp_ne _ h
  · exact State.modTp_tp_ne _ _ h

section
variable (s : State) (r : Req) (op : Opcode) (ix sub : Nat) (pl : List Byte)

theorem State.taken_tp_ne {p : Path} (h : p ≠ r.path) : (s.taken r op ix sub pl).tp p = s.tp p := by
  unfold State.taken
  simp only
  split
  · rw [State.modTp_tp_ne _ _ h, State.arrive_tp_ne _ _ h]
  · exact s.arrive_tp_ne _ h

/-- A request's own transport keeps what no arrival and no note of a TAG touches. -/
theorem State.taken_tp_view {α : Type} (view : Transport → α) (harrive : ∀ t a n, view { t with accepted := a, latched := n } = view t)
    (hnote : ∀ t tag c, view (noteReq t tag c) = view t) : view ((s.taken r op ix sub pl).tp r.path) = view (s.tp r.path) := by
  have hcounted : view ((s.arrive r.path (closeFrame (frameBody r op ix sub pl))).tp r.path) = view (s.tp r.path) := by
    unfold State.arrive
    split
    · rw [State.modTp_tp_self, harrive]
    · rw [State.modTp_tp_self]; exact harrive (s.tp r.path) (s.tp r.path).accepted _
  unfold State.taken
  simp only
  split
  · rw [State.modTp_tp_self, hnote, hcounted]
  · exact hcounted

theorem State.taken_session : ((s.taken r op ix sub pl).tp r.path).session = (s.tp r.path).session :=
  s.taken_tp_view r op ix sub pl (fun t => t.session) (fun _ _ _ => rfl) fun _ _ _ => rfl

theorem State.taken_lcChallenge : ((s.taken r op ix sub pl).tp r.path).lcChallenge = (s.tp r.path).lcChallenge :=
  s.taken_tp_view r op ix sub pl (fun t => t.lcChallenge) (fun _ _ _ => rfl) fun _ _ _ => rfl

end

/-- A raised event counts in its own counter (R458). -/
theorem State.raise_counter (s : State) (src inst detail ix sub : Nat) (hsub : sub < 256) (h : ¬ EventObj ix sub) :
    (s.raise src inst detail ix sub).reg ix sub = (min (2 ^ 32 - 1) (s.nat ix sub + 1) : Nat) := by
  rw [State.raise_reg _ _ _ _ _ _ _ _ hsub hsub h, if_pos ⟨rfl, rfl⟩]

/-! ## The word that spells the life cycle -/

/-- What a life-cycle step can change (R490, R491). -/
def LifeObj : Nat → Nat → Prop := fun ix sub => ix = Ob.LC_NEXT ∨ ix = Ob.SELFTEST_EVENTS ∨ EventObj ix sub

section
variable (s : State) (bit new : Nat)

theorem State.lcBlow_frame : Frame { regs := true, lookout := true, cap := true, fuse := true } LifeObj s (s.lcBlow bit new) := by
  unfold State.lcBlow LifeObj
  simp

theorem State.lcBlow_fuse : (s.lcBlow bit new).fuse =
    { s.fuse with cells := s.fuse.cells.put (fun _ => 0) 4 (withBit (s.fuseCell 4) bit true) } := by
  simp [State.lcBlow]

theorem State.lcBlow_fields : s.lcBlow bit new = { s with
    regs := (s.lcBlow bit new).regs, lookout := (s.lcBlow bit new).lookout, cap := (s.lcBlow bit new).cap
    fuse := { s.fuse with cells := (s.lcBlow bit new).fuse.cells } } := by
  have hfuse : { s.fuse with cells := (s.lcBlow bit new).fuse.cells } = (s.lcBlow bit new).fuse := by rw [State.lcBlow_fuse]
  rw [hfuse]
  exact (s.lcBlow_frame bit new).fields

theorem State.lcBlow_next : (s.lcBlow bit new).reg Ob.LC_NEXT 0 = (new : Int) := by
  simp [State.lcBlow, State.raise_reg, EventObj]

theorem State.lcBlow_events : (s.lcBlow bit new).reg Ob.SELFTEST_EVENTS 0 =
    (min (2 ^ 32 - 1) (s.nat Ob.SELFTEST_EVENTS 0 + 1) : Nat) := by
  simp [State.lcBlow, State.raise_reg, State.nat, State.reg_setReg, EventObj]

theorem State.lcBlow_fuseCell : (s.lcBlow bit new).fuseCell 4 = withBit (s.fuseCell 4) bit true := by
  simp [State.fuseCell, State.lcBlow_fuse]

theorem State.lcBlow_fuseCell_ne (w : Nat) (hw : w ≠ 4) : (s.lcBlow bit new).fuseCell w = s.fuseCell w := by
  simp [State.fuseCell, State.lcBlow_fuse, Store.get_put_ne _ _ _ _ _ hw.symm]

end

/-! ## FUSE.PROGRAM -/

/-- A module word blown with its VALID cell (R479). -/
def State.burnWord (s : State) (w v : Nat) : State :=
  { s with fuse := { s.fuse with cells := s.fuse.cells.put (fun _ => 0) w v, valid := w :: s.fuse.valid } }

/-- A word closed for good because a cell of it fails (R479). -/
def State.closeWord (s : State) (w cell : Nat) : State :=
  ({ s with fuse := { s.fuse with closed := w :: s.fuse.closed } } : State).raise Src.FUSE_PROG_FAIL 0 (w + 256 * (cell % 128))
    Ob.SELFTEST_EVENTS 0

section
variable (s : State) (w v : Nat)

theorem State.burnWord_sensed : (s.burnWord w v).fuseSensed w = v := by
  simp [State.burnWord, State.fuseSensed, State.fuseCell]

theorem State.burnWord_sensed_ne (x : Nat) (hx : x ≠ w) : (s.burnWord w v).fuseSensed x = s.fuseSensed x := by
  simp [State.burnWord, State.fuseSensed, State.fuseCell, Store.get_put_ne _ _ _ _ _ hx.symm, hx]

theorem State.closeWord_fuse (cell : Nat) : (s.closeWord w cell).fuse = { s.fuse with closed := w :: s.fuse.closed } := by
  simp [State.closeWord]

theorem State.closeWord_frame (cell : Nat) : Frame { regs := true, lookout := true, cap := true, fuse := true }
    (fun ix sub => ix = Ob.SELFTEST_EVENTS ∨ EventObj ix sub) s (s.closeWord w cell) := by
  unfold State.closeWord
  simp

theorem State.closeWord_events (cell : Nat) : (s.closeWord w cell).reg Ob.SELFTEST_EVENTS 0 =
    (min (2 ^ 32 - 1) (s.nat Ob.SELFTEST_EVENTS 0 + 1) : Nat) := by
  simp [State.closeWord, State.raise_reg, State.nat, EventObj]

end

section
variable {s : State} {w : Nat} (hword : s.nat Ob.FUSE_PROG_WORD 0 = w)
include hword

theorem ownFuseProgram_no_module (fail : Option Nat) (hmodule : moduleWord w = false) : ownFuseProgram fail s = .deny St.RANGE := by
  simp [ownFuseProgram, hword, hmodule]

theorem ownFuseProgram_used (fail : Option Nat) (hmodule : moduleWord w = true)
    (hused : s.fuseCell w ≠ 0 ∨ w ∈ s.fuse.valid ∨ w ∈ s.fuse.closed) : ownFuseProgram fail s = .deny St.CONFIG_CONFLICT := by
  simp [ownFuseProgram, hword, hmodule, hused]

section
variable (hmodule : moduleWord w = true) (hcell : s.fuseCell w = 0) (hvalid : w ∉ s.fuse.valid) (hclosed : w ∉ s.fuse.closed)
include hmodule hcell hvalid hclosed

theorem ownFuseProgram_blown : ownFuseProgram none s = .done (s.burnWord w (s.nat Ob.FUSE_PROG_DATA 0)) [] := by
  simp [ownFuseProgram, hword, hmodule, hcell, hvalid, hclosed, State.burnWord]

theorem ownFuseProgram_failed (cell : Nat) : ownFuseProgram (some cell) s = .fail (s.closeWord w cell) St.CONFIG_CONFLICT := by
  simp [ownFuseProgram, hword, hmodule, hcell, hvalid, hclosed, State.closeWord]

end
end

/-! ## LC.ADVANCE and LC.RETURN -/

section
variable {s : State} {path : Path} {lc : Nat} (hlc : s.nat Ob.LC_STATE 0 = lc)
include hlc

theorem ownLcAdvance_blank (v : Int) (hblank : lc = 0) (hsession : (s.tp path).session ≠ some .vendor) :
    ownLcAdvance path v s = .deny St.ACCESS_REFUSED := by
  simp [ownLcAdvance, hlc, hblank, hsession]

section
variable (hallowed : lc ≠ 0 ∨ (s.tp path).session = some .vendor)
include hallowed

theorem ownLcAdvance_allowed (v : Int) : ownLcAdvance path v s =
    if v ≠ (lc + 1 : Nat) then .deny St.RANGE
    else if s.reg Ob.LC_NEXT 0 ≠ s.reg Ob.LC_STATE 0 then .deny St.CONFIG_CONFLICT
    else if lc = 1 ∧ !s.moduleKeyGood then .deny St.CONFIG_CONFLICT
    else .done (s.lcBlow lc (lc + 1)) [] := by
  have hallow : ¬(lc = 0 ∧ (s.tp path).session ≠ some .vendor) := fun h => hallowed.elim (· h.1) h.2
  unfold ownLcAdvance
  simp only [hlc, if_neg hallow]

end
end

/-- The challenge of a transport is spent by an attempt (R492). -/
def State.spendChallenge (s : State) (path : Path) : State := s.modTp path fun t => { t with lcChallenge := none }

/-- Whether a token verifies against the transport's pending challenge. -/
def State.tokenGood (s : State) (path : Path) (token : List Byte) : Bool :=
  match (s.tp path).lcChallenge with
  | some c => Config.ecdsaVerify s.vendorKey (beBytes 8 (s.fuseWord 2) ++ [0x04] ++ c) token
  | none => false

theorem ownLcReturn_eq (path : Path) (token : List Byte) (s : State) : ownLcReturn path token s =
    if s.reg Ob.LC_NEXT 0 ≠ s.reg Ob.LC_STATE 0 then .deny St.CONFIG_CONFLICT
    else if s.tokenGood path token then .done ((s.spendChallenge path).lcBlow 3 4) []
    else .fail ((s.spendChallenge path).raise Src.LC_TOKEN_FAIL 0 path.sub Ob.SELFTEST_EVENTS 0) St.AUTH_FAIL := rfl

/-- What a life-cycle step leaves after an accepted request: the next state, its bit of word 4, its event, and nothing else. -/
theorem State.lcBlow_taken (s : State) (r : Req) (op : Opcode) (ix sub : Nat) (pl : List Byte) (bit new : Nat) :
    let u := (s.taken r op ix sub pl).lcBlow bit new
    u = { s.taken r op ix sub pl with
      regs := u.regs, lookout := u.lookout, cap := u.cap, fuse := { s.fuse with cells := u.fuse.cells } } ∧
    u.reg Ob.LC_NEXT 0 = (new : Int) ∧ u.fuseCell 4 = withBit (s.fuseCell 4) bit true ∧ (∀ x, x ≠ 4 → u.fuseCell x = s.fuseCell x) ∧
    u.reg Ob.SELFTEST_EVENTS 0 = (min (2 ^ 32 - 1) (s.nat Ob.SELFTEST_EVENTS 0 + 1) : Nat) ∧
    KeepsRegs (fun ix sub => ix = Ob.MMP_RX_FRAMES ∨ LifeObj ix sub) s u := by
  refine ⟨?_, State.lcBlow_next _ _ _, ?_, fun x hx => ?_, ?_, ?_⟩
  · rw [← s.taken_fuse r op ix sub pl]
    exact State.lcBlow_fields _ _ _
  · rw [State.lcBlow_fuseCell, State.taken_fuseCell]
  · rw [State.lcBlow_fuseCell_ne _ _ _ x hx, State.taken_fuseCell]
  · rw [State.lcBlow_events, State.taken_nat _ _ _ _ _ _ _ _ (by decide) (by decide)]
  · exact .of_taken ((State.lcBlow_frame _ _ _).mono fun _ _ => .inr).regs fun _ => .inl rfl

/-- Settles O57: each command's own rule on the accepted request, which leaves the fuses, the life cycle and the sessions as they were. -/
theorem fusesAndLifeCycleMove : Obligations.FusesAndLifeCycleMove := by
  unfold Obligations.FusesAndLifeCycleMove
  refine ⟨?program, ?advance, ?retire, ?challenge, ?giveBack⟩
  case program =>
    intro s r fail hacc
    have hword := s.taken_nat r .exec Ob.FUSE_PROGRAM 0 [0] Ob.FUSE_PROG_WORD 0 (by decide) (by decide)
    have hdata := s.taken_nat r .exec Ob.FUSE_PROGRAM 0 [0] Ob.FUSE_PROG_DATA 0 (by decide) (by decide)
    have hcells := s.taken_fuseCell r .exec Ob.FUSE_PROGRAM 0 [0]
    have hfuse := s.taken_fuse r .exec Ob.FUSE_PROGRAM 0 [0]
    refine ⟨fun hmodule => ?_, fun hmodule hused => ?_, fun hmodule hcell hvalid hclosed => ⟨?_, ?_⟩⟩
    · exact next_serve_deny hacc (ownFuseProgram_no_module hword fail hmodule)
    · exact next_serve_deny hacc (ownFuseProgram_used hword fail hmodule (by rwa [hcells, hfuse]))
    · rintro rfl
      have hown := ownFuseProgram_blown hword hmodule (by rwa [hcells]) (by rwa [hfuse]) (by rwa [hfuse])
      refine ⟨_, next_serve_done hacc hown, by rw [State.burnWord, hfuse], ?_, fun x hx => ?_⟩
      · rw [State.burnWord_sensed, hdata]
      · rw [State.burnWord_sensed_ne _ _ _ x hx, State.taken_fuseSensed]
    · rintro cell rfl
      have hown := ownFuseProgram_failed hword hmodule (by rwa [hcells]) (by rwa [hfuse]) (by rwa [hfuse]) cell
      have hframe := (s.taken r .exec Ob.FUSE_PROGRAM 0 [0]).closeWord_frame (s.nat Ob.FUSE_PROG_WORD 0) cell
      refine ⟨_, next_serve_fail hacc hown, ?_, ?_, ?_⟩
      · rw [← hfuse, ← State.closeWord_fuse]
        exact hframe.fields
      · rw [State.closeWord_events, State.taken_nat _ _ _ _ _ _ _ _ (by decide) (by decide)]
      · exact .of_taken (hframe.mono fun _ _ => .inr).regs fun _ => .inl rfl
  case advance =>
    intro s r v hv hacc
    have hspelt : leNat (leBytes 1 v) = v := leNat_leBytes 1 v hv
    have hlc := s.taken_nat r .exec Ob.LC_ADVANCE 0 (leBytes 1 v) Ob.LC_STATE 0 (by decide) (by decide)
    have hstate := s.taken_reg r .exec Ob.LC_ADVANCE 0 (leBytes 1 v) Ob.LC_STATE 0 (by decide) (by decide)
    have hnext := s.taken_reg r .exec Ob.LC_ADVANCE 0 (leBytes 1 v) Ob.LC_NEXT 0 (by decide) (by decide)
    have hsession := s.taken_session r .exec Ob.LC_ADVANCE 0 (leBytes 1 v)
    refine ⟨fun hblank hnone => ?_, fun hallowed => ?_⟩
    · exact next_serve_deny hacc (ownLcAdvance_blank hlc _ hblank (by rwa [hsession]))
    have hown := ownLcAdvance_allowed hlc (by rwa [hsession]) ((leNat (leBytes 1 v) : Nat) : Int)
    rw [hstate, hnext, State.taken_moduleKeyGood] at hown
    refine ⟨fun hv' => ?_, fun hv' hpending => ?_, fun hv' hone hbad => ?_, fun hv' hfree hkey => ?_⟩
    · exact next_serve_deny hacc (by rw [hown, hspelt, if_pos (by omega)])
    · exact next_serve_deny hacc (by rw [hown, hspelt, if_neg (by omega), if_pos hpending])
    · exact next_serve_deny hacc (by rw [hown, hspelt, if_neg (by omega)]; simp [hone, hbad])
    · have hdone : ownLcAdvance r.path ((leNat (leBytes 1 v) : Nat) : Int) (s.taken r .exec Ob.LC_ADVANCE 0 (leBytes 1 v)) =
          .done ((s.taken r .exec Ob.LC_ADVANCE 0 (leBytes 1 v)).lcBlow (s.nat Ob.LC_STATE 0) v) [] := by
        rw [hown, hspelt, if_neg (by omega), if_neg (by simpa using hfree), if_neg (by rintro ⟨h, hbad⟩; simp [hkey h] at hbad), ← hv']
      exact ⟨_, next_serve_done hacc hdone, s.lcBlow_taken r .exec Ob.LC_ADVANCE 0 (leBytes 1 v) _ v⟩
  case retire =>
    intro s r hacc
    exact ⟨_, next_serve_done hacc rfl, s.lcBlow_taken r .exec Ob.LC_RETIRE 0 [0] 4 5⟩
  case challenge =>
    intro s r hacc
    refine ⟨_, _, next_serve_done hacc rfl, by rw [State.taken_freeCount], ?_, fun p hp => ?_, ?_⟩
    · rw [State.modTp_tp_self]
    · rw [State.modTp_tp_ne _ _ hp]
      exact s.taken_tp_ne r .read Ob.LC_CHALLENGE 0 [] hp
    · rw [← s.taken_freeCount r .read Ob.LC_CHALLENGE 0 []]
      rfl
  case giveBack =>
    intro s r token hacc
    have hstate := s.taken_reg r .exec Ob.LC_RETURN 0 token Ob.LC_STATE 0 (by decide) (by decide)
    have hnext := s.taken_reg r .exec Ob.LC_RETURN 0 token Ob.LC_NEXT 0 (by decide) (by decide)
    have hgood : (s.taken r .exec Ob.LC_RETURN 0 token).tokenGood r.path token = s.tokenGood r.path token := by
      simp only [State.tokenGood, State.taken_lcChallenge, State.taken_vendorKey, State.fuseWord, State.taken_fuse]
    have hown := ownLcReturn_eq r.path token (s.taken r .exec Ob.LC_RETURN 0 token)
    rw [hstate, hnext, hgood] at hown
    have hspent : (((s.taken r .exec Ob.LC_RETURN 0 token).spendChallenge r.path).tp r.path).lcChallenge = none := by
      rw [State.spendChallenge, State.modTp_tp_self]
    refine ⟨fun hpending => ?_, fun c hfree hc hverify => ?_, fun hfree hbad => ?_⟩
    · exact next_serve_deny hacc (by rw [hown, if_pos hpending])
    · have htoken : s.tokenGood r.path token = true := by rw [State.tokenGood, hc]; exact hverify
      rw [if_neg (by simpa using hfree), if_pos htoken] at hown
      have hframe := State.lcBlow_frame ((s.taken r .exec Ob.LC_RETURN 0 token).spendChallenge r.path) 3 4
      have hmmp := hframe.view State.mmp fun _ _ => rfl
      refine ⟨_, next_serve_done hacc hown, State.lcBlow_next _ _ _, ?_, ?_, fun x hx => ?_, ?_, ?_⟩
      · rw [hmmp, ← s.taken_fuse r .exec Ob.LC_RETURN 0 token]
        exact State.lcBlow_fields _ _ _
      · rw [State.lcBlow_fuseCell]
        exact congrArg (withBit · 3 true) (s.taken_fuseCell r .exec Ob.LC_RETURN 0 token 4)
      · rw [State.lcBlow_fuseCell_ne _ _ _ x hx]
        exact s.taken_fuseCell r .exec Ob.LC_RETURN 0 token x
      · rw [← hspent]
        exact hframe.view (fun t => (t.tp r.path).lcChallenge) fun _ _ => rfl
      · exact .of_taken (t := State.lcBlow _ _ _) (hframe.mono fun _ _ => .inr).regs fun _ => .inl rfl
    · have htoken : s.tokenGood r.path token = false := by
        unfold State.tokenGood
        split
        · exact hbad _ ‹_›
        · rfl
      rw [if_neg (by simpa using hfree), if_neg (by simp [htoken])] at hown
      have hframe : Frame { regs := true, mmp := true, lookout := true, cap := true } (fun ix sub => ix = Ob.SELFTEST_EVENTS ∨ EventObj ix sub)
          (s.taken r .exec Ob.LC_RETURN 0 token) (((s.taken r .exec Ob.LC_RETURN 0 token).spendChallenge r.path).raise Src.LC_TOKEN_FAIL 0
            r.path.sub Ob.SELFTEST_EVENTS 0) := by
        unfold State.spendChallenge
        simp
      refine ⟨_, next_serve_fail hacc hown, hframe.fields, ?_, ?_, ?_⟩
      · rw [← hspent, State.tp, State.raise_mmp]
        rfl
      · rw [State.raise_counter _ _ _ _ _ _ (by decide) (by simp [EventObj]),
          ← s.taken_nat r .exec Ob.LC_RETURN 0 token Ob.SELFTEST_EVENTS 0 (by decide) (by decide)]
        rfl
      · exact .of_taken (hframe.mono fun _ _ => .inr).regs fun _ => .inl rfl

end Sys2Proof.Machine

/-! SUPPORT. The boot flash and the download sessions (R498, R501 to R504). -/

namespace Sys2Proof.Machine

/-! ## The bytes of the flash -/

theorem Store.get_filter_key {α : Type} (d : Nat → α) (m : Store α) (keep : Nat → Bool) (k : Nat) :
    Store.get d (m.filter fun c => keep c.1) k = if keep k then Store.get d m k else d k := by
  induction m with
  | nil => simp [Store.get]
  | cons c m ih =>
    obtain ⟨j, v⟩ := c
    by_cases hj : keep j = true
    · by_cases hjk : j = k
      · subst hjk
        simp [hj, Store.get]
      · simp only [hj, List.filter_cons_of_pos, Store.get, hjk, if_false, ih]
    · by_cases hjk : j = k
      · subst hjk
        simpa [hj, Store.get] using ih
      · simpa [hj, Store.get, hjk] using ih

section
variable (s : State) (a n : Nat) (bs : List Byte)

/-- An erase sets its range to 0xFF and leaves the other bytes. -/
theorem State.flashErase_get (x : Nat) : (s.flashErase a n).flash.get flashDefault x =
    if a ≤ x ∧ x < a + n then 0xFF else s.flash.get flashDefault x := by
  have h := Store.get_filter_key flashDefault s.flash (fun c => decide (c < a) || decide (a + n ≤ c)) x
  refine h.trans ?_
  by_cases hin : a ≤ x ∧ x < a + n
  · rw [if_pos hin, if_neg (by simp; omega)]; rfl
  · rw [if_neg hin, if_pos (by simp; omega)]

/-- The store that results where bytes are put from an address on, and the next address. -/
theorem flashPut_get (m : Store Byte) (x : Nat) :
    (bs.foldl (fun (y : Store Byte × Nat) b => (y.1.put flashDefault y.2 b, y.2 + 1)) (m, a)).1.get flashDefault x =
      if a ≤ x ∧ x < a + bs.length then bs.getD (x - a) 0xFF else m.get flashDefault x := by
  induction bs generalizing a m with
  | nil => simp
  | cons b bs ih =>
    rw [List.foldl_cons, ih, List.length_cons]
    rcases Nat.lt_trichotomy x a with h | rfl | h
    · rw [if_neg (by omega), if_neg (by omega), Store.get_put_ne _ _ _ _ _ (by omega)]
    · rw [if_neg (by omega), if_pos (by omega), Store.get_put_self]
      simp
    · rw [Store.get_put_ne _ _ _ _ _ (by omega)]
      by_cases hin : x < a + 1 + bs.length
      · rw [if_pos (by omega), if_pos (by omega), show x - a = (x - (a + 1)) + 1 by omega, List.getD_cons_succ]
      · rw [if_neg (by omega), if_neg (by omega)]

theorem State.flashWrite_get (x : Nat) : (s.flashWrite a bs).flash.get flashDefault x =
    if a ≤ x ∧ x < a + bs.length then bs.getD (x - a) 0xFF else s.flash.get flashDefault x :=
  flashPut_get a bs s.flash x

section
variable {F : Fields} {P : Nat → Nat → Prop} {t : State} (h : F.flash = true)
include h

@[simp] theorem frame_flashErase : Frame F P t (s.flashErase a n) ↔ Frame F P t s := frame_with_flash h
@[simp] theorem frame_flashWrite : Frame F P t (s.flashWrite a bs) ↔ Frame F P t s := frame_with_flash h

end

theorem State.flashRead_getElem? (i : Nat) (h : i < n) : (s.flashRead a n)[i]? = some (s.flash.get flashDefault (a + i)) := by
  simp [State.flashRead, h]

end

/-! ## A partition's checks read the fuses and the flash alone -/

section
variable {s t : State} (hflash : t.flash = s.flash)
include hflash

theorem State.flashRead_congr (a n : Nat) : t.flashRead a n = s.flashRead a n := by
  simp only [State.flashRead, hflash]

theorem State.manifest_congr (base : Nat) : t.manifest base = s.manifest base := State.flashRead_congr hflash base 640

end

/-! ## The vote of a session on MGT -/

theorem bitOf_withBit_true (v i : Nat) : bitOf (withBit v i true) i = true := by
  unfold withBit
  cases hbit : bitOf v i with
  | true => exact hbit
  | false =>
    have hdiv : (v + 2 ^ i) / 2 ^ i = v / 2 ^ i + 1 := Nat.add_div_right v (Nat.two_pow_pos i)
    simp only [bitOf, hdiv, beq_eq_false_iff_ne] at hbit ⊢
    simp only [beq_iff_eq]
    omega

theorem bitOf_withBit (v i : Nat) (b : Bool) : bitOf (withBit v i b) i = b := by
  cases b with
  | false => exact bitOf_withBit_false v i
  | true => exact bitOf_withBit_true v i

section
variable {s : State} (hmgt : s.pwr Dom.MGT = 2)
include hmgt

/-- While MGT is ON a session that opens notes its vote and nothing else (R434). -/
theorem State.updateVotes_of_open (hopen : s.reg Ob.UPDATE_SESSION 0 ≠ 0) :
    Frame { regs := true } (fun ix sub => ix = Ob.POWER_VOTES ∧ sub = Dom.MGT.val + 1) s s.updateVotes ∧
      bitOf (s.updateVotes.votes Dom.MGT) Vote.UPDATE = true := by
  have hwant : (s.reg Ob.UPDATE_SESSION 0 != 0 || s.upd.copy.isSome) = true := by simp [hopen]
  have hcast : s.castVote Dom.MGT Vote.UPDATE = s.setReg Ob.POWER_VOTES (Dom.MGT.val + 1) (withBit (s.votes Dom.MGT) Vote.UPDATE true : Nat) := by
    unfold State.castVote
    rw [hmgt]
    rfl
  unfold State.updateVotes
  simp only [hwant, if_true]
  split
  · rename_i hnoted
    exact ⟨Frame.refl, hnoted.symm⟩
  · rw [hcast]
    refine ⟨by simp, ?_⟩
    simp [State.votes, State.nat, State.reg_setReg, bitOf_withBit]

end

/-! ## UPDATE.OPEN -/

theorem State.taken_otherHolds (s : State) (r : Req) (op : Opcode) (ix sub : Nat) (pl : List Byte) (p : Path) :
    (s.taken r op ix sub pl).otherHolds p = s.otherHolds p := by
  simp [State.otherHolds, State.taken_reg]

theorem pwr_of_on {s : State} {d : Fin 36} (h : s.on d = true) : s.pwr d = 2 := by
  simpa [State.on] using h

/-- A session as UPDATE.OPEN sets it up, before its vote (R501, R502). -/
def State.opened (s : State) (path : Path) (len : Nat) : State :=
  ((((s.receiveAgain.modUpd (fun u => { u with len := len, map := [], queue := [], verify := false })).setReg Ob.UPDATE_SESSION 0 1).setReg
    Ob.UPDATE_SOURCE 0 (sourceOf path)).setReg Ob.UPDATE_PAGES_WRITTEN 0 0).setReg Ob.UPDATE_PAGE_FAILS 0 0

/-- The objects that UPDATE.OPEN sets, but its vote. -/
def OpenObj (ix sub : Nat) : Prop :=
  (sub = 0 ∧ ix ∈ [Ob.UPDATE_SESSION, Ob.UPDATE_SOURCE, Ob.UPDATE_PAGES_WRITTEN, Ob.UPDATE_PAGE_FAILS, Ob.UPDATE_VERIFY_RESULT]) ∨
    (ix = Ob.UPDATE_IMAGE_VERSION ∧ sub = 3)

@[simp] theorem openObj_iff {ix sub : Nat} : OpenObj ix sub ↔ (sub = 0 ∧ ix ∈ [Ob.UPDATE_SESSION, Ob.UPDATE_SOURCE, Ob.UPDATE_PAGES_WRITTEN,
    Ob.UPDATE_PAGE_FAILS, Ob.UPDATE_VERIFY_RESULT]) ∨ (ix = Ob.UPDATE_IMAGE_VERSION ∧ sub = 3) := Iff.rfl

section
variable (s : State) (path : Path) (len : Nat)

theorem ownUpdateOpen_other (h : s.otherHolds path = true) : ownUpdateOpen path len s = .deny St.BUSY := if_pos h

theorem ownUpdateOpen_opens (h : s.otherHolds path = false) : ownUpdateOpen path len s = .done (s.opened path len).updateVotes [] :=
  if_neg (by simp [h])

theorem State.opened_frame : Frame { regs := true, upd := true } OpenObj s (s.opened path len) := by
  unfold State.opened State.receiveAgain
  simp

theorem State.opened_upd : (s.opened path len).upd = { s.upd with len := len, map := [], queue := [], verify := false } := rfl

theorem State.opened_session : (s.opened path len).reg Ob.UPDATE_SESSION 0 = 1 := by
  simp [State.opened, State.reg_setReg]

theorem State.opened_source : (s.opened path len).reg Ob.UPDATE_SOURCE 0 = sourceOf path := by
  simp [State.opened, State.reg_setReg]

theorem State.opened_zeros (ix : Nat) (h : ix ∈ [Ob.UPDATE_PAGES_WRITTEN, Ob.UPDATE_PAGE_FAILS, Ob.UPDATE_VERIFY_RESULT]) :
    (s.opened path len).reg ix 0 = 0 := by
  simp only [List.mem_cons, List.not_mem_nil, or_false] at h
  rcases h with rfl | rfl | rfl <;> simp [State.opened, State.receiveAgain, State.reg_setReg]

end

/-! ## A page for STAGING -/

@[simp] theorem leBytes_length (n v : Nat) : (leBytes n v).length = n := by
  induction n generalizing v with
  | zero => rfl
  | succ n ih => simp [leBytes, ih]

section
variable (off crc : Nat) (data : List Byte)

theorem stagingPayload_offset (hoff : off < 2 ^ 32) : leNat ((leBytes 4 off ++ data ++ leBytes 4 crc).take 4) = off := by
  rw [List.append_assoc, List.take_left' (leBytes_length 4 off), leNat_leBytes 4 off (by omega)]

theorem stagingPayload_data :
    ((leBytes 4 off ++ data ++ leBytes 4 crc).drop 4).take ((leBytes 4 off ++ data ++ leBytes 4 crc).length - 8) = data := by
  rw [List.append_assoc, List.drop_left' (leBytes_length 4 off)]
  simp only [List.length_append, leBytes_length]
  exact List.take_left' (by omega)

theorem State.stagingCheck_eq (s : State) (hcrc : crc < 2 ^ 32) : s.stagingCheck off (leBytes 4 off ++ data ++ leBytes 4 crc) =
    if s.reg Ob.UPDATE_SESSION 0 = 1 then St.BUSY
    else if s.reg Ob.UPDATE_SESSION 0 = 0 then St.CONFIG_CONFLICT
    else if off % 4096 ≠ 0 ∨ s.upd.len ≤ off then St.RANGE
    else if data.length ≠ min 4096 (s.upd.len - off) then St.TYPE_LENGTH
    else if crc32c (leBytes 4 off ++ data) ≠ crc then St.BLOCK_CRC
    else if 16 ≤ s.upd.queue.length then St.BUSY
    else 0 := by
  have hlast : (leBytes 4 off ++ data ++ leBytes 4 crc).drop ((leBytes 4 off ++ data ++ leBytes 4 crc).length - 4) = leBytes 4 crc :=
    List.drop_left' (by simp only [List.length_append, leBytes_length]; omega)
  have hfirst : (leBytes 4 off ++ data ++ leBytes 4 crc).take 4 = leBytes 4 off := by
    rw [List.append_assoc, List.take_left' (leBytes_length 4 off)]
  have hlong : ¬(leBytes 4 off ++ data ++ leBytes 4 crc).length < 8 := by
    simp only [List.length_append, leBytes_length]; omega
  unfold State.stagingCheck
  simp only [stagingPayload_data, hlast, hfirst, leNat_leBytes 4 crc (by omega), hlong, false_or]

end

/-- The state that a page leaves: in the queue, and the session back in RECEIVING (R503, R516). -/
def State.pageQueued (s : State) (page : Nat) (data : List Byte) : State :=
  (if s.reg Ob.UPDATE_SESSION 0 = 2 then s else s.receiveAgain).modUpd fun u => { u with queue := u.queue ++ [(page, data)] }

section
variable (s : State) (page : Nat) (data : List Byte)

theorem State.pageQueued_frame : Frame { regs := true, upd := true } (fun ix sub => s.reg Ob.UPDATE_SESSION 0 ≠ 2 ∧
    ((sub = 0 ∧ ix ∈ [Ob.UPDATE_SESSION, Ob.UPDATE_VERIFY_RESULT]) ∨ (ix = Ob.UPDATE_IMAGE_VERSION ∧ sub = 3))) s (s.pageQueued page data) := by
  unfold State.pageQueued State.receiveAgain
  split
  · simp
  · simp [*]

theorem State.pageQueued_upd : (s.pageQueued page data).upd = { s.upd with queue := s.upd.queue ++ [(page, data)] } := by
  unfold State.pageQueued
  split <;> rfl

theorem State.pageQueued_session : (s.pageQueued page data).reg Ob.UPDATE_SESSION 0 = 2 := by
  unfold State.pageQueued
  split
  · assumption
  · simp [State.receiveAgain, State.modUpd]

theorem State.pageQueued_result (h : s.reg Ob.UPDATE_SESSION 0 ≠ 2) : (s.pageQueued page data).reg Ob.UPDATE_VERIFY_RESULT 0 = 0 := by
  unfold State.pageQueued
  rw [if_neg h]
  simp [State.receiveAgain, State.modUpd]

end

theorem ownStaging_eq (path : Path) (off crc : Nat) (data : List Byte) (hoff : off < 2 ^ 32) (s : State) :
    ownStaging path (leBytes 4 off ++ data ++ leBytes 4 crc) s =
      if s.otherHolds path then .deny St.BUSY
      else if s.stagingCheck off (leBytes 4 off ++ data ++ leBytes 4 crc) ≠ 0 then
        .deny (s.stagingCheck off (leBytes 4 off ++ data ++ leBytes 4 crc))
      else .done (s.pageQueued (off / 4096) data) [] := by
  unfold ownStaging State.pageQueued
  simp only [stagingPayload_offset off crc data hoff, stagingPayload_data]

/-! ## A page programmed -/

theorem State.verifyBegin_frame (s : State) :
    Frame { regs := true, upd := true } (fun ix sub => sub = 0 ∧ ix = Ob.UPDATE_SESSION) s s.verifyBegin := by
  unfold State.verifyBegin
  simp

theorem State.verifyBegin_upd (s : State) : s.verifyBegin.upd = { s.upd with verify := s.upd.verify && !s.upd.queue.isEmpty } := by
  unfold State.verifyBegin
  split
  · rename_i h
    simp only [Bool.and_eq_true] at h
    simp [h.1, h.2, State.modUpd]
  · rename_i h
    have hkept : (s.upd.verify && !s.upd.queue.isEmpty) = s.upd.verify := by
      cases hverify : s.upd.verify <;> simp_all
    rw [hkept]

theorem State.verifyBegin_session (s : State) : s.verifyBegin.reg Ob.UPDATE_SESSION 0 =
    if s.upd.verify = true ∧ s.upd.queue = [] then 3 else s.reg Ob.UPDATE_SESSION 0 := by
  unfold State.verifyBegin
  simp only [Bool.and_eq_true, List.isEmpty_iff]
  split
  · rw [State.reg_setReg_self]
  · rfl

/-- A page's sector erased and written with what the flash took, with the page map that results (R503). -/
def State.pageWritten (s : State) (page : Nat) (bytes : List Byte) (rest : List (Nat × List Byte)) (map : List Nat) : State :=
  (((s.modUpd (fun u => { u with queue := rest })).flashErase (Part.STAGING + 4096 * page) 4096).flashWrite (Part.STAGING + 4096 * page)
    bytes).mapSet map

section
variable (s : State) (page : Nat) (bytes : List Byte) (rest : List (Nat × List Byte)) (map : List Nat)

theorem State.pageWritten_frame : Frame { regs := true, flash := true, upd := true } (fun ix sub => sub = 0 ∧ ix = Ob.UPDATE_PAGES_WRITTEN)
    s (s.pageWritten page bytes rest map) := by
  unfold State.pageWritten State.mapSet
  simp

theorem State.pageWritten_upd : (s.pageWritten page bytes rest map).upd = { s.upd with map := map, queue := rest } := rfl

theorem State.pageWritten_pages : (s.pageWritten page bytes rest map).reg Ob.UPDATE_PAGES_WRITTEN 0 = (map.length : Int) :=
  State.reg_setReg_self _ _ _ _

theorem State.pageWritten_outside (hlen : bytes.length ≤ 4096) (a : Nat)
    (ha : a < Part.STAGING + 4096 * page ∨ Part.STAGING + 4096 * page + 4096 ≤ a) :
    (s.pageWritten page bytes rest map).flash.get flashDefault a = s.flash.get flashDefault a := by
  change ((State.flashErase _ _ _).flashWrite _ _).flash.get flashDefault a = _
  rw [State.flashWrite_get, if_neg (by omega), State.flashErase_get, if_neg (by omega)]
  rfl

theorem State.pageWritten_inside (i : Nat) (hi : i < 4096) :
    (s.pageWritten page bytes rest map).flash.get flashDefault (Part.STAGING + 4096 * page + i) = bytes.getD i 0xFF := by
  change ((State.flashErase _ _ _).flashWrite _ _).flash.get flashDefault _ = _
  rw [State.flashWrite_get, State.flashErase_get, Nat.add_sub_cancel_left]
  split
  · rfl
  · rw [if_pos (by omega), List.getD_eq_default _ _ (by omega)]

end

theorem State.bump_reg_ne (s : State) {ix : Nat} (n jx : Nat) (h : jx ≠ ix) : (s.bump ix 0 n).reg jx 0 = s.reg jx 0 :=
  State.reg_setReg_ne _ _ _ _ _ _ fun e => h ((objKey_inj (by decide) (by decide)).mp e).1.symm

/-- The event of a flash that fails (R517). -/
theorem State.flashFail_events (s : State) (part a : Nat) : (s.flashFail part a).reg Ob.UPDATE_EVENTS 0 =
    (min (2 ^ 32 - 1) (s.nat Ob.UPDATE_EVENTS 0 + 1) : Nat) :=
  State.raise_counter _ _ _ _ _ _ (by decide) (by simp [EventObj])

theorem State.flashFail_frame (s : State) (part a : Nat) : Frame { regs := true, lookout := true, cap := true }
    (fun ix sub => (sub = 0 ∧ ix = Ob.UPDATE_EVENTS) ∨ EventObj ix sub) s (s.flashFail part a) := by
  unfold State.flashFail
  simp

/-- The state that a failed page leaves before a waiting verification begins: noise in the sector, the failure counted (R503, R517). -/
def State.pageFailed (s : State) (page len : Nat) (rest : List (Nat × List Byte)) (map : List Nat) : State :=
  ((({ s with freeCount := s.freeCount + len } : State).pageWritten page (s.freshBytes len).2 rest map).bump Ob.UPDATE_PAGE_FAILS 0 1).flashFail 6
    (Part.STAGING + 4096 * page)

section
variable {s : State} {page : Nat} {data : List Byte} {rest : List (Nat × List Byte)} (hqueue : s.upd.queue = (page, data) :: rest)
include hqueue

theorem execPageProgramDone_ok : execPageProgramDone true s =
    .next (s.pageWritten page data rest (s.upd.map.filter (fun p => p != page) ++ [page])).verifyBegin := by
  unfold execPageProgramDone
  rw [hqueue]
  rfl

theorem execPageProgramDone_failed : execPageProgramDone false s =
    .next (s.pageFailed page data.length rest (s.upd.map.filter (fun p => p != page))).verifyBegin := by
  unfold execPageProgramDone
  rw [hqueue]
  rfl

end

section
variable (s : State) (page len : Nat) (rest : List (Nat × List Byte)) (map : List Nat)

theorem State.pageFailed_frame : Frame { regs := true, lookout := true, cap := true, flash := true, freeCount := true, upd := true }
    (fun ix sub => (sub = 0 ∧ ix ∈ [Ob.UPDATE_PAGES_WRITTEN, Ob.UPDATE_PAGE_FAILS, Ob.UPDATE_EVENTS]) ∨ EventObj ix sub) s
    (s.pageFailed page len rest map) := by
  unfold State.pageFailed State.flashFail State.pageWritten State.mapSet
  simp

theorem State.pageFailed_upd : (s.pageFailed page len rest map).upd = { s.upd with map := map, queue := rest } :=
  (State.flashFail_frame _ _ _).view State.upd fun _ _ => rfl

theorem State.pageFailed_reg (ix : Nat) (h : ¬ ((0 = 0 ∧ ix = Ob.UPDATE_EVENTS) ∨ EventObj ix 0)) :
    (s.pageFailed page len rest map).reg ix 0 = ((({ s with freeCount := s.freeCount + len } : State).pageWritten page
      (s.freshBytes len).2 rest map).bump Ob.UPDATE_PAGE_FAILS 0 1).reg ix 0 :=
  (State.flashFail_frame _ _ _).regs ix 0 (by decide) h

theorem State.pageWritten_reg (bytes : List Byte) (ix : Nat) (h : ix ≠ Ob.UPDATE_PAGES_WRITTEN) :
    (s.pageWritten page bytes rest map).reg ix 0 = s.reg ix 0 :=
  (s.pageWritten_frame page bytes rest map).regs ix 0 (by decide) fun h' => h h'.2

theorem State.pageFailed_pages : (s.pageFailed page len rest map).reg Ob.UPDATE_PAGES_WRITTEN 0 = (map.length : Int) := by
  rw [State.pageFailed_reg _ _ _ _ _ _ (by simp [EventObj]), State.bump_reg_ne _ _ _ (by decide),
    State.pageWritten_pages]

theorem State.pageFailed_fails : (s.pageFailed page len rest map).reg Ob.UPDATE_PAGE_FAILS 0 =
    (min (2 ^ 32 - 1) (s.nat Ob.UPDATE_PAGE_FAILS 0 + 1) : Nat) := by
  rw [State.pageFailed_reg _ _ _ _ _ _ (by simp [EventObj]), State.bump_reg_self, State.nat, State.pageWritten_reg _ _ _ _ _ _ (by decide)]
  rfl

theorem State.pageFailed_events : (s.pageFailed page len rest map).reg Ob.UPDATE_EVENTS 0 =
    (min (2 ^ 32 - 1) (s.nat Ob.UPDATE_EVENTS 0 + 1) : Nat) := by
  rw [State.pageFailed, State.flashFail_events, State.nat, State.bump_reg_ne _ _ _ (by decide),
    State.pageWritten_reg _ _ _ _ _ _ (by decide)]
  rfl

theorem State.pageFailed_flash : (s.pageFailed page len rest map).flash =
    (({ s with freeCount := s.freeCount + len } : State).pageWritten page (s.freshBytes len).2 rest map).flash :=
  (State.flashFail_frame _ _ _).view State.flash fun _ _ => rfl

end

/-! ## UPDATE.VERIFY -/

section
variable {s : State} {path : Path}

theorem ownUpdateVerify_closed (h : s.reg Ob.UPDATE_SESSION 0 = 0) : ownUpdateVerify path s = .deny St.CONFIG_CONFLICT := by
  simp [ownUpdateVerify, State.otherHolds, h]

theorem ownUpdateVerify_busy (path : Path) (h : s.reg Ob.UPDATE_SESSION 0 = 1 ∨ s.reg Ob.UPDATE_SESSION 0 = 3) :
    ownUpdateVerify path s = .deny St.BUSY := by
  unfold ownUpdateVerify
  rcases h with h | h <;> simp [h]

/-- A verification as it waits for the queue. -/
def State.verifyAsked (s : State) : State := (s.modUpd (fun u => { u with verify := true })).verifyBegin

theorem State.verifyAsked_frame : Frame { regs := true, upd := true } (fun ix sub => sub = 0 ∧ ix = Ob.UPDATE_SESSION) s s.verifyAsked :=
  (frame_modUpd rfl).mpr Frame.refl |>.trans (State.verifyBegin_frame _)

theorem State.verifyAsked_upd : s.verifyAsked.upd = { s.upd with verify := decide (s.upd.queue ≠ []) } := by
  unfold State.verifyAsked
  rw [State.verifyBegin_upd]
  simp only [State.modUpd, Bool.true_and]
  congr 1
  cases s.upd.queue <;> rfl

theorem State.verifyAsked_session : s.verifyAsked.reg Ob.UPDATE_SESSION 0 = if s.upd.queue = [] then 3 else s.reg Ob.UPDATE_SESSION 0 := by
  unfold State.verifyAsked
  rw [State.verifyBegin_session]
  simp [State.modUpd]

theorem ownUpdateVerify_waits (hfree : s.otherHolds path = false) (hopen : s.reg Ob.UPDATE_SESSION 0 ≠ 0)
    (herased : s.reg Ob.UPDATE_SESSION 0 ≠ 1) (hverifying : s.reg Ob.UPDATE_SESSION 0 ≠ 3) :
    ownUpdateVerify path s = .done s.verifyAsked [] := by
  simp [ownUpdateVerify, hfree, hopen, herased, hverifying, State.verifyAsked]

end

/-! ## The end of a verification -/

/-- What a verification leaves: its result, and VERIFIED with the version or RECEIVING with its event (R504, R517). -/
def State.verifyEnds (s : State) (res place version : Nat) : State :=
  if res = 1 then
    ((s.setReg Ob.UPDATE_VERIFY_RESULT 0 (res : Int)).setReg Ob.UPDATE_SESSION 0 4).setReg Ob.UPDATE_IMAGE_VERSION 3 (version : Int)
  else (((s.setReg Ob.UPDATE_VERIFY_RESULT 0 (res : Int)).setReg Ob.UPDATE_SESSION 0 2).setReg Ob.UPDATE_IMAGE_VERSION 3 0).raise
    Src.UPD_VERIFY_FAIL 0 (res + 65536 * place) Ob.UPDATE_EVENTS 0

theorem execVerifyDone_verifying {s : State} (h : s.reg Ob.UPDATE_SESSION 0 = 3) :
    execVerifyDone s = .next (s.verifyEnds s.stagingVerdict.1 s.stagingVerdict.2 (s.imageVersion Part.STAGING)) := by
  unfold execVerifyDone State.verifyEnds
  rw [if_pos h]
  exact (apply_ite Host.Outcome.next _ _ _).symm

section
variable (s : State) (res place version : Nat)

theorem State.verifyEnds_frame : Frame { regs := true, lookout := true, cap := true } (fun ix sub =>
    (sub = 0 ∧ ix ∈ [Ob.UPDATE_VERIFY_RESULT, Ob.UPDATE_SESSION, Ob.UPDATE_EVENTS]) ∨ (ix = Ob.UPDATE_IMAGE_VERSION ∧ sub = 3) ∨
      EventObj ix sub) s (s.verifyEnds res place version) := by
  unfold State.verifyEnds
  simp

theorem State.verifyEnds_result : (s.verifyEnds res place version).reg Ob.UPDATE_VERIFY_RESULT 0 = (res : Int) := by
  unfold State.verifyEnds
  split <;> simp [State.raise_reg, State.reg_setReg, EventObj]

theorem State.verifyEnds_passed (h : res = 1) : (s.verifyEnds res place version).reg Ob.UPDATE_SESSION 0 = 4 ∧
    (s.verifyEnds res place version).lookout = s.lookout ∧
    (s.verifyEnds res place version).reg Ob.UPDATE_IMAGE_VERSION 3 = (version : Int) := by
  unfold State.verifyEnds
  rw [if_pos h]
  exact ⟨by simp [State.reg_setReg], rfl, State.reg_setReg_self _ _ _ _⟩

theorem State.verifyEnds_failed (h : res ≠ 1) : (s.verifyEnds res place version).reg Ob.UPDATE_SESSION 0 = 2 ∧
    (s.verifyEnds res place version).reg Ob.UPDATE_IMAGE_VERSION 3 = 0 ∧
    (s.verifyEnds res place version).reg Ob.UPDATE_EVENTS 0 = (min (2 ^ 32 - 1) (s.nat Ob.UPDATE_EVENTS 0 + 1) : Nat) := by
  unfold State.verifyEnds
  rw [if_neg h]
  refine ⟨?_, ?_, ?_⟩ <;> simp [State.raise_reg, State.nat, State.reg_setReg, EventObj]

/-- The page map comes first in R504's checks, and the image's own checks only where it is whole. -/
theorem State.stagingVerdict_missing (h : ∃ p < ceilDiv s.upd.len 4096, p ∉ s.upd.map) : s.stagingVerdict.1 = 2 := by
  unfold State.stagingVerdict
  split
  · rfl
  · rename_i hnone
    obtain ⟨p, hp, hmissing⟩ := h
    exact absurd (List.find?_eq_none.mp hnone p (List.mem_range.mpr hp)) (by simpa using hmissing)

theorem State.stagingVerdict_whole (h : ∀ p < ceilDiv s.upd.len 4096, p ∈ s.upd.map) :
    s.stagingVerdict = s.imageCheck Part.STAGING (some s.upd.len) := by
  unfold State.stagingVerdict
  split
  · rename_i p hp
    exact absurd (h p (List.mem_range.mp (List.mem_of_find?_eq_some hp))) (by simpa using List.find?_some hp)
  · rfl

section
variable (base len : Nat)

theorem State.imageCheck_form (h : formFault (s.manifest base) ≠ none) : (s.imageCheck base (some len)).1 = 3 := by
  unfold State.imageCheck
  simp only
  split
  · rfl
  · exact absurd ‹_› h

theorem State.imageCheck_length (hform : formFault (s.manifest base) = none) (hlen : len ≠ u32At (s.manifest base) 20) :
    (s.imageCheck base (some len)).1 = 3 := by
  unfold State.imageCheck
  simp [hform, hlen]

theorem State.imageCheck_rest (hform : formFault (s.manifest base) = none) (hlen : len = u32At (s.manifest base) 20) :
    (s.imageCheck base (some len)).1 =
      if Config.ecdsaVerify s.vendorKey ((s.manifest base).take 544) ((s.manifest base).drop 544) = false then 4
      else if (List.range 8).all (fun j => s.partDigest base (s.manifest base) j) = false then 5 else 1 := by
  unfold State.imageCheck
  simp only [hform, hlen, bne_self_eq_false, Bool.false_eq_true, if_false, Bool.not_eq_true']
  split
  · rfl
  · split
    · rename_i j hj
      have hpart : s.partDigest base (s.manifest base) j = false := by simpa using List.find?_some hj
      rw [if_pos (List.all_eq_false.mpr ⟨j, List.mem_of_find?_eq_some hj, by simp [hpart]⟩)]
    · rename_i hnone
      rw [if_neg]
      simpa using List.find?_eq_none.mp hnone

end
end

/-! ## What a programmed page leaves -/

/-- The fields that a programmed page touches. -/
def pageFields : Fields :=
  { regs := true, lookout := true, cap := true, flash := true, freeCount := true, upd := true }

section
variable {s t : State} {map : List Nat} {rest : List (Nat × List Byte)} {Q : Nat → Nat → Prop} (hframe : Frame pageFields Q s t)
  (hupd : t.upd = { s.upd with map := map, queue := rest })
include hupd

theorem State.verifyBegin_map : t.verifyBegin.upd.map = map := by
  rw [State.verifyBegin_upd, hupd]

include hframe

theorem State.verifyBegin_fields : t.verifyBegin = { s with
    regs := t.verifyBegin.regs, lookout := t.verifyBegin.lookout, cap := t.verifyBegin.cap, flash := t.verifyBegin.flash
    freeCount := t.verifyBegin.freeCount
    upd := { s.upd with map := t.verifyBegin.upd.map, queue := rest, verify := t.verifyBegin.upd.verify } } := by
  have hkept : { s.upd with map := t.verifyBegin.upd.map, queue := rest, verify := t.verifyBegin.upd.verify } = t.verifyBegin.upd := by
    rw [State.verifyBegin_upd, hupd]
  rw [hkept]
  exact ((hframe.mono (Q := fun _ _ => True) fun _ _ _ => trivial).trans
    (t.verifyBegin_frame.widen (fun _ _ => rfl) fun _ _ _ => trivial)).fields

theorem State.verifyBegin_session_of (hfree : ¬ Q Ob.UPDATE_SESSION 0) : t.verifyBegin.reg Ob.UPDATE_SESSION 0 =
    if s.upd.verify = true ∧ rest = [] then 3 else s.reg Ob.UPDATE_SESSION 0 := by
  rw [State.verifyBegin_session, hupd, hframe.regs _ _ (by decide) hfree]

end

theorem State.verifyBegin_keeps {s t : State} {Q : Nat → Nat → Prop} (h : Frame pageFields Q s t) :
    KeepsRegs (fun ix sub => Q ix sub ∨ (sub = 0 ∧ ix = Ob.UPDATE_SESSION)) s t.verifyBegin :=
  ((h.mono (Q := fun ix sub => Q ix sub ∨ (sub = 0 ∧ ix = Ob.UPDATE_SESSION)) fun _ _ => .inl).trans
    (t.verifyBegin_frame.widen (fun _ _ => rfl) fun _ _ => .inr)).regs

theorem State.verifyBegin_reg (t : State) (ix : Nat) (h : ix ≠ Ob.UPDATE_SESSION) : t.verifyBegin.reg ix 0 = t.reg ix 0 :=
  t.verifyBegin_frame.regs ix 0 (by decide) fun h' => h h'.2

theorem mem_map_other (map : List Nat) (page p : Nat) (h : p ≠ page) : p ∈ map.filter (fun q => q != page) ↔ p ∈ map := by
  simp [h]

/-- A page for STAGING is refused by the first check that it fails, and queued where it passes all. -/
theorem updateStagingWrite_page {s : State} {r : Req} {off crc : Nat} {data : List Byte} (hoff : off < 2 ^ 32) (hcrc : crc < 2 ^ 32)
    (hacc : s.Accepts r .writeBlock Ob.UPDATE_STAGING 0 (leBytes 4 off ++ data ++ leBytes 4 crc)) :
    (let pl := leBytes 4 off ++ data ++ leBytes 4 crc
     let ses := s.reg Ob.UPDATE_SESSION 0
     let no (st : Nat) := exec (.updateStagingWrite r pl) s =
       .next ((s.taken r .writeBlock Ob.UPDATE_STAGING 0 pl).reply r .writeBlock Ob.UPDATE_STAGING 0 st [])
     (s.otherHolds r.path = true → no St.BUSY) ∧ (ses = 1 → no St.BUSY) ∧ (ses = 0 → no St.CONFIG_CONFLICT) ∧
     (s.otherHolds r.path = false → ses ≠ 0 → ses ≠ 1 →
       ((off % 4096 ≠ 0 ∨ s.upd.len ≤ off) → no St.RANGE) ∧
       (off % 4096 = 0 → off < s.upd.len →
         (data.length ≠ min 4096 (s.upd.len - off) → no St.TYPE_LENGTH) ∧
         (data.length = min 4096 (s.upd.len - off) →
           (crc ≠ crc32c (leBytes 4 off ++ data) → no St.BLOCK_CRC) ∧
           (crc = crc32c (leBytes 4 off ++ data) → 16 ≤ s.upd.queue.length → no St.BUSY) ∧
           (crc = crc32c (leBytes 4 off ++ data) → s.upd.queue.length < 16 →
             ∃ u : State, exec (.updateStagingWrite r pl) s = .next (u.reply r .writeBlock Ob.UPDATE_STAGING 0 St.OK []) ∧
               u = { s.taken r .writeBlock Ob.UPDATE_STAGING 0 pl with
                     regs := u.regs, upd := { s.upd with queue := s.upd.queue ++ [(off / 4096, data)] } } ∧
               u.reg Ob.UPDATE_SESSION 0 = 2 ∧
               (ses ≠ 2 → u.reg Ob.UPDATE_VERIFY_RESULT 0 = 0) ∧
               KeepsRegs (fun ix sub => ix = Ob.MMP_RX_FRAMES ∨ (ses ≠ 2 ∧ ((sub = 0 ∧ ix ∈ [Ob.UPDATE_SESSION, Ob.UPDATE_VERIFY_RESULT]) ∨
                 (ix = Ob.UPDATE_IMAGE_VERSION ∧ sub = 3)))) s u))))) := by
  have hses := s.taken_reg r .writeBlock Ob.UPDATE_STAGING 0 (leBytes 4 off ++ data ++ leBytes 4 crc) Ob.UPDATE_SESSION 0 (by decide)
    (by decide)
  have hown := ownStaging_eq r.path off crc data hoff (s.taken r .writeBlock Ob.UPDATE_STAGING 0 (leBytes 4 off ++ data ++ leBytes 4 crc))
  rw [State.taken_otherHolds, State.stagingCheck_eq _ _ _ _ hcrc, hses, State.taken_upd] at hown
  have hdeny (st : Nat) (hst : ownStaging r.path (leBytes 4 off ++ data ++ leBytes 4 crc)
      (s.taken r .writeBlock Ob.UPDATE_STAGING 0 (leBytes 4 off ++ data ++ leBytes 4 crc)) = .deny st) := next_serve_deny hacc hst
  refine ⟨fun hother => ?_, fun herasing => ?_, fun hclosed => ?_, fun hfree hopen hready => ⟨fun hbad => ?_, fun halign hin =>
    ⟨fun hlen => ?_, fun hlen => ⟨fun hsum => ?_, fun hsum hfull => ?_, fun hsum hroom => ?_⟩⟩⟩⟩
  · exact hdeny _ (by rw [hown, if_pos hother])
  · exact hdeny _ (by rw [hown]; simp only [herasing, if_true]; simp [St.BUSY])
  · exact hdeny _ (by rw [hown]; simp [hclosed, State.otherHolds, St.CONFIG_CONFLICT])
  · exact hdeny _ (by rw [hown]; simp [hfree, hopen, hready, hbad, St.RANGE])
  · exact hdeny _ (by rw [hown]; simp [hfree, hopen, hready, halign, Nat.not_le.mpr hin, hlen, St.TYPE_LENGTH])
  · exact hdeny _ (by rw [hown]; simp [hfree, hopen, hready, halign, Nat.not_le.mpr hin, hlen, Ne.symm hsum, St.BLOCK_CRC])
  · exact hdeny _ (by rw [hown]; simp [hfree, hopen, hready, halign, Nat.not_le.mpr hin, hlen, ← hsum, hfull, St.BUSY])
  · have hdone : ownStaging r.path (leBytes 4 off ++ data ++ leBytes 4 crc)
        (s.taken r .writeBlock Ob.UPDATE_STAGING 0 (leBytes 4 off ++ data ++ leBytes 4 crc)) =
        .done ((s.taken r .writeBlock Ob.UPDATE_STAGING 0 (leBytes 4 off ++ data ++ leBytes 4 crc)).pageQueued (off / 4096) data) [] := by
      rw [hown]
      simp [hfree, hopen, hready, halign, Nat.not_le.mpr hin, hlen, ← hsum, Nat.not_le.mpr hroom]
    have hframe := (s.taken r .writeBlock Ob.UPDATE_STAGING 0 (leBytes 4 off ++ data ++ leBytes 4 crc)).pageQueued_frame (off / 4096) data
    refine ⟨_, next_serve_done hacc hdone, ?_, State.pageQueued_session _ _ _, fun hother => ?_, ?_⟩
    · rw [← s.taken_upd r .writeBlock Ob.UPDATE_STAGING 0 (leBytes 4 off ++ data ++ leBytes 4 crc), ← State.pageQueued_upd]
      exact hframe.fields
    · exact State.pageQueued_result _ _ _ (by rwa [hses])
    · rw [hses] at hframe
      exact .of_taken (hframe.mono fun _ _ => .inr).regs fun _ => .inl rfl

theorem pageProgramDone_ok {s : State} {page : Nat} {data : List Byte} {rest : List (Nat × List Byte)}
    (hqueue : s.upd.queue = (page, data) :: rest) (hlen : data.length ≤ 4096) :
    ∃ t : State, exec (.pageProgramDone true) s = .next t ∧
      t = { s with regs := t.regs, lookout := t.lookout, cap := t.cap, flash := t.flash, freeCount := t.freeCount, upd := { s.upd with
              map := t.upd.map, queue := rest, verify := t.upd.verify } } ∧
      (∀ a, (a < Part.STAGING + 4096 * page ∨ Part.STAGING + 4096 * page + 4096 ≤ a) →
        t.flash.get flashDefault a = s.flash.get flashDefault a) ∧
      t.reg Ob.UPDATE_PAGES_WRITTEN 0 = (t.upd.map.length : Int) ∧
      (∀ p, p ≠ page → (p ∈ t.upd.map ↔ p ∈ s.upd.map)) ∧ (page ∈ t.upd.map ↔ true = true) ∧
      t.reg Ob.UPDATE_SESSION 0 = (if s.upd.verify = true ∧ rest = [] then 3 else s.reg Ob.UPDATE_SESSION 0) ∧
      (true = true → t.lookout = s.lookout ∧ t.freeCount = s.freeCount ∧
        (∀ i < 4096, t.flash.get flashDefault (Part.STAGING + 4096 * page + i) = data.getD i 0xFF)) ∧
      (true = false → t.reg Ob.UPDATE_PAGE_FAILS 0 = (min (2 ^ 32 - 1) (s.nat Ob.UPDATE_PAGE_FAILS 0 + 1) : Nat) ∧
        t.reg Ob.UPDATE_EVENTS 0 = (min (2 ^ 32 - 1) (s.nat Ob.UPDATE_EVENTS 0 + 1) : Nat)) ∧
      KeepsRegs (fun ix sub => (sub = 0 ∧ ix ∈ [Ob.UPDATE_PAGES_WRITTEN, Ob.UPDATE_SESSION]) ∨ (true = false ∧
        ((sub = 0 ∧ ix ∈ [Ob.UPDATE_PAGE_FAILS, Ob.UPDATE_EVENTS]) ∨ EventObj ix sub))) s t := by
  have hpage := s.pageWritten_frame page data rest (s.upd.map.filter (fun p => p != page) ++ [page])
  have hwritten := hpage.widen (G := pageFields) (fun _ _ => rfl) fun _ _ => id
  have hupd := s.pageWritten_upd page data rest (s.upd.map.filter (fun p => p != page) ++ [page])
  have hmap := State.verifyBegin_map hupd
  have hbegin := State.verifyBegin_frame (s.pageWritten page data rest (s.upd.map.filter (fun p => p != page) ++ [page]))
  have hflash := hbegin.view State.flash fun _ _ => rfl
  refine ⟨_, execPageProgramDone_ok hqueue, State.verifyBegin_fields hwritten hupd, fun a ha => ?_, ?_, fun p hp => ?_, ?_,
    State.verifyBegin_session_of hwritten hupd (by decide), fun _ => ⟨?_, ?_, fun i hi => ?_⟩, by simp, ?_⟩
  · rw [hflash, State.pageWritten_outside _ _ _ _ _ hlen a ha]
  · rw [State.verifyBegin_reg _ _ (by decide), State.pageWritten_pages, hmap]
  · rw [hmap, List.mem_append, mem_map_other _ _ _ hp]
    simp [hp]
  · rw [hmap]
    simp
  · exact (hbegin.view State.lookout fun _ _ => rfl).trans (hpage.view State.lookout fun _ _ => rfl)
  · exact (hbegin.view State.freeCount fun _ _ => rfl).trans (hpage.view State.freeCount fun _ _ => rfl)
  · rw [hflash, State.pageWritten_inside _ _ _ _ _ i hi]
  · refine fun ix sub hsub hfree => State.verifyBegin_keeps hwritten ix sub hsub fun h => hfree (.inl ?_)
    rcases h with ⟨rfl, rfl⟩ | ⟨rfl, rfl⟩ <;> simp

theorem pageProgramDone_failed {s : State} {page : Nat} {data : List Byte} {rest : List (Nat × List Byte)}
    (hqueue : s.upd.queue = (page, data) :: rest) (hlen : data.length ≤ 4096) :
    ∃ t : State, exec (.pageProgramDone false) s = .next t ∧
      t = { s with regs := t.regs, lookout := t.lookout, cap := t.cap, flash := t.flash, freeCount := t.freeCount, upd := { s.upd with
              map := t.upd.map, queue := rest, verify := t.upd.verify } } ∧
      (∀ a, (a < Part.STAGING + 4096 * page ∨ Part.STAGING + 4096 * page + 4096 ≤ a) →
        t.flash.get flashDefault a = s.flash.get flashDefault a) ∧
      t.reg Ob.UPDATE_PAGES_WRITTEN 0 = (t.upd.map.length : Int) ∧
      (∀ p, p ≠ page → (p ∈ t.upd.map ↔ p ∈ s.upd.map)) ∧ (page ∈ t.upd.map ↔ false = true) ∧
      t.reg Ob.UPDATE_SESSION 0 = (if s.upd.verify = true ∧ rest = [] then 3 else s.reg Ob.UPDATE_SESSION 0) ∧
      (false = true → t.lookout = s.lookout ∧ t.freeCount = s.freeCount ∧
        (∀ i < 4096, t.flash.get flashDefault (Part.STAGING + 4096 * page + i) = data.getD i 0xFF)) ∧
      (false = false → t.reg Ob.UPDATE_PAGE_FAILS 0 = (min (2 ^ 32 - 1) (s.nat Ob.UPDATE_PAGE_FAILS 0 + 1) : Nat) ∧
        t.reg Ob.UPDATE_EVENTS 0 = (min (2 ^ 32 - 1) (s.nat Ob.UPDATE_EVENTS 0 + 1) : Nat)) ∧
      KeepsRegs (fun ix sub => (sub = 0 ∧ ix ∈ [Ob.UPDATE_PAGES_WRITTEN, Ob.UPDATE_SESSION]) ∨ (false = false ∧
        ((sub = 0 ∧ ix ∈ [Ob.UPDATE_PAGE_FAILS, Ob.UPDATE_EVENTS]) ∨ EventObj ix sub))) s t := by
  have hfailed := (s.pageFailed_frame page data.length rest (s.upd.map.filter (fun p => p != page))).widen (G := pageFields)
    (fun _ _ => rfl) fun _ _ => id
  have hupd := s.pageFailed_upd page data.length rest (s.upd.map.filter (fun p => p != page))
  have hmap := State.verifyBegin_map hupd
  have hbegin := State.verifyBegin_frame (s.pageFailed page data.length rest (s.upd.map.filter (fun p => p != page)))
  have hflash := (hbegin.view State.flash fun _ _ => rfl).trans (s.pageFailed_flash page data.length rest _)
  refine ⟨_, execPageProgramDone_failed hqueue, State.verifyBegin_fields hfailed hupd, fun a ha => ?_, ?_, fun p hp => ?_, ?_,
    State.verifyBegin_session_of hfailed hupd (by simp [EventObj]), by simp, fun _ => ⟨?_, ?_⟩, ?_⟩
  · rw [hflash, State.pageWritten_outside _ _ _ _ _ (by simpa [State.freshBytes] using hlen) a ha]
  · rw [State.verifyBegin_reg _ _ (by decide), hmap, State.pageFailed_pages]
  · rw [hmap, mem_map_other _ _ _ hp]
  · rw [hmap]
    simp
  · rw [State.verifyBegin_reg _ _ (by decide), State.pageFailed_fails]
  · rw [State.verifyBegin_reg _ _ (by decide), State.pageFailed_events]
  · refine fun ix sub hsub hfree => State.verifyBegin_keeps hfailed ix sub hsub fun h => hfree ?_
    rcases h with (⟨rfl, h⟩ | h) | ⟨rfl, rfl⟩
    · simp only [List.mem_cons, List.not_mem_nil, or_false] at h
      rcases h with rfl | rfl | rfl <;> simp
    · exact .inr ⟨rfl, .inr h⟩
    · simp

/-- Settles O59: each command's own rule on the accepted request, and the flash byte by byte. -/
theorem downloadsFillStaging : Obligations.DownloadsFillStaging := by
  unfold Obligations.DownloadsFillStaging
  refine ⟨?opens, ?erased, ?page, ?programmed, ?noPage, ?verify, ?verified⟩
  case opens =>
    intro s r len hlen hacc
    have hspelt : leNat (leBytes 4 len) = len := leNat_leBytes 4 len hlen
    refine ⟨fun hother => next_serve_deny hacc (ownUpdateOpen_other _ _ _ (by rwa [State.taken_otherHolds])), fun hfree => ?_⟩
    have hown := ownUpdateOpen_opens (s.taken r .exec Ob.UPDATE_OPEN 0 (leBytes 4 len)) r.path (leNat (leBytes 4 len))
      (by rwa [State.taken_otherHolds])
    rw [hspelt] at hown
    have hopen := (s.taken r .exec Ob.UPDATE_OPEN 0 (leBytes 4 len)).opened_frame r.path len
    have hmgt : ((s.taken r .exec Ob.UPDATE_OPEN 0 (leBytes 4 len)).opened r.path len).pwr Dom.MGT = 2 := by
      refine pwr_of_on (Eq.trans ?_ hacc.mgt)
      rw [State.on, State.pwr, hopen.regs _ _ (by decide) (by simp [Dom.MGT])]
      exact s.taken_on r .exec Ob.UPDATE_OPEN 0 (leBytes 4 len) Dom.MGT
    obtain ⟨hvote, hvoted⟩ := State.updateVotes_of_open hmgt (by rw [State.opened_session]; decide)
    have hkeep (ix : Nat) (h : ix ≠ Ob.POWER_VOTES) := hvote.regs ix 0 (by decide) fun h' => h h'.1
    refine ⟨_, next_serve_done hacc (by rw [hspelt]; exact hown), ?_, ?_, ?_, ?_, ?_, ?_, hvoted, ?_⟩
    · rw [← s.taken_upd r .exec Ob.UPDATE_OPEN 0 (leBytes 4 len)]
      exact hvote.fields
    · rw [hkeep _ (by decide), State.opened_session]
    · rw [hkeep _ (by decide), State.opened_source]
    · rw [hkeep _ (by decide), State.opened_zeros _ _ _ _ (by simp)]
    · rw [hkeep _ (by decide), State.opened_zeros _ _ _ _ (by simp)]
    · rw [hkeep _ (by decide), State.opened_zeros _ _ _ _ (by simp)]
    · refine .of_taken (((hopen.mono ?_).trans (hvote.widen (fun _ _ => rfl) ?_)).regs) fun _ => .inl rfl
      · exact fun ix sub h => .inr (h.imp_right .inl)
      · exact fun ix sub h => .inr (.inr (.inr h))
  case erased =>
    refine fun s => ⟨fun hses => ⟨_, if_pos hses, rfl, State.reg_setReg_self _ _ _ _, fun a => ?_, ?_⟩, fun hses => if_neg hses⟩
    · exact State.flashErase_get _ _ _ a
    · exact Frame.regs (F := .all) (by simp)
  case page => exact fun s r off crc data hoff hcrc hacc => updateStagingWrite_page hoff hcrc hacc
  case programmed =>
    intro s ok page data rest hqueue hlen
    cases ok with
    | true => exact pageProgramDone_ok hqueue hlen
    | false => exact pageProgramDone_failed hqueue hlen
  case noPage =>
    intro s ok hqueue
    show execPageProgramDone ok s = _
    unfold execPageProgramDone
    rw [hqueue]
  case verify =>
    intro s r hacc
    have hses := s.taken_reg r .exec Ob.UPDATE_VERIFY 0 [0] Ob.UPDATE_SESSION 0 (by decide) (by decide)
    have hhold := s.taken_otherHolds r .exec Ob.UPDATE_VERIFY 0 [0] r.path
    refine ⟨fun hother => ?_, fun hclosed => ?_, fun hbusy => ?_, fun hfree hopen herased hverifying => ?_⟩
    · exact next_serve_deny hacc (if_pos (by rwa [hhold]))
    · exact next_serve_deny hacc (ownUpdateVerify_closed (by rwa [hses]))
    · exact next_serve_deny hacc (ownUpdateVerify_busy _ (by rwa [hses]))
    · have hdone := ownUpdateVerify_waits (s := s.taken r .exec Ob.UPDATE_VERIFY 0 [0]) (path := r.path) (by rwa [hhold]) (by rwa [hses])
        (by rwa [hses]) (by rwa [hses])
      refine ⟨_, next_serve_done hacc hdone, ?_, ?_, ?_⟩
      · rw [← s.taken_upd r .exec Ob.UPDATE_VERIFY 0 [0], ← State.verifyAsked_upd]
        exact State.verifyAsked_frame.fields
      · rw [State.verifyAsked_session, hses, State.taken_upd]
      · exact .of_taken (State.verifyAsked_frame.mono fun _ _ h => .inr h.symm).regs fun _ => .inl rfl
  case verified =>
    refine fun s => ⟨fun hses => ?_, fun hses => if_neg hses⟩
    have hframe := s.verifyEnds_frame s.stagingVerdict.1 s.stagingVerdict.2 (s.imageVersion Part.STAGING)
    have hresult := s.verifyEnds_result s.stagingVerdict.1 s.stagingVerdict.2 (s.imageVersion Part.STAGING)
    refine ⟨_, execVerifyDone_verifying hses, hframe.fields, fun hpass => ?_, fun hfail => ?_, fun hmissing => ?_, fun hall =>
      ⟨fun hform => ?_, fun hform hlen => ?_, fun hform hlen => ?_⟩, ?_⟩
    · exact State.verifyEnds_passed _ _ _ _ (by omega)
    · exact State.verifyEnds_failed _ _ _ _ (by omega)
    · rw [hresult, s.stagingVerdict_missing hmissing]; rfl
    · rw [hresult, s.stagingVerdict_whole hall, State.imageCheck_form _ _ _ hform]; rfl
    · rw [hresult, s.stagingVerdict_whole hall, State.imageCheck_length _ _ _ hform hlen]; rfl
    · rw [hresult, s.stagingVerdict_whole hall, State.imageCheck_rest _ _ _ hform hlen]
      push_cast
      rfl
    · exact hframe.regs

end Sys2Proof.Machine

/-! SUPPORT. What votes on power domains can touch: the domains' own records, the power objects and the waiting replies (R432 to R441). -/

namespace Sys2Proof.Machine

/-- The choice of objects allows those of chapter 17. -/
def AllowsPower (P : Nat → Nat → Prop) : Prop := ∀ ix sub, ix / 256 = 0x13 → P ix sub

/-- The objects of chapter 17. -/
def PowerObj (ix _sub : Nat) : Prop := ix / 256 = 0x13

@[simp] theorem allowsPower_powerObj : AllowsPower PowerObj := fun _ _ => id

section
variable {F : Fields} {P : Nat → Nat → Prop} {s t : State} {d : Fin 36} {c : Nat} (hregs : F.regs = true) (hP : AllowsPower P)
include hregs hP

@[simp] theorem frame_noteVote {on : Bool} : Frame F P s (t.noteVote d c on) ↔ Frame F P s t := by
  have h (ix : Nat) (hix : ix / 256 = 0x13) (t : State) (v : Int) : Frame F P s (t.setReg ix (d.val + 1) v) ↔ Frame F P s t :=
    frame_setReg hregs (by omega) (hP _ _ hix)
  unfold State.noteVote
  simp only [frame_ite, h _ (rfl : Ob.POWER_VOTES / 256 = 0x13), h _ (rfl : Ob.POWER_VOTE_HOST / 256 = 0x13),
    h _ (rfl : Ob.POWER_VOTE_FAR / 256 = 0x13), ite_self]

variable (hdoms : F.doms = true)
include hdoms

@[simp] theorem frame_account : Frame F P s (t.account d) ↔ Frame F P s t := by
  have h (ix : Nat) (hix : ix / 256 = 0x13) (n : Nat) : Frame F P s (t.bumpTo (2 ^ 48 - 1) ix (d.val + 1) n) ↔ Frame F P s t :=
    frame_bumpTo hregs (by omega) (hP _ _ hix)
  unfold State.account
  rw [frame_modDom hdoms, h]
  split <;> rfl

@[simp] theorem frame_setPwr {v : Int} : Frame F P s (t.setPwr d v) ↔ Frame F P s t := by
  unfold State.setPwr
  rw [frame_setStamp hregs (by omega) (hP _ _ rfl), frame_setReg hregs (by omega) (hP _ _ rfl), frame_account hregs hP hdoms]

@[simp] theorem frame_startWake : Frame F P s (t.startWake d) ↔ Frame F P s t := by
  unfold State.startWake
  rw [frame_setPwr hregs hP hdoms, frame_modDom hdoms]

@[simp] theorem frame_startEntry {off : Bool} : Frame F P s (t.startEntry d off) ↔ Frame F P s t := by
  unfold State.startEntry
  rw [frame_setPwr hregs hP hdoms, frame_modDom hdoms]

@[simp] theorem frame_withdraw {off : Bool} : Frame F P s (t.withdraw d c off) ↔ Frame F P s t := by
  unfold State.withdraw
  simp only [frame_ite, frame_startEntry hregs hP hdoms, frame_modDom hdoms, frame_noteVote hregs hP, ite_self]

variable (hmmp : F.mmp = true)
include hmmp

omit hregs hP hdoms in
@[simp] theorem frame_answerVotes {st : Nat} : Frame F P s (t.answerVotes d st) ↔ Frame F P s t := by
  unfold State.answerVotes
  rw [frame_finish hmmp, frame_finish hmmp]

@[simp] theorem frame_castVote : Frame F P s (t.castVote d c) ↔ Frame F P s t := by
  have habort : Frame F P s ((((t.noteVote d c true).modDom d (fun m => { m with toOff := false })).setPwr d 2).bump
      Ob.POWER_ENTRY_ABORTS (d.val + 1) 1) ↔ Frame F P s t := by
    rw [frame_bump hregs (by omega) (hP _ _ rfl), frame_setPwr hregs hP hdoms, frame_modDom hdoms, frame_noteVote hregs hP]
  unfold State.castVote
  split <;> simp only [frame_ite, frame_answerVotes hmmp, habort, frame_startWake hregs hP hdoms, frame_noteVote hregs hP, ite_self]

@[simp] theorem frame_updateVotes : Frame F P s t.updateVotes ↔ Frame F P s t := by
  unfold State.updateVotes
  simp only [frame_ite, frame_castVote hregs hP hdoms hmmp, frame_withdraw hregs hP hdoms, ite_self]

@[simp] theorem frame_analogVotes : Frame F P s t.analogVotes ↔ Frame F P s t := by
  unfold State.analogVotes
  refine frame_forEach fun d _ t => ?_
  simp only [frame_ite, frame_castVote hregs hP hdoms hmmp, frame_withdraw hregs hP hdoms, Frame.refl, ite_self]

end

/-! ## The votes themselves -/

section
variable (s : State) (d : Fin 36) (c : Nat)

theorem State.noteVote_votes (on : Bool) : (s.noteVote d c on).votes d = withBit (s.votes d) c on := by
  have hd := d.isLt
  unfold State.noteVote
  split
  · simp [State.votes, State.nat, State.reg_setReg]
  · split <;> simp [State.votes, State.nat, State.reg_setReg]

/-- The objects that a change of a domain's state writes: the votes are none of them. -/
def pwrObjs : List Nat :=
  [Ob.POWER_STATE, Ob.POWER_STATE_TIME, Ob.POWER_RES_ON_US, Ob.POWER_RES_RET_US, Ob.POWER_RES_OFF_US]

theorem State.setPwr_frame (v : Int) : Frame { regs := true, doms := true } (fun ix sub => ix ∈ pwrObjs ∧ sub = d.val + 1) s (s.setPwr d v) := by
  unfold State.setPwr State.account
  rw [frame_setStamp rfl (by omega) (by simp [pwrObjs]), frame_setReg rfl (by omega) (by simp [pwrObjs]), frame_modDom rfl]
  split <;> simp [pwrObjs]

theorem State.setPwr_votes (v : Int) (e : Fin 36) : (s.setPwr d v).votes e = s.votes e := by
  rw [State.votes, State.nat, (s.setPwr_frame d v).regs _ _ (by omega) (by simp [pwrObjs])]
  rfl

@[simp] theorem State.setPwr_pwr (v : Int) : (s.setPwr d v).pwr d = v := by
  have hd := d.isLt
  simp [State.setPwr, State.setStamp, State.pwr, State.reg_setReg]

theorem State.noteVote_pwr (on : Bool) (e : Fin 36) : (s.noteVote d c on).pwr e = s.pwr e := by
  have hd := d.isLt
  have he := e.isLt
  unfold State.noteVote
  split
  · simp [State.pwr, State.reg_setReg]
  · split <;> simp [State.pwr, State.reg_setReg]

theorem State.answerVotes_votes (st : Nat) (e : Fin 36) : (s.answerVotes d st).votes e = s.votes e := by
  have hframe : Frame { mmp := true } (fun _ _ => False) s (s.answerVotes d st) := (frame_answerVotes rfl).mpr Frame.refl
  rw [State.votes, State.nat, hframe.regs _ _ (by omega) id]
  rfl

/-- A vote withdrawn reads clear, whatever the domain then does. -/
theorem State.withdraw_votes (off : Bool) : (s.withdraw d c off).votes d = withBit (s.votes d) c false := by
  unfold State.withdraw
  dsimp only
  split
  · split
    · rw [State.startEntry, State.setPwr_votes]
      exact s.noteVote_votes d c false
    · exact s.noteVote_votes d c false
  · exact s.noteVote_votes d c false

/-- A vote cast reads set, whatever the domain then does. -/
theorem State.castVote_votes : (s.castVote d c).votes d = withBit (s.votes d) c true := by
  have hnote := s.noteVote_votes d c true
  unfold State.castVote
  split
  · split
    · exact hnote
    · rw [State.startWake, State.setPwr_votes]; exact hnote
  · split
    · exact hnote
    · rw [State.startWake, State.setPwr_votes]; exact hnote
  · rw [State.answerVotes_votes, State.votes, State.nat, State.bump, State.bumpTo,
      State.reg_setReg_ne _ _ _ _ _ _ (objKey_ne_of_ix (by omega) (by omega) (by decide))]
    exact (State.setPwr_votes _ _ _ _).trans hnote
  · exact hnote

/-- UPDATE's vote on MGT stands exactly while a session is open or a copy runs (R434). -/
theorem State.updateVotes_vote : bitOf (s.updateVotes.votes Dom.MGT) Vote.UPDATE =
    (s.reg Ob.UPDATE_SESSION 0 != 0 || s.upd.copy.isSome) := by
  unfold State.updateVotes
  simp only
  split
  · exact (‹_ = bitOf _ _›).symm
  · split
    · rw [State.castVote_votes, bitOf_withBit_true]
      exact (‹_ = true›).symm
    · rw [State.withdraw_votes, bitOf_withBit_false]
      exact (Bool.eq_false_iff.mpr ‹_›).symm

end

end Sys2Proof.Machine

/-! SUPPORT. The journal, activation, probation and settings saves (R501, R505, R506, R511, R514). -/

namespace Sys2Proof.Machine

/-! ## Checksums in 32 bits -/

theorem leNat_leBytes_mod (n v : Nat) : leNat (leBytes n v) = v % 256 ^ n := by
  induction n generalizing v with
  | zero => simp [leBytes, leNat, Nat.mod_one]
  | succ n ih =>
    rw [leBytes, leNat, ih, Nat.pow_succ', Nat.mod_mul (a := 256)]
    simp

theorem crcBits_lt (w poly init : Nat) (bs : List Bool) (hpoly : poly < 2 ^ w) (hinit : init < 2 ^ w) : crcBits w poly init bs < 2 ^ w := by
  unfold crcBits
  induction bs generalizing init with
  | nil => exact hinit
  | cons b bs ih =>
    refine ih _ ?_
    have hshift : 2 * init % 2 ^ w < 2 ^ w := Nat.mod_lt _ (by positivity)
    unfold crcStep
    dsimp only
    split
    · exact Nat.xor_lt_two_pow hshift hpoly
    · exact hshift

theorem crc32c_lt (bs : List Byte) : crc32c bs < 2 ^ 32 :=
  Nat.xor_lt_two_pow (crcBits_lt 32 _ _ _ (by decide) (by decide)) (by decide)

/-! ## A record of the journal -/

/-- A record's first 60 bytes (R506). -/
def journalBody (s : State) (kind run seq block version : Nat) (id : List Byte) : List Byte :=
  leBytes 2 0x4A5A ++ leBytes 1 kind ++ leBytes 1 run ++ leBytes 4 seq ++ leBytes 4 block ++ leBytes 4 version ++
    (id ++ List.replicate 32 0).take 32 ++ leBytes 12 s.stamp

/-- The place after the latest record, and the sequence number of the next one (R506). -/
def State.journalNext (s : State) : Nat × Nat :=
  match s.journalLatest with
  | some (i, b) => ((i + 1) % 4096, u32At b 4 + 1)
  | none => (0, 1)

section
variable (s : State) (kind run seq block version : Nat) (id : List Byte)

theorem journalBody_length : (journalBody s kind run seq block version id).length = 60 := by
  simp [journalBody]

theorem State.journalNext_congr {s t : State} (h : t.flash = s.flash) : t.journalNext = s.journalNext := by
  simp only [State.journalNext, State.journalLatest, State.journalUsed, State.journalAt, State.flashRead, h]

theorem State.journalNext_lt : s.journalNext.1 < 4096 := by
  unfold State.journalNext
  split
  · exact Nat.mod_lt _ (by decide)
  · decide

/-- The bytes of a record as they stand in the flash. -/
def journalRecord : List Byte :=
  journalBody s kind run seq block version id ++ leBytes 4 (crc32c (journalBody s kind run seq block version id))

theorem journalRecord_length : (journalRecord s kind run seq block version id).length = 64 := by
  simp [journalRecord, journalBody_length]

theorem journalRecord_ok : recordOk (journalRecord s kind run seq block version id) = true := by
  have hlen := journalBody_length s kind run seq block version id
  have hmagic : u16At (journalRecord s kind run seq block version id) 0 = 0x4A5A := by
    simp [journalRecord, journalBody, u16At, leBytes, leNat]
  have hbody : (journalRecord s kind run seq block version id).take 60 = journalBody s kind run seq block version id :=
    List.take_left' hlen
  have hcrc : u32At (journalRecord s kind run seq block version id) 60 = crc32c (journalBody s kind run seq block version id) := by
    unfold u32At journalRecord
    rw [List.drop_left' hlen, List.take_of_length_le (by simp), leNat_leBytes 4 _ (crc32c_lt _)]
  simp [recordOk, hmagic, hcrc, hbody]

theorem journalRecord_kind : u8At (journalRecord s kind run seq block version id) 2 = kind % 256 := by
  simp [journalRecord, journalBody, u8At, leBytes]

theorem journalRecord_run : u8At (journalRecord s kind run seq block version id) 3 = run % 256 := by
  simp [journalRecord, journalBody, u8At, leBytes]

theorem journalRecord_version : u32At (journalRecord s kind run seq block version id) 12 = version % 2 ^ 32 := by
  rw [show (2 : Nat) ^ 32 = 256 ^ 4 by decide, ← leNat_leBytes_mod 4]
  simp [journalRecord, journalBody, u32At, leBytes]

end

theorem State.journalWrite_eq (s : State) (kind run block version : Nat) (id : List Byte) :
    s.journalWrite kind run block version id =
      ((if s.journalNext.1 % 64 = 0 then s.flashErase (Part.JOURNAL + 64 * s.journalNext.1) 4096 else s).flashWrite
        (Part.JOURNAL + 64 * s.journalNext.1) (journalRecord s kind run s.journalNext.2 block version id)).journalShow := by
  unfold State.journalWrite journalRecord journalBody State.journalNext
  cases s.journalLatest with
  | none => rfl
  | some latest => rfl

/-- The objects that show the latest record. -/
def JournalObj (ix sub : Nat) : Prop := sub = 0 ∧ (ix = Ob.UPDATE_JOURNAL_SEQ ∨ ix = Ob.UPDATE_JOURNAL_TIME)

section
variable (s : State) (kind run block version : Nat) (id : List Byte)

theorem State.journalShow_frame : Frame { regs := true } JournalObj s s.journalShow := by
  unfold State.journalShow
  split
  · rw [frame_setReg rfl (by decide) ⟨rfl, .inr rfl⟩, frame_setReg rfl (by decide) ⟨rfl, .inl rfl⟩]
    exact Frame.refl
  · exact Frame.refl

theorem State.journalWrite_frame : Frame { regs := true, flash := true } JournalObj s (s.journalWrite kind run block version id) := by
  rw [State.journalWrite_eq]
  refine Frame.trans ?_ ((State.journalShow_frame _).widen (fun _ _ => rfl) fun _ _ h => h)
  simp only [frame_flashWrite, frame_ite, frame_flashErase, Frame.refl, ite_self]

theorem State.journalFollow_frame (kind run block : Nat) : Frame { regs := true, flash := true } JournalObj s (s.journalFollow kind run block) := by
  unfold State.journalFollow
  split <;> exact State.journalWrite_frame _ _ _ _ _ _

/-- The flash after a record, byte by byte. -/
theorem State.journalWrite_get (x : Nat) : (s.journalWrite kind run block version id).flash.get flashDefault x =
    if Part.JOURNAL + 64 * s.journalNext.1 ≤ x ∧ x < Part.JOURNAL + 64 * s.journalNext.1 + 64 then
      (journalRecord s kind run s.journalNext.2 block version id).getD (x - (Part.JOURNAL + 64 * s.journalNext.1)) 0xFF
    else if s.journalNext.1 % 64 = 0 ∧ Part.JOURNAL + 64 * s.journalNext.1 ≤ x ∧ x < Part.JOURNAL + 64 * s.journalNext.1 + 4096 then 0xFF
    else s.flash.get flashDefault x := by
  rw [State.journalWrite_eq, (State.journalShow_frame _).view State.flash fun _ _ => rfl, State.flashWrite_get, journalRecord_length]
  congr 1
  split
  · simp [State.flashErase_get, *]
  · simp [*]

/-- The record just written is the one at its place. -/
theorem State.journalWrite_at : (s.journalWrite kind run block version id).journalAt s.journalNext.1 =
    journalRecord s kind run s.journalNext.2 block version id := by
  refine List.ext_getElem (by simp [State.journalAt, State.flashRead, journalRecord_length]) fun i hi hi' => ?_
  have hlt : i < 64 := by rwa [journalRecord_length] at hi'
  simp only [State.journalAt, State.flashRead, List.getElem_map, List.getElem_range, State.journalWrite_get]
  rw [if_pos (by omega), Nat.add_sub_cancel_left, List.getD_eq_getElem _ _ hi']

/-- Outside the ring a record changes nothing. -/
theorem State.journalWrite_outside (x : Nat) (hx : x < Part.JOURNAL ∨ Part.JOURNAL + 0x40000 ≤ x) :
    (s.journalWrite kind run block version id).flash.get flashDefault x = s.flash.get flashDefault x := by
  have hplace := s.journalNext_lt
  rw [State.journalWrite_get, if_neg (by omega), if_neg (by omega)]

end

/-! ## The end of a session -/

section
variable (s : State)

/-- A session as it ends, before its vote. -/
def State.sessionClosed : State :=
  (((if s.reg Ob.UPDATE_SESSION 0 = 1 then s.flashErase Part.STAGING 65536 else s).modUpd
    (fun u => { u with len := 0, map := [], queue := [], verify := false })).setReg Ob.UPDATE_SESSION 0 0).setReg Ob.UPDATE_SOURCE 0 0

theorem State.sessionEnd_eq : s.sessionEnd = s.sessionClosed.updateVotes := rfl

/-- The objects that the end of a session sets. -/
def CloseObj (ix sub : Nat) : Prop := (sub = 0 ∧ (ix = Ob.UPDATE_SESSION ∨ ix = Ob.UPDATE_SOURCE)) ∨ ix / 256 = 0x13

@[simp] theorem closeObj_iff {ix sub : Nat} :
    CloseObj ix sub ↔ (sub = 0 ∧ (ix = Ob.UPDATE_SESSION ∨ ix = Ob.UPDATE_SOURCE)) ∨ ix / 256 = 0x13 := Iff.rfl

theorem State.sessionEnd_votes_frame : Frame { regs := true, doms := true, mmp := true } PowerObj s.sessionClosed s.sessionEnd := by
  rw [State.sessionEnd_eq]
  simp

theorem State.sessionEnd_frame : Frame { regs := true, doms := true, mmp := true, flash := true, upd := true } CloseObj s s.sessionEnd := by
  refine Frame.trans (t := s.sessionClosed) ?_ (s.sessionEnd_votes_frame.widen (fun _ _ => rfl) fun _ _ => .inr)
  unfold State.sessionClosed
  simp

theorem State.sessionEnd_reg (ix : Nat) (h : ix / 256 ≠ 0x13) : s.sessionEnd.reg ix 0 = s.sessionClosed.reg ix 0 :=
  s.sessionEnd_votes_frame.regs ix 0 (by decide) h

theorem State.sessionEnd_session : s.sessionEnd.reg Ob.UPDATE_SESSION 0 = 0 := by
  rw [State.sessionEnd_reg _ _ (by decide)]
  simp [State.sessionClosed, State.reg_setReg]

theorem State.sessionEnd_source : s.sessionEnd.reg Ob.UPDATE_SOURCE 0 = 0 := by
  rw [State.sessionEnd_reg _ _ (by decide)]
  exact State.reg_setReg_self _ _ _ _

theorem State.sessionEnd_upd : s.sessionEnd.upd = { s.upd with len := 0, map := [], queue := [], verify := false } := by
  rw [s.sessionEnd_votes_frame.view State.upd fun _ _ => rfl]
  unfold State.sessionClosed
  split <;> rfl

theorem State.sessionEnd_flash (h : s.reg Ob.UPDATE_SESSION 0 ≠ 1) : s.sessionEnd.flash = s.flash := by
  rw [s.sessionEnd_votes_frame.view State.flash fun _ _ => rfl]
  unfold State.sessionClosed
  rw [if_neg h]
  rfl

/-- UPDATE's vote stays after a session only for a running copy (R434). -/
theorem State.sessionEnd_vote : bitOf (s.sessionEnd.votes Dom.MGT) Vote.UPDATE = s.upd.copy.isSome := by
  have hsession : s.sessionClosed.reg Ob.UPDATE_SESSION 0 = 0 := by
    simp [State.sessionClosed, State.reg_setReg]
  have hcopy : s.sessionClosed.upd.copy = s.upd.copy := by
    unfold State.sessionClosed
    split <;> rfl
  rw [State.sessionEnd_eq, State.updateVotes_vote, hsession, hcopy]
  rfl

end

/-! ## UPDATE.ACTIVATE -/

/-- An activation before the reset that it may order: the PENDING record, the session's end, no probation (R505). -/
def State.activated (s : State) : State :=
  (((s.journalWrite 1 s.upd.loaded 0 (s.nat Ob.UPDATE_IMAGE_VERSION 3) ((Config.digest (s.manifest Part.STAGING)).take 32)).sessionEnd.setReg
    Ob.UPDATE_IMAGE_STATE 0 1).modUpd fun u => { u with probation := none })

theorem ownUpdateActivate_verified {s : State} {path : Path} (arg : Int) (hfree : s.otherHolds path = false)
    (hses : s.reg Ob.UPDATE_SESSION 0 = 4) :
    ownUpdateActivate path arg s = .done (if arg = 1 then s.activated.orderChip 4 else s.activated) [] := by
  unfold ownUpdateActivate State.activated
  simp only [hfree, hses, Bool.false_eq_true, if_false, ne_eq, not_true_eq_false]

theorem ownUpdateActivate_unverified {s : State} {path : Path} (arg : Int) (hfree : s.otherHolds path = false)
    (hses : s.reg Ob.UPDATE_SESSION 0 ≠ 4) : ownUpdateActivate path arg s =
      .deny (if s.reg Ob.UPDATE_VERIFY_RESULT 0 = 4 ∨ s.reg Ob.UPDATE_VERIFY_RESULT 0 = 5 then St.SIGNATURE else St.CONFIG_CONFLICT) := by
  unfold ownUpdateActivate
  simp only [hfree, hses, Bool.false_eq_true, if_false, ne_eq, not_false_eq_true, if_true]

section
variable (s : State)

theorem State.activated_frame : Frame { regs := true, doms := true, mmp := true, flash := true, upd := true } (fun _ _ => True) s s.activated := by
  unfold State.activated
  rw [frame_modUpd rfl, frame_setReg rfl (by decide) trivial]
  refine Frame.trans (t := s.journalWrite 1 s.upd.loaded 0 (s.nat Ob.UPDATE_IMAGE_VERSION 3)
    ((Config.digest (s.manifest Part.STAGING)).take 32)) ?_ ((State.sessionEnd_frame _).mono fun _ _ _ => trivial)
  exact (State.journalWrite_frame _ _ _ _ _ _).widen (fun _ _ => rfl) fun _ _ _ => trivial

theorem State.activated_session : s.activated.reg Ob.UPDATE_SESSION 0 = 0 := by
  rw [State.activated, State.modUpd_reg, State.reg_setReg_ne _ _ _ _ _ _ (by decide), State.sessionEnd_session]

theorem State.activated_source : s.activated.reg Ob.UPDATE_SOURCE 0 = 0 := by
  rw [State.activated, State.modUpd_reg, State.reg_setReg_ne _ _ _ _ _ _ (by decide), State.sessionEnd_source]

theorem State.activated_imageState : s.activated.reg Ob.UPDATE_IMAGE_STATE 0 = 1 := by
  rw [State.activated, State.modUpd_reg, State.reg_setReg_self]

theorem State.modUpd_upd (f : Update → Update) : (s.modUpd f).upd = f s.upd := rfl

theorem State.activated_upd : s.activated.upd = { s.upd with len := 0, map := [], queue := [], verify := false, probation := none } := by
  rw [State.activated, State.modUpd_upd, State.setReg_upd, State.sessionEnd_upd,
    (State.journalWrite_frame _ _ _ _ _ _).view State.upd fun _ _ => rfl]

theorem State.activated_vote : bitOf (s.activated.votes Dom.MGT) Vote.UPDATE = s.upd.copy.isSome := by
  rw [State.activated, State.votes, State.nat, State.modUpd_reg, State.reg_setReg_ne _ _ _ _ _ _ (by decide), ← State.nat, ← State.votes,
    State.sessionEnd_vote, (State.journalWrite_frame _ _ _ _ _ _).view State.upd fun _ _ => rfl]

theorem State.modUpd_setReg_flash (f : Update → Update) (ix sub : Nat) (v : Int) : ((s.setReg ix sub v).modUpd f).flash = s.flash := rfl

theorem State.activated_flash (h : s.reg Ob.UPDATE_SESSION 0 ≠ 1) : s.activated.flash =
    (s.journalWrite 1 s.upd.loaded 0 (s.nat Ob.UPDATE_IMAGE_VERSION 3) ((Config.digest (s.manifest Part.STAGING)).take 32)).flash := by
  rw [State.activated, State.modUpd_setReg_flash, State.sessionEnd_flash]
  rwa [(State.journalWrite_frame _ _ _ _ _ _).regs _ _ (by decide) (by simp [JournalObj])]

end

/-- What an accepted UPDATE.ACTIVATE comes to, for both of its arguments. -/
theorem updateActivate_verified {s : State} {r : Req} {arg : Nat} (harg : arg < 256)
    (hacc : s.Accepts r .exec Ob.UPDATE_ACTIVATE 0 (leBytes 1 arg)) (hfree : s.otherHolds r.path = false) (hses : s.reg Ob.UPDATE_SESSION 0 = 4) :
    ∃ (u : State) (place : Nat), (.next (s.serve r .exec Ob.UPDATE_ACTIVATE 0 (leBytes 1 arg) (ownUpdateActivate r.path arg)) : Out) =
        .next (u.reply r .exec Ob.UPDATE_ACTIVATE 0 St.OK []) ∧
      u.reg Ob.UPDATE_SESSION 0 = 0 ∧ u.reg Ob.UPDATE_SOURCE 0 = 0 ∧ u.reg Ob.UPDATE_IMAGE_STATE 0 = 1 ∧ u.upd.probation = none ∧
      u.upd.map = [] ∧ u.upd.queue = [] ∧ bitOf (u.votes Dom.MGT) Vote.UPDATE = u.upd.copy.isSome ∧
      place = (match s.journalLatest with | some (i, _) => (i + 1) % 4096 | none => 0) ∧
      recordOk (u.journalAt place) = true ∧ u8At (u.journalAt place) 2 = 1 ∧ u8At (u.journalAt place) 3 = s.upd.loaded % 256 ∧
      u32At (u.journalAt place) 12 = s.nat Ob.UPDATE_IMAGE_VERSION 3 % 2 ^ 32 ∧
      (∀ a, (a < Part.JOURNAL ∨ Part.JOURNAL + 0x40000 ≤ a) → u.flash.get flashDefault a = s.flash.get flashDefault a) ∧
      u.lookout = (if arg = 1 then { s.lookout with chipDue := some 4 } else s.lookout) ∧ u.time = s.time ∧ u.fuse = s.fuse := by
  have hown := ownUpdateActivate_verified (s := s.taken r .exec Ob.UPDATE_ACTIVATE 0 (leBytes 1 arg)) (path := r.path) arg
    (by rwa [State.taken_otherHolds]) (by rwa [State.taken_reg _ _ _ _ _ _ _ _ (by decide) (by decide)])
  have hjournal : (s.taken r .exec Ob.UPDATE_ACTIVATE 0 (leBytes 1 arg)).journalNext = s.journalNext :=
    State.journalNext_congr (State.taken_flash ..)
  have hversion := s.taken_nat r .exec Ob.UPDATE_ACTIVATE 0 (leBytes 1 arg) Ob.UPDATE_IMAGE_VERSION 3 (by decide) (by decide)
  have hflash := State.activated_flash (s.taken r .exec Ob.UPDATE_ACTIVATE 0 (leBytes 1 arg))
    (by rw [State.taken_reg _ _ _ _ _ _ _ _ (by decide) (by decide), hses]; decide)
  have hframe := State.activated_frame (s.taken r .exec Ob.UPDATE_ACTIVATE 0 (leBytes 1 arg))
  have hrecord : (s.taken r .exec Ob.UPDATE_ACTIVATE 0 (leBytes 1 arg)).activated.journalAt s.journalNext.1 = _ :=
    (State.flashRead_congr hflash _ _).trans (hjournal ▸ State.journalWrite_at _ _ _ _ _ _)
  have hordered : Frame { lookout := true } (fun _ _ => False) (s.taken r .exec Ob.UPDATE_ACTIVATE 0 (leBytes 1 arg)).activated
      (if (arg : Int) = 1 then (s.taken r .exec Ob.UPDATE_ACTIVATE 0 (leBytes 1 arg)).activated.orderChip 4
        else (s.taken r .exec Ob.UPDATE_ACTIVATE 0 (leBytes 1 arg)).activated) := by simp
  have hreg (ix : Nat) := hordered.regs ix 0 (by decide) id
  have hupd := (hordered.view State.upd fun _ _ => rfl).trans (State.activated_upd _)
  have hat : (if (arg : Int) = 1 then (s.taken r .exec Ob.UPDATE_ACTIVATE 0 (leBytes 1 arg)).activated.orderChip 4
      else (s.taken r .exec Ob.UPDATE_ACTIVATE 0 (leBytes 1 arg)).activated).journalAt s.journalNext.1 = _ :=
    (State.flashRead_congr (hordered.view State.flash fun _ _ => rfl) _ 64).trans hrecord
  refine ⟨_, s.journalNext.1, next_serve_done hacc hown, ?_, ?_, ?_, ?_, ?_, ?_, ?_, ?_, ?_, ?_, ?_, ?_, fun a ha => ?_, ?_, ?_, ?_⟩
  · rw [hreg, State.activated_session]
  · rw [hreg, State.activated_source]
  · rw [hreg, State.activated_imageState]
  · rw [hupd]
  · rw [hupd]
  · rw [hupd]
  · rw [hupd, State.votes, State.nat, hordered.regs _ _ (by decide) id, ← State.nat, ← State.votes, State.activated_vote]
  · unfold State.journalNext
    split <;> rfl
  · rw [hat, journalRecord_ok]
  · rw [hat, journalRecord_kind]
  · rw [hat, journalRecord_run, State.taken_upd]
  · rw [hat, journalRecord_version, hversion]
  · rw [hordered.view State.flash fun _ _ => rfl, hflash, State.journalWrite_outside _ _ _ _ _ _ a ha, State.taken_flash]
  · have hlookout := (hframe.view State.lookout fun _ _ => rfl).trans (State.taken_lookout ..)
    by_cases h : arg = 1
    · simp only [h, Nat.cast_one, if_true, State.orderChip]
      rw [← hlookout, h]
    · rw [if_neg (by omega), if_neg h, hlookout]
  · exact (hordered.view State.time fun _ _ => rfl).trans ((hframe.view State.time fun _ _ => rfl).trans (State.taken_time ..))
  · exact (hordered.view State.fuse fun _ _ => rfl).trans ((hframe.view State.fuse fun _ _ => rfl).trans (State.taken_fuse ..))

/-! ## CLOSE and ABORT -/

/-- What an accepted request that ends the open session leaves of it (R501). -/
theorem State.sessionEnd_taken (s : State) (r : Req) (ob : Nat) :
    let u := (s.taken r .exec ob 0 [0]).sessionEnd
    u.reg Ob.UPDATE_SESSION 0 = 0 ∧ u.reg Ob.UPDATE_SOURCE 0 = 0 ∧ u.upd = { s.upd with len := 0, map := [], queue := [], verify := false } ∧
      (s.reg Ob.UPDATE_SESSION 0 ≠ 1 → u.flash = s.flash) ∧ u.reg Ob.UPDATE_EVENTS 0 = s.reg Ob.UPDATE_EVENTS 0 ∧ u.time = s.time ∧
      u.fuse = s.fuse := by
  have hframe := (s.taken r .exec ob 0 [0]).sessionEnd_frame
  refine ⟨State.sessionEnd_session _, State.sessionEnd_source _, ?_, fun hses => ?_, ?_, ?_, ?_⟩
  · rw [State.sessionEnd_upd, State.taken_upd]
  · rw [State.sessionEnd_flash _ (by rwa [State.taken_reg _ _ _ _ _ _ _ _ (by decide) (by decide)]), State.taken_flash]
  · rw [hframe.regs _ _ (by decide) (by rw [closeObj_iff]; decide), State.taken_reg _ _ _ _ _ _ _ _ (by decide) (by decide)]
  · exact (hframe.view State.time fun _ _ => rfl).trans (State.taken_time ..)
  · exact (hframe.view State.fuse fun _ _ => rfl).trans (State.taken_fuse ..)

section
variable {s : State} {path : Path}

theorem ownUpdateClose_closed (h : s.reg Ob.UPDATE_SESSION 0 = 0) : ownUpdateClose path s = .deny St.CONFIG_CONFLICT := by
  simp [ownUpdateClose, State.otherHolds, h]

theorem ownUpdateClose_open (hfree : s.otherHolds path = false) (hopen : s.reg Ob.UPDATE_SESSION 0 ≠ 0) :
    ownUpdateClose path s = .done s.sessionEnd [] := by
  simp [ownUpdateClose, hfree, hopen]

theorem ownUpdateConfirm_no_probation (h : s.inProbation = false) : ownUpdateConfirm s = .deny St.CONFIG_CONFLICT := if_pos (by simp [h])

end

/-! ## Probation and saves -/

section
variable (s : State) (confirm : Bool)

theorem State.deviceSave_frame : Frame { savedRegs := true, savedBlobs := true, upd := true } (fun _ _ => False) s (s.deviceSave confirm) := by
  unfold State.deviceSave State.saveStart State.captureSaved
  simp

/-- A save of the device's own starts at once where none runs, and else waits. -/
theorem State.deviceSave_upd : (s.deviceSave confirm).upd =
    if s.upd.save.isSome then { s.upd with saves := s.upd.saves ++ [confirm] }
    else { s.upd with
      save := some { slot := s.slotToWrite confirm, bytes := s.slotImage s.nextSaveSeq (s.inProbation && !confirm), confirm := confirm }
      saveFailed := false } := by
  unfold State.deviceSave
  split <;> rfl

end

/-! ### Replies leave the waiting list alone -/

theorem State.modTp_pend (s : State) (p : Path) (f : Transport → Transport) : (s.modTp p f).mmp.pend = s.mmp.pend := rfl

theorem State.pushReply_pend (s : State) (p : Path) (f : List Byte) : (s.pushReply p f).mmp.pend = s.mmp.pend := rfl

theorem forEach_pend {α : Type} (l : List α) (f : α → State → State) (h : ∀ a s, (f a s).mmp.pend = s.mmp.pend) (s : State) :
    (forEach l f s).mmp.pend = s.mmp.pend := by
  unfold forEach
  induction l generalizing s with
  | nil => rfl
  | cons a l ih => exact (ih _).trans (h a s)

theorem State.pushOrdered_pend (s : State) (p : Path) (isExec : Bool) (tag : Byte) (f : List Byte) :
    (s.pushOrdered p isExec tag f).mmp.pend = s.mmp.pend := by
  unfold State.pushOrdered
  split
  · rfl
  · exact forEach_pend _ _ (fun _ _ => State.pushReply_pend _ _ _) _

theorem State.reply_pend (s : State) (r : Req) (op : Opcode) (ix sub st : Nat) (out : List Byte) :
    (s.reply r op ix sub st out).mmp.pend = s.mmp.pend := by
  unfold State.reply State.replyAt
  simp only [State.modTp_pend, State.pushOrdered_pend]
  split <;> rfl

theorem State.finish_pend (s : State) (ix sub st : Nat) :
    (s.finish ix sub st).mmp.pend = s.mmp.pend.filter (fun q => !(q.ix == ix && q.sub == sub)) :=
  forEach_pend _ _ (fun _ _ => State.reply_pend _ _ _ _ _ _ _) _

theorem State.finish_waiting (s : State) (ix sub st : Nat) : (s.finish ix sub st).waiting ix sub = false := by
  unfold State.waiting
  rw [State.finish_pend, List.any_eq_false]
  exact fun q hq => by simpa only [Bool.not_eq_true', Bool.not_eq_true] using (List.mem_filter.mp hq).2

theorem State.finish_keeps_idle (s : State) (ix sub st jx js : Nat) (h : s.waiting jx js = false) : (s.finish ix sub st).waiting jx js = false := by
  unfold State.waiting at *
  rw [State.finish_pend, List.any_eq_false] at *
  exact fun q hq => h q (List.mem_filter.mp hq).1

/-! ### The end of a save: the slot written, or torn, and the command that waits answered -/

section
variable (s : State) (v : SaveRun)

theorem State.saveAnswer_frame (st : Nat) : Frame { mmp := true } (fun _ _ => False) s (s.saveAnswer v st) := by
  unfold State.saveAnswer
  simp

theorem State.saveAnswer_dict (st : Nat) (h : v.dict = true) : (s.saveAnswer v st).waiting Ob.DICT_SAVE 0 = false := by
  unfold State.saveAnswer
  rw [if_pos h]
  split
  · exact State.finish_keeps_idle _ _ _ _ _ _ (State.finish_waiting _ _ _ _)
  · exact State.finish_waiting _ _ _ _

theorem State.saveAnswer_confirm (st : Nat) (h : v.confirm = true) : (s.saveAnswer v st).waiting Ob.UPDATE_CONFIRM 0 = false := by
  unfold State.saveAnswer
  rw [if_pos h]
  exact State.finish_waiting _ _ _ _

theorem State.saveAnswer_flash (st : Nat) : (s.saveAnswer v st).flash = s.flash := (s.saveAnswer_frame v st).view State.flash fun _ _ => rfl

theorem State.saveAnswer_upd (st : Nat) : (s.saveAnswer v st).upd = s.upd := (s.saveAnswer_frame v st).view State.upd fun _ _ => rfl

theorem State.saveWritten_upd : (s.saveWritten v).upd = { s.upd with
    save := none, slotLast := some v.slot, savedAt := some s.time.now, torn := s.upd.torn.filter (fun i => i != v.slot) } := rfl

theorem State.saveWritten_time : (s.saveWritten v).reg Ob.SETTINGS_SAVE_TIME 0 = (leNat ((v.bytes.drop 20).take 12) : Int) :=
  State.reg_setReg_self _ _ _ _

theorem State.saveWritten_seq : (s.saveWritten v).reg Ob.SETTINGS_SAVE_SEQ 0 = (u32At v.bytes 4 : Int) :=
  (State.reg_setReg_ne _ _ _ _ _ _ (by decide)).trans (State.reg_setReg_self _ _ _ _)

theorem State.saveFails_upd (n : Nat) : (s.saveFails v n).upd = { s.upd with
    save := none, saveFailed := true, torn := v.slot :: s.upd.torn.filter (fun i => i != v.slot) } := State.raise_upd _ _ _ _ _ _

theorem State.saveFails_frame (n : Nat) : Frame { regs := true, lookout := true, cap := true, upd := true } (fun _ _ => True) s (s.saveFails v n) := by
  unfold State.saveFails
  refine Frame.trans (t := s.modUpd _) ?_ ((State.flashFail_frame _ _ _).widen (fun _ _ => rfl) fun _ _ _ => trivial)
  simp

theorem State.saveFails_events (n : Nat) : (s.saveFails v n).reg Ob.UPDATE_EVENTS 0 = (min (2 ^ 32 - 1) (s.nat Ob.UPDATE_EVENTS 0 + 1) : Nat) :=
  State.flashFail_events _ _ _

theorem State.saveWritten_frame : Frame { regs := true, flash := true, upd := true }
    (fun ix sub => sub = 0 ∧ ix ∈ [Ob.SETTINGS_SAVE_SEQ, Ob.SETTINGS_SAVE_TIME]) s (s.saveWritten v) := by
  unfold State.saveWritten
  simp

theorem State.saveWritten_get (x : Nat) : (s.saveWritten v).flash.get flashDefault x =
    if slotBase v.slot ≤ x ∧ x < slotBase v.slot + v.bytes.length then v.bytes.getD (x - slotBase v.slot) 0xFF
    else if slotBase v.slot ≤ x ∧ x < slotBase v.slot + 4096 * ceilDiv v.bytes.length 4096 then 0xFF else s.flash.get flashDefault x := by
  change ((State.flashErase _ _ _).flashWrite _ _).flash.get flashDefault x = _
  rw [State.flashWrite_get, State.flashErase_get]

end

/-- The state that UPDATE.CONFIRM leaves (R511). -/
def State.confirmed (s : State) : State :=
  (((s.journalFollow 6 s.upd.loaded 0).setReg Ob.UPDATE_IMAGE_STATE 0 0).modUpd
    (fun u => { u with probation := none, convert := false })).deviceSave true

theorem ownUpdateConfirm_probation {s : State} (h : s.inProbation = true) : ownUpdateConfirm s = .later s.confirmed := by
  unfold ownUpdateConfirm
  rw [if_neg (by simp [h])]
  rfl

section
variable (s : State)

theorem State.confirmed_frame : Frame { regs := true, flash := true, savedRegs := true, savedBlobs := true, upd := true }
    (fun ix sub => sub = 0 ∧ ix ∈ [Ob.UPDATE_IMAGE_STATE, Ob.UPDATE_JOURNAL_SEQ, Ob.UPDATE_JOURNAL_TIME]) s s.confirmed := by
  unfold State.confirmed
  refine Frame.trans ?_ ((State.deviceSave_frame _ _).widen (fun _ _ => rfl) fun _ _ => False.elim)
  rw [frame_modUpd rfl, frame_setReg rfl (by decide) (by simp)]
  refine (s.journalFollow_frame _ _ _).widen (fun _ _ => rfl) ?_
  rintro ix sub ⟨rfl, rfl | rfl⟩ <;> simp

theorem State.confirmed_imageState : s.confirmed.reg Ob.UPDATE_IMAGE_STATE 0 = 0 := by
  rw [State.confirmed, (State.deviceSave_frame _ _).regs _ _ (by decide) id, State.modUpd_reg, State.reg_setReg_self]

theorem State.confirmed_upd : s.confirmed.upd.probation = none ∧ s.confirmed.upd.convert = false ∧
    (s.upd.save = none → ∃ v, s.confirmed.upd.save = some v ∧ v.confirm = true ∧ v.dict = false ∧ s.confirmed.upd.saves = s.upd.saves) ∧
    (s.upd.save ≠ none → s.confirmed.upd.save = s.upd.save ∧ s.confirmed.upd.saves = s.upd.saves ++ [true]) := by
  have hupd : (((s.journalFollow 6 s.upd.loaded 0).setReg Ob.UPDATE_IMAGE_STATE 0 0).modUpd
      (fun u => { u with probation := none, convert := false })).upd = { s.upd with probation := none, convert := false } := by
    rw [State.modUpd_upd, State.setReg_upd, (s.journalFollow_frame _ _ _).view State.upd fun _ _ => rfl]
  rw [State.confirmed, State.deviceSave_upd, hupd]
  cases hsave : s.upd.save with
  | none => simp
  | some v => simp [hsave]

end

/-- What a save that ends without another one waiting comes to. -/
theorem settingsSaveDone_eq {s : State} {v : SaveRun} (f : Option Nat) (hsave : s.upd.save = some v) (hsaves : s.upd.saves = []) :
    exec (.settingsSaveDone f) s = .next (match f with
      | none => (s.saveWritten v).saveAnswer v St.OK
      | some n => (s.saveFails v n).saveAnswer v St.CONFIG_CONFLICT) := by
  show execSettingsSaveDone f s = _
  unfold execSettingsSaveDone
  cases f with
  | none => simp only [hsave, State.saveAnswer_upd, State.saveWritten_upd, hsaves]
  | some n => simp only [hsave, State.saveAnswer_upd, State.saveFails_upd, hsaves]

section
variable {s : State} {v : SaveRun} (hsave : s.upd.save = some v) (hsaves : s.upd.saves = [])
include hsave hsaves

/-- A save that verifies: the slot holds its bytes, and the other flash is kept (R514). -/
theorem settingsSaveDone_verified (hlen : v.bytes.length ≤ slotSize) : ∃ t : State, exec (.settingsSaveDone none) s = .next t ∧
    t = { s with regs := t.regs, mmp := t.mmp, flash := t.flash, upd := { s.upd with
            save := none, slotLast := some v.slot, savedAt := some s.time.now, torn := s.upd.torn.filter (fun i => i != v.slot) } } ∧
    (∀ i < v.bytes.length, t.flash.get flashDefault (slotBase v.slot + i) = v.bytes.getD i 0xFF) ∧
    (∀ a, (a < slotBase v.slot ∨ slotBase v.slot + slotSize ≤ a) → t.flash.get flashDefault a = s.flash.get flashDefault a) ∧
    t.reg Ob.SETTINGS_SAVE_SEQ 0 = (u32At v.bytes 4 : Int) ∧ t.reg Ob.SETTINGS_SAVE_TIME 0 = (leNat ((v.bytes.drop 20).take 12) : Int) ∧
    (v.dict = true → t.waiting Ob.DICT_SAVE 0 = false) ∧ (v.confirm = true → t.waiting Ob.UPDATE_CONFIRM 0 = false) ∧
    KeepsRegs (fun ix sub => sub = 0 ∧ ix ∈ [Ob.SETTINGS_SAVE_SEQ, Ob.SETTINGS_SAVE_TIME]) s t := by
  have hanswer := (s.saveWritten v).saveAnswer_frame v St.OK
  have hframe := Frame.trans (F := { regs := true, mmp := true, flash := true, upd := true }) ((s.saveWritten_frame v).widen (fun _ _ => rfl) fun _ _ h => h)
    (hanswer.widen (fun _ _ => rfl) fun _ _ h => h.elim)
  have hupd := ((s.saveWritten v).saveAnswer_upd v St.OK).trans (s.saveWritten_upd v)
  have hflash := (s.saveWritten v).saveAnswer_flash v St.OK
  have hget := s.saveWritten_get v
  have hseq := (hanswer.regs Ob.SETTINGS_SAVE_SEQ 0 (by decide) id).trans (s.saveWritten_seq v)
  have htime := (hanswer.regs Ob.SETTINGS_SAVE_TIME 0 (by decide) id).trans (s.saveWritten_time v)
  have hdict := (s.saveWritten v).saveAnswer_dict v St.OK
  have hconfirm := (s.saveWritten v).saveAnswer_confirm v St.OK
  rw [settingsSaveDone_eq none hsave hsaves]
  dsimp only
  generalize (s.saveWritten v).saveAnswer v St.OK = t at *
  rw [← hflash] at hget
  refine ⟨t, rfl, ?_, fun i hi => ?_, fun a ha => ?_, hseq, htime, hdict, hconfirm, hframe.regs⟩
  · rw [← hupd]
    exact hframe.fields
  · rw [hget, if_pos (by omega), Nat.add_sub_cancel_left]
  · have hsectors : 4096 * ceilDiv v.bytes.length 4096 ≤ slotSize := by
      unfold ceilDiv slotSize at *
      omega
    rw [hget, if_neg (by omega), if_neg (by omega)]

/-- A save that fails: its slot is torn, and a save stays pending (R340, R514). -/
theorem settingsSaveDone_failed (sector : Nat) : ∃ t : State, exec (.settingsSaveDone (some sector)) s = .next t ∧
    t = { s with regs := t.regs, mmp := t.mmp, lookout := t.lookout, cap := t.cap, upd := { s.upd with
            save := none, saveFailed := true, torn := v.slot :: s.upd.torn.filter (fun i => i != v.slot) } } ∧
    t.reg Ob.UPDATE_EVENTS 0 = (min (2 ^ 32 - 1) (s.nat Ob.UPDATE_EVENTS 0 + 1) : Nat) ∧ t.savePending = true ∧
    (v.dict = true → t.waiting Ob.DICT_SAVE 0 = false) ∧ (v.confirm = true → t.waiting Ob.UPDATE_CONFIRM 0 = false) := by
  have hanswer := (s.saveFails v sector).saveAnswer_frame v St.CONFIG_CONFLICT
  have hframe := Frame.trans (F := { regs := true, mmp := true, lookout := true, cap := true, upd := true })
    ((s.saveFails_frame v sector).widen (fun _ _ => rfl) fun _ _ h => h) (hanswer.widen (fun _ _ => rfl) fun _ _ h => h.elim)
  have hupd := ((s.saveFails v sector).saveAnswer_upd v St.CONFIG_CONFLICT).trans (s.saveFails_upd v sector)
  have hevents := (hanswer.regs Ob.UPDATE_EVENTS 0 (by decide) id).trans (s.saveFails_events v sector)
  have hdict := (s.saveFails v sector).saveAnswer_dict v St.CONFIG_CONFLICT
  have hconfirm := (s.saveFails v sector).saveAnswer_confirm v St.CONFIG_CONFLICT
  rw [settingsSaveDone_eq (some sector) hsave hsaves]
  dsimp only
  generalize (s.saveFails v sector).saveAnswer v St.CONFIG_CONFLICT = t at *
  refine ⟨t, rfl, ?_, hevents, by simp only [State.savePending, hupd, Bool.true_or], hdict, hconfirm⟩
  rw [← hupd]
  exact hframe.fields

end

section
variable (s : State)

/-- The state after a probation that ran out. -/
def State.probationExpired : State :=
  ((s.raise Src.UPD_PROBATION_EXPIRED 0 (s.nat Ob.ID_IMAGE_VERSION 0 % 65536) Ob.UPDATE_EVENTS 0).modUpd
    (fun u => { u with probation := none })).orderChip 4

theorem State.probationExpired_after : Frame { lookout := true, upd := true } (fun _ _ => False)
    (s.raise Src.UPD_PROBATION_EXPIRED 0 (s.nat Ob.ID_IMAGE_VERSION 0 % 65536) Ob.UPDATE_EVENTS 0) s.probationExpired := by
  unfold State.probationExpired
  simp

theorem State.probationExpired_frame : Frame { regs := true, lookout := true, cap := true, upd := true }
    (fun ix sub => (ix = Ob.UPDATE_EVENTS ∧ sub = 0) ∨ EventObj ix sub) s s.probationExpired := by
  unfold State.probationExpired
  simp

theorem State.probationExpired_fields : s.probationExpired = { s with
    regs := s.probationExpired.regs, lookout := s.probationExpired.lookout, cap := s.probationExpired.cap
    upd := { s.upd with probation := none } } := by
  have hupd : s.probationExpired.upd = { s.upd with probation := none } := 
    congrArg (fun u : Update => { u with probation := none }) (State.raise_upd ..)
  rw [← hupd]
  exact s.probationExpired_frame.fields

end

/-- A probation that runs out counts and orders the chip reset (R511). -/
theorem probationExpiry_out (s : State) : (s.inProbation = true → s.upd.probation ≠ none →
      ∃ t : State, exec .probationExpiry s = .next t ∧
        t = { s with regs := t.regs, lookout := t.lookout, cap := t.cap, upd := { s.upd with probation := none } } ∧
        t.lookout.chipDue = some 4 ∧ t.reg Ob.UPDATE_EVENTS 0 = (min (2 ^ 32 - 1) (s.nat Ob.UPDATE_EVENTS 0 + 1) : Nat) ∧
        KeepsRegs (fun ix sub => (ix = Ob.UPDATE_EVENTS ∧ sub = 0) ∨ EventObj ix sub) s t) ∧
    ((s.inProbation = false ∨ s.upd.probation = none) → exec .probationExpiry s = .next s) := by
  refine ⟨fun hin hruns => ?_, fun hno => if_neg (by rcases hno with h | h <;> simp [h])⟩
  refine ⟨s.probationExpired, if_pos ⟨hin, Option.isSome_iff_ne_none.mpr hruns⟩, s.probationExpired_fields, rfl, ?_,
    s.probationExpired_frame.regs⟩
  rw [s.probationExpired_after.regs _ _ (by decide) id]
  exact State.raise_counter s _ _ _ _ _ (by decide) (by simp [EventObj])

/-- The save after a conversion, once the dictionary is ready. -/
theorem conversionSave_out (s : State) : (s.inProbation = true → s.upd.convert = true → s.reg Ob.DICT_STATE 0 = 1 →
      ∃ t : State, exec .conversionSave s = .next t ∧
        t = { s with savedRegs := t.savedRegs, savedBlobs := t.savedBlobs, upd := t.upd } ∧ t.upd.convert = false ∧
        (s.upd.save = none → ∃ v, t.upd.save = some v ∧ v.confirm = false ∧ v.dict = false) ∧
        (s.upd.save ≠ none → t.upd.save = s.upd.save ∧ t.upd.saves = s.upd.saves ++ [false])) ∧
    ((s.inProbation = false ∨ s.upd.convert = false ∨ s.reg Ob.DICT_STATE 0 ≠ 1) → exec .conversionSave s = .next s) := by
  refine ⟨fun hin hconvert hready => ?_, fun hno => if_neg (by rcases hno with h | h | h <;> simp [h])⟩
  have hexec : execConversionSave s = .next _ := if_pos ⟨hin, hconvert, hready⟩
  have hframe := (s.modUpd (fun u => { u with convert := false })).deviceSave_frame false
  refine ⟨_, hexec, hframe.fields, ?_, fun hnone => ?_, fun hsome => ?_⟩
  · rw [State.deviceSave_upd]
    split <;> rfl
  · rw [State.deviceSave_upd, if_neg (by simp [State.modUpd, hnone])]
    exact ⟨_, rfl, rfl, rfl⟩
  · rw [State.deviceSave_upd, if_pos (by simpa [State.modUpd, Option.isSome_iff_ne_none] using hsome)]
    exact ⟨rfl, rfl⟩

/-- Settles O60: the session's end, the journal's record read back, and the save's slot byte by byte. -/
theorem activationsAndSavesEnd : Obligations.ActivationsAndSavesEnd := by
  unfold Obligations.ActivationsAndSavesEnd
  refine ⟨?activate, ?close, ?confirm, ?probation, ?conversion, ?saved, ?noSave⟩
  case activate =>
    intro s r arg c hc hacc
    obtain ⟨harg, hexec⟩ : arg < 256 ∧ exec c s =
        .next (s.serve r .exec Ob.UPDATE_ACTIVATE 0 (leBytes 1 arg) (ownUpdateActivate r.path arg)) := by
      simp only [List.mem_cons, Prod.mk.injEq, List.not_mem_nil, or_false] at hc
      rcases hc with ⟨rfl, rfl⟩ | ⟨rfl, rfl⟩
      · exact ⟨by decide, rfl⟩
      · exact ⟨by decide, rfl⟩
    have hhold := s.taken_otherHolds r .exec Ob.UPDATE_ACTIVATE 0 (leBytes 1 arg) r.path
    have hses := s.taken_reg r .exec Ob.UPDATE_ACTIVATE 0 (leBytes 1 arg) Ob.UPDATE_SESSION 0 (by decide) (by decide)
    have hresult := s.taken_reg r .exec Ob.UPDATE_ACTIVATE 0 (leBytes 1 arg) Ob.UPDATE_VERIFY_RESULT 0 (by decide) (by decide)
    rw [hexec]
    refine ⟨fun hother => ?_, fun hfree hunverified => ⟨fun hsig => ?_, fun hfour hfive => ?_⟩, fun hfree hverified => ?_⟩
    · exact next_serve_deny hacc (if_pos (by rwa [hhold]))
    · exact next_serve_deny hacc (by rw [ownUpdateActivate_unverified _ (by rwa [hhold]) (by rwa [hses]), hresult, if_pos hsig])
    · exact next_serve_deny hacc (by
        rw [ownUpdateActivate_unverified _ (by rwa [hhold]) (by rwa [hses]), hresult, if_neg (by simp [hfour, hfive])])
    · exact updateActivate_verified harg hacc hfree hverified
  case close =>
    intro s r ob c hc hacc
    have hhold := s.taken_otherHolds r .exec ob 0 [0] r.path
    have hses := s.taken_reg r .exec ob 0 [0] Ob.UPDATE_SESSION 0 (by decide) (by decide)
    obtain ⟨hsession, hsource, hupd, hflash, hevents, htime, hfuse⟩ := s.sessionEnd_taken r ob
    simp only [List.mem_cons, Prod.mk.injEq, List.not_mem_nil, or_false] at hc
    rcases hc with ⟨rfl, rfl⟩ | ⟨rfl, rfl⟩
    · refine ⟨fun _ hother => next_serve_deny hacc (if_pos (by rwa [hhold])), fun hclosed =>
        next_serve_deny hacc (ownUpdateClose_closed (by rwa [hses])), fun hopen hfree => ?_⟩
      · have hfree' : s.otherHolds r.path = false := hfree.resolve_left (by decide)
        have hown := ownUpdateClose_open (s := s.taken r .exec Ob.UPDATE_CLOSE 0 [0]) (by rwa [hhold]) (by rwa [hses])
        exact ⟨_, next_serve_done hacc hown, hsession, hsource, hupd, hflash, by rw [hevents, if_neg (by decide)], htime, hfuse⟩
    · refine ⟨fun h => absurd h (by decide), fun hclosed => next_serve_deny hacc (if_pos (by rwa [hses])), fun hopen _ => ?_⟩
      have hown : ownUpdateAbort (s.taken r .exec Ob.UPDATE_ABORT 0 [0]) = .done ((s.taken r .exec Ob.UPDATE_ABORT 0 [0]).sessionEnd.raise
          Src.UPD_SESSION_ABORT 0 ((s.taken r .exec Ob.UPDATE_ABORT 0 [0]).nat Ob.UPDATE_SOURCE 0) Ob.UPDATE_EVENTS 0) [] :=
        if_neg (by rwa [hses])
      refine ⟨_, next_serve_done hacc hown, ?_, ?_, ?_, fun h => ?_, ?_, ?_, ?_⟩
      · rw [State.raise_reg _ _ _ _ _ _ _ _ (by decide) (by decide) (by simp [EventObj]), if_neg (by decide), hsession]
      · rw [State.raise_reg _ _ _ _ _ _ _ _ (by decide) (by decide) (by simp [EventObj]), if_neg (by decide), hsource]
      · rw [State.raise_upd, hupd]
      · rw [State.raise_flash, hflash h]
      · rw [State.raise_counter _ _ _ _ _ _ (by decide) (by simp [EventObj]), if_pos rfl, State.nat, hevents]
        rfl
      · rw [State.raise_time, htime]
      · rw [State.raise_fuse, hfuse]
  case confirm =>
    intro s r hacc
    have hprobation : (s.taken r .exec Ob.UPDATE_CONFIRM 0 [0]).inProbation = s.inProbation := by
      simp [State.inProbation, State.taken_reg]
    refine ⟨fun hno => next_serve_deny hacc (ownUpdateConfirm_no_probation (by rwa [hprobation])), fun hyes => ?_⟩
    have hframe := (s.taken r .exec Ob.UPDATE_CONFIRM 0 [0]).confirmed_frame
    obtain ⟨hleft, hconvert, hstarts, hwaits⟩ := (s.taken r .exec Ob.UPDATE_CONFIRM 0 [0]).confirmed_upd
    rw [State.taken_upd] at hstarts hwaits
    exact ⟨_, next_serve_later hacc (ownUpdateConfirm_probation (by rwa [hprobation])), State.confirmed_imageState _, hframe.fields, hleft,
      hconvert, hstarts, hwaits, .of_taken (hframe.mono fun _ _ => .inr).regs fun _ => .inl rfl⟩
  case probation => exact fun s => probationExpiry_out s
  case conversion => exact fun s => conversionSave_out s
  case saved =>
    exact fun s v hsave hsaves hlen => ⟨settingsSaveDone_verified hsave hsaves hlen, settingsSaveDone_failed hsave hsaves⟩
  case noSave =>
    intro s f hnone
    show execSettingsSaveDone f s = _
    unfold execSettingsSaveDone
    rw [hnone]

end Sys2Proof.Machine

/-! SUPPORT. An item beyond the 26 in the waiting list of the analogue checks (R482, R485). -/

namespace Sys2Proof.Machine

/-- The check of item 0 runs, and an item 768 waits: its result stands where item 0's count of checks does. -/
def alienItemWaits : State := { State.reset with analog := { running := [0], waiting := [768] } }

/-- What a check of item 0 measured that finds no fault. -/
def cleanCheck : AnalogMeas := { errors := 0, snr := 0, dev := 0, worst := 0 }

/-- The next wave finds item 768 not free, and its SKIPPED replaces the count. -/
theorem alienItemWaits_counts :
    shown (fun t => t.reg Ob.SELFTEST_ANALOG_COUNT 1) (exec (.analogCheckDone 0 cleanCheck) alienItemWaits) = some 4 := by decide +kernel

/-- Refutes O58: it speaks of every state, and in one whose waiting list names an item beyond the 26 the result of that item can stand
where the count of the check that ends does. -/
theorem not_selfTestsAndTestPort : ¬ Obligations.SelfTestsAndTestPort := by
  unfold Obligations.SelfTestsAndTestPort
  rintro ⟨-, hdone, -⟩
  obtain ⟨t, hexec, -, -, -, -, hcount, -⟩ := (hdone alienItemWaits 0 cleanCheck).1 (by decide) (by decide) (by decide +kernel)
  have hshown := alienItemWaits_counts
  rw [hexec] at hshown
  have hfour : t.reg Ob.SELFTEST_ANALOG_COUNT 1 = 4 := Option.some.inj hshown
  exact absurd (hfour.symm.trans hcount) (by decide +kernel)

end Sys2Proof.Machine

/-! SUPPORT. How a pattern checker locks and loses lock (R322, R323). -/

namespace Sys2Proof.Machine

/-! ## What gives lock -/

theorem findSome?_singleton {α β : Type} (f : α → Option β) (a : α) : [a].findSome? f = f a := by
  simp only [List.findSome?_cons, List.findSome?_nil]
  cases f a <;> rfl

/-- A single interpretation gives lock exactly where SSPRQ matches at some offset, or a PRBS predicts 64 symbols in a row. -/
theorem lockOn_isSome_iff (pat : Nat) (pre : Bool) (seen : List Nat) : (lockOn pat [pre] seen).isSome = true ↔
    (let v := undone pre seen
     if pat = 2 then 1024 ≤ v.length ∧ ∃ o < 65535,
         ((v.take 1024).zipIdx.filter (fun x => x.1 != Config.ssprqLevel ((o + 1023 - x.2) % 65535))).length ≤ 8
       else 80 ≤ v.length ∧
         ∀ k < 64, (PatGen.next pat { reg := (newestBits ((v.drop (k + 1)).take 16)).take 31 }).1 = v.getD k 0) := by
  unfold lockOn
  rw [findSome?_singleton, Option.isSome_map]
  unfold lockGen
  dsimp only
  by_cases hpat : pat = 2
  · rw [if_pos hpat, if_pos hpat]
    split
    · simp; omega
    · rw [Option.isSome_map, List.find?_isSome]
      simp only [List.mem_range, decide_eq_true_eq, Nat.not_lt.mp ‹_›, true_and]
  · rw [if_neg hpat, if_neg hpat]
    split
    · simp; omega
    · simp only [Option.isSome_ite, List.all_eq_true, List.mem_range, beq_iff_eq, Nat.not_lt.mp ‹_›, true_and]

theorem PatChk.lost_iff (c : PatChk) : c.lost = true ↔ c.errs.length = 256 ∧ 128 ≤ c.errs.count true := by
  have hcount : c.errs.count true = (c.errs.filter id).length := by
    rw [List.count, List.countP_eq_length_filter]
    congr 2
    funext b
    cases b <;> rfl
  simp [PatChk.lost, hcount]

/-! ## A line checker -/

section
variable (s : State) (l : Fin 8)

/-- A line checker that locked. -/
def State.lineLocked (pre : Bool) (g : PatGen) : State :=
  let s1 := (s.modRx l (fun x => { x with chk := { precoded := pre, gen := g, prev := x.chk.seen.headD 0 } })).setReg
    Ob.TEST_LINE_CHK_STATE (l.val + 1) 2
  if s.rx[l].precode = 0 then s1.setReg Ob.LINE_RX_PRECODE_FOUND (l.val + 1) (if pre then 2 else 1) else s1

theorem State.lineLocked_frame (pre : Bool) (g : PatGen) : Frame { regs := true, rx := true }
    (fun ix sub => ix ∈ [Ob.TEST_LINE_CHK_STATE, Ob.LINE_RX_PRECODE_FOUND] ∧ sub = l.val + 1) s (s.lineLocked l pre g) := by
  have hl : l.val + 1 < 256 := by omega
  unfold State.lineLocked
  simp [hl]

theorem State.lineLocked_rx (pre : Bool) (g : PatGen) : (s.lineLocked l pre g).rx =
    s.rx.set l { s.rx[l] with chk := { precoded := pre, gen := g, prev := s.rx[l].chk.seen.headD 0 } } := by
  unfold State.lineLocked
  dsimp only
  split <;> rfl

theorem State.lineLocked_state (pre : Bool) (g : PatGen) : (s.lineLocked l pre g).reg Ob.TEST_LINE_CHK_STATE (l.val + 1) = 2 := by
  unfold State.lineLocked
  dsimp only
  split
  · rw [State.reg_setReg_ne _ _ _ _ _ _ (objKey_ne_of_ix (by omega) (by omega) (by decide)), State.reg_setReg_self]
  · rw [State.reg_setReg_self]

theorem State.lineLocked_precode (pre : Bool) (g : PatGen) (h : s.rx[l].precode = 0) :
    (s.lineLocked l pre g).reg Ob.LINE_RX_PRECODE_FOUND (l.val + 1) = (if pre = true then 2 else 1) := by
  unfold State.lineLocked
  dsimp only
  rw [if_pos h, State.reg_setReg_self]

/-- A line checker that lost lock. -/
def State.lineLost : State :=
  (((s.modRx l (fun x => { x with chk := {} })).setReg Ob.TEST_LINE_CHK_STATE (l.val + 1) 1).bump Ob.TEST_LINE_LOCK_LOSS (l.val + 1) 1).raise
    Src.TEST_PRBS_LOCK_LOSS l.val l.val Ob.TEST_EVENTS (l.val + 1)

theorem State.lineLost_frame : Frame { regs := true, rx := true, lookout := true, cap := true }
    (fun ix sub => (ix ∈ [Ob.TEST_LINE_CHK_STATE, Ob.TEST_LINE_LOCK_LOSS, Ob.TEST_EVENTS] ∧ sub = l.val + 1) ∨ EventObj ix sub) s
    (s.lineLost l) := by
  have hl : l.val + 1 < 256 := by omega
  unfold State.lineLost
  simp [hl]

theorem State.lineLost_rx : (s.lineLost l).rx = s.rx.set l { s.rx[l] with chk := {} } := by
  unfold State.lineLost
  rw [State.raise_eq]
  rfl

theorem State.lineLost_events : (s.lineLost l).reg Ob.TEST_EVENTS (l.val + 1) = (min (2 ^ 32 - 1) (s.nat Ob.TEST_EVENTS (l.val + 1) + 1) : Nat) := by
  unfold State.lineLost
  rw [State.raise_counter _ _ _ _ _ _ (by omega) (by simp [EventObj]), State.nat, State.bump, State.bumpTo,
    State.reg_setReg_ne _ _ _ _ _ _ (objKey_ne_of_ix (by omega) (by omega) (by decide)),
    State.reg_setReg_ne _ _ _ _ _ _ (objKey_ne_of_ix (by omega) (by omega) (by decide))]
  rfl

theorem State.lineLost_count : (s.lineLost l).reg Ob.TEST_LINE_LOCK_LOSS (l.val + 1) =
    (min (2 ^ 32 - 1) (s.nat Ob.TEST_LINE_LOCK_LOSS (l.val + 1) + 1) : Nat) := by
  unfold State.lineLost
  rw [State.raise_reg _ _ _ _ _ _ _ _ (by omega) (by omega) (by simp [EventObj]), if_neg (by simp), State.bump_reg_self, State.nat,
    State.reg_setReg_ne _ _ _ _ _ _ (objKey_ne_of_ix (by omega) (by omega) (by decide))]
  rfl

theorem State.lineLost_state : (s.lineLost l).reg Ob.TEST_LINE_CHK_STATE (l.val + 1) = 1 := by
  unfold State.lineLost
  rw [State.raise_reg _ _ _ _ _ _ _ _ (by omega) (by omega) (by simp [EventObj]), if_neg (by simp), State.bump, State.bumpTo,
    State.reg_setReg_ne _ _ _ _ _ _ (objKey_ne_of_ix (by omega) (by omega) (by decide)), State.reg_setReg_self]

end

/-! ## A host checker -/

section
variable (s : State) (h : Fin 16)

/-- A host checker that locked. -/
def State.hostLocked (g : PatGen) : State :=
  (s.modHostLane h (fun x => { x with chk := { gen := g } })).setReg Ob.TEST_HOST_CHK_STATE (h.val + 1) 2

theorem State.hostLocked_frame (g : PatGen) : Frame { regs := true, hostLane := true }
    (fun ix sub => ix = Ob.TEST_HOST_CHK_STATE ∧ sub = h.val + 1) s (s.hostLocked h g) := by
  have hh : h.val + 1 < 256 := by omega
  unfold State.hostLocked
  simp [hh]

/-- A host checker that lost lock. -/
def State.hostLockLost : State :=
  (((s.modHostLane h (fun x => { x with chk := {} })).setReg Ob.TEST_HOST_CHK_STATE (h.val + 1) 1).bump Ob.TEST_HOST_LOCK_LOSS (h.val + 1)
    1).raise Src.TEST_PRBS_LOCK_LOSS (16 + h.val) (h.val + 256) Ob.TEST_EVENTS (h.val / 2 + 1)

theorem State.hostLockLost_frame : Frame { regs := true, hostLane := true, lookout := true, cap := true } (fun _ _ => True) s
    (s.hostLockLost h) := by
  have hh : h.val + 1 < 256 := by omega
  have hl : h.val / 2 + 1 < 256 := by omega
  unfold State.hostLockLost
  simp [hh, hl]

theorem State.hostLockLost_hostLane : (s.hostLockLost h).hostLane = s.hostLane.set h { s.hostLane[h] with chk := {} } := by
  unfold State.hostLockLost
  rw [State.raise_eq]
  rfl

theorem State.hostLockLost_events : (s.hostLockLost h).reg Ob.TEST_EVENTS (h.val / 2 + 1) =
    (min (2 ^ 32 - 1) (s.nat Ob.TEST_EVENTS (h.val / 2 + 1) + 1) : Nat) := by
  unfold State.hostLockLost
  rw [State.raise_counter _ _ _ _ _ _ (by omega) (by simp [EventObj]), State.nat, State.bump, State.bumpTo,
    State.reg_setReg_ne _ _ _ _ _ _ (objKey_ne_of_ix (by omega) (by omega) (by decide)),
    State.reg_setReg_ne _ _ _ _ _ _ (objKey_ne_of_ix (by omega) (by omega) (by decide))]
  rfl

theorem State.hostLockLost_count : (s.hostLockLost h).reg Ob.TEST_HOST_LOCK_LOSS (h.val + 1) =
    (min (2 ^ 32 - 1) (s.nat Ob.TEST_HOST_LOCK_LOSS (h.val + 1) + 1) : Nat) := by
  unfold State.hostLockLost
  rw [State.raise_reg _ _ _ _ _ _ _ _ (by omega) (by omega) (by simp [EventObj]), if_neg (by simp), State.bump_reg_self, State.nat,
    State.reg_setReg_ne _ _ _ _ _ _ (objKey_ne_of_ix (by omega) (by omega) (by decide))]
  rfl

theorem State.hostLockLost_state : (s.hostLockLost h).reg Ob.TEST_HOST_CHK_STATE (h.val + 1) = 1 := by
  unfold State.hostLockLost
  rw [State.raise_reg _ _ _ _ _ _ _ _ (by omega) (by omega) (by simp [EventObj]), if_neg (by simp), State.bump, State.bumpTo,
    State.reg_setReg_ne _ _ _ _ _ _ (objKey_ne_of_ix (by omega) (by omega) (by decide)), State.reg_setReg_self]

end

/-! ## The commands -/

theorem checkerLock_line {s : State} {l : Fin 8} {codes : List Int} {pre : Bool} {g : PatGen}
    (hsearch : (s.rxSamples l codes).reg Ob.TEST_LINE_CHK_STATE (l.val + 1) = 1)
    (hlock : lockOn ((s.rxSamples l codes).patternOf (.line l)) ((s.rxSamples l codes).interpretations l) (s.rxSamples l codes).rx[l].chk.seen =
      some (pre, g)) :
    exec (.checkerLock (.line l) codes) s = .next ((s.rxSamples l codes).lineLocked l pre g) := by
  change execCheckerLock (.line l) codes s = _
  unfold execCheckerLock
  dsimp only
  rw [if_neg (by simp [hsearch]), hlock]
  rfl

theorem checkerLock_host {s : State} {h : Fin 16} {codes : List Int} {pre : Bool} {g : PatGen}
    (hsearch : (s.hostDecide h (codes.map Int.toNat)).reg Ob.TEST_HOST_CHK_STATE (h.val + 1) = 1)
    (hlock : lockOn ((s.hostDecide h (codes.map Int.toNat)).patternOf (.host h)) [false]
      (s.hostDecide h (codes.map Int.toNat)).hostLane[h].chk.seen = some (pre, g)) :
    exec (.checkerLock (.host h) codes) s = .next ((s.hostDecide h (codes.map Int.toNat)).hostLocked h g) := by
  change execCheckerLock (.host h) codes s = _
  unfold execCheckerLock
  dsimp only
  rw [if_neg (by simp [hsearch]), hlock]
  rfl

/-- Settles O41: after the lane's symbols are taken in, each checker follows R323 by cases on its state. -/
theorem checkersLockAndLose : Obligations.CheckersLockAndLose := by
  unfold Obligations.CheckersLockAndLose
  refine ⟨fun s l codes => ⟨fun pre g hsearch hlock => ?_, fun hno => ?_⟩, fun s h codes => ⟨fun pre g hsearch hlock => ?_, fun hno => ?_⟩,
    lockOn_isSome_iff, fun s l codes => ⟨fun hlocked hlen herrs => ?_, fun hno => ?_⟩,
    fun s h codes => ⟨fun hlocked hlen herrs => ?_, fun hno => ?_⟩⟩
  · refine ⟨_, checkerLock_line hsearch hlock, ?_⟩
    generalize s.rxSamples l codes = s1
    have hframe := s1.lineLocked_frame l pre g
    refine ⟨hframe.fields, s1.lineLocked_state l pre g, ?_, fun k hk => ?_, s1.lineLocked_precode l pre g, hframe.regs⟩
    · simp [State.lineLocked_rx]
    · rw [State.lineLocked_rx, getElem_set_other _ _ _ hk]
  · change execCheckerLock (.line l) codes s = _
    unfold execCheckerLock
    dsimp only
    split
    · rfl
    · rw [hno.resolve_left (by assumption)]
  · refine ⟨_, checkerLock_host hsearch hlock, ?_⟩
    generalize s.hostDecide h (codes.map Int.toNat) = s1
    have hframe := s1.hostLocked_frame h g
    refine ⟨hframe.fields, State.reg_setReg_self _ _ _ _, ?_, fun k hk => ?_, hframe.regs⟩
    · simp [State.hostLocked, State.setReg, State.modHostLane]
    · exact getElem_set_other _ _ _ hk
  · change execCheckerLock (.host h) codes s = _
    unfold execCheckerLock
    dsimp only
    split
    · rfl
    · rw [hno.resolve_left (by assumption)]
  · have hexec : exec (.checkerLockLoss (.line l) codes) s = .next ((s.rxSamples l codes).lineLost l) :=
      if_pos ⟨hlocked, (PatChk.lost_iff _).mpr ⟨hlen, herrs⟩⟩
    refine ⟨_, hexec, ?_⟩
    generalize s.rxSamples l codes = s1
    have hframe := s1.lineLost_frame l
    refine ⟨hframe.fields, ?_, fun k hk => ?_, s1.lineLost_state l, s1.lineLost_count l, s1.lineLost_events l, hframe.regs⟩
    · simp [State.lineLost_rx]
    · rw [State.lineLost_rx, getElem_set_other _ _ _ hk]
  · exact if_neg fun h => by
      have hlost := (PatChk.lost_iff _).mp h.2
      rcases hno with hstate | hlen | herrs
      · exact hstate h.1
      · exact hlen hlost.1
      · exact absurd hlost.2 (by omega)
  · have hexec : exec (.checkerLockLoss (.host h) codes) s = .next ((s.hostDecide h (codes.map Int.toNat)).hostLockLost h) :=
      if_pos ⟨hlocked, (PatChk.lost_iff _).mpr ⟨hlen, herrs⟩⟩
    refine ⟨_, hexec, ?_⟩
    generalize s.hostDecide h (codes.map Int.toNat) = s1
    refine ⟨(s1.hostLockLost_frame h).fields, ?_, fun k hk => ?_, s1.hostLockLost_state h, s1.hostLockLost_count h, s1.hostLockLost_events h⟩
    · simp [State.hostLockLost_hostLane]
    · rw [State.hostLockLost_hostLane, getElem_set_other _ _ _ hk]
  · exact if_neg fun h => by
      have hlost := (PatChk.lost_iff _).mp h.2
      rcases hno with hstate | hlen | herrs
      · exact hstate h.1
      · exact hlen hlost.1
      · exact absurd hlost.2 (by omega)

end Sys2Proof.Machine

/-! SUPPORT. The working waveform of a transmit lane, and its forced mute (R251, R262). -/

namespace Sys2Proof.Machine

/-! ## A ramp step -/

theorem waveOf_length (b : List Byte) : (waveOf b).length = 71 := by simp [waveOf]

section
variable (s : State) (l : Fin 8)

theorem State.waveTarget_length : (s.waveTarget l).length = 71 := waveOf_length _

/-- The working table one step nearer to its target. -/
def State.waveStep : List Int := List.zipWith stepTo s.tx[l].wave (s.waveTarget l)

theorem State.waveStep_length : (s.waveStep l).length = min s.tx[l].wave.length 71 := by
  rw [State.waveStep, List.length_zipWith, State.waveTarget_length]

theorem State.waveStep_getD (i : Nat) (hi : i < (s.waveStep l).length) :
    (s.waveStep l).getD i 0 = stepTo (s.tx[l].wave.getD i 0) ((s.waveTarget l).getD i 0) := by
  have hboth : i < s.tx[l].wave.length ∧ i < (s.waveTarget l).length := by
    rw [State.waveStep, List.length_zipWith] at hi
    omega
  rw [List.getD_eq_getElem _ _ hi, List.getD_eq_getElem _ _ hboth.1, List.getD_eq_getElem _ _ hboth.2]
  exact List.getElem_zipWith ..

/-- The lane after a step of its ramp. -/
def State.waveStepped : State :=
  (s.modTx l (fun x => { x with wave := s.waveStep l })).setReg Ob.TX_WAVE_RAMPING (l.val + 1) (boolInt (s.waveStep l != s.waveTarget l))

theorem State.waveStepped_frame :
    Frame { regs := true, tx := true } (fun ix sub => ix = Ob.TX_WAVE_RAMPING ∧ sub = l.val + 1) s (s.waveStepped l) := by
  have hl : l.val + 1 < 256 := by omega
  unfold State.waveStepped
  simp [hl]

theorem State.waveStepped_tx : (s.waveStepped l).tx = s.tx.set l { s.tx[l] with wave := s.waveStep l } := rfl

theorem State.waveStepped_lane : (s.waveStepped l).tx[l] = { s.tx[l] with wave := s.waveStep l } := by
  simp [State.waveStepped_tx]

end

/-! ## The forced mute -/

section
variable (s : State) (l : Fin 8)

theorem State.taken_sendsTic (r : Req) (op : Opcode) (ix sub : Nat) (pl : List Byte) : (s.taken r op ix sub pl).sendsTic l = s.sendsTic l := by
  unfold State.sendsTic State.native State.testKind State.rateActive
  rw [State.taken_portOf]
  split
  · rw [State.taken_pstate, State.taken_nat _ _ _ _ _ _ _ _ (by omega) (by decide), State.taken_test]
  · rfl

theorem State.waveRetarget_frame :
    Frame { regs := true, tx := true } (fun ix sub => ix = Ob.TX_WAVE_RAMPING ∧ sub = l.val + 1) s (s.waveRetarget l) := by
  have hl : l.val + 1 < 256 := by omega
  unfold State.waveRetarget
  simp [hl]

theorem State.waveRetarget_others (k : Fin 8) (hk : k ≠ l) : (s.waveRetarget l).tx[k] = s.tx[k] := by
  unfold State.waveRetarget
  dsimp only
  split
  · exact getElem_set_other _ _ _ hk
  · rfl

theorem State.waveRetarget_lane : (s.waveRetarget l).tx[l] = { s.tx[l] with wave := (s.waveRetarget l).tx[l].wave } := by
  unfold State.waveRetarget
  dsimp only
  split
  · simp [State.setReg, State.modTx]
  · rfl

/-- The mute as it stands at once on a lane that sends no TIC codewords. -/
def State.forceMuted (v : Int) : State :=
  ((s.setReg Ob.TX_MUTE_FORCE (l.val + 1) v).modTx l (fun x => { x with forceMute := v == 1 })).waveRetarget l

theorem ownMuteForce_eq (v : Int) : ownMuteForce (l.val + 1) v s =
    .done (if s.sendsTic l then s.setReg Ob.TX_MUTE_FORCE (l.val + 1) v else s.forceMuted l v) [] := by
  have hl : 1 ≤ l.val + 1 ∧ l.val + 1 ≤ 8 := by omega
  unfold ownMuteForce
  simp only [dif_pos hl, Nat.add_sub_cancel, Fin.eta]
  split
  · rfl
  · rfl

theorem State.forceMuted_frame (v : Int) : Frame { regs := true, tx := true }
    (fun ix sub => (ix = Ob.TX_MUTE_FORCE ∧ sub = l.val + 1) ∨ (ix = Ob.TX_WAVE_RAMPING ∧ sub = l.val + 1)) s (s.forceMuted l v) := by
  have hl : l.val + 1 < 256 := by omega
  unfold State.forceMuted
  rw [((State.waveRetarget_frame _ l).mono fun _ _ => .inr).iff]
  simp [hl]

theorem State.forceMuted_value (v : Int) : (s.forceMuted l v).reg Ob.TX_MUTE_FORCE (l.val + 1) = v := by
  unfold State.forceMuted
  rw [(State.waveRetarget_frame _ l).regs _ _ (by omega) (by simp)]
  exact State.reg_setReg_self _ _ _ _

theorem State.forceMuted_lane (v : Int) :
    (s.forceMuted l v).tx[l] = { s.tx[l] with forceMute := v == 1, wave := (s.forceMuted l v).tx[l].wave } := by
  unfold State.forceMuted
  rw [State.waveRetarget_lane]
  simp [State.setReg, State.modTx]

theorem State.forceMuted_others (v : Int) (k : Fin 8) (hk : k ≠ l) : (s.forceMuted l v).tx[k] = s.tx[k] := by
  unfold State.forceMuted
  rw [State.waveRetarget_others _ _ _ hk]
  exact getElem_set_other _ _ _ hk

end

/-- Settles O31: the step of the table entry by entry, and the mute by whether the lane sends TIC codewords. -/
theorem waveformRampsAndForcedMute : Obligations.WaveformRampsAndForcedMute := by
  unfold Obligations.WaveformRampsAndForcedMute
  refine ⟨fun s l hramping => ?_, fun s l hstill => if_neg (by simp [State.flag, hstill]), fun s r l v hv hacc => ?_⟩
  · have hexec : exec (.waveRampStep l) s = .next (s.waveStepped l) := if_pos (by simp [State.flag, hramping])
    have hwave : (s.waveStepped l).tx[l].wave = s.waveStep l := by rw [State.waveStepped_lane]
    refine ⟨_, hexec, (s.waveStepped_frame l).fields, ?_, ?_, fun i hi => ?_, ?_, fun k hk => getElem_set_other _ _ _ hk,
      (s.waveStepped_frame l).regs⟩
    · rw [hwave, State.waveStepped_lane]
    · rw [hwave, State.waveStep_length]
    · rw [hwave] at hi ⊢
      exact s.waveStep_getD l i hi
    · rw [hwave]
      refine (State.reg_setReg_self _ _ _ _).trans ?_
      by_cases heq : s.waveStep l = s.waveTarget l <;> simp [heq, boolInt]
  · have hspelt : leNat (leBytes 1 v) = v := leNat_leBytes 1 v (by omega)
    have hown := ownMuteForce_eq (s.taken r .write Ob.TX_MUTE_FORCE (l.val + 1) (leBytes 1 v)) l v
    rw [State.taken_sendsTic] at hown
    have hexec := next_serve_done (own := ownMuteForce (l.val + 1) (leNat (leBytes 1 v) : Nat)) hacc (by rw [hspelt]; exact hown)
    have htx := s.taken_tx r .write Ob.TX_MUTE_FORCE (l.val + 1) (leBytes 1 v)
    have hl : l.val + 1 < 256 := by omega
    by_cases hsends : s.sendsTic l = true
    · rw [if_pos hsends] at hexec
      refine ⟨_, hexec, rfl, State.reg_setReg_self _ _ _ _, fun _ => htx, fun h => absurd (hsends.symm.trans h) (by decide), fun k _ => ?_, ?_⟩
      · exact congrArg (·[k]) htx
      · exact Frame.regs (F := .all) (by simp [hl])
    · rw [if_neg hsends] at hexec
      have hframe := (s.taken r .write Ob.TX_MUTE_FORCE (l.val + 1) (leBytes 1 v)).forceMuted_frame l v
      refine ⟨_, hexec, hframe.fields, State.forceMuted_value _ _ _, fun h => absurd h hsends, fun _ => ?_, fun k hk => ?_, ?_⟩
      · rw [State.forceMuted_lane, htx]
        congr 1
        by_cases h : v = 1 <;> simp [h]
      · rw [State.forceMuted_others _ _ _ _ hk, htx]
      · refine .of_taken (hframe.mono fun ix sub h => ?_).regs fun _ => .inl rfl
        rcases h with h | ⟨hix, hsub⟩
        · exact .inr (.inl h)
        · exact .inr (.inr ⟨hix, hsub, by simpa using hsends⟩)

end Sys2Proof.Machine

/-! SUPPORT. The search of a port: the rate detector, the candidates, false locks and the status (R301, R303, R304). -/

namespace Sys2Proof.Machine

/-! ## The rate detector -/

section
variable (s : State) (l p : Fin 8) (c : Fin 4)

/-- The class found by a lane, kept and shown. -/
def State.classFound : State := (s.modSrch l (fun x => { x with cls := c.val })).setReg Ob.PORT_FORMAT_FOUND (p.val + 1) (c.val : Int)

theorem State.classFound_frame :
    Frame { regs := true, srch := true } (fun ix sub => ix = Ob.PORT_FORMAT_FOUND ∧ sub = p.val + 1) s (s.classFound l p c) := by
  have hp : p.val + 1 < 256 := by omega
  unfold State.classFound
  simp [hp]

theorem State.classFound_reg (ix : Nat) (h : ix ≠ Ob.PORT_FORMAT_FOUND) : (s.classFound l p c).reg ix (p.val + 1) = s.reg ix (p.val + 1) :=
  (s.classFound_frame l p c).regs _ _ (by omega) fun hix => h hix.1

theorem State.classFound_rateActive : (s.classFound l p c).rateActive p = s.rateActive p :=
  congrArg Int.toNat (s.classFound_reg l p c _ (by decide))

theorem State.classFound_pstate : (s.classFound l p c).pstate p = s.pstate p := s.classFound_reg l p c _ (by decide)

theorem State.classFound_follows : (s.classFound l p c).follows p = s.follows p := by
  simp only [State.follows, State.flag, State.native, State.classFound_rateActive, s.classFound_reg l p c _ (by decide : Ob.PORT_RATE_SET ≠ _),
    s.classFound_reg l p c _ (by decide : Ob.PORT_RATE_FOLLOW ≠ _)]
  rfl

/-- A class that matches ends a format mismatch. -/
def State.mismatchEnded : State := (s.setReg Ob.PORT_SEARCH_STATUS (p.val + 1) 1).modPort p (fun x => { x with epFormat := false })

/-- The objects that the rate detector writes beside PORT.FORMAT_FOUND. -/
def StatusObj (p : Fin 8) (ix sub : Nat) : Prop := (ix ∈ [Ob.PORT_SEARCH_STATUS, Ob.PORT_EVENTS] ∧ sub = p.val + 1) ∨ EventObj ix sub

@[simp] theorem statusObj_iff {p : Fin 8} {ix sub : Nat} :
    StatusObj p ix sub ↔ (ix ∈ [Ob.PORT_SEARCH_STATUS, Ob.PORT_EVENTS] ∧ sub = p.val + 1) ∨ EventObj ix sub := Iff.rfl

@[simp] theorem allowsEvents_statusObj : AllowsEvents (StatusObj p) := fun _ _ => .inr

theorem State.mismatchEnded_frame : Frame { regs := true, port := true, lookout := true, cap := true } (StatusObj p) s (s.mismatchEnded p) := by
  have hp : p.val + 1 < 256 := by omega
  unfold State.mismatchEnded
  simp [hp]

theorem State.formatMismatch_frame :
    Frame { regs := true, port := true, lookout := true, cap := true } (StatusObj p) s (s.formatMismatch p) := by
  have hp : p.val + 1 < 256 := by omega
  unfold State.formatMismatch
  simp [hp]

theorem State.formatMismatch_status (h : s.pstate p = PS.SEARCH) : (s.formatMismatch p).reg Ob.PORT_SEARCH_STATUS (p.val + 1) = 4 := by
  unfold State.formatMismatch
  dsimp only
  rw [if_neg (by simp [h])]
  split
  · exact State.reg_setReg_self _ _ _ _
  · rw [State.raise_reg _ _ _ _ _ _ _ _ (by omega) (by omega) (by simp [EventObj]), if_neg (by simp)]
    exact State.reg_setReg_self _ _ _ _

theorem State.formatMismatch_episode (h : s.pstate p = PS.SEARCH) : (s.formatMismatch p).port[p].epFormat = true := by
  unfold State.formatMismatch
  dsimp only
  rw [if_neg (by simp [h])]
  split
  · exact ‹_›
  · rw [State.raise_eq]
    simp [State.modPort]

/-- What the rate detector does outside a change of format that the port follows. -/
theorem rateDetect_eq {s : State} {l p : Fin 8} {c : Fin 4} (howner : s.portOf l = some p) (hsearch : s.pstate p = PS.SEARCH) (hc : c.val ≠ 0)
    (hstay : c.val = s.rateActive p ∨ s.follows p = false ∨ c.val ≠ Rate.S1) : exec (.rateDetect l c) s =
      .next (if c.val = s.rateActive p then
        if s.reg Ob.PORT_SEARCH_STATUS (p.val + 1) = 4 then (s.classFound l p c).mismatchEnded p else s.classFound l p c
      else (s.classFound l p c).formatMismatch p) := by
  change execRateDetect l c s = _
  unfold execRateDetect
  simp only [howner]
  rw [if_neg (by simp [hsearch, hc])]
  change (if c.val = (s.classFound l p c).rateActive p then (.next (if (s.classFound l p c).reg _ _ = 4 then (s.classFound l p c).mismatchEnded p
    else s.classFound l p c) : Out) else if c.val = Rate.S1 ∧ (s.classFound l p c).follows p then _ else _) = _
  rw [State.classFound_rateActive, State.classFound_reg _ _ _ _ _ (by decide), State.classFound_follows]
  split
  · rfl
  · refine (if_neg ?_).trans rfl
    rintro ⟨hs1, hfollows⟩
    rcases hstay with h | h | h
    · contradiction
    · exact absurd (hfollows.symm.trans h) (by decide)
    · exact h hs1

end

/-! ## The candidates -/

theorem State.candidate_iff (s : State) (l : Fin 8) : s.candidate l = some true ↔
    8 ≤ (s.rx[l].dsp.staged - s.srch[l].cand % 2048) / 2048 ∧
      ∀ k < 8, unsatisfied (hardBits (s.rx[l].dsp.softFrom (s.precoded l) (s.srch[l].cand % 2048 +
        2048 * ((s.rx[l].dsp.staged - s.srch[l].cand % 2048) / 2048 - 8 + k)) 2048)).toArray ≤ 64 := by
  unfold State.candidate
  dsimp only
  split
  · simp only [reduceCtorEq, false_iff]
    omega
  · simp only [Option.some.injEq, List.all_eq_true, List.mem_range, decide_eq_true_eq, Nat.not_lt.mp ‹_›, true_and]

theorem State.modSrch_srch (s : State) (l : Fin 8) (f : SearchLane → SearchLane) : (s.modSrch l f).srch[l] = f s.srch[l] := by
  simp [State.modSrch]

theorem State.rxSamples_srch (s : State) (l : Fin 8) (codes : List Int) : (s.rxSamples l codes).srch = s.srch :=
  (s.rxSamples_frame l codes).view State.srch fun _ _ => rfl

theorem State.rxSamples_modSrch_others (s : State) (l : Fin 8) (codes : List Int) (f : SearchLane → SearchLane) (k : Fin 8) (hk : k ≠ l) :
    ((s.rxSamples l codes).modSrch l f).srch[k] = s.srch[k] := by
  rw [← State.rxSamples_srch s l codes]
  exact getElem_set_other _ _ _ hk

/-- What CODEWORD_LOCK does once the samples have passed. -/
theorem codewordLock_eq (s : State) (l : Fin 8) (codes : List Int) : exec (.codewordLock l codes) s =
    .next (if ((s.rxSamples l codes).sweeps l).isSome ∧ (s.rxSamples l codes).candidate l = some true then
      (s.rxSamples l codes).modSrch l (fun x => { x with lock := true }) else s.rxSamples l codes) := by
  change execCodewordLock l codes s = _
  unfold execCodewordLock
  dsimp only
  split <;> simp [*]

/-- What CODEWORD_CANDIDATE_FAIL does once the samples have passed. -/
theorem codewordCandidateFail_eq (s : State) (l : Fin 8) (codes : List Int) : exec (.codewordCandidateFail l codes) s =
    .next (if ((s.rxSamples l codes).sweeps l).isSome ∧ (s.rxSamples l codes).candidate l = some false ∧
        (s.rxSamples l codes).srch[l].lock = false then
      (s.rxSamples l codes).modSrch l (fun x => { x with cand := (s.rxSamples l codes).nextCandidate l }) else s.rxSamples l codes) := by
  change execCodewordCandidateFail l codes s = _
  unfold execCodewordCandidateFail
  dsimp only
  split <;> simp [*, and_comm]

/-! ## The status -/

section
variable (s : State) (p : Fin 8) (status : Int) (src detail : Nat) (f : PortCtl → PortCtl)

/-- A status that begins an episode. -/
def State.statusBegun : State :=
  ((s.setReg Ob.PORT_SEARCH_STATUS (p.val + 1) status).modPort p f).raise src p.val detail Ob.PORT_EVENTS (p.val + 1)

theorem State.statusBegun_frame :
    Frame { regs := true, port := true, lookout := true, cap := true } (StatusObj p) s (s.statusBegun p status src detail f) := by
  have hp : p.val + 1 < 256 := by omega
  unfold State.statusBegun
  simp [hp]

theorem State.statusBegun_status : (s.statusBegun p status src detail f).reg Ob.PORT_SEARCH_STATUS (p.val + 1) = status := by
  unfold State.statusBegun
  rw [State.raise_reg _ _ _ _ _ _ _ _ (by omega) (by omega) (by simp [EventObj]), if_neg (by simp)]
  exact State.reg_setReg_self _ _ _ _

theorem State.statusBegun_events : (s.statusBegun p status src detail f).reg Ob.PORT_EVENTS (p.val + 1) =
    ((min (2 ^ 32 - 1) (s.nat Ob.PORT_EVENTS (p.val + 1) + 1) : Nat) : Int) := by
  unfold State.statusBegun
  rw [State.raise_counter _ _ _ _ _ _ (by omega) (by simp [EventObj]), State.nat, State.modPort_reg,
    State.reg_setReg_ne _ _ _ _ _ _ (objKey_ne_of_ix (by omega) (by omega) (by decide))]
  rfl

theorem State.statusBegun_port : (s.statusBegun p status src detail f).port = s.port.set p (f s.port[p]) := by
  unfold State.statusBegun
  rw [State.raise_eq]
  rfl

/-- A status, with its event where its episode begins. -/
def State.statusShown (seen : Bool) : State :=
  if seen then s.setReg Ob.PORT_SEARCH_STATUS (p.val + 1) status else s.statusBegun p status src detail f

/-- What a status that is shown leaves, where the flag of its episode is the one that `f` sets. -/
theorem State.statusShown_spec (seen : Bool) (hf : seen = true → f s.port[p] = s.port[p]) :
    let t := s.statusShown p status src detail f seen
    t = { s with regs := t.regs, port := t.port, lookout := t.lookout, cap := t.cap } ∧
      t.reg Ob.PORT_SEARCH_STATUS (p.val + 1) = status ∧ t.port[p] = f s.port[p] ∧ (∀ q : Fin 8, q ≠ p → t.port[q] = s.port[q]) ∧
      t.reg Ob.PORT_EVENTS (p.val + 1) = (if seen = true then s.reg Ob.PORT_EVENTS (p.val + 1)
        else ((min (2 ^ 32 - 1) (s.nat Ob.PORT_EVENTS (p.val + 1) + 1) : Nat) : Int)) := by
  cases seen with
  | true =>
    refine ⟨rfl, State.reg_setReg_self _ _ _ _, (hf rfl).symm, fun q _ => rfl, ?_⟩
    exact State.reg_setReg_ne _ _ _ _ _ _ (objKey_ne_of_ix (by omega) (by omega) (by decide))
  | false =>
    have hport := s.statusBegun_port p status src detail f
    refine ⟨(s.statusBegun_frame p status src detail f).fields, s.statusBegun_status p status src detail f, ?_, fun q hq => ?_,
      s.statusBegun_events p status src detail f⟩
    · exact (congrArg (·[p]) hport).trans (by simp)
    · exact (congrArg (·[q]) hport).trans (getElem_set_other _ _ _ hq)

end

/-- What SEARCH_STATUS_TIMEOUT does with no light on any lane. -/
theorem searchStatusTimeout_dark {s : State} {p : Fin 8} (hexists : s.exists p = true) (hsearch : s.pstate p = PS.SEARCH)
    (hdark : ∀ l ∈ s.lanesOf p, s.reg Ob.LINE_LOS_RAW (l.val + 1) ≠ 0) (hstatus : s.reg Ob.PORT_SEARCH_STATUS (p.val + 1) ≠ 2) :
    exec (.searchStatusTimeout p) s =
      .next (s.statusShown p 2 Src.PORT_NO_PARTNER p.val (fun x => { x with epDark := true }) s.port[p].epDark) := by
  have hlit : (s.lanesOf p).filter (fun l => !s.flag Ob.LINE_LOS_RAW (l.val + 1)) = [] := by
    simpa [State.flag, List.filter_eq_nil_iff] using hdark
  change execSearchStatusTimeout p s = _
  unfold execSearchStatusTimeout
  dsimp only
  rw [if_pos ⟨hexists, hsearch⟩, hlit, if_pos (by rfl), if_neg hstatus]
  rfl

/-- What SEARCH_STATUS_TIMEOUT does with light on some lane and no alignment. -/
theorem searchStatusTimeout_lit {s : State} {p : Fin 8} (hexists : s.exists p = true) (hsearch : s.pstate p = PS.SEARCH)
    (hlit : ∃ l ∈ s.lanesOf p, s.reg Ob.LINE_LOS_RAW (l.val + 1) = 0)
    (hstatus : s.reg Ob.PORT_SEARCH_STATUS (p.val + 1) = 1 ∨ s.reg Ob.PORT_SEARCH_STATUS (p.val + 1) = 2) :
    ∃ detail, exec (.searchStatusTimeout p) s =
      .next (s.statusShown p 3 Src.PORT_NO_ALIGN detail (fun x => { x with epAlign := true }) s.port[p].epAlign) := by
  have hsome : ¬ ((s.lanesOf p).filter (fun l => !s.flag Ob.LINE_LOS_RAW (l.val + 1))).isEmpty = true := by
    simpa [State.flag, List.filter_eq_nil_iff] using hlit
  refine ⟨p.val + 256 * (((s.lanesOf p).filter (fun l => !s.flag Ob.LINE_LOS_RAW (l.val + 1))).map (fun l => 2 ^ l.val)).sum, ?_⟩
  change execSearchStatusTimeout p s = _
  unfold execSearchStatusTimeout
  dsimp only
  rw [if_pos ⟨hexists, hsearch⟩, if_neg hsome, if_pos hstatus]
  rfl

/-- Settles O36: the samples pass first, and each step of the search follows by the cases of its command. -/
theorem searchProgress : Obligations.SearchProgress := by
  unfold Obligations.SearchProgress
  refine ⟨?detect, ?candidates, ?falseLock, ?falseLockVoid, ?status⟩
  case detect =>
    intro s l p c howner hsearch hc hstay
    have hframe := s.classFound_frame l p c
    have hcls : (s.classFound l p c).srch[l].cls = c.val := 
      congrArg SearchLane.cls (s.modSrch_srch l (fun x => { x with cls := c.val }))
    have hothers (k : Fin 8) (hk : k ≠ l) : (s.classFound l p c).srch[k] = s.srch[k] := getElem_set_other _ _ _ hk
    have hshown : (s.classFound l p c).reg Ob.PORT_FORMAT_FOUND (p.val + 1) = c.val := State.reg_setReg_self _ _ _ _
    have hmore (t : State) (ht : Frame { regs := true, port := true, lookout := true, cap := true } (StatusObj p) (s.classFound l p c) t) :
        t = { s with regs := t.regs, srch := t.srch, port := t.port, lookout := t.lookout, cap := t.cap } ∧ t.srch[l].cls = c.val ∧
        t.reg Ob.PORT_FORMAT_FOUND (p.val + 1) = (c.val : Int) ∧ (∀ k : Fin 8, k ≠ l → t.srch[k] = s.srch[k]) ∧
        KeepsRegs (fun ix sub => (ix ∈ [Ob.PORT_FORMAT_FOUND, Ob.PORT_SEARCH_STATUS, Ob.PORT_EVENTS] ∧ sub = p.val + 1) ∨ EventObj ix sub) s t := by
      have hsrch : t.srch = (s.classFound l p c).srch := ht.view State.srch fun _ _ => rfl
      have hboth := Frame.trans (F := { regs := true, srch := true, port := true, lookout := true, cap := true })
        (P := fun ix sub => (ix ∈ [Ob.PORT_FORMAT_FOUND, Ob.PORT_SEARCH_STATUS, Ob.PORT_EVENTS] ∧ sub = p.val + 1) ∨ EventObj ix sub)
        (hframe.widen (fun _ _ => rfl) fun ix sub h => .inl ⟨by simp [h.1], h.2⟩)
        (ht.widen (fun _ _ => rfl) fun ix sub h => h.imp_left fun h => ⟨List.mem_cons_of_mem _ h.1, h.2⟩)
      refine ⟨hboth.fields, ?_, ?_, fun k hk => ?_, hboth.regs⟩
      · rw [hsrch, hcls]
      · rw [ht.regs _ _ (by omega) (by simp [EventObj]), hshown]
      · rw [hsrch, hothers k hk]
    rw [rateDetect_eq howner hsearch hc hstay]
    by_cases hmatch : c.val = s.rateActive p
    · rw [if_pos hmatch]
      split
      · obtain ⟨hfields, hfound, hformat, hkept, hregs⟩ := hmore _ (State.mismatchEnded_frame _ p)
        exact ⟨_, rfl, hfields, hfound, hformat, hkept, fun _ _ => State.reg_setReg_self _ _ _ _, fun h => absurd hmatch h, hregs⟩
      · obtain ⟨hfields, hfound, hformat, hkept, hregs⟩ := hmore _ Frame.refl
        exact ⟨_, rfl, hfields, hfound, hformat, hkept, fun _ h => absurd h ‹_›, fun h => absurd hmatch h, hregs⟩
    · rw [if_neg hmatch]
      have hsearch' : (s.classFound l p c).pstate p = PS.SEARCH := (s.classFound_pstate l p c).trans hsearch
      obtain ⟨hfields, hfound, hformat, hkept, hregs⟩ := hmore _ (State.formatMismatch_frame _ p)
      exact ⟨_, rfl, hfields, hfound, hformat, hkept, fun h => absurd h hmatch,
        fun _ => ⟨State.formatMismatch_status _ _ hsearch', State.formatMismatch_episode _ _ hsearch'⟩, hregs⟩
  case candidates =>
    intro s l codes
    refine ⟨State.candidate_iff _ l, fun hsweeps hpass => ?_, fun hsweeps hfail hopen => ?_, fun hno => ?_, fun hno => ?_⟩
    · exact ⟨_, (codewordLock_eq s l codes).trans (by rw [if_pos ⟨hsweeps, hpass⟩]), rfl, State.modSrch_srch _ _ _,
        s.rxSamples_modSrch_others l codes _⟩
    · exact ⟨_, (codewordCandidateFail_eq s l codes).trans (by rw [if_pos ⟨hsweeps, hfail, hopen⟩]), rfl, State.modSrch_srch _ _ _,
        s.rxSamples_modSrch_others l codes _⟩
    · rw [codewordLock_eq, if_neg]
      rintro ⟨hsweeps, hpass⟩
      rcases hno with h | h
      · simp [h] at hsweeps
      · exact h hpass
    · rw [codewordCandidateFail_eq, if_neg]
      rintro ⟨hsweeps, hfail, hopen⟩
      rcases hno with h | h | h
      · simp [h] at hsweeps
      · exact h hfail
      · exact absurd (h.symm.trans hopen) (by decide)
  case falseLock =>
    intro s l p hsweeps hsearch hlock hstreak
    have hexec : exec (.falseLockTimeout l) s = .next ((s.modSrch l (fun x => { x with lock := false, cand := s.nextCandidate l })).modOuterLane l
        (fun _ => {})) := by
      change execFalseLockTimeout l s = _
      unfold execFalseLockTimeout
      simp only [hsweeps]
      rw [if_pos ⟨hsearch, hlock, hstreak⟩]
    refine ⟨_, hexec, rfl, ?_, ?_, fun k hk => ⟨getElem_set_other _ _ _ hk, getElem_set_other _ _ _ hk⟩⟩
    · exact congrArg SearchLane.lock (s.modSrch_srch l (fun x => { x with lock := false, cand := s.nextCandidate l }))
    · exact congrArg SearchLane.cand (s.modSrch_srch l (fun x => { x with lock := false, cand := s.nextCandidate l }))
  case falseLockVoid =>
    intro s l hno
    change execFalseLockTimeout l s = _
    unfold execFalseLockTimeout
    split
    · refine if_neg fun h => ?_
      obtain ⟨-, hlock, hstreak⟩ := h
      rcases hno with h | h | h
      · simp_all
      · exact absurd (h.symm.trans hlock) (by decide)
      · exact h hstreak
    · rfl
  case status =>
    intro s p hexists hsearch
    refine ⟨fun hdark hstatus => ?_, fun hlit hstatus => ?_⟩
    · obtain ⟨hfields, hvalue, hport, hothers, hevents⟩ := s.statusShown_spec p 2 Src.PORT_NO_PARTNER p.val
        (fun x => { x with epDark := true }) s.port[p].epDark (fun h => by rw [← h])
      exact ⟨_, searchStatusTimeout_dark hexists hsearch hdark hstatus, hfields, hvalue, hport, hothers, hevents⟩
    · obtain ⟨detail, hexec⟩ := searchStatusTimeout_lit hexists hsearch hlit hstatus
      obtain ⟨hfields, hvalue, hport, hothers, hevents⟩ := s.statusShown_spec p 3 Src.PORT_NO_ALIGN detail
        (fun x => { x with epAlign := true }) s.port[p].epAlign (fun h => by rw [← h])
      exact ⟨_, hexec, hfields, hvalue, hport, hothers, hevents⟩

end Sys2Proof.Machine

/-! SUPPORT. What the hold of a link, its write-offs and its drain can touch (R199 to R205, R310). -/

namespace Sys2Proof.Machine

/-! ## The hold -/

/-- The objects that the delivery of frames can write. -/
def deliverObjs : List Nat := [Ob.HOST_EVENTS, Ob.HOST_IDLE_DELETED, Ob.RETRY_RX_DELIVERED]

/-- The objects that the release and the write-off of frames can write beside. -/
def holdObjs : List Nat :=
  [Ob.RETRY_EVENTS, Ob.RETRY_HOLD_OCCUPANCY, Ob.RETRY_HOLD_PEAK, Ob.RETRY_OUTSTANDING, Ob.RETRY_OUTSTANDING_PEAK, Ob.RETRY_RX_LOST,
    Ob.RETRY_TX_SOURCE_LOST, Ob.RETRY_TX_WRITEOFF]

/-- The choice of fields and objects allows what the delivery of bodies to the host touches. -/
structure AllowsDeliver (F : Fields) (P : Nat → Nat → Prop) : Prop where
  regs : F.regs = true
  hostInst : F.hostInst = true
  test : F.test = true
  lookout : F.lookout = true
  cap : F.cap = true
  events : AllowsEvents P
  shown : ∀ ix ∈ deliverObjs, ∀ sub, P ix sub

/-- The choice of fields and objects allows what the hold touches. -/
structure AllowsHold (F : Fields) (P : Nat → Nat → Prop) : Prop extends AllowsDeliver F P where
  link : F.link = true
  objs : ∀ ix ∈ holdObjs, ∀ sub, P ix sub

section
variable {F : Fields} {P : Nat → Nat → Prop} {s t : State} {p i : Fin 8} (h : AllowsDeliver F P)
include h

@[simp] theorem frame_farSwitch {bs : List HBlk} : Frame F P s (t.farSwitch p bs) ↔ Frame F P s t := by
  refine Frame.iff ?_
  unfold State.farSwitch
  simp [h.test]

@[simp] theorem frame_ingressPush {bs : List HBlk} : Frame F P s (t.ingressPush p i bs) ↔ Frame F P s t := by
  have hsub : p.val + 1 < 256 := by omega
  unfold State.ingressPush
  simp [h.regs, h.hostInst, h.lookout, h.cap, h.events, h.shown _ (by decide : Ob.HOST_IDLE_DELETED ∈ deliverObjs),
    h.shown _ (by decide : Ob.HOST_EVENTS ∈ deliverObjs), hsub]

@[simp] theorem frame_egressPush {bits : List Bool} : Frame F P s (t.egressPush p i bits) ↔ Frame F P s t := by
  have hsub : p.val + 1 < 256 := by omega
  unfold State.egressPush
  simp [h.regs, h.hostInst, h.shown _ (by decide : Ob.HOST_IDLE_DELETED ∈ deliverObjs), hsub]

@[simp] theorem frame_deliver {blocks : List (List Bool)} : Frame F P s (t.deliver p blocks) ↔ Frame F P s t := by
  unfold State.deliver
  simp only
  split <;> simp [frame_forEach, h]

theorem frame_deliverHeld (hlink : F.link = true) (fuel : Nat) (t : State) : Frame F P t (t.deliverHeld p fuel) := by
  have hsub : p.val + 1 < 256 := by omega
  induction fuel generalizing t with
  | zero => exact .refl
  | succ fuel ih =>
    unfold State.deliverHeld
    simp only
    split
    · exact .refl
    · split
      · exact Frame.trans (by simp [h, hlink]) (ih _)
      · split
        · exact Frame.trans (by simp [h, hlink, h.regs, h.shown _ (by decide : Ob.RETRY_RX_DELIVERED ∈ deliverObjs), hsub]) (ih _)
        · exact .refl

end

section
variable {F : Fields} {P : Nat → Nat → Prop} {s t : State} {p i : Fin 8} (h : AllowsHold F P)
include h

@[simp] theorem frame_linkCounts : Frame F P s (t.linkCounts p) ↔ Frame F P s t := by
  have hsub : p.val + 1 < 256 := by omega
  have hobj (ix : Nat) (hix : ix ∈ holdObjs) (t : State) (v : Int) : Frame F P s (t.setReg ix (p.val + 1) v) ↔ Frame F P s t :=
    frame_setReg h.regs hsub (h.objs ix hix _)
  unfold State.linkCounts
  simp only [hobj Ob.RETRY_HOLD_PEAK (by decide), hobj Ob.RETRY_OUTSTANDING_PEAK (by decide), hobj Ob.RETRY_HOLD_OCCUPANCY (by decide),
    hobj Ob.RETRY_OUTSTANDING (by decide)]

@[simp] theorem frame_advance : Frame F P s (t.advance p) ↔ Frame F P s t := by
  unfold State.advance
  rw [frame_linkCounts h, Frame.iff (frame_deliverHeld h.toAllowsDeliver h.link _ t)]

@[simp] theorem frame_loseFrame {seq cause : Nat} : Frame F P s (t.loseFrame p seq cause) ↔ Frame F P s t := by
  have hsub : p.val + 1 < 256 := by omega
  unfold State.loseFrame
  simp [h.regs, h.link, h.lookout, h.cap, h.events, h.objs _ (by decide : Ob.RETRY_RX_LOST ∈ holdObjs),
    h.objs _ (by decide : Ob.RETRY_EVENTS ∈ holdObjs), hsub]

@[simp] theorem frame_releaseGaps {sel : LinkGap → Bool} {cause : Nat} : Frame F P s (t.releaseGaps p sel cause) ↔ Frame F P s t := by
  unfold State.releaseGaps
  rw [frame_advance h, frame_forEach fun _ _ _ => (frame_loseFrame h).mpr .refl]

@[simp] theorem frame_writeOff {seq : Nat} {source : Option Bool} : Frame F P s (t.writeOff p seq source) ↔ Frame F P s t := by
  have hsub : p.val + 1 < 256 := by omega
  unfold State.writeOff
  split <;> simp [h.regs, h.link, h.lookout, h.cap, h.events, h.objs _ (by decide : Ob.RETRY_TX_WRITEOFF ∈ holdObjs),
    h.objs _ (by decide : Ob.RETRY_EVENTS ∈ holdObjs), h.objs _ (by decide : Ob.RETRY_TX_SOURCE_LOST ∈ holdObjs), hsub]

end

/-! ## The other ports' links -/

/-- The links of all ports but one are the same. -/
def LinksKept (p : Fin 8) (s t : State) : Prop := ∀ q : Fin 8, q ≠ p → t.link[q] = s.link[q]

section
variable {p : Fin 8} {s t u : State}

@[simp] theorem LinksKept.refl : LinksKept p s s := fun _ _ => rfl

theorem LinksKept.symm (h : LinksKept p s t) : LinksKept p t s := fun q hq => (h q hq).symm

theorem LinksKept.trans (h : LinksKept p s t) (h2 : LinksKept p t u) : LinksKept p s u := fun q hq => (h2 q hq).trans (h q hq)

/-- A step that keeps the other links can be taken off the end of a chain. -/
theorem LinksKept.iff (h : LinksKept p t u) : LinksKept p s u ↔ LinksKept p s t := ⟨fun hu => hu.trans h.symm, fun ht => ht.trans h⟩

theorem LinksKept.of_link (h : t.link = s.link) : LinksKept p s t := fun q _ => congrArg (·[q]) h

@[simp] theorem linksKept_ite {c : Prop} [Decidable c] : LinksKept p s (if c then t else u) ↔ if c then LinksKept p s t else LinksKept p s u := by
  split <;> rfl

theorem linksKept_forEach {α : Type} {is : List α} {f : α → State → State} (h : ∀ a ∈ is, ∀ t, LinksKept p t (f a t)) :
    LinksKept p s (forEach is f t) ↔ LinksKept p s t := by
  refine LinksKept.iff ?_
  unfold forEach
  induction is generalizing t with
  | nil => exact LinksKept.refl
  | cons a is ih => exact (h a List.mem_cons_self t).trans (ih fun b hb => h b (List.mem_cons_of_mem a hb))

@[simp] theorem linksKept_modLink {f : LinkPort → LinkPort} : LinksKept p s (t.modLink p f) ↔ LinksKept p s t :=
  LinksKept.iff fun _ hq => getElem_set_other _ _ _ hq

@[simp] theorem linksKept_setReg {ix sub : Nat} {v : Int} : LinksKept p s (t.setReg ix sub v) ↔ LinksKept p s t := LinksKept.iff fun _ _ => rfl
@[simp] theorem linksKept_bump64 {ix sub n : Nat} : LinksKept p s (t.bump64 ix sub n) ↔ LinksKept p s t := LinksKept.iff fun _ _ => rfl
@[simp] theorem linksKept_modPort {q : Fin 8} {f : PortCtl → PortCtl} : LinksKept p s (t.modPort q f) ↔ LinksKept p s t :=
  LinksKept.iff fun _ _ => rfl
@[simp] theorem linksKept_raise {src inst detail ix sub : Nat} : LinksKept p s (t.raise src inst detail ix sub) ↔ LinksKept p s t :=
  LinksKept.iff (.of_link (by rw [State.raise_eq]))

end

/-! ## The links under each operation -/

section
variable (s : State) (p : Fin 8)

theorem State.deliver_link (blocks : List (List Bool)) : (s.deliver p blocks).link = s.link := by
  have hframe : Frame { regs := true, hostInst := true, test := true, lookout := true, cap := true } (fun _ _ => True) s (s.deliver p blocks) := by
    rw [frame_deliver ⟨rfl, rfl, rfl, rfl, rfl, fun _ _ _ => trivial, fun _ _ _ => trivial⟩]
    exact .refl
  exact hframe.view State.link fun _ _ => rfl

theorem State.linkCounts_link : (s.linkCounts p).link = s.link := rfl

/-- What delivery can change of a link: the held frames and the next-expected SEQ. -/
theorem State.deliverHeld_link (fuel : Nat) :
    (s.deliverHeld p fuel).link[p] = { s.link[p] with held := (s.deliverHeld p fuel).link[p].held, ack := (s.deliverHeld p fuel).link[p].ack } := by
  induction fuel generalizing s with
  | zero => rfl
  | succ fuel ih =>
    unfold State.deliverHeld
    dsimp only
    split
    · rfl
    · split
      · rw [ih, State.deliver_link]
        simp [State.modLink]
      · split
        · rw [ih, State.bump64, State.bumpTo, State.setReg_link, State.deliver_link]
          simp [State.modLink]
        · rfl

end

end Sys2Proof.Machine

/-! SUPPORT. The timers of retransmission (R195 to R204). -/

namespace Sys2Proof.Machine

section
variable (s : State) (p : Fin 8)

theorem State.modLink_link (f : LinkPort → LinkPort) : (s.modLink p f).link[p] = f s.link[p] := by simp [State.modLink]

/-! ## The counts and a write-off -/

/-- The objects that a write-off and the counts after it write. -/
def sendObjs : List Nat :=
  [Ob.RETRY_TX_WRITEOFF, Ob.RETRY_OUTSTANDING, Ob.RETRY_HOLD_OCCUPANCY, Ob.RETRY_OUTSTANDING_PEAK, Ob.RETRY_HOLD_PEAK]

theorem State.linkCounts_frame : Frame { regs := true } (fun ix sub => ix ∈ [Ob.RETRY_OUTSTANDING, Ob.RETRY_HOLD_OCCUPANCY,
    Ob.RETRY_OUTSTANDING_PEAK, Ob.RETRY_HOLD_PEAK] ∧ sub = p.val + 1) s (s.linkCounts p) := by
  have hsub : p.val + 1 < 256 := by omega
  unfold State.linkCounts
  simp [hsub]

theorem State.linkCounts_reg (ix sub : Nat) (hsub : sub < 256)
    (h : ix ∉ [Ob.RETRY_OUTSTANDING, Ob.RETRY_HOLD_OCCUPANCY, Ob.RETRY_OUTSTANDING_PEAK, Ob.RETRY_HOLD_PEAK]) :
    (s.linkCounts p).reg ix sub = s.reg ix sub := (s.linkCounts_frame p).regs ix sub hsub fun hobj => h hobj.1

/-- A frame as the write-off leaves it. -/
def TxFrame.writtenOff (f : TxFrame) : TxFrame := { f with off := true, body := none, deep := {} }

theorem State.writeOff_link (seq : Nat) : (s.writeOff p seq none).link = s.link.set p { s.link[p] with
    tx := s.link[p].tx.map (fun t => if t.seq = seq then t.writtenOff else t), replays := s.link[p].replays.filter (· != seq) } := by
  change ((s.link.set p _).set p _) = _
  rw [Vector.set_set]
  simp [State.modTxFrame, State.modLink, TxFrame.writtenOff]

theorem State.writeOff_port (seq : Nat) : (s.writeOff p seq none).link[p] = { s.link[p] with
    tx := s.link[p].tx.map (fun t => if t.seq = seq then t.writtenOff else t), replays := s.link[p].replays.filter (· != seq) } := by
  simp [State.writeOff_link]

theorem State.writeOff_linksKept (seq : Nat) : LinksKept p s (s.writeOff p seq none) := fun q hq => by
  rw [State.writeOff_link]
  exact getElem_set_other _ _ _ hq

theorem State.writeOff_frame (seq : Nat) :
    Frame { regs := true, link := true } (fun ix sub => ix = Ob.RETRY_TX_WRITEOFF ∧ sub = p.val + 1) s (s.writeOff p seq none) := by
  have hsub : p.val + 1 < 256 := by omega
  unfold State.writeOff
  simp [hsub]

/-- A frame written off, the counts published after it. -/
def State.sendGivenUp (seq : Nat) : State := (s.writeOff p seq none).linkCounts p

theorem State.sendGivenUp_frame (seq : Nat) :
    Frame { regs := true, link := true } (fun ix sub => ix ∈ sendObjs ∧ sub = p.val + 1) s (s.sendGivenUp p seq) :=
  Frame.trans ((s.writeOff_frame p seq).mono fun _ _ h => ⟨by simp [h.1, sendObjs], h.2⟩)
    ((State.linkCounts_frame _ p).widen (fun _ _ => rfl) fun _ _ h => ⟨List.mem_cons_of_mem _ h.1, h.2⟩)

theorem State.sendGivenUp_spec (seq : Nat) : let t := s.sendGivenUp p seq
    (∀ g ∈ t.link[p].tx, g.seq = seq → g.off = true ∧ g.body = none) ∧ seq ∉ t.link[p].replays ∧
      t.link[p].tx.map (·.seq) = s.link[p].tx.map (·.seq) ∧ (∀ q : Fin 8, q ≠ p → t.link[q] = s.link[q]) ∧
      t.reg Ob.RETRY_TX_WRITEOFF (p.val + 1) = (min (2 ^ 64 - 1) (s.nat Ob.RETRY_TX_WRITEOFF (p.val + 1) + 1) : Nat) := by
  have hport : (s.sendGivenUp p seq).link[p] = _ := s.writeOff_port p seq
  refine ⟨?_, ?_, ?_, s.writeOff_linksKept p seq, ?_⟩
  · rw [hport]
    intro g hg hseq
    obtain ⟨f, -, rfl⟩ := List.mem_map.mp hg
    by_cases h : f.seq = seq
    · rw [if_pos h]
      exact ⟨rfl, rfl⟩
    · rw [if_neg h] at hseq
      contradiction
  · rw [hport]
    simp
  · rw [hport, List.map_map]
    refine List.map_congr_left fun f _ => ?_
    simp only [Function.comp]
    split <;> rfl
  · exact (State.linkCounts_reg _ p _ _ (by omega) (by decide)).trans (State.reg_setReg_self _ _ _ _)

/-! ## A frame's timer -/

theorem State.queueReplay_off {f : TxFrame} (hoff : f.off = false) (hgot : f.got = false) (hmax : s.link[p].replayMax ≤ f.count) :
    s.queueReplay p f = s.writeOff p f.seq none := by
  unfold State.queueReplay
  rw [if_neg (by simp [hoff, hgot]), if_pos hmax]

/-- The replays of a port with one more, in SEQ order. -/
def LinkPort.withReplay (x : LinkPort) (seq : Nat) : LinkPort :=
  if x.replays.contains seq then x else { x with
    replays := x.replays.filter (fun q => decide (sub24 q x.acked < sub24 seq x.acked)) ++ [seq] ++
      x.replays.filter (fun q => decide (sub24 seq x.acked < sub24 q x.acked)) }

theorem State.queueReplay_on {f : TxFrame} (hoff : f.off = false) (hgot : f.got = false) (hmax : f.count < s.link[p].replayMax) :
    s.queueReplay p f = s.modLink p (fun x => x.withReplay f.seq) := by
  unfold State.queueReplay
  rw [if_neg (by simp [hoff, hgot]), if_neg (by omega)]
  rfl

theorem LinkPort.withReplay_tx (x : LinkPort) (seq : Nat) : (x.withReplay seq).tx = x.tx := by
  unfold LinkPort.withReplay
  split <;> rfl

theorem LinkPort.mem_withReplay (x : LinkPort) (seq : Nat) : seq ∈ (x.withReplay seq).replays := by
  unfold LinkPort.withReplay
  split
  · exact List.contains_iff_mem.mp ‹_›
  · simp

theorem LinkPort.withReplay_nil (x : LinkPort) (seq : Nat) (h : x.replays = []) : (x.withReplay seq).replays = [seq] := by
  simp [LinkPort.withReplay, h]

theorem retxTimer_eq {s : State} {p : Fin 8} {f : TxFrame} (hcarries : s.carries p = true)
    (hrtt : 0 < s.reg Ob.RETRY_RTT_NS (p.val + 1) ∨ s.link[p].replayMax ≤ f.count)
    (hfind : s.link[p].tx.find? (fun t => t.seq == f.seq) = some f) :
    exec (.retxTimer p f.seq) s = .next ((s.queueReplay p f).linkCounts p) := by
  change execRetxTimer p f.seq s = _
  unfold execRetxTimer
  rw [if_neg (by simp [hcarries]), hfind]
  dsimp only
  rw [if_neg]
  unfold State.nat
  omega

/-! ## A gap released -/

/-- The hold of a port after its last gap was lost in its place. -/
theorem State.loseFrame_port (seq cause : Nat) : (s.loseFrame p seq cause).link[p] = { s.link[p] with
    held := ({ seq := seq, lost := true } : HeldFrame) :: s.link[p].held.filter (fun h => h.seq != seq)
    gaps := s.link[p].gaps.filter (fun g => g.seq != seq), lostTick := s.link[p].lostTick + 1 } := by
  unfold State.loseFrame
  rw [State.raise_eq]
  simp [State.modLink, State.bump64, State.bumpTo]

theorem State.loseFrame_linksKept (seq cause : Nat) : LinksKept p s (s.loseFrame p seq cause) := by
  unfold State.loseFrame
  simp

theorem State.deliverHeld_linksKept (fuel : Nat) : LinksKept p s (s.deliverHeld p fuel) := by
  induction fuel generalizing s with
  | zero => exact .refl
  | succ fuel ih =>
    unfold State.deliverHeld
    dsimp only
    split
    · exact .refl
    · split
      · refine LinksKept.trans ?_ (ih _)
        rw [(LinksKept.of_link (State.deliver_link _ p _)).iff]
        simp
      · split
        · refine LinksKept.trans ?_ (ih _)
          rw [linksKept_bump64, (LinksKept.of_link (State.deliver_link _ p _)).iff]
          simp
        · exact .refl

theorem State.advance_linksKept : LinksKept p s (s.advance p) := s.deliverHeld_linksKept p _

/-- What delivery can change of a link: the held frames and the next-expected SEQ. -/
theorem State.advance_port : (s.advance p).link[p] = { s.link[p] with held := (s.advance p).link[p].held, ack := (s.advance p).link[p].ack } :=
  s.deliverHeld_link p _

/-- Delivery counts no loss and no event of retransmission. -/
theorem State.deliverHeld_reg (fuel ix : Nat)
    (h : ix ∉ deliverObjs) (hevent : ¬ EventObj ix (p.val + 1)) :
    (s.deliverHeld p fuel).reg ix (p.val + 1) = s.reg ix (p.val + 1) := by
  have hframe := frame_deliverHeld (F := { regs := true, hostInst := true, test := true, lookout := true, cap := true, link := true })
    (P := fun ix sub => ix ∈ deliverObjs ∨ EventObj ix sub) (p := p) ⟨rfl, rfl, rfl, rfl, rfl, fun _ _ => .inr, fun _ h _ => .inl h⟩ rfl fuel s
  exact hframe.regs _ _ (by omega) fun hobj => hobj.elim h hevent

theorem State.advance_reg (ix : Nat) (hcount : ix ∉ sendObjs) (h : ix ∉ deliverObjs) (hevent : ¬ EventObj ix (p.val + 1)) :
    (s.advance p).reg ix (p.val + 1) = s.reg ix (p.val + 1) := by
  unfold State.advance
  rw [State.linkCounts_reg _ _ _ _ (by omega) fun hmem => hcount (List.mem_cons_of_mem _ hmem), State.deliverHeld_reg _ _ _ _ h hevent]

/-- The link after a gap was released by its age. -/
def State.gapReleased (seq : Nat) : State := ((s.loseFrame p seq 1).advance p).gapStatus p

theorem gapAgeRelease_eq {s : State} {p : Fin 8} {g : LinkGap} (hgaps : s.link[p].gaps = [g]) :
    exec (.gapAgeRelease p g.seq) s = .next (s.gapReleased p g.seq) := by
  change execGapAgeRelease p g.seq s = _
  unfold execGapAgeRelease State.releaseGaps
  simp only [hgaps, List.any_cons, beq_self_eq_true, Bool.true_or, if_true, List.filter_cons, List.filter_nil]
  rfl

theorem State.gapReleased_frame (seq : Nat) : Frame { regs := true, link := true, hostInst := true, test := true, lookout := true, cap := true }
    (fun _ _ => True) s (s.gapReleased p seq) := by
  have hallow : AllowsHold { regs := true, link := true, hostInst := true, test := true, lookout := true, cap := true } (fun _ _ => True) :=
    ⟨⟨rfl, rfl, rfl, rfl, rfl, fun _ _ _ => trivial, fun _ _ _ => trivial⟩, rfl, fun _ _ _ => trivial⟩
  unfold State.gapReleased State.gapStatus
  rw [frame_modLink rfl, frame_advance hallow, frame_loseFrame hallow]
  exact .refl

theorem State.gapReleased_linksKept (seq : Nat) : LinksKept p s (s.gapReleased p seq) := by
  unfold State.gapReleased State.gapStatus
  rw [linksKept_modLink, (State.advance_linksKept _ p).iff]
  exact s.loseFrame_linksKept p seq 1

theorem State.gapReleased_port (seq : Nat) (hgaps : ∀ g ∈ s.link[p].gaps, g.seq = seq) :
    (s.gapReleased p seq).link[p].gaps = [] ∧ (s.gapReleased p seq).link[p].statusDue = false := by
  have hnone : ((s.loseFrame p seq 1).advance p).link[p].gaps = [] := by
    rw [State.advance_port, State.loseFrame_port]
    simpa [List.filter_eq_nil_iff] using hgaps
  unfold State.gapReleased State.gapStatus
  rw [State.modLink_link]
  exact ⟨hnone, by simp only [hnone, List.any_nil, Bool.and_false]⟩

/-- A lone lost frame at the next-expected SEQ is passed. -/
theorem State.deliverHeld_lone (h : HeldFrame) (hheld : s.link[p].held = [h]) (hlost : h.lost = true) (hseq : h.seq = s.link[p].ack) :
    (s.deliverHeld p 1).link[p].ack = next24 s.link[p].ack := by
  unfold State.deliverHeld
  simp only [hheld, List.find?_cons, hseq, beq_self_eq_true, hlost, if_true]
  change (State.deliver _ p _).link[p].ack = _
  rw [State.deliver_link, State.modLink_link]

theorem State.advance_lone (h : HeldFrame) (hheld : s.link[p].held = [h]) (hlost : h.lost = true) (hseq : h.seq = s.link[p].ack) :
    (s.advance p).link[p].ack = next24 s.link[p].ack := by
  unfold State.advance
  rw [State.linkCounts_link, hheld]
  exact s.deliverHeld_lone p h hheld hlost hseq

theorem State.gapReleased_ack (hheld : s.link[p].held = []) : (s.gapReleased p s.link[p].ack).link[p].ack = next24 s.link[p].ack := by
  have hport := s.loseFrame_port p s.link[p].ack 1
  have hone : (s.loseFrame p s.link[p].ack 1).link[p].held = [{ seq := s.link[p].ack, lost := true }] := by rw [hport, hheld]; rfl
  have hack : (s.loseFrame p s.link[p].ack 1).link[p].ack = s.link[p].ack := by rw [hport]
  unfold State.gapReleased State.gapStatus
  rw [State.modLink_link]
  exact (State.advance_lone _ p _ hone rfl hack.symm).trans (congrArg next24 hack)

theorem State.gapReleased_reg (seq ix : Nat) (hcount : ix ∉ sendObjs) (h : ix ∉ deliverObjs) (hevent : ¬ EventObj ix (p.val + 1)) :
    (s.gapReleased p seq).reg ix (p.val + 1) = (s.loseFrame p seq 1).reg ix (p.val + 1) := by
  rw [State.gapReleased, State.gapStatus, State.modLink_reg, State.advance_reg _ p ix hcount h hevent]

theorem State.gapReleased_lost (seq : Nat) : (s.gapReleased p seq).reg Ob.RETRY_RX_LOST (p.val + 1) =
    (min (2 ^ 64 - 1) (s.nat Ob.RETRY_RX_LOST (p.val + 1) + 1) : Nat) := by
  rw [State.gapReleased_reg _ _ _ _ (by decide) (by decide) (by simp [EventObj]), State.loseFrame,
    State.raise_reg _ _ _ _ _ _ _ _ (by omega) (by omega) (by simp [EventObj]), if_neg (by simp)]
  exact State.reg_setReg_self _ _ _ _

theorem State.gapReleased_events (seq : Nat) : (s.gapReleased p seq).reg Ob.RETRY_EVENTS (p.val + 1) =
    (min (2 ^ 32 - 1) (s.nat Ob.RETRY_EVENTS (p.val + 1) + 1) : Nat) := by
  rw [State.gapReleased_reg _ _ _ _ (by decide) (by decide) (by simp [EventObj]), State.loseFrame,
    State.raise_counter _ _ _ _ _ _ (by omega) (by simp [EventObj]), State.nat, State.bump64, State.bumpTo,
    State.reg_setReg_ne _ _ _ _ _ _ (objKey_ne_of_ix (by omega) (by omega) (by decide))]
  rfl

end

/-- Settles O25: each timer by the cases of its frame or gap. -/
theorem retransmissionTimers : Obligations.RetransmissionTimers := by
  unfold Obligations.RetransmissionTimers
  refine ⟨?timer, ?window, ?gap, ?due⟩
  case timer =>
    intro s p f hcarries hrtt hfind hoff hgot
    refine ⟨_, retxTimer_eq hcarries hrtt hfind, ?_⟩
    by_cases hmax : s.link[p].replayMax ≤ f.count
    · rw [State.queueReplay_off _ _ hoff hgot hmax]
      have hframe := s.sendGivenUp_frame p f.seq
      obtain ⟨hout, hreplays, -, hothers, hcount⟩ := s.sendGivenUp_spec p f.seq
      exact ⟨(hframe.widen (G := { regs := true, link := true, lookout := true, cap := true }) (fun _ _ => rfl) fun _ _ h => h).fields,
        fun h => absurd h (by omega), fun _ => ⟨hout, hreplays, hcount⟩, hothers, hframe.regs⟩
    · rw [State.queueReplay_on _ _ hoff hgot (by omega)]
      have hport : ((s.modLink p (fun x => x.withReplay f.seq)).linkCounts p).link[p] = s.link[p].withReplay f.seq :=
        (congrArg (·[p]) (State.linkCounts_link _ p)).trans (s.modLink_link p (fun x => x.withReplay f.seq))
      have hframe := Frame.trans (F := { regs := true, link := true, lookout := true, cap := true })
        (P := fun ix sub => ix ∈ sendObjs ∧ sub = p.val + 1) ((frame_modLink (f := fun x => x.withReplay f.seq) (t := s) (p := p) rfl).mpr .refl)
        ((State.linkCounts_frame _ p).widen (fun _ _ => rfl) fun _ _ h => ⟨List.mem_cons_of_mem _ h.1, h.2⟩)
      refine ⟨hframe.fields, fun _ _ => ⟨fun hnil => ?_, ?_, ?_⟩, fun h => absurd h hmax, fun q hq => getElem_set_other _ _ _ hq, hframe.regs⟩
      · rw [hport, LinkPort.withReplay_nil _ _ hnil]
      · rw [hport, LinkPort.withReplay_tx]
      · rw [hport]
        exact LinkPort.mem_withReplay _ _
  case window =>
    intro s p f hfind hoff
    have hexec : exec (.windowAgeWriteoff p f.seq) s = .next (s.sendGivenUp p f.seq) := by
      change execWindowAgeWriteoff p f.seq s = _
      unfold execWindowAgeWriteoff
      rw [hfind]
      dsimp only
      rw [if_neg (by simp [hoff])]
      rfl
    have hframe := s.sendGivenUp_frame p f.seq
    obtain ⟨hout, hreplays, hseqs, hothers, hcount⟩ := s.sendGivenUp_spec p f.seq
    exact ⟨_, hexec, hframe.fields, hout, hreplays, hseqs, hothers, hcount, hframe.regs⟩
  case gap =>
    intro s p g hgaps
    obtain ⟨hnone, hstatus⟩ := s.gapReleased_port p g.seq (by rw [hgaps]; simp)
    refine ⟨_, gapAgeRelease_eq hgaps, (s.gapReleased_frame p g.seq).fields, hnone, hstatus, fun hheld hseq => ?_, s.gapReleased_lost p g.seq,
      s.gapReleased_events p g.seq, s.gapReleased_linksKept p g.seq⟩
    rw [hseq]
    exact s.gapReleased_ack p hheld
  case due =>
    intro s p
    have hrepeat : exec (.statusRepeat p) s =
        .next (if s.carries p ∧ s.link[p].gaps ≠ [] then s.modLink p (fun x => { x with repeatDue := true }) else s) := rfl
    have hecho : exec (.echoReqTimer p) s = .next (if s.inbandRuns p then s.modLink p (fun x => { x with echoDue := true }) else s) := rfl
    rw [hrepeat, hecho]
    refine ⟨fun hcarries hgaps => ⟨s.modLink p (fun x => { x with repeatDue := true }), by rw [if_pos ⟨hcarries, hgaps⟩], rfl⟩, 
      fun hruns => ⟨s.modLink p (fun x => { x with echoDue := true }), by rw [if_pos hruns], rfl⟩,
      fun hstill => by rw [if_neg (by simp [hstill])], fun hnone => by rw [if_neg fun h => h.2 hnone]⟩

end Sys2Proof.Machine

/-! SUPPORT. A link that drains or is lost: what changes, what stays, and where the port goes (R307 to R310). -/

namespace Sys2Proof.Machine

/-! ## What a drain and a lost link can touch -/

/-- The fields that a lost link can touch. -/
abbrev lossFields : Fields :=
  { regs := true, link := true, port := true, mmp := true, test := true, hostInst := true, rx := true, srch := true, outerLane := true
    outerPort := true, lookout := true, cap := true }

/-- The objects that a drain writes once the port is DRAINING. -/
def DrainObj (ix sub : Nat) : Prop :=
  ix ∈ deliverObjs ∨ ix ∈ holdObjs ∨ ix ∈ [Ob.TEST_INJ_APPLIED, Ob.TEST_INJ_ACTIVE, Ob.TEST_FAR_LOOP] ∨ EventObj ix sub

@[simp] theorem drainObj_iff {ix sub : Nat} : DrainObj ix sub ↔
    ix ∈ deliverObjs ∨ ix ∈ holdObjs ∨ ix ∈ [Ob.TEST_INJ_APPLIED, Ob.TEST_INJ_ACTIVE, Ob.TEST_FAR_LOOP] ∨ EventObj ix sub := Iff.rfl

/-- The objects that a drain writes as the port becomes DRAINING. -/
def beginObjs : List Nat := [Ob.PORT_DRAIN_CAUSE, Ob.PORT_STATE, Ob.PORT_STATE_TIME, Ob.PORT_SEARCH_STATUS, Ob.PORT_EVENTS]

/-- The objects that the way back to SEARCH writes. -/
def searchObjs : List Nat :=
  [Ob.S1_ALIGN_STATE, Ob.LINK_ALIGN_STATE, Ob.LINK_PARTNER_LPL_MAX, Ob.LINE_TL_STATE, Ob.LINE_TL_FREQ_PPB, Ob.LINE_EQ_STATE]

/-- All the objects that a lost link writes. -/
def LossObj (ix sub : Nat) : Prop := ix ∈ beginObjs ∨ ix ∈ searchObjs ∨ DrainObj ix sub

@[simp] theorem lossObj_iff {ix sub : Nat} : LossObj ix sub ↔ ix ∈ beginObjs ∨ ix ∈ searchObjs ∨ DrainObj ix sub := Iff.rfl

@[simp] theorem allowsEvents_drainObj : AllowsEvents DrainObj := fun _ _ h => .inr (.inr (.inr h))

@[simp] theorem allowsEvents_lossObj : AllowsEvents LossObj := fun _ _ h => .inr (.inr (.inr (.inr (.inr h))))

@[simp] theorem allowsHold_drainObj : AllowsHold lossFields DrainObj :=
  ⟨⟨rfl, rfl, rfl, rfl, rfl, allowsEvents_drainObj, fun _ h _ => .inl h⟩, rfl, fun _ h _ => .inr (.inl h)⟩

/-! ## Injections and forwarded requests end -/

section
variable {F : Fields} {P : Nat → Nat → Prop} {s t : State} {p : Fin 8}

@[simp] theorem frame_testQuiet (hregs : F.regs = true) (htest : F.test = true) (happlied : P Ob.TEST_INJ_APPLIED (p.val + 1))
    (hactive : P Ob.TEST_INJ_ACTIVE (p.val + 1)) (hfar : P Ob.TEST_FAR_LOOP (p.val + 1)) :
    Frame F P s (t.testQuiet p) ↔ Frame F P s t := by
  have hp : p.val + 1 < 256 := by omega
  refine Frame.iff ?_
  unfold State.testQuiet
  simp [hregs, htest, happlied, hactive, hfar, hp]

@[simp] theorem frame_answerForward {f : Forward} {st : Nat} {body : List Byte} {ix sub : Nat} (hmmp : F.mmp = true) :
    Frame F P s (t.answerForward f st body ix sub) ↔ Frame F P s t := by
  refine Frame.iff ?_
  unfold State.answerForward
  simp [hmmp]

@[simp] theorem frame_linkDown (hmmp : F.mmp = true) : Frame F P s (t.linkDown p) ↔ Frame F P s t := by
  refine Frame.iff ?_
  unfold State.linkDown
  simp [frame_forEach, hmmp]

@[simp] theorem frame_setPort {st : Int} (hregs : F.regs = true) (hstate : P Ob.PORT_STATE (p.val + 1))
    (htime : P Ob.PORT_STATE_TIME (p.val + 1)) (hstatus : P Ob.PORT_SEARCH_STATUS (p.val + 1)) :
    Frame F P s (t.setPort p st) ↔ Frame F P s t := by
  have hp : p.val + 1 < 256 := by omega
  unfold State.setPort
  simp [hregs, hstate, htime, hstatus, hp]

@[simp] theorem frame_noteDrain {cause : Nat} (hregs : F.regs = true) (hlookout : F.lookout = true) (hcap : F.cap = true)
    (hevents : AllowsEvents P) (hcause : P Ob.PORT_DRAIN_CAUSE (p.val + 1)) (hcount : P Ob.PORT_EVENTS (p.val + 1)) :
    Frame F P s (t.noteDrain p cause) ↔ Frame F P s t := by
  have hp : p.val + 1 < 256 := by omega
  unfold State.noteDrain
  simp [hregs, hlookout, hcap, hevents, hcause, hcount, hp]

end

/-! ## A drain -/

section
variable (s : State) (p : Fin 8) (cause : Nat)

/-- A port as it becomes DRAINING. -/
def State.drainBegun : State :=
  ((s.noteDrain p cause).setPort p PS.DRAINING).modPort p (fun x => { x with
    drained := false, lastLeft := if (cause = 6 ∨ cause = 7) ∧ s.native p then 64 else 0 })

theorem State.drainBegun_frame : Frame { regs := true, port := true, lookout := true, cap := true }
    (fun ix sub => ix ∈ beginObjs ∨ EventObj ix sub) s (s.drainBegun p cause) := by
  unfold State.drainBegun
  simp [beginObjs]

theorem State.setPort_pstate (st : Int) : (s.setPort p st).pstate p = st := by
  have hne : objKey Ob.PORT_SEARCH_STATUS (p.val + 1) ≠ objKey Ob.PORT_STATE (p.val + 1) := objKey_ne_of_ix (by omega) (by omega) (by decide)
  unfold State.setPort
  dsimp only
  split
  · exact (State.reg_setReg_ne _ _ _ _ _ _ hne).trans ‹_›
  · exact (State.reg_setReg_ne _ _ _ _ _ _ hne).trans ((State.reg_setReg_ne _ _ _ _ _ _ (objKey_ne_of_ix (by omega) (by omega) (by decide))).trans
      (State.reg_setReg_self _ _ _ _))

theorem State.noteDrain_cause : (s.noteDrain p cause).reg Ob.PORT_DRAIN_CAUSE (p.val + 1) = (cause : Int) := by
  unfold State.noteDrain
  dsimp only
  split
  · exact State.reg_setReg_self _ _ _ _
  · rw [State.raise_reg _ _ _ _ _ _ _ _ (by omega) (by omega) (by simp [EventObj]), if_neg (by simp)]
    exact State.reg_setReg_self _ _ _ _

theorem State.setPort_frame (st : Int) : Frame { regs := true } (fun ix sub =>
    ix ∈ [Ob.PORT_STATE, Ob.PORT_STATE_TIME, Ob.PORT_SEARCH_STATUS] ∧ sub = p.val + 1) s (s.setPort p st) := by
  simp

theorem State.drainBegun_cause : (s.drainBegun p cause).reg Ob.PORT_DRAIN_CAUSE (p.val + 1) = (cause : Int) := by
  unfold State.drainBegun
  rw [State.modPort_reg, (State.setPort_frame _ p _).regs _ _ (by omega) (by simp), State.noteDrain_cause]

theorem State.drainBegun_pstate : (s.drainBegun p cause).pstate p = PS.DRAINING := State.setPort_pstate _ p _

/-- The frames that a drain writes off. -/
def State.drainWritten : State :=
  forEach ((s.drainBegun p cause).link[p].tx.filter (fun t => !t.off)) (fun t s => s.writeOff p t.seq none) (s.drainBegun p cause)

/-- The link of a port after its frames were written off, emptied of all that is queued. -/
def LinkPort.emptied (x : LinkPort) : LinkPort :=
  { x with
    replays := [], statusDue := false, repeatDue := false, echoDue := false, echo := none, ready := [], asmA := [], asmB := []
    swapped := none, change := none }

/-- Whether a gap lies before a frame that is held. -/
def State.gapInside (g : LinkGap) : Bool := (s.drainWritten p cause).link[p].held.any (fun h => precedes g.seq h.seq)

theorem State.drain_eq : s.drain p cause = ((((((s.drainWritten p cause).modLink p LinkPort.emptied).releaseGaps p (s.gapInside p cause) 3).modLink
    p (fun x => { x with gaps := [] })).testQuiet p).linkDown p) := by
  unfold State.drain State.gapInside State.drainWritten State.drainBegun LinkPort.emptied
  rfl

theorem State.drain_rest : Frame lossFields DrainObj (s.drainBegun p cause) (s.drain p cause) := by
  rw [State.drain_eq]
  unfold State.drainWritten
  simp [frame_forEach]

theorem State.drain_frame : Frame lossFields LossObj s (s.drain p cause) :=
  Frame.trans ((s.drainBegun_frame p cause).widen (fun _ _ => rfl) fun _ _ h => h.elim .inl fun h => allowsEvents_lossObj _ _ h)
    ((s.drain_rest p cause).mono fun _ _ h => .inr (.inr h))

theorem State.drain_pstate : (s.drain p cause).pstate p = PS.DRAINING :=
  ((s.drain_rest p cause).regs _ _ (by omega) (by simp [EventObj, deliverObjs, holdObjs])).trans (s.drainBegun_pstate p cause)

theorem State.drain_cause : (s.drain p cause).reg Ob.PORT_DRAIN_CAUSE (p.val + 1) = (cause : Int) :=
  ((s.drain_rest p cause).regs _ _ (by omega) (by simp [EventObj, deliverObjs, holdObjs])).trans (s.drainBegun_cause p cause)

/-- A drain leaves the lock of the lanes' markers as it stands. -/
theorem State.drain_reg (ix sub : Nat) (hsub : sub < 256) (hbegin : ix ∉ beginObjs) (h : ¬ DrainObj ix sub) :
    (s.drain p cause).reg ix sub = s.reg ix sub :=
  ((s.drain_rest p cause).regs ix sub hsub h).trans ((s.drainBegun_frame p cause).regs ix sub hsub fun hobj =>
    hobj.elim hbegin fun hevent => h (allowsEvents_drainObj ix sub hevent))

/-! ## The links in a drain -/

theorem State.testQuiet_link : (s.testQuiet p).link = s.link :=
  ((frame_testQuiet (F := { regs := true, test := true }) (P := fun _ _ => True) (s := s) rfl rfl trivial trivial trivial).mpr .refl).view
    State.link fun _ _ => rfl

theorem State.linkDown_link : (s.linkDown p).link = s.link :=
  ((frame_linkDown (F := { mmp := true }) (P := fun _ _ => True) (s := s) rfl).mpr .refl).view State.link fun _ _ => rfl

theorem State.drainBegun_link : (s.drainBegun p cause).link = s.link := (s.drainBegun_frame p cause).view State.link fun _ _ => rfl

theorem State.releaseGaps_linksKept (sel : LinkGap → Bool) : LinksKept p s (s.releaseGaps p sel cause) := by
  unfold State.releaseGaps
  rw [(State.advance_linksKept _ p).iff, linksKept_forEach fun _ _ _ => State.loseFrame_linksKept _ p _ _]
  exact .refl

theorem State.drain_linksKept : LinksKept p s (s.drain p cause) := by
  rw [State.drain_eq, (LinksKept.of_link (State.linkDown_link _ p)).iff, (LinksKept.of_link (State.testQuiet_link _ p)).iff, linksKept_modLink,
    (State.releaseGaps_linksKept _ p 3 _).iff, linksKept_modLink, State.drainWritten,
    linksKept_forEach fun _ _ _ => State.writeOff_linksKept _ p _, (LinksKept.of_link (State.drainBegun_link s p cause)).iff]
  exact .refl

/-- Release and delivery leave the sender's frames. -/
theorem State.releaseGaps_tx (sel : LinkGap → Bool) : (s.releaseGaps p sel cause).link[p].tx = s.link[p].tx := by
  unfold State.releaseGaps
  rw [State.advance_port]
  unfold forEach
  generalize s.link[p].gaps.filter sel = gaps
  induction gaps generalizing s with
  | nil => rfl
  | cons g gaps ih => exact (ih _).trans (by rw [State.loseFrame_port])

/-- Frames that are written off one by one are off in the end. -/
theorem writeOffs_off (fs : List TxFrame) (s : State) (h : ∀ f ∈ s.link[p].tx, f.off = true ∨ ∃ g ∈ fs, g.seq = f.seq) :
    ∀ f ∈ (forEach fs (fun t s => s.writeOff p t.seq none) s).link[p].tx, f.off = true := by
  unfold forEach
  induction fs generalizing s with
  | nil => exact fun f hf => (h f hf).resolve_right (by simp)
  | cons g fs ih =>
    refine ih _ fun f hf => ?_
    rw [State.writeOff_port] at hf
    obtain ⟨e, he, rfl⟩ := List.mem_map.mp hf
    by_cases hseq : e.seq = g.seq
    · exact .inl (by rw [if_pos hseq]; rfl)
    · rw [if_neg hseq]
      refine (h e he).imp_right ?_
      rintro ⟨k, hk, hkseq⟩
      rcases List.mem_cons.mp hk with rfl | hk
      · exact absurd hkseq.symm hseq
      · exact ⟨k, hk, hkseq⟩

theorem State.drain_off : ∀ f ∈ (s.drain p cause).link[p].tx, f.off = true := by
  have htx : (s.drain p cause).link[p].tx = (s.drainWritten p cause).link[p].tx := by
    rw [State.drain_eq, State.linkDown_link, State.testQuiet_link, State.modLink_link, State.releaseGaps_tx, State.modLink_link]
    rfl
  rw [htx]
  refine writeOffs_off p _ _ fun f hf => ?_
  by_cases hoff : f.off = true
  · exact .inl hoff
  · exact .inr ⟨f, List.mem_filter.mpr ⟨hf, by simpa using hoff⟩, rfl⟩

end

/-! ## A lost link -/

section
variable {s t : State} {l p : Fin 8}

@[simp] theorem frame_searchLane {F : Fields} {P : Nat → Nat → Prop} (hregs : F.regs = true) (hsrch : F.srch = true)
    (houter : F.outerLane = true) (halign : P Ob.S1_ALIGN_STATE (l.val + 1)) : Frame F P s (t.searchLane l) ↔ Frame F P s t := by
  have hl : l.val + 1 < 256 := by omega
  refine Frame.iff ?_
  unfold State.searchLane
  dsimp only
  split <;> simp [hregs, hsrch, houter, halign, hl]

@[simp] theorem frame_tlStart {F : Fields} {P : Nat → Nat → Prop} (hregs : F.regs = true) (hrx : F.rx = true)
    (hobjs : ∀ ix ∈ searchObjs, P ix (l.val + 1)) : Frame F P s (t.tlStart l) ↔ Frame F P s t := by
  have hl : l.val + 1 < 256 := by omega
  refine Frame.iff ?_
  unfold State.tlStart State.tlAcquire State.loadSeed State.showW State.cycleStart
  simp [hregs, hrx, hl, hobjs _ (by decide : Ob.LINE_TL_STATE ∈ searchObjs), hobjs _ (by decide : Ob.LINE_TL_FREQ_PPB ∈ searchObjs),
    hobjs _ (by decide : Ob.LINE_EQ_STATE ∈ searchObjs)]

theorem lossObj_search {ix sub : Nat} (h : ix ∈ searchObjs) : LossObj ix sub := .inr (.inl h)

/-- The lanes of a port as their search starts. -/
def State.lanesSearch (s : State) (ls : List (Fin 8)) : State :=
  forEach ls (fun l s => let s' := s.searchLane l; if s.rxWanted l then s'.tlStart l else s') s

theorem State.lanesSearch_frame (s : State) (ls : List (Fin 8)) :
    Frame { regs := true, rx := true, srch := true, outerLane := true } (fun ix _ => ix ∈ searchObjs) s (s.lanesSearch ls) := by
  unfold State.lanesSearch
  refine (frame_forEach fun l _ t => ?_).mpr .refl
  have hlane := (frame_searchLane (F := { regs := true, rx := true, srch := true, outerLane := true }) (P := fun ix _ => ix ∈ searchObjs) (s := t)
    (t := t) (l := l) rfl rfl rfl (by decide)).mpr .refl
  dsimp only
  split
  · exact (frame_tlStart rfl rfl fun _ h => h).mpr hlane
  · exact hlane

@[simp] theorem lossFrame_enterSearch : Frame lossFields LossObj s (t.enterSearch p) ↔ Frame lossFields LossObj s t := by
  have hp : p.val + 1 < 256 := by omega
  refine Frame.iff ?_
  have hlanes (u : State) (ls : List (Fin 8)) : Frame lossFields LossObj t (u.lanesSearch ls) ↔ Frame lossFields LossObj t u :=
    Frame.iff ((u.lanesSearch_frame ls).widen (fun _ _ => rfl) fun _ _ => lossObj_search)
  change Frame lossFields LossObj t (State.setReg (State.modLink (State.modOuterPort (if (State.lanesSearch _ _).reg _ _ = 1 then
    (State.lanesSearch _ _).setReg _ _ _ else State.lanesSearch _ _) _ _) _ _) _ _ _)
  simp [beginObjs, searchObjs, hp, hlanes]

theorem State.linkLost_frame (s : State) (p : Fin 8) (cause : Nat) : Frame lossFields LossObj s (s.linkLost p cause) := by
  have hp : p.val + 1 < 256 := by omega
  unfold State.linkLost
  split
  · exact s.drain_frame p cause
  · split
    · simp [beginObjs, hp]
    · exact .refl

theorem State.linkLost_carrying (cause : Nat) (h : s.pstate p = PS.CARRYING) : s.linkLost p cause = s.drain p cause := if_pos h

theorem State.enterSearch_linksKept (s : State) (p : Fin 8) : LinksKept p s (s.enterSearch p) := by
  have hlanes (t : State) (ls : List (Fin 8)) : LinksKept p s (t.lanesSearch ls) ↔ LinksKept p s t :=
    (LinksKept.of_link ((t.lanesSearch_frame ls).view State.link fun _ _ => rfl)).iff
  have hport (t : State) (st : Int) : LinksKept p s (t.setPort p st) ↔ LinksKept p s t :=
    (LinksKept.of_link ((t.setPort_frame p st).view State.link fun _ _ => rfl)).iff
  have houter (t : State) (f : OuterPort → OuterPort) : LinksKept p s (t.modOuterPort p f) ↔ LinksKept p s t := (LinksKept.of_link rfl).iff
  change LinksKept p s (State.setReg (State.modLink (State.modOuterPort (if (State.lanesSearch _ _).reg _ _ = 1 then
    (State.lanesSearch _ _).setReg _ _ _ else State.lanesSearch _ _) _ _) _ _) _ _ _)
  simp [hlanes, hport, houter]

theorem State.linkLost_linksKept (s : State) (p : Fin 8) (cause : Nat) : LinksKept p s (s.linkLost p cause) := by
  unfold State.linkLost
  split
  · exact s.drain_linksKept p cause
  · split
    · refine LinksKept.trans ?_ (State.enterSearch_linksKept _ p)
      split
      · rw [(LinksKept.of_link (State.linkDown_link _ p)).iff, linksKept_setReg]
        exact .refl
      · rw [(LinksKept.of_link (State.testQuiet_link _ p)).iff, (LinksKept.of_link (State.linkDown_link _ p)).iff, linksKept_setReg]
        exact .refl
    · exact .refl

end

end Sys2Proof.Machine

/-! SUPPORT. The markers and codewords of an S1 port (R315, R316). -/

namespace Sys2Proof.Machine

theorem State.bump64_reg_self (s : State) (ix sub n : Nat) : (s.bump64 ix sub n).reg ix sub = (min (2 ^ 64 - 1) (s.nat ix sub + n) : Nat) :=
  State.reg_setReg_self _ _ _ _

theorem State.bump64_reg_ne (s : State) (ix sub n jx js : Nat) (hsub : sub < 256) (hjs : js < 256) (h : ix ≠ jx) :
    (s.bump64 ix sub n).reg jx js = s.reg jx js := State.reg_setReg_ne _ _ _ _ _ _ (objKey_ne_of_ix hsub hjs h)

/-! ## A marker -/

section
variable (s : State) (l p : Fin 8) (err : Bool)

/-- A marker in error is counted. -/
def State.markerCounted : State := if err then s.bump Ob.S1_AM_ERR (l.val + 1) 1 else s

theorem State.markerCounted_frame :
    Frame { regs := true } (fun ix sub => ix = Ob.S1_AM_ERR ∧ sub = l.val + 1) s (s.markerCounted l err) := by
  have hl : l.val + 1 < 256 := by omega
  unfold State.markerCounted
  simp [hl]

theorem State.markerCounted_count : (s.markerCounted l err).reg Ob.S1_AM_ERR (l.val + 1) =
    (if err = true then ((min (2 ^ 32 - 1) (s.nat Ob.S1_AM_ERR (l.val + 1) + 1) : Nat) : Int) else s.reg Ob.S1_AM_ERR (l.val + 1)) := by
  unfold State.markerCounted
  split
  · exact State.bump_reg_self _ _ _ _
  · rfl

theorem State.markerCounted_reg (ix sub : Nat) (hsub : sub < 256) (h : ix ≠ Ob.S1_AM_ERR) :
    (s.markerCounted l err).reg ix sub = s.reg ix sub := (s.markerCounted_frame l err).regs ix sub hsub fun hobj => h hobj.1

/-- A lane whose markers lock. -/
def State.markersLocked : State := (s.markerCounted l err).setReg Ob.S1_ALIGN_STATE (l.val + 1) 1

/-- A lane whose markers lost lock. -/
def State.markersLost : State := ((s.markerCounted l err).setReg Ob.S1_ALIGN_STATE (l.val + 1) 2).linkLost p 3

theorem s1AmReceived_eq {s : State} {l p : Fin 8} (err lock : Bool) (howner : s.portOf l = some p) (hrate : s.rateActive p = Rate.S1)
    (hlow : PS.SEARCH ≤ s.pstate p) (hhigh : s.pstate p ≤ PS.DRAINING) (hcls : s.srch[l].cls = Rate.S1) :
    exec (.s1AmReceived l err lock) s = .next (if lock then
        if s.pstate p = PS.SEARCH ∧ (s.lanesOf p).all (fun k => (s.markersLocked l err).reg Ob.S1_ALIGN_STATE (k.val + 1) == 1)
        then (s.markersLocked l err).setPort p PS.ALIGNED else s.markersLocked l err
      else if s.reg Ob.S1_ALIGN_STATE (l.val + 1) = 1 then s.markersLost l p err else s.markerCounted l err) := by
  have hlanes : (s.markersLocked l err).lanesOf p = s.lanesOf p := by
    unfold State.markersLocked State.markerCounted
    split <;> rfl
  rw [← hlanes, ← s.markerCounted_reg l err Ob.S1_ALIGN_STATE (l.val + 1) (by omega) (by decide)]
  change execS1AmReceived l err lock s = _
  unfold execS1AmReceived
  simp only [howner]
  rw [if_neg (by rintro (h | h | h | h) <;> first | contradiction | omega)]
  change (if lock = true then
      if s.pstate p = PS.SEARCH ∧
          ((s.markersLocked l err).lanesOf p).all (fun k => (s.markersLocked l err).reg Ob.S1_ALIGN_STATE (k.val + 1) == 1) = true
      then (.next ((s.markersLocked l err).setPort p PS.ALIGNED) : Out) else .next (s.markersLocked l err)
    else if (s.markerCounted l err).reg Ob.S1_ALIGN_STATE (l.val + 1) = 1 then .next (s.markersLost l p err) else .next (s.markerCounted l err)) = _
  split
  · split
    · rfl
    · rfl
  · split
    · rfl
    · rfl

theorem State.markersLocked_frame : Frame { regs := true }
    (fun ix sub => ix ∈ [Ob.S1_AM_ERR, Ob.S1_ALIGN_STATE] ∧ sub = l.val + 1) s (s.markersLocked l err) := by
  have hl : l.val + 1 < 256 := by omega
  refine Frame.trans ((s.markerCounted_frame l err).mono fun _ _ h => ⟨by simp [h.1], h.2⟩) ?_
  unfold State.markersLocked
  simp [hl]

theorem State.markersLocked_align : (s.markersLocked l err).reg Ob.S1_ALIGN_STATE (l.val + 1) = 1 := State.reg_setReg_self _ _ _ _

theorem State.markersLocked_count :
    (s.markersLocked l err).reg Ob.S1_AM_ERR (l.val + 1) = (s.markerCounted l err).reg Ob.S1_AM_ERR (l.val + 1) :=
  State.reg_setReg_ne _ _ _ _ _ _ (objKey_ne_of_ix (by omega) (by omega) (by decide))

/-- The fields that a lost lock of markers can touch hold neither the time, the inner code, the converters, the fuses nor the flash. -/
theorem State.markersLost_frame : Frame lossFields (fun _ _ => True) s
    (s.markersLost l p err) := by
  have hl : l.val + 1 < 256 := by omega
  have hloss := ((s.markerCounted l err).setReg Ob.S1_ALIGN_STATE (l.val + 1) 2).linkLost_frame p 3
  refine Frame.trans ?_ (hloss.mono fun _ _ _ => trivial)
  rw [frame_setReg rfl hl trivial]
  exact (s.markerCounted_frame l err).widen (fun _ _ => rfl) fun _ _ _ => trivial

theorem State.markersLost_count :
    (s.markersLost l p err).reg Ob.S1_AM_ERR (l.val + 1) = (s.markerCounted l err).reg Ob.S1_AM_ERR (l.val + 1) := by
  unfold State.markersLost
  rw [(State.linkLost_frame _ p 3).regs _ _ (by omega) (by simp [beginObjs, searchObjs, deliverObjs, holdObjs, EventObj])]
  exact State.reg_setReg_ne _ _ _ _ _ _ (objKey_ne_of_ix (by omega) (by omega) (by decide))

/-- In CARRYING a lost lock of markers drains the port, with cause 3. -/
theorem State.markersLost_carrying (h : s.pstate p = PS.CARRYING) : (s.markersLost l p err).pstate p = PS.DRAINING ∧
    (s.markersLost l p err).reg Ob.PORT_DRAIN_CAUSE (p.val + 1) = 3 ∧ (s.markersLost l p err).reg Ob.S1_ALIGN_STATE (l.val + 1) = 2 := by
  have hcarrying : ((s.markerCounted l err).setReg Ob.S1_ALIGN_STATE (l.val + 1) 2).pstate p = PS.CARRYING :=
    (State.reg_setReg_ne _ _ _ _ _ _ (objKey_ne_of_ix (by omega) (by omega) (by decide))).trans
      ((s.markerCounted_reg l err Ob.PORT_STATE (p.val + 1) (by omega) (by decide)).trans h)
  rw [State.markersLost, State.linkLost_carrying 3 hcarrying]
  refine ⟨State.drain_pstate _ p 3, State.drain_cause _ p 3, ?_⟩
  rw [State.drain_reg _ p 3 _ _ (by omega) (by decide) (by simp [deliverObjs, holdObjs, EventObj])]
  exact State.reg_setReg_self _ _ _ _

end

/-- What a marker of the clause leaves (R315). -/
theorem s1AmReceived_spec (s : State) (l p : Fin 8) (err lock : Bool) (howner : s.portOf l = some p) (hrate : s.rateActive p = Rate.S1)
    (hlow : PS.SEARCH ≤ s.pstate p) (hhigh : s.pstate p ≤ PS.DRAINING) (hcls : s.srch[l].cls = Rate.S1) :
    ∃ t : State, exec (.s1AmReceived l err lock) s = .next t ∧
      t.reg Ob.S1_AM_ERR (l.val + 1) = (if err = true then ((min (2 ^ 32 - 1) (s.nat Ob.S1_AM_ERR (l.val + 1) + 1) : Nat) : Int)
        else s.reg Ob.S1_AM_ERR (l.val + 1)) ∧
      (lock = true → t = { s with regs := t.regs } ∧ t.reg Ob.S1_ALIGN_STATE (l.val + 1) = 1 ∧
        (s.pstate p = PS.SEARCH → (∀ k ∈ s.lanesOf p, k ≠ l → s.reg Ob.S1_ALIGN_STATE (k.val + 1) = 1) → t.pstate p = PS.ALIGNED)) ∧
      (lock = false → s.reg Ob.S1_ALIGN_STATE (l.val + 1) = 1 → s.pstate p = PS.CARRYING →
        t.pstate p = PS.DRAINING ∧ t.reg Ob.PORT_DRAIN_CAUSE (p.val + 1) = 3 ∧ t.reg Ob.S1_ALIGN_STATE (l.val + 1) = 2) ∧
      t.time = s.time ∧ t.tic = s.tic ∧ t.adc = s.adc ∧ t.fuse = s.fuse ∧ t.flash = s.flash := by
  rw [s1AmReceived_eq err lock howner hrate hlow hhigh hcls]
  rw [← s.markerCounted_count l err]
  cases lock with
  | true =>
    rw [if_pos rfl]
    have hframe := s.markersLocked_frame l err
    split
    · have hport := (s.markersLocked l err).setPort_frame p PS.ALIGNED
      have hboth := (hframe.mono fun _ _ _ => trivial).trans (hport.mono (Q := fun _ _ => True) fun _ _ _ => trivial)
      refine ⟨_, rfl, ?_, fun _ => ⟨hboth.fields, ?_, fun _ _ => State.setPort_pstate _ p _⟩, fun h => absurd h (by decide),
        hboth.view State.time fun _ _ => rfl, hboth.view State.tic fun _ _ => rfl, hboth.view State.adc fun _ _ => rfl,
        hboth.view State.fuse fun _ _ => rfl, hboth.view State.flash fun _ _ => rfl⟩
      · rw [hport.regs _ _ (by omega) (by simp), State.markersLocked_count]
      · rw [hport.regs _ _ (by omega) (by simp), State.markersLocked_align]
    · refine ⟨_, rfl, s.markersLocked_count l err, fun _ => ⟨hframe.fields, s.markersLocked_align l err, fun hsearch hall => ?_⟩,
        fun h => absurd h (by decide), hframe.view State.time fun _ _ => rfl, hframe.view State.tic fun _ _ => rfl,
        hframe.view State.adc fun _ _ => rfl, hframe.view State.fuse fun _ _ => rfl, hframe.view State.flash fun _ _ => rfl⟩
      refine absurd ⟨hsearch, List.all_eq_true.mpr fun k hk => ?_⟩ ‹¬ (s.pstate p = PS.SEARCH ∧ _)›
      by_cases hkl : k = l
      · simp [hkl, State.markersLocked_align]
      · rw [hframe.regs _ _ (by omega) (by simp; omega), hall k hk hkl]
        rfl
  | false =>
    rw [if_neg (by decide)]
    split
    · have hframe := s.markersLost_frame l p err
      exact ⟨_, rfl, s.markersLost_count l p err, fun h => absurd h (by decide), fun _ _ => s.markersLost_carrying l p err,
        hframe.view State.time fun _ _ => rfl, hframe.view State.tic fun _ _ => rfl, hframe.view State.adc fun _ _ => rfl,
        hframe.view State.fuse fun _ _ => rfl, hframe.view State.flash fun _ _ => rfl⟩
    · have hframe := s.markerCounted_frame l err
      exact ⟨_, rfl, rfl, fun h => absurd h (by decide), fun _ h => absurd h ‹_›, hframe.view State.time fun _ _ => rfl,
        hframe.view State.tic fun _ _ => rfl, hframe.view State.adc fun _ _ => rfl, hframe.view State.fuse fun _ _ => rfl,
        hframe.view State.flash fun _ _ => rfl⟩

/-! ## A codeword -/

section
variable (s : State) (l p : Fin 8) (k e n : Nat) (u : Bool) (data : List Bool)

/-- The objects of the injections of a port. -/
def injObjs : List Nat := [Ob.TEST_INJ_APPLIED, Ob.TEST_INJ_ACTIVE, Ob.TEST_INJ_SYM_ERRORS]

theorem State.injUse_frame (m : Nat) : Frame { regs := true, test := true } (fun ix sub => ix ∈ injObjs ∧ sub = p.val + 1) s (s.injUse p m) := by
  have hp : p.val + 1 < 256 := by omega
  unfold State.injUse
  simp [injObjs, hp]

theorem State.injUse_idle (m : Nat) (l : Option (Fin 8)) (kind : Nat) (h : s.test[p].injKind ≠ kind) :
    s.injUse p (min m (s.injects p kind l)) = s := by
  have hnone : s.injects p kind l = 0 := if_neg fun hand => h hand.1
  unfold State.injUse
  rw [hnone, Nat.min_zero, if_pos rfl]

/-- The injections that apply to a codeword. -/
def State.cwInjected : State :=
  let s1 := s.injUse p (min (n / 2) (s.injects p 1 (some l)))
  if 0 < s1.nat Ob.TEST_INJ_SYM_PROB (p.val + 1) ∧ bitOf (s1.nat Ob.TEST_INJ_LANES (p.val + 1)) l.val then
    s1.bump64 Ob.TEST_INJ_SYM_ERRORS (p.val + 1) e else s1

theorem State.cwInjected_frame :
    Frame { regs := true, test := true } (fun ix sub => ix ∈ injObjs ∧ sub = p.val + 1) s (s.cwInjected l p e n) := by
  have hp : p.val + 1 < 256 := by omega
  refine Frame.trans (s.injUse_frame p (min (n / 2) (s.injects p 1 (some l)))) ?_
  unfold State.cwInjected
  simp [injObjs, hp]

theorem State.cwInjected_test (h : s.test[p].injKind ≠ 1) : (s.cwInjected l p e n).test = s.test := by
  unfold State.cwInjected
  rw [State.injUse_idle _ _ _ _ _ h]
  dsimp only
  split <;> rfl

/-- The bits of a codeword on their way to the host. -/
def State.cwPassed : State :=
  if s.pstate p = PS.CARRYING ∨ s.pstate p = PS.DRAINING then
    s.modHostLane ⟨2 * l.val, by omega⟩ (fun x => { x with line := x.line ++ data }) else s

theorem State.cwPassed_frame : Frame { hostLane := true } (fun _ _ => False) s (s.cwPassed l p data) := by
  unfold State.cwPassed
  simp

theorem State.cwPassed_hostLane (h : Fin 16) : (s.cwPassed l p data).hostLane[h] =
    (if h.val = 2 * l.val ∧ (s.pstate p = PS.CARRYING ∨ s.pstate p = PS.DRAINING) then
      { s.hostLane[h] with line := s.hostLane[h].line ++ data } else s.hostLane[h]) := by
  unfold State.cwPassed
  by_cases hstate : s.pstate p = PS.CARRYING ∨ s.pstate p = PS.DRAINING
  · rw [if_pos hstate]
    by_cases hh : h.val = 2 * l.val
    · rw [if_pos ⟨hh, hstate⟩]
      have heq : h = ⟨2 * l.val, by omega⟩ := Fin.ext hh
      rw [heq]
      simp [State.modHostLane]
    · rw [if_neg fun hand => hh hand.1]
      exact getElem_set_other _ _ _ fun heq => hh (congrArg Fin.val heq)
  · rw [if_neg hstate, if_neg fun hand => hstate hand.2]

/-- A codeword counted, with its corrected bits. -/
def State.cwCounted : State :=
  let s1 := (s.bump64 Ob.S1_CW (l.val + 1) 1).bump64 Ob.S1_BITS_CORRECTED (l.val + 1) k
  let s2 := if k = 0 then s1 else s1.bump64 Ob.S1_CW_CORRECTED (l.val + 1) 1
  if u then s2.bump64 Ob.S1_CW_UNCORRECTABLE (l.val + 1) 1 else s2

/-- The objects that count codewords. -/
def cwObjs : List Nat := [Ob.S1_CW, Ob.S1_BITS_CORRECTED, Ob.S1_CW_CORRECTED, Ob.S1_CW_UNCORRECTABLE]

theorem State.cwCounted_frame : Frame { regs := true } (fun ix sub => ix ∈ cwObjs ∧ sub = l.val + 1) s (s.cwCounted l k u) := by
  have hl : l.val + 1 < 256 := by omega
  unfold State.cwCounted
  simp [cwObjs, hl]

theorem State.cwCounted_reg (ix : Nat) (hcorrected : Ob.S1_CW_CORRECTED ≠ ix) (hunc : Ob.S1_CW_UNCORRECTABLE ≠ ix) :
    (s.cwCounted l k u).reg ix (l.val + 1) =
      ((s.bump64 Ob.S1_CW (l.val + 1) 1).bump64 Ob.S1_BITS_CORRECTED (l.val + 1) k).reg ix (l.val + 1) := by
  have hl : l.val + 1 < 256 := by omega
  unfold State.cwCounted
  dsimp only
  split <;> split <;> simp only [State.bump64_reg_ne _ _ _ _ _ _ hl hl hunc, State.bump64_reg_ne _ _ _ _ _ _ hl hl hcorrected]

theorem State.cwCounted_cw : (s.cwCounted l k u).reg Ob.S1_CW (l.val + 1) = (min (2 ^ 64 - 1) (s.nat Ob.S1_CW (l.val + 1) + 1) : Nat) := by
  rw [State.cwCounted_reg _ _ _ _ _ (by decide) (by decide), State.bump64_reg_ne _ _ _ _ _ _ (by omega) (by omega) (by decide),
    State.bump64_reg_self]

theorem State.cwCounted_bits : (s.cwCounted l k u).reg Ob.S1_BITS_CORRECTED (l.val + 1) =
    (min (2 ^ 64 - 1) (s.nat Ob.S1_BITS_CORRECTED (l.val + 1) + k) : Nat) := by
  rw [State.cwCounted_reg _ _ _ _ _ (by decide) (by decide), State.bump64_reg_self, State.nat,
    State.bump64_reg_ne _ _ _ _ _ _ (by omega) (by omega) (by decide)]
  rfl

theorem State.cwCounted_uncorrectable : (s.cwCounted l k true).reg Ob.S1_CW_UNCORRECTABLE (l.val + 1) =
    (min (2 ^ 64 - 1) (s.nat Ob.S1_CW_UNCORRECTABLE (l.val + 1) + 1) : Nat) := by
  have hl : l.val + 1 < 256 := by omega
  unfold State.cwCounted
  dsimp only
  rw [if_pos rfl, State.bump64_reg_self, State.nat]
  have hkept : ∀ t : State, (if k = 0 then t else t.bump64 Ob.S1_CW_CORRECTED (l.val + 1) 1).reg Ob.S1_CW_UNCORRECTABLE (l.val + 1) =
      t.reg Ob.S1_CW_UNCORRECTABLE (l.val + 1) := fun t => by
    split
    · rfl
    · exact State.bump64_reg_ne _ _ _ _ _ _ hl hl (by decide)
  rw [hkept, State.bump64_reg_ne _ _ _ _ _ _ hl hl (by decide), State.bump64_reg_ne _ _ _ _ _ _ hl hl (by decide)]
  rfl

/-- A codeword decoded, but for the bits of a codeword that counts towards the lane's error rate. -/
def State.cwDecoded : State := ((s.cwInjected l p e n).cwPassed l p data).cwCounted l k u

theorem s1CodewordDecoded_eq {s : State} {l p : Fin 8} (n k e : Nat) (u m : Bool) (data : List Bool) (howner : s.portOf l = some p)
    (hrate : s.rateActive p = Rate.S1) (hruns : s.tl l ≠ 0 ∨ s.testKind p = 5) : exec (.s1CodewordDecoded l n k u m data e) s =
      .next (if ((m || ((s.cwInjected l p e n).cwPassed l p data).marked l) &&
          !((s.cwInjected l p e n).cwPassed l p data).flag Ob.LINE_STATS_INCL_UNSETTLED (l.val + 1)) = true
        then s.cwDecoded l p k e n u data
        else (s.cwDecoded l p k e n u data).modSrch l (fun x => { x with s1Now := (x.s1Now.1 + k, x.s1Now.2 + n) })) := by
  change execS1CodewordDecoded l n k u m data e s = _
  unfold execS1CodewordDecoded
  simp only [howner]
  rw [if_neg (by rintro (h | ⟨h, h'⟩) <;> rcases hruns with hr | hr <;> contradiction)]
  change (if ((m || ((s.cwInjected l p e n).cwPassed l p data).marked l) &&
      !((s.cwInjected l p e n).cwPassed l p data).flag Ob.LINE_STATS_INCL_UNSETTLED (l.val + 1)) = true
    then (.next (s.cwDecoded l p k e n u data) : Out)
    else .next ((s.cwDecoded l p k e n u data).modSrch l (fun x => { x with s1Now := (x.s1Now.1 + k, x.s1Now.2 + n) }))) = _
  split
  · rfl
  · rfl

/-- The objects that a codeword writes. -/
def CwObj (ix sub : Nat) : Prop := (ix ∈ cwObjs ∧ sub = l.val + 1) ∨ (ix ∈ injObjs ∧ sub = p.val + 1)

theorem State.cwDecoded_frame : Frame { regs := true, test := true, hostLane := true } (CwObj l p) s (s.cwDecoded l p k e n u data) := by
  refine Frame.trans (t := s.cwInjected l p e n) ((s.cwInjected_frame l p e n).widen (fun _ _ => rfl) fun _ _ => .inr) ?_
  refine Frame.trans (t := (s.cwInjected l p e n).cwPassed l p data)
    ((State.cwPassed_frame _ l p data).widen (fun _ _ => rfl) fun _ _ h => h.elim) ?_
  exact (State.cwCounted_frame _ l k u).widen (fun _ _ => rfl) fun _ _ => .inl

theorem State.cwInjected_reg (ix sub : Nat) (hsub : sub < 256) (h : ix ∉ injObjs) :
    ((s.cwInjected l p e n).cwPassed l p data).reg ix sub = s.reg ix sub :=
  ((State.cwPassed_frame _ l p data).regs ix sub hsub id).trans ((s.cwInjected_frame l p e n).regs ix sub hsub fun hobj => h hobj.1)

theorem State.cwInjected_nat (ix sub : Nat) (hsub : sub < 256) (h : ix ∉ injObjs) :
    ((s.cwInjected l p e n).cwPassed l p data).nat ix sub = s.nat ix sub := congrArg Int.toNat (s.cwInjected_reg l p e n data ix sub hsub h)

theorem State.cwDecoded_hostLane (h : Fin 16) : (s.cwDecoded l p k e n u data).hostLane[h] =
    (if h.val = 2 * l.val ∧ (s.pstate p = PS.CARRYING ∨ s.pstate p = PS.DRAINING) then
      { s.hostLane[h] with line := s.hostLane[h].line ++ data } else s.hostLane[h]) := by
  have hstate : (s.cwInjected l p e n).pstate p = s.pstate p := (s.cwInjected_frame l p e n).regs _ _ (by omega) (by simp [injObjs])
  have hlanes : (s.cwInjected l p e n).hostLane = s.hostLane := (s.cwInjected_frame l p e n).view State.hostLane fun _ _ => rfl
  rw [State.cwDecoded, (State.cwCounted_frame _ l k u).view State.hostLane fun _ _ => rfl, State.cwPassed_hostLane, hstate, hlanes]

theorem State.cwDecoded_test (h : s.test[p].injKind ≠ 1) : (s.cwDecoded l p k e n u data).test = s.test := by
  rw [State.cwDecoded, (State.cwCounted_frame _ l k u).view State.test fun _ _ => rfl,
    (State.cwPassed_frame _ l p data).view State.test fun _ _ => rfl, State.cwInjected_test _ _ _ _ _ h]

end

/-- Settles O38: the marker by what the lock does, the codeword by what it injects, passes and counts. -/
theorem s1MarkersAndCodewords : Obligations.S1MarkersAndCodewords := by
  unfold Obligations.S1MarkersAndCodewords
  refine ⟨s1AmReceived_spec, fun s l p n k e u m data howner hrate hruns => ?_, fun s l a b n k e data hnone => ?_⟩
  · have hframe := s.cwDecoded_frame l p k e n u data
    have hsame (ix : Nat) (h : ix ∉ injObjs) := s.cwInjected_nat l p e n data ix (l.val + 1) (by omega) h
    have hshared (t : State) (ht : Frame { srch := true } (fun _ _ => False) (s.cwDecoded l p k e n u data) t) :
        t = { s with regs := t.regs, srch := t.srch, test := t.test, hostLane := t.hostLane } ∧
        (∀ h : Fin 16, t.hostLane[h] = (if h.val = 2 * l.val ∧ (s.pstate p = PS.CARRYING ∨ s.pstate p = PS.DRAINING) then
          { s.hostLane[h] with line := s.hostLane[h].line ++ data } else s.hostLane[h])) ∧
        (s.test[p].injKind ≠ 1 → t.test = s.test) ∧
        t.reg Ob.S1_CW (l.val + 1) = (min (2 ^ 64 - 1) (s.nat Ob.S1_CW (l.val + 1) + 1) : Nat) ∧
        t.reg Ob.S1_BITS_CORRECTED (l.val + 1) = (min (2 ^ 64 - 1) (s.nat Ob.S1_BITS_CORRECTED (l.val + 1) + k) : Nat) ∧
        (u = true → t.reg Ob.S1_CW_UNCORRECTABLE (l.val + 1) = (min (2 ^ 64 - 1) (s.nat Ob.S1_CW_UNCORRECTABLE (l.val + 1) + 1) : Nat)) ∧
        KeepsRegs (fun ix sub => (ix ∈ [Ob.S1_CW, Ob.S1_BITS_CORRECTED, Ob.S1_CW_CORRECTED, Ob.S1_CW_UNCORRECTABLE] ∧ sub = l.val + 1) ∨
          (ix ∈ [Ob.TEST_INJ_APPLIED, Ob.TEST_INJ_ACTIVE, Ob.TEST_INJ_SYM_ERRORS] ∧ sub = p.val + 1)) s t := by
      have hboth := Frame.trans (F := { regs := true, srch := true, test := true, hostLane := true }) (P := CwObj l p)
        (hframe.widen (fun _ _ => rfl) fun _ _ h => h) (ht.widen (fun _ _ => rfl) fun _ _ h => h.elim)
      have hreg (ix : Nat) := ht.regs ix (l.val + 1) (by omega) id
      refine ⟨hboth.fields, fun h => ?_, fun hkind => ?_, ?_, ?_, fun hu => ?_, hboth.regs⟩
      · rw [ht.view State.hostLane fun _ _ => rfl, State.cwDecoded_hostLane]
      · rw [ht.view State.test fun _ _ => rfl, State.cwDecoded_test _ _ _ _ _ _ _ _ hkind]
      · rw [hreg, State.cwDecoded, State.cwCounted_cw, hsame _ (by decide)]
      · rw [hreg, State.cwDecoded, State.cwCounted_bits, hsame _ (by decide)]
      · rw [hreg, hu, State.cwDecoded, State.cwCounted_uncorrectable, hsame _ (by decide)]
    rw [s1CodewordDecoded_eq n k e u m data howner hrate hruns]
    split
    · obtain ⟨hfields, hhost, htest, hcw, hbits, hunc, hregs⟩ := hshared _ Frame.refl
      exact ⟨_, rfl, hfields, hhost, htest, hcw, hbits, hunc, fun _ _ => hframe.view State.srch fun _ _ => rfl, hregs⟩
    · obtain ⟨hfields, hhost, htest, hcw, hbits, hunc, hregs⟩ := hshared _ ((frame_modSrch rfl).mpr Frame.refl)
      refine ⟨_, rfl, hfields, hhost, htest, hcw, hbits, hunc, fun hm hstats => absurd ?_ ‹¬ _›, hregs⟩
      rw [hm, State.flag, State.cwInjected_reg _ _ _ _ _ _ _ _ (by omega) (by decide), hstats]
      rfl
  · constructor
    · change execS1AmReceived l a b s = _
      unfold execS1AmReceived
      rw [hnone]
    · change execS1CodewordDecoded l n k a b data e s = _
      unfold execS1CodewordDecoded
      rw [hnone]

end Sys2Proof.Machine

/-! SUPPORT. The lanes' markers: what one that comes and one that misses leave (R182, R183, R301, R303). -/

namespace Sys2Proof.Machine

/-! ## A marker's fields -/

/-- A field of a marker's bits. -/
def markerField (bits : List Bool) (lo k : Nat) : Nat := bitsNat ((bits.drop lo).take k)

/-- Whether what stands in a marker's place is one: enough of its pattern, and its check. -/
def markerGood (l p : Fin 8) (bits : List Bool) : Bool :=
  decide (2000 ≤ ((List.zipWith (· == ·) bits (markerPattern (l.val - p.val))).filter id).length) &&
    markerField bits 2400 32 == crc32cBits ((bits.drop 2048).take 352)

/-- Whether a marker is of a port's width and rate. -/
def State.markerMine (s : State) (p : Fin 8) (bits : List Bool) : Bool :=
  markerField bits 2052 4 == Nat.log2 (s.lanesOf p).length && markerField bits 2060 4 == s.rateActive p

/-! ## What a marker leaves -/

section
variable (s : State) (p l : Fin 8) (lag : Nat) (bits : List Bool) (due : Bool)

/-- The place looked at, and what a marker says of the partner. -/
def State.markerNoted : State :=
  let s0 := s.markerTaken p l
  let s1 := if markerGood l p bits then s0.setReg Ob.PORT_PARTNER_WIDTH (p.val + 1) (min 255 (2 ^ markerField bits 2052 4) : Nat) else s0
  if markerGood l p bits ∧ (markerField bits 2060 4 = 1 ∨ markerField bits 2060 4 = 2) then
    s1.setReg Ob.PORT_FORMAT_FOUND (p.val + 1) (markerField bits 2060 4 : Int) else s1

/-- A lane whose marker came: its streak and its lag. -/
def State.markerCame : State :=
  ((s.markerNoted p l bits).modOuterLane l (fun o => { o with
    streak := if due then min 2 (o.streak + 1) else 1, missed := 0
    q := some ((17 * (l.val - p.val) + (s.lanesOf p).length) % (1088 * (s.lanesOf p).length)) })).setReg Ob.LINK_SKEW_CW (l.val + 1)
    (min 255 lag : Nat)

/-- The largest lag of a port's lanes. -/
def State.skewOf (ls : List (Fin 8)) : Nat := (ls.map (fun k => s.nat Ob.LINK_SKEW_CW (k.val + 1))).foldl max 0

/-- What the streaks of all lanes mean for the port, given the state it was in. -/
def State.alignJudged (ls : List (Fin 8)) (st : Int) : State :=
  if ls.all (fun k => s.outerLane[k].streak == 2) then
    if 64 < s.skewOf ls then s.skewLimit p (max (s.skewOf ls) lag)
    else if st = PS.SEARCH then s.declareAligned p
    else s.setReg Ob.LINK_ALIGN_STATE (p.val + 1) 1
  else s

/-- A miss counted. -/
def State.missCounted : State :=
  (s.bump Ob.LINK_MARKER_ERR (l.val + 1) 1).modOuterLane l (fun o => { o with streak := 0, missed := o.missed + 1 })

/-- A place that held no marker of this port and lane: the miss counted, and a marker of another format noted. -/
def State.markerMissed : State :=
  if (markerGood l p bits && !s.markerMine p bits) = true then ((s.markerNoted p l bits).missCounted l).formatMismatch p
  else (s.markerNoted p l bits).missCounted l

/-- The loss of alignment at the fourth miss in a row. -/
def State.missJudged : State := if s.outerLane[l].missed = 4 then s.alignLoss p l else s

/-- What MARKER_RECEIVED leaves once the samples have passed. -/
def State.markerOutcome : State :=
  if (markerGood l p bits && s.markerMine p bits && markerField bits 2048 4 == l.val - p.val) = true then
    (s.markerCame p l lag bits due).alignJudged p lag (s.lanesOf p) (s.pstate p)
  else if (due || markerGood l p bits) = true then
    (s.markerMissed p l bits).missJudged p l
  else if s.pstate p = PS.SEARCH then (s.markerNoted p l bits).modOuterLane l (fun o => { o with mark := s.outerLane[l].mark })
  else s.markerNoted p l bits

end

/-! ## The command -/

section
variable {s : State} {l p : Fin 8} (codes : List Int)

theorem State.rxSamples_portOf (s : State) (l k : Fin 8) (codes : List Int) : (s.rxSamples l codes).portOf k = s.portOf k := by
  unfold State.portOf State.owner State.halfValue
  rw [(s.rxSamples_frame l codes).view State.breakout fun _ _ => rfl]

theorem State.rxSamples_lanesOf (s : State) (l p : Fin 8) (codes : List Int) : (s.rxSamples l codes).lanesOf p = s.lanesOf p := by
  have hbreakout : (s.rxSamples l codes).breakout = s.breakout := (s.rxSamples_frame l codes).view State.breakout fun _ _ => rfl
  simp only [State.lanesOf, State.owner, State.halfValue, hbreakout]

theorem State.rxSamples_linkRuns (s : State) (l p : Fin 8) (codes : List Int) : (s.rxSamples l codes).linkRuns p = s.linkRuns p := by
  have hstate : (s.rxSamples l codes).pstate p = s.pstate p := s.rxSamples_reg l codes (by omega) (by simp)
  have htest : (s.rxSamples l codes).test = s.test := (s.rxSamples_frame l codes).view State.test fun _ _ => rfl
  unfold State.linkRuns State.native State.testKind State.rateActive State.nat
  rw [s.rxSamples_reg l codes (by omega) (by simp), hstate, htest]

theorem markerReceived_eq (lag : Nat) {bits : List Bool} {due : Bool} (howner : s.portOf l = some p) (hruns : s.linkRuns p = true)
    (hlock : s.pstate p = PS.SEARCH → s.srch[l].lock = true) (hplace : (s.rxSamples l codes).markerPlace p l = some (bits, due)) :
    exec (.markerReceived l codes lag) s = .next ((s.rxSamples l codes).markerOutcome p l lag bits due) := by
  have hstate : (s.rxSamples l codes).pstate p = s.pstate p := s.rxSamples_reg l codes (by omega) (by simp)
  change execMarkerReceived l codes lag s = _
  unfold execMarkerReceived
  simp only [State.rxSamples_portOf, howner]
  rw [if_neg, hplace]
  · generalize s.rxSamples l codes = u
    change (if (markerGood l p bits && u.markerMine p bits && markerField bits 2048 4 == l.val - p.val) = true then
        if (u.lanesOf p).all (fun k => (u.markerCame p l lag bits due).outerLane[k].streak == 2) = true then
          if 64 < (u.markerCame p l lag bits due).skewOf (u.lanesOf p) then
            (.next ((u.markerCame p l lag bits due).skewLimit p (max ((u.markerCame p l lag bits due).skewOf (u.lanesOf p)) lag)) : Out)
          else if u.pstate p = PS.SEARCH then .next ((u.markerCame p l lag bits due).declareAligned p)
          else .next ((u.markerCame p l lag bits due).setReg Ob.LINK_ALIGN_STATE (p.val + 1) 1)
        else .next (u.markerCame p l lag bits due)
      else if (due || markerGood l p bits) = true then
        if (u.markerMissed p l bits).outerLane[l].missed = 4 then .next ((u.markerMissed p l bits).alignLoss p l)
        else .next (u.markerMissed p l bits)
      else .next (if u.pstate p = PS.SEARCH then (u.markerNoted p l bits).modOuterLane l (fun o => { o with mark := u.outerLane[l].mark })
        else u.markerNoted p l bits)) = _
    unfold State.markerOutcome State.missJudged State.alignJudged
    simp only [apply_ite (Host.Outcome.next (ρ := _))]
  · rw [State.rxSamples_linkRuns, hruns, State.rxSamples_srch, hstate]
    intro h
    by_cases hsearch : s.pstate p = PS.SEARCH
    · rw [hlock hsearch] at h
      simp at h
    · simp [hsearch] at h

end

/-! ## What each step of it leaves -/

section
variable (s : State) (p l : Fin 8) (lag : Nat) (bits : List Bool) (due : Bool)

theorem State.modOuterLane_outerLane (f : OuterLane → OuterLane) : (s.modOuterLane l f).outerLane[l] = f s.outerLane[l] := by
  simp [State.modOuterLane]

theorem State.markerNoted_frame : Frame { regs := true, outerLane := true }
    (fun ix sub => ix ∈ [Ob.PORT_PARTNER_WIDTH, Ob.PORT_FORMAT_FOUND] ∧ sub = p.val + 1) s (s.markerNoted p l bits) := by
  have hp : p.val + 1 < 256 := by omega
  unfold State.markerNoted State.markerTaken
  simp [hp]

theorem State.markerNoted_ordinary (h : markerGood l p bits = false) : s.markerNoted p l bits = s.markerTaken p l := by
  unfold State.markerNoted
  simp [h]

theorem State.markerTaken_lane : (s.markerTaken p l).outerLane[l] =
    { s.outerLane[l] with mark := if s.pstate p = PS.SEARCH then s.cwStart l else s.outerLane[l].mark, head := none } :=
  s.modOuterLane_outerLane l _

theorem State.markerNoted_lane : (s.markerNoted p l bits).outerLane[l] = (s.markerTaken p l).outerLane[l] := by
  unfold State.markerNoted
  dsimp only
  split <;> split <;> rfl

theorem State.markerCame_frame : Frame { regs := true, outerLane := true }
    (fun ix sub => (ix ∈ [Ob.PORT_PARTNER_WIDTH, Ob.PORT_FORMAT_FOUND] ∧ sub = p.val + 1) ∨ (ix = Ob.LINK_SKEW_CW ∧ sub = l.val + 1)) s
    (s.markerCame p l lag bits due) := by
  have hl : l.val + 1 < 256 := by omega
  unfold State.markerCame
  rw [frame_setReg rfl hl (.inr ⟨rfl, rfl⟩), frame_modOuterLane rfl]
  exact (s.markerNoted_frame p l bits).mono fun _ _ => .inl

theorem State.markerCame_lane : (s.markerCame p l lag bits due).outerLane[l].missed = 0 ∧
    (s.markerCame p l lag bits due).outerLane[l].streak = (if due = true then min 2 (s.outerLane[l].streak + 1) else 1) := by
  have hstreak : (s.markerNoted p l bits).outerLane[l].streak = s.outerLane[l].streak := by rw [State.markerNoted_lane, State.markerTaken_lane]
  unfold State.markerCame
  rw [State.setReg_outerLane, State.modOuterLane_outerLane, hstreak]
  exact ⟨rfl, rfl⟩

/-- The objects that the judgement of the streaks can write. -/
def judgeObjs : List Nat := [Ob.PORT_SEARCH_STATUS, Ob.RETRY_EVENTS, Ob.LINK_ALIGN_STATE, Ob.PORT_STATE, Ob.PORT_STATE_TIME, Ob.LINE_RX_PRECODE_FOUND]

theorem State.alignJudged_frame (ls : List (Fin 8)) (st : Int) : Frame { regs := true, port := true, lookout := true, cap := true }
    (fun ix sub => ix ∈ judgeObjs ∨ EventObj ix sub) s (s.alignJudged p lag ls st) := by
  have hp : p.val + 1 < 256 := by omega
  unfold State.alignJudged State.skewLimit State.declareAligned
  simp [judgeObjs, hp, frame_forEach]

theorem State.missCounted_frame :
    Frame { regs := true, outerLane := true } (fun ix sub => ix = Ob.LINK_MARKER_ERR ∧ sub = l.val + 1) s (s.missCounted l) := by
  have hl : l.val + 1 < 256 := by omega
  unfold State.missCounted
  simp [hl]

/-- The lanes of a port and its received stream start afresh. -/
def State.lanesFresh (ls : List (Fin 8)) : State :=
  (forEach ls (fun k s => s.modOuterLane k (fun _ => {})) s).modOuterPort p (fun _ => {})

theorem State.lanesFresh_frame (ls : List (Fin 8)) : Frame { outerLane := true, outerPort := true } (fun _ _ => False) s (s.lanesFresh p ls) := by
  unfold State.lanesFresh
  simp [frame_forEach]

/-- The loss of alignment noted. -/
def State.alignLost : State :=
  (s.setReg Ob.LINK_ALIGN_STATE (p.val + 1) 2).raise Src.LINK_ALIGN_LOSS p.val (p.val + 256 * l.val) Ob.RETRY_EVENTS (p.val + 1)

theorem State.alignLost_frame : Frame { regs := true, lookout := true, cap := true }
    (fun ix sub => (ix ∈ [Ob.LINK_ALIGN_STATE, Ob.RETRY_EVENTS] ∧ sub = p.val + 1) ∨ EventObj ix sub) s (s.alignLost p l) := by
  have hp : p.val + 1 < 256 := by omega
  unfold State.alignLost
  simp [hp]

theorem State.alignLoss_eq (h : s.reg Ob.LINK_ALIGN_STATE (p.val + 1) = 1) :
    s.alignLoss p l = ((s.alignLost p l).lanesFresh p ((s.alignLost p l).lanesOf p)).linkLost p 3 := if_pos h

theorem State.alignLoss_frame : Frame lossFields LossObj s (s.alignLoss p l) := by
  by_cases h : s.reg Ob.LINK_ALIGN_STATE (p.val + 1) = 1
  · rw [State.alignLoss_eq _ _ _ h]
    refine Frame.trans ((s.alignLost_frame p l).widen (fun _ _ => rfl) fun ix sub hobj => ?_)
      (Frame.trans ((State.lanesFresh_frame _ p _).widen (fun _ _ => rfl) fun _ _ h => h.elim) (State.linkLost_frame _ p 3))
    rcases hobj with ⟨hmem, -⟩ | hevent
    · rcases List.mem_cons.mp hmem with rfl | hmem
      · exact .inr (.inl (by decide))
      · rw [List.mem_singleton.mp hmem]
        exact .inr (.inr (.inr (.inl (by decide))))
    · exact allowsEvents_lossObj _ _ hevent
  · exact (congrArg (Frame lossFields LossObj s) (if_neg h : s.alignLoss p l = s)).mpr .refl

theorem State.alignLoss_linksKept : LinksKept p s (s.alignLoss p l) := by
  by_cases h : s.reg Ob.LINK_ALIGN_STATE (p.val + 1) = 1
  · rw [State.alignLoss_eq _ _ _ h, (State.linkLost_linksKept _ p 3).iff,
      (LinksKept.of_link ((State.lanesFresh_frame _ p _).view State.link fun _ _ => rfl)).iff]
    exact .of_link ((s.alignLost_frame p l).view State.link fun _ _ => rfl)
  · exact (congrArg (LinksKept p s) (if_neg h : s.alignLoss p l = s)).mpr .refl

/-- In CARRYING a lost alignment drains the port, with cause 3 and every frame written off. -/
theorem State.alignLoss_carrying (halign : s.reg Ob.LINK_ALIGN_STATE (p.val + 1) = 1) (h : s.pstate p = PS.CARRYING) :
    (s.alignLoss p l).pstate p = PS.DRAINING ∧ (s.alignLoss p l).reg Ob.PORT_DRAIN_CAUSE (p.val + 1) = 3 ∧
      (s.alignLoss p l).reg Ob.LINK_ALIGN_STATE (p.val + 1) = 2 ∧ ∀ f ∈ (s.alignLoss p l).link[p].tx, f.off = true := by
  have hfresh := State.lanesFresh_frame (s.alignLost p l) p ((s.alignLost p l).lanesOf p)
  have hcarrying : ((s.alignLost p l).lanesFresh p ((s.alignLost p l).lanesOf p)).pstate p = PS.CARRYING := by
    refine (hfresh.regs _ _ (by omega) id).trans (((s.alignLost_frame p l).regs _ _ (by omega) ?_).trans h)
    simp [EventObj]
  rw [State.alignLoss_eq _ _ _ halign, State.linkLost_carrying 3 hcarrying]
  refine ⟨State.drain_pstate _ p 3, State.drain_cause _ p 3, ?_, State.drain_off _ p 3⟩
  rw [State.drain_reg _ p 3 _ _ (by omega) (by decide) (by simp [deliverObjs, holdObjs, EventObj]), hfresh.regs _ _ (by omega) id, State.alignLost,
    State.raise_reg _ _ _ _ _ _ _ _ (by omega) (by omega) (by simp [EventObj]), if_neg (by simp), State.reg_setReg_self]

/-! ## The outcome -/

theorem State.markerMissed_frame : Frame lossFields (fun _ _ => True) s (s.markerMissed p l bits) := by
  have hcounted : Frame lossFields (fun _ _ => True) s ((s.markerNoted p l bits).missCounted l) :=
    Frame.trans (F := lossFields) ((s.markerNoted_frame p l bits).widen (fun _ _ => rfl) fun _ _ _ => trivial)
      ((State.missCounted_frame _ l).widen (fun _ _ => rfl) fun _ _ _ => trivial)
  unfold State.markerMissed
  split
  · exact hcounted.trans ((State.formatMismatch_frame _ p).widen (fun _ _ => rfl) fun _ _ _ => trivial)
  · exact hcounted

theorem State.markerOutcome_frame : Frame lossFields (fun _ _ => True) s (s.markerOutcome p l lag bits due) := by
  have hnoted : Frame lossFields (fun _ _ => True) s (s.markerNoted p l bits) :=
    (s.markerNoted_frame p l bits).widen (fun _ _ => rfl) fun _ _ _ => trivial
  unfold State.markerOutcome
  split
  · exact Frame.trans (F := lossFields) ((s.markerCame_frame p l lag bits due).widen (fun _ _ => rfl) fun _ _ _ => trivial)
      ((State.alignJudged_frame _ p lag _ _).widen (fun _ _ => rfl) fun _ _ _ => trivial)
  · split
    · unfold State.missJudged
      split
      · exact (s.markerMissed_frame p l bits).trans ((State.alignLoss_frame _ p l).mono fun _ _ _ => trivial)
      · exact s.markerMissed_frame p l bits
    · split
      · rwa [frame_modOuterLane rfl]
      · exact hnoted

theorem State.markerOutcome_linksKept : LinksKept p s (s.markerOutcome p l lag bits due) := by
  have hnoted : (s.markerNoted p l bits).link = s.link := (s.markerNoted_frame p l bits).view State.link fun _ _ => rfl
  have hmissed : (s.markerMissed p l bits).link = s.link := by
    have hcounted := ((State.missCounted_frame (s.markerNoted p l bits) l).view State.link fun _ _ => rfl).trans hnoted
    unfold State.markerMissed
    split
    · exact ((State.formatMismatch_frame _ p).view State.link fun _ _ => rfl).trans hcounted
    · exact hcounted
  unfold State.markerOutcome
  split
  · refine .of_link (((State.alignJudged_frame _ p lag _ _).view State.link fun _ _ => rfl).trans ?_)
    exact (s.markerCame_frame p l lag bits due).view State.link fun _ _ => rfl
  · split
    · unfold State.missJudged
      split
      · exact (LinksKept.of_link hmissed).trans (State.alignLoss_linksKept _ p l)
      · exact .of_link hmissed
    · split
      · exact .of_link hnoted
      · exact .of_link hnoted

theorem State.markerOutcome_ordinary (hbad : markerGood l p bits = false) : s.markerOutcome p l lag bits false =
    (if s.pstate p = PS.SEARCH then (s.markerNoted p l bits).modOuterLane l (fun o => { o with mark := s.outerLane[l].mark })
      else s.markerNoted p l bits) := by
  unfold State.markerOutcome
  simp [hbad]

theorem State.markerOutcome_missed (hbad : markerGood l p bits = false) :
    s.markerOutcome p l lag bits true = ((s.markerTaken p l).missCounted l).missJudged p l := by
  unfold State.markerOutcome State.markerMissed
  simp [hbad, State.markerNoted_ordinary]

theorem State.markerOutcome_came (hgood : markerGood l p bits = true) (hmine : s.markerMine p bits = true)
    (hplace : markerField bits 2048 4 = l.val - p.val) :
    s.markerOutcome p l lag bits due = (s.markerCame p l lag bits due).alignJudged p lag (s.lanesOf p) (s.pstate p) := by
  unfold State.markerOutcome
  simp [hgood, hmine, hplace]

/-- An ordinary payload touches the lane's own record alone (R183). -/
theorem State.markerOutcome_ordinary_spec (hbad : markerGood l p bits = false) :
    let t := s.markerOutcome p l lag bits false
    t = { s with outerLane := t.outerLane } ∧ t.outerLane[l].streak = s.outerLane[l].streak ∧ t.outerLane[l].missed = s.outerLane[l].missed := by
  rw [State.markerOutcome_ordinary _ _ _ _ _ hbad, State.markerNoted_ordinary _ _ _ _ hbad]
  have hlane := s.markerTaken_lane p l
  split
  · refine ⟨rfl, ?_, ?_⟩
    · rw [State.modOuterLane_outerLane, hlane]
    · rw [State.modOuterLane_outerLane, hlane]
  · refine ⟨rfl, ?_, ?_⟩
    · rw [hlane]
    · rw [hlane]

/-- A miss ends the streak, and counts. -/
theorem State.missCounted_taken : let t := (s.markerTaken p l).missCounted l
    t.outerLane[l].streak = 0 ∧ t.outerLane[l].missed = s.outerLane[l].missed + 1 ∧
      t.reg Ob.LINK_MARKER_ERR (l.val + 1) = (min (2 ^ 32 - 1) (s.nat Ob.LINK_MARKER_ERR (l.val + 1) + 1) : Nat) := by
  unfold State.missCounted
  have hmissed : (s.markerTaken p l).outerLane[l].missed = s.outerLane[l].missed := by rw [State.markerTaken_lane]
  refine ⟨?_, ?_, State.bump_reg_self _ _ _ _⟩
  · rw [State.modOuterLane_outerLane]
  · rw [State.modOuterLane_outerLane]
    exact congrArg (· + 1) hmissed

theorem State.missJudged_count : (s.missJudged p l).reg Ob.LINK_MARKER_ERR (l.val + 1) = s.reg Ob.LINK_MARKER_ERR (l.val + 1) := by
  unfold State.missJudged
  split
  · exact (s.alignLoss_frame p l).regs _ _ (by omega) (by simp [beginObjs, searchObjs, deliverObjs, holdObjs, EventObj])
  · rfl

end

/-- Settles O23: the samples pass first; a marker that comes renews its lane, a miss counts and can lose the alignment, and what is neither
touches the lane's own record. -/
theorem markersAlignTheLanes : Obligations.MarkersAlignTheLanes := by
  unfold Obligations.MarkersAlignTheLanes
  refine ⟨fun s l p codes lag bits due => ?_, fun s l codes lag hno => ?_⟩
  · intro s1 o hits field good howner hruns hlock hplace
    have hrx := s.rxSamples_frame l codes
    have houter : s1.outerLane = s.outerLane := hrx.view State.outerLane fun _ _ => rfl
    have hlane : s1.outerLane[l] = o := congrArg (·[l]) houter
    have hlink : s1.link = s.link := hrx.view State.link fun _ _ => rfl
    have hreg (ix sub : Nat) (hsub : sub < 256) (h : ix ∉ [Ob.LINE_TL_FREQ_PPB, Ob.LINE_UNSETTLED_BLOCKS, Ob.TEST_LINE_BITS, Ob.TEST_LINE_ERRORS,
        Ob.ENG_STATE]) : s1.reg ix sub = s.reg ix sub := s.rxSamples_reg l codes hsub h
    have herr : s1.nat Ob.LINK_MARKER_ERR (l.val + 1) = s.nat Ob.LINK_MARKER_ERR (l.val + 1) :=
      congrArg Int.toNat (hreg _ _ (by omega) (by decide))
    have hgood : good ↔ markerGood l p bits = true := by simp [good, markerGood, hits, field, markerField]
    refine ⟨_, markerReceived_eq codes lag howner hruns hlock hplace, ?_, fun hbad hdue => ?_, fun hbad hdue => ?_, fun hok hwidth hrate hpos => ?_,
      fun q hq => ?_⟩
    · exact ((s1.markerOutcome_frame p l lag bits due).widen (G := { lossFields with tic := true, pool := true }) (fun _ _ => rfl)
        fun _ _ h => h).fields
    · have hfalse : markerGood l p bits = false := by simpa [hgood] using hbad
      rw [hdue]
      change State.reg (s1.markerOutcome p l lag bits true) _ _ = _ ∧ _
      rw [State.markerOutcome_missed _ _ _ _ _ hfalse]
      obtain ⟨hstreak, hmissed, hcount⟩ := s1.missCounted_taken p l
      rw [hlane] at hmissed
      rw [herr] at hcount
      refine ⟨(State.missJudged_count _ p l).trans hcount, fun hfew => ?_, fun hthree halign hcarrying => ?_⟩
      · rw [State.missJudged, if_neg (by omega)]
        exact ⟨hstreak, hmissed⟩
      · rw [State.missJudged, if_pos (by omega)]
        have hkeep (ix : Nat) (h : ix ≠ Ob.LINK_MARKER_ERR) : ((s1.markerTaken p l).missCounted l).reg ix (p.val + 1) = s1.reg ix (p.val + 1) :=
          ((State.missCounted_frame _ l).regs _ _ (by omega) fun hobj => h hobj.1)
        exact State.alignLoss_carrying _ p l ((hkeep _ (by decide)).trans ((hreg _ _ (by omega) (by decide)).trans halign))
          ((hkeep _ (by decide)).trans ((hreg _ _ (by omega) (by decide)).trans hcarrying))
    · have hfalse : markerGood l p bits = false := by simpa [hgood] using hbad
      obtain ⟨hfields, hstreak, hmissed⟩ := s1.markerOutcome_ordinary_spec p l lag bits hfalse
      rw [hdue]
      rw [hlane] at hstreak hmissed
      exact ⟨hfields, hstreak, hmissed⟩
    · have hlanesOf : s1.lanesOf p = s.lanesOf p := s.rxSamples_lanesOf l p codes
      have hrateOf : s1.rateActive p = s.rateActive p := congrArg Int.toNat (hreg _ _ (by omega) (by decide))
      have hmine : s1.markerMine p bits = true := by
        rw [State.markerMine, hlanesOf, hrateOf, Bool.and_eq_true, beq_iff_eq, beq_iff_eq]
        exact ⟨hwidth, Int.ofNat.inj hrate⟩
      rw [State.markerOutcome_came s1 p l lag bits due (hgood.mp hok) hmine hpos]
      have hjudged := State.alignJudged_frame (s1.markerCame p l lag bits due) p lag (s1.lanesOf p) (s1.pstate p)
      have hlanes : State.outerLane _ = _ := hjudged.view State.outerLane fun _ _ => rfl
      obtain ⟨hmissed, hstreak⟩ := s1.markerCame_lane p l lag bits due
      rw [hlane] at hstreak
      refine ⟨?_, ?_, ?_, ?_⟩
      · rw [hlanes, hmissed]
      · rw [hlanes, hstreak]
      · rw [hjudged.regs _ _ (by omega) (by simp [judgeObjs, EventObj])]
        exact State.reg_setReg_self _ _ _ _
      · rw [hjudged.regs _ _ (by omega) (by simp [judgeObjs, EventObj]), (s1.markerCame_frame p l lag bits due).regs _ _ (by omega) (by simp),
          hreg _ _ (by omega) (by decide)]
    · exact (s1.markerOutcome_linksKept p l lag bits due q hq).trans (congrArg (·[q]) hlink)
  · change execMarkerReceived l codes lag s = _
    unfold execMarkerReceived
    simp only [State.rxSamples_portOf]
    split
    · rfl
    · rename_i p howner
      have hstate : (s.rxSamples l codes).pstate p = s.pstate p := s.rxSamples_reg l codes (by omega) (by simp)
      rw [State.rxSamples_linkRuns, State.rxSamples_srch, hstate]
      rcases hno p howner with hruns | ⟨hsearch, hlock⟩ | hplace
      · rw [if_pos (by simp [hruns])]
      · rw [if_pos (by simp only [hsearch, hlock]; simp)]
      · simp only [hplace]
        split <;> rfl

end Sys2Proof.Machine

/-! SUPPORT. The optics sequences, step by step (R258, R261, R263). -/

namespace Sys2Proof.Machine

section
variable (s : State) (l : Fin 8)

theorem State.modTx_lane (f : TxLane → TxLane) : (s.modTx l f).tx[l] = f s.tx[l] := by simp [State.modTx]

theorem State.modTx_others (f : TxLane → TxLane) (k : Fin 8) (hk : k ≠ l) : (s.modTx l f).tx[k] = s.tx[k] := getElem_set_other _ _ _ hk

/-! ## A bias step -/

theorem State.biasStart_frame (up : Bool) :
    Frame { regs := true, hk := true } (fun ix sub => ix = Ob.HK_LOAD_COUNT ∧ sub = 0) s (s.biasStart l up) := by
  have hload (t : State) : Frame { regs := true, hk := true } (fun ix sub => ix = Ob.HK_LOAD_COUNT ∧ sub = 0) s (t.adacLoad 0) ↔
      Frame { regs := true, hk := true } (fun ix sub => ix = Ob.HK_LOAD_COUNT ∧ sub = 0) s t := by
    refine Frame.iff ?_
    unfold State.adacLoad
    simp
  unfold State.biasStart State.adacPut
  simp [frame_forEach, hload]

/-- A bias step begun: the sequence goes to the step's number. -/
def State.biasBegun (up : Bool) (step : Int) : State :=
  ((s.biasStart l up).modTx l (fun x => { x with biasRun := !(s.biasChans l).isEmpty })).setReg Ob.OPTICS_SEQ_STATE (l.val + 1) step

theorem State.biasBegun_spec (up : Bool) (step : Int) : let t := s.biasBegun l up step
    t = { s with regs := t.regs, tx := t.tx, hk := t.hk } ∧ t.seq l = step ∧ t.tx[l] = { s.tx[l] with biasRun := !(s.biasChans l).isEmpty } ∧
      (∀ k : Fin 8, k ≠ l → t.tx[k] = s.tx[k]) := by
  have hl : l.val + 1 < 256 := by omega
  have hstart := s.biasStart_frame l up
  have htx : (s.biasStart l up).tx = s.tx := hstart.view State.tx fun _ _ => rfl
  have hframe : Frame { regs := true, tx := true, hk := true } (fun _ _ => True) s (s.biasBegun l up step) := by
    unfold State.biasBegun
    rw [frame_setReg rfl hl trivial, frame_modTx rfl]
    exact hstart.widen (fun _ _ => rfl) fun _ _ _ => trivial
  refine ⟨hframe.fields, State.reg_setReg_self _ _ _ _, ?_, fun k hk => ?_⟩
  · unfold State.biasBegun
    rw [State.setReg_tx, State.modTx_lane, htx]
  · unfold State.biasBegun
    rw [State.setReg_tx, State.modTx_others _ _ _ _ hk, htx]

/-! ## The last up step -/

/-- The laser on, before the votes. -/
def State.laserOn : State :=
  let s1 := ((s.modTx l (fun x => { x with laser := true })).setReg Ob.OPTICS_SEQ_STATE (l.val + 1) 4).setReg Ob.TX_STATE (l.val + 1) 4
  if s1.tx[l].apc then s1.setReg Ob.OPTICS_APC_STATE (l.val + 1) 2 else s1

theorem State.laserOn_frame : Frame { regs := true, tx := true } (fun ix sub =>
    ix ∈ [Ob.OPTICS_SEQ_STATE, Ob.TX_STATE, Ob.OPTICS_APC_STATE] ∧ sub = l.val + 1) s (s.laserOn l) := by
  have hl : l.val + 1 < 256 := by omega
  unfold State.laserOn
  dsimp only
  split <;> simp [hl]

theorem State.laserOn_tx : (s.laserOn l).tx = s.tx.set l { s.tx[l] with laser := true } := by
  unfold State.laserOn
  dsimp only
  split <;> rfl

theorem State.laserOn_states : (s.laserOn l).seq l = 4 ∧ (s.laserOn l).txState l = 4 := by
  have hseq (t : State) (ix : Nat) (v : Int) (h : ix ≠ Ob.OPTICS_SEQ_STATE) : (t.setReg ix (l.val + 1) v).seq l = t.seq l :=
    State.reg_setReg_ne _ _ _ _ _ _ (objKey_ne_of_ix (by omega) (by omega) h)
  have hstate (t : State) (ix : Nat) (v : Int) (h : ix ≠ Ob.TX_STATE) : (t.setReg ix (l.val + 1) v).txState l = t.txState l :=
    State.reg_setReg_ne _ _ _ _ _ _ (objKey_ne_of_ix (by omega) (by omega) h)
  unfold State.laserOn
  dsimp only
  split
  · rw [hseq _ _ _ (by decide), hseq _ _ _ (by decide), hstate _ _ _ (by decide)]
    exact ⟨State.reg_setReg_self _ _ _ _, State.reg_setReg_self _ _ _ _⟩
  · rw [hseq _ _ _ (by decide)]
    exact ⟨State.reg_setReg_self _ _ _ _, State.reg_setReg_self _ _ _ _⟩

theorem State.laserOn_apc (h : s.tx[l].apc = true) : (s.laserOn l).reg Ob.OPTICS_APC_STATE (l.val + 1) = 2 := by
  have hapc : (((s.modTx l (fun x => { x with laser := true })).setReg Ob.OPTICS_SEQ_STATE (l.val + 1) 4).setReg Ob.TX_STATE (l.val + 1)
      4).tx[l].apc = true := by
    rw [State.setReg_tx, State.setReg_tx, State.modTx_lane]
    exact h
  unfold State.laserOn
  dsimp only
  rw [if_pos hapc]
  exact State.reg_setReg_self _ _ _ _

theorem State.apcVote_frame : Frame { regs := true, doms := true, mmp := true } PowerObj s s.apcVote := by
  unfold State.apcVote
  simp

/-! ## The down steps -/

theorem State.downOutput_frame : Frame { regs := true, tx := true } (fun ix sub =>
    ix ∈ [Ob.OPTICS_SEQ_STATE, Ob.TX_WAVE_RAMPING] ∧ sub = l.val + 1) s (s.downOutput l) := by
  have hl : l.val + 1 < 256 := by omega
  unfold State.downOutput
  rw [frame_setReg rfl hl (by simp), ((State.waveRetarget_frame _ l).mono fun _ _ h => by simp [h]).iff]
  simp

theorem State.downOutput_lane :
    (s.downOutput l).tx[l] = { s.tx[l] with output := false, seqMute := true, wave := (s.downOutput l).tx[l].wave } := by
  unfold State.downOutput
  rw [State.setReg_tx, State.waveRetarget_lane]
  simp [State.modTx]

theorem State.downOutput_muted : (s.downOutput l).txMuted l = true := by
  have hmute : (s.downOutput l).tx[l].seqMute = true := by rw [State.downOutput_lane]
  unfold State.txMuted
  rw [hmute]
  rfl

theorem State.downOutput_others (k : Fin 8) (hk : k ≠ l) : (s.downOutput l).tx[k] = s.tx[k] := by
  unfold State.downOutput
  rw [State.setReg_tx, State.waveRetarget_others _ _ _ hk, State.modTx_others _ _ _ _ hk]

theorem State.downEnd_tx : (s.downEnd l).tx = s.tx.set l { s.tx[l] with supply := false, seqMute := true } := by
  unfold State.downEnd
  dsimp only
  split <;> rfl

theorem State.downEnd_frame :
    Frame { regs := true, tx := true } (fun ix sub => ix ∈ [Ob.OPTICS_SEQ_STATE, Ob.TX_STATE] ∧ sub = l.val + 1) s (s.downEnd l) := by
  have hl : l.val + 1 < 256 := by omega
  unfold State.downEnd
  simp [hl]

theorem State.downEnd_states :
    (s.downEnd l).seq l = 0 ∧ (s.downEnd l).txState l = (if s.txState l = 3 ∨ s.txState l = 4 then 2 else s.txState l) := by
  have hstate : ((s.modTx l (fun x => { x with supply := false, seqMute := true })).setReg Ob.OPTICS_SEQ_STATE (l.val + 1) 0).txState l =
      s.txState l := State.reg_setReg_ne _ _ _ _ _ _ (objKey_ne_of_ix (by omega) (by omega) (by decide))
  unfold State.downEnd
  dsimp only
  rw [hstate]
  split
  · exact ⟨(State.reg_setReg_ne _ _ _ _ _ _ (objKey_ne_of_ix (by omega) (by omega) (by decide))).trans (State.reg_setReg_self _ _ _ _),
      State.reg_setReg_self _ _ _ _⟩
  · exact ⟨State.reg_setReg_self _ _ _ _, hstate⟩

theorem State.upStart_frame :
    Frame { regs := true, tx := true } (fun ix sub => ix ∈ [Ob.OPTICS_SEQ_STATE, Ob.TX_STATE] ∧ sub = l.val + 1) s (s.upStart l) := by
  have hl : l.val + 1 < 256 := by omega
  unfold State.upStart
  simp [hl]

theorem State.upStart_lane : (s.upStart l).tx[l] =
    { s.tx[l] with supply := true, held := false, bias := s.nat Ob.OPTICS_BIAS_MAP (l.val + 1) } := by
  unfold State.upStart
  rw [State.setReg_tx, State.setReg_tx, State.modTx_lane]

theorem State.upStart_states : (s.upStart l).seq l = 1 ∧ (s.upStart l).txState l = 3 :=
  ⟨State.reg_setReg_self _ _ _ _,
    (State.reg_setReg_ne _ _ _ _ _ _ (objKey_ne_of_ix (by omega) (by omega) (by decide))).trans (State.reg_setReg_self _ _ _ _)⟩

/-- The end of the down sequence; a held enable runs. -/
def State.downOver : State := if (s.downEnd l).tx[l].held ∧ (s.downEnd l).txState l = 2 then (s.downEnd l).upStart l else s.downEnd l

theorem State.downEnd_lane : (s.downEnd l).tx[l] = { s.tx[l] with supply := false, seqMute := true } := by simp [State.downEnd_tx]

theorem State.downOver_cases : s.downOver l = (s.downEnd l).upStart l ∨ s.downOver l = s.downEnd l := ite_eq_or_eq _ _ _

theorem State.downOver_frame :
    Frame { regs := true, tx := true } (fun ix sub => ix ∈ [Ob.OPTICS_SEQ_STATE, Ob.TX_STATE] ∧ sub = l.val + 1) s (s.downOver l) := by
  unfold State.downOver
  split
  · exact (s.downEnd_frame l).trans (State.upStart_frame _ l)
  · exact s.downEnd_frame l

theorem State.downOver_idle (h : s.tx[l].held = false) : s.downOver l = s.downEnd l :=
  if_neg fun hand => by
    have hheld : s.tx[l].held = true := by simpa only [State.downEnd_lane] using hand.1
    exact absurd (h.symm.trans hheld) (by decide)

theorem State.downOver_held (h : s.tx[l].held = true) (hstate : s.txState l = 3) : s.downOver l = (s.downEnd l).upStart l :=
  if_pos (by rw [State.downEnd_lane, (s.downEnd_states l).2, hstate]; exact ⟨h, rfl⟩)

theorem State.downOver_muted : (s.downOver l).tx[l].seqMute = true := by
  rcases s.downOver_cases l with h | h
  · rw [h, State.upStart_lane, State.downEnd_lane]
  · rw [h, State.downEnd_lane]

theorem State.downOver_others (k : Fin 8) (hk : k ≠ l) : (s.downOver l).tx[k] = s.tx[k] := by
  have hend : (s.downEnd l).tx[k] = s.tx[k] := by
    rw [State.downEnd_tx]
    exact getElem_set_other _ _ _ hk
  rcases s.downOver_cases l with h | h
  · rw [h, State.upStart, State.setReg_tx, State.setReg_tx, State.modTx_others _ _ _ _ hk, hend]
  · rw [h, hend]

end

/-- Settles O30: the steps by the number of the sequence's state. -/
theorem opticsSequences : Obligations.OpticsSequences := by
  unfold Obligations.OpticsSequences
  refine ⟨fun s l h => ?_, fun s l h hrun => ?_, fun s l h => ?_, fun s l h => ?_, fun s l h => ?_, fun s l h hrun => ?_, fun s l hrun => ?_,
    fun s l => ?_⟩
  · exact ⟨s.biasBegun l true 2, if_pos h, s.biasBegun_spec l true 2⟩
  · have hl : l.val + 1 < 256 := by omega
    refine ⟨(s.modTx l (fun x => { x with output := true, seqMute := false })).setReg Ob.OPTICS_SEQ_STATE (l.val + 1) 3, ?_, rfl,
      State.reg_setReg_self _ _ _ _, s.modTx_lane l (fun x => { x with output := true, seqMute := false }),
      s.modTx_others l (fun x => { x with output := true, seqMute := false }), ?_⟩
    · exact (if_neg (by omega)).trans (if_pos ⟨h, by rw [hrun]; rfl⟩)
    · exact Frame.regs (F := .all) (by simp [hl])
  · have hvotes := (s.laserOn l).apcVote_frame
    have hlaser := s.laserOn_frame l
    have hboth := Frame.trans (F := { regs := true, tx := true, doms := true, mmp := true }) (P := fun _ _ => True)
      (hlaser.widen (fun _ _ => rfl) fun _ _ _ => trivial) (hvotes.widen (fun _ _ => rfl) fun _ _ _ => trivial)
    have htx : (s.laserOn l).apcVote.tx = s.tx.set l { s.tx[l] with laser := true } := (hvotes.view State.tx fun _ _ => rfl).trans (s.laserOn_tx l)
    obtain ⟨hseq, hstate⟩ := s.laserOn_states l
    refine ⟨(s.laserOn l).apcVote, ?_, hboth.fields, ?_, ?_, ?_, fun k hk => ?_, fun hapc => ?_⟩
    · exact (if_neg (by omega)).trans ((if_neg (by rintro ⟨h', -⟩; omega)).trans (if_pos h))
    · exact (hvotes.regs _ _ (by omega) (by unfold PowerObj; decide)).trans hseq
    · exact (hvotes.regs _ _ (by omega) (by unfold PowerObj; decide)).trans hstate
    · rw [htx]
      simp
    · rw [htx]
      exact getElem_set_other _ _ _ hk
    · exact (hvotes.regs _ _ (by omega) (by unfold PowerObj; decide)).trans (s.laserOn_apc l hapc)
  · exact ⟨s.downOutput l, if_pos h, (s.downOutput_frame l).fields, State.reg_setReg_self _ _ _ _, s.downOutput_lane l, s.downOutput_muted l,
      s.downOutput_others l, (s.downOutput_frame l).regs⟩
  · exact ⟨s.biasBegun l false 7, (if_neg (by omega)).trans (if_pos h), s.biasBegun_spec l false 7⟩
  · refine ⟨s.downOver l, ?_, (s.downOver_frame l).fields, fun hheld => ?_, fun hheld hstate => ?_, s.downOver_muted l, s.downOver_others l⟩
    · exact (if_neg (by omega)).trans ((if_neg (by omega)).trans (if_pos ⟨h, by rw [hrun]; rfl⟩))
    · rw [State.downOver_idle _ _ hheld, State.downEnd_lane]
      exact ⟨(s.downEnd_states l).1, rfl, (s.downEnd_states l).2⟩
    · rw [State.downOver_held _ _ hheld hstate, State.upStart_lane]
      exact ⟨(State.upStart_states _ l).1, rfl, rfl, (State.upStart_states _ l).2⟩
  · refine ⟨fun hdone => ?_, fun h => ?_, fun h => ?_⟩
    · exact ⟨s.modTx l (fun x => { x with biasRun := false }), if_pos ⟨hrun, hdone⟩, rfl,
        s.modTx_lane l (fun x => { x with biasRun := false }), s.modTx_others l (fun x => { x with biasRun := false })⟩
    · exact (if_neg (by omega)).trans ((if_neg (by rw [hrun]; simp)).trans (if_neg (by omega)))
    · exact (if_neg (by omega)).trans ((if_neg (by omega)).trans (if_neg (by rw [hrun]; simp)))
  · refine ⟨fun h => ?_, fun h => ?_⟩
    · exact (if_neg (by omega)).trans ((if_neg (by rintro ⟨h', -⟩; omega)).trans (if_neg (by omega)))
    · exact (if_neg (by omega)).trans ((if_neg (by omega)).trans (if_neg (by rintro ⟨h', -⟩; omega)))

end Sys2Proof.Machine

/-! SUPPORT. The calibration of a transmit synthesiser, its failures and its relock (R253 to R257). -/

namespace Sys2Proof.Machine

section
variable (s : State) (l : Fin 8)

/-! ## A calibration that fails -/

/-- A failed calibration, before the port hears of it. -/
def State.calFailed (why : Nat) : State :=
  (((s.setReg Ob.TX_SYNTH_STATE (l.val + 1) 5).setReg Ob.TX_STATE (l.val + 1) 0).modTx l (fun x => { x with held := false })).raise
    Src.TX_SYNTH_CAL_FAIL l.val (l.val + 256 * why + 4096 * s.calRate l) Ob.TX_EVENTS (l.val + 1)

theorem State.txCalFail_eq (why : Nat) : s.txCalFail l why = (s.calFailed l why).portCalFail l := rfl

theorem State.calFailed_frame (why : Nat) : Frame { regs := true, tx := true, lookout := true, cap := true }
    (fun ix sub => (ix ∈ [Ob.TX_SYNTH_STATE, Ob.TX_STATE, Ob.TX_EVENTS] ∧ sub = l.val + 1) ∨ EventObj ix sub) s (s.calFailed l why) := by
  have hl : l.val + 1 < 256 := by omega
  unfold State.calFailed
  simp [hl]

theorem State.calFailed_tx (why : Nat) : (s.calFailed l why).tx = s.tx.set l { s.tx[l] with held := false } := by
  unfold State.calFailed
  rw [State.raise_eq]
  rfl

theorem State.calFailed_states (why : Nat) : (s.calFailed l why).txSynth l = 5 ∧ (s.calFailed l why).txState l = 0 := by
  have hraised (ix : Nat) (hix : Ob.TX_EVENTS ≠ ix) (hevent : ¬ EventObj ix (l.val + 1)) : (s.calFailed l why).reg ix (l.val + 1) =
      ((s.setReg Ob.TX_SYNTH_STATE (l.val + 1) 5).setReg Ob.TX_STATE (l.val + 1) 0).reg ix (l.val + 1) := by
    unfold State.calFailed
    rw [State.raise_reg _ _ _ _ _ _ _ _ (by omega) (by omega) hevent, if_neg (by simp [hix]), State.modTx_reg]
  refine ⟨(hraised _ (by decide) (by simp [EventObj])).trans ?_, (hraised _ (by decide) (by simp [EventObj])).trans (State.reg_setReg_self _ _ _ _)⟩
  exact (State.reg_setReg_ne _ _ _ _ _ _ (objKey_ne_of_ix (by omega) (by omega) (by decide))).trans (State.reg_setReg_self _ _ _ _)

theorem State.calFailed_events (why : Nat) : (s.calFailed l why).reg Ob.TX_EVENTS (l.val + 1) =
    (min (2 ^ 32 - 1) (s.nat Ob.TX_EVENTS (l.val + 1) + 1) : Nat) := by
  unfold State.calFailed
  rw [State.raise_counter _ _ _ _ _ _ (by omega) (by simp [EventObj]), State.nat, State.modTx_reg,
    State.reg_setReg_ne _ _ _ _ _ _ (objKey_ne_of_ix (by omega) (by omega) (by decide)),
    State.reg_setReg_ne _ _ _ _ _ _ (objKey_ne_of_ix (by omega) (by omega) (by decide))]
  rfl

/-! ## A calibration that ends -/

/-- A calibrated lane, its held enable run, before the port hears of it. -/
def State.calEnded : State :=
  if (s.txCalibrated l).tx[l].held ∧ (s.txCalibrated l).seq l = 0 then (s.txCalibrated l).upStart l else s.txCalibrated l

theorem State.txCalEnd_eq : s.txCalEnd l = (s.calEnded l).laneSettle l := rfl

/-- The objects that the end of a calibration writes. -/
def calObjs : List Nat := [Ob.TX_STATE, Ob.TX_SYNTH_CAL_TIME, Ob.TX_SYNTH_CAL_COUNT, Ob.TX_WAVE_RAMPING, Ob.OPTICS_SEQ_STATE]

/-- The lane as its calibration counts, before its working table is taken. -/
def State.calCounted : State :=
  (((s.modTx l (fun x => { x with preState := 0, precode := s.flag Ob.TX_PRECODE (l.val + 1), sent := [] })).setReg Ob.TX_STATE (l.val + 1)
    2).setStamp Ob.TX_SYNTH_CAL_TIME (l.val + 1)).bump Ob.TX_SYNTH_CAL_COUNT (l.val + 1) 1

theorem State.calCounted_frame : Frame { regs := true, tx := true }
    (fun ix sub => ix ∈ [Ob.TX_STATE, Ob.TX_SYNTH_CAL_TIME, Ob.TX_SYNTH_CAL_COUNT] ∧ sub = l.val + 1) s (s.calCounted l) := by
  have hl : l.val + 1 < 256 := by omega
  unfold State.calCounted
  simp [hl]

theorem State.calCounted_tx :
    (s.calCounted l).tx = s.tx.set l { s.tx[l] with preState := 0, precode := s.flag Ob.TX_PRECODE (l.val + 1), sent := [] } := rfl

theorem State.txCalibrated_eq : s.txCalibrated l = (s.calCounted l).waveRetarget l := rfl

theorem State.txCalibrated_frame :
    Frame { regs := true, tx := true } (fun ix sub => ix ∈ calObjs ∧ sub = l.val + 1) s (s.txCalibrated l) :=
  Frame.trans ((s.calCounted_frame l).mono fun ix sub h => ⟨(by decide : ∀ ix ∈ [Ob.TX_STATE, Ob.TX_SYNTH_CAL_TIME, Ob.TX_SYNTH_CAL_COUNT],
    ix ∈ calObjs) ix h.1, h.2⟩) ((State.waveRetarget_frame _ l).mono fun ix sub h => ⟨h.1 ▸ (by decide), h.2⟩)

theorem State.txCalibrated_reg (ix : Nat) (h : ix ≠ Ob.TX_WAVE_RAMPING) : (s.txCalibrated l).reg ix (l.val + 1) = (s.calCounted l).reg ix (l.val + 1) :=
  (State.waveRetarget_frame _ l).regs _ _ (by omega) fun hobj => h hobj.1

theorem State.txCalibrated_lane : (s.txCalibrated l).tx[l] =
    { s.tx[l] with preState := 0, precode := s.flag Ob.TX_PRECODE (l.val + 1), sent := [], wave := (s.txCalibrated l).tx[l].wave } := by
  rw [State.txCalibrated_eq, State.waveRetarget_lane, State.calCounted_tx]
  simp

theorem State.txCalibrated_others (k : Fin 8) (hk : k ≠ l) : (s.txCalibrated l).tx[k] = s.tx[k] := by
  rw [State.txCalibrated_eq, State.waveRetarget_others _ _ _ hk, State.calCounted_tx]
  exact getElem_set_other _ _ _ hk

theorem State.txCalibrated_seq : (s.txCalibrated l).seq l = s.seq l :=
  (s.txCalibrated_reg l _ (by decide)).trans ((s.calCounted_frame l).regs _ _ (by omega) (by simp))

theorem State.txCalibrated_state : (s.txCalibrated l).txState l = 2 :=
  (s.txCalibrated_reg l _ (by decide)).trans ((State.reg_setReg_ne _ _ _ _ _ _ (objKey_ne_of_ix (by omega) (by omega) (by decide))).trans
    ((State.reg_setReg_ne _ _ _ _ _ _ (objKey_ne_of_ix (by omega) (by omega) (by decide))).trans (State.reg_setReg_self _ _ _ _)))

theorem State.txCalibrated_held : (s.txCalibrated l).tx[l].held = s.tx[l].held := by rw [State.txCalibrated_lane]

theorem State.calEnded_cases : (s.tx[l].held = true ∧ s.seq l = 0 ∧ s.calEnded l = (s.txCalibrated l).upStart l) ∨
    (¬ (s.tx[l].held = true ∧ s.seq l = 0) ∧ s.calEnded l = s.txCalibrated l) := by
  unfold State.calEnded
  rw [State.txCalibrated_held, State.txCalibrated_seq]
  by_cases h : s.tx[l].held = true ∧ s.seq l = 0
  · exact .inl ⟨h.1, h.2, if_pos h⟩
  · exact .inr ⟨h, if_neg h⟩

theorem State.calEnded_frame : Frame { regs := true, tx := true } (fun ix sub => ix ∈ calObjs ∧ sub = l.val + 1) s (s.calEnded l) := by
  rcases s.calEnded_cases l with ⟨-, -, h⟩ | ⟨-, h⟩
  · rw [h]
    refine (s.txCalibrated_frame l).trans ((State.upStart_frame _ l).mono fun ix sub hobj => ⟨?_, hobj.2⟩)
    exact (by decide : ∀ ix ∈ [Ob.OPTICS_SEQ_STATE, Ob.TX_STATE], ix ∈ calObjs) ix hobj.1
  · rw [h]
    exact s.txCalibrated_frame l

theorem State.calEnded_state : (s.calEnded l).txState l = (if s.tx[l].held = true ∧ s.seq l = 0 then 3 else 2) := by
  rcases s.calEnded_cases l with ⟨hheld, hseq, h⟩ | ⟨hno, h⟩
  · rw [h, if_pos ⟨hheld, hseq⟩, (State.upStart_states _ l).2]
  · rw [h, if_neg hno, State.txCalibrated_state]

theorem State.calEnded_reg (ix : Nat) (h : ix ∉ [Ob.TX_WAVE_RAMPING, Ob.OPTICS_SEQ_STATE, Ob.TX_STATE]) :
    (s.calEnded l).reg ix (l.val + 1) = (s.calCounted l).reg ix (l.val + 1) := by
  have hwave : ix ≠ Ob.TX_WAVE_RAMPING := fun heq => h (heq ▸ List.mem_cons_self)
  rcases s.calEnded_cases l with ⟨-, -, heq⟩ | ⟨-, heq⟩
  · rw [heq, (State.upStart_frame _ l).regs _ _ (by omega) fun hobj => h (List.mem_cons_of_mem _ hobj.1), State.txCalibrated_reg _ _ _ hwave]
  · rw [heq, State.txCalibrated_reg _ _ _ hwave]

theorem State.calEnded_count : (s.calEnded l).reg Ob.TX_SYNTH_CAL_COUNT (l.val + 1) =
    (min (2 ^ 32 - 1) (s.nat Ob.TX_SYNTH_CAL_COUNT (l.val + 1) + 1) : Nat) := by
  have hbefore (t : State) (v : Int) : ((t.setReg Ob.TX_STATE (l.val + 1) v).setStamp Ob.TX_SYNTH_CAL_TIME (l.val + 1)).nat Ob.TX_SYNTH_CAL_COUNT
      (l.val + 1) = t.nat Ob.TX_SYNTH_CAL_COUNT (l.val + 1) :=
    congrArg Int.toNat ((State.reg_setReg_ne _ _ _ _ _ _ (objKey_ne_of_ix (by omega) (by omega) (by decide))).trans
      (State.reg_setReg_ne _ _ _ _ _ _ (objKey_ne_of_ix (by omega) (by omega) (by decide))))
  rw [State.calEnded_reg _ _ _ (by decide), State.calCounted, State.bump_reg_self, hbefore]
  rfl

theorem State.calEnded_time : (s.calEnded l).reg Ob.TX_SYNTH_CAL_TIME (l.val + 1) = (s.stamp : Int) := by
  rw [State.calEnded_reg _ _ _ (by decide), State.calCounted, State.bump, State.bumpTo,
    State.reg_setReg_ne _ _ _ _ _ _ (objKey_ne_of_ix (by omega) (by omega) (by decide)), State.setStamp, State.reg_setReg_self]
  rfl

theorem State.calEnded_lane : (s.calEnded l).tx[l].preState = 0 ∧ (s.calEnded l).tx[l].fs = s.tx[l].fs := by
  rcases s.calEnded_cases l with ⟨-, -, h⟩ | ⟨-, h⟩
  · rw [h, State.upStart_lane, State.txCalibrated_lane]
    exact ⟨rfl, rfl⟩
  · rw [h, State.txCalibrated_lane]
    exact ⟨rfl, rfl⟩

theorem State.calEnded_others (k : Fin 8) (hk : k ≠ l) : (s.calEnded l).tx[k] = s.tx[k] := by
  rcases s.calEnded_cases l with ⟨-, -, h⟩ | ⟨-, h⟩
  · rw [h, State.upStart, State.setReg_tx, State.setReg_tx, State.modTx_others _ _ _ _ hk, State.txCalibrated_others _ _ _ hk]
  · rw [h, State.txCalibrated_others _ _ _ hk]

/-! ## The DAC check -/

/-- The measured full scale stored, with its event where it is off by more than 10 % (R254). -/
def State.dacMeasured (mv : Nat) : State :=
  let s1 := (s.setReg Ob.TX_DAC_FS_MEAS (l.val + 1) (min 65535 mv : Nat)).modTx l (fun x => { x with fs := s.nat Ob.TX_DAC_FS_MVPPD (l.val + 1) })
  if s.nat Ob.TX_DAC_FS_MVPPD (l.val + 1) <
      10 * (max mv (s.nat Ob.TX_DAC_FS_MVPPD (l.val + 1)) - min mv (s.nat Ob.TX_DAC_FS_MVPPD (l.val + 1))) then
    s1.raise Src.TX_DAC_FS l.val (l.val + 65536 * min 65535 mv) Ob.TX_EVENTS (l.val + 1) else s1

theorem State.dacMeasured_frame (mv : Nat) : Frame { regs := true, tx := true, lookout := true, cap := true }
    (fun ix sub => (ix ∈ [Ob.TX_DAC_FS_MEAS, Ob.TX_EVENTS] ∧ sub = l.val + 1) ∨ EventObj ix sub) s (s.dacMeasured l mv) := by
  have hl : l.val + 1 < 256 := by omega
  unfold State.dacMeasured
  dsimp only
  split <;> simp [hl]

theorem State.dacMeasured_tx (mv : Nat) :
    (s.dacMeasured l mv).tx = s.tx.set l { s.tx[l] with fs := s.nat Ob.TX_DAC_FS_MVPPD (l.val + 1) } := by
  unfold State.dacMeasured
  dsimp only
  split
  · rw [State.raise_eq]
    rfl
  · rfl

theorem State.dacMeasured_value (mv : Nat) : (s.dacMeasured l mv).reg Ob.TX_DAC_FS_MEAS (l.val + 1) = (min 65535 mv : Nat) := by
  unfold State.dacMeasured
  dsimp only
  split
  · rw [State.raise_reg _ _ _ _ _ _ _ _ (by omega) (by omega) (by simp [EventObj]), if_neg (by simp)]
    exact State.reg_setReg_self _ _ _ _
  · exact State.reg_setReg_self _ _ _ _

theorem natAbs_sub_cast (a b : Nat) : ((a : Int) - b).natAbs = max a b - min a b := by omega

theorem State.dacMeasured_events (mv : Nat) : (s.dacMeasured l mv).reg Ob.TX_EVENTS (l.val + 1) =
    (if s.nat Ob.TX_DAC_FS_MVPPD (l.val + 1) < 10 * ((mv : Int) - s.nat Ob.TX_DAC_FS_MVPPD (l.val + 1)).natAbs then
      ((min (2 ^ 32 - 1) (s.nat Ob.TX_EVENTS (l.val + 1) + 1) : Nat) : Int) else s.reg Ob.TX_EVENTS (l.val + 1)) := by
  have hkept (t : State) (v : Int) : (t.setReg Ob.TX_DAC_FS_MEAS (l.val + 1) v).reg Ob.TX_EVENTS (l.val + 1) = t.reg Ob.TX_EVENTS (l.val + 1) :=
    State.reg_setReg_ne _ _ _ _ _ _ (objKey_ne_of_ix (by omega) (by omega) (by decide))
  rw [natAbs_sub_cast]
  unfold State.dacMeasured
  dsimp only
  split
  · rw [State.raise_counter _ _ _ _ _ _ (by omega) (by simp [EventObj]), State.nat, State.modTx_reg, hkept]
    rfl
  · rw [State.modTx_reg, hkept]

/-! ## The loss of lock -/

/-- A lane whose synthesiser lost lock (R257). -/
def State.txLockLost : State :=
  ((((s.setReg Ob.TX_SYNTH_STATE (l.val + 1) 4).modTx l (fun x => { x with lockMute := true, relocked := false })).waveRetarget l).bump
    Ob.TX_SYNTH_UNLOCKS (l.val + 1) 1).raise Src.TX_SYNTH_UNLOCK l.val (l.val + 256 * min 15 s.tx[l].attempts + 4096 * s.tx[l].bandRep.toNat)
    Ob.TX_EVENTS (l.val + 1)

theorem State.txLockLost_frame : Frame { regs := true, tx := true, lookout := true, cap := true } (fun ix sub =>
    (ix ∈ [Ob.TX_SYNTH_STATE, Ob.TX_SYNTH_UNLOCKS, Ob.TX_EVENTS, Ob.TX_WAVE_RAMPING] ∧ sub = l.val + 1) ∨ EventObj ix sub) s (s.txLockLost l) := by
  have hl : l.val + 1 < 256 := by omega
  unfold State.txLockLost
  rw [frame_raise rfl rfl rfl (fun _ _ => .inr) hl (.inl ⟨by simp, rfl⟩), frame_bump rfl hl (.inl ⟨by simp, rfl⟩),
    ((State.waveRetarget_frame _ l).widen (G := { regs := true, tx := true, lookout := true, cap := true }) (fun _ _ => rfl)
      fun _ _ h => .inl ⟨by simp [h.1], h.2⟩).iff]
  simp [hl]

theorem State.txLockLost_tx : (s.txLockLost l).tx =
    (((s.setReg Ob.TX_SYNTH_STATE (l.val + 1) 4).modTx l (fun x => { x with lockMute := true, relocked := false })).waveRetarget l).tx := by
  unfold State.txLockLost
  rw [State.raise_eq]
  rfl

theorem State.txLockLost_lane : (s.txLockLost l).tx[l] =
    { s.tx[l] with lockMute := true, relocked := false, wave := (s.txLockLost l).tx[l].wave } := by
  rw [State.txLockLost_tx, State.waveRetarget_lane]
  simp [State.modTx, State.setReg]

theorem State.txLockLost_others (k : Fin 8) (hk : k ≠ l) : (s.txLockLost l).tx[k] = s.tx[k] := by
  rw [State.txLockLost_tx, State.waveRetarget_others _ _ _ hk, State.modTx_others _ _ _ _ hk, State.setReg_tx]

theorem State.txLockLost_muted : (s.txLockLost l).txMuted l = true := by
  have hmute : (s.txLockLost l).tx[l].lockMute = true := by rw [State.txLockLost_lane]
  unfold State.txMuted
  rw [hmute]
  simp

/-- The lane between the loss of lock and its counts. -/
theorem State.txLockLost_before (ix : Nat) (hstate : Ob.TX_SYNTH_STATE ≠ ix) (hwave : ix ≠ Ob.TX_WAVE_RAMPING) :
    (((s.setReg Ob.TX_SYNTH_STATE (l.val + 1) 4).modTx l (fun x => { x with lockMute := true, relocked := false })).waveRetarget l).reg ix
      (l.val + 1) = s.reg ix (l.val + 1) :=
  ((State.waveRetarget_frame _ l).regs _ _ (by omega) fun hobj => hwave hobj.1).trans
    (State.reg_setReg_ne _ _ _ _ _ _ (objKey_ne_of_ix (by omega) (by omega) hstate))

theorem State.txLockLost_state : (s.txLockLost l).txSynth l = 4 := by
  unfold State.txLockLost State.txSynth
  rw [State.raise_reg _ _ _ _ _ _ _ _ (by omega) (by omega) (by simp [EventObj]), if_neg (by simp), State.bump, State.bumpTo,
    State.reg_setReg_ne _ _ _ _ _ _ (objKey_ne_of_ix (by omega) (by omega) (by decide)),
    (State.waveRetarget_frame _ l).regs _ _ (by omega) (by simp)]
  exact State.reg_setReg_self _ _ _ _

theorem State.txLockLost_unlocks : (s.txLockLost l).reg Ob.TX_SYNTH_UNLOCKS (l.val + 1) =
    (min (2 ^ 32 - 1) (s.nat Ob.TX_SYNTH_UNLOCKS (l.val + 1) + 1) : Nat) := by
  unfold State.txLockLost
  rw [State.raise_reg _ _ _ _ _ _ _ _ (by omega) (by omega) (by simp [EventObj]), if_neg (by simp), State.bump_reg_self, State.nat,
    State.txLockLost_before _ _ _ (by decide) (by decide)]
  rfl

theorem State.txLockLost_events : (s.txLockLost l).reg Ob.TX_EVENTS (l.val + 1) =
    (min (2 ^ 32 - 1) (s.nat Ob.TX_EVENTS (l.val + 1) + 1) : Nat) := by
  unfold State.txLockLost
  rw [State.raise_counter _ _ _ _ _ _ (by omega) (by simp [EventObj]), State.nat, State.bump, State.bumpTo,
    State.reg_setReg_ne _ _ _ _ _ _ (objKey_ne_of_ix (by omega) (by omega) (by decide)), State.txLockLost_before _ _ _ (by decide) (by decide)]
  rfl

/-! ## A relock attempt -/

/-- A relock attempt that failed: at every third band selection is repeated (R257). -/
def State.relockFailed : State :=
  if (s.tx[l].attempts + 1) % 3 = 0 then
    (s.modTx l (fun x => { x with attempts := s.tx[l].attempts + 1, bandRep := true })).setReg Ob.TX_SYNTH_STATE (l.val + 1) 1
  else (s.modTx l (fun x => { x with attempts := s.tx[l].attempts + 1 })).setReg Ob.TX_SYNTH_STATE (l.val + 1) 4

theorem State.relockFailed_frame :
    Frame { regs := true, tx := true } (fun ix sub => ix = Ob.TX_SYNTH_STATE ∧ sub = l.val + 1) s (s.relockFailed l) := by
  have hl : l.val + 1 < 256 := by omega
  unfold State.relockFailed
  simp [hl]

theorem State.relockFailed_spec : (s.relockFailed l).txSynth l = (if (s.tx[l].attempts + 1) % 3 = 0 then 1 else 4) ∧
    (s.relockFailed l).tx[l] = { s.tx[l] with
      attempts := s.tx[l].attempts + 1, bandRep := s.tx[l].bandRep || decide ((s.tx[l].attempts + 1) % 3 = 0) } ∧
    (∀ k : Fin 8, k ≠ l → (s.relockFailed l).tx[k] = s.tx[k]) := by
  by_cases h : (s.tx[l].attempts + 1) % 3 = 0
  · have heq : s.relockFailed l = (s.modTx l (fun x => { x with attempts := s.tx[l].attempts + 1, bandRep := true })).setReg Ob.TX_SYNTH_STATE
      (l.val + 1) 1 := if_pos h
    rw [heq, if_pos h, decide_eq_true h, Bool.or_true]
    exact ⟨State.reg_setReg_self _ _ _ _, s.modTx_lane l (fun x => { x with attempts := s.tx[l].attempts + 1, bandRep := true }),
      s.modTx_others l (fun x => { x with attempts := s.tx[l].attempts + 1, bandRep := true })⟩
  · have heq : s.relockFailed l = (s.modTx l (fun x => { x with attempts := s.tx[l].attempts + 1 })).setReg Ob.TX_SYNTH_STATE (l.val + 1) 4 :=
      if_neg h
    rw [heq, if_neg h, decide_eq_false h, Bool.or_false]
    exact ⟨State.reg_setReg_self _ _ _ _, s.modTx_lane l (fun x => { x with attempts := s.tx[l].attempts + 1 }),
      s.modTx_others l (fun x => { x with attempts := s.tx[l].attempts + 1 })⟩

end

/-! ## Lock -/

section
variable {s : State} {l : Fin 8}

theorem State.synthSet_txState (s : State) (l : Fin 8) (v : Int) : (s.setReg Ob.TX_SYNTH_STATE (l.val + 1) v).txState l = s.txState l :=
  State.reg_setReg_ne _ _ _ _ _ _ (objKey_ne_of_ix (by omega) (by omega) (by decide))

theorem State.synthSet_seq (s : State) (l : Fin 8) (v : Int) : (s.setReg Ob.TX_SYNTH_STATE (l.val + 1) v).seq l = s.seq l :=
  State.reg_setReg_ne _ _ _ _ _ _ (objKey_ne_of_ix (by omega) (by omega) (by decide))

/-- What TX_SYNTH_LOCK does where lock is awaited. -/
theorem txSynthLock_eq (h : s.txSynth l = 2 ∨ s.txSynth l = 4) : exec (.txSynthLock l) s =
    .next (if s.txState l = 1 ∧ s.tx[l].rateCal = true then (s.setReg Ob.TX_SYNTH_STATE (l.val + 1) 3).txCalEnd l
      else if s.txState l = 1 ∧ s.tx[l].lockMute = false then s.setReg Ob.TX_SYNTH_STATE (l.val + 1) 3
      else (s.setReg Ob.TX_SYNTH_STATE (l.val + 1) 3).modTx l (fun x => { x with relocked := true })) := by
  change execTxSynthLock l s = _
  unfold execTxSynthLock
  rw [if_neg (by omega)]
  dsimp only
  simp only [State.synthSet_txState, State.setReg_tx, Bool.not_eq_true']
  split
  · rfl
  · split
    · rfl
    · rfl

end

/-- Settles O29: calibration, loss of lock and relock by the synthesiser's state. -/
theorem transmitCalibrationAndRelock : Obligations.TransmitCalibrationAndRelock := by
  unfold Obligations.TransmitCalibrationAndRelock
  refine ⟨fun s l hband => ⟨?_, fun hcal hmute => ?_, fun hrelock => ?_⟩, fun s l hwaits => ⟨fun hcal hrate hmute => ?_, fun hcal hrate => ?_,
    fun hrelock => ?_⟩, fun s l hcal hwaits hmute => ?_, fun s l mv hcal hlock hrate => ?_, fun s l b mv => ⟨fun h => if_pos h, fun h => ⟨?_, ?_⟩,
    fun h2 h4 => if_pos ⟨h2, h4⟩⟩, fun s l hlock => ?_, fun s l hrelock hwaits => ?_, fun s l hlock hheld => ?_, fun s l => ⟨fun h => ⟨?_, ?_⟩,
    fun h => ?_, fun hcal hmute => ?_⟩⟩
  · have hl : l.val + 1 < 256 := by omega
    refine ⟨s.setReg Ob.TX_SYNTH_STATE (l.val + 1) 2, (if_neg (by simp [hband])).trans (if_pos rfl), rfl, State.reg_setReg_self _ _ _ _, ?_⟩
    exact Frame.regs (F := .all) (by simp [hl])
  · obtain ⟨hsynth, hstate⟩ := s.calFailed_states l 0
    refine ⟨s.calFailed l 0, ?_, (s.calFailed_frame l 0).fields, hsynth, hstate, ?_, s.calFailed_events l 0, fun k hk => ?_,
      (s.calFailed_frame l 0).regs⟩
    · exact (if_neg (by simp [hband])).trans ((if_neg (by decide)).trans (if_pos ⟨hcal, by rw [hmute]; rfl⟩))
    · rw [State.calFailed_tx]
      simp
    · rw [State.calFailed_tx]
      exact getElem_set_other _ _ _ hk
  · refine ⟨s.setReg Ob.TX_SYNTH_STATE (l.val + 1) 4, ?_, rfl, State.reg_setReg_self _ _ _ _⟩
    refine (if_neg (by simp [hband])).trans ((if_neg (by decide)).trans (if_neg ?_))
    rintro ⟨hcal, hmute⟩
    rcases hrelock with h | h
    · exact h hcal
    · rw [h] at hmute
      exact absurd hmute (by decide)
  · have hl : l.val + 1 < 256 := by omega
    refine ⟨s.setReg Ob.TX_SYNTH_STATE (l.val + 1) 3, ?_, rfl, State.reg_setReg_self _ _ _ _, Frame.regs (F := .all) (by simp [hl])⟩
    rw [txSynthLock_eq hwaits, if_neg (by rw [hrate]; simp), if_pos ⟨hcal, hmute⟩]
  · have hl : l.val + 1 < 256 := by omega
    have hframe := (s.setReg Ob.TX_SYNTH_STATE (l.val + 1) 3).calEnded_frame l
    have hboth := Frame.trans (F := { regs := true, tx := true }) (P := fun _ _ => True)
      ((frame_setReg (ix := Ob.TX_SYNTH_STATE) (sub := l.val + 1) (v := 3) (s := s) (t := s) rfl hl trivial).mpr .refl)
      (hframe.mono fun _ _ _ => trivial)
    refine ⟨(s.setReg Ob.TX_SYNTH_STATE (l.val + 1) 3).calEnded l, ?_, hboth.fields, ?_, ?_, ?_⟩
    · rw [txSynthLock_eq hwaits, if_pos ⟨hcal, hrate⟩, State.txCalEnd_eq]
    · exact (hframe.regs _ _ hl (by simp [calObjs])).trans (State.reg_setReg_self _ _ _ _)
    · rw [State.calEnded_state, State.synthSet_seq]
      rfl
    · rw [State.calEnded_count, State.nat, State.reg_setReg_ne _ _ _ _ _ _ (objKey_ne_of_ix hl hl (by decide))]
      rfl
  · have hnot : ¬ (s.txState l = 1 ∧ s.tx[l].rateCal = true) ∧ ¬ (s.txState l = 1 ∧ s.tx[l].lockMute = false) := by
      rcases hrelock with h | ⟨hrate, hmute⟩
      · exact ⟨fun hand => h hand.1, fun hand => h hand.1⟩
      · exact ⟨fun hand => absurd (hrate.symm.trans hand.2) (by decide), fun hand => absurd (hmute.symm.trans hand.2) (by decide)⟩
    refine ⟨(s.setReg Ob.TX_SYNTH_STATE (l.val + 1) 3).modTx l (fun x => { x with relocked := true }), ?_, rfl, State.reg_setReg_self _ _ _ _,
      State.modTx_lane _ l (fun x => { x with relocked := true }), State.modTx_others _ l (fun x => { x with relocked := true })⟩
    rw [txSynthLock_eq hwaits, if_neg hnot.1, if_neg hnot.2]
  · obtain ⟨hsynth, hstate⟩ := s.calFailed_states l 1
    exact ⟨s.calFailed l 1, if_pos ⟨hcal, hwaits, by rw [hmute]; rfl⟩, (s.calFailed_frame l 1).fields, hsynth, hstate, s.calFailed_events l 1⟩
  · have hl : l.val + 1 < 256 := by omega
    have hmeas := s.dacMeasured_frame l mv
    have hframe := (s.dacMeasured l mv).calEnded_frame l
    have hboth := Frame.trans (F := { regs := true, tx := true, lookout := true, cap := true }) (P := fun _ _ => True)
      (hmeas.mono fun _ _ _ => trivial) (hframe.widen (fun _ _ => rfl) fun _ _ _ => trivial)
    have hlane : (s.dacMeasured l mv).tx[l] = { s.tx[l] with fs := s.nat Ob.TX_DAC_FS_MVPPD (l.val + 1) } := by simp [State.dacMeasured_tx]
    have hkept (ix : Nat) (h : ix ∉ [Ob.TX_DAC_FS_MEAS, Ob.TX_EVENTS]) (hevent : ¬ EventObj ix (l.val + 1)) :
        (s.dacMeasured l mv).reg ix (l.val + 1) = s.reg ix (l.val + 1) :=
      hmeas.regs _ _ hl fun hobj => hobj.elim (fun h' => h h'.1) hevent
    obtain ⟨hpre, hfs⟩ := (s.dacMeasured l mv).calEnded_lane l
    refine ⟨(s.dacMeasured l mv).calEnded l, ?_, hboth.fields, ?_, ?_, hpre, ?_, ?_, ?_, ?_, fun k hk => ?_⟩
    · exact if_pos ⟨hcal, hlock, by rw [hrate]; rfl⟩
    · exact (hframe.regs _ _ hl (by simp [calObjs])).trans (s.dacMeasured_value l mv)
    · rw [State.calEnded_state, hlane, State.seq, hkept _ (by decide) (by simp [EventObj])]
      rfl
    · rw [hfs, hlane]
    · rw [State.calEnded_count, State.nat, hkept _ (by decide) (by simp [EventObj])]
      rfl
    · rw [State.calEnded_time, State.stamp, hmeas.view State.time fun _ _ => rfl]
      rfl
    · exact (hframe.regs _ _ hl (by simp [calObjs])).trans (s.dacMeasured_events l mv)
    · rw [State.calEnded_others _ _ _ hk, State.dacMeasured_tx]
      exact getElem_set_other _ _ _ hk
  · exact if_neg fun hand => h hand.1
  · exact if_neg fun hand => h hand.1
  · exact ⟨s.txLockLost l, if_pos hlock, (s.txLockLost_frame l).fields, s.txLockLost_state l, s.txLockLost_muted l, s.txLockLost_lane l,
      s.txLockLost_unlocks l, s.txLockLost_events l, s.txLockLost_others l, (s.txLockLost_frame l).regs⟩
  · obtain ⟨hstate, hlane, hothers⟩ := s.relockFailed_spec l
    refine ⟨s.relockFailed l, ?_, (s.relockFailed_frame l).fields, hstate, hlane, hothers, (s.relockFailed_frame l).regs⟩
    refine (if_pos ⟨hrelock, hwaits⟩).trans ?_
    unfold State.relockFailed
    split
    · rfl
    · rfl
  · exact ⟨s.modTx l (fun x => { x with lockMute := false, relocked := false, attempts := 0, bandRep := false }), if_pos ⟨hlock, hheld⟩, rfl,
      s.modTx_lane l (fun x => { x with lockMute := false, relocked := false, attempts := 0, bandRep := false }),
      s.modTx_others l (fun x => { x with lockMute := false, relocked := false, attempts := 0, bandRep := false })⟩
  · exact if_neg h
  · exact if_neg fun hand => h hand.1
  · exact if_neg fun hand => absurd (h.symm.trans hand.2) (by decide)
  · refine if_neg fun hand => ?_
    rcases hand.1 with h | h
    · exact h hcal
    · exact absurd (hmute.symm.trans h) (by decide)

end Sys2Proof.Machine

/-! SUPPORT. The deep store's trainings, refreshes and temperatures (R221, R224 to R226, R235 to R237). -/

namespace Sys2Proof.Machine

/-! ## What the deep store's operations touch -/

/-- The deep store's own objects that a device's failure and a bus error can write. -/
def dsObjs : List Nat := [Ob.DS_STATE, Ob.DS_DEVICE_STATE, Ob.DS_EVENTS, Ob.DS_UNCORRECTABLE, Ob.DS_STALE]

/-- The fields that the deep store's loss of frames touches. -/
def dsFields : Fields := { regs := true, link := true, hostInst := true, test := true, lookout := true, cap := true }

/-- What a device's failure and the deep store's end of use can write. -/
def DsObj (ix sub : Nat) : Prop := ix ∈ dsObjs ∨ ix ∈ deliverObjs ∨ ix ∈ holdObjs ∨ EventObj ix sub

@[simp] theorem allowsHold_dsObj : AllowsHold dsFields DsObj :=
  ⟨⟨rfl, rfl, rfl, rfl, rfl, fun _ _ h => .inr (.inr (.inr h)), fun _ h _ => .inr (.inl h)⟩, rfl, fun _ h _ => .inr (.inr (.inl h))⟩

section
variable {F : Fields} {P : Nat → Nat → Prop} {s t : State}

@[simp] theorem frame_setAll {ix n : Nat} {v : Int} (hregs : F.regs = true) (hn : n < 256) (hP : ∀ sub, P ix sub) :
    Frame F P s (t.setAll ix v n) ↔ Frame F P s t := by
  induction n generalizing t with
  | zero => rfl
  | succ n ih =>
    unfold State.setAll
    rw [ih (by omega), frame_setReg hregs hn (hP _)]

@[simp] theorem State.setAll_reg (t : State) (ix n : Nat) (v : Int) {sub : Nat} (hn : n < 256) (hsub : 1 ≤ sub ∧ sub ≤ n) :
    (t.setAll ix v n).reg ix sub = v := by
  induction n generalizing t with
  | zero => omega
  | succ n ih =>
    unfold State.setAll
    by_cases hle : sub ≤ n
    · exact ih _ (by omega) ⟨hsub.1, hle⟩
    · obtain rfl : sub = n + 1 := by omega
      have hkeep : Frame { regs := true } (fun ix' sub' => ix' = ix ∧ sub' ≤ n) (t.setReg ix (n + 1) v) ((t.setReg ix (n + 1) v).setAll ix v n) := by
        clear ih hle hsub
        generalize t.setReg ix (n + 1) v = u
        have hbound : ∀ m, m ≤ n → ∀ u : State, Frame { regs := true } (fun ix' sub' => ix' = ix ∧ sub' ≤ n) u (u.setAll ix v m) := by
          intro m
          induction m with
          | zero => exact fun _ _ => .refl
          | succ m ihm =>
            intro hm u
            unfold State.setAll
            exact Frame.trans ((frame_setReg rfl (by omega) ⟨rfl, hm⟩).mpr .refl) (ihm (by omega) _)
        exact hbound n le_rfl u
      rw [hkeep.regs _ _ (by omega) (by omega)]
      exact State.reg_setReg_self _ _ _ _

end

section
variable {F : Fields} {P : Nat → Nat → Prop} {s t : State} (h : AllowsHold F P)
include h

@[simp] theorem frame_dsLeave : Frame F P s t.dsLeave ↔ Frame F P s t := by
  unfold State.dsLeave
  refine frame_forEach fun p _ u => ?_
  simp only
  rw [frame_advance h, frame_forEach fun x _ w => (frame_loseFrame h).mpr .refl, frame_modLink h.link,
    frame_forEach fun x _ w => (frame_writeOff h).mpr .refl]
  exact .refl

@[simp] theorem frame_dsState {v : Int} (hstate : P Ob.DS_STATE 0) : Frame F P s (t.dsState v) ↔ Frame F P s t := by
  unfold State.dsState
  simp only
  split
  · rw [frame_dsLeave h, frame_setReg h.regs (by decide) hstate]
  · exact frame_setReg h.regs (by decide) hstate

@[simp] theorem frame_heldError {p : Fin 8} {seq : Nat} : Frame F P s (t.heldError p seq) ↔ Frame F P s t := by
  unfold State.heldError
  simp only
  rw [frame_advance h, frame_bump64 h.regs (by omega) (h.objs _ (by decide) _), frame_modLink h.link]

@[simp] theorem frame_busError {p : Fin 8} {seq key : Nat} {held stale : Bool}
    (hbus : ∀ ix ∈ [Ob.DS_UNCORRECTABLE, Ob.DS_STALE, Ob.DS_EVENTS], P ix 0) :
    Frame F P s (t.busError p seq held stale key) ↔ Frame F P s t := by
  unfold State.busError
  cases held <;> cases stale <;>
    simp [h, h.regs, h.lookout, h.cap, h.events, hbus _ (by decide : Ob.DS_UNCORRECTABLE ∈ _), hbus _ (by decide : Ob.DS_STALE ∈ _),
      hbus _ (by decide : Ob.DS_EVENTS ∈ _)]

@[simp] theorem frame_dsTrain {full : Bool} (hds : F.ds = true) (hstate : P Ob.DS_STATE 0)
    (hfull : ∀ ix ∈ [Ob.DS_DEVICE_STATE, Ob.DS_REMAP_USED, Ob.DS_REMAP_ENTRY], ∀ sub, P ix sub) :
    Frame F P s (t.dsTrain full) ↔ Frame F P s t := by
  unfold State.dsTrain
  simp only
  split
  · rw [frame_setAll h.regs (by decide) (hfull _ (by decide)), frame_setReg h.regs (by decide) (hfull _ (by decide) _),
      frame_setAll h.regs (by decide) (hfull _ (by decide)), frame_modDs hds, frame_dsState h hstate]
  · rw [frame_modDs hds, frame_dsState h hstate]

end

/-! ## The deep store's state -/

section
variable (s : State)

/-- Out of use already, the deep store's state only changes its object. -/
theorem State.dsState_idle (v : Int) (h3 : s.reg Ob.DS_STATE 0 ≠ 3) (h4 : s.reg Ob.DS_STATE 0 ≠ 4) : s.dsState v = s.setReg Ob.DS_STATE 0 v :=
  if_neg fun h => h.1.elim h3 h4

theorem allowsHold_frames : AllowsHold dsFields (fun ix sub => ix ∈ deliverObjs ∨ ix ∈ holdObjs ∨ EventObj ix sub) :=
  ⟨⟨rfl, rfl, rfl, rfl, rfl, fun _ _ h => .inr (.inr h), fun _ h _ => .inl h⟩, rfl, fun _ h _ => .inr (.inl h)⟩

theorem State.dsState_reg (v : Int) : (s.dsState v).reg Ob.DS_STATE 0 = v := by
  have hleave : (s.setReg Ob.DS_STATE 0 v).dsLeave.reg Ob.DS_STATE 0 = (s.setReg Ob.DS_STATE 0 v).reg Ob.DS_STATE 0 :=
    ((frame_dsLeave allowsHold_frames).mpr .refl).regs _ _ (by decide) (by simp [EventObj, deliverObjs, holdObjs])
  unfold State.dsState
  simp only
  split
  · rw [hleave]
    exact State.reg_setReg_self _ _ _ _
  · exact State.reg_setReg_self _ _ _ _

theorem State.dsFailed_of_regs {t : State} (h : ∀ d < 5, t.reg Ob.DS_DEVICE_STATE (d + 1) = s.reg Ob.DS_DEVICE_STATE (d + 1)) :
    t.dsFailed = s.dsFailed :=
  List.filter_congr fun d hd => by rw [h d (List.mem_range.mp hd)]

theorem State.dsFailed_nodup : s.dsFailed.Nodup := List.nodup_range.filter _

theorem State.dsFailed_nil (h : ∀ d < 5, s.reg Ob.DS_DEVICE_STATE (d + 1) = 0) : s.dsFailed = [] :=
  List.filter_eq_nil_iff.mpr fun d hd => by simp [h d (List.mem_range.mp hd)]

end

/-! ## A training that ends -/

section
variable (m : DsTraining) (s : State)

/-- One device's density and temperature as a training takes them; that of a wake from RET leaves them. -/
def dsRead (ret : Bool) (d : Fin 5) (s : State) : State :=
  if ret then s else (s.setReg Ob.DS_DENSITY (d.val + 1) (m.density[d] : Int)).setReg Ob.DS_MEM_TEMP_C (d.val + 1) m.temp[d]

/-- One device read, and the temperature at which it is trained noted. -/
def dsReadNoted (ret : Bool) (d : Fin 5) (s : State) : State :=
  (dsRead m ret d s).modDs (fun x => { x with trainTemp := x.trainTemp.set d ((dsRead m ret d s).reg Ob.DS_MEM_TEMP_C (d.val + 1)) })

/-- The state with every device read. -/
def dsAllRead : State := forEach (fins 5) (dsReadNoted m s.ds.fromRet) s

/-- Whether the training fails: it marks two devices or more, or with those of before. -/
def dsFails (before : List Nat) : Bool :=
  decide (2 ≤ m.failed.eraseDups.length) || decide (2 ≤ (before ++ m.failed.eraseDups.map Fin.val).eraseDups.length)

/-- The devices read and the deep store's flags set, before the outcome. -/
def dsFlagged : State :=
  (dsAllRead m s).modDs (fun x => { x with
    trained := x.trained || !s.ds.fromRet, failed := dsFails m (dsAllRead m s).dsFailed, released := true,
    retries := if dsFails m (dsAllRead m s).dsFailed then x.retries else 0 })

/-- The training stamped where it is a full one that did not fail. -/
def dsStamped : State :=
  if s.ds.fromRet ∨ dsFails m (dsAllRead m s).dsFailed then dsFlagged m s else (dsFlagged m s).setStamp Ob.DS_TRAIN_TIME 0

/-- The devices `bad` marked failed in training. -/
def dsMarked (bad : List (Fin 5)) (s : State) : State := forEach bad (fun d s => s.setReg Ob.DS_DEVICE_STATE (d.val + 1) 1) s

/-- The state that a training leads to, before DS.RETRAIN is answered. -/
def dsEnded : State :=
  match m.failed.eraseDups with
  | [] => (dsStamped m s).dsState (if (dsAllRead m s).dsFailed = [] then 3 else if (dsAllRead m s).dsFailed.length = 1 then 4 else 5)
  | [d] => (dsStamped m s).dsDeviceFailed d.val true
  | _ => ((dsMarked m.failed.eraseDups (dsStamped m s)).dsState 5).raise Src.DS_TRAIN_FAIL 0
      ((m.failed.eraseDups.map (fun (d : Fin 5) => 2 ^ d.val)).sum + 256 * m.step) Ob.DS_EVENTS 0

theorem execDsTrainingDone_of (h : s.reg Ob.DS_STATE 0 = 2) :
    execDsTrainingDone m s = .next ((dsEnded m s).finish Ob.DS_RETRAIN 0 St.OK) := by
  unfold execDsTrainingDone
  rw [if_neg (by simp [h])]
  rfl

/-! ### The devices read -/

theorem dsReadNoted_frame (ret : Bool) (d : Fin 5) : Frame { regs := true, ds := true }
    (fun ix sub => ix ∈ [Ob.DS_DENSITY, Ob.DS_MEM_TEMP_C] ∧ sub = d.val + 1) s (dsReadNoted m ret d s) := by
  have hd : d.val + 1 < 256 := by omega
  unfold dsReadNoted dsRead
  simp [hd]

theorem dsReadNoted_reg (d : Fin 5) : (dsReadNoted m false d s).reg Ob.DS_MEM_TEMP_C (d.val + 1) = m.temp[d] ∧
    (dsReadNoted m false d s).reg Ob.DS_DENSITY (d.val + 1) = (m.density[d] : Int) :=
  ⟨State.reg_setReg_self _ _ _ _, (State.reg_setReg_ne _ _ _ _ _ _ (objKey_ne_of_ix (by omega) (by omega) (by decide))).trans
    (State.reg_setReg_self _ _ _ _)⟩

theorem dsAllRead_frame : Frame { regs := true, ds := true } (fun ix _ => ix ∈ [Ob.DS_DENSITY, Ob.DS_MEM_TEMP_C]) s (dsAllRead m s) :=
  (frame_forEach fun d _ t => (dsReadNoted_frame m t _ d).mono fun _ _ h => h.1).mpr .refl

theorem dsAllRead_reg (hret : s.ds.fromRet = false) (d : Fin 5) : (dsAllRead m s).reg Ob.DS_MEM_TEMP_C (d.val + 1) = m.temp[d] ∧
    (dsAllRead m s).reg Ob.DS_DENSITY (d.val + 1) = (m.density[d] : Int) := by
  have hall := forEach_establishes (l := fins 5) (f := dsReadNoted m s.ds.fromRet) (fun _ => True)
    (fun d t => t.reg Ob.DS_MEM_TEMP_C (d.val + 1) = m.temp[d] ∧ t.reg Ob.DS_DENSITY (d.val + 1) = (m.density[d] : Int))
    (fun _ _ _ _ => trivial) (fun d _ t _ => by rw [hret]; exact dsReadNoted_reg m t d) (fun d _ e _ t _ ht => ?_) (s := s) trivial
  · exact hall.2 d (by simp [fins])
  by_cases hde : e = d
  · subst hde
    rw [hret]
    exact dsReadNoted_reg m t e
  have hframe := dsReadNoted_frame m t s.ds.fromRet e
  have hne : d.val + 1 ≠ e.val + 1 := fun hval => hde (Fin.ext (by omega))
  rwa [hframe.regs _ _ (by omega) (fun hobj => hne hobj.2), hframe.regs _ _ (by omega) (fun hobj => hne hobj.2)]

theorem dsAllRead_dsFailed : (dsAllRead m s).dsFailed = s.dsFailed :=
  State.dsFailed_of_regs _ fun d hd => (dsAllRead_frame m s).regs _ _ (by omega) (by simp)

theorem dsFlagged_frame : Frame { regs := true, ds := true } (fun ix _ => ix ∈ [Ob.DS_DENSITY, Ob.DS_MEM_TEMP_C]) s (dsFlagged m s) :=
  (frame_modDs rfl).mpr (dsAllRead_frame m s)

theorem dsStamped_frame : Frame { regs := true, ds := true }
    (fun ix _ => ix ∈ [Ob.DS_DENSITY, Ob.DS_MEM_TEMP_C, Ob.DS_TRAIN_TIME]) s (dsStamped m s) := by
  have hflagged := (dsFlagged_frame m s).mono (Q := fun ix _ => ix ∈ [Ob.DS_DENSITY, Ob.DS_MEM_TEMP_C, Ob.DS_TRAIN_TIME])
    fun ix _ h => (by decide : ∀ ix ∈ [Ob.DS_DENSITY, Ob.DS_MEM_TEMP_C], ix ∈ [Ob.DS_DENSITY, Ob.DS_MEM_TEMP_C, Ob.DS_TRAIN_TIME]) ix h
  unfold dsStamped
  split
  · exact hflagged
  · exact (frame_setStamp rfl (by decide) (by decide)).mpr hflagged

theorem dsStamped_time : (dsStamped m s).reg Ob.DS_TRAIN_TIME 0 =
    if s.ds.fromRet = false ∧ dsFails m s.dsFailed = false then (s.stamp : Int) else s.reg Ob.DS_TRAIN_TIME 0 := by
  unfold dsStamped
  rw [dsAllRead_dsFailed m]
  split
  next h =>
    rw [if_neg (by rintro ⟨hret, hfails⟩; simp [hret, hfails] at h)]
    exact (dsFlagged_frame m s).regs _ _ (by decide) (by decide)
  next h =>
    rw [if_pos (by simpa using h)]
    refine (State.reg_setReg_self _ _ _ _).trans ?_
    unfold State.stamp
    rw [(dsFlagged_frame m s).view State.time fun _ _ => rfl]

/-- A register that the reading leaves is read after the stamp too. -/
theorem dsStamped_reg (ix sub : Nat) (hsub : sub < 256) (h : ix ∉ [Ob.DS_DENSITY, Ob.DS_MEM_TEMP_C, Ob.DS_TRAIN_TIME]) :
    (dsStamped m s).reg ix sub = s.reg ix sub := (dsStamped_frame m s).regs _ _ hsub h

theorem dsStamped_read (hret : s.ds.fromRet = false) (d : Fin 5) : (dsStamped m s).reg Ob.DS_MEM_TEMP_C (d.val + 1) = m.temp[d] ∧
    (dsStamped m s).reg Ob.DS_DENSITY (d.val + 1) = (m.density[d] : Int) := by
  have hkeep : Frame { regs := true, ds := true } (fun ix _ => ix = Ob.DS_TRAIN_TIME) (dsAllRead m s) (dsStamped m s) := by
    unfold dsStamped dsFlagged
    simp
  rw [hkeep.regs _ _ (by omega) (by decide), hkeep.regs _ _ (by omega) (by decide)]
  exact dsAllRead_reg m s hret d

end

/-! ### The outcome -/

/-- What an outcome can write when no queued read ends with it. -/
def DsEndObj (ix sub : Nat) : Prop := ix ∈ [Ob.DS_STATE, Ob.DS_DEVICE_STATE, Ob.DS_EVENTS] ∨ EventObj ix sub

/-- What the training and its outcome write, where no device had failed before or none fails in it. -/
def DsDoneObj (ix sub : Nat) : Prop := ix ∈ [Ob.DS_STATE, Ob.DS_DENSITY, Ob.DS_MEM_TEMP_C, Ob.DS_TRAIN_TIME, Ob.DS_DEVICE_STATE,
  Ob.DS_EVENTS] ∨ EventObj ix sub

@[simp] theorem dsEndObj_iff {ix sub : Nat} :
    DsEndObj ix sub ↔ ix ∈ [Ob.DS_STATE, Ob.DS_DEVICE_STATE, Ob.DS_EVENTS] ∨ EventObj ix sub := Iff.rfl

@[simp] theorem allowsEvents_dsEndObj : AllowsEvents DsEndObj := fun _ _ h => .inr h

section
variable (s : State) (bad : List (Fin 5)) (d : Fin 5) (training : Bool)

theorem dsMarked_frame : Frame { regs := true } (fun ix _ => ix = Ob.DS_DEVICE_STATE) s (dsMarked bad s) := by
  refine (frame_forEach fun d _ t => ?_).mpr .refl
  have hd : d.val + 1 < 256 := by omega
  simp [hd]

theorem dsMarked_reg (hd : d ∈ bad) : (dsMarked bad s).reg Ob.DS_DEVICE_STATE (d.val + 1) = 1 := by
  have hall := forEach_establishes (l := bad) (f := fun d s => s.setReg Ob.DS_DEVICE_STATE (d.val + 1) 1) (fun _ => True)
    (fun d t => t.reg Ob.DS_DEVICE_STATE (d.val + 1) = 1) (fun _ _ _ _ => trivial) (fun _ _ _ _ => State.reg_setReg_self _ _ _ _)
    (fun d _ e _ t _ ht => ?_) (s := s) trivial
  · exact hall.2 d hd
  · rw [State.reg_setReg _ _ _ _ _ _ (by omega) (by omega)]
    split
    · rfl
    · exact ht

/-- A device marked with its event, before the deep store's state follows. -/
def State.dsDeviceMarked : State :=
  (s.setReg Ob.DS_DEVICE_STATE (d.val + 1) (if training then 1 else 2)).raise Src.DS_DEVICE_FAILED 0
    (d.val + if training then 256 else 0) Ob.DS_EVENTS 0

theorem State.dsDeviceMarked_frame : Frame { regs := true, lookout := true, cap := true }
    (fun ix sub => ix ∈ [Ob.DS_DEVICE_STATE, Ob.DS_EVENTS] ∨ EventObj ix sub) s (s.dsDeviceMarked d training) := by
  unfold State.dsDeviceMarked
  simp

theorem State.dsDeviceMarked_reg : (s.dsDeviceMarked d training).reg Ob.DS_DEVICE_STATE (d.val + 1) = if training then 1 else 2 := by
  unfold State.dsDeviceMarked
  rw [State.raise_reg _ _ _ _ _ _ _ _ (by omega) (by omega) (by simp [EventObj]), if_neg (by simp)]
  exact State.reg_setReg_self _ _ _ _

/-- The queued reads of all ports ended as bus errors (R241). -/
def State.readsEnded : State :=
  forEach (fins 8) (fun p s => forEach (s.readsQueued p) (fun q s => s.busError p q.1 q.2 false (s.frameKey p q.1 q.2 0)) s) s

theorem State.readsEnded_frame : Frame dsFields
    (fun ix sub => ix ∈ [Ob.DS_UNCORRECTABLE, Ob.DS_STALE, Ob.DS_EVENTS] ∨ ix ∈ deliverObjs ∨ ix ∈ holdObjs ∨ EventObj ix sub) s s.readsEnded := by
  refine (frame_forEach fun p _ t => (frame_forEach fun q _ u => (frame_busError ?_ fun ix h => .inl h).mpr .refl).mpr .refl).mpr .refl
  exact ⟨⟨rfl, rfl, rfl, rfl, rfl, fun _ _ h => .inr (.inr (.inr h)), fun _ h _ => .inr (.inl h)⟩, rfl, fun _ h _ => .inr (.inr (.inl h))⟩

theorem State.dsDeviceFailed_eq : s.dsDeviceFailed d.val training =
    if s.dsFailed.filter (· != d.val) = [] then (s.dsDeviceMarked d training).dsState 4 else (s.dsDeviceMarked d training).readsEnded.dsState 5 := by
  unfold State.dsDeviceFailed
  by_cases h : s.dsFailed.filter (· != d.val) = []
  · rw [if_pos h]
    simp only [h]
    rfl
  · rw [if_neg h]
    simp only [bne_iff_ne, ne_eq, h, not_false_eq_true, if_true]
    rfl

end

theorem eraseDups_of_nodup {l : List Nat} (hl : l.Nodup) : l.eraseDups = l := by
  induction l with
  | nil => rfl
  | cons a l ih =>
    obtain ⟨ha, hl⟩ := List.nodup_cons.mp hl
    have hfilter : l.filter (fun b => !b == a) = l := List.filter_eq_self.mpr fun b hb => by
      simpa using fun h : b = a => ha (h ▸ hb)
    rw [List.eraseDups_cons, hfilter, ih hl]

/-- Two devices or more are failed after a training that marks one, where another than it was before. -/
theorem length_eraseDups_append_singleton {l : List Nat} (d : Nat) (hl : l.Nodup) :
    2 ≤ (l ++ [d]).eraseDups.length ↔ l.filter (· != d) ≠ [] := by
  rw [List.eraseDups_append, eraseDups_of_nodup hl, ← hl.erase_eq_filter d, List.removeAll]
  by_cases hd : d ∈ l
  · have hlen := List.length_erase_of_mem hd
    have hpos := List.length_pos_of_mem hd
    simp [hd, ← List.length_eq_zero_iff, hlen]
    omega
  · simp [hd, List.erase_of_not_mem hd, List.eraseDups_cons, Nat.lt_iff_add_one_le, ← List.length_pos_iff]

section
variable (m : DsTraining) (s : State) (h2 : s.reg Ob.DS_STATE 0 = 2)
include h2

theorem dsStamped_state : (dsStamped m s).reg Ob.DS_STATE 0 = 2 := (dsStamped_reg m s _ _ (by decide) (by decide)).trans h2

theorem dsStamped_dsState (v : Int) : (dsStamped m s).dsState v = (dsStamped m s).setReg Ob.DS_STATE 0 v := by
  have hstate := dsStamped_state m s h2
  exact State.dsState_idle _ _ (by omega) (by omega)

omit h2 in
theorem dsStamped_dsFailed : (dsStamped m s).dsFailed = s.dsFailed :=
  State.dsFailed_of_regs _ fun d hd => dsStamped_reg m s _ _ (by omega) (by simp)

/-- A device marked in training leaves the deep store in training. -/
theorem dsMarkedState (d : Fin 5) (v : Int) : ((dsStamped m s).dsDeviceMarked d true).dsState v =
    ((dsStamped m s).dsDeviceMarked d true).setReg Ob.DS_STATE 0 v := by
  have hstate : ((dsStamped m s).dsDeviceMarked d true).reg Ob.DS_STATE 0 = 2 :=
    (((dsStamped m s).dsDeviceMarked_frame d true).regs _ _ (by decide) (by simp [EventObj])).trans (dsStamped_state m s h2)
  exact State.dsState_idle _ _ (by omega) (by omega)

/-- A training that fails of itself leaves the deep store in training until its state follows. -/
theorem dsMarkedAll (bad : List (Fin 5)) (v : Int) : (dsMarked bad (dsStamped m s)).dsState v =
    (dsMarked bad (dsStamped m s)).setReg Ob.DS_STATE 0 v := by
  have hstate : (dsMarked bad (dsStamped m s)).reg Ob.DS_STATE 0 = 2 :=
    ((dsMarked_frame (dsStamped m s) bad).regs _ _ (by decide) (by decide)).trans (dsStamped_state m s h2)
  exact State.dsState_idle _ _ (by omega) (by omega)

omit h2 in
/-- The outcome touches no more than a device's failure can. -/
theorem dsEnded_frame : Frame dsFields DsObj (dsStamped m s) (dsEnded m s) := by
  have hdev : ∀ ix ∈ dsObjs, ∀ sub, DsObj ix sub := fun ix h _ => .inl h
  have hstate : DsObj Ob.DS_STATE 0 := hdev _ (by decide) _
  unfold dsEnded
  split
  · exact (frame_dsState allowsHold_dsObj hstate).mpr .refl
  next d hd =>
    rw [State.dsDeviceFailed_eq]
    have hmarked : Frame dsFields DsObj (dsStamped m s) ((dsStamped m s).dsDeviceMarked d true) :=
      ((dsStamped m s).dsDeviceMarked_frame d true).widen (fun _ _ => rfl) fun ix sub h => h.elim
        (fun h => hdev ix ((by decide : ∀ ix ∈ [Ob.DS_DEVICE_STATE, Ob.DS_EVENTS], ix ∈ dsObjs) ix h) sub) fun h => .inr (.inr (.inr h))
    split
    · exact (frame_dsState allowsHold_dsObj hstate).mpr hmarked
    · refine (frame_dsState allowsHold_dsObj hstate).mpr (hmarked.trans ((State.readsEnded_frame _).mono fun ix sub h => ?_))
      exact h.imp_left fun h => (by decide : ∀ ix ∈ [Ob.DS_UNCORRECTABLE, Ob.DS_STALE, Ob.DS_EVENTS], ix ∈ dsObjs) ix h
  · rw [frame_raise rfl rfl rfl allowsHold_dsObj.events (by decide) (hdev _ (by decide) _), frame_dsState allowsHold_dsObj hstate]
    exact (dsMarked_frame _ _).widen (fun _ _ => rfl) fun ix sub h => hdev ix (h ▸ by decide) sub

/-- Where no queued read ends with it, the outcome touches the deep store's state, its devices' and the events alone. -/
theorem dsEnded_frame_own (h : s.dsFailed = [] ∨ m.failed = []) :
    Frame { regs := true, lookout := true, cap := true } DsEndObj (dsStamped m s) (dsEnded m s) := by
  unfold dsEnded
  split
  · rw [dsStamped_dsState m s h2]
    simp
  next d hd =>
    have hnone : s.dsFailed = [] := h.resolve_right fun hm => by simp [hm] at hd
    rw [State.dsDeviceFailed_eq, dsStamped_dsFailed, hnone, if_pos (by rfl), dsMarkedState m s h2, frame_setReg rfl (by decide) (by simp)]
    exact ((dsStamped m s).dsDeviceMarked_frame d true).mono fun ix sub h => h.imp_left fun h => List.mem_cons_of_mem _ h
  · rw [dsMarkedAll m s h2, frame_raise rfl rfl rfl allowsEvents_dsEndObj (by decide) (by simp), frame_setReg rfl (by decide) (by simp)]
    exact (dsMarked_frame _ _).widen (fun _ _ => rfl) fun ix sub h => .inl (h ▸ by simp)

omit h2 in
theorem dsEnded_state : (dsEnded m s).reg Ob.DS_STATE 0 = (match m.failed.eraseDups with
    | [] => if s.dsFailed = [] then 3 else if s.dsFailed.length = 1 then 4 else 5
    | [d] => if s.dsFailed.filter (· != d.val) = [] then 4 else 5
    | _ => 5) := by
  unfold dsEnded
  split
  · rw [State.dsState_reg, dsAllRead_dsFailed]
  · rw [State.dsDeviceFailed_eq, dsStamped_dsFailed]
    split <;> exact State.dsState_reg _ _
  · rw [State.raise_reg _ _ _ _ _ _ _ _ (by decide) (by decide) (by simp [EventObj]), if_neg (by simp), State.dsState_reg]

theorem dsEnded_failed (d : Fin 5) (hd : d ∈ m.failed) : (dsEnded m s).reg Ob.DS_DEVICE_STATE (d.val + 1) = 1 := by
  have hmem : d ∈ m.failed.eraseDups := List.mem_eraseDups.mpr hd
  have hne : ¬ objKey Ob.DS_STATE 0 = objKey Ob.DS_DEVICE_STATE (d.val + 1) := objKey_ne_of_ix (by omega) (by omega) (by decide)
  unfold dsEnded
  split
  next hbad => simp [hbad] at hmem
  next e hbad =>
    obtain rfl : d = e := by simpa [hbad] using hmem
    have hmarked := (dsStamped m s).dsDeviceMarked_reg d true
    rw [State.dsDeviceFailed_eq]
    split
    · rw [dsMarkedState m s h2, State.reg_setReg_ne _ _ _ _ _ _ hne, hmarked]
      rfl
    · have hstate : AllowsHold dsFields (fun ix sub => ix ≠ Ob.DS_DEVICE_STATE) := by
        refine ⟨⟨rfl, rfl, rfl, rfl, rfl, fun ix sub h => ?_, fun ix h _ => ?_⟩, rfl, fun ix h _ => ?_⟩
        · rintro rfl
          simp [EventObj] at h
        · exact (by decide : ∀ ix ∈ deliverObjs, ix ≠ Ob.DS_DEVICE_STATE) ix h
        · exact (by decide : ∀ ix ∈ holdObjs, ix ≠ Ob.DS_DEVICE_STATE) ix h
      rw [((frame_dsState hstate (by decide)).mpr .refl : Frame dsFields _ _ _).regs _ _ (by omega) (by simp),
        (State.readsEnded_frame _).regs _ _ (by omega) (by simp [EventObj, deliverObjs, holdObjs]), hmarked]
      rfl
  · rw [State.raise_reg _ _ _ _ _ _ _ _ (by omega) (by omega) (by simp [EventObj]), if_neg (by simp), dsMarkedAll m s h2,
      State.reg_setReg_ne _ _ _ _ _ _ hne]
    exact dsMarked_reg _ _ _ hmem

/-- A training fails exactly where it leads to FAILED. -/
theorem dsFails_iff : dsFails m s.dsFailed = true ↔ (dsEnded m s).reg Ob.DS_STATE 0 = 5 := by
  rw [dsEnded_state m s]
  unfold dsFails
  rcases hbad : m.failed.eraseDups with _ | ⟨d, _ | ⟨e, rest⟩⟩
  · have hdups := eraseDups_of_nodup s.dsFailed_nodup
    generalize s.dsFailed = l at hdups
    rcases l with _ | ⟨a, _ | ⟨b, l⟩⟩ <;> simp [hdups]
  · have hcount := length_eraseDups_append_singleton d.val s.dsFailed_nodup
    simp only [List.length_singleton, List.map_singleton, hcount, Bool.or_eq_true, decide_eq_true_eq]
    by_cases h : s.dsFailed.filter (· != d.val) = [] <;> simp [h]
  · simp

end

/-- The first clause of O27. -/
theorem dsTrainingDone_ends (m : DsTraining) (s : State) (h2 : s.reg Ob.DS_STATE 0 = 2) :
    (s.ds.fromRet = false → ∀ d : Fin 5, (dsEnded m s).reg Ob.DS_MEM_TEMP_C (d.val + 1) = m.temp[d] ∧
      (dsEnded m s).reg Ob.DS_DENSITY (d.val + 1) = (m.density[d] : Int)) ∧
    (dsEnded m s).reg Ob.DS_TRAIN_TIME 0 =
      (if s.ds.fromRet = false ∧ (dsEnded m s).reg Ob.DS_STATE 0 ≠ 5 then (s.stamp : Int) else s.reg Ob.DS_TRAIN_TIME 0) ∧
    (s.dsFailed = [] ∨ m.failed = [] →
      dsEnded m s = { s with regs := (dsEnded m s).regs, ds := (dsEnded m s).ds, lookout := (dsEnded m s).lookout, cap := (dsEnded m s).cap } ∧
      KeepsRegs DsDoneObj s (dsEnded m s)) := by
  have hrest := dsEnded_frame m s
  refine ⟨fun hret d => ?_, ?_, fun h => ?_⟩
  · rw [hrest.regs _ _ (by omega) (by simp [DsObj, EventObj, dsObjs, deliverObjs, holdObjs]),
      hrest.regs _ _ (by omega) (by simp [DsObj, EventObj, dsObjs, deliverObjs, holdObjs])]
    exact dsStamped_read m s hret d
  · rw [hrest.regs _ _ (by omega) (by simp [DsObj, EventObj, dsObjs, deliverObjs, holdObjs]), dsStamped_time]
    simp only [← Bool.not_eq_true, dsFails_iff m s h2, ne_eq]
  · have hframe : Frame { regs := true, ds := true, lookout := true, cap := true } DsDoneObj s (dsEnded m s) :=
      Frame.trans ((dsStamped_frame m s).widen (fun _ _ => rfl) fun ix _ h => .inl ((by decide : ∀ ix ∈ [Ob.DS_DENSITY, Ob.DS_MEM_TEMP_C,
          Ob.DS_TRAIN_TIME], ix ∈ [Ob.DS_STATE, Ob.DS_DENSITY, Ob.DS_MEM_TEMP_C, Ob.DS_TRAIN_TIME, Ob.DS_DEVICE_STATE, Ob.DS_EVENTS]) ix h))
        ((dsEnded_frame_own m s h2 h).widen (fun _ _ => rfl) fun ix sub h => h.imp_left ((by decide : ∀ ix ∈ [Ob.DS_STATE, Ob.DS_DEVICE_STATE,
          Ob.DS_EVENTS], ix ∈ [Ob.DS_STATE, Ob.DS_DENSITY, Ob.DS_MEM_TEMP_C, Ob.DS_TRAIN_TIME, Ob.DS_DEVICE_STATE, Ob.DS_EVENTS]) ix))
    exact ⟨hframe.fields, hframe.regs⟩

/-! ## A training that starts -/

section
variable (s : State)

/-- What a full training writes beside the deep store's state. -/
def trainObjs : List Nat := [Ob.DS_DEVICE_STATE, Ob.DS_REMAP_USED, Ob.DS_REMAP_ENTRY]

theorem State.dsTrain_rest : Frame { regs := true, ds := true } (fun ix _ => ix ∈ trainObjs) (s.dsState 2) (s.dsTrain true) := by
  unfold State.dsTrain
  simp [trainObjs]

theorem State.dsTrain_state : (s.dsTrain true).reg Ob.DS_STATE 0 = 2 := by
  rw [s.dsTrain_rest.regs _ _ (by decide) (by decide), State.dsState_reg]

theorem State.setAll_ds (ix n : Nat) (v : Int) : (s.setAll ix v n).ds = s.ds := by
  induction n generalizing s with
  | zero => rfl
  | succ n ih => exact ih _

theorem State.dsState_ds (v : Int) : (s.dsState v).ds = s.ds := by
  have hframe : Frame dsFields (fun _ _ => True) s (s.dsState v) :=
    (frame_dsState ⟨⟨rfl, rfl, rfl, rfl, rfl, fun _ _ _ => trivial, fun _ _ _ => trivial⟩, rfl, fun _ _ _ => trivial⟩ trivial).mpr .refl
  exact hframe.view State.ds fun _ _ => rfl

theorem State.dsTrain_ds : (s.dsTrain true).ds = { s.ds with
    fromRet := false, trained := false, failed := false, released := false, due := [], busy := none, remap := [], cands := [], run := (0, 0),
    rate := s.nat Ob.DS_PIN_RATE 0 } := by
  unfold State.dsTrain
  rw [if_pos rfl, State.setAll_ds, State.setReg_ds, State.setAll_ds]
  simp only [State.modDs, State.dsState_ds]

theorem State.dsTrain_dsFailed : (s.dsTrain true).dsFailed = [] := by
  refine State.dsFailed_nil _ fun d hd => ?_
  unfold State.dsTrain
  rw [if_pos rfl]
  generalize (s.dsState 2).modDs _ = t
  have hrest : Frame { regs := true } (fun ix _ => ix ∈ [Ob.DS_REMAP_USED, Ob.DS_REMAP_ENTRY]) (t.setAll Ob.DS_DEVICE_STATE 0 5)
      (((t.setAll Ob.DS_DEVICE_STATE 0 5).setReg Ob.DS_REMAP_USED 0 0).setAll Ob.DS_REMAP_ENTRY 0 32) := by
    simp
  rw [hrest.regs _ _ (by omega) (by simp)]
  exact State.setAll_reg _ _ _ _ (by decide) (by omega)

theorem ownDsRetrain_eq : ownDsRetrain s =
    if s.partEA = true ∧ s.ds.enabled = true ∧ s.on Dom.DS = true ∧
        ∀ p : Fin 8, s.exists p = true → s.deepPort p = true → s.pstate p ≠ PS.CARRYING then
      if s.reg Ob.DS_STATE 0 = 2 then .deny St.BUSY else .later ((s.modDs (fun d => { d with retries := 0 })).dsTrain true)
    else .deny St.CONFIG_CONFLICT := by
  have hports : (fins 8).any (fun p => s.exists p && s.deepPort p && s.pstate p == PS.CARRYING) = true ↔
      ¬ ∀ p : Fin 8, s.exists p = true → s.deepPort p = true → s.pstate p ≠ PS.CARRYING := by
    simp [fins, and_assoc]
  unfold ownDsRetrain
  split
  next h =>
    rw [if_neg]
    rintro ⟨hEA, hen, hon, -⟩
    simp [hEA, hen, hon] at h
  next h =>
    by_cases hany : (fins 8).any (fun p => s.exists p && s.deepPort p && s.pstate p == PS.CARRYING) = true
    · rw [if_pos hany, if_neg fun hall => hports.mp hany hall.2.2.2]
    · simp only [Bool.or_eq_true, Bool.not_eq_true', not_or, Bool.not_eq_false] at h
      have hall : ∀ p : Fin 8, s.exists p = true → s.deepPort p = true → s.pstate p ≠ PS.CARRYING := not_not.mp (mt hports.mpr hany)
      rw [if_neg hany, if_pos (⟨h.1.1, h.1.2, h.2, hall⟩ : _ ∧ _ ∧ _ ∧ _)]

theorem State.taken_exists (r : Req) (op : Opcode) (ix sub : Nat) (pl : List Byte) (p : Fin 8) :
    (s.taken r op ix sub pl).exists p = s.exists p := by
  simp only [State.exists, State.owner, State.halfValue, State.taken_breakout]

theorem State.taken_deepPort (r : Req) (op : Opcode) (ix sub : Nat) (pl : List Byte) (p : Fin 8) :
    (s.taken r op ix sub pl).deepPort p = s.deepPort p := by
  unfold State.deepPort
  rw [State.taken_nat _ _ _ _ _ _ _ _ (by omega) (by decide)]

/-- DS.RETRAIN is decided by what stood before its request arrived. -/
theorem ownDsRetrain_taken (r : Req) (op : Opcode) (ix sub : Nat) (pl : List Byte) : ownDsRetrain (s.taken r op ix sub pl) =
    if s.partEA = true ∧ s.ds.enabled = true ∧ s.on Dom.DS = true ∧
        ∀ p : Fin 8, s.exists p = true → s.deepPort p = true → s.pstate p ≠ PS.CARRYING then
      if s.reg Ob.DS_STATE 0 = 2 then .deny St.BUSY
      else .later (((s.taken r op ix sub pl).modDs (fun d => { d with retries := 0 })).dsTrain true)
    else .deny St.CONFIG_CONFLICT := by
  rw [ownDsRetrain_eq, State.taken_partEA, State.taken_ds, State.taken_on, State.taken_reg _ _ _ _ _ _ _ _ (by decide) (by decide)]
  simp only [State.taken_exists, State.taken_deepPort, State.taken_pstate]

end

theorem dsRetrain_starts (s : State) (r : Req) (hacc : s.Accepts r .exec Ob.DS_RETRAIN 0 [0]) (hEA : s.partEA = true)
    (hen : s.ds.enabled = true) (hon : s.on Dom.DS = true)
    (hports : ∀ p : Fin 8, s.exists p = true → s.deepPort p = true → s.pstate p ≠ PS.CARRYING) (h2 : s.reg Ob.DS_STATE 0 ≠ 2) :
    ∃ u : State, exec (.dsRetrain r) s = .next (u.pendAdd ⟨r, .exec, Ob.DS_RETRAIN, 0⟩) ∧
      u = { s.taken r .exec Ob.DS_RETRAIN 0 [0] with
        regs := u.regs, ds := u.ds, link := u.link, hostInst := u.hostInst, test := u.test, lookout := u.lookout, cap := u.cap } ∧
      u.reg Ob.DS_STATE 0 = 2 ∧ u.ds.remap = [] ∧ u.ds.retries = 0 ∧ u.ds.rate = s.nat Ob.DS_PIN_RATE 0 ∧ u.dsFailed = [] := by
  have hown := ownDsRetrain_taken s r .exec Ob.DS_RETRAIN 0 [0]
  rw [if_pos ⟨hEA, hen, hon, hports⟩, if_neg h2] at hown
  have hpin := State.taken_nat s r .exec Ob.DS_RETRAIN 0 [0] Ob.DS_PIN_RATE 0 (by decide) (by decide)
  have hframe : Frame { dsFields with ds := true } (fun _ _ => True) (s.taken r .exec Ob.DS_RETRAIN 0 [0])
      (((s.taken r .exec Ob.DS_RETRAIN 0 [0]).modDs (fun d => { d with retries := 0 })).dsTrain true) := by
    rw [frame_dsTrain ⟨⟨rfl, rfl, rfl, rfl, rfl, fun _ _ _ => trivial, fun _ _ _ => trivial⟩, rfl, fun _ _ _ => trivial⟩ rfl trivial
      (fun _ _ _ => trivial), frame_modDs rfl]
    exact .refl
  refine ⟨_, next_serve_later hacc hown, hframe.fields, State.dsTrain_state _, ?_, ?_, ?_, State.dsTrain_dsFailed _⟩ <;> rw [State.dsTrain_ds]
  · rfl
  · exact hpin

theorem dsTrainingRetry_retries (s : State) (h5 : s.reg Ob.DS_STATE 0 = 5) (hon : s.on Dom.DS = true) (hleft : s.ds.retries < 3) :
    ∃ t : State, exec .dsTrainingRetry s = .next t ∧ t = { s with regs := t.regs, ds := t.ds } ∧ t.reg Ob.DS_STATE 0 = 2 ∧
      t.ds.retries = s.ds.retries + 1 ∧ t.ds.remap = [] ∧
      KeepsRegs (fun ix _ => ix ∈ [Ob.DS_STATE, Ob.DS_DEVICE_STATE, Ob.DS_REMAP_USED, Ob.DS_REMAP_ENTRY]) s t := by
  have hidle : (s.modDs (fun d => { d with retries := d.retries + 1 })).dsState 2 =
      (s.modDs (fun d => { d with retries := d.retries + 1 })).setReg Ob.DS_STATE 0 2 :=
    State.dsState_idle _ _ (by rw [State.modDs_reg]; omega) (by rw [State.modDs_reg]; omega)
  have hframe : Frame { regs := true, ds := true } (fun ix _ => ix ∈ [Ob.DS_STATE, Ob.DS_DEVICE_STATE, Ob.DS_REMAP_USED, Ob.DS_REMAP_ENTRY]) s
      ((s.modDs (fun d => { d with retries := d.retries + 1 })).dsTrain true) := by
    refine Frame.trans ?_ ((State.dsTrain_rest _).mono fun ix _ h => List.mem_cons_of_mem _ h)
    rw [hidle]
    simp
  refine ⟨_, if_pos ⟨h5, hon, hleft⟩, hframe.fields, State.dsTrain_state _, ?_, ?_, hframe.regs⟩ <;> rw [State.dsTrain_ds]
  rfl

/-! ## A channel's retraining, the refresh and the temperatures -/

/-- Whether the channel is the last one of its device to be trained anew. -/
def State.dsLastChannel (s : State) (d : Fin 5) (c : Fin 4) : Bool :=
  if s.ds.due.contains (d.val, c.val) then !(s.ds.due.filter (· != (d.val, c.val))).any (fun x => x.1 == d.val) else c == 3

/-- The temperatures at which the devices were last trained, after a channel's retraining. -/
def State.dsTrainTemps (s : State) (d : Fin 5) (c : Fin 4) : Vector Int 5 :=
  if s.dsLastChannel d c then s.ds.trainTemp.set d (s.reg Ob.DS_MEM_TEMP_C (d.val + 1)) else s.ds.trainTemp

theorem State.dsTrainTemps_last (s : State) (d : Fin 5) (c : Fin 4) (h : s.dsLastChannel d c = true) :
    (s.dsTrainTemps d c)[d] = s.reg Ob.DS_MEM_TEMP_C (d.val + 1) := by
  unfold State.dsTrainTemps
  rw [if_pos h]
  exact Vector.getElem_set_self _

theorem State.dsTrainTemps_others (s : State) (d : Fin 5) (c : Fin 4) (e : Fin 5) (he : e ≠ d) : (s.dsTrainTemps d c)[e] = s.ds.trainTemp[e] := by
  unfold State.dsTrainTemps
  split
  · exact getElem_set_other _ _ _ he
  · rfl

theorem dsChannelRetrain_counts (s : State) (d : Fin 5) (c : Fin 4) (hstate : s.reg Ob.DS_STATE 0 = 3 ∨ s.reg Ob.DS_STATE 0 = 4) :
    ∃ t : State, exec (.dsChannelRetrain d c) s = .next t ∧ t = { s with regs := t.regs, ds := t.ds } ∧
      t.reg Ob.DS_RETRAIN_COUNT 0 = (min (2 ^ 32 - 1) (s.nat Ob.DS_RETRAIN_COUNT 0 + 1) : Nat) ∧
      t.ds = { s.ds with
        due := s.ds.due.filter (· != (d.val, c.val)), busy := some (c.val, s.time.now + 235), trainTemp := t.ds.trainTemp } ∧
      (c = 3 → (d.val, c.val) ∉ s.ds.due → t.ds.trainTemp[d] = s.reg Ob.DS_MEM_TEMP_C (d.val + 1)) ∧
      (s.ds.due = [(d.val, c.val)] → t.ds.trainTemp[d] = s.reg Ob.DS_MEM_TEMP_C (d.val + 1)) ∧
      (∀ e : Fin 5, e ≠ d → t.ds.trainTemp[e] = s.ds.trainTemp[e]) ∧ KeepsRegs (fun ix _ => ix = Ob.DS_RETRAIN_COUNT) s t := by
  have hexec : exec (.dsChannelRetrain d c) s = .next ((s.bump Ob.DS_RETRAIN_COUNT 0 1).modDs (fun x => { x with
      due := s.ds.due.filter (· != (d.val, c.val)), busy := some (c.val, s.time.now + 235), trainTemp := s.dsTrainTemps d c })) :=
    if_pos hstate
  refine ⟨_, hexec, rfl, State.bump_reg_self _ _ _ _, rfl, ?_, ?_, s.dsTrainTemps_others d c, ?_⟩
  · rintro rfl hdue
    exact s.dsTrainTemps_last d 3 (by simp [State.dsLastChannel, show (d.val, 3) ∉ s.ds.due from hdue])
  · intro hdue
    exact s.dsTrainTemps_last d c (by simp [State.dsLastChannel, hdue])
  · intro jx js hj hne
    exact State.reg_setReg_ne _ _ _ _ _ _ (objKey_ne_of_ix (by omega) hj (Ne.symm hne))

theorem dsRefresh_issues (s : State) (hstate : s.reg Ob.DS_STATE 0 = 3 ∨ s.reg Ob.DS_STATE 0 = 4) :
    ∃ t : State, exec .dsRefresh s = .next t ∧ t = { s with regs := t.regs, ds := t.ds } ∧
      t.ds = { s.ds with refreshes := s.ds.refreshes + 1 } ∧
      t.reg Ob.DS_REFRESH_MULT 0 = (if s.ds.band = 3 then 4 else if s.ds.band = 2 then 2 else 1) ∧
      KeepsRegs (fun ix _ => ix = Ob.DS_REFRESH_MULT) s t := by
  refine ⟨_, if_pos hstate, rfl, rfl, (State.reg_setReg_self _ _ _ _).trans ?_, fun jx js hj hne =>
    State.reg_setReg_ne _ _ _ _ _ _ (objKey_ne_of_ix (by omega) hj (Ne.symm hne))⟩
  unfold refreshMult
  split
  next hband => simp [hband]
  next hband => simp [hband]
  next h2 h3 =>
    rw [if_neg h3, if_neg h2]
    rfl

section
variable (s : State) (d : Fin 5) (c : Int)

/-- A device's temperature stored and judged, before its event. -/
def State.dsTempTaken : State :=
  (s.setReg Ob.DS_MEM_TEMP_C (d.val + 1) (clampInt (-32768) 32767 c)).modDs (fun x => { x with
    band := bandFrom x.band (s.setReg Ob.DS_MEM_TEMP_C (d.val + 1) (clampInt (-32768) 32767 c)).dsTemp
    due := if decide (10 ≤ ((s.setReg Ob.DS_MEM_TEMP_C (d.val + 1) (clampInt (-32768) 32767 c)).reg Ob.DS_MEM_TEMP_C (d.val + 1) -
          s.ds.trainTemp[d]).natAbs) && (s.reg Ob.DS_STATE 0 == 3 || s.reg Ob.DS_STATE 0 == 4)
      then x.due.filter (fun q => q.1 != d.val) ++ (List.range 4).map (fun c => (d.val, c)) else x.due })

/-- The temperature judged, with the event of a hot memory. -/
def State.dsTempRead : State :=
  if (s.dsTempTaken d c).reg Ob.DS_MEM_HOT_C 0 ≤ c then
    (s.dsTempTaken d c).raise Src.DS_MEM_HOT 0 (d.val + 65536 * (c % 65536).toNat) Ob.DS_EVENTS 0
  else s.dsTempTaken d c

theorem execDsTempRead_eq : execDsTempRead d c s = if 2 ≤ s.reg Ob.DS_STATE 0 ∧ s.on Dom.DS then .next (s.dsTempRead d c) else .next s := rfl

theorem State.dsTempTaken_reg (ix sub : Nat) (hsub : sub < 256) (h : ix ≠ Ob.DS_MEM_TEMP_C) : (s.dsTempTaken d c).reg ix sub = s.reg ix sub :=
  State.reg_setReg_ne _ _ _ _ _ _ (objKey_ne_of_ix (by omega) hsub (Ne.symm h))

theorem State.dsTempTaken_due : (s.dsTempTaken d c).ds.due =
    if 10 ≤ (clampInt (-32768) 32767 c - s.ds.trainTemp[d]).natAbs ∧ (s.reg Ob.DS_STATE 0 = 3 ∨ s.reg Ob.DS_STATE 0 = 4) then
      s.ds.due.filter (fun q => q.1 != d.val) ++ (List.range 4).map (fun c => (d.val, c))
    else s.ds.due := by
  unfold State.dsTempTaken State.modDs
  simp only [State.reg_setReg_self, Bool.and_eq_true, Bool.or_eq_true, decide_eq_true_eq, beq_iff_eq]
  rfl

theorem State.dsTempTaken_frame : Frame { regs := true, ds := true } (fun ix sub => ix = Ob.DS_MEM_TEMP_C ∧ sub = d.val + 1) s (s.dsTempTaken d c) := by
  have hd : d.val + 1 < 256 := by omega
  unfold State.dsTempTaken
  simp [hd]

theorem State.dsTempRead_rest : Frame { regs := true, lookout := true, cap := true } (fun ix sub => (ix = Ob.DS_EVENTS ∧ sub = 0) ∨ EventObj ix sub)
    (s.dsTempTaken d c) (s.dsTempRead d c) := by
  unfold State.dsTempRead
  split
  · simp
  · exact .refl

theorem State.dsTempRead_ds : (s.dsTempRead d c).ds = (s.dsTempTaken d c).ds := (s.dsTempRead_rest d c).view State.ds fun _ _ => rfl

theorem State.dsTempRead_events : (s.dsTempRead d c).reg Ob.DS_EVENTS 0 =
    if s.reg Ob.DS_MEM_HOT_C 0 ≤ c then ((min (2 ^ 32 - 1) (s.nat Ob.DS_EVENTS 0 + 1) : Nat) : Int) else s.reg Ob.DS_EVENTS 0 := by
  unfold State.dsTempRead
  rw [s.dsTempTaken_reg d c _ _ (by decide) (by decide)]
  split
  · rw [State.raise_counter _ _ _ _ _ _ (by decide) (by simp [EventObj]), State.nat, s.dsTempTaken_reg d c _ _ (by decide) (by decide)]
    rfl
  · exact s.dsTempTaken_reg d c _ _ (by decide) (by decide)

theorem State.dsTempRead_dsTemp : (s.dsTempRead d c).dsTemp = (s.setReg Ob.DS_MEM_TEMP_C (d.val + 1) (clampInt (-32768) 32767 c)).dsTemp := by
  have hrest := s.dsTempRead_rest d c
  unfold State.dsTemp
  rw [hrest.regs _ _ (by decide) (by simp [EventObj])]
  refine List.foldl_ext _ _ _ fun m e he => ?_
  rw [hrest.regs _ _ (by have := List.mem_range.mp he; omega) (by simp [EventObj])]
  rfl

end

theorem dsTempRead_taken (s : State) (d : Fin 5) (c : Int) (hstate : 2 ≤ s.reg Ob.DS_STATE 0) (hon : s.on Dom.DS = true) :
    ∃ t : State, exec (.dsTempRead d c) s = .next t ∧ t = { s with regs := t.regs, ds := t.ds, lookout := t.lookout, cap := t.cap } ∧
      t.reg Ob.DS_MEM_TEMP_C (d.val + 1) = clampInt (-32768) 32767 c ∧
      t.ds = { s.ds with band := bandFrom s.ds.band t.dsTemp, due := t.ds.due } ∧
      (10 ≤ (clampInt (-32768) 32767 c - s.ds.trainTemp[d]).natAbs → (s.reg Ob.DS_STATE 0 = 3 ∨ s.reg Ob.DS_STATE 0 = 4) →
        ∀ k : Fin 4, (d.val, k.val) ∈ t.ds.due) ∧
      ((clampInt (-32768) 32767 c - s.ds.trainTemp[d]).natAbs < 10 → t.ds.due = s.ds.due) ∧
      t.reg Ob.DS_EVENTS 0 = (if s.reg Ob.DS_MEM_HOT_C 0 ≤ c then ((min (2 ^ 32 - 1) (s.nat Ob.DS_EVENTS 0 + 1) : Nat) : Int)
        else s.reg Ob.DS_EVENTS 0) ∧
      KeepsRegs (fun ix sub => (ix = Ob.DS_MEM_TEMP_C ∧ sub = d.val + 1) ∨ (ix = Ob.DS_EVENTS ∧ sub = 0) ∨ EventObj ix sub) s t := by
  have hframe : Frame { regs := true, ds := true, lookout := true, cap := true } (fun ix sub => (ix = Ob.DS_MEM_TEMP_C ∧ sub = d.val + 1) ∨
      (ix = Ob.DS_EVENTS ∧ sub = 0) ∨ EventObj ix sub) s (s.dsTempRead d c) :=
    Frame.trans ((s.dsTempTaken_frame d c).widen (fun _ _ => rfl) fun _ _ => .inl) ((s.dsTempRead_rest d c).widen (fun _ _ => rfl) fun _ _ => .inr)
  have hstored : (s.dsTempTaken d c).reg Ob.DS_MEM_TEMP_C (d.val + 1) = clampInt (-32768) 32767 c := State.reg_setReg_self _ _ _ _
  refine ⟨s.dsTempRead d c, (execDsTempRead_eq s d c).trans (if_pos ⟨hstate, hon⟩), hframe.fields, ?_, ?_, fun hmoved hready k => ?_, fun hmoved => ?_,
    s.dsTempRead_events d c, hframe.regs⟩
  · rw [(s.dsTempRead_rest d c).regs _ _ (by omega) (by simp [EventObj]), hstored]
  · rw [s.dsTempRead_dsTemp, s.dsTempRead_ds]
    rfl
  · rw [s.dsTempRead_ds, s.dsTempTaken_due, if_pos ⟨hmoved, hready⟩]
    exact List.mem_append_right _ (List.mem_map.mpr ⟨k, List.mem_range.mpr k.isLt, rfl⟩)
  · rw [s.dsTempRead_ds, s.dsTempTaken_due, if_neg fun h => by omega]

theorem bandFrom_hysteresis (b : Nat) (t : Int) (hb : b ≤ 3) : bandFrom b t ≤ 3 ∧ (1070 ≤ t → bandFrom b t = 3) ∧ (t < 0 → bandFrom b t = 0) ∧
    (850 ≤ t → t < 870 → bandFrom b t = if b ≤ 1 then 1 else 2) := by
  unfold bandFrom
  refine ⟨?_, fun h => ?_, fun h => ?_, fun hlo hhi => ?_⟩ <;> grind

/-- Settles O27: a training's outcome follows the devices that fail in it and before; the rest of each step stays. -/
theorem deepStoreTrainsAndRefreshes : Obligations.DeepStoreTrainsAndRefreshes := by
  unfold Obligations.DeepStoreTrainsAndRefreshes
  refine ⟨fun s m h2 => ?_, fun s m h2 => if_pos h2, fun s r hacc hEA hen hon hports => ⟨?_, fun h2 => ?_⟩, fun s r hacc hrefused => ?_,
    dsTrainingRetry_retries, fun s h => if_neg ?_, dsChannelRetrain_counts, dsRefresh_issues, dsTempRead_taken, fun s d c h => ?_,
    bandFrom_hysteresis⟩
  · obtain ⟨hread, htime, hown⟩ := dsTrainingDone_ends m s h2
    exact ⟨dsEnded m s, execDsTrainingDone_of m s h2, dsEnded_state m s, fun d hd => dsEnded_failed m s h2 d hd, hread, htime, hown⟩
  · exact dsRetrain_starts s r hacc hEA hen hon hports
  · refine next_serve_deny hacc ?_
    rw [ownDsRetrain_taken, if_pos ⟨hEA, hen, hon, hports⟩, if_pos h2]
  · refine next_serve_deny hacc ?_
    rw [ownDsRetrain_taken, if_neg]
    rintro ⟨hEA, hen, hon, hports⟩
    rcases hrefused with h | h | h | ⟨p, hex, hdeep, hcarry⟩
    · simp [hEA] at h
    · simp [hen] at h
    · simp [hon] at h
    · exact hports p hex hdeep hcarry
  · rintro ⟨h5, -, hleft⟩
    rcases h with h | h
    · exact h h5
    · omega
  · refine (execDsTempRead_eq s d c).trans (if_neg ?_)
    rintro ⟨hstate, hon⟩
    rcases h with h | h
    · omega
    · simp [hon] at h

end Sys2Proof.Machine

/-! SUPPORT. Requests that are forwarded in band: sent, answered, retried and timed out (R343, R349, R350, R357). -/

namespace Sys2Proof.Machine

/-! ## The queues of replies -/

section
variable (s : State) (p q : Path) (bs : List Byte)

/-- A transport's change that leaves its replies leaves those of every path. -/
theorem State.modTp_replies {f : Transport → Transport} (hf : ∀ t, (f t).replies = t.replies) :
    ((s.modTp p f).tp q).replies = (s.tp q).replies := by
  by_cases h : q = p
  · rw [h, State.modTp_tp_self, hf]
  · rw [s.modTp_tp_ne f h]

theorem State.arrive_replies : ((s.arrive p bs).tp q).replies = (s.tp q).replies := by
  unfold State.arrive
  split
  · exact s.modTp_replies p q fun _ => rfl
  · exact State.modTp_replies _ p q fun _ => rfl

theorem State.pushReply_replies : ((s.pushReply p bs).tp p).replies =
    (s.tp p).replies ++ [if p = .mdio ∧ bs.length % 2 = 1 then bs ++ [0] else bs] := by
  unfold State.pushReply
  rw [State.modTp_tp_self]

theorem State.modTp_fwd (f : Transport → Transport) : (s.modTp p f).mmp.fwd = s.mmp.fwd := rfl

theorem State.pushReply_fwd : (s.pushReply p bs).mmp.fwd = s.mmp.fwd := rfl

theorem State.modFwd_tp (i : Fin 8) (f : List Forward → List Forward) : (s.modFwd i f).tp q = s.tp q := rfl

theorem State.modFwd_fwd (i : Fin 8) (f : List Forward → List Forward) : (s.modFwd i f).mmp.fwd[i] = f s.mmp.fwd[i] :=
  Vector.getElem_set_self _

theorem State.modFwd_others (i : Fin 8) (f : List Forward → List Forward) (k : Fin 8) (hk : k ≠ i) : (s.modFwd i f).mmp.fwd[k] = s.mmp.fwd[k] :=
  getElem_set_other _ _ _ hk

end

/-! ## Answers of the server itself -/

section
variable (s : State) (f : Forward) (st : Nat) (body : List Byte) (ix sub : Nat)

/-- A forwarded request is answered on its host's path (R357). -/
theorem State.answerForward_replies : ((s.answerForward f st body ix sub).tp f.host.path).replies = (s.tp f.host.path).replies ++
    [if f.host.path = .mdio ∧ (replyFrame f.opByte f.host.tag ix sub st body).length % 2 = 1 then
      replyFrame f.opByte f.host.tag ix sub st body ++ [0] else replyFrame f.opByte f.host.tag ix sub st body] := by
  unfold State.answerForward
  rw [State.modTp_replies _ _ _ (fun t => by split <;> rfl), State.pushReply_replies]

theorem State.answerForward_fwd : (s.answerForward f st body ix sub).mmp.fwd = s.mmp.fwd := rfl

theorem State.answerForward_regs : (s.answerForward f st body ix sub).regs = s.regs := rfl

theorem State.answerForward_reg (jx js : Nat) : (s.answerForward f st body ix sub).reg jx js = s.reg jx js := rfl

end

/-- The requests of a port but those on a tag. -/
theorem mem_filter_tag (fs : List Forward) (tag : Byte) (g : Forward) : g ∈ fs.filter (fun g => g.tag != tag) ↔ g ∈ fs ∧ g.tag ≠ tag := by
  simp

theorem tag_of_find? {fs : List Forward} {tag : Byte} {f : Forward} (h : fs.find? (fun g => g.tag == tag) = some f) : f.tag = tag := by
  simpa using List.find?_some h

/-! ## A request that is sent to the far end -/

section
variable (s : State) (p : Fin 8) (r : Req) (op : Opcode) (ix sub : Nat) (pl : List Byte)

/-- A free one of the port's eight tags is taken where there is one (R357). -/
theorem State.inbandTag_free (hfree : ∃ k < 8, ∀ f ∈ s.mmp.fwd[p], f.tag ≠ BitVec.ofNat 8 k) :
    ∃ tag : Byte, s.inbandTag p r op ix sub pl = some tag ∧ tag.toNat < 8 ∧ ∀ f ∈ s.mmp.fwd[p], f.tag ≠ tag := by
  have hmem (t : Byte) (ht : t ∈ ((List.range 8).map (BitVec.ofNat 8)).filter (fun t => !s.mmp.fwd[p].any (fun f => f.tag == t))) :
      t.toNat < 8 ∧ ∀ f ∈ s.mmp.fwd[p], f.tag ≠ t := by
    obtain ⟨hrange, hunused⟩ := List.mem_filter.mp ht
    obtain ⟨k, hk, rfl⟩ := List.mem_map.mp hrange
    refine ⟨by have := List.mem_range.mp hk; simp; omega, fun f hf heq => ?_⟩
    simp only [Bool.not_eq_true', List.any_eq_false, beq_iff_eq] at hunused
    exact hunused f hf heq
  obtain ⟨k, hk, hunused⟩ := hfree
  have hk : BitVec.ofNat 8 k ∈ ((List.range 8).map (BitVec.ofNat 8)).filter (fun t => !s.mmp.fwd[p].any (fun f => f.tag == t)) := by
    refine List.mem_filter.mpr ⟨List.mem_map.mpr ⟨k, List.mem_range.mpr hk, rfl⟩, ?_⟩
    simp only [Bool.not_eq_true', List.any_eq_false, beq_iff_eq]
    exact hunused
  unfold State.inbandTag
  simp only
  split
  next t hfind => exact ⟨t, rfl, hmem t (List.mem_of_find?_eq_some hfind)⟩
  next hfind =>
    obtain ⟨t, ts, heq⟩ := List.exists_cons_of_ne_nil (List.ne_nil_of_mem hk)
    rw [heq]
    exact ⟨t, rfl, hmem t (by rw [heq]; exact List.mem_cons_self)⟩

variable (tag : Byte)

theorem State.forwardOn_mmp : (s.forwardOn p r op tag ix sub pl) = { s with mmp := (s.forwardOn p r op tag ix sub pl).mmp } := by
  unfold State.forwardOn
  simp only
  split <;> rfl

theorem State.forwardOn_fwd : (s.forwardOn p r op tag ix sub pl).mmp.fwd =
    s.mmp.fwd.set p (s.mmp.fwd[p] ++ [⟨tag, r, opByte r op + 32, ix, sub, forwardFrame r op tag ix sub pl,
      s.nat Ob.MMP_FAR_RETRIES (p.val + 1)⟩]) := by
  unfold State.forwardOn
  simp only
  split <;> rfl

theorem State.forwardOn_replies : ((s.forwardOn p r op tag ix sub pl).tp (.inband p)).replies =
    (s.tp (.inband p)).replies ++ [forwardFrame r op tag ix sub pl] := by
  have hpush : (((s.modFwd p (fun fs => fs ++ [⟨tag, r, opByte r op + 32, ix, sub, forwardFrame r op tag ix sub pl,
      s.nat Ob.MMP_FAR_RETRIES (p.val + 1)⟩])).pushReply (.inband p) (forwardFrame r op tag ix sub pl)).tp (.inband p)).replies =
      (s.tp (.inband p)).replies ++ [forwardFrame r op tag ix sub pl] := by
    rw [State.pushReply_replies, if_neg (by simp)]
    rfl
  unfold State.forwardOn
  simp only
  split <;> exact hpush

end

section
variable (s : State) (r : Req) (op : Opcode) (port ix sub : Nat) (pl : List Byte)

/-- A request to be forwarded as the server takes it: its frame counted, its TAG noted. -/
def State.forwardTaken : State :=
  if opChanges op then (s.arrive r.path (closeFrame (forwardBody r op port ix sub pl))).modTp r.path
    (fun t => noteReq t r.tag (crc16 (forwardBody r op port ix sub pl)))
  else s.arrive r.path (closeFrame (forwardBody r op port ix sub pl))

theorem State.forwardTaken_frame :
    Frame { regs := true, mmp := true } (fun ix _ => ix = Ob.MMP_RX_FRAMES) s (s.forwardTaken r op port ix sub pl) := by
  unfold State.forwardTaken
  simp

theorem State.forwardTaken_fwd : (s.forwardTaken r op port ix sub pl).mmp.fwd = s.mmp.fwd := by
  unfold State.forwardTaken
  split
  · exact State.arrive_fwd _ _ _
  · exact State.arrive_fwd _ _ _

theorem State.forwardTaken_replies (q : Path) : ((s.forwardTaken r op port ix sub pl).tp q).replies = (s.tp q).replies := by
  unfold State.forwardTaken
  split
  · exact (State.modTp_replies _ _ _ (f := fun t => noteReq t r.tag (crc16 (forwardBody r op port ix sub pl))) fun _ => rfl).trans
      (State.arrive_replies _ _ _ _)
  · exact State.arrive_replies _ _ _ _

theorem State.forwardTaken_reg (jx js : Nat) (hj : js < 256) (h : jx ≠ Ob.MMP_RX_FRAMES) :
    (s.forwardTaken r op port ix sub pl).reg jx js = s.reg jx js := (s.forwardTaken_frame r op port ix sub pl).regs _ _ hj h

theorem State.forwardTaken_forwards : (s.forwardTaken r op port ix sub pl).forwards r port = s.forwards r port := by
  have hframe := s.forwardTaken_frame r op port ix sub pl
  have hexists (p : Fin 8) : (s.forwardTaken r op port ix sub pl).exists p = s.exists p := by
    unfold State.exists State.owner State.halfValue
    rw [hframe.view State.breakout fun _ _ => rfl]
  unfold State.forwards
  split
  next h =>
    have hreg (jx : Nat) (hne : jx ≠ Ob.MMP_RX_FRAMES) : (s.forwardTaken r op port ix sub pl).reg jx (port + 1) = s.reg jx (port + 1) :=
      hframe.regs _ _ (by omega) hne
    simp only [hexists, State.pstate, State.native, State.rateActive, State.nat, hreg Ob.PORT_STATE (by decide),
      hreg Ob.PORT_RATE_ACTIVE (by decide), hreg Ob.LINK_PARTNER_FEAT (by decide), hreg Ob.LINK_LPL_TX (by decide)]
    rfl
  · rfl

theorem State.forwardTaken_outstanding : (s.forwardTaken r op port ix sub pl).outstanding r.path =
    (s.arrive r.path (closeFrame (forwardBody r op port ix sub pl))).outstanding r.path := by
  unfold State.forwardTaken
  split
  · unfold State.outstanding
    rw [State.modTp_tp_self]
    rfl
  · rfl

/-- A request that passes the checks goes to the far end or is refused by name (R349, R357). -/
theorem execMmpForwardRequest_of (hlocal : r.path.isLocal = true) (hon : s.on Dom.MGT = true)
    (hlast : opChanges op = true → ∀ l ∈ (s.tp r.path).last, l.tag = r.tag → l.crc ≠ crc16 (forwardBody r op port ix sub pl))
    (hbusy : s.tagBusy r.path r.tag = false)
    (hroom : (s.arrive r.path (closeFrame (forwardBody r op port ix sub pl))).outstanding r.path < 8)
    (hready : s.reg Ob.DICT_STATE 0 = 1) (hblank : s.reg Ob.LC_STATE 0 ≠ 0) (hretired : s.reg Ob.LC_STATE 0 ≠ 5) :
    execMmpForwardRequest r op port ix sub pl s = match s.forwards r port with
      | none => .next ((s.forwardTaken r op port ix sub pl).forwardReply r op ix sub St.CONFIG_CONFLICT)
      | some p =>
        match (s.forwardTaken r op port ix sub pl).inbandTag p r op ix sub pl with
        | some tag => .next ((s.forwardTaken r op port ix sub pl).forwardOn p r op tag ix sub pl)
        | none => .next ((s.forwardTaken r op port ix sub pl).forwardReply r op ix sub St.BUSY) := by
  have hnew : (if opChanges op then ((s.arrive r.path (closeFrame (forwardBody r op port ix sub pl))).tp r.path).last.find?
      (fun l => l.tag == r.tag && l.crc == crc16 (forwardBody r op port ix sub pl)) else none) = none := by
    split
    next hop =>
      rw [State.arrive_last, List.find?_eq_none]
      intro l hl
      simpa using hlast hop l hl
    · rfl
  have hgate : (s.forwardTaken r op port ix sub pl).forwardGate = 0 := by
    unfold State.forwardGate
    rw [s.forwardTaken_reg _ _ _ _ _ _ _ _ (by decide) (by decide), s.forwardTaken_reg _ _ _ _ _ _ _ _ (by decide) (by decide)]
    simp [hready, hblank, hretired]
  unfold execMmpForwardRequest
  simp only [hon, hlocal, hnew, State.tagBusy_arrive, hbusy, Bool.not_true, Bool.false_eq_true, if_false]
  change (if 8 ≤ (s.forwardTaken r op port ix sub pl).outstanding r.path then _ else
    if (s.forwardTaken r op port ix sub pl).forwardGate ≠ 0 then _ else match (s.forwardTaken r op port ix sub pl).forwards r port with
      | none => _ | some p => _) = _
  rw [if_neg (by rw [State.forwardTaken_outstanding]; omega), if_neg (by simp [hgate]), State.forwardTaken_forwards]
  rfl

end

section
variable (s : State) (r : Req) (op : Opcode) (p : Fin 8) (ix sub : Nat) (pl : List Byte)

/-- A request to be forwarded on a free tag is sent (R357). -/
theorem forwardRequest_sent (hfree : ∃ k < 8, ∀ f ∈ s.mmp.fwd[p], f.tag ≠ BitVec.ofNat 8 k)
    (hexec : execMmpForwardRequest r op p.val ix sub pl s = match (s.forwardTaken r op p.val ix sub pl).inbandTag p r op ix sub pl with
      | some tag => .next ((s.forwardTaken r op p.val ix sub pl).forwardOn p r op tag ix sub pl)
      | none => .next ((s.forwardTaken r op p.val ix sub pl).forwardReply r op ix sub St.BUSY)) :
    ∃ (t : State) (tag : Byte), exec (.mmpForwardRequest r op p.val ix sub pl) s = .next t ∧ tag.toNat < 8 ∧
      (∀ f ∈ s.mmp.fwd[p], f.tag ≠ tag) ∧ t = { s with regs := t.regs, mmp := t.mmp } ∧
      t.mmp.fwd[p] = s.mmp.fwd[p] ++ [⟨tag, r, opByte r op + 32, ix, sub, forwardFrame r op tag ix sub pl,
        s.nat Ob.MMP_FAR_RETRIES (p.val + 1)⟩] ∧
      (t.tp (.inband p)).replies = (s.tp (.inband p)).replies ++ [forwardFrame r op tag ix sub pl] ∧
      (∀ q : Fin 8, q ≠ p → t.mmp.fwd[q] = s.mmp.fwd[q]) ∧ KeepsRegs (fun ix _ => ix = Ob.MMP_RX_FRAMES) s t := by
  have hfwd := s.forwardTaken_fwd r op p.val ix sub pl
  have hreplies := s.forwardTaken_replies r op p.val ix sub pl (.inband p)
  have hretries : (s.forwardTaken r op p.val ix sub pl).nat Ob.MMP_FAR_RETRIES (p.val + 1) = s.nat Ob.MMP_FAR_RETRIES (p.val + 1) :=
    congrArg Int.toNat (s.forwardTaken_reg r op p.val ix sub pl _ _ (by omega) (by decide))
  have hframe := s.forwardTaken_frame r op p.val ix sub pl
  generalize s.forwardTaken r op p.val ix sub pl = w at *
  obtain ⟨tag, htag, hlt, hunused⟩ := w.inbandTag_free p r op ix sub pl (by simpa only [hfwd] using hfree)
  rw [htag] at hexec
  have hdone : Frame { regs := true, mmp := true } (fun ix _ => ix = Ob.MMP_RX_FRAMES) s (w.forwardOn p r op tag ix sub pl) := by
    rw [State.forwardOn_mmp, frame_with_mmp rfl]
    exact hframe
  have hset := w.forwardOn_fwd p r op ix sub pl tag
  rw [hfwd, hretries] at hset
  refine ⟨_, tag, hexec, hlt, by simpa only [hfwd] using hunused, hdone.fields, ?_, ?_, fun q hq => ?_, hdone.regs⟩
  · rw [hset]
    exact Vector.getElem_set_self _
  · rw [State.forwardOn_replies, hreplies]
  · rw [hset]
    exact getElem_set_other _ _ _ hq

/-- A request that no port forwards is refused (R343). -/
theorem forwardRequest_refused (hexec : execMmpForwardRequest r op p.val ix sub pl s =
      .next ((s.forwardTaken r op p.val ix sub pl).forwardReply r op ix sub St.CONFIG_CONFLICT)) :
    ∃ t : State, exec (.mmpForwardRequest r op p.val ix sub pl) s = .next t ∧ t = { s with regs := t.regs, mmp := t.mmp } ∧
      (let out := replyFrame (opByte r op + 32) r.tag ix sub St.CONFIG_CONFLICT []
       (t.tp r.path).replies = (s.tp r.path).replies ++ [if r.path = .mdio ∧ out.length % 2 = 1 then out ++ [0] else out]) ∧
      t.mmp.fwd = s.mmp.fwd ∧ KeepsRegs (fun ix _ => ix = Ob.MMP_RX_FRAMES) s t := by
  have hframe : Frame { regs := true, mmp := true } (fun ix _ => ix = Ob.MMP_RX_FRAMES) s
      ((s.forwardTaken r op p.val ix sub pl).forwardReply r op ix sub St.CONFIG_CONFLICT) :=
    (frame_answerForward rfl).mpr (s.forwardTaken_frame r op p.val ix sub pl)
  refine ⟨_, hexec, hframe.fields, ?_, s.forwardTaken_fwd r op p.val ix sub pl, hframe.regs⟩
  exact (State.answerForward_replies _ ⟨r.tag, r, opByte r op + 32, ix, sub, [], 0⟩ _ _ _ _).trans
    (congrArg (· ++ _) (s.forwardTaken_replies r op p.val ix sub pl r.path))

end

/-! ## The far end's replies -/

section
variable (s : State) (p : Fin 8) (frame : List Byte)

theorem State.arrive_frame (q : Path) : Frame { regs := true, mmp := true } (fun ix _ => ix = Ob.MMP_RX_FRAMES) s (s.arrive q frame) :=
  (frame_arrive rfl rfl fun _ => rfl).mpr .refl

/-- A reply that matches a tag is rebuilt for its host (R357). -/
theorem farReply_answered (hon : s.on Dom.MGT = true) (hrsp : bitOf (frame.getD 1 0).toNat 7 = true) (hcrc : crcHolds frame = true)
    (f : Forward) (hfind : s.mmp.fwd[p].find? (fun g => g.tag == frame.getD 2 0) = some f) :
    ∃ t : State, exec (.mmpFarReply p frame) s = .next t ∧ t = { s with regs := t.regs, mmp := t.mmp } ∧
      (∀ g, g ∈ t.mmp.fwd[p] ↔ g ∈ s.mmp.fwd[p] ∧ g.tag ≠ f.tag) ∧ (∀ q : Fin 8, q ≠ p → t.mmp.fwd[q] = s.mmp.fwd[q]) ∧
      (let out := replyFrame f.opByte f.host.tag (leNat ((frame.drop 3).take 2)) (frame.getD 5 0).toNat (frame.getD 8 0).toNat
         ((frame.drop 9).take (leNat ((frame.drop 6).take 2)))
       (t.tp f.host.path).replies = (s.tp f.host.path).replies ++ [if f.host.path = .mdio ∧ out.length % 2 = 1 then out ++ [0] else out]) ∧
      KeepsRegs (fun ix _ => ix = Ob.MMP_RX_FRAMES) s t := by
  have hexec : exec (.mmpFarReply p frame) s = .next (((s.arrive (.inband p) frame).modFwd p (fun fs => fs.filter (fun g => g.tag !=
      frame.getD 2 0))).answerForward f (frame.getD 8 0).toNat ((frame.drop 9).take (leNat ((frame.drop 6).take 2)))
      (leNat ((frame.drop 3).take 2)) (frame.getD 5 0).toNat) := by
    change execMmpFarReply p frame s = _
    unfold execMmpFarReply
    simp only [hon, hrsp, hcrc, Bool.not_true, Bool.or_self, Bool.false_eq_true, if_false, State.arrive_fwd, hfind]
  have hframe : Frame { regs := true, mmp := true } (fun ix _ => ix = Ob.MMP_RX_FRAMES) s
      ((s.arrive (.inband p) frame).modFwd p (fun fs => fs.filter (fun g => g.tag != frame.getD 2 0))) :=
    (frame_modFwd rfl).mpr (s.arrive_frame frame _)
  have hanswered := (frame_answerForward (f := f) (st := (frame.getD 8 0).toNat) (body := (frame.drop 9).take (leNat ((frame.drop 6).take 2)))
    (ix := leNat ((frame.drop 3).take 2)) (sub := (frame.getD 5 0).toNat) rfl).mpr hframe
  refine ⟨_, hexec, hanswered.fields, fun g => ?_, fun q hq => ?_, ?_, hanswered.regs⟩
  · rw [State.answerForward_fwd, State.modFwd_fwd, State.arrive_fwd, mem_filter_tag, tag_of_find? hfind]
  · rw [State.answerForward_fwd, State.modFwd_others _ _ _ _ hq, State.arrive_fwd]
  · exact (State.answerForward_replies _ f _ _ _ _).trans (congrArg (· ++ _) (s.arrive_replies (.inband p) f.host.path frame))

/-- A reply that matches no tag is late (R349). -/
theorem farReply_late (hon : s.on Dom.MGT = true) (hrsp : bitOf (frame.getD 1 0).toNat 7 = true) (hcrc : crcHolds frame = true)
    (hfind : s.mmp.fwd[p].find? (fun g => g.tag == frame.getD 2 0) = none) :
    ∃ t : State, exec (.mmpFarReply p frame) s = .next t ∧ t = { s with regs := t.regs, mmp := t.mmp } ∧ t.mmp.fwd = s.mmp.fwd ∧
      t.reg Ob.MMP_FAR_LATE (p.val + 1) = (min (2 ^ 32 - 1) (s.nat Ob.MMP_FAR_LATE (p.val + 1) + 1) : Nat) ∧
      KeepsRegs (fun ix sub => ix = Ob.MMP_RX_FRAMES ∨ (ix = Ob.MMP_FAR_LATE ∧ sub = p.val + 1)) s t := by
  have hexec : exec (.mmpFarReply p frame) s = .next ((s.arrive (.inband p) frame).bump Ob.MMP_FAR_LATE (p.val + 1) 1) := by
    change execMmpFarReply p frame s = _
    unfold execMmpFarReply
    simp only [hon, hrsp, hcrc, Bool.not_true, Bool.or_self, Bool.false_eq_true, if_false, State.arrive_fwd, hfind]
  have hp : p.val + 1 < 256 := by omega
  have hframe : Frame { regs := true, mmp := true } (fun ix sub => ix = Ob.MMP_RX_FRAMES ∨ (ix = Ob.MMP_FAR_LATE ∧ sub = p.val + 1)) s
      ((s.arrive (.inband p) frame).bump Ob.MMP_FAR_LATE (p.val + 1) 1) :=
    (frame_bump rfl hp (.inr ⟨rfl, rfl⟩)).mpr ((s.arrive_frame frame _).mono fun _ _ => .inl)
  refine ⟨_, hexec, hframe.fields, State.arrive_fwd _ _ _, ?_, hframe.regs⟩
  rw [State.bump_reg_self, State.nat, (s.arrive_frame frame _).regs _ _ hp (by decide)]
  rfl

/-- A reply with a wrong CRC is a frame error of its port (R349). -/
theorem farReply_error (hon : s.on Dom.MGT = true) (hrsp : bitOf (frame.getD 1 0).toNat 7 = true) (hcrc : crcHolds frame = false) :
    ∃ t : State, exec (.mmpFarReply p frame) s = .next t ∧ t = { s with regs := t.regs, lookout := t.lookout, cap := t.cap } ∧
      t.reg Ob.MMP_FRAME_ERRORS (4 + p.val) = (min (2 ^ 32 - 1) (s.nat Ob.MMP_FRAME_ERRORS (4 + p.val) + 1) : Nat) ∧
      t.reg Ob.MMP_EVENTS (4 + p.val) = (min (2 ^ 32 - 1) (s.nat Ob.MMP_EVENTS (4 + p.val) + 1) : Nat) ∧
      KeepsRegs (fun ix sub => (ix ∈ [Ob.MMP_FRAME_ERRORS, Ob.MMP_EVENTS] ∧ sub = 4 + p.val) ∨ EventObj ix sub) s t := by
  have hexec : exec (.mmpFarReply p frame) s = .next (s.frameError (.inband p) false) := by
    change execMmpFarReply p frame s = _
    unfold execMmpFarReply
    simp only [hon, hrsp, hcrc, Bool.not_true, Bool.or_self, Bool.false_eq_true, if_false, Bool.not_false, if_true]
  have hp : 4 + p.val < 256 := by omega
  have hframe : Frame { regs := true, lookout := true, cap := true }
      (fun ix sub => (ix ∈ [Ob.MMP_FRAME_ERRORS, Ob.MMP_EVENTS] ∧ sub = 4 + p.val) ∨ EventObj ix sub) s (s.frameError (.inband p) false) := by
    unfold State.frameError
    simp [hp, Path.sub]
  refine ⟨_, hexec, hframe.fields, ?_, ?_, hframe.regs⟩ <;> unfold State.frameError Path.sub
  · rw [State.raise_reg _ _ _ _ _ _ _ _ hp hp (by simp [EventObj]), if_neg (by simp), State.bump_reg_self]
  · rw [State.raise_counter _ _ _ _ _ _ hp (by simp [EventObj]), State.nat,
      State.bump, State.bumpTo, State.reg_setReg_ne _ _ _ _ _ _ (objKey_ne_of_ix hp hp (by decide))]
    rfl

end

/-! ## The timer of a forwarded request -/

section
variable (s : State) (p : Fin 8) (tag : Byte) (f : Forward) (hfind : s.mmp.fwd[p].find? (fun g => g.tag == tag) = some f)
include hfind

/-- While retries are left the same bytes go out again (R357). -/
theorem farTimeout_retried (hleft : 0 < f.left) : ∃ t : State, exec (.mmpFarTimeout p tag) s = .next t ∧ t = { s with mmp := t.mmp } ∧
    t.mmp.fwd[p] = s.mmp.fwd[p].map (fun g => if g.tag = tag then { g with left := g.left - 1 } else g) ∧
    (∀ q : Fin 8, q ≠ p → t.mmp.fwd[q] = s.mmp.fwd[q]) ∧
    (t.tp (.inband p)).replies = (s.tp (.inband p)).replies ++ [f.bytes] := by
  have hexec : exec (.mmpFarTimeout p tag) s = .next ((s.modFwd p (fun fs => fs.map (fun g => if g.tag = tag then { g with left := g.left - 1 }
      else g))).pushReply (.inband p) f.bytes) := by
    change execMmpFarTimeout p tag s = _
    unfold execMmpFarTimeout
    rw [hfind]
    exact if_pos hleft
  refine ⟨_, hexec, rfl, State.modFwd_fwd _ _ _, fun q hq => State.modFwd_others _ _ _ _ hq, ?_⟩
  rw [State.pushReply_replies, if_neg (by simp)]
  rfl

/-- After the last retry the host is answered PARTNER_TIMEOUT (R357, R365). -/
theorem farTimeout_answered (hleft : f.left = 0) :
    ∃ t : State, exec (.mmpFarTimeout p tag) s = .next t ∧ t = { s with regs := t.regs, mmp := t.mmp, lookout := t.lookout, cap := t.cap } ∧
      (∀ g, g ∈ t.mmp.fwd[p] ↔ g ∈ s.mmp.fwd[p] ∧ g.tag ≠ tag) ∧ (∀ q : Fin 8, q ≠ p → t.mmp.fwd[q] = s.mmp.fwd[q]) ∧
      (let out := replyFrame f.opByte f.host.tag f.ix f.sub St.PARTNER_TIMEOUT []
       (t.tp f.host.path).replies = (s.tp f.host.path).replies ++ [if f.host.path = .mdio ∧ out.length % 2 = 1 then out ++ [0] else out]) ∧
      t.reg Ob.MMP_FAR_TIMEOUTS (p.val + 1) = (min (2 ^ 32 - 1) (s.nat Ob.MMP_FAR_TIMEOUTS (p.val + 1) + 1) : Nat) ∧
      t.reg Ob.MMP_EVENTS (4 + p.val) = (min (2 ^ 32 - 1) (s.nat Ob.MMP_EVENTS (4 + p.val) + 1) : Nat) ∧
      KeepsRegs (fun ix sub => (ix = Ob.MMP_FAR_TIMEOUTS ∧ sub = p.val + 1) ∨ (ix = Ob.MMP_EVENTS ∧ sub = 4 + p.val) ∨
        EventObj ix sub) s t := by
  have hp : p.val + 1 < 256 := by omega
  have hp4 : 4 + p.val < 256 := by omega
  have hexec : exec (.mmpFarTimeout p tag) s = .next ((((s.modFwd p (fun fs => fs.filter (fun g => g.tag != tag))).bump Ob.MMP_FAR_TIMEOUTS
      (p.val + 1) 1).raise Src.MMP_FAR_TIMEOUT (4 + p.val) (p.val + 65536 * (f.ix % 65536)) Ob.MMP_EVENTS (4 + p.val)).answerForward f
      St.PARTNER_TIMEOUT [] f.ix f.sub) := by
    change execMmpFarTimeout p tag s = _
    unfold execMmpFarTimeout
    rw [hfind]
    exact if_neg (by omega)
  have hmmp (w : State) (src inst detail ix sub : Nat) : (w.raise src inst detail ix sub).mmp = w.mmp := by rw [State.raise_eq]
  have htp (w : State) (src inst detail ix sub : Nat) (q : Path) : (w.raise src inst detail ix sub).tp q = w.tp q := by
    unfold State.tp
    rw [hmmp]
  have hframe : Frame { regs := true, mmp := true, lookout := true, cap := true } (fun ix sub => (ix = Ob.MMP_FAR_TIMEOUTS ∧ sub = p.val + 1) ∨
      (ix = Ob.MMP_EVENTS ∧ sub = 4 + p.val) ∨ EventObj ix sub) s ((((s.modFwd p (fun fs => fs.filter (fun g => g.tag != tag))).bump
      Ob.MMP_FAR_TIMEOUTS (p.val + 1) 1).raise Src.MMP_FAR_TIMEOUT (4 + p.val) (p.val + 65536 * (f.ix % 65536)) Ob.MMP_EVENTS (4 + p.val)).answerForward
      f St.PARTNER_TIMEOUT [] f.ix f.sub) := by
    simp [hp4]
  refine ⟨_, hexec, hframe.fields, fun g => ?_, fun q hq => ?_, ?_, ?_, ?_, hframe.regs⟩
  · rw [State.answerForward_fwd, hmmp]
    exact (iff_of_eq (congrArg (g ∈ ·) (State.modFwd_fwd _ _ _))).trans (mem_filter_tag _ _ _)
  · rw [State.answerForward_fwd, hmmp]
    exact State.modFwd_others _ _ _ _ hq
  · refine (State.answerForward_replies _ f _ _ _ _).trans (congrArg (· ++ _) ?_)
    rw [htp]
    rfl
  · rw [State.answerForward_reg, State.raise_reg _ _ _ _ _ _ _ _ hp4 hp (by simp [EventObj]), if_neg (by simp), State.bump_reg_self]
    rfl
  · rw [State.answerForward_reg, State.raise_counter _ _ _ _ _ _ hp4 (by simp [EventObj]), State.nat, State.bump, State.bumpTo,
      State.reg_setReg_ne _ _ _ _ _ _ (objKey_ne_of_ix hp hp4 (by decide))]
    rfl

end

/-- Settles O44: every path of a forwarded request, from its taking to its reply or its last timeout. -/
theorem forwardedRequestsAreAnswered : Obligations.ForwardedRequestsAreAnswered := by
  unfold Obligations.ForwardedRequestsAreAnswered
  refine ⟨fun s r op p ix sub pl hlocal hon hlast hbusy hroom hready hblank hretired => ?_, fun s p frame hon hrsp hcrc =>
    ⟨farReply_answered s p frame hon hrsp hcrc, farReply_late s p frame hon hrsp hcrc⟩, farReply_error, fun s p tag f hfind =>
    ⟨farTimeout_retried s p tag f hfind, farTimeout_answered s p tag f hfind⟩, fun s p tag hfind => ?_⟩
  · have hexec := execMmpForwardRequest_of s r op p.val ix sub pl hlocal hon hlast hbusy hroom hready hblank hretired
    refine ⟨fun hforwards hfree => ?_, fun hforwards => ?_⟩ <;> rw [hforwards] at hexec
    · exact forwardRequest_sent s r op p ix sub pl hfree hexec
    · exact forwardRequest_refused s r op p ix sub pl hexec
  · change execMmpFarTimeout p tag s = _
    unfold execMmpFarTimeout
    rw [hfind]

end Sys2Proof.Machine

/-! SUPPORT. What the transports do with bytes: requests pushed in, replies pulled out, and the stand-in (R353 to R356, R435). -/

namespace Sys2Proof.Machine

/-! ## Bytes of numbers and checks -/

theorem crcStep_lt {w poly v : Nat} {b : Bool} (hpoly : poly < 2 ^ w) : crcStep w poly v b < 2 ^ w := by
  have hshift : 2 * v % 2 ^ w < 2 ^ w := Nat.mod_lt _ (by positivity)
  unfold crcStep
  simp only
  split
  · exact Nat.xor_lt_two_pow hshift hpoly
  · exact hshift

theorem crc16_lt (bs : List Byte) : crc16 bs < 65536 := by
  have hall : ∀ (l : List Bool) (v : Nat), v < 2 ^ 16 → l.foldl (crcStep 16 0x1021) v < 2 ^ 16 := by
    intro l
    induction l with
    | nil => exact fun _ h => h
    | cons b l ih => exact fun v _ => ih _ (crcStep_lt (by decide))
  exact hall (bytesBits bs) 0xFFFF (by decide)

theorem beNat_beBytes {n v : Nat} (h : v < 256 ^ n) : beNat (beBytes n v) = v := by
  rw [beNat, beBytes, List.reverse_reverse, leNat_leBytes n v h]

theorem beBytes_length (n v : Nat) : (beBytes n v).length = n := by simp [beBytes]

section
variable (body : List Byte)

theorem closeFrame_length : (closeFrame body).length = body.length + 2 := by simp [closeFrame, beBytes_length]

theorem closeFrame_drop : (closeFrame body).drop ((closeFrame body).length - 2) = beBytes 2 (crc16 body) := by
  rw [closeFrame_length]
  exact List.drop_left' rfl

theorem closeFrame_take : (closeFrame body).take ((closeFrame body).length - 2) = body := by
  rw [closeFrame_length]
  exact List.take_left' rfl

/-- A closed frame's CRC holds (R344). -/
theorem crcHolds_closeFrame : crcHolds (closeFrame body) = true := by
  unfold crcHolds
  rw [closeFrame_drop, closeFrame_take, closeFrame_length]
  simp

end

/-! ## A frame's header -/

section
variable (r : Req) (op : Opcode) (ix sub : Nat) (pl : List Byte)

/-- A request's frame, byte by byte as far as its header goes. -/
theorem frame_header : closeFrame (frameBody r op ix sub pl) = [0xA5, BitVec.ofNat 8 (opByte r op), r.tag, BitVec.ofNat 8 ix,
    BitVec.ofNat 8 (ix / 256), BitVec.ofNat 8 sub, BitVec.ofNat 8 (schemaPrefix r ++ pl).length,
    BitVec.ofNat 8 ((schemaPrefix r ++ pl).length / 256)] ++ (schemaPrefix r ++ pl ++ beBytes 2 (crc16 (frameBody r op ix sub pl))) := by
  simp [closeFrame, frameBody, leBytes]

theorem frameBody_length : (closeFrame (frameBody r op ix sub pl)).length = 10 + (schemaPrefix r ++ pl).length := by
  rw [frame_header]
  simp only [List.length_append, List.length_cons, List.length_nil, beBytes_length]
  omega

/-- The LENGTH field of a request's frame, from any of its beginnings that holds it. -/
theorem frame_lengthField {k : Nat} (hk : 8 ≤ k) (hlen : (schemaPrefix r ++ pl).length < 65536) :
    leNat ((((closeFrame (frameBody r op ix sub pl)).take k).drop 6).take 2) = (schemaPrefix r ++ pl).length := by
  have hspelt := leNat_leBytes 2 (schemaPrefix r ++ pl).length (by simpa using hlen)
  obtain ⟨k, rfl⟩ := Nat.exists_eq_add_of_le hk
  rw [frame_header, Nat.add_comm 8 k]
  simpa [leBytes] using hspelt

theorem frame_frameLength {p : Path} (hp : p.isLocal = true) {k : Nat} (hk : 8 ≤ k) (hlen : (schemaPrefix r ++ pl).length < 65536) :
    frameLength p ((closeFrame (frameBody r op ix sub pl)).take k) = (closeFrame (frameBody r op ix sub pl)).length := by
  unfold frameLength
  rw [frame_lengthField r op ix sub pl hk hlen, frameBody_length]
  simp [hp]

theorem opByte_lt : opByte r op < 128 := by
  unfold opByte
  cases op <;> split <;> simp [Opcode.code]

theorem frame_opByte : ((closeFrame (frameBody r op ix sub pl)).getD 1 0).toNat = opByte r op := by
  have hlt := opByte_lt r op
  rw [frame_header]
  simp
  omega

theorem frame_tag : (closeFrame (frameBody r op ix sub pl)).getD 2 0 = r.tag := by
  rw [frame_header]
  rfl

theorem opcodeOk_opByte {p : Path} (hp : p.isLocal = true) : opcodeOk p (opByte r op) = true := by
  unfold opcodeOk opByte
  rw [hp]
  cases op <;> split <;> decide

theorem opByte_changes : (opByte r op % 16 = 2 ∨ opByte r op % 16 = 4 ∨ opByte r op % 16 = 6) ↔ opChanges op = true := by
  unfold opByte
  cases op <;> split <;> decide

end

/-! ## A request pushed in -/

section
variable (s : State) (p : Path)

theorem State.modTp_modTp (f g : Transport → Transport) : (s.modTp p f).modTp p g = s.modTp p (fun t => g (f t)) := by
  simp [State.modTp]

theorem State.modTp_congr {f g : Transport → Transport} (h : f (s.tp p) = g (s.tp p)) : s.modTp p f = s.modTp p g := by
  unfold State.modTp
  rw [show f s.mmp.ports[p.idx] = g s.mmp.ports[p.idx] from h]

theorem State.modTp_self {f : Transport → Transport} (h : f (s.tp p) = s.tp p) : s.modTp p f = s := by
  unfold State.modTp
  rw [show f s.mmp.ports[p.idx] = s.mmp.ports[p.idx] from h]
  simp

/-- A byte between frames that is not SYNC is dropped (R353). -/
theorem State.pushByte_noise (lpl : Nat) (b : Byte) (hskip : (s.tp p).skip = 0) (hrx : (s.tp p).rx = []) (hb : b ≠ 0xA5) :
    s.pushByte p lpl b = s := by
  unfold State.pushByte
  simp [hskip, hrx, show ¬ b = 165#8 from hb]

/-- SYNC between frames begins one (R353). -/
theorem State.pushByte_sync (lpl : Nat) (hskip : (s.tp p).skip = 0) (hrx : (s.tp p).rx = []) :
    s.pushByte p lpl 0xA5 = s.modTp p (fun t => { t with rx := [0xA5], rxLpl := lpl }) := by
  unfold State.pushByte
  simp [hskip, hrx]

theorem State.pushBytes_append_singleton (lpl : Nat) (bs : List Byte) (b : Byte) :
    s.pushBytes p lpl (bs ++ [b]) = (s.pushBytes p lpl bs).pushByte p lpl b := List.foldl_append

/-- A byte of a header is taken up (R353). -/
theorem State.pushByte_header (lpl : Nat) (b : Byte) (hskip : (s.tp p).skip = 0) (hrx : (s.tp p).rx ≠ []) (hshort : (s.tp p).rx.length < 7) :
    s.pushByte p lpl b = s.modTp p (fun t => { t with rx := (s.tp p).rx ++ [b] }) := by
  unfold State.pushByte
  simp [hskip, hrx, hshort]

end

section
variable (s : State) (r : Req) (op : Opcode) (ix sub : Nat) (pl : List Byte)

/-- The state with the frame's first `k` bytes in the path's FIFO. -/
def State.pushedTo (k : Nat) : State :=
  s.modTp r.path (fun t => { t with rx := (closeFrame (frameBody r op ix sub pl)).take k, rxLpl := 3 })

theorem State.pushedTo_tp (k : Nat) : (s.pushedTo r op ix sub pl k).tp r.path =
    { s.tp r.path with rx := (closeFrame (frameBody r op ix sub pl)).take k, rxLpl := 3 } := State.modTp_tp_self _ _ _

variable (hlocal : r.path.isLocal = true) (hrx : (s.tp r.path).rx = []) (hskip : (s.tp r.path).skip = 0)
  (hlen : (schemaPrefix r ++ pl).length ≤ 4112)
  (hfits : ((s.tp r.path).accepted.map (fun f => f.bytes.length)).sum + (closeFrame (frameBody r op ix sub pl)).length ≤ 8192)
include hlocal hskip hlen hfits

/-- One more byte of a frame that fits is taken up, until the last one closes it (R353). -/
theorem State.pushByte_pushedTo (k : Nat) (hk : 1 ≤ k) (hlast : k + 1 < (closeFrame (frameBody r op ix sub pl)).length) :
    (s.pushedTo r op ix sub pl k).pushByte r.path 3 ((closeFrame (frameBody r op ix sub pl))[k]'(by omega)) = s.pushedTo r op ix sub pl (k + 1) := by
  have htp := s.pushedTo_tp r op ix sub pl k
  have hnext : (closeFrame (frameBody r op ix sub pl)).take k ++ [(closeFrame (frameBody r op ix sub pl))[k]'(by omega)] =
      (closeFrame (frameBody r op ix sub pl)).take (k + 1) := List.take_append_getElem (by omega)
  have hcount : ((closeFrame (frameBody r op ix sub pl)).take (k + 1)).length = k + 1 := by simp; omega
  have hne : (closeFrame (frameBody r op ix sub pl)).take k ≠ [] := List.ne_nil_of_length_pos (by simp; omega)
  have hstored : (s.pushedTo r op ix sub pl k).modTp r.path (fun t => { t with rx := (closeFrame (frameBody r op ix sub pl)).take (k + 1) }) =
      s.pushedTo r op ix sub pl (k + 1) := State.modTp_modTp _ _ _ _
  unfold State.pushByte
  simp only [htp, hskip, hne, hnext, hcount, if_false, Nat.lt_irrefl]
  split
  · exact hstored
  next hlong =>
    rw [frame_lengthField r op ix sub pl (by omega) (by omega), frame_frameLength r op ix sub pl hlocal (by omega) (by omega),
      if_neg (by omega), if_neg, if_neg (by omega)]
    · exact hstored
    · rintro ⟨h8, hfull⟩
      have hpart : ((closeFrame (frameBody r op ix sub pl)).take k).length = 7 := by simp; omega
      simp only [Transport.used, hpart] at hfull
      omega

include hrx

/-- All bytes of a frame but the last in the FIFO. -/
theorem State.pushBytes_take (k : Nat) (hk : 1 ≤ k) (hlast : k < (closeFrame (frameBody r op ix sub pl)).length) :
    s.pushBytes r.path 3 ((closeFrame (frameBody r op ix sub pl)).take k) = s.pushedTo r op ix sub pl k := by
  induction k, hk using Nat.le_induction with
  | base =>
    have hfirst : (closeFrame (frameBody r op ix sub pl)).take 1 = [0xA5] := by rw [frame_header]; rfl
    unfold State.pushedTo
    rw [hfirst]
    exact s.pushByte_sync r.path 3 hskip hrx
  | succ k hk ih =>
    rw [← s.pushByte_pushedTo r op ix sub pl hlocal hskip hlen hfits k hk hlast, ← ih (by omega),
      ← State.pushBytes_append_singleton, List.take_append_getElem (by omega)]

/-- A whole frame pushed in is taken from the FIFO (R353). -/
theorem State.pushBytes_frame : s.pushBytes r.path 3 (closeFrame (frameBody r op ix sub pl)) =
    (s.modTp r.path (fun t => { t with rx := [], rxLpl := 3 })).takeFrame r.path 3 (closeFrame (frameBody r op ix sub pl)) := by
  have hcount := frameBody_length r op ix sub pl
  obtain ⟨n, hn⟩ : ∃ n, (closeFrame (frameBody r op ix sub pl)).length = n + 1 :=
    ⟨9 + (schemaPrefix r ++ pl).length, by omega⟩
  have hall : (closeFrame (frameBody r op ix sub pl)).take n ++ [(closeFrame (frameBody r op ix sub pl))[n]'(by omega)] =
      closeFrame (frameBody r op ix sub pl) := by
    rw [List.take_append_getElem (by omega), List.take_of_length_le hn.le]
  have hpush : s.pushBytes r.path 3 (closeFrame (frameBody r op ix sub pl)) =
      (s.pushBytes r.path 3 ((closeFrame (frameBody r op ix sub pl)).take n)).pushByte r.path 3
        ((closeFrame (frameBody r op ix sub pl))[n]'(by omega)) := by
    rw [← State.pushBytes_append_singleton, hall]
  have htp := s.pushedTo_tp r op ix sub pl n
  have hne : (closeFrame (frameBody r op ix sub pl)).take n ≠ [] := List.ne_nil_of_length_pos (by simp; omega)
  have hwhole := frame_frameLength r op ix sub pl hlocal (k := n + 1) (by omega) (by omega)
  rw [List.take_of_length_le hn.le] at hwhole
  rw [hpush, s.pushBytes_take r op ix sub pl hlocal hrx hskip hlen hfits n (by omega) (by omega)]
  unfold State.pushByte
  simp only [htp, hskip, hne, hall, hwhole, if_false, Nat.lt_irrefl]
  rw [if_neg (by omega), if_neg (by omega), if_neg (by omega), if_pos trivial]
  exact congrArg (fun u => State.takeFrame u r.path 3 _) (State.modTp_modTp _ _ _ _)

end

section
variable (s : State) (r : Req) (op : Opcode) (ix sub : Nat) (pl : List Byte)

/-- A good frame that repeats no request is accepted, with the counter latched (R51, R353). -/
theorem State.takeFrame_accepted (hlocal : r.path.isLocal = true)
    (hlast : opChanges op = true → ∀ l ∈ (s.tp r.path).last, l.tag = r.tag → l.crc ≠ crc16 (frameBody r op ix sub pl)) :
    s.takeFrame r.path 3 (closeFrame (frameBody r op ix sub pl)) = (s.bump Ob.MMP_RX_FRAMES r.path.sub 1).modTp r.path
      (fun t => { t with accepted := t.accepted ++ [⟨closeFrame (frameBody r op ix sub pl), s.stamp⟩] }) := by
  have hnew : (s.bump Ob.MMP_RX_FRAMES r.path.sub 1).duplicateOf r.path (closeFrame (frameBody r op ix sub pl)) = none := by
    unfold State.duplicateOf
    simp only [frame_opByte, frame_tag, closeFrame_drop, beNat_beBytes (n := 2) (crc16_lt (frameBody r op ix sub pl)), opByte_changes]
    split
    next hop =>
      rw [List.find?_eq_none]
      intro l hl
      simpa using hlast hop l hl
    · rfl
  unfold State.takeFrame
  simp only [crcHolds_closeFrame, frame_opByte, hlocal, opcodeOk_opByte r op hlocal, hnew, ite_self]
  simp

end

/-- A request pushed whole: accepted and counted, with whatever its transaction shifts out (R51, R353, R366). -/
theorem pushRequest (s : State) (r : Req) (op : Opcode) (ix sub : Nat) (pl out : List Byte) (c : Instr) (hlocal : r.path.isLocal = true)
    (hrx : (s.tp r.path).rx = []) (hskip : (s.tp r.path).skip = 0) (hlen : (schemaPrefix r ++ pl).length ≤ 4112)
    (hfits : ((s.tp r.path).accepted.map (fun f => f.bytes.length)).sum + (closeFrame (frameBody r op ix sub pl)).length ≤ 8192)
    (hlast : opChanges op = true → ∀ l ∈ (s.tp r.path).last, l.tag = r.tag → l.crc ≠ crc16 (frameBody r op ix sub pl))
    (hexec : exec c s = .next ((s.shiftOut r.path out).pushBytes r.path 3 (closeFrame (frameBody r op ix sub pl)))) :
    ∃ t : State, exec c s = .next t ∧ t = { s with regs := t.regs, mmp := t.mmp } ∧
      t.tp r.path = { s.tp r.path with
        rxLpl := 3, out := out, accepted := (s.tp r.path).accepted ++ [⟨closeFrame (frameBody r op ix sub pl), s.stamp⟩] } ∧
      t.reg Ob.MMP_RX_FRAMES r.path.sub = (min (2 ^ 32 - 1) (s.nat Ob.MMP_RX_FRAMES r.path.sub + 1) : Nat) ∧
      KeepsRegs (fun jx js => jx = Ob.MMP_RX_FRAMES ∧ js = r.path.sub) s t := by
  have hshift : (s.shiftOut r.path out).tp r.path = { s.tp r.path with out := out } := State.modTp_tp_self _ _ _
  have hcleared : ((s.shiftOut r.path out).modTp r.path (fun t => { t with rx := [], rxLpl := 3 })).tp r.path =
      { s.tp r.path with out := out, rx := [], rxLpl := 3 } := by rw [State.modTp_tp_self, hshift]
  rw [State.pushBytes_frame _ r op ix sub pl hlocal (by rw [hshift]; exact hrx) (by rw [hshift]; exact hskip) hlen (by rw [hshift]; exact hfits),
    State.takeFrame_accepted _ r op ix sub pl hlocal (by rw [hcleared]; exact hlast)] at hexec
  have hsub : r.path.sub < 256 := by
    cases hpath : r.path <;> simp [Path.sub]
    omega
  refine ⟨_, hexec, rfl, ?_, ?_, fun jx js hj hne => ?_⟩
  · rw [State.modTp_tp_self]
    have haccept := congrArg (fun t : Transport =>
      { t with accepted := t.accepted ++ [(⟨closeFrame (frameBody r op ix sub pl), s.stamp⟩ : FrameIn)] }) hcleared
    refine haccept.trans ?_
    dsimp only
    rw [hrx]
  · exact State.bump_reg_self _ _ _ _
  · refine State.reg_setReg_ne _ _ _ _ _ _ fun hkey => hne ?_
    exact ((objKey_inj hsub hj).mp hkey).imp Eq.symm Eq.symm

/-! ## Noise, words over MDIO, and replies pulled out -/

section
variable (s : State) (p : Path)

/-- Bytes without SYNC between frames are all dropped (R353). -/
theorem State.pushBytes_noise (lpl : Nat) (bs : List Byte) (hskip : (s.tp p).skip = 0) (hrx : (s.tp p).rx = []) (hbs : ∀ b ∈ bs, b ≠ 0xA5) :
    s.pushBytes p lpl bs = s := by
  induction bs with
  | nil => rfl
  | cons b bs ih =>
    refine Eq.trans ?_ (ih fun b hb => hbs b (List.mem_cons_of_mem _ hb))
    exact congrArg (fun u => State.pushBytes u p lpl bs) (s.pushByte_noise p lpl b hskip hrx (hbs b List.mem_cons_self))

/-- Two bytes of a header are taken up one after the other (R353, R356). -/
theorem State.pushBytes_two (lpl : Nat) (a b : Byte) (hskip : (s.tp p).skip = 0) (hrx : 1 ≤ (s.tp p).rx.length) (hshort : (s.tp p).rx.length ≤ 5) :
    s.pushBytes p lpl [a, b] = s.modTp p (fun t => { t with rx := (s.tp p).rx ++ [a, b] }) := by
  have hne : (s.tp p).rx ≠ [] := List.ne_nil_of_length_pos hrx
  have hfirst := s.pushByte_header p lpl a hskip hne (by omega)
  have htp : (s.pushByte p lpl a).tp p = { s.tp p with rx := (s.tp p).rx ++ [a] } := by rw [hfirst, State.modTp_tp_self]
  have hsecond := (s.pushByte p lpl a).pushByte_header p lpl b (by rw [htp]; exact hskip) (by rw [htp]; simp) (by rw [htp]; simp; omega)
  refine Eq.trans (show s.pushBytes p lpl [a, b] = (s.pushByte p lpl a).pushByte p lpl b from rfl) (hsecond.trans ?_)
  rw [htp, hfirst, State.modTp_modTp]
  simp

end

theorem pullCount_first {f : List Byte} {fs : List (List Byte)} (h : f.length ≤ 8192) : f.length ≤ pullCount 8192 (f :: fs) := by
  rw [pullCount, if_pos h]
  omega

/-- Taking exactly the first reply's bytes leaves the others. -/
theorem takeReply_first {f : List Byte} {fs : List (List Byte)} (h : 2 ≤ f.length) : takeReply f.length (f :: fs) = (f, fs) := by
  obtain ⟨n, hn⟩ : ∃ n, f.length = n + 1 := ⟨f.length - 1, by omega⟩
  rw [hn, takeReply, if_pos hn.le, hn, Nat.sub_self]
  cases fs <;> simp [takeReply]

/-- A word of the first reply: the rest of it waits. -/
theorem takeReply_word {f : List Byte} {fs : List (List Byte)} (h : 2 ≤ f.length) :
    takeReply 2 (f :: fs) = (f.take 2, if f.length = 2 then fs else f.drop 2 :: fs) := by
  rw [takeReply]
  split
  next hle =>
    have hlen : f.length = 2 := by omega
    rw [if_pos hlen, hlen, List.take_of_length_le hlen.le]
    cases fs <;> simp [takeReply]
  next hlong => rw [if_neg (by omega)]

section
variable (s : State) (p : Path) (f : List Byte) (fs : List (List Byte)) (head : List Byte)

/-- A PULL of exactly one reply clocks out its count and its bytes (R353). -/
theorem State.pull_first (h2 : 2 ≤ f.length) (hfits : f.length ≤ 8192) (hwait : (s.tp p).replies = f :: fs) :
    s.pull p (2 + f.length) head =
      s.modTp p (fun t => { t with replies := fs, out := head ++ (leBytes 2 (pullCount 8192 (f :: fs)) ++ f) }) := by
  have hmin : min (2 + f.length - 2) (pullCount 8192 (f :: fs)) = f.length := by
    have := pullCount_first (fs := fs) hfits
    omega
  unfold State.pull
  simp only [hwait, hmin, takeReply_first h2]
  congr 1
  funext t
  rw [show 2 + f.length - 2 - f.length = 0 by omega, List.replicate_zero, List.append_nil, List.take_of_length_le (by simp)]

/-- A PULL where nothing waits clocks out zeros (R353). -/
theorem State.pull_empty (n : Nat) (hwait : (s.tp p).replies = []) :
    s.pull p (2 + n) head = s.modTp p (fun t => { t with out := head ++ List.replicate (2 + n) 0 }) := by
  have hzeros : leBytes 2 0 ++ [] ++ List.replicate n (0 : Byte) = List.replicate (2 + n) 0 := by
    rw [Nat.add_comm 2 n]
    rfl
  unfold State.pull
  simp only [hwait, pullCount, Nat.min_zero, takeReply]
  refine State.modTp_congr _ _ ?_
  rw [show 2 + n - 2 - ([] : List Byte).length = n by simp, hzeros, List.take_of_length_le (by simp), ← hwait]

end

/-- A word pulled over MDIO (R356). -/
theorem execMdioMmpPull_of (s : State) (hon : s.on Dom.MGT = true) : execMdioMmpPull s =
    .next (s.modTp .mdio (fun t => { t with
      replies := (takeReply (min 2 (pullCount 8192 (s.tp .mdio).replies)) (s.tp .mdio).replies).2
      out := ((takeReply (min 2 (pullCount 8192 (s.tp .mdio).replies)) (s.tp .mdio).replies).1 ++ [0, 0]).take 2 })) :=
  if_neg (by simp [hon])

/-- The status byte of R354, bit by bit, while MGT is ON. -/
theorem State.statusByte_on (s : State) (p : Path) (hon : s.on Dom.MGT = true) : s.statusByte p =
    (if s.reg Ob.DICT_STATE 0 = 1 then 128 else 0) + (if (s.tp p).replies = [] then 0 else 64) + (if (s.tp p).used + 4122 ≤ 8192 then 32 else 0) +
      (if s.reg Ob.DICT_STATE 0 = 2 ∨ s.reg Ob.DICT_STATE 0 = 3 then 16 else 0) + 1 := by
  have hbit (k : Nat) (c : Prop) [Decidable c] : k * (decide c).toNat = if c then k else 0 := by
    by_cases h : c <;> simp [h]
  unfold State.statusByte
  simp only [hon, Bool.not_true, Bool.false_eq_true, if_false, ← Bool.decide_or, hbit, ne_eq, ite_not]

/-! ## The stand-in -/

/-- A domain that leaves RET: its time at rest is accounted there (R441). -/
theorem State.setPwr_ret_frame (s : State) (d : Fin 36) (v : Int) (h : s.pwr d = 1) : Frame { regs := true, doms := true }
    (fun ix sub => ix ∈ [Ob.POWER_RES_RET_US, Ob.POWER_STATE, Ob.POWER_STATE_TIME] ∧ sub = d.val + 1) s (s.setPwr d v) := by
  unfold State.setPwr State.account
  rw [frame_setStamp rfl (by omega) (by simp), frame_setReg rfl (by omega) (by simp), frame_modDom rfl]
  split
  next h0 => omega
  next => simp
  next hother => exact absurd h hother

section
variable (s : State) (q : Path) (hpwr : s.pwr Dom.MGT = 1) (hbarred : s.doms[Dom.MGT].barred = false)
include hpwr

theorem State.on_of_pwr : s.on Dom.MGT = false := by
  unfold State.on
  rw [hpwr]
  rfl

/-- At rest the stand-in answers 0x01 and calls MGT (R435). -/
theorem State.standIn_eq : s.standIn q = (s.shiftOut q [1]).castVote Dom.MGT Vote.HOST := by
  have hbyte : s.statusByte q = 1 := by
    unfold State.statusByte
    rw [s.on_of_pwr hpwr]
    rfl
  unfold State.standIn State.mgtCall
  rw [if_neg (by omega), hbyte, if_neg]
  · rfl
  · change s.pwr Dom.MGT ≠ 0
    omega

/-- The objects of MGT that its call writes. -/
def callObjs : List Nat := [Ob.POWER_VOTES, Ob.POWER_VOTE_HOST, Ob.POWER_RES_RET_US, Ob.POWER_STATE, Ob.POWER_STATE_TIME]

include hbarred

/-- A vote of the host on MGT at rest wakes it (R432). -/
theorem State.castVote_rest : s.castVote Dom.MGT Vote.HOST = (s.noteVote Dom.MGT Vote.HOST true).startWake Dom.MGT := by
  have hbar : s.domBarred Dom.MGT = false := by
    unfold State.domBarred
    rw [hbarred]
    rfl
  unfold State.castVote
  rw [hpwr]
  exact if_neg (by simp [hbar])

theorem State.castVote_rest_frame : Frame { regs := true, doms := true } (fun ix sub => ix ∈ callObjs ∧ sub = Dom.MGT.val + 1) s
    (s.castVote Dom.MGT Vote.HOST) := by
  have hnoted : (s.noteVote Dom.MGT Vote.HOST true).pwr Dom.MGT = 1 := (s.noteVote_pwr _ _ _ _).trans hpwr
  have hnote : Frame { regs := true, doms := true } (fun ix sub => ix ∈ callObjs ∧ sub = Dom.MGT.val + 1) s (s.noteVote Dom.MGT Vote.HOST true) := by
    unfold State.noteVote
    simp [callObjs]
  rw [s.castVote_rest hpwr hbarred]
  refine hnote.trans ?_
  generalize s.noteVote Dom.MGT Vote.HOST true = u at *
  have hwake := (State.setPwr_ret_frame (u.modDom Dom.MGT (fun m => { m with fromRet := u.pwr Dom.MGT == 1, toOff := false })) Dom.MGT 4 hnoted).mono
    (Q := fun ix sub => ix ∈ callObjs ∧ sub = Dom.MGT.val + 1) fun ix _ h =>
    ⟨(by decide : ∀ ix ∈ [Ob.POWER_RES_RET_US, Ob.POWER_STATE, Ob.POWER_STATE_TIME], ix ∈ callObjs) ix h.1, h.2⟩
  exact ((frame_modDom rfl).mpr .refl).trans hwake

/-- A transaction while MGT rests is answered by the stand-in and wakes it (R435). -/
theorem standIn_wakes (c : Instr) (hexec : exec c s = .next (s.standIn q)) :
    ∃ t : State, exec c s = .next t ∧ t.tp q = { s.tp q with out := [1] } ∧ t.pwr Dom.MGT = 4 ∧ bitOf (t.votes Dom.MGT) Vote.HOST = true ∧
      t = { s with regs := t.regs, doms := t.doms, mmp := t.mmp } ∧
      KeepsRegs (fun ix sub => ix ∈ [Ob.POWER_VOTES, Ob.POWER_VOTE_HOST, Ob.POWER_RES_RET_US, Ob.POWER_STATE, Ob.POWER_STATE_TIME] ∧
        sub = Dom.MGT.val + 1) s t := by
  have hpwr' : (s.shiftOut q [1]).pwr Dom.MGT = 1 := hpwr
  rw [s.standIn_eq q hpwr] at hexec
  have hcall := State.castVote_rest_frame (s.shiftOut q [1]) hpwr' hbarred
  have hframe : Frame { regs := true, doms := true, mmp := true } (fun ix sub => ix ∈ callObjs ∧ sub = Dom.MGT.val + 1) s
      ((s.shiftOut q [1]).castVote Dom.MGT Vote.HOST) :=
    Frame.trans ((frame_modTp rfl).mpr .refl) (hcall.widen (fun _ _ => rfl) fun _ _ => id)
  refine ⟨_, hexec, ?_, ?_, ?_, hframe.fields, hframe.regs⟩
  · rw [show ((s.shiftOut q [1]).castVote Dom.MGT Vote.HOST).tp q = (s.shiftOut q [1]).tp q from hcall.view (fun u => u.tp q) fun _ _ => rfl]
    exact State.modTp_tp_self _ _ _
  · rw [State.castVote_rest _ hpwr' hbarred, State.startWake, State.setPwr_pwr]
  · rw [State.castVote_votes]
    exact bitOf_withBit _ _ _

end

/-- Settles O45: bytes make frames, frames make requests, replies come out, and the stand-in wakes MGT. -/
theorem transportsCarryFrames : Obligations.TransportsCarryFrames := by
  unfold Obligations.TransportsCarryFrames
  refine ⟨fun s r op ix sub pl frame hframe hon hrx hskip hlen hfits hlast => ?_, fun s bs hon hrx hskip hbs => ?_, fun s w hon hskip hrx hshort => ?_,
    fun s f fs hon h2 hfits => ⟨fun hwait => ?_, fun hwait => ?_, fun hwait => ?_⟩, fun s n hon => ⟨fun hwait => ?_, fun hwait => ?_⟩,
    fun s hon => ⟨?_, ?_, fun w => ⟨fun hbit => ?_, fun hbit => ?_⟩, fun via => if_pos hon⟩, fun s bs n w q c hpwr hbarred hc hq => ?_⟩
  · subst hframe
    refine ⟨fun hpath => ?_, fun hpath => ?_⟩
    · have hexec : exec (.spiPush (closeFrame (frameBody r op ix sub pl))) s = .next ((s.shiftOut r.path [BitVec.ofNat 8 (s.statusByte .spi)]).pushBytes
          r.path 3 (closeFrame (frameBody r op ix sub pl))) := by
        rw [hpath]
        exact if_neg (by simp [hon])
      have hpushed := pushRequest s r op ix sub pl _ _ (by rw [hpath]; rfl) hrx hskip hlen hfits hlast hexec
      rwa [hpath] at hpushed
    · have hexec : exec (.i2cPush (closeFrame (frameBody r op ix sub pl))) s = .next ((s.shiftOut r.path []).pushBytes
          r.path 3 (closeFrame (frameBody r op ix sub pl))) := by
        rw [hpath]
        exact if_neg (by simp [hon])
      have hpushed := pushRequest s r op ix sub pl _ _ (by rw [hpath]; rfl) hrx hskip hlen hfits hlast hexec
      rwa [hpath] at hpushed
  · have hshift : (s.shiftOut .spi [BitVec.ofNat 8 (s.statusByte .spi)]).tp .spi =
        { s.tp .spi with out := [BitVec.ofNat 8 (s.statusByte .spi)] } := State.modTp_tp_self _ _ _
    have hnoise := State.pushBytes_noise (s.shiftOut .spi [BitVec.ofNat 8 (s.statusByte .spi)]) .spi 3 bs (by rw [hshift]; exact hskip)
      (by rw [hshift]; exact hrx) hbs
    exact ⟨_, (if_neg (by simp [hon])).trans (congrArg Host.Outcome.next hnoise), rfl, hshift⟩
  · have htwo := s.pushBytes_two .mdio 3 (BitVec.ofNat 8 (w.toNat / 256)) (BitVec.ofNat 8 w.toNat) hskip hrx hshort
    exact ⟨_, (if_neg (by simp [hon])).trans (congrArg Host.Outcome.next htwo), rfl, State.modTp_tp_self _ _ _⟩
  · exact ⟨_, (if_neg (by simp [hon])).trans (congrArg Host.Outcome.next (s.pull_first .spi f fs _ h2 hfits hwait)), rfl, State.modTp_tp_self _ _ _⟩
  · exact ⟨_, (if_neg (by simp [hon])).trans (congrArg Host.Outcome.next (s.pull_first .i2c f fs [] h2 hfits hwait)), rfl, State.modTp_tp_self _ _ _⟩
  · refine ⟨_, execMdioMmpPull_of s hon, rfl, (State.modTp_tp_self _ _ _).trans ?_⟩
    have hmin : min 2 (pullCount 8192 (f :: fs)) = 2 := by
      have := pullCount_first (fs := fs) hfits
      omega
    rw [hwait, hmin, takeReply_word h2, List.take_append_of_le_length (by simp; omega), List.take_take]
    rfl
  · exact ⟨_, (if_neg (by simp [hon])).trans (congrArg Host.Outcome.next (s.pull_empty .spi _ n hwait)), rfl, State.modTp_tp_self _ _ _⟩
  · refine ⟨_, execMdioMmpPull_of s hon, rfl, (State.modTp_tp_self _ _ _).trans ?_⟩
    have hempty : takeReply (min 2 (pullCount 8192 [])) [] = ([], []) := rfl
    rw [hwait, hempty]
    dsimp only
    rw [hwait]
    rfl
  · refine ⟨_, if_neg (by simp [hon]), rfl, (State.modTp_tp_self _ _ _).trans ?_⟩
    rw [s.statusByte_on .spi hon]
  · exact ⟨_, if_neg (by simp [hon]), rfl, State.modTp_tp_self _ _ _⟩
  · exact ⟨_, (if_neg (by simp [hon])).trans (if_pos hbit), rfl, State.modTp_tp_self _ _ _⟩
  · exact (if_neg (by simp [hon])).trans (if_neg (by simp [hbit]))
  · refine standIn_wakes s q hpwr hbarred c ?_
    have hoff := s.on_of_pwr hpwr
    simp only [List.mem_cons, Prod.mk.injEq, List.not_mem_nil, or_false] at hc
    rcases hc with ⟨rfl, rfl⟩ | ⟨rfl, rfl⟩ | ⟨rfl, rfl⟩ | ⟨rfl, rfl⟩ | ⟨rfl, rfl⟩ | ⟨rfl, rfl⟩ | ⟨rfl, rfl⟩ | ⟨rfl, rfl⟩ | ⟨rfl, rfl⟩ | ⟨-, rfl⟩
    case inr.inr.inr.inr.inr.inr.inr.inr.inr => exact (if_neg (by simp [hoff])).trans (if_pos hq)
    all_goals exact if_pos (by simp [hoff])

end Sys2Proof.Machine

/-! SUPPORT. What power-on, RESET_N and a chip reset clear and keep (R442 to R445). -/

namespace Sys2Proof.Machine

/-! ## Objects returned to their defaults -/

/-- A key that a filter keeps reads as before. -/
theorem Store.get_filter {α : Type} (dflt : Nat → α) (m : Store α) (p : Nat → Bool) (k : Nat) (h : p k = true) :
    Store.get dflt (m.filter (fun c => p c.1)) k = Store.get dflt m k := by
  induction m with
  | nil => rfl
  | cons c m ih =>
    by_cases hc : p c.1 = true
    · rw [List.filter_cons_of_pos (by exact hc), Store.get, Store.get, ih]
    · rw [List.filter_cons_of_neg (by exact hc), Store.get, if_neg (by rintro rfl; exact hc h), ih]

section
variable (s : State)

theorem State.clearObjs_reg (p : Nat → Nat → Bool) (ix sub : Nat) (hsub : sub < 256) (h : p ix sub = false) :
    (s.clearObjs p).reg ix sub = s.reg ix sub := by
  have hkey : objKey ix sub / 256 = ix ∧ objKey ix sub % 256 = sub := by unfold objKey; omega
  exact Store.get_filter regDefault s.regs (fun k => !p (k / 256) (k % 256)) _ (by simp only [hkey, h, Bool.not_false])

theorem State.fresh0_reg (ix sub : Nat) : s.fresh0.reg ix sub = regDefault (objKey ix sub) := rfl

/-! ## Every domain off -/

/-- One domain reads OFF, AON and MGT ON, its votes gone. -/
def State.domOff (d : Fin 36) (s : State) : State :=
  ((((if s.pwr d = (if d = Dom.AON ∨ d = Dom.MGT then 2 else 0 : Int) then s.account d
    else s.setPwr d (if d = Dom.AON ∨ d = Dom.MGT then 2 else 0)).modDom d (fun m => { since := m.since, quart := m.quart })).setReg
      Ob.POWER_VOTES (d.val + 1) 0).setReg Ob.POWER_VOTE_HOST (d.val + 1) 0).setReg Ob.POWER_VOTE_FAR (d.val + 1) 0

theorem State.domsOff_eq : s.domsOff = forEach (fins 36) State.domOff s := rfl

/-- The objects of a domain that its going OFF writes. -/
def domOffObjs : List Nat := pwrObjs ++ [Ob.POWER_VOTES, Ob.POWER_VOTE_HOST, Ob.POWER_VOTE_FAR]

variable (d : Fin 36)

theorem State.account_frame : Frame { regs := true, doms := true }
    (fun ix sub => ix ∈ [Ob.POWER_RES_ON_US, Ob.POWER_RES_RET_US, Ob.POWER_RES_OFF_US] ∧ sub = d.val + 1) s (s.account d) := by
  unfold State.account
  rw [frame_modDom rfl]
  split <;> simp

/-- A domain brought to a state that it already has, or to another, reads it. -/
theorem State.settled_frame (v : Int) : Frame { regs := true, doms := true } (fun ix sub => ix ∈ pwrObjs ∧ sub = d.val + 1) s
    (if s.pwr d = v then s.account d else s.setPwr d v) := by
  split
  · exact (s.account_frame d).mono fun ix sub h => ⟨(by decide : ∀ ix ∈ [Ob.POWER_RES_ON_US, Ob.POWER_RES_RET_US, Ob.POWER_RES_OFF_US],
      ix ∈ pwrObjs) ix h.1, h.2⟩
  · exact s.setPwr_frame d v

theorem State.settled_pwr (v : Int) : (if s.pwr d = v then s.account d else s.setPwr d v).pwr d = v := by
  split
  next h => exact ((s.account_frame d).regs _ _ (by omega) (by simp)).trans h
  · exact s.setPwr_pwr d v

theorem State.domOff_frame : Frame { regs := true, doms := true } (fun ix sub => ix ∈ domOffObjs ∧ sub = d.val + 1) s (s.domOff d) := by
  have hsettled := (s.settled_frame d (if d = Dom.AON ∨ d = Dom.MGT then 2 else 0)).mono
    (Q := fun ix sub => ix ∈ domOffObjs ∧ sub = d.val + 1) fun ix sub h => ⟨List.mem_append_left _ h.1, h.2⟩
  have hd : d.val + 1 < 256 := by omega
  unfold State.domOff
  rw [frame_setReg rfl hd (by simp [domOffObjs]), frame_setReg rfl hd (by simp [domOffObjs]), frame_setReg rfl hd (by simp [domOffObjs]),
    frame_modDom rfl]
  exact hsettled

theorem State.domOff_pwr : (s.domOff d).pwr d = if d = Dom.AON ∨ d = Dom.MGT then 2 else 0 := by
  have hne (ix : Nat) (h : ix ≠ Ob.POWER_STATE) : objKey ix (d.val + 1) ≠ objKey Ob.POWER_STATE (d.val + 1) :=
    objKey_ne_of_ix (by omega) (by omega) h
  unfold State.domOff State.pwr
  rw [State.reg_setReg_ne _ _ _ _ _ _ (hne _ (by decide)), State.reg_setReg_ne _ _ _ _ _ _ (hne _ (by decide)),
    State.reg_setReg_ne _ _ _ _ _ _ (hne _ (by decide))]
  exact s.settled_pwr d _

theorem State.domOff_votes : (s.domOff d).votes d = 0 := by
  have hne (ix : Nat) (h : ix ≠ Ob.POWER_VOTES) : objKey ix (d.val + 1) ≠ objKey Ob.POWER_VOTES (d.val + 1) :=
    objKey_ne_of_ix (by omega) (by omega) h
  unfold State.domOff State.votes State.nat
  rw [State.reg_setReg_ne _ _ _ _ _ _ (hne _ (by decide)), State.reg_setReg_ne _ _ _ _ _ _ (hne _ (by decide)), State.reg_setReg_self]
  rfl

theorem State.domsOff_frame : Frame { regs := true, doms := true } (fun ix _ => ix ∈ domOffObjs) s s.domsOff :=
  (frame_forEach fun d _ t => (t.domOff_frame d).mono fun _ _ h => h.1).mpr .refl

/-- After all have gone off every domain reads its state, without votes (R442). -/
theorem State.domsOff_reads : s.domsOff.pwr d = (if d = Dom.AON ∨ d = Dom.MGT then 2 else 0) ∧ s.domsOff.votes d = 0 := by
  have hall := forEach_establishes (l := fins 36) (f := State.domOff) (fun _ => True)
    (fun d t => t.pwr d = (if d = Dom.AON ∨ d = Dom.MGT then 2 else 0) ∧ t.votes d = 0) (fun _ _ _ _ => trivial)
    (fun d _ t _ => ⟨t.domOff_pwr d, t.domOff_votes d⟩) (fun d _ e _ t _ ht => ?_) (s := s) trivial
  · exact hall.2 d (by simp [fins])
  by_cases hde : e = d
  · subst hde
    exact ⟨t.domOff_pwr e, t.domOff_votes e⟩
  have hframe := t.domOff_frame e
  have hne : d.val + 1 ≠ e.val + 1 := fun hval => hde (Fin.ext (by omega))
  have hkept (ix : Nat) : (t.domOff e).reg ix (d.val + 1) = t.reg ix (d.val + 1) := hframe.regs _ _ (by omega) fun h => hne h.2
  exact ⟨(hkept _).trans ht.1, (congrArg Int.toNat (hkept _)).trans ht.2⟩

end

/-! ## The chip reset -/

section
variable (s : State) (cause : Int)

/-- The state of which a chip reset keeps the registers: cleared, every domain off. -/
def State.chipCleared : State :=
  ((if s.reg Ob.UPDATE_SESSION 0 = 1 then s.flashErase Part.STAGING 65536 else s).clearObjs (fun ix _ => chipClears ix)).domsOff

/-- A register that a chip reset neither clears nor writes. -/
theorem State.chipCleared_reg (ix sub : Nat) (hsub : sub < 256) (hclear : chipClears ix = false) (hdom : ix ∉ domOffObjs) :
    s.chipCleared.reg ix sub = s.reg ix sub := by
  unfold State.chipCleared
  rw [(State.domsOff_frame _).regs _ _ hsub hdom, State.clearObjs_reg _ _ _ _ hsub hclear]
  split <;> rfl

/-- What a chip reset keeps, before its own objects are set. -/
def State.chipKept : State where
  regs := s.chipCleared.regs
  blobs := s.chipCleared.blobs
  time := s.chipCleared.time
  lookout := { s.chipCleared.lookout with chipDue := none }
  doms := s.chipCleared.doms
  partEA := s.partEA
  gradeI := s.gradeI
  savedRegs := s.savedRegs
  savedBlobs := s.savedBlobs
  rxsynth := s.rxsynth.map (fun y => { band := y.band })
  therm := {
    diode := s.therm.diode, corr := s.therm.corr, raw := s.therm.raw, exits := s.therm.exits, noAuto := s.therm.noAuto
    planDue := s.therm.planDue || s.waiting Ob.COMPASS_PLAN_NOW 0, dayMin := s.therm.dayMin, day := s.therm.day, hour := s.therm.hour }
  start := {
    powered := true, resetN := s.start.resetN, delayDone := true, full := s.start.full, bistDone := s.start.bistDone, strap := s.start.strap }
  tap := s.tap
  fuse := s.fuse
  flash := s.chipCleared.flash
  upd := { torn := s.tornSlots }
  cwCount := s.cwCount
  freeCount := s.freeCount
  pending := s.pending

theorem State.chipReset_eq : s.chipReset cause =
    (((((s.chipKept.setReg Ob.DICT_STATE 0 0).setReg Ob.POWER_RESET_CAUSE 0 cause).bump Ob.POWER_START_COUNT 0 1).setReg
      Ob.THERMAL_THROTTLE_STEP 0 0).setReg Ob.THERMAL_STATE 0 0).setReg Ob.POWER_START_STEP 0
      (if s.start.bistDone ∧ s.start.full = 0 then 4 else 2) := rfl

theorem State.chipCleared_frame : Frame { regs := true, blobs := true, doms := true, flash := true } (fun _ _ => True) s s.chipCleared := by
  unfold State.chipCleared
  refine Frame.trans ?_ ((State.domsOff_frame _).widen (fun _ _ => rfl) fun _ _ _ => trivial)
  split <;> exact ⟨rfl, fun _ _ _ h => absurd trivial h⟩

theorem State.chipCleared_flash (h : s.reg Ob.UPDATE_SESSION 0 ≠ 1) : s.chipCleared.flash = s.flash := by
  unfold State.chipCleared
  rw [if_neg h, (State.domsOff_frame _).view State.flash fun _ _ => rfl]
  rfl

theorem State.chipKept_reg (ix sub : Nat) : s.chipKept.reg ix sub = s.chipCleared.reg ix sub := by
  unfold State.chipKept
  generalize s.chipCleared = c
  rfl

/-- What of the chip reset's state stands as it was or as cleared. -/
theorem State.chipKept_keeps : s.chipKept.time = s.chipCleared.time ∧ s.chipKept.lookout = { s.chipCleared.lookout with chipDue := none } ∧
    s.chipKept.mmp = {} ∧ s.chipKept.fuse = s.fuse ∧ s.chipKept.pending = s.pending ∧ s.chipKept.savedRegs = s.savedRegs ∧
    s.chipKept.flash = s.chipCleared.flash := by
  unfold State.chipKept
  generalize s.chipCleared = c
  exact ⟨rfl, rfl, rfl, rfl, rfl, rfl, rfl⟩

/-- The objects that a chip reset itself sets. -/
def chipObjs : List Nat :=
  [Ob.DICT_STATE, Ob.POWER_RESET_CAUSE, Ob.POWER_START_COUNT, Ob.THERMAL_THROTTLE_STEP, Ob.THERMAL_STATE, Ob.POWER_START_STEP]

theorem State.chipReset_frame : Frame { regs := true } (fun ix _ => ix ∈ chipObjs) s.chipKept (s.chipReset cause) := by
  rw [State.chipReset_eq]
  generalize s.chipKept = k
  simp [chipObjs]

/-- A register that a chip reset leaves. -/
theorem State.chipReset_reg (ix sub : Nat) (hsub : sub < 256) (hclear : chipClears ix = false) (hdom : ix ∉ domOffObjs) (hset : ix ∉ chipObjs) :
    (s.chipReset cause).reg ix sub = s.reg ix sub :=
  ((s.chipReset_frame cause).regs _ _ hsub hset).trans ((s.chipKept_reg ix sub).trans (s.chipCleared_reg ix sub hsub hclear hdom))

theorem State.chipReset_own : (s.chipReset cause).reg Ob.DICT_STATE 0 = 0 ∧ (s.chipReset cause).reg Ob.POWER_RESET_CAUSE 0 = cause ∧
    (s.chipReset cause).reg Ob.POWER_START_COUNT 0 = (min (2 ^ 32 - 1) (s.nat Ob.POWER_START_COUNT 0 + 1) : Nat) ∧
    (s.chipReset cause).reg Ob.POWER_START_STEP 0 = (if s.start.bistDone = true ∧ s.start.full = 0 then 4 else 2) := by
  have hcount : s.chipKept.nat Ob.POWER_START_COUNT 0 = s.nat Ob.POWER_START_COUNT 0 :=
    congrArg Int.toNat ((s.chipKept_reg _ _).trans (s.chipCleared_reg _ _ (by decide) (by decide) (by decide)))
  rw [State.chipReset_eq, ← hcount]
  generalize s.chipKept = k
  refine ⟨?_, ?_, ?_, State.reg_setReg_self _ _ _ _⟩ <;> simp [State.bump, State.bumpTo, State.reg_setReg, State.nat]

/-- Every domain's state and votes after a chip reset (R442). -/
theorem State.chipReset_domain (d : Fin 36) :
    (s.chipReset cause).pwr d = (if d = Dom.AON ∨ d = Dom.MGT then 2 else 0) ∧ (s.chipReset cause).votes d = 0 := by
  have hkept (ix : Nat) (h : ix ∉ chipObjs) : (s.chipReset cause).reg ix (d.val + 1) = s.chipCleared.reg ix (d.val + 1) :=
    ((s.chipReset_frame cause).regs ix (d.val + 1) (by omega) h).trans (s.chipKept_reg ix _)
  obtain ⟨hpwr, hvotes⟩ := State.domsOff_reads
    ((if s.reg Ob.UPDATE_SESSION 0 = 1 then s.flashErase Part.STAGING 65536 else s).clearObjs (fun ix _ => chipClears ix)) d
  exact ⟨(hkept Ob.POWER_STATE (by decide)).trans hpwr, (congrArg Int.toNat (hkept Ob.POWER_VOTES (by decide))).trans hvotes⟩

theorem chipReset_ordered (cause : Nat) (hdue : s.lookout.chipDue = some cause) (hsafe : s.reg Ob.DICT_STATE 0 ≠ 3) :
    ∃ t : State, exec .chipReset s = .next t ∧ t.time = s.time ∧ t.reg Ob.TIME_EPOCH 0 = s.reg Ob.TIME_EPOCH 0 ∧
      t.reg Ob.TIME_RATE_ADJ 0 = s.reg Ob.TIME_RATE_ADJ 0 ∧ t.reg Ob.DICT_STATE 0 = 0 ∧ t.reg Ob.POWER_RESET_CAUSE 0 = (cause : Int) ∧
      t.reg Ob.POWER_START_COUNT 0 = (min (2 ^ 32 - 1) (s.nat Ob.POWER_START_COUNT 0 + 1) : Nat) ∧
      t.reg Ob.POWER_START_STEP 0 = (if s.start.bistDone = true ∧ s.start.full = 0 then 4 else 2) ∧
      (∀ d : Fin 36, t.pwr d = (if d = Dom.AON ∨ d = Dom.MGT then 2 else 0) ∧ t.votes d = 0) ∧
      t.lookout = { s.lookout with chipDue := none } ∧ t.mmp = {} ∧ t.fuse = s.fuse ∧ t.pending = s.pending ∧
      t.savedRegs = s.savedRegs ∧ (s.reg Ob.UPDATE_SESSION 0 ≠ 1 → t.flash = s.flash) := by
  have hexec : exec .chipReset s = .next (s.chipReset cause) := by
    change execChipReset s = _
    unfold execChipReset
    rw [hdue]
    exact if_neg hsafe
  obtain ⟨hdict, hcause, hcount, hstep⟩ := s.chipReset_own cause
  obtain ⟨htime, hlookout, hmmp, hfuse, hpending, hsaved, hflash⟩ := s.chipKept_keeps
  have hkept := s.chipReset_frame cause
  refine ⟨_, hexec, ?_, ?_, ?_, hdict, hcause, hcount, hstep, s.chipReset_domain cause, ?_, ?_, ?_, ?_, ?_, fun h => ?_⟩
  · exact (hkept.view State.time fun _ _ => rfl).trans (htime.trans (s.chipCleared_frame.view State.time fun _ _ => rfl))
  · exact s.chipReset_reg _ _ _ (by decide) (by decide) (by decide) (by decide)
  · exact s.chipReset_reg _ _ _ (by decide) (by decide) (by decide) (by decide)
  · refine (hkept.view State.lookout fun _ _ => rfl).trans (hlookout.trans ?_)
    exact congrArg (fun l : Lookout => { l with chipDue := none }) (s.chipCleared_frame.view State.lookout fun _ _ => rfl)
  · exact (hkept.view State.mmp fun _ _ => rfl).trans hmmp
  · exact (hkept.view State.fuse fun _ _ => rfl).trans hfuse
  · exact (hkept.view State.pending fun _ _ => rfl).trans hpending
  · exact (hkept.view State.savedRegs fun _ _ => rfl).trans hsaved
  · exact (hkept.view State.flash fun _ _ => rfl).trans (hflash.trans (s.chipCleared_flash h))

end

/-! ## Power-on and RESET_N -/

theorem powerOn_clears (s : State) (strap : Fin 4) (h : s.start.powered = false) :
    ∃ t : State, exec (.powerOn strap) s = .next t ∧ t.start = { powered := true, resetN := s.start.resetN, strap := strap.val } ∧
      t.time.acc = 0 ∧ t.reg Ob.POWER_START_STEP 0 = 1 ∧ t.fuse.cells = s.fuse.cells ∧ t.pending = s.pending ∧
      (∀ ix sub, sub < 256 → ¬(ix = Ob.POWER_START_STEP ∧ sub = 0) → t.reg ix sub = regDefault (objKey ix sub)) := by
  refine ⟨_, if_neg (by simp [h]), rfl, rfl, State.reg_setReg_self _ _ _ _, rfl, rfl, fun ix sub hsub hne => ?_⟩
  rw [State.reg_setReg _ _ _ _ _ _ (by decide) hsub, if_neg fun heq => hne ⟨heq.1.symm, heq.2.symm⟩]
  rfl

/-- Start-up reaches step 2 and counts (R445). -/
theorem State.stepTwo_reads (s : State) : s.stepTwo.reg Ob.POWER_START_STEP 0 = 2 ∧
    s.stepTwo.reg Ob.POWER_START_COUNT 0 = (min (2 ^ 32 - 1) (s.nat Ob.POWER_START_COUNT 0 + 1) : Nat) ∧
    KeepsRegs (fun ix _ => ix = Ob.POWER_START_STEP ∨ ix = Ob.POWER_START_COUNT) s s.stepTwo := by
  have hframe : Frame { regs := true } (fun ix _ => ix = Ob.POWER_START_STEP ∨ ix = Ob.POWER_START_COUNT) s s.stepTwo := by
    unfold State.stepTwo
    simp
  refine ⟨?_, ?_, hframe.regs⟩ <;> simp [State.stepTwo, State.bump, State.bumpTo, State.reg_setReg, State.nat]

theorem porDelay_steps (s : State) (hpowered : s.start.powered = true) (hstep : s.reg Ob.POWER_START_STEP 0 = 1) (hdelay : s.start.delayDone = false) :
    ∃ t : State, exec .porDelayExpiry s = .next t ∧ t = { s with regs := t.regs, start := t.start } ∧
      t.start = { s.start with delayDone := true } ∧ (s.start.resetN = true → t.regs = s.regs) ∧
      (s.start.resetN = false → t.reg Ob.POWER_START_STEP 0 = 2 ∧
        t.reg Ob.POWER_START_COUNT 0 = (min (2 ^ 32 - 1) (s.nat Ob.POWER_START_COUNT 0 + 1) : Nat)) ∧
      KeepsRegs (fun ix _ => ix = Ob.POWER_START_STEP ∨ ix = Ob.POWER_START_COUNT) s t := by
  have hexec : exec .porDelayExpiry s = .next (if s.start.resetN then { s with start := { s.start with delayDone := true } }
      else State.stepTwo { s with start := { s.start with delayDone := true } }) := if_pos ⟨hpowered, hstep, by simp [hdelay]⟩
  obtain ⟨htwo, hcount, hregs⟩ := State.stepTwo_reads { s with start := { s.start with delayDone := true } }
  by_cases hreset : s.start.resetN = true
  · rw [if_pos hreset] at hexec
    exact ⟨_, hexec, rfl, rfl, fun _ => rfl, fun h => absurd (hreset.symm.trans h) (by decide), fun _ _ _ _ => rfl⟩
  · rw [if_neg hreset] at hexec
    exact ⟨_, hexec, rfl, rfl, fun h => absurd h hreset, fun _ => ⟨htwo, hcount⟩, hregs⟩

section
variable (s : State)

/-- RESET_N before its own objects are set: all at power-on but what outlives it (R442, R444). -/
def State.pinCleared : State :=
  { s.fresh0 with
    start := { powered := true, resetN := true, delayDone := s.start.delayDone, strap := s.start.strap }
    therm := { noAuto := s.therm.noAuto } }

/-- The state that RESET_N leads to. -/
def State.pinReset : State :=
  ((((s.pinCleared.setReg Ob.THERMAL_DIODE_FAIL 0 (s.reg Ob.THERMAL_DIODE_FAIL 0)).setReg Ob.THERMAL_OFFSET_C 0
    (s.reg Ob.THERMAL_OFFSET_C 0)).setReg Ob.THERMAL_SHUTDOWN_COUNT 0 (s.reg Ob.THERMAL_SHUTDOWN_COUNT 0)).setReg Ob.POWER_RESET_CAUSE 0
      1).setReg Ob.POWER_START_STEP 0 (if s.start.delayDone then 0 else 1)

/-- The objects that RESET_N sets itself or carries over. -/
def pinObjs : List Nat :=
  [Ob.POWER_RESET_CAUSE, Ob.POWER_START_STEP, Ob.THERMAL_DIODE_FAIL, Ob.THERMAL_OFFSET_C, Ob.THERMAL_SHUTDOWN_COUNT]

theorem State.pinReset_frame : Frame { regs := true } (fun ix _ => ix ∈ pinObjs) s.pinCleared s.pinReset := by
  unfold State.pinReset
  generalize s.pinCleared = c
  simp [pinObjs]

theorem State.pinReset_reg (ix sub : Nat) (hsub : sub < 256) (h : ix ∉ pinObjs) : s.pinReset.reg ix sub = regDefault (objKey ix sub) :=
  s.pinReset_frame.regs _ _ hsub h

theorem State.pinReset_cause : s.pinReset.reg Ob.POWER_RESET_CAUSE 0 = 1 := by
  unfold State.pinReset
  rw [State.reg_setReg_ne _ _ _ _ _ _ (objKey_ne_of_ix (by decide) (by decide) (by decide)), State.reg_setReg_self]

end

theorem resetNAssert_clears (s : State) (hpowered : s.start.powered = true) (hsafe : s.reg Ob.DICT_STATE 0 ≠ 3) :
    ∃ t : State, exec .resetNAssert s = .next t ∧
      t.start = { powered := true, resetN := true, delayDone := s.start.delayDone, strap := s.start.strap } ∧ t.time.acc = 0 ∧
      t.reg Ob.TIME_EPOCH 0 = 0 ∧ t.reg Ob.TIME_RATE_ADJ 0 = 0 ∧ t.reg Ob.POWER_RESET_CAUSE 0 = 1 ∧
      t.reg Ob.POWER_START_STEP 0 = (if s.start.delayDone = true then 0 else 1) ∧ t.fuse.cells = s.fuse.cells ∧ t.pending = s.pending ∧
      (∀ ix sub, sub < 256 → ix ∉ [Ob.POWER_RESET_CAUSE, Ob.POWER_START_STEP, Ob.THERMAL_DIODE_FAIL, Ob.THERMAL_OFFSET_C,
        Ob.THERMAL_SHUTDOWN_COUNT] → t.reg ix sub = regDefault (objKey ix sub)) := by
  have hexec : exec .resetNAssert s = .next s.pinReset := by
    change execResetNAssert s = _
    unfold execResetNAssert
    simp only [hpowered, Bool.not_true, Bool.false_eq_true, if_false]
    exact if_neg hsafe
  exact ⟨_, hexec, rfl, rfl, s.pinReset_reg _ _ (by decide) (by decide), s.pinReset_reg _ _ (by decide) (by decide), s.pinReset_cause,
    State.reg_setReg_self _ _ _ _, rfl, rfl, s.pinReset_reg⟩

/-- Settles O53: the resets clear all that they do not set or keep, and a chip reset keeps WAYMARK and leaves AON and MGT alone ON. -/
theorem resetsClearAndKeep : Obligations.ResetsClearAndKeep := by
  unfold Obligations.ResetsClearAndKeep
  refine ⟨fun s strap => ⟨powerOn_clears s strap, fun h => if_pos h⟩, fun s => ⟨fun h => ?_, fun h => ?_⟩, fun s => ⟨porDelay_steps s, fun h => ?_⟩,
    fun s => ⟨resetNAssert_clears s, fun h => ?_⟩, fun s strap => ⟨fun hreset hpowered hstep hdict hdelay => ?_, fun h => if_neg (by simp [h])⟩,
    fun s => ⟨chipReset_ordered s, fun h => ?_, fun h => ?_⟩, fun s r hacc => ?_⟩
  · exact ⟨_, congrArg Host.Outcome.next (if_pos h), rfl, rfl, rfl, rfl, fun _ _ _ => rfl⟩
  · exact congrArg Host.Outcome.next (if_neg (by simp [h]))
  · refine if_neg ?_
    rintro ⟨hpowered, -, hdelay⟩
    rcases h with h | h <;> simp_all
  · change execResetNAssert s = _
    unfold execResetNAssert
    rcases h with h | ⟨hsafe, hcause⟩
    · exact if_pos (by simp [h])
    · have hno : s.inShutdown = false := by simp [State.inShutdown, hcause]
      by_cases hpowered : s.start.powered = true
      · simp only [hpowered, Bool.not_true, Bool.false_eq_true, if_false, if_pos hsafe, hno, false_and]
      · exact if_pos (by simpa using hpowered)
  · obtain ⟨htwo, hcount, hregs⟩ := State.stepTwo_reads { s with start := { s.start with resetN := false, strap := strap.val } }
    have hexec : exec (.resetNRelease strap) s = .next (State.stepTwo { s with start := { s.start with resetN := false, strap := strap.val } }) := by
      change execResetNRelease strap s = _
      unfold execResetNRelease
      simp [hreset, hpowered, hstep, hdict, hdelay]
    exact ⟨_, hexec, rfl, rfl, htwo, hcount, hregs⟩
  · change execChipReset s = _
    unfold execChipReset
    rw [h]
  · change ∃ t, execChipReset s = .next t ∧ _
    unfold execChipReset
    split
    next hnone => exact ⟨s, rfl, by rw [← hnone]⟩
    · exact ⟨_, if_pos h, rfl⟩
  · exact ⟨(s.taken r .exec Ob.POWER_CHIP_RESET 0 [0]).orderChip 4, next_serve_done hacc rfl, by rw [← s.taken_lookout r .exec Ob.POWER_CHIP_RESET 0 [0]]; rfl⟩

end Sys2Proof.Machine

/-! SUPPORT. Temperature, the throttle step, the powered hours, the plan and the supply requests (R411 to R429). -/

namespace Sys2Proof.Machine

/-! ## What the step and the supply touch -/

section
variable {F : Fields} {P : Nat → Nat → Prop} {s t : State}

@[simp] theorem frame_structWant {l : Fin 8} (hregs : F.regs = true) (hrx : F.rx = true) (heng : F.eng = true) (hP : ∀ sub, P Ob.ENG_STATE sub) :
    Frame F P s (t.structWant l) ↔ Frame F P s t := by
  refine Frame.iff ?_
  have htriggers (u : State) : Frame F P t (forEach (lineEngines l) (fun e s => s.trigger e 1 (cycleRefclk (s.laneRate l))) u) ↔ Frame F P t u :=
    frame_forEach fun _ _ _ => (frame_trigger hregs heng (hP _)).mpr .refl
  unfold State.structWant
  simp only [frame_ite, htriggers, frame_modRx hrx, Frame.refl, ite_self]

@[simp] theorem frame_laneMeasures {p : Fin 8} (hregs : F.regs = true) (hrx : F.rx = true) (heng : F.eng = true) (hP : ∀ sub, P Ob.ENG_STATE sub) :
    Frame F P s (t.laneMeasures p) ↔ Frame F P s t :=
  frame_forEach fun _ _ _ => (frame_structWant hregs hrx heng hP).mpr .refl

@[simp] theorem frame_avsUpdate (hregs : F.regs = true) (havs : F.avs = true) (hdoms : F.doms = true) (hmmp : F.mmp = true) (hP : AllowsPower P) :
    Frame F P s t.avsUpdate ↔ Frame F P s t := by
  refine Frame.iff ?_
  unfold State.avsUpdate
  simp only [frame_ite, frame_castVote hregs hP hdoms hmmp, frame_withdraw hregs hP hdoms, frame_with_avs havs, Frame.refl, ite_self]

end

/-! ## The throttle step -/

section
variable (s : State) (n : Nat)

/-- The step and its paces set, before the lanes' measures. -/
def State.stepSet : State := (s.setReg Ob.THERMAL_THROTTLE_STEP 0 (n : Nat)).setAll Ob.ENG_PACE (paceOf n) 8

/-- The measures of every port that exists. -/
def State.measuresTaken : State := forEach (fins 8) (fun p s => if s.exists p then s.laneMeasures p else s) s

theorem State.stepApply_eq : s.stepApply = if s.stepWanted = s.throttle then s else (s.stepSet s.stepWanted).measuresTaken := rfl

theorem State.measuresTaken_frame : Frame { regs := true, rx := true, eng := true } (fun ix _ => ix = Ob.ENG_STATE) s s.measuresTaken := by
  refine (frame_forEach fun p _ t => ?_).mpr .refl
  simp

theorem State.measuresTaken_throttle : s.measuresTaken.throttle = s.throttle := by
  unfold State.throttle State.nat
  rw [s.measuresTaken_frame.regs Ob.THERMAL_THROTTLE_STEP 0 (by decide) (by decide)]

theorem State.stepSet_frame : Frame { regs := true } (fun ix _ => ix ∈ [Ob.THERMAL_THROTTLE_STEP, Ob.ENG_PACE]) s (s.stepSet n) := by
  unfold State.stepSet
  simp

theorem State.stepApply_frame : Frame { regs := true, rx := true, eng := true }
    (fun ix _ => ix ∈ [Ob.THERMAL_THROTTLE_STEP, Ob.ENG_PACE, Ob.ENG_STATE]) s s.stepApply := by
  rw [State.stepApply_eq]
  split
  · exact .refl
  · exact Frame.trans ((s.stepSet_frame _).widen (fun _ _ => rfl) fun ix _ h => (by decide : ∀ ix ∈ [Ob.THERMAL_THROTTLE_STEP, Ob.ENG_PACE],
      ix ∈ [Ob.THERMAL_THROTTLE_STEP, Ob.ENG_PACE, Ob.ENG_STATE]) ix h) ((State.measuresTaken_frame _).mono fun ix _ h => by simp [h])

theorem State.stepSet_pace (k : Fin 8) : (s.stepSet n).reg Ob.ENG_PACE (k.val + 1) = (paceOf n : Nat) :=
  State.setAll_reg _ _ _ _ (by decide) (by omega)

theorem State.stepSet_throttle : (s.stepSet n).throttle = n := by
  have hkeep : Frame { regs := true } (fun ix _ => ix = Ob.ENG_PACE) (s.setReg Ob.THERMAL_THROTTLE_STEP 0 (n : Nat)) (s.stepSet n) := by
    unfold State.stepSet
    simp
  unfold State.throttle State.nat
  rw [hkeep.regs _ _ (by decide) (by decide), State.reg_setReg_self]
  rfl

/-- The step in force is the one wanted (R418). -/
theorem State.stepApply_throttle : s.stepApply.throttle = s.stepWanted := by
  rw [State.stepApply_eq]
  split
  next h => exact h.symm
  · rw [State.measuresTaken_throttle, State.stepSet_throttle]

/-- The paces follow a step that changes (R418). -/
theorem State.stepApply_pace (h : s.stepApply.throttle ≠ s.throttle) (k : Fin 8) :
    s.stepApply.reg Ob.ENG_PACE (k.val + 1) = (paceOf s.stepApply.throttle : Nat) := by
  rw [State.stepApply_throttle] at h ⊢
  rw [State.stepApply_eq, if_neg h, (State.measuresTaken_frame _).regs _ _ (by omega) (by decide)]
  exact s.stepSet_pace _ k

/-- The step that temperature gives, applied, before its event. -/
def State.tempStepped : State := (s.modTherm (fun t => { t with step := n })).stepApply

theorem State.tempStep_eq : s.tempStep n = if s.throttle == 0 && s.therm.step == 0 && n != 0 then
    (s.tempStepped n).raise Src.THERMAL_THROTTLE 0 ((s.reg Ob.THERMAL_TJ 0 % 65536).toNat + 65536 * (s.tempStepped n).throttle)
      Ob.THERMAL_EVENTS 0 else s.tempStepped n := rfl

/-- What a change of the step by temperature writes. -/
def StepObj (ix sub : Nat) : Prop :=
  ix ∈ [Ob.THERMAL_THROTTLE_STEP, Ob.ENG_PACE, Ob.ENG_STATE, Ob.LINE_EQ_STATE, Ob.THERMAL_EVENTS] ∨ EventObj ix sub

theorem State.tempStep_event : Frame { regs := true, lookout := true, cap := true } (fun ix sub => ix = Ob.THERMAL_EVENTS ∨ EventObj ix sub)
    (s.tempStepped n) (s.tempStep n) := by
  rw [State.tempStep_eq]
  split
  · simp
  · exact .refl

theorem State.tempStep_frame : Frame { regs := true, therm := true, eng := true, rx := true, lookout := true, cap := true } StepObj s (s.tempStep n) := by
  have happlied : Frame { regs := true, therm := true, eng := true, rx := true, lookout := true, cap := true } StepObj s (s.tempStepped n) :=
    Frame.trans ((frame_modTherm rfl).mpr .refl) ((State.stepApply_frame _).widen (fun _ _ => rfl) fun ix _ h => .inl ((by decide :
      ∀ ix ∈ [Ob.THERMAL_THROTTLE_STEP, Ob.ENG_PACE, Ob.ENG_STATE],
        ix ∈ [Ob.THERMAL_THROTTLE_STEP, Ob.ENG_PACE, Ob.ENG_STATE, Ob.LINE_EQ_STATE, Ob.THERMAL_EVENTS]) ix h))
  exact happlied.trans ((s.tempStep_event n).widen (fun _ _ => rfl) fun ix _ h => h.imp_left fun h => by simp [h])

theorem State.tempStep_throttle : (s.tempStep n).throttle = (s.tempStepped n).throttle :=
  congrArg Int.toNat ((s.tempStep_event n).regs _ _ (by decide) (by simp [EventObj]))

/-- A rise or a fall of the step by temperature (R417, R418). -/
theorem tempStep_moves (c : Instr) (hexec : exec c s = .next (s.tempStep n)) :
    ∃ t : State, exec c s = .next t ∧ t = { s with regs := t.regs, therm := t.therm, eng := t.eng, rx := t.rx, lookout := t.lookout, cap := t.cap } ∧
      t.therm = { s.therm with step := n } ∧
      (s.therm.blind = false → s.service[(0 : Fin 4)] ≠ none → t.throttle = max n (s.nat Ob.THERMAL_THROTTLE_MIN 0)) ∧
      (t.throttle ≠ s.throttle → ∀ k : Fin 8, t.reg Ob.ENG_PACE (k.val + 1) = (paceOf t.throttle : Nat)) ∧ KeepsRegs StepObj s t := by
  have htherm : (s.tempStep n).therm = { s.therm with step := n } :=
    ((s.tempStep_event n).view State.therm fun _ _ => rfl).trans ((State.stepApply_frame _).view State.therm fun _ _ => rfl)
  refine ⟨_, hexec, (s.tempStep_frame n).fields, htherm, fun hblind hservice => ?_, fun hchanged k => ?_, (s.tempStep_frame n).regs⟩
  · rw [State.tempStep_throttle]
    refine (State.stepApply_throttle _).trans (if_neg ?_)
    change ¬ (s.therm.blind || s.service[(0 : Fin 4)] == none) = true
    rw [hblind, Bool.false_or, beq_iff_eq]
    exact hservice
  · rw [State.tempStep_throttle] at hchanged ⊢
    rw [(s.tempStep_event n).regs _ _ (by omega) (by simp [EventObj])]
    exact State.stepApply_pace _ hchanged k

end

/-! ## The diode and the mapping -/

section
variable (s : State)

/-- A conversion taken into the state, sound or not (R411). -/
def State.diodeTaken (reading : Option Int) : State :=
  match reading with
  | some v => (s.modTherm (fun t => { t with diode := some v })).setReg Ob.THERMAL_DIODE 0 (clampInt (-32767) 32767 v)
  | none => s

theorem State.diodeTaken_frame (reading : Option Int) : Frame { regs := true, therm := true } (fun ix sub => ix = Ob.THERMAL_DIODE ∧ sub = 0) s
    (s.diodeTaken reading) := by
  unfold State.diodeTaken
  split
  · simp
  · exact .refl

theorem diodeConversion_sound (hpowered : s.start.powered = true) (v : Int) (hlo : -600 ≤ v) (hhi : v ≤ 1600)
    (hnear : ∀ u, s.therm.diode = some u → (v - u).natAbs ≤ 100) :
    ∃ t : State, exec (.diodeConversion (some v)) s = .next t ∧ t = { s with regs := t.regs, therm := t.therm } ∧
      t.therm = { s.therm with diode := some v } ∧ t.reg Ob.THERMAL_DIODE 0 = v ∧
      KeepsRegs (fun ix sub => ix = Ob.THERMAL_DIODE ∧ sub = 0) s t := by
  have hexec : exec (.diodeConversion (some v)) s = .next (s.diodeTaken (some v)) := by
    change execDiodeConversion (some v) s = _
    unfold execDiodeConversion
    have hrange : ¬(v < -600 ∨ 1600 < v) := by omega
    simp only [hpowered, hrange, if_false, Bool.true_eq_false]
    cases hdiode : s.therm.diode with
    | none => rfl
    | some u =>
      have hclose : ¬ 100 < (v - u).natAbs := by have := hnear u hdiode; omega
      simp only [hclose, if_false]
      rfl
  have hclamp : clampInt (-32767) 32767 v = v := by unfold clampInt; rw [if_neg (by omega), if_neg (by omega)]
  have hframe := s.diodeTaken_frame (some v)
  exact ⟨_, hexec, hframe.fields, rfl, (State.reg_setReg_self _ _ _ _).trans hclamp, hframe.regs⟩

theorem diodeConversion_failed (hpowered : s.start.powered = true) (reading : Option Int) (hbad : ∀ v, reading = some v → v < -600 ∨ 1600 < v)
    (hworks : s.reg Ob.THERMAL_DIODE_FAIL 0 = 0) :
    ∃ t : State, exec (.diodeConversion reading) s = .next t ∧ t = { s with regs := t.regs, therm := t.therm, lookout := t.lookout, cap := t.cap } ∧
      t.reg Ob.THERMAL_DIODE_FAIL 0 = 1 ∧ t.reg Ob.THERMAL_OFFSET_C 0 = -5 ∧
      t.reg Ob.THERMAL_EVENTS 0 = (min (2 ^ 32 - 1) (s.nat Ob.THERMAL_EVENTS 0 + 1) : Nat) ∧
      KeepsRegs (fun ix sub => (ix ∈ [Ob.THERMAL_DIODE, Ob.THERMAL_DIODE_FAIL, Ob.THERMAL_OFFSET_C, Ob.THERMAL_EVENTS] ∧ sub = 0) ∨
        EventObj ix sub) s t := by
  obtain ⟨cause, hexec⟩ : ∃ cause, exec (.diodeConversion reading) s = .next ((((s.diodeTaken reading).setReg Ob.THERMAL_DIODE_FAIL 0 1).setReg
      Ob.THERMAL_OFFSET_C 0 (-5)).raise Src.THERMAL_DIODE_FAIL 0 cause Ob.THERMAL_EVENTS 0) := by
    change ∃ cause, execDiodeConversion reading s = _
    have hflag : s.flag Ob.THERMAL_DIODE_FAIL 0 = false := by simp [State.flag, hworks]
    unfold execDiodeConversion
    cases reading with
    | none =>
      refine ⟨2, ?_⟩
      simp only [hpowered, Bool.true_eq_false, if_false, hflag, Bool.false_eq_true]
      rfl
    | some v =>
      refine ⟨0, ?_⟩
      simp only [hpowered, Bool.true_eq_false, if_false, hflag, Bool.false_eq_true, hbad v rfl, if_true]
      rfl
  have htaken := s.diodeTaken_frame reading
  have hframe : Frame { regs := true, therm := true, lookout := true, cap := true } (fun ix sub => (ix ∈ [Ob.THERMAL_DIODE, Ob.THERMAL_DIODE_FAIL,
      Ob.THERMAL_OFFSET_C, Ob.THERMAL_EVENTS] ∧ sub = 0) ∨ EventObj ix sub) s ((((s.diodeTaken reading).setReg Ob.THERMAL_DIODE_FAIL 0 1).setReg
      Ob.THERMAL_OFFSET_C 0 (-5)).raise Src.THERMAL_DIODE_FAIL 0 cause Ob.THERMAL_EVENTS 0) := by
    have hwide : Frame { regs := true, therm := true, lookout := true, cap := true } (fun ix sub => (ix ∈ [Ob.THERMAL_DIODE, Ob.THERMAL_DIODE_FAIL,
        Ob.THERMAL_OFFSET_C, Ob.THERMAL_EVENTS] ∧ sub = 0) ∨ EventObj ix sub) s (s.diodeTaken reading) :=
      htaken.widen (fun _ _ => rfl) fun ix sub h => .inl ⟨by simp [h.1], h.2⟩
    rw [frame_raise rfl rfl rfl allowsEvents_right (by decide) (.inl ⟨by decide, rfl⟩), frame_setReg rfl (by decide) (.inl ⟨by decide, rfl⟩),
      frame_setReg rfl (by decide) (.inl ⟨by decide, rfl⟩)]
    exact hwide
  refine ⟨_, hexec, hframe.fields, ?_, ?_, ?_, hframe.regs⟩
  · rw [State.raise_reg _ _ _ _ _ _ _ _ (by decide) (by decide) (by simp [EventObj]), if_neg (by simp),
      State.reg_setReg_ne _ _ _ _ _ _ (objKey_ne_of_ix (by decide) (by decide) (by decide)), State.reg_setReg_self]
  · rw [State.raise_reg _ _ _ _ _ _ _ _ (by decide) (by decide) (by simp [EventObj]), if_neg (by simp), State.reg_setReg_self]
  · rw [State.raise_counter _ _ _ _ _ _ (by decide) (by simp [EventObj]), State.nat,
      State.reg_setReg_ne _ _ _ _ _ _ (objKey_ne_of_ix (by decide) (by decide) (by decide)),
      State.reg_setReg_ne _ _ _ _ _ _ (objKey_ne_of_ix (by decide) (by decide) (by decide)), htaken.regs _ _ (by decide) (by decide)]
    rfl

theorem monitorMapping_corrects (d a b : Int) (hdiode : s.therm.diode = some d) (hfirst : s.therm.raw[15] = some a) (hsecond : s.therm.raw[31] = some b)
    (hworks : s.reg Ob.THERMAL_DIODE_FAIL 0 = 0) (hmon15 : s.monFailed 15 = false) (hmon31 : s.monFailed 31 = false) :
    ∃ t : State, exec .monitorMapping s = .next t ∧ t = { s with regs := t.regs, therm := t.therm } ∧
      t.therm = { s.therm with corr := 2 * d - a - b } ∧ t.reg Ob.THERMAL_MAP_TIME 0 = (s.stamp : Int) ∧
      KeepsRegs (fun ix sub => ix = Ob.THERMAL_MAP_TIME ∧ sub = 0) s t := by
  have hexec : exec .monitorMapping s = .next ((s.modTherm (fun t => { t with corr := 2 * d - a - b })).setStamp Ob.THERMAL_MAP_TIME 0) := by
    change execMonitorMapping s = _
    unfold execMonitorMapping
    rw [hdiode, hfirst, hsecond]
    exact if_neg (by simp [State.flag, hworks, hmon15, hmon31])
  have hframe : Frame { regs := true, therm := true } (fun ix sub => ix = Ob.THERMAL_MAP_TIME ∧ sub = 0) s
      ((s.modTherm (fun t => { t with corr := 2 * d - a - b })).setStamp Ob.THERMAL_MAP_TIME 0) := by
    simp
  exact ⟨_, hexec, hframe.fields, rfl, State.reg_setReg_self _ _ _ _, hframe.regs⟩

end

/-! ## The powered hour -/

section
variable (s : State)

/-- The objects that the end of a powered hour writes. -/
def hourObjs : List Nat := [Ob.COMPASS_POWERED_HOURS, Ob.THERMAL_BAND_HOURS, Ob.COMPASS_HOST_BASE_HOURS, Ob.COMPASS_HOST_BASE_DB]

/-- The hour counted. -/
def State.hourCounted : State := (s.bump Ob.COMPASS_POWERED_HOURS 0 1).bump Ob.THERMAL_BAND_HOURS (s.nat Ob.THERMAL_BAND 0 + 1) 1

/-- One host lane's baseline at the end of an hour (R423). -/
def hourBaseline (ts : Lanes Tally 16) (h : Fin 16) (t : State) : State :=
  match hourMean ts[h] with
  | some v => t.baseline h v
  | none => t

/-- The hour's baselines. -/
def State.hourBased : State := forEach (fins 16) (hourBaseline s.therm.hour) s.hourCounted

theorem hourBaseline_frame (ts : Lanes Tally 16) (h : Fin 16) (t : State) : Frame { regs := true }
    (fun ix sub => ix ∈ [Ob.COMPASS_HOST_BASE_HOURS, Ob.COMPASS_HOST_BASE_DB] ∧ sub = h.val + 1) t (hourBaseline ts h t) := by
  have hh : h.val + 1 < 256 := by omega
  unfold hourBaseline State.baseline
  split
  · simp [hh]
  · exact .refl

theorem State.hourBased_rest : Frame { regs := true } (fun ix _ => ix ∈ [Ob.COMPASS_HOST_BASE_HOURS, Ob.COMPASS_HOST_BASE_DB]) s.hourCounted s.hourBased :=
  (frame_forEach fun h _ t => (hourBaseline_frame _ h t).mono fun _ _ h => h.1).mpr .refl

/-- A host lane's baseline, its hours and its mean. -/
def State.baseOf (h : Fin 16) : Int × Int := (s.reg Ob.COMPASS_HOST_BASE_HOURS (h.val + 1), s.reg Ob.COMPASS_HOST_BASE_DB (h.val + 1))

/-- A host lane's baseline depends on that lane's hour alone. -/
theorem State.hourBased_lane (h : Fin 16) (hband : s.nat Ob.THERMAL_BAND 0 ≤ 3) :
    ∃ t : State, t.baseOf h = s.baseOf h ∧ s.hourBased.baseOf h = (hourBaseline s.therm.hour h t).baseOf h := by
  have hkeep (k : Fin 16) (hk : k ≠ h) (t : State) : (hourBaseline s.therm.hour k t).baseOf h = t.baseOf h := by
    have hne : h.val + 1 ≠ k.val + 1 := fun heq => hk (Fin.ext (by omega))
    exact Prod.ext ((hourBaseline_frame _ k t).regs _ _ (by omega) fun hobj => hne hobj.2)
      ((hourBaseline_frame _ k t).regs _ _ (by omega) fun hobj => hne hobj.2)
  have hcounted : Frame { regs := true } (fun ix _ => ix ∈ [Ob.COMPASS_POWERED_HOURS, Ob.THERMAL_BAND_HOURS]) s s.hourCounted := by
    have hb : s.nat Ob.THERMAL_BAND 0 + 1 < 256 := by omega
    unfold State.hourCounted
    simp [hb]
  obtain ⟨t, hbefore, hafter⟩ := forEach_fins_view (fun t : State => t.baseOf h) hkeep s.hourCounted
  exact ⟨t, hbefore.trans (Prod.ext (hcounted.regs _ _ (by omega) (by decide)) (hcounted.regs _ _ (by omega) (by decide))), hafter⟩

/-- A lane without a mean, or whose baseline is built, keeps it (R423). -/
theorem hourBaseline_kept (ts : Lanes Tally 16) (h : Fin 16) (t : State)
    (hkept : 128 * ts[h].n < 225000000 ∨ 168 ≤ t.nat Ob.COMPASS_HOST_BASE_HOURS (h.val + 1)) : hourBaseline ts h t = t := by
  unfold hourBaseline hourMean
  by_cases hshort : 225000000 ≤ 128 * ts[h].n
  · have hbuilt := hkept.resolve_left (by omega)
    rw [if_pos hshort]
    exact if_neg (by omega)
  · rw [if_neg hshort]

/-- A lane with a mean builds on its baseline (R423). -/
theorem hourBaseline_built (ts : Lanes Tally 16) (h : Fin 16) (t : State) (hmean : 225000000 ≤ 128 * ts[h].n)
    (hopen : t.nat Ob.COMPASS_HOST_BASE_HOURS (h.val + 1) < 168) : (hourBaseline ts h t).baseOf h =
      (((t.nat Ob.COMPASS_HOST_BASE_HOURS (h.val + 1) + 1 : Nat) : Int), clampInt (-32768) 32767
        (roundDiv (t.reg Ob.COMPASS_HOST_BASE_DB (h.val + 1) * t.nat Ob.COMPASS_HOST_BASE_HOURS (h.val + 1) + roundDiv ts[h].sum ts[h].n)
          (t.nat Ob.COMPASS_HOST_BASE_HOURS (h.val + 1) + 1))) := by
  unfold hourBaseline hourMean State.baseOf
  rw [if_pos hmean]
  simp only [State.baseline, if_pos hopen]
  rw [State.reg_setReg_self, State.reg_setReg_ne _ _ _ _ _ _ (objKey_ne_of_ix (by omega) (by omega) (by decide)), State.reg_setReg_self]

theorem poweredHour_counts (hpowered : s.start.powered = true) (hband : s.nat Ob.THERMAL_BAND 0 ≤ 3) :
    ∃ t : State, exec .poweredHourEnd s = .next t ∧ t = { s with regs := t.regs, therm := t.therm } ∧
      t.therm = { s.therm with hour := Vector.replicate 16 {} } ∧
      t.reg Ob.COMPASS_POWERED_HOURS 0 = (min (2 ^ 32 - 1) (s.nat Ob.COMPASS_POWERED_HOURS 0 + 1) : Nat) ∧
      t.reg Ob.THERMAL_BAND_HOURS (s.nat Ob.THERMAL_BAND 0 + 1) =
        (min (2 ^ 32 - 1) (s.nat Ob.THERMAL_BAND_HOURS (s.nat Ob.THERMAL_BAND 0 + 1) + 1) : Nat) ∧
      (∀ h : Fin 16, 225000000 ≤ 128 * s.therm.hour[h].n → s.nat Ob.COMPASS_HOST_BASE_HOURS (h.val + 1) < 168 →
        t.reg Ob.COMPASS_HOST_BASE_HOURS (h.val + 1) = (s.nat Ob.COMPASS_HOST_BASE_HOURS (h.val + 1) + 1 : Nat) ∧
        (let n := s.nat Ob.COMPASS_HOST_BASE_HOURS (h.val + 1)
         t.reg Ob.COMPASS_HOST_BASE_DB (h.val + 1) = clampInt (-32768) 32767
           (roundDiv (s.reg Ob.COMPASS_HOST_BASE_DB (h.val + 1) * n + roundDiv s.therm.hour[h].sum s.therm.hour[h].n) (n + 1)))) ∧
      (∀ h : Fin 16, (128 * s.therm.hour[h].n < 225000000 ∨ 168 ≤ s.nat Ob.COMPASS_HOST_BASE_HOURS (h.val + 1)) →
        t.reg Ob.COMPASS_HOST_BASE_HOURS (h.val + 1) = s.reg Ob.COMPASS_HOST_BASE_HOURS (h.val + 1) ∧
        t.reg Ob.COMPASS_HOST_BASE_DB (h.val + 1) = s.reg Ob.COMPASS_HOST_BASE_DB (h.val + 1)) ∧
      KeepsRegs (fun ix _ => ix ∈ [Ob.COMPASS_POWERED_HOURS, Ob.THERMAL_BAND_HOURS, Ob.COMPASS_HOST_BASE_HOURS, Ob.COMPASS_HOST_BASE_DB]) s t := by
  have hb : s.nat Ob.THERMAL_BAND 0 + 1 < 256 := by omega
  have hexec : exec .poweredHourEnd s = .next (s.hourBased.modTherm (fun t => { t with hour := Vector.replicate 16 {} })) := if_pos hpowered
  have hcounted : Frame { regs := true, therm := true } (fun ix _ => ix ∈ hourObjs) s s.hourCounted := by
    unfold State.hourCounted
    simp [hb, hourObjs]
  have hframe : Frame { regs := true, therm := true } (fun ix _ => ix ∈ hourObjs) s
      (s.hourBased.modTherm (fun t => { t with hour := Vector.replicate 16 {} })) :=
    (frame_modTherm rfl).mpr (hcounted.trans (s.hourBased_rest.widen (fun _ _ => rfl) fun ix _ h => (by decide : ∀ ix ∈ [Ob.COMPASS_HOST_BASE_HOURS,
      Ob.COMPASS_HOST_BASE_DB], ix ∈ hourObjs) ix h))
  have htherm : s.hourBased.therm = s.therm := s.hourBased_rest.view State.therm fun _ _ => rfl
  refine ⟨_, hexec, hframe.fields, ?_, ?_, ?_, fun h hmean hopen => ?_, fun h hkept => ?_, hframe.regs⟩
  · exact congrArg (fun t : Thermal => { t with hour := Vector.replicate 16 {} }) htherm
  · rw [State.modTherm_reg, s.hourBased_rest.regs _ _ (by decide) (by decide)]
    exact (State.reg_setReg_ne _ _ _ _ _ _ (objKey_ne_of_ix hb (by decide) (by decide))).trans (State.bump_reg_self _ _ _ _)
  · rw [State.modTherm_reg, s.hourBased_rest.regs _ _ hb (by decide)]
    refine (State.bump_reg_self _ _ _ _).trans ?_
    rw [State.nat, State.bump, State.bumpTo, State.reg_setReg_ne _ _ _ _ _ _ (objKey_ne_of_ix (by decide) hb (by decide))]
    rfl
  · obtain ⟨t, hsame, hlane⟩ := s.hourBased_lane h hband
    obtain ⟨hhours, hdb⟩ := Prod.mk.inj hsame
    have hnat : t.nat Ob.COMPASS_HOST_BASE_HOURS (h.val + 1) = s.nat Ob.COMPASS_HOST_BASE_HOURS (h.val + 1) := congrArg Int.toNat hhours
    rw [hourBaseline_built _ h t hmean (by omega), hnat, hdb] at hlane
    exact Prod.mk.inj hlane
  · obtain ⟨t, hsame, hlane⟩ := s.hourBased_lane h hband
    have hnat : t.nat Ob.COMPASS_HOST_BASE_HOURS (h.val + 1) = s.nat Ob.COMPASS_HOST_BASE_HOURS (h.val + 1) :=
      congrArg Int.toNat (Prod.mk.inj hsame).1
    rw [hourBaseline_kept _ h t (by omega)] at hlane
    exact Prod.mk.inj (hlane.trans hsame)

end

/-! ## The supply request -/

section
variable (s : State)

/-- Bringing the supply request in line touches the plan in use, COMPASS's vote and MGT (R427, R434). -/
theorem State.avsUpdate_frame : Frame { regs := true, doms := true, avs := true, mmp := true } PowerObj s s.avsUpdate :=
  (frame_avsUpdate rfl rfl rfl rfl allowsPower_powerObj).mpr .refl

theorem State.avsUpdate_reg (ix sub : Nat) (hsub : sub < 256) (h : ix / 256 ≠ 0x13) : s.avsUpdate.reg ix sub = s.reg ix sub :=
  s.avsUpdate_frame.regs _ _ hsub h

/-- Of the request itself only the plan in use changes. -/
theorem State.avsUpdate_avs : s.avsUpdate.avs = { s.avs with plan := s.planInUse } := by
  have hvotes (w : State) (hc : Frame { regs := true, doms := true, mmp := true } PowerObj { s with avs := { s.avs with plan := s.planInUse } } w) :
      w.avs = { s.avs with plan := s.planInUse } := hc.view State.avs fun _ _ => rfl
  unfold State.avsUpdate
  simp only
  split
  · rfl
  · split
    · exact hvotes _ ((frame_castVote rfl allowsPower_powerObj rfl rfl).mpr .refl)
    · exact hvotes _ ((frame_withdraw rfl allowsPower_powerObj rfl).mpr .refl)

/-- What the sending of a request writes. -/
def RequestObj (ix _sub : Nat) : Prop := ix = Ob.COMPASS_AVS_REQUEST_MV ∨ ix / 256 = 0x13

theorem avsRequestSend_sends (sum : Nat) (hdue : s.avsUpdate.avsDue = some sum) :
    ∃ t : State, exec .avsRequestSend s = .next t ∧ t = { s with regs := t.regs, doms := t.doms, avs := t.avs, mmp := t.mmp } ∧
      t.reg Ob.COMPASS_AVS_REQUEST_MV 0 = (sum : Int) ∧ t.avs.sent = true ∧ t.avs.tries = 0 ∧ t.avs.refused = none ∧
      t.avs.prev = s.nat Ob.COMPASS_AVS_REQUEST_MV 0 ∧
      KeepsRegs (fun ix _ => ix = Ob.COMPASS_AVS_REQUEST_MV ∨ ix / 256 = 0x13) s t := by
  have hexec : exec .avsRequestSend s = .next (({ s.avsUpdate with avs := { s.avsUpdate.avs with
      sent := true, prev := s.avsUpdate.nat Ob.COMPASS_AVS_REQUEST_MV 0, tries := 0, refused := none, off := 0 } } : State).setReg
      Ob.COMPASS_AVS_REQUEST_MV 0 (sum : Nat)).avsUpdate := by
    change execAvsRequestSend s = _
    unfold execAvsRequestSend
    rw [hdue]
  have hprev : s.avsUpdate.nat Ob.COMPASS_AVS_REQUEST_MV 0 = s.nat Ob.COMPASS_AVS_REQUEST_MV 0 :=
    congrArg Int.toNat (s.avsUpdate_reg _ _ (by decide) (by decide))
  have hpower : AllowsPower RequestObj := fun _ _ h => .inr h
  have hfirst : Frame { regs := true, doms := true, avs := true, mmp := true } RequestObj s s.avsUpdate :=
    (frame_avsUpdate rfl rfl rfl rfl hpower).mpr .refl
  rw [hprev] at hexec
  generalize s.avsUpdate = w at hexec hfirst
  have hframe : Frame { regs := true, doms := true, avs := true, mmp := true } RequestObj s (({ w with avs := { w.avs with
      sent := true, prev := s.nat Ob.COMPASS_AVS_REQUEST_MV 0, tries := 0, refused := none, off := 0 } } : State).setReg
      Ob.COMPASS_AVS_REQUEST_MV 0 (sum : Nat)).avsUpdate := by
    rw [frame_avsUpdate rfl rfl rfl rfl hpower, frame_setReg rfl (by decide) (.inl rfl), frame_with_avs rfl]
    exact hfirst
  refine ⟨_, hexec, hframe.fields, ?_, ?_, ?_, ?_, ?_, hframe.regs⟩
  · rw [State.avsUpdate_reg _ _ _ (by decide) (by decide), State.reg_setReg_self]
  all_goals rw [State.avsUpdate_avs]; rfl

theorem avsNoAck_keeps (hsent : s.avs.sent = true) (htries : s.avs.tries = 3) :
    ∃ t : State, exec .avsNoAck s = .next t ∧
      t = { s with regs := t.regs, doms := t.doms, avs := t.avs, mmp := t.mmp, lookout := t.lookout, cap := t.cap } ∧
      t.reg Ob.COMPASS_AVS_REQUEST_MV 0 = (s.avs.prev : Int) ∧ t.avs.tries = 4 ∧
      t.avs.refused = some (s.nat Ob.COMPASS_AVS_REQUEST_MV 0) ∧
      t.reg Ob.COMPASS_EVENTS 0 = (min (2 ^ 32 - 1) (s.nat Ob.COMPASS_EVENTS 0 + 1) : Nat) := by
  have hexec : exec .avsNoAck s = .next (((({ s with avs := { s.avs with tries := 4, refused := some (s.nat Ob.COMPASS_AVS_REQUEST_MV 0) } } : State).setReg
      Ob.COMPASS_AVS_REQUEST_MV 0 (s.avs.prev : Nat)).avsUpdate).raise Src.COMPASS_AVS_FAIL 0 (65536 * s.nat Ob.COMPASS_AVS_REQUEST_MV 0)
      Ob.COMPASS_EVENTS 0) := by
    change execAvsNoAck s = _
    unfold execAvsNoAck
    simp only [hsent, htries]
    rfl
  have hframe : Frame { regs := true, doms := true, avs := true, mmp := true, lookout := true, cap := true } (fun _ _ => True) s
      (((({ s with avs := { s.avs with tries := 4, refused := some (s.nat Ob.COMPASS_AVS_REQUEST_MV 0) } } : State).setReg
      Ob.COMPASS_AVS_REQUEST_MV 0 (s.avs.prev : Nat)).avsUpdate).raise Src.COMPASS_AVS_FAIL 0 (65536 * s.nat Ob.COMPASS_AVS_REQUEST_MV 0)
      Ob.COMPASS_EVENTS 0) := by
    rw [frame_raise rfl rfl rfl allowsEvents_true (by decide) trivial, frame_avsUpdate rfl rfl rfl rfl fun _ _ _ => trivial,
      frame_setReg rfl (by decide) trivial, frame_with_avs rfl]
    exact .refl
  refine ⟨_, hexec, hframe.fields, ?_, ?_, ?_, ?_⟩
  · rw [State.raise_reg _ _ _ _ _ _ _ _ (by decide) (by decide) (by simp [EventObj]), if_neg (by simp),
      State.avsUpdate_reg _ _ _ (by decide) (by decide), State.reg_setReg_self]
  · rw [State.raise_avs, State.avsUpdate_avs]
    rfl
  · rw [State.raise_avs, State.avsUpdate_avs]
    rfl
  · rw [State.raise_counter _ _ _ _ _ _ (by decide) (by simp [EventObj]), State.nat, State.avsUpdate_reg _ _ _ (by decide) (by decide),
      State.reg_setReg_ne _ _ _ _ _ _ (objKey_ne_of_ix (by decide) (by decide) (by decide))]
    rfl

end

/-! ## The plan -/

section
variable (s : State) (d : PlanDay)

/-- The objects that steps 1 to 3 of the plan write (R424). -/
def supplyObjs : List Nat :=
  [Ob.COMPASS_PLAN_MV, Ob.FABRIC_MARGIN_RAISE_MV, Ob.COMPASS_FABRIC_LOSS, Ob.FABRIC_BAND_OFFSET_MV, Ob.LINE_ADC_RECAL_S]

/-- Steps 1 and 2 of the plan: voltage and offsets. -/
def State.planOffset : State :=
  ((((s.setReg Ob.COMPASS_PLAN_MV 0 s.planVoltage).setReg Ob.FABRIC_MARGIN_RAISE_MV 0 0).setReg Ob.COMPASS_FABRIC_LOSS 0
    (min 65535 (roundDiv (lossOf d : Int) 100000).toNat : Nat)).setAll Ob.FABRIC_BAND_OFFSET_MV 0 4).setReg Ob.FABRIC_BAND_OFFSET_MV 1
      (coldOffset s.planVoltage (lossOf d))

/-- Step 3 writes the intervals alone. -/
theorem State.planSupply_rest : Frame { regs := true } (fun ix _ => ix = Ob.LINE_ADC_RECAL_S) (s.planOffset d) (s.planSupply d) := by
  refine (frame_forEach (l := [1, 2, 3, 4]) fun b hb t => ?_).mpr .refl
  have hlt : b < 256 := (by decide : ∀ b ∈ [1, 2, 3, 4], b < 256) b hb
  simp [hlt]

theorem State.planOffset_frame : Frame { regs := true } (fun ix _ => ix ∈ supplyObjs) s (s.planOffset d) := by
  unfold State.planOffset
  simp [supplyObjs]

theorem State.planSupply_frame : Frame { regs := true } (fun ix _ => ix ∈ supplyObjs) s (s.planSupply d) :=
  (s.planOffset_frame d).trans ((s.planSupply_rest d).mono fun ix _ h => h ▸ (by decide))

/-- The plan's voltage and offsets as the chapter orders them (R424). -/
theorem State.planSupply_reads : (s.planSupply d).reg Ob.COMPASS_PLAN_MV 0 = s.planVoltage ∧ (s.planSupply d).reg Ob.FABRIC_MARGIN_RAISE_MV 0 = 0 ∧
    (s.planSupply d).reg Ob.FABRIC_BAND_OFFSET_MV 1 = coldOffset s.planVoltage (lossOf d) ∧
    ∀ b : Fin 3, (s.planSupply d).reg Ob.FABRIC_BAND_OFFSET_MV (b.val + 2) = 0 := by
  have hrest (ix sub : Nat) (hsub : sub < 256) (h : ix ≠ Ob.LINE_ADC_RECAL_S) : (s.planSupply d).reg ix sub = (s.planOffset d).reg ix sub :=
    (s.planSupply_rest d).regs _ _ hsub h
  have hoffsets (t : State) : Frame { regs := true } (fun ix _ => ix = Ob.FABRIC_BAND_OFFSET_MV) t ((t.setAll Ob.FABRIC_BAND_OFFSET_MV 0 4).setReg
      Ob.FABRIC_BAND_OFFSET_MV 1 (coldOffset s.planVoltage (lossOf d))) := by
    simp
  refine ⟨?_, ?_, ?_, fun b => ?_⟩
  · rw [hrest _ _ (by decide) (by decide), State.planOffset, (hoffsets _).regs _ _ (by decide) (by decide),
      State.reg_setReg_ne _ _ _ _ _ _ (objKey_ne_of_ix (by decide) (by decide) (by decide)),
      State.reg_setReg_ne _ _ _ _ _ _ (objKey_ne_of_ix (by decide) (by decide) (by decide)), State.reg_setReg_self]
  · rw [hrest _ _ (by decide) (by decide), State.planOffset, (hoffsets _).regs _ _ (by decide) (by decide),
      State.reg_setReg_ne _ _ _ _ _ _ (objKey_ne_of_ix (by decide) (by decide) (by decide)), State.reg_setReg_self]
  · rw [hrest _ _ (by decide) (by decide)]
    exact State.reg_setReg_self _ _ _ _
  · rw [hrest _ _ (by omega) (by decide), State.planOffset,
      State.reg_setReg_ne _ _ _ _ _ _ (objKey_ne_of_sub (by decide) (by omega) (by omega))]
    exact State.setAll_reg _ _ _ _ (by decide) (by omega)

theorem State.planVoltage_eq : s.planVoltage = max (s.bolMv : Int)
    (if s.reg Ob.FABRIC_MARGIN_RAISE_MV 0 ≠ 0 then s.reg Ob.COMPASS_PLAN_MV 0 + s.reg Ob.FABRIC_MARGIN_RAISE_MV 0
     else if (∃ m, s.therm.dayMin = some m ∧ s.nat Ob.FABRIC_AVS_THRESH 0 + 100 ≤ m) then s.reg Ob.COMPASS_PLAN_MV 0 - 5
     else s.reg Ob.COMPASS_PLAN_MV 0) := by
  unfold State.planVoltage
  cases s.therm.dayMin <;> simp

variable (ix : List Ratio)

/-- What steps 4 and 5 of the plan write (R424). -/
def OutlookObj (jx sub : Nat) : Prop :=
  jx ∈ [Ob.COMPASS_AGE_INDEX, Ob.COMPASS_MARGIN_LEFT, Ob.COMPASS_YEARS_TO_FLOOR, Ob.COMPASS_EVENTS] ∨ EventObj jx sub

@[simp] theorem outlookObj_iff {jx sub : Nat} : OutlookObj jx sub ↔
    jx ∈ [Ob.COMPASS_AGE_INDEX, Ob.COMPASS_MARGIN_LEFT, Ob.COMPASS_YEARS_TO_FLOOR, Ob.COMPASS_EVENTS] ∨ EventObj jx sub := Iff.rfl

@[simp] theorem allowsEvents_outlookObj : AllowsEvents OutlookObj := fun _ _ h => .inr h

/-- The outlook's figures, before its alarm. -/
def State.outlookSet : State :=
  ((forEach (List.range 5) (fun k s => s.setReg Ob.COMPASS_AGE_INDEX (k + 1) (min 65535 (ix.getD k (0, 1)).milli : Nat)) s).setReg
    Ob.COMPASS_MARGIN_LEFT 0 ((roundDiv (1000 * ((mostOf ix).2 - (mostOf ix).1) : Nat) (mostOf ix).2).toNat : Nat)).setReg
      Ob.COMPASS_YEARS_TO_FLOOR 0 ((yearsToFloor (mostOf ix) (s.nat Ob.COMPASS_POWERED_HOURS 0) : Nat) : Int)

theorem State.outlookSet_frame : Frame { regs := true } OutlookObj s (s.outlookSet ix) := by
  have hindices : Frame { regs := true } OutlookObj s
      (forEach (List.range 5) (fun k s => s.setReg Ob.COMPASS_AGE_INDEX (k + 1) (min 65535 (ix.getD k (0, 1)).milli : Nat)) s) := by
    refine (frame_forEach fun k hk t => ?_).mpr .refl
    have hlt : k + 1 < 256 := by have := List.mem_range.mp hk; omega
    simp [hlt]
  unfold State.outlookSet
  rw [frame_setReg rfl (by decide) (by simp), frame_setReg rfl (by decide) (by simp)]
  exact hindices

theorem State.planOutlook_event : Frame { regs := true, lookout := true, cap := true } (fun jx sub => jx = Ob.COMPASS_EVENTS ∨ EventObj jx sub)
    (s.outlookSet ix) (s.planOutlook ix) := by
  unfold State.planOutlook
  change Frame _ _ _ (if _ then (s.outlookSet ix).raise _ _ _ _ _ else s.outlookSet ix)
  split
  · simp
  · exact .refl

theorem State.planOutlook_frame : Frame { regs := true, lookout := true, cap := true } OutlookObj s (s.planOutlook ix) :=
  Frame.trans ((s.outlookSet_frame ix).widen (fun _ _ => rfl) fun _ _ => id)
    ((s.planOutlook_event ix).widen (fun _ _ => rfl) fun jx _ h => h.imp_left fun h => by simp [h])

theorem State.planOutlook_years : (s.planOutlook ix).reg Ob.COMPASS_YEARS_TO_FLOOR 0 =
    (yearsToFloor (mostOf ix) (s.nat Ob.COMPASS_POWERED_HOURS 0) : Nat) := by
  rw [(s.planOutlook_event ix).regs _ _ (by decide) (by simp [EventObj])]
  exact State.reg_setReg_self _ _ _ _

end

/-! ### The plan committed -/

section
variable (s : State) (speed : Nat) (bandgap : Int)

/-- The plan's outcome. -/
def State.planned : State := (s.planSupply (s.planDay speed bandgap)).planOutlook (s.ageIndices (s.planDay speed bandgap))

/-- The plan counted with its stamp, a new day begun. -/
def State.planCounted : State :=
  (((s.planned speed bandgap).setStamp Ob.COMPASS_PLAN_TIME 0).bump Ob.COMPASS_PLAN_COUNT 0 1).modTherm
    (fun t => { t with planDue := false, dayMin := none, day := {} })

/-- The plan committed: the request in line, the command answered, and what changed saved. -/
def State.planCommitted : State :=
  if ((s.planCounted speed bandgap).avsUpdate.finish Ob.COMPASS_PLAN_NOW 0 St.OK).compassChanged then
    ((s.planCounted speed bandgap).avsUpdate.finish Ob.COMPASS_PLAN_NOW 0 St.OK).deviceSave false
  else (s.planCounted speed bandgap).avsUpdate.finish Ob.COMPASS_PLAN_NOW 0 St.OK

theorem State.planned_frame : Frame { regs := true, lookout := true, cap := true } (fun ix sub => ix ∈ supplyObjs ∨ OutlookObj ix sub) s
    (s.planned speed bandgap) :=
  Frame.trans ((s.planSupply_frame _).widen (fun _ _ => rfl) fun _ _ => .inl) ((State.planOutlook_frame _ _).mono fun _ _ => .inr)

theorem State.planCounted_frame : Frame { regs := true, therm := true } (fun ix _ => ix ∈ [Ob.COMPASS_PLAN_TIME, Ob.COMPASS_PLAN_COUNT])
    (s.planned speed bandgap) (s.planCounted speed bandgap) := by
  unfold State.planCounted
  simp

/-- What the plan's count leaves on record (R424). -/
theorem State.planCounted_reads : (s.planCounted speed bandgap).reg Ob.COMPASS_PLAN_TIME 0 = ((s.planned speed bandgap).stamp : Int) ∧
    (s.planCounted speed bandgap).reg Ob.COMPASS_PLAN_COUNT 0 =
      (min (2 ^ 32 - 1) ((s.planned speed bandgap).nat Ob.COMPASS_PLAN_COUNT 0 + 1) : Nat) ∧
    (s.planCounted speed bandgap).therm = { (s.planned speed bandgap).therm with planDue := false, dayMin := none, day := {} } := by
  unfold State.planCounted
  generalize s.planned speed bandgap = w
  refine ⟨?_, ?_, ?_⟩
  · rw [State.modTherm_reg, State.bump, State.bumpTo, State.reg_setReg_ne _ _ _ _ _ _ (objKey_ne_of_ix (by decide) (by decide) (by decide)),
      State.setStamp, State.reg_setReg_self]
  · rw [State.modTherm_reg, State.bump_reg_self]
    unfold State.nat State.setStamp
    rw [State.reg_setReg_ne _ _ _ _ _ _ (objKey_ne_of_ix (by decide) (by decide) (by decide))]
  · have hkept : ((w.setStamp Ob.COMPASS_PLAN_TIME 0).bump Ob.COMPASS_PLAN_COUNT 0 1).therm = w.therm := by
      rw [State.bump, State.bumpTo, State.setReg_therm, State.setStamp, State.setReg_therm]
    exact congrArg (fun t : Thermal => { t with planDue := false, dayMin := none, day := {} }) hkept

/-- What follows the plan touches the supply's vote, the waiting command and the save. -/
theorem State.planCommitted_frame : Frame { regs := true, doms := true, avs := true, mmp := true, savedRegs := true, savedBlobs := true, upd := true }
    PowerObj (s.planCounted speed bandgap) (s.planCommitted speed bandgap) := by
  have hanswered : Frame { regs := true, doms := true, avs := true, mmp := true, savedRegs := true, savedBlobs := true, upd := true } PowerObj
      (s.planCounted speed bandgap) ((s.planCounted speed bandgap).avsUpdate.finish Ob.COMPASS_PLAN_NOW 0 St.OK) := by
    rw [frame_finish rfl, frame_avsUpdate rfl rfl rfl rfl allowsPower_powerObj]
    exact .refl
  unfold State.planCommitted
  split
  · exact hanswered.trans ((State.deviceSave_frame _ _).widen (fun _ _ => rfl) fun _ _ => False.elim)
  · exact hanswered

theorem State.planCommitted_waiting : (s.planCommitted speed bandgap).waiting Ob.COMPASS_PLAN_NOW 0 = false := by
  have hdone := State.finish_waiting (s.planCounted speed bandgap).avsUpdate Ob.COMPASS_PLAN_NOW 0 St.OK
  unfold State.planCommitted
  split
  · unfold State.waiting at *
    rwa [(State.deviceSave_frame _ _).view State.mmp fun _ _ => rfl]
  · exact hdone

/-- A register that neither the supply's vote nor the plan's own count touches. -/
theorem State.planCommitted_reg (ix sub : Nat) (hsub : sub < 256) (hpower : ix / 256 ≠ 0x13)
    (hown : ix ∉ [Ob.COMPASS_PLAN_TIME, Ob.COMPASS_PLAN_COUNT]) :
    (s.planCommitted speed bandgap).reg ix sub = (s.planned speed bandgap).reg ix sub :=
  ((s.planCommitted_frame speed bandgap).regs _ _ hsub hpower).trans ((s.planCounted_frame speed bandgap).regs _ _ hsub hown)

/-- A register that the plan's outlook leaves as its supply sets it. -/
theorem State.planned_reg (ix sub : Nat) (hsub : sub < 256) (h : ¬ OutlookObj ix sub) :
    (s.planned speed bandgap).reg ix sub = (s.planSupply (s.planDay speed bandgap)).reg ix sub :=
  (State.planOutlook_frame _ _).regs _ _ hsub h

theorem planCommit_commits (hready : s.reg Ob.DICT_STATE 0 = 1) (hdue : s.therm.planDue = true ∨ s.waiting Ob.COMPASS_PLAN_NOW 0 = true) :
    ∃ t : State, exec (.planCommit speed bandgap) s = .next t ∧
      t.reg Ob.COMPASS_PLAN_MV 0 = max (s.bolMv : Int)
        (if s.reg Ob.FABRIC_MARGIN_RAISE_MV 0 ≠ 0 then s.reg Ob.COMPASS_PLAN_MV 0 + s.reg Ob.FABRIC_MARGIN_RAISE_MV 0
         else if (∃ m, s.therm.dayMin = some m ∧ s.nat Ob.FABRIC_AVS_THRESH 0 + 100 ≤ m) then s.reg Ob.COMPASS_PLAN_MV 0 - 5
         else s.reg Ob.COMPASS_PLAN_MV 0) ∧
      t.reg Ob.FABRIC_MARGIN_RAISE_MV 0 = 0 ∧ t.reg Ob.FABRIC_BAND_OFFSET_MV 1 = coldOffset (t.reg Ob.COMPASS_PLAN_MV 0) (133 * (1000000 - speed)) ∧
      (∀ b : Fin 3, t.reg Ob.FABRIC_BAND_OFFSET_MV (b.val + 2) = 0) ∧
      t.reg Ob.COMPASS_YEARS_TO_FLOOR 0 = (yearsToFloor (mostOf (s.ageIndices (s.planDay speed bandgap))) (s.nat Ob.COMPASS_POWERED_HOURS 0) : Nat) ∧
      t.reg Ob.COMPASS_PLAN_TIME 0 = (s.stamp : Int) ∧
      t.reg Ob.COMPASS_PLAN_COUNT 0 = (min (2 ^ 32 - 1) (s.nat Ob.COMPASS_PLAN_COUNT 0 + 1) : Nat) ∧
      t.therm = { s.therm with planDue := false, dayMin := none, day := {} } ∧ t.waiting Ob.COMPASS_PLAN_NOW 0 = false ∧
      t.time = s.time ∧ t.flash = s.flash := by
  have hexec : exec (.planCommit speed bandgap) s = .next (s.planCommitted speed bandgap) := if_pos ⟨hready, hdue⟩
  have hplanned := s.planned_frame speed bandgap
  have hcounted := s.planCounted_frame speed bandgap
  have hcommitted := s.planCommitted_frame speed bandgap
  have hreg := s.planCommitted_reg speed bandgap
  have hsupply := s.planned_reg speed bandgap
  obtain ⟨htime, hcount, htherm⟩ := s.planCounted_reads speed bandgap
  obtain ⟨hvoltage, hraise, hcold, hoffsets⟩ := s.planSupply_reads (s.planDay speed bandgap)
  have hhours : (s.planSupply (s.planDay speed bandgap)).nat Ob.COMPASS_POWERED_HOURS 0 = s.nat Ob.COMPASS_POWERED_HOURS 0 :=
    congrArg Int.toNat ((s.planSupply_frame _).regs _ _ (by decide) (by decide))
  refine ⟨_, hexec, ?_, ?_, ?_, fun b => ?_, ?_, ?_, ?_, ?_, s.planCommitted_waiting speed bandgap, ?_, ?_⟩
  · rw [hreg _ _ (by decide) (by decide) (by decide), hsupply _ _ (by decide) (by simp [EventObj]), hvoltage, State.planVoltage_eq]
  · rw [hreg _ _ (by decide) (by decide) (by decide), hsupply _ _ (by decide) (by simp [EventObj]), hraise]
  · rw [hreg _ _ (by decide) (by decide) (by decide), hsupply _ _ (by decide) (by simp [EventObj]), hcold,
      hreg _ _ (by decide) (by decide) (by decide), hsupply _ _ (by decide) (by simp [EventObj]), hvoltage]
    rfl
  · rw [hreg _ _ (by omega) (by decide) (by decide), hsupply _ _ (by omega) (by simp [EventObj]), hoffsets]
  · rw [hreg _ _ (by decide) (by decide) (by decide), State.planned, State.planOutlook_years, hhours]
  · rw [hcommitted.regs _ _ (by decide) (by unfold PowerObj; decide)]
    rw [htime]
    unfold State.stamp
    rw [hplanned.view State.time fun _ _ => rfl]
  · rw [hcommitted.regs _ _ (by decide) (by unfold PowerObj; decide), hcount, State.nat, hplanned.regs _ _ (by decide) (by simp [EventObj, supplyObjs])]
    rfl
  · rw [hcommitted.view State.therm fun _ _ => rfl, htherm, hplanned.view State.therm fun _ _ => rfl]
  · rw [hcommitted.view State.time fun _ _ => rfl, hcounted.view State.time fun _ _ => rfl, hplanned.view State.time fun _ _ => rfl]
  · rw [hcommitted.view State.flash fun _ _ => rfl, hcounted.view State.flash fun _ _ => rfl, hplanned.view State.flash fun _ _ => rfl]

end

/-- An arriving request finds the same requests waiting. -/
theorem State.taken_waiting (s : State) (r : Req) (op : Opcode) (ix sub : Nat) (pl : List Byte) (jx js : Nat) :
    (s.taken r op ix sub pl).waiting jx js = s.waiting jx js := by
  have hpend : (s.taken r op ix sub pl).mmp.pend = s.mmp.pend := by
    unfold State.taken
    simp only
    split
    · exact State.arrive_pend _ _ _
    · exact State.arrive_pend _ _ _
  unfold State.waiting
  rw [hpend]

/-- PLAN_NOW waits for the plan (R424). -/
theorem ownPlanNow_eq (s : State) : ownPlanNow s = if s.waiting Ob.COMPASS_PLAN_NOW 0 = true then .deny St.BUSY else .later s := rfl

theorem thermalClearPeak_clears (s : State) (r : Req) (hacc : s.Accepts r .exec Ob.THERMAL_CLEAR_PEAK 0 [0]) :
    ∃ u : State, exec (.thermalClearPeak r) s = .next (u.reply r .exec Ob.THERMAL_CLEAR_PEAK 0 St.OK []) ∧
      u = { s.taken r .exec Ob.THERMAL_CLEAR_PEAK 0 [0] with regs := u.regs } ∧ u.reg Ob.THERMAL_TJ_PEAK 0 = -32768 ∧
      KeepsRegs (fun ix _ => ix = Ob.MMP_RX_FRAMES ∨ ix = Ob.THERMAL_TJ_PEAK) s u := by
  refine ⟨(s.taken r .exec Ob.THERMAL_CLEAR_PEAK 0 [0]).setReg Ob.THERMAL_TJ_PEAK 0 (-32768), next_serve_done hacc rfl, rfl,
    State.reg_setReg_self _ _ _ _, fun jx js hj hne => ?_⟩
  obtain ⟨hframes, hpeak⟩ := not_or.mp hne
  rw [State.reg_setReg_ne _ _ _ _ _ _ (objKey_ne_of_ix (by decide) hj (Ne.symm hpeak)), State.taken_reg _ _ _ _ _ _ _ _ hj hframes]

/-- Settles O50: conversions, the throttle step, the hour, the plan and the supply requests, each by its own lemma. -/
theorem temperatureAgeingAndSupply : Obligations.TemperatureAgeingAndSupply := by
  unfold Obligations.TemperatureAgeingAndSupply
  refine ⟨fun s hpowered => ⟨diodeConversion_sound s hpowered, diodeConversion_failed s hpowered⟩, monitorMapping_corrects, fun s c n hmove => ?_,
    fun s => ⟨fun h => if_neg (by simp [h]), fun h => if_neg (by simp [h])⟩, poweredHour_counts, fun s hpowered => ⟨_, if_pos hpowered, rfl⟩,
    fun s r hacc => ⟨fun hidle => ?_, fun hwaits => ?_⟩, planCommit_commits, fun s speed bandgap hdue hidle => ?_,
    fun s => ⟨avsRequestSend_sends s, fun hnone => ?_⟩, fun s => ⟨fun hsent htries => ?_, avsNoAck_keeps s, fun h => if_pos (.inl h)⟩,
    thermalClearPeak_clears⟩
  · refine tempStep_moves s n c ?_
    rcases hmove with ⟨rfl, habove, hstep, rfl⟩ | ⟨rfl, hthrottling, hblind, hstep, rfl⟩
    · exact if_pos ⟨habove, hstep⟩
    · exact if_pos ⟨hthrottling, hblind, hstep⟩
  · refine next_serve_later hacc ?_
    rw [ownPlanNow_eq, State.taken_waiting, hidle, if_neg Bool.false_ne_true]
  · refine next_serve_deny hacc ?_
    rw [ownPlanNow_eq, State.taken_waiting, if_pos hwaits]
  · exact if_neg (by simp [hdue, hidle])
  · change execAvsRequestSend s = _
    unfold execAvsRequestSend
    rw [hnone]
  · change execAvsNoAck s = _
    unfold execAvsNoAck
    simp only [hsent, htries, if_true]
    exact if_neg (by simp; omega)

end Sys2Proof.Machine

/-! SUPPORT. The housekeeping converters, filters, auxiliary DACs and PWM outputs (R370 to R389). -/

namespace Sys2Proof.Machine

/-! ## What a change and a conversion touch -/

/-- The objects of a channel's detectors (R381). -/
def detectObjs : List Nat := [Ob.HK_PEAK_MAX, Ob.HK_PEAK_MIN, Ob.HK_RMS, Ob.HK_ENVELOPE]

section
variable {F : Fields} {P : Nat → Nat → Prop} {s t : State}

@[simp] theorem frame_chanChange {k : Fin 16} (hregs : F.regs = true) (hhk : F.hk = true) (hP : ∀ ix ∈ chanChangeObjs, P ix (k.val + 1)) :
    Frame F P s (t.chanChange k) ↔ Frame F P s t := by
  simp only [chanChangeObjs, List.forall_mem_cons, List.not_mem_nil, false_imp_iff, implies_true, and_true] at hP
  obtain ⟨hunsettled, hmax, hmin, hrms, henv⟩ := hP
  unfold State.chanChange
  simp [*]

@[simp] theorem frame_chanChangeAll (hregs : F.regs = true) (hhk : F.hk = true) (hP : ∀ ix ∈ chanChangeObjs, ∀ sub, P ix sub) :
    Frame F P s t.chanChangeAll ↔ Frame F P s t :=
  frame_forEach fun _ _ _ => (frame_chanChange hregs hhk fun ix hix => hP ix hix _).mpr .refl

@[simp] theorem frame_feed {ch code : Nat} (hhk : F.hk = true) : Frame F P s (t.feed ch code) ↔ Frame F P s t := by
  rw [State.feed_eq]
  exact frame_with_hk hhk

@[simp] theorem frame_convert {raw : Vector Nat 4} {c : Fin 4} (hregs : F.regs = true) (hhk : F.hk = true) (hP : P Ob.HK_ADC_RESULT (c.val + 1)) :
    Frame F P s (t.convert raw c) ↔ Frame F P s t := by
  unfold State.convert
  simp [*]

@[simp] theorem frame_trigTake (hregs : F.regs = true) (hhk : F.hk = true) (hstate : P Ob.HK_TRIG_STATE 0)
    (hP : ∀ ix ∈ chanChangeObjs, ∀ sub, P ix sub) : Frame F P s t.trigTake ↔ Frame F P s t := by
  refine Frame.iff ?_
  unfold State.trigTake
  simp only [frame_ite, frame_chanChangeAll hregs hhk hP, frame_setReg hregs (by decide : 0 < 256) hstate, frame_with_hk hhk, Frame.refl, ite_self]

@[simp] theorem frame_detect {k : Fin 16} {x : Nat} (hregs : F.regs = true) (hhk : F.hk = true) (hP : ∀ ix ∈ detectObjs, P ix (k.val + 1)) :
    Frame F P s (t.detect k x) ↔ Frame F P s t := by
  simp only [detectObjs, List.forall_mem_cons, List.not_mem_nil, false_imp_iff, implies_true, and_true] at hP
  obtain ⟨hmax, hmin, hrms, henv⟩ := hP
  unfold State.detect
  simp [*]

@[simp] theorem frame_adacLoad {src : Nat} (hregs : F.regs = true) (hhk : F.hk = true) (hP : P Ob.HK_LOAD_COUNT 0) :
    Frame F P s (t.adacLoad src) ↔ Frame F P s t := by
  refine Frame.iff ?_
  unfold State.adacLoad
  simp only [frame_ite, frame_bump hregs (by decide : 0 < 256) hP, frame_with_hk hhk, Frame.refl, ite_self]

@[simp] theorem frame_adacStep {k : Fin 16} (hregs : F.regs = true) (hP : P Ob.HK_ADAC_OUT (k.val + 1)) :
    Frame F P s (t.adacStep k) ↔ Frame F P s t := by
  unfold State.adacStep
  simp [*]

@[simp] theorem frame_takeFactors {off gain : Vector Int 4} {c : Fin 4} (hregs : F.regs = true)
    (hP : ∀ ix ∈ [Ob.HK_ADC_RESULT, Ob.HK_CAL_RESULT, Ob.HK_CAL_OFFSET, Ob.HK_CAL_GAIN], P ix (c.val + 1)) :
    Frame F P s (t.takeFactors off gain c) ↔ Frame F P s t := by
  simp only [List.forall_mem_cons, List.not_mem_nil, false_imp_iff, implies_true, and_true] at hP
  obtain ⟨hresult, hcal, hoffset, hgain⟩ := hP
  unfold State.takeFactors
  simp [*]

end

/-- A reply with the trigger's objects kept leaves the period that follows from them (R371, R392). -/
theorem State.trigPeriod_congr {s t : State} (hstate : t.reg Ob.HK_TRIG_STATE 0 = s.reg Ob.HK_TRIG_STATE 0)
    (hsource : t.hk.source = s.hk.source) (htimer : t.hk.timer = s.hk.timer) (hpwm : t.hk.pwm = s.hk.pwm) : t.trigPeriod = s.trigPeriod := by
  simp only [State.trigPeriod, hstate, hsource, htimer, hpwm]

/-! ## A change for the channels -/

section
variable (s : State)

theorem State.chanChange_hk (k : Fin 16) : (s.chanChange k).hk = { s.hk with chan := (s.chanChange k).hk.chan } := rfl

theorem State.chanChange_chan (k : Fin 16) :
    (s.chanChange k).hk.chan = s.hk.chan.set k { s.hk.chan[k] with inputs := 0, outs := [], env := 0 } := rfl

theorem State.chanChange_unsettled (k j : Fin 16) : (s.chanChange k).reg Ob.HK_FILT_UNSETTLED (j.val + 1) =
    if k = j then 1 else s.reg Ob.HK_FILT_UNSETTLED (j.val + 1) := by
  have key : ∀ ix, ix ≠ Ob.HK_FILT_UNSETTLED → ∀ (t : State) (v : Int),
      (t.setReg ix (k.val + 1) v).reg Ob.HK_FILT_UNSETTLED (j.val + 1) = t.reg Ob.HK_FILT_UNSETTLED (j.val + 1) :=
    fun ix hne t v => State.reg_setReg_ne _ _ _ _ _ _ (objKey_ne_of_ix (by omega) (by omega) hne)
  unfold State.chanChange
  simp only
  rw [key _ (by decide), key _ (by decide), key _ (by decide), key _ (by decide), State.reg_setReg _ _ _ _ _ _ (by omega) (by omega)]
  simp [Fin.ext_iff]

/-- What a change for every channel leaves of the housekeeping blocks. -/
theorem State.chanChangeAll_hk : s.chanChangeAll.hk = { s.hk with chan := s.chanChangeAll.hk.chan } := by
  have h := forEach_keeps (fun t => { t.hk with chan := s.hk.chan }) (l := fins 16) (f := fun k s => s.chanChange k)
    (fun k _ t => by simp only; rw [t.chanChange_hk k]) s
  have h2 : { s.chanChangeAll.hk with chan := s.hk.chan } = s.hk := h
  rw [← h2]

/-- After a change for every channel each is unsettled with no input since (R380). -/
theorem State.chanChangeAll_unsettled (k : Fin 16) :
    s.chanChangeAll.reg Ob.HK_FILT_UNSETTLED (k.val + 1) = 1 ∧ s.chanChangeAll.hk.chan[k].inputs = 0 := by
  refine (forEach_establishes (fun _ => True) (fun (k : Fin 16) t => t.reg Ob.HK_FILT_UNSETTLED (k.val + 1) = 1 ∧ t.hk.chan[k].inputs = 0)
    (fun _ _ _ _ => trivial) (fun k _ t _ => ?set) (fun j _ k _ t _ hj => ?keep) (l := fins 16) (f := fun k s => s.chanChange k)
    (s := s) trivial).2 k (List.mem_finRange k)
  case set =>
    refine ⟨by rw [State.chanChange_unsettled, if_pos rfl], ?_⟩
    rw [State.chanChange_chan]
    simp
  case keep =>
    obtain ⟨hreg, hin⟩ := hj
    rw [State.chanChange_unsettled, State.chanChange_chan]
    by_cases hjk : k = j
    · subst hjk; simp
    · rw [if_neg hjk]
      refine ⟨hreg, ?_⟩
      rw [getElem_set_other _ _ _ (Ne.symm hjk)]
      exact hin

end

/-! ## A trigger -/

section
variable (s : State)

/-- The trigger objects taken, before any change of a channel (R392). -/
def State.trigSet : State :=
  { s with hk := { s.hk with source := s.nat Ob.HK_TRIG_SOURCE 0, timer := s.nat Ob.HK_TIMER_PERIOD 0 } }.setReg Ob.HK_TRIG_STATE 0
    (if s.nat Ob.HK_TRIG_SOURCE 0 = 5 then 2 else 1)

theorem State.trigTake_eq : s.trigTake =
    if s.trigSet.trigPeriod = s.trigPeriod ∧ s.reg Ob.HK_TRIG_STATE 0 ≠ 3 then s.trigSet else s.trigSet.chanChangeAll := rfl

theorem State.trigSet_hk : s.trigSet.hk = { s.hk with source := s.nat Ob.HK_TRIG_SOURCE 0, timer := s.nat Ob.HK_TIMER_PERIOD 0 } := rfl

theorem State.trigSet_state : s.trigSet.reg Ob.HK_TRIG_STATE 0 = if s.nat Ob.HK_TRIG_SOURCE 0 = 5 then 2 else 1 := State.reg_setReg_self _ _ _ _

theorem State.trigTake_hk : s.trigTake.hk =
    { s.hk with source := s.nat Ob.HK_TRIG_SOURCE 0, timer := s.nat Ob.HK_TIMER_PERIOD 0, chan := s.trigTake.hk.chan } := by
  rw [State.trigTake_eq]
  split
  · rfl
  · rw [State.chanChangeAll_hk, State.trigSet_hk]

theorem State.trigTake_state : s.trigTake.reg Ob.HK_TRIG_STATE 0 = if s.nat Ob.HK_TRIG_SOURCE 0 = 5 then 2 else 1 := by
  rw [State.trigTake_eq]
  split
  · exact s.trigSet_state
  · rw [State.chanChangeAll_reg _ _ _ (by decide) (by decide), s.trigSet_state]

theorem State.chanChangeAll_trigPeriod : s.chanChangeAll.trigPeriod = s.trigPeriod := by
  refine State.trigPeriod_congr (s.chanChangeAll_reg _ _ (by decide) (by decide)) ?_ ?_ ?_ <;> rw [State.chanChangeAll_hk]

/-- A trigger that keeps its rate, and ends no fall-back, changes no channel (R380). -/
theorem State.trigTake_of_same_rate (hrate : s.trigTake.trigPeriod = s.trigPeriod) (hstate : s.reg Ob.HK_TRIG_STATE 0 ≠ 3) :
    s.trigTake = s.trigSet := by
  rw [State.trigTake_eq] at hrate ⊢
  refine if_pos ⟨?_, hstate⟩
  by_contra hne
  rw [if_neg (fun h => hne h.1), State.chanChangeAll_trigPeriod] at hrate
  exact hne hrate

/-- A trigger's conversions keep its source, its timer and its cycle. -/
theorem State.convertAll_trigger (raw : Vector Nat 4) : let t := forEach (fins 4) (fun c t => t.convert raw c) s
    t.hk.source = s.hk.source ∧ t.hk.timer = s.hk.timer ∧ t.hk.convAt = s.hk.convAt := by
  have h := forEach_keeps (fun t => (t.hk.source, t.hk.timer, t.hk.convAt)) (l := fins 4) (f := fun c t => t.convert raw c)
    (fun c _ t => by unfold State.convert; simp only; rw [State.feed_eq]; rfl) s
  simpa only [Prod.mk.injEq] using h

theorem State.convertAll_frame (raw : Vector Nat 4) :
    Frame { regs := true, hk := true } (fun ix _ => ix = Ob.HK_ADC_RESULT) s (forEach (fins 4) (fun c t => t.convert raw c) s) :=
  (frame_forEach fun _ _ _ => by simp).mpr .refl

/-- The objects that a trigger can write (R371, R380, R392). -/
def trigObjs : List Nat := Ob.HK_TRIG_STATE :: Ob.HK_ADC_RESULT :: chanChangeObjs

theorem State.atConversion_frame : Frame { regs := true, hk := true } (fun ix _ => ix ∈ trigObjs) s s.atConversion := by
  unfold State.atConversion
  rw [frame_with_hk rfl, frame_trigTake rfl rfl (by decide) (by unfold trigObjs; simp +contextual)]
  exact .refl

/-- What a selected trigger that converts touches. -/
theorem State.trigger_frame (raw : Vector Nat 4) :
    Frame { regs := true, hk := true } (fun ix _ => ix ∈ trigObjs) s (forEach (fins 4) (fun c t => t.convert raw c) s.atConversion) :=
  s.atConversion_frame.trans ((s.atConversion.convertAll_frame raw).mono (by rintro ix - rfl; decide))

theorem State.trigTake_frame : Frame { regs := true, hk := true } (fun ix _ => ix = Ob.HK_TRIG_STATE ∨ ix ∈ chanChangeObjs) s s.trigTake :=
  (frame_trigTake rfl rfl (.inl rfl) fun ix hix _ => .inr hix).mpr .refl

end

/-- A selected trigger that comes too soon takes the trigger objects and counts as missed (R371). -/
theorem exec_hkTrigger_of_soon {s : State} (raw : Vector Nat 4) (hlive : s.hkLive = true) (hcal : s.hk.calRun = false)
    (href : s.reg Ob.HK_REF_READY 0 ≠ 0) (harmed : s.trigArmed = true) {t0 : Nat} (hat : s.hk.convAt = some t0)
    (hsoon : (s.time.now - t0 + 1) * 64 < 5000) (hsrc : s.nat Ob.HK_TRIG_SOURCE 0 ≠ 5) :
    exec (.hkTrigger .selected raw) s = .next (s.trigTake.bump Ob.HK_TRIG_MISSED 0 1) := by
  have hflag : s.flag Ob.HK_REF_READY 0 = true := by simp [State.flag, href]
  change execHkTrigger .selected raw s = _
  simp [execHkTrigger, hlive, hcal, hflag, harmed, hat, hsoon, hsrc]

/-! ## A self-calibration's end -/

section
variable (off gain : Vector Int 4) (s : State)

/-- The objects that a converter's new factors write (R374, R375). -/
def factorObjs : List Nat := [Ob.HK_ADC_RESULT, Ob.HK_CAL_RESULT, Ob.HK_CAL_OFFSET, Ob.HK_CAL_GAIN]

theorem State.takeFactors_frame (c : Fin 4) :
    Frame { regs := true } (fun ix sub => ix ∈ factorObjs ∧ sub = c.val + 1) s (s.takeFactors off gain c) :=
  (frame_takeFactors rfl fun _ hix => ⟨hix, rfl⟩).mpr .refl

theorem State.takeFactors_fail {c : Fin 4} (h : hkCalFails off[c] gain[c] = true) :
    (s.takeFactors off gain c).reg Ob.HK_CAL_RESULT (c.val + 1) = 2 ∧
      (s.takeFactors off gain c).reg Ob.HK_CAL_OFFSET (c.val + 1) = s.reg Ob.HK_CAL_OFFSET (c.val + 1) ∧
      (s.takeFactors off gain c).reg Ob.HK_CAL_GAIN (c.val + 1) = s.reg Ob.HK_CAL_GAIN (c.val + 1) := by
  unfold State.takeFactors
  simp only [h, if_true]
  refine ⟨State.reg_setReg_self _ _ _ _, ?_, ?_⟩ <;>
    rw [State.reg_setReg_ne _ _ _ _ _ _ (objKey_ne_of_ix (by omega) (by omega) (by decide)),
      State.reg_setReg_ne _ _ _ _ _ _ (objKey_ne_of_ix (by omega) (by omega) (by decide))]

theorem State.takeFactors_pass {c : Fin 4} (h : hkCalFails off[c] gain[c] = false) :
    (s.takeFactors off gain c).reg Ob.HK_CAL_RESULT (c.val + 1) = 1 ∧
      (s.takeFactors off gain c).reg Ob.HK_CAL_OFFSET (c.val + 1) = off[c] ∧
      (s.takeFactors off gain c).reg Ob.HK_CAL_GAIN (c.val + 1) = gain[c] := by
  unfold State.takeFactors
  simp only [h, Bool.false_eq_true, if_false]
  refine ⟨State.reg_setReg_self _ _ _ _, ?_, ?_⟩
  · rw [State.reg_setReg_ne _ _ _ _ _ _ (objKey_ne_of_ix (by omega) (by omega) (by decide)),
      State.reg_setReg_ne _ _ _ _ _ _ (objKey_ne_of_ix (by omega) (by omega) (by decide)), State.reg_setReg_self]
  · rw [State.reg_setReg_ne _ _ _ _ _ _ (objKey_ne_of_ix (by omega) (by omega) (by decide)), State.reg_setReg_self]

/-- The factors of all four converters taken. -/
def State.allFactors : State := forEach (fins 4) (State.takeFactors off gain) s

theorem State.allFactors_frame : Frame { regs := true } (fun ix _ => ix ∈ factorObjs) s (s.allFactors off gain) :=
  (frame_forEach fun c _ t => (t.takeFactors_frame off gain c).mono fun _ _ h => h.1).mpr .refl

/-- A converter's result, offset and gain after the four takes are those after its own, from the words before. -/
theorem State.allFactors_own (c : Fin 4) : ∃ t : State, (∀ ix, t.reg ix (c.val + 1) = s.reg ix (c.val + 1)) ∧
    ∀ ix, (s.allFactors off gain).reg ix (c.val + 1) = (t.takeFactors off gain c).reg ix (c.val + 1) := by
  obtain ⟨t, hbefore, hafter⟩ := forEach_fins_view (fun (t : State) ix => t.reg ix (c.val + 1)) (f := State.takeFactors off gain) (c := c)
    (fun k hk t => funext fun ix => (t.takeFactors_frame off gain k).regs ix (c.val + 1) (by omega)
      fun h => hk (Fin.ext (by omega))) s
  exact ⟨t, congrFun hbefore, congrFun hafter⟩

/-- The objects that the end of a self-calibration writes beside the factors. -/
def calEndObjs : List Nat := Ob.HK_CAL_COUNT :: Ob.HK_CAL_TIME :: chanChangeObjs

theorem State.calEnd_frame : Frame { regs := true, hk := true, mmp := true } (fun ix _ => ix ∈ calEndObjs) s s.calEnd := by
  unfold State.calEnd
  rw [frame_finish rfl, frame_chanChangeAll rfl rfl (by unfold calEndObjs; simp +contextual), frame_with_hk rfl,
    frame_setStamp rfl (by decide) (by decide), frame_bump rfl (by decide) (by decide)]
  exact .refl

theorem State.calEnd_calRun : s.calEnd.hk.calRun = false := by
  have hfinish : ∀ u : State, (u.finish Ob.HK_SELF_CAL 0 St.OK).hk = u.hk := fun u =>
    Frame.view (F := { mmp := true }) (P := fun _ _ => False) ((frame_finish rfl).mpr .refl) State.hk fun _ _ => rfl
  unfold State.calEnd
  rw [hfinish, State.chanChangeAll_hk]

theorem State.calEnd_waiting : s.calEnd.waiting Ob.HK_SELF_CAL 0 = false := State.finish_waiting _ _ _ _

theorem State.calEnd_reg (ix : Nat) (h : ix ∉ chanChangeObjs) :
    s.calEnd.reg ix 0 = ((s.bump Ob.HK_CAL_COUNT 0 1).setStamp Ob.HK_CAL_TIME 0).reg ix 0 := by
  unfold State.calEnd
  rw [State.finish_reg, State.chanChangeAll_reg _ _ _ (by decide) h]
  rfl

theorem State.calEnd_count : s.calEnd.reg Ob.HK_CAL_COUNT 0 = (min (2 ^ 32 - 1) (s.nat Ob.HK_CAL_COUNT 0 + 1) : Nat) := by
  rw [State.calEnd_reg _ _ (by decide), State.setStamp_eq, State.reg_setReg_ne _ _ _ _ _ _ (by decide), State.bump_reg_self]

theorem State.calEnd_time : s.calEnd.reg Ob.HK_CAL_TIME 0 = (s.stamp : Int) := by
  rw [State.calEnd_reg _ _ (by decide), State.setStamp_eq, State.reg_setReg_self]
  rfl

end

/-- A converter whose factors are out of range is in the record's detail (R375). -/
theorem hkCalMask_ne_zero {off gain : Vector Int 4} {c : Fin 4} (h : hkCalFails off[c] gain[c] = true) : hkCalMask off gain ≠ 0 := by
  unfold hkCalMask
  intro hzero
  have hle := List.single_le_sum (fun x _ => Nat.zero_le x) (2 ^ c.val)
    (List.mem_map.mpr ⟨c, List.mem_finRange c, by rw [if_pos h]⟩ :
      2 ^ c.val ∈ (fins 4).map (fun c => if hkCalFails off[c] gain[c] then 2 ^ c.val else 0))
  have hpos := Nat.two_pow_pos c.val
  omega

/-! ## Filter outputs -/

section
variable (s : State) (k : Fin 16)

theorem chainOut_lt (taps : List Int) (r d phase : Nat) (h : List Nat) : chainOut taps r d phase h < 16384 := by
  unfold chainOut clampInt
  split
  · decide
  · split <;> omega

theorem State.chanOut_lt : s.chanOut k < 16384 := chainOut_lt _ _ _ _ _

/-- The output, its stamp and its mark, before the detectors (R378, R380). -/
def State.outputSet : State :=
  ((s.setReg Ob.HK_FILT_OUT (k.val + 1) (s.chanOut k : Int)).setStamp Ob.HK_FILT_TIME (k.val + 1)).setReg Ob.HK_FILT_UNSETTLED (k.val + 1)
    (boolInt (!decide (s.span k ≤ s.hk.chan[k].inputs)))

theorem exec_hkFilterOutput_of_runs (hlive : s.hkLive = true) (hruns : s.chanRuns k = true) : exec (.hkFilterOutput k) s =
    .next (if s.span k ≤ s.hk.chan[k].inputs then (s.outputSet k).detect k (s.chanOut k) else s.outputSet k) := by
  change execHkFilterOutput k s = _
  simp only [execHkFilterOutput, hlive, hruns, Bool.not_true, Bool.false_eq_true, if_false, if_true, decide_eq_true_eq]
  rfl

theorem exec_hkFilterOutput_of_stands (hlive : s.hkLive = true) (hruns : s.chanRuns k = false) : exec (.hkFilterOutput k) s =
    .next (s.setReg Ob.HK_FILT_OUT (k.val + 1) 0xFFFF) := by
  change execHkFilterOutput k s = _
  simp [execHkFilterOutput, hlive, hruns]

/-- The objects that an output sets itself. -/
def outputObjs : List Nat := [Ob.HK_FILT_OUT, Ob.HK_FILT_TIME, Ob.HK_FILT_UNSETTLED]

theorem State.outputSet_frame : Frame { regs := true } (fun ix sub => ix ∈ outputObjs ∧ sub = k.val + 1) s (s.outputSet k) := by
  unfold State.outputSet
  rw [frame_setReg rfl (by omega) ⟨by decide, rfl⟩, frame_setStamp rfl (by omega) ⟨by decide, rfl⟩,
    frame_setReg rfl (by omega) ⟨by decide, rfl⟩]
  exact .refl

theorem State.detect_frame (x : Nat) : Frame { regs := true, hk := true } (fun ix sub => ix ∈ detectObjs ∧ sub = k.val + 1) s (s.detect k x) :=
  (frame_detect rfl rfl fun _ hix => ⟨hix, rfl⟩).mpr .refl

theorem State.outputSet_own : (s.outputSet k).reg Ob.HK_FILT_OUT (k.val + 1) = (s.chanOut k : Int) ∧
    (s.outputSet k).reg Ob.HK_FILT_TIME (k.val + 1) = (s.stamp : Int) ∧
    (s.outputSet k).reg Ob.HK_FILT_UNSETTLED (k.val + 1) = (if s.span k ≤ s.hk.chan[k].inputs then 0 else 1) := by
  have key : ∀ ix jx : Nat, ix ≠ jx → objKey ix (k.val + 1) ≠ objKey jx (k.val + 1) := fun ix jx h => objKey_ne_of_ix (by omega) (by omega) h
  unfold State.outputSet
  rw [State.setStamp_eq]
  refine ⟨?_, ?_, ?_⟩
  · rw [State.reg_setReg_ne _ _ _ _ _ _ (key _ _ (by decide)), State.reg_setReg_ne _ _ _ _ _ _ (key _ _ (by decide)), State.reg_setReg_self]
  · rw [State.reg_setReg_ne _ _ _ _ _ _ (key _ _ (by decide)), State.reg_setReg_self]
    rfl
  · rw [State.reg_setReg_self]
    by_cases h : s.span k ≤ s.hk.chan[k].inputs
    · rw [if_pos h, decide_eq_true h]; rfl
    · rw [if_neg h, decide_eq_false h]; rfl

/-- The detectors of a channel whose window is full after this output (R381). -/
theorem State.detect_full (x : Nat) (h : s.nat Ob.HK_DET_WINDOW (k.val + 1) ≤ s.hk.chan[k].outs.length) :
    (s.detect k x).reg Ob.HK_PEAK_MAX (k.val + 1) =
        ((((x :: s.hk.chan[k].outs).take (s.nat Ob.HK_DET_WINDOW (k.val + 1))).foldl max 0 : Nat) : Int) ∧
      (s.detect k x).reg Ob.HK_ENVELOPE (k.val + 1) =
        (max x (s.hk.chan[k].env - s.hk.chan[k].env / 2 ^ s.nat Ob.HK_ENV_DECAY (k.val + 1)) : Nat) := by
  have hfull : ¬ ((x :: s.hk.chan[k].outs).take (s.nat Ob.HK_DET_WINDOW (k.val + 1))).length < s.nat Ob.HK_DET_WINDOW (k.val + 1) := by
    rw [List.length_take, List.length_cons]; omega
  have key : ∀ ix : Nat, ix ≠ Ob.HK_PEAK_MAX → objKey ix (k.val + 1) ≠ objKey Ob.HK_PEAK_MAX (k.val + 1) :=
    fun ix h => objKey_ne_of_ix (by omega) (by omega) h
  unfold State.detect
  simp only [if_neg hfull]
  refine ⟨?_, State.reg_setReg_self _ _ _ _⟩
  rw [State.reg_setReg_ne _ _ _ _ _ _ (key _ (by decide)), State.reg_setReg_ne _ _ _ _ _ _ (key _ (by decide)),
    State.reg_setReg_ne _ _ _ _ _ _ (key _ (by decide)), State.reg_setReg_self]

end

/-! ## Auxiliary DACs -/

section
variable (s : State) (k : Fin 16)

/-- A channel after a LOAD strobe (R383). -/
def Adac.loaded (a : Adac) : Adac := match a.pend with | some c => { pend := none, target := c } | none => a

/-- A LOAD moves a waiting code to its target and leaves a channel without one (R383). -/
theorem State.adacLoad_adac (src : Nat) : (∀ c, s.hk.adac[k].pend = some c → (s.adacLoad src).hk.adac[k] = { pend := none, target := c }) ∧
    (s.hk.adac[k].pend = none → (s.adacLoad src).hk.adac[k] = s.hk.adac[k]) := by
  have hmap : (s.adacLoad src).hk.adac[k] = s.hk.adac[k].loaded := by
    have hall : (s.adacLoad src).hk.adac = s.hk.adac.map Adac.loaded := by
      unfold State.adacLoad
      exact (apply_ite (fun u : State => u.hk.adac) _ _ _).trans (ite_self _)
    simp only [hall, Fin.getElem_fin, Vector.getElem_map]
  refine ⟨fun c hc => ?_, fun hn => ?_⟩ <;> rw [hmap, Adac.loaded]
  · rw [hc]
  · rw [hn]

theorem State.adacLoad_frame (src : Nat) : Frame { regs := true, hk := true } (fun ix sub => ix = Ob.HK_LOAD_COUNT ∧ sub = 0) s (s.adacLoad src) :=
  (frame_adacLoad rfl rfl ⟨rfl, rfl⟩).mpr .refl

theorem State.adacLoad_count (src : Nat) (h : s.hk.loadAt = none) :
    (s.adacLoad src).reg Ob.HK_LOAD_COUNT 0 = (min (2 ^ 32 - 1) (s.nat Ob.HK_LOAD_COUNT 0 + 1) : Nat) := by
  unfold State.adacLoad
  simp only [h, Bool.false_eq_true, if_false, State.bump_reg_self]
  rfl

/-- A set bit that is set again leaves the word. -/
theorem withBit_true_of_bitOf {v i : Nat} (h : bitOf v i = true) : withBit v i true = v := by
  simp only [withBit, h]

theorem State.adacStep_frame : Frame { regs := true } (fun ix sub => ix = Ob.HK_ADAC_OUT ∧ sub = k.val + 1) s (s.adacStep k) :=
  (frame_adacStep rfl ⟨rfl, rfl⟩).mpr .refl

end

/-- A PWM output at the start of a period (R387). -/
def State.pwmStart (s : State) (i : Fin 4) : Pwm where
  period := s.nat Ob.HK_PWM_PERIOD (i.val + 1)
  duty := s.nat Ob.HK_PWM_DUTY (i.val + 1)
  active := s.nat Ob.HK_PWM_DUTY (i.val + 1) != 0
  since := s.time.now

/-! ## The statement -/

/-- Settles O48: a trigger's conversions keep what it took, a self-calibration's factors go converter by converter, a filter output
writes its own channel's objects, and a LOAD maps every auxiliary DAC. -/
theorem housekeepingConvertsAndDrives : Obligations.HousekeepingConvertsAndDrives := by
  unfold Obligations.HousekeepingConvertsAndDrives
  refine ⟨?trigger, ?fallback, ?ref, ?start, ?done, ?output, ?swap, ?load, ?strobe, ?dac, ?pwm, ?dead⟩
  case trigger =>
    intro s raw hlive hcal href harmed
    refine ⟨fun hsoon => ?converts, fun t0 hat hsoon hsrc => ?missed⟩
    case converts =>
      have hconv := s.atConversion.convertAll_frame raw
      have hframe := s.trigger_frame raw
      obtain ⟨hsource, htimer, hcycle⟩ := s.atConversion.convertAll_trigger raw
      have hhk := s.trigTake_hk
      refine ⟨_, exec_hkTrigger_of_armed raw hlive hcal href harmed hsoon, hframe.fields, ?_, ?_, fun c => ?_, ?_, ?_,
        fun ix sub hsub hfree => ?_, fun hrate hstate ix sub hsub hfree => ?_⟩
      · have htime : s.trigTake.time = s.time := s.trigTake_frame.view State.time fun _ _ => rfl
        rw [hcycle]
        change some s.trigTake.time.now = _
        rw [htime]
      · rw [hconv.regs _ _ (by decide) (by decide)]
        exact s.trigTake_state
      · obtain ⟨hresult, hunread, hseq⟩ := s.atConversion.convertAll_spec raw c
        rw [State.atConversion_convView] at hresult hseq
        exact ⟨hunread, hseq, hresult⟩
      · rw [hsource]; change s.trigTake.hk.source = _; rw [hhk]
      · rw [htimer]; change s.trigTake.hk.timer = _; rw [hhk]
      · refine hframe.regs ix sub hsub fun hmem => hfree ?_
        simpa only [trigObjs, chanChangeObjs, List.mem_cons] using hmem
      · obtain ⟨htrig, hadc⟩ := not_or.mp hfree
        rw [hconv.regs ix sub hsub hadc]
        change s.trigTake.reg ix sub = _
        rw [s.trigTake_of_same_rate hrate hstate]
        exact State.reg_setReg_ne _ _ _ _ _ _ (objKey_ne_of_ix (by decide) hsub (Ne.symm htrig))
    case missed =>
      have hframe : Frame { regs := true, hk := true } (fun ix _ => ix = Ob.HK_TRIG_STATE ∨ ix = Ob.HK_TRIG_MISSED ∨ ix ∈ chanChangeObjs) s
          (s.trigTake.bump Ob.HK_TRIG_MISSED 0 1) :=
        (frame_bump rfl (by decide) (.inr (.inl rfl))).mpr (s.trigTake_frame.mono fun ix _ h => h.imp_right .inr)
      refine ⟨_, exec_hkTrigger_of_soon raw hlive hcal href harmed hat hsoon hsrc, hframe.fields, ?_, ?_,
        fun ix sub hsub hfree => hframe.regs ix sub hsub hfree⟩
      · have hhk := s.trigTake_hk
        change s.trigTake.hk = { s.hk with source := s.trigTake.hk.source, timer := s.trigTake.hk.timer, chan := s.trigTake.hk.chan }
        generalize s.trigTake.hk = v at hhk ⊢
        rw [hhk]
      · rw [State.bump_reg_self]
        unfold State.nat
        rw [s.trigTake_frame.regs _ _ (by decide) (by decide)]
  case fallback =>
    intro s hlive hlow hhigh hstate
    have hexec : exec .hkTrigFallback s = .next (((s.setReg Ob.HK_TRIG_STATE 0 3).chanChangeAll).raise Src.HK_TRIG_FALLBACK 0
        (s.nat Ob.HK_TRIG_SOURCE 0) Ob.HK_EVENTS 0) := if_pos ⟨hlive, hlow, hhigh, hstate⟩
    have hframe : Frame { regs := true, hk := true, lookout := true, cap := true } (fun _ _ => True) s
        (((s.setReg Ob.HK_TRIG_STATE 0 3).chanChangeAll).raise Src.HK_TRIG_FALLBACK 0 (s.nat Ob.HK_TRIG_SOURCE 0) Ob.HK_EVENTS 0) := by
      rw [frame_raise rfl rfl rfl (fun _ _ _ => trivial) (by decide) trivial, frame_chanChangeAll rfl rfl (fun _ _ _ => trivial),
        frame_setReg rfl (by decide) trivial]
      exact .refl
    refine ⟨_, hexec, hframe.fields, ?_, ?_, ?_, fun k => ?_⟩
    · rw [State.raise_hk, State.chanChangeAll_hk, State.setReg_hk]
    · rw [State.raise_reg _ _ _ _ _ _ _ _ (by decide) (by decide) (by simp [EventObj]), if_neg (by decide),
        State.chanChangeAll_reg _ _ _ (by decide) (by decide), State.reg_setReg_self]
    · rw [State.raise_counter _ _ _ _ _ _ (by decide) (by simp [EventObj])]
      unfold State.nat
      rw [State.chanChangeAll_reg _ _ _ (by decide) (by decide), State.reg_setReg_ne _ _ _ _ _ _ (by decide)]
    · obtain ⟨hreg, hin⟩ := (s.setReg Ob.HK_TRIG_STATE 0 3).chanChangeAll_unsettled k
      refine ⟨?_, by rw [State.raise_hk]; exact hin⟩
      rw [State.raise_reg _ _ _ _ _ _ _ _ (by decide) (by omega) (by simp [EventObj]), if_neg (by omega), hreg]
  case ref =>
    intro s hlive henable
    have hexec : exec .hkRefReady s = .next { s.setReg Ob.HK_REF_READY 0 1 with
        hk := { s.hk with calRun := s.hk.calRun || s.hk.calHeld, calHeld := false } } :=
      if_pos ⟨hlive, by simp [State.flag, henable]⟩
    refine ⟨_, hexec, rfl, State.reg_setReg_self s Ob.HK_REF_READY 0 1, rfl, fun ix sub hsub hfree => ?_⟩
    exact (State.reg_setReg s Ob.HK_REF_READY 0 _ _ 1 (by decide) hsub).trans (if_neg fun h => hfree ⟨h.1.symm, h.2.symm⟩)
  case start =>
    intro s r hacc
    refine ⟨fun hrun hheld => ?idle, fun hbusy => ?busy⟩
    case idle =>
      have hflag : (s.taken r .exec Ob.HK_SELF_CAL 0 [0]).flag Ob.HK_REF_READY 0 = s.flag Ob.HK_REF_READY 0 :=
        State.taken_flag _ _ _ _ _ _ _ _ (by decide) (by decide)
      have hown : ownHkSelfCal (s.taken r .exec Ob.HK_SELF_CAL 0 [0]) = .later { s.taken r .exec Ob.HK_SELF_CAL 0 [0] with
          hk := { s.hk with calRun := decide (s.reg Ob.HK_REF_READY 0 ≠ 0), calHeld := decide (s.reg Ob.HK_REF_READY 0 = 0) } } := by
        unfold ownHkSelfCal
        rw [State.taken_hk, hflag, hrun, hheld]
        by_cases hready : s.reg Ob.HK_REF_READY 0 = 0
        · simp [State.flag, hready, hrun]
        · simp [State.flag, hready, hheld]
      exact ⟨_, next_serve_later hacc hown, rfl, rfl⟩
    case busy =>
      refine next_serve_deny hacc (if_pos ?_)
      rw [State.taken_hk]
      simpa using hbusy
  case done =>
    intro s off gain hcal
    have hfactors := s.allFactors_frame off gain
    have hown := s.allFactors_own off gain
    obtain ⟨f, hf⟩ : ∃ f, f = s.allFactors off gain := ⟨_, rfl⟩
    rw [← hf] at hfactors hown
    have hend := f.calEnd_frame
    have hexec : exec (.hkSelfCalDone off gain) s = .next
        (if hkCalMask off gain = 0 then f.calEnd else f.calEnd.raise Src.HK_CAL_FAIL 0 (hkCalMask off gain) Ob.HK_EVENTS 0) := by
      rw [hf]; exact exec_hkSelfCalDone_of_calRun off gain hcal
    obtain ⟨hrun, hidle, hcount, htime⟩ : f.calEnd.hk.calRun = false ∧ f.calEnd.waiting Ob.HK_SELF_CAL 0 = false ∧
        f.calEnd.reg Ob.HK_CAL_COUNT 0 = (min (2 ^ 32 - 1) (s.nat Ob.HK_CAL_COUNT 0 + 1) : Nat) ∧ f.calEnd.reg Ob.HK_CAL_TIME 0 = (s.stamp : Int) := by
      refine ⟨f.calEnd_calRun, f.calEnd_waiting, ?_, ?_⟩
      · rw [State.calEnd_count]; unfold State.nat; rw [hfactors.regs _ _ (by decide) (by decide)]
      · rw [State.calEnd_time]; unfold State.stamp; rw [hfactors.view State.time fun _ _ => rfl]
    have hword : ∀ ix ∈ factorObjs, ∀ c : Fin 4, f.calEnd.reg ix (c.val + 1) = f.reg ix (c.val + 1) := fun ix hix c =>
      hend.regs ix _ (by omega) ((by decide : ∀ ix ∈ factorObjs, ix ∉ calEndObjs) ix hix)
    have hevents : f.calEnd.nat Ob.HK_EVENTS 0 = s.nat Ob.HK_EVENTS 0 := by
      unfold State.nat
      rw [hend.regs _ _ (by decide) (by decide), hfactors.regs _ _ (by decide) (by decide)]
    have hends : Frame { regs := true, hk := true, mmp := true } (fun _ _ => True) s f.calEnd :=
      Frame.trans (F := { regs := true, hk := true, mmp := true }) (P := fun _ _ => True)
        (hfactors.widen (fun _ _ => rfl) fun _ _ _ => trivial) (hend.mono fun _ _ _ => trivial)
    generalize f.calEnd = e at hexec hrun hidle hcount htime hword hevents hends
    have hfinal : ∃ v : State, exec (.hkSelfCalDone off gain) s = .next v ∧
        Frame { regs := true, hk := true, mmp := true, lookout := true, cap := true } (fun _ _ => True) s v ∧ v.hk = e.hk ∧ v.mmp = e.mmp ∧
        (∀ ix sub, sub < 256 → ¬ EventObj ix sub → ix ≠ Ob.HK_EVENTS → v.reg ix sub = e.reg ix sub) ∧
        (hkCalMask off gain ≠ 0 → v.reg Ob.HK_EVENTS 0 = (min (2 ^ 32 - 1) (s.nat Ob.HK_EVENTS 0 + 1) : Nat)) := by
      have hends' := hends.widen (G := { regs := true, hk := true, mmp := true, lookout := true, cap := true }) (fun _ _ => rfl) fun _ _ h => h
      by_cases hmask : hkCalMask off gain = 0
      · rw [if_pos hmask] at hexec
        exact ⟨e, hexec, hends', rfl, rfl, fun _ _ _ _ _ => rfl, fun h => absurd hmask h⟩
      · rw [if_neg hmask] at hexec
        refine ⟨_, hexec, ?_, State.raise_hk _ _ _ _ _ _, State.raise_mmp _ _ _ _ _ _, fun ix sub hsub hev hne => ?_, fun _ => ?_⟩
        · rwa [frame_raise rfl rfl rfl (fun _ _ _ => trivial) (by decide) trivial]
        · rw [State.raise_reg _ _ _ _ _ _ _ _ (by decide) hsub hev, if_neg fun h => hne h.1.symm]
        · rw [State.raise_counter _ _ _ _ _ _ (by decide) (by simp [EventObj]), hevents]
    obtain ⟨v, hv, hframe, hvhk, hvmmp, hvreg, hvevents⟩ := hfinal
    have hobjs : ∀ ix ∈ factorObjs, ∀ sub, ¬ EventObj ix sub ∧ ix ≠ Ob.HK_EVENTS := fun ix hix sub =>
      ⟨fun h => (by decide : ∀ ix ∈ factorObjs, ¬ (ix = Ob.TEST_CAP_STATE ∨ ix = Ob.TEST_CAP_TRIG_STAMP ∨ ix = Ob.FAULT_LOG_DROPPED)) ix hix h.2,
        (by decide : ∀ ix ∈ factorObjs, ix ≠ Ob.HK_EVENTS) ix hix⟩
    have hvword : ∀ ix ∈ factorObjs, ∀ c : Fin 4, v.reg ix (c.val + 1) = f.reg ix (c.val + 1) := fun ix hix c =>
      (hvreg ix _ (by omega) (hobjs ix hix _).1 (hobjs ix hix 0).2).trans (hword ix hix c)
    refine ⟨v, hv, hframe.fields, by rw [hvhk, hrun], ?_, ?_, ?_, fun c hfails => ?_, fun c hoff hgain => ?_, fun hfails => hvevents ?_⟩
    · rw [State.waiting, hvmmp]; exact hidle
    · rw [hvreg _ _ (by decide) (by simp [EventObj]) (by decide), hcount]
    · rw [hvreg _ _ (by decide) (by simp [EventObj]) (by decide), htime]
    · obtain ⟨b, hbefore, hafter⟩ := hown c
      have h := b.takeFactors_fail off gain (c := c) (by simpa [hkCalFails] using hfails)
      rw [hvword _ (by decide), hvword _ (by decide), hvword _ (by decide), hafter, hafter, hafter, ← hbefore Ob.HK_CAL_OFFSET, ← hbefore Ob.HK_CAL_GAIN]
      exact h
    · obtain ⟨b, hbefore, hafter⟩ := hown c
      have h := b.takeFactors_pass off gain (c := c) (by simp only [hkCalFails, Bool.or_eq_false_iff, decide_eq_false_iff_not]; omega)
      rw [hvword _ (by decide), hvword _ (by decide), hvword _ (by decide), hafter, hafter, hafter]
      exact h
    · obtain ⟨c, hc⟩ := hfails
      exact hkCalMask_ne_zero (c := c) (by simpa [hkCalFails] using hc)
  case output =>
    intro s k hlive
    refine ⟨fun hruns => ?runs, fun hruns => ?stands⟩
    case runs =>
      have hset := s.outputSet_frame k
      have hdet := (s.outputSet k).detect_frame k (s.chanOut k)
      obtain ⟨hout, htime, hmark⟩ := s.outputSet_own k
      have hhk : (s.outputSet k).hk = s.hk := hset.view State.hk fun _ _ => rfl
      have hkept : ∀ ix ∈ outputObjs, ((s.outputSet k).detect k (s.chanOut k)).reg ix (k.val + 1) = (s.outputSet k).reg ix (k.val + 1) :=
        fun ix hix => hdet.regs ix _ (by omega) fun h => (by decide : ∀ ix ∈ outputObjs, ix ∉ detectObjs) ix hix h.1
      have hbefore : ∀ ix, ix ∉ outputObjs → (s.outputSet k).reg ix (k.val + 1) = s.reg ix (k.val + 1) :=
        fun ix hix => hset.regs ix _ (by omega) fun h => hix h.1
      have hexec := exec_hkFilterOutput_of_runs s k hlive hruns
      by_cases hsettled : s.span k ≤ s.hk.chan[k].inputs
      · rw [if_pos hsettled] at hexec
        have hframe : Frame { regs := true, hk := true } (fun ix sub => (ix ∈ outputObjs ∨ ix ∈ detectObjs) ∧ sub = k.val + 1) s
            ((s.outputSet k).detect k (s.chanOut k)) :=
          Frame.trans (F := { regs := true, hk := true }) (P := fun ix sub => (ix ∈ outputObjs ∨ ix ∈ detectObjs) ∧ sub = k.val + 1)
            (hset.widen (fun _ _ => rfl) fun _ _ h => h.imp_left .inl) (hdet.mono fun _ _ h => h.imp_left .inr)
        have hwindow : (s.outputSet k).nat Ob.HK_DET_WINDOW (k.val + 1) = s.nat Ob.HK_DET_WINDOW (k.val + 1) :=
          congrArg Int.toNat (hbefore _ (by decide))
        have hdecay : (s.outputSet k).nat Ob.HK_ENV_DECAY (k.val + 1) = s.nat Ob.HK_ENV_DECAY (k.val + 1) :=
          congrArg Int.toNat (hbefore _ (by decide))
        refine ⟨_, s.chanOut k, hexec, hframe.fields, rfl, s.chanOut_lt k, (hkept _ (by decide)).trans hout, (hkept _ (by decide)).trans htime,
          (hkept _ (by decide)).trans hmark, fun h => absurd hsettled (by omega), fun _ hfull _ => ?_, fun ix sub hsub hfree => ?_⟩
        · rw [← hwindow, ← hhk] at hfull
          have hd := (s.outputSet k).detect_full k (s.chanOut k) hfull
          rw [hwindow, hdecay, hhk] at hd
          exact hd
        · refine hframe.regs ix sub hsub fun h => hfree (h.imp_left fun hmem => ?_)
          rw [← List.mem_append] at hmem
          exact hmem
      · rw [if_neg hsettled] at hexec
        refine ⟨_, s.chanOut k, hexec, (hset.widen (G := { regs := true, hk := true }) (fun _ _ => rfl) fun _ _ h => h).fields, rfl, s.chanOut_lt k,
          hout, htime, hmark, fun _ => ⟨hhk, hbefore _ (by decide)⟩, fun h => absurd h hsettled, fun ix sub hsub hfree => ?_⟩
        refine hset.regs ix sub hsub fun h => hfree (h.imp_left fun hmem => ?_)
        have hall := List.mem_append_left detectObjs hmem
        exact hall
    case stands =>
      refine ⟨_, exec_hkFilterOutput_of_stands s k hlive hruns, rfl, State.reg_setReg_self _ _ _ _, fun ix sub hsub hfree => ?_⟩
      rw [State.reg_setReg _ _ _ _ _ _ (by omega) hsub, if_neg fun h => hfree ⟨h.1.symm, h.2.symm⟩]
  case swap =>
    intro s r hacc
    obtain ⟨u, hu⟩ : ∃ u, u = (s.taken r .exec Ob.HK_FIR_SWAP 0 [0]).setBlob Ob.HK_FIR_ACTIVE 0 (s.blob Ob.HK_FIR_IDLE 0) := ⟨_, rfl⟩
    have hown : ownFirSwap (s.taken r .exec Ob.HK_FIR_SWAP 0 [0]) = .done u.chanChangeAll [] := by
      rw [ownFirSwap, State.taken_blob, hu]
    have hbase : Frame { regs := true, hk := true, blobs := true } (fun _ _ => True) (s.taken r .exec Ob.HK_FIR_SWAP 0 [0]) u := by
      rw [hu, frame_setBlob rfl]
      exact .refl
    have hblobs : u.chanChangeAll.blobs = u.blobs :=
      Frame.view (F := { regs := true, hk := true }) (P := fun _ _ => True) ((frame_chanChangeAll rfl rfl fun _ _ _ => trivial).mpr .refl)
        State.blobs fun _ _ => rfl
    refine ⟨_, next_serve_done hacc hown, ((frame_chanChangeAll rfl rfl fun _ _ _ => trivial).mpr hbase).fields, ?_, ?_,
      fun k => (u.chanChangeAll_unsettled k).1⟩
    · rw [State.blob, hblobs, hu]
      exact Store.get_put_self _ _ _ _
    · rw [State.blob, hblobs, hu]
      exact (Store.get_put_ne _ _ _ _ _ (by decide)).trans (State.taken_blob _ _ _ _ _ _ _ _)
  case load =>
    intro s r hacc hlive hat
    obtain ⟨v, hv⟩ : ∃ v, v = s.taken r .exec Ob.HK_LOAD 0 [0] := ⟨_, rfl⟩
    have hvhk : v.hk = s.hk := by rw [hv, State.taken_hk]
    have hvlive : v.hkLive = true := by
      rw [hv, State.hkLive, State.taken_on, State.taken_reg _ _ _ _ _ _ _ _ (by decide) (by decide)]
      exact hlive
    have hown : ownHkLoad v = .done (v.adacLoad 0) [] := by rw [ownHkLoad, if_pos hvlive]
    have hframe := v.adacLoad_frame 0
    subst hv
    refine ⟨_, next_serve_done hacc hown, hframe.fields, fun k => ?_, ?_, ?_⟩
    · rw [← hvhk]; exact State.adacLoad_adac _ k 0
    · rw [State.adacLoad_count _ _ (by rw [hvhk, hat]), State.taken_nat _ _ _ _ _ _ _ _ (by decide) (by decide)]
    · intro ix sub hsub hfree
      obtain ⟨hframes, hcount⟩ := not_or.mp hfree
      rw [hframe.regs ix sub hsub (fun h => hcount h.1), State.taken_reg _ _ _ _ _ _ _ _ hsub hframes]
  case strobe =>
    intro s c bit hmem
    simp only [List.mem_cons, Prod.mk.injEq, List.not_mem_nil, or_false] at hmem
    have hload : ∀ src : Nat, ∃ t : State, (.next (s.adacLoad src) : Out) = .next t ∧ t = { s with regs := t.regs, hk := t.hk } ∧
        (∀ (k : Fin 16), (∀ c, s.hk.adac[k].pend = some c → t.hk.adac[k] = { pend := none, target := c }) ∧
          (s.hk.adac[k].pend = none → t.hk.adac[k] = s.hk.adac[k])) ∧ KeepsRegs (fun ix _ => ix = Ob.HK_LOAD_COUNT) s t :=
      fun src => ⟨_, rfl, (s.adacLoad_frame src).fields, fun k => s.adacLoad_adac k src,
        fun ix sub hsub hfree => (s.adacLoad_frame src).regs ix sub hsub fun h => hfree h.1⟩
    rcases hmem with ⟨rfl, rfl⟩ | ⟨rfl, rfl⟩
    · refine ⟨fun hlive hbit => ?_, fun hbit => if_neg (by simp [hbit])⟩
      rw [show exec .hkLoadTimer s = .next (s.adacLoad 1) from if_pos ⟨hlive, hbit⟩]
      exact hload 1
    · refine ⟨fun hlive hbit => ?_, fun hbit => if_neg (by simp [hbit])⟩
      rw [show exec .ldacNAssert s = .next (s.adacLoad 2) from if_pos ⟨hlive, hbit⟩]
      exact hload 2
  case dac =>
    intro s k lim hon
    refine ⟨⟨_, if_pos hon, (s.adacStep_frame k).fields, fun hlt => ?_, fun hle => ?_,
      fun ix sub hsub hfree => (s.adacStep_frame k).regs ix sub hsub hfree⟩, ?short⟩
    · unfold State.adacStep
      rw [State.reg_setReg_self, if_pos hlt]
    · unfold State.adacStep
      rw [State.reg_setReg_self, if_neg (Nat.not_lt.mpr hle)]
    case short =>
      obtain ⟨bit, hbit⟩ : ∃ bit, bit = if s.reg Ob.HK_ADAC_MODE (k.val + 1) = 0 then 0 else 1 := ⟨_, rfl⟩
      have hon' : ¬ (!s.on Dom.HK) = true := by simp [hon]
      rw [← hbit]
      cases lim with
      | false =>
        have hexec : exec (.adacShort k false) s = .next (s.setReg Ob.HK_ADAC_FLAGS (k.val + 1)
            (withBit (s.nat Ob.HK_ADAC_FLAGS (k.val + 1)) bit false : Nat)) := by
          rw [hbit]; exact if_neg hon'
        refine ⟨_, hexec, rfl, State.reg_setReg_self _ _ _ _, ?_, fun _ => rfl, fun ix sub hsub hfree => ?_⟩
        · rw [if_neg (by simp), State.reg_setReg_ne _ _ _ _ _ _ (objKey_ne_of_ix (by omega) (by omega) (by decide))]
        · rw [State.reg_setReg _ _ _ _ _ _ (by omega) hsub, if_neg]
          rintro ⟨rfl, rfl⟩
          exact hfree (.inl ⟨by decide, rfl⟩)
      | true =>
        cases hflag : bitOf (s.nat Ob.HK_ADAC_FLAGS (k.val + 1)) bit with
        | true =>
          have hexec : exec (.adacShort k true) s = .next s := by
            refine (if_neg hon').trans (if_pos ?_)
            rw [← hbit, hflag]; rfl
          refine ⟨_, hexec, rfl, ?_, by simp, fun _ => rfl, fun _ _ _ _ => rfl⟩
          rw [withBit_true_of_bitOf hflag]
          have hpos : 0 < s.nat Ob.HK_ADAC_FLAGS (k.val + 1) := by
            by_contra hzero
            rw [Nat.eq_zero_of_not_pos hzero] at hflag
            simp [bitOf] at hflag
          unfold State.nat at hpos ⊢
          omega
        | false =>
          have hexec : exec (.adacShort k true) s = .next (((s.setReg Ob.HK_ADAC_FLAGS (k.val + 1)
              (withBit (s.nat Ob.HK_ADAC_FLAGS (k.val + 1)) bit true : Nat)).bump Ob.HK_ADAC_SHORT_COUNT (k.val + 1) 1).raise Src.HK_ADAC_SHORT k.val
                (k.val + 256 * bit + 65536 * s.nat Ob.HK_ADAC_OUT (k.val + 1)) Ob.HK_EVENTS 0) := by
            refine (if_neg hon').trans ((if_neg ?_).trans ?_)
            · rw [← hbit, hflag]; simp
            · rw [hbit]; rfl
          have hne : objKey Ob.HK_ADAC_FLAGS (k.val + 1) ≠ objKey Ob.HK_ADAC_SHORT_COUNT (k.val + 1) := objKey_ne_of_ix (by omega) (by omega) (by decide)
          refine ⟨_, hexec, ?_, ?_, ?_, by simp, fun ix sub hsub hfree => ?_⟩
          · have hframe : Frame { regs := true, lookout := true, cap := true } (fun _ _ => True) s
                (((s.setReg Ob.HK_ADAC_FLAGS (k.val + 1) (withBit (s.nat Ob.HK_ADAC_FLAGS (k.val + 1)) bit true : Nat)).bump
                  Ob.HK_ADAC_SHORT_COUNT (k.val + 1) 1).raise Src.HK_ADAC_SHORT k.val
                  (k.val + 256 * bit + 65536 * s.nat Ob.HK_ADAC_OUT (k.val + 1)) Ob.HK_EVENTS 0) := by
              rw [frame_raise rfl rfl rfl (fun _ _ _ => trivial) (by decide) trivial, frame_bump rfl (by omega) trivial,
                frame_setReg rfl (by omega) trivial]
              exact .refl
            exact hframe.fields
          · rw [State.raise_reg _ _ _ _ _ _ _ _ (by decide) (by omega) (by simp [EventObj]), if_neg (by omega), State.bump_eq, State.bumpTo,
              State.reg_setReg_ne _ _ _ _ _ _ hne.symm, State.reg_setReg_self]
          · rw [State.raise_reg _ _ _ _ _ _ _ _ (by decide) (by omega) (by simp [EventObj]), if_neg (by omega), State.bump_reg_self, if_pos ⟨rfl, rfl⟩]
            unfold State.nat
            rw [State.reg_setReg_ne _ _ _ _ _ _ hne]
          · obtain ⟨hown, hrest⟩ := not_or.mp hfree
            obtain ⟨hevents, hev⟩ := not_or.mp hrest
            rw [State.raise_reg _ _ _ _ _ _ _ _ (by decide) hsub hev, if_neg (fun h => hevents ⟨h.1.symm, h.2.symm⟩), State.bump_eq, State.bumpTo,
              State.reg_setReg _ _ _ _ _ _ (by omega) hsub, if_neg, State.reg_setReg _ _ _ _ _ _ (by omega) hsub, if_neg]
            · rintro ⟨rfl, rfl⟩
              exact hown ⟨by decide, rfl⟩
            · rintro ⟨rfl, rfl⟩
              exact hown ⟨by decide, rfl⟩
  case pwm =>
    intro s i hlive henable
    obtain ⟨u, hu⟩ : ∃ u, u = s.modPwm i (fun _ => s.pwmStart i) := ⟨_, rfl⟩
    have hexec : exec (.pwmPeriodStart i) s = .next (if u.trigPeriod = s.trigPeriod then u else u.chanChangeAll) := by
      rw [hu]
      exact if_pos ⟨hlive, by simp [State.flag, henable]⟩
    have hframe : Frame { regs := true, hk := true } (fun ix _ => ix ∈ chanChangeObjs) s (if u.trigPeriod = s.trigPeriod then u else u.chanChangeAll) := by
      have hbase : Frame { regs := true, hk := true } (fun ix _ => ix ∈ chanChangeObjs) s u := by
        rw [hu, frame_modPwm rfl]; exact .refl
      simp only [frame_ite, frame_chanChangeAll (F := { regs := true, hk := true }) (P := fun ix _ => ix ∈ chanChangeObjs) rfl rfl
        (fun _ hix _ => hix), hbase, ite_self]
    refine ⟨_, hexec, hframe.fields, ?_, ?_, fun ix sub hsub hfree => hframe.regs ix sub hsub hfree⟩
    · have hactive : decide (s.nat Ob.HK_PWM_DUTY (i.val + 1) ≠ 0) = (s.pwmStart i).active := by simp [State.pwmStart, bne, beq_eq_decide]
      rw [hactive]
      split
      · rw [hu]; rfl
      · rw [State.chanChangeAll_hk, hu]; rfl
    · split
      · exact fun _ => by rw [hu]; exact ⟨rfl, rfl⟩
      · next hne => exact fun h => absurd ((u.chanChangeAll_trigPeriod).symm.trans h) hne
  case dead =>
    intro s b raw k i lim hdead
    have hif : ∀ (Q : Prop) [Decidable Q] (x : Out), (if s.hkLive = true ∧ Q then x else .next s) = .next s :=
      fun Q _ x => if_neg fun h => by simp [hdead] at h
    have hnot : ∀ x : Out, (if (!s.hkLive) = true then .next s else x) = .next s := fun x => if_pos (by rw [hdead]; rfl)
    refine ⟨if_pos (by rw [hdead]; rfl), hif _ _, hif _ _, hnot _, hif _ _, hif _ _,
      fun hoff => ⟨if_neg (by simp [hoff]), if_pos (by rw [hoff]; rfl)⟩, hif _ _⟩

end Sys2Proof.Machine

/-! SUPPORT. The tick: temperatures, the pool's speed and the readback (R74, R160, R411 to R415, R426). -/

namespace Sys2Proof.Machine

/-! ## What a tick leaves -/

/-- The objects that a tick takes once: no later step of the tick writes them. -/
def tickKept : List Nat := [Ob.THERMAL_MON, Ob.THERMAL_TJ, Ob.THERMAL_TJ_PEAK, Ob.THERMAL_THROTTLE_STEP, Ob.COMPASS_AVS_READBACK_MV,
  Ob.TIC_POOL_SPEED]

/-- The choice of objects allows all but those that a tick takes once. -/
def AllowsTick (P : Nat → Nat → Prop) : Prop := ∀ ix sub, ix ∉ tickKept → P ix sub

/-- The fields of the state that a tick can change: all but the time, the fuses and the flash among those it reads. -/
structure TickFields (F : Fields) : Prop where
  regs : F.regs = true
  mmp : F.mmp = true
  lookout : F.lookout = true
  doms : F.doms = true
  cap : F.cap = true
  hk : F.hk = true
  tx : F.tx = true
  adc : F.adc = true
  rx : F.rx = true
  eng : F.eng = true
  tic : F.tic = true
  pool : F.pool = true
  link : F.link = true
  ds : F.ds = true
  hostInst : F.hostInst = true
  srch : F.srch = true
  fabric : F.fabric = true
  avs : F.avs = true
  therm : F.therm = true

theorem AllowsTick.events {P : Nat → Nat → Prop} (h : AllowsTick P) : AllowsEvents P := by
  rintro ix sub ⟨-, hix⟩
  refine h ix sub ?_
  rcases hix with rfl | rfl | rfl <;> decide

theorem AllowsTick.power {P : Nat → Nat → Prop} (h : AllowsTick P) : AllowsPower P := fun ix sub hix =>
  h ix sub fun hmem => (by decide : ∀ ix ∈ tickKept, ix / 256 ≠ 0x13) ix hmem hix

section
variable {F : Fields} {P : Nat → Nat → Prop} {s t : State} (hF : TickFields F) (hP : AllowsTick P)
include hF hP

theorem frame_tickSet {ix sub : Nat} {v : Int} (hsub : sub < 256) (hix : ix ∉ tickKept) : Frame F P s (t.setReg ix sub v) ↔ Frame F P s t :=
  frame_setReg hF.regs hsub (hP _ _ hix)

theorem frame_tickRaise {src inst detail ix sub : Nat} (hsub : sub < 256) (hix : ix ∉ tickKept) :
    Frame F P s (t.raise src inst detail ix sub) ↔ Frame F P s t :=
  frame_raise hF.regs hF.lookout hF.cap hP.events hsub (hP _ _ hix)

theorem frame_tickMeasures {p : Fin 8} : Frame F P s (t.laneMeasures p) ↔ Frame F P s t :=
  frame_laneMeasures hF.regs hF.rx hF.eng fun _ => hP _ _ (by decide)

theorem frame_marginRaise : Frame F P s t.marginRaise ↔ Frame F P s t := by
  refine Frame.iff ?_
  unfold State.marginRaise
  simp only [frame_ite, frame_avsUpdate hF.regs hF.avs hF.doms hF.mmp hP.power,
    frame_tickSet hF hP (by decide : 0 < 256) (by decide : Ob.FABRIC_MARGIN_RAISE_MV ∉ tickKept), frame_modFab hF.fabric, Frame.refl, ite_self]

theorem frame_shedTick {p : Fin 8} : Frame F P s (t.shedTick p) ↔ Frame F P s t := by
  refine Frame.iff ?_
  unfold State.shedTick
  dsimp only
  split
  · exact .refl
  · simp only [frame_ite, frame_record hF.regs hF.lookout hF.cap hP.events, frame_tickMeasures hF hP,
      frame_tickSet hF hP (fin8_succ_lt_256 p) (by decide : Ob.FABRIC_SHED_LEVEL ∉ tickKept), frame_modFab hF.fabric, Frame.refl, ite_self]

theorem frame_fabricTick : Frame F P s t.fabricTick ↔ Frame F P s t := by
  have hshed (u : State) : Frame F P u (forEach (fins 8) (fun p s => if s.exists p ∧ s.pstate p ≠ PS.OFF then s.shedTick p else s) u) :=
    (frame_forEach fun p _ t => by simp only [frame_ite, frame_shedTick hF hP, Frame.refl, ite_self]).mpr .refl
  have hpower (u : State) : Frame F P u (forEach (fins 8) (fun p s => if s.exists p then s.decodePower p
      else s.setReg Ob.FABRIC_DECODE_POWER_MW (p.val + 1) 0) u) :=
    (frame_forEach fun p _ t => by
      unfold State.decodePower
      simp only [frame_ite, frame_tickSet hF hP (fin8_succ_lt_256 p) (by decide : Ob.FABRIC_DECODE_POWER_MW ∉ tickKept), Frame.refl, ite_self]).mpr .refl
  refine Frame.iff ?_
  unfold State.fabricTick
  exact (((frame_marginRaise hF hP).mpr ((frame_modFab hF.fabric).mpr .refl)).trans (hshed _)).trans (hpower _)

theorem frame_tickRefresh {l : Fin 8} : Frame F P s (t.adcRefresh l) ↔ Frame F P s t :=
  frame_adcRefresh hF.regs (hP _ _ (by decide)) (hP _ _ (by decide)) (hP _ _ (by decide)) (hP _ _ (by decide))

theorem frame_bgWord {l : Fin 8} {kind k range drift : Nat} {est old : Int} : Frame F P s (t.bgWord l kind k range drift est old) ↔ Frame F P s t := by
  have hraise : ∀ (u : State) (src inst detail : Nat), Frame F P s (u.raise src inst detail Ob.LINE_ADC_EVENTS (l.val + 1)) ↔ Frame F P s u :=
    fun u src inst detail => frame_tickRaise hF hP (fin8_succ_lt_256 l) (by decide)
  unfold State.bgWord
  simp only [frame_ite, hraise, frame_modAdcLane hF.adc, ite_self]

theorem frame_bgCommit {l : Fin 8} {e : BgEstimate} : Frame F P s (t.bgCommit l e) ↔ Frame F P s t := by
  have hset : ∀ ix ∉ tickKept, ∀ (u : State) (v : Int), Frame F P s (u.setReg ix (l.val + 1) v) ↔ Frame F P s u :=
    fun ix hix u v => frame_tickSet hF hP (fin8_succ_lt_256 l) hix
  have hcount (u : State) : Frame F P s (u.bump Ob.LINE_ADC_CAL_COUNT (l.val + 1) 1) ↔ Frame F P s u := hset _ (by decide) _ _
  have hstamp (u : State) : Frame F P s (u.setStamp Ob.LINE_ADC_CAL_TIME (l.val + 1)) ↔ Frame F P s u := hset _ (by decide) _ _
  have hfine (u : State) (old : Lanes Int 128) (est : Lanes Int 128) (kind range drift : Nat) :
      Frame F P s (forEach (fins 128) (fun k s => s.bgWord l kind k.val range drift est[k] old[k]) u) ↔ Frame F P s u :=
    frame_forEach fun _ _ _ => (frame_bgWord hF hP).mpr .refl
  unfold State.bgCommit
  simp only [frame_ite, hset Ob.LINE_ADC_CAL_RESULT (by decide), hset Ob.LINE_ADC_CAL_KIND (by decide), hcount, hstamp, hfine, frame_bgWord hF hP,
    frame_tickRefresh hF hP, frame_recalRestart hF.adc, frame_modAdcLane hF.adc, ite_self]

theorem frame_ticTick : Frame F P s t.ticTick ↔ Frame F P s t := by
  have hset : ∀ ix ∉ tickKept, ∀ (l : Fin 8) (u v : State) (x : Int), Frame F P u (v.setReg ix (l.val + 1) x) ↔ Frame F P u v :=
    fun ix hix l u v x => frame_tickSet hF hP (fin8_succ_lt_256 l) hix
  have hrate (u : State) : Frame F P u (forEach (fins 8) (fun p s => if s.exists p then s.forcedRate p else s) u) :=
    (frame_forEach fun p _ t => by
      unfold State.forcedRate
      simp only [frame_ite, frame_tickRaise hF hP (fin8_succ_lt_256 p) (by decide : Ob.TIC_EVENTS ∉ tickKept), Frame.refl, ite_self]).mpr .refl
  have hlane (u : State) : Frame F P u (forEach (fins 8) (fun l s => s.ticTickLane l) u) :=
    (frame_forEach fun l _ t => by
      unfold State.ticTickLane
      simp only [frame_ite, hset Ob.TIC_ITER_MEAN (by decide), hset Ob.TIC_PRE_BER (by decide), hset Ob.TIC_LLR_STEP (by decide), frame_modTic hF.tic,
        frame_modDsp hF.rx, Frame.refl, ite_self]).mpr .refl
  have hload (u : State) : Frame F P u (forEach (fins 2) (fun h s => s.poolLoad h) u) :=
    (frame_forEach fun h _ t => by
      unfold State.poolLoad
      simp only [frame_tickSet hF hP (fin_succ_lt_256 h (by decide)) (by decide : Ob.TIC_POOL_LOAD ∉ tickKept), frame_modPool hF.pool, Frame.refl]).mpr .refl
  exact Frame.iff (((hrate t).trans (hlane _)).trans (hload _))

theorem frame_figuresHold {old : State} : Frame F P s (t.figuresHold old) ↔ Frame F P s t := by
  refine frame_forEach fun l _ t => ?_
  have hset : ∀ ix ∉ tickKept, ∀ (u : State) (v : Int), Frame F P t (u.setReg ix (l.val + 1) v) ↔ Frame F P t u :=
    fun ix hix u v => frame_tickSet hF hP (fin8_succ_lt_256 l) hix
  simp only [hset Ob.TIC_ITER_MEAN (by decide), hset Ob.TIC_PRE_BER (by decide), hset Ob.TIC_LLR_STEP (by decide), Frame.refl]

omit hP in
theorem frame_lineStore {key : Nat} {d : List (List Byte)} : Frame F P s (t.lineStore key d) ↔ Frame F P s t := frame_with_ds hF.ds

theorem frame_remapCommit : Frame F P s t.remapCommit ↔ Frame F P s t := by
  have hraise : ∀ (u v : State) (src inst detail : Nat), Frame F P u (v.raise src inst detail Ob.DS_EVENTS 0) ↔ Frame F P u v :=
    fun u v src inst detail => frame_tickRaise hF hP (by decide) (by decide)
  unfold State.remapCommit
  rw [frame_forEach fun c _ u => ?_]
  · exact frame_modDs hF.ds
  · split
    · exact .refl
    · split
      · next hroom =>
        simp only [hraise, frame_tickSet hF hP (by decide : 0 < 256) (by decide : Ob.DS_REMAP_USED ∉ tickKept),
          frame_tickSet hF hP (show u.ds.remap.length + 1 < 256 by omega) (by decide : Ob.DS_REMAP_ENTRY ∉ tickKept), frame_lineStore hF,
          frame_modDs hF.ds, Frame.refl]
      · simp only [hraise, Frame.refl]

theorem frame_dsTick : Frame F P s t.dsTick ↔ Frame F P s t := by
  have hset : ∀ ix ∉ tickKept, ∀ (u : State) (v : Int), Frame F P s (u.setReg ix 0 v) ↔ Frame F P s u :=
    fun ix hix u v => frame_tickSet hF hP (by decide) hix
  unfold State.dsTick State.dsAdmit
  simp only [hset Ob.DS_BW_ADMITTED_GBPS (by decide), hset Ob.DS_BW_USED_GBPS (by decide), frame_ite, frame_modDs hF.ds, frame_remapCommit hF hP, ite_self]

theorem frame_linkTick {p : Fin 8} : Frame F P s (t.linkTick p) ↔ Frame F P s t := by
  unfold State.linkTick
  simp only [frame_ite, frame_tickSet hF hP (fin8_succ_lt_256 p) (by decide : Ob.RETRY_REPLAY_EFFECTIVE ∉ tickKept),
    frame_tickRaise hF hP (fin8_succ_lt_256 p) (by decide : Ob.RETRY_EVENTS ∉ tickKept), frame_modLink hF.link, ite_self]

theorem frame_tickTrigger {e : Fin 128} {task within : Nat} : Frame F P s (t.trigger e task within) ↔ Frame F P s t :=
  frame_trigger hF.regs hF.eng (hP _ _ (by decide))

theorem frame_engTick : Frame F P s t.engTick ↔ Frame F P s t := by
  refine frame_forEach fun e _ t => ?_
  have hload : ∀ (u : State) (v : Int), Frame F P t (u.setReg Ob.ENG_LOAD (e.val + 1) v) ↔ Frame F P t u :=
    fun u v => frame_tickSet hF hP (by omega) (by decide)
  dsimp only
  split <;> simp only [frame_ite, frame_tickTrigger hF hP, frame_modEng hF.eng, hload, Frame.refl, ite_self]

theorem frame_hostTick {h : Fin 16} {freq snr : Int} : Frame F P s (t.hostTick h freq snr) ↔ Frame F P s t := by
  unfold State.hostTick
  simp only [frame_ite, frame_tickSet hF hP (fin16_succ_lt_256 h) (by decide : Ob.HOST_RX_FREQ_PPB ∉ tickKept),
    frame_tickSet hF hP (fin16_succ_lt_256 h) (by decide : Ob.HOST_RX_SNR_DB ∉ tickKept), ite_self]

theorem frame_offsetTick {l : Fin 8} : Frame F P s (t.offsetTick l) ↔ Frame F P s t := by
  have hset : ∀ (u : State) (v : Int), Frame F P s (u.setReg Ob.HOST_TX_OFFSET_PPB (2 * l.val + 1) v) ↔ Frame F P s u :=
    fun u v => frame_tickSet hF hP (by omega) (by decide)
  unfold State.offsetTick
  dsimp only
  split <;> simp only [frame_ite, hset, frame_modTx hF.tx, ite_self]

theorem frame_s1Tick {l : Fin 8} : Frame F P s (t.s1Tick l) ↔ Frame F P s t := by
  unfold State.s1Tick
  simp only [frame_tickSet hF hP (fin8_succ_lt_256 l) (by decide : Ob.S1_PRE_BER ∉ tickKept), frame_modSrch hF.srch]

theorem frame_apcVote : Frame F P s t.apcVote ↔ Frame F P s t := by
  unfold State.apcVote
  simp only [frame_ite, frame_castVote hF.regs hP.power hF.doms hF.mmp, frame_withdraw hF.regs hP.power hF.doms, ite_self]

theorem frame_apcTake {l : Fin 8} : Frame F P s (t.apcTake l) ↔ Frame F P s t := by
  unfold State.apcTake
  simp only [frame_apcVote hF hP, frame_ite, frame_tickSet hF hP (fin8_succ_lt_256 l) (by decide : Ob.OPTICS_APC_STATE ∉ tickKept),
    frame_modTx hF.tx, ite_self]

omit hP in
theorem frame_adacPut {k : Fin 16} {code : Nat} : Frame F P s (t.adacPut k code) ↔ Frame F P s t := frame_modAdac hF.hk

theorem frame_apcTick {l : Fin 8} : Frame F P s (t.apcTick l) ↔ Frame F P s t := by
  unfold State.apcTick
  simp only [frame_ite, frame_tickSet hF hP (fin8_succ_lt_256 l) (by decide : Ob.OPTICS_APC_STATE ∉ tickKept),
    frame_tickRaise hF hP (fin8_succ_lt_256 l) (by decide : Ob.TX_EVENTS ∉ tickKept), frame_adacPut hF, frame_modTx hF.tx,
    frame_tickSet hF hP (show t.nat Ob.OPTICS_APC_ADAC (l.val + 1) % 16 + 1 < 256 by omega) (by decide : Ob.HK_ADAC_CODE ∉ tickKept), ite_self]

omit hP in
theorem frame_noteUndo {es : List (Fin 128)} {task : Nat} {undo : List Undo} : Frame F P s (t.noteUndo es task undo) ↔ Frame F P s t := by
  unfold State.noteUndo
  split
  · exact frame_modEng hF.eng
  · rfl

omit hP in
theorem frame_tickUndo {old : State} : Frame F P s (t.tickUndo old) ↔ Frame F P s t := by
  have hlanes {n : Nat} {es : Fin n → List (Fin 128)} {task : Nat} (undo : Fin n → State → List Undo) (u v : State) :
      Frame F P u (forEach (fins n) (fun i s => s.noteUndo (es i) task (undo i s)) v) ↔ Frame F P u v :=
    frame_forEach fun _ _ _ => (frame_noteUndo hF).mpr .refl
  exact ((hlanes _ _ _).trans (hlanes _ _ _)).trans (hlanes _ _ _)

omit hP in
theorem frame_ageTake : Frame F P s t.ageTake ↔ Frame F P s t := by
  unfold State.ageTake
  exact frame_modTherm hF.therm

end

/-! ## The tick's readings -/

/-- A bit that is set leaves the others. -/
theorem bitOf_withBit_true_of_ne (v : Nat) {i k : Nat} (hne : i ≠ k) : bitOf (withBit v i true) k = bitOf v k := by
  cases hbit : bitOf v i with
  | true => rw [withBit_true_of_bitOf hbit]
  | false =>
    have hset : withBit v i true = 2 ^ i + v := by simp only [withBit, hbit]; omega
    rw [hset]
    rcases Nat.lt_or_gt_of_ne hne with hlt | hgt
    · obtain ⟨d, rfl⟩ := Nat.exists_eq_add_of_lt hlt
      have heven : v / 2 ^ i % 2 = 0 := by
        have h : v / 2 ^ i % 2 ≠ 1 := by simpa [bitOf] using hbit
        omega
      have hpow : 2 ^ (i + d + 1) = 2 ^ i * (2 * 2 ^ d) := by ring
      have hquot : (2 ^ i + v) / 2 ^ i / 2 = v / 2 ^ i / 2 := by
        rw [Nat.add_div_left v (Nat.two_pow_pos i)]; omega
      have hsame : (2 ^ i + v) / 2 ^ (i + d + 1) = v / 2 ^ (i + d + 1) := by
        rw [hpow, ← Nat.div_div_eq_div_mul, ← Nat.div_div_eq_div_mul, ← Nat.div_div_eq_div_mul, ← Nat.div_div_eq_div_mul, hquot]
      rw [bitOf, bitOf, hsame]
    · have h := Nat.testBit_two_pow_add_gt hgt v
      simpa only [Nat.testBit_eq_decide_div_mod_eq, bitOf, beq_eq_decide] using h

section
variable (s : State) (raw : Vector (Option Int) 32)

/-- A monitor found failing at a tick (R413). -/
def State.monFail (b : Fin 32 × Bool) (s : State) : State :=
  (s.setReg Ob.THERMAL_MON_FAIL 0 (withBit (s.nat Ob.THERMAL_MON_FAIL 0) b.1.val true : Nat)).raise Src.THERMAL_MON_FAIL 0
    (b.1.val + 256 * b.2.toNat) Ob.THERMAL_EVENTS 0

/-- The monitors that a tick finds failing. -/
def State.monBad : List (Fin 32 × Bool) := (fins 32).filterMap fun m => (s.monJudge raw m).map fun st => (m, st)

/-- The failures of a tick noted. -/
def State.monFails : State := forEach (s.monBad raw) State.monFail s

/-- The readings of a tick kept. -/
def State.readingsKept (old : State) : State := s.modTherm fun t => { t with raw := Vector.ofFn fun m => if old.monRead m then raw[m] else none }

/-- The state from which a tick's values are written. -/
def State.monJudged : State := (s.monFails raw).readingsKept raw s

/-- The value that a tick gives a monitor. -/
def State.monValue (m : Fin 32) : Int :=
  if s.monFailed m || !s.monRead m then -32768 else match raw[m] with | some r => s.monReading r | none => -32768

theorem State.monTick_eq : s.monTick raw =
    forEach (fins 32) (fun m s => s.setReg Ob.THERMAL_MON (m.val + 1) (s.monValue raw m)) (s.monJudged raw) := by
  unfold State.monTick State.monJudged State.monFails State.readingsKept State.monBad State.monFail State.monValue
  rfl

theorem State.monFail_frame (b : Fin 32 × Bool) : Frame { regs := true, lookout := true, cap := true }
    (fun ix sub => ix ∈ [Ob.THERMAL_MON_FAIL, Ob.THERMAL_EVENTS] ∨ EventObj ix sub) s (s.monFail b) := by
  unfold State.monFail
  rw [frame_raise rfl rfl rfl (fun _ _ h => .inr h) (by decide) (.inl (by decide)), frame_setReg rfl (by decide) (.inl (by decide))]
  exact .refl

theorem State.monFail_failed (b : Fin 32 × Bool) (k : Fin 32) : (s.monFail b).monFailed k = (s.monFailed k || decide (b.1 = k)) := by
  unfold State.monFail State.monFailed State.nat
  rw [State.raise_reg _ _ _ _ _ _ _ _ (by decide) (by decide) (by simp [EventObj]), if_neg (by decide), State.reg_setReg_self, Int.toNat_natCast]
  by_cases h : b.1 = k
  · rw [h, bitOf_withBit_true, decide_eq_true rfl, Bool.or_true]
  · rw [bitOf_withBit_true_of_ne _ (fun e => h (Fin.ext e)), decide_eq_false h, Bool.or_false]

theorem State.monFailAll_failed (l : List (Fin 32 × Bool)) (k : Fin 32) :
    (forEach l State.monFail s).monFailed k = (s.monFailed k || l.any fun b => decide (b.1 = k)) := by
  induction l generalizing s with
  | nil => simp [forEach]
  | cons b l ih =>
    have h : forEach (b :: l) State.monFail s = forEach l State.monFail (s.monFail b) := rfl
    rw [h, ih, State.monFail_failed, List.any_cons, Bool.or_assoc]

theorem State.monBad_any (k : Fin 32) : ((s.monBad raw).any fun b => decide (b.1 = k)) = (s.monJudge raw k).isSome := by
  rw [Bool.eq_iff_iff, List.any_eq_true]
  unfold State.monBad
  simp only [List.mem_filterMap, Option.map_eq_some_iff, decide_eq_true_eq, Option.isSome_iff_exists]
  constructor
  · rintro ⟨b, ⟨m, -, st, hst, rfl⟩, rfl⟩
    exact ⟨st, hst⟩
  · rintro ⟨st, hst⟩
    exact ⟨(k, st), ⟨k, List.mem_finRange k, st, hst, rfl⟩, rfl⟩

/-- What a tick's readings write before the values. -/
def JudgeObj (ix sub : Nat) : Prop := ix ∈ [Ob.THERMAL_MON_FAIL, Ob.THERMAL_EVENTS] ∨ EventObj ix sub

theorem State.monFails_frame : Frame { regs := true, lookout := true, cap := true } JudgeObj s (s.monFails raw) :=
  (frame_forEach fun b _ t => t.monFail_frame b).mpr .refl

theorem State.monJudged_frame : Frame { regs := true, lookout := true, cap := true, therm := true } JudgeObj s (s.monJudged raw) := by
  unfold State.monJudged State.readingsKept
  exact (frame_modTherm rfl).mpr ((s.monFails_frame raw).widen (fun _ _ => rfl) fun _ _ h => h)

theorem State.judgeObj_of_ne {ix sub : Nat} (h : ix ∉ [Ob.THERMAL_MON_FAIL, Ob.THERMAL_EVENTS, Ob.TEST_CAP_STATE, Ob.TEST_CAP_TRIG_STAMP,
    Ob.FAULT_LOG_DROPPED]) : ¬ JudgeObj ix sub := by
  simp only [List.mem_cons, List.not_mem_nil, or_false, not_or] at h
  obtain ⟨hfail, hevents, hstate, hstamp, hdropped⟩ := h
  simp [JudgeObj, EventObj, *]

theorem State.monJudged_reg (ix sub : Nat) (hsub : sub < 256) (h : ix ∉ [Ob.THERMAL_MON_FAIL, Ob.THERMAL_EVENTS, Ob.TEST_CAP_STATE,
    Ob.TEST_CAP_TRIG_STAMP, Ob.FAULT_LOG_DROPPED]) : (s.monJudged raw).reg ix sub = s.reg ix sub :=
  (s.monJudged_frame raw).regs ix sub hsub (State.judgeObj_of_ne h)

theorem State.readingsKept_failed (old : State) (k : Fin 32) : (s.readingsKept raw old).monFailed k = s.monFailed k := by
  unfold State.readingsKept
  generalize Vector.ofFn _ = readings
  rfl

theorem State.monJudged_failed (k : Fin 32) : (s.monJudged raw).monFailed k = (s.monFailed k || (s.monJudge raw k).isSome) := by
  rw [← State.monBad_any, ← State.monFailAll_failed]
  exact (s.monFails raw).readingsKept_failed raw s k

theorem State.monJudged_read (k : Fin 32) : (s.monJudged raw).monRead k = s.monRead k := by
  unfold State.monRead State.on State.pwr
  rw [State.monJudged_reg _ _ _ _ (by omega) (by decide)]

theorem State.readingsKept_corr (old : State) : (s.readingsKept raw old).therm.corr = s.therm.corr := by
  unfold State.readingsKept
  generalize Vector.ofFn _ = readings
  rfl

theorem State.monJudged_corr : (s.monJudged raw).therm.corr = s.therm.corr := by
  have h := (s.monFails_frame raw).view State.therm fun _ _ => rfl
  exact ((s.monFails raw).readingsKept_corr raw s).trans (congrArg Thermal.corr h)

theorem State.monValue_congr {s t : State} (k : Fin 32) (hfailed : t.monFailed k = s.monFailed k) (hread : t.monRead k = s.monRead k)
    (hcorr : t.therm.corr = s.therm.corr) : t.monValue raw k = s.monValue raw k := by
  simp only [State.monValue, State.monReading, hfailed, hread, hcorr]

/-- A monitor's value written leaves what the values are made from. -/
theorem State.setMon_monValue (m : Fin 32) (v : Int) (k : Fin 32) :
    (s.setReg Ob.THERMAL_MON (m.val + 1) v).monValue raw k = s.monValue raw k := by
  refine State.monValue_congr raw k ?_ ?_ rfl
  · unfold State.monFailed State.nat
    rw [State.reg_setReg_ne _ _ _ _ _ _ (objKey_ne_of_ix (by omega) (by decide) (by decide))]
  · unfold State.monRead State.on State.pwr
    rw [State.reg_setReg_ne _ _ _ _ _ _ (objKey_ne_of_ix (by omega) (by omega) (by decide))]

/-- After a tick's readings each monitor holds the value that the judged state gives it. -/
theorem State.monTick_mon (k : Fin 32) : (s.monTick raw).reg Ob.THERMAL_MON (k.val + 1) = (s.monJudged raw).monValue raw k := by
  rw [State.monTick_eq]
  generalize s.monJudged raw = u
  have hkeep : ∀ m j : Fin 32, ∀ t : State, (∀ i, t.monValue raw i = u.monValue raw i) → t.reg Ob.THERMAL_MON (m.val + 1) = u.monValue raw m →
      (t.setReg Ob.THERMAL_MON (j.val + 1) (t.monValue raw j)).reg Ob.THERMAL_MON (m.val + 1) = u.monValue raw m := by
    intro m j t ht hm
    by_cases h : j = m
    · subst h
      exact (State.reg_setReg_self _ _ _ _).trans (ht j)
    · rw [State.reg_setReg_ne _ _ _ _ _ _ (objKey_ne_of_sub (by omega) (by omega) fun e => h (Fin.ext (by omega)))]
      exact hm
  obtain ⟨-, hset⟩ := forEach_establishes (fun t => ∀ j, t.monValue raw j = u.monValue raw j)
    (fun (m : Fin 32) t => t.reg Ob.THERMAL_MON (m.val + 1) = u.monValue raw m) (l := fins 32)
    (f := fun m s => s.setReg Ob.THERMAL_MON (m.val + 1) (s.monValue raw m)) (s := u)
    (fun m _ t ht j => (t.setMon_monValue raw m _ j).trans (ht j)) (fun m _ t ht => (State.reg_setReg_self _ _ _ _).trans (ht m))
    (fun m _ j _ t ht hm => hkeep m j t ht hm) (fun _ => rfl)
  exact hset k (List.mem_finRange k)

/-- What a tick's readings write. -/
theorem State.monTick_reg (ix sub : Nat) (hsub : sub < 256) (h : ix ∉ [Ob.THERMAL_MON, Ob.THERMAL_MON_FAIL, Ob.THERMAL_EVENTS, Ob.TEST_CAP_STATE,
    Ob.TEST_CAP_TRIG_STAMP, Ob.FAULT_LOG_DROPPED]) : (s.monTick raw).reg ix sub = s.reg ix sub := by
  obtain ⟨hmon, hrest⟩ := not_or.mp (fun e => h (List.mem_cons.mpr e))
  rw [State.monTick_eq, ← s.monJudged_reg raw ix sub hsub hrest]
  exact forEach_keeps (fun t => t.reg ix sub) (fun m _ t => State.reg_setReg_ne _ _ _ _ _ _
    (objKey_ne_of_ix (by omega) hsub (Ne.symm hmon))) _

/-- The fields that a tick's readings leave. -/
theorem State.monTick_frame : Frame { regs := true, lookout := true, cap := true, therm := true } (fun _ _ => True) s (s.monTick raw) := by
  rw [State.monTick_eq]
  refine (frame_forEach fun m _ t => ?_).mpr ((s.monJudged_frame raw).mono fun _ _ _ => trivial)
  exact (frame_setReg rfl (by omega) trivial).mpr .refl

/-- A sound monitor of a domain that is ON reads its frequency under the common correction (R412). -/
theorem State.monTick_sound {k : Fin 32} {v : Int} (hfailed : s.monFailed k = false) (hread : s.monRead k = true) (hjudge : s.monJudge raw k = none)
    (hraw : raw[k] = some v) : (s.monTick raw).reg Ob.THERMAL_MON (k.val + 1) = clampInt (-32767) 32767 (roundDiv (2 * v + s.therm.corr) 2) := by
  rw [State.monTick_mon, State.monValue, State.monJudged_failed, State.monJudged_read, hfailed, hread, hjudge, hraw]
  simp only [Option.isSome_none, Bool.or_false, Bool.not_true, Bool.false_eq_true, if_false, State.monReading, State.monJudged_corr]

/-- A monitor that has failed, or whose domain is not ON, has no reading (R411, R413). -/
theorem State.monTick_none {k : Fin 32} (h : s.monFailed k = true ∨ s.monRead k = false) :
    (s.monTick raw).reg Ob.THERMAL_MON (k.val + 1) = -32768 := by
  rw [State.monTick_mon, State.monValue, State.monJudged_failed, State.monJudged_read]
  rcases h with h | h <;> simp [h]

end

/-! ## The part of AON -/

/-- The fields that a tick can change. -/
def tickFields : Fields where
  regs := true
  mmp := true
  lookout := true
  doms := true
  cap := true
  hk := true
  tx := true
  adc := true
  rx := true
  eng := true
  tic := true
  pool := true
  link := true
  ds := true
  hostInst := true
  srch := true
  fabric := true
  avs := true
  therm := true

theorem tickFields_spec : TickFields tickFields := by constructor <;> rfl

/-- The objects that AON's part of a tick takes once, and those that it must leave for what follows. -/
def tickAonKept : List Nat := [Ob.THERMAL_MON, Ob.THERMAL_TJ, Ob.THERMAL_TJ_PEAK, Ob.COMPASS_AVS_READBACK_MV, Ob.DICT_STATE, Ob.THERMAL_AUTOCLEAR]

/-- What AON's part of a tick can write. -/
def AonObj (ix _sub : Nat) : Prop := ix ∉ tickAonKept

theorem allowsEvents_aonObj : AllowsEvents AonObj := by
  rintro ix sub ⟨-, rfl | rfl | rfl⟩ <;> (unfold AonObj; decide)

theorem allowsPower_aonObj : AllowsPower AonObj := fun ix _ hix hmem => (by decide : ∀ ix ∈ tickAonKept, ix / 256 ≠ 0x13) ix hmem hix

section
variable {s t : State}

theorem frame_aonSet {ix sub : Nat} {v : Int} (hsub : sub < 256) (hix : ix ∉ tickAonKept) :
    Frame tickFields AonObj s (t.setReg ix sub v) ↔ Frame tickFields AonObj s t := frame_setReg rfl hsub hix

theorem frame_aonRaise {src detail : Nat} : Frame tickFields AonObj s (t.raise src 0 detail Ob.THERMAL_EVENTS 0) ↔ Frame tickFields AonObj s t :=
  frame_raise rfl rfl rfl allowsEvents_aonObj (by decide) (by unfold AonObj; decide)

theorem frame_aonTherm {f : Thermal → Thermal} : Frame tickFields AonObj s (t.modTherm f) ↔ Frame tickFields AonObj s t := frame_modTherm rfl

theorem frame_aonAvs : Frame tickFields AonObj s t.avsUpdate ↔ Frame tickFields AonObj s t := frame_avsUpdate rfl rfl rfl rfl allowsPower_aonObj

theorem frame_aonStep {n : Nat} : Frame tickFields AonObj s (t.tempStep n) ↔ Frame tickFields AonObj s t := by
  refine Frame.iff ((t.tempStep_frame n).widen (fun _ _ => rfl) ?_)
  rintro ix sub (h | h)
  · exact fun hmem => (by decide : ∀ ix ∈ tickAonKept, ix ∉ [Ob.THERMAL_THROTTLE_STEP, Ob.ENG_PACE, Ob.ENG_STATE, Ob.LINE_EQ_STATE, Ob.THERMAL_EVENTS])
      ix hmem h
  · exact allowsEvents_aonObj ix sub h

theorem frame_aonApply : Frame tickFields AonObj s t.stepApply ↔ Frame tickFields AonObj s t :=
  Frame.iff (t.stepApply_frame.widen (fun _ _ => rfl) fun ix _ h hmem =>
    (by decide : ∀ ix ∈ tickAonKept, ix ∉ [Ob.THERMAL_THROTTLE_STEP, Ob.ENG_PACE, Ob.ENG_STATE]) ix hmem h)

theorem frame_thresholds {tj : Int} : Frame tickFields AonObj s (t.thresholds tj) ↔ Frame tickFields AonObj s t := by
  unfold State.thresholds
  simp only [frame_ite, frame_aonStep, frame_aonRaise, frame_aonTherm, ite_self]

theorem frame_recalBand : Frame tickFields AonObj s t.recalBand ↔ Frame tickFields AonObj s t :=
  frame_forEach fun _ _ _ => (frame_modAdcLane rfl).mpr .refl

theorem frame_setBand {b : Nat} : Frame tickFields AonObj s (t.setBand b) ↔ Frame tickFields AonObj s t := by
  have hlanes (u v : State) : Frame tickFields AonObj u
      (forEach (fins 8) (fun l s => (s.setReg Ob.TX_WAVE_ACTIVE_BAND (l.val + 1) (b : Nat)).waveRetarget l) v) ↔ Frame tickFields AonObj u v :=
    frame_forEach fun l _ w => by
      rw [frame_waveRetarget rfl rfl (by unfold AonObj; decide), frame_aonSet (fin8_succ_lt_256 l) (by decide)]
      exact .refl
  unfold State.setBand
  simp only [frame_ite, frame_aonAvs, frame_recalBand, hlanes, frame_aonSet (by decide : 0 < 256) (by decide : Ob.THERMAL_BAND ∉ tickAonKept), ite_self]

end

section
variable (s : State) (raw : Vector (Option Int) 32)

/-- The readings and THERMAL.TJ taken (R415). -/
def State.tjTaken : State :=
  if s.reg Ob.THERMAL_TJ_PEAK 0 < (s.monTick raw).tjNow then
    ((s.monTick raw).setReg Ob.THERMAL_TJ 0 (s.monTick raw).tjNow).setReg Ob.THERMAL_TJ_PEAK 0 (s.monTick raw).tjNow
  else (s.monTick raw).setReg Ob.THERMAL_TJ 0 (s.monTick raw).tjNow

/-- The thresholds compared after THERMAL.TJ is taken (R416, R417). -/
def State.tempWarned (u : State) (tj : Int) : State :=
  let blind := tj == -32768
  let u1 := u.modTherm fun t => { t with blind := blind }
  let u2 := if blind ∧ s.therm.blind = false then
      u1.raise Src.THERMAL_BLIND 0 (min 63 ((fins 32).filter u.monFailed).length) Ob.THERMAL_EVENTS 0 else u1
  if blind || s.inShutdown then u2 else u2.thresholds tj

/-- The step and the band that follow (R74, R418). -/
def State.tempBanded (u : State) (tj : Int) : State :=
  u.stepApply.setBand (if tj == -32768 then 3 else bandFrom (u.stepApply.nat Ob.THERMAL_BAND 0) tj)

/-- The time throttled (R421). -/
def State.tempTimed (u : State) : State :=
  let v := if u.throttle = 0 then u else u.modTherm fun t => { t with stepTicks := t.stepTicks + 1 }
  v.setReg Ob.THERMAL_THROTTLE_MS 0 (min (2 ^ 64 - 1) (v.therm.stepTicks * 128 / 125) : Nat)

/-- AON's part of a tick before THERMAL.STATE and the supply. -/
def State.tempActed : State :=
  ((s.tempWarned (s.tjTaken raw) (s.monTick raw).tjNow).tempBanded (s.monTick raw).tjNow).tempTimed

theorem State.thermalTick_eq : s.thermalTick raw = ((s.tempActed raw).setReg Ob.THERMAL_STATE 0 (if s.inShutdown then 3
    else if (s.tempActed raw).therm.throttling then 2 else if (s.tempActed raw).therm.warn then 1 else 0)).avsUpdate := rfl

theorem State.tempWarned_frame (u : State) (tj : Int) : Frame tickFields AonObj u (s.tempWarned u tj) := by
  unfold State.tempWarned
  simp only [frame_ite, frame_thresholds, frame_aonRaise, frame_aonTherm, Frame.refl, ite_self]

theorem State.tempBanded_frame (u : State) (tj : Int) : Frame tickFields AonObj u (u.tempBanded tj) :=
  frame_setBand.mpr (frame_aonApply.mpr .refl)

theorem State.tempTimed_frame (u : State) : Frame tickFields AonObj u u.tempTimed := by
  unfold State.tempTimed
  rw [frame_aonSet (by decide) (by decide)]
  simp only [frame_ite, frame_aonTherm, Frame.refl, ite_self]

theorem State.tempActed_frame : Frame tickFields AonObj (s.tjTaken raw) (s.tempActed raw) :=
  ((s.tempWarned_frame _ _).trans (State.tempBanded_frame _ _)).trans (State.tempTimed_frame _)

theorem State.thermalTick_frame : Frame tickFields AonObj (s.tjTaken raw) (s.thermalTick raw) := by
  rw [State.thermalTick_eq, frame_aonAvs, frame_aonSet (by decide) (by decide)]
  exact s.tempActed_frame raw

/-- In a thermal shutdown THERMAL.STATE stays at its last value (R419). -/
theorem State.thermalTick_shutdown (h : s.inShutdown = true) : (s.thermalTick raw).reg Ob.THERMAL_STATE 0 = 3 := by
  rw [State.thermalTick_eq, if_pos h, State.avsUpdate_reg _ _ _ (by decide) (by decide), State.reg_setReg_self]

theorem State.tjTaken_reg (ix sub : Nat) (hsub : sub < 256) (h : ix ∉ [Ob.THERMAL_TJ, Ob.THERMAL_TJ_PEAK]) :
    (s.tjTaken raw).reg ix sub = (s.monTick raw).reg ix sub := by
  simp only [List.mem_cons, List.not_mem_nil, or_false, not_or] at h
  unfold State.tjTaken
  split
  · rw [State.reg_setReg_ne _ _ _ _ _ _ (objKey_ne_of_ix (by decide) hsub (Ne.symm h.2)),
      State.reg_setReg_ne _ _ _ _ _ _ (objKey_ne_of_ix (by decide) hsub (Ne.symm h.1))]
  · rw [State.reg_setReg_ne _ _ _ _ _ _ (objKey_ne_of_ix (by decide) hsub (Ne.symm h.1))]

theorem State.tjTaken_tj : (s.tjTaken raw).reg Ob.THERMAL_TJ 0 = (s.monTick raw).tjNow := by
  unfold State.tjTaken
  split
  · rw [State.reg_setReg_ne _ _ _ _ _ _ (by decide), State.reg_setReg_self]
  · rw [State.reg_setReg_self]

theorem State.tjTaken_peak : (s.tjTaken raw).reg Ob.THERMAL_TJ_PEAK 0 = max (s.reg Ob.THERMAL_TJ_PEAK 0) (s.monTick raw).tjNow := by
  unfold State.tjTaken
  split
  · next h => rw [State.reg_setReg_self, max_eq_right h.le]
  · next h =>
    rw [State.reg_setReg_ne _ _ _ _ _ _ (by decide), State.monTick_reg _ _ _ _ (by decide) (by decide), max_eq_left (not_lt.mp h)]

theorem State.tjTaken_frame : Frame tickFields (fun _ _ => True) s (s.tjTaken raw) := by
  have hmon := (s.monTick_frame raw).widen (G := tickFields) (fun _ _ => rfl) fun _ _ h => h
  unfold State.tjTaken
  simp only [frame_ite, frame_setReg (F := tickFields) (P := fun _ _ => True) rfl (by decide : 0 < 256) trivial, hmon, ite_self]

/-- Outside a thermal shutdown THERMAL.TJ is the highest of the diode and the monitors (R415). -/
theorem State.tjNow_monTick : (s.monTick raw).tjNow = if s.inShutdown = true
    then (if s.reg Ob.THERMAL_DIODE_FAIL 0 ≠ 0 then -32768 else s.reg Ob.THERMAL_DIODE 0)
    else (fins 32).foldl (fun x k => max x ((s.monTick raw).reg Ob.THERMAL_MON (k.val + 1)))
      (if s.reg Ob.THERMAL_DIODE_FAIL 0 ≠ 0 then -32768 else s.reg Ob.THERMAL_DIODE 0) := by
  unfold State.tjNow State.flag State.inShutdown
  simp only [s.monTick_reg raw Ob.THERMAL_DIODE_FAIL 0 (by decide) (by decide), s.monTick_reg raw Ob.THERMAL_DIODE 0 (by decide) (by decide),
    s.monTick_reg raw Ob.DICT_STATE 0 (by decide) (by decide), s.monTick_reg raw Ob.FAULT_SAFE_CAUSE 0 (by decide) (by decide), bne_iff_ne]

end

/-! ## The part of the blocks -/

/-- What the blocks' part of a tick can write beside the readback and the pool's speed. -/
def BlockObj (ix _sub : Nat) : Prop := ix ∉ tickKept

theorem allowsTick_blockObj : AllowsTick BlockObj := fun _ _ h => h

section
variable (s : State) (m : TickIn)

/-- The fabric's part, after the supply's. -/
def State.fabricTaken : State := (s.avsTick m.vdd).fabricTick

/-- The pools' speeds taken. -/
def State.pacesTaken : State := forEach (fins 2) (fun h s => s.poolPace h m.pool[h]) (s.fabricTaken m)

/-- The blocks' part of a tick after the pools' speeds. -/
theorem State.tickBlocks_frame : Frame tickFields BlockObj (s.pacesTaken m) (s.tickBlocks m) := by
  have hF := tickFields_spec
  have hP := allowsTick_blockObj
  have hcommit (u v : State) : Frame tickFields BlockObj u (forEach (fins 8) (fun l s => s.bgCommit l m.estimates[l]) v) ↔
      Frame tickFields BlockObj u v := frame_forEach fun _ _ _ => (frame_bgCommit hF hP).mpr .refl
  have hlink (u v : State) : Frame tickFields BlockObj u (forEach (fins 8) (fun p s => if s.exists p then s.linkTick p else s) v) ↔
      Frame tickFields BlockObj u v :=
    frame_forEach fun _ _ _ => by simp only [frame_ite, frame_linkTick hF hP, Frame.refl, ite_self]
  have hhost (u v : State) : Frame tickFields BlockObj u (forEach (fins 16) (fun h s => s.hostTick h m.hostFreq[h] m.hostSnr[h]) v) ↔
      Frame tickFields BlockObj u v := frame_forEach fun _ _ _ => (frame_hostTick hF hP).mpr .refl
  have hinst (u v : State) : Frame tickFields BlockObj u (forEach (fins 8) (fun i s => s.modInst i (fun x => { x with uncTick := 0 })) v) ↔
      Frame tickFields BlockObj u v := frame_forEach fun _ _ _ => (frame_modInst hF.hostInst).mpr .refl
  have hlane (u v : State) : Frame tickFields BlockObj u (forEach (fins 8) (fun l s => (((s.offsetTick l).s1Tick l).apcTake l).apcTick l) v) ↔
      Frame tickFields BlockObj u v :=
    frame_forEach fun _ _ _ => by
      rw [frame_apcTick hF hP, frame_apcTake hF hP, frame_s1Tick hF hP, frame_offsetTick hF hP]
      exact .refl
  unfold State.tickBlocks
  dsimp only
  rw [frame_ageTake hF, frame_tickUndo hF, hlane, hinst, hhost, frame_engTick hF hP, hlink, frame_dsTick hF hP, frame_figuresHold hF hP,
    frame_ticTick hF hP, hcommit]
  exact .refl

theorem State.pacesTaken_reg (ix sub : Nat) (hsub : sub < 256) (h : ix ≠ Ob.TIC_POOL_SPEED) :
    (s.pacesTaken m).reg ix sub = (s.fabricTaken m).reg ix sub :=
  forEach_keeps (fun t => t.reg ix sub) (fun _ _ _ => State.reg_setReg_ne _ _ _ _ _ _ (objKey_ne_of_ix (by omega) hsub (Ne.symm h))) _

theorem State.poolPace_throttle (h : Fin 2) (speed : Nat) : (s.poolPace h speed).throttle = s.throttle := by
  unfold State.throttle State.nat State.poolPace
  rw [State.reg_setReg_ne _ _ _ _ _ _ (objKey_ne_of_ix (by omega) (by decide) (by decide))]

/-- Each pool's speed follows from the speed measured and the step in force (R160, R418). -/
theorem State.pacesTaken_speed (h : Fin 2) : (s.pacesTaken m).reg Ob.TIC_POOL_SPEED (h.val + 1) =
    (min 65535 (if 4 ≤ (s.pacesTaken m).throttle then m.pool[h] * 6 / 8 else m.pool[h]) : Nat) := by
  have hstep : (s.pacesTaken m).throttle = (s.fabricTaken m).throttle :=
    forEach_keeps State.throttle (fun h _ t => t.poolPace_throttle h m.pool[h]) _
  rw [hstep]
  unfold State.pacesTaken
  generalize s.fabricTaken m = u
  have hkeep : ∀ j : Fin 2, ∀ t : State, t.throttle = u.throttle → (t.poolPace j m.pool[j]).throttle = u.throttle :=
    fun j t ht => (t.poolPace_throttle j _).trans ht
  have hset : ∀ j : Fin 2, ∀ t : State, t.throttle = u.throttle → (t.poolPace j m.pool[j]).reg Ob.TIC_POOL_SPEED (j.val + 1) =
      (min 65535 (if 4 ≤ u.throttle then m.pool[j] * 6 / 8 else m.pool[j]) : Nat) := fun j t ht => by
    unfold State.poolPace
    rw [State.reg_setReg_self, ht]
  have hother : ∀ i j : Fin 2, ∀ t : State, t.throttle = u.throttle → t.reg Ob.TIC_POOL_SPEED (i.val + 1) =
      (min 65535 (if 4 ≤ u.throttle then m.pool[i] * 6 / 8 else m.pool[i]) : Nat) → (t.poolPace j m.pool[j]).reg Ob.TIC_POOL_SPEED (i.val + 1) =
      (min 65535 (if 4 ≤ u.throttle then m.pool[i] * 6 / 8 else m.pool[i]) : Nat) := fun i j t ht hi => by
    by_cases hij : j = i
    · subst hij; exact hset j t ht
    · unfold State.poolPace
      rw [State.reg_setReg_ne _ _ _ _ _ _ (objKey_ne_of_sub (by omega) (by omega) fun e => hij (Fin.ext (by omega)))]
      exact hi
  obtain ⟨-, hall⟩ := forEach_establishes (fun t => t.throttle = u.throttle) (fun (j : Fin 2) t => t.reg Ob.TIC_POOL_SPEED (j.val + 1) =
      (min 65535 (if 4 ≤ u.throttle then m.pool[j] * 6 / 8 else m.pool[j]) : Nat)) (l := fins 2) (f := fun h s => s.poolPace h m.pool[h]) (s := u)
    (fun j _ t ht => hkeep j t ht) (fun j _ t ht => hset j t ht) (fun i _ j _ t ht hi => hother i j t ht hi) rfl
  exact hall h (List.mem_finRange h)

/-- What the supply's part of a tick writes. -/
def ReadbackObj (ix sub : Nat) : Prop := ix ∈ [Ob.COMPASS_AVS_READBACK_MV, Ob.COMPASS_EVENTS] ∨ EventObj ix sub

theorem State.avsTick_frame (vdd : Nat) : Frame { regs := true, lookout := true, cap := true, avs := true } ReadbackObj s (s.avsTick vdd) := by
  have hset (u : State) (v : Int) : Frame { regs := true, lookout := true, cap := true, avs := true } ReadbackObj s
      (u.setReg Ob.COMPASS_AVS_READBACK_MV 0 v) ↔ Frame { regs := true, lookout := true, cap := true, avs := true } ReadbackObj s u :=
    frame_setReg rfl (by decide) (.inl (by decide))
  have hraise (u : State) (src inst detail : Nat) : Frame { regs := true, lookout := true, cap := true, avs := true } ReadbackObj s
      (u.raise src inst detail Ob.COMPASS_EVENTS 0) ↔ Frame { regs := true, lookout := true, cap := true, avs := true } ReadbackObj s u :=
    frame_raise rfl rfl rfl (fun _ _ h => .inr h) (by decide) (.inl (by decide))
  have havs (u : State) (x : Avs) : Frame { regs := true, lookout := true, cap := true, avs := true } ReadbackObj s { u with avs := x } ↔
      Frame { regs := true, lookout := true, cap := true, avs := true } ReadbackObj s u := frame_with_avs rfl
  unfold State.avsTick
  simp only [frame_ite, hraise, havs, hset, Frame.refl, ite_self]

theorem State.avsTick_readback (vdd : Nat) : (s.avsTick vdd).reg Ob.COMPASS_AVS_READBACK_MV 0 = (min 65535 vdd : Nat) := by
  have hset : (s.setReg Ob.COMPASS_AVS_READBACK_MV 0 (min 65535 vdd : Nat)).reg Ob.COMPASS_AVS_READBACK_MV 0 = (min 65535 vdd : Nat) :=
    State.reg_setReg_self _ _ _ _
  have havs (u : State) (x : Avs) : ({ u with avs := x } : State).reg Ob.COMPASS_AVS_READBACK_MV 0 = u.reg Ob.COMPASS_AVS_READBACK_MV 0 := rfl
  unfold State.avsTick
  dsimp only
  split
  · split
    · rw [State.raise_reg _ _ _ _ _ _ _ _ (by decide) (by decide) (by simp [EventObj]), if_neg (by decide), havs, hset]
    · rw [havs, hset]
  · rw [havs, hset]

/-- The blocks' part of a tick up to the pools' speeds: the fields it leaves. -/
theorem State.pacesTaken_frame : Frame tickFields (fun _ _ => True) s (s.pacesTaken m) := by
  have hpace (u v : State) : Frame tickFields (fun _ _ => True) u (forEach (fins 2) (fun h s => s.poolPace h m.pool[h]) v) ↔
      Frame tickFields (fun _ _ => True) u v := frame_forEach fun _ _ _ => (frame_setReg rfl (by omega) trivial).mpr .refl
  unfold State.pacesTaken State.fabricTaken
  rw [hpace, frame_fabricTick tickFields_spec (fun _ _ _ => trivial)]
  exact (s.avsTick_frame m.vdd).widen (fun _ _ => rfl) fun _ _ _ => trivial

/-- The blocks' part of a tick leaves the temperatures. -/
theorem State.tickBlocks_temperature (ix sub : Nat) (hsub : sub < 256) (h : ix ∈ [Ob.THERMAL_MON, Ob.THERMAL_TJ, Ob.THERMAL_TJ_PEAK]) :
    (s.tickBlocks m).reg ix sub = s.reg ix sub := by
  have hkept : ix ∈ tickKept := (by decide : ∀ ix ∈ [Ob.THERMAL_MON, Ob.THERMAL_TJ, Ob.THERMAL_TJ_PEAK], ix ∈ tickKept) ix h
  have hread : ¬ ReadbackObj ix sub := by
    rintro (hmem | ⟨-, hev⟩)
    · exact (by decide : ∀ ix ∈ [Ob.THERMAL_MON, Ob.THERMAL_TJ, Ob.THERMAL_TJ_PEAK], ix ∉ [Ob.COMPASS_AVS_READBACK_MV, Ob.COMPASS_EVENTS]) ix h hmem
    · exact (by decide : ∀ ix ∈ [Ob.THERMAL_MON, Ob.THERMAL_TJ, Ob.THERMAL_TJ_PEAK],
        ¬ (ix = Ob.TEST_CAP_STATE ∨ ix = Ob.TEST_CAP_TRIG_STAMP ∨ ix = Ob.FAULT_LOG_DROPPED)) ix h hev
  have hfabric : Frame tickFields BlockObj (s.avsTick m.vdd) (s.fabricTaken m) := (frame_fabricTick tickFields_spec allowsTick_blockObj).mpr .refl
  rw [(s.tickBlocks_frame m).regs ix sub hsub (fun hne => hne hkept), s.pacesTaken_reg m ix sub hsub
    ((by decide : ∀ ix ∈ [Ob.THERMAL_MON, Ob.THERMAL_TJ, Ob.THERMAL_TJ_PEAK], ix ≠ Ob.TIC_POOL_SPEED) ix h),
    hfabric.regs ix sub hsub (fun hne => hne hkept), (s.avsTick_frame m.vdd).regs ix sub hsub hread]

theorem State.tickBlocks_readback : (s.tickBlocks m).reg Ob.COMPASS_AVS_READBACK_MV 0 = (min 65535 m.vdd : Nat) := by
  have hfabric : Frame tickFields BlockObj (s.avsTick m.vdd) (s.fabricTaken m) := (frame_fabricTick tickFields_spec allowsTick_blockObj).mpr .refl
  rw [(s.tickBlocks_frame m).regs _ _ (by decide) (fun hne => hne (by decide)), s.pacesTaken_reg m _ _ (by decide) (by decide),
    hfabric.regs _ _ (by decide) (fun hne => hne (by decide)), State.avsTick_readback]

theorem State.tickBlocks_speed (h : Fin 2) : (s.tickBlocks m).reg Ob.TIC_POOL_SPEED (h.val + 1) =
    (min 65535 (if 4 ≤ (s.tickBlocks m).throttle then m.pool[h] * 6 / 8 else m.pool[h]) : Nat) := by
  have hstep : (s.tickBlocks m).throttle = (s.pacesTaken m).throttle := by
    unfold State.throttle State.nat
    rw [(s.tickBlocks_frame m).regs _ _ (by decide) (fun hne => hne (by decide))]
  rw [hstep, (s.tickBlocks_frame m).regs _ _ (by omega) (fun hne => hne (by decide)), State.pacesTaken_speed]

theorem State.tickBlocks_fields : Frame tickFields (fun _ _ => True) s (s.tickBlocks m) :=
  (s.pacesTaken_frame m).trans ((s.tickBlocks_frame m).mono fun _ _ _ => trivial)

/-! ## The tick of AON -/

/-- The state whose rate limits begin anew (R458). -/
def State.limitsBegun : State := { s with lookout := { s.lookout with given := [] } }

theorem State.tickAon_eq : s.tickAon m = s.limitsBegun.thermalTick m.monitors := rfl

theorem State.tickAon_reg (ix sub : Nat) (hsub : sub < 256) (h : ix ∈ tickAonKept) :
    (s.tickAon m).reg ix sub = (s.limitsBegun.tjTaken m.monitors).reg ix sub :=
  (s.limitsBegun.thermalTick_frame m.monitors).regs ix sub hsub fun hne => hne h

/-- AON's part of a tick leaves what its readings and THERMAL.TJ do not take. -/
theorem State.tickAon_kept (ix sub : Nat) (hsub : sub < 256) (h : ix ∈ [Ob.COMPASS_AVS_READBACK_MV, Ob.DICT_STATE, Ob.THERMAL_AUTOCLEAR]) :
    (s.tickAon m).reg ix sub = s.reg ix sub := by
  rw [s.tickAon_reg m ix sub hsub ((by decide : ∀ ix ∈ [Ob.COMPASS_AVS_READBACK_MV, Ob.DICT_STATE, Ob.THERMAL_AUTOCLEAR], ix ∈ tickAonKept) ix h),
    State.tjTaken_reg _ _ _ _ hsub ((by decide : ∀ ix ∈ [Ob.COMPASS_AVS_READBACK_MV, Ob.DICT_STATE, Ob.THERMAL_AUTOCLEAR],
      ix ∉ [Ob.THERMAL_TJ, Ob.THERMAL_TJ_PEAK]) ix h),
    State.monTick_reg _ _ _ _ hsub ((by decide : ∀ ix ∈ [Ob.COMPASS_AVS_READBACK_MV, Ob.DICT_STATE, Ob.THERMAL_AUTOCLEAR],
      ix ∉ [Ob.THERMAL_MON, Ob.THERMAL_MON_FAIL, Ob.THERMAL_EVENTS, Ob.TEST_CAP_STATE, Ob.TEST_CAP_TRIG_STAMP, Ob.FAULT_LOG_DROPPED]) ix h)]
  rfl

theorem State.tickAon_mon (k : Fin 32) :
    (s.tickAon m).reg Ob.THERMAL_MON (k.val + 1) = (s.limitsBegun.monTick m.monitors).reg Ob.THERMAL_MON (k.val + 1) := by
  rw [s.tickAon_reg m _ _ (by omega) (by decide), State.tjTaken_reg _ _ _ _ (by omega) (by decide)]

theorem State.tickAon_tj : (s.tickAon m).reg Ob.THERMAL_TJ 0 = (s.limitsBegun.monTick m.monitors).tjNow := by
  rw [s.tickAon_reg m _ _ (by decide) (by decide), State.tjTaken_tj]

theorem State.tickAon_peak : (s.tickAon m).reg Ob.THERMAL_TJ_PEAK 0 = max (s.reg Ob.THERMAL_TJ_PEAK 0) ((s.tickAon m).reg Ob.THERMAL_TJ 0) := by
  rw [s.tickAon_tj, s.tickAon_reg m _ _ (by decide) (by decide), State.tjTaken_peak]
  rfl

theorem State.tickAon_fields : Frame tickFields (fun _ _ => True) s (s.tickAon m) := by
  have hbegun : Frame tickFields (fun _ _ => True) s s.limitsBegun := (frame_with_lookout rfl).mpr .refl
  exact (hbegun.trans (s.limitsBegun.tjTaken_frame m.monitors)).trans ((s.limitsBegun.thermalTick_frame m.monitors).mono fun _ _ _ => trivial)

end

/-! ## The statement -/

/-- Settles O51: AON's part takes the readings and THERMAL.TJ, and no later step of a tick writes them, the readback, the pools'
speeds or the throttle step. -/
theorem tickReadsTemperatureAndSupply : Obligations.TickReadsTemperatureAndSupply := by
  unfold Obligations.TickReadsTemperatureAndSupply
  refine ⟨?live, ?safe, ?unpowered⟩
  case live =>
    intro s m hpowered hstate
    have hdict : (s.tickAon m).reg Ob.DICT_STATE 0 ≠ 3 := by rwa [s.tickAon_kept m _ _ (by decide) (by decide)]
    have hexec : exec (.tick m) s = .next ((s.tickAon m).tickBlocks m) := (if_neg (by simp [hpowered])).trans (if_neg hdict)
    have hshut : s.limitsBegun.inShutdown = false := by
      have h : s.limitsBegun.reg Ob.DICT_STATE 0 ≠ 3 := hstate
      simp [State.inShutdown, h]
    have hfields := (s.tickAon_fields m).trans ((s.tickAon m).tickBlocks_fields m)
    have hmon : ∀ k : Fin 32, ((s.tickAon m).tickBlocks m).reg Ob.THERMAL_MON (k.val + 1) =
        (s.limitsBegun.monTick m.monitors).reg Ob.THERMAL_MON (k.val + 1) := fun k => by
      rw [State.tickBlocks_temperature _ _ _ _ (by omega) (by decide), s.tickAon_mon]
    refine ⟨_, hexec, fun k v hfailed hread hjudge hraw => ?_, fun k hnone => ?_, ?_, ?_, State.tickBlocks_readback _ _, State.tickBlocks_speed _ _,
      hfields.view State.time fun _ _ => rfl, hfields.view State.fuse fun _ _ => rfl, hfields.view State.flash fun _ _ => rfl⟩
    · rw [hmon]
      exact s.limitsBegun.monTick_sound m.monitors hfailed hread hjudge hraw
    · rw [hmon]
      exact s.limitsBegun.monTick_none m.monitors hnone
    · simp only [hmon]
      rw [State.tickBlocks_temperature _ _ _ _ (by decide) (by decide), s.tickAon_tj, State.tjNow_monTick, hshut, if_neg (by decide)]
      rfl
    · rw [State.tickBlocks_temperature _ _ _ _ (by decide) (by decide), State.tickBlocks_temperature _ _ _ _ (by decide) (by decide), s.tickAon_peak]
  case safe =>
    intro s m hpowered hstate hauto
    have hdict : (s.tickAon m).reg Ob.DICT_STATE 0 = 3 := by rwa [s.tickAon_kept m _ _ (by decide) (by decide)]
    have hoff : (s.tickAon m).flag Ob.THERMAL_AUTOCLEAR 0 = false := by
      rw [State.flag, s.tickAon_kept m _ _ (by decide) (by decide), hauto]
      rfl
    have hexec : exec (.tick m) s = .next (s.tickAon m) := by
      refine (if_neg (by simp [hpowered])).trans ((if_pos hdict).trans ?_)
      unfold State.autoclear
      rw [if_neg (by simp [hoff])]
    have hfields := s.tickAon_fields m
    refine ⟨_, hexec, hdict, fun hcause => ?_, s.tickAon_kept m _ _ (by decide) (by decide),
      hfields.view State.time fun _ _ => rfl, hfields.view State.fuse fun _ _ => rfl, hfields.view State.flash fun _ _ => rfl⟩
    have hshut : s.limitsBegun.inShutdown = true := by
      have h3 : s.limitsBegun.reg Ob.DICT_STATE 0 = 3 := hstate
      have hc : s.limitsBegun.reg Ob.FAULT_SAFE_CAUSE 0 = 3 := hcause
      simp [State.inShutdown, h3, hc]
    refine ⟨?_, s.limitsBegun.thermalTick_shutdown m.monitors hshut⟩
    rw [s.tickAon_tj, State.tjNow_monTick, if_pos hshut]
    rfl
  case unpowered =>
    intro s m hpowered
    exact if_pos hpowered

end Sys2Proof.Machine
